-- ==== Sys2Proof/Word.lean ====
section
/-! DEFINITION. The word types of the engine's register space, command packets and records (R6, R7). -/

namespace Sys2Proof

/-- A register word: registers are 32 bits wide (00_scope, "Registers"). -/
abbrev Word := BitVec 32

/-- A byte of a packet, record or image. -/
abbrev Byte := BitVec 8

end Sys2Proof
end

