-- ==== Sys2Proof/Machine/Bits.lean ====
section
/-! DEFINITION. Bit-field, byte-order, saturating and modular helpers used by every unit (R6, R7). -/

namespace Sys2Proof.Machine

/-- One more, in a count of `w` bits that saturates ("counts saturate", e.g. R241, R388, R437). -/
def satInc (w n : Nat) : Nat := if n + 1 < 2 ^ w then n + 1 else 2 ^ w - 1

/-- `k` more, in a count of `w` bits that saturates. -/
def satAdd (w n k : Nat) : Nat := if n + k < 2 ^ w then n + k else 2 ^ w - 1

/-- One more, modulo 2^w (R129 epoch, R393 SEQ). -/
def wrapInc (w n : Nat) : Nat := (n + 1) % 2 ^ w

/-- Bit `i` of `v` set to `b`, every other bit kept. -/
def setB {w : Nat} (v : BitVec w) (i : Nat) (b : Bool) : BitVec w :=
  if b then v ||| (1#w <<< i) else v &&& ~~~(1#w <<< i)

/-- A Boolean as the number 0 or 1. -/
def b2n (b : Bool) : Nat := if b then 1 else 0

/-- The `n` low bytes of a number, little-endian (R6). -/
def leBytes : Nat → Nat → List Byte
  | 0, _ => []
  | n + 1, v => BitVec.ofNat 8 v :: leBytes n (v / 256)

/-- The number that a little-endian byte list holds (R6). -/
def leNat : List Byte → Nat
  | [] => 0
  | b :: bs => b.toNat + 256 * leNat bs

/-- `n` bytes of `bs` from offset `o`. -/
def bytesAt (bs : List Byte) (o n : Nat) : List Byte := (bs.drop o).take n

/-- The little-endian number in `n` bytes at offset `o` (R6). -/
def leAt (bs : List Byte) (o n : Nat) : Nat := leNat (bytesAt bs o n)

/-- `n` zero bytes (reserved fields). -/
def zeros (n : Nat) : List Byte := List.replicate n 0#8

/-- Byte lists cut or zero-padded to exactly `n` bytes. -/
def padTo (n : Nat) (bs : List Byte) : List Byte := (bs ++ zeros n).take n

/-- A signed number of `w` bits from its two's-complement pattern. -/
def sgn (w n : Nat) : Int := if n % 2 ^ w < 2 ^ (w - 1) then (n % 2 ^ w : Nat) else (n % 2 ^ w : Nat) - (2 ^ w : Nat)

/-- The two's-complement pattern of a signed number in `w` bits. -/
def unsgn (w : Nat) (i : Int) : Nat := (i % (2 ^ w : Nat)).toNat

/-- A field of `w` bits at bit `lsb` of a register word being composed. -/
def fld (lsb w v : Nat) : Nat := (v % 2 ^ w) * 2 ^ lsb

/-- Bits `lsb+w-1 : lsb` of a number. -/
def getFld (v lsb w : Nat) : Nat := (v / 2 ^ lsb) % 2 ^ w

/-- A mask of the set of numbers below `n` at which `p` holds. -/
def maskOf (n : Nat) (p : Nat → Bool) : Nat := (List.range n).foldl (fun a i => a + b2n (p i) * 2 ^ i) 0

/-- CRC-32 step over one bit (IEEE 802.3, reflected form 0xEDB8_8320; R393, R504, R585). -/
def crc32Bit (c : BitVec 32) : BitVec 32 :=
  if c.getLsbD 0 then (c >>> 1) ^^^ 0xEDB88320#32 else c >>> 1

/-- CRC-32 step over one byte. -/
def crc32Byte (c : BitVec 32) (b : Byte) : BitVec 32 :=
  (List.range 8).foldl (fun a _ => crc32Bit a) (c ^^^ b.setWidth 32)

/-- CRC-32 (IEEE 802.3) of a byte list. -/
def crc32 (bs : List Byte) : BitVec 32 := ~~~(bs.foldl crc32Byte 0xFFFFFFFF#32)

/-- CRC-16/CCITT step over one bit, polynomial 0x1021 (R411). -/
def crc16Bit (c : BitVec 16) : BitVec 16 :=
  if c.getLsbD 15 then (c <<< 1) ^^^ 0x1021#16 else c <<< 1

/-- CRC-16/CCITT, initial value 0xFFFF, no reflection, no final XOR (R411). -/
def crc16 (bs : List Byte) : BitVec 16 :=
  bs.foldl (fun c b => (List.range 8).foldl (fun a _ => crc16Bit a) (c ^^^ (BitVec.setWidth 16 b <<< (8 : Nat)))) 0xFFFF#16

/-- The first element of `l` at which `p` holds, replaced by its image. -/
def updFirst {α : Type} (p : α → Bool) (f : α → α) : List α → List α
  | [] => []
  | x :: xs => if p x then f x :: xs else x :: updFirst p f xs

/-- Every element of `l` at which `p` holds, replaced by its image. -/
def updAll {α : Type} (p : α → Bool) (f : α → α) (l : List α) : List α :=
  l.map (fun x => if p x then f x else x)

/-- Element `i` of a list replaced; a shorter list is filled up to it. -/
def padSet {α : Type} [Inhabited α] : List α → Nat → α → List α
  | [], 0, v => [v]
  | [], i + 1, v => default :: padSet [] i v
  | _ :: xs, 0, v => v :: xs
  | x :: xs, i + 1, v => x :: padSet xs i v

/-- Element `i` of a file of `n` registers replaced; a number outside the file names none. -/
def putAt {α : Type} [Inhabited α] (n : Nat) (l : List α) (i : Nat) (v : α) : List α := if i < n then padSet l i v else l

/-- `base` with `bs` written over it from offset `o`. -/
def overlay (base : List Byte) (w : Nat × List Byte) : List Byte :=
  base.take w.1 ++ w.2 ++ base.drop (w.1 + w.2.length)

/-- `n` bytes put together from writes, oldest first; bytes never written are 0. -/
def assemble (ws : List (Nat × List Byte)) (n : Nat) : List Byte := ws.foldl overlay (zeros n)

/-- Every byte below `n` has been written. -/
def covered (ws : List (Nat × List Byte)) (n : Nat) : Bool :=
  (List.range n).all (fun i => ws.any (fun w => decide (w.1 ≤ i) && decide (i < w.1 + w.2.length)))

end Sys2Proof.Machine
end

