-- ==== Sys2Proof/Machine/Mem.lean ====
section
/-! DEFINITION. Sparse addressed storage in one canonical form: keys strictly rising, no entry equal to 0, which
is what an unlisted key reads as. Used for the logic engine's operand spaces (R349), images and tables. -/

namespace Sys2Proof.Machine

/-- Sparse storage: (key, value) pairs. -/
abbrev SMap := List (Nat × Nat)

/-- What key `k` holds; an unlisted key reads 0. -/
def smGet : SMap → Nat → Nat
  | [], _ => 0
  | (k, v) :: m, a => if k = a then v else smGet m a

/-- `m` with key `a` holding `v`; writing 0 removes the entry. -/
def smSet : SMap → Nat → Nat → SMap
  | [], a, v => if v = 0 then [] else [(a, v)]
  | (k, w) :: m, a, v =>
    if a < k then (if v = 0 then (k, w) :: m else (a, v) :: (k, w) :: m)
    else if a = k then (if v = 0 then m else (a, v) :: m)
    else (k, w) :: smSet m a v

/-- Every key of `m` lies above `lo`, keys rise strictly and no value is 0. -/
def smAbove : Nat → SMap → Bool
  | _, [] => true
  | lo, (k, v) :: m => decide (lo ≤ k) && decide (v ≠ 0) && smAbove (k + 1) m

/-- The canonical form. -/
def smWf (m : SMap) : Bool := smAbove 0 m

/-- Bit `a` of a bit area. -/
def smBit (m : SMap) (a : Nat) : Bool := decide (smGet m a % 2 = 1)

/-- A bit area with bit `a` set to `b`. -/
def smSetBit (m : SMap) (a : Nat) (b : Bool) : SMap := smSet m a (b2n b)

end Sys2Proof.Machine
end

