-- ==== Sys2Proof/Types.lean ====
section
/-! DEFINITION. Plain data shared by the commands' operands and the state: ordering codes, packet statuses,
requests, the parsed form of a scheme image. -/

namespace Sys2Proof

/-- Ordering codes (R1, R91). -/
inductive Code where
  | x | l | e
  deriving DecidableEq, Repr, Inhabited

/-- Packet statuses (R586). -/
inductive Status where
  | ok | busy | badOpcode | badLength | badCrc | denied | badState | absent | range | sigFail
  | creditOverrun | frozen | conflict
  deriving DecidableEq, Repr, Inhabited

/-- The code of a packet status (R586). -/
def Status.toNat : Status → Nat
  | .ok => 0 | .busy => 1 | .badOpcode => 2 | .badLength => 3 | .badCrc => 4 | .denied => 5 | .badState => 6
  | .absent => 7 | .range => 8 | .sigFail => 9 | .creditOverrun => 10 | .frozen => 11 | .conflict => 12

/-- The transports of command packets (R604 HPI_SESSn.TRANSPORT). -/
inductive Transport where
  | hpi | net | uart
  deriving DecidableEq, Repr, Inhabited

/-- The part of a request's header that a command's meaning uses (R585): where it came from, its session and its
tag. A request whose session number is 0 carries no session. -/
structure Req where
  transport : Transport
  session : Nat
  tag : Nat
  deriving DecidableEq, Repr, Inhabited

/-- One parameter record of a scheme image (R102). -/
structure Param where
  pid : Nat
  index : Nat
  value : List Byte
  deriving DecidableEq, Repr, Inhabited

/-- One entry of the channels section (R104). -/
structure ChanEntry where
  channel : Nat
  source : Nat
  input : Nat
  svIndex : Nat
  quantity : Nat
  terminal : Nat
  filter : Nat
  invert : Bool
  scale : Nat
  nominal : Nat
  ovrCount : Nat
  deriving DecidableEq, Repr, Inhabited

/-- The op types of the graph's nodes (R242, R269). -/
inductive OpType where
  | tracker | phasor | sequence | impedance | power | energy | harmonic | pmu | harmonic63 | svInterp
  | overcurrent | directional | distance | loadEncroachment | swingBlock | incDistance | voltage | frequency
  | synchrocheck | breakerFailure | switchOntoFault | twDirectional | tripAssembly | closing | readout | job | other
  deriving DecidableEq, Repr, Inhabited

/-- Where an output of a node goes in the P space: a bit address, or a word address (R268, R350). -/
inductive PDest where
  | bit (addr : Nat)
  | word (addr : Nat)
  | none
  deriving DecidableEq, Repr, Inhabited

/-- One node of the graph section (R105, R210). `outs` gives each output port's output identifier, its unit (R244) and
its place in the P space. `chans` are the token channels that the node's estimators read: VA, VB, VC, IA, IB, IC, IN for
a protection element, 255 where there is none. `variant` is, for a phasor estimator, 0 full cycle, 1 half cycle, 2
cosine (R248); for a distance element, 1 when it is zone 1 (R287); for an instant node (R211), its stream; for the harmonic
analysis, 1 when the image starts it for every 200 ms window (R254). -/
structure Node where
  num : Nat
  op : OpType
  inst : Nat
  band : Nat
  flow : Nat
  stateful : Bool
  instant : Bool
  jobEntry : Option Nat
  terminal : Nat
  chans : List Nat
  indegree : Nat
  declared : Nat
  ctxLen : Nat
  cores : List Nat
  affinity : Nat
  maxDelays : Nat
  variant : Nat
  outs : List (Nat × Nat × PDest)
  deriving DecidableEq, Repr, Inhabited

/-- One edge of the graph section (R210). -/
structure Edge where
  src : Nat
  srcPort : Nat
  dst : Nat
  dstPort : Nat
  deriving DecidableEq, Repr, Inhabited

/-- The graph section as the engine reads it (R105): nodes, edges, which P bits and words the graph and the logic
engine write, the element reset bits of R225 (bit, node), the PMU triggers of R262 (stream, P bit, first bit of the
reason nibble), and the library version it was compiled against (R106). -/
structure GraphSec where
  library : Nat
  nodes : List Node
  edges : List Edge
  graphBits : List Nat
  graphWords : List Nat
  logicBits : List Nat
  logicWords : List Nat
  resets : List (Nat × Nat)
  pmuTrig : List (Nat × Nat × Nat)
  deriving DecidableEq, Repr, Inhabited

/-- The budget section (R105, R215, R219, R229): D0, the declared cycles of each band (P0 per descriptor, the others per
wave), the declared peaks. -/
structure BudgetSec where
  d0 : Nat
  p0Cycles : Nat
  p1Cycles : Nat
  p2Cycles : Nat
  p3Cycles : Nat
  inflight : Nat
  readyPeak : Option Nat
  fineDelays : Nat
  coarseDelays : Nat
  deriving DecidableEq, Repr, Inhabited

/-- A trigger source of an event task (R363): type, index and, for type 1, which edge (1 rising, 2 falling, 3 either). -/
structure TaskTrig where
  kind : Nat
  index : Nat
  edge : Nat
  deriving DecidableEq, Repr, Inhabited

/-- One task of the logic section (R362 to R364, R372). Tasks 0 to 7 are CT0 to CT7, 8 to 23 are ET0 to ET15.
`qWords` are the Q words its code writes. -/
structure TaskCfg where
  task : Nat
  prio : Nat
  entry : Nat
  period : Nat
  phase : Nat
  tolPct : Nat
  maxUs : Nat
  qWords : List Nat
  trigs : List TaskTrig
  deriving DecidableEq, Repr, Inhabited

/-- A timer of the logic section (R357, R382): number, instance identifier, time base in ns, initial preset. -/
structure TimerCfg where
  n : Nat
  id : Nat
  baseNs : Nat
  preset : Nat
  deriving DecidableEq, Repr, Inhabited

/-- A counter of the logic section (R359, R382). -/
structure CounterCfg where
  n : Nat
  id : Nat
  preset : Nat
  deriving DecidableEq, Repr, Inhabited

/-- The logic section (R105, R348 to R364): program, tasks, instances, initial values as (space code, word?, address,
value), the addresses a new section marks for initialisation (R382), and the retain-incomplete setting (R87). -/
structure LogicSec where
  program : List Word
  tasks : List TaskCfg
  timers : List TimerCfg
  counters : List CounterCfg
  edges : List (Nat × Nat)
  init : List (Nat × Bool × Nat × Nat)
  markInit : List (Nat × Bool × Nat)
  retainInc : Nat
  digest : Nat
  deriving DecidableEq, Repr, Inhabited

/-- A scheme image after parsing (R99 to R109): header fields, the section types present with their bytes, the
channels, the Jibel-generated sections and the parameter records. `watermark` is bytes 48 to 55 of the header. -/
structure Image where
  variants : Nat
  declClass : Nat
  factory : Bool
  units : Nat
  minFw : Nat
  version : Nat
  digest : List Byte
  sections : List (Nat × List Byte)
  chans : List ChanEntry
  graph : Option GraphSec
  budget : Option BudgetSec
  logic : Option LogicSec
  params : List Param
  signer : Nat
  keyId : List Byte
  deriving DecidableEq, Repr, Inhabited

/-- The 28-byte value of a launch entry (PID 0x0A10, R105) as fields; instants are TD1 times in ns. -/
structure LaunchVal where
  instant : Nat
  period : Nat
  action : Nat
  target : Nat
  deriving DecidableEq, Repr, Inhabited

/-- What one slice's decimators give for a wave (R171, R180, R186): the outputs of the three filters, before the slice's
corrections, in 1/256 code. -/
structure RawSample where
  prot : Int
  wide : Int
  narrow : Int
  deriving DecidableEq, Repr, Inhabited

/-- The slices' decimator outputs for a wave, by slice, and the slices of which a conversion exceeded ±4.0 V or that
saturated (R171, R186). -/
abbrev Slices := List RawSample × BitVec 32

/-- A frame that arrives at a port (R562 to R565): the port, addresses, the PRP or HSR sequence number if it carries one,
what it is (1 PTP, 2 GOOSE, 3 remote I/O, 4 SV, 5 ARP, 6 ICMP, 7 TCP, 8 PMU command, 9 TW exchange, 10 supervision, 0
other), whether it is an IP fragment, whether its FCS is good, its length, and whether the port's receive queue has
room for it (R27). -/
structure NetFrame where
  port : Nat
  dst : Nat
  src : Nat
  seq : Option Nat
  kind : Nat
  frag : Bool
  good : Bool
  room : Bool
  deriving DecidableEq, Repr, Inhabited

/-- One member of a received GOOSE dataset: its type as PID 0x0911 numbers it, and its value. -/
structure GooseMember where
  type : Nat
  val : Nat
  deriving DecidableEq, Repr, Inhabited

/-- A GOOSE frame as received (R571 to R573): port, addresses, APPID, the references, numbers, flags, members, the
TD1 stamp of its arrival in ns. -/
structure GooseFrame where
  port : Nat
  dst : Nat
  appid : Nat
  ref : List Byte
  dat : List Byte
  confRev : Nat
  nds : Bool
  test : Bool
  sim : Bool
  st : Nat
  sq : Nat
  ttl : Nat
  t1 : Nat
  vals : List GooseMember
  deriving DecidableEq, Repr, Inhabited

/-- A message of the PTP engine (R134): its type, sequence number and domain. -/
structure PtpMsg where
  msgType : Nat
  seq : Nat
  dom : Nat
  deriving DecidableEq, Repr, Inhabited

/-- An IRIG-B frame as received (R137): its format (0, 4, 6 or 7), whether its parity is valid, the accuracy class that its
time quality bounds, the two digits of its year, local offset in minutes, and leap second pending (0 none, 1 +1 s, 2 -1 s). -/
structure IrigFrame where
  format : Nat
  parityOk : Bool
  quality : Nat
  year : Nat
  ofs : Int
  leap : Nat
  deriving DecidableEq, Repr, Inhabited

/-- A sampled-value frame as received (R196 to R199, R574): addresses and identity, its ASDUs, whether its dataset has the
profile's length, the smpCnt of its first ASDU, SmpSynch, the simulation bit, and per ASDU its eight values, each with its
quality: bits 1:0 validity, 2 overflow, 3 test, 4 source substituted. -/
structure SvFrame where
  dst : Nat
  appid : Nat
  svId : List Byte
  confRev : Nat
  asdus : Nat
  lenOk : Bool
  smpCnt : Nat
  synch : Nat
  sim : Bool
  vals : List (List (Int × Nat))
  deriving DecidableEq, Repr, Inhabited

/-- What a TLS client handshake presents (R618, R619): whether its signatures verify up to the anchor, the anchor's
public key, the validity in TD1 seconds, and the IEC 62351-8 roles of the certificate coded as in SESSION_OPEN. -/
structure TlsClient where
  sigOk : Bool
  anchor : List Byte
  notBefore : Nat
  notAfter : Nat
  roles : Nat
  deriving DecidableEq, Repr, Inhabited

/-- A firmware manifest as read from a slot's bytes (R608): version, SVN, CERTIFIED flag, root public key, the bytes
signed and the signature, and whether every listed image has its digest. -/
structure Manifest where
  version : Nat
  svn : Nat
  certified : Bool
  rootKey : List Byte
  signed : List Byte
  signature : List Byte
  digestsOk : Bool
  deriving DecidableEq, Repr, Inhabited

end Sys2Proof
end

