-- ==== Sys2Proof/Machine/StTime.lean ====
section
/-! DEFINITION. State of the grid time unit (05) and of acquisition (06) and the travelling-wave front-end (10). -/

namespace Sys2Proof.Machine

/-- The state part of a time-quality byte (R14). -/
inductive TQState where
  | locked | glide | free | never
  deriving DecidableEq, Repr, Inhabited

/-- One time domain (R125 to R130). Times are counts of 2^-40 ns. -/
structure Domain where
  /-- w:48+30+40 R125 reset:0 | the counter, in units of 2^-40 ns -/
  t : Nat
  /-- w:48 R125,R169 reset:2^42 (4.0 ns) | base increment, units of 2^-40 ns -/
  inc : Nat
  /-- w:32 R167,R168 reset:0 | TB_INCn_LO: as written, not committed before TB_INCn_HI is written; follows the increment -/
  incLo : Nat
  /-- w:48 R128,R169 reset:2^42 | slew increment -/
  slew : Nat
  /-- w:32 R167,R168 reset:0 | TB_SLEWn_LO: as written, not committed before TB_SLEWn_HI is written; follows the slew -/
  slewLo : Nat
  /-- w:32 R168 reset:0 | TB_SLEWn_COUNT -/
  slewCount : Nat
  /-- w:32 R128 reset:0 | TB_SLEWn_LEFT, ticks of the slew in progress -/
  slewLeft : Nat
  /-- w:16 R129 reset:0 | epoch -/
  epoch : Nat
  /-- w:2 R14,R168 reset:free in TD0, never in the others | quality state -/
  qst : TQState
  /-- w:4 R14 reset:15 | accuracy class -/
  cls : Nat
  /-- w:118 R131 reset:0 | latched time, units of 2^-40 ns -/
  cap : Nat
  /-- w:8 R131 reset:DESIGN CHOICE 0 (log entry 3) | latched quality byte -/
  capQual : Nat
  /-- w:16 R131 reset:DESIGN CHOICE 0 (log entry 3) | latched epoch -/
  capEpoch : Nat
  deriving DecidableEq, Repr, Inhabited

/-- One entry of the servo capture queue (R133, R595). -/
structure CapEntry where
  source : Nat
  msgType : Nat
  seqId : Nat
  portId : List Byte
  t0 : Nat
  t1 : Nat
  t2 : Nat
  t3 : Nat
  deriving DecidableEq, Repr, Inhabited

/-- Owners of launch entries (R159). -/
inductive Owner where
  | image | logic | graph | command
  deriving DecidableEq, Repr, Inhabited

/-- One armed or once-armed launch entry (R159 to R164). -/
structure LaunchEntry where
  num : Nat
  owner : Owner
  armed : Bool
  val : LaunchVal
  next : Nat
  fired : Nat
  lastNs : Nat
  handed : Bool
  deriving DecidableEq, Repr, Inhabited

/-- Qualification state of one time source (R141): 1 PTP NET_A, 2 PTP NET_B, 3 PPS_IN, 4 IRIG_IN. -/
structure Source where
  /-- w:1 R168 reset:0 | TB_SRC_STAT.PRESENT -/
  present : Bool
  /-- w:1 R141 reset:0 | TB_SRC_STAT.QUALIFIED -/
  qualified : Bool
  /-- w:nat R141 reset:0 | consecutive good messages, edges or frames -/
  good : Nat
  /-- w:nat R141 reset:0 | consecutive missing or bad ones -/
  bad : Nat
  /-- w:nat R141 reset:0 | TD1 time of the last one -/
  last : Nat
  /-- w:64 R141 reset:0 | grandmaster identity -/
  gm : Nat
  /-- w:nat R141 reset:0 | TD0 time of the last Announce -/
  announce : Nat
  /-- w:nat R147 reset:0 | TD0 time of the last servo update taken from it -/
  lastUpd : Nat
  /-- w:1 R134,R141 reset:0 | peer delay valid -/
  peerDelay : Bool
  /-- w:4 R137 reset:0 | accuracy class that the source's own time quality bounds -/
  cls : Nat
  /-- w:nat R141 reset:0 | PTP: TD0 time of the last Sync -/
  sync : Nat
  /-- w:nat R141 reset:0 | PTP: the span between the last two Sync messages; 0 before two came -/
  syncInt : Nat
  /-- w:nat R141 reset:0 | PTP: the span between the last two Announce messages; 0 before two came -/
  annInt : Nat
  /-- w:nat R141 reset:0 | IRIG_IN: the UTC second that the last frame named -/
  lastSec : Nat
  deriving DecidableEq, Repr, Inhabited

/-- The sample grid (R151 to R156). -/
inductive GridSt where
  | aligned | slewing | jumpPending | unlocked
  deriving DecidableEq, Repr, Inhabited

/-- The grid time unit (R125 to R169). -/
structure TimeUnit where
  /-- w:domain R10 reset:see fields | TD0 -/
  d0 : Domain
  /-- w:domain R10 reset:see fields | TD1 -/
  d1 : Domain
  /-- w:domain R10 reset:see fields | TD2 -/
  d2 : Domain
  /-- w:domain R10 reset:see fields | TD3 -/
  d3 : Domain
  /-- w:4x48 R32,R169 reset:none | last increments of TD0 to TD3, of TD0 and TD1 the last locked ones; held in MRAM -/
  savedInc : Option (List Nat)
  /-- w:sources R141,R168 reset:all clear | the four sources, 1 to 4 -/
  src : List Source
  /-- w:3 R141,R168 reset:0 | active source, 0 none -/
  active : Nat
  /-- w:3 R136 reset:0 | source last active -/
  lastSrc : Nat
  /-- w:1 R143 reset:0 | TB_SRC_STAT.KICK_EXPIRED -/
  kickExpired : Bool
  /-- w:1 R143 reset:0 | the present count of 250 ms has fired -/
  kickFired : Bool
  /-- w:nat R143 reset:0 | TD0 time of the last kick, or of first protection -/
  kickAt : Nat
  /-- w:1 R143 reset:0 | the count of 250 ms has begun: a kick was written, or protection has run -/
  kickOn : Bool
  /-- w:2 each R136,R168 reset:0 | PTP role of NET_A and NET_B: 0 slave, 1 master, 2 passive -/
  ptpRole : List Nat
  /-- w:1 R145 reset:0 | TB_UTC_OFFSET.VALID -/
  utcValid : Bool
  /-- w:2 R145 reset:0 | TB_UTC_OFFSET.PENDING -/
  utcPending : Nat
  /-- w:16 R145 reset:0 | TB_UTC_OFFSET.OFFSET, two's complement -/
  utcOffset : Nat
  /-- w:2 R155,R168 reset:aligned | TB_SG_STAT.STATE -/
  grid : GridSt
  /-- w:1 R168 reset:0 | the sample clock loop has locked since power-up -/
  gridLock : Bool
  /-- w:32 R153,R167 reset:0 | TB_SG_OFFSET, held in units of 2^-40 ns, signed -/
  sgOffset : Int
  /-- w:1 R84 reset:0 | TD1 has been stepped since power-up -/
  stepped : Bool
  /-- w:nat R154 reset:0 | TD1 instant of the pending re-phase -/
  rephaseAt : Nat
  /-- w:list 64 R149 reset:empty | changes of R149's condition: (TD0, holds), newest first -/
  syncHist : List (Nat × Bool)
  /-- w:nat R127 reset:0 | offset TD2 still has to take by its slew, 2^-40 ns, signed -/
  td2Rem : Int
  /-- w:8 R127 reset:0 | rate of that slew, ppm -/
  td2Ppm : Nat
  /-- w:nat R147 reset:0 | learned ageing rate D, 10^-21 s/s2; held in MRAM -/
  ageing : Nat
  /-- w:nat R147 reset:0 | learned residual frequency uncertainty y_res, 10^-10, without its floor; held in MRAM -/
  yRes : Nat
  /-- w:nat R147 reset:none | mean TD1 base increment of the last learning; held in MRAM -/
  lastMean : Option Nat
  /-- w:nat R137 reset:none | last TD1 year while locked; held in MRAM -/
  lastYear : Option Nat
  /-- w:nat R147 reset:DESIGN CHOICE 0 (cal) | temperature coefficient c_T, 10^-12 s/s per K; held in MRAM -/
  tempCo : Nat
  /-- w:nat+nat R144 reset:0 | sum and count of the TD1 base increments written since the last TB_INC0 learning -/
  incMean : Nat × Nat
  /-- w:nat R155 reset:0 | SAMPLE_GRID_UNLOCK fired since the grid was last aligned, times -/
  gridUnlock : Nat
  /-- w:nat R154,R262 reset:none | waves released when the grid last re-phased or ended an alignment -/
  alignW : Option Nat
  /-- w:nat R18,R153 reset:0 | the grid's own slot count, in waves of 62.5 us -/
  slot : Nat
  /-- w:queue 64 R133 reset:empty | servo capture queue -/
  capQ : List CapEntry
  /-- w:32 R133 reset:0 | TB_TS_DROP -/
  tsDrop : Nat
  /-- w:nat R133 reset:none | TD0 second of the last TS_DROP event -/
  tsDropSec : Option Nat
  /-- w:32 R167 reset:0 | TB_STEP_LO -/
  stepLo : Nat
  /-- w:32 R167 reset:0 | TB_STEP_HI -/
  stepHi : Nat
  /-- w:16 R168 reset:0 | TB_STEP_CTL.FRAC -/
  stepFrac : Nat
  /-- w:1 R168 reset:0 | TB_STEP_CTL.DOMAIN -/
  stepDom : Nat
  /-- w:table 64 R159,R167 reset:empty | launch entries that have been armed -/
  launches : List LaunchEntry
  /-- w:1 R84 reset:0 | TD1 has left the never-locked state since start -/
  everLocked : Bool
  /-- w:nat R144 reset:0 | TD0 time of the last TB_INC0 learning -/
  learnAt : Nat
  /-- w:4 R147 reset:15 | class held at the last servo update (e_lock) -/
  lockCls : Nat
  /-- w:nat R262 reset:none | TD1 time at which the last lock was lost -/
  lockLostAt : Option Nat
  /-- w:1 R140 reset:0 | TD0 time at which PPS_OUT rose -/
  ppsRoseAt : Nat
  /-- w:nat MODEL reset:DESIGN CHOICE 0 | the model's own counter of free values read -/
  fresh : Nat
  deriving DecidableEq, Repr, Inhabited

/-- Statistics of one accumulator window (R193, R195). Instants are (second, index). -/
structure Window where
  start : Nat × Nat
  count : Nat
  excluded : Nat
  sum : Int
  sumsq : Nat
  qualOr : Nat
  min : Int
  minAt : Nat × Nat
  max : Int
  maxAt : Nat × Nat
  full : Bool
  deriving DecidableEq, Repr, Inhabited

/-- One token channel in acquisition (R182 to R195). -/
structure Chan where
  /-- w:24 R182 reset:0 | value of the last token -/
  val : Int
  /-- w:48+14 R182,R197 reset:0 | SEC and INDEX of the last token -/
  at_ : Nat × Nat
  /-- w:8 R183 reset:0x01 | quality byte of the last token -/
  qual : BitVec 8
  /-- w:nat R185 reset:0 | tokens still to be marked SETTLE -/
  settle : Nat
  /-- w:nat R186 reset:0 | consecutive tokens with OVERRANGE -/
  ovrRun : Nat
  /-- w:nat R186 reset:0 | consecutive tokens without OVERRANGE -/
  clearRun : Nat
  /-- w:1 R205 reset:0 | ACQ_OVR_STAT.FLAG -/
  ovrFlag : Bool
  /-- w:1 R205 reset:0 | ACQ_OVR_STAT.ACTIVE -/
  ovrActive : Bool
  /-- w:1 R183,R541 reset:0 | XCHK in force -/
  xchk : Bool
  /-- w:1 R176 reset:0 | mismatch resolution marks the input questionable -/
  resolving : Bool
  /-- w:windows R192 reset:none | windows in progress, kinds 0 to 3 -/
  win : List Window
  /-- w:windows R194 reset:none | last completed windows, kinds 0 to 2 -/
  done : List Window
  /-- w:2048 tokens R245,R248,R249,R292,R306,R334 reset:empty | the last tokens released, newest first: value and quality -/
  hist : List (Int × BitVec 8)
  deriving DecidableEq, Repr, Inhabited

/-- Phases of a rotation step (R172, R205). -/
inductive RotPhase where
  | cal | connect | parallel | disconnect | spareCheck | servingCheck
  deriving DecidableEq, Repr, Inhabited

/-- One sample of a subscribed stream (R197): TD1 second and smpCnt, its eight values with their qualities (as in
`SvFrame`), and the frame's simulation bit. -/
structure SvSample where
  sec : Nat
  n : Nat
  vals : List (Int × Nat)
  sim : Bool
  deriving DecidableEq, Repr, Inhabited

/-- One SV subscription stream (R196 to R199, R205). -/
structure SvStream where
  /-- w:2 R205 reset:0 | STATE: 0 not configured, 1 WAITING, 2 SETTLING, 3 RUNNING -/
  st : Nat
  /-- w:8 R205 reset:0 | SMPSYNCH -/
  smpSynch : Nat
  /-- w:nat R198 reset:0 | consecutive valid frames with SmpSynch 2 -/
  goodRun : Nat
  /-- w:nat R198 reset:0 | consecutive waves with late samples -/
  lateRun : Nat
  /-- w:32 R198 reset:0 | ACQ_SVv_LATE -/
  late : Nat
  /-- w:32 R198 reset:0 | ACQ_SVv_LOST -/
  lost : Nat
  /-- w:16 R197 reset:none | smpCnt of the last frame used -/
  smpCnt : Option Nat
  /-- w:2 R197,R205 reset:0 | RATE: 1 for 4 800 S/s, 2 for 14 400 S/s, by the frames received; 0 none yet -/
  rate : Nat
  /-- w:nat R185,R198 reset:0 | waves of SETTLING left -/
  settleLeft : Nat
  /-- w:list 192 R197 reset:empty | samples received, newest first, as far back as the longest lag needs them -/
  samples : List SvSample
  deriving DecidableEq, Repr, Inhabited

/-- One modal stream of the travelling-wave front-end (R312 to R320). -/
structure TwStream where
  /-- w:16+26 R316 reset:0 | noise floor, units of 2^-26 uV -/
  acc : Nat
  /-- w:1 R317 reset:0 | TW_NOISE_FLOOR in force -/
  noisy : Bool
  /-- w:1 R319 reset:1 | armed for detection -/
  armed : Bool
  /-- w:nat R316,R319 reset:none | TD0 time of the last arrival -/
  lastArr : Option Nat
  /-- w:nat R313 reset:none | TD0 time of the last rotation swap of an input of the stream -/
  swapAt : Option Nat
  /-- w:nat R317 reset:none | TD0 time since which the floor has been above its limit -/
  aboveAt : Option Nat
  /-- w:nat R317 reset:none | TD0 time since which the floor has been below 0.8 of its limit -/
  belowAt : Option Nat
  deriving DecidableEq, Repr, Inhabited

/-- An arrival descriptor or control descriptor (R322). Times are TD1 in 2^-40 ns, PEAK in 10^-6 of the primary unit. -/
structure Desc where
  seq : Nat
  term : Nat
  mode : Nat
  quantity : Nat
  kind : Nat
  pol : Int
  conf : Nat
  time : Nat
  tqual : Nat
  flags : Nat
  rise : Nat
  peak : Int
  vref : Int
  floor : Nat
  deriving DecidableEq, Repr, Inhabited

/-- A remote exchange message held for matching (R338, R339). -/
structure TwMsg where
  lineId : Nat
  terminal : Nat
  burstSeq : Nat
  part : Nat
  lead : Option Desc
  at0 : Nat
  deriving DecidableEq, Repr, Inhabited

/-- A burst on one terminal (R321, R322), and what its location needs (R331, R334): its arrivals, oldest first; whether
its first 200 ns still hold them back; its LEAD; the TD1 TIME of its first and last arrivals; whether its supervision
descriptor is out; the arrivals counted; the waves released when it opened; whether a velocity measurement takes it; the
TD0 instant at which it closed; and, once taken, the impedance estimate in mm, none where there was no valid loop. A burst
with no arrival stands for a trip, where impedance location runs alone (R346). -/
structure Burst where
  term : Nat
  arrivals : List Desc
  windowOpen : Bool
  lead : Option Desc
  openedAt : Nat
  lastTime : Nat
  supIssued : Bool
  count : Nat
  waves : Nat
  vm : Bool
  closedAt : Nat
  dz : Option (Option Int)
  job : Option Nat
  deriving DecidableEq, Repr, Inhabited

/-- An exchange message being sent (R339): its bytes, the TD0 instant of its assembly, and how often it has been sent. -/
structure TwSend where
  bytes : List Byte
  at0 : Nat
  done : Nat
  deriving DecidableEq, Repr, Inhabited

/-- Acquisition, headbox and travelling-wave front-end (R170 to R205, R312 to R346). -/
structure Acq where
  /-- w:16 channels R182 reset:see fields | the token channels -/
  ch : List Chan
  /-- w:17 R170,R205 reset:k (slice k serves PAIk) | slice serving PAI input k; 0x1F none -/
  serving : List Nat
  /-- w:5 R205 reset:16 (X, L), 8 (E) | spare slice, 0x1F none -/
  spare : Nat
  /-- w:2 R205 reset:0 | ACQ_ROT_STAT.STATE: 0 running, 1 resolving, 2 halted, 3 disabled -/
  rotState : Nat
  /-- w:4 R172,R205 reset:0 | input of the current step -/
  rotInput : Nat
  /-- w:3 R205 reset:cal | phase -/
  rotPhase : RotPhase
  /-- w:1 R175 reset:0 | the PARALLEL phase of the present step is void -/
  rotVoid : Bool
  /-- w:nat R175 reset:0 | consecutive void steps on the input -/
  voidRun : Nat
  /-- w:1 R172 reset:0 | a rotation step has begun since start -/
  rotStarted : Bool
  /-- w:5 R176 reset:0 | the slice that was spare when the resolution under way began -/
  resSpare : Nat
  /-- w:4x32 twice R176 reset:empty | reference-check residuals of the spare and of the serving slice -/
  resChecks : List Int × List Int
  /-- w:1 R192 reset:0 | cycle windows wait for the next TD1 second after a change of nominal frequency -/
  cycHold : Bool
  /-- w:17 R205 reset:0 | ACQ_SLICE_FAULT.REMOVED -/
  removed : BitVec 17
  /-- w:32 each R171,R205 reset:DESIGN CHOICE 0 (cal) | gain corrections, signed, 10^-9 -/
  gain : List Int
  /-- w:32 each R171,R205 reset:DESIGN CHOICE 0 (cal) | offset corrections, signed, 1/256 code -/
  ofs : List Int
  /-- w:32 R204 reset:0 | ACQ_QFULL_CNT -/
  qfull : Nat
  /-- w:32 R204 reset:0 | ACQ_VOID_CNT -/
  voidCnt : Nat
  /-- w:2 streams R205 reset:see fields | SV streams 0 and 1 -/
  sv : List SvStream
  /-- w:32 R19 reset:0 | number of the last wave released -/
  wave : Nat
  /-- w:nat R211 reset:0 | waves released since start -/
  waves : Nat
  /-- w:48+14 R187 reset:0 | TD1 second and sample index of the last wave -/
  waveAt : Nat × Nat
  /-- w:16 R187 reset:0 | DI image of the last wave -/
  di : BitVec 16
  /-- w:16 R187 reset:0 | DI validity of the last wave -/
  diValid : BitVec 16
  /-- w:16 R187,R190 reset:0 | AGREED of the last wave -/
  agreed : BitVec 16
  /-- w:8 R538 reset:0 | TD1 quality byte of the last wave as agreed -/
  tq : Nat
  /-- w:2 R175,R176 reset:0 | outcome of the mismatch resolution under way: (d_rms, lim) -/
  mismatch : Nat × Nat
  /-- w:64 R176,R203 reset:0 | slices removed since start -/
  removedCnt : Nat
  /-- w:requests R194 reset:empty | ACC_SNAP kind 3 requests waiting for the wave boundary, oldest first, with what
  each answers (none in a lane that took it from its partner) -/
  snapReqs : List (Option Req × Nat)
  /-- w:12 streams R312 reset:see fields | modal streams -/
  tw : List TwStream
  /-- w:queue 32 R27 reset:empty | arrival and control descriptors waiting to enter the graph -/
  twQ : List Desc
  /-- w:32 R345 reset:0 | ACQ_TW_DROP -/
  twDrop : Nat
  /-- w:nat R27 reset:none | TD0 second of the last TW_DESC_DROP event -/
  twDropSec : Option Nat
  /-- w:32 R345 reset:0 | ACQ_TW_SEQ -/
  twSeq : Nat
  /-- w:2 bursts R321 reset:none | open bursts of terminals A and B -/
  burst : List (Option Burst)
  /-- w:list R331 reset:empty | closed bursts that wait for their location, oldest first -/
  locQ : List Burst
  /-- w:nat R315 reset:DESIGN CHOICE 89088 (348 ns, cal) | calibrated delay to the pad, units of 1/256 ns -/
  twDelay : Nat
  /-- w:list R541 reset:empty | standby: own arrivals not yet matched: terminal, quantity and mode, TIME, waves released -/
  twOwn : List (Nat × Nat × Nat × Nat)
  /-- w:list R541 reset:empty | standby: agreed arrivals of the last waves, laid out as `twOwn` -/
  twGiven : List (Nat × Nat × Nat × Nat)
  /-- w:16 each R345 reset:0 | ACQ_TW_BURST counts -/
  burstCnt : List Nat
  /-- w:32 R345 reset:0xFFFFFFFF | ACQ_TW_LOC_DIST -/
  locDist : Nat
  /-- w:8 R345 reset:0 | RESULTS -/
  locResults : Nat
  /-- w:4 R345 reset:0 | CAUSE of the last 0x4011 -/
  locCause : Nat
  /-- w:2 R345 reset:0 | METHOD -/
  locMethod : Nat
  /-- w:1 R345 reset:0 | DEGRADED -/
  locDegraded : Bool
  /-- w:1 R345 reset:0 | TERMINAL of the result -/
  locTerm : Nat
  /-- w:32 R345 reset:0 | ACQ_TW_VEL -/
  vel : Nat
  /-- w:2 R345 reset:0 | ACQ_TW_VMEAS.STATE -/
  vmState : Nat
  /-- w:1 R345 reset:0 | ACQ_TW_VMEAS.TERMINAL -/
  vmTerm : Nat
  /-- w:nat R337 reset:0 | TD0 time of arming -/
  vmAt : Nat
  /-- w:32 R345 reset:0 | ACQ_TW_MSG_RX -/
  msgRx : Nat
  /-- w:32 R345 reset:0 | ACQ_TW_MSG_REJ -/
  msgRej : Nat
  /-- w:list R339 reset:empty | accepted exchange messages held for matching -/
  msgs : List TwMsg
  /-- w:32 R338 reset:0 | MSG_SEQ of the last message sent -/
  msgSeq : Nat
  /-- w:list R339 reset:empty | messages being sent -/
  msgSend : List TwSend
  /-- w:list R541 reset:empty | standby: messages received itself: LINE_ID, TERMINAL, BURST_SEQ, PART -/
  msgOwn : List (Nat × Nat × Nat × Nat)
  /-- w:nat R314 reset:0 | high-rate blocks written to the ring -/
  hrBlocks : Nat
  /-- w:8 each R314 reset:0 | quality bytes of the last high-rate block per input -/
  hrQual : List (BitVec 8)
  deriving DecidableEq, Repr, Inhabited

end Sys2Proof.Machine
end

