-- ==== Sys2Proof/Machine/StGraph.lean ====
section
/-! DEFINITION. State of the operator array, the graph scheduler, the measurement operators, the protection
elements and the trip path (07, 08, 09). -/

namespace Sys2Proof.Machine

/-- What an instance was created for (R211): a wave, an arrival descriptor or a job. -/
inductive Key where
  | wave (n : Nat)
  | desc (seq : Nat)
  | job (id : Nat)
  deriving DecidableEq, Repr, Inhabited

/-- Where an instance is (R216 to R219): waiting for inputs, ready, in a core's prefetched or executing slot, retired,
released in its flow. -/
inductive InstSt where
  | waiting | ready | prefetched (core : Nat) | executing (core : Nat) | retired | released
  deriving DecidableEq, Repr, Inhabited

/-- One output value of a node: a number (fp32 pattern, count or bit) and its quality byte (R243). -/
structure OutVal where
  port : Nat
  val : Nat
  qual : BitVec 8
  deriving DecidableEq, Repr, Inhabited

/-- One live instance (R210, R211, R225, R228). `born` and `born1` are the TD0 and TD1 instants of its creation, `step` the TD1
epoch then, `tok`
the waves released by then, `wave` the wave its outputs are tagged with (R214), `at_` the wave's TD1 second and sample
index, `di` and `diValid` the wave's DI image, `pBits`, `pQual` and `rowCmd` the P space's front copy and the trip commands
as they stood then (R220), `instant` the reporting instant of an instant node, `timers` the timer tokens delivered to it
(tag, TD0 tick), `voidMask` the input ports that were void, `inV` the least validities that its inputs impose (by token
channel, or 16 + terminal for its tracker), `mark` the validity that its own outputs impose (R231, R256; 0 none). -/
structure Inst where
  node : Nat
  key : Key
  flow : Nat
  band : Nat
  count : Nat
  voidMask : Nat
  epoch : Nat
  group : Nat
  st : InstSt
  void : Bool
  outs : List OutVal
  bytes : List Byte
  born : Nat
  born1 : Nat
  step : Nat
  execAt : Nat
  tok : Nat
  wave : Nat
  at_ : Nat × Nat
  di : Nat
  diValid : Nat
  pBits : SMap
  pQual : SMap
  rowCmd : Nat
  inV : List (Nat × Nat)
  mark : Nat
  instant : Nat
  desc : Option Desc
  timers : List (Nat × Nat)
  deriving DecidableEq, Repr, Inhabited

/-- A delay-list entry (R221). -/
structure Delay where
  node : Nat
  tag : Nat
  epoch : Nat
  tick : Nat
  coarse : Bool
  deriving DecidableEq, Repr, Inhabited

/-- One timer of an element (R273): which of its timers it is, the tag of its delay entry, the TD0 instant at which it
started, and whether its firing has been received. -/
structure ETimer where
  kind : Nat
  tag : Nat
  at_ : Nat
  fired : Bool
  deriving DecidableEq, Repr, Inhabited

/-- One output of a tracker (R245 to R247): the waves released, the frequency in uHz, the quality, the source (0 none,
1 voltage, 2 current), the ROCOF in uHz/s. -/
structure Track where
  tok : Nat
  hz : Nat
  qual : Nat
  src : Nat
  rocof : Int
  deriving DecidableEq, Repr, Inhabited

/-- The context of an element or tracker between waves (R245, R270 to R302, R326): one flat record that every family
uses. `start` and `oper` are its phases or loops in START and OPERATE, `pickup` its pickup state (R645), `acc` the
accumulator G in units of 10^-18, `kept` an elapsed time held by reset mode 1, `cnt`, `cntH` and `cntO` runs of waves
per loop (inside, inside on the half cycle, outside), `inv` runs of invalid waves per phase or loop, `invAll` the run
of waves with no valid input, `aux` and `log` the quantities a family keeps, `track` a tracker's last outputs, newest
first, or those of a power-swing or directional element as a mask in `src`. -/
structure Elem where
  node : Nat
  inst : Nat
  start : Nat
  oper : Nat
  started : Bool
  operated : Bool
  pickup : Bool
  acc : Nat
  kept : Nat
  cnt : List Nat
  cntH : List Nat
  cntO : List Nat
  inv : List Nat
  invAll : Nat
  timers : List ETimer
  tagNext : Nat
  aux : List Int
  log : List (List Int)
  track : List Track
  latch : Bool
  lockout : Bool
  since : Nat
  resetReq : Bool
  outs : List OutVal
  deriving DecidableEq, Repr, Inhabited

/-- The latest released value of a readable output (R243, R244): `wave` is the wave it was computed from (R214), `rel` the
wave of the release that carried it (R244). -/
structure LastOut where
  node : Nat
  port : Nat
  id : Nat
  unit : Nat
  val : Nat
  qual : BitVec 8
  wave : Nat
  rel : Nat
  deriving DecidableEq, Repr, Inhabited

/-- One trip matrix row (R305 to R309): its command, the waves released when it was last set by an input, the TD0
instant at which its inputs cleared, its reset reference at the last release, its latch, whether it completes its pulse
and seal under settings that an activation removed, the parameters it then uses (pulse in waves, mode, terminal and
current, maximum time in ms), and its GOOSE point's validity, TEST and SUBST. -/
structure Row where
  num : Nat
  cmd : Bool
  setAt : Nat
  inputs : Bool
  clearAt : Nat
  lastReset : Bool
  latched : Bool
  old : Option (Nat × Nat × Nat × Nat)
  qual : BitVec 8
  deriving DecidableEq, Repr, Inhabited

/-- A queued or running P3 job (R237). `req` is the request it answers, none for an engine source; `wave` the first wave
of the window that a harmonic analysis takes, `skips` the windows skipped before it (R254). -/
structure Job where
  id : Nat
  set : Nat
  req : Option Req
  started : Bool
  input : List Byte
  result : List Byte
  wave : Nat
  skips : Nat
  deriving DecidableEq, Repr, Inhabited

/-- Energy registers of an energy op (R252): active import and export, reactive import and export, each in units of
10^-6 W (or var) for one wave period, and the TD1 second and epoch of the last wave. -/
structure Energy where
  node : Nat
  acc : List Nat
  sec : Nat
  step : Nat
  deriving DecidableEq, Repr, Inhabited

/-- One PMU stream (R257 to R266). -/
structure Pmu where
  /-- w:1 R266 reset:0 | transmission on -/
  tx : Bool
  /-- w:32 R260 reset:0 | data frames sent -/
  frames : Nat
  /-- w:nat R264 reset:none | TD1 instant of the last launched firing, ns -/
  lastFire : Option Nat
  /-- w:list R264 reset:empty | launched instants (TD1, ns) whose frame's estimation no wave has begun yet -/
  launched : List Nat
  /-- w:list R265 reset:empty | configuration and header frames queued (1 CFG-1, 2 CFG-2, 3 CFG-3, 4 HDR), with the requester's address -/
  frameQ : List (Nat × Nat)
  /-- w:nat R262 reset:none | TD1 instant of the last configuration change -/
  cfgChangeAt : Option Nat
  /-- w:16 R262 reset:0 | STAT of the last data frame -/
  stat : Nat
  deriving DecidableEq, Repr, Inhabited

/-- The graph scheduler, the ops and the trip path. -/
structure GraphUnit where
  /-- w:1 R241 reset:0 | GS_STAT.RUNNING -/
  running : Bool
  /-- w:list R210 reset:empty | live instances, in creation order -/
  insts : List Inst
  /-- w:lists R210 reset:empty | ready lists P0 to P3, first in first out: (node, key) -/
  ready : List (List (Nat × Key))
  /-- w:list R218 reset:empty | in-flight window in dispatch order: (flow, node, key) -/
  flight : List (Nat × Nat × Key)
  /-- w:8 each R225 reset:0 | cancel epochs that differ from 0, by node -/
  epochs : SMap
  /-- w:5 each R217 reset:img | affinity cores changed by migration: node to core + 1 -/
  affinity : SMap
  /-- w:lists R221 reset:empty | fine and coarse delay entries -/
  delays : List Delay
  /-- w:list R222 reset:empty | fired timer tokens waiting for their node's next instance: (node, tag, tick, epoch) -/
  tokens : List (Nat × Nat × Nat × Nat)
  /-- w:state R212 reset:empty | element and tracker state by instance -/
  elems : List Elem
  /-- w:state R252 reset:empty | energy registers -/
  energy : List Energy
  /-- w:list R243 reset:empty | latest released outputs -/
  outs : List LastOut
  /-- w:2048 R28 reset:0 | P bits written by the graph: front copy -/
  pBitF : SMap
  /-- w:2048x8 R271 reset:0 | quality of graph-written P bits, plus 1; 0 not written yet (invalid) -/
  pBitQ : SMap
  /-- w:512x8 R243 reset:0 | quality of graph-written P words, plus 1; 0 not written yet (invalid) -/
  pWordQ : SMap
  /-- w:512x32 R28 reset:0 | P words written by the graph: front copy -/
  pWordF : SMap
  /-- w:2048 R28 reset:0 | P bits written by the graph: back copy -/
  pBitB : SMap
  /-- w:512x32 R28 reset:0 | P words written by the graph: back copy -/
  pWordB : SMap
  /-- w:2048 R28 reset:0 | P bits written by the logic engine, as the graph sees them -/
  lBit : SMap
  /-- w:512x32 R28 reset:0 | P words written by the logic engine, as the graph sees them -/
  lWord : SMap
  /-- w:2048 R28 reset:0 | logic writes waiting for the next wave: bits -/
  lBitN : SMap
  /-- w:512x32 R28 reset:0 | logic writes waiting for the next wave: words -/
  lWordN : SMap
  /-- w:48 rows R305 reset:empty | trip matrix rows of the image -/
  rows : List Row
  /-- w:nat R214 reset:none | last wave whose outputs were released -/
  relWave : Option Nat
  /-- w:nat R214 reset:empty | P2 outputs retired since the last wave release: (node, key) -/
  p2Done : List (Nat × Key)
  /-- w:nat R234 reset:empty | waves whose P1 outputs are not yet released, oldest first: wave, TD1 of its headbox release -/
  openWaves : List (Nat × Nat)
  /-- w:nat R234 reset:empty | descriptors whose P0 outputs are not yet released, oldest first: sequence, TD1 of entry -/
  openDescs : List (Nat × Nat)
  /-- w:cycles R241 reset:0 | cycles used by each band in the present TD0 second -/
  loadAcc : List Nat
  /-- w:nat R241 reset:0 | that TD0 second -/
  loadSec : Nat
  /-- w:bits R236 reset:0 | trip matrix inputs are held questionable by an overrun -/
  held : Bool
  /-- w:32 R234,R240 reset:0 | GS_OVERRUN_CNT -/
  overrunCnt : Nat
  /-- w:list R236 reset:empty | TD0 instants of overruns in the last second -/
  overruns : List Nat
  /-- w:1 R236,R241 reset:0 | GS_STAT.HEALTHY_HOLD -/
  healthyHold : Bool
  /-- w:32 R230,R240 reset:0 | GS_BREACH_CNT -/
  breachCnt : Nat
  /-- w:list R230 reset:empty | nodes that have written OP_BUDGET_BREACH since the last activation -/
  breached : List Nat
  /-- w:32 R217,R240 reset:0 | GS_MIGR_CNT -/
  migrCnt : Nat
  /-- w:32 R227,R240 reset:0 | GS_CANCEL_CNT -/
  cancelCnt : Nat
  /-- w:32 R227,R240 reset:0 | GS_VOID_CNT -/
  voidCnt : Nat
  /-- w:32 R215,R240 reset:0 | GS_P0_SHED -/
  p0Shed : Nat
  /-- w:nat R215 reset:0 | descriptors shed since the last P0_SHED event -/
  shedSince : Nat
  /-- w:nat R215 reset:none | TD0 second of the last P0_SHED event -/
  shedSec : Option Nat
  /-- w:nat R215 reset:0 | arrival descriptors entered in the present wave period -/
  d0Count : Nat
  /-- w:32 R219,R240 reset:0 | GS_WIN_WAIT, without the wait that runs -/
  winWait : Nat
  /-- w:nat R219 reset:none | TD0 instant since which a P0 to P2 instance has waited for the window -/
  waitAt : Option Nat
  /-- w:32 R232,R241 reset:0 | GS_CORE_FAULT -/
  coreFault : BitVec 32
  /-- w:16 R241 reset:0 | GS_STAT.READY_PEAK -/
  readyPeak : Nat
  /-- w:9 R241 reset:0 | GS_INFLIGHT.PEAK -/
  flightPeak : Nat
  /-- w:16 R241 reset:0 | GS_DELAY_PEAK.FINE -/
  finePeak : Nat
  /-- w:16 R241 reset:0 | GS_DELAY_PEAK.COARSE -/
  coarsePeak : Nat
  /-- w:queue 32 R210,R237 reset:empty | job queue -/
  jobs : List Job
  /-- w:nat R237 reset:0 | number of the next job -/
  jobNext : Nat
  /-- w:16 R241 reset:0 | GS_JOB_STAT.DONE -/
  jobDone : Nat
  /-- w:8 R241 reset:0 | GS_JOB_STAT.BUSY_CNT -/
  jobBusy : Nat
  /-- w:list R237 reset:empty | sessions whose credit is withheld after a BUSY JOB_SUBMIT -/
  jobOwed : List Nat
  /-- w:12 R241 reset:0 | GS_NODE_SEL.NODE -/
  nodeSel : Nat
  /-- w:16 each R230,R241 reset:0 | largest measured cycles by node since the last activation -/
  nodeMax : SMap
  /-- w:32 each R240,R241 reset:0 | GS_LOADb: mean and peak by band -/
  load : List (Nat × Nat)
  /-- w:nat R233 reset:none | TD0 second of the last P2_LATE event -/
  p2LateSec : Option Nat
  /-- w:list R233 reset:empty | P2 instances that missed their deadline: (node, key) -/
  lateP2 : List (Nat × Key)
  /-- w:4 streams R257 reset:see fields | PMU streams -/
  pmu : List Pmu
  /-- w:64 R542 reset:0 | digest of the last wave release -/
  digest : Nat
  /-- w:bytes R542 reset:empty | items 2, 5, 6 and 7 of the next digest, in order: item and bytes -/
  digIn : List (Nat × List Byte)
  /-- w:nat R543 reset:none | TD0 of the last OP_FAULT of cause 3 -/
  fault3At : Option Nat
  /-- w:list R227 reset:empty | the outputs that each node last released with a value -/
  prev : List (Nat × List OutVal)
  /-- w:nat each R256 reset:0 | by node, the waves released when a change of its settings emptied its windows -/
  winFrom : SMap
  /-- w:nat each R254 reset:0 | by entry set, the 200 ms windows skipped since the last one that was started -/
  winSkip : SMap
  /-- w:job R254 reset:none | the last harmonic analysis of a window that has ended, with its result -/
  lastWin : Option Job
  /-- w:waves R235 reset:empty | overruns of this lane, newest first (at most 8 kept): 2^32 x band + wave or sequence number -/
  overWaves : List Nat
  deriving DecidableEq, Repr, Inhabited

end Sys2Proof.Machine
end

