-- ==== Sys2Proof/Machine/StLogic.lean ====
section
/-! DEFINITION. State of the scheme logic engine (11), of remote I/O (12) and of the field unit (13). -/

namespace Sys2Proof.Machine

/-- LE_MODE_STAT.MODE (R368, R388). -/
inductive LeMode where
  | notStarted | run | stop | hold | safe
  deriving DecidableEq, Repr, Inhabited

/-- The code of a mode (R388). -/
def LeMode.toNat : LeMode → Nat
  | .notStarted => 0 | .run => 1 | .stop => 2 | .hold => 3 | .safe => 4

/-- Where a task is (R364, R365). -/
inductive TaskSt where
  | idle | released | ready | running | preempted
  deriving DecidableEq, Repr, Inhabited

/-- One task with its register set (R347) and its cycle (R365). -/
structure Task where
  /-- w:5 R352 reset:img | task number, 0 to 7 CTn, 8 to 23 ETn -/
  num : Nat
  /-- w:enum R365 reset:idle | state of its cycle -/
  st : TaskSt
  /-- w:18 R347 reset:0 | program counter -/
  pc : Nat
  /-- w:1 R347 reset:0 | RLO -/
  rlo : Bool
  /-- w:32 R347 reset:0 | ACC -/
  acc : Word
  /-- w:1 R347 reset:0 | OV -/
  ov : Bool
  /-- w:16 entries R347,R355 reset:empty | nesting stack: saved RLO and bracket operation, innermost first -/
  nest : List (Bool × Nat)
  /-- w:8 entries R347 reset:empty | call stack of return addresses -/
  calls : List Nat
  /-- w:2112x32 R365 reset:empty | input image of the I words -/
  inI : SMap
  /-- w:4096 R365 reset:empty | input image of the N bits -/
  inNb : SMap
  /-- w:1024x32 R365 reset:empty | input image of the N words -/
  inNw : SMap
  /-- w:2048 R365 reset:empty | input image of the P bits -/
  inPb : SMap
  /-- w:512x32 R365 reset:empty | input image of the P words -/
  inPw : SMap
  /-- w:2112x32 R365 reset:empty | the task's own output image: Q words -/
  outQ : SMap
  /-- w:2112+ R365 reset:empty | Q words, and Q bits by their addresses from 65 536, the task has written in this cycle -/
  wroteQ : List Nat
  /-- w:4096 R365 reset:empty | N bits written in this cycle: (address, value) -/
  outNb : List (Nat × Bool)
  /-- w:1024x32 R365 reset:empty | N words written in this cycle -/
  outNw : List (Nat × Nat)
  /-- w:2048 R365 reset:empty | P bits written in this cycle -/
  outPb : List (Nat × Bool)
  /-- w:512x32 R365 reset:empty | P words written in this cycle -/
  outPw : List (Nat × Nat)
  /-- w:list R361 reset:empty | LARM (entry, value, status word) and LCAN requests of this cycle, oldest first -/
  reqs : List (Bool × Nat × LaunchVal × Nat)
  /-- w:64 R358 reset:0 | logic run clock latched at cycle start, ns -/
  clk : Nat
  /-- w:nat R362 reset:none | slot count S x 16 000 + k of the last release -/
  relN : Option Nat
  /-- w:nat R362 reset:0 | TD1 instant (2^-40 ns) of the release or of the trigger -/
  relT1 : Nat
  /-- w:nat R372 reset:0 | TD0 instant (2^-40 ns) of the release or of the trigger -/
  relT0 : Nat
  /-- w:nat R372 reset:0 | TD0 deadline of the cycle (2^-40 ns) -/
  deadline : Nat
  /-- w:32 R352 reset:0 | wave number of the P copy read -/
  pWave : Nat
  /-- w:32 R352 reset:0 | trigger, 65536 x type + index; 0 cyclic -/
  trig : Nat
  /-- w:1 R89,R352 reset:1 | no cycle completed since entering RUN -/
  first : Bool
  /-- w:8 R352 reset:0 | TD1 quality byte at cycle start -/
  tq : Nat
  /-- w:nat R367 reset:0 | instructions executed in this cycle -/
  icount : Nat
  /-- w:nat R366 reset:none | TD0 second of the last CYCLE_SKIPPED -/
  skipSec : Option Nat
  /-- w:32 R387 reset:0 | LE_TASKn_LAST, us -/
  last : Nat
  /-- w:32 R387 reset:0 | LE_TASKn_MAX, us -/
  max : Nat
  /-- w:32 R387 reset:0 | LE_TASKn_CYCLES -/
  cycles : Nat
  deriving DecidableEq, Repr, Inhabited

/-- One timer (R357). -/
structure Timer where
  n : Nat
  id : Nat
  baseNs : Nat
  /-- w:2 R357,R382 reset:0 | type last executed: 0 none, 1 TON, 2 TOF, 3 TP -/
  kind : Nat
  preset : Nat
  elapsed : Nat
  input : Bool
  out : Bool
  /-- w:nat R357 reset:0 | run clock at the previous execution, ns -/
  lastClk : Nat
  /-- w:nat R357 reset:0 | remainder below one base unit, ns -/
  rem : Nat
  deriving DecidableEq, Repr, Inhabited

/-- One counter (R359). -/
structure Counter where
  n : Nat
  id : Nat
  preset : Int
  count : Int
  upIn : Bool
  dnIn : Bool
  deriving DecidableEq, Repr, Inhabited

/-- One edge memory that the logic section defines (R360, R382). -/
structure EdgeMem where
  n : Nat
  id : Nat
  val : Bool
  primed : Bool
  deriving DecidableEq, Repr, Inhabited

/-- A queued event task trigger (R27, R363). -/
structure Trig where
  task : Nat
  kind : Nat
  index : Nat
  t1 : Nat
  t0 : Nat
  deriving DecidableEq, Repr, Inhabited

/-- One force (R374, R375). -/
structure Force where
  point : Nat
  value : Nat
  t1sec : Nat
  session : Nat
  deriving DecidableEq, Repr, Inhabited

/-- An on-line change that awaits changeover (R380, R381). -/
structure Change where
  commit : Bool
  byActivate : Bool
  req : Option Req
  at0 : Nat
  waitPeer : Bool
  deriving DecidableEq, Repr, Inhabited

/-- The logic retain region of MRAM: the mirror of the retained state (R377). -/
structure Retain where
  /-- w:digest R377 reset:none | digest of the logic section that produced the mirror -/
  digest : Option Nat
  /-- w:1 R75 reset:0 | the ECC scan found an error in the region -/
  bad : Bool
  q : SMap
  m : SMap
  w : SMap
  timers : List Timer
  counters : List Counter
  edges : List EdgeMem
  nb : SMap
  nw : SMap
  pb : SMap
  pw : SMap
  runClk : Nat
  mode : LeMode
  deriving DecidableEq, Repr, Inhabited

/-- The scheme logic engine (R347 to R388). -/
structure Logic where
  /-- w:4 R388 reset:notStarted | MODE -/
  mode : LeMode
  /-- w:4 R388 reset:0 | PREV -/
  prev : Nat
  /-- w:4 R388 reset:0 | CAUSE -/
  cause : Nat
  /-- w:1 R368,R388 reset:0 | COLD_PEND; held in MRAM -/
  coldPend : Bool
  /-- w:nat R368 reset:0 | TD0 instant at which HOLD was entered -/
  holdAt : Nat
  /-- w:5 R370 reset:none | task held by HOLD -/
  heldTask : Option Nat
  /-- w:5 R370 reset:none | the held task that LE_STEP is running to END -/
  stepping : Option Nat
  /-- w:1 R370 reset:0 | the instruction at the held task's pc has been stopped at once and runs when next reached -/
  brkSkip : Bool
  /-- w:2x256Ki R347 reset:empty | program memory, the bank in service -/
  program : List Word
  /-- w:section R105 reset:none | logic section in service -/
  sec : Option LogicSec
  /-- w:24 tasks R362 reset:empty | tasks and their register sets -/
  tasks : List Task
  /-- w:2112x32 R349 reset:0 | Q words passed on by the tasks' cycle ends -/
  q : SMap
  /-- w:65536 R349 reset:0 | M bits -/
  m : SMap
  /-- w:16384x32 R349 reset:0 | W words -/
  w : SMap
  /-- w:1024 R349 reset:empty | T timers -/
  timers : List Timer
  /-- w:1024 R349 reset:empty | C counters -/
  counters : List Counter
  /-- w:4096 R349 reset:empty | E edge memories -/
  edges : List EdgeMem
  /-- w:4096 R349 reset:0 | N bits: subscribed values and publications -/
  nb : SMap
  /-- w:1024x32 R349 reset:0 | N words -/
  nw : SMap
  /-- w:2112x32 R351,R390 reset:0 | I words that arrive from stations and process channels -/
  iw : SMap
  /-- w:64 R358 reset:DESIGN CHOICE 0 (log entry 2) | logic run clock, ns -/
  runClk : Nat
  /-- w:nat R358 reset:0 | TD0 at which the run clock was last brought up to date -/
  clkAt : Nat
  /-- w:list R27,R363 reset:empty | triggers that have arisen and are on their way to the logic engine, oldest first -/
  trigIn : List Trig
  /-- w:queue 256 R27,R363 reset:empty | event task trigger queue, oldest first -/
  trigQ : List Trig
  /-- w:32 R388 reset:0 | LE_ET_DROP -/
  etDrop : Nat
  /-- w:32 R388 reset:0 | LE_SKIP_CNT -/
  skipCnt : Nat
  /-- w:1024 R375 reset:DESIGN CHOICE empty | force table in ascending point order; held in MRAM -/
  forces : List Force
  /-- w:16 R388 reset:0 | LE_WD_STAT.COUNT -/
  wdCount : Nat
  /-- w:5 R388 reset:0 | LE_WD_STAT.TASK -/
  wdTask : Nat
  /-- w:8 R370 reset:empty | breakpoints: address, task (none any) -/
  breaks : List (Nat × Option Nat)
  /-- w:1+5+18 R388 reset:0 | LE_BRK_STAT: HIT, TASK, ADDR -/
  brk : Bool × Nat × Nat
  /-- w:25 R388 reset:0 | LE_PEEK_SEL: WORD, SPACE, ADDR -/
  peek : Bool × Nat × Nat
  /-- w:record R380 reset:none | on-line change awaiting changeover -/
  change : Option Change
  /-- w:4 R388 reset:0 | LE_CHANGE_STAT.STATE -/
  changeSt : Nat
  /-- w:16 R388 reset:0 | LE_CHANGE_STAT.RESULT -/
  changeRes : Nat
  /-- w:32 R388 reset:0 | LE_CHANGE_WAVE -/
  changeWave : Nat
  /-- w:record R381 reset:none | a changeover whose setting differences the next wave released carries -/
  changeDue : Option Change
  /-- w:list R383 reset:empty | Q words that keep their values after a changeover until the task that owns them completes
  a cycle -/
  keepQ : List Nat
  /-- w:1 R86 reset:0 | the logic engine has passed its start since the configuration stage -/
  began : Bool
  /-- w:nat R378,R388 reset:none | TD0 instant of the oldest change not yet mirrored -/
  dirtySince : Option Nat
  /-- w:region R377 reset:DESIGN CHOICE empty | retain region: mirror of the retained state; held in MRAM -/
  ret : Retain
  /-- w:1 R96,R98 reset:0 | tasks halted by a flush -/
  halted : Bool
  /-- w:1 R89,R95 reset:0 | OUTPUTS_RELEASED has been written since entering RUN -/
  released : Bool
  /-- w:list R89,R369 reset:empty | tasks that have completed a cycle since entering RUN -/
  firstDone : List Nat
  /-- w:2112x32 R369 reset:0 | Q words driven in HOLD and SAFE -/
  driven : SMap
  deriving DecidableEq, Repr, Inhabited

/-- One remote I/O station (R390 to R401). -/
structure Station where
  /-- w:1 R401,R410 reset:0 | RIO_VALID bit -/
  valid : Bool
  /-- w:1 R401 reset:0 | valid since a cycle before the current one: the station is sent TYPE 1 frames -/
  cyclic : Bool
  /-- w:1 R400,R410 reset:0 | LOST -/
  lost : Bool
  /-- w:1 R395,R410 reset:0 | DELAY_HIGH -/
  delayHigh : Bool
  /-- w:6 R410 reset:0 | FLAGS of the last used frame -/
  flags : Nat
  /-- w:nat R400 reset:0 | consecutive missed cycles -/
  missRun : Nat
  /-- w:nat R401 reset:0 | consecutive good frames with SYNCED, INPUTS_VALID and the watermark -/
  upRun : Nat
  /-- w:32 R410 reset:0 | RIO_STs_MISS -/
  miss : Nat
  /-- w:32 R410 reset:0 | RIO_STs_LATE -/
  late : Nat
  /-- w:list 16 R395 reset:empty | half round trips of the last cycles, 1/256 ns, newest first -/
  trips : List Nat
  /-- w:32 R392 reset:none | SEQ of the frame used for the current cycle -/
  used : Option Nat
  /-- w:256 bytes R392 reset:empty | input bytes held for the cycle -/
  held : List Byte
  /-- w:1 R401 reset:0 | the frame held carries SYNCED, INPUTS_VALID and the current watermark -/
  heldOk : Bool
  /-- w:32+bytes R402 reset:none | this lane's own last reception in a standby: SEQ and DATA -/
  own : Option (Nat × List Byte)
  /-- w:nat R395 reset:empty | TX_TIME of downstream frames sent, by SEQ, newest first (at most 16 kept) -/
  tx : List (Nat × Nat)
  /-- w:256 bytes R393,R399 reset:empty | DATA of the last downstream frame -/
  sent : List Byte
  /-- w:8+8 R393 reset:0 | TYPE and FLAGS of the last downstream frame -/
  sentHdr : Nat × Nat
  /-- w:96 R393 reset:0 | APPLY_AT and NEXT_SAMPLE of the last downstream frame, TD1 ns -/
  sentTimes : Nat × Nat
  /-- w:2x64 bytes R405 reset:empty | ring input buffers: filling and complete -/
  ring : List Byte × List Byte
  /-- w:nat R405 reset:0 | TD1 instant at which the complete ring buffer arrived -/
  ringAt : Nat
  deriving DecidableEq, Repr, Inhabited

/-- Remote I/O (R389 to R410). -/
structure Rio where
  /-- w:32 stations R390 reset:see fields | stations 0 to 31 -/
  st : List Station
  /-- w:32 R410 reset:0 | RIO_SEQ -/
  seq : Nat
  /-- w:32 R410 reset:0 | RIO_XCHK_CNT -/
  xchk : Nat
  /-- w:nat R392 reset:0 | R_k of the current cycle, in grid slots (S x 16 000 + k) -/
  relSlot : Nat
  /-- w:nat R392 reset:0 | slot tag of R_k, 2^-40 ns: R_k occurs at the tag plus TB_SG_OFFSET -/
  relT1 : Nat
  /-- w:nat R403 reset:none | phase set by a launch, in waves -/
  phase : Option Nat
  /-- w:nat x3 R403 reset:none | a new phase on its way: phase, last release of the old series, first of the new, in slots -/
  phaseNext : Option (Nat × Nat × Nat)
  /-- w:1 R392,R396 reset:0 | the I/O task has reached END for the current cycle -/
  ended : Bool
  /-- w:nat R396 reset:none | TD0 second of the last RIO_OUTPUT_STALE -/
  staleSec : Option Nat
  /-- w:nat R404 reset:0 | ring cycles started -/
  ringCycles : Nat
  /-- w:nat R404 reset:0 | TD0 at which the last ring cycle started -/
  ringTd0 : Nat
  deriving DecidableEq, Repr, Inhabited

/-- A pending launch at the field side (R430): DO, level, offset in 0.25 us from the frame's start. -/
structure FieldLaunch where
  dout : Nat
  level : Bool
  offset : Nat
  deriving DecidableEq, Repr, Inhabited

/-- One digital input in the engine (R421 to R426). -/
structure DigIn where
  /-- w:1 R421,R437 reset:0 | filtered state -/
  state : Bool
  /-- w:1 R423,R437 reset:0 | chatter frozen -/
  frozen : Bool
  /-- w:1 R423 reset:0 | state last reported before the freeze -/
  frozenState : Bool
  /-- w:list R423 reset:empty | TD0 times of the changes within T -/
  changes : List Nat
  /-- w:nat R423 reset:0 | TD0 time of the last filtered change -/
  lastChange : Nat
  /-- w:nat R423 reset:0 | TD1 stamp of the last filtered change -/
  lastStamp : Nat
  /-- w:nat R424 reset:0 | TD0 time at which it went on -/
  onSince : Nat
  /-- w:118 each R132 reset:0 | TD2 and TD3 times of the last filtered change -/
  lastStamp23 : Nat × Nat
  /-- w:1 R424 reset:0 | DI_MAX_ON has been written since it went on -/
  maxOnDone : Bool
  /-- w:1 R426,R437 reset:0 | FIO_DI_OPEN_WIRE in force -/
  openW : Bool
  /-- w:1 R426,R437 reset:0 | FIO_DI_OVERLOAD in force -/
  overload : Bool
  /-- w:1 R426,R437 reset:0 | FIO_DI_OVERTEMP in force -/
  overtemp : Bool
  /-- w:32 R437 reset:0 | FIO_DIn_EDGES -/
  edges : Nat
  /-- w:1 R419 reset:0 | state last reported before a barrier loss -/
  preLoss : Bool
  deriving DecidableEq, Repr, Inhabited

/-- One digital output, both sides of the barrier (R427 to R433). -/
structure DigOut where
  /-- w:1 R437 reset:0 | LEVEL: pad above 10 V -/
  level : Bool
  /-- w:1 R437 reset:0 | DRIVEN: the switch is on -/
  driven : Bool
  /-- w:1 R431,R437 reset:0 | FIO_DO_OVERLOAD in force -/
  overload : Bool
  /-- w:1 R431,R437 reset:0 | FIO_DO_OPEN_WIRE in force -/
  openW : Bool
  /-- w:1 R431,R437 reset:0 | FIO_DO_OVERTEMP in force -/
  overtemp : Bool
  /-- w:1 R431,R437 reset:0 | FIO_DO_EXT_VOLTAGE in force -/
  extv : Bool
  /-- w:1 R431 reset:0 | thermal shutdown holds the switch off until a retry -/
  shut : Bool
  /-- w:nat R431 reset:0 | TD0 time of the last shutdown -/
  shutAt : Nat
  /-- w:32 R437 reset:0 | FIO_DOn_TSD -/
  tsd : Nat
  /-- w:32 R630 reset:DESIGN CHOICE 0 | lifetime thermal shutdowns; held in MRAM -/
  tsdLife : Nat
  /-- w:1 R433 reset:0 | held off by restart-inhibit after a lock-out -/
  inhibit : Bool
  /-- w:1 R412 reset:0 | commanded level at the field side (DO_CMD adopted, launches applied) -/
  cmd : Bool
  deriving DecidableEq, Repr, Inhabited

/-- The field unit: engine side and field side (R411 to R437). -/
structure Field where
  /-- w:16 inputs R420 reset:see fields | DI0 to DI15 -/
  din : List DigIn
  /-- w:8 outputs R427 reset:see fields | DO0 to DO7 -/
  dout : List DigOut
  /-- w:list 512 R422 reset:empty | DI states and validity as I word 0 holds them, each with the TD1 instant from which it
  holds, newest first -/
  diHist : List (Nat × Nat)
  /-- w:nat R418 reset:0 | TD1 instant of the last sample that a good upstream frame reported -/
  lastSample : Nat
  /-- w:nat R421 reset:DESIGN CHOICE 1200 (cal) | calibrated input delay, ns -/
  diDelay : Nat
  /-- w:nat R430 reset:DESIGN CHOICE 0 (cal) | gate-to-50 % delay, units of 0.25 us -/
  gateDelay : Nat
  /-- w:1 R412 reset:0 | OW_TEST in the last frame sent -/
  owTest : Bool
  /-- w:8 R413 reset:0 | downstream mailbox: commanded levels of trip-class DO -/
  tripCmd : BitVec 8
  /-- w:8 R413,R351 reset:0 | downstream mailbox: commanded levels of binding-governed DO -/
  logicCmd : BitVec 8
  /-- w:8 R161,R429 reset:0 | commanded values, set by launches, of the binding-governed outputs that the logic engine does
  not own -/
  swCmd : BitVec 8
  /-- w:8 R412 reset:0 | SEQ of the last downstream frame sent -/
  seq : Nat
  /-- w:8 R437 reset:0 | DO_CMD of the last frame sent -/
  sentCmd : BitVec 8
  /-- w:1 R413,R437 reset:0 | RELEASE in the last frame sent -/
  released : Bool
  /-- w:1 R413 reset:0 | BIND_EN in the last frame sent -/
  bindEn : Bool
  /-- w:list R430 reset:empty | LAUNCH entries of the last frame sent -/
  sentLaunch : List FieldLaunch
  /-- w:5 R414 reset:0 | CFG_INDEX of the next frame -/
  cfgIdx : Nat
  /-- w:16 R412 reset:0 | CFG_DATA of the last frame sent -/
  cfgData : Nat
  /-- w:1 R418,R437 reset:0 | barrier up -/
  up : Bool
  /-- w:1 R418 reset:0 | any good upstream frame since start -/
  everUp : Bool
  /-- w:nat R416,R418 reset:0 | consecutive bad or missing upstream frames -/
  badRun : Nat
  /-- w:nat R419 reset:0 | consecutive good upstream frames with CONFIGURED -/
  goodRun : Nat
  /-- w:1 R419 reset:0 | restoration waits for the next frame start -/
  restorePend : Bool
  /-- w:8 R416 reset:none | SEQ of the last good upstream frame -/
  upSeq : Option Nat
  /-- w:32 R437 reset:0 | FIO_UP_ERR -/
  upErr : Nat
  /-- w:32 R437 reset:0 | FIO_DOWN_ERR -/
  downErr : Nat
  /-- w:32 R437 reset:0 | FIO_SAFE_CNT -/
  safeCnt : Nat
  /-- w:32 R437 reset:0 | FIO_SEQ_ERR -/
  seqErr : Nat
  /-- w:1 R437 reset:0 | SAFE as the field side reports it -/
  safeRep : Bool
  /-- w:1 R437 reset:0 | CONFIGURED as reported -/
  configured : Bool
  /-- w:8 R437 reset:0 | field side temperature, signed -/
  temp : Int
  /-- w:2 R433,R437 reset:0 | FIO_SUPPLY_LOW in force, per group -/
  low : BitVec 2
  /-- w:2 R433,R437 reset:0 | lock-out per group -/
  lockout : BitVec 2
  /-- w:1 R417 reset:1 | field side: SAFE in force -/
  fsSafe : Bool
  /-- w:1 R45,R56 reset:0 | field side: a frame that releases outputs has come since power-up -/
  fsRel : Bool
  /-- w:nat R24,R411 reset:0 | number of the 8 us multiple of the grid at which the last frame started -/
  frameIdx : Nat
  /-- w:nat R417 reset:0 | field side: consecutive bad or missing downstream frames -/
  fsBad : Nat
  /-- w:nat R419 reset:0 | field side: consecutive good downstream frames -/
  fsGood : Nat
  /-- w:8 R415 reset:0 | field side: SEQ of the last good downstream frame -/
  fsSeq : Nat
  /-- w:1 R415 reset:0 | field side: DOWN_ERR to report -/
  fsDownErr : Bool
  /-- w:1 R412 reset:0 | field side: BIND_EN received -/
  fsBind : Bool
  /-- w:32x16 R414 reset:0 | field side: configuration words adopted -/
  cfg : SMap
  /-- w:32x16 R414 reset:none | field side: value last received at each index -/
  cfgSeen : List (Nat × Nat)
  /-- w:32 R414 reset:empty | field side: indices adopted -/
  cfgDone : List Nat
  /-- w:list R430 reset:empty | field side: launches pending -/
  fsLaunch : List FieldLaunch
  deriving DecidableEq, Repr, Inhabited

end Sys2Proof.Machine
end

