-- ==== Sys2Proof/Machine/StRecorder.lean ====
section
/-! DEFINITION. State of the disturbance recorder (15). -/

namespace Sys2Proof.Machine

/-- Recorder states (R503 DR_STAT.STATE). -/
inductive DrSt where
  | disarmed | armed | capturing | holdOff | exhausted
  deriving DecidableEq, Repr, Inhabited

/-- The code of a recorder state (R503). -/
def DrSt.toNat : DrSt → Nat
  | .disarmed => 0 | .armed => 1 | .capturing => 2 | .holdOff => 3 | .exhausted => 4

/-- One analogue sample in a ring (R471, R473): recorder channel, kind (1 protection-rate, 2 high-rate, 3 derived), its source
(token channel, PAI input or output identifier), its place in grid slots of its rate counted since start (a TD1 step or a
re-phase does not move it, R157), its grid slot number, TD1 instant (2^-40 ns), value (code or fp32 pattern), quality byte and
phase bin (64 none). -/
structure Samp where
  chan : Nat
  kind : Nat
  src : Nat
  slot : Nat
  grid : Nat
  t1 : Nat
  val : Int
  qual : BitVec 8
  phase : Nat
  deriving DecidableEq, Repr, Inhabited

/-- One binary transition (R472, R485): channel, its source code, state and valid with those before it, ESTIMATED, GAP, TD1
tag in us and the grid slot, counted since start, in which it lies. -/
structure BTrans where
  chan : Nat
  src : Nat
  state : Bool
  valid : Bool
  was : Bool
  wasOk : Bool
  slot : Nat
  est : Bool
  gap : Bool
  us : Nat
  deriving DecidableEq, Repr, Inhabited

/-- A marker (R485): code, TD1 instant of the act, the instant its chunk's START carries, the grid slot of the act, counted
since start, and the rate step from then on. -/
structure Marker where
  code : Nat
  t1 : Nat
  start : Nat
  slot : Nat
  step : Nat
  deriving DecidableEq, Repr, Inhabited

/-- One trigger unit (R474, R476). -/
structure DrUnit where
  /-- w:32 R477,R503 reset:0 | DR_UNITu_CNT -/
  cnt : Nat
  /-- w:1 R474 reset:0 | the unit has been inside its threshold by H and may fire -/
  primed : Bool
  /-- w:1 R474 reset:0 | pattern match, or bit, as last seen -/
  match_ : Bool
  /-- w:118 R476 reset:none | TD1 instant of the last stage-1 firing -/
  lastA : Option Nat
  /-- w:samples R474,R475 reset:empty | last samples of its source, newest first -/
  hist : List Samp
  deriving DecidableEq, Repr, Inhabited

/-- A firing held in collection: unit, instant, HR flag, T_A (R476). -/
structure Firing where
  unit : Nat
  t1 : Nat
  hr : Bool
  ta : Nat
  deriving DecidableEq, Repr, Inhabited

/-- The record being captured or drained (R476 to R495). Instants are TD1 in 2^-40 ns; slots are grid slots of the
protection rate counted since start; `hr0`, `th`, `hrPend` and `hrEnd` are 50 ns slots, T0's own, the first of the high-rate
window, its end as firings moved it, and its end within the record. `units` holds the UNIT codes of the derived channels
(R494). -/
structure Record where
  id : Nat
  prev : Nat
  next : Nat
  contNo : Nat
  unit : Nat
  trigType : Nat
  t0 : Nat
  t0qual : Nat
  t0td0 : Nat
  epoch : Nat
  ta : Nat
  fired : BitVec 32
  trigVal : Nat
  flags : BitVec 16
  pair : BitVec 2
  sgOffset : Int
  group : Nat
  slot0 : Nat
  preSlot : Nat
  endSlot : Nat
  limSlot : Nat
  pendEnd : Nat
  hr0 : Nat
  th : Option Nat
  hrPend : Nat
  hrEnd : Nat
  units : List Nat
  retriggers : Nat
  suppressed : Nat
  maxStep : Nat
  gapUs : Nat
  watermark : List Byte
  serial : Nat
  locDist : Nat
  locMethod : Nat
  expLen : Nat
  written : Nat
  bytes : List Byte
  /-- 0 open, 1 draining, 2 complete, 3 incomplete (R496) -/
  state : Nat
  params : List Param
  chans : List ChanEntry
  marks : List Marker
  avail : Nat
  step0 : Nat
  deriving DecidableEq, Repr, Inhabited

/-- The disturbance recorder (R471 to R503). -/
structure Dr where
  /-- w:3 R503 reset:disarmed | STATE -/
  st : DrSt
  /-- w:1 R478 reset:0 | the recorder disarms once the chain in capture ends -/
  disarm : Bool
  /-- w:1 R478 reset:0 | the recorder has armed at start -/
  started : Bool
  /-- w:nat R32,R479 reset:DESIGN CHOICE 0 | chains opened since the last DR_ARM; held in MRAM -/
  chains : Nat
  /-- w:nat R479 reset:0 | TD0 at which hold-off began -/
  holdAt : Nat
  /-- w:32 units R474 reset:see fields | trigger units -/
  units : List DrUnit
  /-- w:32 R503 reset:0 | DR_UNIT_FIRED -/
  fired : BitVec 32
  /-- w:units R474 reset:empty | manual units requested by DR_TRIGGER, fired at the next wave -/
  manual : List (Nat × Option Req)
  /-- w:nat+firings R476 reset:none | collection in progress: TD1 of its begin and the firings collected -/
  coll : Option (Nat × List Firing)
  /-- w:record R476 reset:none | record in capture -/
  cap : Option Record
  /-- w:records R492 reset:DESIGN CHOICE empty | reel and reel index: records closed or draining, newest first; flash and MRAM -/
  reel : List Record
  /-- w:64 R492 reset:DESIGN CHOICE 1 | RECORD_ID of the next record; held in MRAM -/
  nextId : Nat
  /-- w:64 R503 reset:0 | DR_LAST_ID -/
  lastId : Nat
  /-- w:ring R473 reset:empty | protection-rate ring: samples of kinds 1 and 3, newest first -/
  prot : List Samp
  /-- w:ring R473 reset:empty | high-rate ring: samples, newest first -/
  high : List Samp
  /-- w:ring R473 reset:empty | binary transitions, newest first -/
  bins : List BTrans
  /-- w:nat R482 reset:none | slot of the newest transition that the full ring has given up -/
  binLost : Option Nat
  /-- w:1 per source R472 reset:0 | present states of the binary sources, by source code -/
  binSt : SMap
  /-- w:1 per source R472 reset:0 | present validities of the sources of classes 1 to 3, by source code -/
  binOk : SMap
  /-- w:records R154,R157,R485 reset:empty | TD1 steps and re-phases of the history in the rings, newest first -/
  marks : List Marker
  /-- w:nat R503 reset:0 | protection-rate slots held; DR_PRE_FILL.US is their length -/
  fill : Nat
  /-- w:8 R503 reset:0 | DR_BACKLOG.HIGH, % -/
  backHigh : Nat
  /-- w:8 R503 reset:0 | DR_BACKLOG.PROT, % -/
  backProt : Nat
  /-- w:3 R486,R503 reset:0 | rate step in force -/
  step : Nat
  /-- w:nat R486 reset:none | TD1 instant of the last step increase -/
  stepAt : Option Nat
  /-- w:nat R486 reset:none | TD0 since which both backlogs have been at or below 20 % -/
  lowSince : Option Nat
  /-- w:record R481,R487 reset:none | the record whose continuation opens once the ring can take samples again -/
  owed : Option Record
  /-- w:record R489 reset:none | the phasor reference of terminals A and B: TD1 instant, angle in 2^-44 turn, tracked
  frequency in uHz; none while the tracker is in hold or invalid -/
  phase : Option (Nat × Int × Nat) × Option (Nat × Int × Nat)
  /-- w:1 each R487 reset:0 | the protection-rate and the high-rate ring discard new samples -/
  full : Bool × Bool
  /-- w:nat R487 reset:0 | TD1 instant at which the discard began -/
  fullAt : Nat
  /-- w:32 R503 reset:0 | DR_RECORDS -/
  records : Nat
  /-- w:32 R503 reset:0 | DR_SUPPRESSED -/
  suppressed : Nat
  /-- w:32 R32,R493 reset:DESIGN CHOICE 0 | firings suppressed since the previous record closed; held in MRAM -/
  suppSince : Nat
  /-- w:32 R503 reset:0 | DR_TRUNC_CNT -/
  truncCnt : Nat
  /-- w:32 R503 reset:0 | DR_STEP_CNT -/
  stepCnt : Nat
  /-- w:32 R503 reset:0 | DR_OVERWR_CNT -/
  overwr : Nat
  /-- w:16 R503 reset:DESIGN CHOICE 0 | DR_REEL_USED.MIB; of the reel's records, rounded up -/
  usedMib : Nat
  /-- w:1 R96,R479 reset:0 | flush step 3 has closed the recorder -/
  flushed : Bool
  deriving DecidableEq, Repr, Inhabited

end Sys2Proof.Machine
end

