-- ==== Sys2Proof/Machine/Snap.lean ====
section
/-! DEFINITION. The state that a joining lane takes from the active's snapshot (R536). -/

namespace Sys2Proof.Machine

/-- One GOOSE publication (R567, R568): its data members' values and qualities, and the UTC time of each one's last change. -/
structure GoosePub where
  num : Nat
  st : Nat
  sq : Nat
  tUtc : Nat
  vals : List (Nat × Nat)
  times : List Nat
  interval : Nat
  nextAt : Nat
  first : Bool
  deriving DecidableEq, Repr, Inhabited

/-- A snapshot as decoded (R536, R554): the wave it holds and that wave's TD1 second and index, the waves released by then,
node contexts, energy registers, cancel epochs, pending delay entries and fired timer tokens, trip matrix rows, pending
resets, the setting group, the accumulator windows in progress and completed per channel, the logic engine's retained
state, the force table, launch entries of other owners than the image, the recorder's state, the instant of its
hold-off and the chains that count for it, publications, SV and remote I/O counters, PMU frame counts. -/
structure Snap where
  wave : Nat
  at_ : Nat × Nat
  waves : Nat
  elems : List Elem
  energy : List Energy
  epochs : SMap
  delays : List Delay
  tokens : List (Nat × Nat × Nat × Nat)
  rows : List Row
  resets : List Nat
  group : Nat
  wins : List (List Window × List Window)
  logic : Retain
  forces : List Force
  launches : List LaunchEntry
  rec_ : DrSt
  holdAt : Nat
  chains : Nat
  pubs : List GoosePub
  smpCnt : List Nat
  rioSeq : Nat
  frames : List Nat
  deriving DecidableEq, Repr, Inhabited

end Sys2Proof.Machine
end

