-- ==== Sys2Proof/Syntax.lean ====
section
/-! DEFINITION. The commands and events of the engine: one constructor per row of the table of operations and
events. Host commands carry the request they answer; events carry what the outside world decides. -/

namespace Sys2Proof

/-- The commands of the block, in the table's order. -/
inductive Instr where
  /-- VMAIN_GOOD (R44): VMAIN has stayed above 10.5 V for 10 ms; TD0 starts at 0, the store starts charging and power-up begins. -/
  | vmainGood
  /-- FIRMWARE_START (R72): ROM boot finishes verifying FW_A, and FW_B if needed, and starts the slot that passes, or stays in ROM recovery. -/
  | firmwareStart
  /-- SELFTEST_COMPLETE (R75): The self-tests finish; failures halt at start or degrade the unit, and the event recorder starts and writes held events. -/
  | selftestComplete (failed : List Nat) (slices : List Nat) (retain : Bool) (forces : Bool) (copies : Nat) (cals : List (Int × Int))
  /-- IMAGE_SELECT (R78): The engine verifies SCH_USER and loads it over SCH_FACTORY, or loads SCH_FACTORY alone. -/
  | imageSelect
  /-- CONFIGURATION_COMPLETE (R70): Units are configured; the headbox releases the first wave, protection runs, trip outputs are enabled and HEALTHY may assert. -/
  | configurationComplete
  /-- LOGIC_START (R86): The logic engine starts warm, cold, stopped or not at all by the first matching condition, and writes LOGIC_START. -/
  | logicStart
  /-- FW_B_CHECKED (R74): The background verification of FW_B finishes and its result is recorded. -/
  | fwBChecked
  /-- STORE_CHARGED (R62): The hold-up store is charged and the 2 ms capacitance and ESR measurement runs. -/
  | storeCharged
  /-- HOLDUP_MEASURE_DONE (R62): The controlled 2 ms discharge completes and the measured hold-up time is judged against 20 ms. -/
  | holdupMeasureDone (cap : Nat) (esr : Nat) (vhold : Nat)
  /-- STORE_CHARGE_TIMEOUT (R62): The store has not reached 15.0 V within 5 s of VMAIN good, and HOLDUP_LOW fires. -/
  | storeChargeTimeout
  /-- STORE_VOLTAGE_LOW (R62): The store falls below 15.0 V while VMAIN is good, and HOLDUP_LOW fires. -/
  | storeVoltageLow (mv : Nat)
  /-- VMAIN_LOW (R57): VMAIN falls below 10.0 V; the warning stage begins and the power-fail flush starts. -/
  | vmainLow (mv : Nat)
  /-- PFAIL_N_LOW (R57): PFAIL_N held low for 2 µs begins the warning stage and starts the power-fail flush. -/
  | pfailNLow
  /-- PFAIL_RECOVERED (R59): PFAIL_N is high and VMAIN_LOW is not in force before the hold-up stage; the engine continues without restart. -/
  | pfailRecovered (last : Nat)
  /-- HOLD_UP_STAGE (R58): VMAIN falls below 9.0 V; HEALTHY and BIND_OUT drop, the failure message goes out, outputs are switched off and units stop. -/
  | holdUpStage
  /-- FLUSH_STEP_COMPLETE (R96): A power-fail flush step finishes its writes and the next step starts, or the flush ends and DONE sets. -/
  | flushStepComplete
  /-- STORE_CUTOFF (R58): The store reaches its cut-off voltage and the engine halts. -/
  | storeCutoff (torn : Nat) (written : Nat)
  /-- RESET_N_LOW (R54): RESET_N low for 10 µs or more starts the reset flush from VMAIN. -/
  | resetNLow
  /-- JTAG_RESET (R56): A reset through the JTAG TAP is handled as a RESET_N reset, including the flush. -/
  | jtagReset
  /-- RESET_FLUSH_TIMEOUT (R54): 50 ms after RESET_N fell, the engine enters reset even if the flush has not ended. -/
  | resetFlushTimeout
  /-- RESET_N_RELEASE (R54): RESET_N rises and the engine restarts from the ROM boot. -/
  | resetNRelease
  /-- SESSION_OPEN (R617): Opens a command session by host key, TLS certificate or physical presence and grants the permitted roles. -/
  | sessionOpen (r : Req) (method : Nat) (roles : Nat) (options : Nat) (auth : List Byte)
  /-- SESSION_CLOSE (R589): Closes a session, discarding its queued requests, ending its freeze and discarding its staging. -/
  | sessionClose (r : Req)
  /-- REG_READ (R594): Returns a range of register words read in one pass. -/
  | regRead (r : Req) (addr : Nat) (count : Nat)
  /-- REG_WRITE (R594): Writes register words in ascending order, stopping at the first failing word; covers registers without a row of their own. -/
  | regWrite (r : Req) (addr : Nat) (values : List Word)
  /-- REG_MODIFY (R588): Atomically applies a masked write to one register and returns old and new values. -/
  | regModify (r : Req) (addr : Nat) (mask : Word) (value : Word)
  /-- IMG_BEGIN (R112): Starts staging an image of stated length and empties SCH_PENDING. -/
  | imgBegin (r : Req) (len : Nat)
  /-- IMG_DATA (R112): Writes staged image bytes at an offset. -/
  | imgData (r : Req) (offset : Nat) (bytes : List Byte)
  /-- IMG_COMMIT (R110): Runs the image checks on the staged image, sets PENDING_STATUS and writes IMG_STAGED. -/
  | imgCommit (r : Req)
  /-- IMG_ACTIVATE (R115): Classifies the staged image's change and applies it hitlessly, through logic changeover, or out of service, or commits only. -/
  | imgActivate (r : Req) (options : Nat)
  /-- ACTIVATION_BOUNDARY (R117): The first wave released at least 1 ms after acceptance brings every setting-class difference into service and resets changed elements. -/
  | activationBoundary
  /-- ACTIVATION_CONFIRM_TIMEOUT (R118): In TWIN the standby has not confirmed within 1 s and the activation is refused in both lanes. -/
  | activationConfirmTimeout
  /-- STRUCTURAL_CONFIG_DONE (R119): After a structural activation in SOLO, the configuration stage with the new image completes and protection runs again. -/
  | structuralConfigDone
  /-- SCH_USER_COMMIT_DONE (R120): The image written to SCH_USER is verified and the slot pointer switches in one word write, or the commit fails. -/
  | schUserCommitDone (good : Bool)
  /-- IMG_STATUS (R593): Returns the slot statuses, the first offending item and the watermarks in service and staged. -/
  | imgStatus (r : Req)
  /-- GROUP_SELECT (R122): Requests a setting group switch, taking effect within two waves. -/
  | groupSelect (r : Req) (group : Nat)
  /-- FW_BEGIN (R609): Starts writing a firmware slot. -/
  | fwBegin (r : Req) (len : Nat) (slot : Nat)
  /-- FW_DATA (R609): Writes firmware bytes at an offset. -/
  | fwData (r : Req) (offset : Nat) (bytes : List Byte)
  /-- FW_COMMIT (R609): Verifies the written slot and on success updates the slot map for the next start, writing FW_STAGED. -/
  | fwCommit (r : Req)
  /-- ROLLBACK_RAISE (R610): After 1 h of protection with both slots valid, the anti-rollback counter rises to the lower SVN. -/
  | rollbackRaise
  /-- LE_MODE (R368): Commands a logic engine mode transition: RUN, STOP, HOLD, WARM or COLD. -/
  | leMode (r : Req) (code : Nat)
  /-- LE_COLD_EXECUTE (R368): At the first instant with no task mid-cycle, all logic state takes the image's initial values and the run clock is zeroed. -/
  | leColdExecute
  /-- LE_STEP (R370): Executes one instruction of the held task, or runs it to END, and returns to HOLD. -/
  | leStep (r : Req) (option : Nat)
  /-- LE_BREAK_SET (R370): Replaces the set of up to 8 breakpoints. -/
  | leBreakSet (r : Req) (entries : List (Nat × Nat))
  /-- BREAKPOINT (R370): A task reaches a breakpoint; all tasks enter HOLD and event 0x5009 is written. -/
  | breakpoint
  /-- HOLD_TIMEOUT (R368): 10 min of TD0 in HOLD pass and the logic engine goes to STOP. -/
  | holdTimeout
  /-- LE_CHANGE (R380): Requests an on-line change of the logic section to the staged image's program. -/
  | leChange (r : Req) (watermark : List Byte) (forces : List Byte) (options : Nat)
  /-- LE_CHANGEOVER (R381): At the first cycle with no task mid-cycle, program banks switch and state migrates by instance identifier. -/
  | leChangeover
  /-- LE_CHANGE_REFUSED (R381): No changeover instant came within twice the longest cyclic period and the change is refused. -/
  | leChangeRefused
  /-- FORCE_SET (R374): Forces an I, Q or N point or a token channel, persisting in MRAM. -/
  | forceSet (r : Req) (point : Nat) (value : Nat)
  /-- FORCE_CLEAR (R375): Removes one force or all forces. -/
  | forceClear (r : Req) (point : Nat)
  /-- FORCE_LIST (R375): Returns the force table entries. -/
  | forceList (r : Req) (first : Nat)
  /-- ACC_SNAP (R194): Returns accumulator windows of channels or process entries, restarting snap windows at a boundary. -/
  | accSnap (r : Req) (kind : Nat) (mask : Nat)
  /-- UPC_URGENT (R452): Requests one urgent process conversion that pre-empts the sequence. -/
  | upcUrgent (r : Req) (chan : Nat) (meas : Nat) (filter : Nat) (rate : Nat) (settle : Nat)
  /-- JOB_SUBMIT (R237): Submits a P3 job to the job queue and returns its result when its last sink is released. -/
  | jobSubmit (r : Req) (set : Nat) (input : List Byte)
  /-- TB_READ (R595): Returns a one-instant view of the four domains and drains capture entries from the servo queue. -/
  | tbRead (r : Req) (wanted : Nat)
  /-- TB_SET_INC (R126): Sets a domain's base increment within its permitted range. -/
  | tbSetInc (r : Req) (domain : Nat) (inc : Nat)
  /-- TB_SLEW (R128): Starts a slew of a domain for a count of ticks. -/
  | tbSlew (r : Req) (domain : Nat) (inc : Nat) (count : Nat)
  /-- TB_STEP (R129): Steps TD1 or TD3 by a signed offset at one tick and increments its epoch. -/
  | tbStep (r : Req) (domain : Nat) (frac : Nat) (offset : Int)
  /-- TB_SERVO_KICK (R143): A write of 1 to KICK restarts the 250 ms servo keep-alive count. -/
  | tbServoKick (r : Req)
  /-- TB_CAPTURE (R131): A write of 1 to LATCH latches all four counters at one timing tick. -/
  | tbCapture (r : Req)
  /-- TB_STEP_GO (R129): A write of GO to TB_STEP_CTL applies the step held in TB_STEP_LO, TB_STEP_HI and FRAC. -/
  | tbStepGo (r : Req)
  /-- TB_SLEW_COUNT_WRITE (R128): A write to TB_SLEWn_COUNT starts the slew, or ends it when 0. -/
  | tbSlewCountWrite (r : Req) (domain : Nat) (count : Nat)
  /-- TB_INC_HI_WRITE (R126): A write to TB_INCn_HI or TB_SLEWn_HI commits all 48 bits of the increment. -/
  | tbIncHiWrite (r : Req) (domain : Nat) (slew : Bool) (hi : Nat)
  /-- KICK_EXPIRED_CLEAR (R168): Writing 1 to TB_SRC_STAT.KICK_EXPIRED clears it. -/
  | kickExpiredClear (r : Req)
  /-- SERVO_KICK_EXPIRY (R143): 250 ms of TD0 pass without a kick; TIME_SOURCE_LOSS fires with value 5 and a locked TD1 enters glide. -/
  | servoKickExpiry
  /-- SLEW_END (R128): A slew's tick count runs out and the domain returns to its base increment. -/
  | slewEnd (domain : Nat)
  /-- SERVO_PERIOD (R144): The 16 Hz servo drains the capture queue, writes the TD1 increment and a correcting slew or step, and kicks. -/
  | servoPeriod (inc : Nat) (offset : Int)
  /-- INC0_LEARN (R144): Every 1 000 s in lock, the servo writes TB_INC0 with the mean TD1 base increment. -/
  | inc0Learn
  /-- PTP_MESSAGE_RX (R134): A PTP event or general message is received, timestamped at the pad and passed to the servo queue and PTP engine. -/
  | ptpMessageRx (port : Nat) (m : PtpMsg) (half : Nat) (portId : List Byte) (gm : Nat) (missing : Bool) (offset : Int) (role : Nat) (utc : Option (Int × Nat))
  /-- PTP_MESSAGE_TX (R136): The PTP engine sends its periodic Pdelay, Sync or Announce message, timestamped at egress. -/
  | ptpMessageTx (port : Nat) (m : PtpMsg) (half : Nat)
  /-- PPS_IN_EDGE (R138): A PPS_IN rising edge is captured and taken as the nearest TD1 second boundary. -/
  | ppsInEdge (half : Nat) (trueErr : Int)
  /-- IRIG_IN_FRAME (R137): An IRIG-B frame is received and its on-time marker captured. -/
  | irigInFrame (f : IrigFrame) (day : Nat) (sec : Nat) (half : Nat)
  /-- PTP_SYNC_MISSING (R141): Two consecutive expected Sync messages are missing and the PTP source is lost. -/
  | ptpSyncMissing (port : Nat)
  /-- ANNOUNCE_RECEIPT_TIMEOUT (R141): Announce receipt times out after 3 intervals and the PTP source is lost. -/
  | announceReceiptTimeout (port : Nat)
  /-- PPS_EDGE_MISSING (R141): No PPS_IN edge for 1.1 s of TD1 and the PPS source is lost. -/
  | ppsEdgeMissing
  /-- IRIG_FRAME_MISSING (R141): Two consecutive IRIG frames are missing and the IRIG source is lost. -/
  | irigFrameMissing
  /-- TIME_CLASS (R147): The predicted glide error passes a class bound; the accuracy class changes and event 0x1007 is written. -/
  | timeClass (dTemp : Nat)
  /-- GLIDE_TO_FREE (R148): The predicted error exceeds 100 ms and TD1 leaves glide for free, class 15. -/
  | glideToFree (dTemp : Nat)
  /-- UTC_OFFSET_CHANGE (R145): A pending leap second takes effect at the end of the UTC day. -/
  | utcOffsetChange
  /-- REF_IN_LOST (R139): REF_IN is lost and the timing PLL switches to the TCXO within 10 µs. -/
  | refInLost
  /-- REF_IN_RESTORED (R628): REF_IN has been within specification for 10 s of TD0. -/
  | refInRestored
  /-- GRID_REPHASE (R154): In JUMP mode at the next whole TD1 second, the grid re-phases, wave numbers jump and 48 samples carry SETTLE. -/
  | gridRephase
  /-- GRID_ALIGNED (R155): The grid is aligned again and event 0x1006 is written. -/
  | gridAligned
  /-- TD2_SERVO (R127): At 64 Hz the standby servoes TD2 to the partner's TD1 using TIME cell timestamps. -/
  | td2Servo (inc : Nat) (slew : Nat) (count : Nat)
  /-- LAUNCH_ARM (R159): Arms a command-owned launch entry after ownership, lead and target checks. -/
  | launchArm (r : Req) (entry : Nat) (value : LaunchVal)
  /-- LAUNCH_CANCEL (R162): Cancels a launch entry of the canceller's own owner. -/
  | launchCancel (r : Req) (entry : Nat)
  /-- LAUNCH_FIRE (R161): TD1 equals an entry's instant; its action takes effect and the entry is freed or advances by its period. -/
  | launchFire
  /-- HEADBOX_WAVE_RELEASE (R188): 192 µs after a sample instant, the headbox takes source values, substitutes, agrees, marks quality and releases the wave to the graph. -/
  | headboxWaveRelease (raw : List RawSample) (full : Bool) (sat : BitVec 32)
  /-- PROVISIONAL_TIMEOUT (R548): No takeover follows a provisional wave within 40 µs and divergence cause 5 applies. -/
  | provisionalTimeout
  /-- ROTATION_STEP_START (R172): A rotation step begins at sample index 1 600 × m and the spare moves to the reference bus for CAL. -/
  | rotationStepStart
  /-- ROTATION_CAL_END (R173): The CAL phase ends; the spare's new corrections are checked and it connects to the step's input, or SLICE_CAL_FAIL fires. -/
  | rotationCalEnd (gain : Int) (ofs : Int) (resid : List Int)
  /-- ROTATION_DECISION (R176): At wave 1 360 the step is void, swaps the slices, or starts mismatch resolution. -/
  | rotationDecision (sumD : Nat) (sumY : Nat)
  /-- REFERENCE_CHECK_DONE (R176): A 20 ms reference check of the spare or serving slice completes and resolution proceeds or removes a slice. -/
  | referenceCheckDone (resid : List Int)
  /-- SPARE_CONNECT_DONE (R176): After 1 ms of decimator fill, the input moves to the spare at a wave boundary. -/
  | spareConnectDone
  /-- SV_FRAME_RX (R198): A subscribed SV frame is received, checked and used by the resampler. -/
  | svFrameRx (f : SvFrame)
  /-- TW_ARRIVAL (R318): A modal stream's |g| reaches the threshold; the peak and arrival instant are fitted and an arrival descriptor is issued. -/
  | twArrival (stream : Nat) (sec : Nat) (slot : Nat) (g : List Int) (cross : Nat) (sat : Bool) (vref : Int)
  /-- TW_REARM (R319): A stream re-arms once |g| has stayed low for 8 samples and the re-arm hold has passed. -/
  | twRearm (stream : Nat)
  /-- TW_LEAD_WINDOW_CLOSE (R321): The 200 ns window after a burst's first arrival closes and LEAD is set on one arrival. -/
  | twLeadWindowClose (terminal : Nat)
  /-- TW_SUPERVISION_END (R329): The supervision window ends and the supervision descriptor is issued with ρ. -/
  | twSupervisionEnd (terminal : Nat) (dv : List Int) (di : List Int)
  /-- TW_BURST_CLOSE (R321): The quiet time passes with no arrival; the burst closes and its end descriptor is issued. -/
  | twBurstClose (terminal : Nat)
  /-- TW_NOISE_FLOOR (R317): FLOOR has stayed above the stream's limit for 1 s and detector 0x27 fires. -/
  | twNoiseFloor (stream : Nat)
  /-- TW_NOISE_CLEARED (R317): FLOOR has stayed below 0.8 × the limit for 1 s. -/
  | twNoiseCleared (stream : Nat)
  /-- TW_LOCATION_DONE (R331): The location job, after a matching remote message or 2 s, applies the first usable method and reports the distance or a failure. -/
  | twLocationDone (terminal : Nat)
  /-- TW_EXCHANGE_SEND (R339): A burst's exchange messages are sent at 0 ms, 20 ms and 100 ms of TD0. -/
  | twExchangeSend
  /-- TW_MSG_RX (R339): A received exchange message is checked, deduplicated and held for matching. -/
  | twMsgRx (bytes : List Byte)
  /-- TW_MSG_EXPIRY (R339): An accepted exchange message reaches 10 s of TD0 and is no longer held for matching. -/
  | twMsgExpiry
  /-- TW_VMEAS_ARM (R337): A write of 1 to ACQ_TW_VMEAS.ARM arms a velocity measurement for 60 s. -/
  | twVmeasArm (r : Req) (terminal : Nat)
  /-- TW_VMEAS_TIMEOUT (R337): 60 s of TD0 pass with the velocity measurement armed. -/
  | twVmeasTimeout
  /-- DESCRIPTOR_ENTRY (R215): A descriptor enters the graph and creates P0 instances unless D0 is exceeded. -/
  | descriptorEntry
  /-- OP_RETIRE (R216): An op instance retires; flows release ready outputs, downstream counters decrement and dispatch continues. -/
  | opRetire (core : Nat) (cycles : Nat) (fault : Nat) (vals : List (Nat × Nat)) (bytes : List Byte)
  /-- OP_CYCLE_LIMIT (R231): An instance still executing at its abort limit is aborted, its context restored and outputs released invalid. -/
  | opCycleLimit (core : Nat)
  /-- P1_DEADLINE (R234): Wave n's P1 outputs are not released by their deadline; GRAPH_OVERRUN fires and held outputs are released questionable. -/
  | p1Deadline
  /-- P0_DEADLINE (R234): A P0 instance set is not released within 50 µs; GRAPH_OVERRUN fires and void tokens are released. -/
  | p0Deadline
  /-- P2_LATE (R233): A P2 output has not retired by its deadline and event 0x3007 is written. -/
  | p2Late
  /-- OVERRUN_QUIET (R236): 1 000 ms without an overrun after HEALTHY was withheld lets HEALTHY assert again. -/
  | overrunQuiet
  /-- DELAY_ENTRY_FIRE (R222): A delay-list entry reaches its tick and its timer token goes to the node's instance of the next wave. -/
  | delayEntryFire
  /-- JOB_START (R237): A queued P3 job starts and creates instances of its entry set. -/
  | jobStart
  /-- FREQ_TRACK_HOLD_EXPIRY (R246): The frequency hold time ends and the tracker output becomes nominal, invalid. -/
  | freqTrackHoldExpiry (terminal : Nat)
  /-- PMU_TURN_OFF (R265): A command frame turns off transmission of a stream. -/
  | pmuTurnOff (idcode : Nat) (good : Bool)
  /-- PMU_TURN_ON (R266): A command frame turns on transmission from the next unassembled reporting instant. -/
  | pmuTurnOn (idcode : Nat) (good : Bool)
  /-- PMU_SEND_HDR (R265): A command frame asks for the header frame, built by the management cores. -/
  | pmuSendHdr (idcode : Nat) (good : Bool) (ip : Nat)
  /-- PMU_SEND_CFG (R265): A command frame asks for CFG-1, CFG-2 or CFG-3. -/
  | pmuSendCfg (idcode : Nat) (good : Bool) (kind : Nat) (ip : Nat)
  /-- CYCLIC_TASK_RELEASE (R362): A cyclic task is released at its grid slot, or skipped if its previous cycle is still pending. -/
  | cyclicTaskRelease (task : Nat)
  /-- LOGIC_CYCLE_READY (R365): 16 µs after release, the cycle becomes ready, may pre-empt, copies its input image and starts. -/
  | logicCycleReady
  /-- EVENT_TASK_TRIGGER (R363): A trigger reaches the logic engine and queues one cycle of its event task. -/
  | eventTaskTrigger
  /-- LE_WATCHDOG (R372): A cycle misses its deadline; tasks halt, owned outputs take safe values and the engine enters SAFE. -/
  | leWatchdog
  /-- RETAIN_WRITE (R378): Within 10 ms of a change, or when dirty state reaches 64 KiB, changed words are written to MRAM. -/
  | retainWrite
  /-- LD (R353): RLO := bit operand. -/
  | leLd (sp : Nat) (addr : Nat)
  /-- LDN (R353): RLO := not bit operand. -/
  | leLdn (sp : Nat) (addr : Nat)
  /-- AND (R353): RLO := RLO and operand. -/
  | leAnd (sp : Nat) (addr : Nat)
  /-- ANDN (R353): RLO := RLO and not operand. -/
  | leAndn (sp : Nat) (addr : Nat)
  /-- OR (R353): RLO := RLO or operand. -/
  | leOr (sp : Nat) (addr : Nat)
  /-- ORN (R353): RLO := RLO or not operand. -/
  | leOrn (sp : Nat) (addr : Nat)
  /-- XOR (R353): RLO := RLO xor operand. -/
  | leXor (sp : Nat) (addr : Nat)
  /-- XORN (R353): RLO := RLO xor not operand. -/
  | leXorn (sp : Nat) (addr : Nat)
  /-- NOT (R353): Inverts RLO. -/
  | leNot
  /-- SETR (R353): RLO := 1. -/
  | leSetr
  /-- CLRR (R353): RLO := 0. -/
  | leClrr
  /-- AND_OPEN (R355): AND( pushes RLO and the operation on the nesting stack. -/
  | leAndOpen
  /-- ANDN_OPEN (R355): ANDN( pushes RLO and the operation on the nesting stack. -/
  | leAndnOpen
  /-- OR_OPEN (R355): OR( pushes RLO and the operation on the nesting stack. -/
  | leOrOpen
  /-- ORN_OPEN (R355): ORN( pushes RLO and the operation on the nesting stack. -/
  | leOrnOpen
  /-- XOR_OPEN (R355): XOR( pushes RLO and the operation on the nesting stack. -/
  | leXorOpen
  /-- BRACKET_CLOSE (R355): ) pops the entry and combines the saved RLO with the inner RLO. -/
  | leBracketClose
  /-- FP (R360): Rising-edge detection of RLO against an edge memory, which then stores RLO. -/
  | leFp (sp : Nat) (addr : Nat)
  /-- FN (R360): Falling-edge detection of RLO against an edge memory, which then stores RLO. -/
  | leFn (sp : Nat) (addr : Nat)
  /-- ST (R353): Stores RLO to a bit. -/
  | leSt (sp : Nat) (addr : Nat)
  /-- STN (R353): Stores not RLO to a bit. -/
  | leStn (sp : Nat) (addr : Nat)
  /-- SET (R353): Sets a bit when RLO is 1. -/
  | leSet (sp : Nat) (addr : Nat)
  /-- RST (R353): Clears a bit when RLO is 1. -/
  | leRst (sp : Nat) (addr : Nat)
  /-- TON (R357): On-delay timer with input RLO, advancing by run-clock time; RLO := output. -/
  | leTon (sp : Nat) (addr : Nat)
  /-- TOF (R357): Off-delay timer with input RLO; RLO := output. -/
  | leTof (sp : Nat) (addr : Nat)
  /-- TP (R357): Pulse timer started by a rising input; RLO := output. -/
  | leTp (sp : Nat) (addr : Nat)
  /-- TRST (R357): Resets a timer when RLO is 1. -/
  | leTrst (sp : Nat) (addr : Nat)
  /-- TPV (R353): Sets a timer's preset from ACC. -/
  | leTpv (sp : Nat) (addr : Nat)
  /-- CTU (R359): Counts up on a rising RLO, saturating; RLO := count ≥ preset. -/
  | leCtu (sp : Nat) (addr : Nat)
  /-- CTD (R359): Counts down on a rising RLO, saturating; RLO := count ≤ 0. -/
  | leCtd (sp : Nat) (addr : Nat)
  /-- CRST (R353): Sets a count to 0 when RLO is 1. -/
  | leCrst (sp : Nat) (addr : Nat)
  /-- CLD (R353): Loads a count with its preset when RLO is 1. -/
  | leCld (sp : Nat) (addr : Nat)
  /-- CPV (R353): Sets a counter's preset from ACC. -/
  | leCpv (sp : Nat) (addr : Nat)
  /-- LW (R353): ACC := word operand. -/
  | leLw (sp : Nat) (addr : Nat)
  /-- SW (R353): Stores ACC to a word. -/
  | leSw (sp : Nat) (addr : Nat)
  /-- SWC (R353): Stores ACC to a word when RLO is 1. -/
  | leSwc (sp : Nat) (addr : Nat)
  /-- LDH (R353): Loads ACC bits 31:20 from a K constant. -/
  | leLdh (sp : Nat) (addr : Nat)
  /-- ADD (R354): Signed saturating addition into ACC. -/
  | leAdd (sp : Nat) (addr : Nat)
  /-- SUB (R354): Signed saturating subtraction into ACC. -/
  | leSub (sp : Nat) (addr : Nat)
  /-- MUL (R354): Signed saturating multiplication into ACC. -/
  | leMul (sp : Nat) (addr : Nat)
  /-- DIV (R354): Signed division truncating toward 0, with defined results for division by 0. -/
  | leDiv (sp : Nat) (addr : Nat)
  /-- MOD (R354): Signed remainder, 0 for division by 0. -/
  | leMod (sp : Nat) (addr : Nat)
  /-- NEG (R354): ACC := −ACC, saturating. -/
  | leNeg
  /-- ABS (R354): ACC := |ACC|, saturating. -/
  | leAbs
  /-- WAND (R353): Bitwise AND into ACC. -/
  | leWand (sp : Nat) (addr : Nat)
  /-- WOR (R353): Bitwise OR into ACC. -/
  | leWor (sp : Nat) (addr : Nat)
  /-- WXOR (R353): Bitwise XOR into ACC. -/
  | leWxor (sp : Nat) (addr : Nat)
  /-- WNOT (R353): Bitwise NOT of ACC. -/
  | leWnot
  /-- SHL (R353): Shifts ACC left by a constant. -/
  | leShl (sp : Nat) (addr : Nat)
  /-- SHR (R353): Shifts ACC right logically by a constant. -/
  | leShr (sp : Nat) (addr : Nat)
  /-- SAR (R353): Shifts ACC right arithmetically by a constant. -/
  | leSar (sp : Nat) (addr : Nat)
  /-- CEQ (R353): RLO := ACC = operand, signed. -/
  | leCeq (sp : Nat) (addr : Nat)
  /-- CNE (R353): RLO := ACC ≠ operand. -/
  | leCne (sp : Nat) (addr : Nat)
  /-- CLT (R353): RLO := ACC < operand, signed. -/
  | leClt (sp : Nat) (addr : Nat)
  /-- CLE (R353): RLO := ACC ≤ operand, signed. -/
  | leCle (sp : Nat) (addr : Nat)
  /-- CGT (R353): RLO := ACC > operand, signed. -/
  | leCgt (sp : Nat) (addr : Nat)
  /-- CGE (R353): RLO := ACC ≥ operand, signed. -/
  | leCge (sp : Nat) (addr : Nat)
  /-- FADD (R354): binary32 addition into ACC. -/
  | leFadd (sp : Nat) (addr : Nat)
  /-- FSUB (R354): binary32 subtraction into ACC. -/
  | leFsub (sp : Nat) (addr : Nat)
  /-- FMUL (R354): binary32 multiplication into ACC. -/
  | leFmul (sp : Nat) (addr : Nat)
  /-- FDIV (R354): binary32 division into ACC, infinity on division by 0. -/
  | leFdiv (sp : Nat) (addr : Nat)
  /-- FLT (R353): Converts the integer in ACC to binary32. -/
  | leFlt
  /-- FIX (R354): Rounds the binary32 in ACC to a saturated integer. -/
  | leFix
  /-- FCLT (R354): RLO := ACC < operand as binary32; 0 with NaN. -/
  | leFclt (sp : Nat) (addr : Nat)
  /-- FCGT (R354): RLO := ACC > operand as binary32; 0 with NaN. -/
  | leFcgt (sp : Nat) (addr : Nat)
  /-- FCEQ (R354): RLO := ACC = operand as binary32; 0 with NaN. -/
  | leFceq (sp : Nat) (addr : Nat)
  /-- JMP (R353): Jumps to an address. -/
  | leJmp (addr : Nat)
  /-- JC (R353): Jumps if RLO is 1. -/
  | leJc (addr : Nat)
  /-- JNC (R353): Jumps if RLO is 0. -/
  | leJnc (addr : Nat)
  /-- CALL (R353): Calls a subroutine, pushing a return address. -/
  | leCall (addr : Nat)
  /-- RET (R353): Returns from a subroutine. -/
  | leRet
  /-- END (R365): Ends the task cycle and passes Q words, N publications, logic P points and launch requests on in one step. -/
  | leEnd
  /-- NOP (R353): Does nothing for one cycle. -/
  | leNop
  /-- EVT (R353): Raises user event 0xE000 + constant with value ACC when RLO is 1. -/
  | leEvt (sp : Nat) (addr : Nat)
  /-- LARM (R361): Queues a logic-owned launch arm from W words, passed to the time unit at cycle end. -/
  | leLarm (sp : Nat) (addr : Nat)
  /-- LCAN (R361): Queues cancellation of the logic-owned launch entry numbered in ACC, passed at cycle end. -/
  | leLcan
  /-- LE_PEEK_SEL_WRITE (R385): A write to LE_PEEK_SEL selects a point whose program value LE_PEEK_DATA then returns atomically. -/
  | lePeekSelWrite (r : Req) (value : Word)
  /-- BRK_HIT_CLEAR (R388): Writing 1 to LE_BRK_STAT.HIT clears it. -/
  | brkHitClear (r : Req)
  /-- GS_NODE_SEL_WRITE (R241): A write to GS_NODE_SEL selects the node whose figures GS_NODE_MAX shows, or answers RANGE. -/
  | gsNodeSelWrite (r : Req) (node : Nat)
  /-- FIELD_FRAME_START (R411): At each 8 µs multiple of TD1, a downstream field frame is sent with DO_CMD from the mailbox, BIND_EN, launches and one config word. -/
  | fieldFrameStart
  /-- FIELD_UPSTREAM_RX (R415): An upstream field frame is checked and its DI states, edges and diagnostics are taken. -/
  | fieldUpstreamRx (di : Nat) (chg1 : Nat) (chg2 : Nat) (chg3 : Nat) (first : Nat) (last : Nat) (level : Nat) (temp : Int)
  /-- DI_CHATTER_CLEARED (R423): No change for the quiet time Q; the input takes its present state and becomes valid. -/
  | diChatterCleared (input : Nat)
  /-- DI_MAX_ON (R424): An input stays on longer than its maximum-on time and one event is written. -/
  | diMaxOn (input : Nat)
  /-- FIELD_UPSTREAM_MISSING (R416): An upstream frame is not complete with a good CRC by the next frame start and counts as missing. -/
  | fieldUpstreamMissing
  /-- FIELD_SELFTEST_TIMEOUT (R418): No good field frame within 5 ms of start fires FIO_BARRIER_CRC cause 3. -/
  | fieldSelftestTimeout
  /-- FIELD_DOWNSTREAM_RX (R412): The field side receives a downstream frame, adopts config words and applies commands and launches. -/
  | fieldDownstreamRx
  /-- FIELD_DOWNSTREAM_MISSING (R416): The field side finds an expected downstream frame bad or missing and reports DOWN_ERR. -/
  | fieldDownstreamMissing
  /-- DO_LAUNCH_SWITCH (R430): A pending launch reaches its offset and the output switches to the launch level. -/
  | doLaunchSwitch (dout : Nat)
  /-- FIO_DO_OVERLOAD (R431): An output stays in current limit longer than its overload time. -/
  | fioDoOverload (dout : Nat)
  /-- FIO_DO_OVERTEMP (R431): An output's switch reaches thermal shutdown and turns off. -/
  | fioDoOvertemp (dout : Nat)
  /-- DO_THERMAL_RETRY (R431): 100 ms after thermal shutdown the output retries while its command stays on. -/
  | doThermalRetry (dout : Nat)
  /-- FIO_DO_OPEN_WIRE (R431): An output's open-wire condition persists 100 ms. -/
  | fioDoOpenWire (dout : Nat)
  /-- FIO_DO_EXT_VOLTAGE (R431): An off output's pad stays above 10 V for 1 ms. -/
  | fioDoExtVoltage (dout : Nat)
  /-- FIO_DI_OPEN_WIRE (R426): An input's off-state current stays below threshold for 100 ms. -/
  | fioDiOpenWire (input : Nat)
  /-- FIO_DI_OVERLOAD (R426): An input exceeds its overload threshold. -/
  | fioDiOverload (input : Nat)
  /-- FIO_DI_OVERTEMP (R426): An input limiter exceeds 150 °C and folds back. -/
  | fioDiOvertemp (input : Nat)
  /-- FIO_DIAG_CLEARED (R431): A field diagnostic condition has been absent for 100 ms and clears. -/
  | fioDiagCleared (det : Nat) (chan : Nat)
  /-- FIO_SUPPLY_LOW (R433): A group's FLS falls below 18.0 V (level 1) or below 12.0 V with hardware lock-out (level 2). -/
  | fioSupplyLow (group : Nat) (level : Nat)
  /-- FIO_SUPPLY_RESTORED (R433): FLS has stayed above 16.0 V for 1 ms, or rises above 18.5 V; outputs return subject to restart-inhibit. -/
  | fioSupplyRestored (group : Nat) (full : Bool)
  /-- PROCESS_FRAME_START (R459): At each 32 µs multiple of TD1 a downstream process frame is sent with DAC codes, OUT_EN, starts, urgent request and a config word. -/
  | processFrameStart (arrives : Bool)
  /-- PROCESS_UPSTREAM_RX (R461): An upstream process frame delivers results, readbacks and channel status. -/
  | processUpstreamRx (seq : Nat) (status : Nat) (rbs : List Nat) (chStat : List Nat) (pl24 : Nat) (temp : Int)
  /-- PROCESS_UPSTREAM_MISSING (R416): An upstream process frame is bad or missing and is counted. -/
  | processUpstreamMissing
  /-- PROCESS_SIDE_SAFE (R462): After three bad downstream frames the process side drives failure currents and 0 V and stops passes. -/
  | processSideSafe
  /-- CONVERSION_COMPLETE (R450): A sigma-delta conversion completes, is stamped, discarded or kept, and updates accumulators and pass means. -/
  | conversionComplete (code : Int) (ovr : Bool)
  /-- SEQ_PASS_START (R449): A periodic start arrives; a pass starts, is latched, or is dropped as overlap. -/
  | seqPassStart
  /-- READBACK_VERIFICATION (R452): Every 60 s, or on a first mismatch, a readback verification conversion is issued for a mode 6 channel. -/
  | readbackVerification (chan : Nat)
  /-- UPC_READBACK_MISMATCH (R454): Readback differs from command for 100 ms and the channel drives its failure value. -/
  | upcReadbackMismatch (chan : Nat)
  /-- READBACK_MISMATCH_CLEAR (R454): The mismatch has been absent for 1 s with the command restored. -/
  | readbackMismatchClear (chan : Nat)
  /-- OUTPUT_STARTUP_TEST (R455): The 5 ms 1.0 mA test ends and may fire UPC_OPEN_LOOP or UPC_COMPLIANCE cause 1. -/
  | outputStartupTest (chan : Nat) (rb : Nat) (mv : Nat)
  /-- UPC_COMPLIANCE (R456): Headroom stays below 1.0 V for the compliance time. -/
  | upcCompliance (chan : Nat)
  /-- UPC_OPEN_LOOP (R456): A loop current stays too low for 100 ms. -/
  | upcOpenLoop (chan : Nat)
  /-- UPC_SIGNAL_RANGE (R458): An input stays out of range for the signal-range time. -/
  | upcSignalRange (chan : Nat)
  /-- TC_TEST (R458): Once per second 1 µA is injected into TC+ and a voltage above 50 mV fires UPC_TC_OPEN. -/
  | tcTest (chan : Nat) (high : Bool)
  /-- UPC_DIAG_CLEARED (R458): A process diagnostic has been absent for 1 s and clears. -/
  | upcDiagCleared (det : Nat) (chan : Nat)
  /-- UPC_CH_MODE_WRITE (R464): A write to UPC_CHn_MODE changes a channel's mode when the logic engine is stopped and SOLO. -/
  | upcChModeWrite (r : Req) (chan : Nat) (value : Word)
  /-- RIO_UPSTREAM_RX (R394): A station's upstream frame is received, its path delay updated and its inputs held for the cycle. -/
  | rioUpstreamRx (station : Nat) (flags : Nat) (seq : Nat) (rxSeq : Nat) (mark : List Byte) (tx : Nat) (rx : Nat) (data : List Byte) (good : Bool)
  /-- RIO_DOWNSTREAM_SEND (R392): At R_k + D one downstream frame is sent to each station with outputs, APPLY_AT and NEXT_SAMPLE. -/
  | rioDownstreamSend
  /-- DUCIA_RING_CYCLE (R404): Every 2 ms of TD0 the ring master starts a Ducia ring cycle. -/
  | duciaRingCycle
  /-- DUCIA_RING_FRAME_RX (R405): A ring cycle fills a station's input buffer, handed to tasks once complete and good. -/
  | duciaRingFrameRx (station : Nat) (data : List Byte) (good : Bool)
  /-- DR_ARM (R478): Arms or disarms the disturbance recorder. -/
  | drArm (r : Req) (arm : Nat)
  /-- DR_TRIGGER (R474): Fires a manual trigger unit at the next wave released. -/
  | drTrigger (r : Req) (unit : Nat)
  /-- DR_UNIT_FIRED_CLEAR (R503): Writing 1 to bits of DR_UNIT_FIRED clears them. -/
  | drUnitFiredClear (r : Req) (mask : Word)
  /-- RECORD_OPEN (R476): The 100 µs collection time ends and the record opens with T0 at the earliest collected instant. -/
  | recordOpen
  /-- RECORD_END (R481): Capture reaches the record's end slot, or T0 + E, and the record closes or continues. -/
  | recordEnd
  /-- HOLD_OFF_EXPIRY (R479): HOLD_TIME of TD0 passes after a chain ends and the recorder re-arms. -/
  | holdOffExpiry
  /-- RATE_STEP_UP (R486): A ring's backlog reaches 50 % and the rate step rises by one. -/
  | rateStepUp (high : Nat) (prot : Nat)
  /-- RATE_STEP_DOWN (R486): Both backlogs have stayed at or below 20 % for 1 s and the step falls by one. -/
  | rateStepDown (high : Nat) (prot : Nat)
  /-- RING_FULL (R487): A ring has no free space; new samples are discarded, the record truncates and a GAP continuation follows. -/
  | ringFull (high : Bool)
  /-- REEL_DRAIN_DONE (R488): A record's coded data has been drained to the reel and its header is written at close. -/
  | reelDrainDone (id : Nat) (high : Nat) (prot : Nat)
  /-- DR_LIST (R496): Returns reel index entries newest first. -/
  | drList (r : Req) (from_ : Nat) (max : Nat)
  /-- DR_READ (R496): Returns raw record bytes from an offset. -/
  | drRead (r : Req) (id : Nat) (offset : Nat) (len : Nat)
  /-- DR_EXPORT (R497): Streams a record or chain as a COMTRADE file set. -/
  | drExport (r : Req) (id : Nat) (set : Nat) (format : Nat) (chain : Nat) (file : Nat) (offset : Nat)
  /-- EVENT_ENTRY (R507): A submitted event is checked for room and rate limit, numbered and placed with its companions in the front buffer. -/
  | eventEntry
  /-- RATE_REFILL (R511): A refill period ends and one token is added to a bucket below full. -/
  | rateRefill (code : Nat)
  /-- SUPPRESSED_SUMMARY_60S (R512): Every 60 s of continued suppression a SUPPRESSED record is written. -/
  | suppressedSummary60s (code : Nat)
  /-- COMMIT_PERIOD (R513): 1 s of TD0 since the last commit with the buffer not empty triggers a commit. -/
  | commitPeriod
  /-- COMMIT_START (R513): A commit starts within 1 ms of its trigger and takes every record present. -/
  | commitStart
  /-- PAGE_COMMIT_COMPLETE (R514): A page's reliable-write transaction completes and its records leave the front buffer. -/
  | pageCommitComplete
  /-- EVR_READ (R519): Returns event records from a sequence number, optionally including the front buffer. -/
  | evrRead (r : Req) (from_ : Nat) (max : Nat) (options : Nat)
  /-- EVR_FREEZE (R520): Stops commits except flush commits and protects the retained range. -/
  | evrFreeze (r : Req)
  /-- EVR_THAW (R521): The holder ends the freeze, LOG_THAWED is written and everything present is committed. -/
  | evrThaw (r : Req)
  /-- FREEZE_TIMEOUT (R521): 30 s of TD0 since EVR_FREEZE end the freeze. -/
  | freezeTimeout
  /-- RISIA_HELLO_RX (R530): A HELLO cell is received; the link comes up and roles are settled. -/
  | risiaHelloRx (good : Bool) (serial : Nat) (est : Bool) (st : Nat) (active : Bool) (mark : List Byte)
  /-- RISIA_HEARTBEAT_RX (R529): A HEARTBEAT cell carries the partner's state, role, wave and BIND_OUT level. -/
  | risiaHeartbeatRx (good : Bool) (lane : Nat) (st : Nat) (active : Bool) (wave : Nat) (bind : Bool) (flags : Nat)
  /-- RISIA_AGREE_RX (R538): An AGREE cell fragment of agreement data is received for its wave. -/
  | risiaAgreeRx (good : Bool) (kind : Nat) (wave : Nat) (vals : List Nat) (fill : Nat) (lat : Nat)
  /-- RISIA_DESC_RX (R324): A DESC cell carries one of the active's arrival descriptors. -/
  | risiaDescRx (good : Bool) (d : Machine.Desc)
  /-- RISIA_DIGEST_RX (R542): A DIGEST cell arrives and the wave digests are compared. -/
  | risiaDigestRx (good : Bool) (wave : Nat) (digest : Nat)
  /-- RISIA_CONTROL_RX (R529): A CONTROL cell carries a failure message, handover, command scheduling, confirmation or cross-check decision. -/
  | risiaControlRx (good : Bool) (vals : List Nat)
  /-- RISIA_BULK_RX (R529): A BULK cell carries image or state transfer data at an offset. -/
  | risiaBulkRx (good : Bool) (kind : Nat) (total : Nat) (off : Nat) (bytes : List Byte)
  /-- RISIA_TIME_RX (R529): A TIME cell carries timestamps for the TD2 servo. -/
  | risiaTimeRx (good : Bool) (err : Int)
  /-- PAIR_HEARTBEAT_TX (R529): Every 10 µs of TD0 a HEARTBEAT cell is sent on each lane. -/
  | pairHeartbeatTx
  /-- PLK_LANE_DOWN (R530): A lane has had no good cell for 40 µs of TD0. -/
  | plkLaneDown (lane : Nat)
  /-- HB_IN_PULSE (R531): A heartbeat pulse is received on HB_IN and its width code judged. -/
  | hbInPulse (width : Nat)
  /-- HB_WIRE_SILENT (R531): 40 µs of TD0 pass with no accepted heartbeat pulse. -/
  | hbWireSilent
  /-- BIND_IN_CHANGE (R532): BIND_IN changes level; the lane may raise BIND_OUT or take over. -/
  | bindInChange (level : Bool)
  /-- BIND_HOLD_DROP (R532): The heartbeat generator has issued no pulse for 25 µs and the hold circuit drops BIND_OUT. -/
  | bindHoldDrop
  /-- BIND_FAULT (R532): BIND_IN differs from the partner's reported level for over 100 µs. -/
  | bindFault
  /-- ESTABLISHED (R534): An engine has released waves as active for 1 s of TD0 and becomes established. -/
  | established
  /-- LINK_START_TIMEOUT (R534): The link is not up within 1 s of the configuration stage; the engine goes COLD standby or SOLO active. -/
  | linkStartTimeout
  /-- JOIN_SNAPSHOT_DONE (R535): The snapshot of wave W0 has been received and loaded, and catch-up begins. -/
  | joinSnapshotDone (snap : Machine.Snap)
  /-- JOIN_CATCHUP_DONE (R535): The standby is within one wave of the active and both enter TWIN at the next boundary. -/
  | joinCatchupDone
  /-- JOIN_FAILED (R537): A join fails by cause and is retried after 10 s. -/
  | joinFailed (full : Bool)
  /-- JOIN_RETRY (R537): 10 s of TD0 after a failed join, the join is retried. -/
  | joinRetry
  /-- AGREEMENT_DUE_MISSING (R543): A digest or agreement item is missing by its due time with the link up; divergence cause 2. -/
  | agreementDueMissing (item : Nat)
  /-- VERDICT_COMPLETE (R543): The verdict tests end and the outcome is handover, rejoin or a faulty standby. -/
  | verdictComplete (pass : Bool)
  /-- HANDOVER_WAVE (R546): The named handover wave is released; agreement switches sides and the old active drops BIND_OUT. -/
  | handoverWave
  /-- PAIR_DRILL (R553): Starts a crossover drill: a handover, a dwell of checks and a handover back. -/
  | pairDrill (r : Req) (dwell : Nat)
  /-- DRILL_DWELL_END (R553): The drill dwell ends, checks are judged and the roles are returned. -/
  | drillDwellEnd
  /-- DRILL_DUE (R553): Once per day, PAIR_DRILL_T older than the interval writes DRILL_DUE. -/
  | drillDue
  /-- PAIR_RELEASE (R555): Clears a faulty declaration, yields the active role, leaves the pair, or starts a migrating join. -/
  | pairRelease (r : Req) (action : Nat)
  /-- MIGRATE_WARM_DONE (R554): After the migrating warm time, MIGRATE_READY sets. -/
  | migrateWarmDone
  /-- GOOSE_FRAME_RX (R572): A GOOSE frame is matched to a subscription, checked, judged newer and its values scheduled into the N space. -/
  | gooseFrameRx (f : GooseFrame)
  /-- GOOSE_SUB_LOST (R573): No frame within timeAllowedToLive; the subscription's points become invalid. -/
  | gooseSubLost (sub : Nat)
  /-- GOOSE_RETRANSMIT (R568): A retransmission interval expires and the frame is resent with sqNum incremented. -/
  | gooseRetransmit (pub : Nat)
  /-- PRP_SUPERVISION_TX (R562): Every 2 s a PRP/HSR supervision frame is sent on both ports. -/
  | prpSupervisionTx
  /-- PRP_DUP_AGEOUT (R562): A duplicate table entry reaches 400 ms of TD0 and ages out. -/
  | prpDupAgeout
  /-- NET_FRAME_RX (R563): A frame arrives at a port, is address-filtered, duplicate-discarded or forwarded, and queued. -/
  | netFrameRx (f : NetFrame)
  /-- ARP_RX (R564): An ARP request or reply is answered or updates the cache. -/
  | arpRx (request : Bool) (target : Nat) (ip : Nat) (mac : Nat)
  /-- ARP_REFRESH (R564): Every 60 s of TD0 the ARP cache is refreshed. -/
  | arpRefresh
  /-- ICMP_ECHO (R564): An ICMP echo request receives an echo reply. -/
  | icmpEcho (ip : Nat) (bytes : List Byte)
  /-- TLS_RECORD_RX (R597): TLS application data delivers command packets on a network session. -/
  | tlsRecordRx (conn : Nat) (handshake : Option TlsClient) (bytes : List Byte)
  /-- LINK_LOSS (R577): PCS synchronisation or link is lost for 10 ms and NET_LANE_LOSS fires cause 1. -/
  | linkLoss (port : Nat)
  /-- LANE_NO_FRAME (R577): No frame on a PRP/HSR lane for 2 s while the other receives; NET_LANE_LOSS cause 2. -/
  | laneNoFrame (port : Nat)
  /-- RING_OPEN (R577): The node's supervision frames fail to return for 3 intervals; NET_LANE_LOSS cause 3. -/
  | ringOpen (port : Nat)
  /-- NET_LANE_RESTORED (R577): A lane-loss condition has been absent for 1 s. -/
  | netLaneRestored (port : Nat)
  /-- HPI_WRITE_TRANSFER (R583): A host write transfer delivers one packet to the command processor, or is discarded. -/
  | hpiWriteTransfer (bytes : List Byte)
  /-- HPI_READ_TRANSFER (R583): A host read transfer takes one pending device-to-host packet. -/
  | hpiReadTransfer (complete : Bool)
  /-- UART_FRAME_RX (R596): A framed packet arrives on the maintenance UART. -/
  | uartFrameRx (bytes : List Byte)
  /-- UART_FRAME_TIMEOUT (R596): A UART frame pauses more than 10 ms and is discarded. -/
  | uartFrameTimeout
  /-- DIAG_STREAM (R593): Sets or stops periodic register streaming to the session. -/
  | diagStream (r : Req) (period : Nat) (addrs : List Nat)
  /-- DIAG_DATA (R592): A DIAG_STREAM period ends and the register values are sent. -/
  | diagData (session : Nat)
  /-- LOAD_WINDOW (R599): Every 100 ms the command-processor load is measured and the shedding step may change. -/
  | loadWindow (mean : Nat)
  /-- MGMT_WATCHDOG (R601): A management core misses 100 ms of reports; all four cores restart and sessions close. -/
  | mgmtWatchdog (core : Nat)
  /-- MGMT_RESTART_DONE (R601): The management cores have restarted and event 0xB001 is written. -/
  | mgmtRestartDone
  /-- ATTEST (R614): Returns a signed attestation report and increments the attestation counter. -/
  | attest (r : Req) (nonce : List Byte)
  /-- KEY_INSTALL (R611): Installs, replaces or removes an owner key, host key or trust anchor under owner authorisation. -/
  | keyInstall (r : Req) (body : List Byte)
  /-- KEY_LIST (R613): Returns the occupied key slots and the identity certificate. -/
  | keyList (r : Req)
  /-- AUTH_LOCKOUT_EXPIRY (R619): A transport's lock-out time ends. -/
  | authLockoutExpiry (transport : Transport)
  /-- SESSION_IDLE_TIMEOUT (R619): A network session idle for the configured time closes. -/
  | sessionIdleTimeout (session : Nat)
  /-- HEALTH_READ (R632): Returns monitor entries with value, limit and end-of-life prediction. -/
  | healthRead (r : Req) (selector : Nat)
  /-- INJ_ARM (R633): Arms a fault injection of a detector in once, duration or periodic mode. -/
  | injArm (r : Req) (body : List Byte)
  /-- INJ_CLEAR (R636): Ends one injection or all injections. -/
  | injClear (r : Req) (det : Nat)
  /-- INJ_DURATION_END (R633): An injection's duration ends, or its mode completes and INJ_ENDED is written. -/
  | injDurationEnd (slot : Nat)
  /-- INJ_PERIOD_START (R633): A periodic injection's period begins and the condition is applied again. -/
  | injPeriodStart (slot : Nat)
  /-- DETECTOR_HOLD_EXPIRY (R629): 1 s of TD0 after a detector without duration last fired, it is no longer in force. -/
  | detectorHoldExpiry (det : Nat)
  /-- MONITOR_SAMPLE (R631): Every 24 h a point is appended to each wear history and the end-of-life line is refitted. -/
  | monitorSample (flash : Nat) (mram : Nat) (spareLow : Bool)
  /-- DIE_TEMP_HIGH (R628): The die exceeds 120 °C or 130 °C; above 130 °C P3 jobs are held. -/
  | dieTempHigh (temp : Int)
  /-- ECC_SRAM (R628): An uncorrectable SRAM error is found and handled by the memory it lies in. -/
  | eccSram (place : Nat) (core : Nat) (lo : Nat) (hi : Nat)
  /-- ECC_MRAM (R628): An uncorrectable MRAM error is found and the word rewritten from its SRAM copy. -/
  | eccMram (region : Nat) (copies : Nat)
  /-- FLASH_ERR (R488): A flash page fails and is written again in another block. -/
  | flashErr
  /-- UPC_SELFTEST_TIMEOUT (R462): No good process barrier frame arrives within 5 ms of start, and UPC_BARRIER_CRC fires with cause 3 while start-up continues. -/
  | upcSelftestTimeout
  /-- HIGH_RATE_BLOCK (R314): Every 12.8 µs of TD1 a 256-sample high-rate block completes, takes its quality byte, enters the high-rate ring, updates the TW noise floor and is judged by level and rate triggers on channels 16 to 31. -/
  | highRateBlock (sec : Nat) (block : Nat) (inputs : List (Nat × List Int × Bool)) (rms : List Nat)
  /-- PPS_OUT_RISE (R140): PPS_OUT rises at each TD1 instant whose nanosecond field is 0, while TD1 is class 2 or better in locked or glide. -/
  | ppsOutRise
  /-- PPS_OUT_FALL (R140): PPS_OUT falls when the width of PID 0x0A0D has elapsed after its rise. -/
  | ppsOutFall
  /-- SAMPLE_LOOP_UNLOCK (R155): The sample clock loop's phase error exceeds 1 µs with no step to explain it, and SAMPLE_GRID_UNLOCK fires with value 3. -/
  | sampleLoopUnlock
  /-- TLS_CONNECTION_END (R589): A network session's TLS or TCP connection ends from the peer or the network, and the session closes with its queue, freeze, staging and injections discarded. -/
  | tlsConnectionEnd (conn : Nat)
  /-- MONITOR_LIMIT_CROSSED (R630): A continuously measured monitor value, such as board temperature, VMAIN or the barrier error rate, crosses its limit, setting HIGH and writing MONITOR_HIGH. -/
  | monitorLimitCrossed (monitor : Nat) (value : Int)
  /-- DIE_TEMP_NORMAL (R628): The die falls below 125 °C, so P3 jobs start again, or below 115 °C, so DIE_TEMP_HIGH clears. -/
  | dieTempNormal (temp : Int)
  /-- VMAIN_LOW_CLEARED (R44): VMAIN rises above 10.3 V and VMAIN_LOW clears, even while PFAIL_N keeps the warning stage in force. -/
  | vmainLowCleared
  /-- PORT_LINK_UP (R577): A port's PCS synchronisation and link come up, setting LINK and SPEED so that frames flow again. -/
  | portLinkUp (port : Nat) (speed : Nat)
  deriving DecidableEq, Repr

end Sys2Proof
end

