-- ==== Sys2Proof/Config.lean ====
section
/-! DEFINITION. What an implementation fixes and the spec leaves open or takes from an outside standard: constants
with no body, so that nothing can be proved of a value. Each is named in the assumption log. -/

namespace Sys2Proof.Config

/-- A value the spec leaves open, by the count of such values read so far (a free value, log entry 4). -/
opaque freeNat : Nat → Nat

/-- What an ESR in mOhm takes from the hold-up time at 5 W, in us, of a capacitance in uF (R62 names the ESR, R60's formula
does not). -/
opaque esrLoss : Nat → Nat → Nat

/-- The polyphase interpolation of a subscribed stream (R197): the rate, the instant's place between two samples in 1/16 000,
and the samples around it, oldest first. The spec gives its error bounds, not its coefficients. -/
opaque svFir : Nat → Nat → List Int → Int

/-- The interpolation of a published sample from protection-rate tokens (R200): its place between two tokens in 1/16 000, and
the token codes around it, newest first. The spec gives no coefficients. -/
opaque svPub : Nat → List Int → Int

/-- Half the window of the M class reference filter of IEC/IEEE 60255-118-1, in thousandths of a token period, for a reporting
rate (0 launched-only) and the nominal frequency in Hz (R258; the standard's figures are outside the spec). -/
opaque pmuHalfM : Nat → Nat → Nat

/-- An analog value in integer format: the standard's conversion factor is not in the spec (R260, log entry 9). -/
opaque analogInt : Nat → Nat

/-- SHA-512 of a byte list, 64 bytes (FIPS 180-4, outside the spec). -/
opaque sha512 : List Byte → List Byte

/-- Ed25519 verification of (public key, message, signature) (RFC 8032, outside the spec). -/
opaque ed25519 : List Byte → List Byte → List Byte → Bool

/-- The signature the part's identity key gives a message (R614). -/
opaque sign : List Byte → List Byte

/-- Sign and payload of the NaN of an operation on two patterns (IEEE 754 leaves them open). -/
opaque nanBits : Word → Word → Word

/-- What FIX gives for a NaN (R354 states OV, not the value). -/
opaque fixNan : Word → Word

/-- Temperature in 10^-6 degC from (0 Pt100 or 1 Pt1000, resistance as a ratio in ohms) of an RTD beyond -200 degC to
850 degC (R442 gives none). -/
opaque rtdBeyond : Nat → Int → Nat → Int

/-- Temperature in 10^-6 degC by IEC 60584-1 from (type 0 to 7, thermocouple voltage as a ratio in volts, cold-junction
temperature as a sum and a count of 0.001 degC), and whether it lies in the sensor's range (R442). -/
opaque tcTemp : Nat → Int → Nat → Int → Nat → Int × Bool

/-- The value of a characteristic whose lo equals hi (R443 states none). -/
opaque flatCharacteristic : Int → Nat → Word

/-- The CFG or DAT file of the COMTRADE set of IEC 60255-24:2013 (R497): record bodies of the chain, set, format (0 binary32,
1 ASCII), file (0 CFG, 1 DAT), station name, UTC offset, leap second pending. The text layout is the standard's. -/
opaque comtrade : List (List Byte) → Nat → Nat → Nat → List Byte → Nat → Nat → List Byte

/-- The length in bytes, without the FCS, of a frame as its standard codes it: kind, identifying numbers, values
(IEC 61850, IEEE 1588, IEEE C37.118.2; R566, R581 TXPEAK). -/
opaque frameLen : Nat → List Nat → List Nat → Nat

/-- The launch entries an image reserves for an owner (1 logic engine, 2 graph, 3 command), by its digest (R111, R159:
the spec names no parameter for it). -/
opaque launchReserve : List Byte → Nat → Nat

/-- The manifest that a slot's bytes hold, none where it is unreadable (R608 lists its contents; their byte layout is
not in the spec). -/
opaque parseManifest : List Byte → Option Manifest

/-- The graph section that a section's bytes hold; none where they break its layout (R105: the spec names the parts and not
their byte layout, which Jibel generates). -/
opaque parseGraph : List Byte → Option GraphSec

/-- The budget section that a section's bytes hold (R105). -/
opaque parseBudget : List Byte → Option BudgetSec

/-- The logic section that a section's bytes hold (R105). -/
opaque parseLogic : List Byte → Option LogicSec

/-- The running firmware (its version) lists a library version in its manifest (R106). -/
opaque libraryListed : Nat → Nat → Bool

/-- The sections of SCH_FACTORY that Jibel generated (R640): their bytes, by section type, and what they hold. -/
opaque factoryBytes : Nat → List Byte

/-- What Jibel chose for node `n` of SCH_FACTORY's graph and R640 does not give: flow, declared cycles, context length, affinity
core (log entry 82). -/
opaque factoryPlan : Nat → Nat × Nat × Nat × Nat

/-- The output identifier that Jibel assigned to an output of SCH_FACTORY's graph (R244), by node and port. -/
opaque factoryOutput : Nat → Nat → Nat

/-- The library version that SCH_FACTORY's graph was compiled against (R106). -/
opaque factoryLibrary : Nat

/-- The declared loads and peaks of SCH_FACTORY's budget section (R105); R640 gives its D0. -/
opaque factoryLoad : BudgetSec

/-- BODY_DIGEST of SCH_FACTORY. -/
opaque factoryDigest : List Byte

/-- Bytes of real-time transmit share that an image's streams need on a port (R27, R111; the frames are coded by their
standards), by the image's digest and the port. -/
opaque txShare : List Byte → Nat → Nat

/-- The hash of Polbuelo's root key, held in ROM (R606). -/
opaque rootHash : List Byte

end Sys2Proof.Config
end

