-- ==== Sys2Proof/Machine/Float.lean ====
section
/-! DEFINITION. binary32 as the engine computes it: round to nearest even, subnormal inputs and results flushed to
zero (R208, R354). Finite values are integers in units of 2^-149, so every sum, product and quotient is exact before
the one rounding. -/

namespace Sys2Proof.Machine

/-- The exponent field. -/
def fExp (w : Word) : Nat := getFld w.toNat 23 8

/-- The fraction field. -/
def fFrac (w : Word) : Nat := getFld w.toNat 0 23

/-- The sign bit. -/
def fNeg (w : Word) : Bool := w.getLsbD 31

/-- A NaN. -/
def fIsNan (w : Word) : Bool := fExp w == 255 && fFrac w != 0

/-- An infinity. -/
def fIsInf (w : Word) : Bool := fExp w == 255 && fFrac w == 0

/-- The magnitude of a finite value in units of 2^-149; subnormals read 0 (R354). -/
def fMag (w : Word) : Nat := if fExp w = 0 then 0 else (2 ^ 23 + fFrac w) * 2 ^ (fExp w - 1)

/-- A finite value in units of 2^-149. -/
def fInt (w : Word) : Int := if fNeg w then -(fMag w : Int) else fMag w

/-- The quiet NaN of an operation on `a` and `b`: its sign and payload are free values (IEEE 754 leaves them open). -/
def fNan (a b : Word) : Word := 0x7FC00000#32 ||| (Config.nanBits a b &&& 0x803FFFFF#32)

/-- A signed infinity. -/
def fInf (neg : Bool) : Word := if neg then 0xFF800000#32 else 0x7F800000#32

/-- A signed zero. -/
def fZero (neg : Bool) : Word := if neg then 0x80000000#32 else 0#32

/-- num / den to the nearest integer, ties to even. -/
def rne (num den : Nat) : Nat :=
  let q := num / den
  let r := num % den
  if 2 * r < den then q else if 2 * r > den then q + 1 else if q % 2 = 0 then q else q + 1

/-- The binary32 pattern of the magnitude num / den, in units of 2^-149, with a sign: nearest even, flushed to zero
below the normal range, infinity above it. -/
def fRound (neg : Bool) (num den : Nat) : Word :=
  if num = 0 ∨ den = 0 then fZero neg else
  let q := num / den
  -- position of the leading bit in units of 2^-149; the result's last place is `sh` bits above the unit
  let e := Nat.log2 q
  let sh := e - 23
  let m := rne num (den * 2 ^ sh)
  let (m, sh) := if m = 2 ^ 24 then (2 ^ 23, sh + 1) else (m, sh)
  if m < 2 ^ 23 then fZero neg
  else if 254 ≤ sh then fInf neg
  else BitVec.ofNat 32 (b2n neg * 2 ^ 31 + (sh + 1) * 2 ^ 23 + (m - 2 ^ 23))

/-- The binary32 pattern nearest to num / den (a signed rational in ordinary units). -/
def fOfRat (num : Int) (den : Nat) : Word := fRound (decide (num < 0)) (num.natAbs * 2 ^ 149) den

/-- The binary32 pattern nearest to an integer. -/
def fOfInt (i : Int) : Word := fOfRat i 1

/-- FADD (R353, R354). -/
def fAdd (a b : Word) : Word :=
  if fIsNan a ∨ fIsNan b then fNan a b
  else if fIsInf a then (if fIsInf b ∧ fNeg a ≠ fNeg b then fNan a b else a)
  else if fIsInf b then b
  else
    let r := fInt a + fInt b
    if r = 0 then fZero (fNeg a && fNeg b)
    else fRound (decide (r < 0)) r.natAbs 1

/-- The value with its sign inverted. -/
def fNegate (a : Word) : Word := a ^^^ 0x80000000#32

/-- FSUB. -/
def fSub (a b : Word) : Word := if fIsNan a ∨ fIsNan b then fNan a b else fAdd a (fNegate b)

/-- FMUL. -/
def fMul (a b : Word) : Word :=
  let neg := fNeg a != fNeg b
  if fIsNan a ∨ fIsNan b then fNan a b
  else if fIsInf a then (if fMag b = 0 ∧ !fIsInf b then fNan a b else fInf neg)
  else if fIsInf b then (if fMag a = 0 then fNan a b else fInf neg)
  else fRound neg (fMag a * fMag b) (2 ^ 149)

/-- FDIV: a division by 0 gives a signed infinity (R354), 0 / 0 and infinity / infinity a NaN. -/
def fDiv (a b : Word) : Word :=
  let neg := fNeg a != fNeg b
  if fIsNan a ∨ fIsNan b then fNan a b
  else if fIsInf a then (if fIsInf b then fNan a b else fInf neg)
  else if fIsInf b then fZero neg
  else if fMag b = 0 then (if fMag a = 0 then fNan a b else fInf neg)
  else fRound neg (fMag a * 2 ^ 149) (fMag b)

/-- Order of two patterns that are no NaN: a < b. -/
def fLt (a b : Word) : Bool :=
  if fIsNan a ∨ fIsNan b then false
  else
    let v (w : Word) : Int := if fIsInf w then (if fNeg w then -(2 ^ 280) else 2 ^ 280) else fInt w
    decide (v a < v b)

/-- Equality of two patterns that are no NaN. -/
def fEq (a b : Word) : Bool := !fIsNan a && !fIsNan b && !fLt a b && !fLt b a

/-- a ≤ b. -/
def fLe (a b : Word) : Bool := fLt a b || fEq a b

/-- The nearest integer, ties to even, saturated to 32 bits, and whether it saturated or was no number (FIX). -/
def fFix (a : Word) : Word × Bool :=
  if fIsNan a then (Config.fixNan a, true)
  else if fIsInf a then (if fNeg a then 0x80000000#32 else 0x7FFFFFFF#32, true)
  else
    let m := rne (fMag a) (2 ^ 149)
    if fNeg a then (if 2 ^ 31 < m then (0x80000000#32, true) else (BitVec.ofInt 32 (-(m : Int)), false))
    else (if 2 ^ 31 - 1 < m then (0x7FFFFFFF#32, true) else (BitVec.ofNat 32 m, false))

/-- The largest r with r * r ≤ n, found bit by bit from bit `b` down. -/
def isqrtFrom : Nat → Nat → Nat → Nat
  | 0, r, n => if (r + 1) * (r + 1) ≤ n then r + 1 else r
  | b + 1, r, n => isqrtFrom b (if (r + 2 ^ (b + 1)) * (r + 2 ^ (b + 1)) ≤ n then r + 2 ^ (b + 1) else r) n

/-- The integer square root. -/
def isqrt (n : Nat) : Nat := isqrtFrom (Nat.log2 n / 2 + 1) 0 n

/-- sqrt(num / den) in units of 2^-64, rounded down. -/
def sqrtFix (num den : Nat) : Nat := isqrt (num * 2 ^ 128 / den)

end Sys2Proof.Machine
end

