-- ==== Sys2Proof/Machine/StCommand.lean ====
section
/-! DEFINITION. State of the event recorder (16), the command processor (19), security (20) and health (21). -/

namespace Sys2Proof.Machine

/-- The blocks that submit events, each with a queue of its own (R27). -/
inductive Block where
  | boot | image | time | acq | graph | elem | tw | logic | field | upc | dr | evr | pair | net | rio | cmd | sec | hlt
  deriving DecidableEq, Repr, Inhabited

/-- An event as submitted (R504, R505, R510). `parts` are the companions' DATA fields. Times are units of 2^-40 ns. -/
structure Event where
  code : Nat
  value : Nat
  t0 : Nat
  t1 : Nat
  qual : Nat
  epoch : Nat
  origin : Nat
  source : Nat
  test : Bool
  subst : Bool
  audit : Bool
  held : Bool
  sub : Nat
  parts : List (List Byte)
  deriving DecidableEq, Repr, Inhabited

/-- One 64-byte slot of the front buffer or of the log (R504, R506, R514). kind: 0 event, 1 companion, 2 SUPPRESSED,
3 LOST. `part` is the companion's part number, `data` its DATA. -/
structure Rec where
  seq : Nat
  kind : Nat
  part : Nat
  code : Nat
  value : Nat
  ev : Option Event
  active : Bool
  twin : Bool
  short : Bool
  snap : Nat
  wm : List Byte
  data : List Byte
  deriving DecidableEq, Repr, Inhabited

/-- A rate-limit bucket (R511, R512). -/
structure Bucket where
  code : Nat
  tokens : Nat
  supp : Nat
  first : Nat × Nat × Nat
  last : Nat × Nat
  refillAt : Nat
  sumAt : Nat
  deriving DecidableEq, Repr, Inhabited

/-- A drop-table entry (R515): code, count, first and last instants (TD1, epoch), first TD0. -/
structure Drop where
  code : Nat
  count : Nat
  first : Nat × Nat × Nat
  last : Nat × Nat
  deriving DecidableEq, Repr, Inhabited

/-- The event recorder (R504 to R527). -/
structure EventRec where
  /-- w:1 R70,R95 reset:0 | the recorder has started -/
  started : Bool
  /-- w:list R95 reset:empty | events held until the recorder starts, oldest first -/
  held : List Event
  /-- w:16 per block R27 reset:empty | submission queues, in order of submission -/
  subq : List (Block × Event)
  /-- w:4096 slots R513 reset:empty | front buffer, oldest first -/
  front : List Rec
  /-- w:log R516 reset:DESIGN CHOICE empty | committed records kept, oldest first; in flash -/
  log : List Rec
  /-- w:64 R508,R527 reset:DESIGN CHOICE 0 | last SEQ assigned (NEWEST) -/
  newest : Nat
  /-- w:64 R508 reset:DESIGN CHOICE 0 | reservation mark; held in MRAM -/
  mark : Nat
  /-- w:64 R519,R527 reset:DESIGN CHOICE 0 | last committed SEQ (COMMITTED) -/
  committed : Nat
  /-- w:64 R519,R527 reset:DESIGN CHOICE 0 | oldest retained SEQ (FIRST) -/
  first : Nat
  /-- w:24 R516,R527 reset:DESIGN CHOICE 0 | EVR_USED -/
  used : Nat
  /-- w:64 R514 reset:DESIGN CHOICE 0 | PAGE_NO of the next page -/
  pageNo : Nat
  /-- w:buckets R511 reset:empty | token buckets; held in MRAM -/
  buckets : List Bucket
  /-- w:256 R515 reset:empty | drop table -/
  drops : List Drop
  /-- w:1 R515 reset:0 | LOST records are owed -/
  owed : Bool
  /-- w:1 R513 reset:0 | a commit trigger waits to start -/
  commitPend : Bool
  /-- w:1 R513,R527 reset:0 | COMMITTING -/
  committing : Bool
  /-- w:13 R513 reset:0 | records the commit in progress took and has not yet written -/
  commitLeft : Nat
  /-- w:nat R513 reset:0 | TD0 of the last commit -/
  commitAt : Nat
  /-- w:session R520 reset:none | holder of the freeze and TD0 of EVR_FREEZE -/
  freeze : Option (Nat × Nat)
  /-- w:1 R527 reset:0 | FLUSH_PEND: a trigger is held by the freeze -/
  flushPend : Bool
  /-- w:13 R527 reset:0 | EVR_FB_PEAK -/
  peak : Nat
  /-- w:32 R527 reset:0 | EVR_LOST_CNT -/
  lostCnt : Nat
  /-- w:32 R527 reset:0 | EVR_SUPP_CNT -/
  suppCnt : Nat
  /-- w:32 R527 reset:0 | EVR_COMMIT_CNT -/
  commitCnt : Nat
  /-- w:32 R527 reset:0 | EVR_RECLAIM_CNT -/
  reclaimCnt : Nat
  /-- w:13 R514 reset:0 | record slots of a torn page found at start; in flash -/
  torn : Nat
  deriving DecidableEq, Repr, Inhabited

/-- A device-to-host packet (R585, R592). `unsol` has the response bit clear. `payload` is the packet's payload. -/
structure Packet where
  transport : Transport
  session : Nat
  tag : Nat
  op : Nat
  status : Nat
  more : Bool
  unsol : Bool
  grant : Nat
  payload : List Byte
  deriving DecidableEq, Repr, Inhabited

/-- An open session (R589, R590, R593, R604). -/
structure Session where
  num : Nat
  slot : Nat
  transport : Transport
  roles : BitVec 5
  notify : Bool
  hostSlot : Option Nat
  phys : Bool
  normal : Nat
  bulk : Nat
  urgent : Nat
  owedNormal : Nat
  owedBulk : Nat
  diag : Option (Nat × List Nat)
  diagAt : Nat
  lastUse : Nat
  overSec : Option Nat
  conn : Option Nat
  deriving DecidableEq, Repr, Inhabited

/-- A request accepted from a transport and not yet served (R588). -/
structure QReq where
  req : Req
  op : Nat
  cls : Nat
  payload : List Byte
  deriving DecidableEq, Repr, Inhabited

/-- The command processor (R582 to R605). -/
structure Cmd where
  /-- w:8 R589,R604 reset:empty | open sessions -/
  sessions : List Session
  /-- w:16 R585 reset:0 | number of the last session opened -/
  lastSession : Nat
  /-- w:queue 64 R27,R588 reset:empty | requests queued, oldest first -/
  queue : List QReq
  /-- w:queue R583 reset:empty | device-to-host packets pending, oldest first -/
  out : List Packet
  /-- w:1 R589 reset:0 | a SESSION 0 request is unanswered -/
  zeroBusy : Bool
  /-- w:nat R589,R597 reset:0 | TLS connection of the SESSION 0 request unanswered -/
  zeroConn : Nat
  /-- w:2 R599,R604 reset:0 | shedding step -/
  step : Nat
  /-- w:nat R599 reset:none | TD0 since which the load has been below 70 % -/
  lowSince : Option Nat
  /-- w:16 R604 reset:0 | HPI_LOAD.MEAN -/
  loadMean : Nat
  /-- w:16 R604 reset:0 | HPI_LOAD.PEAK -/
  loadPeak : Nat
  /-- w:1 R601,R604 reset:0 | URGENT_ONLY -/
  urgentOnly : Bool
  /-- w:32 R604 reset:0 | HPI_CRC_ERR -/
  crcErr : Nat
  /-- w:32 R604 reset:0 | HPI_OVERRUN -/
  overrun : Nat
  /-- w:32 R604 reset:0 | HPI_BUSY_CNT -/
  busyCnt : Nat
  /-- w:32 R604 reset:DESIGN CHOICE 0 | HPI_WD_CNT; held in MRAM -/
  wdCnt : Nat
  /-- w:1 R601 reset:0 | the management cores are restarting; the core that missed -/
  restarting : Option Nat
  /-- w:nat R601 reset:none | TD0 of the last management restart -/
  restartAt : Option Nat
  /-- w:bytes R596 reset:empty | bytes of the UART frame being received -/
  uart : List Byte
  /-- w:bytes R597 reset:empty | bytes of TLS application data not yet forming a packet, by session -/
  tls : List (Nat × List Byte)
  /-- w:list R597,R618 reset:empty | TLS connections authenticated and not yet opened as sessions: connection, certificate roles -/
  conns : List (Nat × Nat)
  /-- w:list R497 reset:empty | DR_EXPORT positions in progress: session, record, file, offset -/
  exports : List (Nat × Nat × Nat × Nat)
  deriving DecidableEq, Repr, Inhabited

/-- A key slot (R606, R611, R613). -/
structure Key4 where
  kind : Nat
  slot : Nat
  roles : BitVec 5
  key : List Byte
  t1sec : Nat
  deriving DecidableEq, Repr, Inhabited

/-- Security (R606 to R626). -/
structure Sec where
  /-- w:keys R606 reset:DESIGN CHOICE empty | owner, host and anchor keys; security region -/
  keys : List Key4
  /-- w:bytes R606,R613 reset:DESIGN CHOICE empty | identity certificate and identity public key -/
  cert : List Byte
  /-- w:32 bytes R606 reset:DESIGN CHOICE empty | identity public key -/
  idKey : List Byte
  /-- w:64 R611,R626 reset:DESIGN CHOICE 0 | SEC_KEY_SEQ; held in MRAM -/
  keySeq : Nat
  /-- w:64 each R617 reset:DESIGN CHOICE 0 | last COUNTER accepted per host key slot -/
  counters : SMap
  /-- w:64 R616,R626 reset:DESIGN CHOICE 0 | SEC_ATT_CNT -/
  attCnt : Nat
  /-- w:64 R616 reset:DESIGN CHOICE 0 | reservation mark of the attestation counter -/
  attMark : Nat
  /-- w:7 R610,R626 reset:DESIGN CHOICE 0 | anti-rollback counter -/
  rollback : Nat
  /-- w:1 R607 reset:0 | REGION_RESTORED -/
  restored : Bool
  /-- w:1 R607 reset:0 | REGION_LOST -/
  lost : Bool
  /-- w:1 R622 reset:0 | CERTIFIED -/
  certified : Bool
  /-- w:32 R626 reset:0 | SEC_AUTH_FAIL_CNT -/
  authFail : Nat
  /-- w:list R619 reset:empty | TD0 of recent failures: (transport, instant) -/
  fails : List (Transport × Nat)
  /-- w:list R619 reset:empty | transports locked out and TD0 of the end -/
  locked : List (Transport × Nat)
  deriving DecidableEq, Repr, Inhabited

/-- One monitor (R630 to R632). Values are Int in 10^-6 of the monitor's unit. -/
structure Monitor where
  /-- w:fp32 R632 reset:0 | value, 10^-6 units -/
  value : Int
  /-- w:1 R630 reset:0 | HIGH -/
  high : Bool
  /-- w:1 R631 reset:0 | EOL_SOON -/
  soon : Bool
  /-- w:1 R631 reset:0 | EOL_WARNING written this start -/
  warned : Bool
  /-- w:64 R631 reset:DESIGN CHOICE empty | history: (TD1 second, value), oldest first; held in MRAM -/
  hist : List (Nat × Int)
  deriving DecidableEq, Repr, Inhabited

/-- One injection slot (R633 to R636). -/
structure Inj where
  slot : Nat
  det : Nat
  mode : Nat
  target : Nat
  durMs : Nat
  perMs : Nat
  repeats : Nat
  forever : Bool
  session : Nat
  applied : Bool
  since : Nat
  deriving DecidableEq, Repr, Inhabited

/-- Health, wear and injection (R627 to R639). -/
structure Health where
  /-- w:40 R629,R639 reset:empty | detectors with duration in force: (detector, instance) -/
  active : List (Nat × Nat)
  /-- w:40 R629 reset:empty | detectors without duration: (detector, TD0 of the latest firing) -/
  momentary : List (Nat × Nat)
  /-- w:10 monitors R630 reset:see fields | monitors 0 to 9 -/
  mon : List Monitor
  /-- w:8 slots R633 reset:empty | injections armed -/
  inj : List Inj
  /-- w:16 R639 reset:0 | HLT_TEMP.DIE, 0.1 degC signed -/
  dieTemp : Int
  /-- w:16 R639 reset:0 | HLT_TEMP.BOARD -/
  boardTemp : Int
  /-- w:16 R639 reset:0 | HLT_SUPPLY.VMAIN, mV -/
  vmain : Nat
  /-- w:16 R639 reset:0 | HLT_SUPPLY.STORE, mV -/
  store : Nat
  /-- w:16 R639 reset:0 | corrected MRAM errors -/
  eccMram : Nat
  /-- w:16 R639 reset:0 | corrected SRAM errors -/
  eccSram : Nat
  /-- w:2 R628 reset:0 | DIE_TEMP_HIGH level: 0 none, 1 above 120, 2 above 130 (P3 held) -/
  dieHigh : Nat
  /-- w:nat R631 reset:0 | TD0 of the last wear sample -/
  sampleAt : Nat
  deriving DecidableEq, Repr, Inhabited

end Sys2Proof.Machine
end

