-- ==== Sys2Proof/Machine/StPair.lean ====
section
/-! DEFINITION. State of pair operation (17) and of the network ports (18). -/

namespace Sys2Proof.Machine

/-- Pair states (R533). -/
inductive PairSt where
  | solo | joining | twin | cold
  deriving DecidableEq, Repr, Inhabited

/-- The code of a pair state (R533). -/
def PairSt.toNat : PairSt → Nat
  | .solo => 0 | .joining => 1 | .twin => 2 | .cold => 3

/-- Agreement items received and not yet used (R538): kind, wave, values. Kind 0 is a wave core. -/
structure Agree where
  kind : Nat
  wave : Nat
  vals : List Nat
  deriving DecidableEq, Repr, Inhabited

/-- One channel of the cross-check (R541): squares of the difference and of the agreed value over the window. -/
structure XChk where
  n : Nat
  skip : Bool
  sumD : Nat
  sumA : Nat
  above : Nat
  under : Nat
  deriving DecidableEq, Repr, Inhabited

/-- Pair operation (R528 to R559). -/
structure Pair where
  /-- w:2 R533,R559 reset:solo | STATE -/
  st : PairSt
  /-- w:1 R559 reset:0 | ACTIVE -/
  active : Bool
  /-- w:1 R554,R559 reset:0 | MIGRATING -/
  migrating : Bool
  /-- w:1 R554,R559 reset:0 | MIGRATE_READY -/
  ready : Bool
  /-- w:1 R544,R559 reset:0 | FAULTY -/
  faulty : Bool
  /-- w:1 R544,R559 reset:0 | PARTNER_FAULTY -/
  partnerFaulty : Bool
  /-- w:1 R534,R559 reset:0 | ESTABLISHED -/
  established : Bool
  /-- w:nat R534 reset:none | TD0 of the first wave released with the active role -/
  activeAt : Option Nat
  /-- w:16 R559 reset:0 | wave of the last state change -/
  wave : Nat
  /-- w:64 R559 reset:0 | partner serial -/
  partner : Nat
  /-- w:1 R529,R535 reset:0 | a HELLO has been received -/
  hello : Bool
  /-- w:bytes R529,R537 reset:empty | partner's watermark -/
  partnerMark : List Byte
  /-- w:1 R534 reset:0 | partner's established flag -/
  partnerEst : Bool
  /-- w:2 R529 reset:solo | partner's state as last reported -/
  partnerSt : PairSt
  /-- w:1 R529 reset:0 | partner's role as last reported -/
  partnerActive : Bool
  /-- w:1 R554,R555 reset:0 | partner's MIGRATING and MIGRATE_READY as last reported -/
  partnerMig : Bool × Bool
  /-- w:16 R529 reset:0 | partner's last wave number -/
  partnerWave : Nat
  /-- w:1 R532 reset:0 | partner's BIND_OUT level as last reported -/
  partnerBind : Bool
  /-- w:2 R559 reset:0 | LANE_UP -/
  lanes : BitVec 2
  /-- w:nat each R530 reset:0 | TD0 of the last good cell per lane -/
  laneAt : Nat × Nat
  /-- w:2 R559 reset:0 | WIRE_CODE -/
  wireCode : Nat
  /-- w:1 R531,R559 reset:0 | WIRE_OK -/
  wireOk : Bool
  /-- w:nat R531 reset:0 | TD0 of the last rising edge on HB_IN, 0 before the first -/
  edgeAt : Nat
  /-- w:nat R531 reset:0 | TD0 of the last accepted pulse -/
  wireAt : Nat
  /-- w:nat R532 reset:0 | TD0 at which BIND_IN last changed -/
  bindInAt : Nat
  /-- w:nat R532 reset:none | TD0 since which BIND_IN and the partner's report differ -/
  bindDiff : Option Nat
  /-- w:nat R532 reset:0 | TD0 at which this lane raised BIND_OUT -/
  bindAt : Nat
  /-- w:nat R532 reset:0 | TD0 of the last own heartbeat pulse -/
  hbAt : Nat
  /-- w:1 R550 reset:0 | a takeover or handover waits to raise BIND_OUT -/
  bindWant : Bool
  /-- w:1 R549 reset:0 | a HANDOVER cell has been received and not yet used -/
  handCell : Bool
  /-- w:wave R546 reset:none | handover wave named, with its TAKEOVER cause -/
  hand : Option (Nat × Nat)
  /-- w:1 R546 reset:0 | the handover has been confirmed by the standby -/
  handOk : Bool
  /-- w:1 R546 reset:0 | the old active drops BIND_OUT after its next field frame start -/
  bindDrop : Bool
  /-- w:1 R545 reset:0 | this lane transmits its publications -/
  tx : Bool
  /-- w:1 R309,R535,R543 reset:0 | this lane holds its trip-class DO off -/
  tripOff : Bool
  /-- w:items R538 reset:empty | agreement items received -/
  agree : List Agree
  /-- w:32+nat R548 reset:none | provisional wave and the TD0 of its release -/
  prov : Option (Nat × Nat)
  /-- w:items R541 reset:see fields | cross-check windows, channels 0 to 15 -/
  xc : List XChk
  /-- w:16 R541,R559 reset:0 | PAIR_XCHK -/
  xchk : BitVec 16
  /-- w:waves R542 reset:empty | own digests awaiting comparison: wave, digest -/
  digests : List (Nat × Nat)
  /-- w:waves R542 reset:empty | partner's digests received early: wave, digest -/
  pDigests : List (Nat × Nat)
  /-- w:32 R559 reset:0 | PAIR_LINK_ERR -/
  linkErr : Nat
  /-- w:32 R559 reset:0 | PAIR_HB_ERR -/
  hbErr : Nat
  /-- w:32 R559 reset:0 | PAIR_DIV_CNT -/
  divCnt : Nat
  /-- w:4+2+2+16 R559 reset:0 | PAIR_DIV_LAST: CAUSE, OWN, PARTNER, WAVE -/
  divLast : Nat × Nat × Nat × Nat
  /-- w:list R544 reset:empty | TD0 of the divergences of the last hour -/
  divAt : List Nat
  /-- w:1+nat R543 reset:none | verdict test in progress: cause and TD0 of its begin -/
  verdict : Option (Nat × Nat)
  /-- w:32 R559 reset:0 | PAIR_DLY_XCHK -/
  dlyXchk : Nat
  /-- w:list R223 reset:empty | firings of the standby's own delay lists that the active has not given: (node, tag, tick,
  epoch, wave) -/
  dlyOwn : List (Nat × Nat × Nat × Nat × Nat)
  /-- w:list R223 reset:empty | firings that the active gave and the standby's own lists have not fired: (node, tag, wave);
  at most 8 192 are kept -/
  dlyGiven : List (Nat × Nat × Nat)
  /-- w:list R235 reset:empty | overruns that the partner reported, newest first (at most 8 kept): 2^32 x band + wave or
  sequence number -/
  partnerOver : List Nat
  /-- w:32 R559 reset:0 | PAIR_IN_XCHK -/
  inXchk : Nat
  /-- w:4+16 R559 reset:0 | PAIR_TAKEOVER: CAUSE, WAVE -/
  takeover : Nat × Nat
  /-- w:32 R559 reset:0 | PAIR_TAKEOVER_CNT -/
  takeovers : Nat
  /-- w:2 R559 reset:0 | PAIR_JOIN.PHASE -/
  joinPhase : Nat
  /-- w:8 R559 reset:0 | PAIR_JOIN.BUFFER, % -/
  joinBuf : Nat
  /-- w:16 R559 reset:0 | PAIR_JOIN.TIME, ms -/
  joinMs : Nat
  /-- w:nat R537 reset:none | TD0 at which the join began -/
  joinAt : Option Nat
  /-- w:nat R537 reset:none | TD0 of the last JOIN_FAILED -/
  failAt : Option Nat
  /-- w:32 R535 reset:0 | snapshot wave W0 -/
  w0 : Nat
  /-- w:1 R535 reset:0 | the snapshot is complete and loaded -/
  snapDone : Bool
  /-- w:bytes R118,R529 reset:empty | image received as BULK cells: offset, bytes -/
  bulk : List (Nat × List Byte)
  /-- w:2 R559 reset:0 | PAIR_DRILL.STATE -/
  drSt : Nat
  /-- w:4 R559 reset:0 | RESULT -/
  drResult : Nat
  /-- w:8 R559 reset:0 | DETAIL -/
  drDetail : BitVec 8
  /-- w:4 R559 reset:0 | UPC_FAIL -/
  drUpc : BitVec 4
  /-- w:nat R553 reset:0 | TD0 at which the dwell began -/
  drAt : Nat
  /-- w:8 R553 reset:0 | dwell, s -/
  drDwell : Nat
  /-- w:32 R559 reset:DESIGN CHOICE 0 | PAIR_DRILL_T; held in MRAM -/
  drillT : Nat
  /-- w:nat R553 reset:none | TD1 day of the last DRILL_DUE -/
  dueDay : Option Nat
  /-- w:32 R127,R535 reset:none | TD2 less the partner's TD1 as the last TIME cell gave it, ns -/
  td2Err : Option Int
  /-- w:16+16 R559 reset:0 | PAIR_AGREE_LAT: MAX, LAST -/
  lat : Nat × Nat
  /-- w:nat R554 reset:0 | TD0 at which the migrating join finished -/
  migAt : Nat
  /-- w:list R118,R539 reset:empty | commands scheduled at a named wave by the active: wave, code, values -/
  sched : List (Nat × Nat × List Nat)
  /-- w:cells R529 reset:empty | cells handed to the link, newest first: type, values -/
  cells : List (Nat × List Nat)
  /-- w:nat R529 reset:0 | TD0 of the last HEARTBEAT cell -/
  hbCellAt : Nat
  /-- w:nat R534 reset:none | TD0 until which a lane with the higher serial waits for ACTIVE pulses -/
  waitUntil : Option Nat
  /-- w:1 R530 reset:0 | the link has come up since start -/
  linkOnce : Bool
  /-- w:nat R530 reset:0 | TD0 of the configuration stage -/
  cfgAt : Nat
  /-- w:list R553,R555 reset:empty | what a named handover begins: 1 and the dwell of a drill, 2 and a drill's result, DETAIL
  and UPC_FAIL, 3 a lane that leaves the pair -/
  handX : List Nat
  /-- w:1 R553 reset:0 | the BIND_IN level that the partner reports -/
  partnerBindIn : Bool
  /-- w:1 R553 reset:0 | a detector of fault class is in force in the partner -/
  partnerFault : Bool
  /-- w:1 R549 reset:0 | BIND_FAULT of value 2 has been written since the takeover -/
  bindHeld : Bool
  /-- w:nat R549 reset:0 | TD0 of the takeover that wants the binding -/
  wantAt : Nat
  /-- w:1 R532 reset:0 | BIND_FAULT of value 1 has been written since the levels differ -/
  diffTold : Bool
  /-- w:list R541 reset:empty | standby: inputs whose own state differs from the agreed one, and the TD0 since when; counted
  once each -/
  diDiff : List (Nat × Nat × Bool)
  /-- w:1 R555 reset:0 | this lane has left the pair by PAIR_RELEASE action 3 -/
  left : Bool
  /-- w:list R32 reset:DESIGN CHOICE empty | pair role history, newest first (at most 8 192 kept): TD1 instant, STATE and ACTIVE
  after a change; held in MRAM -/
  roleHist : List (Nat × Nat × Bool)
  /-- w:section R554 reset:none | the logic section that the partner runs, by which a migrating join takes the logic state -/
  migSec : Option LogicSec
  deriving DecidableEq, Repr, Inhabited

/-- A frame handed to a port (R566): kind (1 PTP, 2 GOOSE with a trip point, 3 remote I/O, 4 SV, 5 GOOSE,
6 C37.118.2, 7 management), port set, the identifying numbers and the values it carries. -/
structure TxFrame where
  kind : Nat
  ports : BitVec 3
  ids : List Nat
  vals : List Nat
  bytes : List Byte
  deriving DecidableEq, Repr, Inhabited

/-- One Ethernet port (R560, R566, R577, R581). -/
structure Port where
  /-- w:1 R581 reset:0 | LINK -/
  link : Bool
  /-- w:2 R581 reset:0 | SPEED -/
  speed : Nat
  /-- w:1 R577,R581 reset:0 | NET_LANE_LOSS in force -/
  loss : Bool
  /-- w:8 R581 reset:0 | LOSS_CAUSE -/
  lossVal : Nat
  /-- w:nat R577 reset:0 | TD0 of the last frame received -/
  rxAt : Nat
  /-- w:nat R577 reset:none | TD0 since which the port's loss condition is absent -/
  clearAt : Option Nat
  /-- w:nat R577 reset:0 | own supervision frames in succession that have not returned -/
  noReturn : Nat
  /-- w:32 R581 reset:0 | NET_RX_DROPp -/
  rxDrop : Nat
  /-- w:32 R581 reset:0 | NET_PORTp_RX -/
  rx : Nat
  /-- w:32 R581 reset:0 | NET_PORTp_TX -/
  tx : Nat
  /-- w:32 R581 reset:0 | NET_PORTp_FCS -/
  fcs : Nat
  /-- w:32 R581 reset:0 | NET_PORTp_TX_DISC -/
  txDisc : Nat
  /-- w:15 R581 reset:0 | NET_PORTp_TXPEAK -/
  txPeak : Nat
  /-- w:15 R27,R581 reset:0 | bytes queued in the real-time share at `qAt` -/
  qBytes : Nat
  /-- w:14 R27 reset:0 | bytes queued in the management share at `qAt` -/
  mBytes : Nat
  /-- w:nat R27 reset:0 | TD0 at which `qBytes` and `mBytes` held -/
  qAt : Nat
  /-- w:16 R565 reset:0 | management frames taken in the present TD0 second -/
  mgmt : Nat
  /-- w:nat R565 reset:0 | that TD0 second -/
  mgmtSec : Nat
  /-- w:nat R565 reset:none | TD0 second of the last MGMT_RATE_LIMIT -/
  limSec : Option Nat
  deriving DecidableEq, Repr, Inhabited

/-- One GOOSE subscription (R571 to R573). -/
structure GooseSub where
  num : Nat
  lost : Bool
  st : Nat
  sq : Nat
  ever : Bool
  until_ : Nat
  rejSec : Option Nat
  deriving DecidableEq, Repr, Inhabited

/-- An accepted frame's values waiting for their wave (R573): subscription, arrival stamp, N writes
(word?, address, value, quality). -/
structure GoosePend where
  sub : Nat
  t1 : Nat
  wave : Option Nat
  writes : List (Bool × Nat × Nat × Nat)
  deriving DecidableEq, Repr, Inhabited

/-- The network ports and published streams (R560 to R581). -/
structure Net where
  /-- w:3 ports R560 reset:see fields | NET_A, NET_B, NET_C -/
  port : List Port
  /-- w:1 R581 reset:0 | RING_OPEN -/
  ringOpen : Bool
  /-- w:32 R567 reset:empty | publications -/
  pubs : List GoosePub
  /-- w:128 R571 reset:empty | subscriptions that have changed from their start -/
  subs : List GooseSub
  /-- w:list R573 reset:empty | accepted values waiting for their wave -/
  pend : List GoosePend
  /-- w:4096+1024 R573 reset:0 | quality bytes of subscribed N bits (key 2a) and words (key 2a+1) -/
  nQual : SMap
  /-- w:32 R581 reset:0 | NET_GO_SEQERR -/
  seqErr : Nat
  /-- w:32 R581 reset:0 | NET_GO_REJ -/
  goRej : Nat
  /-- w:32 R581 reset:0 | NET_TWIN_DUP -/
  twinDup : Nat
  /-- w:32 R581 reset:0 | NET_PRP_DUP -/
  prpDup : Nat
  /-- w:32 R581 reset:0 | NET_MGMT_DROP -/
  mgmtDrop : Nat
  /-- w:32 R581 reset:0 | NET_ARP_DROP -/
  arpDrop : Nat
  /-- w:32 R581 reset:0 | NET_SV_REJ -/
  svRej : Nat
  /-- w:1024 R562 reset:empty | duplicate table: source MAC, sequence number, TD0; newest first -/
  dup : List (Nat × Nat × Nat)
  /-- w:64 R564 reset:empty | ARP cache: IPv4 address, MAC, TD0 of the entry -/
  arp : List (Nat × Nat × Nat)
  /-- w:nat R564 reset:0 | TD0 of the last ARP refresh -/
  arpAt : Nat
  /-- w:nat R562 reset:0 | TD0 of the last supervision frame -/
  supAt : Nat
  /-- w:16 R562 reset:0 | PRP/HSR sequence number -/
  prpSeq : Nat
  /-- w:16 each R574 reset:0 | smpCnt of the next ASDU of published streams 0 and 1 -/
  smpCnt : List Nat
  /-- w:list R574 reset:empty | ASDUs of published streams 0 and 1 that wait for their frame: smpCnt, SmpSynch, values and
  qualities of each -/
  svAsdu : List (List Nat)
  /-- w:frames R27 reset:empty | management frames held back while a port's management share is full, oldest first -/
  mgmtWait : List TxFrame
  /-- w:frames R566 reset:empty | frames handed to the ports and forwarded, newest first -/
  out : List TxFrame
  deriving DecidableEq, Repr, Inhabited

end Sys2Proof.Machine
end

