-- ==== Sys2Proof/Machine/StPower.lean ====
section
/-! DEFINITION. State of the supply, the reset, the start-up and the image slots (02, 03, 04). -/

namespace Sys2Proof.Machine

/-- The stages of R70, the halts of R73 and R76 and the two ways down of R54 and R58. -/
inductive Phase where
  | off | romBoot | romRecovery | firmware | imageSelect | configure | running | halted | inReset | holdUp
  deriving DecidableEq, Repr, Inhabited

/-- The supply, the reset lines and the hold-up store (R44, R54 to R63). -/
structure Power where
  /-- w:enum R70,R73,R76,R54,R58 reset:off | the stage of start-up or shutdown -/
  phase : Phase
  /-- w:1 R44,R58 reset:0 | VMAIN is good: above 10.5 V for 10 ms, and not below 9.0 V since -/
  vmainGood : Bool
  /-- w:nat R44,R69 reset:0 | TD0 instant, of the run in progress, at which VMAIN became good again in the hold-up stage -/
  goodAt : Nat
  /-- w:1 R44 reset:0 | VMAIN_LOW in force -/
  vmainLow : Bool
  /-- w:1 R57 reset:1 | level of PFAIL_N as judged after 2 us -/
  pfailN : Bool
  /-- w:1 R54 reset:1 | level of RESET_N -/
  resetN : Bool
  /-- w:1 R57,R59 reset:0 | the warning stage is in force -/
  warning : Bool
  /-- w:1 R54,R55 reset:0 | a reset has been taken and waits for its flush to end -/
  resetPend : Bool
  /-- w:1 R56 reset:0 | the reset taken came through the JTAG TAP -/
  jtag : Bool
  /-- w:nat R54 reset:0 | TD0 instant at which RESET_N fell -/
  resetAt : Nat
  /-- w:1 R60,R62 reset:0 | the store is charged -/
  storeCharged : Bool
  /-- w:1 R62 reset:0 | the 2 ms measurement runs -/
  measuring : Bool
  /-- w:32 R62,R63 reset:DESIGN CHOICE 0 | measured capacitance, uF; held in MRAM -/
  storeCapUF : Nat
  /-- w:32 R62,R63 reset:DESIGN CHOICE 0 | measured ESR, mOhm; held in MRAM -/
  storeEsrMohm : Nat
  /-- w:32 R62,R630 reset:DESIGN CHOICE 0 | hold-up time at 5 W of the last measurement, us; held in MRAM -/
  holdupUs : Nat
  /-- w:1 R53,R58 reset:0 | the field and process isolated converters run -/
  convertersOn : Bool
  /-- w:1 R139,R628 reset:0 | REF_IN is lost while the timing clock derives from it -/
  refLost : Bool
  deriving DecidableEq, Repr, Inhabited

/-- The pads that commands or the engine move (R38, R52, R53, R140, R582). -/
structure Pads where
  /-- w:1 R53,R82 reset:0 | HEALTHY conducts -/
  healthy : Bool
  /-- w:1 R16,R53 reset:0 | FORCE_IND conducts -/
  forceInd : Bool
  /-- w:1 R52,R532 reset:0 | BIND_OUT -/
  bindOut : Bool
  /-- w:1 R52,R531 reset:0 | HB_OUT pulses are being sent -/
  hbOut : Bool
  /-- w:2 R531 reset:0 | code of the last pulse on HB_OUT: 1 ACTIVE (2 us wide), 2 STANDBY (4 us), 3 FAILURE (6 us); 0 none yet -/
  hbCode : Nat
  /-- w:1 R532 reset:0 | BIND_IN -/
  bindIn : Bool
  /-- w:1 R140 reset:0 | PPS_OUT -/
  ppsOut : Bool
  /-- w:1 R582 reset:0 | HIRQ_N is held low -/
  hirq : Bool
  deriving DecidableEq, Repr, Inhabited

/-- Power-fail flush (R94 to R98). -/
structure Flush where
  /-- w:1 R94 reset:0 | CAP_FLUSH.RUNNING -/
  running : Bool
  /-- w:1 R94 reset:0 | CAP_FLUSH.DONE -/
  done : Bool
  /-- w:2 R94 reset:0 | CAP_FLUSH.CAUSE -/
  cause : Nat
  /-- w:3 R96 reset:0 | step in progress, 1 to 5; 0 none -/
  step : Nat
  /-- w:5 R94,R96 reset:0 | bit n-1: step n of the present flush has completed -/
  okMask : Nat
  /-- w:nat R94 reset:0 | TD0 instant at which the flush began -/
  startAt : Nat
  /-- w:16 R94 reset:0 | duration of the present flush, units of 10 us, once it has ended -/
  time : Nat
  /-- w:5 R94 reset:DESIGN CHOICE 0x1F | steps completed by the flush that ended the previous run; held in MRAM -/
  lastOk : Nat
  /-- w:4 R94 reset:DESIGN CHOICE 0 (log entry 2) | CAP_FLUSH.LAST_CAUSE; held in MRAM -/
  lastCause : Nat
  /-- w:16 R94 reset:DESIGN CHOICE 0 (log entry 2) | CAP_FLUSH.LAST_TIME, units of 10 us; held in MRAM -/
  lastTime : Nat
  /-- w:1 R98 reset:0 | the flush was started at a structural activation (steps 1 to 4 only, R119) -/
  structural : Bool
  /-- w:1 R59 reset:0 | the warning recovered while a step ran; the step in progress is the last -/
  recovered : Bool
  /-- w:2 R55,R58,R59 reset:0 | cause of the flush that starts when the step that a recovery lets complete has ended; 0 none -/
  again : Nat
  deriving DecidableEq, Repr, Inhabited

/-- One firmware slot (R32, R72, R608, R609). -/
structure FwSlot where
  /-- w:bytes R609 reset:empty | the bytes written -/
  bytes : List Byte
  /-- w:4 R92 reset:0 | result code of the last verification -/
  result : Nat
  /-- w:32 R608 reset:0 | firmware version of the manifest -/
  version : Nat
  /-- w:7 R608 reset:0 | SVN of the manifest -/
  svn : Nat
  /-- w:1 R608 reset:0 | CERTIFIED flag of the manifest -/
  certified : Bool
  /-- w:64 bytes R614 reset:empty | SHA-512 of the manifest -/
  digest : List Byte
  deriving DecidableEq, Repr, Inhabited

/-- Boot results and firmware staging (R72 to R74, R90 to R92, R609). -/
structure Boot where
  /-- w:4 R92 reset:DESIGN CHOICE 0 (log entry 2) | CAP_BOOT.CAUSE -/
  cause : Nat
  /-- w:2 R92 reset:DESIGN CHOICE 0 (log entry 2) | CAP_BOOT.SLOT -/
  slot : Nat
  /-- w:4 R92 reset:DESIGN CHOICE 0 (log entry 2) | CAP_BOOT.FWA_RESULT -/
  fwaResult : Nat
  /-- w:4 R92 reset:DESIGN CHOICE 0 (log entry 2) | CAP_BOOT.FWB_RESULT -/
  fwbResult : Nat
  /-- w:32 R91 reset:DESIGN CHOICE 0 (log entry 2) | CAP_FW_VER -/
  fwVer : Nat
  /-- w:slot R72,R609 reset:DESIGN CHOICE empty | the slot named FW_A -/
  fwA : FwSlot
  /-- w:slot R72,R609 reset:DESIGN CHOICE empty | the slot named FW_B -/
  fwB : FwSlot
  /-- w:1 R626 reset:DESIGN CHOICE 0 | SEC_SLOTMAP.PHYS_A -/
  physA : Bool
  /-- w:1 R609,R626 reset:0 | SEC_SLOTMAP.NEXT_SWAP -/
  nextSwap : Bool
  /-- w:32+slot+session R609 reset:none | firmware staging in progress: length, slot (0 FW_A, 1 FW_B), session -/
  fwStage : Option (Nat × Nat × Nat)
  /-- w:bytes R609 reset:empty | bytes staged, by offset -/
  fwBytes : List (Nat × List Byte)
  /-- w:32 R90 reset:0 | CAP_START_T, us -/
  startT : Nat
  /-- w:nat R610 reset:0 | TD0 instant at which protection began on the present FW_A -/
  protSince : Nat
  /-- w:64 R90,R91 reset:DESIGN CHOICE 0 | module serial number (cal) -/
  serial : Nat
  /-- w:8 R91 reset:DESIGN CHOICE 0 | CAP_ID.REV (cal) -/
  rev : Nat
  /-- w:48 R563 reset:DESIGN CHOICE 0 | factory MAC address (cal) -/
  mac : Nat
  /-- w:list R75 reset:empty | self-tests that failed at this start -/
  failedTests : List Nat
  deriving DecidableEq, Repr, Inhabited

/-- An activation in progress (R115 to R120). -/
structure Activation where
  cls : Nat
  commit : Bool
  req : Req
  acceptedNs : Nat
  acceptedTd0 : Nat
  waitPeer : Bool
  boundary : Option Nat
  deriving DecidableEq, Repr, Inhabited

/-- Image slots, staging, activation and setting groups (R77 to R81, R110 to R123). -/
structure Images where
  /-- w:bytes R77,R81 reset:DESIGN CHOICE empty | SCH_USER -/
  user : List Byte
  /-- w:bytes R77,R112 reset:empty | SCH_PENDING -/
  pending : List Byte
  /-- w:4 R93 reset:DESIGN CHOICE 1 | CAP_IMAGE.USER_STATUS -/
  userStatus : Nat
  /-- w:4 R93 reset:DESIGN CHOICE 1 | CAP_IMAGE.PENDING_STATUS -/
  pendStatus : Nat
  /-- w:16+32 R110 reset:0 | section type and byte offset of the first offending item -/
  offend : Nat × Nat
  /-- w:4 R86,R93 reset:0 | CAP_IMAGE.LE_START -/
  leStart : Nat
  /-- w:2 R93 reset:0 | CAP_IMAGE.SOURCE -/
  source : Nat
  /-- w:session+32 R112,R113 reset:none | the staging session and TOTAL_LEN -/
  staging : Option (Nat × Nat)
  /-- w:bytes R112 reset:empty | staged writes: (offset, bytes), oldest first -/
  staged : List (Nat × List Byte)
  /-- w:image R79,R103 reset:none | the layered result in service; none before an image is loaded -/
  cur : Option Image
  /-- w:image R115 reset:none | the layered result of the staged image once IMG_COMMIT found it valid -/
  next : Option Image
  /-- w:record R115,R117 reset:none | the activation in progress -/
  act : Option Activation
  /-- w:1 R81,R120 reset:0 | a commit to SCH_USER is being written -/
  committing : Bool
  /-- w:3 R122,R241 reset:0 | GS_GROUP.CURRENT -/
  group : Nat
  /-- w:2 R241 reset:0 | GS_GROUP.SOURCE -/
  groupSrc : Nat
  /-- w:3 R122 reset:none | a logic group request held while a pickup state is set -/
  heldGroup : Option Nat
  /-- w:3 R122,R123 reset:none | GROUP_SELECT request not yet seen by the headbox, with what it answers (none in a lane that took it from its
  partner) -/
  cmdGroups : List (Nat × Option Req)
  /-- w:32 R122 reset:0 | previous wave's value of the group request word -/
  lastReqWord : Nat
  /-- w:3 R122 reset:none | last DI code read -/
  lastDiCode : Option Nat
  /-- w:3+8 bytes R123 reset:none | last group selected and the watermark it was selected under; held in MRAM -/
  savedGroup : Option (Nat × List Byte)
  deriving DecidableEq, Repr, Inhabited

end Sys2Proof.Machine
end

