-- ==== Sys2Proof/Machine/StProcess.lean ====
section
/-! DEFINITION. State of the universal process channels, both sides of the process barrier (14). -/

namespace Sys2Proof.Machine

/-- One process channel (R439 to R458). -/
structure ProcChan where
  /-- w:4 R464,R470 reset:img | MODE in force at the process side -/
  mode : Nat
  /-- w:4 R470 reset:img | SENSOR in force -/
  sensor : Nat
  /-- w:4 R470 reset:img | WIRES in force -/
  wires : Nat
  /-- w:12 R464 reset:none | mode, sensor and wires written or activated and not yet adopted by the process side -/
  newMode : Option (Nat × Nat × Nat)
  /-- w:8 R445,R470 reset:0x01 | UPC_CHn_STAT.QUAL -/
  qual : BitVec 8
  /-- w:2 R444,R470 reset:0 | UPC_CHn_STAT.NE43 -/
  ne43 : Nat
  /-- w:1 R443,R445 reset:0 | the value was clamped by the characteristic -/
  clamped : Bool
  /-- w:1 R445 reset:0 | OVERRANGE in the last primary pass -/
  ovr : Bool
  /-- w:1 R445 reset:1 | no primary pass completed since start, mode change or activation (SETTLE) -/
  settle : Bool
  /-- w:1 R458 reset:0 | x lies outside the sensor's range -/
  outRange : Bool
  /-- w:nat R445 reset:0 | TD0 at which the primary entry last completed a pass -/
  passAt : Nat
  /-- w:nat R445 reset:0 | duration of the last primary pass, 2^-40 ns -/
  passDur : Nat
  /-- w:24 R442 reset:none | latest lead pass mean, codes: sum and count -/
  lead : Option (Int × Nat)
  /-- w:24 R442 reset:none | latest cold-junction pass mean, 0.001 degC: sum and count -/
  cold : Option (Int × Nat)
  /-- w:24 R456 reset:none | latest signal pass mean, codes -/
  signal : Option Int
  /-- w:12 R454,R470 reset:0 | UPC_CHn_RB.RB -/
  rb : Nat
  /-- w:16 R453,R470 reset:0 | UPC_CHn_CMD.DAC -/
  dac : Nat
  /-- w:1 R463,R470 reset:0 | UPC_CHn_CMD.ENABLED -/
  enabled : Bool
  /-- w:1 R455,R470 reset:0 | TESTED -/
  tested : Bool
  /-- w:1 R457,R470 reset:0 | FOLDBACK -/
  foldback : Bool
  /-- w:1 R456,R470 reset:0 | SATURATED -/
  saturated : Bool
  /-- w:1 R454,R470 reset:0 | FAILURE, as the process side reports it -/
  failure : Bool
  /-- w:1 R458,R461 reset:0 | TC test above 50 mV, as reported -/
  tcHigh : Bool
  /-- w:1 R454,R470 reset:0 | UPC_READBACK_MISMATCH in force -/
  mismatch : Bool
  /-- w:2 R455,R456,R470 reset:0 | UPC_OPEN_LOOP in force: bit per cause 1 to 3 -/
  openLoop : Bool
  /-- w:1 R455,R456,R470 reset:0 | UPC_COMPLIANCE in force -/
  compliance : Bool
  /-- w:1 R458,R470 reset:0 | UPC_SIGNAL_RANGE in force -/
  range : Bool
  /-- w:1 R458,R470 reset:0 | UPC_TC_OPEN in force -/
  tcOpen : Bool
  /-- w:nat R454 reset:none | TD0 since which readback and command differ beyond the limit -/
  mismatchSince : Option Nat
  /-- w:nat R454 reset:none | TD0 since which the mismatch has been absent -/
  agreeSince : Option Nat
  /-- w:2 R454 reset:0 | result of the last verification of this mismatch: 0 none, 1 command, 2 readback -/
  verified : Nat
  /-- w:nat R456 reset:none | TD0 since which headroom is below 1.0 V -/
  headSince : Option Nat
  /-- w:nat R456 reset:none | TD0 since which the loop current is too low -/
  openSince : Option Nat
  /-- w:2 R456 reset:0 | cause (2 or 3) of the low loop current -/
  openCause : Nat
  /-- w:nat R458 reset:none | TD0 since which the signal is out of range -/
  rangeSince : Option Nat
  /-- w:nat each R458 reset:none | TD0 since which the conditions of open loop, compliance, range and TC open are absent -/
  clearSince : List (Option Nat)
  /-- w:nat R455 reset:none | TD0 at which the 5 ms start-up test began -/
  testAt : Option Nat
  /-- w:nat R452 reset:0 | TD0 of the last verification issued -/
  verifyAt : Nat
  /-- w:nat R458 reset:0 | TD0 of the last TC test -/
  tcAt : Nat
  deriving DecidableEq, Repr, Inhabited

/-- The definition of a sequencer entry (R446). -/
structure SeqCfg where
  chan : Nat
  meas : Nat
  filter : Nat
  rate : Nat
  settle : Nat
  count : Nat
  primary : Bool
  deriving DecidableEq, Repr, Inhabited

/-- One sequencer entry (R446, R450, R451). -/
structure SeqEntry where
  /-- w:64 R446 reset:none | definition in force; none when not configured -/
  cfg : Option SeqCfg
  /-- w:16 R470 reset:0 | UPC_ENTRYe_STAT.PASSES -/
  passes : Nat
  /-- w:sum R442 reset:0 | kept codes of the running pass: sum -/
  sum : Int
  /-- w:13 R446 reset:0 | kept results of the running pass -/
  kept : Nat
  /-- w:1 R450 reset:0 | OVERRANGE among them -/
  ovr : Bool
  /-- w:window R450,R451 reset:empty | snap accumulator and min-max tracker; instants (ns, 0) of TD1 -/
  win : Window
  /-- w:32 R451 reset:0 | discards within the window -/
  discarded : Nat
  /-- w:1 R451 reset:0 | the definition changed since the last record returned -/
  changed : Bool
  deriving DecidableEq, Repr, Inhabited

/-- An urgent conversion (R452): a host request, or a readback verification. -/
structure Urgent where
  verify : Bool
  req : Req
  chan : Nat
  meas : Nat
  filter : Nat
  rate : Nat
  settle : Nat
  deriving DecidableEq, Repr, Inhabited

/-- The universal process channels (R438 to R470). -/
structure Upc where
  /-- w:4 channels R439 reset:see fields | channels 0 to 3 -/
  ch : List ProcChan
  /-- w:32 entries R446 reset:see fields | sequencer entries -/
  ent : List SeqEntry
  /-- w:1 R449,R470 reset:0 | a pass runs -/
  running : Bool
  /-- w:5 R470 reset:0 | current entry -/
  cur : Nat
  /-- w:1 R449,R470 reset:0 | a start is latched -/
  latched : Bool
  /-- w:1 R462,R470 reset:1 | passes are stopped (process side SAFE or not configured) -/
  stopped : Bool
  /-- w:3 R448 reset:0 | conversions still to discard before the next kept one -/
  discLeft : Nat
  /-- w:tuple R448 reset:none | channel, measurement, filter and rate of the conversion before -/
  prevConv : Option (Nat × Nat × Nat × Nat)
  /-- w:nat R445 reset:0 | TD0 at which the running pass began -/
  passStart : Nat
  /-- w:16 R470 reset:0 | UPC_SEQ_STAT.PASSES -/
  passes : Nat
  /-- w:record R452 reset:none | urgent request pending -/
  urgPend : Option Urgent
  /-- w:record R452,R459 reset:none | urgent request sent to the process side and waiting for a conversion's end -/
  urgWait : Option Urgent
  /-- w:record R452 reset:none | urgent conversion in progress -/
  urgent : Option Urgent
  /-- w:nat each R452 reset:empty | verifications to be issued again: channel and TD0 instant -/
  retry : List (Nat × Nat)
  /-- w:queue R461 reset:empty | results waiting for an upstream frame: entry, urgent, OVERRANGE, code -/
  results : List (Nat × Bool × Bool × Int)
  /-- w:requests R451 reset:empty | ACC_SNAP kind 4 requests waiting for a frame boundary: request and entry -/
  snapReqs : List (Req × Nat)
  /-- w:32 R470 reset:0 | UPC_DISCARD -/
  discard : Nat
  /-- w:32 R470 reset:0 | UPC_URG_DROP -/
  urgDrop : Nat
  /-- w:32 R470 reset:0 | UPC_SEQ_OVERLAP -/
  overlap : Nat
  /-- w:nat R449 reset:0 | starts dropped since the last SEQ_OVERLAP event -/
  overlapSince : Nat
  /-- w:nat R449 reset:none | TD0 second of the last SEQ_OVERLAP event -/
  overlapSec : Option Nat
  /-- w:32 R470 reset:0 | UPC_UP_ERR -/
  upErr : Nat
  /-- w:32 R470 reset:0 | UPC_DOWN_ERR -/
  downErr : Nat
  /-- w:8 R470 reset:0 | TEMP, signed -/
  temp : Int
  /-- w:16 R470 reset:0 | PL24, mV -/
  pl24 : Nat
  /-- w:1 R462,R470 reset:0 | barrier up -/
  up : Bool
  /-- w:1 R462 reset:0 | any good upstream frame since start -/
  everUp : Bool
  /-- w:1 R470 reset:0 | SAFE as reported -/
  safeRep : Bool
  /-- w:1 R470 reset:0 | CONFIGURED as reported -/
  configured : Bool
  /-- w:1 R470 reset:0 | RELEASE in the last frame -/
  released : Bool
  /-- w:1 R462 reset:0 | restoration waits for the next frame start -/
  restorePend : Bool
  /-- w:nat R462 reset:0 | consecutive bad or missing upstream frames -/
  badRun : Nat
  /-- w:nat R462 reset:0 | consecutive good upstream frames with CONFIGURED -/
  goodRun : Nat
  /-- w:8 R459 reset:0 | SEQ of the last downstream frame -/
  seq : Nat
  /-- w:nat R24,R459 reset:0 | number of the 32 us multiple of the grid at which that frame started -/
  frameIdx : Nat
  /-- w:8 R416 reset:none | SEQ of the last good upstream frame -/
  upSeq : Option Nat
  /-- w:8 R459 reset:0 | FLAGS of the last downstream frame -/
  sentFlags : BitVec 8
  /-- w:7 R460 reset:0 | CFG_INDEX of the next frame -/
  cfgIdx : Nat
  /-- w:1 R449 reset:0 | process side: a periodic start has arrived and is not yet judged -/
  startIn : Bool
  /-- w:nat R462 reset:0 | process side: consecutive bad or missing downstream frames -/
  psBad : Nat
  /-- w:nat R462 reset:0 | process side: consecutive good downstream frames -/
  psGood : Nat
  /-- w:8 R461 reset:0 | process side: SEQ of the last good downstream frame -/
  psSeq : Nat
  /-- w:1 R461 reset:0 | process side: DOWN_ERR to report -/
  psDownErr : Bool
  /-- w:1 R462 reset:1 | process side: SAFE in force -/
  psSafe : Bool
  /-- w:85x32 R460 reset:0 | process side: configuration words adopted -/
  cfg : SMap
  /-- w:85x32 R460 reset:none | process side: value last received at each index -/
  cfgSeen : List (Nat × Nat)
  /-- w:85 R460 reset:empty | process side: indices adopted -/
  cfgDone : List Nat
  deriving DecidableEq, Repr, Inhabited

end Sys2Proof.Machine
end

