-- ==== Sys2Proof/Machine/State.lean ====
section
/-! DEFINITION. The state of the engine, its faults and refusals, and the state right after reset. -/

namespace Sys2Proof.Machine

/-- The engine: every unit of the spec, and the queue of the commands that wait. Plain data. -/
structure State where
  /-- w:2 R1,R91 reset:DESIGN CHOICE X | the ordering code of the part -/
  code : Code
  /-- w:unit R44 reset:see fields | supply, reset lines and hold-up store -/
  pw : Power
  /-- w:unit R38 reset:see fields | pads -/
  pads : Pads
  /-- w:unit R94 reset:see fields | power-fail flush -/
  fl : Flush
  /-- w:unit R90 reset:see fields | boot results and firmware slots -/
  boot : Boot
  /-- w:unit R77 reset:see fields | image slots, staging, activation, setting groups -/
  img : Images
  /-- w:unit R125 reset:see fields | grid time unit -/
  tu : TimeUnit
  /-- w:unit R170 reset:see fields | acquisition, headbox and travelling-wave front-end -/
  acq : Acq
  /-- w:unit R206 reset:see fields | operator array, graph scheduler, elements and trip path -/
  gr : GraphUnit
  /-- w:unit R347 reset:see fields | scheme logic engine -/
  le : Logic
  /-- w:unit R389 reset:see fields | remote I/O -/
  rio : Rio
  /-- w:unit R411 reset:see fields | field inputs and outputs -/
  fio : Field
  /-- w:unit R438 reset:see fields | universal process channels -/
  upc : Upc
  /-- w:unit R471 reset:see fields | disturbance recorder -/
  dr : Dr
  /-- w:unit R504 reset:see fields | event recorder -/
  evr : EventRec
  /-- w:unit R528 reset:see fields | pair operation -/
  pr : Pair
  /-- w:unit R560 reset:see fields | network ports and published streams -/
  net : Net
  /-- w:unit R582 reset:see fields | command processor -/
  cmd : Cmd
  /-- w:unit R606 reset:see fields | security -/
  sec : Sec
  /-- w:unit R627 reset:see fields | health, wear and injection -/
  hlt : Health
  /-- w:queue MODEL reset:empty | the commands that wait, first in first out -/
  pending : List Instr
  deriving DecidableEq, Repr

/-- Faults: no command of this model faults, because the spec gives every command an effect in every state. -/
inductive Fault where
  deriving DecidableEq, Repr

/-- Refusals. -/
inductive Refusal where
  /-- Raised by an arm of `exec` whose command has no meaning yet; safe: nothing can be proved of such a command. -/
  | notModelled (mnemonic : String)
  deriving DecidableEq, Repr

/-- One time domain at start: 4.0 ns increments, never locked, class 15 (R14, R169); TD0 reads free (R168). -/
def Domain.reset : Domain :=
  { (default : Domain) with inc := 2 ^ 42, slew := 2 ^ 42, qst := .never, cls := 15 }

/-- One token channel at start (R183: no token yet, validity invalid). -/
def Chan.reset : Chan := { (default : Chan) with qual := 0x01#8 }

/-- The supply at start (R44, R54, R57): off, RESET_N and PFAIL_N high. -/
def Power.reset : Power := { (default : Power) with pfailN := true, resetN := true }

/-- The flush record at start (R94); the model's choice: the flush before reported every step. -/
def Flush.reset : Flush := { (default : Flush) with lastOk := 31 }

/-- The image slots at start (R93); the model's choice: SCH_USER and SCH_PENDING empty, status 1. -/
def Images.reset : Images := { (default : Images) with userStatus := 1, pendStatus := 1 }

/-- The grid time unit at start (R143, R168, R169). -/
def TimeUnit.reset : TimeUnit :=
  { (default : TimeUnit) with
    d0 := { Domain.reset with qst := .free }, d1 := Domain.reset, d2 := Domain.reset, d3 := Domain.reset
    src := List.replicate 4 default, lockCls := 15, grid := .aligned, ptpRole := [0, 0] }

/-- Acquisition at start (R170, R205, R345). -/
def Acq.reset : Acq :=
  { (default : Acq) with
    ch := List.replicate 16 Chan.reset, serving := List.range 16, spare := 16
    gain := List.replicate 17 0, ofs := List.replicate 17 0
    sv := List.replicate 2 default, tw := List.replicate 12 { (default : TwStream) with armed := true }
    burst := [none, none], twDelay := 89088, burstCnt := [0, 0], locDist := 0xFFFFFFFF
    hrQual := List.replicate 16 0x01#8 }

/-- The graph at start (R240, R241). -/
def GraphUnit.reset : GraphUnit :=
  { (default : GraphUnit) with
    ready := List.replicate 4 [], load := List.replicate 4 (0, 0), loadAcc := List.replicate 4 0, pmu := List.replicate 4 default }

/-- The logic engine at start (R388). -/
def Logic.reset : Logic := { (default : Logic) with mode := .notStarted }

/-- Remote I/O at start (R410). -/
def Rio.reset : Rio := { (default : Rio) with st := List.replicate 32 default }

/-- The field unit at start (R417, R437): the field side is in SAFE. -/
def Field.reset : Field :=
  { (default : Field) with
    din := List.replicate 16 default, dout := List.replicate 8 default, fsSafe := true, diDelay := 1200 }

/-- One process channel at start (R445, R470). -/
def ProcChan.reset : ProcChan :=
  { (default : ProcChan) with qual := 0x01#8, settle := true, clearSince := List.replicate 4 none }

/-- The process channels at start (R460, R462, R470). -/
def Upc.reset : Upc :=
  { (default : Upc) with
    ch := List.replicate 4 ProcChan.reset, ent := List.replicate 32 default, psSafe := true, stopped := true }

/-- The recorder at start (R503). -/
def Dr.reset : Dr := { (default : Dr) with st := .disarmed, units := List.replicate 32 default, nextId := 1 }

/-- The pair unit at start (R559): SOLO, on its own values. -/
def Pair.reset : Pair :=
  { (default : Pair) with st := .solo, partnerSt := .solo, xc := List.replicate 16 default }

/-- The ports at start (R581). -/
def Net.reset : Net := { (default : Net) with port := List.replicate 3 default, smpCnt := [0, 0], svAsdu := [[], []] }

/-- Health at start (R630, R639): ten monitors. -/
def Health.reset : Health := { (default : Health) with mon := List.replicate 10 default }

/-- The machine right after reset: no supply yet, every register at the value the spec gives, memory that the part
holds across runs at the values the log names, and no command waiting. -/
def State.reset : State where
  code := .x
  pw := Power.reset
  pads := default
  fl := Flush.reset
  boot := default
  img := Images.reset
  tu := TimeUnit.reset
  acq := Acq.reset
  gr := GraphUnit.reset
  le := Logic.reset
  rio := Rio.reset
  fio := Field.reset
  upc := Upc.reset
  dr := Dr.reset
  evr := default
  pr := Pair.reset
  net := Net.reset
  cmd := default
  sec := default
  hlt := Health.reset
  pending := []

end Sys2Proof.Machine
end

