-- ==== Sys2Proof/Machine/Ops.lean ====
section
/-! DEFINITION. The named operations that several units share: time, parameters of the image in service, events,
detectors, sessions and responses. -/

namespace Sys2Proof.Machine

/-- What a command answers. -/
abbrev Res := Host.Outcome State Fault Refusal

/-! Time (R10 to R14). Counters count 2^-40 ns. -/

/-- `n` nanoseconds in counter units. -/
def nsT (n : Nat) : Nat := n * 2 ^ 40

/-- `n` microseconds in counter units. -/
def usT (n : Nat) : Nat := n * (1000 * 2 ^ 40)

/-- `n` milliseconds in counter units. -/
def msT (n : Nat) : Nat := n * (1000000 * 2 ^ 40)

/-- `n` seconds in counter units. -/
def secT (n : Nat) : Nat := n * (1000000000 * 2 ^ 40)

/-- Whole seconds of a counter. -/
def secOf (t : Nat) : Nat := t / secT 1

/-- Whole nanoseconds within the second. -/
def nsOf (t : Nat) : Nat := t % secT 1 / 2 ^ 40

/-- Whole nanoseconds of a counter. -/
def nsAll (t : Nat) : Nat := t / 2 ^ 40

/-- The TD0 counter. -/
def td0 (s : State) : Nat := s.tu.d0.t

/-- The TD1 counter. -/
def td1 (s : State) : Nat := s.tu.d1.t

/-- The grid's own time: TD1 less TB_SG_OFFSET (R156). -/
def gridT1 (s : State) : Nat := ((td1 s : Int) - s.tu.sgOffset).toNat

/-- The TD1 instant at which a point of the grid's own time occurs: its tag plus TB_SG_OFFSET (R153, R392). -/
def gridInstant (s : State) (tag : Nat) : Nat := ((tag : Int) + s.tu.sgOffset).toNat

/-- The grid stands at a multiple of `us` microseconds, within the tick, that is not the one numbered `last` (R24, R156). -/
def atMultiple (us last : Nat) (s : State) : Bool :=
  decide (gridT1 s % usT us < nsT 5) && gridT1 s / usT us != last

/-- A timestamp of 12 bytes (R12). -/
def stamp (t : Nat) : List Byte := leBytes 6 (secOf t) ++ leBytes 4 (nsOf t) ++ leBytes 2 (t / 2 ^ 24 % 65536)

/-- The code of a time-quality state (R14). -/
def TQState.toNat : TQState → Nat
  | .locked => 0 | .glide => 1 | .free => 2 | .never => 3

/-- The time-quality byte of domain `n` (R14). -/
def qualOf (n : Nat) (d : Domain) : Nat := fld 6 2 n + fld 4 2 d.qst.toNat + fld 0 4 d.cls

/-- The quality byte of TD1 (R14). -/
def td1Qual (s : State) : Nat := qualOf 1 s.tu.d1

/-- `d` counter units of TD0 have passed since the instant `t`. -/
def due (s : State) (t d : Nat) : Bool := decide (t + d ≤ td0 s)

/-! The part's ordering code (R1). -/

/-- U_TW is present. -/
def hasTw (s : State) : Bool := s.code == .x

/-- U_UPC is present. -/
def hasUpc (s : State) : Bool := s.code != .e

/-- U_RIO is present. -/
def hasRio (s : State) : Bool := s.code != .e

/-- U_T2 is present. -/
def hasT2 (s : State) : Bool := s.code != .e

/-! The image in service (R79, R103). -/

/-- A parameter record of a parameter list, as bytes. -/
def findParam (ps : List Param) (pid index : Nat) : Option (List Byte) :=
  (ps.find? (fun p => p.pid == pid && p.index == index)).map (·.value)

/-- The parameters in service; none before an image is loaded. -/
def params (s : State) : List Param := match s.img.cur with | some i => i.params | none => []

/-- A parameter record in service. -/
def prm (s : State) (pid index : Nat) : Option (List Byte) := findParam (params s) pid index

/-- The little-endian field of `n` bytes at offset `off` of a parameter in service, or its default. -/
def pv (s : State) (pid index off n dflt : Nat) : Nat :=
  match prm s pid index with | some v => leAt v off n | none => dflt

/-- The watermark in service: the first 8 bytes of the image's digest. -/
def watermark (s : State) : List Byte :=
  match s.img.cur with | some i => padTo 8 i.digest | none => zeros 8

/-- UTC in seconds at a TD1 instant: TD1 seconds less TB_UTC_OFFSET.OFFSET (R13). -/
def utcSec (s : State) (t : Nat) : Int := (secOf t : Int) - sgn 16 s.tu.utcOffset

/-! Free values. -/

/-- The next free value and the state that has read it. -/
def freshNat (s : State) : Nat × State :=
  (Config.freeNat s.tu.fresh, { s with tu := { s.tu with fresh := s.tu.fresh + 1 } })

/-! Events (R504, R505, R507, R515). -/

/-- The codes that are written as audit records (R518, R624). -/
def auditCode (c : Nat) : Bool :=
  (decide (0xC000 ≤ c) && decide (c ≤ 0xCFFF)) ||
  [0xB002, 0x0121, 0x0123, 0x0128, 0x5002, 0x5005, 0x5007, 0x5008, 0x1004, 0xD020, 0xD021].contains c

/-- An event of the engine itself, stamped now (R505). -/
def engineEvent (s : State) (code value : Nat) : Event :=
  { code := code, value := value, t0 := td0 s, t1 := td1 s, qual := td1Qual s, epoch := s.tu.d1.epoch, origin := 0,
    source := 0, test := false, subst := false, audit := auditCode code, held := false, sub := 0, parts := [] }

/-- One more drop of a code in the drop table (R515): 256 codes, further ones under code 0. -/
def noteDrop (ds : List Drop) (e : Event) : List Drop :=
  let c := if ds.any (·.code == e.code) then e.code else if ds.length < 256 then e.code else 0
  if ds.any (·.code == c) then
    updFirst (·.code == c) (fun d => { d with count := satInc 32 d.count, last := (e.t1, e.epoch) }) ds
  else ds ++ [{ code := c, count := 1, first := (e.t1, e.epoch, e.t0), last := (e.t1, e.epoch) }]

/-- An event dropped: counted in EVR_LOST_CNT and by code; LOST records are owed from now on (R515). -/
def dropEvent (e : Event) (s : State) : State :=
  { s with evr := { s.evr with lostCnt := satInc 32 s.evr.lostCnt, drops := noteDrop s.evr.drops e, owed := true } }

/-- Submits an event: held before the recorder starts (R95), dropped at a full submission queue (R27), else queued
with the TD0 instant of its submission. -/
def emit (b : Block) (e : Event) (s : State) : State :=
  if !s.evr.started then { s with evr := { s.evr with held := s.evr.held ++ [{ e with held := true }] } }
  else if 16 ≤ (s.evr.subq.filter (·.1 == b)).length then dropEvent e s
  else { s with evr := { s.evr with subq := s.evr.subq ++ [(b, { e with sub := td0 s })] } }

/-- Submits an event of the engine itself. -/
def submit (b : Block) (code value : Nat) (s : State) : State := emit b (engineEvent s code value) s

/-- Submits an event with an engine snapshot: companion DATA fields (R510). -/
def submitParts (b : Block) (code value : Nat) (parts : List (List Byte)) (s : State) : State :=
  emit b { engineEvent s code value with parts := parts } s

/-- Submits an event whose origin is a session's command (R504 ORIGIN 1). -/
def submitCmd (b : Block) (session code value : Nat) (s : State) : State :=
  emit b { engineEvent s code value with origin := 1, source := session } s

/-! Detectors (R627, R629). -/

/-- The event code of a detector (R627). -/
def detEvent : Nat → Nat
  | 0x01 => 0x2001 | 0x02 => 0x2002 | 0x03 => 0x2003 | 0x04 => 0x1005 | 0x05 => 0x1001 | 0x06 => 0x1004
  | 0x07 => 0x3001 | 0x08 => 0x3002 | 0x09 => 0xD001 | 0x0A => 0xD002 | 0x0B => 0xD003 | 0x0C => 0x5001
  | 0x0D => 0x6010 | 0x0E => 0x6012 | 0x0F => 0x6013 | 0x10 => 0x6014 | 0x11 => 0x6015 | 0x12 => 0x6016
  | 0x13 => 0x6017 | 0x14 => 0x6018 | 0x15 => 0x6019 | 0x16 => 0x7001 | 0x17 => 0x7003 | 0x18 => 0x7004
  | 0x19 => 0x7005 | 0x1A => 0x7006 | 0x1B => 0x7007 | 0x1C => 0x9004 | 0x1D => 0x9005 | 0x1E => 0x9006
  | 0x1F => 0x9007 | 0x20 => 0xA001 | 0x21 => 0xD004 | 0x22 => 0xD005 | 0x23 => 0xD006 | 0x24 => 0xB001
  | 0x25 => 0xA101 | 0x26 => 0x6002 | 0x27 => 0x4001 | 0x28 => 0xC001 | _ => 0

/-- The detectors of fault class (R627). -/
def faultClass (d : Nat) : Bool :=
  [0x01, 0x02, 0x07, 0x08, 0x09, 0x0A, 0x0C, 0x0D, 0x16, 0x17, 0x1E, 0x22, 0x24].contains d

/-- The detector is in force on an instance. -/
def detOn (s : State) (d i : Nat) : Bool := s.hlt.active.contains (d, i)

/-- The detector is in force on any instance, or within 1 s of its latest firing (R629). -/
def detInForce (s : State) (d : Nat) : Bool :=
  s.hlt.active.any (·.1 == d) || s.hlt.momentary.any (·.1 == d)

/-- The block that submits a detector's event. -/
def detBlock (d : Nat) : Block :=
  if d ≤ 0x03 then .acq else if d ≤ 0x06 then .time else if d ≤ 0x08 then .graph else if d ≤ 0x0B then .hlt
  else if d = 0x0C then .logic else if d ≤ 0x15 then .field else if d ≤ 0x1B then .upc else if d ≤ 0x1F then .pair
  else if d = 0x20 then .net else if d ≤ 0x23 then .hlt else if d = 0x24 then .cmd else if d = 0x25 then .rio
  else if d = 0x26 then .field else if d = 0x27 then .tw else .sec

/-- An injection of this detector is armed: what it produces carries TEST and SUBST (R635). -/
def injected (s : State) (d : Nat) : Bool := s.hlt.inj.any (fun j => j.det == d && j.applied)

/-- A detector with duration fires on an instance: its event is written and it is in force (R627, R629). -/
def fireDet (d i value : Nat) (s : State) : State :=
  let e := { engineEvent s (detEvent d) value with test := injected s d, subst := injected s d }
  let s := emit (detBlock d) e s
  { s with hlt := { s.hlt with
      active := if s.hlt.active.contains (d, i) then s.hlt.active else s.hlt.active ++ [(d, i)] } }

/-- A detector without duration fires: in force until 1 s of TD0 after its latest firing (R629). -/
def fireDetOnceP (d value : Nat) (parts : List (List Byte)) (s : State) : State :=
  let e := { engineEvent s (detEvent d) value with test := injected s d, subst := injected s d, parts := parts }
  let s := emit (detBlock d) e s
  { s with hlt := { s.hlt with momentary := s.hlt.momentary.filter (·.1 != d) ++ [(d, td0 s)] } }

/-- As `fireDetOnceP`, without an engine snapshot. -/
def fireDetOnce (d value : Nat) (s : State) : State := fireDetOnceP d value [] s

/-- A detector without duration whose event value the spec does not give fires: the value is free. -/
def fireDetFree (d : Nat) (s : State) : State :=
  let (v, s) := freshNat s
  fireDetOnce d (v % 2 ^ 32) s

/-- A detector's condition clears on an instance; the caller writes the clearing event. -/
def clearDet (d i : Nat) (s : State) : State :=
  { s with hlt := { s.hlt with active := s.hlt.active.filter (· != (d, i)) } }

/-- A detector clears on every instance. -/
def clearDetAll (d : Nat) (s : State) : State :=
  { s with hlt := { s.hlt with active := s.hlt.active.filter (·.1 != d) } }

/-! Event task triggers (R363). -/

/-- A trigger arises: it goes to the logic engine for each event task that names it. `edge` is 1 rising, 2 falling
for type 1, 0 otherwise. -/
def raiseTrig (kind index edge t1 t0 : Nat) (s : State) : State :=
  match s.le.sec with
  | none => s
  | some sec =>
    let hits := sec.tasks.filter (fun t => decide (8 ≤ t.task) && t.trigs.any (fun g =>
      g.kind == kind && g.index == index && (kind != 1 || g.edge == 3 || g.edge == edge)))
    let new : List Trig := hits.map (fun t => ⟨t.task, kind, index, t1, t0⟩)
    { s with le := { s.le with trigIn := s.le.trigIn ++ new } }

/-! Sessions, checks and responses (R585 to R593, R620). -/

/-- The open session that a request names, on its transport. -/
def findSession (s : State) (r : Req) : Option Session :=
  s.cmd.sessions.find? (fun x => x.num == r.session && x.transport == r.transport)

/-- The role bit of a command: 0 VIEWER, 1 OPERATOR, 2 ENGINEER, 3 TESTER, 4 SECADMIN; none: no role (R620). -/
def roleOf : Nat → Option Nat
  | 0x0001 => none | 0x0002 => none
  | 0x0010 => some 0 | 0x0024 => some 0 | 0x0036 => some 0 | 0x0040 => some 0 | 0x0042 => some 0 | 0x0050 => some 0
  | 0x0062 => some 0 | 0x0063 => some 0 | 0x0064 => some 0 | 0x0070 => some 0 | 0x00A0 => some 0 | 0x00A2 => some 0
  | 0x00B0 => some 0 | 0x00C0 => some 0
  | 0x0025 => some 1 | 0x0060 => some 1 | 0x0061 => some 1 | 0x0071 => some 1 | 0x0072 => some 1 | 0x0041 => some 1
  | 0x0034 => some 3 | 0x0035 => some 3 | 0x0090 => some 3 | 0x0091 => some 3
  | 0x00A1 => some 4 | 0x0028 => some 4 | 0x0029 => some 4 | 0x002A => some 4
  | _ => some 2

/-- The session holds a role. -/
def hasRole (x : Session) (b : Nat) : Bool := x.roles.getLsbD b

/-- The halted and the ROM-recovery states serve only these opcodes (R73, R76); CAP_ reads are checked apart. -/
def servedIn (s : State) (op : Nat) : Bool :=
  match s.pw.phase with
  | .off => false
  | .inReset => false
  | .holdUp => false
  | .romBoot => false
  | .romRecovery => [0x0010, 0x0028, 0x0029, 0x002A].contains op
  | .halted => [0x0001, 0x0002, 0x0010, 0x00B0, 0x0070].contains op
  | _ => true

/-- The requests of the second management restart's limited service (R601), and of shedding step 3 (R599). -/
def isUrgent (op : Nat) : Bool := [0x0050, 0x0051, 0x0052, 0x0053, 0x0054, 0x0055, 0x0080, 0x0081].contains op

/-- The bulk opcodes (R590). -/
def isBulk (op : Nat) : Bool := [0x0021, 0x0029, 0x0063, 0x0064, 0x0070].contains op

/-- The class of an opcode (R590): 0 normal, 1 urgent, 2 bulk. LE_MODE with code 2 is urgent beside these. -/
def opClass (op : Nat) : Nat := if isUrgent op then 1 else if isBulk op then 2 else 0

/-- The credit that a response grants back to its session: (class, count) as the GRANT field (R585, R591). A JOB_SUBMIT
answered BUSY grants nothing. -/
def grantOf (s : State) (r : Req) (op cls : Nat) (st : Status) : Nat :=
  if cls = 1 then 0 else if cls = 2 then (if 2 ≤ s.cmd.step then 0 else 2 * 2 ^ 14 + 1)
  else if r.session = 0 ∨ (op = 0x0042 ∧ st = .busy) then 0 else 1

/-- Credits of a session after a response (R590, R591). -/
def regrant (s : State) (op cls : Nat) (st : Status) (x : Session) : Session :=
  if cls = 1 then { x with urgent := x.urgent - 1 }
  else if cls = 2 then
    if 2 ≤ s.cmd.step then { x with owedBulk := x.owedBulk + 1 } else { x with bulk := x.bulk + 1 }
  else if op = 0x0042 ∧ st = .busy then { x with owedNormal := x.owedNormal + 1 }
  else { x with normal := x.normal + 1 }

/-- The queued request that a response answers leaves the command queue (R588). -/
def unqueue (r : Req) (op : Nat) (q : List QReq) : List QReq :=
  match q with
  | [] => []
  | x :: xs => if x.req == r && x.op == op then xs else x :: unqueue r op xs

/-- HIRQ_N is held low while a packet is pending for an HPI session (R582). -/
def setHirq (s : State) : State :=
  { s with pads := { s.pads with hirq := s.cmd.out.any (fun p => p.transport == .hpi) } }

/-- A response packet (R585): the status, the grant and the payload; BUSY answers are counted (R604). A queued
request is released and its credit returned. `always` is false for a request whose session may have closed while it
executed: it then completes without a response (R589). -/
def respondTo (always : Bool) (r : Req) (op : Nat) (st : Status) (more : Bool) (payload : List Byte) (s : State) : State :=
  let q := s.cmd.queue.find? (fun q => q.req == r && q.op == op)
  let p : Packet :=
    { transport := r.transport, session := r.session, tag := r.tag, op := op, status := st.toNat, more := more
      unsol := false, grant := match q with | some q => grantOf s r op q.cls st | none => 0, payload := payload }
  let mine : Session → Bool := fun x => x.num == r.session && x.transport == r.transport
  let credit : Session → Session := fun x => match q with | some q => regrant s op q.cls st x | none => x
  setHirq { s with cmd := { s.cmd with
    out := if always || r.session == 0 || s.cmd.sessions.any mine then s.cmd.out ++ [p] else s.cmd.out
    queue := unqueue r op s.cmd.queue
    zeroBusy := if r.session = 0 then false else s.cmd.zeroBusy
    busyCnt := if st = .busy then satInc 32 s.cmd.busyCnt else s.cmd.busyCnt
    sessions := updFirst mine (fun x => { credit x with lastUse := td0 s }) s.cmd.sessions } }

/-- The response of a served request. -/
def respond (r : Req) (op : Nat) (st : Status) (more : Bool) (payload : List Byte) (s : State) : State :=
  respondTo false r op st more payload s

/-- A response with a status alone. -/
def answer (r : Req) (op : Nat) (st : Status) (s : State) : State := respond r op st false [] s

/-- Checks 4 and 7 of R587 and the state checks of R73, R76 and R601, for a request that is urgent or not. Answers the
first status that fails. -/
def precheck (r : Req) (op : Nat) (urgent : Bool) (role : Option Nat) (s : State) : Option Status :=
  if !servedIn s op then some .badState
  else if s.cmd.urgentOnly && !urgent && op != 0x0010 then some .badState
  else if r.session = 0 then
    (if op = 0x0001 || op = 0x0010 || (s.pw.phase == .romRecovery && r.transport == .uart && [0x28, 0x29, 0x2A].contains op)
      then none else some .denied)
  else match findSession s r with
    | none => some .denied
    | some x => match role with
      | none => none
      | some b => if hasRole x b then none else some .denied

/-- A request that the command processor does not run now: in ROM recovery one of any transport but the maintenance UART
(the HPI and the network ports stay inactive, R73), and, while an urgent request waits in the queue, one of another class
(R598). -/
def waits (r : Req) (urgent : Bool) (s : State) : Bool :=
  (s.pw.phase == .romRecovery && r.transport != .uart) || (!urgent && s.cmd.queue.any (fun (q : QReq) => q.cls == 1))

/-- Serves a host command: the checks, then the command itself. A request that waits stays where it is. -/
def serveAs (r : Req) (op : Nat) (urgent : Bool) (role : Option Nat) (s : State) (f : State → State) : State :=
  if waits r urgent s then s
  else match precheck r op urgent role s with
  | some st => respondTo true r op st false [] s
  | none => f s

/-- Serves a host command with the role of the table (R620). -/
def serve (r : Req) (op : Nat) (s : State) (f : State → State) : State := serveAs r op (isUrgent op) (roleOf op) s f

/-- The answer of a register write of one word (R594): the number of words written and the word's status. -/
def answerWrite (r : Req) (st : Status) (s : State) : State :=
  respond r 0x0011 st false (leBytes 2 (if st = .ok then 1 else 0)) s

/-- A register write served on its own: ENGINEER (R620), then the write. -/
def serveWrite (r : Req) (s : State) (f : State → State × Status) : State :=
  serve r 0x0011 s (fun s => let (s', st) := f s; answerWrite r st s')

/-- An unsolicited packet of a session (R592). -/
def unsolicited (x : Session) (op grant : Nat) (payload : List Byte) (s : State) : State :=
  let p : Packet :=
    { transport := x.transport, session := x.num, tag := 0, op := op, status := 0, more := false, unsol := true
      grant := grant, payload := payload }
  setHirq { s with cmd := { s.cmd with out := s.cmd.out ++ [p] } }

/-- The engine runs: it has passed the configuration stage and neither halted nor left service. -/
def running (s : State) : Bool := s.pw.phase == .running

/-- The answer of a command of the pair's agreed set in this lane (R539): BAD_STATE in the standby of TWIN, in
JOINING and in the active while its partner joins, and while MIGRATING. -/
def pairRefuses (s : State) : Bool :=
  (s.pr.st == .twin && !s.pr.active) || s.pr.st == .joining || s.pr.migrating ||
    (s.pr.active && s.pr.st == .solo && s.pr.partnerSt == .joining)

end Sys2Proof.Machine
end

