-- ==== Sys2Proof/Machine/Calender.lean ====
section
/-! DEFINITION. The recorder's coding of a record: calender chunks, maps, channel table and header (R483 to R495). -/

namespace Sys2Proof.Machine

/-- The engineering parameters of a recorder channel in a parameter list (PID 0x0710): source, map, output, D, name. -/
def drChan (ps : List Param) (c : Nat) : Option (Nat × Nat × Nat × Nat × List Byte) :=
  (findParam ps 0x0710 c).map (fun b => (leAt b 0 1, leAt b 1 1, leAt b 4 4, leAt b 8 4, bytesAt b 12 16))

/-- The kind of a recorder channel (R471, R483). -/
def kindOf (c : Nat) : Nat := if c < 16 then 1 else if c < 32 then 2 else 3

/-- The channels-section entry whose scale a recorder channel takes: its token channel; for a high-rate channel the
lowest-numbered token channel whose source is the same PAI input (R471). -/
def entryFor (cs : List ChanEntry) (kind src : Nat) : Option ChanEntry :=
  if kind = 1 then cs.find? (fun (e : ChanEntry) => e.channel == src)
  else (List.range 16).findSome? (fun n => cs.find? (fun (e : ChanEntry) =>
      e.channel == n && e.source == 1 && e.input == src))

/-- The primary value of one code of a channel, as a ratio over (2^149 × 1000 × full scale) (R104, R179, R196, R471, R494). -/
def codePrimary (cs : List ChanEntry) (kind src : Nat) : Int × Nat :=
  match entryFor cs kind src with
  | none => (0, if kind = 1 then 8388607000 else 32767000)
  | some e =>
    let p : Int := fInt (BitVec.ofNat 32 e.scale) * 4096
    if kind ≠ 1 then (p, 32767000)
    else
      let p : Int := if e.source = 2 then (2 ^ 149 * 8388607 * (if 4 ≤ e.svIndex then 10 else 1) : Nat) else p
      (if e.invert then -p else p, 8388607000)

/-- D in codes: floor(D_primary / primary value of one code); at rate steps 1 and 2 it doubles and a D of 0 becomes 1
or 2 codes (R484, R486). -/
def deadCodes (cs : List ChanEntry) (kind src d step : Nat) : Nat :=
  let (p, fs) := codePrimary cs kind src
  let d0 := if p = 0 then 0 else (fInt (BitVec.ofNat 32 d) * fs / p.natAbs).toNat
  if step = 0 then d0 else if step = 1 then (if d0 = 0 then 1 else 2 * d0) else (if d0 = 0 then 2 else 4 * d0)

/-- D of a derived channel as binary32: a D of 0 stays 0 (R486). -/
def deadDerived (d step : Nat) : Word :=
  let w := BitVec.ofNat 32 d
  if step = 0 then w else if step = 1 then fMul w 0x40000000#32 else fMul w 0x40800000#32

/-- The decimation of a channel at a rate step (R486). -/
def decimOf (kind step : Nat) : Nat :=
  if kind = 2 then (if 4 ≤ step then 4 else if step = 3 then 2 else 1)
  else if kind = 1 then (if 5 ≤ step then 2 else 1) else 1

/-- Bytes of a value (R483). -/
def valBytes (kind : Nat) (v : Int) : List Byte :=
  if kind = 1 then leBytes 3 (unsgn 24 v) else if kind = 2 then leBytes 2 (unsgn 16 v) else leBytes 4 (unsgn 32 v)

/-- |x - last| exceeds D (R484). -/
def beyond (kind d : Nat) (x last : Int) : Bool :=
  if kind = 3 then
    let f (v : Int) : Int := fInt (BitVec.ofInt 32 v)
    decide (fInt (BitVec.ofNat 32 d) < ((f x - f last).natAbs : Int))
  else decide (d < (x - last).natAbs)

/-- The items after the keyframe (R483, R484): `s` counts decimated samples since the last stored one. A quality
change after more than 64 samples stores the sample before it with a long skip first. -/
def items (kind d : Nat) : Nat → Samp → Samp → List Samp → List Byte
  | _, _, _, [] => [0xC0#8]
  | s, last, prev, x :: xs =>
    let s := s + 1
    if x.qual != last.qual then
      if s ≤ 64 then
        BitVec.ofNat 8 (128 + (s - 1)) :: x.qual :: valBytes kind x.val ++ items kind d 0 x x xs
      else
        (BitVec.ofNat 8 (64 + (s - 2) % 64) :: leBytes 2 ((s - 2) / 64) ++ valBytes kind prev.val) ++
        (128#8 :: x.qual :: valBytes kind x.val) ++ items kind d 0 x x xs
    else if beyond kind d x.val last.val then
      (if s ≤ 64 then BitVec.ofNat 8 (s - 1) :: valBytes kind x.val
       else BitVec.ofNat 8 (64 + (s - 1) % 64) :: leBytes 2 ((s - 1) / 64) ++ valBytes kind x.val) ++
      items kind d 0 x x xs
    else items kind d s last x xs

/-- A chunk: its 40-byte header with the CRC, then its items (R483). -/
def chunk (kind chan step flags start epoch qual decim samples dead : Nat) (its : List Byte) : List Byte :=
  let h := leBytes 1 kind ++ leBytes 1 chan ++ leBytes 1 step ++ leBytes 1 flags ++ stamp start ++ leBytes 2 epoch ++
    leBytes 1 qual ++ leBytes 1 decim ++ leBytes 4 samples ++ leBytes 4 dead ++ leBytes 4 its.length
  let crc := (crc32 (h ++ zeros 8 ++ its)).toNat
  h ++ leBytes 4 crc ++ zeros 4 ++ its

/-- A marker's slot on the grid of a kind: high-rate slots are 50 ns, 1 250 to a protection slot. -/
def markSlot (kind : Nat) (m : Marker) : Nat := if kind = 2 then m.slot * 1250 else m.slot

/-- The sample with which a marker's new chunk begins: the first at or after its slot; a rate step takes effect on high-rate
channels with the next 256-sample block (R486). -/
def breaks (m : Marker) (prev x : Samp) : Bool :=
  let k := markSlot x.kind m
  (m.code == 1 || m.code == 2 || m.code == 3 || m.code == 4) &&
  (if m.code = 1 ∧ x.kind = 2 then x.grid % 256 == 0 && decide (k ≤ x.slot) && decide (x.slot < k + 256)
   else decide (prev.slot < k) && decide (k ≤ x.slot))

/-- The rate step in force at a slot: that of the last rate marker before it. -/
def stepAt (r : Record) (kind slot : Nat) : Nat :=
  ((r.marks.filter (fun m => m.code == 1 && decide (markSlot kind m ≤ slot))).getLast?.map (·.step)).getD r.step0

/-- TD1 epoch at a slot: the record's at T0, one more per TD1 step after T0 and one less per step between the slot and T0. -/
def epochAt (r : Record) (kind slot : Nat) : Nat :=
  let steps (p : Marker → Bool) := (r.marks.filter (fun m => m.code == 2 && p m)).length
  (r.epoch + steps (fun m => decide (r.slot0 < m.slot ∧ markSlot kind m ≤ slot)) + 65536 -
    steps (fun m => decide (m.slot ≤ r.slot0 ∧ slot < markSlot kind m))) % 65536

/-- The flags of a chunk that markers begin (R483): after a TD1 step, after a JUMP, after a gap. -/
def markFlags (ms : List Marker) : Nat :=
  let on (c : Nat) := ms.any (fun m => m.code == c)
  b2n (on 2) + 2 * b2n (on 3) + 4 * b2n (on 4)

/-- Samples cut into chunks, each with its flags: after `k` samples, and at every marker that begins one (R485). -/
def cutChunks (r : Record) (k : Nat) : Nat → List Samp → List Samp → List (Nat × List Samp)
  | fl, [], cur => if cur.isEmpty then [] else [(fl, cur.reverse)]
  | fl, x :: xs, cur =>
    match cur with
    | [] => cutChunks r k (markFlags (r.marks.filter (fun m => markSlot x.kind m == x.slot))) xs [x]
    | p :: _ =>
      let ms := r.marks.filter (fun m => breaks m p x)
      if decide (k ≤ cur.length) || !ms.isEmpty then (fl, cur.reverse) :: cutChunks r k (markFlags ms) xs [x]
      else cutChunks r k fl xs (x :: cur)

/-- The chunks of one analogue channel from its samples, oldest first (R483 to R486). -/
def codeChannel (r : Record) (c : Nat) (samples : List Samp) : List (List Byte) :=
  match drChan r.params c with
  | none => []
  | some (src, _, _, d, _) =>
    let kind := kindOf c
    let k := if kind = 1 then pvOf r.params 0x0703 0 0 2 16000
      else if kind = 2 then 256 * pvOf r.params 0x0703 0 2 2 64 else pvOf r.params 0x0703 0 4 2 4000
    (cutChunks r k 0 samples []).filterMap (fun (fl, xs) =>
      match xs with
      | [] => none
      | x0 :: _ =>
        let step := stepAt r kind x0.slot
        let dec := decimOf kind step
        match xs.filter (fun x => x.grid % dec == 0) with
        | [] => none
        | y :: ys =>
          let dead := if kind = 3 then (deadDerived d step).toNat else deadCodes r.chans kind src d step
          some (chunk kind c step fl y.t1 (epochAt r kind x0.slot) y.qual.toNat dec (ys.length + 1) dead
            (valBytes kind y.val ++ items kind dead 0 y y ys)))
where
  /-- A field of a parameter in a list, or its default. -/
  pvOf (ps : List Param) (pid index off n dflt : Nat) : Nat :=
    match findParam ps pid index with | some v => leAt v off n | none => dflt

/-- The 64-byte keyframe of a binary chunk (R485): 256 states, then 256 validities. -/
def binKeyframe (st ok : Nat → Bool) : List Byte :=
  leBytes 32 (maskOf 256 st) ++ leBytes 32 (maskOf 256 ok)

/-- A transition item (R485). -/
def transItem (startUs : Nat) (t : BTrans) : List Byte :=
  leBytes 4 (t.us - startUs) ++ leBytes 1 t.chan ++
  leBytes 1 (b2n t.state + 2 * b2n t.valid + 4 * b2n t.est + 8 * b2n t.gap) ++ zeros 2

/-- A stretch of transitions for one binary chunk: START in us, its slot, its flags, the transitions oldest first. -/
structure BinRun where
  us : Nat
  slot : Nat
  flags : Nat
  ts : List BTrans
  deriving DecidableEq, Repr, Inhabited

/-- Transitions cut at 1 s of TD1 or 4 096 items (R485); the first chunk stands even without one. -/
def cutBins (us slot flags : Nat) : List BTrans → List BTrans → List BinRun
  | [], cur => [⟨us, slot, flags, cur.reverse⟩]
  | x :: xs, cur =>
    if decide (4096 ≤ cur.length) || decide (us + 1000000 < x.us) then
      ⟨us, slot, flags, cur.reverse⟩ :: cutBins x.us x.slot 0 xs [x]
    else cutBins us slot flags xs (x :: cur)

/-- The stretches of a record's binary transitions: a new one at each marker that begins a chunk (R485). -/
def binRuns (r : Record) (bs : List BTrans) : List BinRun :=
  let ms := r.marks.filter (fun m => decide (r.preSlot < m.slot ∧ m.slot ≤ r.endSlot) && decide (1 ≤ m.code ∧ m.code ≤ 4))
  let starts := (r.preSlot, (r.t0 - r.avail * 62500 * 2 ^ 40) / usT 1, 0) ::
    ms.map (fun m => (m.slot, m.t1 / usT 1, markFlags [m]))
  (List.range starts.length).flatMap (fun i =>
    let (a, us, fl) := starts.getD i default
    let stop := match starts[i + 1]? with | some (b, _, _) => b | none => r.endSlot + 1
    cutBins us a fl (bs.filter (fun t => decide (a ≤ t.slot ∧ t.slot < stop))) [])

/-- States after transitions, from states before. -/
def binsAfter (st : Nat → Bool) (ts : List BTrans) (f : BTrans → Bool) : Nat → Bool :=
  fun c => match (ts.filter (fun t => t.chan == c)).getLast? with | some t => f t | none => st c

/-- The binary chunks of a record from its stretches and the states before them (R485). -/
def codeBins (r : Record) : (Nat → Bool) → (Nat → Bool) → List BinRun → List (List Byte)
  | _, _, [] => []
  | st, ok, x :: rest =>
    let its := binKeyframe st ok ++ x.ts.flatMap (transItem x.us)
    chunk 4 0 (stepAt r 1 x.slot) x.flags (usT x.us) (epochAt r 1 x.slot) 0 1 x.ts.length 0 its ::
      codeBins r (binsAfter st x.ts (·.state)) (binsAfter ok x.ts (·.valid)) rest

/-- A marker chunk (R485): that of a TD1 step carries the old time and its epoch. -/
def codeMarker (r : Record) (m : Marker) : List Byte :=
  chunk 6 0 m.step 0 m.start (epochAt r 1 (m.slot - b2n (m.code == 2))) 0 1 1 0 (leBytes 1 m.code ++ zeros 3 ++ stamp m.t1)

/-- The amplitude bin of a value: 256 bins, or 64 in a persistence map (R489). -/
def ampBin (kind : Nat) (persist : Bool) (v : Int) : Nat :=
  let u : Nat := if kind = 1 then (v + 2 ^ 23).toNat else (v + 2 ^ 15).toNat
  if kind = 1 then (if persist then u / 2 ^ 18 % 64 else u / 2 ^ 16 % 256)
  else (if persist then u / 2 ^ 10 % 64 else u / 2 ^ 8 % 256)

/-- A map: 16-bit saturating counters of a channel's samples; a persistence map is phase-major and leaves out samples
with no phase (R489). -/
def mapCounts (kind : Nat) (persist : Bool) (xs : List Samp) : List Nat :=
  let size := if persist then 4096 else 256
  let bins := xs.filterMap (fun x =>
    if persist then (if x.phase < 64 then some (64 * x.phase + ampBin kind true x.val) else none)
    else some (ampBin kind false x.val))
  (List.range size).map (fun i => min 65535 (bins.filter (· == i)).length)

/-- A map chunk (R489): KIND 5. -/
def codeMap (r : Record) (c : Nat) (xs : List Samp) : Option (List Byte) :=
  match drChan r.params c with
  | none => none
  | some (_, m, _, _, _) =>
    if m = 0 ∨ kindOf c = 3 then none
    else
      let cs := mapCounts (kindOf c) (m == 2) xs
      some (chunk 5 c (stepAt r 1 r.endSlot) 0 r.t0 r.epoch 0 1 cs.length 0 (cs.flatMap (leBytes 2)))

/-- The UNIT code of a channel in the table (R244, R494): A or V by the quantity of its token channel, that of its output. -/
def unitOf (r : Record) (c kind src : Nat) : Nat :=
  if kind = 3 then r.units.getD (c - 32) 0
  else match entryFor r.chans kind src with | some e => if e.quantity = 0 then 1 else 2 | none => 0

/-- The channel table (R494), padded to 16 bytes. -/
def channelTable (r : Record) : List Byte × Nat × Nat :=
  let an := (List.range 64).filterMap (fun c => (drChan r.params c).map (fun (src, m, out, d, name) =>
    let kind := kindOf c
    let (p, fs) := codePrimary r.chans kind src
    let one := if kind = 3 then 0x3F800000 else (fOfRat p (fs * 2 ^ 149)).toNat
    let dead := if kind = 3 then d else deadCodes r.chans kind src d 0
    leBytes 1 c ++ leBytes 1 kind ++ leBytes 1 (if kind = 3 then 0 else src) ++ leBytes 1 m ++
    leBytes 4 (if kind = 1 then 16000 else if kind = 2 then 20000000 else 4000) ++ leBytes 4 one ++ leBytes 4 dead ++
    leBytes 4 (if kind = 3 then out else 0) ++ leBytes 1 (unitOf r c kind src) ++ zeros 3 ++ padTo 16 name ++ zeros 8))
  let bi := (List.range 256).filterMap (fun c => (findParam r.params 0x0711 c).map (fun b =>
    leBytes 2 c ++ leBytes 1 (leAt b 4 1) ++ zeros 1 ++ leBytes 4 (leAt b 0 4) ++ padTo 16 (bytesAt b 8 16)))
  let t := an.flatten ++ bi.flatten
  (padTo ((t.length + 15) / 16 * 16) t, an.length, bi.length)

/-- The record header (R493). `chunks` and the lengths are those of the body. -/
def recordHeader (r : Record) (chunks nAn nBi : Nat) (hrStart hrLen : Nat) : List Byte :=
  let h := [0x53#8, 0x57#8, 0x44#8, 0x52#8] ++ leBytes 2 1 ++ leBytes 2 256 ++ leBytes 8 r.id ++ leBytes 8 r.serial ++
    padTo 8 r.watermark ++ leBytes 8 r.prev ++ leBytes 8 r.next ++ leBytes 4 r.flags.toNat ++ leBytes 2 r.contNo ++
    leBytes 1 r.unit ++ leBytes 1 r.trigType ++ stamp r.t0 ++ leBytes 1 r.t0qual ++ leBytes 1 r.pair.toNat ++
    leBytes 2 r.epoch ++ stamp r.t0td0 ++ (if r.ta = 0 then zeros 12 else stamp r.ta) ++ leBytes 4 r.fired.toNat ++
    leBytes 4 ((r.slot0 - r.preSlot) * 125 / 2) ++ leBytes 4 ((r.endSlot - r.slot0) * 125 / 2) ++ leBytes 4 hrStart ++
    leBytes 4 hrLen ++ leBytes 4 r.retriggers ++ leBytes 4 r.suppressed ++ leBytes 4 (unsgn 32 r.sgOffset) ++
    leBytes 8 r.expLen ++ leBytes 8 r.written ++ leBytes 4 chunks ++ leBytes 1 r.maxStep ++ leBytes 1 r.group ++
    leBytes 1 nAn ++ zeros 1 ++ leBytes 2 nBi ++ zeros 2 ++ leBytes 4 r.trigVal ++ leBytes 4 r.locDist ++
    leBytes 1 r.locMethod ++ zeros 3 ++ leBytes 4 r.gapUs ++ zeros 80
  h ++ leBytes 4 (crc32 h).toNat

/-- The source that a recorder channel takes under a record's parameters: token channel, PAI input or output identifier. -/
def chanSrc (ps : List Param) (c : Nat) : Option Nat :=
  (drChan ps c).map (fun (src, _, out, _, _) => if kindOf c = 3 then out else src)

/-- The binary channels of a parameter list that name a source (PID 0x0711). -/
def chansOf (ps : List Param) (code : Nat) : List Nat :=
  (List.range 256).filter (fun c => match findParam ps 0x0711 c with | some b => leAt b 0 4 == code | none => false)

/-- The source code of a binary channel (PID 0x0711). -/
def binCode (ps : List Param) (c : Nat) : Option Nat := (findParam ps 0x0711 c).map (fun b => leAt b 0 4)

/-- A record's transitions, oldest first. -/
def recordBins (r : Record) (bins : List BTrans) : List BTrans :=
  (bins.filter (fun t => decide (r.preSlot ≤ t.slot ∧ t.slot ≤ r.endSlot) && binCode r.params t.chan == some t.src)).reverse

/-- A channel's state or validity before a record's first transition: what the first transition from the record's begin on
says it was; with none, the present one. -/
def binBefore (r : Record) (bins : List BTrans) (f : BTrans → Bool) (now : Nat → Bool) (c : Nat) : Bool :=
  match binCode r.params c with
  | none => false
  | some code =>
    match (bins.filter (fun t => t.chan == c && t.src == code && decide (r.preSlot ≤ t.slot))).getLast? with
    | some t => f t
    | none => now code

/-- A record's samples in the rings, oldest first: of the protection-rate and derived channels, and of the high-rate ones. -/
def recordSamps (r : Record) (prot high : List Samp) : List Samp × List Samp :=
  let mine (x : Samp) : Bool := chanSrc r.params x.chan == some x.src
  let inHr (x : Samp) : Bool := match r.th with
    | some th => decide (th ≤ x.slot ∧ x.slot ≤ r.hrEnd)
    | none => false
  ((prot.filter (fun x => decide (r.preSlot ≤ x.slot ∧ x.slot ≤ r.endSlot) && mine x)).reverse,
   (high.filter (fun x => inHr x && mine x)).reverse)

/-- The whole record (R492): header, channel table, chunks, map chunks, from the rings' samples and transitions, all
newest first as the rings hold them, and the present states and validities of the binary sources. -/
def recordBytes (r : Record) (prot high : List Samp) (bins : List BTrans) (binSt binOk : Nat → Bool) : List Byte :=
  let (pr, hi) := recordSamps r prot high
  let of_ (c : Nat) := (if kindOf c = 2 then hi else pr).filter (fun x => x.chan == c)
  let an := (List.range 64).flatMap (fun c => codeChannel r c (of_ c))
  let (tab, na, nb) := channelTable r
  let bi := if nb = 0 then [] else
    codeBins r (binBefore r bins (·.was) binSt) (binBefore r bins (·.wasOk) binOk) (binRuns r (recordBins r bins))
  let mk := r.marks.map (codeMarker r)
  let maps := (List.range 32).filterMap (fun c => codeMap r c (of_ c))
  let body := tab ++ (an ++ bi ++ mk).flatten ++ maps.flatten
  let n := an.length + bi.length + mk.length + maps.length
  let r := { r with expLen := body.length, written := body.length }
  let hrN := (hi.filter (fun x => x.chan == (hi.head?.map (·.chan)).getD 0)).length
  let hrStart := match hi.head? with
    | some x => unsgn 32 ((x.slot : Int) - (r.hr0 : Nat))
    | none => 0
  recordHeader r n na nb hrStart hrN ++ body

end Sys2Proof.Machine
end

