-- ==== Sys2Proof/Machine/Outputs.lean ====
section
/-! DEFINITION. Forces and the outputs that the logic engine owns, as they are driven in each mode (R369, R374). -/

namespace Sys2Proof.Machine

/-- A point code (R374): width (0 bit, 1 word), space, address. -/
def pointCode (width space addr : Nat) : Nat := width * 2 ^ 24 + space * 2 ^ 20 + addr

/-- The value of a force, if the point is forced. -/
def forced (s : State) (point : Nat) : Option Nat :=
  (s.le.forces.find? (fun (f : Force) => f.point == point)).map (·.value)

/-- A word under its forces: a force of the word, then forces of its bits (R350, R374). -/
def forceWord (s : State) (space w v : Nat) : Nat :=
  let v := (forced s (pointCode 1 space w)).getD v
  (List.range 32).foldl (fun a b =>
    match forced s (pointCode 0 space (65536 + 32 * w + b)) with
    | some x => if a.testBit b = decide (x % 2 = 1) then a else if x % 2 = 1 then a + 2 ^ b else a - 2 ^ b
    | none => a) v

/-- The task that owns a Q word has completed its first cycle since entering RUN (R89, R369). -/
def ownerDone (s : State) (w : Nat) : Bool :=
  match s.le.sec with
  | none => false
  | some sec => match sec.tasks.find? (fun (t : TaskCfg) => t.qWords.contains w) with
    | some t => s.le.firstDone.contains t.task
    | none => false

/-- The mode of a process channel in the image (PID 0x0B01). -/
def imgChanMode (s : State) (n : Nat) : Nat := pv s 0x0B01 n 0 1 0

/-- The failure current of a process channel, binary32 mA (PID 0x0603, default 3.6). -/
def failureCurrent (s : State) (n : Nat) : Word := BitVec.ofNat 32 (pv s 0x0603 n 0 4 0x40666666)

/-- A station's safe image as words (PID 0x0604). -/
def stationSafeWord (s : State) (st k : Nat) : Nat :=
  match prm s 0x0604 st with | some bs => leAt (padTo 256 bs) (4 * k) 4 | none => 0

/-- The safe value of a Q word in SAFE (R369). -/
def safeWord (s : State) (w : Nat) : Nat :=
  if w = 0 then maskOf 32 (fun b => pv s 0x0602 (65536 + b) 0 1 0 == 1)
  else if 16 ≤ w ∧ w ≤ 22 ∧ w % 2 = 0 then
    let n := (w - 16) / 2
    match s.upc.ch[n]? with
    | some c => if c.mode = 6 then (failureCurrent s n).toNat else 0
    | none => 0
  else if 64 ≤ w ∧ w < 2112 then stationSafeWord s ((w - 64) / 64) ((w - 64) % 64)
  else 0

/-- Protection is out of service for a structural activation, and its flush has ended: outputs are safe (R119). -/
def outOfService (s : State) : Bool := s.img.act.any (fun a => a.cls == 3) && !s.fl.running

/-- A Q word has been released: its owner has completed a cycle since entering RUN, or it keeps its value over a changeover
(R89, R383). -/
def releasedWord (s : State) (w : Nat) : Bool := ownerDone s w || s.le.keepQ.contains w

/-- A Q word as it is driven (R119, R369, R374, R383). -/
def outQ (s : State) (w : Nat) : Nat :=
  if outOfService s then safeWord s w
  else match s.le.mode with
  | .run => if releasedWord s w then forceWord s 1 w (smGet s.le.q w) else 0
  | .hold => if releasedWord s w then forceWord s 1 w (smGet s.le.driven w) else 0
  | .safe => safeWord s w
  | _ => 0

/-- Every logic-owned Q word as the program drives it now, beneath its forces: what HOLD keeps (R369). -/
def drivenNow (s : State) : SMap :=
  match s.le.sec with
  | none => []
  | some sec => (sec.tasks.flatMap (·.qWords) ++ s.le.keepQ).foldl (fun m w => smSet m w (smGet s.le.q w)) []

/-- An injection of a detector is applied on a target (R633, R635). -/
def injOn (s : State) (d t : Nat) : Bool := s.hlt.inj.any (fun j => j.det == d && j.target == t && j.applied)

/-- A cell handed to the Risia link: type and values (R529). -/
def sendCell (type : Nat) (vals : List Nat) (s : State) : State :=
  { s with pr := { s.pr with cells := (type, vals) :: s.pr.cells } }

/-- Bytes for item `k` of the next wave release's digest (R542): 2 descriptor releases, 5 logic cycle ENDs, 6 recorder
decisions, 7 publication counters. -/
def digNote (k : Nat) (bs : List Byte) (s : State) : State :=
  { s with gr := { s.gr with digIn := s.gr.digIn ++ [(k, bs)] } }

/-- The active feeds the standby: in TWIN, or from W0 + 1 on while the standby joins (R535, R538). -/
def feeds (s : State) : Bool :=
  s.pr.active && (s.pr.st == .twin || (s.pr.st == .solo && s.pr.partnerSt == .joining &&
    decide ((s.acq.wave + 2 ^ 32 - s.pr.w0) % 2 ^ 32 < 2 ^ 31)))

/-- Agreement data goes to the standby. -/
def sendAgree (kind wave : Nat) (vals : List Nat) (s : State) : State :=
  if feeds s then sendCell 3 (kind :: wave :: vals) s else s

/-- The wave that the active names for an agreed command: 17 waves on, past the 1 ms an activation takes (R118, R539). -/
def namedWave (s : State) : Nat := (s.acq.wave + 17) % 2 ^ 32

/-- An agreed command accepted in TWIN: both lanes apply it at the wave that the active names (R539). -/
def schedTwin (code : Nat) (vals : List Nat) (s : State) : State :=
  let w := namedWave s
  sendCell 6 (3 :: code :: w :: vals) { s with pr := { s.pr with sched := s.pr.sched ++ [(w, code, vals)] } }

end Sys2Proof.Machine
end

