-- ==== Sys2Proof/Machine/PairOps.lean ====
section
/-! DEFINITION. The pair operations that several units share: indicators, states and roles, the binding, divergence,
takeover and named waves (17). -/

namespace Sys2Proof.Machine

/-- Protection runs on a valid image (R53, R82): waves are released and executed, the image is not SCH_FACTORY alone,
the field barrier is up if a DO is trip-class; not while overruns hold it off (R236), not in JOINING (R535), not in a
faulty standby (R544). -/
def healthyOk (s : State) : Bool :=
  s.pw.phase == .running && s.gr.running && !s.gr.healthyHold && (s.img.source == 1 || s.img.source == 3) &&
  (s.fio.up || !(List.range 8).any (fun n => pv s 0x0550 n 0 1 0 == 1)) && s.pr.st != .joining && !s.pr.faulty

/-- FORCE_IND: any force or injection (R16, R53), with the part powered, out of reset and before the hold-up stage. -/
def forceIndOk (s : State) : Bool :=
  (!s.le.forces.isEmpty || !s.hlt.inj.isEmpty) &&
  (match s.pw.phase with
    | .imageSelect => true
    | .configure => true
    | .running => true
    | .halted => true
    | _ => false)

/-- The indicator pads follow their conditions. -/
def refreshPads (s : State) : State :=
  { s with pads := { s.pads with healthy := healthyOk s, forceInd := forceIndOk s } }

/-- PAIR_TD2_OFS: TD2 less this lane's TD1, ns (R559). -/
def td2Ofs (s : State) : Int := ((s.tu.d2.t : Int) - (td1 s : Int)) / 2 ^ 40

/-- An injection leaves its slot: INJ_ENDED and the indicator (R636). -/
def endInj (cause : Nat) (j : Inj) (s : State) : State :=
  let s := { s with hlt := { s.hlt with inj := s.hlt.inj.filter (fun (x : Inj) => x.slot != j.slot) } }
  refreshPads (submit .hlt 0xD021 (256 * cause + j.det) s)

/-- The pair role history takes the state and role now in force (R32; its form and depth: DESIGN CHOICE, log entry 73). -/
def noteRole (s : State) : State :=
  { s with pr := { s.pr with roleHist := ((td1 s, s.pr.st.toNat, s.pr.active) :: s.pr.roleHist).take 8192 } }

/-- The pair state changes: PAIR_STATE (R533). A lane that leaves TWIN ends its injections (R636). -/
def setPair (st : PairSt) (s : State) : State :=
  if s.pr.st = st then s
  else
    let old := s.pr.st
    let s := noteRole { s with pr := { s.pr with st := st, wave := s.acq.wave % 65536 } }
    let s := submit .pair 0x9001 (16 * old.toNat + st.toNat) s
    let s := if old = .twin then s.hlt.inj.foldl (fun s j => endInj 4 j s) s else s
    refreshPads s

/-- The role changes: PAIR_ROLE (R533). -/
def setRoleActive (b : Bool) (s : State) : State :=
  if s.pr.active = b then s
  else submit .pair 0x9002 (b2n b) (noteRole { s with pr := { s.pr with active := b, activeAt := none, established := false } })

/-- This lane raises BIND_OUT if it wants the binding and BIND_IN has been low for 2 us (R532, R546, R550). -/
def tryBind (s : State) : State :=
  if s.pr.bindWant ∧ !s.pads.bindOut ∧ !s.pads.bindIn ∧ due s s.pr.bindInAt (usT 2) then
    { s with pads := { s.pads with bindOut := true }, pr := { s.pr with bindAt := td0 s, bindWant := false } }
  else s

/-- This lane gives the binding up. -/
def dropBind (s : State) : State :=
  { s with pads := { s.pads with bindOut := false }, pr := { s.pr with bindWant := false } }

/-- TD2 of a new active takes TD1's increment and slew and slews onto its own TD1 at 10 ppm (R127). -/
def slewTd2 (s : State) : State :=
  let x := s.tu.d1
  { s with tu := { s.tu with
    td2Rem := (td1 s : Int) - s.tu.d2.t, td2Ppm := 10
    d2 := { s.tu.d2 with
      inc := x.inc, incLo := x.incLo, slew := x.slew, slewLo := x.slewLo, slewCount := x.slewCount
      slewLeft := x.slewLeft, qst := x.qst, cls := x.cls } } }

/-- TAKEOVER (R546, R550): own values from the next wave, the binding, transmission with continuing counters, TD2 on
TD1, event tasks of type 6. `cause` is 1 to 6. -/
def takeover (cause : Nat) (s : State) : State :=
  let parts : List (List Byte) := if s.pr.migrating then [padTo 48 [BitVec.ofNat 8 (b2n s.pr.ready)]] else []
  let s := slewTd2 s
  let s := setRoleActive true s
  let s := { s with pr := { s.pr with
    tx := true, tripOff := false, agree := [], bindWant := true, wantAt := td0 s, bindHeld := false, activeAt := none, handCell := false
    hand := none, handOk := false, prov := none, migrating := false, ready := false, bindDrop := false
    takeover := (cause, (s.acq.wave + 1) % 65536), takeovers := satInc 32 s.pr.takeovers } }
  let s := submitParts .pair 0x9003 cause parts s
  let s := raiseTrig 6 0 0 (td1 s) (td0 s) s
  tryBind (refreshPads s)

/-- The standby leaves TWIN or COLD and joins again (R535, R543): it transmits nothing, holds its trip-class DO off and
asks the active for a snapshot. Its waves and its logic wait for the snapshot. The join buffer takes the place of the
protection-rate ring, but for backlog. -/
def startJoin (s : State) : State :=
  let s := if s.pr.bindDrop then s else dropBind s
  let busy := s.dr.cap.isSome || s.dr.reel.any (fun (r : Record) => r.state == 1)
  let s := { s with
    le := { s.le with halted := true }, gr := { s.gr with running := false }
    dr := { s.dr with fill := 0, coll := none, prot := if busy then s.dr.prot else [] }
    pr := { s.pr with
    tx := false, tripOff := true, joinAt := some (td0 s), joinPhase := 1, joinBuf := 0, snapDone := false
    agree := [], digests := [], pDigests := [], verdict := none, prov := none, hand := none, handOk := false
    sched := [], handX := [], bulk := [], xc := s.pr.xc.map (fun _ => default) } }
  sendCell 6 [6, b2n s.pr.migrating] (setPair .joining s)

/-- The active of a TWIN goes on in SOLO while the partner rejoins or is faulty. -/
def activeSolo (s : State) : State :=
  let s := { s with pr := { s.pr with verdict := none, hand := none, handOk := false, digests := [], pDigests := [] } }
  setPair .solo s

/-- The standby is declared faulty (R544): 1 verdict, 2 third divergence, 3 drill failure. Both engines then read SOLO. -/
def declareFaulty (value : Nat) (s : State) : State :=
  let s := submit .pair 0x9009 value s
  if s.pr.active then activeSolo { s with pr := { s.pr with partnerFaulty := true } }
  else
    let s := { s with pr := { s.pr with faulty := true, tx := false, tripOff := true, verdict := none, joinAt := none } }
    refreshPads (setPair .solo (dropBind s))

/-- Divergences within the last hour of TD0. -/
def divHour (s : State) : Nat := (s.pr.divAt.filter (fun t => !due s t (secT 3600))).length

/-- PAIR_DIVERGE (R543, R544): the standby stops transmitting from the next wave and holds its trip-class DO off; a
third within 1 h declares it faulty; causes 3 and 4 skip the verdict and the standby rejoins; else the verdict test
runs. -/
def diverge (cause : Nat) (s : State) : State :=
  let s := fireDetOnce 0x1E cause s
  let s := { s with pr := { s.pr with
    divCnt := satInc 32 s.pr.divCnt, divLast := (cause, 0, 0, s.acq.wave % 65536)
    divAt := td0 s :: s.pr.divAt.filter (fun t => !due s t (secT 3600)) } }
  let s := if s.pr.drSt = 1 ∨ s.pr.drSt = 2 then
      submit .pair 0x900B 5 { s with pr := { s.pr with drSt := 3, drResult := 5 } }
    else s
  let s := if s.pr.active then s
    else { s with pr := { s.pr with tripOff := true, sched := ((s.acq.wave + 1) % 2 ^ 32, 15, []) :: s.pr.sched } }
  if 3 ≤ divHour s then declareFaulty 2 s
  else if cause = 3 ∨ cause = 4 then (if s.pr.active then activeSolo s else startJoin s)
  else { s with pr := { s.pr with verdict := some (cause, td0 s) } }

/-- Own and partner's digest of a wave, once both are there, are compared (R542, R543). -/
def digestsMeet (wave : Nat) (s : State) : State :=
  match s.pr.digests.find? (fun x => x.1 == wave), s.pr.pDigests.find? (fun x => x.1 == wave) with
  | some a, some b =>
    let s := { s with pr := { s.pr with
      digests := s.pr.digests.filter (fun x => x.1 != wave), pDigests := s.pr.pDigests.filter (fun x => x.1 != wave) } }
    if a.2 = b.2 ∨ s.pr.st ≠ .twin ∨ s.pr.verdict.isSome then s else diverge 1 s
  | _, _ => s

/-- The first wave released at least 2 ms after now (R535, R546). -/
def wave2ms (s : State) : Nat := (s.acq.wave + 33) % 2 ^ 32

/-- A commanded handover is named (R546); the standby confirms it. `extra` says what it begins or ends. -/
def nameHandover (cause : Nat) (extra : List Nat) (s : State) : State :=
  let w := wave2ms s
  sendCell 6 (2 :: w :: cause :: extra) { s with pr := { s.pr with hand := some (w, cause), handOk := false, handX := extra } }

/-- The agreement item at the head of a kind, for the standby of TWIN and the catch-up of JOINING (R538). -/
def agreeHead (s : State) (kind : Nat) : Option Agree := s.pr.agree.find? (fun (a : Agree) => a.kind == kind)

/-- Drops the first item of a kind. -/
def dropKind (kind : Nat) : List Agree → List Agree
  | [] => []
  | a :: as => if a.kind = kind then as else a :: dropKind kind as

/-- The head item of a kind has been used. -/
def agreeUsed (kind : Nat) (s : State) : State := { s with pr := { s.pr with agree := dropKind kind s.pr.agree } }

/-- This lane computes on agreed data (R538): the standby of TWIN, and a standby that catches up. -/
def followsAgreed (s : State) : Bool := !s.pr.active && (s.pr.st == .twin || (s.pr.st == .joining && s.pr.snapDone))

/-- The TD1 quality byte that the lane computes on: agreed in a lane that follows (R538). -/
def waveQual (s : State) : Nat := if followsAgreed s then s.acq.tq else td1Qual s

end Sys2Proof.Machine
end

