-- ==== Sys2Proof/Machine/HealthOps.lean ====
section
/-! DEFINITION. Monitors and their end-of-life prediction (R630, R631). -/

namespace Sys2Proof.Machine

/-- Monitor `m`. -/
def monOf (s : State) (m : Nat) : Monitor := s.hlt.mon.getD m default

/-- Monitor `m` changed. -/
def updMon (m : Nat) (f : Monitor → Monitor) (s : State) : State :=
  { s with hlt := { s.hlt with mon := putAt 10 s.hlt.mon m (f (monOf s m)) } }

/-- The limit of a monitor in 10^-6 of its unit (R630). -/
def monLimit : Nat → Int
  | 0 => 120000000 | 1 => 105000000 | 2 => 10000000 | 3 => 900000 | 4 => 35000000 | 5 => 30000000000
  | 6 => 1000000000000000000 | 7 => 20000000 | 8 => 100000000000 | _ => 10000000

/-- The limit is a lower one: VMAIN and the hold-up time. -/
def monLow (m : Nat) : Bool := m == 2 || m == 7

/-- A value lies beyond the limit. -/
def monBeyond (m : Nat) (v : Int) : Bool := if monLow m then decide (v < monLimit m) else decide (monLimit m < v)

/-- The monitors with a prediction. -/
def monPredicts (m : Nat) : Bool := decide (3 ≤ m) && decide (m ≤ 8)

/-- The points that the line is fitted through: the newest 30 for monitors 5, 6 and 8 (R631). -/
def monPoints (s : State) (m : Nat) : List (Nat × Int) :=
  let h := (monOf s m).hist
  if m = 5 ∨ m = 6 ∨ m = 8 then h.drop (h.length - 30) else h

/-- Sums of a least-squares line: n, sum x, sum y, and n times the centred sums Sxx, Sxy, Syy. -/
structure Fit where
  n : Int
  sx : Int
  sy : Int
  xx : Int
  xy : Int
  yy : Int
  deriving DecidableEq, Repr

/-- The sums of some points. -/
def fitOf (ps : List (Nat × Int)) : Fit :=
  let n : Int := ps.length
  let sx : Int := ps.foldl (fun a p => a + p.1) 0
  let sy : Int := ps.foldl (fun a p => a + p.2) 0
  { n := n, sx := sx, sy := sy
    xx := n * ps.foldl (fun a p => a + (p.1 : Int) * p.1) 0 - sx * sx
    xy := n * ps.foldl (fun a p => a + (p.1 : Int) * p.2) 0 - sx * sy
    yy := n * ps.foldl (fun a p => a + p.2 * p.2) 0 - sy * sy }

/-- The predicted end of life in TD1 seconds (R631). -/
def monEol (s : State) (m : Nat) : Option Nat :=
  if !monPredicts m then none
  else
    let ps := monPoints s m
    match ps.getLast? with
    | none => none
    | some (x, y) =>
      if monBeyond m y then some x
      else
        let f := fitOf ps
        if f.xx = 0 ∨ f.xy = 0 ∨ (monLow m ∧ 0 < f.xy) ∨ (!monLow m ∧ f.xy < 0) then none
        else
          let num := f.sx * f.xy + (f.n * monLimit m - f.sy) * f.xx
          some (num / (f.n * f.xy)).toNat

/-- The confidence code (R631): the rms residual against the distance from the last value to the limit. -/
def monConf (s : State) (m : Nat) : Nat :=
  let ps := monPoints s m
  match monEol s m, ps.getLast? with
  | some _, some (_, y) =>
    if ps.length < 8 then 0
    else
      let f := fitOf ps
      let res := f.yy * f.xx - f.xy * f.xy
      let d := (monLimit m - y) * (monLimit m - y) * f.xx * (f.n * f.n)
      if d * 100 < res * 10000 then 1 else if d * 4 < res * 10000 then 2 else 3
  | _, _ => 0

/-- The slope in units per year of 31 557 600 s, binary32 (R632). -/
def monSlope (s : State) (m : Nat) : Word :=
  if !monPredicts m then 0#32
  else
    let f := fitOf (monPoints s m)
    if f.xx ≤ 0 then 0#32 else fOfRat (f.xy * 31557600) (f.xx.toNat * 1000000)

/-- A monitor's figure as binary32. -/
def monFp (v : Int) : Word := fOfRat v 1000000

/-- The earliest prediction of confidence 1 or better: monitor and instant (R631). -/
def eolEarliest (s : State) : Option (Nat × Nat) :=
  (List.range 10).foldl (fun best m =>
    match monEol s m with
    | some t => if monConf s m = 0 then best
      else match best with
        | some (_, u) => if t < u then some (m, t) else best
        | none => some (m, t)
    | none => best) none

/-- A monitor takes a value: HIGH and MONITOR_HIGH once per crossing (R630). `spareLow`: fewer than 10 % of the spare
flash blocks remain. -/
def monValue (m : Nat) (v : Int) (spareLow : Bool) (s : State) : State :=
  let was := (monOf s m).high
  let now := monBeyond m v || (m == 5 && spareLow)
  let s := updMon m (fun x => { x with value := v, high := now }) s
  if now ∧ !was then submit .hlt 0xD031 m s else s

/-- Points are taken while TD1 is locked, or in glide at class 2 or better (R631). -/
def pointsOk (s : State) : Bool := s.tu.d1.qst == .locked || (s.tu.d1.qst == .glide && decide (s.tu.d1.cls ≤ 2))

/-- A point is appended to a wear history of 64 and the line is refitted; EOL_WARNING once per start (R631). -/
def monPoint (m : Nat) (s : State) : State :=
  if !pointsOk s then s
  else
    let p := (secOf (td1 s), (monOf s m).value)
    let s := updMon m (fun x => { x with hist := (x.hist ++ [p]).drop (x.hist.length + 1 - 64) }) s
    match monEol s m with
    | some t =>
      if 2 ≤ monConf s m ∧ t < secOf (td1 s) + 365 * 86400 then
        let warned := (monOf s m).warned
        let s := updMon m (fun x => { x with soon := true, warned := true }) s
        if warned then s else submit .hlt 0xD030 m s
      else s
    | none => s

/-- The detectors in force, as HLT_ACTIVE shows them (R629). -/
def activeMask (s : State) : Nat := maskOf 41 (fun d => detInForce s d)

end Sys2Proof.Machine
end

