-- ==== Sys2Proof/Machine/NetOps.lean ====
section
/-! DEFINITION. The network operations that several units share: ports, addresses, the real-time share, UDP (18). -/

namespace Sys2Proof.Machine

/-- Mode of NET_A and NET_B (PID 0x0901): 0 independent, 1 PRP-1, 2 HSR. -/
def abMode (s : State) : Nat := pv s 0x0901 0 0 1 0

/-- Mode of NET_C (PID 0x0901): 0 off, 1 management, 2 remote I/O. -/
def cMode (s : State) : Nat := pv s 0x0901 0 1 1 1

/-- The port is enabled (PID 0x0902, R561); without an image no port is. -/
def portOn (s : State) (p : Nat) : Bool :=
  s.img.cur.isSome && pv s 0x0902 p 0 1 1 == 1 && (p != 2 || cMode s != 0)

/-- NET_A and NET_B form one PRP or HSR port. -/
def abPair (s : State) : Bool := abMode s == 1 || abMode s == 2

/-- The ports a frame leaves on: in modes 1 and 2 every frame of either is sent on both (R561). -/
def portsOf (s : State) (mask : Nat) : List Nat :=
  (List.range 3).filter (fun p =>
    (mask.testBit p || (abPair s && p < 2 && mask % 4 != 0)) && portOn s p)

/-- A subscription's port mask names a port: in modes 1 and 2 it uses NET_A and NET_B as one (R561). -/
def hearsOn (s : State) (mask p : Nat) : Bool := mask.testBit p || (abPair s && decide (p < 2) && mask % 4 != 0)

/-- The pair section is enabled (PID 0x0D01). -/
def pairOn (s : State) : Bool := (prm s 0x0D01 0).isSome && pv s 0x0D01 0 0 1 1 == 1

/-- This engine's entry of PID 0x0D02, if its serial is listed. -/
def pairEntry (s : State) : Option Nat :=
  [0, 1].find? (fun i => (prm s 0x0D02 i).isSome && pv s 0x0D02 i 0 8 0 == s.boot.serial)

/-- A MAC address or another big-endian field as a number. -/
def beAt (bs : List Byte) (o n : Nat) : Nat := leNat (bytesAt bs o n).reverse

/-- The engine's MAC address: the factory address in SOLO, the lane's under an enabled pair section (R563). -/
def ownMac (s : State) : Nat :=
  match pairOn s, pairEntry s with
  | true, some i => beAt ((prm s 0x0D02 i).getD []) 8 6
  | _, _ => s.boot.mac

/-- The IPv4 interface: its ports, or none (R564). -/
def ifPorts (s : State) : Option Nat :=
  (prm s 0x0903 0).map (fun v =>
    match leAt v 0 1 with
    | 0 => if abPair s then 3 else 1
    | 1 => if abPair s then 3 else 2
    | _ => 4)

/-- The interface's IPv4 address (R564). -/
def ownIp (s : State) : Nat :=
  match pairOn s, pairEntry s with
  | true, some i => beAt ((prm s 0x0D02 i).getD []) 16 4
  | _, _ => beAt ((prm s 0x0903 0).getD []) 4 4

/-- One port's record changed. -/
def updPort (p : Nat) (f : Port → Port) (s : State) : State :=
  { s with net := { s.net with port := putAt 3 s.net.port p (f (s.net.port.getD p default)) } }

/-- Bytes that leave a port in a stretch of TD0: 125 bytes/us at 1 Gb/s, 12.5 at 100 Mb/s (R560). -/
def drained (x : Port) (now : Nat) : Nat :=
  let ns := nsAll (now - x.qAt)
  if x.speed = 1 then ns / 80 else ns / 8

/-- Bytes still queued in a port's management share: it sends when the real-time share is empty (R27, R566). -/
def mgmtLeft (x : Port) (now : Nat) : Nat := x.mBytes - (drained x now - x.qBytes)

/-- One port takes a frame: discarded and counted without link (R566); else sent, with its share's use (R27, R581). Each
frame takes 24 bytes on the wire beside its length (preamble, FCS and gap). -/
def portTake (kind len : Nat) (s : State) (p : Nat) : State :=
  updPort p (fun x =>
    if !x.link then { x with txDisc := satInc 32 x.txDisc }
    else
      let q := (x.qBytes - drained x (td0 s)) + (if kind ≤ 6 then len + 24 else 0)
      let m := mgmtLeft x (td0 s) + (if kind ≤ 6 then 0 else len + 24)
      { x with tx := satInc 32 x.tx, qBytes := q, mBytes := m, qAt := td0 s, txPeak := min 24576 (max x.txPeak q) }) s

/-- The lane may transmit its streams (R545): it is the active, SOLO, or a lane of TWIN. -/
def mayTx (s : State) : Bool := s.pr.tx

/-- Bytes of a frame on the wire but for its preamble, FCS and gap; a frame whose bytes an outside standard codes takes a
free length (log entry 9). -/
def frameBytes (kind : Nat) (ids vals : List Nat) (bytes : List Byte) : Nat :=
  if bytes.isEmpty then Config.frameLen kind ids vals else bytes.length

/-- A frame put into the ports' shares (R27, R566). -/
def putFrame (kind mask : Nat) (ids vals : List Nat) (bytes : List Byte) (s : State) : State :=
  let ps := portsOf s mask
  let len := frameBytes kind ids vals bytes
  let up := ps.filter (fun p => (s.net.port.getD p default).link)
  let s := ps.foldl (portTake kind len) s
  if up.isEmpty then s
  else
    let s := if abPair s && mask % 4 != 0 then { s with net := { s.net with prpSeq := wrapInc 16 s.net.prpSeq } } else s
    let f : TxFrame := ⟨kind, BitVec.ofNat 3 (maskOf 3 (fun p => up.contains p)), ids, vals, bytes⟩
    { s with net := { s.net with out := f :: s.net.out } }

/-- Each port of `mask` that has link has room for the frame in its 8 KiB management share (R27). -/
def mgmtRoom (mask len : Nat) (s : State) : Bool :=
  (portsOf s mask).all (fun p =>
    let x := s.net.port.getD p default
    !x.link || mgmtLeft x (td0 s) == 0 || decide (mgmtLeft x (td0 s) + len + 24 ≤ 8192))

/-- A frame handed to the ports of `mask` (R566). The real-time share cannot fill; while a management share is full, the
management cores are held back and their frames wait in order (R27). -/
def sendFrame (kind mask : Nat) (ids vals : List Nat) (bytes : List Byte) (s : State) : State :=
  if kind ≤ 6 ∨ (s.net.mgmtWait.isEmpty ∧ mgmtRoom mask (frameBytes kind ids vals bytes) s) then
    putFrame kind mask ids vals bytes s
  else { s with net := { s.net with mgmtWait := s.net.mgmtWait ++ [⟨kind, BitVec.ofNat 3 mask, ids, vals, bytes⟩] } }

/-- The management frames held back go out, oldest first, as far as the shares have room (R27). -/
def mgmtPump (s : State) : State :=
  match s.net.mgmtWait with
  | [] => s
  | f :: rest =>
    if mgmtRoom f.ports.toNat (frameBytes f.kind f.ids f.vals f.bytes) s then
      putFrame f.kind f.ports.toNat f.ids f.vals f.bytes { s with net := { s.net with mgmtWait := rest } }
    else s

/-- An IPv4 address names a multicast group. -/
def isMcast (ip : Nat) : Bool := ip / 2 ^ 28 == 14

/-- A UDP frame from the ports of `mask`; a unicast destination that the ARP cache has not resolved is dropped and counted
(R564). Off the interface's prefix the frame goes to the gateway. -/
def sendUdpOn (mask kind ip port : Nat) (ids vals : List Nat) (bytes : List Byte) (s : State) : State :=
  let plen := pv s 0x0903 0 1 1 24
  let hop := if ip / 2 ^ (32 - plen) = ownIp s / 2 ^ (32 - plen) then ip else beAt ((prm s 0x0903 0).getD []) 8 4
  if isMcast ip || s.net.arp.any (fun e => e.1 == hop) then sendFrame kind mask (ip :: port :: ids) vals bytes s
  else { s with net := { s.net with arpDrop := satInc 32 s.net.arpDrop } }

/-- A UDP frame of the interface. -/
def sendUdp (kind ip port : Nat) (ids vals : List Nat) (bytes : List Byte) (s : State) : State :=
  match ifPorts s with
  | none => s
  | some mask => sendUdpOn mask kind ip port ids vals bytes s

end Sys2Proof.Machine
end

