-- ==== Sys2Proof/Machine/ExportText.lean ====
section
/-! DEFINITION. The HDR and INF files of a record's COMTRADE set (R498). R498 gives the section's name, the keys and what each
holds; how a value is written out is the model's (DESIGN CHOICE, log entry 81). -/

namespace Sys2Proof.Machine

/-- A text in ASCII. -/
def ascii (t : String) : List Byte := t.toList.map (fun c => BitVec.ofNat 8 c.toNat)

/-- A number in decimal. -/
def decText (n : Nat) : String := toString n

/-- Digits `n` times, the most significant first, of a number in base 10 or 16. -/
def digitsText (base n v : Nat) : String :=
  String.ofList ((List.range n).map (fun k => Nat.digitChar (v / base ^ (n - 1 - k) % base)))

/-- An integer in decimal. -/
def intText (v : Int) : String := if v < 0 then "-" ++ decText v.natAbs else decText v.natAbs

/-- Bytes in hexadecimal, in their order. -/
def bytesText (bs : List Byte) : String := bs.foldl (fun t b => t ++ digitsText 16 2 b.toNat) ""

/-- A TD1 time to 1/65 536 ns: seconds, nanoseconds and the fraction of a nanosecond (R12). -/
def timeText (t : Nat) : String :=
  decText (secOf t) ++ "," ++ digitsText 10 9 (nsOf t) ++ "," ++ decText (t / 2 ^ 24 % 65536)

/-- A line of a text file. -/
def line (t : String) : List Byte := ascii t ++ [0x0D#8, 0x0A#8]

/-- A key of the INF section. -/
def keyLine (key value : String) : List Byte := line (key ++ "=" ++ value)

/-- The chunks in a record's bytes after its header and channel table, map chunks among them (R483, R492). -/
def chunksIn : Nat → List Byte → List (List Byte)
  | 0, _ => []
  | k + 1, b =>
    if b.length < 40 then []
    else b.take (40 + leAt b 28 4) :: chunksIn k (b.drop (40 + leAt b 28 4))

/-- The chunks of a record. -/
def recordChunks (r : Record) : List (List Byte) :=
  let table := (48 * leAt r.bytes 150 1 + 24 * leAt r.bytes 152 2 + 15) / 16 * 16
  chunksIn (r.bytes.length / 40) (r.bytes.drop (256 + table))

/-- The binary transitions that a record holds: TD1 tag in us, channel, flags (R485). -/
def recordTransitions (r : Record) : List (Nat × Nat × Nat) :=
  ((recordChunks r).filter (fun c => leAt c 0 1 == 4)).flatMap (fun c =>
    let start := leAt c 4 6 * 1000000 + leAt c 10 4 / 1000
    (List.range (leAt c 20 4)).map (fun k =>
      let o := 104 + 8 * k
      (start + leAt c o 4, leAt c (o + 4) 1, leAt c (o + 5) 1)))

/-- A record's keys of the section [Polbuelo DX-720] (R498): the identifiers, times and values as in the header, each rate step
with its TD1 time, each gap with its start and length, each binary transition with its us tag, and the location. -/
def infKeys (r : Record) : List Byte :=
  keyLine "RecordId" (decText r.id) ++ keyLine "PrevId" (decText r.prev) ++ keyLine "NextId" (decText r.next) ++
  keyLine "T0" (timeText r.t0) ++ keyLine "Epoch" (decText r.epoch) ++ keyLine "Watermark" (bytesText r.watermark) ++
  keyLine "Flags" (digitsText 16 8 r.flags.toNat) ++ keyLine "SgOffsetNs" (intText r.sgOffset) ++
  ((r.marks.filter (fun m => m.code == 1)).flatMap (fun m => keyLine "RateStep" (decText m.step ++ "," ++ timeText m.t1))) ++
  (if r.gapUs = 0 then [] else keyLine "Gap" (timeText (r.t0 - usT r.gapUs) ++ "," ++ decText r.gapUs)) ++
  ((recordTransitions r).flatMap (fun t =>
    keyLine "Transition" (decText t.2.1 ++ "," ++ decText t.2.2 ++ "," ++ decText t.1))) ++
  keyLine "Location" (decText r.locDist ++ "," ++ decText r.locMethod)

/-- The INF file of a record or a chain. -/
def infText (rs : List Record) : List Byte := line "[Polbuelo DX-720]" ++ rs.flatMap infKeys

/-- The HDR file of a record or a chain: the record identifiers, watermark, flags, trigger and location in plain text. -/
def hdrText (rs : List Record) : List Byte :=
  rs.flatMap (fun r =>
    line ("Record " ++ decText r.id ++ ", previous " ++ decText r.prev ++ ", next " ++ decText r.next) ++
    line ("Watermark " ++ bytesText r.watermark) ++ line ("Flags " ++ digitsText 16 8 r.flags.toNat) ++
    line ("Trigger unit " ++ decText r.unit ++ ", type " ++ decText r.trigType ++ ", at " ++ timeText r.t0) ++
    line ("Location " ++ decText r.locDist ++ " m, method " ++ decText r.locMethod))

end Sys2Proof.Machine
end

