-- ==== Sys2Proof/Machine/Recorder.lean ====
section
/-! DEFINITION. The disturbance recorder: rings, trigger units, arming, records, rates and reel (R471 to R503). -/

namespace Sys2Proof.Machine

/-! Trigger units (R474). -/

/-- A trigger unit's settings (PID 0x0720). -/
structure UnitCfg where
  type : Nat
  stage : Nat
  hr : Bool
  mode : Nat
  source : Nat
  t : Nat
  h : Nat
  window : Nat
  partner : Nat
  value : Nat
  care : Nat
  deriving DecidableEq, Repr

/-- The settings of unit `u` in service. -/
def unitCfg (s : State) (u : Nat) : Option UnitCfg :=
  (prm s 0x0720 u).map (fun b =>
    { type := leAt b 0 1, stage := leAt b 1 1, hr := decide (leAt b 2 1 % 2 = 1), mode := leAt b 3 1
      source := leAt b 4 4, t := leAt b 8 4, h := leAt b 12 4, window := leAt b 16 4, partner := leAt b 20 1
      value := leAt b 24 8, care := leAt b 32 8 })

/-- The units of a type whose settings meet a test. -/
def unitsWhere (s : State) (p : UnitCfg → Bool) : List Nat :=
  (List.range 32).filter (fun u => match unitCfg s u with | some c => p c | none => false)

/-- One unit's state changed. -/
def updUnit (u : Nat) (f : DrUnit → DrUnit) (s : State) : State :=
  { s with dr := { s.dr with units := putAt 32 s.dr.units u (f (s.dr.units.getD u default)) } }

/-- The TD1 instant of the last wave's sample (R18). -/
def waveT1 (s : State) : Nat := secT s.acq.waveAt.1 + s.acq.waveAt.2 * 62500 * 2 ^ 40

/-- The instant of the last wave in units of `per` on a count of `base` units: the last unit at or before a TD1 instant. -/
def unitFloor (s : State) (base per t : Nat) : Nat :=
  if t < waveT1 s then base - (waveT1 s - t + per - 1) / per else base + (t - waveT1 s) / per

/-- The last grid slot at or before a TD1 instant, counted since start (R157, R480: windows count grid slots, so that a step or
a re-phase neither lengthens nor shortens them). -/
def slotAt (s : State) (t : Nat) : Nat := unitFloor s s.acq.waves (62500 * 2 ^ 40) t

/-- The first grid slot at or after a TD1 instant. -/
def slotFrom (s : State) (t : Nat) : Nat := unitFloor s s.acq.waves (62500 * 2 ^ 40) (t + 62500 * 2 ^ 40 - 1)

/-- The last 50 ns slot at or before a TD1 instant. -/
def hiAt (s : State) (t : Nat) : Nat := unitFloor s (1250 * s.acq.waves) (50 * 2 ^ 40) t

/-- The first 50 ns slot at or after a TD1 instant. -/
def hiFrom (s : State) (t : Nat) : Nat := unitFloor s (1250 * s.acq.waves) (50 * 2 ^ 40) (t + 50 * 2 ^ 40 - 1)

/-- The TD1 instant of a slot counted since start. -/
def slotTime (s : State) (slot : Nat) : Nat :=
  ((waveT1 s : Int) + ((slot : Int) - s.acq.waves) * (62500 * 2 ^ 40 : Nat)).toNat

/-- Post-trigger, extension limit, pre-trigger in slots; H_pre and H_post in 50 ns slots (PID 0x0701, 0x0702). -/
def drPre (s : State) : Nat := pv s 0x0701 0 8 2 500 * 16
/-- Post-trigger in slots. -/
def drPost (s : State) : Nat := pv s 0x0701 0 10 2 2000 * 16
/-- Extension limit in slots. -/
def drLimit (s : State) : Nat := pv s 0x0701 0 12 2 300 * 16000
/-- Extension enabled. -/
def drExtend (s : State) : Bool := pv s 0x0701 0 6 1 1 == 1
/-- H_pre in 50 ns slots. -/
def hrPre (s : State) : Nat := pv s 0x0702 0 0 4 2000 * 20
/-- H_post in 50 ns slots. -/
def hrPost (s : State) : Nat := pv s 0x0702 0 4 2 10 * 20000

/-- The longest filter time of any DI binary that a stage-0 or stage-2 pattern unit reads (R476), in us. -/
def fMax (s : State) : Nat :=
  let units := unitsWhere s (fun c => c.type == 3 && c.stage != 1)
  let sig (i : Nat) := pv s 0x0712 0 i 1 0
  let dis := units.flatMap (fun u => match unitCfg s u with
    | none => []
    | some c => (List.range 64).filterMap (fun i =>
        if c.care.testBit i then
          let src := pv s 0x0711 (sig i) 0 4 0
          if src / 2 ^ 24 = 1 then some (pv s 0x0553 (src % 2 ^ 24) 0 2 1000) else none
        else none))
  dis.foldl max 0

/-- The oldest slot that a record in capture or draining still needs (R473: backlog is not overwritten). -/
def keepFrom (s : State) : Option Nat :=
  let rs := (s.dr.cap.toList ++ s.dr.reel.filter (fun r => r.state == 1)).map (·.preSlot)
  match rs with | [] => none | x :: xs => some (xs.foldl min x)

/-- A ring trimmed to its capacity, oldest data first, except backlog (R473). -/
def trimRing (cap : Nat) (cost : Samp → Nat) (keep : Samp → Bool) : Nat → List Samp → List Samp
  | _, [] => []
  | used, x :: xs =>
    if used + cost x ≤ cap ∨ keep x then x :: trimRing cap cost keep (used + cost x) xs else []

/-- Adds samples (newest first) to the protection-rate ring unless it discards (R473, R487). -/
def pushProt (xs : List Samp) (s : State) : State :=
  if s.dr.full.1 then s
  else
    let keep (x : Samp) : Bool := match keepFrom s with | some k => decide (k ≤ x.slot) | none => false
    let ring := trimRing 3932160 (fun x => if x.kind = 1 then 4 else 5) keep 0 (xs ++ s.dr.prot)
    { s with dr := { s.dr with prot := ring } }

/-- Adds samples to the high-rate ring, 2 bytes each, 8 MiB (R473). -/
def pushHigh (xs : List Samp) (s : State) : State :=
  if s.dr.full.2 then s
  else
    let keep (x : Samp) : Bool := match keepFrom s with | some k => decide (k * 1250 ≤ x.slot) | none => false
    { s with dr := { s.dr with high := trimRing 8388608 (fun _ => 2) keep 0 (xs ++ s.dr.high) } }

/-- Flags set on the record in capture (R495). -/
def recFlags (m : BitVec 16) (s : State) : State :=
  match s.dr.cap with
  | some r => { s with dr := { s.dr with cap := some { r with flags := r.flags ||| m } } }
  | none => s

/-- A marker in the record in capture (R485); TD1 steps and re-phases are kept for the records whose pre-trigger they lie in. -/
def recMark (code t1 start : Nat) (s : State) : State :=
  let m : Marker := ⟨code, t1, start, s.acq.waves + 1, s.dr.step⟩
  let s := if code = 2 ∨ code = 3 then { s with dr := { s.dr with marks := (m :: s.dr.marks).take 64 } } else s
  match s.dr.cap with
  | some r => { s with dr := { s.dr with cap := some { r with marks := r.marks ++ [m] } } }
  | none => s

/-- The bound of an end by the record's limit (R481); the high-rate end never passes it. -/
def boundEnd (r : Record) (e : Nat) : Record :=
  let e' := max r.slot0 (min e r.limSlot)
  { r with pendEnd := e, endSlot := e', hrEnd := min r.hrPend (1250 * e') }

/-- A field of a parameter under which a record opened, or its default. -/
def Record.prm (r : Record) (pid off n dflt : Nat) : Nat := (findParam r.params pid 0).elim dflt (fun v => leAt v off n)
/-- Q of a record in slots, under the parameters it opened with (R117). -/
def Record.post (r : Record) : Nat := r.prm 0x0701 10 2 2000 * 16
/-- Extension enabled for a record. -/
def Record.extends_ (r : Record) : Bool := r.prm 0x0701 6 1 1 == 1
/-- H_pre of a record in 50 ns slots. -/
def Record.hrPre (r : Record) : Nat := r.prm 0x0702 0 4 2000 * 20
/-- H_post of a record in 50 ns slots. -/
def Record.hrPost (r : Record) : Nat := r.prm 0x0702 4 2 10 * 20000

/-- A recorded channel of a kind has no sample of its source in a ring at or before a slot: the ring holds less than the
window asks for (R482). A derived channel has one sample in four slots. -/
def ringShort (r : Record) (ring : List Samp) (lo n slot : Nat) : Bool :=
  (List.range n).any (fun i => match chanSrc r.params (lo + i) with
    | some src => !ring.any (fun x => x.chan == lo + i && x.src == src &&
        decide (x.slot ≤ slot + (if kindOf (lo + i) = 3 then 3 else 0)))
    | none => false)

/-- The flags that samples lend a record (R490, R495): TEST, SUBST, SYNC_LOST. -/
def sampFlags (xs : List Samp) : BitVec 16 :=
  let any (p : BitVec 8 → Bool) : Bool := xs.any (fun (x : Samp) => p x.qual)
  BitVec.ofNat 16 (fld 9 1 (b2n (any (·.getLsbD 4))) + fld 10 1 (b2n (any (·.getLsbD 5))) + fld 13 1 (b2n (any (fun q => !q.getLsbD 6))))

/-- The flags that its binary channels lend a record (R490, R495): TEST with an injection on a recorded DI, SUBST with a force
on a recorded N bit. -/
def binFlags (s : State) (r : Record) : BitVec 16 :=
  let codes := (List.range 256).filterMap (fun c => binCode r.params c)
  let test := s.hlt.inj.any (fun (j : Inj) => j.applied && (j.det == 0x11 || j.det == 0x12 || j.det == 0x13 || j.det == 0x26) &&
    codes.contains (2 ^ 24 + j.target))
  let subst := s.le.forces.any (fun (f : Force) =>
    f.point / 2 ^ 20 % 16 == 7 && f.point / 2 ^ 24 % 2 == 0 && codes.contains (3 * 2 ^ 24 + f.point % 2 ^ 20))
  BitVec.ofNat 16 (fld 9 1 (b2n test) + fld 10 1 (b2n subst))

/-- The high-rate window of a record opens with an instant (R480): with less than H_pre of data in the ring, PRE_SHORT (R482). -/
def hrOpen (s : State) (r : Record) (t1 : Nat) : Record :=
  let th := hiFrom s t1 - r.hrPre
  let hi := s.dr.high.filter (fun (x : Samp) => decide (th ≤ x.slot))
  let short := decide (hiFrom s t1 < r.hrPre) || ringShort r s.dr.high 16 16 th
  let r := { r with
    th := some th, hrPend := hiAt s t1 + r.hrPost
    flags := r.flags ||| 0x1000#16 ||| sampFlags hi ||| BitVec.ofNat 16 (b2n short) }
  boundEnd r r.pendEnd

/-- The UNIT codes of the derived channels (R244, R494). -/
def derivedUnits (s : State) : List Nat :=
  let outs := match s.img.cur with
    | some i => match i.graph with | some g => g.nodes.flatMap (fun (n : Node) => n.outs) | none => []
    | none => []
  (List.range 32).map (fun i => match chanSrc (params s) (32 + i) with
    | some out => match outs.find? (fun o => o.1 == out) with | some o => o.2.1 | none => 0
    | none => 0)

/-- The earliest of the collected firings; the lowest-numbered unit on a tie (R476). -/
def firstFiring (f0 : Firing) (rest : List Firing) : Firing :=
  rest.foldl (fun a f => if f.t1 < a.t1 ∨ (f.t1 = a.t1 ∧ f.unit < a.unit) then f else a) f0

/-- A new record in capture (R476 to R480), from its collected firings; the parameters in service go with it. -/
def newRecord (s : State) (fs : List Firing) : Option Record :=
  match fs with
  | [] => none
  | f0 :: rest =>
    let best := firstFiring f0 rest
    let slot0 := slotAt s best.t1
    let cfg := unitCfg s best.unit
    let level : Bool := match cfg with | some c => decide (c.type = 1 ∨ c.type = 2) | none => false
    let pre := drPre s
    let from_ := slotFrom s best.t1
    let avail := min (min pre from_) s.dr.fill
    let steps := (s.dr.marks.filter (fun (m : Marker) => m.code == 2 && decide (slot0 < m.slot))).length
    let marks := (s.dr.marks.filter (fun (m : Marker) => decide (from_ - avail < m.slot))).reverse
    let r : Record := { (default : Record) with
      id := s.dr.nextId, unit := best.unit, trigType := (cfg.map (·.type)).getD 0, t0 := best.t1, t0qual := td1Qual s
      t0td0 := td0 s - (td1 s - best.t1), epoch := (s.tu.d1.epoch + 65536 - steps) % 65536, ta := best.ta
      fired := fs.foldl (fun m f => setB m f.unit true) 0
      trigVal := if level then (cfg.map (·.t)).getD 0 else 0
      pair := BitVec.ofNat 2 (b2n (decide (s.pr.st = .twin)) + 2 * b2n s.pr.active), sgOffset := s.tu.sgOffset / 2 ^ 40
      group := s.img.group, slot0 := slot0, preSlot := from_ - avail, avail := avail, limSlot := slot0 + drLimit s
      hr0 := hiAt s best.t1, suppressed := s.dr.suppSince, maxStep := s.dr.step, step0 := s.dr.step, watermark := watermark s
      serial := s.boot.serial, locDist := 0xFFFFFFFF, state := 0, params := params s, marks := marks
      units := derivedUnits s, chans := (s.img.cur.map (·.chans)).getD [] }
    let lost : Bool := match s.dr.binLost with | some k => decide (from_ - pre ≤ k) | none => false
    let short := decide (avail < pre) || lost || ringShort r s.dr.prot 0 16 (from_ - avail) ||
      ringShort r s.dr.prot 32 32 (from_ - avail)
    let xs := (recordSamps { r with endSlot := s.acq.waves } s.dr.prot []).1
    let flags := BitVec.ofNat 16 (b2n short + fld 6 1 (b2n (s.dr.step != 0)) +
      fld 7 1 (b2n (marks.any (fun (m : Marker) => m.code == 3))) + fld 14 1 (b2n (decide (s.pr.st = .twin))))
    let r := boundEnd { r with flags := flags ||| sampFlags xs ||| binFlags s r } (slot0 + drPost s)
    some (if hasTw s && best.hr then hrOpen s r best.t1 else r)

/-- Bytes on the reel. -/
def reelBytes (l : List Record) : Nat := l.foldl (fun n (r : Record) => n + r.bytes.length) 0

/-- `k` more entries and `n` more bytes fit the index and the reel (R492). -/
def fitsReel (k n : Nat) (s : State) : Bool :=
  decide (s.dr.reel.length + k ≤ 16384) && decide (reelBytes s.dr.reel + n ≤ 7168 * 2 ^ 20)

/-- The oldest closed record is overwritten (R492). -/
def dropOldest (s : State) : State :=
  match (s.dr.reel.filter (fun r => r.state == 2 || r.state == 3)).getLast? with
  | none => s
  | some old =>
    submit .dr 0x8006 (old.id % 2 ^ 32) { s with dr := { s.dr with
      reel := s.dr.reel.filter (fun r => r.id != old.id), overwr := satInc 32 s.dr.overwr } }

/-- Oldest closed records are overwritten until the new entries and bytes fit (R492). -/
def makeRoom (k n : Nat) (s : State) : State :=
  let s := (List.range s.dr.reel.length).foldl (fun s _ => if fitsReel k n s then s else dropOldest s) s
  { s with dr := { s.dr with usedMib := (reelBytes s.dr.reel + n + 2 ^ 20 - 1) / 2 ^ 20 } }

/-- A record opens (R476, R501, R503). -/
def openRecord (r : Record) (s : State) : State :=
  let s := digNote 6 (1#8 :: leBytes 8 r.id ++ leBytes 16 r.t0) (makeRoom 1 0 s)
  submit .dr 0x8001 r.unit { s with dr := { s.dr with
    cap := some r, nextId := s.dr.nextId + 1, lastId := r.id, records := satInc 32 s.dr.records, st := .capturing
    suppSince := 0, coll := none } }

/-- A record's bytes as the rings hold its data now. -/
def recordNow (s : State) (r : Record) : List Byte :=
  recordBytes r s.dr.prot s.dr.high s.dr.bins (fun c => smGet s.dr.binSt c == 1)
    (fun c => decide (4 * 2 ^ 24 ≤ c) || smGet s.dr.binOk c == 1)

/-- The record in capture closes and goes to drain (R481, R501), its body's length expected from what the rings hold. -/
def closeRecord (flags : BitVec 16) (s : State) : State :=
  match s.dr.cap with
  | none => s
  | some r =>
    let r := { r with flags := r.flags ||| flags, state := 1 }
    let r := { r with expLen := (recordNow s r).length - 256 }
    submit .dr 0x8002 r.flags.toNat <|
      digNote 6 (3#8 :: leBytes 8 r.id ++ leBytes 8 r.endSlot) { s with dr := { s.dr with cap := none, reel := r :: s.dr.reel } }

/-- The recorder's arm state, with its event (R501). -/
def setArm (st : DrSt) (s : State) : State :=
  submit .dr 0x8007 (match st with | .disarmed => 0 | .armed => 1 | _ => 2) { s with dr := { s.dr with st := st } }

/-- A record chain ends: hold-off, exhaustion, a pending disarm (R478, R479). -/
def chainEnd (s : State) : State :=
  if s.dr.disarm then setArm .disarmed { s with dr := { s.dr with disarm := false } }
  else if pv s 0x0701 0 1 1 0 = 0 then
    if pv s 0x0701 0 2 2 50 = 0 then { s with dr := { s.dr with st := .armed } }
    else { s with dr := { s.dr with st := .holdOff, holdAt := td0 s } }
  else if pv s 0x0701 0 4 2 1 ≤ s.dr.chains then setArm .exhausted s
  else { s with dr := { s.dr with st := .armed } }

/-- The continuation of a record that ended TRUNCATED (R481, R487): it begins at `slot` with no pre-trigger, under the
parameters now in service (R117). A high-rate window that has not reached its end goes on in it. -/
def continuation (s : State) (r : Record) (slot gapUs : Nat) : Record :=
  let t := slotTime s slot
  let hr := r.th.isSome && decide (1250 * r.endSlot < r.hrPend)
  let c := { r with
    id := s.dr.nextId, prev := r.id, next := 0, contNo := r.contNo + 1, t0 := t, t0qual := td1Qual s
    t0td0 := ((td0 s : Int) + t - td1 s).toNat
    epoch := s.tu.d1.epoch, slot0 := slot, preSlot := slot, limSlot := slot + drLimit s, hr0 := 1250 * slot
    th := if hr then some (1250 * slot) else none, marks := [], fired := 0, suppressed := s.dr.suppSince
    step0 := s.dr.step, maxStep := s.dr.step, gapUs := gapUs, state := 0, bytes := [], expLen := 0, avail := 0
    pair := BitVec.ofNat 2 (b2n (decide (s.pr.st = .twin)) + 2 * b2n s.pr.active), sgOffset := s.tu.sgOffset / 2 ^ 40
    group := s.img.group, locDist := 0xFFFFFFFF, locMethod := 0
    params := params s, chans := (s.img.cur.map (·.chans)).getD [], units := derivedUnits s, watermark := watermark s
    flags := BitVec.ofNat 16 (4 + fld 6 1 (b2n (s.dr.step != 0)) + fld 11 1 (b2n (gapUs != 0)) + fld 12 1 (b2n hr) +
      fld 14 1 (b2n (decide (s.pr.st = .twin)))) }
  boundEnd c r.pendEnd

/-- The record ends TRUNCATED; its continuation will be the next record (R481, R487). -/
def truncate (s : State) : State :=
  match s.dr.cap with
  | none => s
  | some r =>
    let s := { s with dr := { s.dr with
      cap := some { r with next := s.dr.nextId }, truncCnt := satInc 32 s.dr.truncCnt } }
    submit .dr 0x8004 (r.contNo + 1) (closeRecord 0x0002#16 s)

/-- A trigger unit of stage 1 whose partner is `u` fired no more than its window before `t1` (R476): the instant. -/
def qualifying (s : State) (u t1 : Nat) : Option Nat :=
  (unitsWhere s (fun c => c.stage == 1 && c.partner == u)).findSome? (fun a =>
    match unitCfg s a, (s.dr.units.getD a default).lastA with
    | some c, some ta => if ta ≤ t1 ∧ t1 ≤ ta + usT c.window then some ta else none
    | _, _ => none)

/-- A firing moves the end of a record to its instant + Q, with extension enabled and its instant not past the end slot; an
HR-flagged one opens the high-rate window or moves its end (R480, R481). -/
def retrigger (f : Firing) (s : State) (r : Record) : Record :=
  let slot := slotAt s f.t1
  let r := { r with retriggers := r.retriggers + 1, fired := setB r.fired f.unit true }
  let r := if r.extends_ && decide (slot ≤ r.endSlot) then boundEnd r (max r.pendEnd (slot + r.post)) else r
  if f.hr && hasTw s then
    if r.th.isSome then boundEnd { r with hrPend := max r.hrPend (hiAt s f.t1 + r.hrPost) } r.pendEnd else hrOpen s r f.t1
  else r

/-- An opening firing (R476, R478, R479, R481): while disarmed it opens nothing; in hold-off, while exhausted or after flush
step 3 it is suppressed. A record in capture goes on under the parameters it opened with (R117); a continuation that waits for
room in a ring keeps the end that it moves. -/
def opening (f : Firing) (s : State) : State :=
  if s.dr.st = .disarmed then s
  else if s.dr.flushed ∨ s.dr.st = .holdOff ∨ s.dr.st = .exhausted then
    submit .dr 0x8005 f.unit { s with dr := { s.dr with
      suppressed := satInc 32 s.dr.suppressed, suppSince := s.dr.suppSince + 1 } }
  else match s.dr.cap, s.dr.owed with
    | some r, _ =>
      let r := retrigger f s r
      digNote 6 (2#8 :: leBytes 8 r.id ++ leBytes 8 r.endSlot) (recMark 6 f.t1 f.t1 { s with dr := { s.dr with cap := some r } })
    | none, some r =>
      { s with dr := { s.dr with owed := some (if r.extends_ then { r with pendEnd := max r.pendEnd (slotAt s f.t1 + r.post) } else r) } }
    | none, none =>
      if s.dr.st = .armed then
        match s.dr.coll with
        | none => { s with dr := { s.dr with coll := some (td1 s, [f]) } }
        | some (t, fs) => { s with dr := { s.dr with coll := some (t, fs ++ [f]) } }
      else s

/-- What a unit's firing does by its stage (R476): a stage 0 or a qualified stage 2 firing opens. -/
def unitActs (u t1 : Nat) (c : UnitCfg) (s : State) : State :=
  if c.stage = 1 then updUnit u (fun x => { x with lastA := some t1 }) s
  else if c.stage = 2 then
    match qualifying s u t1 with
    | some ta => opening ⟨u, t1, c.hr, ta⟩ s
    | none => s
  else opening ⟨u, t1, c.hr, 0⟩ s

/-- A trigger unit fires at a TD1 instant (R474 to R479): counted, shown, its event tasks start; then a stage 0 or a
qualified stage 2 firing opens. In TWIN the standby's own firings are only counted (R491), in JOINING too (R535). -/
def fireUnit (u t1 : Nat) (s : State) : State :=
  match unitCfg s u with
  | none => s
  | some c =>
    let s := updUnit u (fun x => { x with cnt := satInc 32 x.cnt }) s
    let s := { s with dr := { s.dr with fired := setB s.dr.fired u true } }
    let s := raiseTrig 4 u 0 t1 (td0 s) s
    if (s.pr.st = .twin ∨ s.pr.st = .joining) ∧ !s.pr.active then s
    else
      let s := sendAgree 6 (s.acq.wave + 1) [u, t1] s
      unitActs u t1 c s

/-- Several units fire at one instant. -/
def fireUnits (us : List Nat) (t1 : Nat) (s : State) : State := us.foldl (fun s u => fireUnit u t1 s) s

/-! Level and rate units (R474, R475). Values are exact integers: sample × scale against threshold × full scale. -/

/-- A sample's value and a threshold on one integer scale, for a recorder channel (R471, R474). -/
def unitScale (s : State) (c : Nat) (v : Int) : Int :=
  match drChan (params s) c with
  | none => 0
  | some (src, _, _, _, _) =>
    if kindOf c = 3 then fInt (BitVec.ofInt 32 v)
    else v * (codePrimary ((s.img.cur.map (·.chans)).getD []) (kindOf c) src).1

/-- The factor that a binary32 threshold takes on that scale. -/
def threshScale (c : Nat) (t : Nat) : Int :=
  fInt (BitVec.ofNat 32 t) * (if kindOf c = 3 then 1 else if kindOf c = 1 then 8388607000 else 32767000)

/-- The condition of a mode: at or beyond the threshold. -/
def beyondT (mode : Nat) (x t : Int) : Bool :=
  if mode = 0 then decide (t ≤ x) else if mode = 1 then decide (x ≤ t) else decide (t ≤ x.natAbs)

/-- Inside the threshold by the hysteresis: the unit may fire again. -/
def insideH (mode : Nat) (x t h : Int) : Bool :=
  if mode = 0 then decide (x < t - h) else if mode = 1 then decide (t + h < x) else decide ((x.natAbs : Int) < t - h)

/-- A linear crossing between two samples, to the nearest 1/256 of the sample interval (R475). -/
def crossLinear (mode : Nat) (t x0 x1 : Int) (t0 t1 : Nat) : Nat :=
  let (t, x0, x1) := if mode = 2 then (t, (x0.natAbs : Int), (x1.natAbs : Int)) else (t, x0, x1)
  let num := (t - x0).natAbs
  let den := (x1 - x0).natAbs
  if den = 0 then t1 else t0 + rne (256 * num) den * (t1 - t0) / 256

/-- The cubic Lagrange value at (j / 256) between samples k - 1 and k, times 6 × 256^3 (R475): samples k - 2 to k + 1. -/
def lagrange (a b c d : Int) (j : Nat) : Int :=
  let u : Int := j
  -- nodes at -1, 0, 1, 2 (× 256)
  let n : Int := 256
  d * (u + n) * u * (u - n) - a * u * (u - n) * (u - 2 * n) + 3 * b * (u + n) * (u - n) * (u - 2 * n)
    - 3 * c * (u + n) * u * (u - 2 * n)

/-- The crossing of a high-rate channel to the nearest 1/256 sample by the cubic (R475). -/
def crossCubic (mode : Nat) (t a b c d : Int) (t0 t1 : Nat) : Nat :=
  let val (j : Nat) : Int := let v := lagrange a b c d j; if mode = 2 then (v.natAbs : Int) else v
  let target := t * 6 * 256 ^ 3
  let hit := (List.range 257).find? (fun j => if mode = 1 then decide (val j ≤ target) else decide (target ≤ val j))
  let j := hit.getD 256
  -- the nearer of j - 1 and j
  let j := if j = 0 then 0 else
    if (target - val (j - 1)).natAbs < (val j - target).natAbs then j - 1 else j
  t0 + j * (t1 - t0) / 256

/-- What a level or rate unit judges at history index `i` (newest first): the sample's value, or the change over W samples;
nothing with an invalid sample (R474). -/
def judged (s : State) (c : UnitCfg) (hist : List Samp) (i : Nat) : Option Int :=
  let val (j : Nat) : Option Int := match hist[j]? with
    | some (y : Samp) => if y.qual.toNat % 4 = 1 then none else some (unitScale s y.chan y.val)
    | none => none
  if c.type = 1 then val i
  else match val i, val (i + c.window) with
    | some a, some b => some (a - b)
    | _, _ => none

/-- Samples per second of a kind (R471). -/
def rateOf (kind : Nat) : Int := if kind = 1 then 16000 else if kind = 2 then 20000000 else 4000

/-- The threshold and the hysteresis of a unit on the scale of what it judges: a rate's over W × Ts, and minus T in mode 1
(R474). -/
def limits (c : UnitCfg) (chan : Nat) : Int × Int × Int :=
  let t := threshScale chan c.t
  let h := threshScale chan c.h
  if c.type = 1 then (t, h, 1)
  else (if c.mode = 1 then -(t * c.window) else t * c.window, h * c.window, rateOf (kindOf chan))

/-- The crossing of the value judged at index `i` (R475): linear, or on a high-rate channel by the cubic through its
neighbours. -/
def crossing (c : UnitCfg) (chan : Nat) (v : Nat → Option Int) (t1 : Nat → Nat) (i : Nat) : Nat :=
  let (t, _, m) := limits c chan
  match v (i + 2), v (i + 1), v i, if i = 0 then none else v (i - 1) with
  | some a, some b, some x, some d => crossCubic c.mode t (a * m) (b * m) (x * m) (d * m) (t1 (i + 1)) (t1 i)
  | _, some b, some x, _ =>
    if kindOf chan = 2 then t1 i else crossLinear c.mode t (b * m) (x * m) (t1 (i + 1)) (t1 i)
  | _, _, _, _ => t1 i

/-- A level or rate unit takes a new sample of its channel (R474, R475): it fires when what it judges meets the threshold after
having been inside it by H. On a high-rate channel sample k is judged once k + 1 has come. The unit's history holds the newest
samples first. -/
def unitSample (u : Nat) (c : UnitCfg) (x : Samp) (s : State) : State :=
  let un := s.dr.units.getD u default
  let hist := (x :: un.hist).take (if c.type = 2 then c.window + 4 else 4)
  let s := updUnit u (fun y => { y with hist := hist }) s
  let i := if x.kind = 2 then 1 else 0
  let (t, h, m) := limits c x.chan
  match judged s c hist i with
  | none => s
  | some v =>
    if un.primed && beyondT c.mode (v * m) t then
      let at_ (j : Nat) : Nat := match hist[j]? with | some (y : Samp) => y.t1 | none => x.t1
      fireUnit u (crossing c x.chan (judged s c hist) at_ i) (updUnit u (fun y => { y with primed := false }) s)
    else updUnit u (fun y => { y with primed := y.primed || insideH c.mode (v * m) t h }) s

/-- Every level and rate unit on a sample's channel takes it. -/
def unitsSample (x : Samp) (s : State) : State :=
  (List.range 32).foldl (fun s u => match unitCfg s u with
    | some c => if (c.type = 1 ∨ c.type = 2) ∧ c.source = x.chan then unitSample u c x s else s
    | none => s) s

/-! Binary channels (R472) and pattern units. -/

/-- B of the pattern units: bit i holds the state of pattern signal i (PID 0x0712). -/
def patternBits (s : State) : Nat :=
  match prm s 0x0712 0 with
  | none => 0
  | some b => maskOf 64 (fun i => match binCode (params s) (leAt b i 1) with
    | some code => smGet s.dr.binSt code == 1
    | none => false)

/-- The pattern units judge a transition (R474 type 3). -/
def patternUnits (t1 : Nat) (s : State) : State :=
  (List.range 32).foldl (fun s u => match unitCfg s u with
    | some c =>
      if c.type = 3 then
        let m := decide (((patternBits s) ^^^ c.value) &&& c.care = 0)
        let was := (s.dr.units.getD u default).match_
        let s := updUnit u (fun x => { x with match_ := m }) s
        if m && !was then fireUnit u t1 s else s
      else s
    | none => s) s

/-- The binary ring with new transitions, newest first: it holds 32 768, and past them what is backlog (R473, R482); with the
slot of the newest one that it gives up. -/
def binRing (s : State) (ts : List BTrans) : List BTrans × Option Nat :=
  let all := ts ++ s.dr.bins
  let keep (t : BTrans) : Bool := match keepFrom s with | some k => decide (k ≤ t.slot) | none => false
  let held := all.take 32768 ++ (all.drop 32768).takeWhile keep
  (held, match (all.drop held.length).head? with | some t => some t.slot | none => s.dr.binLost)

/-- A binary source takes a state and validity at a TD1 instant, truncated to microseconds (R472): every channel that
names it, under the parameters in service or those of the record in capture (R117), records the transition. -/
def binSet (cls index : Nat) (st ok est gap : Bool) (t1 : Nat) (s : State) : State :=
  let code := 2 ^ 24 * cls + index
  let was := smGet s.dr.binSt code == 1
  let wasOk := decide (4 ≤ cls) || smGet s.dr.binOk code == 1
  if was = st ∧ wasOk = ok then s
  else
    let cs := chansOf (params s) code
    let rs := match s.dr.cap with | some r => (chansOf r.params code).filter (fun c => !cs.contains c) | none => []
    let ring := binRing s ((cs ++ rs).map (fun c => ⟨c, code, st, ok, was, wasOk, slotAt s t1, est, gap, t1 / usT 1⟩))
    let s := { s with dr := { s.dr with
      binSt := smSet s.dr.binSt code (b2n st), binOk := smSet s.dr.binOk code (b2n ok), bins := ring.1, binLost := ring.2 } }
    if cs.isEmpty then s else patternUnits t1 s

/-- The last state of a binary source stands on. -/
def binOn (s : State) (cls index : Nat) : Bool := smGet s.dr.binSt (2 ^ 24 * cls + index) == 1

/-- A source that gives a 1 us pulse (R472 classes 5 to 7). -/
def binPulse (cls index t1 : Nat) (s : State) : State :=
  binSet cls index false true false false (t1 + usT 1) (binSet cls index true true false false t1 s)

/-! Waves, derived channels, high-rate blocks. -/

/-- The phase bin of an instant in the tracked cycle of a terminal, carried on from the last phasor reference at its
frequency; 64 while the tracker is in hold or invalid (R489). -/
def phaseBin (s : State) (term t1 : Nat) : Nat :=
  match if term = 0 then s.dr.phase.1 else s.dr.phase.2 with
  | some (t, a, f) => ((a + ((t1 : Int) - t) * f * 16 / 1000000000000000) % 2 ^ 44 * 64 / 2 ^ 44).toNat
  | none => 64

/-- The phasor reference of a terminal (R489). -/
def setPhase (term : Nat) (x : Option (Nat × Int × Nat)) (s : State) : State :=
  if term = 0 then { s with dr := { s.dr with phase := (x, s.dr.phase.2) } }
  else { s with dr := { s.dr with phase := (s.dr.phase.1, x) } }

/-- The waves by which a channel's token lies before the wave that carries it: the lag of PID 0x0980 for an SV source
(R197). -/
def tokLag (s : State) (n : Nat) : Nat :=
  match ((s.img.cur.map (·.chans)).getD []).find? (fun (e : ChanEntry) => e.channel == n) with
  | some e => if e.source = 2 then pv s 0x0980 e.input 0 1 48 else 0
  | none => 0

/-- The sources that a recorder channel takes samples of: that of the parameters in service, and that of the record in capture
where it opened with another (R117). -/
def recSrcs (s : State) (c : Nat) : List Nat :=
  let now := (chanSrc (params s) c).toList
  now ++ (match s.dr.cap with
    | some r => (chanSrc r.params c).toList.filter (fun x => !now.contains x)
    | none => [])

/-- A sample reaches the units when its channel takes its source under the parameters in service. -/
def sampUnits (x : Samp) (s : State) : State := if chanSrc (params s) x.chan = some x.src then unitsSample x s else s

/-- The token channels of a wave enter the rings and the units (R471, R473, R474): per token channel its value and
quality byte, at the TD1 instant of its token. -/
def recTokens (vals : List (Int × BitVec 8)) (s : State) : State :=
  let ph (n : Nat) : Nat := match ((s.img.cur.map (·.chans)).getD []).find? (fun (e : ChanEntry) => e.channel == n) with
    | some e => phaseBin s e.terminal (waveT1 s)
    | none => 64
  let xs := (List.range 16).flatMap (fun c => (recSrcs s c).map (fun src =>
    let (v, q) := vals.getD src (0, 0x01#8)
    let lag := tokLag s src
    (⟨c, 1, src, s.acq.waves - lag, s.tu.slot - lag, waveT1 s - lag * (62500 * 2 ^ 40), v, q, ph src⟩ : Samp)))
  let s := pushProt xs.reverse s
  let s := match s.dr.cap with
    | some r => recFlags (sampFlags (recordSamps { r with endSlot := s.acq.waves } xs []).1 ||| binFlags s r) s
    | none => s
  xs.foldl (fun s x => sampUnits x s) { s with dr := { s.dr with fill := min 32000 (s.dr.fill + 1) } }

/-- The manual units requested since the last wave fire at this one (R474 type 8). -/
def recManual (s : State) : State :=
  let m := s.dr.manual
  m.foldl (fun s p => fireUnit p.1 (waveT1 s) s) { s with dr := { s.dr with manual := [] } }

/-- The recorder arms at the first wave released when ARM_AT_START is set (R478). -/
def recStart (s : State) : State :=
  if s.dr.started then s
  else
    let s := { s with dr := { s.dr with started := true } }
    -- the hold-off counts of mode 1 are held in MRAM: exhausted until the next DR_ARM (R32, R479; DEDUCED, log entry 72)
    if pv s 0x0701 0 0 1 1 = 1 then
      setArm (if pv s 0x0701 0 1 1 0 ≠ 0 ∧ pv s 0x0701 0 4 2 1 ≤ s.dr.chains then .exhausted else .armed) s
    else s

/-- DR_ARM applies (R478): in the state it requests it changes nothing, but that it takes back a disarm that waits for the end
of capture. -/
def applyArm (arm : Bool) (s : State) : State :=
  if arm then
    if s.dr.st = .disarmed ∨ s.dr.st = .exhausted then setArm .armed { s with dr := { s.dr with chains := 0 } }
    else { s with dr := { s.dr with disarm := false } }
  else
    match s.dr.st with
    | .disarmed => s
    | .capturing => { s with dr := { s.dr with disarm := true } }
    | _ => setArm .disarmed { s with dr := { s.dr with coll := none } }

/-- A continuation that waits for room in the ring opens at this wave with GAP (R487). The history before the discarded stretch
is no pre-trigger of later records. -/
def recResume (s : State) : State :=
  match s.dr.owed with
  | none => s
  | some r =>
    if s.dr.full.1 || s.dr.full.2 then s
    else
      let gap := (waveT1 s - s.dr.fullAt) / usT 1
      let c := continuation s r s.acq.waves (max 1 gap)
      let s := openRecord c { s with dr := { s.dr with owed := none, fill := 0 } }
      recMark 4 (waveT1 s) s.dr.fullAt s

/-- What the recorder does at a wave release (R471 to R479); in JOINING it does not capture (R535). -/
def recWave (vals : List (Int × BitVec 8)) (s : State) : State :=
  if s.pr.st = .joining ∧ !s.pr.active then s
  else recManual (recTokens vals (recResume (recStart s)))

/-- A derived sample (R471): an output's value for a wave whose number is a multiple of 4, at that wave's slot. -/
def recDerived (out : Nat) (v : Nat) (q : BitVec 8) (wave t1 : Nat) (s : State) : State :=
  if wave % 4 != 0 ∨ (s.pr.st = .joining ∧ !s.pr.active) then s
  else
    let lag := (s.acq.wave + 2 ^ 32 - wave) % 2 ^ 32
    (List.range 32).foldl (fun s i =>
      let c := 32 + i
      if (recSrcs s c).contains out then
        let x : Samp := ⟨c, 3, out, s.acq.waves - lag, s.tu.slot - lag, t1, sgn 32 v, q, 64⟩
        let s := pushProt [x] s
        let s := match s.dr.cap with
          | some r => recFlags (sampFlags (recordSamps r [x] []).1) s
          | none => s
        sampUnits x s
      else s) s

/-- A high-rate block of a PAI input enters the ring and the units (R314, R471): the samples, oldest first. -/
def recHigh (input slot0 t1 : Nat) (q : BitVec 8) (vals : List Int) (s : State) : State :=
  (List.range 16).foldl (fun s i =>
    let c := 16 + i
    if (recSrcs s c).contains input then
      let term := (((s.img.cur.map (·.chans)).getD []).find? (fun (e : ChanEntry) => e.source == 1 && e.input == input)).map
        (·.terminal)
      let xs := (List.range vals.length).map (fun j =>
        let t := t1 + j * 50 * 2 ^ 40
        let ph : Nat := match term with | some n => phaseBin s n t | none => 64
        (⟨c, 2, input, slot0 + j + 1250 * s.acq.waves - 1250 * s.tu.slot, slot0 + j, t, vals.getD j 0, q, ph⟩ : Samp))
      let s := pushHigh xs.reverse s
      let s := match s.dr.cap with
        | some r => recFlags (sampFlags (recordSamps r [] xs).2) s
        | none => s
      xs.foldl (fun s x => sampUnits x s) s
    else s) s

/-! The commands and events. -/

/-- DR_ARM (R478, R539). -/
def drArm (r : Req) (arm : Nat) (s : State) : State :=
  serve r 0x0060 s (fun s =>
    if pairRefuses s then answer r 0x0060 .badState s
    else if 1 < arm then answer r 0x0060 .range s
    else if s.pr.st = .twin then
      answer r 0x0060 .ok (schedTwin 8 [arm] s)
    else answer r 0x0060 .ok (applyArm (arm == 1) s))

/-- DR_ARM. -/
def execDrArm (r : Req) (arm : Nat) (s : State) : Res := .next (drArm r arm s)

/-- A manual unit is to fire at the next wave released (R474 type 8). -/
def askManual (unit : Nat) (s : State) : State := { s with dr := { s.dr with manual := s.dr.manual ++ [(unit, none)] } }

/-- DR_TRIGGER (R474 type 8, R539): the unit fires at the next wave released. -/
def drTrigger (r : Req) (unit : Nat) (s : State) : State :=
  serve r 0x0061 s (fun s =>
    if pairRefuses s then answer r 0x0061 .badState s
    else
      match unitCfg s unit with
      | some c =>
        if c.type = 8 then
          answer r 0x0061 .ok (if s.pr.st = .twin then schedTwin 9 [unit] s else askManual unit s)
        else answer r 0x0061 .range s
      | none => answer r 0x0061 .range s)

/-- DR_TRIGGER. -/
def execDrTrigger (r : Req) (unit : Nat) (s : State) : Res := .next (drTrigger r unit s)

/-- Writing 1 clears bits of DR_UNIT_FIRED (R503). -/
def clearFired (mask : Word) (s : State) : State × Status :=
  ({ s with dr := { s.dr with fired := s.dr.fired &&& ~~~mask } }, .ok)

/-- DR_UNIT_FIRED_CLEAR. -/
def execDrUnitFiredClear (r : Req) (mask : Word) (s : State) : Res := .next (serveWrite r s (clearFired mask))

/-- The collection time ends and the record opens (R476). -/
def recordOpen (s : State) : State :=
  match s.dr.coll with
  | none => s
  | some (t, fs) =>
    if s.dr.cap.isNone && decide (t + usT (100 + fMax s) ≤ td1 s) then
      match newRecord s fs with
      | some r => openRecord r { s with dr := { s.dr with chains := s.dr.chains + 1 } }
      | none => { s with dr := { s.dr with coll := none } }
    else s

/-- RECORD_OPEN. -/
def execRecordOpen (s : State) : Res := .next (recordOpen s)

/-- Capture reaches the end slot (R481): the record closes, or at T0 + E closes TRUNCATED and continues. -/
def recordEnd (s : State) : State :=
  match s.dr.cap with
  | none => s
  | some r =>
    if s.acq.waves < r.endSlot then s
    else if r.limSlot < r.pendEnd then
      let s := truncate s
      openRecord (continuation s { r with retriggers := 0 } (r.endSlot + 1) 0) s
    else chainEnd (closeRecord 0#16 s)

/-- RECORD_END. -/
def execRecordEnd (s : State) : Res := .next (recordEnd s)

/-- HOLD_TIME of TD0 has passed since the chain ended (R479). -/
def holdOffExpiry (s : State) : State :=
  if s.dr.st = .holdOff ∧ due s s.dr.holdAt (msT (100 * pv s 0x0701 0 2 2 50)) then
    { s with dr := { s.dr with st := .armed } }
  else s

/-- HOLD_OFF_EXPIRY. -/
def execHoldOffExpiry (s : State) : Res := .next (holdOffExpiry s)

/-- The rate step changes (R486): new chunks, a marker, RATE_STEPPED, MAX_STEP, RATE_STEP. -/
def setStep (n : Nat) (s : State) : State :=
  let s := { s with dr := { s.dr with step := n } }
  let s := match s.dr.cap with
    | some r => { s with dr := { s.dr with cap := some { r with
        maxStep := max r.maxStep n, flags := if n = 0 then r.flags else r.flags ||| 0x0040#16 } } }
    | none => s
  submit .dr 0x8003 n (recMark 1 (td1 s) (td1 s) s)

/-- A ring's backlog reaches 50 % (R486): the percentages are as measured. -/
def rateStepUp (high prot : Nat) (s : State) : State :=
  let s := { s with dr := { s.dr with
    backHigh := high, backProt := prot, lowSince := if 20 < max high prot then none else some (s.dr.lowSince.getD (td0 s)) } }
  let spaced : Bool := match s.dr.stepAt with | some t => decide (t + msT 20 ≤ td1 s) | none => true
  if 50 ≤ max high prot ∧ s.dr.step < 5 ∧ spaced then
    let n := s.dr.step + 1
    setStep n { s with dr := { s.dr with stepAt := some (td1 s), stepCnt := satInc 32 s.dr.stepCnt } }
  else s

/-- RATE_STEP_UP. -/
def execRateStepUp (high prot : Nat) (s : State) : Res := .next (rateStepUp high prot s)

/-- Both backlogs have stayed at or below 20 % for 1 s of TD0 (R486). -/
def rateStepDown (high prot : Nat) (s : State) : State :=
  let low := decide (max high prot ≤ 20)
  let since := if low then some (s.dr.lowSince.getD (td0 s)) else none
  let s := { s with dr := { s.dr with backHigh := high, backProt := prot, lowSince := since } }
  match since with
  | some t =>
    if 0 < s.dr.step ∧ due s t (secT 1) then
      setStep (s.dr.step - 1) { s with dr := { s.dr with lowSince := some (td0 s) } }
    else s
  | none => s

/-- RATE_STEP_DOWN. -/
def execRateStepDown (high prot : Nat) (s : State) : Res := .next (rateStepDown high prot s)

/-- A ring has no free space, all of it backlog (R487): new samples are discarded, the record ends TRUNCATED, a continuation is
owed. -/
def ringFull (high : Bool) (s : State) : State :=
  if (if high then !hasTw s || s.dr.full.2 else s.dr.full.1) || (keepFrom s).isNone then s
  else
    let s := { s with dr := { s.dr with
      full := if high then (s.dr.full.1, true) else (true, s.dr.full.2), fullAt := td1 s } }
    match s.dr.cap with
    | none => s
    | some r =>
      let r' := { r with endSlot := min r.endSlot s.acq.waves, hrEnd := min r.hrEnd (1250 * s.acq.waves) }
      let s := truncate { s with dr := { s.dr with cap := some r' } }
      { s with dr := { s.dr with owed := some { r' with retriggers := 0 } } }

/-- RING_FULL. -/
def execRingFull (high : Bool) (s : State) : Res := .next (ringFull high s)

/-- A record's data has been coded and drained: header, table, chunks and maps stand on the reel (R483 to R495). -/
def reelDrainDone (id high prot : Nat) (s : State) : State :=
  match s.dr.reel.find? (fun r => r.id == id && r.state == 1) with
  | none => s
  | some r =>
    let bytes := recordNow s r
    let s := makeRoom 0 bytes.length s
    let n := bytes.length - 256
    let r' := { r with bytes := bytes, expLen := n, written := n, state := if r.state = 3 then 3 else 2 }
    let low := decide (max high prot ≤ 20)
    { s with dr := { s.dr with
        reel := s.dr.reel.map (fun x => if x.id = id then r' else x)
        backHigh := high, backProt := prot, full := (false, false)
        lowSince := if low then some (s.dr.lowSince.getD (td0 s)) else none } }

/-- REEL_DRAIN_DONE. -/
def execReelDrainDone (id high prot : Nat) (s : State) : Res := .next (reelDrainDone id high prot s)

/-- A reel index entry (R496). -/
def indexEntry (r : Record) : List Byte :=
  leBytes 8 r.id ++ stamp r.t0 ++ leBytes 1 r.t0qual ++ leBytes 1 r.state ++ leBytes 2 r.contNo ++
  leBytes 4 r.flags.toNat ++ leBytes 8 r.prev ++ leBytes 8 r.expLen ++ leBytes 8 r.written ++ leBytes 4 r.locDist ++
  leBytes 1 r.locMethod ++ leBytes 1 r.unit ++ zeros 6

/-- Every record, newest first, the open one among them. -/
def allRecords (s : State) : List Record := s.dr.cap.toList ++ s.dr.reel

/-- DR_LIST (R496): entries newest first from a RECORD_ID, 0 for the newest. -/
def drList (r : Req) (from_ max_ : Nat) (s : State) : State :=
  serve r 0x0062 s (fun s =>
    if max_ = 0 ∨ 63 < max_ then answer r 0x0062 .range s
    else
      let all := (allRecords s).filter (fun x => from_ == 0 || decide (x.id ≤ from_))
      respond r 0x0062 .ok (decide (max_ < all.length)) ((all.take max_).flatMap indexEntry) s)

/-- DR_LIST. -/
def execDrList (r : Req) (from_ max_ : Nat) (s : State) : Res := .next (drList r from_ max_ s)

/-- DR_READ (R496): raw record bytes from an offset; beyond what has been written, RANGE. -/
def drRead (r : Req) (id offset len : Nat) (s : State) : State :=
  serve r 0x0063 s (fun s =>
    if 4080 < len then answer r 0x0063 .range s
    else
      match (allRecords s).find? (fun x => x.id == id) with
      | none => answer r 0x0063 .range s
      | some x =>
        if x.bytes.length < offset + len then answer r 0x0063 .range s
        else respond r 0x0063 .ok false (leBytes 8 offset ++ bytesAt x.bytes offset len) s)

/-- DR_READ. -/
def execDrRead (r : Req) (id offset len : Nat) (s : State) : Res := .next (drRead r id offset len s)

/-- The chain that a record belongs to, in CONT_NO order (R497). -/
def chainOf (s : State) (x : Record) : List Record :=
  let rs := s.dr.reel
  let back := (List.range x.contNo).foldl (fun (acc : List Record) _ =>
    match acc with
    | y :: _ => match rs.find? (fun z => z.id == y.prev) with | some z => z :: acc | none => acc
    | [] => acc) [x]
  (List.range rs.length).foldl (fun (acc : List Record) _ =>
    match acc.getLast? with
    | some y => if y.next = 0 then acc else
        match rs.find? (fun z => z.id == y.next) with | some z => acc ++ [z] | none => acc
    | none => acc) back

/-- DR_EXPORT (R497): one file of the COMTRADE set of a record or its chain, from an offset. The CFG and DAT texts are the
standard's (log entry 9); HDR and INF are those of R498. -/
def drExport (r : Req) (id set_ format chain file offset : Nat) (s : State) : State :=
  serve r 0x0064 s (fun s =>
    if 1 < set_ ∨ 1 < format ∨ 1 < chain ∨ 3 < file then answer r 0x0064 .range s
    else if set_ = 1 ∧ !hasTw s then answer r 0x0064 .absent s
    else
      match (allRecords s).find? (fun x => x.id == id) with
      | none => answer r 0x0064 .range s
      | some x =>
        if x.state < 2 then answer r 0x0064 .badState s
        else
          let rs := if chain = 1 then chainOf s x else [x]
          let name := (prm s 0x0704 0).getD ([0x53, 0x4F, 0x57, 0x59, 0x4E] ++ List.replicate 11 0x20#8)
          let bytes :=
            if file = 2 then hdrText rs
            else if file = 3 then infText rs
            else Config.comtrade (rs.map (·.bytes)) set_ format file name s.tu.utcOffset s.tu.utcPending
          if bytes.length < offset then answer r 0x0064 .range s
          else
            let part := bytesAt bytes offset 4088
            respond r 0x0064 .ok (decide (offset + 4088 < bytes.length)) (leBytes 8 bytes.length ++ part) s)

/-- DR_EXPORT. -/
def execDrExport (r : Req) (id set_ format chain file offset : Nat) (s : State) : Res :=
  .next (drExport r id set_ format chain file offset s)

/-- Step 3 of a power-fail flush (R96, R490): the open record closes with POWER_FAIL, and later firings are
suppressed. No continuation opens. -/
def drPowerFail (s : State) : State :=
  let s := recMark 7 (td1 s) (td1 s) s
  let s := closeRecord 0x0010#16 s
  { s with dr := { s.dr with flushed := true, coll := none, owed := none } }

/-- After a recovery the recorder re-arms (R59, R490); a disarm that waited for the end of capture takes effect, and in hold-off
mode 1 the chains that have opened count (R478, R479). -/
def drRecover (s : State) : State :=
  if s.dr.flushed then
    let s := { s with dr := { s.dr with flushed := false } }
    if s.dr.st = .capturing then
      if s.dr.disarm then setArm .disarmed { s with dr := { s.dr with disarm := false } }
      else if pv s 0x0701 0 1 1 0 ≠ 0 ∧ pv s 0x0701 0 4 2 1 ≤ s.dr.chains then setArm .exhausted s
      else { s with dr := { s.dr with st := .armed } }
    else s
  else s

end Sys2Proof.Machine
end

