-- ==== Sys2Proof/Machine/Time.lean ====
section
/-! DEFINITION. Time domains, sources, the servo, the sample grid's phase and the launch table (05). -/

namespace Sys2Proof.Machine

/-! Domains (R125 to R131). -/

/-- Domain `n`. -/
def dom (s : State) : Nat → Domain
  | 0 => s.tu.d0
  | 1 => s.tu.d1
  | 2 => s.tu.d2
  | _ => s.tu.d3

/-- Domain `n` changed. -/
def updDom (n : Nat) (f : Domain → Domain) (s : State) : State :=
  match n with
  | 0 => { s with tu := { s.tu with d0 := f s.tu.d0 } }
  | 1 => { s with tu := { s.tu with d1 := f s.tu.d1 } }
  | 2 => { s with tu := { s.tu with d2 := f s.tu.d2 } }
  | _ => { s with tu := { s.tu with d3 := f s.tu.d3 } }

/-- The engine counts TD2 with TD1: in SOLO and in the active lane (R127). -/
def td2Follows (s : State) : Bool := s.pr.active || s.pr.st == .solo

/-- A domain after `k` timing ticks (R125, R128). -/
def advDom (k : Nat) (d : Domain) : Domain :=
  let m := min k d.slewLeft
  { d with t := d.t + m * d.slew + (k - m) * d.inc, slewLeft := d.slewLeft - m }

/-- The grid lies within 1 us of its slots and TD1 is locked, or in glide at class 2 or better (R149). -/
def syncOk (s : State) : Bool :=
  decide (s.tu.sgOffset.natAbs ≤ nsT 1000) && s.tu.grid != .unlocked &&
  (s.tu.d1.qst == .locked || (s.tu.d1.qst == .glide && decide (s.tu.d1.cls ≤ 2)))

/-- R149's condition as it held at a TD0 instant. -/
def syncAt (s : State) (t : Nat) : Bool :=
  match s.tu.syncHist.find? (fun e => decide (e.1 ≤ t)) with | some e => e.2 | none => false

/-- A change of R149's condition is kept with its TD0 instant. -/
def noteSync (s : State) : State :=
  let now := syncOk s
  let last : Bool := match s.tu.syncHist with | e :: _ => e.2 | [] => false
  if now = last then s
  else { s with tu := { s.tu with syncHist := ((td0 s, now) :: s.tu.syncHist).take 64 } }

/-- An amount moved towards 0 by at most `d`. -/
def towards0 (x : Int) (d : Nat) : Int := if x.natAbs ≤ d then 0 else if x < 0 then x + d else x - d

/-- `k` timing ticks of 4 ns pass: the four counters advance (R125, R127, R128), a grid that slews moves 50 ppm
towards its slots (R151, R153). -/
def advance (k : Nat) (s : State) : State :=
  if s.pw.phase = .off then s
  else
    let s := noteSync s
    let d1 := advDom k s.tu.d1
    let gain := k * (s.tu.d1.inc * s.tu.td2Ppm / 1000000)
    -- what is left of a slew of TD2 onto TD1 (in the standby: onto the active's TD1)
    let rem := towards0 s.tu.td2Rem gain
    let d2 : Domain := if td2Follows s then
        { s.tu.d2 with
          t := ((s.tu.d2.t : Int) + ((d1.t : Int) - s.tu.d1.t) + (s.tu.td2Rem - rem)).toNat
          slewLeft := s.tu.d2.slewLeft - k, qst := s.tu.d1.qst, cls := s.tu.d1.cls }
      else
        let d := advDom k s.tu.d2
        { d with t := ((d.t : Int) + (s.tu.td2Rem - rem)).toNat }
    let ofs := if s.tu.grid = .slewing then towards0 s.tu.sgOffset (k * (2 ^ 42 * 50 / 1000000)) else s.tu.sgOffset
    noteSync { s with tu := { s.tu with
      d0 := advDom k s.tu.d0, d1 := d1, d2 := d2, d3 := advDom k s.tu.d3
      td2Rem := rem, sgOffset := ofs } }

/-- An increment lies within `ppm` of the nominal 4.0 ns (R126). -/
def incOk (ppm inc : Nat) : Bool :=
  decide ((Int.natAbs ((inc : Int) - 2 ^ 42)) * 1000000 ≤ ppm * 2 ^ 42)

/-- The range of a domain's base increment (R126). -/
def incPpm (n : Nat) : Nat := if n = 1 ∨ n = 2 then 40 else 200

/-- The increments kept in MRAM (R32, R169): those of TD0 and TD1 while TD1 is locked, whoever owns the servo. -/
def saveIncs (s : State) : State :=
  if s.tu.d1.qst = .locked then
    { s with tu := { s.tu with savedInc := some [s.tu.d0.inc, s.tu.d1.inc, s.tu.d2.inc, s.tu.d3.inc] } }
  else
    { s with tu := { s.tu with savedInc := s.tu.savedInc.map (fun l => l.take 2 ++ [s.tu.d2.inc, s.tu.d3.inc]) } }

/-- The base increment written (R126, R128): its register reads it, and TD2 takes TD1's where it follows TD1. -/
def setInc (n inc : Nat) (s : State) : State :=
  let f : Domain → Domain := fun d => { d with inc := inc, incLo := inc % 2 ^ 32 }
  let s := updDom n f s
  saveIncs (if n = 1 ∧ td2Follows s then updDom 2 f s else s)

/-- A slew started (R128): a new slew replaces the one in progress, a count of 0 ends it. -/
def startSlew (n inc count : Nat) (s : State) : State :=
  let f : Domain → Domain := fun d => { d with slew := inc, slewLo := inc % 2 ^ 32, slewCount := count, slewLeft := count }
  let s := updDom n f s
  if n = 1 ∧ td2Follows s then updDom 2 f s else s

/-- All four counters, their quality bytes and epochs latched at one tick (R131). -/
def latchAll (s : State) : State :=
  let f (n : Nat) (d : Domain) : Domain := { d with cap := d.t, capQual := qualOf n d, capEpoch := d.epoch }
  { s with tu := { s.tu with d0 := f 0 s.tu.d0, d1 := f 1 s.tu.d1, d2 := f 2 s.tu.d2, d3 := f 3 s.tu.d3 } }

/-! The calendar of an IRIG-B frame (R137). -/

/-- Days from 1970-01-01 to the start of a year. -/
def yearDays (y : Nat) : Nat :=
  let l (y : Nat) : Nat := y / 4 - y / 100 + y / 400
  365 * (y - 1970) + l (y - 1) - l 1969

/-- The year of a UTC second. -/
def yearOf (sec : Nat) : Nat :=
  let d := sec / 86400
  let y := 1970 + d / 366
  if d < yearDays (y + 1) then y else if d < yearDays (y + 2) then y + 1 else y + 2

/-! Accuracy classes (R14). -/

/-- The bound of an accuracy class in counter units; none for class 15. -/
def clsBound : Nat → Option Nat
  | 0 => some (nsT 25) | 1 => some (nsT 100) | 2 => some (usT 1) | 3 => some (usT 10) | 4 => some (usT 100)
  | 5 => some (msT 1) | 6 => some (msT 10) | 7 => some (msT 100) | _ => none

/-- The smallest class whose bound is at least an error. -/
def clsOf (err : Nat) : Nat :=
  match (List.range 8).find? (fun c => match clsBound c with | some b => decide (err ≤ b) | none => false) with
  | some c => c
  | none => 15

/-! Launch entries (R159 to R164). -/

/-- A 28-byte launch value (PID 0x0A10); instants are rounded down to the 4 ns tick (R159). -/
def parseLaunch (bs : List Byte) : LaunchVal :=
  { instant := (leAt bs 0 6 * 1000000000 + leAt bs 6 4) / 4 * 4, period := leAt bs 12 8 / 4 * 4, action := leAt bs 20 1
    target := leAt bs 22 2 }

/-- The launch value of the image's entry `e`. -/
def imgLaunch (s : State) (e : Nat) : Option LaunchVal := (prm s 0x0A10 e).map parseLaunch

/-- The first instant of a series after the TD1 time `t` (counter units), in ns. -/
def firstAfter (v : LaunchVal) (t : Nat) : Nat :=
  let t := nsAll t
  if t < v.instant then v.instant
  else if v.period = 0 then v.instant
  else v.instant + ((t - v.instant) / v.period + 1) * v.period

/-- The class of a DO (PID 0x0550): 0 unused, 1 trip-class, 2 binding-governed. -/
def doClass (s : State) (n : Nat) : Nat := pv s 0x0550 n 0 1 0

/-- A launch target lies in the range of its action (R160). -/
def targetOk (s : State) (v : LaunchVal) : Bool :=
  match v.action with
  | 1 => decide (v.target % 256 < 8) && doClass s (v.target % 256) == 2
  | 2 => match unitCfg s v.target with | some c => c.type == 6 | none => false
  | 3 => match s.le.sec with | some sec => decide (v.target < 16) && sec.tasks.any (·.task == 8 + v.target) | none => false
  | 4 => decide (v.target < 32) && (prm s 0x0910 v.target).isSome
  | 5 => v.target == 0
  | 6 => (prm s 0x0990 v.target).isSome && pv s 0x0990 v.target 2 1 1 == 0
  | _ => false

/-- The minimum lead of an action (R160). -/
def minLead (action : Nat) : Nat := if action = 1 then usT 16 else if action = 4 then usT 20 else nsT 4

/-- The armed entry of a number. -/
def armedEntry (s : State) (e : Nat) : Option LaunchEntry :=
  s.tu.launches.find? (fun (x : LaunchEntry) => x.num == e && x.armed)

/-- The code of an owner (R168). -/
def Owner.toNat : Owner → Nat
  | .image => 0 | .logic => 1 | .graph => 2 | .command => 3

/-- The status of a request to arm an entry that the time units receive at the TD1 time `t` (R159, R160). Where several
refusals apply ABSENT stands before RANGE, RANGE before CONFLICT and CONFLICT before BUSY (DESIGN CHOICE, log entry 51:
the rules give no order). -/
def armStatusAt (s : State) (t : Nat) (o : Owner) (e : Nat) (v : LaunchVal) : Status :=
  if v.action = 5 ∧ !hasRio s then .absent
  else if 64 ≤ e ∨ !targetOk s v ∨ (v.period ≠ 0 ∧ v.period < 4000) ∨ v.instant * 2 ^ 40 < t + minLead v.action then .range
  else if (imgLaunch s e).isSome then .conflict
  else match armedEntry s e with
    | some x => if x.owner = o then .ok else .conflict
    | none =>
      let held := (s.tu.launches.filter (fun (x : LaunchEntry) => x.armed && x.owner == o)).length
      let room := match s.img.cur with | some i => Config.launchReserve i.digest o.toNat | none => 0
      if held < room then .ok else .busy

/-- The status of a request that the time unit receives now. -/
def armStatus (s : State) (o : Owner) (e : Nat) (v : LaunchVal) : Status := armStatusAt s (td1 s) o e v

/-- The TD1 time of the wave that an agreed command is named for: in TWIN both time units receive the command then (R163,
R539; DEDUCED, log entry 52). -/
def namedT1 (s : State) : Nat := td1 s + 17 * (62500 * 2 ^ 40)

/-- The table with an entry replaced, in ascending numbers. -/
def putLaunch (x : LaunchEntry) : List LaunchEntry → List LaunchEntry
  | [] => [x]
  | y :: ys => if x.num < y.num then x :: y :: ys else if x.num = y.num then x :: ys else y :: putLaunch x ys

/-- An entry armed. -/
def putArmed (o : Owner) (e : Nat) (v : LaunchVal) (next : Nat) (s : State) : State :=
  { s with tu := { s.tu with launches := putLaunch ⟨e, o, true, v, next, 0, 0, false⟩ s.tu.launches } }

/-- An owner's request to arm an entry. -/
def armLaunch (o : Owner) (e : Nat) (v : LaunchVal) (s : State) : State × Status :=
  match armStatus s o e v with
  | .ok => (putArmed o e v v.instant s, .ok)
  | st => (s, st)

/-- Entries changed one by one. -/
def updLaunch (e : Nat) (f : LaunchEntry → LaunchEntry) (s : State) : State :=
  { s with tu := { s.tu with launches := updFirst (fun (x : LaunchEntry) => x.num == e) f s.tu.launches } }

/-- An owner's request to cancel an entry (R162): only its own armed entries. A once switching that has been handed over
stands; of a repeating one the instant handed over stays, as a once entry, and every later one goes. -/
def cancelLaunch (o : Owner) (e : Nat) (s : State) : State × Status :=
  match armedEntry s e with
  | none => (s, .range)
  | some x =>
    if x.owner ≠ o ∨ (x.val.action = 1 ∧ x.val.period = 0 ∧ x.handed) then (s, .range)
    else if x.val.action = 1 ∧ x.handed then
      (updLaunch e (fun x => { x with val := { x.val with period := 0 } }) s, .ok)
    else (updLaunch e (fun x => { x with armed := false }) s, .ok)

/-- A cancellation that reaches the time units with the named wave comes after a once entry has fired, or has been handed
over (R162, R539). -/
def cancelLate (s : State) (e : Nat) : Bool :=
  match armedEntry s e with
  | none => false
  | some x => x.val.period == 0 && decide (x.next * 2 ^ 40 < namedT1 s + (if x.val.action = 1 then usT 16 else 0))

/-- The companion of LAUNCH_SKIPPED (R644). -/
def skipPart (skipped next reason : Nat) : List Byte :=
  padTo 48 (leBytes 4 skipped ++ stamp (next * 2 ^ 40) ++ leBytes 1 reason)

/-- LAUNCH_SKIPPED (R644). -/
def launchSkipped (value skipped next reason : Nat) (s : State) : State :=
  submitParts .time 0x1009 value [skipPart skipped next reason] s

/-- The entries across a TD1 step (R164). -/
def launchesAcross (old new : Nat) (s : State) : State :=
  let one (s : State) (x : LaunchEntry) : State :=
    let inst := x.next * 2 ^ 40
    if x.val.period = 0 then
      if old < new ∧ old < inst ∧ inst < new then
        launchSkipped x.num 1 0 1 (updLaunch x.num (fun x => { x with armed := false }) s)
      else s
    else
      let n := firstAfter x.val new
      let s := updLaunch x.num (fun x => { x with next := n, handed := false }) s
      if old < new ∧ x.next < n then launchSkipped x.num ((n - x.next) / x.val.period) n 1 s else s
  (s.tu.launches.filter (·.armed)).foldl one s

/-- The image's entries are armed once TD1 has left the never-locked state (R85). -/
def armImage (s : State) : State :=
  (List.range 64).foldl (fun s e =>
    match imgLaunch s e with
    | none => s
    | some v =>
      let past := v.period = 0 ∧ v.instant * 2 ^ 40 ≤ td1 s
      if past ∨ !targetOk s v ∨ (v.action = 5 ∧ !hasRio s) then submit .time 0x0125 e s
      else putArmed .image e v (firstAfter v (td1 s)) s) s

/-! Steps and the grid (R129, R152 to R155). -/

/-- The companion of TIME_STEP (R129). -/
def stepPart (old oldEp new newEp : Nat) (off : Int) (cause domain : Nat) : List Byte :=
  padTo 48 (stamp old ++ leBytes 2 oldEp ++ stamp new ++ leBytes 2 newEp ++
    leBytes 8 (unsgn 64 (off / 2 ^ 40)) ++ leBytes 2 ((off % 2 ^ 40).toNat / 2 ^ 24) ++
    leBytes 1 cause ++ leBytes 1 domain)

/-- SAMPLE_GRID_UNLOCK fires each time the grid's offset comes to exceed 1 us (R155). -/
def gridCheck (value : Nat) (was : Int) (s : State) : State :=
  if nsT 1000 < s.tu.sgOffset.natAbs ∧ was.natAbs ≤ nsT 1000 then
    fireDet 0x04 0 value { s with tu := { s.tu with gridUnlock := s.tu.gridUnlock + 1 } }
  else s

/-- The grid at a TD1 step (R84, R152 to R154). -/
def gridStep (first : Bool) (off : Int) (s : State) : State :=
  let was := s.tu.sgOffset
  let big := decide (pv s 0x0A03 0 0 4 1000 * 2 ^ 40 < off.natAbs)
  let jump := first || s.tu.grid == .jumpPending || (pv s 0x0A02 0 0 1 0 == 1 && big)
  let s := { s with tu := { s.tu with
    sgOffset := was + off
    grid := if jump then .jumpPending else .slewing
    rephaseAt := if jump then secT (secOf (td1 s) + 1) else s.tu.rephaseAt } }
  gridCheck (if jump then 2 else 1) was s

/-- A step of TD1 or TD3 by `off` (2^-40 ns) is allowed: the result is not negative (R129). -/
def stepOk (s : State) (n : Nat) (off : Int) : Bool := decide (0 ≤ ((dom s n).t : Int) + off)

/-- A step applied at one tick (R129, R157, R164). -/
def applyStep (n : Nat) (off : Int) (cause : Nat) (s : State) : State :=
  let d := dom s n
  let new := ((d.t : Int) + off).toNat
  let first := s.tu.d1.qst == .never && !s.tu.stepped
  let s := updDom n (fun d => { d with t := new, epoch := wrapInc 16 d.epoch }) s
  let s := fireDetOnceP 0x06 n [stepPart d.t d.epoch new (wrapInc 16 d.epoch) off cause n] s
  if n = 1 then
    let s := { s with tu := { s.tu with stepped := true } }
    let s := if td2Follows s then { s with tu := { s.tu with td2Rem := s.tu.td2Rem + off, td2Ppm := 40 } } else s
    let s := recFlags 0x0100#16 (recMark 2 new d.t s)
    noteSync (gridStep first off (launchesAcross d.t new s))
  else s

/-! Quality of TD1 (R136, R140, R146 to R150). -/

/-- A port's PTP role (R136); a change writes PTP_ROLE. -/
def setRole (port role : Nat) (s : State) : State :=
  if s.tu.ptpRole.getD port 0 = role then s
  else submit .time 0x100E (16 * port + role) { s with tu := { s.tu with ptpRole := putAt 2 s.tu.ptpRole port role } }

/-- The source whose time TD1 holds: the active one, in glide the one last active (R136, R146). -/
def heldSource (s : State) : Nat := if s.tu.active = 0 ∧ s.tu.d1.qst = .glide then s.tu.lastSrc else s.tu.active

/-- A port may be master: capable, TD1 locked to PPS_IN or IRIG_IN, or in glide from it at class 2 or better (R135, R136). -/
def masterOk (s : State) (port : Nat) : Bool :=
  pv s 0x0A08 port 0 1 0 == 1 && (heldSource s == 3 || heldSource s == 4) &&
  (s.tu.d1.qst == .locked || (s.tu.d1.qst == .glide && decide (s.tu.d1.cls ≤ 2)))

/-- A port that may no longer be master acts as a slave (R136). -/
def checkRoles (s : State) : State :=
  [0, 1].foldl (fun s p => if s.tu.ptpRole.getD p 0 = 1 ∧ !masterOk s p then setRole p 0 s else s) s

/-- TD1's state and class set; a change of class writes TIME_CLASS where `tell` (R147). -/
def setQual (q : TQState) (c : Nat) (tell : Bool) (s : State) : State :=
  let old := s.tu.d1.cls
  let lost := s.tu.d1.qst = .locked ∧ q ≠ .locked
  let s := updDom 1 (fun d => { d with qst := q, cls := c }) s
  let s := if td2Follows s then updDom 2 (fun d => { d with qst := q, cls := c }) s else s
  let s := if lost then { s with tu := { s.tu with lockLostAt := some (td1 s) } } else s
  let s := if tell ∧ old ≠ c then submit .time 0x1007 c s else s
  checkRoles (noteSync s)

/-- TD1 leaves the never-locked state: the image's launch entries are armed (R85). -/
def leaveNever (was : TQState) (s : State) : State :=
  if was = .never ∧ s.tu.d1.qst ≠ .never ∧ !s.tu.everLocked then armImage { s with tu := { s.tu with everLocked := true } } else s

/-- The servo owner is the servo firmware (R142). -/
def servoInternal (s : State) : Bool := pv s 0x0A05 0 0 1 0 == 0

/-- The servo firmware runs: internal owner, engine configured, management cores not restarting (R142, R143, R601). -/
def servoRuns (s : State) : Bool :=
  servoInternal s && s.cmd.restarting.isNone && (s.pw.phase == .running || s.pw.phase == .configure)

/-- Round-to-nearest quotient. -/
def divRound (a : Int) (b : Nat) : Int := (2 * a + b) / (2 * (b : Int))

/-- Timing ticks of one servo period at 16 Hz (R144). -/
def servoTicks : Nat := 15625000

/-- An increment brought into the range of R126 for TD1. -/
def clampInc (i : Int) : Nat :=
  let lim : Int := 2 ^ 42 * 40 / 1000000
  (max (2 ^ 42 - lim) (min (2 ^ 42 + lim) i)).toNat

/-- The slew that removes an offset (2^-40 ns, positive when TD1 is ahead) within one period, bounded by the slew limit of
PID 0x0A0B (R144). -/
def corrSlew (s : State) (off : Int) : Nat :=
  let lim : Int := 2 ^ 42 * pv s 0x0A0B 0 0 1 10 / 1000000
  let c := max (-lim) (min lim (divRound off servoTicks))
  clampInc ((s.tu.d1.inc : Int) - c)

/-- The servo removes an offset: a step above the threshold of PID 0x0A0C, otherwise a slew (R144, R150). Answers the
offset that remains. -/
def removeOffset (off : Int) (s : State) : State × Nat :=
  if pv s 0x0A0C 0 0 4 1000 * (1000 * 2 ^ 40) < off.natAbs ∧ stepOk s 1 (-off) then
    (applyStep 1 (-off) (if s.tu.d1.qst = .never then 3 else 1) s, 0)
  else if off = 0 then (s, 0)
  else (startSlew 1 (corrSlew s off) servoTicks s, off.natAbs)

/-- Source `k` (1 to 4). -/
def srcOf (s : State) (k : Nat) : Source := s.tu.src.getD (k - 1) default

/-- Source `k` changed. -/
def updSrc (k : Nat) (f : Source → Source) (s : State) : State :=
  { s with tu := { s.tu with src := putAt 4 s.tu.src (k - 1) (f (srcOf s k)) } }

/-- The TD1 year in lock is held in MRAM (R137). -/
def noteYear (s : State) : State :=
  if s.tu.d1.qst = .locked then { s with tu := { s.tu with lastYear := some (yearOf (utcSec s (td1 s)).toNat) } } else s

/-- A servo update taken from the active source, with the offset it measures: TD1 is locked with the class that bounds
the offset still to be removed; leaving never locked, glide or free writes TIME_LOCKED or TIME_SOURCE_RESTORED (R150,
R165). -/
def servoUpdate (off : Int) (s : State) : State :=
  let k := s.tu.active
  let was := s.tu.d1.qst
  let moved := removeOffset off s
  let s := moved.1
  let c := max (srcOf s k).cls (clsOf moved.2)
  let s := updSrc k (fun x => { x with lastUpd := td0 s }) s
  let s := { s with tu := { s.tu with lockCls := c } }
  let s := noteYear (saveIncs (setQual .locked c true s))
  let s := if was = .locked then s
    else
      let s := if was = .never then { s with tu := { s.tu with learnAt := td0 s } } else clearDetAll 0x05 s
      submit .time (if was = .never then 0x1000 else 0x1002) (16 * k + c) s
  leaveNever was s

/-- The last active source is lost with no other qualified: glide (R146). -/
def enterGlide (k : Nat) (s : State) : State :=
  let s := fireDet 0x05 0 k s
  if s.tu.d1.qst = .locked then setQual .glide s.tu.d1.cls false s else s

/-- The servo uses the qualified source that stands first in PID 0x0A01 (R141, R146). `off` is the offset it measures
against a source it moves to. -/
def selectSource (off : Int) (s : State) : State :=
  if !servoInternal s then s
  else
    let prio : List Nat := match prm s 0x0A01 0 with | some v => (List.range 4).map (fun i => leAt v i 1) | none => [1, 2, 3, 4]
    let new := (prio.find? (fun k => decide (1 ≤ k) && decide (k ≤ 4) && (srcOf s k).qualified)).getD 0
    let old := s.tu.active
    if new = old then s
    else
      let s := { s with tu := { s.tu with active := new, lastSrc := if new = 0 then old else new } }
      if new = 0 then checkRoles (enterGlide old s)
      else
        let s := if old = 0 then s else submit .time 0x1003 (16 * old + new) s
        checkRoles (servoUpdate off s)

/-- A good message, edge or frame of a source: qualified after `need` in succession (R141). -/
def srcGood (k need : Nat) (off : Int) (s : State) : State :=
  let s := updSrc k (fun x => { x with present := true, good := x.good + 1, bad := 0 }) s
  if need ≤ (srcOf s k).good ∧ !(srcOf s k).qualified then
    selectSource off (updSrc k (fun x => { x with qualified := true }) s)
  else s

/-- A source is lost (R141): it must qualify again. -/
def srcLost (k : Nat) (present : Bool) (s : State) : State :=
  selectSource 0 (updSrc k (fun x => { x with present := present, qualified := false, good := 0, bad := 0 }) s)

/-! The servo capture queue (R132, R133). -/

/-- A capture enters the queue, in all four domains at once, `half` half nanoseconds into the tick (R132); a full queue drops
the newest and counts it, with one event per TD0 second, whose value is TB_TS_DROP, the total (DESIGN CHOICE, log entry 53:
the rules do not say since when its drops count). -/
def capture (source msgType seq half : Nat) (portId : List Byte) (s : State) : State :=
  if 64 ≤ s.tu.capQ.length then
    let s := { s with tu := { s.tu with tsDrop := satInc 32 s.tu.tsDrop } }
    if s.tu.tsDropSec = some (secOf (td0 s)) then s
    else submit .time 0x100B s.tu.tsDrop { s with tu := { s.tu with tsDropSec := some (secOf (td0 s)) } }
  else
    let h := half % 8 * 2 ^ 39
    let e : CapEntry := ⟨source, msgType, seq, portId, s.tu.d0.t + h, s.tu.d1.t + h, s.tu.d2.t + h, s.tu.d3.t + h⟩
    { s with tu := { s.tu with capQ := s.tu.capQ ++ [e] } }

/-- A capture entry of a TB_READ response (R595). -/
def capBytes (e : CapEntry) : List Byte :=
  leBytes 1 e.source ++ leBytes 1 e.msgType ++ leBytes 2 e.seqId ++ padTo 10 e.portId ++
  stamp e.t0 ++ stamp e.t1 ++ stamp e.t2 ++ stamp e.t3 ++ zeros 2

/-- The UTC offset as a source gives it (R145): TAI - UTC and the pending leap second (0 none, 1 +1 s, 2 -1 s). -/
def takeUtc (u : Option (Int × Nat)) (s : State) : State :=
  match u with
  | none => s
  | some (o, p) =>
    if servoInternal s then
      { s with tu := { s.tu with utcValid := true, utcOffset := unsgn 16 o, utcPending := p % 4 } }
    else s

/-! Events of the sources. -/

/-- The transparent clock between NET_A and NET_B of an HSR pair (R134, PID 0x0A0A): a message is passed on from the other
port, with the residence time in its correction field (0: none where the follow-up carries it, PID 0x0A09) and, under
C37.238-2017 (PID 0x0A06), 50 ns more of networkTimeInaccuracy. -/
def ptpPass (port : Nat) (m : PtpMsg) (half : Nat) (s : State) : State :=
  if abMode s = 2 ∧ pv s 0x0A0A 0 0 1 1 = 1 ∧ [0x0, 0x8, 0xB].contains m.msgType = true then
    let (r, s) := freshNat s
    sendFrame 1 (2 ^ (1 - port)) [m.msgType, m.seq, port, m.dom]
      [td1 s + half % 8 * 2 ^ 39, r % usT 2, if pv s 0x0A06 0 0 1 0 = 1 then 50 else 0] [] s
  else s

/-- A PTP message arrives (R134, R135, R141); one of another domain than PID 0x0A07 is only passed on. Sync, Follow_Up and
the peer delay messages are captured; four Sync in succession from one grandmaster with a valid peer delay qualify the
source. `missing`: a Sync expected before this one did not come. `offset` is the offset of TD1 that the servo measures with
it; `role` is what the best master clock algorithm gives the port; `utc` is the offset that an Announce carries; `half` the
half nanoseconds of its arrival within the tick. -/
def execPtpMessageRx (port : Nat) (m : PtpMsg) (half : Nat) (portId : List Byte) (gm : Nat) (missing : Bool) (offset : Int)
    (role : Nat) (utc : Option (Int × Nat)) (s : State) : Res :=
  let k := port + 1
  let mine := decide (m.dom = pv s 0x0A07 0 0 1 0)
  if 2 ≤ port ∨ !portOn s port ∨ s.pw.phase = .off ∨ m.msgType = 0x0D then .next s
  else if !mine then .next (ptpPass port m half s)
  else
    let s := ptpPass port m half s
    let s := if [0x0, 0x2, 0x3, 0x8].contains m.msgType then capture k m.msgType m.seq half portId s else s
    let s := if m.msgType = 0x3 ∨ m.msgType = 0xA then updSrc k (fun x => { x with peerDelay := true }) s else s
    match m.msgType with
    | 0x0 =>
      let s := if (srcOf s k).gm ≠ gm ∧ (srcOf s k).present then srcLost k true s else s
      let s := updSrc k (fun x => { x with
        gm := gm, good := if missing || !x.peerDelay then 0 else x.good, last := td1 s, sync := td0 s
        syncInt := if x.sync = 0 || missing then x.syncInt else td0 s - x.sync }) s
      .next (if (srcOf s k).peerDelay then srcGood k 4 offset s else updSrc k (fun x => { x with present := true }) s)
    | 0xB =>
      let s := updSrc k (fun x => { x with
        announce := td0 s, present := true, annInt := if x.announce = 0 then 0 else td0 s - x.announce }) s
      let s := if s.tu.active = k ∨ s.tu.active = 0 then takeUtc utc s else s
      .next (setRole port (if role = 1 ∧ !masterOk s port then 0 else role % 3) s)
    | _ => .next s

/-- What a message of the PTP engine says of the clock: domain, profile, step mode, and in an Announce clockClass (6 locked,
7 in glide), priority1 and priority2 (R134, R136, R166). -/
def ptpFields (s : State) (port msgType : Nat) : List Nat :=
  [pv s 0x0A07 0 0 1 0, pv s 0x0A06 0 0 1 0, pv s 0x0A09 0 0 1 0] ++
  (if msgType = 0xB then [if s.tu.d1.qst = .locked then 6 else 7, pv s 0x0A08 port 1 1 128, pv s 0x0A08 port 2 1 128] else [])

/-- The PTP engine sends a message, captured at egress (R132, R136): Sync, Follow_Up and Announce only as master, and
Follow_Up only in two-step mode (PID 0x0A09). -/
def execPtpMessageTx (port : Nat) (m : PtpMsg) (half : Nat) (s : State) : Res :=
  if 2 ≤ port ∨ !portOn s port ∨ s.pw.phase = .off ∨ m.dom ≠ pv s 0x0A07 0 0 1 0 then .next s
  else if [0x0, 0x8, 0xB].contains m.msgType ∧ s.tu.ptpRole.getD port 0 ≠ 1 then .next s
  else if m.msgType = 0x8 ∧ pv s 0x0A09 0 0 1 0 = 0 then .next s
  else
    let s := sendFrame 1 (2 ^ port) ([m.msgType, m.seq, port] ++ ptpFields s port m.msgType) [td1 s] [] s
    .next (if [0x0, 0x2, 0x3, 0x8].contains m.msgType then capture (port + 1) (0x80 + m.msgType) m.seq half [] s else s)

/-- A TD1 time's distance from the nearest second boundary. -/
def fromSecond (t : Nat) : Int := if 2 * (t % secT 1) < secT 1 then t % secT 1 else (t % secT 1 : Int) - secT 1

/-- A PPS_IN edge (R138, R141): captured, and good when it lies 1 s ± 1 us of TD1 after the previous one, once TD1 has been
set to within 0.4 s of the true second by another source or by a step; it is then the TD1 second boundary nearest to it.
`trueErr` is TD1 less the true time in ns. A qualified source's bad edge leaves the next one expected where it was. -/
def execPpsInEdge (half : Nat) (trueErr : Int) (s : State) : Res :=
  if s.pw.phase = .off then .next s
  else
    let s := capture 3 0 0 half [] s
    let t : Nat := td1 s + half % 8 * 2 ^ 39
    let x := srcOf s 3
    let set := (s.tu.d1.qst ≠ .never ∨ s.tu.stepped) ∧ trueErr.natAbs ≤ 400000000
    if x.present ∧ ((t : Int) - ((x.last + secT 1 : Nat) : Int)).natAbs ≤ usT 1 ∧ set then
      .next (srcGood 3 3 (fromSecond t) (updSrc 3 (fun x => { x with last := t }) s))
    else
      let s := updSrc 3 (fun x => { x with
        present := true, good := 0, bad := x.bad + 1, last := if x.qualified then x.last + secT 1 else t }) s
      .next (if (srcOf s 3).qualified ∧ 3 ≤ (srcOf s 3).bad then srcLost 3 true s else s)

/-- The year of an IRIG-B frame (R137): its two digits in the century from 2000 on (DEDUCED, log entry 54); B000 carries none
and takes TD1's if TD1 has been locked since power-up, otherwise the last TD1 year held in MRAM. -/
def irigYear (s : State) (f : IrigFrame) : Nat :=
  if f.format ≠ 0 then 2000 + f.year % 100
  else if s.tu.everLocked then yearOf (utcSec s (td1 s)).toNat
  else s.tu.lastYear.getD 1970

/-- The UTC second that an IRIG-B frame names by the day of its year and the second of its day, its local offset removed. -/
def irigUtc (s : State) (f : IrigFrame) (day sec : Nat) : Nat :=
  (((yearDays (irigYear s f) + (day - 1)) * 86400 + sec : Nat) - f.ofs * 60 : Int).toNat

/-- An IRIG-B frame (R137, R141): its marker is captured; a supported format, valid parity and the second after the last
frame's make it good. The servo measures TD1 against the second it names. -/
def execIrigInFrame (f : IrigFrame) (day sec half : Nat) (s : State) : Res :=
  if s.pw.phase = .off then .next s
  else
    let s := capture 4 0 0 half [] s
    let t : Nat := td1 s + half % 8 * 2 ^ 39
    let u := irigUtc s f day sec
    let ok := [0, 4, 6, 7].contains f.format && f.parityOk
    let next := decide (u = (srcOf s 4).lastSec + 1)
    let s := updSrc 4 (fun x => { x with last := t, lastSec := if ok then u else x.lastSec })
      s
    if ok && (next || (srcOf s 4).good == 0) then
      let s := updSrc 4 (fun x => { x with cls := min f.quality 15 }) s
      let s := if s.tu.active = 4 ∨ s.tu.active = 0 then takeUtc (some (sgn 16 s.tu.utcOffset, f.leap)) s else s
      let off : Int := (t : Int) - ((u : Int) + sgn 16 s.tu.utcOffset) * (secT 1 : Nat)
      .next (srcGood 4 3 off s)
    else
      let s := updSrc 4 (fun x => { x with present := true, good := b2n ok, bad := x.bad + 1 }) s
      .next (if (srcOf s 4).qualified ∧ 2 ≤ (srcOf s 4).bad then srcLost 4 true s else s)

/-- Two consecutive expected Sync messages are missing (R141): the interval is that of the last two Sync messages. -/
def execPtpSyncMissing (port : Nat) (s : State) : Res :=
  let x := srcOf s (port + 1)
  if port < 2 ∧ x.present ∧ due s x.sync (2 * x.syncInt) then .next (srcLost (port + 1) false s) else .next s

/-- Announce receipt times out after 3 intervals (R141), as the last two Announce messages give them. -/
def execAnnounceReceiptTimeout (port : Nat) (s : State) : Res :=
  let x := srcOf s (port + 1)
  if port < 2 ∧ x.present ∧ due s x.announce (3 * x.annInt) then .next (srcLost (port + 1) false s) else .next s

/-- No PPS_IN edge for 1.1 s of TD1 (R141). -/
def execPpsEdgeMissing (s : State) : Res :=
  if (srcOf s 3).present ∧ (srcOf s 3).last + msT 1100 ≤ td1 s then .next (srcLost 3 false s) else .next s

/-- Two consecutive IRIG-B frames, one a second, are missing (R141). -/
def execIrigFrameMissing (s : State) : Res :=
  if (srcOf s 4).present ∧ (srcOf s 4).last + secT 2 ≤ td1 s then .next (srcLost 4 false s) else .next s

/-! The servo (R143, R144). -/

/-- A kick: the count of 250 ms restarts (R143). -/
def kick (s : State) : State := { s with tu := { s.tu with kickAt := td0 s, kickOn := true, kickFired := false } }

/-- One period of the servo firmware (R144): the queue drained, the rate written, the offset removed, the kick written.
`inc` is its estimate of the increment, `offset` the offset of TD1 in 1/65 536 ns, positive when TD1 is ahead. -/
def execServoPeriod (inc : Nat) (offset : Int) (s : State) : Res :=
  if !servoRuns s then .next s
  else
    let s := { s with tu := { s.tu with capQ := [] } }
    let s := if s.tu.active = 0 then s
      else
        let i := clampInc inc
        let s := setInc 1 i s
        let s := { s with tu := { s.tu with incMean := (s.tu.incMean.1 + i, s.tu.incMean.2 + 1) } }
        servoUpdate (offset * 2 ^ 24) s
    .next (kick s)

/-- What is learned in lock (R147): the ageing rate from the means of the TD1 increment, 1 000 s apart (DEDUCED, log entry
55); the health unit's temperature coefficient and frequency uncertainty are free values, since their learning is not
given. -/
def learnModel (m : Nat) (s : State) : State :=
  let d : Nat := match s.tu.lastMean with
    | some p => ((m : Int) - p).natAbs * 10 ^ 18 / 2 ^ 42
    | none => s.tu.ageing
  let (c, s) := freshNat s
  let (y, s) := freshNat s
  { s with tu := { s.tu with ageing := d, lastMean := some m, tempCo := c, yRes := y } }

/-- Every 1 000 s in lock TB_INC0 takes the mean TD1 base increment (R144). -/
def execInc0Learn (s : State) : Res :=
  if servoRuns s ∧ s.tu.d1.qst = .locked ∧ due s s.tu.learnAt (secT 1000) ∧ s.tu.incMean.2 ≠ 0 then
    let m := s.tu.incMean.1 / s.tu.incMean.2
    let s := if incOk 200 m then setInc 0 m s else s
    let s := learnModel m s
    .next { s with tu := { s.tu with learnAt := td0 s, incMean := (0, 0) } }
  else .next s

/-- 250 ms of TD0 pass without a kick, or from the instant protection first ran (R143). -/
def execServoKickExpiry (s : State) : Res :=
  if s.tu.kickOn ∧ !s.tu.kickFired ∧ (s.pw.phase = .running ∨ s.pw.phase = .configure) ∧ due s s.tu.kickAt (msT 250) then
    let s := fireDet 0x05 0 5 { s with tu := { s.tu with kickExpired := true, kickFired := true } }
    .next (if s.tu.d1.qst = .locked then setQual .glide s.tu.d1.cls false s else s)
  else .next s

/-- A slew's count runs out (R128): the ticks left of it pass and the domain returns to its base increment. -/
def execSlewEnd (domain : Nat) (s : State) : Res :=
  if 4 ≤ domain then .next s else .next (advance (dom s domain).slewLeft s)

/-- The predicted error in counter units (R147): the class bound at the last update, the residual frequency uncertainty
of at least 10 or 0.1 x 10^-9, ageing and temperature. `dTemp` is the change of oscillator temperature in mK. -/
def glideError (s : State) (dTemp : Nat) : Nat :=
  let t := td0 s - (srcOf s s.tu.active).lastUpd
  let t := if s.tu.active = 0 then td0 s - ((s.tu.src.map (·.lastUpd)).foldl max 0) else t
  let lock := (clsBound s.tu.lockCls).getD (msT 100)
  let y : Nat := max s.tu.yRes (if pv s 0x0A04 0 0 1 0 = 1 ∧ !s.pw.refLost then 1 else 100)
  let ns := nsAll t
  lock + t * y / 10000000000 + (s.tu.ageing * ns * ns / (2 * 10 ^ 30)) * 2 ^ 40 + t * (s.tu.tempCo * dTemp) / 10 ^ 15

/-- The predicted glide error passes a class bound (R147). -/
def execTimeClass (dTemp : Nat) (s : State) : Res :=
  if s.tu.d1.qst = .glide then
    let c := clsOf (glideError s dTemp)
    if c ≤ 7 then .next (setQual .glide c true s) else .next s
  else .next s

/-- The predicted error exceeds 100 ms: TD1 runs free, class 15 (R148). -/
def execGlideToFree (dTemp : Nat) (s : State) : Res :=
  if s.tu.d1.qst = .glide ∧ msT 100 < glideError s dTemp then .next (setQual .free 15 true s) else .next s

/-- A pending leap second takes effect at the end of the UTC day (R145). -/
def execUtcOffsetChange (s : State) : Res :=
  let o := sgn 16 s.tu.utcOffset
  let n := if s.tu.utcPending = 1 then o + 1 else o - 1
  if (s.tu.utcPending = 1 ∨ s.tu.utcPending = 2) ∧ ((secOf (td1 s) : Int) - n) % 86400 = 0 then
    .next (submit .time 0x100D (unsgn 32 n) { s with tu := { s.tu with utcOffset := unsgn 16 n, utcPending := 0 } })
  else .next s

/-! Reference, PPS_OUT, the grid. -/

/-- REF_IN is lost (R139, R628): the timing clock runs on from the TCXO. -/
def execRefInLost (s : State) : Res :=
  if pv s 0x0A04 0 0 1 0 = 1 ∧ !s.pw.refLost then
    .next (submit .hlt 0xD010 0 { s with pw := { s.pw with refLost := true } })
  else .next s

/-- REF_IN has been within specification for 10 s of TD0 (R628). -/
def execRefInRestored (s : State) : Res :=
  if s.pw.refLost then .next (submit .hlt 0xD011 0 { s with pw := { s.pw with refLost := false } }) else .next s

/-- PPS_OUT may run: class 2 or better, locked or in glide (R140). -/
def ppsOk (s : State) : Bool := (s.tu.d1.qst == .locked || s.tu.d1.qst == .glide) && decide (s.tu.d1.cls ≤ 2)

/-- PPS_OUT rises at a TD1 instant whose nanosecond field is 0 (R140). -/
def execPpsOutRise (s : State) : Res :=
  if nsOf (td1 s) < 4 ∧ ppsOk s ∧ s.pw.phase ≠ .off then
    .next { s with pads := { s.pads with ppsOut := true }, tu := { s.tu with ppsRoseAt := td0 s } }
  else .next s

/-- PPS_OUT falls when the width of PID 0x0A0D has elapsed, or when it may no longer run (R140). -/
def execPpsOutFall (s : State) : Res :=
  if s.pads.ppsOut ∧ (due s s.tu.ppsRoseAt (msT (pv s 0x0A0D 0 0 2 100)) ∨ !ppsOk s) then
    .next { s with pads := { s.pads with ppsOut := false } }
  else .next s

/-- The grid is aligned: event 0x1006 once for each SAMPLE_GRID_UNLOCK (R155). -/
def gridDone (s : State) : State :=
  let n := s.tu.gridUnlock
  let s := { s with tu := { s.tu with grid := .aligned, sgOffset := 0, gridLock := true, gridUnlock := 0 } }
  let s := if n = 0 then s else (List.range n).foldl (fun s _ => submit .time 0x1006 0 s) (clearDetAll 0x04 s)
  noteSync s

/-- The slewed offset has reached 0, or the loop's phase error is back within 1 us (R155). -/
def execGridAligned (s : State) : Res :=
  match s.tu.grid with
  | .slewing => if s.tu.sgOffset = 0 then .next (gridDone { s with tu := { s.tu with alignW := some s.acq.waves } }) else .next s
  | .unlocked => if injOn s 0x04 0 then .next s else .next (gridDone s)
  | _ => .next s

/-- The TD1 second and sample index of a grid slot at an instant (R18). -/
def slotOf (t : Nat) : Nat × Nat := (secOf t, nsOf t / 62500)

/-- A rotation step is void (R175): it is counted, and the spare returns to the reference bus. -/
def voidStep (s : State) : State :=
  let a := s.acq
  let s := { s with acq := { a with
    rotPhase := .disconnect, rotVoid := true, voidCnt := satInc 32 a.voidCnt, voidRun := a.voidRun + 1 } }
  submit .acq 0x2006 a.rotInput s

/-- In JUMP mode the grid re-phases at the next whole TD1 second (R154): the wave number and index jump to those of the
TD1 slot, 48 samples are marked SETTLE, a PARALLEL phase under way is void (R175), the recorder and the PMU mark the
discontinuity. The samples taken before the re-phase whose waves are not released yet are dropped (DESIGN CHOICE, log entry
56). -/
def execGridRephase (s : State) : Res :=
  if s.tu.grid = .jumpPending ∧ s.tu.rephaseAt ≤ td1 s then
    let (sec, k) := slotOf (td1 s)
    -- the next wave released carries the TD1 slot's own number
    let n := (sec * 16000 + k) % 2 ^ 32
    let prev := (n + 2 ^ 32 - 1) % 2 ^ 32
    let prevAt : Nat × Nat := if k = 0 then (sec - 1, 15999) else (sec, k - 1)
    let s := recFlags 0x0080#16 (recMark 3 (td1 s) (td1 s) s)
    let s := if s.acq.rotPhase = .parallel ∧ s.acq.rotState = 0 then voidStep s else s
    let s := { s with
      tu := { s.tu with slot := (sec * 16000 + k) - 1, alignW := some s.acq.waves }
      -- the slot of the last I/O release keeps the instant at which it occurred (R392)
      rio := { s.rio with relT1 := gridInstant s s.rio.relT1 }
      acq := { s.acq with
      wave := prev, waveAt := prevAt, ch := s.acq.ch.map (fun (c : Chan) => { c with settle := max c.settle 48 }) } }
    .next (gridDone s)
  else .next s

/-- The loop's phase error exceeds 1 us with no step to explain it (R155). -/
def execSampleLoopUnlock (s : State) : Res :=
  if s.tu.grid = .aligned ∧ s.pw.phase ≠ .off then
    let s := { s with tu := { s.tu with grid := .unlocked, gridUnlock := s.tu.gridUnlock + 1 } }
    .next (noteSync (fireDet 0x04 0 3 s))
  else .next s

/-- The standby servoes TD2 to the partner's TD1 (R127): the firmware's increment and slew, within 40 ppm. -/
def execTd2Servo (inc slew count : Nat) (s : State) : Res :=
  if !td2Follows s ∧ incOk 40 inc ∧ incOk 40 slew ∧ count < 2 ^ 32 then .next (startSlew 2 slew count (setInc 2 inc s))
  else .next s

/-! Commands and registers (R142, R643). -/

/-- The servo owner, then the domain, of TB_SET_INC and TB_SLEW (R643). -/
def incTarget (s : State) (n : Nat) : Status :=
  if n ≤ 1 ∧ servoInternal s then .badState else if n = 2 then .denied else if 4 ≤ n then .range else .ok

/-- TB_SET_INC. -/
def execTbSetInc (r : Req) (domain inc : Nat) (s : State) : Res :=
  .next (serve r 0x0051 s (fun s =>
    match incTarget s domain with
    | .ok => if incOk (incPpm domain) (inc % 2 ^ 48) then answer r 0x0051 .ok (setInc domain (inc % 2 ^ 48) s)
      else answer r 0x0051 .range s
    | st => answer r 0x0051 st s))

/-- TB_SLEW. TD0 has no slew. -/
def execTbSlew (r : Req) (domain inc count : Nat) (s : State) : Res :=
  .next (serve r 0x0052 s (fun s =>
    match incTarget s domain with
    | .ok => if domain ≠ 0 ∧ incOk (incPpm domain) (inc % 2 ^ 48) then
        answer r 0x0052 .ok (startSlew domain (inc % 2 ^ 48) (count % 2 ^ 32) s)
      else answer r 0x0052 .range s
    | st => answer r 0x0052 st s))

/-- The check of a step (R129, R643). -/
def stepStatus (s : State) (n : Nat) (off : Int) : Status :=
  if n ≤ 1 ∧ servoInternal s then .badState
  else if n ≠ 1 ∧ n ≠ 3 then .range
  else if stepOk s n off then .ok else .range

/-- TB_STEP: offset in ns and 1/65 536 ns. -/
def execTbStep (r : Req) (domain frac : Nat) (offset : Int) (s : State) : Res :=
  .next (serve r 0x0053 s (fun s =>
    let off := offset * 2 ^ 40 + (frac % 65536) * 2 ^ 24
    match stepStatus s domain off with
    | .ok => answer r 0x0053 .ok (applyStep domain off 2 s)
    | st => answer r 0x0053 st s))

/-- TB_READ (R131, R595): one-instant view, then captures in arrival order. -/
def execTbRead (r : Req) (wanted : Nat) (s : State) : Res :=
  .next (serve r 0x0050 s (fun s =>
    if 62 < wanted then answer r 0x0050 .range s
    else
      let s := latchAll s
      let one (n : Nat) : List Byte :=
        let d := dom s n
        stamp d.cap ++ leBytes 1 d.capQual ++ zeros 1 ++ leBytes 2 d.capEpoch
      let es := s.tu.capQ.take wanted
      respond r 0x0050 .ok false ((List.range 4).flatMap one ++ es.flatMap capBytes)
        { s with tu := { s.tu with capQ := s.tu.capQ.drop wanted } }))

/-- The domain number and register offset of a TB_ domain register. -/
def tbDom (a : Nat) : Nat × Nat := ((a - 0x10100) / 0x40, (a - 0x10100) % 0x40)

/-- Write access to the increment and slew registers of a domain (R643); `slew` names the TB_SLEW registers. TD0's slew
registers are read-only. -/
def domWrite (s : State) (n : Nat) (slew : Bool) : Status :=
  if n = 0 ∧ slew then .ok else if n ≤ 1 ∧ servoInternal s then .badState else if n = 2 then .denied else .ok

/-- TB_INCn_LO or TB_SLEWn_LO written: held until the HI word commits (R167). -/
def tbLo (n : Nat) (slew : Bool) (v : Nat) (s : State) : State × Status :=
  match domWrite s n slew with
  | .ok =>
    if slew then (if n = 0 then (s, .ok) else (updDom n (fun d => { d with slewLo := v }) s, .ok))
    else (updDom n (fun d => { d with incLo := v }) s, .ok)
  | st => (s, st)

/-- TB_INCn_HI or TB_SLEWn_HI written: commits all 48 bits, the low ones as the LO register holds them (R126, R167). A slew
increment committed while a slew runs is the running slew's rate from then on (DESIGN CHOICE, log entry 57: R128 does not
say whether a running slew keeps the rate it was started with). -/
def tbHi (n : Nat) (slew : Bool) (v : Nat) (s : State) : State × Status :=
  match domWrite s n slew with
  | .ok =>
    let lo := if slew then (dom s n).slewLo else (dom s n).incLo
    let inc := (v % 65536) * 2 ^ 32 + lo
    if n = 0 ∧ slew then (s, .ok)
    else if !incOk (incPpm n) inc then (s, .range)
    else if slew then (updDom n (fun d => { d with slew := inc, slewLo := inc % 2 ^ 32 }) s, .ok)
    else (setInc n inc s, .ok)
  | st => (s, st)

/-- TB_SLEWn_COUNT written: starts the slew, or ends it when 0 (R128). -/
def tbCount (n : Nat) (v : Nat) (s : State) : State × Status :=
  match domWrite s n true with
  | .ok => if n = 0 then (s, .ok) else (startSlew n (dom s n).slew v s, .ok)
  | st => (s, st)

/-- TB_STEP_CTL written (R129, R168, R643). -/
def tbStepCtl (v : Nat) (s : State) : State × Status :=
  let n := if v.testBit 1 then 3 else 1
  let frac := v / 65536
  let off := sgn 64 (s.tu.stepHi * 2 ^ 32 + s.tu.stepLo) * 2 ^ 40 + frac * 2 ^ 24
  let put (s : State) : State := { s with tu := { s.tu with stepFrac := frac, stepDom := b2n (v.testBit 1) } }
  if !v.testBit 0 then (put s, .ok)
  else match stepStatus s n off with
    | .ok => (applyStep n off 2 (put s), .ok)
    | st => (s, st)

/-- TB_QUALn written (R168): TD1 under HOST and TD3. A host that sets TD1 locked writes no TIME_LOCKED and no
TIME_SOURCE_RESTORED (DESIGN CHOICE, log entry 58: their value is a source, and a host names none). -/
def tbQual (n : Nat) (v : Nat) (s : State) : State × Status :=
  let q : TQState := match getFld v 4 2 with | 0 => .locked | 1 => .glide | 2 => .free | _ => .never
  let c := getFld v 0 4
  if n = 1 then
    if servoInternal s then (s, .badState)
    else
      let was := s.tu.d1.qst
      let s := setQual q c true s
      let s := if q = .locked then noteYear (saveIncs (clearDetAll 0x05 s)) else s
      (leaveNever was s, .ok)
  else if n = 3 then (updDom 3 (fun d => { d with qst := q, cls := c }) s, .ok)
  else (s, .ok)

/-- A write to a word of the TB_ block (R167, R168, R643). -/
def tbWrite (a v : Nat) (s : State) : State × Status :=
  if a = 0x10004 then
    (if v.testBit 20 then { s with tu := { s.tu with kickExpired := false } } else s, .ok)
  else if a = 0x10008 then (if v.testBit 0 then kick s else s, .ok)
  else if a = 0x1000C then (if v.testBit 0 then latchAll s else s, .ok)
  else if a = 0x10010 then
    if servoInternal s then (s, .badState)
    else ({ s with tu := { s.tu with
        utcValid := v.testBit 20, utcPending := getFld v 16 2, utcOffset := v % 65536 } }, .ok)
  else if a = 0x10020 then ({ s with tu := { s.tu with stepLo := v } }, .ok)
  else if a = 0x10024 then ({ s with tu := { s.tu with stepHi := v } }, .ok)
  else if a = 0x10028 then tbStepCtl v s
  else if 0x10100 ≤ a ∧ a < 0x10200 then
    let (n, o) := tbDom a
    match o with
    | 0x00 => tbLo n false v s
    | 0x04 => tbHi n false v s
    | 0x08 => tbLo n true v s
    | 0x0C => tbHi n true v s
    | 0x10 => tbCount n v s
    | 0x18 => tbQual n v s
    | _ => (s, .ok)
  else (s, .ok)

/-- A word of the TB_ block (R167, R168); none for an address that holds no register. A freed launch entry reads 0 for its
instant, period and CTL, keeps FIRED and LAST_NS, and arming clears both (DESIGN CHOICE, log entry 59: the rules say what
they hold of an armed entry only). -/
def tbRead (s : State) (a : Nat) : Option Nat :=
  if a = 0x10000 then
    some (fld 4 1 (pv s 0x0A05 0 0 1 0) + fld 3 1 (pv s 0x0A0A 0 0 1 1) + fld 2 1 (pv s 0x0A04 0 0 1 0) +
      fld 1 1 (pv s 0x0A02 0 0 1 0))
  else if a = 0x10004 then
    some (fld 20 1 (b2n s.tu.kickExpired) + fld 16 2 (maskOf 2 (fun p => s.tu.ptpRole.getD p 0 == 1)) +
      fld 8 4 (if s.tu.active = 0 then 0 else 2 ^ (s.tu.active - 1)) +
      fld 4 4 (maskOf 4 (fun i => (srcOf s (i + 1)).qualified)) + fld 0 4 (maskOf 4 (fun i => (srcOf s (i + 1)).present)))
  else if a = 0x10008 ∨ a = 0x1000C then some 0
  else if a = 0x10010 then
    some (fld 20 1 (b2n s.tu.utcValid) + fld 16 2 s.tu.utcPending + fld 0 16 s.tu.utcOffset)
  else if a = 0x10014 then
    let st := match s.tu.grid with | .aligned => 0 | .slewing => 1 | .jumpPending => 2 | .unlocked => 3
    some (fld 2 2 st + fld 1 1 (b2n (syncOk s)) + fld 0 1 (b2n (s.tu.gridLock && s.tu.grid != .unlocked)))
  else if a = 0x10018 then
    some (unsgn 32 (max (-2147483647) (min 2147483647 (s.tu.sgOffset / 2 ^ 40))))
  else if a = 0x1001C then some s.tu.tsDrop
  else if a = 0x10020 then some s.tu.stepLo
  else if a = 0x10024 then some s.tu.stepHi
  else if a = 0x10028 then some (fld 16 16 s.tu.stepFrac + fld 1 1 s.tu.stepDom)
  else if 0x10100 ≤ a ∧ a < 0x10200 then
    let (n, o) := tbDom a
    let d := dom s n
    match o with
    | 0x00 => some d.incLo
    | 0x04 => some (d.inc / 2 ^ 32 % 65536)
    | 0x08 => some (if n = 0 then 0 else d.slewLo)
    | 0x0C => some (if n = 0 then 0 else d.slew / 2 ^ 32 % 65536)
    | 0x10 => some (if n = 0 then 0 else d.slewCount)
    | 0x14 => some (if n = 0 then 0 else d.slewLeft)
    | 0x18 => some (fld 16 16 d.epoch + qualOf n d)
    | 0x1C => some (secOf d.cap % 2 ^ 32)
    | 0x20 => some (secOf d.cap / 2 ^ 32 % 65536)
    | 0x24 => some (nsOf d.cap)
    | 0x28 => some (d.cap / 2 ^ 24 % 65536)
    | _ => none
  else if 0x11000 ≤ a ∧ a < 0x11800 then
    let e := (a - 0x11000) / 0x20
    let x : LaunchEntry := (s.tu.launches.find? (fun (x : LaunchEntry) => x.num == e)).getD default
    let live := x.armed
    match (a - 0x11000) % 0x20 with
    | 0x00 => some (if live then x.next / 1000000000 % 2 ^ 32 else 0)
    | 0x04 => some (if live then x.next / 1000000000 / 2 ^ 32 % 65536 else 0)
    | 0x08 => some (if live then x.next % 1000000000 else 0)
    | 0x0C => some (if live then x.val.period % 2 ^ 32 else 0)
    | 0x10 => some (if live then x.val.period / 2 ^ 32 % 2 ^ 32 else 0)
    | 0x14 => some (if live then fld 30 2 x.owner.toNat + fld 28 2 1 + fld 24 4 x.val.action + fld 0 16 x.val.target else 0)
    | 0x18 => some x.fired
    | 0x1C => some x.lastNs
    | _ => none
  else none

/-- TB_SERVO_KICK written (R143). -/
def execTbServoKick (r : Req) (s : State) : Res := .next (serveWrite r s (tbWrite 0x10008 1))

/-- TB_CAPTURE written (R131). -/
def execTbCapture (r : Req) (s : State) : Res := .next (serveWrite r s (tbWrite 0x1000C 1))

/-- TB_STEP_CTL.GO written: the step that TB_STEP_LO, TB_STEP_HI, FRAC and DOMAIN hold (R129, R168). -/
def execTbStepGo (r : Req) (s : State) : Res :=
  .next (serveWrite r s (fun s => tbWrite 0x10028 (s.tu.stepFrac * 65536 + 2 * s.tu.stepDom + 1) s))

/-- TB_SLEWn_COUNT written (R128, R643). -/
def execTbSlewCountWrite (r : Req) (domain count : Nat) (s : State) : Res :=
  if 4 ≤ domain then .next (serveWrite r s (fun s => (s, .absent)))
  else .next (serveWrite r s (tbWrite (0x10110 + 0x40 * domain) (count % 2 ^ 32)))

/-- TB_INCn_HI or TB_SLEWn_HI written (R126, R643). -/
def execTbIncHiWrite (r : Req) (domain : Nat) (slew : Bool) (hi : Nat) (s : State) : Res :=
  if 4 ≤ domain then .next (serveWrite r s (fun s => (s, .absent)))
  else .next (serveWrite r s (tbWrite (0x10104 + 8 * b2n slew + 0x40 * domain) (hi % 2 ^ 32)))

/-- TB_SRC_STAT.KICK_EXPIRED cleared (R168). -/
def execKickExpiredClear (r : Req) (s : State) : Res := .next (serveWrite r s (tbWrite 0x10004 (2 ^ 20)))

/-- LAUNCH_ARM (R159, R160, R163). -/
def execLaunchArm (r : Req) (entry : Nat) (value : LaunchVal) (s : State) : Res :=
  .next (serve r 0x0054 s (fun s =>
    if pairRefuses s then answer r 0x0054 .badState s
    else
      let v := { value with instant := value.instant / 4 * 4, period := value.period / 4 * 4 }
      if s.pr.st = .twin then
        let st := armStatusAt s (namedT1 s) .command entry v
        if st ≠ .ok then answer r 0x0054 st s
        else answer r 0x0054 .ok (schedTwin 5 [entry, v.instant, v.period, v.action, v.target] s)
      else
        let (s, st) := armLaunch .command entry v s
        answer r 0x0054 st s))

/-- LAUNCH_CANCEL (R162). -/
def execLaunchCancel (r : Req) (entry : Nat) (s : State) : Res :=
  .next (serve r 0x0055 s (fun s =>
    if pairRefuses s then answer r 0x0055 .badState s
    else
      let (t, st) := cancelLaunch .command entry s
      if s.pr.st = .twin ∧ st = .ok ∧ cancelLate s entry = true then answer r 0x0055 .range s
      else if s.pr.st = .twin ∧ st = .ok then answer r 0x0055 .ok (schedTwin 6 [entry] s)
      else answer r 0x0055 st t))

/-- The block with no command waiting: one period of the 250 MHz timing clock, 4 ns, passes on its time domains while it has a
supply (R10, R125; DESIGN CHOICE, log entry 6). A management frame held back goes out when its ports have room (R27). -/
def idle (s : State) : State := if s.pw.phase = .off then s else mgmtPump (advance 1 s)

end Sys2Proof.Machine
end

