-- ==== Sys2Proof/Machine/FieldIo.lean ====
section
/-! DEFINITION. Field inputs and outputs: both sides of the field barrier (13). -/

namespace Sys2Proof.Machine

/-! Accessors. -/

/-- Input `n`. -/
def diOf (s : State) (n : Nat) : DigIn := s.fio.din.getD n default

/-- Input `n` changed. -/
def updDi (n : Nat) (f : DigIn → DigIn) (s : State) : State :=
  { s with fio := { s.fio with din := putAt 16 s.fio.din n (f (diOf s n)) } }

/-- Output `n`. -/
def doOf (s : State) (n : Nat) : DigOut := s.fio.dout.getD n default

/-- Output `n` changed. -/
def updDo (n : Nat) (f : DigOut → DigOut) (s : State) : State :=
  { s with fio := { s.fio with dout := putAt 8 s.fio.dout n (f (doOf s n)) } }

/-- The state of an input as the engine uses it: a frozen input keeps the state before the freeze (R423). -/
def diState (s : State) (n : Nat) : Bool := if (diOf s n).frozen then (diOf s n).frozenState else (diOf s n).state

/-- The validity of an input (R425): 0 good, 1 invalid, 3 questionable. Before any good frame it is invalid. -/
def diValidity (s : State) (n : Nat) : Nat :=
  let d := diOf s n
  if !s.fio.up || d.frozen || d.openW || d.overtemp then 1 else if d.overload then 3 else 0

/-- I word 0: states in bits 15:0, validity in bits 31:16 (R351). -/
def diWord (s : State) : Nat :=
  maskOf 16 (fun n => diState s n) + maskOf 16 (fun n => diValidity s n != 1) * 65536

/-- I word 0 takes a value from a TD1 instant on. -/
def noteDi (t1 : Nat) (s : State) : State :=
  let w := diWord s
  let same : Bool := match s.fio.diHist with | e :: _ => e.2 == w | [] => w == 0
  if same then s
  else { s with fio := { s.fio with diHist := ((t1, w) :: s.fio.diHist).take 512 }, le := { s.le with iw := smSet s.le.iw 0 w } }

/-- I word 0 as it held at a TD1 instant: the state at the last sample at or before it (R422). -/
def diAt (s : State) (t1 : Nat) : Nat :=
  match s.fio.diHist.find? (fun e => decide (e.1 ≤ t1)) with | some e => e.2 | none => 0

/-- An input's present state and validity reach the recorder's binary channels (R472 class 1). -/
def diRecord (n : Nat) (est gap : Bool) (t1 : Nat) (s : State) : State :=
  binSet 1 n (diState s n) (diValidity s n != 1) est gap t1 s

/-- Validity of an input may have changed. -/
def diRefresh (n : Nat) (s : State) : State := diRecord n false false (td1 s) (noteDi (td1 s) s)

/-! Configuration words (R414). -/

/-- The configuration word that the engine sends at index `i`. Word 20 has room for one overload time where PID 0x0551 has
one per output: it carries that of DO0 (DESIGN CHOICE, log entry 84). -/
def fieldCfgWord (s : State) (i : Nat) : Nat :=
  if i < 16 then pv s 0x0553 i 0 2 1000
  else match i with
    | 16 => maskOf 8 (fun n => pv s 0x0601 n 0 1 0 == 1) + 256 * maskOf 8 (fun n => doClass s n == 1)
    | 17 => maskOf 8 (fun n => (pv s 0x0551 n 0 1 0).testBit 0) + 256 * maskOf 8 (fun n => (pv s 0x0551 n 0 1 0).testBit 1)
    | 18 => maskOf 16 (fun n => pv s 0x0555 n 0 1 0 == 1)
    | 19 => maskOf 2 (fun g => pv s 0x0552 g 0 1 1 == 1) + 4 * maskOf 2 (fun g => pv s 0x0552 g 1 1 0 == 1)
    | 20 => pv s 0x0551 0 2 2 5
    | _ => 0

/-- The field side has adopted every word (R414). -/
def fieldConfigured (s : State) : Bool := decide (32 ≤ s.fio.cfgDone.length)

/-- The field side receives a word: adopted once it has come at the same index in two consecutive rotations. -/
def fieldAdopt (i v : Nat) (s : State) : State :=
  let seen := (s.fio.cfgSeen.find? (fun e => e.1 == i)).map (·.2)
  let s := { s with fio := { s.fio with cfgSeen := (i, v) :: s.fio.cfgSeen.filter (fun e => e.1 != i) } }
  if seen = some v then
    { s with fio := { s.fio with
        cfg := smSet s.fio.cfg i v
        cfgDone := if s.fio.cfgDone.contains i then s.fio.cfgDone else i :: s.fio.cfgDone } }
  else s

/-! Outputs at the field side. -/

/-- The group of an output. -/
def doGroup (n : Nat) : Nat := n / 4

/-- The configuration word that the field side uses: its default, 0, until every word has been adopted (R414). -/
def fsCfg (s : State) (i : Nat) : Nat := if fieldConfigured s then smGet s.fio.cfg i else 0

/-- An output is trip-class in the words the field side uses. -/
def fsTrip (s : State) (n : Nat) : Bool := (fsCfg s 16).testBit (8 + n)

/-- Whether the switch of output `n` is on (R417, R429, R431, R433, R58). In SAFE it takes its safe value, but not before the
first frame that releases outputs (R45, R56). -/
def drives (s : State) (n : Nat) : Bool :=
  let x := doOf s n
  if !s.pw.convertersOn || x.shut || s.fio.lockout.getLsbD (doGroup n) || (x.inhibit && !fsTrip s n) then false
  else if s.fio.fsSafe then s.fio.fsRel && (fsCfg s 16).testBit n && !fsTrip s n
  else x.cmd && (fsTrip s n || s.fio.fsBind)

/-- Every switch brought to what drives it. -/
def driveAll (s : State) : State :=
  { s with fio := { s.fio with dout := (List.range 8).map (fun n => { doOf s n with driven := drives s n }) } }

/-! Downstream frames. -/

/-- An action 1 launch may switch: not forced, its owner runs (R163), and has completed its first cycle (R89). -/
def launchActs (s : State) (n : Nat) : Bool :=
  (forced s (pointCode 0 1 (65536 + n))).isNone &&
  (pv s 0x0550 n 1 1 0 != 1 || (s.le.mode == .run && releasedWord s 0))

/-- The commanded level of a binding-governed output that the logic engine does not own: a launch sets it, a force of its Q
bit replaces it (R374, R429), and out of service it is the safe value (R119). -/
def switchLevel (s : State) (n : Nat) : Bool :=
  if outOfService s then pv s 0x0601 n 0 1 0 == 1 else (forceWord s 1 0 s.fio.swCmd.toNat).testBit n

/-- The level of an output in the mailbox (R413, R429, R309). -/
def mailbox (s : State) (n : Nat) : Bool :=
  match doClass s n with
  | 1 => s.fio.tripCmd.getLsbD n && !s.pr.tripOff
  | 2 => if pv s 0x0550 n 1 1 0 = 1 then (outQ s 0).testBit n else switchLevel s n
  | _ => false

/-- The start of the present frame: the last 8 us multiple of the grid (R24, R411). -/
def frameStart (s : State) : Nat := td1 s - gridT1 s % usT 8

/-- The launches that a frame starting now can carry: offsets 24 to 63 in units of 0.25 us (R412, R430). -/
def frameLaunches (s : State) : List (LaunchEntry × FieldLaunch) :=
  (s.tu.launches.filter (fun (e : LaunchEntry) => e.armed && e.val.action == 1 && !e.handed)).filterMap (fun e =>
    let n := e.val.target % 256
    let inst := e.next * 2 ^ 40
    if inst < frameStart s then none
    else
      let off := (inst - frameStart s) / (250 * 2 ^ 40) - s.fio.gateDelay
      if 24 ≤ off ∧ off ≤ 63 then some (e, ⟨n, e.val.target.testBit 8, off⟩) else none)

/-- Of the launches for one output the frame, which has one LAUNCH entry for it, carries the earliest; of those at one
offset the highest-numbered level stands (R162, R412). -/
def carried (ls : List (LaunchEntry × FieldLaunch)) : List (LaunchEntry × FieldLaunch) :=
  ls.filter (fun x => !(ls.any (fun y => y.2.dout == x.2.dout &&
    (decide (y.2.offset < x.2.offset) || (y.2.offset == x.2.offset && decide (x.1.num < y.1.num))))))

/-- The level that a launch handed to the field side gives an output until its entry fires: it is the output's DO_CMD bit
(R161, R430). The entry with the latest instant, then the highest number, stands (R162). -/
def handedLevel (s : State) (n : Nat) : Option Bool :=
  ((s.tu.launches.foldl (fun (o : Option LaunchEntry) e =>
    if e.armed && e.handed && e.val.action == 1 && e.val.target % 256 == n && launchActs s n then
      (match o with
      | some f => if f.next ≤ e.next then some e else o
      | none => some e)
    else o) none)).map (fun e => e.val.target.testBit 8)

/-- The barrier is restored at a frame start (R419): event, RELEASE, DI validity, GAP changes. -/
def fieldRestore (s : State) : State :=
  if !s.fio.restorePend then s
  else
    let t := td1 s
    let s := refreshPads { s with fio := { s.fio with restorePend := false, up := true } }
    let s := submit .field 0x6011 0 (clearDet 0x0D 0 s)
    let s := noteDi t s
    (List.range 16).foldl (fun s n =>
      let d := diOf s n
      let s := diRecord n false true t s
      if diState s n != d.preLoss && !d.frozen then
        let ev := pv s 0x0555 n 1 1 3
        let s := if (ev.testBit 0 && d.state) || (ev.testBit 1 && !d.state) then
            submit .field 0x6001 (n + 256 * b2n d.state + 512) s else s
        raiseTrig 1 n (if d.state then 1 else 2) t (td0 s) s
      else s) s

/-- A downstream field frame starts (R411 to R414, R430): restoration, the mailbox, the launches it carries, a
configuration word. A launch handed to the field side, and any other of the same output and offset, is committed (R162).
After the frame in which a handover gave it up, BIND_OUT drops (R546). -/
def fieldFrameStart (s : State) : State :=
  if !s.pw.convertersOn then s
  else
    let s := fieldRestore s
    let ls := frameLaunches s
    let go := carried ls
    let both := ls.filter (fun x => go.any (fun y => y.2.dout == x.2.dout && y.2.offset == x.2.offset))
    let s := both.foldl (fun s x => updLaunch x.1.num (fun e => { e with handed := true }) s) s
    let act := (go.map (·.2)).filter (fun l => launchActs s l.dout)
    let logic := maskOf 8 (fun n => doClass s n == 2 && mailbox s n)
    let cmd := maskOf 8 (fun n => (handedLevel s n).getD (mailbox s n))
    { s with
      fio := { s.fio with
        frameIdx := gridT1 s / usT 8, seq := (s.fio.seq + 1) % 256, sentCmd := BitVec.ofNat 8 cmd, logicCmd := BitVec.ofNat 8 logic
        released := (running s || s.fio.fsRel) && s.fio.up, bindEn := s.pads.bindOut, sentLaunch := act
        owTest := (List.range 8).any (fun n => (pv s 0x0551 n 0 1 0).testBit 1)
        cfgData := fieldCfgWord s s.fio.cfgIdx, cfgIdx := (s.fio.cfgIdx + 1) % 32 }
      pads := if s.pr.bindDrop then { s.pads with bindOut := false } else s.pads
      pr := { s.pr with bindDrop := false } }

/-- FIELD_FRAME_START: at each 8 us multiple of the grid (R24, R156). -/
def execFieldFrameStart (s : State) : Res :=
  if atMultiple 8 s.fio.frameIdx s then .next (fieldFrameStart s) else .next s

/-- The field side finds the frame bad or missing (R416, R417): after three in succession it enters SAFE on its own. -/
def fieldDownMissing (s : State) : State :=
  let n := s.fio.fsBad + 1
  let s := { s with fio := { s.fio with
    fsBad := n, fsGood := 0, fsDownErr := true, fsSafe := s.fio.fsSafe || decide (3 ≤ n)
    fsLaunch := if 3 ≤ n then [] else s.fio.fsLaunch } }
  driveAll s

/-- FIELD_DOWNSTREAM_MISSING. -/
def execFieldDownstreamMissing (s : State) : Res := .next (fieldDownMissing s)

/-- The field side receives the frame last sent (R412, R414, R417, R419, R430, R433). -/
def fieldDownRx (s : State) : State :=
  let i := (s.fio.cfgIdx + 31) % 32
  let s := fieldAdopt i s.fio.cfgData s
  let good := s.fio.fsGood + 1
  let safe := !s.fio.released || (s.fio.fsSafe && decide (good < 2))
  let s := { s with fio := { s.fio with
    fsBad := 0, fsGood := good, fsSeq := s.fio.seq, fsDownErr := false, fsSafe := safe, fsBind := s.fio.bindEn
    fsRel := s.fio.fsRel || s.fio.released } }
  if safe then driveAll { s with fio := { s.fio with fsLaunch := [] } }
  else
    let old := s.fio.fsLaunch.filterMap (fun l => if 32 ≤ l.offset then some { l with offset := l.offset - 32 } else none)
    let kept := old.filter (fun l => !(s.fio.sentLaunch.any (·.dout == l.dout)))
    let ls := kept ++ s.fio.sentLaunch
    let s := { s with fio := { s.fio with fsLaunch := ls } }
    let s := (List.range 8).foldl (fun s n =>
      let c := s.fio.sentCmd.getLsbD n
      if ls.any (·.dout == n) then s
      else updDo n (fun x => { x with cmd := c, inhibit := x.inhibit && c, shut := x.shut && c }) s) s
    driveAll s

/-- FIELD_DOWNSTREAM_RX; an injection of FIO_BARRIER_CRC corrupts the frame. -/
def execFieldDownstreamRx (s : State) : Res :=
  if !s.pw.convertersOn then .next s
  else if injOn s 0x0D 0 then .next (fieldDownMissing s) else .next (fieldDownRx s)

/-- A pending launch reaches its offset and the output switches (R430). -/
def execDoLaunchSwitch (dout : Nat) (s : State) : Res :=
  match s.fio.fsLaunch.find? (·.dout == dout) with
  | some l =>
    let s := { s with fio := { s.fio with fsLaunch := s.fio.fsLaunch.filter (·.dout != dout) } }
    .next (driveAll (updDo dout (fun x => { x with cmd := l.level }) s))
  | none => .next s

/-! Upstream frames. -/

/-- One change of an input within a frame: input, new state, ESTIMATED, TD1 instants of the filtered change and of the
stamp. -/
structure DiEdge where
  input : Nat
  state : Bool
  est : Bool
  at1 : Nat
  stamp : Nat
  deriving DecidableEq, Repr

/-- The changes of one input that a frame reports (R415, R421). -/
def diEdges (s : State) (di chg1 chg2 chg3 first last : Nat) (n : Nat) : List DiEdge :=
  let f := frameStart s
  let k := b2n (chg1.testBit n) + b2n (chg2.testBit n) + b2n (chg3.testBit n)
  let a := getFld first (3 * n) 3
  let b := getFld last (3 * n) 3
  let fin := di.testBit n
  let mk (ofs : Nat) (st est : Bool) : DiEdge :=
    let at1 := f + usT ofs - usT 8
    let back := nsT (1000 * (pv s 0x0553 n 0 2 1000 + 2) + 500 + s.fio.diDelay)
    ⟨n, st, est, at1, at1 - back⟩
  match k with
  | 0 => []
  | 1 => [mk a fin false]
  | 2 => [mk a (!fin) false, mk b fin false]
  | _ => [mk a fin false, mk ((a + b) / 2) (!fin) true, mk b fin false]

/-- Edges in order of their stamps, then by ascending input (R435). -/
def putEdgeBy (e : DiEdge) : List DiEdge → List DiEdge
  | [] => [e]
  | x :: xs => if e.stamp < x.stamp ∨ (e.stamp = x.stamp ∧ e.input < x.input) then e :: x :: xs else x :: putEdgeBy e xs

/-- The TD0 time of a TD1 stamp in the near past. -/
def t0Of (s : State) (t1 : Nat) : Nat := td0 s - (td1 s - t1) * s.tu.d0.inc / (max 1 s.tu.d1.inc)

/-- Whether the image asks for an event of a change (PID 0x0555). -/
def diEventOn (s : State) (n : Nat) (st : Bool) : Bool :=
  let e := pv s 0x0555 n 1 1 3
  if st then e.testBit 0 else e.testBit 1

/-- The time of a domain at a TD1 stamp in the near past. -/
def domAt (s : State) (d : Domain) (t1 : Nat) : Nat := d.t - (td1 s - t1) * d.inc / (max 1 s.tu.d1.inc)

/-- A filtered change is taken (R421, R423): stamped in all four domains (R132), counted, judged for chatter, reported. -/
def takeEdge (s : State) (e : DiEdge) : State :=
  let n := e.input
  let t23 := (domAt s s.tu.d2 e.stamp, domAt s s.tu.d3 e.stamp)
  let t0 := t0Of s e.stamp
  let before := diState s n
  let nMax := pv s 0x0554 n 0 1 0
  let win := msT (pv s 0x0554 n 2 2 1000)
  let now := t0Of s e.at1
  let s := updDi n (fun d => { d with
    edges := satInc 32 d.edges, changes := (now :: d.changes.filter (fun c => decide (now < c + win))).take 256
    lastChange := now, lastStamp := e.stamp, lastStamp23 := t23, state := e.state
    onSince := if e.state then now else d.onSince, maxOnDone := false }) s
  let d := diOf s n
  if d.frozen then s
  else if nMax ≠ 0 ∧ nMax < d.changes.length then
    let s := updDi n (fun d => { d with frozen := true, frozenState := before }) s
    let s := noteDi e.at1 (fireDet 0x26 n n s)
    diRecord n false false e.stamp s
  else
    let s := noteDi e.at1 s
    let s := diRecord n e.est false e.stamp s
    let s := if diEventOn s n e.state then
        emit .field { engineEvent s 0x6001 (n + 256 * b2n e.state + 1024 * b2n e.est) with t0 := t0, t1 := e.stamp } s
      else s
    raiseTrig 1 n (if e.state then 1 else 2) e.stamp t0 s

/-- The field barrier is lost (R418). -/
def fieldLost (cause : Nat) (s : State) : State :=
  if detOn s 0x0D 0 then s
  else
    let s := (List.range 16).foldl (fun s n => updDi n (fun d => { d with preLoss := diState s n }) s) s
    let s := { s with fio := { s.fio with up := false, released := false, goodRun := 0, restorePend := false } }
    let s := noteDi (s.fio.lastSample + 1) s
    let s := (List.range 16).foldl (fun s n => diRecord n false false (td1 s) s) s
    refreshPads (fireDet 0x0D 0 cause s)

/-- The header of an upstream field frame: status bits, counters and output levels (R415, R416, R419). The first good frame
brings the barrier up, unless its loss is in force: then it is restored as R419 says. -/
def fieldUpHead (level : Nat) (temp : Int) (s : State) : State :=
  let safe := s.fio.fsSafe
  let conf := fieldConfigured s
  let jump : Bool := match s.fio.upSeq with | some p => (p + 1) % 256 != s.fio.fsSeq | none => false
  let rising := safe && !s.fio.safeRep
  let wasEver := s.fio.everUp
  let s := { s with fio := { s.fio with
    everUp := true, up := s.fio.up || (!wasEver && !detOn s 0x0D 0), badRun := 0, upSeq := some s.fio.fsSeq, lastSample := frameStart s - usT 1
    seqErr := if jump then satInc 32 s.fio.seqErr else s.fio.seqErr
    downErr := if s.fio.fsDownErr then satInc 32 s.fio.downErr else s.fio.downErr
    safeRep := safe, configured := conf, temp := temp
    safeCnt := if rising then satInc 32 s.fio.safeCnt else s.fio.safeCnt
    goodRun := if conf then s.fio.goodRun + 1 else 0
    dout := (List.range 8).map (fun n => { doOf s n with level := level.testBit n }) } }
  if rising && wasEver && s.fio.up then fieldLost 2 s else s

/-- DI states taken over without any report. -/
def takeStates (di : Nat) (s : State) : State :=
  (List.range 16).foldl (fun s n => updDi n (fun d => { d with state := di.testBit n }) s) s

/-- A change that no frame reported is known only by its state: it is recorded as a gap (R421). -/
def unreported (f di : Nat) (s : State) (n : Nat) : State :=
  if (diOf s n).state == di.testBit n then s
  else
    let st := di.testBit n
    let s := updDi n (fun d => { d with state := st, lastChange := td0 s, lastStamp := f }) s
    if (diOf s n).frozen then s
    else
      let s := diRecord n false true f (noteDi (f - usT 1) s)
      let s := if diEventOn s n st then submit .field 0x6001 (n + 256 * b2n st + 512) s else s
      raiseTrig 1 n (if st then 1 else 2) f (td0 s) s

/-- An upstream field frame arrives good (R415, R416, R418, R419, R421). -/
def fieldUpRx (di chg1 chg2 chg3 first last level : Nat) (temp : Int) (s : State) : State :=
  let wasEver := s.fio.everUp
  let f := frameStart s
  let s := fieldUpHead level temp s
  let s := if !wasEver then
      -- the first frame tells the present states; nothing was reported before it
      (List.range 16).foldl (fun s n => diRecord n false false (td1 s) s) (noteDi (f - usT 1) (takeStates di s))
    else if s.fio.up then
      let es := (List.range 16).flatMap (diEdges s di chg1 chg2 chg3 first last)
      let s := (es.foldl (fun l e => putEdgeBy e l) []).foldl takeEdge s
      (List.range 16).foldl (unreported f di) s
    else takeStates di s
  if !s.fio.up && decide (16 ≤ s.fio.goodRun) then { s with fio := { s.fio with restorePend := true } } else s

/-- FIELD_UPSTREAM_RX. -/
def execFieldUpstreamRx (di chg1 chg2 chg3 first last level : Nat) (temp : Int) (s : State) : Res :=
  if s.pw.convertersOn then .next (fieldUpRx di chg1 chg2 chg3 first last level temp s) else .next s

/-- An upstream frame is bad or missing (R416, R418). -/
def execFieldUpstreamMissing (s : State) : Res :=
  if !s.pw.convertersOn then .next s
  else
    let n := s.fio.badRun + 1
    let s := { s with fio := { s.fio with upErr := satInc 32 s.fio.upErr, badRun := n, goodRun := 0, restorePend := false } }
    .next (if s.fio.everUp ∧ 3 ≤ n then fieldLost 1 s else s)

/-- No good field frame within 5 ms of start: cause 3, self-test 8 (R75, R418). -/
def execFieldSelftestTimeout (s : State) : Res :=
  if !s.fio.everUp ∧ s.pw.convertersOn then
    .next (submit .boot 0x0102 8 { fieldLost 3 s with boot := { s.boot with failedTests := 8 :: s.boot.failedTests } })
  else .next s

/-- An input has been quiet for Q (R423): it takes its present state and becomes valid. -/
def execDiChatterCleared (input : Nat) (s : State) : Res :=
  let d := diOf s input
  if input < 16 ∧ d.frozen ∧ !injOn s 0x26 input ∧ due s d.lastChange (msT (pv s 0x0554 input 4 2 5000)) then
    let s := updDi input (fun d => { d with frozen := false, changes := [] }) s
    let s := submit .field 0x6003 input (clearDet 0x26 input s)
    let s := diRefresh input s
    if d.state != d.frozenState then
      let t0 := t0Of s d.lastStamp
      let s := if diEventOn s input d.state then
          emit .field { engineEvent s 0x6001 (input + 256 * b2n d.state) with t0 := t0, t1 := d.lastStamp } s else s
      .next (raiseTrig 1 input (if d.state then 1 else 2) d.lastStamp t0 s)
    else .next s
  else .next s

/-- An input has been on for longer than its maximum-on time (R424). -/
def execDiMaxOn (input : Nat) (s : State) : Res :=
  let d := diOf s input
  let m := pv s 0x0555 input 2 2 0
  if input < 16 ∧ m ≠ 0 ∧ d.state ∧ !d.maxOnDone ∧ due s d.onSince (secT m) then
    .next (submit .field 0x6004 input (updDi input (fun d => { d with maxOnDone := true }) s))
  else .next s

/-! Diagnostics (R426, R431 to R433). -/

/-- An output is marked paired (PID 0x0550). -/
def doPaired (s : State) (n : Nat) : Bool := pv s 0x0550 n 2 1 0 == 1

/-- An output stays in current limit longer than its overload time. -/
def execFioDoOverload (dout : Nat) (s : State) : Res :=
  if dout < 8 ∧ (doOf s dout).driven ∧ !(doOf s dout).overload then
    .next (fireDet 0x0E dout dout (updDo dout (fun x => { x with overload := true }) s))
  else .next s

/-- Thermal shutdown: off, counted, retried while the command stays on. -/
def execFioDoOvertemp (dout : Nat) (s : State) : Res :=
  if dout < 8 ∧ (doOf s dout).driven then
    let s := updDo dout (fun x => { x with
      shut := true, shutAt := td0 s, overtemp := true, tsd := satInc 32 x.tsd, tsdLife := satInc 32 x.tsdLife }) s
    .next (fireDet 0x10 dout dout (driveAll s))
  else .next s

/-- 100 ms after thermal shutdown the output retries while its command stays on. -/
def execDoThermalRetry (dout : Nat) (s : State) : Res :=
  let x := doOf s dout
  if dout < 8 ∧ x.shut ∧ due s x.shutAt (msT 100) then .next (driveAll (updDo dout (fun x => { x with shut := false }) s))
  else .next s

/-- Open-wire supervision of an output applies now: enabled for its state, its supply not low, not off while paired. -/
def owSupervised (s : State) (n : Nat) : Bool :=
  let x := doOf s n
  let en := fsCfg s 17
  !s.fio.low.getLsbD (doGroup n) &&
  (if x.driven then en.testBit n else en.testBit (8 + n) && !doPaired s n)

/-- An output's open-wire condition has lasted 100 ms. -/
def execFioDoOpenWire (dout : Nat) (s : State) : Res :=
  if dout < 8 ∧ owSupervised s dout ∧ !(doOf s dout).openW then
    .next (fireDet 0x0F dout (16 * b2n (doOf s dout).driven + dout) (updDo dout (fun x => { x with openW := true }) s))
  else .next s

/-- An off output's pad has been above 10 V for 1 ms; not evaluated while a paired output is off. -/
def execFioDoExtVoltage (dout : Nat) (s : State) : Res :=
  if dout < 8 ∧ !(doOf s dout).driven ∧ !doPaired s dout ∧ !(doOf s dout).extv then
    .next (fireDet 0x15 dout dout (updDo dout (fun x => { x with extv := true }) s))
  else .next s

/-- An input's off-state current has been below the threshold for 100 ms, with supervision on. -/
def execFioDiOpenWire (input : Nat) (s : State) : Res :=
  if input < 16 ∧ (fsCfg s 18).testBit input ∧ !(diOf s input).state ∧ !(diOf s input).openW then
    .next (diRefresh input (fireDet 0x11 input input (updDi input (fun d => { d with openW := true }) s)))
  else .next s

/-- An input exceeds its overload threshold. -/
def execFioDiOverload (input : Nat) (s : State) : Res :=
  if input < 16 ∧ !(diOf s input).overload then
    .next (diRefresh input (fireDet 0x12 input input (updDi input (fun d => { d with overload := true }) s)))
  else .next s

/-- An input's limiter exceeds 150 degC. -/
def execFioDiOvertemp (input : Nat) (s : State) : Res :=
  if input < 16 ∧ !(diOf s input).overtemp then
    .next (diRefresh input (fireDet 0x13 input input (updDi input (fun d => { d with overtemp := true }) s)))
  else .next s

/-- A diagnostic flag taken down. -/
def clearFieldFlag (det n : Nat) (s : State) : State :=
  match det with
  | 0x0E => updDo n (fun x => { x with overload := false }) s
  | 0x0F => updDo n (fun x => { x with openW := false }) s
  | 0x10 => updDo n (fun x => { x with overtemp := false }) s
  | 0x11 => updDi n (fun d => { d with openW := false }) s
  | 0x12 => updDi n (fun d => { d with overload := false }) s
  | 0x13 => updDi n (fun d => { d with overtemp := false }) s
  | 0x15 => updDo n (fun x => { x with extv := false }) s
  | _ => s

/-- A field diagnostic's condition has been absent for 100 ms (R426, R431). -/
def execFioDiagCleared (det chan : Nat) (s : State) : Res :=
  if [0x0E, 0x0F, 0x10, 0x11, 0x12, 0x13, 0x15].contains det ∧ detOn s det chan ∧ !injOn s det chan then
    let s := clearFieldFlag det chan s
    let s := if 0x11 ≤ det ∧ det ≤ 0x13 then diRefresh chan s else s
    .next (submit .field 0x601A (256 * det + chan) (clearDet det chan s))
  else .next s

/-- A group's supply falls below 18.0 V (level 1), or below 12.0 V with hardware lock-out (level 2) (R68, R433). -/
def execFioSupplyLow (group level : Nat) (s : State) : Res :=
  if 2 ≤ group ∨ pv s 0x0552 group 0 1 1 ≠ 1 then .next s
  else if level = 1 ∧ !s.fio.low.getLsbD group then
    .next (fireDet 0x14 group (16 + group) { s with fio := { s.fio with low := setB s.fio.low group true } })
  else if level = 2 ∧ !s.fio.lockout.getLsbD group then
    let s := { s with fio := { s.fio with low := setB s.fio.low group true, lockout := setB s.fio.lockout group true } }
    .next (fireDet 0x14 group (32 + group) (driveAll s))
  else .next s

/-- FLS has stayed above 16.0 V for 1 ms, and the lock-out ends; `full`: it rises above 18.5 V and the supply clears
(R433). A binding-governed output under restart-inhibit waits for its command to read off. -/
def execFioSupplyRestored (group : Nat) (full : Bool) (s : State) : Res :=
  if 2 ≤ group then .next s
  else
    let s := if s.fio.lockout.getLsbD group then
        let inh := pv s 0x0552 group 1 1 0 = 1
        let s := { s with fio := { s.fio with lockout := setB s.fio.lockout group false } }
        let s := (List.range 8).foldl (fun s n =>
          if doGroup n = group ∧ inh ∧ !fsTrip s n then updDo n (fun x => { x with inhibit := true }) s else s) s
        driveAll s
      else s
    if full ∧ s.fio.low.getLsbD group ∧ !injOn s 0x14 group then
      let s := { s with fio := { s.fio with low := setB s.fio.low group false } }
      .next (submit .field 0x601B group (clearDet 0x14 group s))
    else .next s

/-- A word of the FIO_ block (R436, R437). -/
def fioRead (s : State) (a : Nat) : Option Nat :=
  let di (p : DigIn → Bool) : Nat := maskOf 16 (fun n => p (diOf s n))
  let dq (p : DigOut → Bool) : Nat := maskOf 8 (fun n => p (doOf s n))
  if a = 0x50000 then
    some (maskOf 8 (fun n => pv s 0x0550 n 1 1 0 == 1) * 2 ^ 24 + maskOf 8 (fun n => doPaired s n) * 2 ^ 16 +
      maskOf 8 (fun n => doClass s n == 2) * 2 ^ 8 + maskOf 8 (fun n => doClass s n == 1))
  else if a = 0x50004 then
    some (maskOf 16 (fun n => diValidity s n != 1) * 65536 + maskOf 16 (fun n => diState s n))
  else if a = 0x50008 then some (di (·.overload) * 65536 + di (·.openW))
  else if a = 0x5000C then some (di (·.frozen) * 65536 + di (·.overtemp))
  else if a = 0x50010 then some (dq (·.level) * 65536 + dq (·.driven) * 256 + s.fio.sentCmd.toNat)
  else if a = 0x50014 then some (dq (·.extv) * 2 ^ 24 + dq (·.overtemp) * 65536 + dq (·.openW) * 256 + dq (·.overload))
  else if a = 0x50018 then
    some (fld 4 2 (maskOf 2 (fun g => (List.range 8).any (fun n => doGroup n == g && (doOf s n).inhibit))) +
      fld 2 2 s.fio.lockout.toNat + fld 0 2 s.fio.low.toNat)
  else if a = 0x5001C then
    some (fld 8 8 (unsgn 8 s.fio.temp) + fld 3 1 (b2n s.fio.configured) + fld 2 1 (b2n s.fio.released) +
      fld 1 1 (b2n s.fio.safeRep) + fld 0 1 (b2n s.fio.up))
  else if a = 0x50020 then some s.fio.upErr
  else if a = 0x50024 then some s.fio.downErr
  else if a = 0x50028 then some s.fio.safeCnt
  else if a = 0x5002C then some s.fio.seqErr
  else if 0x50100 ≤ a ∧ a < 0x50120 then some (doOf s ((a - 0x50100) / 4)).tsd
  else if 0x50140 ≤ a ∧ a < 0x50180 then some (diOf s ((a - 0x50140) / 4)).edges
  else none

end Sys2Proof.Machine
end

