-- ==== Sys2Proof/Machine/LogicVm.lean ====
section
/-! DEFINITION. The logic engine's operand spaces and instructions (R347 to R361). -/

namespace Sys2Proof.Machine

/-! The engine's clock, retention and tasks. -/

/-- The logic run clock now: it counts TD0 only in RUN (R358). -/
def runClkNow (s : State) : Nat :=
  if s.le.mode = .run then s.le.runClk + nsAll (td0 s - s.le.clkAt) else s.le.runClk

/-- The run clock brought up to date. -/
def syncClk (s : State) : State := { s with le := { s.le with runClk := runClkNow s, clkAt := td0 s } }

/-- Retained state has changed and is not yet mirrored (R377, R378). -/
def markDirty (s : State) : State :=
  { s with le := { s.le with dirtySince := some (s.le.dirtySince.getD (td0 s)) } }

/-- Task `n`. -/
def taskOf (s : State) (n : Nat) : Option Task := s.le.tasks.find? (fun (t : Task) => t.num == n)

/-- A task's record replaced. -/
def putTask (t : Task) (s : State) : State :=
  { s with le := { s.le with tasks := updFirst (fun (x : Task) => x.num == t.num) (fun _ => t) s.le.tasks } }

/-- The running task. -/
def runningTask (s : State) : Option Task := s.le.tasks.find? (fun (t : Task) => t.st == .running)

/-- The configuration of a task in the section in service. -/
def taskCfg (s : State) (n : Nat) : Option TaskCfg :=
  match s.le.sec with | some sec => sec.tasks.find? (fun (t : TaskCfg) => t.task == n) | none => none

/-! The operand spaces (R349 to R352). -/

/-- S word `k` for a task (R352). -/
def sWord (s : State) (t : Task) (k : Nat) : Nat :=
  match k with
  | 0 => fld 0 5 t.num + fld 8 1 (b2n t.first) + fld 9 1 (b2n t.ov) + fld 10 1 (b2n (s.pr.active || s.pr.st == .solo)) +
      fld 11 1 (b2n (s.pr.st == .twin)) + fld 12 1 (b2n (!s.le.forces.isEmpty))
  | 1 => secOf t.relT1 % 2 ^ 32
  | 2 => nsOf t.relT1
  | 3 => t.pWave
  | 4 => t.trig
  | 5 => t.tq
  | 6 => s.img.group
  | 7 => t.clk / 1000 % 2 ^ 32
  | 8 => t.clk / 1000 / 2 ^ 32 % 2 ^ 32
  | 9 => s.le.trigQ.length
  | _ => 0

/-- Timer `n`. -/
def timerOf (s : State) (n : Nat) : Option Timer := s.le.timers.find? (fun (x : Timer) => x.n == n)

/-- Counter `n`. -/
def counterOf (s : State) (n : Nat) : Option Counter := s.le.counters.find? (fun (x : Counter) => x.n == n)

/-- Edge memory `n`. -/
def edgeOf (s : State) (n : Nat) : EdgeMem := (s.le.edges.find? (fun (x : EdgeMem) => x.n == n)).getD ⟨n, 0, false, false⟩

/-- A counter's output (R359). -/
def counterOut (c : Counter) : Bool := decide (c.preset ≤ c.count)

/-- Word `a` of a space, as the program reads it (R350, R351, R353). -/
def wordGet (s : State) (t : Task) (sp a : Nat) : Nat :=
  match sp with
  | 0 => smGet t.inI a
  | 1 => smGet t.outQ a
  | 3 => smGet s.le.w a
  | 4 => match timerOf s a with | some x => x.elapsed | none => 0
  | 5 => match counterOf s a with | some c => unsgn 32 c.count | none => 0
  | 7 => smGet t.inNw a
  | 8 => smGet t.inPw a
  | 9 => sWord s t a
  | 10 => unsgn 32 (sgn 20 a)
  | _ => 0

/-- Bit `a` of a space, as the program reads it: the bit area below 65 536, above it bits of words (R350). -/
def bitGet (s : State) (t : Task) (sp a : Nat) : Bool :=
  if 65536 ≤ a then (wordGet s t sp ((a - 65536) / 32)).testBit ((a - 65536) % 32)
  else match sp with
    | 2 => smBit s.le.m a
    | 4 => match timerOf s a with | some x => x.out | none => false
    | 5 => match counterOf s a with | some c => counterOut c | none => false
    | 6 => (edgeOf s a).val
    | 7 => smBit t.inNb a
    | 8 => smBit t.inPb a
    | _ => false

/-- The latest of a cycle's pending writes to an address, or the value in place. -/
def pendGet (l : List (Nat × Nat)) (a dflt : Nat) : Nat :=
  match l.reverse.find? (fun p => p.1 == a) with | some p => p.2 | none => dflt

/-- A Q word, or a Q bit by its address, counts as written in this cycle. -/
def noteQ (a : Nat) (l : List Nat) : List Nat := if l.contains a then l else a :: l

/-- Word `a` of a space written by the program (R349, R365): Q in the task's own output image, W at once, N and P
with the cycle's end. -/
def wordPut (sp a v : Nat) (t : Task) (s : State) : Task × State :=
  match sp with
  | 1 => ({ t with outQ := smSet t.outQ a v, wroteQ := noteQ a t.wroteQ }, s)
  | 3 => (t, markDirty { s with le := { s.le with w := smSet s.le.w a v } })
  | 7 => ({ t with outNw := t.outNw ++ [(a, v)] }, s)
  | 8 => ({ t with outPw := t.outPw ++ [(a, v)] }, s)
  | _ => (t, s)

/-- A word with bit `i` set to `b`. -/
def withBit (v i : Nat) (b : Bool) : Nat := v - b2n (v.testBit i) * 2 ^ i + b2n b * 2 ^ i

/-- The word that a bit write changes, as the program has written it so far. -/
def wordNow (s : State) (t : Task) (sp a : Nat) : Nat :=
  match sp with
  | 7 => pendGet t.outNw a (smGet s.le.nw a)
  | 8 => pendGet t.outPw a (smGet s.gr.lWordN a)
  | _ => wordGet s t sp a

/-- Bit `a` of a space written by the program. -/
def bitPut (sp a : Nat) (b : Bool) (t : Task) (s : State) : Task × State :=
  if 65536 ≤ a then
    let w := (a - 65536) / 32
    if sp = 1 then
      ({ t with outQ := smSet t.outQ w (withBit (smGet t.outQ w) ((a - 65536) % 32) b), wroteQ := noteQ a t.wroteQ }, s)
    else wordPut sp w (withBit (wordNow s t sp w) ((a - 65536) % 32) b) t s
  else match sp with
    | 2 => (t, markDirty { s with le := { s.le with m := smSetBit s.le.m a b } })
    | 7 => ({ t with outNb := t.outNb ++ [(a, b)] }, s)
    | 8 => ({ t with outPb := t.outPb ++ [(a, b)] }, s)
    | _ => (t, s)

/-! Instructions. Each takes the operand fields, the task with its pc past the instruction, and the state. -/

/-- What an instruction does. -/
abbrev InstrFn := Nat → Nat → Task → State → Task × State

/-- An instruction that sets RLO from the old RLO and its bit operand. -/
def iBit (f : Bool → Bool → Bool) : InstrFn := fun sp a t s => ({ t with rlo := f t.rlo (bitGet s t sp a) }, s)

/-- A push of RLO and a bracket operation (R355): 0 AND, 1 ANDN, 2 OR, 3 ORN, 4 XOR. -/
def iPush (op : Nat) : InstrFn := fun _ _ t s => ({ t with nest := (t.rlo, op) :: t.nest }, s)

/-- Combination at the closing bracket (R355). -/
def bracket (op : Nat) (saved inner : Bool) : Bool :=
  match op with
  | 0 => saved && inner
  | 1 => saved && !inner
  | 2 => saved || inner
  | 3 => saved || !inner
  | _ => saved != inner

/-- The closing bracket. -/
def iClose : InstrFn := fun _ _ t s =>
  match t.nest with
  | (r, op) :: rest => ({ t with rlo := bracket op r t.rlo, nest := rest }, s)
  | [] => (t, s)

/-- An edge memory written. -/
def putEdge (e : EdgeMem) (s : State) : State :=
  let es := if s.le.edges.any (fun (x : EdgeMem) => x.n == e.n) then
      updFirst (fun (x : EdgeMem) => x.n == e.n) (fun _ => e) s.le.edges
    else s.le.edges ++ [e]
  markDirty { s with le := { s.le with edges := es } }

/-- FP (rising) and FN (falling): a primed memory stores and gives no edge (R360, R382). -/
def iEdge (rising : Bool) : InstrFn := fun _ a t s =>
  let e := edgeOf s a
  let out := if e.primed then false else if rising then t.rlo && !e.val else !t.rlo && e.val
  ({ t with rlo := out }, putEdge { e with val := t.rlo, primed := false } s)

/-- ST and STN. -/
def iSt (neg : Bool) : InstrFn := fun sp a t s => bitPut sp a (t.rlo != neg) t s

/-- SET and RST: only when RLO is 1. -/
def iSetRst (b : Bool) : InstrFn := fun sp a t s => if t.rlo then bitPut sp a b t s else (t, s)

/-- A timer written. -/
def putTimer (x : Timer) (s : State) : State :=
  markDirty { s with le := { s.le with timers := updFirst (fun (y : Timer) => y.n == x.n) (fun _ => x) s.le.timers } }

/-- Whole base units of the run clock since the previous execution added to the elapsed value, up to the preset; the
remainder is kept (R357). -/
def timerAdv (clk : Nat) (x : Timer) : Timer :=
  let total := x.rem + (clk - x.lastClk)
  let base := max 1 x.baseNs
  { x with elapsed := if x.elapsed < x.preset then min (x.elapsed + total / base) x.preset else x.elapsed, rem := total % base }

/-- One execution of a timer: 1 TON, 2 TOF, 3 TP (R357). -/
def timerExec (kind : Nat) (inp : Bool) (clk : Nat) (x : Timer) : Timer :=
  let y : Timer :=
    match kind with
    | 1 =>
      let y := if inp && x.input then timerAdv clk x else { x with elapsed := 0, rem := 0 }
      { y with out := inp && decide (y.preset ≤ y.elapsed) }
    | 2 =>
      if inp then { x with elapsed := 0, rem := 0, out := true }
      else
        let y := if x.input then { x with elapsed := 0, rem := 0, out := true } else if x.out then timerAdv clk x else x
        { y with out := y.out && decide (y.elapsed < y.preset) }
    | _ =>
      if x.out then
        let y := timerAdv clk x
        { y with out := decide (y.elapsed < y.preset) }
      else if inp && !x.input then { x with elapsed := 0, rem := 0, out := decide (0 < x.preset) }
      else x
  { y with input := inp, lastClk := clk, kind := kind }

/-- TON, TOF and TP: RLO := the timer's output. -/
def iTimer (kind : Nat) : InstrFn := fun _ a t s =>
  match timerOf s a with
  | some x => let y := timerExec kind t.rlo t.clk x; ({ t with rlo := y.out }, putTimer y s)
  | none => ({ t with rlo := false }, s)

/-- TRST: elapsed and output 0 when RLO is 1. -/
def iTrst : InstrFn := fun _ a t s =>
  match timerOf s a with
  | some x => if t.rlo then (t, putTimer { x with elapsed := 0, rem := 0, out := false } s) else (t, s)
  | none => (t, s)

/-- TPV: the preset takes ACC. -/
def iTpv : InstrFn := fun _ a t s =>
  match timerOf s a with | some x => (t, putTimer { x with preset := t.acc.toNat } s) | none => (t, s)

/-- A counter written. -/
def putCounter (x : Counter) (s : State) : State :=
  markDirty { s with le := { s.le with counters := updFirst (fun (y : Counter) => y.n == x.n) (fun _ => x) s.le.counters } }

/-- CTU (R359). -/
def iCtu : InstrFn := fun _ a t s =>
  match counterOf s a with
  | some c =>
    let c := { c with count := (if t.rlo && !c.upIn then min (c.count + 1) (2147483647 : Int) else c.count), upIn := t.rlo }
    ({ t with rlo := counterOut c }, putCounter c s)
  | none => ({ t with rlo := false }, s)

/-- CTD (R359). -/
def iCtd : InstrFn := fun _ a t s =>
  match counterOf s a with
  | some c =>
    let c := { c with count := if t.rlo && !c.dnIn then max (c.count - 1) (-2147483648 : Int) else c.count, dnIn := t.rlo }
    ({ t with rlo := decide (c.count ≤ (0 : Int)) }, putCounter c s)
  | none => ({ t with rlo := false }, s)

/-- CRST, CLD: the count set when RLO is 1. -/
def iCount (f : Counter → Int) : InstrFn := fun _ a t s =>
  match counterOf s a with
  | some c => if t.rlo then (t, putCounter { c with count := f c } s) else (t, s)
  | none => (t, s)

/-- CPV: the preset takes ACC. -/
def iCpv : InstrFn := fun _ a t s =>
  match counterOf s a with | some c => (t, putCounter { c with preset := t.acc.toInt } s) | none => (t, s)

/-- ACC set from ACC and the word operand. -/
def iWord (f : Word → Word → Word) : InstrFn := fun sp a t s =>
  ({ t with acc := f t.acc (BitVec.ofNat 32 (wordGet s t sp a)) }, s)

/-- A result saturated to 32 bits, and whether it overflowed (R354). -/
def sat32 (i : Int) : Word × Bool :=
  if 2 ^ 31 - 1 < i then (0x7FFFFFFF#32, true) else if i < -(2 ^ 31) then (0x80000000#32, true)
  else (BitVec.ofInt 32 i, false)

/-- Signed arithmetic on ACC and the word operand (R354); OV is only ever set. -/
def iArith (f : Int → Int → Word × Bool) : InstrFn := fun sp a t s =>
  let (w, o) := f t.acc.toInt (BitVec.ofNat 32 (wordGet s t sp a)).toInt
  ({ t with acc := w, ov := t.ov || o }, s)

/-- DIV (R354). -/
def divSat (a b : Int) : Word × Bool :=
  if b = 0 then (if 0 ≤ a then 0x7FFFFFFF#32 else 0x80000000#32, true) else sat32 (a.tdiv b)

/-- MOD (R354). -/
def modSat (a b : Int) : Word × Bool := if b = 0 then (0#32, true) else (BitVec.ofInt 32 (a.tmod b), false)

/-- NEG, ABS and other functions of ACC alone, signed. -/
def iSigned (f : Int → Int) : InstrFn := fun _ _ t s =>
  let (w, o) := sat32 (f t.acc.toInt)
  ({ t with acc := w, ov := t.ov || o }, s)

/-- A function of ACC alone. -/
def iAcc (f : Word → Word) : InstrFn := fun _ _ t s => ({ t with acc := f t.acc }, s)

/-- A shift by the constant in ADDR. -/
def iShift (f : Word → Nat → Word) : InstrFn := fun _ a t s => ({ t with acc := f t.acc (a % 32) }, s)

/-- A comparison: RLO := ACC against the word operand. -/
def iCmp (f : Word → Word → Bool) : InstrFn := fun sp a t s =>
  ({ t with rlo := f t.acc (BitVec.ofNat 32 (wordGet s t sp a)) }, s)

/-- LDH: ACC[31:20] := ADDR[11:0]. -/
def iLdh : InstrFn := fun _ a t s =>
  ({ t with acc := BitVec.ofNat 32 ((a % 4096) * 2 ^ 20 + t.acc.toNat % 2 ^ 20) }, s)

/-- FIX: rounded to nearest even and saturated; OV for a NaN or an infinity (R354). -/
def iFix : InstrFn := fun _ _ t s =>
  let (w, o) := fFix t.acc
  ({ t with acc := w, ov := t.ov || o }, s)

/-- A jump when RLO meets `p`. -/
def iJump (p : Bool → Bool) : InstrFn := fun _ a t s => (if p t.rlo then { t with pc := a } else t, s)

/-- CALL: the address after it is pushed. -/
def iCall : InstrFn := fun _ a t s => ({ t with calls := t.pc :: t.calls, pc := a }, s)

/-- RET. -/
def iRet : InstrFn := fun _ _ t s =>
  match t.calls with
  | p :: rest => ({ t with pc := p, calls := rest }, s)
  | [] => (t, s)

/-- EVT: user event 0xE000 + ADDR with value ACC when RLO is 1. -/
def iEvt : InstrFn := fun _ a t s =>
  if t.rlo then
    (t, emit .logic { engineEvent s (0xE000 + a % 8192) t.acc.toNat with origin := 2, source := t.num } s)
  else (t, s)

/-- LARM: words w to w + 5 hold the launch value, w + 6 the entry number; passed on at the cycle's end (R361). -/
def iLarm : InstrFn := fun _ a t s =>
  if t.rlo then
    let bs := (List.range 6).flatMap (fun i => leBytes 4 (smGet s.le.w (a + i)))
    ({ t with reqs := t.reqs ++ [(true, smGet s.le.w (a + 6) % 64, parseLaunch (padTo 28 bs), a + 6)] }, s)
  else (t, s)

/-- LCAN: the logic-owned entry numbered in ACC; passed on at the cycle's end. -/
def iLcan : InstrFn := fun _ _ t s =>
  if t.rlo then ({ t with reqs := t.reqs ++ [(false, t.acc.toNat, default, 0)] }, s) else (t, s)

/-- NOP. -/
def iNop : InstrFn := fun _ _ t s => (t, s)

end Sys2Proof.Machine
end

