-- ==== Sys2Proof/Machine/RemoteIo.lean ====
section
/-! DEFINITION. Remote I/O stations, the native cycle and the Ducia ring (12). -/

namespace Sys2Proof.Machine

/-- Mode of remote I/O (PID 0x0C01): 0 off, 1 native, 2 Ducia. -/
def rioMode (s : State) : Nat := if hasRio s then pv s 0x0C01 0 0 1 0 else 0

/-- The I/O task. -/
def rioTask (s : State) : Nat := pv s 0x0C01 0 1 1 0

/-- L, D, A in counter units. -/
def rioLead (s : State) : Nat := usT (pv s 0x0C01 0 2 2 0)
/-- Send offset D. -/
def rioSend (s : State) : Nat := usT (pv s 0x0C01 0 4 2 0)
/-- Apply offset A. -/
def rioApply (s : State) : Nat := usT (pv s 0x0C01 0 6 2 0)

/-- Period of the I/O task in waves. -/
def rioPeriod (s : State) : Nat :=
  match s.le.sec with
  | some sec => ((sec.tasks.find? (fun (t : TaskCfg) => t.task == rioTask s)).map (·.period)).getD 16
  | none => 16

/-- Station `k`. -/
def stOf (s : State) (k : Nat) : Station := s.rio.st.getD k default

/-- Station `k` changed. -/
def updSt (k : Nat) (f : Station → Station) (s : State) : State :=
  { s with rio := { s.rio with st := putAt 32 s.rio.st k (f (stOf s k)) } }

/-- The stations that the image enables, ascending. -/
def stations (s : State) : List Nat :=
  (List.range (if rioMode s = 2 then 16 else 32)).filter (fun k => pv s 0x0C02 k 0 1 0 == 1)

/-- Input and output length of a station. -/
def stIn (s : State) (k : Nat) : Nat := pv s 0x0C02 k 2 2 0
/-- Output length. -/
def stOut (s : State) (k : Nat) : Nat := pv s 0x0C02 k 4 2 0

/-- The output image of a station as it is driven (R369, R396). -/
def stImage (s : State) (k : Nat) : List Byte :=
  ((List.range 64).flatMap (fun i => leBytes 4 (outQ s (64 + 64 * k + i)))).take (stOut s k)

/-- The loss image of a station (PID 0x0604). -/
def lossImage (s : State) (k : Nat) : List Byte := (prm s 0x0604 k).getD (zeros (stOut s k))

/-- The I words of a station take input bytes (R351). -/
def putInputs (k : Nat) (bs : List Byte) (s : State) : State :=
  let b := padTo 256 bs
  let iw := (List.range 64).foldl (fun m i => smSet m (64 + 64 * k + i) (leAt b (4 * i) 4)) s.le.iw
  { s with le := { s.le with iw := iw } }

/-- I word 1: the valid stations. -/
def putValid (s : State) : State :=
  { s with le := { s.le with iw := smSet s.le.iw 1 (maskOf 32 (fun k => (stOf s k).valid)) } }

/-- A station has missed a cycle (R400). -/
def stMiss (k : Nat) (s : State) : State :=
  let n := (stOf s k).missRun + 1
  let s := updSt k (fun x => { x with miss := satInc 32 x.miss, missRun := n, upRun := 0 }) s
  if 3 ≤ n ∧ !(stOf s k).lost then
    putValid (fireDet 0x25 k k (updSt k (fun x => { x with valid := false, cyclic := false, lost := true }) s))
  else s

/-- A station's frame is used for a cycle; two in succession with SYNCED, INPUTS_VALID and the current watermark make it
valid (R401). -/
def stGood (k : Nat) (bs : List Byte) (s : State) : State :=
  let s := updSt k (fun x => { x with missRun := 0, upRun := if x.heldOk then x.upRun + 1 else 0 }) s
  let s := putInputs k bs s
  let x := stOf s k
  if !x.valid ∧ 2 ≤ x.upRun then
    let s := updSt k (fun x => { x with valid := true, lost := false }) s
    putValid (submit .rio 0xA102 k (clearDet 0x25 k s))
  else s

/-- At R_k the I/O task's inputs are fixed and stations without a used frame have missed the cycle (R392, R400). `n` is the
slot count of the release. -/
def rioRelease (n : Nat) (s : State) : State :=
  if rioMode s ≠ 1 then s
  else
    let seq := wrapInc 32 s.rio.seq
    let s := { s with rio := { s.rio with seq := seq, relSlot := n, relT1 := n * (62500 * 2 ^ 40), ended := false } }
    let s := match s.rio.phaseNext with
      | some (ph, _, first) =>
        if first ≤ n then { s with rio := { s.rio with phase := some ph, phaseNext := none } } else s
      | none => s
    (stations s).foldl (fun s k =>
      let s := updSt k (fun x => { x with cyclic := x.valid }) s
      let x := stOf s k
      if x.used = some seq ∧ x.flags % 4 = 3 ∧ !injOn s 0x25 k then stGood k x.held s else stMiss k s) s

/-- Mean of the half round trips, 1/256 ns (R395). -/
def pathDelay (x : Station) : Nat := if x.trips.isEmpty then 0 else x.trips.foldl (· + ·) 0 / x.trips.length

/-- The time of remote I/O stamps: TD1, or TD2 in a standby lane (R393), in 1/65 536 ns. -/
def rioNow (s : State) : Nat :=
  (if s.pr.st = .solo ∨ s.pr.active then td1 s else s.tu.d2.t) / 2 ^ 24

/-- The path delay takes the round trip of a frame (R395). -/
def stTrip (k rxSeq tx rx : Nat) (s : State) : State :=
  match (stOf s k).tx.find? (fun e => e.1 == rxSeq) with
  | none => s
  | some (_, sent) =>
    let trip := ((rioNow s : Int) - sent) - ((tx : Int) - rx)
    let half := (trip / 2).toNat / 256
    let s := updSt k (fun x => { x with trips := (half :: x.trips).take 16 }) s
    updSt k (fun x => { x with delayHigh := decide (pv s 0x0C01 0 8 2 0 * 256 < pathDelay x) }) s

/-- A station's frame is taken for the coming cycle. -/
def stTake (k flags seq : Nat) (ok : Bool) (data : List Byte) (s : State) : State :=
  let s := sendAgree 3 s.acq.wave (1 :: k :: seq :: flags :: b2n ok :: data.map (·.toNat)) s
  updSt k (fun x => { x with used := some seq, held := data, flags := flags % 64, heldOk := ok }) s

/-- The lane uses the partner's receptions (R402). -/
def usesAgreed (s : State) : Bool := s.pr.st == .twin && !s.pr.active

/-- A station's upstream frame arrives (R392, R394, R395, R400). `tx` and `rx` are its TX_TIME and RX_TIME in
1/65 536 ns. -/
def execRioUpstreamRx (station flags seq rxSeq : Nat) (mark : List Byte) (tx rx : Nat) (data : List Byte) (good : Bool)
    (s : State) : Res :=
  if rioMode s ≠ 1 ∨ !(stations s).contains station ∨ !good ∨ !(s.net.port.getD 2 default).link then .next s
  else
    let s := stTrip station rxSeq tx rx s
    let ok := flags % 4 == 3 && mark == watermark s
    let next := wrapInc 32 s.rio.seq
    if usesAgreed s then
      let differs := decide ((stOf s station).used = some seq) && (stOf s station).held != data
      let s := updSt station (fun x => { x with own := some (seq, data) }) s
      .next (if differs then { s with rio := { s.rio with xchk := satInc 32 s.rio.xchk } } else s)
    else if (stOf s station).used = some seq then .next s
    else if seq = next then .next (stTake station flags seq ok data s)
    else .next (updSt station (fun x => { x with late := satInc 32 x.late }) s)

/-- A Q word of a station's image is forced, or SUBST applies (R393). -/
def stForced (s : State) (k : Nat) : Bool :=
  s.le.forces.any (fun f =>
    let a := f.point % 2 ^ 20
    let w := if f.point / 2 ^ 24 = 1 then a else (a - 65536) / 32
    f.point / 2 ^ 20 % 16 == 1 && decide (64 + 64 * k ≤ w) && decide (w < 128 + 64 * k))

/-- The slot tag of the next release after the current one (R392, R403). -/
def nextRelease (s : State) : Nat :=
  match s.rio.phaseNext with
  | some (_, last, first) =>
    if s.rio.relSlot = last then s.rio.relT1 + (first - last) * (62500 * 2 ^ 40)
    else s.rio.relT1 + rioPeriod s * (62500 * 2 ^ 40)
  | none => s.rio.relT1 + rioPeriod s * (62500 * 2 ^ 40)

/-- The bytes of a downstream frame's payload (R393); its first bit leaves `wait` from now. -/
def downBytes (s : State) (wait k type flags seq apply next : Nat) (data : List Byte) : List Byte :=
  let tx := if s.pr.st = .solo ∨ s.pr.active then (td1 s, td1Qual s) else (s.tu.d2.t, qualOf 2 s.tu.d2)
  let body := leBytes 1 1 ++ leBytes 1 type ++ leBytes 1 k ++ leBytes 1 flags ++ leBytes 4 seq ++ watermark s ++
    stamp (tx.1 + wait) ++ leBytes 1 tx.2 ++ zeros 1 ++ leBytes 2 data.length ++ leBytes 4 (pathDelay (stOf s k)) ++
    stamp next ++ stamp apply ++ leBytes 4 (rioPeriod s * 125 / 2) ++ data
  body ++ leBytes 4 (crc32 body).toNat

/-- Wire time of a downstream frame at the line rate of NET_C, counter units (R391). -/
def stWire (s : State) (len : Nat) : Nat := nsT ((14 + len + 4 + 20) * (if (s.net.port.getD 2 default).speed = 1 then 80 else 8))

/-- One downstream frame to a station: type 1 to one valid since an earlier cycle, type 3 with the loss image to any other
(R401). `wait` is the time for which the frames before it hold the port; the frame's first bit leaves that much later. -/
def stSend (stale : Bool) (p : State × Nat) (k : Nat) : State × Nat :=
  let (s, wait) := p
  let valid := (stOf s k).cyclic
  let type := if valid then 1 else 3
  let data := if valid then stImage s k else lossImage s k
  let flags := fld 0 1 (b2n (stForced s k)) + fld 1 1 (b2n stale) + fld 2 1 (b2n (s.le.mode != .run)) +
    fld 3 1 (b2n (s.pr.st == .twin))
  let apply := if valid then gridInstant s (s.rio.relT1 + rioApply s) else 0
  let next := gridInstant s (nextRelease s - rioLead s)
  let mac := beAt ((prm s 0x0C02 k).getD []) 6 6
  let bytes := downBytes s wait k type flags s.rio.seq apply next data
  let s := updSt k (fun x => { x with
    tx := ((s.rio.seq, rioNow s + wait / 2 ^ 24) :: x.tx).take 16, sent := data, sentHdr := (type, flags)
    sentTimes := (nsAll apply, nsAll next) }) s
  (sendFrame 3 4 [mac, ownMac s, 0x88B5, k] [] bytes s, wait + stWire s bytes.length)

/-- The frames of the current cycle have left (R392). -/
def rioSent (s : State) : Bool :=
  (stations s).any (fun k => (stOf s k).tx.head?.any (fun (e : Nat × Nat) => e.1 == s.rio.seq))

/-- At R_k + D one downstream frame goes to each station (R392, R396). R_k is the instant at which its slot occurs. -/
def execRioDownstreamSend (s : State) : Res :=
  if rioMode s ≠ 1 ∨ !running s ∨ !mayTx s ∨ rioSent s ∨ td1 s < gridInstant s (s.rio.relT1 + rioSend s) then .next s
  else
    let stale := s.le.mode == .run && !s.rio.ended
    let s := if stale ∧ s.rio.staleSec ≠ some (secOf (td0 s)) then
        submit .rio 0xA104 (s.rio.seq % 65536) { s with rio := { s.rio with staleSec := some (secOf (td0 s)) } }
      else s
    .next ((stations s).foldl (stSend stale) (s, 0)).1

/-- A launch with action 5 sets the phase of the I/O cycle (R403). `inst` is its instant in ns. -/
def rioPhase (inst : Nat) (s : State) : State :=
  if rioMode s ≠ 1 then s
  else
    let p := max 1 (rioPeriod s)
    -- the slot at or before the instant: a slot occurs at its tag plus TB_SG_OFFSET (R156)
    let at_ := ((inst * 2 ^ 40 : Nat) - s.tu.sgOffset : Int).toNat / (62500 * 2 ^ 40)
    let old := match s.rio.phase with
      | some ph => ph
      | none => match s.le.sec with
        | some sec => ((sec.tasks.find? (fun (t : TaskCfg) => t.task == rioTask s)).map (·.phase)).getD 0
        | none => 0
    let ph := at_ % p
    let lim := at_ + p
    let last := lim - (lim + p - old % p) % p
    let from_ := last + p
    let first := from_ + (ph + p - from_ % p) % p
    submit .rio 0xA103 ph { s with rio := { s.rio with phaseNext := some (ph, last, first) } }

/-! The Ducia ring (R404, R405, R407). -/

/-- This lane masters the ring: SOLO, or the lane that holds the binding (R407). -/
def ringMaster (s : State) : Bool := s.pr.st == .solo || s.pads.bindOut

/-- Every 2 ms of TD0 a ring cycle starts: stations that gave nothing in the cycle before have missed it, which the partner
learns with the agreement data, and each station receives the image of the I/O task's latest END (R404, R405). A lane that
does not master the ring keeps the ticks, so that it starts mastering at its next one (R407). -/
def execDuciaRingCycle (s : State) : Res :=
  if rioMode s ≠ 2 ∨ !running s ∨ !due s s.rio.ringTd0 (msT 2) then .next s
  else if !ringMaster s ∨ !mayTx s then .next { s with rio := { s.rio with ringCycles := 0, ringTd0 := td0 s } }
  else
    let c := s.rio.ringCycles
    let missed := if c = 0 then [] else (stations s).filter (fun k => (stOf s k).used != some c || injOn s 0x25 k)
    let s := missed.foldl (fun s k => stMiss k (sendAgree 3 s.acq.wave [6, k] s)) s
    let s := { s with rio := { s.rio with ringCycles := c + 1, ringTd0 := td0 s } }
    .next ((stations s).foldl (fun s k =>
      let data := (stImage s k).take 64
      sendFrame 3 4 [k] [] data (updSt k (fun x => { x with sent := data, sentHdr := (0, 0) }) s)) s)

/-- A ring cycle has filled a station's input buffer with a good check: handed over whole (R405). -/
def ringTake (k : Nat) (data : List Byte) (s : State) : State :=
  let s := sendAgree 3 s.acq.wave (2 :: k :: data.map (·.toNat)) s
  let s := updSt k (fun x => { x with
    ring := ([], data), ringAt := td1 s, used := some s.rio.ringCycles, held := data, heldOk := true }) s
  stGood k data s

/-- DUCIA_RING_FRAME_RX: an incomplete or bad buffer is not handed over. -/
def execDuciaRingFrameRx (station : Nat) (data : List Byte) (good : Bool) (s : State) : Res :=
  if rioMode s ≠ 2 ∨ !(stations s).contains station ∨ usesAgreed s then .next s
  else if good ∧ (stOf s station).used ≠ some s.rio.ringCycles then .next (ringTake station (data.take 64) s)
  else .next (updSt station (fun x => { x with ring := (data.take 64, x.ring.2) }) s)

/-- A word of the RIO_ block (R409, R410). -/
def rioRead (s : State) (a : Nat) : Option Nat :=
  if a = 0xE0000 then some (fld 4 4 (rioTask s) + fld 0 2 (rioMode s))
  else if a = 0xE0004 then some (maskOf 32 (fun k => (stOf s k).valid))
  else if a = 0xE0008 then some s.rio.seq
  else if a = 0xE000C then some s.rio.xchk
  else if 0xE0100 ≤ a ∧ a < 0xE0300 then
    let x := stOf s ((a - 0xE0100) / 16)
    match (a - 0xE0100) % 16 with
    | 0 => some (fld 7 1 (b2n x.delayHigh) + fld 6 1 (b2n x.lost) + fld 0 6 x.flags)
    | 4 => some (pathDelay x)
    | 8 => some x.miss
    | 12 => some x.late
    | _ => none
  else none

end Sys2Proof.Machine
end

