-- ==== Sys2Proof/Machine/LogicTasks.lean ====
section
/-! DEFINITION. Tasks, cycles, modes, the watchdog and retention of the logic engine (R362 to R379). -/

namespace Sys2Proof.Machine

/-! The task's inputs (R365, R374). -/

/-- An N bit is a subscribed one (PID 0x0921, type BOOLEAN). -/
def subBit (s : State) (a : Nat) : Bool :=
  (params s).any (fun p => p.pid == 0x0921 && leAt p.value 1 1 == 1 && leAt p.value 4 4 == a)

/-- An N word is a subscribed one (PID 0x0921, types Dbpos, INT32, FLOAT32). -/
def subWord (s : State) (a : Nat) : Bool :=
  (params s).any (fun p => p.pid == 0x0921 && decide (2 ≤ leAt p.value 1 1) && decide (leAt p.value 1 1 ≤ 4) && leAt p.value 4 4 == a)

/-- Space of a point code. -/
def pointSpace (p : Nat) : Nat := p / 2 ^ 20 % 16

/-- Address of a point code. -/
def pointAddr (p : Nat) : Nat := p % 2 ^ 20

/-- The word that a point code names or lies in, if it is a word or a bit of a word. -/
def pointWord (p : Nat) : Option Nat :=
  if p / 2 ^ 24 % 2 = 1 then some (pointAddr p)
  else if 65536 ≤ pointAddr p then some ((pointAddr p - 65536) / 32) else none

/-- The words of a space under their forces. -/
def forcedWords (s : State) (sp : Nat) (only : Nat → Bool) (base : SMap) : SMap :=
  s.le.forces.foldl (fun m f =>
    match pointWord f.point with
    | some w => if pointSpace f.point = sp ∧ only w then smSet m w (forceWord s sp w (smGet base w)) else m
    | none => m) base

/-- I words for a cycle, with the DI word given. -/
def inputI (s : State) (w0 : Nat) : SMap := forcedWords s 0 (fun _ => true) (smSet s.le.iw 0 w0)

/-- N words for a cycle: forces act on subscribed points. -/
def inputNw (s : State) : SMap := forcedWords s 7 (subWord s) s.le.nw

/-- N bits for a cycle: forces act on subscribed points. -/
def inputNb (s : State) : SMap :=
  s.le.forces.foldl (fun m f =>
    if pointSpace f.point = 7 ∧ (pointWord f.point).isNone ∧ subBit s (pointAddr f.point) then
      smSetBit m (pointAddr f.point) (decide (f.value % 2 = 1))
    else m) s.le.nb

/-- Two areas with disjoint keys joined. -/
def joinMap (a b : SMap) : SMap := b.foldl (fun m e => smSet m e.1 e.2) a

/-! Agreed logic cycle records (R367): kind 5 with values 0 release, 1 trigger, 2 start, 3 changeover, 4 resumption,
5 cold execution, first. -/

/-- A logic cycle record goes to the standby. -/
def sendLogic (vals : List Nat) (s : State) : State := sendAgree 5 s.acq.wave vals s

/-- An area as a list of numbers. -/
def flatMap2 (m : SMap) : List Nat := m.length :: m.flatMap (fun e => [e.1, e.2])

/-- `n` pairs of a list of numbers as an area, and the rest. -/
def unflat : Nat → List Nat → SMap × List Nat
  | n + 1, k :: v :: r => let (m, rest) := unflat n r; (smSet m k v, rest)
  | _, r => ([], r)

/-- An area from its list form, and the rest. -/
def takeMap : List Nat → SMap × List Nat
  | n :: r => unflat n r
  | [] => ([], [])

/-- The logic record that the standby has to follow next. -/
def logicHead (s : State) : Option (List Nat) := (agreeHead s 5).map (·.vals)

/-! Scheduling (R364, R365). -/

/-- Priority of a task. -/
def prioOf (s : State) (t : Task) : Nat := match taskCfg s t.num with | some c => c.prio | none => 7

/-- `a` runs before `b`: priority, then event before cyclic, then the lower number. -/
def runsBefore (s : State) (a b : Task) : Bool :=
  let ra := (prioOf s a, b2n (decide (a.num < 8)), a.num)
  let rb := (prioOf s b, b2n (decide (b.num < 8)), b.num)
  decide (ra.1 < rb.1) || (ra.1 == rb.1 && (decide (ra.2.1 < rb.2.1) || (ra.2.1 == rb.2.1 && decide (ra.2.2 < rb.2.2))))

/-- The task that runs first among some. -/
def firstTask (s : State) : List Task → Option Task
  | [] => none
  | t :: ts => match firstTask s ts with
    | some u => if runsBefore s u t then some u else some t
    | none => some t

/-- A task started and not ended (LE_TASK_STAT). -/
def midCycle (t : Task) : Bool := t.st == .running || t.st == .preempted

/-- Some task is mid-cycle. -/
def anyMid (s : State) : Bool := s.le.tasks.any midCycle

/-- Nothing starts before an awaited COLD or changeover has had its instant with no task mid-cycle (R368, R381). -/
def idleAwaited (s : State) : Bool := !anyMid s && (s.le.coldPend || s.le.change.any (fun c => !c.waitPeer))

/-- A cycle starts (R365 step 2): the input image, the run clock, OV. `clk`, `pw`, `w0` and the N areas are the lane's own
or the agreed ones. -/
def startWith (t : Task) (clk pw w0 : Nat) (nb nw : SMap) (s : State) : State :=
  let entry := match taskCfg s t.num with | some c => c.entry | none => 0
  putTask { t with
    st := .running, pc := entry, ov := false, nest := [], calls := []
    inI := inputI s w0, inNb := nb, inNw := nw, inPb := joinMap s.gr.pBitF s.gr.lBit, inPw := joinMap s.gr.pWordF s.gr.lWord
    outQ := s.le.q, wroteQ := [], outNb := [], outNw := [], outPb := [], outPw := [], reqs := []
    clk := clk, pWave := pw, tq := waveQual s, icount := 0 } s

/-- Instructions executed by the running task when it is pre-empted, plus 1; 0 when none runs. -/
def runCount (s : State) : Nat := match runningTask s with | some r => r.icount + 1 | none => 0

/-- The running task is pre-empted at an instruction boundary (R347). -/
def preempt (s : State) : State :=
  match runningTask s with | some r => putTask { r with st := .preempted } s | none => s

/-- A ready task starts on this lane's own values. -/
def startTask (t : Task) (s : State) : State :=
  let w0 := if t.num < 8 then diAt s t.relT1 else diWord s
  let nb := inputNb s
  let nw := inputNw s
  let clk := runClkNow s
  let pw := s.gr.relWave.getD 0
  let s := sendLogic ([2, t.num, runCount s, clk, pw, w0] ++ flatMap2 nb ++ flatMap2 nw) s
  startWith t clk pw w0 nb nw (preempt s)

/-- A pre-empted cycle resumes where it stopped. -/
def resumeTask (t : Task) (s : State) : State := putTask { t with st := .running } (sendLogic [4, t.num] s)

/-- The engine runs the best ready task; only a ready task of higher priority pre-empts the running one (R364). -/
def dispatchOwn (s : State) : State :=
  let cand := s.le.tasks.filter (fun (t : Task) => t.st == .ready || t.st == .preempted)
  match runningTask s with
  | some r =>
    match firstTask s (cand.filter (fun t => decide (prioOf s t < prioOf s r))) with
    | some t => startTask t s
    | none => s
  | none =>
    match firstTask s cand with
    | some t => if t.st = .preempted then resumeTask t s else if idleAwaited s then s else startTask t s
    | none => s

/-- The P copy of wave `pw` has reached this lane (serial order). -/
def copyThere (s : State) (pw : Nat) : Bool := decide ((s.gr.relWave.getD 0 + 2 ^ 32 - pw) % 2 ^ 32 < 2 ^ 31)

/-- The standby starts and resumes the cycles that the active started, at the same instruction counts, once it has the P
copy that the active read (R367). -/
def dispatchAgreed (s : State) : State :=
  match logicHead s with
  | some (2 :: n :: cnt :: clk :: pw :: w0 :: rest) =>
    match taskOf s n with
    | some t =>
      if t.st = .ready ∧ runCount s = cnt ∧ copyThere s pw then
        let (nb, r) := takeMap rest
        let (nw, _) := takeMap r
        startWith t clk pw w0 nb nw (preempt (agreeUsed 5 s))
      else s
    | none => s
  | some [4, n] =>
    match taskOf s n with
    | some t => if t.st = .preempted ∧ (runningTask s).isNone then putTask { t with st := .running } (agreeUsed 5 s) else s
    | none => s
  | _ => s

/-- The next cycle, if one may run. -/
def dispatch (s : State) : State :=
  if s.le.mode ≠ .run ∨ s.le.halted then s else if followsAgreed s then dispatchAgreed s else dispatchOwn s

/-! Releases and triggers (R362, R363, R366). -/

/-- Longest time of a cycle (R372): period and tolerance, or the event task's maximum. -/
def cycleSpan (c : TaskCfg) : Nat :=
  if c.task < 8 then c.period * (62500 * 2 ^ 40) * (100 + c.tolPct) / 100 else usT c.maxUs

/-- The deadline of a cycle whose span counts from a TD0 instant. -/
def deadlineFrom (s : State) (n t0 : Nat) : Nat :=
  match taskCfg s n with | some c => t0 + cycleSpan c | none => t0

/-- Idle event tasks take the oldest trigger queued for them and are ready (R363, R365). -/
def pumpTriggers (s : State) : State :=
  if s.le.mode ≠ .run then s
  else
    s.le.tasks.foldl (fun s t =>
      if t.num < 8 ∨ t.st ≠ .idle then s
      else match s.le.trigQ.find? (fun (g : Trig) => g.task == t.num) with
        | none => s
        | some g =>
          let s := putTask { t with
            st := .ready, relT1 := g.t1, relT0 := g.t0, deadline := deadlineFrom s t.num g.t0
            trig := 65536 * g.kind + g.index } s
          { s with le := { s.le with trigQ := s.le.trigQ.erase g } }) s

/-- A trigger enters the event task trigger queue of 256; a full queue drops it (R27). -/
def queueTrig (g : Trig) (s : State) : State :=
  if s.le.trigQ.length < 256 then { s with le := { s.le with trigQ := s.le.trigQ ++ [g] } }
  else submit .logic 0x5F01 (65536 * g.kind + g.index) { s with le := { s.le with etDrop := satInc 32 s.le.etDrop } }

/-- A trigger reaches the logic engine (R363). A trigger whose task a change has removed is discarded (R383); one that
arrives while the engine is in neither RUN nor HOLD queues nothing. -/
def execEventTaskTrigger (s : State) : Res :=
  if followsAgreed s then
    let s := { s with le := { s.le with trigIn := [] } }
    match logicHead s with
    | some [1, n, kind, index, t1, _] =>
      .next (dispatch (pumpTriggers (queueTrig ⟨n, kind, index, t1, t0Of s t1⟩ (agreeUsed 5 s))))
    | _ => .next s
  else
    match s.le.trigIn with
    | [] => .next s
    | g :: rest =>
      let s := { s with le := { s.le with trigIn := rest } }
      if s.le.mode ≠ .run ∧ s.le.mode ≠ .hold then .next s
      else if (taskOf s g.task).isNone then .next (submit .logic 0x500A g.task s)
      else
        let s := sendLogic [1, g.task, g.kind, g.index, g.t1, g.t0] s
        .next (dispatch (pumpTriggers (queueTrig g s)))

/-- The grid slot in which the engine is: slot count, and the TD1 instant of the slot (R156, R362). -/
def gridSlot (s : State) : Nat × Nat :=
  let t := ((td1 s : Int) - s.tu.sgOffset).toNat
  let (sec, k) := slotOf t
  (sec * 16000 + k, (((secT sec + k * (62500 * 2 ^ 40) : Nat) : Int) + s.tu.sgOffset).toNat)

/-- The I/O task's phase as a launch has set it (R403): none between the old and the new series. -/
def phaseAt (s : State) (c : TaskCfg) (n : Nat) : Option Nat :=
  if rioMode s = 1 ∧ c.task = rioTask s then
    let old := s.rio.phase.getD c.phase
    match s.rio.phaseNext with
    | some (ph, last, first) => if n ≤ last then some old else if first ≤ n then some ph else none
    | none => some old
  else some c.phase

/-- A task is released at a slot (R362). -/
def slotReleases (s : State) (c : TaskCfg) (n : Nat) : Bool :=
  match phaseAt s c n with
  | some ph => decide (0 < c.period) && (n + c.period - ph % c.period) % c.period == 0
  | none => false

/-- A release of a task's cycle; one that finds the previous cycle pending is skipped (R366). -/
def releaseTask (t : Task) (n t1 t0 : Nat) (s : State) : State :=
  let s := if t.num = rioTask s then rioRelease n s else s
  let t := { t with relN := some n }
  if s.le.mode = .run ∧ t.st = .idle then
    putTask { t with st := .released, relT1 := t1, relT0 := t0, deadline := deadlineFrom s t.num t0, trig := 0 } s
  else if s.le.mode = .run then
    let s := { s with le := { s.le with skipCnt := satInc 32 s.le.skipCnt } }
    let s := putTask { t with skipSec := some (secOf (td0 s)) } s
    if t.skipSec = some (secOf (td0 s)) then s else submit .logic 0x5003 t.num s
  else if s.le.mode = .hold then putTask t { s with le := { s.le with skipCnt := satInc 32 s.le.skipCnt } }
  else putTask t s

/-- 16 us after its release a cycle becomes ready, may pre-empt, copies its inputs and starts (R364, R365). -/
def execLogicCycleReady (s : State) : Res :=
  let s := { s with le := { s.le with
    tasks := updAll (fun (t : Task) => t.st == .released && due s t.relT0 (usT 16)) (fun t => { t with st := .ready }) s.le.tasks } }
  .next (dispatch (pumpTriggers s))

/-! The end of a cycle (R365 step 4). -/

/-- The Q words and bits that a cycle wrote, passed on. -/
def passQ (t : Task) (q : SMap) : SMap :=
  t.wroteQ.foldl (fun q a =>
    if 65536 ≤ a then
      let w := (a - 65536) / 32
      let b := (a - 65536) % 32
      smSet q w (withBit (smGet q w) b ((smGet t.outQ w).testBit b))
    else smSet q a (smGet t.outQ a)) q

/-- Bit writes of a cycle, passed on in order. -/
def passBits (l : List (Nat × Bool)) (m : SMap) : SMap := l.foldl (fun m p => smSetBit m p.1 p.2) m

/-- Word writes of a cycle, passed on in order. -/
def passWords (l : List (Nat × Nat)) (m : SMap) : SMap := l.foldl (fun m p => smSet m p.1 p.2) m

/-- LAUNCH_REFUSED for an entry of the logic engine (R165). -/
def launchRefused (st : Status) (entry : Nat) (s : State) : State :=
  if st = .ok then s else submit .time 0x100A (256 * st.toNat + entry % 256) s

/-- One LARM or LCAN request (R361): the status goes to bits 31:16 of the request's entry word. -/
def passReq (s : State) (r : Bool × Nat × LaunchVal × Nat) : State :=
  let (arm, entry, v, w) := r
  if arm then
    let (s, st) := armLaunch .logic entry v s
    let s := markDirty { s with le := { s.le with w := smSet s.le.w w (smGet s.le.w w % 65536 + 65536 * st.toNat) } }
    launchRefused st entry s
  else
    let (s, st) := if entry < 64 then cancelLaunch .logic entry s else (s, .range)
    launchRefused st entry s

/-- Every task that owns outputs has completed a cycle since entering RUN. -/
def allReleased (s : State) : Bool :=
  match s.le.sec with
  | some sec => sec.tasks.all (fun (t : TaskCfg) => t.qWords.isEmpty || s.le.firstDone.contains t.task)
  | none => false

/-- OUTPUTS_RELEASED when the last owned output has been released (R89). -/
def checkReleased (s : State) : State :=
  if s.le.mode = .run ∧ !s.le.released ∧ allReleased s then
    submit .logic 0x0106 0 { s with le := { s.le with released := true } }
  else s

/-- The task that HOLD holds: the one that would run next of those mid-cycle. -/
def heldOf (s : State) : Option Nat := (firstTask s (s.le.tasks.filter midCycle)).map (·.num)

/-- What a cycle's END passes on, as the digest takes it (R542): task, Q words, N and P points, launch requests. -/
def endBytes (t : Task) (s : State) : List Byte :=
  let words (l : List (Nat × Nat)) : List Byte := l.flatMap (fun p => leBytes 4 p.1 ++ leBytes 4 p.2)
  let bits (l : List (Nat × Bool)) : List Byte := l.flatMap (fun p => leBytes 4 p.1 ++ leBytes 1 (b2n p.2))
  let mine := match taskCfg s t.num with | some c => c.qWords | none => []
  leBytes 1 t.num ++ words (mine.map (fun w => (w, smGet s.le.q w))) ++ bits t.outNb ++ words t.outNw ++
    bits t.outPb ++ words t.outPw ++
    t.reqs.flatMap (fun r => leBytes 1 (b2n r.1) ++ leBytes 4 r.2.1 ++ leBytes 16 r.2.2.1.instant ++ leBytes 8 r.2.2.1.period ++
      leBytes 1 r.2.2.1.action ++ leBytes 2 r.2.2.1.target)

/-- A cycle reaches END: outputs, publications, P points and requests are passed on in one step, and the next task
runs. -/
def taskEnd (t : Task) (s : State) : State :=
  let us := nsAll (td0 s - t.relT0) / 1000 % 2 ^ 32
  let s := markDirty { s with
    le := { s.le with
      q := passQ t s.le.q, nb := passBits t.outNb s.le.nb, nw := passWords t.outNw s.le.nw
      firstDone := if s.le.firstDone.contains t.num then s.le.firstDone else t.num :: s.le.firstDone }
    gr := { s.gr with lBitN := passBits t.outPb s.gr.lBitN, lWordN := passWords t.outPw s.gr.lWordN }
    rio := { s.rio with ended := s.rio.ended || t.num == rioTask s } }
  let s := digNote 5 (endBytes t s) (t.reqs.foldl passReq s)
  let s := putTask { t with
    st := .idle, first := false, reqs := [], wroteQ := [], outNb := [], outNw := [], outPb := [], outPw := []
    last := us, max := max t.max us, cycles := satInc 32 t.cycles } s
  let s := checkReleased s
  if s.le.mode = .hold then { s with le := { s.le with stepping := none, heldTask := heldOf s } }
  else dispatch (pumpTriggers s)

/-! Modes (R368 to R371). -/

/-- A mode change: LE_MODE_CHANGE. -/
def setMode (m : LeMode) (cause : Nat) (s : State) : State :=
  let old := s.le.mode
  let s := { s with le := { s.le with mode := m, prev := old.toNat, cause := cause } }
  markDirty (submit .logic 0x5002 (16 * old.toNat + m.toNat) s)

/-- Every cycle in progress is abandoned; queued triggers are discarded. -/
def abandon (s : State) : State :=
  { s with le := { s.le with
    tasks := s.le.tasks.map (fun t => { t with st := .idle, reqs := [], wroteQ := [], outNb := [], outNw := [], outPb := [], outPw := [] })
    trigQ := [], heldTask := none, stepping := none, brkSkip := false } }

/-- The engine enters RUN from STOP, SAFE or its start: every task begins a new cycle. -/
def enterRun (s : State) : State :=
  let s := abandon s
  checkReleased { s with le := { s.le with
    tasks := s.le.tasks.map (fun t => { t with first := true }), firstDone := [], released := false, keepQ := [], clkAt := td0 s } }

/-- All state takes the image's initial values; the run clock is 0 (R368). -/
def coldState (s : State) : State :=
  match s.le.sec with
  | none => s
  | some sec =>
    let pick (sp : Nat) (word : Bool) : SMap :=
      sec.init.foldl (fun m e => if e.1 = sp ∧ e.2.1 = word then smSet m e.2.2.1 e.2.2.2 else m) []
    markDirty { s with
      le := { s.le with
        q := pick 1 true, m := pick 2 false, w := pick 3 true, nb := pick 7 false, nw := pick 7 true
        timers := sec.timers.map (fun (c : TimerCfg) => ⟨c.n, c.id, c.baseNs, 0, c.preset, 0, false, false, 0, 0⟩)
        counters := sec.counters.map (fun (c : CounterCfg) => ⟨c.n, c.id, sgn 32 c.preset, 0, false, false⟩)
        edges := sec.edges.map (fun e => ⟨e.1, e.2, false, false⟩)
        runClk := 0, clkAt := td0 s, coldPend := false }
      gr := { s.gr with lBitN := pick 8 false, lWordN := pick 8 true } }

/-- A refused IMG_ACTIVATE is answered and written (R115, R124). -/
def activateRefused (r : Option Req) (st : Status) (s : State) : State :=
  match r with
  | some r => answer r 0x0023 st (submitCmd .image r.session 0x0122 st.toNat s)
  | none => submit .image 0x0122 st.toNat s

/-- An on-line change that awaits changeover is refused (R381, R383); one that an IMG_ACTIVATE began answers it (R116). -/
def refuseChange (st : Status) (s : State) : State :=
  match s.le.change with
  | none => s
  | some c =>
    let s := submit .logic 0x5006 st.toNat { s with le := { s.le with change := none, changeSt := 3, changeRes := st.toNat } }
    if c.byActivate then activateRefused c.req st s else s

/-- The engine enters HOLD (R370): tasks halt, the run clock stops, outputs keep what they drive. -/
def enterHold (cause : Nat) (s : State) : State :=
  let d := drivenNow s
  let s := syncClk s
  let s := { s with le := { s.le with driven := d, holdAt := td0 s, heldTask := heldOf s, stepping := none } }
  setMode .hold cause s

/-- HOLD is left for RUN: held cycles continue with new deadlines (R368, R370). -/
def leaveHold (s : State) : State :=
  let s := { s with le := { s.le with
    tasks := s.le.tasks.map (fun (t : Task) => if t.st = .idle then t else { t with deadline := deadlineFrom s t.num (td0 s) })
    trigQ := s.le.trigQ.map (fun g => { g with t0 := td0 s })
    heldTask := none, stepping := none, brkSkip := true, clkAt := td0 s } }
  dispatch (pumpTriggers (setMode .run 0 s))

/-- The engine stops: interrupted cycles are abandoned, their outputs not written. -/
def enterStop (cause : Nat) (s : State) : State := setMode .stop cause (abandon (syncClk s))

/-- Whether a mode takes a command (R368). -/
def modeTakes (m : LeMode) (code : Nat) : Bool :=
  match m with
  | .run => code == 2 || code == 3 || code == 5
  | .stop => code == 1 || code == 4 || code == 5
  | .hold => code == 1 || code == 2
  | .safe => code == 1
  | .notStarted => false

/-- A mode command takes effect. -/
def applyMode (code : Nat) (s : State) : State :=
  if !modeTakes s.le.mode code then s
  else
    let s := if code = 2 ∨ code = 5 then refuseChange .badState s else s
    match s.le.mode with
    | .run =>
      if code = 2 then enterStop 0 s
      else if code = 3 then enterHold 0 s
      else markDirty { s with le := { s.le with coldPend := true } }
    | .hold => if code = 1 then leaveHold s else enterStop 0 s
    | _ => setMode .run 0 (enterRun (if code = 5 then coldState s else s))

/-- LE_MODE: 1 RUN, 2 STOP, 3 HOLD, 4 WARM, 5 COLD (R368, R371); STOP is urgent (R590). -/
def execLeMode (r : Req) (code : Nat) (s : State) : Res :=
  .next (serveAs r 0x0030 (code == 2) (roleOf 0x0030) s (fun s =>
    if code = 0 ∨ 5 < code then answer r 0x0030 .range s
    else if pairRefuses s ∨ (code = 3 ∧ s.pr.st ≠ .solo ∧ s.pr.st ≠ .cold) ∨ !modeTakes s.le.mode code then
      answer r 0x0030 .badState s
    else if s.pr.st = .twin then answer r 0x0030 .ok (schedTwin 2 [code] s)
    else answer r 0x0030 .ok (applyMode code s)))

/-- The awaited COLD has its instant: initial values, the RUN to RUN transition of LE_MODE_CHANGE. -/
def coldNow (s : State) : State :=
  let s := coldState s
  dispatch (pumpTriggers (setMode .run 0 s))

/-- At the first instant with no task mid-cycle, the COLD runs (R368). -/
def execLeColdExecute (s : State) : Res :=
  if s.le.coldPend ∧ s.le.mode = .run ∧ !anyMid s ∧ !s.le.halted then
    if followsAgreed s then
      match logicHead s with
      | some [5] => .next (coldNow (agreeUsed 5 s))
      | _ => .next s
    else .next (coldNow (sendLogic [5] s))
  else .next s

/-- 10 min of TD0 in HOLD (R368): STOP, HOLD_TIMEOUT. -/
def execHoldTimeout (s : State) : Res :=
  if s.le.mode = .hold ∧ due s s.le.holdAt (secT 600) then .next (enterStop 4 (submit .logic 0x5004 0 s))
  else .next s

/-! Instruction execution and breakpoints (R353, R370). -/

/-- A breakpoint at the task's next instruction. -/
def atBreak (s : State) (t : Task) : Bool :=
  !s.le.brkSkip && s.le.breaks.any (fun b => b.1 == t.pc && (match b.2 with | some n => n == t.num | none => true))

/-- The task that executes instructions: the running one in RUN, the one that LE_STEP runs in HOLD. -/
def curTask (s : State) : Option Task :=
  if s.le.halted then none
  else match s.le.mode with
    | .run => match runningTask s with | some t => if atBreak s t then none else some t | none => none
    | .hold => match s.le.stepping with | some n => taskOf s n | none => none
    | _ => none

/-- The instruction that a task executes next. -/
def fetchWord (s : State) (t : Task) : Option Word := s.le.program[t.pc]?

/-- One instruction of a task. -/
def stepTask (f : InstrFn) (sp a : Nat) (t : Task) (s : State) : State :=
  let (t, s) := f sp a { t with pc := (t.pc + 1) % 2 ^ 18, icount := t.icount + 1 } s
  putTask t { s with le := { s.le with brkSkip := false } }

/-- The word of an instruction (R348). -/
def instrWord (op sp a : Nat) : Word := BitVec.ofNat 32 (op * 2 ^ 24 + sp * 2 ^ 20 + a)

/-- The task that executes the instruction of these fields now. -/
def atInstr (s : State) (op sp a : Nat) : Option Task :=
  if op < 256 ∧ sp < 16 ∧ a < 2 ^ 20 then
    match curTask s with
    | some t => if fetchWord s t = some (instrWord op sp a) then some t else none
    | none => none
  else none

/-- The current task executes an instruction; nothing happens where it does not stand there. -/
def runInstr (op sp a : Nat) (f : InstrFn) (s : State) : State :=
  match atInstr s op sp a with
  | some t => stepTask f sp a t s
  | none => s

/-- The current task executes END. -/
def runEnd (s : State) : State :=
  match atInstr s 0x75 0 0 with
  | some t => taskEnd { t with icount := t.icount + 1 } { s with le := { s.le with brkSkip := false } }
  | none => s

/-- A task reaches a breakpoint (R370): HOLD before the instruction, BREAKPOINT. -/
def execBreakpoint (s : State) : Res :=
  if s.le.mode ≠ .run ∨ s.le.halted then .next s
  else match runningTask s with
    | some t =>
      if atBreak s t then
        let s := { s with le := { s.le with brk := (true, t.num, t.pc) } }
        .next (enterHold 3 (submit .logic 0x5009 (262144 * t.num + t.pc) s))
      else .next s
    | none => .next s

/-- LE_BREAK_SET replaces the set of breakpoints (R370, R371). Task 0xFF is any. -/
def execLeBreakSet (r : Req) (entries : List (Nat × Nat)) (s : State) : Res :=
  .next (serve r 0x0032 s (fun s =>
    if s.pr.st = .twin ∨ s.pr.st = .joining then answer r 0x0032 .badState s
    else if 8 < entries.length ∨ entries.any (fun e => decide (2 ^ 18 ≤ e.1) || (decide (24 ≤ e.2) && e.2 != 0xFF)) then
      answer r 0x0032 .range s
    else answer r 0x0032 .ok { s with le := { s.le with
      breaks := entries.map (fun e => (e.1, if e.2 = 0xFF then none else some e.2)) } }))

/-! The watchdog (R372, R373). -/

/-- Every cycle that has missed its deadline: (deadline, task). An injection of detector 0x0C takes the target task's
deadline as passed. -/
def overdue (s : State) : List (Nat × Nat) :=
  let run := s.le.tasks.filterMap (fun (t : Task) =>
    if t.st = .idle then none
    else if injOn s 0x0C t.num then some (0, t.num)
    else if t.deadline ≤ td0 s then some (t.deadline, t.num) else none)
  let wait := s.le.trigQ.filterMap (fun (g : Trig) =>
    let d := deadlineFrom s g.task g.t0
    if d ≤ td0 s then some (d, g.task) else none)
  run ++ wait

/-- The first of some (deadline, task) pairs. -/
def earliest : List (Nat × Nat) → Option (Nat × Nat)
  | [] => none
  | x :: xs => match earliest xs with
    | some y => if y.1 < x.1 ∨ (y.1 = x.1 ∧ y.2 < x.2) then some y else some x
    | none => some x

/-- Tasks halt, their cycles are abandoned, owned outputs take their safe values: SAFE (R369, R372). -/
def enterSafe (s : State) : State := setMode .safe 2 (abandon (syncClk s))

/-- LE_WATCHDOG for a task (R372). -/
def applyWatchdog (task : Nat) (s : State) : State :=
  let s := fireDetOnce 0x0C task s
  enterSafe { s with le := { s.le with wdCount := satInc 16 s.le.wdCount, wdTask := task } }

/-- What a missed deadline does now (R372). In TWIN the active names a wave for both lanes; the standby's own watchdog is a
divergence of cause 4 (R373). -/
def watchdogNow (s : State) : State :=
  if s.le.mode ≠ .run ∨ s.le.halted then s
  else match earliest (overdue s) with
    | none => s
    | some (_, task) =>
      if s.pr.st ≠ .twin then applyWatchdog task s
      else if s.pr.sched.any (fun e => e.2.1 == 14) then s
      else if s.pr.active then schedTwin 14 [task] s
      else diverge 4 (sendCell 6 [10, 4] s)

/-- A cycle misses its deadline (R372, R373). -/
def execLeWatchdog (s : State) : Res := .next (watchdogNow s)

/-- A cyclic task is released at its grid slot (R362); a deadline of the task at the same instant acts first (R372). The
standby releases it as the active did, at its own TD0 instant. -/
def execCyclicTaskRelease (task : Nat) (s : State) : Res :=
  match taskOf s task, taskCfg s task with
  | some t, some c =>
    if 8 ≤ task ∨ s.le.halted then .next s
    else if followsAgreed s then
      match logicHead s with
      | some [0, n, slot, t1, _] => if n = task then .next (releaseTask t slot t1 (t0Of s t1) (agreeUsed 5 s)) else .next s
      | _ => .next s
    else
      let (n, t1) := gridSlot s
      if slotReleases s c n ∧ t.relN ≠ some n then
        let t0 := t0Of s t1
        let s := if (overdue s).any (fun x => x.2 == task) then watchdogNow s else s
        let t := (taskOf s task).getD t
        .next (releaseTask t n t1 t0 (sendLogic [0, task, n, t1, t0] s))
      else .next s
  | _, _ => .next s

/-! Retention (R377 to R379). -/

/-- The retained state as it stands. -/
def mirror (s : State) : Retain :=
  { digest := s.le.sec.map (·.digest), bad := false
    q := s.le.q, m := s.le.m, w := s.le.w, timers := s.le.timers, counters := s.le.counters, edges := s.le.edges
    nb := s.le.nb, nw := s.le.nw, pb := s.gr.lBitN, pw := s.gr.lWordN, runClk := runClkNow s, mode := s.le.mode }

/-- The retain engine writes every changed word (R378). -/
def writeRetain (s : State) : State :=
  { s with le := { s.le with ret := mirror s, dirtySince := none } }

/-- Within 10 ms of a change, or at 64 KiB, the changed words are mirrored (R378). -/
def execRetainWrite (s : State) : Res :=
  if s.le.dirtySince.isSome ∧ s.le.mode ≠ .notStarted ∧ !s.le.halted then .next (writeRetain s) else .next s

/-- The retained state resumes (R86, R88). -/
def loadRetain (s : State) : State :=
  let r := s.le.ret
  { s with
    le := { s.le with
      q := r.q, m := r.m, w := r.w, timers := r.timers, counters := r.counters, edges := r.edges, nb := r.nb, nw := r.nw
      runClk := r.runClk, clkAt := td0 s }
    gr := { s.gr with lBitN := r.pb, lWordN := r.pw } }

/-- Keys at which two areas differ. -/
def diffKeys (a b : SMap) : List Nat :=
  ((a ++ b).map (·.1)).eraseDups.filter (fun k => smGet a k != smGet b k)

/-- Dirty 32-bit words (LE_RETAIN_STAT). -/
def dirtyWords (s : State) : Nat :=
  let r := s.le.ret
  let bits (a b : SMap) : Nat := ((diffKeys a b).map (· / 32)).eraseDups.length
  let timers := (s.le.timers.filter (fun x => !r.timers.contains x)).length
  let counters := (s.le.counters.filter (fun x => !r.counters.contains x)).length
  let edges := ((s.le.edges.filter (fun x => !r.edges.contains x)).map (·.n / 32)).eraseDups.length
  min 16384 ((diffKeys s.le.q r.q).length + bits s.le.m r.m + (diffKeys s.le.w r.w).length + timers + counters + edges +
    bits s.le.nb r.nb + (diffKeys s.le.nw r.nw).length + bits s.gr.lBitN r.pb + (diffKeys s.gr.lWordN r.pw).length)

/-! Debug access and registers (R385, R387, R388). -/

/-- The value that LE_PEEK_DATA returns (R385, R388): the point in place, forces left out. -/
def peekData (s : State) : Nat :=
  let (word, sp, a) := s.le.peek
  let iw := smSet s.le.iw 0 (diWord s)
  let pb := joinMap s.gr.pBitF s.gr.lBit
  let pw := joinMap s.gr.pWordF s.gr.lWord
  let t : Task := { ((runningTask s).getD default) with
    inI := iw, inNb := s.le.nb, inNw := s.le.nw, inPb := pb, inPw := pw, outQ := s.le.q }
  let words : Nat := match sp with
    | 0 => 2112 | 1 => 2112 | 3 => 16384 | 4 => 1024 | 5 => 1024 | 7 => 1024 | 8 => 512 | 9 => 16 | _ => 0
  let bits : Nat := match sp with | 2 => 65536 | 4 => 1024 | 5 => 1024 | 6 => 4096 | 7 => 4096 | 8 => 2048 | _ => 0
  if 9 < sp then 0
  else if word then (if a < words then wordGet s t sp a else 0)
  else if a < bits ∨ (65536 ≤ a ∧ a < 65536 + 32 * words) then b2n (bitGet s t sp a)
  else 0

/-- A write to LE_PEEK_SEL selects a point (R385). -/
def peekWrite (v : Nat) (s : State) : State × Status :=
  ({ s with le := { s.le with peek := (v.testBit 24, getFld v 20 4, getFld v 0 20) } }, .ok)

/-- A write of 1 to LE_BRK_STAT.HIT clears it. -/
def brkWrite (v : Nat) (s : State) : State × Status :=
  (if v.testBit 31 then { s with le := { s.le with brk := (false, s.le.brk.2) } } else s, .ok)

/-- LE_PEEK_SEL written (R385). -/
def execLePeekSelWrite (r : Req) (value : Word) (s : State) : Res := .next (serveWrite r s (peekWrite value.toNat))

/-- LE_BRK_STAT.HIT cleared (R388). -/
def execBrkHitClear (r : Req) (s : State) : Res := .next (serveWrite r s (brkWrite (2 ^ 31)))

/-- The force digest (R375). -/
def forceDigest (s : State) : List Byte :=
  (Config.sha512 (s.le.forces.flatMap (fun f => leBytes 4 f.point ++ leBytes 4 f.value))).take 8

/-- The held task. -/
def held (s : State) : Option Task :=
  if s.le.mode = .hold then (match s.le.heldTask with | some n => taskOf s n | none => none) else none

/-- Reads of the LE_ block (R388). -/
def leRead (s : State) (a : Nat) : Option Nat :=
  let rc := runClkNow s / 1000
  let h := held s
  if a < 0x40100 then
    match a - 0x40000 with
    | 0x00 => some (match s.le.sec with | some sec => 4 + sec.retainInc % 4 | none => 0)
    | 0x04 =>
      let left := if s.le.mode = .hold then 600 - nsAll (td0 s - s.le.holdAt) / 1000000000 else 0
      some (fld 22 10 left + fld 16 1 (b2n s.le.coldPend) + fld 12 4 s.le.cause + fld 8 4 s.le.prev + s.le.mode.toNat)
    | 0x08 => some (maskOf 24 (fun n => s.le.tasks.any (fun (t : Task) => t.num == n && midCycle t)))
    | 0x0C => some (maskOf 24 (fun n => (taskCfg s n).isSome))
    | 0x10 => some (fld 16 16 s.le.wdCount + fld 0 5 s.le.wdTask)
    | 0x14 => some s.le.etDrop
    | 0x18 => some s.le.skipCnt
    | 0x1C => some s.le.forces.length
    | 0x20 => some (leAt (forceDigest s) 0 4)
    | 0x24 => some (leAt (forceDigest s) 4 4)
    | 0x28 =>
      let age := match s.le.dirtySince with | some t => min 65535 (nsAll (td0 s - t) / 10000) | none => 0
      some (if s.le.dirtySince.isSome then fld 16 16 (dirtyWords s) + age else 0)
    | 0x2C => some (fld 28 4 s.le.changeSt + fld 0 16 s.le.changeRes)
    | 0x30 => some s.le.changeWave
    | 0x34 => some (fld 31 1 (b2n s.le.brk.1) + fld 24 5 s.le.brk.2.1 + fld 0 18 s.le.brk.2.2)
    | 0x38 => some (fld 24 1 (b2n s.le.peek.1) + fld 20 4 s.le.peek.2.1 + fld 0 20 s.le.peek.2.2)
    | 0x3C => some (peekData s)
    | 0x40 => some (match h with | some t => fld 24 5 t.num + fld 0 18 t.pc | none => 0)
    | 0x44 => some (match h with | some t => t.acc.toNat | none => 0)
    | 0x48 => some (match h with
      | some t => fld 31 1 (b2n t.rlo) + fld 30 1 (b2n t.ov) + fld 24 5 t.nest.length +
          maskOf 16 (fun i => match t.nest[i]? with | some e => e.1 | none => false)
      | none => 0)
    | 0x4C => some (rc % 2 ^ 32)
    | 0x50 => some (rc / 2 ^ 32 % 2 ^ 32)
    | _ => none
  else if a < 0x40100 + 24 * 16 then
    let n := (a - 0x40100) / 16
    let t := (taskOf s n).getD default
    match (a - 0x40100) % 16 with
    | 0 => some (match taskCfg s n with
      | some c => fld 31 1 (b2n (decide (8 ≤ n))) + fld 24 3 c.prio + fld 0 24 (if n < 8 then c.period else c.maxUs)
      | none => 0)
    | 4 => some t.last
    | 8 => some t.max
    | 12 => some t.cycles
    | _ => none
  else none

end Sys2Proof.Machine
end

