-- ==== Sys2Proof/Machine/Process.lean ====
section
/-! DEFINITION. The universal process channels: sequencer, conversions, values, outputs, diagnostics and the process
barrier (R438 to R470). -/

namespace Sys2Proof.Machine

/-- The channel record `n`. -/
def procChan (s : State) (n : Nat) : ProcChan := s.upc.ch.getD n ProcChan.reset

/-- One channel changed. -/
def updChan (n : Nat) (f : ProcChan → ProcChan) (s : State) : State :=
  { s with upc := { s.upc with ch := putAt 4 s.upc.ch n (f (procChan s n)) } }

/-- One sequencer entry changed. -/
def updEntry (e : Nat) (f : SeqEntry → SeqEntry) (s : State) : State :=
  { s with upc := { s.upc with ent := putAt 32 s.upc.ent e (f (s.upc.ent.getD e default)) } }

/-- The definition of an entry in the image (PID 0x0B10, R446). -/
def imgEntry (s : State) (e : Nat) : Option SeqCfg :=
  (prm s 0x0B10 e).map (fun b =>
    { chan := leAt b 0 1, meas := leAt b 1 1, filter := leAt b 2 1, rate := leAt b 3 1, settle := leAt b 4 2
      count := leAt b 6 2 % 8192, primary := decide (32768 ≤ leAt b 6 2) })

/-- Every configuration word has been adopted (R460). -/
def procConfigured (s : State) : Bool := decide (85 ≤ s.upc.cfgDone.length)

/-- The mode in force: off until every word has been adopted (R460). -/
def modeOf (s : State) (n : Nat) : Nat := if procConfigured s then (procChan s n).mode else 0

/-- NE 43 interpretation is on (PID 0x0B01). -/
def ne43On (s : State) (n : Nat) : Bool := pv s 0x0B01 n 3 1 0 == 1

/-- Periodic mode (PID 0x0B11). -/
def periodic (s : State) : Bool := pv s 0x0B11 0 0 1 0 == 1

/-- The start interval in counter units (PID 0x0B11). -/
def startInterval (s : State) : Nat := usT (pv s 0x0B11 0 4 4 1000000)

/-- Oversampling ratio of a rate code (R447). -/
def osrOf : Nat → Nat
  | 0 => 409600 | 1 => 204800 | 2 => 163840 | 3 => 81920 | 4 => 40960 | 5 => 32768 | 6 => 16384 | 7 => 8192
  | 8 => 4096 | 9 => 2048 | 10 => 1024 | 11 => 512 | 12 => 256 | _ => 131

/-- Conversions discarded before a kept one (R448). -/
def discardsOf (filter : Nat) : Nat := if filter = 0 then 3 else if filter = 1 then 5 else 6

/-- The filter's group delay in counter units (R450): 1.5 or 2.5 × OSR periods of 1 / 4.096 MHz (15 625 / 64 ns). -/
def groupDelay (filter rate : Nat) : Nat :=
  (if filter = 0 then 3 else 5) * osrOf rate * 15625 * 2 ^ 40 / 128

/-- The value of a code in its unit as a ratio (R441): V, mA, ohm or degC. -/
def codeValue (mode meas : Nat) (sum : Int) (n : Nat) : Int × Nat :=
  let n := if n = 0 then 1 else n
  if meas = 2 then (sum, n * 1000)
  else if meas = 4 then (sum * 4, n * 1000000)
  else if meas = 1 ∨ mode = 4 then (sum, n * 2000)
  else if mode = 1 then (sum * 2, n * 1000000)
  else if mode = 2 ∨ mode = 3 then (sum * 4, n * 1000000)
  else if mode = 5 then (sum, n * 100000000)
  else (sum * 4, n * 1000000)

/-- A result's input exceeds the measurement's range (R441): 10.5 V in mode 1, 25 mA in modes 2 and 3, 82 mV in mode 5. -/
def beyondRange (mode meas : Nat) (code : Int) : Bool :=
  meas == 0 && (match mode with
    | 1 => decide (5250000 < code.natAbs)
    | 2 => decide (6250000 < code.natAbs)
    | 3 => decide (6250000 < code.natAbs)
    | 5 => decide (8200000 < code.natAbs)
    | _ => false)

/-- R(t) / R0 of IEC 60751 at t in 10^-6 degC, times 10^39 (PRESUMED, log entry 9: A = 3.9083e-3, B = -5.775e-7,
C = -4.183e-12 below 0 degC). -/
def rtdRatio (t : Int) : Int :=
  10 ^ 39 + 39083 * t * 10 ^ 26 - 5775 * t * t * 10 ^ 17 - (if t < 0 then 4183 * (t - 100000000) * t * t * t else 0)

/-- The greatest t of `lo` to `lo + 2^k` at which R0 × R(t) / R0 does not exceed rn / rd. -/
def rtdSearch (r0 rn : Int) (rd : Nat) : Nat → Int → Int
  | 0, lo => lo
  | k + 1, lo =>
    let mid := lo + 2 ^ k
    rtdSearch r0 rn rd k (if r0 * rtdRatio mid * rd ≤ rn * 10 ^ 39 then mid else lo)

/-- Temperature in 10^-6 degC of an RTD (0 Pt100, 1 Pt1000) by its resistance in ohms, and whether it lies in the sensor's
range of -200 degC to 850 degC (R442). -/
def rtdTemp (sensor : Nat) (rn : Int) (rd : Nat) : Int × Bool :=
  let r0 : Int := if sensor = 1 then 1000 else 100
  let at_ (t : Int) : Int := r0 * rtdRatio t * rd
  if rn * 10 ^ 39 < at_ (-200000000) ∨ at_ 850000000 < rn * 10 ^ 39 then (Config.rtdBeyond sensor rn rd, false)
  else (min 850000000 (rtdSearch r0 rn rd 30 (-200000000)), true)

/-- A binary32 parameter as a ratio over 2^149. -/
def fRatio (w : Nat) : Int := fInt (BitVec.ofNat 32 w)

/-- NE 43 state of a current in mA given as a ratio (R444). -/
def ne43State (x : Int × Nat) : Nat :=
  let v := x.1 * 10
  let d : Int := x.2
  if v ≤ 36 * d ∨ 210 * d ≤ v then 3 else if 38 * d ≤ v ∧ v ≤ 205 * d then 0 else if v < 38 * d then 1 else 2

/-- The readback of an output channel as a ratio in mA or V (R454): 6.25 uA or 5 mV per code, 12 bits. -/
def readback (mode rb : Nat) : Int × Nat := if mode = 6 then ((rb : Int) * 625, 100000) else (sgn 12 rb * 5, 1000)

/-- The characteristic's output by table: linear interpolation between 33 points (R443). -/
def tableY (b : List Byte) (x : Int × Nat) : Word × Bool :=
  let px (i : Nat) : Int := fRatio (leAt b (8 * i) 4)
  let py (i : Nat) : Int := fRatio (leAt b (8 * i + 4) 4)
  let xs : Int := x.1 * 2 ^ 149
  let d : Int := x.2
  if xs < px 0 * d then (BitVec.ofNat 32 (leAt b 4 4), true)
  else if px 32 * d < xs then (BitVec.ofNat 32 (leAt b 260 4), true)
  else
    let i := ((List.range 32).filter (fun i => decide (px i * d ≤ xs))).getLastD 0
    let dx := px (i + 1) - px i
    if dx ≤ 0 then (BitVec.ofNat 32 (leAt b (8 * i + 4) 4), false)
    else
      -- y = y_i + (y_{i+1} - y_i) (x - x_i) / dx, over the common denominator
      let num := py i * (dx * d) + (py (i + 1) - py i) * (xs - px i * d)
      (fOfRat num (dx * d * 2 ^ 149).toNat, false)

/-- The I word y of an input channel from x, and whether the value was clamped (R443). -/
def characteristic (s : State) (n : Nat) (x : Int × Nat) : Word × Bool :=
  let kind := pv s 0x0B01 n 4 1 0
  let lo := fRatio (pv s 0x0B01 n 8 4 0)
  let hi := fRatio (pv s 0x0B01 n 12 4 0)
  let y0w := pv s 0x0B02 n 0 4 0
  let y1w := pv s 0x0B02 n 4 4 0x42C80000
  let y0 := fRatio y0w
  let y1 := fRatio y1w
  if kind = 2 then tableY ((prm s 0x0B03 n).getD []) x
  else
    -- p = pn / pd
    let pn := x.1 * 2 ^ 149 - lo * x.2
    let pd := (hi - lo) * x.2
    let (pn, pd) := if pd < 0 then (-pn, -pd) else (pn, pd)
    if pd = 0 then (Config.flatCharacteristic x.1 x.2, false)
    else if pn < 0 then (BitVec.ofNat 32 y0w, true)
    else if pd < pn then (BitVec.ofNat 32 y1w, true)
    else if kind = 0 then (fOfRat (y0 * pd + (y1 - y0) * pn) (pd * 2 ^ 149).toNat, false)
    else
      let cut := fRatio (pv s 0x0B02 n 8 4 0x3C23D70A)
      if pn * 2 ^ 149 < cut * pd then (BitVec.ofNat 32 y0w, false)
      else
        let root : Int := sqrtFix pn.toNat pd.toNat
        (fOfRat (y0 * 2 ^ 64 + (y1 - y0) * root) (2 ^ 213), false)

/-- The validity of I word 17 + 2n by the first matching row (R445). -/
def procValidity (s : State) (n : Nat) : Nat :=
  let c := procChan s n
  let age := td0 s - c.passAt
  let late := if periodic s then decide (3 * startInterval s < age)
    else decide (max (3 * c.passDur) (msT 100) < age)
  let input := decide (c.mode ≤ 5)
  if c.mode = 0 ∨ !s.upc.up ∨ c.openLoop ∨ c.tcOpen ∨ c.ne43 = 3 ∨ (input && late) then 1
  else if c.ovr ∨ c.ne43 = 1 ∨ c.ne43 = 2 ∨ c.clamped ∨ (c.mode = 5 ∧ c.cold.isNone) ∨
    (c.mode = 4 ∧ c.wires = 3 ∧ c.lead.isNone) ∨ c.settle then 3
  else 0

/-- An I word of a channel, or a bit of it, is forced (R374). -/
def procForced (s : State) (n : Nat) : Bool :=
  s.le.forces.any (fun (f : Force) =>
    let a := f.point % 2 ^ 20
    f.point / 2 ^ 20 % 16 == 0 && (if f.point / 2 ^ 24 % 2 = 1 then a == 16 + 2 * n
      else decide (65536 ≤ a) && (a - 65536) / 32 == 16 + 2 * n))

/-- The quality byte of a process channel (R445): SYNC always 0, TEST and SUBST while injected or forced. -/
def procQual (s : State) (n : Nat) : BitVec 8 :=
  let c := procChan s n
  let inj := injOn s 0x17 n || injOn s 0x18 n || injOn s 0x19 n || injOn s 0x1A n || injOn s 0x1B n || procForced s n
  BitVec.ofNat 8 (procValidity s n + fld 2 1 (b2n c.ovr) + fld 3 1 (b2n c.settle) + fld 4 1 (b2n inj) + fld 5 1 (b2n inj))

/-- I words 16 + 2n and 17 + 2n take this lane's values, unless the agreed values of the active rule (R463). -/
def putProcWords (n : Nat) (y : Word) (s : State) : State :=
  let q := procQual s n
  let s := updChan n (fun c => { c with qual := q }) s
  let st := q.toNat + fld 8 2 (procChan s n).ne43
  let s := sendAgree 4 (s.acq.wave + 1) [n, y.toNat, st] s
  if s.pr.st = .twin ∧ !s.pr.active then s
  else { s with le := { s.le with iw := smSet (smSet s.le.iw (16 + 2 * n) y.toNat) (17 + 2 * n) st } }

/-- The channel's quality is judged again; its value stays (R445). -/
def refreshQual (n : Nat) (s : State) : State :=
  putProcWords n (BitVec.ofNat 32 (smGet s.le.iw (16 + 2 * n))) s

/-- All four channels judged again. -/
def refreshAll (s : State) : State := refreshQual 3 (refreshQual 2 (refreshQual 1 (refreshQual 0 s)))

/-- `some` now while a condition holds, keeping its first instant. -/
def sinceIf (s : State) (b : Bool) (o : Option Nat) : Option Nat := if b then some (o.getD (td0 s)) else none

/-- The engineering value x of an input channel from the mean of its primary pass (R442), and whether x lies outside
the sensor's range. -/
def engValue (s : State) (n : Nat) (sum : Int) (cnt : Nat) : (Int × Nat) × Bool :=
  let c := procChan s n
  let v := codeValue c.mode 0 sum cnt
  if c.mode = 4 then
    let r : Int × Nat :=
      if c.wires = 3 then
        let l := c.lead.getD (0, 1)
        (v.1 * (2000 * max 1 l.2) - l.1 * v.2, v.2 * (2000 * max 1 l.2))
      else if c.wires = 2 then
        (v.1 * 2 ^ 149 - fRatio (pv s 0x0B04 n 0 4 0) * v.2, v.2 * 2 ^ 149)
      else v
    let (t, inR) := rtdTemp c.sensor r.1 r.2
    ((t, 1000000), !inR)
  else if c.mode = 5 then
    let (t, inR) := Config.tcTemp c.sensor v.1 v.2 (c.cold.getD (0, 1)).1 (c.cold.getD (0, 1)).2
    ((t, 1000000), !inR)
  else (v, false)

/-- The primary entry of a channel ends a pass: the value, its state and the I words are formed (R442 to R445). -/
def passEnd (n : Nat) (sum : Int) (cnt : Nat) (ovr : Bool) (s : State) : State :=
  let c := procChan s n
  let (x, out) := engValue s n sum cnt
  let cur := c.mode = 2 ∨ c.mode = 3
  let ne := if cur ∧ ne43On s n then ne43State x else 0
  let (y, cl) := characteristic s n x
  let lowLoop := c.mode = 3 ∧ x.1 * 2 < x.2
  let c' := { c with
    ne43 := ne, ovr := ovr, clamped := cl, settle := false, outRange := out
    passDur := td0 s - s.upc.passStart, passAt := td0 s, signal := some (sum / (if cnt = 0 then 1 else cnt))
    rangeSince := sinceIf s (ne = 3 || ovr || out) c.rangeSince
    openSince := if c.mode = 3 then sinceIf s lowLoop c.openSince else c.openSince
    openCause := if c.mode = 3 then 3 else c.openCause
    clearSince := putAt 4 (putAt 4 c.clearSince 0 (if c.mode = 3 then sinceIf s (!lowLoop) (c.clearSince.getD 0 none)
      else c.clearSince.getD 0 none)) 2 (sinceIf s (!(ne = 3 || ovr || out)) (c.clearSince.getD 2 none)) }
  putProcWords n y (updChan n (fun _ => c') s)

/-- The first configured entry at or after `e` (R446: ascending entry order). -/
def nextEntry (s : State) (e : Nat) : Option Nat :=
  (List.range 32).find? (fun i => decide (e ≤ i) && (s.upc.ent.getD i default).cfg.isSome)

/-- A conversion's settle rule: discards before the first kept result when anything differs from the conversion
before (R448). -/
def discardsFor (s : State) (k : Nat × Nat × Nat × Nat) : Nat :=
  if s.upc.prevConv = some k then 0 else discardsOf k.2.2.1

/-- An entry begins or resumes (R448, R452). -/
def beginEntry (e : Nat) (s : State) : State :=
  match (s.upc.ent.getD e default).cfg with
  | none => s
  | some k => { s with upc := { s.upc with cur := e, discLeft := discardsFor s (k.chan, k.meas, k.filter, k.rate) } }

/-- A pass starts at its first entry (R449). -/
def startPass (s : State) : State :=
  let clear := s.upc.ent.map (fun (e : SeqEntry) => { e with sum := 0, kept := 0, ovr := false })
  match nextEntry s 0 with
  | none => { s with upc := { s.upc with running := false } }
  | some e => beginEntry e { s with upc := { s.upc with running := true, ent := clear, passStart := td0 s } }

/-- A pass ends: the next one starts in continuous mode, or when a start is latched (R449). -/
def endPass (s : State) : State :=
  let s := { s with upc := { s.upc with passes := (s.upc.passes + 1) % 65536, running := false } }
  if !periodic s then startPass s
  else if s.upc.latched then startPass { s with upc := { s.upc with latched := false } }
  else s

/-- An urgent conversion begins (R452). -/
def beginUrgent (u : Urgent) (s : State) : State :=
  { s with upc := { s.upc with
      urgent := some u, urgWait := none, discLeft := discardsFor s (u.chan, u.meas, u.filter, u.rate) } }

/-- At a conversion's end an urgent request pre-empts; otherwise nothing (R452). -/
def takeUrgent (s : State) : State :=
  match s.upc.urgWait with
  | some u => if s.upc.urgent.isNone then beginUrgent u s else s
  | none => s

/-- The TD1 stamp of a result: completion less the group delay (R450). -/
def resultStamp (s : State) (filter rate : Nat) : Nat := td1 s - groupDelay filter rate

/-- One result in a snap window: sum, squares, count and extremes with their stamps; FULL at 131 072 (R450, R451). -/
def addResult (w : Window) (code : Int) (ovr : Bool) (t : Nat) : Window :=
  if w.full then w
  else
    { w with
      count := w.count + 1, sum := w.sum + code, sumsq := w.sumsq + code.natAbs * code.natAbs
      qualOr := if ovr then w.qualOr ||| 4 else w.qualOr
      min := if w.count = 0 ∨ code < w.min then code else w.min
      minAt := if w.count = 0 ∨ code < w.min then (secOf t, nsOf t) else w.minAt
      max := if w.count = 0 ∨ w.max < code then code else w.max
      maxAt := if w.count = 0 ∨ w.max < code then (secOf t, nsOf t) else w.maxAt
      full := decide (131072 ≤ w.count + 1) }

/-- An empty snap window that begins now. -/
def newWindow (s : State) : Window := { (default : Window) with start := (secOf (td1 s), nsOf (td1 s)) }

/-- An urgent conversion's kept result goes to its requester alone; the sequence resumes (R452). A verification agrees with what
lies within the 0.1 mA of R454 (DESIGN CHOICE, log entry 85). -/
def urgentDone (u : Urgent) (code : Int) (s : State) : State :=
  let t := resultStamp s u.filter u.rate
  let c := procChan s u.chan
  let v := codeValue c.mode u.meas code 1
  let s :=
    if u.verify then
      let cmd : Int × Nat := ((c.dac : Int) * 24, 65535)
      let rb := readback 6 c.rb
      let near (a b : Int × Nat) : Bool :=
        decide ((a.1 * b.2 - b.1 * a.2).natAbs * 10 ≤ a.2 * b.2)
      updChan u.chan (fun c => { c with verified := if near v cmd then 1 else if near v rb then 2 else 0 }) s
    else
      respond u.req 0x0041 .ok false
        (leBytes 4 (unsgn 32 code) ++ leBytes 4 (fOfRat v.1 v.2).toNat ++ stamp t) s
  let s := { s with upc := { s.upc with urgent := none } }
  if s.upc.running then beginEntry s.upc.cur s else s

/-- A kept result of the entry in progress (R442, R449, R450). -/
def keepResult (code : Int) (ovr : Bool) (k : SeqCfg) (s : State) : State :=
  let e := s.upc.cur
  let t := resultStamp s k.filter k.rate
  let s := if s.upc.up then
      let s := updEntry e (fun x => { x with
        sum := x.sum + code, kept := x.kept + 1, ovr := x.ovr || ovr, win := addResult x.win code ovr t }) s
      let rs := (s.upc.results ++ [(e, false, ovr, code)]).drop (s.upc.results.length + 1 - 2)
      { s with upc := { s.upc with results := rs } }
    else updEntry e (fun x => { x with kept := x.kept + 1 }) s
  let x := s.upc.ent.getD e default
  if k.count ≤ x.kept then
    let s := updEntry e (fun x => { x with passes := (x.passes + 1) % 65536 }) s
    let s := if !s.upc.up then s
      else if k.primary then passEnd k.chan x.sum x.kept x.ovr s
      else if k.meas = 1 then updChan k.chan (fun c => { c with lead := some (x.sum, x.kept) }) s
      else if k.meas = 2 then updChan k.chan (fun c => { c with cold := some (x.sum, x.kept) }) s
      else s
    match nextEntry s (e + 1) with
    | some e' => beginEntry e' s
    | none => endPass s
  else s

/-- A sigma-delta conversion completes (R441 to R452). -/
def conversionComplete (code : Int) (ovr : Bool) (s : State) : State :=
  if !hasUpc s || s.upc.stopped || !(s.upc.running || s.upc.urgent.isSome) then s
  else
    let s := match s.upc.urgent with
      | some u =>
        let key := (u.chan, u.meas, u.filter, u.rate)
        let dl := s.upc.discLeft
        let s := { s with upc := { s.upc with prevConv := some key } }
        if 0 < dl then
          { s with upc := { s.upc with discLeft := dl - 1, discard := satInc 32 s.upc.discard } }
        else urgentDone u code s
      | none => match (s.upc.ent.getD s.upc.cur default).cfg with
        | none => s
        | some k =>
          let dl := s.upc.discLeft
          let s := { s with upc := { s.upc with prevConv := some (k.chan, k.meas, k.filter, k.rate) } }
          if 0 < dl then
            updEntry s.upc.cur (fun x => { x with discarded := x.discarded + 1 })
              { s with upc := { s.upc with discLeft := dl - 1, discard := satInc 32 s.upc.discard } }
          else keepResult code (ovr || beyondRange (procChan s k.chan).mode k.meas code || injOn s 0x1A k.chan) k s
    takeUrgent s

/-- CONVERSION_COMPLETE. -/
def execConversionComplete (code : Int) (ovr : Bool) (s : State) : Res := .next (conversionComplete code ovr s)

/-- A periodic start arrives: a pass starts, is latched, or is dropped as overlap (R449). -/
def seqPassStart (s : State) : State :=
  if !hasUpc s || !s.upc.startIn then s
  else
    let s := { s with upc := { s.upc with startIn := false } }
    if s.upc.stopped && !s.upc.running then s
    else if !s.upc.running then startPass s
    else if !s.upc.latched then { s with upc := { s.upc with latched := true } }
    else
      let n := s.upc.overlapSince + 1
      let s := { s with upc := { s.upc with overlap := satInc 32 s.upc.overlap, overlapSince := n } }
      if s.upc.overlapSec = some (secOf (td0 s)) then s
      else submit .upc 0x7011 n { s with upc := { s.upc with overlapSince := 0, overlapSec := some (secOf (td0 s)) } }

/-- SEQ_PASS_START. -/
def execSeqPassStart (s : State) : Res := .next (seqPassStart s)

/-! Outputs and the downstream frame. -/

/-- A value clamped between two ratios over 2^149. -/
def clampInt (lo hi v : Int) : Int := if v < lo then lo else if hi < v then hi else v

/-- The DAC code of a command (R453): a NaN drives the failure current, or 0 V. -/
def dacCode (s : State) (n : Nat) (mode : Nat) (q : Word) : Nat :=
  let big : Int := 2 ^ 270
  if mode = 6 then
    let w := if fIsNan q then failureCurrent s n else q
    let v : Int := if fIsInf w then (if fNeg w then -big else big) else fInt w
    let v := if fIsNan q then v
      else if ne43On s n then clampInt (fInt 0x40733333#32) (fInt 0x41A40000#32) v else clampInt 0 (24 * 2 ^ 149) v
    rne (v.toNat * 65535) (24 * 2 ^ 149)
  else
    let v : Int := if fIsNan q then 0 else if fIsInf q then (if fNeg q then -big else big) else fInt q
    let v := clampInt (-10 * 2 ^ 149) (10 * 2 ^ 149) v
    min 65535 (rne ((v * 100 + 1024 * 2 ^ 149).toNat * 32768) (1024 * 2 ^ 149))

/-- The command word of an output channel: its Q word as driven, the failure value while a mismatch is in force
(R454), 1.0 mA during the start-up test (R455). -/
def procCommand (s : State) (n : Nat) : Nat :=
  let c := procChan s n
  if c.testAt.isSome then dacCode s n 6 0x3F800000#32
  else if c.mismatch then (if c.mode = 6 then dacCode s n 6 0x7FC00000#32 else dacCode s n 7 0#32)
  else dacCode s n c.mode (BitVec.ofNat 32 (outQ s (16 + 2 * n)))

/-- Outputs have been released since power-up and the process barrier is up: RELEASE (R45, R459, R462). -/
def procRelease (s : State) : Bool := s.upc.up && (running s || s.fio.fsRel)

/-- An output stage is enabled: an output mode, not changing, this lane holds the binding (R463, R464), and the
barrier is released. -/
def stageEnabled (s : State) (n : Nat) : Bool :=
  let c := procChan s n
  (c.mode == 6 || c.mode == 7) && c.newMode.isNone && s.pads.bindOut && procRelease s

/-- Configuration word `i` (R460). The four words of a channel are mode, sensor, wires and diagnostics. -/
def procCfgWord (s : State) (i : Nat) : Nat :=
  if i < 64 then match prm s 0x0B10 (i / 2) with
    | some b => leAt b (4 * (i % 2)) 4
    | none => 0
  else if i < 80 then
    let n := (i - 64) / 4
    let c := procChan s n
    let (m, se, w) := c.newMode.getD (c.mode, c.sensor, c.wires)
    if i % 4 = 0 then m else if i % 4 = 1 then se else if i % 4 = 2 then w
    else pv s 0x0B05 n 0 2 500 + fld 16 8 (pv s 0x0B05 n 4 1 1)
  else if i < 84 then (failureCurrent s (i - 80)).toNat
  else pv s 0x0B11 0 0 1 0

/-- The process side takes a configuration word: it adopts a value received twice in succession (R414, R460). -/
def procAdopt (i d : Nat) (s : State) : State :=
  let seen := s.upc.cfgSeen.find? (·.1 == i)
  let s := { s with upc := { s.upc with cfgSeen := (i, d) :: s.upc.cfgSeen.filter (·.1 != i) } }
  if seen = some (i, d) then
    { s with upc := { s.upc with
        cfg := smSet s.upc.cfg i d
        cfgDone := if s.upc.cfgDone.contains i then s.upc.cfgDone else i :: s.upc.cfgDone } }
  else s

/-- The process side has received a downstream frame (R459, R460, R462): it leaves SAFE with RELEASE after two good
frames, takes the configuration word, a start and an urgent request. -/
def processDownstream (release start : Bool) (i d : Nat) (s : State) : State :=
  let s := procAdopt i d s
  let good := s.upc.psGood + 1
  let safe := s.upc.psSafe && !(release && decide (2 ≤ good))
  let s := { s with upc := { s.upc with
    psBad := 0, psGood := good, psSafe := safe, psSeq := s.upc.seq, psDownErr := false
    startIn := s.upc.startIn || start } }
  let s := match s.upc.urgPend with
    | some u => { s with upc := { s.upc with urgPend := none, urgWait := some u } }
    | none => s
  let s := if s.upc.stopped && !safe && procConfigured s then
      let s := { s with upc := { s.upc with stopped := false } }
      if s.upc.running then beginEntry s.upc.cur s else if periodic s then s else startPass s
    else s
  if s.upc.running || s.upc.stopped then s else takeUrgent s

/-- A start goes out in the frame at each TD1 multiple of the start interval (R449). -/
def startFlag (s : State) : Bool :=
  periodic s && decide (td1 s % startInterval s < usT 32)

/-- A downstream process frame starts (R459): DAC codes, OUT_EN, start, urgent request and a configuration word go
out; `arrives` says whether the process side receives it good. -/
def processFrameStart (arrives : Bool) (s : State) : State :=
  if !hasUpc s || !s.pw.convertersOn then s
  else
    let restored := s.upc.restorePend
    let s := if restored then
        let s := { s with upc := { s.upc with restorePend := false, up := true } }
        let s := if detOn s 0x16 0 then submit .upc 0x7002 0 (clearDet 0x16 0 s) else s
        { s with upc := { s.upc with ch := s.upc.ch.map (fun (c : ProcChan) =>
            { c with testAt := if c.mode = 6 ∧ !c.tested then some (td0 s) else c.testAt }) } }
      else s
    let start := startFlag s
    let i := s.upc.cfgIdx
    let d := procCfgWord s i
    let release := procRelease s
    let flags := fld 0 1 (b2n release) + fld 1 1 (b2n start) + fld 2 1 (b2n s.upc.urgPend.isSome) +
      fld 3 1 (b2n (s.upc.urgPend.any (·.verify)))
    let cs := (List.range 4).map (fun n =>
      let c := procChan s n
      if c.mode = 6 ∨ c.mode = 7 then { c with enabled := stageEnabled s n, dac := procCommand s n }
      else { c with enabled := false, dac := 0 })
    let s := { s with upc := { s.upc with
      seq := (s.upc.seq + 1) % 256, frameIdx := gridT1 s / usT 32, sentFlags := BitVec.ofNat 8 flags, released := release
      cfgIdx := (i + 1) % 85, ch := cs } }
    if arrives && !injOn s 0x16 0 then processDownstream release start i d s
    else { s with upc := { s.upc with
      psBad := s.upc.psBad + 1, psGood := 0, psDownErr := true, downErr := satInc 32 s.upc.downErr } }

/-- PROCESS_FRAME_START: at each 32 us multiple of the grid (R24, R156). -/
def execProcessFrameStart (arrives : Bool) (s : State) : Res :=
  if atMultiple 32 s.upc.frameIdx s then .next (processFrameStart arrives s) else .next s

/-- Three bad or missing downstream frames: the process side enters SAFE on its own, passes stop; the entry in progress awaits
its restart (R462). -/
def processSideSafe (s : State) : State :=
  if hasUpc s && decide (3 ≤ s.upc.psBad) && !s.upc.psSafe then
    { s with upc := { s.upc with psSafe := true, stopped := true, prevConv := none } }
  else s

/-- PROCESS_SIDE_SAFE. -/
def execProcessSideSafe (s : State) : Res := .next (processSideSafe s)

/-- The process barrier is lost (R462): UPC_BARRIER_CRC fires with a cause, values are invalid, commands are not
delivered, urgent requests answer BAD_STATE (R452), tests repeat at recovery (R465). -/
def procBarrierLost (cause : Nat) (s : State) : State :=
  if detOn s 0x16 0 then s
  else
    let us := ([s.upc.urgPend, s.upc.urgWait, s.upc.urgent].filterMap id).filter (fun u => !u.verify)
    let s := us.foldl (fun s u => answer u.req 0x0041 .badState s) s
    let s := { s with upc := { s.upc with
      up := false, released := false, restorePend := false, goodRun := 0, urgPend := none, urgWait := none, urgent := none
      ch := s.upc.ch.map (fun (c : ProcChan) => { c with testAt := none }) } }
    refreshAll (fireDet 0x16 0 cause s)

/-- An upstream process frame is bad or missing (R416, R462). -/
def processUpstreamMissing (s : State) : State :=
  if !hasUpc s then s
  else
    let n := s.upc.badRun + 1
    let s := { s with upc := { s.upc with upErr := satInc 32 s.upc.upErr, badRun := n, goodRun := 0 } }
    if 3 ≤ n then procBarrierLost 1 s else s

/-- PROCESS_UPSTREAM_MISSING. -/
def execProcessUpstreamMissing (s : State) : Res := .next (processUpstreamMissing s)

/-- No good process frame within 5 ms of start: cause 3, and start-up continues (R75, R462). -/
def upcSelftestTimeout (s : State) : State :=
  if hasUpc s && !s.upc.everUp then
    let s := submit .boot 0x0102 8 s
    procBarrierLost 3 s
  else s

/-- UPC_SELFTEST_TIMEOUT. -/
def execUpcSelftestTimeout (s : State) : Res := .next (upcSelftestTimeout s)

/-- A channel's readback, headroom and flags from an upstream frame (R454 to R457). -/
def chanFrame (n rb st : Nat) (s : State) : State :=
  let c := procChan s n
  let outp := (c.mode = 6 ∨ c.mode = 7) ∧ c.enabled
  let rb := if injOn s 0x18 n then 0
    else if injOn s 0x17 n then (rb + (if c.mode = 6 then 32 else 20)) % 4096 else rb % 4096
  let head := st % 2 = 1 ∨ injOn s 0x19 n
  let tc := (st / 8) % 2 = 1 ∨ injOn s 0x1B n
  let v := readback c.mode rb
  let cmd : Int × Nat := if c.mode = 6 then ((c.dac : Int) * 24, 65535) else (((c.dac : Int) - 32768) * 1024, 3276800)
  let diff := (v.1 * cmd.2 - cmd.1 * v.2).natAbs
  let bad := decide outp && decide (c.testAt.isNone) &&
    (if c.mode = 6 then decide (v.2 * cmd.2 < diff * 10) else decide (v.2 * cmd.2 < diff * 20))
  let low := decide (c.mode = 6) && decide outp && decide (v.1 * 20 < v.2) && decide ((cmd.2 : Int) ≤ cmd.1)
  let lowHead := decide (c.mode = 6) && decide outp && decide head
  updChan n (fun c => { c with
    rb := rb, saturated := decide head, foldback := (st / 2) % 2 == 1, failure := (st / 4) % 2 == 1, tcHigh := decide tc
    mismatchSince := sinceIf s bad c.mismatchSince
    agreeSince := if c.mismatch then sinceIf s (!bad) c.agreeSince else none
    headSince := sinceIf s lowHead c.headSince
    openSince := if c.mode = 6 then sinceIf s low c.openSince else c.openSince
    openCause := if c.mode = 6 then 2 else c.openCause
    clearSince := putAt 4 (putAt 4 (putAt 4 c.clearSince 1 (sinceIf s (!lowHead) (c.clearSince.getD 1 none))) 0
      (if c.mode = 6 then sinceIf s (!low) (c.clearSince.getD 0 none) else c.clearSince.getD 0 none)) 3
      (sinceIf s (!decide tc) (c.clearSince.getD 3 none)) }) s

/-- An output channel's I word holds its readback in mA or V (R453). -/
def putReadback (n : Nat) (s : State) : State :=
  let c := procChan s n
  if c.mode = 6 ∨ c.mode = 7 then
    let v := readback c.mode c.rb
    putProcWords n (fOfRat v.1 v.2) s
  else refreshQual n s

/-- A mode the process side has adopted takes effect, and UPC_MODE_CHANGE is written (R464). -/
def adoptMode (n : Nat) (s : State) : State :=
  let c := procChan s n
  match c.newMode with
  | none => s
  | some (m, se, w) =>
    let at_ (k : Nat) := smGet s.upc.cfg (64 + 4 * n + k)
    let done := at_ 0 = m ∧ at_ 1 = se ∧ at_ 2 = w ∧ s.upc.cfgDone.contains (64 + 4 * n)
    if done then
      let s := updChan n (fun c => { c with
        mode := m, sensor := se, wires := w, newMode := none, settle := true, mismatch := false
        tested := if m = 6 then false else c.tested, testAt := if m = 6 then some (td0 s) else none }) s
      submit .upc 0x7010 (16 * m + n) s
    else s

/-- ACC_SNAP of kind 4 at a frame boundary: the record of an entry, and a new window (R451). -/
def entryRecord (s : State) (e : Nat) : List Byte :=
  let x := s.upc.ent.getD e default
  let settling := s.upc.running && s.upc.cur == e && decide (0 < s.upc.discLeft)
  let w := x.win
  leBytes 1 e ++ leBytes 1 (x.cfg.map (·.chan) |>.getD 0) ++ leBytes 1 (w.qualOr / 4 * 4) ++
  leBytes 1 (b2n w.full + 2 * b2n settling + 4 * b2n x.changed) ++
  leBytes 6 w.start.1 ++ leBytes 4 w.start.2 ++ leBytes 4 w.count ++ leBytes 4 x.discarded ++
  leBytes 8 (unsgn 64 w.sum) ++ leBytes 8 w.sumsq ++ leBytes 3 (unsgn 24 w.min) ++ leBytes 3 (unsgn 24 w.max) ++
  leBytes 6 w.minAt.1 ++ leBytes 4 w.minAt.2 ++ leBytes 6 w.maxAt.1 ++ leBytes 4 w.maxAt.2

/-- The entries of a mask, in ascending order. -/
def maskBits (m : Nat) : List Nat := (List.range 32).filter (fun i => m.testBit i)

/-- A waiting ACC_SNAP of kind 4 is answered and its windows restart (R451). -/
def answerSnap (p : Req × Nat) (s : State) : State :=
  let es := maskBits p.2
  let body := es.flatMap (entryRecord s)
  let s := es.foldl (fun s e =>
    updEntry e (fun x => { x with win := newWindow s, discarded := 0, changed := false }) s) s
  respond p.1 0x0040 .ok false body s

/-- A good upstream process frame: status, readbacks, channel states, PL24, temperature; results leave the process
side's queue; the barrier is judged (R454, R461, R462). -/
def processUpstreamRx (seq status : Nat) (rbs chStat : List Nat) (pl24 : Nat) (temp : Int) (s : State) : State :=
  if !hasUpc s then s
  else
    let conf := status.testBit 2
    let safe := status.testBit 0
    let s := { s with upc := { s.upc with
      everUp := true, badRun := 0, upSeq := some seq, safeRep := safe, configured := conf, pl24 := pl24, temp := temp
      goodRun := if conf then s.upc.goodRun + 1 else 0, results := s.upc.results.drop 2
      downErr := if status.testBit 1 then satInc 32 s.upc.downErr else s.upc.downErr } }
    let s := (List.range 4).foldl (fun s n => chanFrame n (rbs.getD n 0) (chStat.getD n 0) s) s
    let s := (List.range 4).foldl (fun s n => adoptMode n s) s
    let s := if safe && s.upc.up then procBarrierLost 2 s else s
    let s := if !s.upc.up && decide (16 ≤ s.upc.goodRun) then { s with upc := { s.upc with restorePend := true } } else s
    let s := (List.range 4).foldl (fun s n => putReadback n s) s
    let reqs := s.upc.snapReqs
    reqs.foldl (fun s p => answerSnap p s) { s with upc := { s.upc with snapReqs := [] } }

/-- PROCESS_UPSTREAM_RX. -/
def execProcessUpstreamRx (seq status : Nat) (rbs chStat : List Nat) (pl24 : Nat) (temp : Int) (s : State) : Res :=
  .next (processUpstreamRx seq status rbs chStat pl24 temp s)

/-! Urgent conversions. -/

/-- No urgent request is pending or in progress (R452). -/
def urgFree (s : State) : Bool := s.upc.urgPend.isNone && s.upc.urgWait.isNone && s.upc.urgent.isNone

/-- UPC_URGENT (R452): ABSENT without U_UPC, RANGE, BAD_STATE with the barrier lost, BUSY while one is pending. -/
def upcUrgent (r : Req) (chan meas filter rate settle : Nat) (s : State) : State :=
  serve r 0x0041 s (fun s =>
    if !hasUpc s then answer r 0x0041 .absent s
    else if 3 < chan ∨ 4 < meas ∨ 2 < filter ∨ 13 < rate ∨ 65535 < settle then answer r 0x0041 .range s
    else if !s.upc.up then answer r 0x0041 .badState s
    else if !urgFree s then
      answer r 0x0041 .busy { s with upc := { s.upc with urgDrop := satInc 32 s.upc.urgDrop } }
    else
      let u : Urgent :=
        { verify := false, req := r, chan := chan, meas := meas, filter := filter, rate := rate, settle := settle }
      { s with upc := { s.upc with urgPend := some u } })

/-- UPC_URGENT. -/
def execUpcUrgent (r : Req) (chan meas filter rate settle : Nat) (s : State) : Res :=
  .next (upcUrgent r chan meas filter rate settle s)

/-- A verification is due: a mode 6 channel, every 60 s, once when a mismatch first arises, or a dropped one's retry. -/
def verifyDue (s : State) (n : Nat) : Bool :=
  let c := procChan s n
  let arose : Bool := match c.mismatchSince with | some t => decide (c.verifyAt < t) | none => false
  c.mode == 6 && s.upc.up &&
    (due s c.verifyAt (secT 60) || arose ||
      s.upc.retry.any (fun p => p.1 == n && decide (p.2 ≤ td0 s)))

/-- A readback verification is issued; it takes the place of a host request at the same boundary, and is issued again
100 ms later when another one is pending (R452, R465). Its filter, rate and settle time are the model's (DESIGN CHOICE, log
entry 85). -/
def readbackVerification (n : Nat) (s : State) : State :=
  if !hasUpc s || !verifyDue s n then s
  else
    let u : Urgent :=
      { verify := true, req := ⟨.hpi, 0, 0⟩, chan := n, meas := 4, filter := 1, rate := 8, settle := 0 }
    let s := updChan n (fun c => { c with verifyAt := td0 s })
      { s with upc := { s.upc with retry := s.upc.retry.filter (·.1 != n) } }
    match s.upc.urgPend with
    | some v =>
      if v.verify then
        { s with upc := { s.upc with urgDrop := satInc 32 s.upc.urgDrop, retry := (n, td0 s + msT 100) :: s.upc.retry } }
      else
        let s := { s with upc := { s.upc with urgPend := some u, urgDrop := satInc 32 s.upc.urgDrop } }
        answer v.req 0x0041 .busy s
    | none =>
      if urgFree s then { s with upc := { s.upc with urgPend := some u } }
      else
        { s with upc := { s.upc with urgDrop := satInc 32 s.upc.urgDrop, retry := (n, td0 s + msT 100) :: s.upc.retry } }

/-- READBACK_VERIFICATION. -/
def execReadbackVerification (chan : Nat) (s : State) : Res := .next (readbackVerification chan s)

/-! Diagnostics (R454 to R458). -/

/-- A condition held since an instant for a time. -/
def heldFor (s : State) (o : Option Nat) (d : Nat) : Bool := match o with | some t => due s t d | none => false

/-- Readback differs for 100 ms: the detector fires and the channel drives its failure value (R454). -/
def upcReadbackMismatch (n : Nat) (s : State) : State :=
  let c := procChan s n
  if hasUpc s && decide (n < 4) && heldFor s c.mismatchSince (msT 100) && !c.mismatch then
    let s := updChan n (fun c => { c with mismatch := true, agreeSince := none }) s
    fireDet 0x17 n (16 * c.verified + n) s
  else s

/-- UPC_READBACK_MISMATCH. -/
def execUpcReadbackMismatch (chan : Nat) (s : State) : Res := .next (upcReadbackMismatch chan s)

/-- The mismatch has been absent for 1 s: the commanded value returns (R454). -/
def readbackMismatchClear (n : Nat) (s : State) : State :=
  let c := procChan s n
  if hasUpc s && decide (n < 4) && c.mismatch && heldFor s c.agreeSince (secT 1) then
    let s := updChan n (fun c => { c with mismatch := false, agreeSince := none, mismatchSince := none, verified := 0 }) s
    submit .upc 0x7008 (256 * 0x17 + n) (clearDet 0x17 n s)
  else s

/-- READBACK_MISMATCH_CLEAR. -/
def execReadbackMismatchClear (chan : Nat) (s : State) : Res := .next (readbackMismatchClear chan s)

/-- The 5 ms 1.0 mA test ends (R455): a readback below 0.5 mA is an open loop; otherwise the loop must leave the
headroom at the largest current. `mv` is V(FP, FN) in mV. -/
def outputStartupTest (n rb mv : Nat) (s : State) : State :=
  let c := procChan s n
  if hasUpc s && decide (n < 4) && heldFor s c.testAt (msT 5) then
    let s := updChan n (fun c => { c with tested := true, testAt := none }) s
    if rb * 625 < 50000 then
      fireDet 0x18 n (16 * 1 + n) (updChan n (fun c => { c with openLoop := true }) s)
    else
      -- R_loop × I_max against PL24 - 4 V, in mV over 2^149
      let imax := max (fInt 0x41A40000#32) (fInt (failureCurrent s n))
      if ((s.upc.pl24 : Int) - 4000) * 2 ^ 149 < (mv : Int) * imax then
        fireDet 0x19 n (16 * 1 + n) (updChan n (fun c => { c with compliance := true }) s)
      else s
  else s

/-- OUTPUT_STARTUP_TEST. -/
def execOutputStartupTest (chan rb mv : Nat) (s : State) : Res := .next (outputStartupTest chan rb mv s)

/-- Headroom below 1.0 V for the compliance time (R456): cause 2. -/
def upcCompliance (n : Nat) (s : State) : State :=
  let c := procChan s n
  if hasUpc s && decide (n < 4) && heldFor s c.headSince (msT (pv s 0x0B05 n 0 2 500)) && !c.compliance then
    fireDet 0x19 n (16 * 2 + n) (updChan n (fun c => { c with compliance := true }) s)
  else s

/-- UPC_COMPLIANCE. -/
def execUpcCompliance (chan : Nat) (s : State) : Res := .next (upcCompliance chan s)

/-- A loop current too low for 100 ms (R456): cause 2 in mode 6, 3 in mode 3. -/
def upcOpenLoop (n : Nat) (s : State) : State :=
  let c := procChan s n
  if hasUpc s && decide (n < 4) && heldFor s c.openSince (msT 100) && !c.openLoop then
    refreshQual n (fireDet 0x18 n (16 * c.openCause + n) (updChan n (fun c => { c with openLoop := true }) s))
  else s

/-- UPC_OPEN_LOOP. -/
def execUpcOpenLoop (chan : Nat) (s : State) : Res := .next (upcOpenLoop chan s)

/-- An input out of range for the signal-range time (R458). -/
def upcSignalRange (n : Nat) (s : State) : State :=
  let c := procChan s n
  if hasUpc s && decide (n < 4) && heldFor s c.rangeSince (msT (pv s 0x0B05 n 2 2 1000)) && !c.range then
    fireDet 0x1A n n (updChan n (fun c => { c with range := true }) s)
  else s

/-- UPC_SIGNAL_RANGE. -/
def execUpcSignalRange (chan : Nat) (s : State) : Res := .next (upcSignalRange chan s)

/-- The thermocouple test, once per second (R458): `high` says that the voltage exceeds 50 mV. -/
def tcTest (n : Nat) (high : Bool) (s : State) : State :=
  let c := procChan s n
  if hasUpc s && decide (n < 4) && c.mode == 5 && pv s 0x0B05 n 4 1 1 == 1 && due s c.tcAt (secT 1) then
    let high := high || injOn s 0x1B n
    let s := updChan n (fun c => { c with
      tcAt := td0 s, tcHigh := high, clearSince := putAt 4 c.clearSince 3 (sinceIf s (!high) (c.clearSince.getD 3 none)) }) s
    if high && !c.tcOpen then
      refreshQual n (fireDet 0x1B n n (updChan n (fun c => { c with tcOpen := true }) s))
    else s
  else s

/-- TC_TEST. -/
def execTcTest (chan : Nat) (high : Bool) (s : State) : Res := .next (tcTest chan high s)

/-- A process diagnostic has been absent for 1 s and clears (R458). -/
def upcDiagCleared (det n : Nat) (s : State) : State :=
  let c := procChan s n
  let k := if det = 0x18 then 0 else if det = 0x19 then 1 else if det = 0x1A then 2 else 3
  let on := if det = 0x18 then c.openLoop else if det = 0x19 then c.compliance else if det = 0x1A then c.range
    else det == 0x1B && c.tcOpen
  if hasUpc s && decide (n < 4) && on && heldFor s (c.clearSince.getD k none) (secT 1) then
    let s := updChan n (fun c =>
      if det = 0x18 then { c with openLoop := false } else if det = 0x19 then { c with compliance := false }
      else if det = 0x1A then { c with range := false } else { c with tcOpen := false }) s
    refreshQual n (submit .upc 0x7008 (256 * det + n) (clearDet det n s))
  else s

/-- UPC_DIAG_CLEARED. -/
def execUpcDiagCleared (det chan : Nat) (s : State) : Res := .next (upcDiagCleared det chan s)

/-! Mode writes. -/

/-- The sequencer table can serve a mode (R446): an input mode has a primary entry of measurement 0, a 3-wire RTD a
lead entry, a thermocouple a cold-junction entry, and every entry's measurement suits the mode. -/
def tableServes (s : State) (n mode wires : Nat) : Bool :=
  let es := ((List.range 32).filterMap (imgEntry s)).filter (fun (e : SeqCfg) => e.chan == n)
  let input := decide (1 ≤ mode ∧ mode ≤ 5)
  let suits (e : SeqCfg) : Bool := match e.meas with
    | 0 => mode != 0 | 1 => mode == 4 && wires == 3 | 2 => mode == 5 | 3 => mode != 0 | 4 => mode == 6 | _ => false
  (!input || es.any (fun (e : SeqCfg) => e.primary && e.meas == 0)) &&
  (!(mode == 4 && wires == 3) || es.any (fun (e : SeqCfg) => e.meas == 1)) &&
  (!(mode == 5) || es.any (fun (e : SeqCfg) => e.meas == 2)) && es.all suits

/-- A write to UPC_CHn_MODE (R464, R470). -/
def writeChMode (n : Nat) (v : Nat) (s : State) : State × Status :=
  let m := getFld v 0 4
  let se := getFld v 4 4
  let w := getFld v 8 4
  if !hasUpc s then (s, .absent)
  else if !(s.le.mode == .notStarted || s.le.mode == .stop) || s.pr.st == .joining || s.pr.st == .twin then (s, .badState)
  else if 7 < m ∨ !tableServes s n m w then (s, .range)
  else (updChan n (fun c => { c with newMode := some (m, se, w) }) s, .ok)

/-- UPC_CH_MODE_WRITE. -/
def execUpcChModeWrite (r : Req) (chan : Nat) (value : Word) (s : State) : Res :=
  .next (serveWrite r s (writeChMode chan value.toNat))

/-- The running pass ends and passes restart at entry 0 (R464). -/
def restartPasses (s : State) : State :=
  let s := { s with upc := { s.upc with running := false, latched := false } }
  if s.upc.stopped || periodic s then s else startPass s

/-- The process section in service is loaded into the channels and the table; `changed` tells entries whose
definition differs (R451, R464). -/
def loadProcess (s : State) : State :=
  let ents := (List.range 32).map (fun e =>
    let x := s.upc.ent.getD e default
    let c := imgEntry s e
    if x.cfg = c then x else { x with cfg := c, win := newWindow s, discarded := 0, changed := true })
  let chs := (List.range 4).map (fun n =>
    let c := procChan s n
    let new := (imgChanMode s n, pv s 0x0B01 n 1 1 0, pv s 0x0B01 n 2 1 0)
    if (c.mode, c.sensor, c.wires) = new ∧ c.newMode.isNone then c else { c with newMode := some new, settle := true })
  { s with upc := { s.upc with ent := ents, ch := chs } }

end Sys2Proof.Machine
end

