-- ==== Sys2Proof/Machine/Registers.lean ====
section
/-! DEFINITION. The register address map (R602): reads of every block and the units that are absent (R3). -/

namespace Sys2Proof.Machine

/-- Converter slices of the part (R1, R91). -/
def sliceCount (s : State) : Nat := if s.code = .e then 9 else 17

/-- Operator cores of the part (R1, R91). -/
def coreCount (s : State) : Nat := if s.code = .e then 16 else 32

/-- Number of PAI inputs of the part (R170). -/
def paiCount (s : State) : Nat := if s.code = .e then 8 else 16

/-- The channel entry of a token channel in service. -/
def chanEntry (s : State) (n : Nat) : Option ChanEntry :=
  match s.img.cur with | some i => i.chans.find? (fun (c : ChanEntry) => c.channel == n) | none => none

/-- The graph section in service. -/
def graphSec (s : State) : Option GraphSec := match s.img.cur with | some i => i.graph | none => none

/-- The budget section in service. -/
def budgetSec (s : State) : Option BudgetSec := match s.img.cur with | some i => i.budget | none => none

/-- A node of the graph in service. -/
def nodeOf (s : State) (n : Nat) : Option Node :=
  match graphSec s with | some g => g.nodes.find? (fun (x : Node) => x.num == n) | none => none

/-- CAP_FLUSH (R94). -/
def capFlush (s : State) : Nat :=
  let ok (m : Nat) : Nat := b2n (s.fl.lastOk &&& m == m)
  fld 31 1 (b2n s.fl.running) + fld 30 1 (b2n s.fl.done) + fld 28 2 s.fl.cause + fld 23 1 (ok 1) + fld 22 1 (ok 10) +
    fld 21 1 (ok 4) + fld 20 1 (ok 16) + fld 16 4 s.fl.lastCause + fld 0 16 s.fl.lastTime

/-- Reads of the CAP_ block (R90 to R94). -/
def capRead (s : State) (a : Nat) : Option Nat :=
  match a with
  | 0x00 => some (0x07200000 + fld 8 8 (match s.code with | .x => 1 | .l => 2 | .e => 3) + fld 0 8 s.boot.rev)
  | 0x04 => some (match s.code with | .x => 0x1F | .l => 0x1E | .e => 0x10)
  | 0x08 => some (coreCount s)
  | 0x0C => some (sliceCount s)
  | 0x10 => some (s.boot.serial % 2 ^ 32)
  | 0x14 => some (s.boot.serial / 2 ^ 32 % 2 ^ 32)
  | 0x18 => some s.boot.fwVer
  | 0x1C => some (fld 12 4 s.boot.cause + fld 8 2 s.boot.slot + fld 4 4 s.boot.fwbResult + fld 0 4 s.boot.fwaResult)
  | 0x20 => some (fld 20 4 s.img.userStatus + fld 16 4 s.img.pendStatus + fld 8 4 s.img.leStart + fld 0 2 s.img.source)
  | 0x24 => some (capFlush s)
  | 0x28 => some s.boot.startT
  | _ => none

/-- Code of a rotation phase (R205). -/
def RotPhase.toNat : RotPhase → Nat
  | .cal => 0 | .connect => 1 | .parallel => 2 | .disconnect => 3 | .spareCheck => 4 | .servingCheck => 5

/-- Phases A, B and C of a terminal and quantity: the lowest channels with a PAI source (R312). -/
def twPhases (s : State) (term quantity : Nat) : List ChanEntry :=
  match s.img.cur with
  | none => []
  | some i =>
    let mine := i.chans.filter (fun (c : ChanEntry) => c.source == 1 && c.terminal == term && c.quantity == quantity)
    ((List.range 16).filterMap (fun n => mine.find? (fun (c : ChanEntry) => c.channel == n))).take 3

/-- Modal stream m = 6 x terminal + 3 x quantity + mode exists: all three of its phases have a PAI source (R312). -/
def twExists (s : State) (m : Nat) : Bool := (twPhases s (m / 6) (m % 6 / 3)).length == 3

/-- Reads of the travelling-wave registers (R344, R345). -/
def twRead (s : State) (a : Nat) : Option Nat :=
  match a with
  | 0x20800 => some (fld 15 1 (pv s 0x09A0 0 0 1 0) + fld 14 1 (b2n (pv s 0x1841 0 0 1 0 == 2)) +
      maskOf 12 (twExists s))
  | 0x20804 => some (fld 12 12 (maskOf 12 (fun m => (s.acq.tw.getD m default).noisy)) +
      fld 0 2 (maskOf 2 (fun t => (s.acq.burst.getD t none).isSome)))
  | 0x20808 => some s.acq.twDrop
  | 0x2080C => some s.acq.twSeq
  | 0x20810 => some (fld 16 16 (s.acq.burstCnt.getD 1 0) + fld 0 16 (s.acq.burstCnt.getD 0 0))
  | 0x20814 => some s.acq.locDist
  | 0x20818 => some (fld 16 8 s.acq.locResults + fld 8 4 s.acq.locCause + fld 2 2 s.acq.locMethod +
      fld 1 1 (b2n s.acq.locDegraded) + fld 0 1 s.acq.locTerm)
  | 0x2081C => some s.acq.vel
  | 0x20820 => some (fld 2 2 s.acq.vmState + fld 1 1 s.acq.vmTerm)
  | 0x20824 => some s.acq.msgRx
  | 0x20828 => some s.acq.msgRej
  | _ =>
    if 0x20840 ≤ a ∧ a < 0x20870 then
      let m := (a - 0x20840) / 4
      some (fld 16 16 (pv s 0x0543 m 0 2 500) + min 65535 ((s.acq.tw.getD m default).acc / 2 ^ 26))
    else none

/-- Reads of the ACQ_ block (R204, R205). -/
def acqRead (s : State) (a : Nat) : Option Nat :=
  let chb (f : Chan → Bool) : Nat := maskOf 16 (fun n => f (s.acq.ch.getD n Chan.reset))
  if 0x20800 ≤ a then twRead s a
  else if 0x20100 ≤ a ∧ a < 0x20100 + 8 * sliceCount s then
    let k := (a - 0x20100) / 8
    if (a - 0x20100) % 8 = 0 then some (unsgn 32 (s.acq.gain.getD k 0)) else some (unsgn 32 (s.acq.ofs.getD k 0))
  else if 0x20040 ≤ a ∧ a < 0x20080 then
    let n := (a - 0x20040) / 4
    some (match chanEntry s n with
      | some c => fld 15 1 1 + fld 13 2 (if c.source = 1 then 0 else 1 + c.input) +
          fld 8 5 (if c.source = 1 then s.acq.serving.getD c.input 0x1F else 0x1F) + fld 4 4 (if c.source = 1 then c.input else c.svIndex)
      | none => fld 8 5 0x1F)
  else if 0x20200 ≤ a ∧ a < 0x20220 then
    let v := (a - 0x20200) / 16
    let x := s.acq.sv.getD v default
    match (a - 0x20200) % 16 with
    | 0 =>
      some (fld 16 8 x.smpSynch + fld 2 2 x.rate + fld 0 2 x.st)
    | 4 => some x.late
    | 8 => some x.lost
    | _ => some (pv s 0x0980 v 0 1 48)
  else match a with
    | 0x20000 => some (fld 2 1 (pv s 0x0514 0 0 1 0) + fld 1 1 (if s.img.cur.isSome then pv s 0x0510 0 0 1 1 else 0))
    | 0x20004 => some (fld 30 2 (if s.img.cur.isSome && pv s 0x0510 0 0 1 1 == 0 then 3 else s.acq.rotState) + fld 16 5 (if s.code = .e ∧ s.acq.spare = 16 then 8 else s.acq.spare) +
        fld 12 4 s.acq.rotInput + fld 8 4 s.acq.rotPhase.toNat)
    | 0x20008 => some (fld 16 16 (pv s 0x0512 0 0 2 500) + fld 0 16 (pv s 0x0511 0 0 2 840))
    | 0x2000C => some s.acq.removed.toNat
    | 0x20010 => some (fld 16 16 (chb (·.ovrActive)) + chb (·.ovrFlag))
    | 0x20014 => some (chb (fun c => c.qual.getLsbD 3))
    | 0x20018 => some s.acq.qfull
    | 0x2001C => some s.acq.voidCnt
    | _ => none

/-- The load windows roll at each TD0 second (R241); units of 0.01 % of C per wave period over 16 000 wave periods. -/
def rollLoad (s : State) : State :=
  let sec := secOf (td0 s)
  if sec = s.gr.loadSec then s
  else
    let cap := 25000 * coreCount s * 16000
    let new := (s.gr.load.zip s.gr.loadAcc).map (fun (l, a) =>
      let m := if sec = s.gr.loadSec + 1 then a * 10000 / cap else 0
      (m, max l.2 (a * 10000 / cap)))
    { s with gr := { s.gr with load := new, loadAcc := List.replicate 4 0, loadSec := sec } }

/-- Cycles of 2.5 ns for which P0 to P2 instances have waited for the window (R219), the wait that runs with them. -/
def winWaited (s : State) : Nat :=
  match s.gr.waitAt with
  | some t => satAdd 32 s.gr.winWait ((td0 s - t) * 2 / nsT 5)
  | none => s.gr.winWait

/-- The declared load of a band in 0.01 % of C = 25 000 cycles x cores (R241). -/
def declLoad (s : State) (b : Nat) : Nat :=
  match budgetSec s with
  | some g => (match b with | 0 => g.d0 * g.p0Cycles | 1 => g.p1Cycles | 2 => g.p2Cycles | _ => g.p3Cycles) * 10000 / (25000 * coreCount s)
  | none => 0

/-- Reads of the GS_ block (R240, R241). -/
def gsRead (s : State) (a : Nat) : Option Nat :=
  if 0x30040 ≤ a ∧ a < 0x30050 then
    let (m, p) := (rollLoad s).gr.load.getD ((a - 0x30040) / 4) (0, 0)
    some (fld 16 16 p + fld 0 16 m)
  else if 0x30050 ≤ a ∧ a < 0x30060 then some (declLoad s ((a - 0x30050) / 4))
  else match a with
    | 0x30000 => some (match budgetSec s with | some g => g.d0 % 256 | none => 0)
    | 0x30004 =>
      let has (g : Nat) : Bool := match s.img.cur with | some i => i.sections.any (fun x => x.1 == 0x10 + g) | none => false
      some (fld 16 16 (maskOf 8 has) + fld 10 2 s.img.groupSrc + fld 4 3 (pv s 0x0520 0 1 1 0) + fld 0 3 s.img.group)
    | 0x30008 => some (fld 17 1 (b2n s.gr.healthyHold) + fld 16 1 (b2n s.gr.running) + fld 0 16 s.gr.readyPeak)
    | 0x3000C => some (fld 16 9 s.gr.flightPeak + fld 0 9 s.gr.flight.length)
    | 0x30010 => some s.gr.overrunCnt
    | 0x30014 => some s.gr.breachCnt
    | 0x30018 => some s.gr.migrCnt
    | 0x3001C => some s.gr.cancelCnt
    | 0x30020 => some s.gr.voidCnt
    | 0x30024 => some s.gr.p0Shed
    | 0x30028 => some (winWaited s)
    | 0x3002C => some s.gr.coreFault.toNat
    | 0x30030 => some (fld 16 16 s.gr.coarsePeak + fld 0 16 s.gr.finePeak)
    | 0x30034 => some (fld 16 16 s.gr.jobDone + fld 8 8 s.gr.jobBusy + fld 0 6 s.gr.jobs.length)
    | 0x30038 => some s.gr.nodeSel
    | 0x3003C => some (match nodeOf s s.gr.nodeSel with
      | some n => fld 16 16 n.declared + fld 0 16 (smGet s.gr.nodeMax s.gr.nodeSel)
      | none => 0)
    | _ => none

/-- A write of GS_NODE_SEL (R241): a node not in the graph answers RANGE and GS_NODE_MAX then reads 0. -/
def nodeSelWrite (v : Nat) (s : State) : State × Status :=
  ({ s with gr := { s.gr with nodeSel := v % 4096 } }, if (nodeOf s (v % 4096)).isSome then .ok else .range)

/-- State of a sequencer entry (R470): 1 settling, 2 converting, 3 awaiting restart. -/
def entrySt (s : State) (e : Nat) : Nat :=
  if !s.upc.running ∨ s.upc.cur ≠ e then 0
  else if s.upc.stopped ∨ s.upc.urgent.isSome then 3 else if 0 < s.upc.discLeft then 1 else 2

/-- Reads of the UPC_ block (R469, R470). -/
def upcRead (s : State) (a : Nat) : Option Nat :=
  let chb (f : ProcChan → Bool) : Nat := maskOf 4 (fun n => f (procChan s n))
  if 0x60100 ≤ a ∧ a < 0x60140 then
    let c := procChan s ((a - 0x60100) / 16)
    match (a - 0x60100) % 16 with
    | 0 => some (fld 8 4 c.wires + fld 4 4 c.sensor + fld 0 4 c.mode)
    | 4 => some (fld 16 8 c.qual.toNat + fld 14 2 c.ne43 + fld 11 1 (b2n c.tested) + fld 10 1 (b2n c.foldback) +
        fld 9 1 (b2n c.saturated) + fld 8 1 (b2n c.failure))
    | 8 => some (fld 0 12 c.rb)
    | _ => some (fld 16 1 (b2n c.enabled) + fld 0 16 c.dac)
  else if 0x60200 ≤ a ∧ a < 0x60280 then
    let e := (a - 0x60200) / 4
    some (fld 30 2 (entrySt s e) + fld 0 16 (s.upc.ent.getD e default).passes)
  else match a with
    | 0x60000 =>
      some (fld 8 6 ((List.range 32).filter (fun e => (prm s 0x0B10 e).isSome)).length + fld 4 4 (maskOf 4 (fun n => ne43On s n)) +
        maskOf 4 (fun n => imgChanMode s n == 6 || imgChanMode s n == 7))
    | 0x60004 =>
      let st := if s.upc.stopped && s.upc.everUp then 3 else if s.upc.urgent.isSome then 2 else if s.upc.running then 1 else 0
      some (fld 30 2 st + fld 29 1 (b2n s.upc.latched) + fld 28 1 (b2n (periodic s)) + fld 16 5 s.upc.cur + fld 0 16 s.upc.passes)
    | 0x60008 => some s.upc.discard
    | 0x6000C => some s.upc.urgDrop
    | 0x60010 => some s.upc.overlap
    | 0x60014 => some (fld 8 8 (unsgn 8 s.upc.temp) + fld 3 1 (b2n s.upc.configured) + fld 2 1 (b2n s.upc.released) +
        fld 1 1 (b2n s.upc.safeRep) + fld 0 1 (b2n s.upc.up))
    | 0x60018 => some s.upc.upErr
    | 0x6001C => some s.upc.downErr
    | 0x60020 => some s.upc.pl24
    | 0x60024 => some (fld 20 4 (chb (·.tcOpen)) + fld 16 4 (chb (·.range)) + fld 12 4 (chb (·.compliance)) +
        fld 8 4 (chb (·.openLoop)) + fld 4 4 (chb (·.mismatch)) + fld 0 4 (chb (·.failure)))
    | _ => none

/-- The recorded high-rate channels 16 to 31. -/
def hrChannels (s : State) : List Nat := (List.range 16).filter (fun i => (prm s 0x0710 (16 + i)).isSome)

/-- Reads of the DR_ block (R502, R503). -/
def drRegRead (s : State) (a : Nat) : Option Nat :=
  if 0x70100 ≤ a ∧ a < 0x70180 then some (s.dr.units.getD ((a - 0x70100) / 4) default).cnt
  else match a with
    | 0x70000 => some (fld 2 1 (b2n (drExtend s)) + fld 1 1 (pv s 0x0701 0 1 1 0) + fld 0 1 (pv s 0x0701 0 0 1 1))
    | 0x70004 => some (fld 29 3 s.dr.st.toNat + fld 26 3 s.dr.step +
        (match s.dr.cap with | some r => r.flags.toNat | none => 0))
    | 0x70008 => some (fld 16 8 s.dr.backHigh + fld 0 8 s.dr.backProt)
    | 0x7000C => some (s.dr.fill * 125 / 2)
    | 0x70010 => some (s.dr.lastId % 2 ^ 32)
    | 0x70014 => some (s.dr.lastId / 2 ^ 32 % 2 ^ 32)
    | 0x70018 => some s.dr.records
    | 0x7001C => some s.dr.suppressed
    | 0x70020 => some s.dr.truncCnt
    | 0x70024 => some s.dr.stepCnt
    | 0x70028 => some (fld 16 16 s.dr.reel.length + fld 0 16 s.dr.usedMib)
    | 0x7002C => some s.dr.overwr
    | 0x70030 => some (maskOf 32 (fun u => (prm s 0x0720 u).isSome))
    | 0x70034 => some s.dr.fired.toNat
    | 0x70040 => some (maskOf 16 (fun i => (hrChannels s).contains i))
    | 0x70044 => some (match (hrChannels s).length with | 0 => 0 | n => 8388608 / (40 * n))
    | _ => none

/-- Reads of the EVR_ block (R526, R527). -/
def evrRegRead (s : State) (a : Nat) : Option Nat :=
  let e := s.evr
  match a with
  | 0x80000 =>
    let left := match e.freeze with | some (_, t) => 30 - nsAll (td0 s - t) / 1000000000 | none => 0
    some (fld 31 1 (b2n e.freeze.isSome) + fld 30 1 (b2n e.committing) + fld 29 1 (b2n e.flushPend) + fld 24 5 left +
      fld 0 13 e.front.length)
  | 0x80004 => some e.peak
  | 0x80008 => some (e.newest % 2 ^ 32)
  | 0x8000C => some (e.newest / 2 ^ 32 % 2 ^ 32)
  | 0x80010 => some (e.committed % 2 ^ 32)
  | 0x80014 => some (e.committed / 2 ^ 32 % 2 ^ 32)
  | 0x80018 => some (e.first % 2 ^ 32)
  | 0x8001C => some (e.first / 2 ^ 32 % 2 ^ 32)
  | 0x80020 => some e.lostCnt
  | 0x80024 => some e.suppCnt
  | 0x80028 => some e.commitCnt
  | 0x8002C => some e.reclaimCnt
  | 0x80030 => some (min 0xFFFFFF e.used)
  | _ => none

/-- Reads of the PAIR_ block (R558, R559). -/
def pairRead (s : State) (a : Nat) : Option Nat :=
  let p := s.pr
  let serial (i : Nat) : Nat := pv s 0x0D02 i 0 8 0
  match a with
  | 0x90000 =>
    let lower : Bool := match pairEntry s with | some i => decide (serial i < serial (1 - i)) | none => false
    some (fld 5 1 (b2n lower) + fld 4 1 (pv s 0x0D01 0 2 1 0) + fld 2 2 (pv s 0x0D01 0 1 1 0) +
      fld 1 1 (b2n (pairEntry s).isSome) + fld 0 1 (b2n (pairOn s)))
  | 0x90004 => some (fld 30 2 p.st.toNat + fld 29 1 (b2n p.active) + fld 28 1 (b2n p.migrating) + fld 27 1 (b2n p.ready) +
      fld 26 1 (b2n p.faulty) + fld 25 1 (b2n p.partnerFaulty) + fld 24 1 (b2n s.pads.bindOut) + fld 23 1 (b2n s.pads.bindIn) +
      fld 22 1 (b2n p.established) + fld 0 16 p.wave)
  | 0x90008 => some (p.partner % 2 ^ 32)
  | 0x9000C => some (p.partner / 2 ^ 32 % 2 ^ 32)
  | 0x90010 => some (fld 6 2 p.wireCode + fld 5 1 (b2n p.wireOk) + fld 4 1 (b2n (p.lanes != 0#2)) + fld 2 2 p.lanes.toNat)
  | 0x90014 => some p.linkErr
  | 0x90018 => some p.hbErr
  | 0x9001C => some p.divCnt
  | 0x90020 =>
    let (c, o, q, w) := p.divLast
    some (fld 28 4 c + fld 26 2 o + fld 24 2 q + fld 16 8 (divHour s) + fld 0 16 w)
  | 0x90024 => some p.xchk.toNat
  | 0x90028 => some p.dlyXchk
  | 0x9002C => some p.inXchk
  | 0x90030 => some (fld 28 4 p.takeover.1 + fld 0 16 p.takeover.2)
  | 0x90034 => some p.takeovers
  | 0x90038 => some (fld 30 2 p.joinPhase + fld 16 8 p.joinBuf + fld 0 16 p.joinMs)
  | 0x9003C =>
    let left := if p.drSt = 1 then p.drDwell - nsAll (td0 s - p.drAt) / 1000000000 else 0
    some (fld 30 2 p.drSt + fld 24 4 p.drResult + fld 16 8 p.drDetail.toNat + fld 8 8 left + fld 4 4 p.drUpc.toNat)
  | 0x90040 => some p.drillT
  | 0x90044 => some (unsgn 32 (max (-2147483647) (min 2147483647 (td2Ofs s))))
  | 0x90048 => some (fld 16 16 p.lat.1 + fld 0 16 p.lat.2)
  | _ => none

/-- Reads of the NET_ block (R580, R581). -/
def netRead (s : State) (a : Nat) : Option Nat :=
  let n := s.net
  if 0xA0100 ≤ a ∧ a < 0xA0160 then
    let p := (a - 0xA0100) / 32
    let x := n.port.getD p default
    match (a - 0xA0100) % 32 with
    | 0x00 => some (fld 8 8 x.lossVal + fld 2 2 (if x.link then x.speed else 0) + fld 1 1 (pv s 0x0902 p 1 1 0) + fld 0 1 (b2n x.link))
    | 0x04 => some x.rxDrop
    | 0x08 => some x.rx
    | 0x0C => some x.tx
    | 0x10 => some x.fcs
    | 0x14 => some x.txDisc
    | 0x18 => some x.txPeak
    | _ => none
  else match a with
    | 0xA0000 => some (fld 8 3 ((ifPorts s).getD 0) + fld 6 2 (cMode s) + fld 4 2 (abMode s))
    | 0xA0004 => some (fld 8 1 (b2n n.ringOpen) + fld 4 3 (maskOf 3 (fun p => (n.port.getD p default).loss)) +
        maskOf 3 (fun p => (n.port.getD p default).link))
    | 0xA0018 => some n.seqErr
    | 0xA001C => some n.goRej
    | 0xA0020 => some n.twinDup
    | 0xA0024 => some n.prpDup
    | 0xA0028 => some n.mgmtDrop
    | 0xA002C => some n.arpDrop
    | 0xA0030 => some n.svRej
    | _ =>
      if 0xA0008 ≤ a ∧ a < 0xA0018 then
        let k := (a - 0xA0008) / 4
        some (maskOf 32 (fun i => n.subs.any (fun (x : GooseSub) => x.num == 32 * k + i && x.lost)))
      else none

/-- Code of a transport in HPI_SESSn (R604). -/
def transportCode : Transport → Nat
  | .hpi => 0 | .net => 1 | .uart => 2

/-- Credits outstanding: granted and not used (R590). -/
def creditsOut (s : State) (bulk : Bool) : Nat :=
  s.cmd.sessions.foldl (fun a x => a + (if bulk then x.bulk else x.normal)) 0

/-- Reads of the HPI_ block (R603, R604). -/
def hpiRead (s : State) (a : Nat) : Option Nat :=
  let c := s.cmd
  if 0xB0100 ≤ a ∧ a < 0xB0120 then
    some (match c.sessions.find? (fun (x : Session) => x.slot == (a - 0xB0100) / 4) with
      | some x => fld 31 1 1 + fld 29 2 (transportCode x.transport) + fld 24 5 x.roles.toNat + fld 23 1 (b2n x.notify) +
          fld 22 1 (b2n x.diag.isSome) + fld 0 16 x.num
      | none => 0)
  else match a with
    | 0xB0000 => some (fld 30 2 c.step + fld 29 1 (b2n c.urgentOnly) + fld 0 4 c.sessions.length)
    | 0xB0004 => some (fld 16 16 c.loadPeak + fld 0 16 c.loadMean)
    | 0xB0008 => some (fld 8 6 (creditsOut s true) + fld 0 6 (creditsOut s false))
    | 0xB000C => some c.crcErr
    | 0xB0010 => some c.overrun
    | 0xB0014 => some c.busyCnt
    | 0xB0018 => some c.wdCnt
    | _ => none

/-- Keys of a type in the slots. -/
def keySlots (s : State) (kind n : Nat) : Nat := maskOf n (fun i => s.sec.keys.any (fun (k : Key4) => k.kind == kind && k.slot == i))

/-- A physical-presence session is open. -/
def physOpen (s : State) : Bool := s.cmd.sessions.any (·.phys)

/-- Reads of the SEC_ block (R625, R626). -/
def secRead (s : State) (a : Nat) : Option Nat :=
  let c := s.sec
  match a with
  | 0xC0000 => some (fld 31 1 (b2n (keySlots s 1 4 != 0)) + fld 30 1 (b2n c.certified) + fld 29 1 (b2n (physOpen s)) +
      fld 28 1 (b2n c.restored) + fld 27 1 (b2n c.lost))
  | 0xC0004 => some c.rollback
  | 0xC0008 => some (fld 12 4 (keySlots s 3 4) + fld 4 8 (keySlots s 2 8) + fld 0 4 (keySlots s 1 4))
  | 0xC000C => some (c.keySeq % 2 ^ 32)
  | 0xC0010 => some (c.keySeq / 2 ^ 32 % 2 ^ 32)
  | 0xC0014 => some (c.attCnt % 2 ^ 32)
  | 0xC0018 => some (c.attCnt / 2 ^ 32 % 2 ^ 32)
  | 0xC001C => some c.authFail
  | 0xC0020 =>
    let left (t : Transport) : Nat := (c.locked.filter (fun e => e.1 == t)).foldl (fun m e => max m (e.2 - td0 s)) 0
    let secs := (nsAll (max (left .hpi) (left .net)) + 999999999) / 1000000000
    some (fld 17 1 (b2n (left .net != 0)) + fld 16 1 (b2n (left .hpi != 0)) + fld 0 16 (min 65535 secs))
  | 0xC0024 => some (fld 1 1 (b2n s.boot.nextSwap) + fld 0 1 (b2n s.boot.physA))
  | _ => none

/-- Milliseconds left of an injection's present duration. -/
def injLeft (s : State) (j : Inj) : Nat :=
  if j.applied ∧ j.mode ≠ 0 then j.durMs - nsAll (td0 s - j.since) / 1000000 else 0

/-- Reads of the HLT_ block (R638, R639). -/
def hltRead (s : State) (a : Nat) : Option Nat :=
  let h := s.hlt
  if 0xD0100 ≤ a ∧ a < 0xD01A0 then
    let m := (a - 0xD0100) / 16
    let x := monOf s m
    match (a - 0xD0100) % 16 with
    | 0 => some (monFp x.value).toNat
    | 4 => some (monFp (monLimit m)).toNat
    | 8 => some (match monEol s m with | some t => t % 2 ^ 32 | none => 0xFFFFFFFF)
    | _ => some (fld 24 8 x.hist.length + fld 8 2 (monConf s m) + fld 1 1 (b2n x.soon) + fld 0 1 (b2n x.high))
  else if 0xD0200 ≤ a ∧ a < 0xD0240 then
    let j := h.inj.find? (fun (j : Inj) => j.slot == (a - 0xD0200) / 8)
    if (a - 0xD0200) % 8 = 0 then
      some (match j with
        | some j => fld 24 8 j.det + fld 16 8 j.target + fld 14 2 j.mode + (if j.mode = 2 then min 4095 j.repeats else 0)
        | none => 0)
    else some (match j with | some j => injLeft s j | none => 0)
  else match a with
    | 0xD0000 =>
      let on (f : Bool) : Nat := ((List.range 41).filter (fun d => decide (0 < d) && detInForce s d && faultClass d == f)).length
      some (fld 24 8 (on true) + fld 16 8 (on false) + fld 8 1 (b2n (h.mon.any (·.soon))) + fld 0 4 h.inj.length)
    | 0xD0004 => some (activeMask s % 2 ^ 32 / 2 * 2)
    | 0xD0008 => some (activeMask s / 2 ^ 32)
    | 0xD000C => some (match eolEarliest s with | some (m, _) => fld 8 2 (monConf s m) + m | none => 0xF)
    | 0xD0010 => some (match eolEarliest s with | some (_, t) => t % 2 ^ 32 | none => 0xFFFFFFFF)
    | 0xD0014 => some (fld 16 16 (unsgn 16 h.boardTemp) + fld 0 16 (unsgn 16 h.dieTemp))
    | 0xD0018 => some (fld 16 16 h.store + fld 0 16 h.vmain)
    | 0xD001C => some (fld 16 16 h.eccMram + fld 0 16 h.eccSram)
    | 0xD0020 => some (fld 8 8 (maskOf 8 (fun k => h.inj.any (fun (j : Inj) => j.slot == k))) +
        maskOf 8 (fun k => h.inj.any (fun (j : Inj) => j.slot == k && j.applied)))
    | _ => none

/-- The register belongs to an absent unit (R3, R204, R346, R500). -/
def regAbsent (s : State) (a : Nat) : Bool :=
  (decide (0x20800 ≤ a) && decide (a < 0x21000) && !hasTw s && a != 0x20814 && a != 0x20818) ||
  (decide (0x20100 + 8 * sliceCount s ≤ a) && decide (a < 0x20100 + 8 * 17)) ||
  (decide (0x60000 ≤ a) && decide (a < 0x70000) && !hasUpc s) ||
  ((a == 0x70040 || a == 0x70044) && !hasTw s) ||
  (decide (0xE0000 ≤ a) && decide (a < 0xF0000) && !hasRio s)

/-- A register word (R602): none where the address is not assigned; it then reads 0. -/
def regAt (s : State) (a : Nat) : Option Nat :=
  if a % 4 ≠ 0 ∨ regAbsent s a then none
  else match a / 65536 with
    | 0x0 => capRead s a
    | 0x1 => tbRead s a
    | 0x2 => acqRead s a
    | 0x3 => gsRead s a
    | 0x4 => leRead s a
    | 0x5 => fioRead s a
    | 0x6 => upcRead s a
    | 0x7 => drRegRead s a
    | 0x8 => evrRegRead s a
    | 0x9 => pairRead s a
    | 0xA => netRead s a
    | 0xB => hpiRead s a
    | 0xC => secRead s a
    | 0xD => hltRead s a
    | 0xE => rioRead s a
    | _ => none

/-- What a register reads as; an unassigned address reads 0. -/
def regVal (s : State) (a : Nat) : Nat := (regAt s a).getD 0

end Sys2Proof.Machine
end

