-- ==== Sys2Proof/Machine/Events.lean ====
section
/-! DEFINITION. The event recorder: entry, numbering, rate limits, commits, retention, reading and freeze (16). -/

namespace Sys2Proof.Machine

/-! Records as bytes (R504, R506, R514). -/

/-- Bytes 0 to 59 followed by their CRC-32. -/
def withCrc (bs : List Byte) : List Byte :=
  let b := padTo 60 bs
  b ++ leBytes 4 (crc32 b).toNat

/-- The FLAGS byte of a record (R504). -/
def recFlagByte (r : Rec) : Nat :=
  match r.ev with
  | none => 0
  | some e => b2n e.test + 2 * b2n e.subst + 4 * b2n e.audit + 8 * b2n e.held + 16 * b2n r.short + 32 * b2n r.active +
      64 * b2n r.twin

/-- The 64 bytes of a record (R504, R506). -/
def recBytes (r : Rec) : List Byte :=
  if r.kind = 1 then
    withCrc (leBytes 8 r.seq ++ [1#8, BitVec.ofNat 8 r.part] ++ leBytes 2 r.code ++ padTo 48 r.data)
  else match r.ev with
    | none => withCrc (leBytes 8 r.seq ++ [BitVec.ofNat 8 r.kind])
    | some e =>
      withCrc (leBytes 8 r.seq ++ [BitVec.ofNat 8 r.kind, BitVec.ofNat 8 (recFlagByte r)] ++ leBytes 2 r.code ++
        leBytes 4 r.value ++ stamp e.t0 ++ stamp e.t1 ++ [BitVec.ofNat 8 e.qual, BitVec.ofNat 8 e.origin] ++
        leBytes 2 e.epoch ++ leBytes 2 e.source ++ [BitVec.ofNat 8 r.snap, 0#8] ++ padTo 8 r.wm ++ zeros 4)

/-! The front buffer (R507, R513). -/

/-- A commit trigger arises: it waits to start, or a freeze holds it (R513, R520). -/
def commitTrigger (s : State) : State :=
  if s.evr.freeze.isSome then { s with evr := { s.evr with flushPend := true } }
  else { s with evr := { s.evr with commitPend := true } }

/-- NOTIFY to the sessions that asked for it, unless shedding pauses it (R592, R599). -/
def notify (rs : List Rec) (s : State) : State :=
  if s.cmd.step != 0 then s
  else (s.cmd.sessions.filter (·.notify)).foldl (fun s x => unsolicited x 0x0101 0 (rs.flatMap recBytes) s) s

/-- Ends the freeze (R521): LOG_THAWED, and everything present is committed at once. -/
def thaw (cause : Nat) (s : State) : State :=
  let s := { s with evr := { s.evr with freeze := none, flushPend := false, commitPend := true } }
  submit .evr 0x0202 cause s

/-- SEQ of the next record, and the reservation mark that it moves (R508). -/
def nextSeq (s : State) : Nat := s.evr.newest + 1

/-- A parent record and as many of its companions as fit enter the front buffer with consecutive numbers (R507): peak,
occupancy triggers (R513, R521 cause 3) and NOTIFY follow. The caller has checked that the parent fits. -/
def enterRecs (parent : Rec) (parts : List (List Byte)) (s : State) : State :=
  let room := 4096 - s.evr.front.length - 1
  let kept := (parts.take 3).take room
  let seq := nextSeq s
  let p := { parent with seq := seq, snap := kept.length, short := decide (kept.length < (parts.take 3).length) }
  let comps := (kept.zipIdx).map (fun (d, i) =>
    { (default : Rec) with seq := seq + i + 1, kind := 1, part := i + 1, code := parent.code, data := padTo 48 d })
  let rs := p :: comps
  let newest := seq + kept.length
  let front : List Rec := s.evr.front ++ rs
  let s := { s with evr := { s.evr with
    front := front, newest := newest
    mark := if s.evr.mark ≤ newest then s.evr.mark + 65536 else s.evr.mark
    peak := max s.evr.peak front.length } }
  let s := if 2048 ≤ front.length then commitTrigger s else s
  let s := if 3584 ≤ front.length ∧ s.evr.freeze.isSome then thaw 3 s else s
  notify rs s

/-- A kind 2 or 3 record with its companion (R506): `first` and `last` are the instants of the first and last event. -/
def summaryRec (kind code count : Nat) (first : Nat × Nat × Nat) (last : Nat × Nat) (s : State) : State :=
  let e := { engineEvent s code count with audit := false }
  let r : Rec := { (default : Rec) with
    kind := kind, code := code, value := count % 2 ^ 32, ev := some e, active := s.pr.st == .solo || s.pr.active
    twin := s.pr.st == .twin, wm := watermark s }
  let (t1, ep, t0) := first
  enterRecs r [stamp t1 ++ leBytes 2 ep ++ stamp last.1 ++ leBytes 2 last.2 ++ stamp t0] s

/-- Drop-table entries in ascending code order. -/
def putDrop (d : Drop) : List Drop → List Drop
  | [] => [d]
  | x :: xs => if d.code ≤ x.code then d :: x :: xs else x :: putDrop d xs

/-- The owed LOST records (R515), once occupancy is at or below 2 048. -/
def writeLost (s : State) : State :=
  if s.evr.owed ∧ s.evr.front.length ≤ 2048 then
    let ds := s.evr.drops.foldl (fun l d => putDrop d l) []
    let s := { s with evr := { s.evr with owed := false, drops := [] } }
    ds.foldl (fun s d => summaryRec 3 d.code d.count d.first d.last s) s
  else s

/-! Rate limits (R511, R512). -/

/-- A code's limit: depth and refill period in ms; none where it has no record or is exempt. -/
def rateLimit (s : State) (e : Event) : Option (Nat × Nat) :=
  if e.code < 0x0300 ∨ (0xC000 ≤ e.code ∧ e.code ≤ 0xCFFF) ∨ e.audit then none
  else (prm s 0x0801 e.code).map (fun b => (leAt b 0 2, leAt b 4 4))

/-- A code's bucket, full where none is held. -/
def bucketOf (s : State) (code depth : Nat) : Bucket :=
  (s.evr.buckets.find? (fun (b : Bucket) => b.code == code)).getD { (default : Bucket) with code := code, tokens := depth }

/-- A bucket put back; a full one with nothing to summarise need not be held. -/
def putBucket (b : Bucket) (depth : Nat) (s : State) : State :=
  let rest := s.evr.buckets.filter (fun (x : Bucket) => x.code != b.code)
  { s with evr := { s.evr with buckets := if depth ≤ b.tokens ∧ b.supp = 0 then rest else rest ++ [b] } }

/-- The SUPPRESSED record of a bucket, if it counts any suppression and there is room (R512). -/
def suppressedRecord (code depth : Nat) (s : State) : State :=
  let b := bucketOf s code depth
  if b.supp = 0 ∨ 4096 ≤ s.evr.front.length ∨ s.evr.owed then s
  else summaryRec 2 code b.supp b.first b.last (putBucket { b with supp := 0, sumAt := td0 s } depth s)

/-- The refill periods of a bucket that have ended (R511): one token each; when the bucket is full again after
suppressions, its SUPPRESSED record is written. -/
def refill (code depth periodMs : Nat) (s : State) : State :=
  let b := bucketOf s code depth
  let n := (td0 s - b.refillAt) / msT (max 1 periodMs)
  if depth ≤ b.tokens then suppressedRecord code depth s
  else if n = 0 then s
  else
    let b := { b with tokens := min depth (b.tokens + n), refillAt := b.refillAt + n * msT (max 1 periodMs) }
    let s := putBucket b depth s
    if depth ≤ b.tokens then suppressedRecord code depth s else s

/-- An event takes a token (R511). Answers whether it is accepted. -/
def takeToken (e : Event) (s : State) : Bool × State :=
  match rateLimit s e with
  | none => (true, s)
  | some (depth, period) =>
    let s := refill e.code depth period s
    let b := bucketOf s e.code depth
    if b.tokens = 0 then
      let first := if b.supp = 0 then (e.t1, e.epoch, e.t0) else b.first
      let b := { b with
        supp := satInc 32 b.supp, first := first, last := (e.t1, e.epoch), sumAt := if b.supp = 0 then td0 s else b.sumAt }
      (false, putBucket b depth { s with evr := { s.evr with suppCnt := satInc 32 s.evr.suppCnt } })
    else
      let b := { b with tokens := b.tokens - 1, refillAt := if depth ≤ b.tokens then td0 s else b.refillAt }
      (true, putBucket b depth s)

/-! Snapshots (R510). -/

/-- The latest released value of a measurement output identifier; 0 where none. -/
def outById (s : State) (id : Nat) : Nat :=
  ((s.gr.outs.find? (fun (x : LastOut) => x.id == id)).map (·.val)).getD 0

/-- One snapshot item: a register, or a measurement output. -/
def snapItem (s : State) (sel : Nat) : Nat :=
  if 2 ^ 31 ≤ sel then outById s (sel % 2 ^ 31) else regVal s (sel % 2 ^ 20)

/-- The items that a code names, 12 to a companion. -/
def snapParts (s : State) (code : Nat) : List (List Byte) :=
  match prm s 0x0802 code with
  | none => []
  | some b =>
    let sels := ((List.range 16).map (fun i => leAt b (4 * i) 4)).filter (fun x => x != 0)
    let bytes (l : List Nat) : List Byte := l.flatMap (fun x => leBytes 4 (snapItem s x))
    match sels with
    | [] => []
    | _ => if sels.length ≤ 12 then [bytes sels] else [bytes (sels.take 12), bytes (sels.drop 12)]

/-! Entry (R507). -/

/-- Flush-class events (R513). -/
def flushClass (s : State) (code : Nat) : Bool :=
  (List.range 41).any (fun d => faultClass d && detEvent d == code) || code == 0x3210 || code == 0x9003 ||
  pv s 0x0803 code 0 1 0 == 1

/-- An event enters (R507): room and owed LOST records first, then the rate limit, then numbering with its companions;
a flush-class event triggers a commit. The recorder's event triggers and binaries see it. -/
def enterEvent (e : Event) (s : State) : State :=
  let s := writeLost s
  if s.evr.owed ∨ 4096 ≤ s.evr.front.length then dropEvent e s
  else
    let (ok, s) := takeToken e s
    if !ok then s
    else if s.evr.owed ∨ 4096 ≤ s.evr.front.length then dropEvent e s
    else
      let r : Rec := { (default : Rec) with
        code := e.code, value := e.value % 2 ^ 32, ev := some e, active := s.pr.st == .solo || s.pr.active
        twin := s.pr.st == .twin, wm := watermark s }
      let s := enterRecs r (e.parts ++ snapParts s e.code) s
      if flushClass s e.code then commitTrigger s else s

/-- The detectors without duration (R629): their conditions name no clearing. -/
def momentaryDet (d : Nat) : Bool :=
  [0x01, 0x02, 0x06, 0x07, 0x08, 0x09, 0x0A, 0x0B, 0x0C, 0x1E, 0x21, 0x24, 0x28].contains d

/-- The detector whose event has a code (R627). -/
def detOfEvent (code : Nat) : Option Nat := ((List.range 0x28).map (· + 1)).find? (fun d => detEvent d == code)

/-- Binaries of class 5 of the detectors that are no longer in force read clear (R472). -/
def binsClear (d0 : Option Nat) (t1 : Nat) (s : State) : State :=
  ((List.range 0x28).map (· + 1)).foldl (fun s d =>
    if momentaryDet d ∨ some d = d0 ∨ s.hlt.active.any (·.1 == d) = true ∨ binOn s 5 d = false then s
    else binSet 5 d false true false false t1 s) s

/-- The recorder's units of type 9 and binaries of class 5 take a raised event: those of its detector fire and read in
force, with a 1 us pulse of one without duration; those of a detector that the event clears read clear (R472, R474). -/
def recEvent (e : Event) (s : State) : State :=
  let s := match detOfEvent e.code with
    | none => s
    | some d =>
      let s := fireUnits (unitsWhere s (fun c => c.type == 9 && c.source == d)) e.t1 s
      if momentaryDet d then binPulse 5 d e.t1 s else binSet 5 d true true false false e.t1 s
  binsClear (detOfEvent e.code) e.t1 s

/-- The oldest event of each block, but of the blocks `seen`. -/
def blockHeads (seen : List Block) : List (Block × Event) → List (Block × Event)
  | [] => []
  | x :: xs => if seen.contains x.1 then blockHeads seen xs else x :: blockHeads (x.1 :: seen) xs

/-- The events that enter in one main clock cycle: of each block the oldest one, submitted at the same instant as the oldest
of all (R29). -/
def entryHeads (q : List (Block × Event)) : List (Block × Event) :=
  let t := (q.head?.map (fun (x : Block × Event) => x.2.sub)).getD 0
  (blockHeads [] q).filter (fun (x : Block × Event) => x.2.sub == t)

/-- The one of them with the lowest event code. -/
def lowestCode : List (Block × Event) → Option (Block × Event)
  | [] => none
  | x :: xs => match lowestCode xs with
    | none => some x
    | some y => if y.2.code < x.2.code then some y else some x

/-- EVENT_ENTRY: the oldest submitted event enters; of those that enter in the same cycle, in ascending event code (R29). -/
def eventEntry (s : State) : State :=
  match lowestCode (entryHeads s.evr.subq) with
  | none => writeLost s
  | some (b, e) => recEvent e (enterEvent e { s with evr := { s.evr with subq := s.evr.subq.erase (b, e) } })

/-- EVENT_ENTRY (R507). -/
def execEventEntry (s : State) : Res := .next (eventEntry s)

/-- RATE_REFILL (R511): the refill periods of a code's bucket that have ended. -/
def execRateRefill (code : Nat) (s : State) : Res :=
  .next (match prm s 0x0801 code with
    | some b => if s.evr.buckets.any (fun (x : Bucket) => x.code == code) then refill code (leAt b 0 2) (leAt b 4 4) s else s
    | none => s)

/-- SUPPRESSED_SUMMARY_60S (R512): every 60 s of TD0 while suppression continues. -/
def execSuppressedSummary60s (code : Nat) (s : State) : Res :=
  .next (match prm s 0x0801 code with
    | some b =>
      if due s (bucketOf s code (leAt b 0 2)).sumAt (secT 60) then suppressedRecord code (leAt b 0 2) s else s
    | none => s)

/-! Commits and retention (R513 to R516). -/

/-- The oldest slots leave in whole pages until at least `n` have gone. -/
def dropPages : Nat → List Rec → List Rec
  | _, [] => []
  | n, r :: rs => if r.kind = 4 ∧ n ≤ 1 then rs else dropPages (n - 1) rs

/-- The ring makes room for a page of `n` slots (R516). -/
def reclaim (n : Nat) (s : State) : State :=
  if s.evr.used + n ≤ 8388608 then s
  else
    let log := dropPages 16384 s.evr.log
    let gone := s.evr.log.length - log.length
    let first := match log.find? (fun (r : Rec) => r.kind != 4) with | some r => r.seq | none => s.evr.committed + 1
    submit .evr 0x0203 (first % 2 ^ 32) { s with evr := { s.evr with
      log := log, first := first, used := s.evr.used - gone, reclaimCnt := satInc 32 s.evr.reclaimCnt } }

/-- The COMMIT slot of a page (R514): its records' span, its number, the TD0 of the commit, and the CRC over the page's record
slots and its own bytes 0 to 59. -/
def commitSlot (rs : List Rec) (page t0 : Nat) : List Byte :=
  let seqAt (r : Option Rec) : Nat := (r.map (·.seq)).getD 0
  let b := padTo 60 (leBytes 8 (seqAt rs.head?) ++ [4#8, 0#8] ++ leBytes 2 rs.length ++ leBytes 8 (seqAt rs.getLast?) ++
    leBytes 8 page ++ stamp t0)
  b ++ leBytes 4 (crc32 (rs.flatMap recBytes ++ b)).toNat

/-- One page is committed: the `n` oldest records of the front buffer and a COMMIT record (R514). -/
def commitPage (n : Nat) (s : State) : State :=
  let rs := s.evr.front.take n
  match rs with
  | [] => s
  | r0 :: _ =>
    let s := reclaim (rs.length + 1) s
    let last := (rs.getLast?.getD r0).seq
    let c : Rec := { (default : Rec) with kind := 4, seq := last, value := rs.length, part := s.evr.pageNo, data := commitSlot rs s.evr.pageNo (td0 s) }
    { s with evr := { s.evr with
      front := s.evr.front.drop n, log := s.evr.log ++ rs ++ [c], committed := last, pageNo := s.evr.pageNo + 1
      first := if s.evr.log.isEmpty then r0.seq else s.evr.first
      used := s.evr.used + rs.length + 1, commitCnt := satInc 32 s.evr.commitCnt } }

/-- Every record present is committed, page by page. -/
def commitAll (s : State) : State :=
  let pages := (s.evr.front.length + 255) / 256
  let s := (List.range pages).foldl (fun s _ => commitPage 256 s) s
  { s with evr := { s.evr with commitPend := false, committing := false, commitLeft := 0, commitAt := td0 s } }

/-- COMMIT_PERIOD (R513): 1 s of TD0 since the last commit, with the buffer not empty. -/
def execCommitPeriod (s : State) : Res :=
  .next (if !s.evr.front.isEmpty && due s s.evr.commitAt (secT 1) then commitTrigger s else s)

/-- COMMIT_START (R513): a waiting trigger starts a commit of every record present; not during another commit, a
freeze, a flush or a management restart (R523). -/
def execCommitStart (s : State) : Res :=
  .next (if s.evr.commitPend && !s.evr.committing && s.evr.freeze.isNone && !s.fl.running && s.cmd.restarting.isNone then
    { s with evr := { s.evr with
      commitPend := false, committing := !s.evr.front.isEmpty, commitLeft := s.evr.front.length } }
  else s)

/-- PAGE_COMMIT_COMPLETE (R514): a page of up to 256 records completes; owed LOST records follow (R515). -/
def pageComplete (s : State) : State :=
  if !s.evr.committing then s
  else
    let n := min 256 s.evr.commitLeft
    let s := commitPage n s
    let left := s.evr.commitLeft - n
    let s := { s with evr := { s.evr with
      commitLeft := left, committing := decide (0 < left), commitAt := if left = 0 then td0 s else s.evr.commitAt } }
    writeLost s

/-- PAGE_COMMIT_COMPLETE (R514). -/
def execPageCommitComplete (s : State) : Res := .next (pageComplete s)

/-- The audit record of a command that acts only once it is committed (R522). -/
def auditFirst (b : Block) (session code value : Nat) (parts : List (List Byte)) (s : State) : State :=
  let e := { engineEvent s code value with origin := 1, source := session, parts := parts, audit := true }
  if !s.evr.started then emit b e s
  else
    let s := writeLost (commitAll s)
    commitAll (recEvent e (enterEvent e s))

/-! Reading and freeze (R519 to R521). -/

/-- The 24 bytes FIRST, COMMITTED, NEWEST. -/
def evrBounds (s : State) : List Byte := leBytes 8 s.evr.first ++ leBytes 8 s.evr.committed ++ leBytes 8 s.evr.newest

/-- EVR_READ (R519): up to `max` records, at most 63, from the first at or after max(FROM, FIRST); without option bit 0
it stops at COMMITTED. More-follows says that more remain (R585). -/
def evrRead (r : Req) (from_ max_ options : Nat) (s : State) : State :=
  serve r 0x0070 s (fun s =>
    if max_ = 0 ∨ 63 < max_ then answer r 0x0070 .range s
    else
      let all := s.evr.log ++ (if options % 2 = 1 then s.evr.front else [])
      let rs := all.filter (fun (x : Rec) => x.kind != 4 && decide (Nat.max from_ s.evr.first ≤ x.seq))
      respond r 0x0070 .ok (decide (max_ < rs.length)) (evrBounds s ++ (rs.take max_).flatMap recBytes) s)

/-- EVR_READ (R519). -/
def execEvrRead (r : Req) (from_ max options : Nat) (s : State) : Res := .next (evrRead r from_ max options s)

/-- EVR_FREEZE (R520): commits stop, except those of a power-fail flush; a commit in progress waits with its records in the
front buffer. -/
def evrFreeze (r : Req) (s : State) : State :=
  serve r 0x0071 s (fun s =>
    let reply (s : State) := respond r 0x0071 .ok false (leBytes 8 s.evr.first ++ leBytes 8 s.evr.committed) s
    match s.evr.freeze with
    | some (h, _) => if h = r.session then reply s else answer r 0x0071 .conflict s
    | none =>
      let held := s.evr.committing || s.evr.commitPend
      reply (submit .evr 0x0201 r.session { s with evr := { s.evr with
        freeze := some (r.session, td0 s), flushPend := held, commitPend := false, committing := false
        commitLeft := if s.fl.running then s.evr.commitLeft else 0 } }))

/-- EVR_FREEZE (R520). -/
def execEvrFreeze (r : Req) (s : State) : Res := .next (evrFreeze r s)

/-- EVR_THAW (R520, R521). -/
def evrThaw (r : Req) (s : State) : State :=
  serve r 0x0072 s (fun s => match s.evr.freeze with
    | none => answer r 0x0072 .ok s
    | some (h, _) => if h = r.session then answer r 0x0072 .ok (thaw 1 s) else answer r 0x0072 .conflict s)

/-- EVR_THAW (R520). -/
def execEvrThaw (r : Req) (s : State) : Res := .next (evrThaw r s)

/-- FREEZE_TIMEOUT (R521): 30 s of TD0 since EVR_FREEZE. -/
def execFreezeTimeout (s : State) : Res :=
  .next (match s.evr.freeze with
    | some (_, t) => if due s t (secT 30) then thaw 2 s else s
    | none => s)

/-- The recorder starts (R75, R95, R508): LOG_RESUMED with its companion, a torn page, then the held events. -/
def evrStart (s : State) : State :=
  let last := s.evr.committed
  let seq := max 1 s.evr.mark
  let s := { s with evr := { s.evr with
    started := true, newest := seq - 1, mark := seq + 65536, commitAt := td0 s, first := if s.evr.log.isEmpty then seq else s.evr.first } }
  let s := enterEvent { engineEvent s 0x0200 0 with parts := [leBytes 8 last ++ leBytes 8 (nextSeq s)] } s
  let torn := s.evr.torn
  let s := { s with evr := { s.evr with torn := 0 } }
  let s := if torn = 0 then s else enterEvent (engineEvent s 0x0204 torn) s
  let held := s.evr.held
  held.foldl (fun s e => recEvent e (enterEvent e s)) { s with evr := { s.evr with held := [] } }

end Sys2Proof.Machine
end

