-- ==== Sys2Proof/Machine/Commands.lean ====
section
/-! DEFINITION. The command processor: packets on the three transports, sessions, register access, streams and load
shedding (19). -/

namespace Sys2Proof.Machine

/-! Sessions (R589). -/

/-- Injections end: at once, or in both lanes of TWIN at the wave that the active names (R636, R539). -/
def endInjs (cause : Nat) (p : Inj → Bool) (s : State) : State :=
  let js := s.hlt.inj.filter p
  if s.pr.st = .twin ∧ s.pr.active then js.foldl (fun s j => schedTwin 16 [j.slot, cause] s) s
  else js.foldl (fun s j => endInj cause j s) s

/-- The slot of image staging empties (R112, R113). -/
def dropStaging (s : State) : State := { s with img := { s.img with staging := none, staged := [], pendStatus := 1 } }

/-- A session closes (R589, R521 cause 4, R636 cause 3). -/
def closeSession (num : Nat) (s : State) : State :=
  match s.cmd.sessions.find? (fun (x : Session) => x.num == num) with
  | none => s
  | some x =>
    let s := match s.evr.freeze with | some (h, _) => if h = num then thaw 4 s else s | none => s
    let s := match s.img.staging with | some (h, _) => if h = num then dropStaging s else s | none => s
    let s := match s.boot.fwStage with
      | some (_, _, h) => if h = num then { s with boot := { s.boot with fwStage := none, fwBytes := [] } } else s
      | none => s
    let s := endInjs 3 (fun j => j.session == num) s
    let s := { s with cmd := { s.cmd with
      sessions := s.cmd.sessions.filter (fun (y : Session) => y.num != num)
      queue := s.cmd.queue.filter (fun (q : QReq) => !(q.req.session == num && q.req.transport == x.transport))
      exports := s.cmd.exports.filter (fun e => e.1 != num)
      conns := match x.conn with | some c => s.cmd.conns.filter (fun e => e.1 != c) | none => s.cmd.conns
      tls := match x.conn with | some c => s.cmd.tls.filter (fun e => e.1 != c) | none => s.cmd.tls } }
    submit .cmd 0xB002 num s

/-- SESSION_CLOSE (R589): its response leaves before the session goes. -/
def execSessionClose (r : Req) (s : State) : Res :=
  .next (serve r 0x0002 s (fun s =>
    if r.session = 0 then answer r 0x0002 .denied s else closeSession r.session (answer r 0x0002 .ok s)))

/-! Reception of packets (R583 to R590). -/

/-- The opcodes of R593 that a host may send. -/
def knownOp (op : Nat) : Bool :=
  [0x01, 0x02, 0x10, 0x11, 0x12, 0x20, 0x21, 0x22, 0x23, 0x24, 0x25, 0x28, 0x29, 0x2A, 0x30, 0x31, 0x32, 0x33, 0x34,
    0x35, 0x36, 0x40, 0x41, 0x42, 0x50, 0x51, 0x52, 0x53, 0x54, 0x55, 0x60, 0x61, 0x62, 0x63, 0x64, 0x70, 0x71, 0x72,
    0x80, 0x81, 0x90, 0x91, 0xA0, 0xA1, 0xA2, 0xB0, 0xC0].contains op

/-- The payload length is allowed for the opcode (R593). -/
def lenOk (op : Nat) (p : List Byte) : Bool :=
  let n := p.length
  match op with
  | 0x01 => decide (4 ≤ n) && decide (n ≤ 132)
  | 0x10 => n == 8
  | 0x11 => decide (12 ≤ n) && n == 8 + 4 * leAt p 4 2
  | 0x12 => n == 12
  | 0x20 => n == 4
  | 0x21 => decide (4 ≤ n)
  | 0x23 => n == 1
  | 0x25 => n == 1
  | 0x28 => n == 5
  | 0x29 => decide (4 ≤ n)
  | 0x30 => n == 1
  | 0x31 => n == 1
  | 0x32 => decide (4 ≤ n) && n == 4 + 8 * leAt p 0 1
  | 0x33 => n == 17
  | 0x34 => n == 8
  | 0x35 => n == 4
  | 0x36 => n == 2
  | 0x40 => n == 8
  | 0x41 => n == 6
  | 0x42 => decide (4 ≤ n)
  | 0x50 => n == 1
  | 0x51 => n == 12
  | 0x52 => n == 16
  | 0x53 => n == 12
  | 0x54 => n == 32
  | 0x55 => n == 1
  | 0x60 => n == 1
  | 0x61 => n == 1
  | 0x62 => n == 9
  | 0x63 => n == 18
  | 0x64 => n == 20
  | 0x70 => n == 10
  | 0x80 => n == 1
  | 0x81 => n == 1
  | 0x90 => n == 16
  | 0x91 => n == 1
  | 0xA0 => n == 32
  | 0xA1 => n == 116
  | 0xB0 => n == 1
  | 0xC0 => decide (4 ≤ n) && n == 4 + 4 * leAt p 2 1
  | _ => n == 0

/-- The class of a request: LE_MODE with code 2 is urgent (R590). -/
def reqClass (op : Nat) (p : List Byte) : Nat := if op = 0x30 ∧ leAt p 0 1 = 2 then 1 else opClass op

/-- A refusal at order 1 to 5 of R587: a response that grants nothing. -/
def refuse (r : Req) (op : Nat) (st : Status) (s : State) : State :=
  let p : Packet :=
    { transport := r.transport, session := r.session, tag := r.tag, op := op, status := st.toNat, more := false
      unsol := false, grant := 0, payload := [] }
  setHirq { s with cmd := { s.cmd with
    out := s.cmd.out ++ [p], busyCnt := if st = .busy then satInc 32 s.cmd.busyCnt else s.cmd.busyCnt } }

/-- A request beyond its session's credits or urgent window (R590): CREDIT_OVERRUN, counted, with its event at most once
per TD0 second per session. -/
def creditOverrun (r : Req) (op : Nat) (x : Session) (s : State) : State :=
  let s := refuse r op .creditOverrun { s with cmd := { s.cmd with overrun := satInc 32 s.cmd.overrun } }
  if x.overSec = some (secOf (td0 s)) then s
  else
    let sec := secOf (td0 s)
    let s := { s with cmd := { s.cmd with
      sessions := updFirst (fun (y : Session) => y.num == x.num) (fun y => { y with overSec := some sec }) s.cmd.sessions } }
    submit .cmd 0xB004 x.num s

/-- The session has a credit of the class, or room in its urgent window (R590). -/
def hasCredit (x : Session) (cls : Nat) : Bool :=
  if cls = 1 then decide (x.urgent < 2) else if cls = 2 then decide (0 < x.bulk) else decide (0 < x.normal)

/-- The session uses it. -/
def useCredit (cls now : Nat) (x : Session) : Session :=
  let x := { x with lastUse := now }
  if cls = 1 then { x with urgent := x.urgent + 1 }
  else if cls = 2 then { x with bulk := x.bulk - 1 } else { x with normal := x.normal - 1 }

/-- A request in the command queue: an urgent one goes ahead of all others, behind the urgent ones before it (R588, R598). -/
def enqueue (q : QReq) (l : List QReq) : List QReq :=
  if q.cls = 1 then l.filter (fun (x : QReq) => x.cls == 1) ++ q :: l.filter (fun (x : QReq) => x.cls != 1) else l ++ [q]

/-- A request queues; then check 6, and at shedding step 3 a normal request answers BUSY (R587, R599). -/
def queueReq (r : Req) (op cls flags : Nat) (p : List Byte) (s : State) : State :=
  let s := { s with cmd := { s.cmd with queue := enqueue { req := r, op := op, cls := cls, payload := p } s.cmd.queue } }
  if getFld flags 2 2 ≠ (if cls = 1 then 1 else if cls = 2 then 2 else 0) then respondTo true r op .badOpcode false [] s
  else if s.cmd.step = 3 ∧ cls = 0 then respondTo true r op .busy false [] s
  else s

/-- Checks 2 to 6 of R587 on a whole packet. The flag says that check 2 or 3 failed (R597). -/
def accept (t : Transport) (conn : Nat) (b : List Byte) (s : State) : State × Bool :=
  let op := leAt b 2 2
  let r : Req := ⟨t, leAt b 8 2, leAt b 4 4⟩
  let len := leAt b 10 2
  let p := bytesAt b 16 len
  let cls := reqClass op p
  if leAt b 0 1 ≠ 1 ∨ !knownOp op then (refuse r op .badOpcode s, true)
  else if 4096 < len ∨ !lenOk op p then (refuse r op .badLength s, true)
  else if r.session = 0 then
    if op = 0x01 ∨ op = 0x10 ∨ (s.pw.phase = .romRecovery ∧ t = .uart ∧ (op = 0x28 ∨ op = 0x29 ∨ op = 0x2A)) then
      if s.cmd.zeroBusy then (refuse r op .busy s, false)
      else (queueReq r op cls (leAt b 1 1) p { s with cmd := { s.cmd with zeroBusy := true, zeroConn := conn } }, false)
    else (refuse r op .denied s, false)
  else match findSession s r with
    | none => (refuse r op .denied s, false)
    | some x =>
      if !hasCredit x cls then (creditOverrun r op x s, false)
      else
        let now := td0 s
        let s := { s with cmd := { s.cmd with
          sessions := updFirst (fun (y : Session) => y.num == x.num) (useCredit cls now) s.cmd.sessions } }
        (queueReq r op cls (leAt b 1 1) p s, false)

/-- The command processor takes packets: firmware runs, in ROM recovery on the maintenance UART only (R73); not during a
management restart (R601). -/
def takesPackets (t : Transport) (s : State) : Bool :=
  s.cmd.restarting.isNone && (match s.pw.phase with
    | .firmware => true
    | .imageSelect => true
    | .configure => true
    | .running => true
    | .halted => true
    | .romRecovery => t == .uart
    | _ => false)

/-- A packet with its CRC, as the HPI and the UART carry it (R583, R585): an incomplete one is discarded and counted,
and answered with BAD_CRC once its header is complete. -/
def acceptCrc (t : Transport) (b : List Byte) (s : State) : State :=
  if !takesPackets t s then s
  else
    let bad := { s with cmd := { s.cmd with crcErr := satInc 32 s.cmd.crcErr } }
    if b.length < 16 then bad
    else
      let len := leAt b 10 2
      let r : Req := ⟨t, leAt b 8 2, leAt b 4 4⟩
      if b.length < 20 + len ∨ (crc32 (b.take (16 + len))).toNat ≠ leAt b (16 + len) 4 then refuse r (leAt b 2 2) .badCrc bad
      else (accept t 0 b s).1

/-- HPI_WRITE_TRANSFER (R583): the bytes after the 0xA5 of one write. -/
def execHpiWriteTransfer (bytes : List Byte) (s : State) : Res := .next (acceptCrc .hpi bytes s)

/-- The first pending packet of the HPI leaves. -/
def dropHpi : List Packet → List Packet
  | [] => []
  | p :: ps => if p.transport = .hpi then ps else p :: dropHpi ps

/-- HPI_READ_TRANSFER (R583): the oldest packet pending for the HPI is read; cut short, it stays pending. -/
def execHpiReadTransfer (complete : Bool) (s : State) : Res :=
  .next (if complete then setHirq { s with cmd := { s.cmd with out := dropHpi s.cmd.out } } else s)

/-- The bytes between two frame marks, escapes undone (R596). -/
def unescape : List Byte → List Byte
  | 0xDB#8 :: 0xDC#8 :: bs => 0xC0#8 :: unescape bs
  | 0xDB#8 :: 0xDD#8 :: bs => 0xDB#8 :: unescape bs
  | b :: bs => b :: unescape bs
  | [] => []

/-- One byte on MNT_RXD: 0xC0 opens a frame, and closes one that holds bytes (R596). -/
def uartByte (s : State) (b : Byte) : State :=
  let put (l : List Byte) : State := { s with cmd := { s.cmd with uart := l } }
  match s.cmd.uart with
  | [] => if b = 0xC0#8 then put [b] else s
  | _ :: frame =>
    if b = 0xC0#8 then (if frame.isEmpty then s else acceptCrc .uart (unescape frame) (put []))
    else put (s.cmd.uart ++ [b])

/-- UART_FRAME_RX (R596): bytes arrive on the maintenance UART. -/
def execUartFrameRx (bytes : List Byte) (s : State) : Res := .next (bytes.foldl uartByte s)

/-- UART_FRAME_TIMEOUT (R596): a frame that pauses is discarded and counted. -/
def execUartFrameTimeout (s : State) : Res :=
  .next (if s.cmd.uart.isEmpty then s
    else { s with cmd := { s.cmd with uart := [], crcErr := satInc 32 s.cmd.crcErr } })

/-! The TLS transport (R597, R618, R619). -/

/-- The code of a transport in an event's value. -/
def failTransport (t : Transport) : Nat := transportCode t

/-- SEC_AUTH_FAIL (R619): the detector, the count, and the transport's lock-out. -/
def authFail (cause : Nat) (t : Transport) (s : State) : State :=
  let s := fireDetOnce 0x28 (256 * cause + failTransport t) s
  let win := secT (pv s 0x1802 0 2 2 60)
  let fails := (t, td0 s) :: s.sec.fails.filter (fun e => !due s e.2 win)
  let s := { s with sec := { s.sec with authFail := satInc 32 s.sec.authFail, fails := fails } }
  let n := (fails.filter (fun e => e.1 == t)).length
  if t ≠ .uart ∧ pv s 0x1802 0 0 1 5 ≤ n ∧ !s.sec.locked.any (fun e => e.1 == t) then
    submit .sec 0xC00A (failTransport t) { s with sec := { s.sec with
      fails := s.sec.fails.filter (fun e => e.1 != t)
      locked := s.sec.locked ++ [(t, td0 s + secT (pv s 0x1802 0 4 2 300))] } }
  else s

/-- The transport is locked out (R619). -/
def lockedOut (t : Transport) (s : State) : Bool := s.sec.locked.any (fun e => e.1 == t && decide (td0 s < e.2))

/-- A TLS handshake (R618, R619): what refuses it, or the connection is authenticated. The validity times of
the certificate are compared with TD1 converted to UTC (R13). -/
def tlsHandshake (conn : Nat) (c : TlsClient) (s : State) : State :=
  if lockedOut .net s then s
  else if !s.sec.keys.any (fun (k : Key4) => k.kind == 3 && k.key == c.anchor) then authFail 3 .net s
  else if !c.sigOk then authFail 1 .net s
  else if !(s.tu.d1.qst == .locked || s.tu.d1.qst == .glide) then authFail 4 .net s
  else if utcSec s (td1 s) < c.notBefore ∨ (c.notAfter : Int) < utcSec s (td1 s) then authFail 5 .net s
  else { s with cmd := { s.cmd with conns := s.cmd.conns.filter (fun e => e.1 != conn) ++ [(conn, c.roles)] } }

/-- A connection ends: its session closes (R589). -/
def connEnd (conn : Nat) (s : State) : State :=
  let s := match s.cmd.sessions.find? (fun (x : Session) => x.conn == some conn) with
    | some x => closeSession x.num s
    | none => s
  { s with cmd := { s.cmd with
    conns := s.cmd.conns.filter (fun e => e.1 != conn), tls := s.cmd.tls.filter (fun e => e.1 != conn) } }

/-- Packets taken from the stream of a connection, `n` at most; what fails check 2 or 3 closes it (R597). -/
def tlsPackets (conn : Nat) : Nat → List Byte → State → State
  | 0, b, s => { s with cmd := { s.cmd with tls := s.cmd.tls.filter (fun e => e.1 != conn) ++ [(conn, b)] } }
  | n + 1, b, s =>
    let need := 16 + leAt b 10 2
    if b.length < 16 ∨ (b.length < need ∧ leAt b 10 2 ≤ 4096) then
      { s with cmd := { s.cmd with tls := s.cmd.tls.filter (fun e => e.1 != conn) ++ [(conn, b)] } }
    else
      let (s, broken) := accept .net conn b s
      if broken then connEnd conn s else tlsPackets conn n (b.drop need) s

/-- TLS_RECORD_RX (R597, R618): a handshake, or application data of an authenticated connection. -/
def execTlsRecordRx (conn : Nat) (handshake : Option TlsClient) (bytes : List Byte) (s : State) : Res :=
  .next (if !takesPackets .net s || (ifPorts s).isNone then s
    else
      let s := match handshake with | some c => tlsHandshake conn c s | none => s
      if s.cmd.conns.any (fun e => e.1 == conn) then
        let held := match s.cmd.tls.find? (fun e => e.1 == conn) with | some e => e.2 | none => []
        tlsPackets conn (bytes.length + 1) (held ++ bytes) s
      else s)

/-- TLS_CONNECTION_END (R589). -/
def execTlsConnectionEnd (conn : Nat) (s : State) : Res := .next (connEnd conn s)

/-! Register access (R594). -/

/-- A write of ACQ_TW_VMEAS (R337, R345). -/
def vmeasWrite (v : Nat) (s : State) : State × Status :=
  let s := { s with acq := { s.acq with vmTerm := getFld v 1 1 } }
  (if v % 2 = 1 then { s with acq := { s.acq with vmState := 1, vmAt := td0 s } } else s, .ok)

/-- A write of one register word (R594, R7, R602). -/
def writeWord (a v : Nat) (s : State) : State × Status :=
  if regAbsent s a then (s, .absent)
  else if (regAt s a).isNone then (s, .range)
  else if a / 65536 = 1 then tbWrite a v s
  else if a = 0x20820 then vmeasWrite v s
  else if a = 0x30038 then nodeSelWrite v s
  else if a = 0x40034 then brkWrite v s
  else if a = 0x40038 then peekWrite v s
  else if 0x60100 ≤ a ∧ a < 0x60140 ∧ a % 16 = 0 then writeChMode ((a - 0x60100) / 16) v s
  else if a = 0x70034 then clearFired (BitVec.ofNat 32 v) s
  else (s, .ok)

/-- The registers whose writable bits act on 1 alone: a masked write gives them the masked value. -/
def pulseReg (a : Nat) : Bool := [0x10004, 0x10008, 0x1000C, 0x20820, 0x40034, 0x70034].contains a

/-- The address range lies in the CAP_ block. -/
def inCap (addr count : Nat) : Bool := decide (addr + 4 * count ≤ 0x10000)

/-- The address range touches the SEC_ block, which no role writes (R620). -/
def touchesSec (addr count : Nat) : Bool := decide (addr < 0xD0000) && decide (0xC0000 < addr + 4 * count)

/-- Words written in ascending order until one fails: how many, and the status (R594). -/
def writeWords (a : Nat) : List Word → Nat → State → State × Nat × Status
  | [], n, s => (s, n, .ok)
  | v :: vs, n, s =>
    let (s', st) := writeWord a v.toNat s
    if st = .ok then writeWords (a + 4) vs (n + 1) s' else (s', n, st)

/-- REG_READ (R594, R589, R73, R76). -/
def regRead (r : Req) (addr count : Nat) (s : State) : State :=
  serve r 0x0010 s (fun s =>
    let as := (List.range count).map (fun i => addr + 4 * i)
    if r.session = 0 ∧ !inCap addr count then answer r 0x0010 .denied s
    else if (s.pw.phase = .halted ∨ s.pw.phase = .romRecovery) ∧ !inCap addr count then answer r 0x0010 .badState s
    else if count = 0 ∨ 1024 < count ∨ addr % 4 ≠ 0 then answer r 0x0010 .range s
    else if as.any (regAbsent s) then answer r 0x0010 .absent s
    else respond r 0x0010 .ok false (as.flatMap (fun a => leBytes 4 (regVal s a))) s)

/-- REG_READ (R594). -/
def execRegRead (r : Req) (addr count : Nat) (s : State) : Res := .next (regRead r addr count s)

/-- REG_WRITE (R594). -/
def regWrite (r : Req) (addr : Nat) (values : List Word) (s : State) : State :=
  serve r 0x0011 s (fun s =>
    if touchesSec addr values.length then answer r 0x0011 .denied s
    else if values.isEmpty ∨ 1022 < values.length ∨ addr % 4 ≠ 0 then answer r 0x0011 .range s
    else
      let (s, n, st) := writeWords addr values 0 s
      respond r 0x0011 st false (leBytes 2 n) s)

/-- REG_WRITE (R594). -/
def execRegWrite (r : Req) (addr : Nat) (values : List Word) (s : State) : Res := .next (regWrite r addr values s)

/-- REG_MODIFY (R588, R593): a masked write and both values. -/
def regModify (r : Req) (addr : Nat) (mask value : Word) (s : State) : State :=
  serve r 0x0012 s (fun s =>
    if touchesSec addr 1 then answer r 0x0012 .denied s
    else if addr % 4 ≠ 0 then answer r 0x0012 .range s
    else
      let old := regVal s addr
      let v := if pulseReg addr then value &&& mask else (BitVec.ofNat 32 old &&& ~~~mask) ||| (value &&& mask)
      let (s, st) := writeWord addr v.toNat s
      if st = .ok then respond r 0x0012 .ok false (leBytes 4 old ++ leBytes 4 (regVal s addr)) s else answer r 0x0012 st s)

/-- REG_MODIFY (R588). -/
def execRegModify (r : Req) (addr : Nat) (mask value : Word) (s : State) : Res := .next (regModify r addr mask value s)

/-- GS_NODE_SEL written (R241). -/
def execGsNodeSelWrite (r : Req) (node : Nat) (s : State) : Res := .next (serveWrite r s (nodeSelWrite node))

/-- ACQ_TW_VMEAS.ARM written (R337). -/
def execTwVmeasArm (r : Req) (terminal : Nat) (s : State) : Res :=
  .next (serveWrite r s (fun s => writeWord 0x20820 (2 * (terminal % 2) + 1) s))

/-! Streams and shedding (R592, R599). -/

/-- A session's record changed. -/
def updSession (num : Nat) (f : Session → Session) (s : State) : State :=
  { s with cmd := { s.cmd with sessions := updFirst (fun (x : Session) => x.num == num) f s.cmd.sessions } }

/-- DIAG_STREAM (R593). A stream that names a register of an absent unit answers ABSENT (R3). -/
def execDiagStream (r : Req) (period : Nat) (addrs : List Nat) (s : State) : Res :=
  .next (serve r 0x00C0 s (fun s =>
    let now := td0 s
    if period = 0 then answer r 0x00C0 .ok (updSession r.session (fun x => { x with diag := none }) s)
    else if period < 10 ∨ 10000 < period ∨ addrs.isEmpty ∨ 64 < addrs.length then answer r 0x00C0 .range s
    else if addrs.any (regAbsent s) then answer r 0x00C0 .absent s
    else answer r 0x00C0 .ok (updSession r.session (fun x => { x with diag := some (period, addrs), diagAt := now }) s)))

/-- DIAG_DATA (R592): a stream's period ends; paused at shedding step 1 and above. -/
def execDiagData (session : Nat) (s : State) : Res :=
  .next (match s.cmd.sessions.find? (fun (x : Session) => x.num == session) with
    | none => s
    | some x => match x.diag with
      | none => s
      | some (period, addrs) =>
        if !due s x.diagAt (msT period) then s
        else
          let s := updSession session (fun y => { y with diagAt := y.diagAt + msT period }) s
          if s.cmd.step != 0 then s
          else unsolicited x 0x0102 0 (stamp (td1 s) ++ addrs.flatMap (fun a => leBytes 4 (regVal s a))) s)

/-- The bulk credits that step 2 withheld are granted (R591, R599). -/
def grantOwed (s : State) : State :=
  s.cmd.sessions.foldl (fun s x =>
    if x.owedBulk = 0 then s
    else
      let s := unsolicited x 0x0100 (2 * 2 ^ 14 + x.owedBulk) [] s
      updSession x.num (fun y => { y with bulk := y.bulk + y.owedBulk, owedBulk := 0 }) s) s

/-- The shedding step changes: LOAD_SHED. -/
def setShed (n : Nat) (s : State) : State :=
  let s := { s with cmd := { s.cmd with step := n } }
  submit .cmd 0xB003 n (if n < 2 then grantOwed s else s)

/-- LOAD_WINDOW (R599): the mean of the last 100 ms in 0.01 %. -/
def loadWindow (mean : Nat) (s : State) : State :=
  let step := s.cmd.step
  let low := if 7000 ≤ mean then none else match s.cmd.lowSince with | some t => some t | none => some (td0 s - msT 100)
  let s := { s with cmd := { s.cmd with loadMean := mean, loadPeak := max s.cmd.loadPeak mean, lowSince := low } }
  let thr := if step = 0 then 8000 else if step = 1 then 9000 else 9700
  if step < 3 ∧ thr ≤ mean then setShed (step + 1) s
  else match low with
    | some t =>
      if 0 < step ∧ due s t (secT 1) then setShed (step - 1) { s with cmd := { s.cmd with lowSince := some (td0 s) } } else s
    | none => s

/-- LOAD_WINDOW (R599). -/
def execLoadWindow (mean : Nat) (s : State) : Res := .next (loadWindow mean s)

end Sys2Proof.Machine
end

