-- ==== Sys2Proof/Machine/Cx.lean ====
section
/-! DEFINITION. Complex fixed-point numbers and the functions that the measurement operators and the elements use:
angles in units of 2^-44 turn, sines and cosines in units of 2^-44, settings taken to the nearest step (R208, R248,
R250, R281). The order of accumulation of an op type is Jibel's (R208); the model computes each quantity in fixed point
and rounds it once (DESIGN CHOICE, log entry 31). -/

namespace Sys2Proof.Machine

/-- A complex number, both parts in one unit. -/
structure Ph where
  re : Int
  im : Int
  deriving DecidableEq, Repr, Inhabited

/-- Sum. -/
def Ph.add (a b : Ph) : Ph := ⟨a.re + b.re, a.im + b.im⟩

/-- Difference. -/
def Ph.sub (a b : Ph) : Ph := ⟨a.re - b.re, a.im - b.im⟩

/-- Negative. -/
def Ph.neg (a : Ph) : Ph := ⟨-a.re, -a.im⟩

/-- Conjugate. -/
def Ph.conj (a : Ph) : Ph := ⟨a.re, -a.im⟩

/-- Product. -/
def Ph.mul (a b : Ph) : Ph := ⟨a.re * b.re - a.im * b.im, a.re * b.im + a.im * b.re⟩

/-- A whole multiple. -/
def Ph.smul (k : Int) (a : Ph) : Ph := ⟨k * a.re, k * a.im⟩

/-- Both parts divided by a whole number. -/
def Ph.sdiv (a : Ph) (k : Int) : Ph := ⟨a.re / k, a.im / k⟩

/-- The square of the magnitude. -/
def Ph.sq (a : Ph) : Nat := (a.re * a.re + a.im * a.im).toNat

/-- The magnitude. -/
def Ph.mag (a : Ph) : Nat := isqrt a.sq

/-- The unit of angle-function values: 2^44. -/
def one44 : Int := 2 ^ 44

/-- arctan(2^-i) for i = 0 to 41, in units of 2^-44 turn. -/
def atanTable : List Int :=
  [2199023255552, 1298159229407, 685911684590, 348179481054, 174765388006, 87467890064, 43744617923] ++
  [21873643805, 10936988781, 5468515251, 2734260233, 1367130443, 683565262, 341782636, 170891319] ++
  [85445659, 42722830, 21361415, 10680707, 5340354, 2670177, 1335088, 667544, 333772, 166886] ++
  [83443, 41722, 20861, 10430, 5215, 2608, 1304, 652, 326, 163, 81, 41, 20, 10, 5, 3, 1]

/-- The product of the cosines of these angles, in units of 2^-44. -/
def rotGain : Int := 10682906608694

/-- One step of the rotation: (x, y, angle left) by ± arctan(2^-i), towards angle 0. -/
def rotStep (p : Int × Int × Int) (e : Int × Nat) : Int × Int × Int :=
  let (x, y, z) := p
  let d : Int := 2 ^ e.2
  if 0 ≤ z then (x - y / d, y + x / d, z - e.1) else (x + y / d, y - x / d, z + e.1)

/-- Cosine and sine of an angle in units of 2^-44 turn. -/
def cosSin (turn : Int) : Ph :=
  let t := turn % one44
  -- quadrant, and the rest within ± 1/8 turn
  let q := (t + 2 ^ 41) / 2 ^ 42
  let r := t - q * 2 ^ 42
  let (x, y, _) := atanTable.zipIdx.foldl rotStep (rotGain, 0, r)
  match (q % 4).toNat with
  | 0 => ⟨x, y⟩
  | 1 => ⟨-y, x⟩
  | 2 => ⟨-x, -y⟩
  | _ => ⟨y, -x⟩

/-- One step of the opposite rotation: (x, y, angle found), y towards 0. -/
def vecStep (p : Int × Int × Int) (e : Int × Nat) : Int × Int × Int :=
  let (x, y, z) := p
  let d : Int := 2 ^ e.2
  if 0 ≤ y then (x + y / d, y - x / d, z + e.1) else (x - y / d, y + x / d, z - e.1)

/-- The angle of a number in units of 2^-44 turn, from -2^43 to 2^43; 0 for the number 0. -/
def Ph.arg (a : Ph) : Int :=
  if a.re = 0 ∧ a.im = 0 then 0
  else
    -- scaled up so that the shifts lose nothing that matters
    let x := a.re * 2 ^ 48
    let y := a.im * 2 ^ 48
    let (x, y, z0) := if 0 ≤ x then (x, y, 0) else if 0 ≤ y then (y, -x, (2 ^ 42 : Int)) else (-y, x, -(2 ^ 42 : Int))
    (atanTable.zipIdx.foldl vecStep (x, y, z0)).2.2

/-- An angle in tenths of a degree in units of 2^-44 turn. -/
def deci (d : Int) : Int := d * one44 / 3600

/-- A unit phasor at an angle in tenths of a degree. -/
def unitPh (d : Int) : Ph := cosSin (deci d)

/-- `a` turned by an angle in units of 2^-44 turn. -/
def Ph.turn (a : Ph) (t : Int) : Ph := (a.mul (cosSin t)).sdiv one44

/-- The angle of `z` lies within `centre` ± `half`, both in tenths of a degree, half below 180. -/
def within (z : Ph) (centre half : Int) : Bool :=
  let w := z.mul (cosSin (-(deci centre)))
  let c := (unitPh half).re
  let lhs : Int := w.re * w.re * (one44 * one44)
  let rhs : Int := (w.sq : Int) * (c * c)
  decide (z.re ≠ 0 ∨ z.im ≠ 0) &&
    (if 0 ≤ c then decide (0 ≤ w.re) && decide (rhs ≤ lhs) else decide (0 ≤ w.re) || decide (lhs ≤ rhs))

/-- The operator a = e^(j 2 pi / 3) and its square, units of 2^-44 (R250). -/
def opA : Ph := unitPh 1200

/-- a². -/
def opA2 : Ph := unitPh 2400

/-- The largest r with r^k ≤ n, found bit by bit from bit `b` down. -/
def rootFrom (k : Nat) : Nat → Nat → Nat → Nat
  | 0, r, n => if (r + 1) ^ k ≤ n then r + 1 else r
  | b + 1, r, n => rootFrom k b (if (r + 2 ^ (b + 1)) ^ k ≤ n then r + 2 ^ (b + 1) else r) n

/-- A binary32 setting as a count of steps, `den` steps to one unit, to the nearest (R641). -/
def fpSteps (v den : Nat) : Int :=
  let x := fInt (BitVec.ofNat 32 v) * den * 2
  (x + 2 ^ 149) / (2 * 2 ^ 149)

/-- num / den as binary32. -/
def fpOf (num : Int) (den : Nat) : Nat := (fOfRat num den).toNat

end Sys2Proof.Machine
end

