-- ==== Sys2Proof/Machine/Measure.lean ====
section
/-! DEFINITION. The measurement operators: windows and quality, the frequency tracker, phasors, sequence components,
powers, energies, impedance loops, harmonics (R243 to R256). Phasor parts and magnitudes are in 10^-6 of the primary
unit, frequencies in uHz. -/

namespace Sys2Proof.Machine

/-! Quality (R183, R243). -/

/-- The worst of two validities: invalid, then questionable, then good. -/
def worstV (a b : Nat) : Nat :=
  if a = 1 ∨ a = 2 ∨ b = 1 ∨ b = 2 then 1 else if a = 3 ∨ b = 3 then 3 else 0

/-- The validity of a quality byte. -/
def valOf (q : BitVec 8) : Nat := q.toNat % 4

/-- The worst validity and the OR of the flags. -/
def joinQ (a b : BitVec 8) : BitVec 8 :=
  BitVec.ofNat 8 (((a ||| b).toNat / 4) * 4 + worstV (valOf a) (valOf b))

/-- Quality bytes joined; good when there is none. -/
def joinQs (qs : List (BitVec 8)) : BitVec 8 := qs.foldl joinQ 0#8

/-- A quality byte with its validity replaced. -/
def withV (q : BitVec 8) (v : Nat) : BitVec 8 := BitVec.ofNat 8 (q.toNat / 4 * 4 + v)

/-- A quality byte at least as bad as questionable. -/
def atLeastQ (q : BitVec 8) : BitVec 8 := withV q (worstV (valOf q) 3)

/-- A quality byte with its validity joined with another: its flags stay (R243). -/
def joinV (q : BitVec 8) (v : Nat) : BitVec 8 := withV q (worstV (valOf q) v)

/-- The quality byte is invalid. -/
def isInv (q : BitVec 8) : Bool := valOf q == 1 || valOf q == 2

/-! Tokens (R182, R104). -/

/-- The tokens of a channel as the instance sees them, its own wave's first. -/
def histOf (s : State) (i : Inst) (c : Nat) : List (Int × BitVec 8) :=
  (s.acq.ch.getD c Chan.reset).hist.drop (s.acq.waves - i.tok)

/-- One code of a channel in 10^-6 of the primary unit, as a ratio: 1 mA for SV_INDEX 0 to 3 and 10 mV for 4 to 7 of an SV
source, which ignores SCALE (R104, R196), the scale of the channels section otherwise; negated by FLAGS bit 0 (R179). -/
def codeUnit (s : State) (c : Nat) : Int × Nat :=
  match chanEntry s c with
  | none => (0, 1)
  | some e =>
    let g : Int := if e.invert then -1 else 1
    if e.source = 2 then (g * (if 4 ≤ e.svIndex then 10000 else 1000), 1)
    else (g * fInt (BitVec.ofNat 32 e.scale) * 4096 * 1000000, 8388607000 * 2 ^ 149)

/-- NOMINAL of a channel in 10^-6 of the primary unit. -/
def nominalOf (s : State) (c : Nat) : Nat :=
  match chanEntry s c with
  | none => 0
  | some e => fMag (BitVec.ofNat 32 e.nominal) * 1000000 / 2 ^ 149

/-- The nominal frequency in uHz (PID 0x0514). -/
def nominalHz (s : State) : Nat := if pv s 0x0514 0 0 1 0 = 1 then 60000000 else 50000000

/-- Tokens in one cycle of a frequency, rounded up. -/
def cycleTokens (f : Nat) : Nat := (16000000000 + f - 1) / f

/-- Value of token `k` back. -/
def tokAt (h : List (Int × BitVec 8)) (k : Nat) : Int := (h.getD k (0, 1#8)).1

/-- The value `d / f` tokens back by the 4-point cubic Lagrange interpolator, in 2^-20 codes (R248). -/
def interp (h : List (Int × BitVec 8)) (d f : Nat) : Int :=
  let q := d / f
  let r := d % f
  if r = 0 then tokAt h q * 2 ^ 20
  else
    let u : Int := 2 ^ 32
    let x : Int := (r * 2 ^ 32 / f : Nat)
    let t0 := if q = 0 then tokAt h 0 else tokAt h (q - 1)
    let v := -x * (x - u) * (x - 2 * u) * t0 + 3 * (x + u) * (x - u) * (x - 2 * u) * tokAt h q
      - 3 * (x + u) * x * (x - 2 * u) * tokAt h (q + 1) + (x + u) * x * (x - u) * tokAt h (q + 2)
    v * 2 ^ 20 / (6 * u * u * u)

/-- Point `m` points before the window's end: m / (64 f) before the wave's token, as tokens times `f` (R248). -/
def pointBack (m : Nat) : Nat := m * 250000000

/-- Quality of a window of `n` tokens; a window that reaches before the first token is invalid (R243, R249). -/
def windowQ (h : List (Int × BitVec 8)) (n : Nat) : BitVec 8 :=
  let q := joinQs ((h.take n).map (·.2))
  if h.length < n then withV q 1 else q

/-- The square root of 2 in units of 2^-44. -/
def root2 : Int := isqrt (2 * 2 ^ 88)

/-- A DFT of harmonic `k` over points first to 0 points back, over `half` points per half amplitude (R248): phasor in
2^-20 codes, rms. -/
def dft (h : List (Int × BitVec 8)) (f k points denom : Nat) : Ph :=
  let x := (List.range points).foldl (fun (a : Ph) m =>
    -- e^(-j 2 pi k (-m) / 64)
    let c := cosSin ((k * m % 64 : Nat) * one44 / 64)
    a.add (c.smul (interp h (pointBack m) f))) ⟨0, 0⟩
  ((x.smul root2).sdiv (one44 * one44)).sdiv denom

/-- Codes times 2^20 as 10^-6 primary. -/
def toPrimary (s : State) (c : Nat) (x : Ph) : Ph :=
  let (n, d) := codeUnit s c
  (x.smul n).sdiv (d * 2 ^ 20)

/-- Full-cycle DFT phasor of a channel, `o` tokens before the instance's wave, and its quality (R248, R249). -/
def fullPh (s : State) (i : Inst) (f c o : Nat) : Ph × BitVec 8 :=
  if 16 ≤ c then (⟨0, 0⟩, 1#8)
  else
    let h := (histOf s i c).drop o
    (toPrimary s c (dft h f 1 64 64), windowQ h (cycleTokens f + 2))

/-- Half-cycle DFT phasor (R248, R249). -/
def halfPh (s : State) (i : Inst) (f c : Nat) : Ph × BitVec 8 :=
  if 16 ≤ c then (⟨0, 0⟩, 1#8)
  else
    let h := histOf s i c
    (toPrimary s c (dft h f 1 32 32), windowQ h ((8000000000 + f - 1) / f + 2))

/-- Cosine filter phasor (R248, R249): the quarter-cycle value is interpolated linearly between waves. -/
def cosPh (s : State) (i : Inst) (f c : Nat) : Ph × BitVec 8 :=
  if 16 ≤ c then (⟨0, 0⟩, 1#8)
  else
    let h := histOf s i c
    let q := 4000000000 / f
    let r : Int := (4000000000 % f : Nat)
    let at_ (o : Nat) : Int := (toPrimary s c (dft (h.drop o) f 1 64 64)).re
    let a := at_ q
    let b := at_ (q + 1)
    (⟨at_ 0, a + (b - a) * r / f⟩, windowQ h ((20000000000 + f - 1) / f + 2))

/-! Settings (R228, R256, R641). -/

/-- The bytes of a setting for an op instance in the group it was created under; a record of group 0 stands for a group
that does not hold it. -/
def setting (s : State) (i : Inst) (inst low : Nat) : Option (List Byte) :=
  match prm s (0x1000 + 0x100 * i.group + low) inst with
  | some v => some v
  | none => prm s (0x1000 + low) inst

/-- A whole-number setting of `n` bytes. -/
def setN (s : State) (i : Inst) (inst low n dflt : Nat) : Nat :=
  match setting s i inst low with | some v => leAt v 0 n | none => dflt

/-- A setting with a step below 1, as a count of steps of 1 / den. -/
def setF (s : State) (i : Inst) (inst low den : Nat) (dflt : Int) : Int :=
  match setting s i inst low with | some v => fpSteps (leAt v 0 4) den | none => dflt

/-! Elements and trackers as contexts (R210, R212). -/

/-- A context as a node starts with it. -/
def Elem.fresh (n : Node) : Elem := { (default : Elem) with node := n.num, inst := n.inst }

/-- The context of a node. -/
def elemOf (s : State) (n : Node) : Elem :=
  (s.gr.elems.find? (fun (e : Elem) => e.node == n.num)).getD (Elem.fresh n)

/-- The context of a node written. -/
def putElem (e : Elem) (s : State) : State :=
  if s.gr.elems.any (fun (x : Elem) => x.node == e.node) then
    { s with gr := { s.gr with elems := updFirst (fun (x : Elem) => x.node == e.node) (fun _ => e) s.gr.elems } }
  else { s with gr := { s.gr with elems := s.gr.elems ++ [e] } }

/-- The node that tracks a terminal. -/
def trackerNode (s : State) (term : Nat) : Option Node :=
  match graphSec s with
  | some g => g.nodes.find? (fun (n : Node) => n.op == .tracker && n.terminal == term)
  | none => none

/-- The least validity that an instance's inputs impose on a channel, or on its tracker at 16 + terminal (R231, R256). -/
def Inst.least (i : Inst) (k : Nat) : Nat :=
  (i.inV.filter (fun p => p.1 == k)).foldl (fun a p => worstV a p.2) 0

/-- What a context gave on an instance's wave, or on the last wave before it. -/
def Elem.trackFor (e : Elem) (i : Inst) : Option Track := e.track.find? (fun (t : Track) => decide (t.tok ≤ i.tok))

/-- The tracker's output for an instance's wave, or its last one before it (R245). -/
def trackAt (s : State) (i : Inst) (term : Nat) : Option Track := (trackerNode s term).bind (fun n => (elemOf s n).trackFor i)

/-- The tracked frequency of a terminal for an instance's wave and its quality; the nominal frequency, adding nothing to
a quality, where the graph holds no tracker (R245). -/
def trackedHz (s : State) (i : Inst) (term : Nat) : Nat × BitVec 8 :=
  if (trackerNode s term).isNone then (nominalHz s, 0#8)
  else match trackAt s i term with
    | some t => (t.hz, joinV (BitVec.ofNat 8 t.qual) (i.least (16 + term)))
    | none => (nominalHz s, 1#8)

/-- An estimate with the validities that the instance's inputs and its tracker impose (R243). -/
def imposed (i : Inst) (tq : BitVec 8) (c : Nat) (x : Ph × BitVec 8) : Ph × BitVec 8 :=
  (x.1, joinV x.2 (worstV (valOf tq) (i.least c)))

/-! Sequence components (R250). -/

/-- Sequence components 0, 1 and 2 of three phasors; `acb` exchanges B and C. -/
def seqs (acb : Bool) (a b c : Ph) : Ph × Ph × Ph :=
  let (b, c) := if acb then (c, b) else (b, c)
  let up (x : Ph) : Ph := x.smul one44
  let x0 := ((up a).add ((up b).add (up c))).sdiv (3 * one44)
  let x1 := ((up a).add ((opA.mul b).add (opA2.mul c))).sdiv (3 * one44)
  let x2 := ((up a).add ((opA2.mul b).add (opA.mul c))).sdiv (3 * one44)
  (x0, x1, x2)

/-- Phase rotation of an op instance (low byte 0x05). -/
def isAcb (s : State) (i : Inst) (inst : Nat) : Bool := setN s i inst 0x05 1 0 == 1

/-- What an element or a derived op reads: the phasors of VA, VB, VC, IA, IB, IC and the residual IR, with qualities, and
the frequency. -/
structure Meas where
  f : Nat
  ph : List Ph
  q : List (BitVec 8)
  deriving DecidableEq, Repr

/-- Phasor `k` of a measurement. -/
def Meas.p (m : Meas) (k : Nat) : Ph := m.ph.getD k ⟨0, 0⟩

/-- Quality `k` of a measurement. -/
def Meas.qu (m : Meas) (k : Nat) : BitVec 8 := m.q.getD k 1#8

/-- The measurement of a node's channels by an estimator; the residual is the IN channel or the sum, as the residual
source selects (R253). -/
def measure (s : State) (i : Inst) (n : Node) (est : Nat → Nat → Ph × BitVec 8) : Meas :=
  let (f, tq) := trackedHz s i n.terminal
  let at_ (k : Nat) : Ph × BitVec 8 := let c := n.chans.getD k 255; imposed i tq c (est f c)
  let xs := (List.range 6).map at_
  let ir := if setN s i n.inst 0x08 1 1 = 0 then at_ 6
    else
      let p (k : Nat) : Ph × BitVec 8 := xs.getD k (⟨0, 0⟩, 1#8)
      ((p 3).1.add ((p 4).1.add (p 5).1), joinQs [(p 3).2, (p 4).2, (p 5).2])
  let all := xs ++ [ir]
  { f := f, ph := all.map (·.1), q := all.map (·.2) }

/-- Full-cycle measurement. -/
def measFull (s : State) (i : Inst) (n : Node) : Meas := measure s i n (fun f c => fullPh s i f c 0)

/-- Full-cycle measurement `o` waves earlier, at this wave's frequency. -/
def measBack (s : State) (i : Inst) (n : Node) (o : Nat) : Meas := measure s i n (fun f c => fullPh s i f c o)

/-- Half-cycle measurement. -/
def measHalf (s : State) (i : Inst) (n : Node) : Meas := measure s i n (fun f c => halfPh s i f c)

/-- Sequence components of the voltages. -/
def vSeq (s : State) (i : Inst) (n : Node) (m : Meas) : Ph × Ph × Ph :=
  seqs (isAcb s i n.inst) (m.p 0) (m.p 1) (m.p 2)

/-- Sequence components of the currents. -/
def iSeq (s : State) (i : Inst) (n : Node) (m : Meas) : Ph × Ph × Ph :=
  seqs (isAcb s i n.inst) (m.p 3) (m.p 4) (m.p 5)

/-- k0 in units of 2^-44 (R253; low bytes 0x06 and 0x07). -/
def k0Of (s : State) (i : Inst) (inst : Nat) : Ph :=
  ((unitPh (setF s i inst 0x07 10 0)).smul (setF s i inst 0x06 1000 500)).sdiv 1000

/-- Voltage of loop `l` (0 AG to 5 CA). -/
def loopV (m : Meas) (l : Nat) : Ph :=
  if l < 3 then m.p l else (m.p (l - 3)).sub (m.p ((l - 2) % 3))

/-- Compensated current of loop `l` (R253). -/
def loopI (k0 : Ph) (m : Meas) (l : Nat) : Ph :=
  if l < 3 then (m.p (3 + l)).add ((k0.mul (m.p 6)).sdiv one44) else (m.p l).sub (m.p (3 + (l - 2) % 3))

/-- Quality of loop `l`. -/
def loopQ (m : Meas) (l : Nat) : BitVec 8 :=
  if l < 3 then joinQs [m.qu l, m.qu (3 + l), m.qu 6]
  else joinQs [m.qu (l - 3), m.qu ((l - 2) % 3), m.qu l, m.qu (3 + (l - 2) % 3)]

/-- An impedance v / i in 10^-6 ohm. -/
def impedance (v i : Ph) : Ph :=
  if i.sq = 0 then ⟨0, 0⟩ else ((v.mul i.conj).smul 1000000).sdiv i.sq

/-- In of a node: NOMINAL of its first current channel; Vn of its first voltage channel. -/
def nomI (s : State) (n : Node) : Nat := nominalOf s (n.chans.getD 3 255)

/-- Vn of a node. -/
def nomV (s : State) (n : Node) : Nat := nominalOf s (n.chans.getD 0 255)

/-- Waves for which the outputs of an op stay questionable after a change of its settings emptied its windows (R256). -/
def filling (s : State) (i : Inst) (n : Node) : Bool :=
  let w := smGet s.gr.winFrom n.num
  w != 0 && decide (i.tok + 1 < w + cycleTokens (trackedHz s i n.terminal).1 + 2)

/-! Outputs of the measurement ops, in port order. -/

/-- A magnitude and an angle in degrees as two output values (R244). -/
def phasorOuts (port : Nat) (x : Ph) (q : BitVec 8) : List OutVal :=
  [⟨port, fpOf x.mag 1000000, q⟩, ⟨port + 1, fpOf (x.arg * 360) (2 ^ 44), q⟩]

/-- Phasor estimator (R248): magnitude and angle. -/
def opPhasor (s : State) (i : Inst) (n : Node) : List OutVal :=
  let (f, tq) := trackedHz s i n.terminal
  let c := n.chans.getD 0 255
  let (x, q) := if n.variant = 1 then halfPh s i f c else if n.variant = 2 then cosPh s i f c else fullPh s i f c 0
  phasorOuts 0 x (joinV q (valOf tq))

/-- Sequence components of three channels (R250): magnitudes and angles of 0, 1 and 2. -/
def opSequence (s : State) (i : Inst) (n : Node) : List OutVal :=
  let (f, tq) := trackedHz s i n.terminal
  let x (k : Nat) : Ph × BitVec 8 := let c := n.chans.getD k 255; imposed i tq c (fullPh s i f c 0)
  let (x0, x1, x2) := seqs (isAcb s i n.inst) (x 0).1 (x 1).1 (x 2).1
  let q := joinQs [(x 0).2, (x 1).2, (x 2).2]
  phasorOuts 0 x0 q ++ phasorOuts 2 x1 q ++ phasorOuts 4 x2 q

/-- Impedance loops (R253): R and X of AG to CA in ohms; 0 and invalid below 2 % of nominal current. -/
def opImpedance (s : State) (i : Inst) (n : Node) : List OutVal :=
  let m := measFull s i n
  let k0 := k0Of s i n.inst
  (List.range 6).flatMap (fun l =>
    let il := loopI k0 m l
    if il.mag * 100 < 2 * nomI s n then [⟨2 * l, 0, withV (loopQ m l) 1⟩, ⟨2 * l + 1, 0, withV (loopQ m l) 1⟩]
    else
      let z := impedance (loopV m l) il
      [⟨2 * l, fpOf z.re 1000000, loopQ m l⟩, ⟨2 * l + 1, fpOf z.im 1000000, loopQ m l⟩])

/-- The complex power of phase `k` in 10^-6 VA, with the power sign setting applied (R251). -/
def phasePower (s : State) (i : Inst) (n : Node) (m : Meas) (k : Nat) : Ph :=
  let x := ((m.p k).mul (m.p (3 + k)).conj).sdiv 1000000
  if setN s i n.inst 0x09 1 0 = 1 then x.neg else x

/-- True active power: the mean of v times i over the cycle window, in 10^-6 W (R251). -/
def truePower (s : State) (i : Inst) (n : Node) (f : Nat) : Int :=
  let len := max 1 (16000000000 / f)
  let one (k : Nat) : Int :=
    let cv := n.chans.getD k 255
    let ci := n.chans.getD (3 + k) 255
    let (nv, dv) := codeUnit s cv
    let (ni, di) := codeUnit s ci
    let p := (((histOf s i cv).zip (histOf s i ci)).take len).foldl (fun (a : Int) t => a + t.1.1 * t.2.1) 0
    p * nv * ni / (dv * di * 1000000 * len)
  let p := one 0 + one 1 + one 2
  if setN s i n.inst 0x09 1 0 = 1 then -p else p

/-- Powers (R251): P, Q and |S| of each phase, P, Q and |S| of the three phases, power factor, true active power. -/
def opPower (s : State) (i : Inst) (n : Node) : List OutVal :=
  let m := measFull s i n
  let sk (k : Nat) : Ph := phasePower s i n m k
  let qk (k : Nat) : BitVec 8 := joinQ (m.qu k) (m.qu (3 + k))
  let q := joinQs [qk 0, qk 1, qk 2]
  let tot := (sk 0).add ((sk 1).add (sk 2))
  let three (port : Nat) (x : Ph) (q : BitVec 8) : List OutVal :=
    [⟨port, fpOf x.re 1000000, q⟩, ⟨port + 1, fpOf x.im 1000000, q⟩, ⟨port + 2, fpOf x.mag 1000000, q⟩]
  let small := tot.mag * 100 < 3 * (nomV s n * nomI s n / 1000000)
  three 0 (sk 0) (qk 0) ++ three 3 (sk 1) (qk 1) ++ three 6 (sk 2) (qk 2) ++ three 9 tot q ++
    [⟨12, if tot.mag = 0 then 0 else fpOf tot.re tot.mag, if small then withV q 1 else q⟩,
     ⟨13, fpOf (truePower s i n m.f) 1000000, q⟩]

/-- Harmonics 2 to 15 in percent of the fundamental and THD (R254). -/
def opHarmonic (s : State) (i : Inst) (n : Node) : List OutVal :=
  let (f, tq) := trackedHz s i n.terminal
  let c := n.chans.getD 0 255
  let h := histOf s i c
  let q := joinV (windowQ h (cycleTokens f + 2)) (valOf tq)
  let mag (k : Nat) : Nat := (dft h f k 64 64).mag
  let fund := max 1 (mag 1)
  let hs := (List.range 14).map (fun k => mag (k + 2))
  let ss := hs.foldl (fun a x => a + x * x) 0
  let base := if setN s i n.inst 0x0A 1 0 = 1 then max 1 (isqrt (ss + fund * fund)) else fund
  (hs.zipIdx.map (fun (x, k) => (⟨k, fpOf (x * 100) fund, q⟩ : OutVal))) ++ [⟨14, fpOf (isqrt ss * 100) base, q⟩]

/-- A DFT of `cycles` tracked cycles at 128 points per cycle, at bin `k` of the window's own resolution: rms, in 2^-20 codes
(R254). -/
def dftFine (h : List (Int × BitVec 8)) (f cycles k : Nat) : Ph :=
  let n := 128 * cycles
  let x := (List.range n).foldl (fun (a : Ph) m =>
    a.add ((cosSin ((k * m % n : Nat) * one44 / n)).smul (interp h (m * 125000000) f))) ⟨0, 0⟩
  ((x.smul root2).sdiv (one44 * one44)).sdiv n

/-- Harmonic analysis of a 200 ms window, which begins with the wave that its outputs are tagged with (R242, R254): harmonics 2
to 63 in percent of the fundamental, then the harmonic groups. The window holds 10 cycles at 50 Hz nominal and 12 at 60 Hz,
and a group is the root of the squares of the bins around its harmonic, the outer two at half weight, as IEC 61000-4-7 has
it (PRESUMED, log entry 83). -/
def opHarmonic63 (s : State) (i : Inst) (n : Node) : List OutVal :=
  let (f, tq) := trackedHz s i n.terminal
  let c := n.chans.getD 0 255
  let cycles := if nominalHz s = 60000000 then 12 else 10
  -- tokens released since the window's last wave
  let back := (s.acq.wave + 2 ^ 33 - i.wave - 3199) % 2 ^ 32
  let h := (s.acq.ch.getD c Chan.reset).hist.drop back
  let q := joinV (windowQ h 3200) (valOf tq)
  let mag (k : Nat) : Nat := (dftFine h f cycles k).mag
  let fund := max 1 (mag cycles)
  let group (k : Nat) : Nat :=
    let sq (b : Nat) : Nat := mag b * mag b
    let half := cycles / 2
    let inner := ((List.range (cycles - 1)).map (fun j => sq (k * cycles + j + 1 - half))).foldl (· + ·) 0
    isqrt ((sq (k * cycles - half) + sq (k * cycles + half)) / 2 + inner)
  (List.range 62).map (fun k => (⟨k, fpOf (mag ((k + 2) * cycles) * 100) fund, q⟩ : OutVal)) ++
    (List.range 62).map (fun k => (⟨62 + k, fpOf (group (k + 2) * 100) fund, q⟩ : OutVal))

/-- One energy quantum in units of 10^-6 W for one wave period (low byte 0x0B). -/
def quantum (s : State) (i : Inst) (inst : Nat) : Nat := max 1 (setN s i inst 0x0B 4 1000) * 57600000 * 1000000

/-- Energies (R252): the wave's P and Q go to the registers their signs select; the first wave of another TD1 second
outputs the whole quanta of the second before and keeps the remainders; a TD1 step ends the second early. -/
def opEnergy (s : State) (i : Inst) (n : Node) : List OutVal × State :=
  let m := measFull s i n
  let x := (phasePower s i n m 0).add ((phasePower s i n m 1).add (phasePower s i n m 2))
  let q := joinQs ((List.range 6).map m.qu)
  let old : Energy := (s.gr.energy.find? (fun (e : Energy) => e.node == n.num)).getD ⟨n.num, [0, 0, 0, 0], i.at_.1, i.step⟩
  let qn := quantum s i n.inst
  let ends := old.sec != i.at_.1 || old.step != i.step
  let outs : List OutVal := if ends then (old.acc.zipIdx.map (fun (a, k) => ⟨k, (a / qn) % 2 ^ 32, q⟩)) else []
  let acc := if ends then old.acc.map (· % qn) else old.acc
  -- a positive value is export with sign convention 0, import with 1
  let x := if setN s i n.inst 0x09 1 0 = 1 then x.neg else x
  let add : List Nat := [(-x.re).toNat, x.re.toNat, (-x.im).toNat, x.im.toNat]
  let new : Energy := ⟨n.num, (acc.zip add).map (fun p => p.1 + p.2), i.at_.1, i.step⟩
  (outs, { s with gr := { s.gr with energy := new :: s.gr.energy.filter (fun (e : Energy) => e.node != n.num) } })

/-! Frequency tracking (R245 to R247). -/

/-- The positive-sequence phasor of three channels at a frequency, with its quality. -/
def posSeq (s : State) (i : Inst) (n : Node) (f k : Nat) : Ph × BitVec 8 :=
  let x (j : Nat) : Ph × BitVec 8 := fullPh s i f (n.chans.getD (k + j) 255) 0
  ((seqs (isAcb s i n.inst) (x 0).1 (x 1).1 (x 2).1).2.1, joinQs [(x 0).2, (x 1).2, (x 2).2])

/-- Waves that ROCOF's line is fitted through. -/
def rocofWaves (s : State) (i : Inst) (inst : Nat) : Nat :=
  max 2 (setN s i inst 0x04 1 5 * (16000000000 / nominalHz s))

/-- The slope of a least-squares line through values taken each wave, newest first, per second. -/
def slope (ys : List Int) : Int :=
  let n : Int := ys.length
  let (sx, sy, sxx, sxy) := ys.zipIdx.foldl (fun (a : Int × Int × Int × Int) (y, k) =>
    let x : Int := -(k : Int)
    (a.1 + x, a.2.1 + y, a.2.2.1 + x * x, a.2.2.2 + x * y)) (0, 0, 0, 0)
  let d := n * sxx - sx * sx
  if d = 0 then 0 else (n * sxy - sx * sy) * 16000 / d

/-- What the tracker keeps: aux is [source (0 none, 1 voltage, 2 current), whether it ever took one, waves of the voltage
and of the current above threshold + 2 %, waves since the source was taken, last frequency, hold began (TD0, 0 none),
whether it clamps]; log is [angles], [raw frequencies], [tracked frequencies], newest first. The last frequency is the one
it last gave, 0 where it has given none. -/
def trackAux (e : Elem) (k : Nat) : Int := e.aux.getD k 0

/-- A tracker after a change of its settings (R245, R256): it keeps its source, its hold and the last value it gave; its
windows start empty. -/
def trackReset (e : Elem) : Elem := { e with log := [] }

/-- A tracker event: at start and after hold (R245, R246). -/
def trackEvents (e : Elem) (src : Nat) (hold clampNow : Bool) (term : Nat) (s : State) : State :=
  let was := (trackAux e 0).toNat
  let s := if hold then submit .elem 0x3103 term s else s
  let s := if src ≠ 0 ∧ was = 0 ∧ trackAux e 6 ≠ 0 then submit .elem 0x3105 (16 * src + term) s else s
  if clampNow ∧ trackAux e 7 = 0 then submit .elem 0x3104 term s else s

/-- The frequency tracker (R245 to R247): outputs frequency and ROCOF. -/
def opTracker (s : State) (i : Inst) (n : Node) : List OutVal × State :=
  let e := elemOf s n
  let nom := nominalHz s
  let was := (trackAux e 0).toNat
  let last := if trackAux e 5 = 0 then nom else (trackAux e 5).toNat
  -- the source phasors are resampled with the frequency of wave n - 1
  let f0 := match e.track with | t :: _ => t.hz | [] => nom
  let (v1, vq) := posSeq s i n f0 0
  let (i1, iq) := posSeq s i n f0 3
  let vn := nomV s n
  let cn := nomI s n
  let vth := setN s i n.inst 0x01 1 10
  let cth := setN s i n.inst 0x02 1 5
  let vAbove := !isInv vq && decide (vth * vn ≤ v1.mag * 100)
  let cAbove := !isInv iq && decide (cth * cn ≤ i1.mag * 100)
  let vRun := if !isInv vq ∧ (vth + 2) * vn ≤ v1.mag * 100 then (trackAux e 2).toNat + 1 else 0
  let cRun := if !isInv iq ∧ (cth + 2) * cn ≤ i1.mag * 100 then (trackAux e 3).toNat + 1 else 0
  let two := 2 * cycleTokens f0
  let src := if vAbove ∧ (was = 1 ∨ two ≤ vRun) then 1 else if cAbove ∧ (was = 2 ∨ two ≤ cRun) then 2 else 0
  let taken := src ≠ 0 ∧ src ≠ was
  -- the first wave after start or hold uses the nominal frequency
  let x := if src ≠ 0 ∧ was = 0 then (posSeq s i n nom (if src = 2 then 3 else 0)).1 else if src = 2 then i1 else v1
  let xq := if src = 2 then iq else vq
  let angles : List Int := if src = 0 then [] else (x.arg :: (if taken then [] else (e.log.getD 0 []))).take 81
  -- frequency from the angle turned in 80 waves (5 ms)
  let raw : Option Int := match angles[80]? with
    | some old => some (((angles.getD 0 0 - old) % one44) * 200000000 / one44)
    | none => none
  let cyc := max 1 (16000000000 / f0)
  let raws : List Int := if src = 0 ∨ taken then [] else
    (match raw with | some r => r :: (e.log.getD 1 []) | none => e.log.getD 1 []).take cyc
  let filled := decide (cyc ≤ raws.length)
  let mean : Int := if raws.isEmpty then last else raws.foldl (· + ·) 0 / raws.length
  let clamped := filled && (decide (mean < 40000000) || decide (70000000 < mean))
  let meas := if mean < 40000000 then 40000000 else if 70000000 < mean then 70000000 else mean.toNat
  let holdStart := src = 0 ∧ was ≠ 0
  let holdAt : Int := if src ≠ 0 then 0 else if holdStart then (i.born : Int) + 1 else trackAux e 6
  let holdTime := msT ((setF s i n.inst 0x03 10 20).toNat * 100)
  let held := holdAt ≠ 0 ∧ i.born < (holdAt - 1).toNat + holdTime
  let (fo, q) : Nat × BitVec 8 :=
    if src ≠ 0 then (if filled then (meas, if clamped then atLeastQ xq else xq) else (last, atLeastQ xq))
    else if held then (last, 3#8)
    else (nom, 1#8)
  let keepF := src ≠ 0 ∧ filled
  let freqs : List Int := if keepF then ((fo : Int) :: (e.log.getD 2 [])).take (rocofWaves s i n.inst) else []
  let full := rocofWaves s i n.inst ≤ freqs.length
  let rocof : Int := if full then slope freqs else 0
  let rq := if full then q else atLeastQ q
  let outs : List OutVal := [⟨0, fpOf fo 1000000, q⟩, ⟨1, fpOf rocof 1000000, rq⟩]
  let s := trackEvents e src holdStart clamped n.terminal s
  let e' : Elem := { e with
    aux := [src, if src ≠ 0 then 1 else trackAux e 1, vRun, cRun, 0, (fo : Int), holdAt, b2n clamped, rocof]
    log := [angles, raws, freqs], track := (⟨i.tok, fo, q.toNat, src, rocof⟩ :: e.track).take 64, outs := outs }
  let ref : Option (Nat × Int × Nat) := if src = 0 ∨ isInv q then none
    else some (secT i.at_.1 + i.at_.2 * 62500 * 2 ^ 40, x.arg, fo)
  (outs, setPhase n.terminal ref (putElem e' s))

/-- FREQ_TRACK_HOLD_EXPIRY (R246): after the hold time the tracker's output is nominal and invalid. -/
def trackExpire (e : Elem) (tick : Nat) (s : State) : State :=
  let t : Track := ⟨tick, nominalHz s, 1, 0, 0⟩
  putElem { e with
    aux := e.aux.set 5 (nominalHz s : Int), track := (t :: e.track).take 64, outs := [⟨0, fpOf (nominalHz s) 1000000, 1#8⟩, ⟨1, 0, 1#8⟩] } s

end Sys2Proof.Machine
end

