-- ==== Sys2Proof/Machine/Elements.lean ====
section
/-! DEFINITION. What every protection element shares (R268 to R274, R645, R646) and the overcurrent, directional, voltage,
frequency, synchrocheck, breaker-failure and switch-onto-fault families (R275 to R283, R295 to R303). -/

namespace Sys2Proof.Machine

/-! References (R271). -/

/-- The P space and the trip commands as an instance created now sees them (R220). -/
def Inst.seen (i : Inst) (s : State) : Inst :=
  { i with pBits := s.gr.pBitF, pQual := s.gr.pBitQ
           rowCmd := maskOf 48 (fun k => s.gr.rows.any (fun (r : Row) => r.num == k && r.cmd)) }

/-- A reference as an element or a trip matrix row reads it; an invalid value reads as 0. P bits and commands are read as
they stood when the instance was created, so that no time of execution shows in its outputs (DEDUCED from R220, log entry
65). -/
def refVal (i : Inst) (ref : Nat) : Bool :=
  if ref < 0x800 then
    let q := smGet i.pQual ref
    decide (q ≠ 0) && !isInv (BitVec.ofNat 8 (q - 1)) && smBit i.pBits ref
  else if 0x800 ≤ ref ∧ ref ≤ 0x80F then i.di.testBit (ref - 0x800) && i.diValid.testBit (ref - 0x800)
  else if 0xC00 ≤ ref ∧ ref ≤ 0xC2F then i.rowCmd.testBit (ref - 0xC00)
  else false

/-- The value and quality of a reference (R271): invalid while nothing has written it, or its DI is invalid. -/
def refIn (i : Inst) (ref : Nat) : Bool × BitVec 8 :=
  if ref < 0x800 then
    let q := smGet i.pQual ref
    (refVal i ref, if q = 0 then 1#8 else BitVec.ofNat 8 (q - 1))
  else (refVal i ref, if 0x800 ≤ ref ∧ ref ≤ 0x80F ∧ !i.diValid.testBit (ref - 0x800) then 1#8 else 0#8)

/-! Timers (R221, R224, R273). -/

/-- An element at work: its context, the state, and whether a delay entry has been refused. -/
structure EC where
  el : Elem
  s : State
  bad : Bool
  deriving DecidableEq, Repr

/-- An instant rounded up to a whole number of ticks. -/
def ceilTo (t tick : Nat) : Nat := (t + tick - 1) / tick * tick

/-- A delay entry is inserted (R221, R224); none where the list is full. -/
def insertDelay (n : Node) (i : Inst) (tag at_ delay : Nat) (s : State) : Option State :=
  let coarse := decide (msT 100 < delay)
  let tick := ceilTo (at_ + delay) (if coarse then msT 1 else usT 1)
  let n_ := (s.gr.delays.filter (fun (d : Delay) => d.coarse == coarse)).length
  if 4096 ≤ n_ then none
  else
    let d : Delay := ⟨n.num, tag, i.epoch, tick, coarse⟩
    some { s with gr := { s.gr with
      delays := s.gr.delays ++ [d]
      finePeak := if coarse then s.gr.finePeak else max s.gr.finePeak (n_ + 1)
      coarsePeak := if coarse then max s.gr.coarsePeak (n_ + 1) else s.gr.coarsePeak } }

/-- The timer of a kind, if it runs. -/
def EC.timer (c : EC) (k : Nat) : Option ETimer := c.el.timers.find? (fun (t : ETimer) => t.kind == k)

/-- Timer `k` starts unless it runs already (R273): a delay of 0 starts no entry. A refused entry is OP_FAULT cause 4
(R224). -/
def EC.start (c : EC) (n : Node) (i : Inst) (k delay : Nat) : EC :=
  if (c.timer k).isSome then c
  else if delay = 0 then { c with el := { c.el with timers := c.el.timers ++ [⟨k, 65536, i.born, true⟩] } }
  else
    match insertDelay n i c.el.tagNext i.born delay c.s with
    | none => { c with bad := true, s := fireDetOnce 0x08 (65536 * 4 + n.num) c.s }
    | some s =>
      { c with s := s, el := { c.el with
          timers := c.el.timers ++ [⟨k, c.el.tagNext, i.born, false⟩], tagNext := wrapInc 16 c.el.tagNext } }

/-- Timer `k` stops: its tag is given up. -/
def EC.stop (c : EC) (k : Nat) : EC :=
  { c with el := { c.el with timers := c.el.timers.filter (fun (t : ETimer) => t.kind != k) } }

/-- Timer `k` runs if the condition holds, and stops else. -/
def EC.run (c : EC) (n : Node) (i : Inst) (k delay : Nat) (b : Bool) : EC := if b then c.start n i k delay else c.stop k

/-- Timer `k` has fired. -/
def EC.fired (c : EC) (k : Nat) : Bool := match c.timer k with | some t => t.fired | none => false

/-- The context changed. -/
def EC.set (c : EC) (f : Elem → Elem) : EC := { c with el := f c.el }

/-- Quantity `k` a family keeps. -/
def EC.aux (c : EC) (k : Nat) : Int := c.el.aux.getD k 0

/-- Quantities a family keeps, replaced. -/
def EC.keep (c : EC) (xs : List Int) : EC := c.set (fun e => { e with aux := xs })

/-- What a family decides on a wave: its outputs in R269's order, OPERATE and the pickup state, the phases or loops that
take part, the snapshot's values (R646), and further events. -/
structure Judged where
  c : EC
  bits : List Bool
  op : Bool
  pick : Bool
  taking : Nat
  snap : List Nat
  more : List (Nat × Nat)
  deriving DecidableEq, Repr

/-- Bit `k` of a mask of phases or loops. -/
def bitOf (m k : Nat) : Bool := m.testBit k

/-- A phase or loop is invalid on this wave. -/
def inv (qs : List (BitVec 8)) (k : Nat) : Bool := isInv (qs.getD k 1#8)

/-- The mask of phases or loops after a wave (R270): an invalid one holds, and resets after two tracked cycles. -/
def judge (e : Elem) (qs : List (BitVec 8)) (f old : Nat) (p : Nat → Bool) : Nat :=
  maskOf qs.length (fun k =>
    if inv qs k then bitOf old k && decide (e.inv.getD k 0 ≤ 2 * cycleTokens f) else p k)

/-- The reference of a setting, 0xFFFF where none. -/
def refSet (s : State) (i : Inst) (n : Node) (low dflt : Nat) : Nat := setN s i n.inst low 2 dflt

/-- A delay in ms as counter units. -/
def delaySet (s : State) (i : Inst) (n : Node) (low : Nat) (dflt : Int) : Nat :=
  usT ((setF s i n.inst low 1000 dflt).toNat * 1000)

/-- The time since an instant in ms, binary32 seconds. -/
def secSince (i : Inst) (t : Nat) : Nat := fpOf ((i.born - t) / usT 1 : Nat) 1000000

/-! Overcurrent (R275 to R280). -/

/-- A of curve 2 to 8 in 10^-4, B and C in 10^-4 (R276, R277). -/
def curveA : Nat → Nat × Nat × Nat
  | 2 => (1400, 0, 0) | 3 => (135000, 0, 0) | 4 => (800000, 0, 0) | 5 => (1200000, 0, 0)
  | 6 => (515, 1140, 48500) | 7 => (196100, 4910, 216000) | _ => (282000, 1217, 291000)

/-- M^p in 10^-9 for M in 10^-9 (R276, R277). -/
def powM (curve m : Nat) : Nat :=
  if curve = 2 ∨ curve = 6 then rootFrom 50 34 0 (m * (10 ^ 9) ^ 49)
  else if curve = 3 ∨ curve = 5 then m
  else m * m / 10 ^ 9

/-- t(M) in ns for M in 10^-9 and k in 0.005 (R276, R277). -/
def curveNs (curve k m : Nat) : Nat :=
  let (a, b, _) := curveA curve
  let d := powM curve m - 10 ^ 9
  k * 5 * (a * 10 ^ 5 * 10 ^ 9 / max 1 d + b * 10 ^ 5) / 1000

/-- M clamped to 1.05 to 20, in 10^-9 (R278). -/
def clampM (mag pk : Nat) : Nat := min (20 * 10 ^ 9) (max 1050000000 (mag * 10 ^ 9 / max 1 pk))

/-- What reset mode 2 takes from G in one wave, units of 10^-18: nothing from M = 1 on (R279). -/
def diskFall (curve k mag pk : Nat) : Nat :=
  let m := mag * 10 ^ 9 / max 1 pk
  if 10 ^ 9 ≤ m then 0
  else
    let (_, _, c) := curveA curve
    -- tr = k C / (1 - M^2), in ns
    let tr := k * 5 * (c * 10 ^ 5 * 10 ^ 9 / (10 ^ 9 - m * m / 10 ^ 9)) / 1000
    10 ^ 27 / (16000 * max 1 tr)

/-- The operating quantities of an overcurrent element and their qualities (R275). -/
def ocInputs (s : State) (i : Inst) (n : Node) (m : Meas) : List (Nat × BitVec 8) :=
  match setN s i n.inst 0x20 1 0 with
  | 0 => [((m.p 3).mag, m.qu 3), ((m.p 4).mag, m.qu 4), ((m.p 5).mag, m.qu 5)]
  | 1 => [((m.p 6).mag, m.qu 6)]
  | _ => [((iSeq s i n m).2.2.mag, joinQs [m.qu 3, m.qu 4, m.qu 5])]

/-- An overcurrent element on a wave. `blk`: its block reference reads 1. -/
def overcurrent (i : Inst) (n : Node) (blk : Bool) (qs : List (BitVec 8)) (c : EC) : Judged :=
  let s := c.s
  let m := measFull s i n
  let xs := (ocInputs s i n m).map (·.1)
  let pk := (setF s i n.inst 0x22 100 100).toNat * nomI s n / 100
  let char := setN s i n.inst 0x21 1 1
  let mode := setN s i n.inst 0x25 1 0
  let k := (setF s i n.inst 0x24 200 200).toNat
  let dir := refSet s i n 0x28 0xFFFF
  let dirOk := dir == 0xFFFF || refVal i dir
  let was := c.el.started
  let old := c.el.start
  let on := if blk then 0 else judge c.el qs m.f old (fun p =>
    let x := xs.getD p 0
    dirOk && (if bitOf old p then decide (pk ≤ x) else decide (105 * pk ≤ 100 * x)))
  let start := on != 0
  let mx := xs.zipIdx.foldl (fun a (x, p) => if inv qs p then a else max a x) 0
  let reset := delaySet s i n 0x26 0
  -- the elapsed time or the accumulator at the fall of START, held by reset mode 1
  let c := if was && !start then
      let gone := c.el.kept + (match c.timer 1 with | some t => i.born - t.at_ | none => 0)
      let c := (c.stop 1).stop 3
      if blk || mode == 0 then c.set (fun e => { e with kept := 0, acc := if mode = 2 then e.acc else 0 })
      else if mode = 1 then (c.set (fun e => { e with kept := if char = 1 then gone else 0 })).start n i 2 reset
      else c
    else if blk then (c.stop 2).set (fun e => { e with kept := 0, acc := if mode = 2 then e.acc else 0 })
    else c
  let c := if start then c.stop 2
    else if c.fired 2 then (c.stop 2).set (fun e => { e with kept := 0, acc := 0 })
    else c
  let c := if start && char == 1 then c.start n i 1 (delaySet s i n 0x23 1000 - c.el.kept) else c
  let c := if start && decide (2 ≤ char) then c.start n i 3 (delaySet s i n 0x27 0) else c
  let tNs := curveNs char k (clampM mx pk)
  let c := if 2 ≤ char then
      if start then c.set (fun e => { e with acc := e.acc + 10 ^ 27 / (16000 * max 1 tNs) })
      else if mode = 2 then c.set (fun e => { e with acc := e.acc - diskFall char k (if dirOk then mx else 0) pk })
      else c
    else c
  let op := start && (if char = 0 then true else if char = 1 then c.fired 1
    else decide (10 ^ 18 ≤ c.el.acc) && c.fired 3)
  let ph (b : Bool) : List Bool := (List.range 3).map (fun p => b && bitOf on p && decide (xs.length = 3))
  let mFp (x : Nat) : Nat := fpOf x (max 1 pk)
  { c := c.set (fun e => { e with start := on, oper := if op then on else 0 })
    bits := [start] ++ ph true ++ [op] ++ ph op, op := op, pick := start, taking := on
    snap := (if xs.length = 3 then xs.map mFp else [mFp (xs.getD 0 0), 0, 0]) ++
      [fpOf c.el.acc (10 ^ 18), if 2 ≤ char then fpOf tNs (10 ^ 9) else 0], more := [] }

/-! Directional (R281 to R283). -/

/-- The terminal's memorised V1: two tracked cycles before the wave, advanced in angle at the tracked frequency (R285). -/
def memV1 (s : State) (i : Inst) (n : Node) (m : Meas) : Ph :=
  let o := (2 * 16000000000 + m.f / 2) / m.f
  (vSeq s i n (measBack s i n o)).2.1.turn ((o * m.f : Nat) * one44 / 16000000000)

/-- The differences from one tracked cycle earlier of V1 and I1 (R282). -/
def deltaSeq (s : State) (i : Inst) (n : Node) (m : Meas) : Ph × Ph :=
  let o := (16000000000 + m.f / 2) / m.f
  let b := measBack s i n o
  let t : Int := (o * m.f : Nat) * one44 / 16000000000
  (((vSeq s i n m).2.1).sub ((vSeq s i n b).2.1.turn t), ((iSeq s i n m).2.1).sub ((iSeq s i n b).2.1.turn t))

/-- The compared pair of a directional element, the ratio's sign already applied: (±V x conj I), |V|, |I|. -/
def dirPair (s : State) (i : Inst) (n : Node) (m : Meas) (mode : Nat) : Ph × Nat × Nat :=
  let mk (v c : Ph) (neg : Bool) : Ph × Nat × Nat :=
    let z := v.mul c.conj
    (if neg then z.neg else z, v.mag, c.mag)
  match mode with
  | 0 => mk (vSeq s i n m).2.2 (iSeq s i n m).2.2 true
  | 1 => mk (vSeq s i n m).1 ((m.p 6).sdiv 3) true
  | 2 => mk (memV1 s i n m) (iSeq s i n m).2.1 false
  | _ => let (dv, di) := deltaSeq s i n m; mk dv di true

/-- A directional element on a wave. Mode 3 keeps [waves since the threshold was passed (0 idle), decision (0 none,
1 forward, 2 reverse)]. -/
def directional (i : Inst) (n : Node) (blk : Bool) (c : EC) : Judged :=
  let s := c.s
  let m := measFull s i n
  let mode := setN s i n.inst 0x30 1 0
  let th : Int := setN s i n.inst 0x31 1 75
  let (z, v, a) := dirPair s i n m mode
  let fwd := within z (10 * th) 850
  let rev := within z (10 * th + 1800) 850
  let snap := [fpOf ((z.arg * 3600 / one44 - 10 * th)) 10, fpOf v 1000000, fpOf a 1000000]
  if mode ≠ 3 then
    let ok := !blk && decide ((setF s i n.inst 0x32 10 10).toNat * nomV s n ≤ v * 1000) &&
      decide (setN s i n.inst 0x33 1 5 * nomI s n ≤ a * 100)
    { c := c, bits := [ok && fwd, ok && rev], op := false, pick := false, taking := 0, snap := snap, more := [] }
  else
    let thr := setN s i n.inst 0x34 1 10 * nomI s n
    let above := decide (thr ≤ a * 100)
    let low := decide (a * 200 < thr)
    let n0 := (c.aux 0).toNat
    let run := if blk then 0 else if n0 = 0 then b2n above else if 2 * cycleTokens m.f ≤ n0 ∧ low then 0 else n0 + 1
    let live := run != 0 && decide (run ≤ 2 * cycleTokens m.f)
    let d : Int := if !live then 0 else if n0 ≠ 0 ∧ c.aux 1 ≠ 0 then c.aux 1
      else if above then (if fwd then 1 else if rev then 2 else 0) else 0
    { c := c.keep [run, d], bits := [d == 1, d == 2], op := false, pick := d != 0, taking := 0, snap := snap, more := [] }

/-! Voltage and frequency (R295 to R297). -/

/-- The quantities of a voltage element and their qualities. -/
def voltInputs (s : State) (i : Inst) (n : Node) (m : Meas) : List (Nat × BitVec 8) :=
  let q3 := joinQs [m.qu 0, m.qu 1, m.qu 2]
  match setN s i n.inst 0x71 1 0 with
  | 0 => [((m.p 0).mag, m.qu 0), ((m.p 1).mag, m.qu 1), ((m.p 2).mag, m.qu 2)]
  | 1 => (List.range 3).map (fun k => ((loopV m (3 + k)).mag, joinQ (m.qu k) (m.qu ((k + 1) % 3))))
  | 2 => [((vSeq s i n m).2.1.mag, q3)]
  | 3 => [((vSeq s i n m).2.2.mag, q3)]
  | _ => [((vSeq s i n m).1.mag, q3)]

/-- A voltage element on a wave. -/
def voltage (i : Inst) (n : Node) (blk : Bool) (qs : List (BitVec 8)) (c : EC) : Judged :=
  let s := c.s
  let m := measFull s i n
  let xs := (voltInputs s i n m).map (·.1)
  let above := setN s i n.inst 0x70 1 0 == 1
  let pk := (setF s i n.inst 0x72 10 (if above then 1100 else 800)).toNat * nomV s n
  let dead := !above && [0, 1, 2].all (fun k =>
    decide ((m.p k).mag * 1000 < (setF s i n.inst 0x75 10 100).toNat * nomV s n))
  let old := c.el.start
  let on := if blk || dead then 0 else judge c.el qs m.f old (fun p =>
    let x := xs.getD p 0 * 1000
    if above then (if bitOf old p then decide (98 * pk ≤ x * 100) else decide (pk < x))
    else (if bitOf old p then decide (x * 100 ≤ 102 * pk) else decide (x < pk)))
  let all := setN s i n.inst 0x73 1 0 == 1
  let start := on != 0 && (!all || (List.range qs.length).all (fun p => bitOf on p || inv qs p))
  let c := c.run n i 1 (delaySet s i n 0x74 1000) start
  let op := start && c.fired 1
  { c := c.set (fun e => { e with start := on, oper := if op then on else 0 })
    bits := [start] ++ (List.range 3).map (fun p => bitOf on p && decide (xs.length = 3)) ++ [op]
    op := op, pick := start, taking := on, snap := xs.map (fun x => fpOf (x * 100 : Nat) (max 1 (nomV s n))), more := [] }

/-- A frequency or ROCOF element on a wave (R296). -/
def frequency (i : Inst) (n : Node) (blk : Bool) (c : EC) : Judged :=
  let s := c.s
  let m := measFull s i n
  let (f, tq) := trackedHz s i n.terminal
  let tr : Track := (trackAt s i n.terminal).getD default
  let v1 := (vSeq s i n m).2.1.mag
  let mode := setN s i n.inst 0x78 1 0
  let rocof : Int := tr.rocof
  let pf := (setF s i n.inst 0x79 100 4950) * 10000
  let pr := (setF s i n.inst 0x7A 100 100) * 10000
  let live := !blk && valOf tq == 0 && decide (tr.src = 1) && decide (setN s i n.inst 0x7C 1 50 * nomV s n ≤ v1 * 100)
  let was := c.el.started
  let x : Int := f
  let cond := match mode with
    | 0 => if was then decide (x < pf + 20000) else decide (x < pf)
    | 1 => if was then decide (pf - 20000 < x) else decide (pf < x)
    | 2 => if was then decide (9 * pr ≤ 10 * rocof) else decide (pr < rocof)
    | 3 => if was then decide (9 * pr ≤ -10 * rocof) else decide (pr < -rocof)
    | _ => if was then decide (9 * pr ≤ 10 * rocof.natAbs) else decide (pr < rocof.natAbs)
  let start := live && cond
  let c := c.run n i 1 (delaySet s i n 0x7B 200) start
  let op := start && c.fired 1
  { c := c, bits := [start, op], op := op, pick := start, taking := 0
    snap := [fpOf f 1000000, fpOf rocof 1000000, fpOf (v1 * 100 : Nat) (max 1 (nomV s n))], more := [] }

/-! Synchrocheck (R298, R299). Its channels are the line, the line's second phase or 255, and the bus. -/

/-- Line and bus phasors with their qualities. -/
def syncInputs (s : State) (i : Inst) (n : Node) : Ph × Ph × BitVec 8 :=
  let (f, tq) := trackedHz s i n.terminal
  let at_ (k : Nat) : Ph × BitVec 8 := let c := n.chans.getD k 255; imposed i tq c (fullPh s i f c 0)
  let a := at_ 0
  let l := if n.chans.getD 1 255 < 16 then let y := at_ 1; (a.1.sub y.1, joinQ a.2 y.2) else a
  let bus := at_ 2
  (l.1, bus.1, joinQs [l.2, bus.2])

/-- A synchrocheck element on a wave. The frequency difference is the angle difference's change over 80 waves. -/
def synchrocheck (i : Inst) (n : Node) (blk : Bool) (c : EC) : Judged :=
  let s := c.s
  let (l, b, _) := syncInputs s i n
  let vn := nominalOf s (n.chans.getD 0 255)
  let live (x : Ph) : Bool := decide (setN s i n.inst 0x83 1 70 * vn < x.mag * 100)
  let dead (x : Ph) : Bool := decide (x.mag * 100 < setN s i n.inst 0x84 1 30 * vn)
  let ang := (l.mul b.conj).arg
  let angles : List Int := (ang :: (c.el.log.getD 0 [])).take 81
  let df : Int := match angles[80]? with
    | some o => let d := (ang - o) % one44; (if d < 2 ^ 43 then d else d - one44) * 200000000 / one44
    | none => 0
  let comp : Int := sgn 16 (setN s i n.inst 0x86 2 0)
  let turned := (l.mul b.conj).turn (-(deci (10 * comp)))
  let dv : Nat := if l.mag < b.mag then b.mag - l.mag else l.mag - b.mag
  let inStep := !blk && live l && live b && decide (dv * 1000 ≤ (setF s i n.inst 0x80 10 100).toNat * vn) &&
    decide (80 < angles.length) && decide (df.natAbs ≤ (setF s i n.inst 0x81 100 10).toNat * 10000) &&
    within turned 0 (10 * setN s i n.inst 0x82 1 20)
  let conds := setN s i n.inst 0x85 1 0
  -- each dead condition holds for the check time on its own
  let d0 := !blk && bitOf conds 0 && dead l && live b
  let d1 := !blk && bitOf conds 1 && live l && dead b
  let d2 := !blk && bitOf conds 2 && dead l && dead b
  let t := msT ((setF s i n.inst 0x87 100 10).toNat * 10)
  let c := (c.run n i 1 t inStep).run n i 2 t d0
  let c := ((c.run n i 3 t d1).run n i 4 t d2).set (fun e => { e with log := [angles] })
  let ok := inStep && c.fired 1
  let dok := (d0 && c.fired 2) || (d1 && c.fired 3) || (d2 && c.fired 4)
  { c := c, bits := [ok, dok, ok || dok], op := false, taking := 0
    pick := (inStep && !c.fired 1) || (d0 && !c.fired 2) || (d1 && !c.fired 3) || (d2 && !c.fired 4)
    snap := [fpOf (dv * 100 : Nat) (max 1 vn), fpOf df 1000000, fpOf (turned.arg * 360) (2 ^ 44)], more := [] }

/-! Breaker failure (R300, R301). -/

/-- The magnitude of a phase current's token in 10^-6 A. -/
def tokMag (s : State) (i : Inst) (c : Nat) : Nat :=
  let (n, d) := codeUnit s c
  (tokAt (histOf s i c) 0 * n / d).natAbs

/-- A breaker-failure element on a wave. It keeps the waves since each phase's last token above the check (0 clear) and
the largest magnitudes since initiation. -/
def breakerFailure (i : Inst) (n : Node) (blk : Bool) (qs : List (BitVec 8)) (c : EC) : Judged :=
  let s := c.s
  let (f, _) := trackedHz s i n.terminal
  let ibf := setN s i n.inst 0x90 1 10 * nomI s n
  let mags := (List.range 3).map (fun k => tokMag s i (n.chans.getD (3 + k) 255))
  -- |x| > sqrt 2 x I_BF
  let above (k : Nat) : Bool := !inv qs k && decide (2 * ibf * ibf < (mags.getD k 0 * 100) * (mags.getD k 0 * 100))
  let run (k : Nat) : Nat := if above k then 1 else if c.el.cnt.getD k 0 = 0 then 0
    else if 9600000000 / f ≤ c.el.cnt.getD k 0 then 0 else c.el.cnt.getD k 0 + 1
  let runs := (List.range 3).map run
  let check := maskOf 3 (fun k => runs.getD k 0 != 0)
  let mode1 := setN s i n.inst 0x95 1 0 == 1
  let closed := mode1 && refVal i (refSet s i n 0x96 0xFFFF)
  let init := refVal i (refSet s i n 0x93 0x0C00) || refVal i (refSet s i n 0x94 0xFFFF)
  let hold := check != 0 || closed
  let latch := !blk && hold && (c.el.latch || init)
  let c := if latch && !c.el.latch then
      let c := (c.start n i 1 (delaySet s i n 0x91 50)).start n i 2 (delaySet s i n 0x92 150)
      c.set (fun e => { e with since := i.born })
    else if latch then c else (c.stop 1).stop 2
  let fresh := latch && !c.el.latch
  let peaks := (List.range 3).map (fun k =>
    (if fresh || !latch then (mags.getD k 0 : Int) else max (mags.getD k 0) (c.aux k)))
  let re := latch && c.fired 1
  let bu := latch && c.fired 2
  let was := c.el.oper
  let more := (if re && !bitOf was 0 then [(0x3212, n.inst)] else []) ++ (if bu && !bitOf was 1 then [(0x3213, n.inst)] else [])
  { c := (c.keep peaks).set (fun e => { e with cnt := runs, latch := latch, oper := b2n re + 2 * b2n bu })
    bits := (List.range 3).map (bitOf check) ++ [re, bu], op := false, pick := latch, taking := check
    snap := peaks.map (fun x => fpOf x 1000000) ++ [if latch then secSince i c.el.since else 0], more := more }

/-! Switch-onto-fault (R302, R303). -/

/-- A switch-onto-fault element on a wave. It keeps [armed, dead since (TD0 + 1, 0 none), waves above the current threshold of
phases A, B and C]. -/
def switchOntoFault (i : Inst) (n : Node) (blk : Bool) (c : EC) : Judged :=
  let s := c.s
  let m := measFull s i n
  let mi := max (m.p 3).mag (max (m.p 4).mag (m.p 5).mag)
  let dead := [3, 4, 5].all (fun k => decide ((m.p k).mag * 100 < 5 * nomI s n)) &&
    [0, 1, 2].all (fun k => decide ((m.p k).mag * 100 < 30 * nomV s n))
  let since : Int := if !dead then 0 else if c.aux 1 = 0 then i.born + 1 else c.aux 1
  let openB := refVal i (refSet s i n 0xA0 0xFFFF)
  let armNow := !blk && (openB || (dead && decide ((since - 1).toNat + msT 200 ≤ i.born)))
  let was := c.aux 0 = 1
  let c := if armNow then c.stop 1
    else if was ∧ !blk then c.start n i 1 (msT ((setF s i n.inst 0xA1 100 100).toNat * 10)) else c.stop 1
  let armed := !blk && (armNow || (was && !c.fired 1))
  let run (k : Nat) : Int :=
    if (setF s i n.inst 0xA4 100 250).toNat * nomI s n ≤ (m.p (3 + k)).mag * 100 then c.aux (2 + k) + 1 else 0
  let runs := [run 0, run 1, run 2]
  let crit := setN s i n.inst 0xA2 1 3
  let met := b2n (bitOf crit 0 && refVal i (refSet s i n 0xA3 0xFFFF)) + 2 * b2n (bitOf crit 1 && runs.any (fun x => decide (2 ≤ x)))
  let op := armed && met != 0
  { c := c.keep ([(b2n armed : Int), since] ++ runs), bits := [armed, op], op := op, pick := op, taking := 0
    snap := [fpOf mi (max 1 (nomI s n)), fpOf met 1], more := if armed && !was then [(0x3216, n.inst)] else [] }

end Sys2Proof.Machine
end

