-- ==== Sys2Proof/Machine/Distance.lean ====
section
/-! DEFINITION. Distance zones, load encroachment, power-swing blocking, incremental-quantity distance and the
travelling-wave directional element (R284 to R294, R326, R327), and an element on a wave (R270, R272, R645, R646). -/

namespace Sys2Proof.Machine

/-! Zones (R284 to R287, R290). -/

/-- The settings of a zone that its characteristic uses: reach at its angle in 10^-2 ohm times 2^44, resistive reaches
in 10^-2 ohm, tilt. -/
structure Zone where
  quad : Bool
  dir : Nat
  reach : Nat
  phi : Int
  rfE : Nat
  rfP : Nat
  tau : Int
  deriving DecidableEq, Repr

/-- The characteristic of a zone element. -/
def zoneOf (s : State) (i : Inst) (n : Node) : Zone :=
  { quad := setN s i n.inst 0x40 1 0 == 1, dir := setN s i n.inst 0x41 1 0
    reach := (setF s i n.inst 0x42 100 1000).toNat, phi := setF s i n.inst 0x43 10 800
    rfE := (setF s i n.inst 0x44 100 2000).toNat, rfP := (setF s i n.inst 0x45 100 1000).toNat
    tau := setF s i n.inst 0x46 10 0 }

/-- The forward quadrilateral holds Z in 10^-6 ohm, its reaches scaled by `sc` percent (R286). -/
def quadIn (z : Zone) (phase : Bool) (sc : Nat) (x : Ph) : Bool :=
  let cs := unitPh z.phi
  let tl := unitPh z.tau
  -- 10^-2 ohm and percent to 10^-6 ohm: times 100
  let xr := (z.reach * sc * 100 : Nat) * cs.im
  let rr := (z.reach * sc * 100 : Nat) * cs.re
  let rf : Int := ((if phase then z.rfP else z.rfE) * sc * 100 : Nat)
  let line := x.re * cs.im - x.im * cs.re
  decide (x.im * one44 * tl.re ≤ xr * tl.re - (x.re * one44 - rr) * tl.im) &&
  decide (line ≤ rf * cs.im) && decide (-(rf * cs.im) ≤ 2 * line) && within x 500 650

/-- A loop lies inside the characteristic with its reach scaled by `sc` percent (R284 to R286). A quadrilateral without
a direction holds what either direction holds. -/
def zoneIn (z : Zone) (phase : Bool) (sc : Nat) (v c vpol : Ph) : Bool :=
  if z.quad then
    let x := impedance v c
    decide (c.sq ≠ 0) && (if z.dir = 0 then quadIn z phase sc x else if z.dir = 1 then quadIn z phase sc x.neg
      else quadIn z phase sc x || quadIn z phase sc x.neg)
  else if z.dir = 2 then
    decide (c.sq ≠ 0 ∧ v.sq * 10000 * 10000 ≤ c.sq * (z.reach * sc) * (z.reach * sc))
  else
    let zr := (unitPh z.phi).smul (z.reach * sc : Nat)
    let drop := ((if z.dir = 1 then zr.neg else zr).mul c).sdiv (one44 * 10000)
    decide (0 ≤ ((drop.sub v).mul vpol.conj).re) && decide (c.sq ≠ 0)

/-- The polarising voltage of loop `l` from a positive-sequence voltage (R285). -/
def loopPol (acb : Bool) (v1 : Ph) (l : Nat) : Ph :=
  let one : Ph := ⟨one44, 0⟩
  let (a, a2) := if acb then (opA2, opA) else (opA, opA2)
  let k : Ph := match l with
    | 0 => one | 1 => a2 | 2 => a | 3 => one.sub a2 | 4 => a2.sub a | _ => a.sub one
  (k.mul v1).sdiv one44

/-- A loop takes part (R284). -/
def loopPart (s : State) (i : Inst) (n : Node) (m : Meas) (l : Nat) : Bool :=
  bitOf (setN s i n.inst 0x48 1 0x3F) l &&
  (if l < 3 then decide (setN s i n.inst 0x4A 1 10 * nomI s n ≤ (m.p 6).mag * 100)
   else decide (setN s i n.inst 0x49 1 10 * nomI s n ≤ (m.p l).mag * 100) &&
     decide (setN s i n.inst 0x49 1 10 * nomI s n ≤ (m.p (3 + (l - 2) % 3)).mag * 100))

/-- The element nodes of a family on a terminal. -/
def nodesOn (s : State) (op : OpType) (term : Nat) : List Node :=
  match graphSec s with
  | some g => g.nodes.filter (fun (n : Node) => n.op == op && n.terminal == term)
  | none => []

/-- An element is enabled (low byte 0x10). -/
def enabled (s : State) (i : Inst) (n : Node) : Bool := setN s i n.inst 0x10 1 1 == 1

/-- A loop lies in the load region of a load-encroachment element (R288). -/
def inLoad (s : State) (i : Inst) (n : Node) (m : Meas) (l : Nat) : Bool :=
  let z := impedance (loopV m l) (loopI (k0Of s i n.inst) m l)
  decide (z.sq ≠ 0) && (decide (3 ≤ l) || setN s i n.inst 0x53 1 0 == 1) &&
  decide ((setF s i n.inst 0x50 100 10000).toNat * 10000 ≤ z.mag) &&
  (within z 0 (10 * setN s i n.inst 0x51 1 30) || within z 1800 (10 * setN s i n.inst 0x52 1 30))

/-- The load region of any enabled load-encroachment element of the terminal holds loop `l`. -/
def loadBlocks (s : State) (i : Inst) (n : Node) (m : Meas) (l : Nat) : Bool :=
  (nodesOn s .loadEncroachment n.terminal).any (fun (e : Node) =>
    enabled s i e && !refVal i (setN s i e.inst 0x11 2 0xFFFF) && inLoad s i e m l)

/-- An output of an element on an instance's wave, for the elements whose outputs others read (R268). -/
def heldOut (s : State) (i : Inst) (n : Node) (port : Nat) : Bool :=
  ((elemOf s n).trackFor i).any (fun (t : Track) => bitOf t.src port)

/-- A power-swing element of the terminal holds PSB. -/
def psbOn (s : State) (i : Inst) (term : Nat) : Bool := (nodesOn s .swingBlock term).any (fun (n : Node) => heldOut s i n 0)

/-- The run of consecutive waves of loop `l` in a list of runs. -/
def runAt (l : List Nat) (k : Nat) (b : Bool) : Nat := if b then l.getD k 0 + 1 else 0

/-- A distance zone on a wave (R284 to R287). It keeps [memory began (TD0 + 1, 0 none)]; `oper` holds the loops that
have decided. -/
def distance (i : Inst) (n : Node) (blk : Bool) (qs : List (BitVec 8)) (c : EC) : Judged :=
  let s := c.s
  let m := measFull s i n
  let mh := measHalf s i n
  let z := zoneOf s i n
  let k0 := k0Of s i n.inst
  let acb := isAcb s i n.inst
  let v1 := (vSeq s i n m).2.1
  let dist := decide (10 * nomI s n < (deltaSeq s i n m).2.mag * 100)
  let low := decide (v1.mag * 100 < 10 * nomV s n)
  let memT := msT ((setF s i n.inst 0x4D 100 10).toNat * 10)
  let began : Int := if c.aux 0 ≠ 0 then (if !dist && !low && decide ((c.aux 0 - 1).toNat + memT ≤ i.born) then 0 else c.aux 0)
    else if dist || low then i.born + 1 else 0
  let inMem := began != 0 && decide (i.born < (began - 1).toNat + memT)
  let useMem := inMem
  let frozen := low && !inMem
  let pol := if useMem then memV1 s i n m else v1
  let part (l : Nat) : Bool := loopPart s i n m l
  let psb := setN s i n.inst 0x4C 1 1 == 1 && psbOn s i n.terminal
  let load := setN s i n.inst 0x4B 1 1 == 1
  let free (l : Nat) : Bool := !blk && !psb && !(load && loadBlocks s i n m l)
  let test (mm : Meas) (sc l : Nat) : Bool :=
    part l && zoneIn z (decide (3 ≤ l)) sc (loopV mm l) (loopI k0 mm l) (loopPol acb pol l)
  let ins := maskOf 6 (fun l => !inv qs l && free l && test m 100 l)
  let half := maskOf 6 (fun l => n.variant == 1 && !inv qs l && free l && test mh 85 l)
  let out := maskOf 6 (fun l => !test m 105 l)
  let cnt := (List.range 6).map (fun l => runAt c.el.cnt l (bitOf ins l))
  let cntH := (List.range 6).map (fun l => runAt c.el.cntH l (bitOf half l))
  let cntO := (List.range 6).map (fun l => runAt c.el.cntO l (bitOf out l))
  -- a loop stays until it lies outside 1.05 x reach on 2 waves, is blocked, or no longer takes part
  let stays (old l : Nat) : Bool := bitOf old l && free l && part l && decide (cntO.getD l 0 < 2)
  let started := judge c.el qs m.f c.el.start (fun l =>
    if frozen then bitOf c.el.start l && part l && free l else bitOf ins l || stays c.el.start l)
  let decided := judge c.el qs m.f c.el.oper (fun l =>
    if frozen then bitOf c.el.oper l && part l && free l
    else decide (3 ≤ cnt.getD l 0) || decide (6 ≤ cntH.getD l 0) || stays c.el.oper l)
  let started := if blk then 0 else started ||| decided
  let decided := if blk then 0 else decided
  let delay := delaySet s i n 0x47 0
  let at_ : Option Nat := (c.timer 1).map (·.at_)
  let c := c.run n i 1 delay (decided != 0)
  let op := decided != 0 && c.fired 1
  let first := (List.range 6).find? (fun l => bitOf started l)
  let zi := match first with | some l => impedance (loopV m l) (loopI k0 m l) | none => ⟨0, 0⟩
  { c := (c.keep [began]).set (fun e => { e with start := started, oper := decided, cnt := cnt, cntH := cntH, cntO := cntO })
    bits := [started != 0, op] ++ (List.range 6).map (fun l => op && bitOf decided l)
    op := op, pick := started != 0, taking := started, more := []
    snap := [fpOf zi.re 1000000, fpOf zi.im 1000000, fpOf (v1.mag * 100 : Nat) (max 1 (nomV s n)),
      match at_ with | some t => secSince i t | none => 0] }

/-- A load-encroachment element on a wave (R288). -/
def loadEncroach (i : Inst) (n : Node) (blk : Bool) (c : EC) : Judged :=
  let m := measFull c.s i n
  let on := maskOf 6 (fun l => !blk && inLoad c.s i n m l)
  let z := match (List.range 6).find? (fun l => bitOf on l) with
    | some l => impedance (loopV m l) (loopI (k0Of c.s i n.inst) m l)
    | none => ⟨0, 0⟩
  { c := c, bits := (List.range 6).map (bitOf on), op := false, pick := false, taking := on
    snap := [fpOf z.mag 1000000, fpOf (z.arg * 360) (2 ^ 44)], more := [] }

/-! Power-swing blocking (R289, R291). -/

/-- A power-swing element on a wave. It keeps [waves into the interval, Z1 at its begin (re, im), intervals counted];
`latch` is PSB, `lockout` the wait for Z1 to leave the outer region. -/
def swingBlock (i : Inst) (n : Node) (blk : Bool) (c : EC) : Judged :=
  let s := c.s
  let m := measFull s i n
  let v1 := (vSeq s i n m).2.1
  let i1 := (iSeq s i n m).2.1
  let z1 := impedance v1 i1
  let rout := setF s i n.inst 0x58 100 8000 * 10000
  let xout := setF s i n.inst 0x59 100 8000 * 10000
  let inside := decide (i1.sq ≠ 0) && decide ((z1.re.natAbs : Int) ≤ rout) && decide ((z1.im.natAbs : Int) ≤ xout)
  let inZone := (nodesOn s .distance n.terminal).any (fun (d : Node) =>
    enabled s i d && setN s i d.inst 0x4C 1 1 == 1 && zoneIn (zoneOf s i d) true 100 v1 i1 v1)
  let may := !blk && inside && !inZone && !c.el.lockout
  let thr := setN s i n.inst 0x5D 1 10 * nomI s n
  let unblock := decide (thr ≤ (iSeq s i n m).2.2.mag * 100) || decide (thr * 3 ≤ (m.p 6).mag * 100)
  let old : Ph := ⟨c.aux 1, c.aux 2⟩
  let w := (c.aux 0).toNat
  let ends := may && decide (80 ≤ w)
  -- ohm per second: the change in 5 ms, times 200
  let rate := (z1.sub old).mag * 200
  let okRate := decide (setN s i n.inst 0x5A 2 5 * 1000000 ≤ rate) && decide (rate ≤ setN s i n.inst 0x5B 2 2000 * 1000000)
  let cnt : Nat := if !may then 0 else if ends then (if okRate then (c.aux 3).toNat + 1 else 0) else (c.aux 3).toNat
  let fresh := !may || ends || w == 0
  let kept : List Int := if !may then [0, 0, 0, 0]
    else if fresh then [1, z1.re, z1.im, cnt] else [w + 1, old.re, old.im, cnt]
  let was := c.el.latch
  let sets := !was && may && decide (setN s i n.inst 0x5C 1 4 ≤ cnt)
  let c := if sets then c.start n i 1 (msT ((setF s i n.inst 0x5E 100 200).toNat * 10)) else c
  let above := was && c.fired 1
  let cause : Nat := if !was then 0 else if !inside then 1 else if unblock then 2 else if above then 3 else 0
  let on := if blk then false else if was then cause == 0 else sets
  let c := if on then c else c.stop 1
  { c := (c.keep kept).set (fun e => { e with latch := on, lockout := inside && (e.lockout || cause == 3) })
    bits := [on], op := false, pick := on, taking := 0
    snap := [fpOf z1.re 1000000, fpOf z1.im 1000000, fpOf rate 1000000, fpOf cnt 1]
    more := (if on && !was then [(0x3214, n.inst)] else []) ++
      (if was && !on && cause != 0 then [(0x3215, 65536 * cause + n.inst % 65536)] else []) }

/-! Incremental-quantity distance (R292, R293). -/

/-- The value of a channel `k` tokens back and, with `b` 1, one tracked cycle before that, in 10^-6 primary. -/
def tokVal (s : State) (i : Inst) (f c b k : Nat) : Int :=
  if 16 ≤ c then 0
  else
    let (n, d) := codeUnit s c
    interp (histOf s i c) (k * f + b * 16000000000) f * n / (d * 2 ^ 20 : Nat)

/-- Voltage of a loop at a token. -/
def tokV (s : State) (i : Inst) (n : Node) (f l b k : Nat) : Int :=
  let v (j : Nat) : Int := tokVal s i f (n.chans.getD j 255) b k
  if l < 3 then v l else v (l - 3) - v ((l - 2) % 3)

/-- Residual current at a token. -/
def tokR (s : State) (i : Inst) (n : Node) (f b k : Nat) : Int :=
  let x (j : Nat) : Int := tokVal s i f (n.chans.getD j 255) b k
  if setN s i n.inst 0x08 1 1 = 0 then x 6 else x 3 + x 4 + x 5

/-- Current of a loop at a token, without its compensation. -/
def tokI (s : State) (i : Inst) (n : Node) (f l b k : Nat) : Int :=
  let x (j : Nat) : Int := tokVal s i f (n.chans.getD j 255) b k
  if l < 3 then x (3 + l) else x l - x (3 + (l - 2) % 3)

/-- The central difference of a quantity over neighbouring tokens, per radian: (x(t + 1) - x(t - 1)) / (2 omega dt). -/
def perRad (f : Nat) (x : Nat → Int) (k : Nat) : Int :=
  -- omega dt = 2 pi f / 16000, as 10^12: 6.283185307 f
  (x (k - 1) - x (k + 1)) * 16000 * 1000000000 * 1000000 / (2 * 6283185307 * f)

/-- The voltage drop of the zone's reach at a token: Rr i' + (Xr / omega) di'/dt with the compensated current, whose k0
acts as a resistive and a derivative part at the tracked frequency. -/
def tokDrop (s : State) (i : Inst) (n : Node) (f l b k : Nat) : Int :=
  let zr := ((unitPh (setF s i n.inst 0x61 10 800)).smul (setF s i n.inst 0x60 100 800)).sdiv 100
  let k0 := if l < 3 then k0Of s i n.inst else ⟨0, 0⟩
  -- i' = i + k0 iR; both factors act on (x, x / rad)
  let zk := (zr.mul k0).sdiv one44
  let x := tokI s i n f l b k
  let dx := perRad f (fun k => tokI s i n f l b k) k
  let r := if l < 3 then tokR s i n f b k else 0
  let dr := if l < 3 then perRad f (fun k => tokR s i n f b k) k else 0
  (zr.re * x + zr.im * dx + zk.re * r + zk.im * dr) / one44

/-- An incremental-quantity distance element on a wave, which decides on the token before the wave's. It keeps
[state (0 idle, 1 in its cycle, 2 waits for its reset), waves in the state, run below half, runs above of phases A, B, C]. -/
def incDistance (i : Inst) (n : Node) (blk : Bool) (qs : List (BitVec 8)) (c : EC) : Judged :=
  let s := c.s
  let (f, _) := trackedHz s i n.terminal
  let cyc := cycleTokens f
  let thr := setN s i n.inst 0x63 1 10 * nomI s n
  let di (j : Nat) : Nat := (tokVal s i f (n.chans.getD (3 + j) 255) 0 1 - tokVal s i f (n.chans.getD (3 + j) 255) 1 1).natAbs
  let mx := max (di 0) (max (di 1) (di 2))
  let below := decide (mx * 200 < thr)
  let run (j : Nat) : Int := if thr < di j * 100 then c.aux (3 + j) + 1 else 0
  let runs := [run 0, run 1, run 2]
  let st := (c.aux 0).toNat
  let w := (c.aux 1).toNat
  let lowRun := if below then (c.aux 2).toNat + 1 else 0
  let st' := if blk then 0 else if st = 0 then (if runs.any (fun x => decide (3 ≤ x)) then 1 else 0)
    else if st = 1 ∧ w < cyc then 1 else if cyc ≤ lowRun then 0 else 2
  let w' := if st' = st then w + 1 else 1
  let restraint (l : Nat) : Nat := (List.range cyc).foldl (fun a k =>
    max a (tokV s i n f l 1 (1 + k) - tokDrop s i n f l 1 (1 + k)).natAbs) 0
  let vop (l : Nat) : Nat := ((tokV s i n f l 0 1 - tokV s i n f l 1 1) - (tokDrop s i n f l 0 1 - tokDrop s i n f l 1 1)).natAbs
  let sec := (setF s i n.inst 0x62 100 110).toNat
  let en := setN s i n.inst 0x64 1 0x3F
  let hit (l : Nat) : Bool := !inv qs l && bitOf en l && decide (sec * restraint l < vop l * 100)
  let cnt := (List.range 6).map (fun l => runAt c.el.cnt l (st' == 1 && hit l))
  let fwd := (nodesOn s .directional n.terminal).any (fun (d : Node) =>
    setN s i d.inst 0x30 1 0 == 3 && heldOut s i d 0)
  let on := if blk then 0 else judge c.el qs f c.el.oper (fun l => st' == 1 && fwd && decide (3 ≤ cnt.getD l 0))
  let start := st' != 0
  let first := ((List.range 6).find? (fun l => bitOf on l)).getD 0
  { c := (c.keep ([(st' : Int), (w' : Int), (lowRun : Int)] ++ runs)).set (fun e => { e with cnt := cnt, oper := on })
    bits := [start, on != 0] ++ (List.range 6).map (bitOf on), op := on != 0, pick := start, taking := on
    snap := [fpOf (vop first) 1000000, fpOf (restraint first) 1000000, fpOf (vop first) (max 1 (restraint first))]
    more := [] }

/-! Travelling-wave directional (R326, R327, R330). -/

/-- A travelling-wave directional element on a descriptor. It keeps [polarity decision (0 none, 1 forward, 2 reverse),
output (0 none, 1, 2), closed to arrivals until the burst's end descriptor, CONF, rho's code]. -/
def twDirectional (i : Inst) (n : Node) (blk : Bool) (c : EC) : Judged :=
  let s := c.s
  let d : Desc := i.desc.getD default
  let mine := d.term == n.terminal
  let vmin := setN s i n.inst 0xB4 1 10
  let okDec := d.quantity == 0 && decide (setN s i n.inst 0xB1 1 120 ≤ d.conf) &&
    decide (10 * vmin ≤ d.vref.natAbs) && !bitOf d.flags 3 && !(setN s i n.inst 0xB6 1 1 == 1 && bitOf d.flags 1)
  let dec : Int := if !okDec then 0 else if 0 < d.pol * d.vref then 1 else 2
  let out := c.aux 1
  let c := if blk then c.keep [0, 0, c.aux 2, 0, 0]
    else if !mine then c
    else match d.kind with
      | 0 => if bitOf d.flags 6 && decide (c.aux 2 = 0) then c.keep [dec, out, 1, d.conf, 0] else c
      | 1 => c.keep [c.aux 0, if c.aux 0 = 1 ∧ d.pol = 1 then 1 else if c.aux 0 = 2 ∧ d.pol < 0 then 2 else out, c.aux 2,
          c.aux 3, (if 0 < d.pol then -(d.conf : Int) else d.conf)]
      | _ => c.keep [0, 0, 0, 0, 0]
  let o := c.aux 1
  let dirSet : Int := if setN s i n.inst 0xB5 1 0 = 1 then 2 else 1
  let op := o != 0 && o == dirSet
  { c := c, bits := [o == 1, o == 2, op], op := op, pick := c.aux 0 != 0 || o != 0, taking := 0
    snap := [fpOf (if c.aux 0 = 1 then 1 else if c.aux 0 = 2 then -1 else 0) 1, fpOf (c.aux 4) 255, fpOf (c.aux 3) 1]
    more := [] }

/-! An element on a wave (R270, R272, R645, R646). -/

/-- Family code of the snapshot (R646); 0: the op is no element. -/
def famCode : OpType → Nat
  | .overcurrent => 1 | .directional => 2 | .distance => 3 | .loadEncroachment => 4 | .swingBlock => 5
  | .incDistance => 6 | .voltage => 7 | .frequency => 8 | .synchrocheck => 9 | .breakerFailure => 10
  | .switchOntoFault => 11 | .twDirectional => 12 | _ => 0

/-- The qualities of an element's operating inputs: one per phase or loop where it judges each on its own. -/
def famInputs (s : State) (i : Inst) (n : Node) : List (BitVec 8) :=
  match n.op with
  | .overcurrent => (ocInputs s i n (measFull s i n)).map (·.2)
  | .voltage => (voltInputs s i n (measFull s i n)).map (·.2)
  | .distance => (List.range 6).map (loopQ (measFull s i n))
  | .incDistance => (List.range 6).map (fun l =>
      let h (j : Nat) : BitVec 8 := windowQ (histOf s i (n.chans.getD j 255)) (2 * cycleTokens (trackedHz s i n.terminal).1 + 4)
      if l < 3 then joinQs [h l, h (3 + l)] else joinQs [h (l - 3), h ((l - 2) % 3), h l, h (3 + (l - 2) % 3)])
  | .breakerFailure => (List.range 3).map (fun k => windowQ (histOf s i (n.chans.getD (3 + k) 255)) 1)
  | .synchrocheck => [(syncInputs s i n).2.2]
  | .twDirectional => [match i.desc with
      | some d => BitVec.ofNat 8 (16 * b2n (bitOf d.flags 4) + 32 * b2n (bitOf d.flags 5))
      | none => 0#8]
  | _ => [joinQs (measFull s i n).q]

/-- A family's decision. -/
def famRun (i : Inst) (n : Node) (blk : Bool) (qs : List (BitVec 8)) (c : EC) : Judged :=
  match n.op with
  | .overcurrent => overcurrent i n blk qs c
  | .directional => directional i n blk c
  | .distance => distance i n blk qs c
  | .loadEncroachment => loadEncroach i n blk c
  | .swingBlock => swingBlock i n blk c
  | .incDistance => incDistance i n blk qs c
  | .voltage => voltage i n blk qs c
  | .frequency => frequency i n blk c
  | .synchrocheck => synchrocheck i n blk c
  | .breakerFailure => breakerFailure i n blk qs c
  | .switchOntoFault => switchOntoFault i n blk c
  | _ => twDirectional i n blk c

/-- The snapshot of an element event (R646). -/
def elemPart (n : Node) (j : Judged) : List Byte :=
  padTo 48 (leBytes 2 (famCode n.op) ++ leBytes 2 j.taking ++ (j.snap.take 11).flatMap (leBytes 4))

/-- An element event with its snapshot. -/
def elemEvent (code value : Nat) (part : List Byte) (s : State) : State := submitParts .elem code value [part] s

/-- A context with everything it stores cleared (R270, R272, R117). -/
def Elem.cleared (e : Elem) : Elem :=
  { (default : Elem) with node := e.node, inst := e.inst, tagNext := e.tagNext, inv := e.inv, invAll := e.invAll }

/-- Settings that name a reference: low bytes of a family (R271). -/
def refLows : OpType → List Nat
  | .overcurrent => [0x11, 0x28] | .breakerFailure => [0x11, 0x93, 0x94, 0x96] | .switchOntoFault => [0x11, 0xA0, 0xA3]
  | _ => [0x11]

/-- TEST and SUBST of any input of an element, its references among them (R270). -/
def inputFlags (s : State) (i : Inst) (n : Node) (qs : List (BitVec 8)) : BitVec 8 :=
  let refs := (refLows n.op).map (fun low => (refIn i (setN s i n.inst low 2 0xFFFF)).2)
  (qs ++ refs).foldl (fun (a : BitVec 8) q => a ||| (q &&& 0x30#8)) 0#8

/-- The outputs of an element as values with one quality byte. -/
def bitOuts (bits : List Bool) (q : BitVec 8) : List OutVal := bits.zipIdx.map (fun (b, p) => ⟨p, b2n b, q⟩)

/-- The number of outputs of a family (R269). -/
def famOuts : OpType → Nat
  | .overcurrent => 8 | .directional => 2 | .distance => 8 | .loadEncroachment => 6 | .swingBlock => 1
  | .incDistance => 8 | .voltage => 5 | .frequency => 2 | .synchrocheck => 3 | .breakerFailure => 5
  | .switchOntoFault => 2 | _ => 3

/-- An element leaves its pickup state: ELEMENT_RESET (R645). -/
def elemReset (n : Node) (e : Elem) (s : State) : State :=
  if e.pickup then
    elemEvent 0x3203 n.inst (elemPart n ⟨⟨e, s, false⟩, [], false, false, 0, [], []⟩) s
  else s

/-- The element on a wave whose inputs its family can judge. -/
def elemJudge (i : Inst) (n : Node) (qs : List (BitVec 8)) (e : Elem) (s : State) : List OutVal × State :=
  let blkRef := setN s i n.inst 0x11 2 0xFFFF
  let blk := refVal i blkRef
  let e0 := if blk then { e with timers := [] } else e
  let j := famRun i n blk qs ⟨e0, s, false⟩
  let s := j.c.s
  let someInv := qs.any isInv
  let q := joinQs (qs.filter (fun q => !isInv q))
  let q := if someInv then atLeastQ q else q
  let q := (if j.c.bad then withV q 1 else q) ||| inputFlags s i n qs
  let outs := bitOuts j.bits q
  let part := elemPart n j
  let s := if j.pick && !e.pickup then elemEvent 0x3201 n.inst part s else s
  let s := if j.op && !e.operated then elemEvent 0x3202 n.inst part s else s
  let s := j.more.foldl (fun s m => elemEvent m.1 m.2 part s) s
  let s := if !j.pick && e.pickup then elemEvent 0x3203 n.inst part s else s
  let track := if n.op = .swingBlock ∨ n.op = .directional then
      ((⟨i.tok, 0, q.toNat, b2n (j.bits.getD 0 false) + 2 * b2n (j.bits.getD 1 false), 0⟩ : Track) :: e.track).take 64
    else e.track
  (outs, putElem { j.c.el with started := j.pick, operated := j.op, pickup := j.pick, track := track, outs := outs } s)

/-- An element on a wave (R270 to R273). -/
def opElement (s : State) (i : Inst) (n : Node) : List OutVal × State :=
  let e := elemOf s n
  -- firings delivered to this instance are kept with their timers; a tag given up is ignored
  let e := { e with timers := e.timers.map (fun (t : ETimer) => { t with fired := t.fired || i.timers.any (fun x => x.1 == t.tag) }) }
  if i.voidMask ≠ 0 then (e.outs, putElem e s)
  else if !enabled s i n then
    let outs := bitOuts (List.replicate (famOuts n.op) false) 0#8
    (outs, putElem { e.cleared with outs := outs } (elemReset n e s))
  else
    let qs := famInputs s i n
    let f := (trackedHz s i n.terminal).1
    let e := { e with
      inv := qs.zipIdx.map (fun (q, k) => if isInv q then e.inv.getD k 0 + 1 else 0)
      invAll := if qs.all isInv then e.invAll + 1 else 0 }
    if e.invAll = 0 then elemJudge i n qs e s
    else if e.invAll ≤ 2 * cycleTokens f then
      let outs := e.outs.map (fun (o : OutVal) => { o with qual := withV o.qual 1 ||| inputFlags s i n qs })
      (outs, putElem { e with outs := outs } s)
    else
      let first := decide (e.invAll = 2 * cycleTokens f + 1)
      let outs := bitOuts (List.replicate (famOuts n.op) false) (1#8 ||| inputFlags s i n qs)
      -- the snapshot holds the family's quantities of the deciding wave (R646)
      let s := if first then elemReset n e (elemEvent 0x3204 n.inst (elemPart n (famRun i n false qs ⟨e, s, false⟩)) s) else s
      (outs, putElem { e.cleared with outs := outs } s)

/-- A reset request acts on an element whose pickup state is clear: what it stores is cleared (R272). -/
def actReset (e : Elem) : Elem := { e.cleared with outs := e.outs, track := e.track }

end Sys2Proof.Machine
end

