-- ==== Sys2Proof/Machine/Trip.lean ====
section
/-! DEFINITION. The trip matrix (R305 to R310). -/

namespace Sys2Proof.Machine

/-- Minimum pulse in waves, rounded up, seal-in mode, terminal and seal-in current, seal-in maximum time in ms. -/
structure RowCfg where
  pulse : Nat
  mode : Nat
  term : Nat
  cur : Nat
  maxMs : Nat
  deriving DecidableEq, Repr

/-- The settings of a row in the image in service. -/
def rowCfg (s : State) (r : Nat) : RowCfg :=
  { pulse := pv s 0x0531 r 0 2 100 * 16, mode := pv s 0x0532 r 0 1 0, term := pv s 0x0533 r 0 1 0
    cur := pv s 0x0533 r 2 2 10, maxMs := pv s 0x0534 r 0 2 2000 }

/-- The settings that a row works under: its old ones while it completes its pulse and seal (R309). -/
def rowUses (s : State) (r : Row) : RowCfg :=
  match r.old with
  | some (p, m, tc, x) => ⟨p, m, tc / 65536, tc % 65536, x⟩
  | none => rowCfg s r.num

/-- The inputs of a row as it reads them: TEST and SUBST read as 0 when it is test-blocked; none under old settings. -/
def rowInputs (s : State) (i : Inst) (r : Row) : List (Bool × BitVec 8) :=
  if r.old.isSome then []
  else
    let bs := (prm s 0x0530 r.num).getD []
    let refs := ((List.range 32).map (fun k => leAt bs (2 * k) 2)).filter (· != 0xFFFF)
    let blocked := pv s 0x0536 r.num 0 1 0 == 1
    refs.map (fun ref =>
      let x := refIn i ref
      if blocked && (x.2.getLsbD 4 || x.2.getLsbD 5) then (false, x.2) else x)

/-- The channels of a terminal's phase currents: the three lowest-numbered assigned ones (R306). -/
def sealChans (s : State) (term : Nat) : List Nat :=
  ((List.range 16).filter (fun c => match chanEntry s c with
    | some e => e.quantity == 0 && e.terminal == term
    | none => false)).take 3

/-- Tokens of the seal-in window (R306, R192). -/
def sealWindow (s : State) : Nat := if pv s 0x0514 0 0 1 0 = 1 then 267 else 320

/-- Any phase current of the terminal holds the seal-in: its rms over the window at or above the setting, and no invalid
token in the window. -/
def sealHolds (s : State) (i : Inst) (term cur : Nat) : Bool :=
  (sealChans s term).any (fun c =>
    let h := (histOf s i c).take (sealWindow s)
    let sum := h.foldl (fun a x => a + (x.1 * x.1).toNat) 0
    let (n, d) := codeUnit s c
    let lim := cur * nominalOf s c
    decide (h.length = sealWindow s) && h.all (fun x => !isInv x.2) &&
      decide (lim * lim * (d * d) * sealWindow s ≤ sum * (n * n).toNat * 10000))

/-- A GOOSE trip point's quality (R308). -/
def rowQual (xs : List (Bool × BitVec 8)) : BitVec 8 :=
  let on := xs.filter (·.1)
  let worst := (if on.isEmpty then xs else on).foldl (fun a x => worstV a (valOf x.2)) 0
  let flags := on.foldl (fun (a : BitVec 8) x => a ||| (x.2 &&& 0x30#8)) 0#8
  withV flags worst

/-- One row at a release (R306, R307): the row and whether a reset was refused. -/
def rowStep (s : State) (i : Inst) (r : Row) : Row × Bool :=
  let c := rowUses s r
  let xs := rowInputs s i r
  let on := xs.any (·.1)
  let reset := r.old.isNone && refVal i (pv s 0x0535 r.num 0 2 0xFFFF)
  let edge := reset && !r.lastReset
  let latch := decide (c.mode = 2) && r.old.isNone && (on || (r.latched && !edge))
  let clearAt := if r.inputs && !on then td0 s else r.clearAt
  let pulse := r.cmd && decide (i.tok < r.setAt + c.pulse)
  let sealed := r.cmd && decide (c.mode = 1) && decide (td0 s < clearAt + msT c.maxMs) && sealHolds s i c.term c.cur
  let cmd := on || pulse || sealed || latch
  ({ r with cmd := cmd, setAt := if cmd && !r.cmd then i.tok else r.setAt, inputs := on, clearAt := clearAt,
            lastReset := reset, latched := latch, qual := rowQual xs },
   edge && on && decide (c.mode = 2))

/-- A row's old settings end once its command has cleared; a row that the image no longer holds then ceases (R309). -/
def rowKeeps (s : State) (r : Row) : Option Row :=
  if r.old.isSome && !r.cmd then (if (prm s 0x0530 r.num).isSome then some { r with old := none } else none) else some r

/-- An entry of the job queue is free for an engine source (R237). -/
def engineEntry (s : State) : Bool := decide (s.gr.jobs.length < 32)

/-- A job joins the queue. -/
def putJob (set : Nat) (req : Option Req) (input : List Byte) (wave skips : Nat) (s : State) : State :=
  { s with gr := { s.gr with
    jobs := s.gr.jobs ++ [⟨s.gr.jobNext, set, req, false, input, [], wave, skips⟩], jobNext := s.gr.jobNext + 1 } }

/-- Locations that have no job yet join the queue, oldest first, while it has an entry for them: a stalled source loses
nothing (R237). Location jobs are entry sets 65 536 + terminal. -/
def stalledJoin (s : State) : State :=
  (List.range s.acq.locQ.length).foldl (fun s k =>
    match s.acq.locQ[k]? with
    | some b =>
      if b.job.isSome || !engineEntry s then s
      else
        let id := s.gr.jobNext
        putJob (65536 + b.term) none [] s.acq.wave 0
          { s with acq := { s.acq with locQ := s.acq.locQ.set k { b with job := some id } } }
    | none => s) s

/-- Without U_TW impedance location runs after every trip, on each terminal whose line is given (R346). -/
def tripLocate (t1 : Nat) (s : State) : State :=
  if hasTw s then s
  else
    let due := (List.range 2).filter (fun t =>
      (prm s 0x0546 t).isSome && (prm s 0x0549 t).isSome && !s.acq.locQ.any (fun (b : Burst) => b.term == t))
    let new := due.map (fun t =>
      { (default : Burst) with term := t, openedAt := t1, lastTime := t1, waves := s.acq.waves, closedAt := td0 s })
    stalledJoin { s with acq := { s.acq with locQ := s.acq.locQ ++ new } }

/-- What a row's change does: TRIP_ON or TRIP_OFF, the recorder's channel, the field mailbox. -/
def rowTell (t1 : Nat) (old new : Row) (s : State) : State :=
  let s := if new.num < 8 then
      { s with fio := { s.fio with tripCmd := setB s.fio.tripCmd new.num new.cmd } }
    else s
  if old.cmd = new.cmd then s
  else
    let s := if new.cmd then tripLocate t1 s else s
    binSet 4 new.num new.cmd true false false t1 (submit .elem (if new.cmd then 0x3210 else 0x3211) new.num s)

/-- The trip matrix at a release at TD1 instant `t1` (R306); it reads the P space as the release leaves it. -/
def tripRelease (i : Inst) (t1 : Nat) (s : State) : State :=
  let i := i.seen s
  let steps := s.gr.rows.map (fun r => (r, rowStep s i r))
  let s := steps.foldl (fun s (old, new, refused) =>
    let s := if refused then submit .elem 0x3217 old.num s else s
    rowTell t1 old new s) s
  { s with gr := { s.gr with rows := (steps.map (fun x => x.2.1)).filterMap (rowKeeps s) } }

/-- The rows at a release that an overrun forced (R309): inputs and commands as they were, questionable. -/
def tripHeld (s : State) : State :=
  { s with gr := { s.gr with rows := s.gr.rows.map (fun (r : Row) => { r with qual := atLeastQ r.qual }) } }

/-- The rows of the image in service: those it defines, and those it changed or removed that complete their pulse and
seal under their old settings (R309). `old` gives the settings before, `same` the rows left unchanged. -/
def loadRows (old : Nat → RowCfg) (same : Nat → Bool) (s : State) : State :=
  let kept := s.gr.rows.filterMap (fun (r : Row) =>
    if same r.num then some r
    else if r.cmd && r.old.isNone then
      let c := old r.num
      some { r with old := some (c.pulse, if c.mode = 2 then 0 else c.mode, c.term * 65536 + c.cur, c.maxMs), latched := false }
    else if r.old.isSome then some r
    else if (prm s 0x0530 r.num).isSome then some { (default : Row) with num := r.num }
    else none)
  let new := ((List.range 48).filter (fun k => (prm s 0x0530 k).isSome && !kept.any (fun (r : Row) => r.num == k))).map
    (fun k => { (default : Row) with num := k })
  { s with gr := { s.gr with rows := kept ++ new } }

end Sys2Proof.Machine
end

