-- ==== Sys2Proof/Machine/Net.lean ====
section
/-! DEFINITION. Network ports and published streams (18), the PMU frames (R257 to R266) and the SV frames (R200, R574). -/

namespace Sys2Proof.Machine

/-! GOOSE publication (R567 to R570). -/

/-- The UTC time of a TD1 instant in ns (TD1 less TB_UTC_OFFSET.OFFSET, R257). -/
def utcNs (s : State) (t : Nat) : Nat := ((nsAll t : Int) - sgn 16 s.tu.utcOffset * 1000000000).toNat

/-- IEC 61850-7-3 quality of an engine quality byte (R570): validity in bits 1:0, overflow 2, oscillatory 5, failure 6,
inconsistent 8, inaccurate 9, source substituted 10, test 11. -/
def iecQual (q : BitVec 8) (osc fail : Bool) : Nat :=
  valOf q + b2n (q.getLsbD 2) * 4 + b2n osc * 32 + b2n fail * 64 + b2n (q.getLsbD 7) * 256 + b2n (q.getLsbD 3) * 512 +
    b2n (q.getLsbD 5) * 1024 + b2n (q.getLsbD 4) * 2048

/-- The quality byte of a logic-written N point (R570). -/
def nPubQual (s : State) (width a : Nat) : BitVec 8 :=
  BitVec.ofNat 8 (b2n (!s.le.forces.isEmpty) * 32 + b2n (forced s (pointCode width 7 a)).isSome * 16)

/-- The value and GOOSE quality of a member's source (R567). -/
def memberOf (s : State) (src : Nat) : Nat × Nat :=
  let a := src % 2 ^ 24
  match src / 2 ^ 24 with
  | 1 => match s.gr.rows.find? (fun (r : Row) => r.num == 16 + a) with
    | some r => (b2n r.cmd, iecQual r.qual false false)
    | none => (0, iecQual 1#8 false false)
  | 2 => (smGet s.le.nb a, iecQual (nPubQual s 0 a) false false)
  | 3 => (smGet s.le.nw a % 4, iecQual (nPubQual s 1 a) false false)
  | 4 => (smGet s.le.nw a, iecQual (nPubQual s 1 a) false false)
  | 5 => (smGet s.le.nw a, iecQual (nPubQual s 1 a) false false)
  | 6 =>
    let q := smGet s.gr.pBitQ a
    (smGet s.gr.pBitF a, iecQual (if q = 0 then 1#8 else BitVec.ofNat 8 (q - 1)) false false)
  | _ =>
    let d := diOf s a
    (b2n (diState s a), iecQual (BitVec.ofNat 8 (diValidity s a)) d.frozen (d.openW || d.overtemp))

/-- Members of a publication: source and type. -/
def pubMembers (s : State) (p : Nat) : List (Nat × Nat) :=
  (List.range (pv s 0x0910 p 17 1 0)).map (fun m => (pv s 0x0911 (64 * p + m) 0 4 0, pv s 0x0911 (64 * p + m) 4 1 1))

/-- Values and qualities of the data members, in order; a Quality or Timestamp member carries nothing of its own. -/
def pubVals (s : State) (p : Nat) : List (Nat × Nat) :=
  ((pubMembers s p).filter (fun m => m.2 < 5)).map (fun m => memberOf s m.1)

/-- The publication carries a trip point. -/
def pubTrips (s : State) (p : Nat) : Bool := (pubMembers s p).any (fun m => m.1 / 2 ^ 24 == 1)

/-- The time quality of t (R569). -/
def goTimeQual (s : State) : Nat :=
  let acc : Nat := match s.tu.d1.cls with
    | 0 => 25 | 1 => 23 | 2 => 19 | 3 => 16 | 4 => 13 | 5 => 9 | 6 => 6 | 7 => 3 | _ => 31
  b2n s.tu.utcValid * 128 + b2n (decide (s.tu.d1.cls = 15)) * 64 + b2n (!syncOk s) * 32 + acc

/-- The values of a frame's members in order (R567): a data member's value; a Quality or Timestamp member's is the quality or
the last change of the data member before it. -/
def memberVals : List (Nat × Nat) → List (Nat × Nat) → List Nat → Nat × Nat × Nat → List Nat
  | [], _, _, _ => []
  | m :: ms, vs, ts, last =>
    if m.2 = 5 then last.2.1 :: memberVals ms vs ts last
    else if m.2 = 6 then last.2.2 :: memberVals ms vs ts last
    else
      let v := vs.headD (0, 0)
      v.1 :: memberVals ms vs.tail ts.tail (v.1, v.2, ts.headD 0)

/-- The times of the data members' last changes once new values stand (R567). -/
def changeTimes (now : Nat) : List (Nat × Nat) → List (Nat × Nat) → List Nat → List Nat
  | _, [], _ => []
  | old, v :: vs, ts =>
    (if old.head? = some v then ts.headD now else now) :: changeTimes now old.tail vs ts.tail

/-- A publication's present frame is handed to its ports; only a lane that transmits its streams sends it (R545). -/
def goSend (x : GoosePub) (s : State) : State :=
  if !mayTx s then s
  else
    let test := x.vals.any (fun v => v.2.testBit 11)
    sendFrame (if pubTrips s x.num then 2 else 5) (pv s 0x0910 x.num 16 1 0)
      [pv s 0x0910 x.num 6 2 0, x.num, x.st, x.sq, x.tUtc, goTimeQual s, 2 * x.interval, b2n test]
      (memberVals (pubMembers s x.num) x.vals x.times (0, 0, 0)) [] s

/-- stNum and sqNum wrap from 2^32 - 1 to 1. -/
def goInc (n : Nat) : Nat := if n = 2 ^ 32 - 1 then 1 else n + 1

/-- T1 and T0 of a publication, ms. -/
def goT1 (s : State) (p : Nat) : Nat := pv s 0x0910 p 12 2 2

/-- T0. -/
def goT0 (s : State) (p : Nat) : Nat := pv s 0x0910 p 14 2 1000

/-- A publication of the state, or as it stands before its first frame. -/
def pubOf (s : State) (p : Nat) : GoosePub :=
  (s.net.pubs.find? (fun (x : GoosePub) => x.num == p)).getD { (default : GoosePub) with num := p }

/-- A publication written. -/
def putPub (x : GoosePub) (s : State) : State :=
  { s with net := { s.net with pubs := x :: s.net.pubs.filter (fun (y : GoosePub) => y.num != x.num) } }

/-- A new state number with `vals`, t at a TD1 instant: the frame, and a new retransmission series (R568, R576). -/
def goChange (p : Nat) (vals : List (Nat × Nat)) (t1 : Nat) (s : State) : State :=
  let x := pubOf s p
  let x := { x with st := goInc x.st, sq := 0, tUtc := utcNs s t1, vals := vals, interval := goT1 s p
                    times := changeTimes (utcNs s t1) x.vals vals x.times
                    nextAt := td0 s + msT (goT1 s p), first := true }
  goSend x (digNote 7 (leBytes 1 p ++ leBytes 4 x.st ++ leBytes 4 x.sq) (putPub x s))

/-- The publications of the image. -/
def pubNums (s : State) : List Nat := (List.range 32).filter (fun p => (prm s 0x0910 p).isSome)

/-- Every publication is evaluated at a release at TD1 instant `t1` (R568). -/
def publishAll (t1 : Nat) (s : State) : State :=
  (pubNums s).foldl (fun s p =>
    let v := pubVals s p
    if (pubOf s p).st = 0 ∨ (pubOf s p).vals ≠ v then goChange p v t1 s else s) s

/-- A launch snapshot (R568): the dataset as it stands, t at the launch instant. -/
def publishLaunch (p t1 : Nat) (s : State) : State :=
  if (prm s 0x0910 p).isSome then goChange p (pubVals s p) t1 s else s

/-- GOOSE_RETRANSMIT (R568). -/
def execGooseRetransmit (pub : Nat) (s : State) : Res :=
  let x := pubOf s pub
  if !running s ∨ x.st = 0 ∨ (prm s 0x0910 pub).isNone ∨ td0 s < x.nextAt then .next s
  else
    let step := if x.first then x.interval else min (2 * x.interval) (goT0 s pub)
    let x := { x with sq := goInc x.sq, first := false, interval := step, nextAt := x.nextAt + msT step }
    .next (goSend x (putPub x s))

/-! GOOSE subscription (R571 to R573). -/

/-- A subscription of the state, or as it stands at start. -/
def subOf (s : State) (k : Nat) : GooseSub :=
  (s.net.subs.find? (fun (x : GooseSub) => x.num == k)).getD { (default : GooseSub) with num := k }

/-- A subscription written. -/
def putSub (x : GooseSub) (s : State) : State :=
  { s with net := { s.net with subs := x :: s.net.subs.filter (fun (y : GooseSub) => y.num != x.num) } }

/-- The subscription a frame belongs to (R571). -/
def subFor (s : State) (f : GooseFrame) : Option Nat :=
  (List.range 128).find? (fun k => match prm s 0x0920 k with
    | some v => beAt v 0 6 == f.dst && leAt v 6 2 == f.appid && bytesAt v 16 64 == padTo 64 f.ref &&
        bytesAt v 80 64 == padTo 64 f.dat && hearsOn s (leAt v 14 1) f.port
    | none => false)

/-- The mappings of a subscription: dataset position, type, Quality position, N address. -/
def subMaps (s : State) (k : Nat) : List (Nat × Nat × Nat × Nat) :=
  (List.range 64).filterMap (fun m => (prm s 0x0921 (64 * k + m)).map (fun v =>
    (leAt v 0 1, leAt v 1 1, leAt v 2 1, leAt v 4 4)))

/-- The cause for which a frame is rejected, 0 none (R571). -/
def goReject (s : State) (k : Nat) (f : GooseFrame) : Nat :=
  let v := (prm s 0x0920 k).getD []
  let flags := leAt v 12 1
  if leAt v 8 4 ≠ f.confRev then 1
  else if f.nds then 2
  else if f.test && !flags.testBit 0 then 3
  else if f.sim && !flags.testBit 1 then 4
  else if leAt v 13 1 ≠ f.vals.length || (subMaps s k).any (fun m =>
      match f.vals[m.1]? with | some x => x.type != m.2.1 | none => true) then 5
  else 0

/-- Engine quality byte of a received Quality member (R573): validity, TEST and SUBST. -/
def fromIec (v : Nat) : BitVec 8 :=
  BitVec.ofNat 8 (v % 4 + b2n (v.testBit 11) * 16 + b2n (v.testBit 10) * 32)

/-- The writes into the N space of an accepted frame (R573): (word, address, value, quality). -/
def goWrites (s : State) (k : Nat) (f : GooseFrame) : List (Bool × Nat × Nat × Nat) :=
  (subMaps s k).map (fun (pos, type, qpos, addr) =>
    let v := match f.vals[pos]? with | some x => x.val | none => 0
    let q := if qpos = 255 then 0#8 else match f.vals[qpos]? with | some x => fromIec x.val | none => 0#8
    let q := if f.test then q ||| 0x10#8 else q
    (type != 1, addr, v, q.toNat))

/-- One N point takes a value and a quality: event tasks of type 3, the recorder's channel (R363, R472). -/
def writeN (t1 : Nat) (w : Bool × Nat × Nat × Nat) (s : State) : State :=
  let (word, a, v, q) := w
  let old := if word then smGet s.le.nw a else smGet s.le.nb a
  let v := if word then v % 2 ^ 32 else v % 2
  let s := { s with
    le := if word then { s.le with nw := smSet s.le.nw a v } else { s.le with nb := smSet s.le.nb a v }
    net := { s.net with nQual := smSet s.net.nQual (2 * a + b2n word) q } }
  let s := if old = v then s else raiseTrig 3 a 0 (td1 s) (td0 s) s
  if word then s else binSet 3 a (v == 1) (!isInv (BitVec.ofNat 8 q)) false false t1 (markDirty s)

/-- Writes of accepted frames enter the N space. -/
def applyWrites (p : GoosePend) (s : State) : State := p.writes.foldl (fun s w => writeN p.t1 w s) s

/-- A frame is accepted: the subscription is up again, its numbers and its supervision run on (R572, R573). -/
def goAccept (k st sq ttl : Nat) (s : State) : State :=
  let x := subOf s k
  let s := if x.lost then submit .net 0xA004 k s else s
  putSub { x with lost := false, st := st, sq := sq, ever := true, until_ := td0 s + msT ttl } s

/-- GOOSE_FRAME_RX (R571 to R573, R545). In the standby of TWIN a frame is only evidence for the cross-check (R541). -/
def execGooseFrameRx (f : GooseFrame) (s : State) : Res :=
  if !running s || !portOn s f.port then .next s
  else match subFor s f with
    | none => .next s
    | some k =>
      let cause := goReject s k f
      let x := subOf s k
      if cause ≠ 0 then
        let s := { s with net := { s.net with goRej := satInc 32 s.net.goRej } }
        if x.rejSec = some (secOf (td0 s)) then .next s
        else .next (putSub { x with rejSec := some (secOf (td0 s)) } (submit .net 0xA005 (256 * cause + k) s))
      else if followsAgreed s then
        let seen : GoosePend := ⟨k, f.st * 2 ^ 32 + f.sq, none, []⟩
        .next { s with net := { s.net with pend := (seen :: s.net.pend).take 64 } }
      else
        let d := (f.st + 2 ^ 32 - x.st) % 2 ^ 32
        let newer := (decide (1 ≤ d) && decide (d < 2 ^ 31)) || (f.st == x.st && decide (x.sq < f.sq))
        if x.ever && !x.lost && f.st == x.st && f.sq == x.sq then
          .next (putSub { x with until_ := td0 s + msT f.ttl } { s with net := { s.net with twinDup := satInc 32 s.net.twinDup } })
        else if x.ever && !x.lost && !newer && !(f.st == 1 && f.sq == 0) then
          .next { s with net := { s.net with seqErr := satInc 32 s.net.seqErr } }
        else
          let w := goWrites s k f
          let named : Option Nat := if feeds s then some ((s.acq.wave + 2) % 2 ^ 32) else none
          let s := goAccept k f.st f.sq f.ttl s
          let s := { s with net := { s.net with pend := s.net.pend ++ [⟨k, f.t1, named, w⟩] } }
          .next (sendAgree 3 (named.getD 0) ([3, k, f.st, f.sq, f.ttl, f.t1] ++
            w.flatMap (fun (b, a, v, q) => [b2n b, a, v, q])) s)

/-- Accepted values whose wave has come enter the N space (R573): at the first release 10 us after the arrival, or at
the wave that the active named. -/
def goosePump (wave : Nat) (s : State) : State :=
  let ready : GoosePend → Bool := fun p => !p.writes.isEmpty && (match p.wave with
    | some w => decide ((wave + 2 ^ 32 - w) % 2 ^ 32 < 2 ^ 31)
    | none => decide (p.t1 + usT 10 ≤ td1 s))
  let hits := s.net.pend.filter ready
  hits.foldl (fun s p => applyWrites p s) { s with net := { s.net with pend := s.net.pend.filter (fun p => !ready p) } }

/-- Four numbers a time, as writes. -/
def unWrites : List Nat → List (Bool × Nat × Nat × Nat)
  | b :: a :: v :: q :: r => (b == 1, a, v, q) :: unWrites r
  | _ => []

/-- The standby uses an agreed GOOSE arrival (R538); one that it has not received itself is counted (R541). -/
def goAgreed (vals : List Nat) (s : State) : State :=
  match vals with
  | k :: st :: sq :: ttl :: t1 :: r =>
    let mine : GoosePend → Bool := fun p => p.writes.isEmpty && p.sub == k && p.t1 == st * 2 ^ 32 + sq
    let seen := s.net.pend.any mine
    let s := if seen then { s with net := { s.net with pend := s.net.pend.filter (fun p => !mine p) } }
      else { s with pr := { s.pr with inXchk := satInc 32 s.pr.inXchk } }
    applyWrites ⟨k, t1, none, unWrites r⟩ (goAccept k st sq ttl s)
  | _ => s

/-- GOOSE_SUB_LOST (R573): the points keep their values and become invalid. -/
def execGooseSubLost (sub : Nat) (s : State) : Res :=
  let x := subOf s sub
  if !running s ∨ !x.ever ∨ x.lost ∨ td0 s < x.until_ then .next s
  else
    let s := putSub { x with lost := true } (submit .net 0xA003 sub s)
    .next ((subMaps s sub).foldl (fun s (_, type, _, a) =>
      let word := type != 1
      let q := withV (BitVec.ofNat 8 (smGet s.net.nQual (2 * a + b2n word))) 1
      writeN (td1 s) (word, a, if word then smGet s.le.nw a else smGet s.le.nb a, q.toNat) s) s)

/-! SV and PMU frames (R200, R201, R257 to R266, R574, R575). -/

/-- The slot of a wave on the TD1 grid: 16 000 × second + sample index. -/
def gridIndex (at_ : Nat × Nat) : Nat := at_.1 * 16000 + at_.2

/-- The TD1 instant of sample `j` of `r` per second since second 0. -/
def partT1 (j r : Nat) : Nat := j * (10 ^ 9 * 2 ^ 40) / r

/-- Samples per second of a published stream (PID 0x0981). -/
def svPubRate (s : State) (k : Nat) : Nat := if pv s 0x0981 k 0 1 0 = 1 then 14400 else 4800

/-- The number, since second 0, of the published sample that the token before the last but one of a wave precedes: the
interpolation takes two tokens on either side (DEDUCED from R248, log entry 70). -/
def svSample (s : State) (k slot : Nat) : Nat := ((slot - 2) * svPubRate s k + 15999) / 16000

/-- The sample instant that the present wave completes, if any (R200, R211). -/
def svInstant (s : State) (k : Nat) : Option Nat :=
  let x := gridIndex s.acq.waveAt - 2
  let j := svSample s k (gridIndex s.acq.waveAt)
  if (prm s 0x0981 k).isSome ∧ 16000 * j < (x + 1) * svPubRate s k then some (partT1 j (svPubRate s k)) else none

/-- The OR of SYNC's absence in a list of tokens: SYNC stands only where every one has it (R201, R262). -/
def syncAll (qs : List (BitVec 8)) (q : BitVec 8) : BitVec 8 :=
  if qs.all (fun x => x.getLsbD 6) then q ||| 0x40#8 else q &&& 0xBF#8

/-- One value of a published sample (R200, R201): interpolated between protection-rate tokens, scaled to 1 mA or 10 mV (to
the nearest, DESIGN CHOICE, log entry 71), saturated with overflow; an unmapped channel gives 0, invalid. -/
def svValue (s : State) (i : Inst) (k j c : Nat) : Nat × BitVec 8 :=
  match chanEntry s c with
  | none => (0, 1#8)
  | some e =>
    let ts := (histOf s i c).take 4
    let qs := ts.map (·.2)
    let (num, den) := codeUnit s c
    let lsb : Nat := if e.quantity = 1 then 10000 else 1000
    let x := Config.svPub (16000 * j % svPubRate s k * 16000 / svPubRate s k) (ts.map (·.1))
    let v := (2 * x * num + (den * lsb : Nat)) / (2 * (den * lsb : Nat))
    let lim : Int := 2147483647
    let q := syncAll qs (if ts.length < 4 then withV (joinQs qs) 1 else joinQs qs)
    (unsgn 32 (max (-lim) (min lim v)), if v < -lim ∨ lim < v then q ||| 4#8 else q)

/-- The values of a published sample: the eight channels of PID 0x0981. -/
def svOuts (s : State) (i : Inst) (k : Nat) : List OutVal :=
  let j := svSample s k (gridIndex i.at_)
  (List.range 8).map (fun p => let v := svValue s i k j (pv s 0x0981 k (1 + p) 1 255); ⟨p, v.1, v.2⟩)

/-- A published sample (R200, R201, R574): an ASDU with smpCnt, SmpSynch 2 while SYNC is set on the source tokens, values and
qualities; a frame carries 1 ASDU, or 6 at 14 400 S/s. -/
def publishSv (k : Nat) (i : Inst) (vals : List OutVal) (s : State) : State :=
  match prm s 0x0981 k with
  | none => s
  | some _ =>
    let rate := svPubRate s k
    let c := svSample s k (gridIndex i.at_) % rate
    let src := vals.filter (fun (o : OutVal) => (chanEntry s (pv s 0x0981 k (1 + o.port) 1 255)).isSome)
    let asdu := [c, if src.all (fun (o : OutVal) => o.qual.getLsbD 6) then 2 else 0] ++
      vals.flatMap (fun (o : OutVal) => [o.val, iecQual o.qual false false])
    let frame := s.net.svAsdu.getD k [] ++ asdu
    let full := rate = 4800 ∨ c % 6 = 5
    let s := { s with net := { s.net with smpCnt := putAt 2 s.net.smpCnt k ((c + 1) % rate)
                                          svAsdu := putAt 2 s.net.svAsdu k (if full then [] else frame) } }
    if !full || !mayTx s then s
    else sendFrame 4 (pv s 0x0983 k 16 1 0) [pv s 0x0983 k 6 2 0, k] frame [] s

/-- A PMU stream. -/
def pmuOf (s : State) (k : Nat) : Pmu := s.gr.pmu.getD k default

/-- A PMU stream changed. -/
def updPmu (k : Nat) (f : Pmu → Pmu) (s : State) : State :=
  { s with gr := { s.gr with pmu := putAt 4 s.gr.pmu k (f (pmuOf s k)) } }

/-- Reporting rate of a stream; 0 launched-only (PID 0x0990). -/
def pmuRate (s : State) (k : Nat) : Nat := pv s 0x0990 k 2 1 0

/-- Half of a stream's filter window in tokens, as a ratio (R258): one nominal cycle for class P (the worked case of 08),
the standard's length for class M. -/
def pmuHalf (s : State) (k : Nat) : Nat × Nat :=
  let nom := if pv s 0x0514 0 0 1 0 = 1 then 60 else 50
  if pv s 0x0990 k 3 1 0 = 0 then (16000, nom) else (Config.pmuHalfM (pmuRate s k) nom, 1000)

/-- The reporting instant whose window the present wave completes, if any: its last token is the second after the one at or
before the window's end (R211, R257, R258, R264). -/
def pmuInstant (s : State) (k : Nat) : Option Nat :=
  let x := gridIndex s.acq.waveAt - 2
  let (n, d) := pmuHalf s k
  let r := pmuRate s k
  if (prm s 0x0990 k).isNone then none
  else if r = 0 then
    ((pmuOf s k).launched.find? (fun t => decide (t * 16000 * d + n * 10 ^ 9 < (x + 1) * (10 ^ 9 * d)))).map (· * 2 ^ 40)
  else
    let j := (r * (x * d - n) + 16000 * d - 1) / (16000 * d)
    if 16000 * j * d + n * r < (x + 1) * (r * d) then some (partT1 j r) else none

/-- The launched instants that the present wave's instances take leave their queues (R264). -/
def useLaunched (s : State) : State :=
  (List.range 4).foldl (fun s k =>
    match pmuInstant s k with
    | some t => if pmuRate s k = 0 then updPmu k (fun x => { x with launched := x.launched.erase (t / 2 ^ 40) }) s else s
    | none => s) s

/-- Tokens in a stream's filter window, with the interpolator's support (R249, R258). -/
def pmuTokens (s : State) (k : Nat) : Nat := let (n, d) := pmuHalf s k; (2 * n + d - 1) / d + 4

/-- The channels of a quantity on a terminal: the three lowest-numbered assigned ones. -/
def phaseChans (s : State) (quantity term : Nat) : List Nat :=
  ((List.range 16).filter (fun c => match chanEntry s c with
    | some e => e.quantity == quantity && e.terminal == term
    | none => false)).take 3

/-- The channels that a phasor slot of a stream reads (PID 0x0991). -/
def pmuChans (s : State) (k slot : Nat) : List Nat :=
  let q := pv s 0x0991 (16 * k + slot) 0 1 0
  if q < 16 then [q] else phaseChans s (if q < 19 then 0 else 1) (pv s 0x0990 k 5 1 0)

/-- The quality of a window of channels' tokens for a PMU value (R243, R262): worst validity, the OR of the flags, SYNC only
where every token has it, and the tracker's validity. -/
def pmuQ (s : State) (i : Inst) (k : Nat) (cs : List Nat) : BitVec 8 :=
  let len := pmuTokens s k
  let hs := cs.map (fun c => histOf s i c)
  let q := joinQs (hs.map (fun h => windowQ h len))
  joinV (syncAll (hs.flatMap (fun h => (h.take len).map (·.2))) q) (valOf (trackedHz s i (pv s 0x0990 k 5 1 0)).2)

/-- The values of a data frame with their qualities: phasors, FREQ, DFREQ, analog values (R260). The phasors and frequencies
are the filter's of the standard (`vals`), the analog values the outputs that PID 0x0992 names. -/
def pmuOuts (s : State) (i : Inst) (k : Nat) (vals : List (Nat × Nat)) : List OutVal :=
  let nph := pv s 0x0990 k 6 1 0
  let all := ((List.range nph).flatMap (pmuChans s k)).eraseDups
  let qs := (List.range nph).flatMap (fun j => let q := pmuQ s i k (pmuChans s k j); [q, q]) ++ List.replicate 2 (pmuQ s i k all)
  let main := qs.zipIdx.map (fun (q, p) => (⟨p, (vals.getD p (0, 0)).1, q⟩ : OutVal))
  let ana := (List.range (pv s 0x0990 k 7 1 0)).map (fun a =>
    let id := pv s 0x0992 (8 * k + a) 0 4 0
    match s.gr.outs.find? (fun (o : LastOut) => o.id == id) with
    | some o => (⟨2 * nph + 2 + a, o.val, o.qual ||| 0x40#8⟩ : OutVal)
    | none => ⟨2 * nph + 2 + a, 0, 0x41#8⟩)
  main ++ ana

/-- The window of an instance spans a JUMP re-phase or the end of a SLEW alignment (R262). -/
def spansAlign (s : State) (i : Inst) (k : Nat) : Bool :=
  match s.tu.alignW with | some w => decide (w < i.tok) && decide (i.tok < w + pmuTokens s k) | none => false

/-- FRACSEC of an instant (R257, R264). -/
def fracSec (s : State) (k inst : Nat) : Nat :=
  let tb := pv s 0x0990 k 12 4 1000000
  let r := pmuRate s k
  if r = 0 then (nsOf inst * tb + 500000000) / 1000000000
  else
    let n := (nsOf inst * r + 500000000) / 1000000000
    (2 * n * tb + r) / (2 * r)

/-- The message time quality and the leap second bits of the FRACSEC field (R263). -/
def msgTimeQual (s : State) : Nat :=
  let q := if s.tu.d1.qst = .locked ∧ s.tu.utcValid then 0
    else if s.tu.d1.cls = 15 ∨ !s.tu.utcValid then 15
    else if s.tu.d1.cls ≤ 1 then 3 else s.tu.d1.cls + 2
  q + 16 * s.tu.utcPending

/-- STAT (R262). `qs` are the qualities of the values; SYNC stands in each only where every token of the window has it.
`spans`: the window spans a re-phase or the end of an alignment. -/
def pmuStat (s : State) (k inst : Nat) (spans : Bool) (qs : List (BitVec 8)) : Nat :=
  let err := if (qs.take (2 * pv s 0x0990 k 6 1 0 + 2)).any isInv then 3 else if qs.any (fun q => q.getLsbD 4) then 2
    else if spans || qs.any (fun q => valOf q == 3) then 1 else 0
  let noSync := qs.any (fun q => !q.getLsbD 6)
  let trig := match graphSec s with
    | some g => g.pmuTrig.find? (fun (t : Nat × Nat × Nat) => t.1 == k)
    | none => none
  let on := match trig with | some (_, a, _) => smBit s.gr.pBitF a | none => false
  let reason := match trig with
    | some (_, _, a) => if on then maskOf 4 (fun b => smBit s.gr.pBitF (a + b)) else 0
    | none => 0
  let changed := match (pmuOf s k).cfgChangeAt with | some t => decide (inst < t + secT 60) | none => false
  let tq : Nat := match s.tu.d1.cls with
    | 0 => 1 | 1 => 1 | 2 => 2 | 3 => 3 | 4 => 4 | 5 => 5 | 6 => 6 | _ => 7
  let lost : Nat := match s.tu.d1.qst, s.tu.lockLostAt with
    | .locked, _ => 0
    | .never, _ => 3
    | _, some t => if inst < t + secT 10 then 0 else if inst < t + secT 100 then 1 else if inst < t + secT 1000 then 2 else 3
    | _, none => 3
  reason + 16 * lost + 64 * tq + 512 * b2n (qs.any (fun q => q.getLsbD 5)) + 1024 * b2n changed + 2048 * b2n on +
    8192 * b2n noSync + 16384 * err

/-- Frame values: an invalid phasor part, FREQ or DFREQ is NaN in float format, 0x8000 in integer format (R262); an analog value
in integer format is converted by the standard's scale, which is free (R260, log entry 9). -/
def pmuVals (s : State) (k : Nat) (vals : List OutVal) : List Nat :=
  let fmt := pv s 0x0990 k 4 1 0
  let nph := 2 * pv s 0x0990 k 6 1 0
  vals.zipIdx.map (fun (o, j) =>
    let bit := if j < nph then 1 else 3
    if isInv o.qual && decide (j < nph + 2) then (if fmt.testBit bit then 0x7FC00000 else 0x8000)
    else if nph + 2 ≤ j ∧ !fmt.testBit 2 then Config.analogInt o.val
    else o.val)

/-- A data frame of a PMU stream for a reporting instant (R257 to R264, R575). The values are phasors, FREQ, DFREQ and
analogs in order; digital words are sampled from the P space. -/
def publishPmu (k : Nat) (i : Inst) (vals : List OutVal) (s : State) : State :=
  let inst := i.instant
  if (prm s 0x0990 k).isNone ∨ !(pmuOf s k).tx then s
  else
    let stat := pmuStat s k inst (spansAlign s i k) (vals.map (fun (o : OutVal) => o.qual))
    let digs := (List.range (pv s 0x0990 k 8 1 0)).map (fun w =>
      let bs := (prm s 0x0993 (2 * k + w)).getD []
      maskOf 16 (fun b => smBit s.gr.pBitF (leAt bs (2 * b) 2)))
    let soc := (utcSec s inst).toNat
    let s := updPmu k (fun x => { x with frames := satInc 32 x.frames, stat := stat }) s
    if !mayTx s then s
    else sendUdp 6 (beAt ((prm s 0x0995 k).getD []) 0 4) (pv s 0x0995 k 4 2 4713)
      [pv s 0x0990 k 0 2 0, soc, fracSec s k inst, msgTimeQual s, stat] (pmuVals s k vals ++ digs) [] s

/-- The stream that a command frame addresses. -/
def pmuByCode (s : State) (idcode : Nat) : Option Nat :=
  (List.range 4).find? (fun k => (prm s 0x0990 k).isSome && pv s 0x0990 k 0 2 0 == idcode)

/-- A command frame takes effect on a stream: 0 off, 1 on, 2 header, 3 to 5 CFG-1 to CFG-3 (R265, R266). -/
def applyPmu (op k ip : Nat) (s : State) : State :=
  if op = 0 then updPmu k (fun x => { x with tx := false }) s
  else if op = 1 then updPmu k (fun x => { x with tx := true }) s
  else
    let f := if op = 2 then 4 else op - 2
    let s := updPmu k (fun x => { x with frameQ := x.frameQ ++ [(f, ip)] }) s
    -- built by the management cores, delayed but never lost while they restart
    if s.cmd.restarting.isSome || !mayTx s then s
    else
      let q := (pmuOf s k).frameQ
      let s := updPmu k (fun x => { x with frameQ := [] }) s
      q.foldl (fun s (f : Nat × Nat) => sendUdp 7 f.2 (pv s 0x0995 k 6 2 4712) [pv s 0x0990 k 0 2 0, f.1] [] [] s) s

/-- A command frame (R265): a bad one is PMU_CMD_REJECTED; in TWIN the active names the wave, the standby follows. -/
def pmuCommand (op idcode ip : Nat) (good : Bool) (s : State) : State :=
  if !running s then s
  else match pmuByCode s idcode with
    | none => s
    | some k =>
      if !good then submit .elem 0x3102 idcode s
      else if feeds s then schedTwin 17 [op, k, ip] s
      else if !s.pr.active && (s.pr.st == .twin || s.pr.st == .joining) then s
      else applyPmu op k ip s

/-- PMU_TURN_OFF (R265). -/
def execPmuTurnOff (idcode : Nat) (good : Bool) (s : State) : Res := .next (pmuCommand 0 idcode 0 good s)

/-- PMU_TURN_ON (R266). -/
def execPmuTurnOn (idcode : Nat) (good : Bool) (s : State) : Res := .next (pmuCommand 1 idcode 0 good s)

/-- PMU_SEND_HDR (R265). -/
def execPmuSendHdr (idcode : Nat) (good : Bool) (ip : Nat) (s : State) : Res := .next (pmuCommand 2 idcode ip good s)

/-- PMU_SEND_CFG (R265): CFG-1, CFG-2 or CFG-3; another kind is an unknown command. -/
def execPmuSendCfg (idcode : Nat) (good : Bool) (kind ip : Nat) (s : State) : Res :=
  .next (pmuCommand (2 + kind) idcode ip (good && decide (1 ≤ kind) && decide (kind ≤ 3)) s)

/-! Reception at the ports (R562 to R565). -/

/-- A multicast address that a subscription, PTP, supervision or a PMU stream names (R563). -/
def mcastNamed (s : State) (d : Nat) : Bool :=
  [0x011B19000000, 0x0180C200000E].contains d || d / 256 == 0x01154E000100 / 256 ||
  (List.range 128).any (fun k => match prm s 0x0920 k with | some v => beAt v 0 6 == d | none => false) ||
  (List.range 2).any (fun k => match prm s 0x0984 k with | some v => beAt v 0 6 == d | none => false) ||
  (List.range 4).any (fun k => match prm s 0x0995 k with
    | some v => isMcast (beAt v 0 4) && 0x01005E000000 + beAt v 0 4 % 2 ^ 23 == d
    | none => false)

/-- The destinations that the engine accepts (R563). -/
def accepts (s : State) (f : NetFrame) : Bool :=
  f.dst == ownMac s || (f.dst == 2 ^ 48 - 1 && f.kind == 5) || mcastNamed s f.dst

/-- Frames for the management cores (R565). -/
def isMgmt (kind : Nat) : Bool := [5, 6, 7, 8, 9].contains kind

/-- A port's record. -/
def portAt (s : State) (p : Nat) : Port := s.net.port.getD p default

/-- HSR forwarding (R562): a frame from the ring that this node did not send goes on to the other port; a supervision
frame of its own has returned. -/
def hsrForward (f : NetFrame) (s : State) : State :=
  if abMode s ≠ 2 ∨ 2 ≤ f.port then s
  else if f.src = ownMac s then
    updPort f.port (fun x => { x with noReturn := if f.kind = 10 then 0 else x.noReturn
                                      clearAt := if f.kind = 10 ∧ x.noReturn ≠ 0 then some (td0 s) else x.clearAt }) s
  else if f.dst = ownMac s ∨ !(portAt s (1 - f.port)).link then s
  else
    let t : TxFrame := ⟨0, BitVec.ofNat 3 (2 ^ (1 - f.port)), [f.src, f.seq.getD 0, f.kind], [], []⟩
    updPort (1 - f.port) (fun x => { x with tx := satInc 32 x.tx }) { s with net := { s.net with out := t :: s.net.out } }

/-- The duplicate table drops what has aged out (R562). -/
def ageDup (s : State) : State :=
  { s with net := { s.net with dup := s.net.dup.filter (fun e => decide (td0 s < e.2.2 + msT 400)) } }

/-- NET_FRAME_RX (R27, R562, R563, R565). What an accepted frame carries is taken by its own event. -/
def execNetFrameRx (f : NetFrame) (s : State) : Res :=
  let p := portAt s f.port
  if !running s || !portOn s f.port || !p.link then .next s
  else if !f.good then .next (updPort f.port (fun x => { x with fcs := satInc 32 x.fcs }) s)
  else
    let s := hsrForward f s
    let s := updPort f.port (fun x => { x with rxAt := td0 s
                                               clearAt := if x.loss ∧ x.lossVal / 16 = 2 ∧ x.clearAt.isNone then some (td0 s) else x.clearAt }) s
    if !accepts s f || f.frag || (abMode s == 2 && f.port < 2 && f.src == ownMac s) then .next s
    else if !f.room then .next (updPort f.port (fun x => { x with rxDrop := satInc 32 x.rxDrop }) s)
    else
      let s := updPort f.port (fun x => { x with rx := satInc 32 x.rx }) s
      let s := ageDup s
      let dup := abPair s && decide (f.port < 2) && (match f.seq with
        | some n => s.net.dup.any (fun e => e.1 == f.src && e.2.1 == n)
        | none => false)
      if dup then .next { s with net := { s.net with prpDup := satInc 32 s.net.prpDup } }
      else
        let s := match abPair s && decide (f.port < 2), f.seq with
          | true, some n => { s with net := { s.net with dup := ((f.src, n, td0 s) :: s.net.dup).take 1024 } }
          | _, _ => s
        if !isMgmt f.kind then .next s
        else
          let sec := secOf (td0 s)
          let p := portAt s f.port
          let n := if p.mgmtSec = sec then p.mgmt else 0
          if n < 4000 then .next (updPort f.port (fun x => { x with mgmt := n + 1, mgmtSec := sec }) s)
          else
            let s := { s with net := { s.net with mgmtDrop := satInc 32 s.net.mgmtDrop } }
            if p.limSec = some sec then .next s
            else .next (updPort f.port (fun x => { x with limSec := some sec }) (submit .net 0xA007 f.port s))

/-- PRP_DUP_AGEOUT (R562). -/
def execPrpDupAgeout (s : State) : Res := .next (ageDup s)

/-- PRP_SUPERVISION_TX (R562): every 2 s on both ports; on HSR a lane counts intervals until its own frame returns. -/
def execPrpSupervisionTx (s : State) : Res :=
  if !running s ∨ !abPair s ∨ td0 s < s.net.supAt + secT 2 then .next s
  else
    let s := sendFrame 7 3 [0x01154E000100, ownMac s] [] [] { s with net := { s.net with supAt := td0 s } }
    if abMode s ≠ 2 then .next s
    else .next ([0, 1].foldl (fun s p => updPort p (fun x => { x with noReturn := x.noReturn + 1 }) s) s)

/-! ARP and ICMP (R564). -/

/-- An ARP frame: 1 request, 2 reply; the address asked for or answered. -/
def arpSend (op ip : Nat) (s : State) : State :=
  match ifPorts s with
  | some mask => sendFrame 7 mask [0x0806, op, ip] [] [] s
  | none => s

/-- A cache entry is written: 64 entries, the oldest goes. -/
def arpPut (ip mac : Nat) (s : State) : State :=
  { s with net := { s.net with arp := ((ip, mac, td0 s) :: s.net.arp.filter (fun e => e.1 != ip)).take 64 } }

/-- ARP_RX: a request for the engine's address is answered; a reply updates the cache. -/
def execArpRx (request : Bool) (target ip mac : Nat) (s : State) : Res :=
  if !running s || (ifPorts s).isNone || s.cmd.restarting.isSome then .next s
  else if !request then .next (arpPut ip mac s)
  else if target = ownIp s then .next (arpSend 2 ip (arpPut ip mac s))
  else .next s

/-- The addresses that the engine's UDP streams go to: PMU streams, TW exchange partners and the gateway. -/
def udpTargets (s : State) : List Nat :=
  ((List.range 4).filterMap (fun k => (prm s 0x0995 k).map (fun v => beAt v 0 4))) ++
  ((List.range 2).filterMap (fun k => (prm s 0x09A1 k).map (fun v => beAt v 0 4))) ++
  ((prm s 0x0903 0).map (fun v => beAt v 8 4)).toList

/-- ARP_REFRESH: every 60 s of TD0 the cache's entries and the streams' destinations are asked for again. -/
def execArpRefresh (s : State) : Res :=
  if !running s ∨ (ifPorts s).isNone ∨ td0 s < s.net.arpAt + secT 60 then .next s
  else
    let s := { s with net := { s.net with arpAt := td0 s } }
    let ips := s.net.arp.map (·.1) ++ (udpTargets s).filter (fun a =>
      !isMcast a && a != 0 && !s.net.arp.any (fun e => e.1 == a))
    .next (ips.foldl (fun s a => arpSend 1 a s) s)

/-- ICMP_ECHO: an echo reply. -/
def execIcmpEcho (ip : Nat) (bytes : List Byte) (s : State) : Res :=
  if !running s || (ifPorts s).isNone || s.cmd.restarting.isSome then .next s
  else .next (sendUdp 7 ip 0 [0x0001] [] bytes s)

/-! NET_LANE_LOSS (R577). -/

/-- NET_LANE_LOSS fires on a port. -/
def laneLoss (cause port : Nat) (s : State) : State :=
  let s := fireDet 0x20 port (16 * cause + port) s
  let s := updPort port (fun x => { x with loss := true, lossVal := 16 * cause + port, clearAt := none }) s
  if cause = 3 then { s with net := { s.net with ringOpen := true } } else s

/-- LINK_LOSS: synchronisation or link has been lost for 10 ms. -/
def execLinkLoss (port : Nat) (s : State) : Res :=
  if !running s || !portOn s port || !(portAt s port).link then .next s
  else .next (laneLoss 1 port (updPort port (fun x => { x with link := false, speed := 0 }) s))

/-- PORT_LINK_UP: the port synchronises at 100 Mb/s (1) or 1 Gb/s (2). -/
def execPortLinkUp (port speed : Nat) (s : State) : Res :=
  if !running s || !portOn s port || injOn s 0x20 port then .next s
  else .next (updPort port (fun x => { x with
    link := true, speed := if pv s 0x0902 port 1 1 0 = 1 ∧ speed = 1 then 1 else 2, rxAt := td0 s, qBytes := 0, mBytes := 0, qAt := td0 s
    clearAt := if x.loss then some (td0 s) else x.clearAt }) s)

/-- LANE_NO_FRAME: nothing for 2 s on a PRP or HSR lane whose other lane receives. -/
def execLaneNoFrame (port : Nat) (s : State) : Res :=
  let a := portAt s port
  let b := portAt s (1 - port)
  if !running s ∨ !abPair s ∨ 2 ≤ port ∨ a.loss ∨ !a.link ∨ td0 s < a.rxAt + secT 2 ∨ b.rxAt + secT 2 ≤ td0 s then .next s
  else .next (laneLoss 2 port s)

/-- RING_OPEN: the node's own supervision frames have not returned for 3 intervals. -/
def execRingOpen (port : Nat) (s : State) : Res :=
  let a := portAt s port
  if !running s ∨ abMode s ≠ 2 ∨ 2 ≤ port ∨ a.loss ∨ a.noReturn < 3 then .next s
  else .next (laneLoss 3 port s)

/-- NET_LANE_RESTORED: 1 s without the condition. -/
def execNetLaneRestored (port : Nat) (s : State) : Res :=
  let p := portAt s port
  let ok := match p.clearAt with | some t => decide (t + secT 1 ≤ td0 s) | none => false
  if !running s ∨ !p.loss ∨ !ok ∨ injOn s 0x20 port then .next s
  else
    let s := clearDet 0x20 port (updPort port (fun x => { x with loss := false, clearAt := none }) s)
    let s := if p.lossVal / 16 = 3 then { s with net := { s.net with ringOpen := false } } else s
    .next (submit .net 0xA002 port s)

end Sys2Proof.Machine
end

