-- ==== Sys2Proof/Machine/Graph.lean ====
section
/-! DEFINITION. The operator array and the graph scheduler: instances, dispatch, flows, releases, deadlines, delay lists,
cancellation, budgets and jobs (R206 to R244), the wave digest (R542). -/

namespace Sys2Proof.Machine

/-! Nodes and instances. -/

/-- The nodes of the graph in service. -/
def nodes (s : State) : List Node := match graphSec s with | some g => g.nodes | none => []

/-- A node by number. -/
def nodeAt (s : State) (k : Nat) : Node := ((nodes s).find? (fun (n : Node) => n.num == k)).getD { (default : Node) with num := k }

/-- The cancel epoch of a node. -/
def epochOf (s : State) (node : Nat) : Nat := smGet s.gr.epochs node

/-- One instance changed. -/
def updInst (node : Nat) (key : Key) (f : Inst → Inst) (s : State) : State :=
  { s with gr := { s.gr with insts := updFirst (fun (i : Inst) => i.node == node && i.key == key) f s.gr.insts } }

/-- An instance has neither retired nor been released. -/
def Inst.unretired (i : Inst) : Bool := i.st != .retired && i.st != .released

/-- An instance executes on a core. -/
def Inst.onCore (i : Inst) (c : Nat) : Bool := i.st == .executing c

/-- An instance lies in a core's prefetched slot. -/
def Inst.prefOn (i : Inst) (c : Nat) : Bool := i.st == .prefetched c

/-- A band's ready list. -/
def readyOf (s : State) (b : Nat) : List (Nat × Key) := s.gr.ready.getD b []

/-- A band's ready list replaced. -/
def setReady (b : Nat) (l : List (Nat × Key)) (s : State) : State :=
  { s with gr := { s.gr with ready := putAt 4 s.gr.ready b l, readyPeak := max s.gr.readyPeak l.length } }

/-- Nodes in ascending node number. -/
def putByNum (n : Node) : List Node → List Node
  | [] => [n]
  | x :: xs => if n.num < x.num then n :: x :: xs else x :: putByNum n xs

/-- Nodes sorted by number. -/
def byNum (ns : List Node) : List Node := ns.foldl (fun l n => putByNum n l) []

/-! Cores (R206 to R209, R217, R232). -/

/-- The present affinity core of a node (R217). -/
def affinityOf (s : State) (n : Node) : Nat :=
  match smGet s.gr.affinity n.num with | 0 => n.affinity | k + 1 => k

/-- A core takes part in dispatch. -/
def coreUp (s : State) (c : Nat) : Bool := decide (c < coreCount s) && !s.gr.coreFault.getLsbD c

/-- Home contexts on a core, bytes. -/
def homeBytes (s : State) (c : Nat) : Nat :=
  (nodes s).foldl (fun a (n : Node) => if affinityOf s n = c then a + n.ctxLen else a) 0

/-- A core has room for a node's context: 192 KiB of home contexts (R209). -/
def hasRoom (s : State) (n : Node) (c : Nat) : Bool :=
  affinityOf s n == c || decide (homeBytes s c + n.ctxLen ≤ 192 * 1024)

/-- A core's prefetched slot is free. -/
def slotFree (s : State) (c : Nat) : Bool := !s.gr.insts.any (fun (i : Inst) => i.prefOn c)

/-- The context of a node moves to a core (R217). -/
def moveTo (n : Node) (c : Nat) (s : State) : State :=
  if affinityOf s n = c then s
  else { s with gr := { s.gr with affinity := smSet s.gr.affinity n.num (c + 1), migrCnt := satInc 32 s.gr.migrCnt } }

/-- A core whose executing slot is free starts the instance in its prefetched slot (R207). -/
def startCore (c : Nat) (s : State) : State :=
  if !coreUp s c || s.gr.insts.any (fun (i : Inst) => i.onCore c) then s
  else { s with gr := { s.gr with
    insts := updFirst (fun (i : Inst) => i.prefOn c) (fun i => { i with st := .executing c, execAt := td0 s }) s.gr.insts } }

/-- An instance leaves its ready list for a core: it takes its place in the in-flight window (R217, R218). -/
def assign (n : Node) (i : Inst) (c : Nat) (s : State) : State :=
  let s := setReady i.band ((readyOf s i.band).filter (· != (i.node, i.key))) s
  let s := updInst i.node i.key (fun x => { x with st := .prefetched c }) (moveTo n c s)
  let fl := s.gr.flight ++ [(i.flow, i.node, i.key)]
  startCore c { s with gr := { s.gr with flight := fl, flightPeak := max s.gr.flightPeak fl.length } }

/-- The instance displaced from a prefetched slot returns to the head of its own ready list (R217). -/
def displace (c : Nat) (s : State) : State :=
  match s.gr.insts.find? (fun (i : Inst) => i.prefOn c) with
  | none => s
  | some i =>
    let s := updInst i.node i.key (fun x => { x with st := .ready }) s
    setReady i.band ((i.node, i.key) :: readyOf s i.band)
      { s with gr := { s.gr with flight := s.gr.flight.filter (fun x => x.2 != (i.node, i.key)) } }

/-- Where an instance can be placed (R217 steps 1 to 3), leaving out some cores: a core, and whether it displaces. -/
def placeFor (s : State) (n : Node) (i : Inst) (out : List Nat) : Option (Nat × Bool) :=
  let ok (c : Nat) : Bool := n.cores.contains c && coreUp s c && !out.contains c
  let a := affinityOf s n
  if ok a && slotFree s a then some (a, false)
  else match (List.range 32).find? (fun c => ok c && slotFree s c && hasRoom s n c) with
    | some c => some (c, false)
    | none =>
      if 2 ≤ i.band then none
      else ((List.range 32).find? (fun c => ok c && hasRoom s n c &&
        s.gr.insts.any (fun (x : Inst) => x.prefOn c && decide (i.band < x.band)))).map (fun c => (c, true))

/-- The instance at a place of a ready list. -/
def instOf (s : State) (k : Nat × Key) : Option Inst := s.gr.insts.find? (fun (i : Inst) => i.node == k.1 && i.key == k.2)

/-- P3 instances in flight. -/
def p3Flight (s : State) : Nat := (s.gr.flight.filter (fun x => (nodeAt s x.2.1).band == 3)).length

/-- The window has no place for an instance of a band (R219). -/
def windowFull (s : State) (b : Nat) : Bool :=
  decide (256 ≤ s.gr.flight.length) || (b == 3 && decide (32 ≤ p3Flight s))

/-- One dispatch: the head of the highest band that can be placed; a lower band only on cores that the heads above it
could not use (R217 step 4). None when nothing can be placed. -/
def dispatchOne (s : State) : Nat → Nat → List Nat → Option State
  | 0, _, _ => none
  | fuel + 1, b, out =>
    match (readyOf s b).head? with
    | none => dispatchOne s fuel (b + 1) out
    | some k =>
      match instOf s k with
      | none => some (setReady b ((readyOf s b).drop 1) s)
      | some i =>
        let n := nodeAt s i.node
        if windowFull s b then dispatchOne s fuel (b + 1) (out ++ n.cores)
        else match placeFor s n i out with
          | some (c, d) => some (assign n i c (if d then displace c s else s))
          | none => dispatchOne s fuel (b + 1) (out ++ n.cores)

/-- A P0 to P2 instance begins or ends to wait for the window (R219). -/
def countWait (s : State) : State :=
  if [0, 1, 2].any (fun b => !(readyOf s b).isEmpty && windowFull s b) then
    (if s.gr.waitAt.isSome then s else { s with gr := { s.gr with waitAt := some (td0 s) } })
  else { s with gr := { s.gr with winWait := winWaited s, waitAt := none } }

/-- Dispatch until nothing more can be placed. -/
def dispatchAll : Nat → State → State
  | 0, s => s
  | fuel + 1, s => match dispatchOne s 4 0 [] with | some s' => dispatchAll fuel s' | none => countWait s

/-! Retirement and flow release (R212, R216, R218, R225 to R227). -/

/-- What a measurement node's outputs stand for in its consumers: its token channels, or its tracker (16 + terminal). -/
def sourceKeys (n : Node) : List Nat :=
  match n.op with
  | .tracker => [16 + n.terminal]
  | .phasor => n.chans | .sequence => n.chans | .impedance => n.chans | .power => n.chans | .energy => n.chans
  | .harmonic => n.chans
  | _ => []

/-- An edge's destination instance has one input fewer to wait for; a void one is noted, and so is the validity that the
source's outputs impose (R227, R231). -/
def arrive (i : Inst) (void : Bool) (s : State) (e : Edge) : State :=
  let inV := if i.mark = 0 then [] else (sourceKeys (nodeAt s i.node)).map (fun k => (k, i.mark))
  updInst e.dst i.key (fun x =>
    if x.st == .waiting then
      { x with count := x.count - 1, voidMask := if void then x.voidMask ||| 2 ^ e.dstPort else x.voidMask
               inV := inV ++ x.inV }
    else x) s

/-- The next instance of a stateful node has one dependence fewer (R212). -/
def nextStateful (n : Node) (key : Key) (s : State) : State :=
  if !n.stateful then s
  else match (s.gr.insts.find? (fun (i : Inst) => i.node == n.num && i.key != key && i.st == .waiting)) with
    | some i => updInst i.node i.key (fun x => { x with count := x.count - 1 }) s
    | none => s

/-- An instance retires void without executing (R226, R227); one that was dispatched keeps its place in the window until
its release. -/
def retireVoid (i : Inst) (s : State) : State :=
  let s := updInst i.node i.key (fun x => { x with st := .retired, void := true, outs := [] }) s
  let s := { s with gr := { s.gr with
    voidCnt := satInc 32 s.gr.voidCnt, ready := s.gr.ready.map (fun l => l.filter (· != (i.node, i.key))) } }
  nextStateful (nodeAt s i.node) i.key s

/-- Ops that read tokens themselves run even when every other input is void: the headbox wave is an input of theirs that is
present (R211). -/
def readsTokens : OpType → Bool
  | .tracker => true | .phasor => true | .incDistance => true | .breakerFailure => true | .svInterp => true
  | .harmonic => true | .harmonic63 => true | .pmu => true | _ => false

/-- Every input of an instance is void. -/
def allVoid (s : State) (i : Inst) : Bool :=
  let n := nodeAt s i.node
  let ports := match graphSec s with
    | some g => (g.edges.filter (fun (e : Edge) => e.dst == i.node)).map (fun (e : Edge) => e.dstPort)
    | none => []
  !readsTokens n.op && !ports.isEmpty && ports.all (fun p => i.voidMask.testBit p)

/-- An instance is stale or has been cancelled (R225, R226). -/
def stale (s : State) (i : Inst) : Bool := i.void || i.epoch != epochOf s i.node

/-- A node that no remaining core with room can run (R232). -/
def coreless (s : State) (n : Node) : Bool :=
  !(nodes s).isEmpty && !n.cores.any (fun c => coreUp s c && hasRoom s n c)

/-- The outputs that a node last released with a value; before the first, 0 and invalid on every port. -/
def prevOuts (s : State) (n : Node) : List OutVal :=
  match s.gr.prev.find? (fun p => p.1 == n.num) with
  | some p => p.2
  | none => (List.range n.outs.length).map (fun k => ⟨k, 0, 1#8⟩)

/-- A node's outputs as an instance without a result leaves them: invalid, with their last values (R231, R232). -/
def lastOuts (s : State) (n : Node) : List OutVal :=
  (prevOuts s n).map (fun (o : OutVal) => { o with qual := withV o.qual 1 })

/-- The instances whose counters have reached 0, in ascending node number. -/
def putNode (i : Inst) : List Inst → List Inst
  | [] => [i]
  | x :: xs => if i.node < x.node then i :: x :: xs else x :: putNode i xs

/-- An instance whose counter reached 0: void when stale or when every input is void, else ready (R216, R226, R227). It
goes on waiting while its ready list holds 1 024 entries (R210; DESIGN CHOICE, log entry 66: admission keeps that from
happening). -/
def becomeReady (s : State) (i : Inst) : State :=
  if stale s i || allVoid s i then retireVoid i s
  else if coreless s (nodeAt s i.node) then
    nextStateful (nodeAt s i.node) i.key
      (updInst i.node i.key (fun x => { x with st := .retired, outs := lastOuts s (nodeAt s i.node), mark := 1 }) s)
  else if 1024 ≤ (readyOf s i.band).length then s
  else setReady i.band (readyOf s i.band ++ [(i.node, i.key)]) (updInst i.node i.key (fun x => { x with st := .ready }) s)

/-- Instances with nothing left to wait for become ready together, in ascending node number. -/
def readyStep (s : State) : State :=
  let hits := s.gr.insts.filter (fun (i : Inst) => i.st == .waiting && i.count == 0)
  (hits.foldl (fun l i => putNode i l) []).foldl becomeReady s

/-- An instance holds a place in its flow: it has been dispatched or has retired (R218, R227). -/
def Inst.placed (i : Inst) : Bool :=
  match i.st with | .prefetched _ => true | .executing _ => true | .retired => true | _ => false

/-- The first instance in every flow, in the order of creation, if it has retired (R218). -/
def flowHeads (s : State) : List Inst :=
  (List.range 64).filterMap (fun f =>
    match s.gr.insts.find? (fun (i : Inst) => i.flow == f && i.placed) with
    | some i => if i.st == .retired then some i else none
    | none => none)

/-- One instance is released in its flow: its consumers' counters decrement (R216, R218). -/
def releaseFlow (s : State) (i : Inst) : State :=
  let void := stale s i
  let s := updInst i.node i.key (fun x => { x with st := .released, void := void, outs := if void then [] else x.outs }) s
  let s := { s with gr := { s.gr with
    prev := if void then s.gr.prev else (i.node, i.outs) :: s.gr.prev.filter (fun p => p.1 != i.node)
    flight := s.gr.flight.filter (fun x => x.2 != (i.node, i.key))
    p2Done := if i.band = 2 then s.gr.p2Done ++ [(i.node, i.key)] else s.gr.p2Done } }
  match graphSec s with
  | none => s
  | some g => (g.edges.filter (fun (e : Edge) => e.src == i.node)).foldl (arrive i void) s

/-- Releases and readiness until nothing moves. -/
def settle : Nat → State → State
  | 0, s => s
  | fuel + 1, s =>
    let s := readyStep s
    match flowHeads s with
    | [] => s
    | hs => settle fuel (hs.foldl releaseFlow s)

/-! Outputs (R214, R243, R244, R542). -/

/-- One output of a released instance in the release of wave `rel`, computed from wave `wave` (R214): the readable value,
the P space, the recorder's derived channels. -/
def putOut (n : Node) (rel wave t1 : Nat) (s : State) (o : OutVal) : State :=
  let (id, unit, dest) := n.outs.getD o.port (0, 0, PDest.none)
  let l : LastOut := { node := n.num, port := o.port, id := id, unit := unit, val := o.val, qual := o.qual, wave := wave, rel := rel }
  let s := { s with gr := { s.gr with
    outs := l :: s.gr.outs.filter (fun (x : LastOut) => !(x.node == n.num && x.port == o.port)) } }
  let s := match dest with
    | .bit a => { s with gr := { s.gr with
        pBitB := smSetBit s.gr.pBitB a (o.val % 2 == 1), pBitQ := smSet s.gr.pBitQ a (o.qual.toNat + 1) } }
    | .word a => { s with gr := { s.gr with
        pWordB := smSet s.gr.pWordB a (o.val % 2 ^ 32), pWordQ := smSet s.gr.pWordQ a (o.qual.toNat + 1) } }
    | .none => s
  recDerived id o.val o.qual wave t1 s

/-- The P space copies swap (R28): bits whose state or validity changed reach the recorder, rising ones the event tasks of type 2. -/
def swapP (t1 : Nat) (s : State) : State :=
  let old := s.gr.pBitF
  let bits := match graphSec s with | some g => g.graphBits | none => []
  let s := { s with gr := { s.gr with pBitF := s.gr.pBitB, pWordF := s.gr.pWordB } }
  bits.foldl (fun s a =>
    let b := smBit s.gr.pBitF a
    let q := smGet s.gr.pBitQ a
    let ok := decide (q ≠ 0) && !isInv (BitVec.ofNat 8 (q - 1))
    if smBit old a = b ∧ ok = (smGet s.dr.binOk (2 * 2 ^ 24 + a) == 1) then s
    else
      let s := binSet 2 a b ok false false t1 s
      if b && !smBit old a then raiseTrig 2 a 1 t1 (td0 s) s else s) s

/-- CRC-64 over one bit, polynomial 0x42F0_E1EB_A9EA_3693 (R542). -/
def crc64Bit (c : BitVec 64) : BitVec 64 := if c.getLsbD 63 then (c <<< 1) ^^^ 0x42F0E1EBA9EA3693#64 else c <<< 1

/-- CRC-64, initial value 0, no reflection, no final XOR (R542). -/
def crc64 (bs : List Byte) : BitVec 64 :=
  bs.foldl (fun c b => (List.range 8).foldl (fun a _ => crc64Bit a) (c ^^^ (BitVec.setWidth 64 b <<< (56 : Nat)))) 0#64

/-- Outputs as the digest takes them: value and quality byte. -/
def outBytes (os : List OutVal) : List Byte := os.flatMap (fun (o : OutVal) => leBytes 4 o.val ++ [o.qual])

/-- The digest of a wave release (R542); in TWIN it goes to the partner and waits for the comparison. -/
def takeDigest (wave : Nat) (outs : List OutVal) (s : State) : State :=
  let item (k : Nat) : List Byte := (s.gr.digIn.filter (fun p => p.1 == k)).flatMap (·.2)
  let rows := leBytes 6 (maskOf 48 (fun k => s.gr.rows.any (fun (r : Row) => r.num == k && r.cmd)))
  let d := (crc64 (leBytes 4 wave ++ item 2 ++ outBytes outs ++ rows ++ item 5 ++ item 6 ++ item 7)).toNat
  let s := { s with gr := { s.gr with digest := d, digIn := [] } }
  if s.pr.st == .twin then
    let sent := if injOn s 0x1E 0 && !s.pr.active then 2 ^ 64 - 1 - d else d
    digestsMeet wave (sendCell 5 [wave, sent] { s with pr := { s.pr with digests := s.pr.digests ++ [(wave, sent)] } })
  else s

/-- The frames that a released instance causes beyond the P space: PMU data frames and SV samples (R214, R258). -/
def publishOuts (n : Node) (i : Inst) (s : State) : State :=
  if i.void then s
  else match n.op with
    | .pmu => publishPmu n.variant i i.outs s
    | .svInterp => publishSv n.variant i i.outs s
    | _ => s

/-- TD1 instant of an instance's sample, without TB_SG_OFFSET. -/
def sampleT1 (i : Inst) : Nat := secT i.at_.1 + i.at_.2 * 62500 * 2 ^ 40

/-- The TD1 instant that an instance's outputs are tagged with (R242): the reporting instant, or its wave's sample. -/
def outT1 (s : State) (i : Inst) : Nat := if (nodeAt s i.node).instant then i.instant else sampleT1 i

/-- The outputs of some released instances leave in one release (R21): readable values and P space, then the trip
matrix, GOOSE, PMU and SV. `held`: the release was forced by an overrun (R234). -/
def releaseOuts (wave t1 : Nat) (ref : Inst) (is : List Inst) (held : Bool) (s : State) : State :=
  let late (i : Inst) (o : OutVal) : OutVal :=
    if s.gr.lateP2.contains (i.node, i.key) then { o with qual := atLeastQ o.qual } else o
  let s := is.foldl (fun s i => (i.outs.map (late i)).foldl (putOut (nodeAt s i.node) wave i.wave (outT1 s i)) s) s
  let s := swapP t1 s
  let s := if held then tripHeld s else tripRelease ref t1 s
  let s := publishAll (td1 s) s
  is.foldl (fun s i => publishOuts (nodeAt s i.node) i s) s

/-- Inputs of the trip matrix at a release of no instance: the last wave's DI image. -/
def lastInst (s : State) : Inst :=
  { (default : Inst) with di := s.acq.di.toNat, diValid := s.acq.diValid.toNat, tok := s.acq.waves, at_ := s.acq.waveAt }

/-- The wave release of a wave (R214): its P1 outputs and the P2 outputs that have retired. -/
def releaseWave (wave : Nat) (held : Bool) (s : State) : State :=
  let p1 := s.gr.insts.filter (fun (i : Inst) => i.band == 1 && i.key == .wave wave)
  let p2 := s.gr.insts.filter (fun (i : Inst) => s.gr.p2Done.contains (i.node, i.key))
  let ref := (p1.head?).getD (lastInst s)
  let done := (p1.filter (fun (i : Inst) => i.st == .released)) ++ p2
  let gone := done.map (fun (i : Inst) => (i.node, i.key))
  let s := releaseOuts wave (sampleT1 ref) ref done held s
  let s := takeDigest wave (done.flatMap (fun (i : Inst) => i.outs)) s
  { s with gr := { s.gr with
    insts := s.gr.insts.filter (fun (i : Inst) => !gone.contains (i.node, i.key))
    p2Done := [], relWave := some wave, openWaves := s.gr.openWaves.filter (fun w => w.1 != wave)
    lateP2 := s.gr.lateP2.filter (fun k => !gone.contains k) } }

/-- Every P1 instance of a wave has been released in its flow. -/
def waveDone (s : State) (wave : Nat) : Bool :=
  s.gr.insts.all (fun (i : Inst) => i.band != 1 || i.key != .wave wave || i.st == .released)

/-- Wave releases that are possible take place, in wave order (R21). -/
def releaseWaves : Nat → State → State
  | 0, s => s
  | fuel + 1, s => match s.gr.openWaves.head? with
    | none => s
    | some (w, _) => if waveDone s w then releaseWaves fuel (releaseWave w false s) else s

/-- A descriptor release (R214, R294): the P0 outputs reach the P space and the trip matrix at once. Instances that have
not been released in their flow stay, to leave it void. -/
def releaseDesc (seq : Nat) (s : State) : State :=
  let is := s.gr.insts.filter (fun (i : Inst) => i.key == .desc seq)
  let t1 := match is.head? with | some i => (match i.desc with | some d => d.time | none => td1 s) | none => td1 s
  let s := releaseOuts s.acq.wave t1 (lastInst s) (is.filter (fun (i : Inst) => i.st == .released)) false s
  let s := digNote 2 (leBytes 4 seq ++ outBytes (is.flatMap (fun (i : Inst) => i.outs))) s
  { s with gr := { s.gr with
    insts := s.gr.insts.filter (fun (i : Inst) => i.key != .desc seq || i.st != .released)
    openDescs := s.gr.openDescs.filter (fun d => d.1 != seq) } }

/-- Descriptor releases that are possible take place; they go before wave releases (R214). -/
def releaseDescs : Nat → State → State
  | 0, s => s
  | fuel + 1, s => match s.gr.openDescs.find? (fun d => s.gr.insts.all (fun (i : Inst) => i.key != .desc d.1 || i.st == .released)) with
    | none => s
    | some (q, _) => releaseDescs fuel (releaseDesc q s)

/-- Released instances that no open wave, descriptor, release or job waits for leave. -/
def sweep (s : State) : State :=
  { s with gr := { s.gr with insts := s.gr.insts.filter (fun (i : Inst) =>
      i.st != .released || s.gr.p2Done.contains (i.node, i.key) ||
      (match i.key with
        | .wave w => i.band == 1 && s.gr.openWaves.any (fun x => x.1 == w)
        | .desc q => s.gr.openDescs.any (fun x => x.1 == q)
        | .job id => s.gr.jobs.any (fun (j : Job) => j.id == id))) } }

/-! Jobs (R237, R238, R244). -/

/-- Credit withheld after a BUSY JOB_SUBMIT returns when an entry frees (R237). -/
def grantJobs (s : State) : State :=
  s.gr.jobOwed.foldl (fun s num =>
    match s.cmd.sessions.find? (fun x => x.num == num) with
    | none => s
    | some x =>
      if x.owedNormal = 0 then s
      else
        let s := unsolicited x 0x0100 x.owedNormal [] s
        updSession num (fun y => { y with normal := y.normal + y.owedNormal, owedNormal := 0 }) s)
    { s with gr := { s.gr with jobOwed := [] } }

/-- A job's entry frees: its result is answered, withheld credit returns, and stalled engine sources join the queue. -/
def endJob (j : Job) (s : State) : State :=
  let s := { s with gr := { s.gr with
    jobs := s.gr.jobs.filter (fun (x : Job) => x.id != j.id), jobDone := wrapInc 16 s.gr.jobDone
    insts := s.gr.insts.filter (fun (i : Inst) => i.key != .job j.id) } }
  let s := match j.req with
    | some r => respond r 0x0042 .ok false (j.result.take 4096) s
    | none => if j.set < 65536 then { s with gr := { s.gr with lastWin := some j } } else s
  stalledJoin (grantJobs s)

/-- Jobs whose last sink has been released end. -/
def endJobs (s : State) : State :=
  (s.gr.jobs.filter (fun (j : Job) => j.started && decide (j.set < 65536) &&
    s.gr.insts.all (fun (i : Inst) => i.key != .job j.id || i.st == .released))).foldl (fun s j =>
      let bs := (s.gr.insts.filter (fun (i : Inst) => i.key == .job j.id)).flatMap (fun (i : Inst) => i.bytes)
      endJob { j with result := if j.req.isSome then bs else leBytes 4 j.skips ++ bs } s) s

/-- The readout job's value records (R244): identifiers of the job's input, at most 256. -/
def readoutBytes (s : State) (input : List Byte) : List Byte :=
  let ids := (List.range (min 256 (input.length / 4))).map (fun k => leAt input (4 * k) 4)
  ids.flatMap (fun id =>
    match s.gr.outs.find? (fun (o : LastOut) => o.id == id) with
    | some o => leBytes 4 id ++ leBytes 4 o.rel ++ leBytes 4 o.val ++ [o.qual] ++ leBytes 1 o.unit ++ zeros 2
    | none => leBytes 4 id ++ zeros 8 ++ [1#8] ++ zeros 3)

/-! What follows every scheduler event. -/

/-- Releases, readiness, releases to consumers, job ends and dispatch. -/
def pump (s : State) : State :=
  let n := s.gr.insts.length
  let s := settle (2 * n + 2) s
  let s := releaseDescs (s.gr.openDescs.length) s
  let s := releaseWaves (s.gr.openWaves.length) s
  dispatchAll (n + 4) (endJobs (sweep s))

/-! Load (R241). -/

/-- Cycles measured on an instance (R230, R241). -/
def account (n : Node) (cycles : Nat) (s : State) : State :=
  let s := rollLoad s
  let s := { s with gr := { s.gr with
    loadAcc := putAt 4 s.gr.loadAcc n.band (s.gr.loadAcc.getD n.band 0 + cycles)
    nodeMax := smSet s.gr.nodeMax n.num (max (smGet s.gr.nodeMax n.num) (min 65535 cycles)) } }
  if cycles ≤ n.declared then s
  else if s.gr.breached.contains n.num then { s with gr := { s.gr with breachCnt := satInc 32 s.gr.breachCnt } }
  else submitParts .graph 0x3003 n.num [padTo 48 (leBytes 4 n.declared ++ leBytes 4 cycles)]
    { s with gr := { s.gr with breached := n.num :: s.gr.breached, breachCnt := satInc 32 s.gr.breachCnt } }

/-! Retirement (R207, R216, R231, R232). -/

/-- An operation outside the model's arithmetic gives its outputs as the array computed them. -/
def givenOuts (vals : List (Nat × Nat)) : List OutVal :=
  vals.zipIdx.map (fun (v, p) => ⟨p, v.1, BitVec.ofNat 8 v.2⟩)

/-- The op is a measurement of R242 that computes from outputs of others. -/
def isMeasurement : OpType → Bool
  | .phasor => true | .sequence => true | .impedance => true | .power => true | .energy => true | .harmonic => true | _ => false

/-- The value records of a node's outputs, in port order (R244); the form of a harmonic job's result is the model's (DESIGN
CHOICE, log entry 83). -/
def recordsOf (s : State) (n : Node) (outs : List OutVal) : List Byte :=
  outs.flatMap (fun (o : OutVal) =>
    let (id, unit, _) := n.outs.getD o.port (0, 10, PDest.none)
    leBytes 4 id ++ leBytes 4 s.acq.wave ++ leBytes 4 o.val ++ [o.qual] ++ leBytes 1 unit ++ zeros 2)

/-- What a node's op computes for an instance: its outputs, a job's bytes, and the state with its context written. A void
input leaves a measurement's outputs unchanged (R227, R243). -/
def runOp (n : Node) (i : Inst) (vals : List (Nat × Nat)) (bytes : List Byte) (s : State) : List OutVal × List Byte × State :=
  if isMeasurement n.op && i.voidMask != 0 then (prevOuts s n, [], s)
  else match n.op with
  | .tracker => let (o, s) := opTracker s i n; (o, [], s)
  | .phasor => (opPhasor s i n, [], s)
  | .sequence => (opSequence s i n, [], s)
  | .impedance => (opImpedance s i n, [], s)
  | .power => (opPower s i n, [], s)
  | .energy => let (o, s) := opEnergy s i n; (o, [], s)
  | .harmonic => (opHarmonic s i n, [], s)
  | .readout =>
    let input := match i.key with
      | .job id => match s.gr.jobs.find? (fun (j : Job) => j.id == id) with | some j => j.input | none => []
      | _ => []
    ([], readoutBytes s input, s)
  | .tripAssembly => ([], [], s)
  | .pmu => (pmuOuts s i n.variant vals, [], s)
  | .harmonic63 => (opHarmonic63 s i n, recordsOf s n (opHarmonic63 s i n), s)
  | .svInterp => (svOuts s i n.variant, [], s)
  | .closing => (givenOuts vals, [], s)
  | .job => (givenOuts vals, bytes, s)
  | .other => (givenOuts vals, bytes, s)
  | _ => let (o, s) := opElement s i n; (o, [], s)

/-- A context moved from a removed core to the next allowed one with room, upwards from it (DEDUCED, log entry 67), is loaded
afresh from the graph section (R232). -/
def reload (c : Nat) (s : State) (n : Node) : State :=
  match ((List.range 32).map (fun k => (c + 1 + k) % 32)).find? (fun k => n.cores.contains k && coreUp s k && hasRoom s n k) with
  | some k => { s with gr := { s.gr with
      affinity := smSet s.gr.affinity n.num (k + 1), elems := s.gr.elems.filter (fun (e : Elem) => e.node != n.num)
      energy := s.gr.energy.filter (fun (e : Energy) => e.node != n.num) } }
  | none => s

/-- Ready instances of nodes that no core can run wait no longer: they retire invalid at the next step (R232). -/
def recheck (s : State) : State :=
  let hits := s.gr.insts.filter (fun (i : Inst) => i.st == .ready && coreless s (nodeAt s i.node))
  hits.foldl (fun s i => setReady i.band ((readyOf s i.band).filter (· != (i.node, i.key)))
    (updInst i.node i.key (fun x => { x with st := .waiting, count := 0 }) s)) s

/-- A core is removed until the next start (R232): the instance in its prefetched slot returns to its ready list, contexts
move, CORE_REMOVED, and CAPACITY_LOW if the declared load passes 60 % of the rest. -/
def removeCore (c : Nat) (s : State) : State :=
  if s.gr.coreFault.getLsbD c then s
  else
    let moved := (nodes s).filter (fun (n : Node) => affinityOf s n == c)
    let s := displace c s
    let s := submit .graph 0x3005 c { s with gr := { s.gr with coreFault := setB s.gr.coreFault c true } }
    let s := recheck (moved.foldl (reload c) s)
    let left := ((List.range 32).filter (coreUp s)).length
    let load := match budgetSec s with | some b => b.d0 * b.p0Cycles + b.p1Cycles | none => 0
    if 25000 * left * 60 < load * 100 then submit .graph 0x3006 left s else s

/-- OP_FAULT on a node (R232). -/
def opFault (cause node : Nat) (s : State) : State :=
  let s := fireDetOnce 0x08 (65536 * cause + node) s
  if cause = 3 then { s with gr := { s.gr with fault3At := some (td0 s) } } else s

/-- An instance retires with its outputs and the validity that they impose on its consumers. -/
def retireWith (i : Inst) (outs : List OutVal) (bytes : List Byte) (mark : Nat) (s : State) : State :=
  let s := updInst i.node i.key (fun x => { x with st := .retired, outs := outs, bytes := bytes, mark := mark }) s
  nextStateful (nodeAt s i.node) i.key s

/-- An aborted instance (R231): its context as it was, its delay entries with it, its outputs invalid. -/
def abort (i : Inst) (s : State) : State :=
  retireWith i (lastOuts s (nodeAt s i.node)) [] 1 (opFault 1 i.node s)

/-- An instance's op runs to completion: outputs are questionable while a change of settings fills the windows (R256). -/
def complete (n : Node) (i : Inst) (vals : List (Nat × Nat)) (bytes : List Byte) (s : State) : State :=
  let (outs, bs, s) := runOp n i vals bytes s
  let raised := isMeasurement n.op && filling s i n
  retireWith i (if raised then outs.map (fun (o : OutVal) => { o with qual := atLeastQ o.qual }) else outs) bs
    (if raised then 3 else 0) s

/-- OP_RETIRE: the instance that executes on a core retires after `cycles`. `fault` is 0, a cause of R232 (2 or 3), or 4
for cause 3 with a failing test of the core. `vals` and `bytes` are the outputs of ops whose arithmetic the spec leaves
to a standard or to Jibel. -/
def execOpRetire (core cycles fault : Nat) (vals : List (Nat × Nat)) (bytes : List Byte) (s : State) : Res :=
  match s.gr.insts.find? (fun (i : Inst) => i.onCore core) with
  | none => .next s
  | some i =>
    let n := nodeAt s i.node
    let s := account n cycles s
    let fault := if injOn s 0x09 core && fault == 0 then 3 else fault
    let s := if injOn s 0x08 (n.num % 256) then abort i s
      else if fault = 0 then complete n i vals bytes s
      else
        let cause := if fault = 2 then 2 else 3
        let s := if cause = 3 then fireDetFree 0x09 s else s
        let s := retireWith i (lastOuts s n) [] 1 (opFault cause n.num s)
        if fault = 4 then removeCore core s else s
    .next (pump (startCore core s))

/-- The abort limit of a node in cycles (R231). -/
def abortLimit (n : Node) : Nat := max (4 * n.declared) (n.declared + 10000)

/-- OP_CYCLE_LIMIT: an instance still executes at its abort limit (2.5 ns a cycle). -/
def execOpCycleLimit (core : Nat) (s : State) : Res :=
  match s.gr.insts.find? (fun (i : Inst) => i.onCore core) with
  | none => .next s
  | some i =>
    let n := nodeAt s i.node
    if !due s i.execAt (nsT (abortLimit n * 5 / 2)) then .next s
    else .next (pump (startCore core (abort i (account n (abortLimit n) s))))

/-! Cancellation (R225, R226, R234). -/

/-- One instance is cancelled: it retires void at once unless it executes or has retired, and is void at release. -/
def cancelInst (s : State) (i : Inst) : State :=
  if i.st == .released then s
  else
    let s := { s with gr := { s.gr with cancelCnt := satInc 32 s.gr.cancelCnt } }
    match i.st with
    | .ready => retireVoid i s
    | .prefetched _ => retireVoid i s
    | _ => updInst i.node i.key (fun x => { x with void := true }) s

/-- The cancel epochs of some nodes rise: their delay entries and the tokens that wait for them are stale (R225). -/
def raiseEpochs (ks : List Nat) (s : State) : State :=
  let s := ks.foldl (fun s k => { s with gr := { s.gr with epochs := smSet s.gr.epochs k (wrapInc 8 (epochOf s k)) } }) s
  { s with
    gr := { s.gr with tokens := s.gr.tokens.filter (fun t => !ks.contains t.1) }
    pr := { s.pr with dlyOwn := s.pr.dlyOwn.filter (fun t => !ks.contains t.1)
                      dlyGiven := s.pr.dlyGiven.filter (fun t => !ks.contains t.1) } }

/-- A cancellation of a set of nodes at a wave boundary: their epochs rise, their instances and delay entries are stale
(R225, R226). -/
def cancelNodes (ks : List Nat) (s : State) : State :=
  let hits := s.gr.insts.filter (fun (i : Inst) => ks.contains i.node)
  hits.foldl cancelInst (raiseEpochs ks s)

/-- A missed deadline cancels the instances of some nodes for one wave or descriptor (R225, R234): the epochs rise, and
delay entries with them; instances created for others carry the new epoch, so that they run (DEDUCED from the worked case
of R236, log entry 68). -/
def cancelMissed (key : Key) (ks : List Nat) (s : State) : State :=
  let hits := s.gr.insts.filter (fun (i : Inst) => i.key == key && ks.contains i.node)
  let was := s
  let s := raiseEpochs ks s
  let s := { s with gr := { s.gr with insts := s.gr.insts.map (fun (i : Inst) =>
    if ks.contains i.node && i.key != key && i.epoch == epochOf was i.node then { i with epoch := epochOf s i.node } else i) } }
  hits.foldl cancelInst s

/-! Creation (R211, R212, R222, R223, R228). -/

/-- The timer tokens that wait for a node and are not stale: tag and tick. -/
def tokensFor (s : State) (node : Nat) : List (Nat × Nat) :=
  (s.gr.tokens.filter (fun t => t.1 == node && t.2.2.2 == epochOf s node)).map (fun t => (t.2.1, t.2.2.1))

/-- The in-degree of a node (R211): inputs from instances created with it. An edge from a node that has no instance for this
wave, descriptor or job brings none (DEDUCED, log entry 69). -/
def awaited (s : State) (among : List Nat) (node : Nat) : Nat :=
  match graphSec s with
  | some g => (g.edges.filter (fun (e : Edge) => e.dst == node && among.contains e.src)).length
  | none => 0

/-- One instance is created; a stateful node's also awaits the retirement of the instance before it. `wave` is the wave
that its outputs are tagged with. -/
def createInst (key : Key) (among : List Nat) (desc : Option Desc) (wave instant : Nat) (n : Node) (s : State) : State :=
  let prior := n.stateful && s.gr.insts.any (fun (x : Inst) => x.node == n.num && x.unretired)
  let i : Inst := Inst.seen { (default : Inst) with
    node := n.num, key := key, flow := n.flow, band := n.band, count := awaited s among n.num + b2n prior
    epoch := epochOf s n.num, group := s.img.group, st := .waiting, born := td0 s, born1 := td1 s, step := s.tu.d1.epoch, tok := s.acq.waves
    wave := wave, at_ := s.acq.waveAt, di := s.acq.di.toNat, diValid := s.acq.diValid.toNat, instant := instant, desc := desc
    timers := tokensFor s n.num } s
  { s with gr := { s.gr with insts := s.gr.insts ++ [i], tokens := s.gr.tokens.filter (fun t => t.1 != n.num) } }

/-- Instances of several nodes are created, in ascending node number. -/
def createAll (key : Key) (ns : List Node) (desc : Option Desc) (wave : Nat) (instant : Node → Nat) (s : State) : State :=
  let among := ns.map (fun (n : Node) => n.num)
  (byNum ns).foldl (fun s n => createInst key among desc wave (instant n) n s) s

/-- Element reset requests of the logic engine's P bits: 0 on the last wave and 1 on this (R225, R272). -/
def noteResets (old : SMap) (s : State) : State :=
  let rs := match graphSec s with | some g => g.resets | none => []
  rs.foldl (fun s (a, node) =>
    if smBit s.gr.lBit a && !smBit old a then putElem { elemOf s (nodeAt s node) with resetReq := true } s else s) s

/-- Reset requests act on elements whose pickup state is clear (R272). -/
def actResets (s : State) : State :=
  (s.gr.elems.filter (fun (e : Elem) => e.resetReq && !e.pickup)).foldl (fun s e =>
    putElem (actReset e) (cancelNodes [e.node] s)) s

/-- The reporting instant of an instant node whose window the present wave completes (R211): a sample of a published
stream, or an instant of a PMU stream. -/
def instantOf (s : State) (n : Node) : Option Nat :=
  if !n.instant then none else if n.op = .svInterp then svInstant s n.variant else pmuInstant s n.variant

/-- Entry sets of the harmonic analyses that the image starts for every 200 ms window (R254). -/
def windowSets (s : State) : List Nat :=
  ((nodes s).filterMap (fun (n : Node) => if n.op = .harmonic63 ∧ n.variant = 1 then n.jobEntry else none)).eraseDups

/-- The last wave of a 200 ms window (R192) starts the harmonic analyses of the window; one that finds no entry is skipped
and counted, never queued late (R254). -/
def harmonicWindows (wave : Nat) (s : State) : State :=
  if s.acq.waveAt.2 % 3200 ≠ 3199 then s
  else (windowSets s).foldl (fun s set =>
    if engineEntry s then
      let s := putJob set none [] ((wave + 2 ^ 32 - 3199) % 2 ^ 32) (smGet s.gr.winSkip set) s
      { s with gr := { s.gr with winSkip := smSet s.gr.winSkip set 0 } }
    else { s with gr := { s.gr with winSkip := smSet s.gr.winSkip set (smGet s.gr.winSkip set + 1) } }) s

/-- The graph at the headbox release of a wave: logic writes to the P space take effect, resets act, and the wave's
instances are created. -/
def graphWave (wave : Nat) (s : State) : State :=
  if !s.gr.running then s
  else
    let oldL := s.gr.lBit
    let s := { s with gr := { s.gr with lBit := s.gr.lBitN, lWord := s.gr.lWordN, d0Count := 0 } }
    let s := actResets (noteResets oldL s)
    let ns := (nodes s).filter (fun (n : Node) =>
      n.band == 1 || (n.band == 2 && (!n.instant || (instantOf s n).isSome)))
    let inst (n : Node) : Nat := (instantOf s n).getD 0
    let s := harmonicWindows wave (useLaunched (createAll (.wave wave) ns none wave inst s))
    pump { s with gr := { s.gr with openWaves := s.gr.openWaves ++ [(wave, td1 s)] } }

/-- A descriptor in the graph (R211, R215, R323): D0 bounds arrivals, control descriptors are never shed. -/
def graphDesc (d : Desc) (s : State) : State :=
  let lim := match budgetSec s with | some b => b.d0 | none => 0
  let ns := (nodes s).filter (fun (n : Node) => n.band == 0)
  if !s.gr.running then s
  else if d.kind = 0 ∧ lim ≤ s.gr.d0Count then
    let s := { s with gr := { s.gr with p0Shed := satInc 32 s.gr.p0Shed, shedSince := s.gr.shedSince + 1 } }
    if s.gr.shedSec = some (secOf (td0 s)) then s
    else submit .graph 0x3004 s.gr.shedSince { s with gr := { s.gr with shedSince := 0, shedSec := some (secOf (td0 s)) } }
  else
    let s := { s with gr := { s.gr with d0Count := if d.kind = 0 then s.gr.d0Count + 1 else s.gr.d0Count
                                        openDescs := if ns.isEmpty then s.gr.openDescs else s.gr.openDescs ++ [(d.seq, td1 s)] } }
    pump (createAll (.desc d.seq) ns (some d) s.acq.wave (fun _ => 0) s)

/-- A descriptor as agreement values, and back (R324). -/
def descVals (d : Desc) : List Nat :=
  [d.seq, d.term, d.mode, d.quantity, d.kind, unsgn 8 d.pol, d.conf, d.time, d.tqual, d.flags, d.rise, unsgn 64 d.peak,
   unsgn 16 d.vref, d.floor]

/-- The descriptor that agreement values hold. -/
def descOf (v : List Nat) : Desc :=
  let g (k : Nat) : Nat := v.getD k 0
  { seq := g 0, term := g 1, mode := g 2, quantity := g 3, kind := g 4, pol := sgn 8 (g 5), conf := g 6, time := g 7
    tqual := g 8, flags := g 9, rise := g 10, peak := sgn 64 (g 11), vref := sgn 16 (g 12), floor := g 13 }

/-! Deadlines (R213, R233 to R236). -/

/-- GRAPH_OVERRUN (R234 to R236): counted, the snapshot names the oldest unreleased node, HEALTHY may be withheld, the
partner is told. -/
def overrun (band num : Nat) (oldest : Nat) (s : State) : State :=
  let s := fireDetOnceP 0x07 (65536 * band + num % 65536) [padTo 48 (leBytes 2 oldest)] s
  let recent := td0 s :: s.gr.overruns.filter (fun t => !due s t (msT 1000))
  let s := { s with gr := { s.gr with
    overrunCnt := satInc 32 s.gr.overrunCnt, overruns := recent, healthyHold := s.gr.healthyHold || decide (16 < recent.length)
    overWaves := ((2 ^ 32 * band + num) :: s.gr.overWaves).take 8 } }
  let s := refreshPads s
  if s.pr.st == .twin then
    (if s.pr.active then schedTwin 13 [2 ^ 32 * band + num] (sendAgree 7 num [band] s) else sendCell 3 [7, num, band] s)
  else s

/-- The oldest unreleased node of a key in a band. -/
def oldestOf (s : State) (band : Nat) (key : Key) : Nat :=
  match s.gr.insts.find? (fun (i : Inst) => i.band == band && i.key == key && i.st != .released) with
  | some i => i.node
  | none => 0

/-- A wave's P1 deadline has passed: its unreleased P1 instances are cancelled, and its release holds what it did not
produce, questionable (R234). -/
def overrunWave (wave : Nat) (s : State) : State :=
  let late := s.gr.insts.filter (fun (i : Inst) => i.band == 1 && i.key == .wave wave && i.st != .released)
  let heldNodes := late.map (fun (i : Inst) => i.node)
  let s := cancelMissed (.wave wave) heldNodes (overrun 1 wave (oldestOf s 1 (.wave wave)) s)
  let heldOuts := s.gr.outs.filter (fun (o : LastOut) => heldNodes.contains o.node)
  let s := heldOuts.foldl (fun s o => putOut (nodeAt s o.node) wave o.wave (td1 s) s ⟨o.port, o.val, atLeastQ o.qual⟩) s
  let s := releaseWave wave true s
  pump s

/-- P1_DEADLINE: 125 us after the oldest open wave's headbox release its P1 outputs are not out. -/
def execP1Deadline (s : State) : Res :=
  match s.gr.openWaves.head? with
  | none => .next s
  | some (w, t) => if (t + usT 125 ≤ td1 s ∨ injOn s 0x07 0) ∧ !waveDone s w then .next (overrunWave w s) else .next s

/-- P0_DEADLINE: 50 us after its entry a descriptor's outputs are not out; they are released void (R234). -/
def execP0Deadline (s : State) : Res :=
  match s.gr.openDescs.find? (fun d => decide (d.2 + usT 50 ≤ td1 s)) with
  | none => .next s
  | some (q, _) =>
    let ks := (s.gr.insts.filter (fun (i : Inst) => i.key == .desc q)).map (fun (i : Inst) => i.node)
    let s := cancelMissed (.desc q) ks (overrun 0 q (oldestOf s 0 (.desc q)) s)
    -- the set's outputs are void, those already computed with them; what executes or waits leaves its flow void
    let s := { s with gr := { s.gr with insts := s.gr.insts.map (fun (i : Inst) =>
      if i.key == .desc q then { i with void := true, outs := [] } else i) } }
    .next (pump (releaseDesc q s))

/-- P2_LATE (R233): at most one event a TD0 second; what is late is released questionable. -/
def execP2Late (s : State) : Res :=
  let late := s.gr.insts.filter (fun (i : Inst) => i.band == 2 && i.unretired && decide (i.born1 + 187500 * 2 ^ 40 ≤ td1 s) &&
    !s.gr.lateP2.contains (i.node, i.key))
  match late with
  | [] => .next s
  | i :: _ =>
    let s := { s with gr := { s.gr with lateP2 := s.gr.lateP2 ++ late.map (fun (i : Inst) => (i.node, i.key)) } }
    if s.gr.p2LateSec = some (secOf (td0 s)) then .next s
    else
      let w := match i.key with | .wave w => w % 65536 | _ => 0
      .next (submit .graph 0x3007 w { s with gr := { s.gr with p2LateSec := some (secOf (td0 s)) } })

/-- OVERRUN_QUIET (R236): 1 000 ms of TD0 without an overrun. -/
def execOverrunQuiet (s : State) : Res :=
  if !s.gr.healthyHold ∨ s.gr.overruns.any (fun t => !due s t (msT 1000)) then .next s
  else .next (refreshPads { s with gr := { s.gr with healthyHold := false, overruns := [] } })

/-! Delay lists (R222, R223). -/

/-- A firing of the standby's own lists, for its wave: one that the active gave for another wave is counted (R223). -/
def ownFiring (w : Nat) (d : Delay) (s : State) : State :=
  let same (t : Nat × Nat × Nat) : Bool := t.1 == d.node && t.2.1 == d.tag
  if s.pr.dlyGiven.any same then
    { s with pr := { s.pr with dlyGiven := s.pr.dlyGiven.eraseP same, dlyXchk := satInc 32 s.pr.dlyXchk } }
  else { s with pr := { s.pr with dlyOwn := s.pr.dlyOwn ++ [(d.node, d.tag, d.tick, d.epoch, w)] } }

/-- DELAY_ENTRY_FIRE: entries at their tick leave the lists; a stale one without a token, others with one for the node's
next instance. The active sends each firing; in the standby it only serves the check. -/
def execDelayEntryFire (s : State) : Res :=
  let fired := s.gr.delays.filter (fun (d : Delay) => decide (d.tick ≤ td0 s))
  let s := { s with gr := { s.gr with delays := s.gr.delays.filter (fun (d : Delay) => decide (td0 s < d.tick)) } }
  let w := (s.acq.wave + 1) % 2 ^ 32
  .next (fired.foldl (fun s d =>
    if d.epoch ≠ epochOf s d.node then s
    else if followsAgreed s then ownFiring w d s
    else
      sendAgree 1 w [d.node, d.tag, d.tick, d.epoch]
        { s with gr := { s.gr with tokens := s.gr.tokens ++ [(d.node, d.tag, d.tick, d.epoch)] } }) s)

/-- A firing that the active gives for a wave (R223): the standby delivers it; its own one for another wave is counted. -/
def givenFiring (wave : Nat) (s : State) (v : List Nat) : State :=
  let node := v.getD 0 0
  let tag := v.getD 1 0
  let same (t : Nat × Nat × Nat × Nat × Nat) : Bool := t.1 == node && t.2.1 == tag
  let s := { s with gr := { s.gr with tokens := s.gr.tokens ++ [(node, tag, v.getD 2 0, v.getD 3 0)] } }
  match s.pr.dlyOwn.find? same with
  | some o => { s with pr := { s.pr with
      dlyOwn := s.pr.dlyOwn.eraseP same, dlyXchk := if o.2.2.2.2 = wave then s.pr.dlyXchk else satInc 32 s.pr.dlyXchk } }
  | none => { s with pr := { s.pr with dlyGiven := (s.pr.dlyGiven ++ [(node, tag, wave)]).drop (s.pr.dlyGiven.length - 8191) } }

/-- The firings that the active gave for a wave join the tokens that wait (R223). -/
def agreedTokens (wave : Nat) (s : State) : State :=
  let mine := s.pr.agree.filter (fun (a : Agree) => a.kind == 1 && a.wave == wave)
  mine.foldl (fun s (a : Agree) => givenFiring wave s a.vals)
    { s with pr := { s.pr with agree := s.pr.agree.filter (fun (a : Agree) => !(a.kind == 1 && a.wave == wave)) } }

/-- A wave of the lane's own values delivers the lane's own firings, those of its check among them (R223, R548). -/
def ownTokens (s : State) : State :=
  { s with
    gr := { s.gr with tokens := s.gr.tokens ++ s.pr.dlyOwn.map (fun t => (t.1, t.2.1, t.2.2.1, t.2.2.2.1)) }
    pr := { s.pr with dlyOwn := [] } }

/-! Jobs (R237). -/

/-- Entries of the queue that host requests and engine sources hold. -/
def hostJobs (s : State) : Nat := (s.gr.jobs.filter (fun (j : Job) => j.req.isSome)).length

/-- Engine jobs. -/
def engineJobs (s : State) : Nat := (s.gr.jobs.filter (fun (j : Job) => j.req.isNone)).length

/-- An entry is free for a host request: 24 shared entries, 8 of 32 kept for engine sources. -/
def hostEntry (s : State) : Bool := decide (hostJobs s + (engineJobs s - 8) < 24)

/-- The nodes of a P3 entry set. -/
def jobNodes (s : State) (set : Nat) : List Node :=
  (nodes s).filter (fun (n : Node) => n.band == 3 && n.jobEntry == some set)

/-- The first wave of the window that a job's outputs are tagged with (R242): for a harmonic analysis the last whole 200 ms
window, else the present wave. -/
def jobWave (s : State) (set : Nat) : Nat :=
  if (jobNodes s set).any (fun (n : Node) => n.op == .harmonic63) then
    (s.acq.wave + 2 ^ 32 - (s.acq.waveAt.2 + 1) % 3200 - 3199) % 2 ^ 32
  else s.acq.wave

/-- JOB_SUBMIT (R237, R628): a set of the image, or RANGE; BUSY without an entry or above 130 °C. -/
def execJobSubmit (r : Req) (set : Nat) (input : List Byte) (s : State) : Res :=
  .next (serve r 0x0042 s (fun s =>
    if (jobNodes s set).isEmpty then answer r 0x0042 .range s
    else if 4096 < input.length then answer r 0x0042 .badLength s
    else if !hostEntry s ∨ s.hlt.dieHigh = 2 then
      let s := answer r 0x0042 .busy s
      { s with gr := { s.gr with jobBusy := satInc 8 s.gr.jobBusy
                                 jobOwed := if s.gr.jobOwed.contains r.session then s.gr.jobOwed else s.gr.jobOwed ++ [r.session] } }
    else putJob set (some r) input (jobWave s set) 0 s))

/-- JOB_START (R237, R238): the first waiting job, in queue order, once it can take its counters. -/
def execJobStart (s : State) : Res :=
  if !running s || !s.gr.running || s.hlt.dieHigh == 2 then .next s
  else match s.gr.jobs.find? (fun (j : Job) => !j.started) with
    | none => .next s
    | some j =>
      let ns := jobNodes s j.set
      let used := (s.gr.insts.filter (fun (i : Inst) => i.band == 3)).length
      if 1024 < used + ns.length then .next s
      else
        let s := { s with gr := { s.gr with
          jobs := updFirst (fun (x : Job) => x.id == j.id) (fun x => { x with started := true }) s.gr.jobs } }
        .next (pump (createAll (.job j.id) ns none j.wave (fun _ => 0) s))

/-- FREQ_TRACK_HOLD_EXPIRY (R246). -/
def execFreqTrackHoldExpiry (terminal : Nat) (s : State) : Res :=
  match trackerNode s terminal with
  | none => .next s
  | some n =>
    let e := elemOf s n
    let hold := trackAux e 6
    let i : Inst := { (default : Inst) with group := s.img.group }
    let t := msT ((setF s i n.inst 0x03 10 20).toNat * 100)
    if hold ≤ 0 ∨ td0 s < (hold - 1).toNat + t then .next s else .next (trackExpire e s.acq.waves s)

end Sys2Proof.Machine
end

