-- ==== Sys2Proof/Machine/Security.lean ====
section
/-! DEFINITION. Security: opening sessions, keys, attestation, firmware slots, the certified configuration (20). -/

namespace Sys2Proof.Machine

/-- A KEY_ID (R606). -/
def keyIdOf (key : List Byte) : List Byte := (Config.sha512 key).take 8

/-- An installed key of a type in a slot. -/
def keyAt (s : State) (kind slot : Nat) : Option Key4 := s.sec.keys.find? (fun (k : Key4) => k.kind == kind && k.slot == slot)

/-- CAP_SERIAL as 8 bytes. -/
def serialBytes (s : State) : List Byte := leBytes 8 s.boot.serial

/-- The KEY_ID of the owner key that signed an image, or that signed its project certificate (R107); none for an empty
slot. -/
def ownerOf (img : List Byte) : Option (List Byte) :=
  if img.isEmpty then none
  else
    let o := leAt img 24 4
    some (if leAt img o 2 = 2 then bytesAt img (o + 80 + 32) 8 else bytesAt img (o + 4) 8)

/-- The firmware slot that runs. -/
def runSlot (s : State) : FwSlot := if s.boot.slot = 2 then s.boot.fwB else s.boot.fwA

/-- The conditions of the certified configuration (R622). -/
def certOk (s : State) : Bool :=
  (runSlot s).certified && s.sec.keys.any (fun (k : Key4) => k.kind == 1) &&
  (match ownerOf s.img.user with
    | some id => s.sec.keys.any (fun (k : Key4) => k.kind == 1 && keyIdOf k.key == id)
    | none => false) &&
  (match s.img.cur with | some i => i.sections.any (fun x => x.1 == 0x18) | none => false) &&
  (pv s 0x09A0 0 0 1 0 == 0 || pv s 0x1841 0 0 1 0 == 2) && !s.sec.lost

/-- SEC_STAT.CERTIFIED follows its conditions; each change writes CERT_STATE (R622). -/
def updCert (s : State) : State :=
  if s.sec.certified = certOk s then s
  else submit .sec 0xC00B (b2n (certOk s)) { s with sec := { s.sec with certified := certOk s } }

/-! Opening sessions (R617, R619). -/

/-- Roles permitted on a transport (PID 0x1801). -/
def policyRoles (s : State) (t : Transport) : Nat :=
  pv s 0x1801 0 (match t with | .hpi => 0 | .net => 1 | .uart => 2) 1 0x1F

/-- Sessions a transport may hold (R589). -/
def maxSessions : Transport → Nat
  | .hpi => 2 | .net => 5 | .uart => 1

/-- A further session fits (R589). -/
def sessionRoom (s : State) (t : Transport) : Bool :=
  decide (s.cmd.sessions.length < 8) &&
  decide ((s.cmd.sessions.filter (fun (x : Session) => x.transport == t)).length < maxSessions t)

/-- The next session number: not 0, and not that of an open session. -/
def newNumber (s : State) : Nat :=
  let cand := (List.range 16).map (fun i => (s.cmd.lastSession + 1 + i) % 65536)
  (cand.find? (fun n => n != 0 && !s.cmd.sessions.any (fun (x : Session) => x.num == n))).getD 0

/-- The lowest free session slot. -/
def freeSlot (s : State) : Nat :=
  ((List.range 8).find? (fun i => !s.cmd.sessions.any (fun (x : Session) => x.slot == i))).getD 0

/-- A session opens with its roles and credits (R589, R590). -/
def openSession (r : Req) (roles options : Nat) (hostSlot : Option Nat) (phys : Bool) (conn : Option Nat) (s : State) :
    State :=
  let roles := if s.pw.phase = .halted then roles % 2 else roles
  if roles = 0 then answer r 0x0001 .denied s
  else
    let n := newNumber s
    let x : Session := { (default : Session) with
      num := n, slot := freeSlot s, transport := r.transport, roles := BitVec.ofNat 5 roles
      notify := decide (options % 2 = 1), hostSlot := hostSlot, phys := phys, normal := 4, bulk := 2, lastUse := td0 s
      conn := conn }
    let s := { s with cmd := { s.cmd with sessions := s.cmd.sessions ++ [x], lastSession := n } }
    let s := submit .cmd 0xB002 (65536 + n) s
    let s := if phys then submit .sec 0xC009 n s else s
    respond r 0x0001 .ok false (leBytes 2 n ++ [BitVec.ofNat 8 roles, 0#8]) s

/-- The bytes that a host key signs (R617). -/
def hostMessage (s : State) (slot counter roles : Nat) : List Byte :=
  serialBytes s ++ [BitVec.ofNat 8 slot] ++ leBytes 8 counter ++ [BitVec.ofNat 8 roles, 0#8]

/-- Method 0: a host key on the HPI. -/
def openHostKey (r : Req) (roles options : Nat) (auth : List Byte) (s : State) : State :=
  let slot := leAt auth 0 1
  let counter := leAt auth 8 8
  match keyAt s 2 slot with
  | none => answer r 0x0001 .sigFail (authFail 3 r.transport s)
  | some k =>
    if !Config.ed25519 k.key (hostMessage s slot counter roles) (bytesAt auth 16 64) then
      answer r 0x0001 .sigFail (authFail 1 r.transport s)
    else if counter ≤ smGet s.sec.counters slot then answer r 0x0001 .sigFail (authFail 2 r.transport s)
    else
      let s := { s with sec := { s.sec with counters := smSet s.sec.counters slot counter } }
      openSession r (roles &&& k.roles.toNat &&& policyRoles s .hpi) options (some slot) false none s

/-- SESSION_OPEN (R617): the method suits the transport, the transport is not locked out, a session is free, then the
method's own authentication. -/
def sessionOpen (r : Req) (method roles options : Nat) (auth : List Byte) (s : State) : State :=
  serve r 0x0001 s (fun s =>
    if 2 < method then answer r 0x0001 .range s
    else if (method = 0 ∧ r.transport ≠ .hpi) ∨ (method = 1 ∧ r.transport ≠ .net) ∨ (method = 2 ∧ r.transport ≠ .uart) then
      answer r 0x0001 .denied s
    else if lockedOut r.transport s then answer r 0x0001 .denied s
    else if method = 0 ∧ auth.length ≠ 80 then answer r 0x0001 .badLength s
    else if !sessionRoom s r.transport then answer r 0x0001 .busy s
    else if method = 0 then openHostKey r roles options auth s
    else if method = 1 then
      match s.cmd.conns.find? (fun e => e.1 == s.cmd.zeroConn) with
      | none => answer r 0x0001 .sigFail (authFail 3 r.transport s)
      | some (c, certRoles) =>
        if s.cmd.sessions.any (fun (x : Session) => x.conn == some c) then answer r 0x0001 .busy s
        else openSession r (roles &&& certRoles &&& policyRoles s .net) options none false (some c) s
    else openSession r (roles &&& policyRoles s .uart) options none true none s)

/-- SESSION_OPEN (R617). -/
def execSessionOpen (r : Req) (method roles options : Nat) (auth : List Byte) (s : State) : Res :=
  .next (sessionOpen r method roles options auth s)

/-- AUTH_LOCKOUT_EXPIRY (R619): a transport's lock-out time ends. -/
def execAuthLockoutExpiry (transport : Transport) (s : State) : Res :=
  .next { s with sec := { s.sec with
    locked := s.sec.locked.filter (fun e => !(e.1 == transport && decide (e.2 ≤ td0 s))) } }

/-- SESSION_IDLE_TIMEOUT (R619): a network session idle for the time of PID 0x1803 closes. -/
def execSessionIdleTimeout (session : Nat) (s : State) : Res :=
  .next (match s.cmd.sessions.find? (fun (x : Session) => x.num == session) with
    | none => s
    | some x =>
      let t := pv s 0x1803 0 0 2 30
      if x.transport = .net ∧ t ≠ 0 ∧ due s x.lastUse (secT (60 * t)) then closeSession session s else s)

/-! Keys (R611 to R613). -/

/-- The slots a key type has (R606). -/
def slotsOf : Nat → Nat
  | 1 => 4 | 2 => 8 | 3 => 4 | _ => 0

/-- The authorisation of a key change holds (R611). -/
def keyAuth (r : Req) (body : List Byte) (s : State) : Bool :=
  let waived := (bytesAt body 44 72).all (fun b => b == 0#8) && (keySlots s 1 4 == 0 ||
    (match findSession s r with | some x => x.phys | none => false))
  waived || (match s.sec.keys.find? (fun (k : Key4) => k.kind == 1 && keyIdOf k.key == bytesAt body 44 8) with
    | some k => Config.ed25519 k.key (bytesAt body 0 52 ++ serialBytes s) (bytesAt body 52 64)
    | none => false)

/-- The removal is refused (R612): the last owner key outside a physical-presence session, or the owner of SCH_USER. -/
def removalRefused (r : Req) (slot : Nat) (s : State) : Bool :=
  match keyAt s 1 slot with
  | none => false
  | some k =>
    let phys : Bool := match findSession s r with | some x => x.phys | none => false
    ((s.sec.keys.filter (fun (x : Key4) => x.kind == 1)).length == 1 && !phys) || ownerOf s.img.user == some (keyIdOf k.key)

/-- The key changes; a host key used by an open session closes it (R612). -/
def changeKey (type slot op : Nat) (body : List Byte) (s : State) : State :=
  let rest := s.sec.keys.filter (fun (k : Key4) => !(k.kind == type && k.slot == slot))
  let new : Key4 := ⟨type, slot, if type = 2 then BitVec.ofNat 5 (leAt body 3 1) else 0, bytesAt body 4 32, secOf (td1 s) % 2 ^ 32⟩
  let s := { s with sec := { s.sec with
    keys := if op = 1 then rest else rest ++ [new], keySeq := (s.sec.keySeq + 1) % 2 ^ 64 } }
  let gone := if type = 2 then s.cmd.sessions.filter (fun (x : Session) => x.hostSlot == some slot) else []
  updCert (gone.foldl (fun s x => closeSession x.num s) s)

/-- KEY_INSTALL (R611, R612, R522). -/
def keyInstall (r : Req) (body : List Byte) (s : State) : State :=
  serve r 0x00A1 s (fun s =>
    let type := leAt body 0 1
    let slot := leAt body 1 1
    let op := leAt body 2 1
    if s.evr.freeze.isSome then answer r 0x00A1 .frozen s
    else if slotsOf type ≤ slot ∨ 1 < op then answer r 0x00A1 .range s
    else if leAt body 36 8 ≠ (s.sec.keySeq + 1) % 2 ^ 64 then answer r 0x00A1 .range s
    else if !keyAuth r body s then answer r 0x00A1 .sigFail s
    else if type = 1 ∧ op = 1 ∧ removalRefused r slot s then answer r 0x00A1 .badState s
    else
      let id := if op = 1 then zeros 8 else keyIdOf (bytesAt body 4 32)
      let s := auditFirst .sec r.session 0xC002 (256 * type + slot) [id] s
      changeKey type slot op body (answer r 0x00A1 .ok s))

/-- KEY_INSTALL (R611). -/
def execKeyInstall (r : Req) (body : List Byte) (s : State) : Res := .next (keyInstall r body s)

/-- One entry of KEY_LIST (R613). -/
def keyEntry (kind slot roles sec : Nat) (key : List Byte) : List Byte :=
  [BitVec.ofNat 8 kind, BitVec.ofNat 8 slot, BitVec.ofNat 8 roles, 0#8] ++ leBytes 4 sec ++ padTo 32 key ++ padTo 8 (keyIdOf key)

/-- KEY_LIST (R613): the identity first, then by type and slot; the certificate ends the response. -/
def execKeyList (r : Req) (s : State) : Res :=
  .next (serve r 0x00A2 s (fun s =>
    let slots := [1, 2, 3].flatMap (fun t => (List.range (slotsOf t)).filterMap (fun i => keyAt s t i))
    let es := keyEntry 0 0 0 0 s.sec.idKey :: slots.map (fun k => keyEntry k.kind k.slot k.roles.toNat k.t1sec k.key)
    respond r 0x00A2 .ok false ([BitVec.ofNat 8 es.length, 0#8, 0#8, 0#8] ++ es.flatten ++
      leBytes 2 s.sec.cert.length ++ zeros 2 ++ s.sec.cert) s))

/-! Attestation (R614 to R616). -/

/-- SEC_STATE (R615). -/
def secState (s : State) : Nat :=
  b2n (keySlots s 1 4 != 0) + fld 1 1 (b2n s.sec.certified) + fld 2 1 (b2n (!s.le.forces.isEmpty)) +
  fld 3 1 (b2n (!s.hlt.inj.isEmpty)) + fld 4 1 (b2n (physOpen s)) + fld 5 1 (b2n s.sec.restored) +
  fld 6 1 (b2n s.sec.lost) + fld 7 1 (b2n (s.pr.st == .twin)) + fld 8 1 (b2n s.pr.active) +
  fld 16 8 s.sec.rollback + fld 24 2 s.boot.slot

/-- The digest of a setting group's section; 0 for an absent group (R614). -/
def groupDigest (s : State) (g : Nat) : List Byte :=
  match s.img.cur with
  | none => zeros 8
  | some i => match i.sections.find? (fun x => x.1 == 0x10 + g) with
    | some x => (Config.sha512 x.2).take 8
    | none => zeros 8

/-- Bytes 0 to 295 of the report (R614). -/
def attestBody (nonce : List Byte) (s : State) : List Byte :=
  let digest := match s.img.cur with | some i => i.digest | none => []
  let b := [0x53#8, 0x57#8, 0x41#8, 0x54#8] ++ leBytes 2 1 ++ leBytes 2 360 ++ padTo 32 nonce ++ serialBytes s ++
    leBytes 4 (regVal s 0) ++ leBytes 4 s.boot.fwVer ++ padTo 64 (runSlot s).digest ++ padTo 64 digest ++ watermark s ++
    (List.range 8).flatMap (fun g => padTo 8 (groupDigest s g)) ++ padTo 8 (forceDigest s) ++ leBytes 4 (secState s) ++
    leBytes 8 s.sec.attCnt ++ stamp (td1 s) ++ [BitVec.ofNat 8 (td1Qual s)]
  padTo 296 b

/-- The reservation mark once the attestation counter stands at `n`: it advances in steps of 65 536, as the event
sequence's does (R616, R508). -/
def attMarkAt (mark n : Nat) : Nat := if mark ≤ n then mark + ((n - mark) / 65536 + 1) * 65536 else mark

/-- ATTEST (R614, R616). -/
def execAttest (r : Req) (nonce : List Byte) (s : State) : Res :=
  .next (serve r 0x00A0 s (fun s =>
    let n := s.sec.attCnt + 1
    let s := { s with sec := { s.sec with
      attCnt := n, attMark := attMarkAt s.sec.attMark n } }
    let b := attestBody nonce s
    respond r 0x00A0 .ok false (b ++ padTo 64 (Config.sign b)) s))

/-! Firmware (R72, R608 to R610). -/

/-- The result code of a verification (R72, R92). -/
def verifyFw (bytes : List Byte) (s : State) : Nat :=
  match Config.parseManifest bytes with
  | none => 4
  | some m =>
    if Config.sha512 m.rootKey ≠ Config.rootHash ∨ !Config.ed25519 m.rootKey (Config.sha512 m.signed) m.signature then 2
    else if !m.digestsOk then 5
    else if m.svn < s.sec.rollback then 3
    else 1

/-- A slot's record from its bytes (R608, R614). -/
def readSlot (bytes : List Byte) (s : State) : FwSlot :=
  match Config.parseManifest bytes with
  | none => { (default : FwSlot) with bytes := bytes, result := 4 }
  | some m =>
    { bytes := bytes, result := verifyFw bytes s, version := m.version, svn := m.svn, certified := m.certified
      digest := Config.sha512 (m.signed ++ m.signature) }

/-- A slot by its name: 0 FW_A, 1 FW_B. -/
def putSlot (slot : Nat) (f : FwSlot) (s : State) : State :=
  if slot = 0 then { s with boot := { s.boot with fwA := f } } else { s with boot := { s.boot with fwB := f } }

/-- The slot runs (R609). -/
def slotRuns (s : State) (slot : Nat) : Bool := s.pw.phase != .romRecovery && s.boot.slot == slot + 1

/-- Another session stages firmware (R113, R609). -/
def fwOther (r : Req) (s : State) : Bool :=
  match s.boot.fwStage with | some (_, _, h) => h != r.session | none => false

/-- FW_BEGIN (R609). -/
def execFwBegin (r : Req) (len slot : Nat) (s : State) : Res :=
  .next (serve r 0x0028 s (fun s =>
    if fwOther r s then answer r 0x0028 .conflict s
    else if 1 < slot ∨ len = 0 then answer r 0x0028 .range s
    else if slotRuns s slot then answer r 0x0028 .badState s
    else
      let s := putSlot slot default s
      answer r 0x0028 .ok { s with boot := { s.boot with fwStage := some (len, slot, r.session), fwBytes := [] } }))

/-- FW_DATA (R609). -/
def execFwData (r : Req) (offset : Nat) (bytes : List Byte) (s : State) : Res :=
  .next (serve r 0x0029 s (fun s =>
    if fwOther r s then answer r 0x0029 .conflict s
    else match s.boot.fwStage with
      | none => answer r 0x0029 .badState s
      | some (len, _, _) =>
        if len < offset + bytes.length then answer r 0x0029 .range s
        else answer r 0x0029 .ok { s with boot := { s.boot with fwBytes := s.boot.fwBytes ++ [(offset, bytes)] } }))

/-- FW_COMMIT (R609): verification under R72; on success the committed slot is FW_A from the next start. -/
def fwCommit (r : Req) (s : State) : State :=
  serve r 0x002A s (fun s =>
    if fwOther r s then answer r 0x002A .conflict s
    else match s.boot.fwStage with
      | none => answer r 0x002A .badState s
      | some (len, slot, _) =>
        let bytes := assemble s.boot.fwBytes len
        let f := readSlot bytes s
        let res := if covered s.boot.fwBytes len then f.result else 5
        let s := putSlot slot { f with result := res } s
        let s := { s with boot := { s.boot with
          fwStage := none, fwBytes := [], nextSwap := if res = 1 then decide (slot = 1) else s.boot.nextSwap } }
        respond r 0x002A .ok false [BitVec.ofNat 8 res] (submitCmd .sec r.session 0xC004 res s))

/-- FW_COMMIT (R609). -/
def execFwCommit (r : Req) (s : State) : Res := .next (fwCommit r s)

/-- ROLLBACK_RAISE (R610): both slots verify, their lower SVN exceeds the counter, and protection has run for 1 h on the
present FW_A. -/
def execRollbackRaise (s : State) : Res :=
  .next (
    let m := min s.boot.fwA.svn s.boot.fwB.svn
    if s.pw.phase = .running ∧ s.boot.slot = 1 ∧ s.boot.fwA.result = 1 ∧ s.boot.fwB.result = 1 ∧ s.sec.rollback < m ∧
        due s s.boot.protSince (secT 3600) then
      submit .sec 0xC005 m { s with sec := { s.sec with rollback := min 64 m } }
    else s)

end Sys2Proof.Machine
end

