-- ==== Sys2Proof/Machine/TW.lean ====
section
/-! DEFINITION. Travelling-wave detection, bursts, the directional supervision, fault location and the remote exchange
(10). What the filters give comes as operands: the samples of g in uV (R315), the voltage before an arrival, the
incremental quantities of the supervision path (R328). -/

namespace Sys2Proof.Machine

/-! Streams (R312 to R317). -/

/-- Stream `m`. -/
def twOf (s : State) (m : Nat) : TwStream := s.acq.tw.getD m default

/-- Stream `m` changed. -/
def updTw (m : Nat) (f : TwStream → TwStream) (s : State) : State :=
  { s with acq := { s.acq with tw := putAt 12 s.acq.tw m (f (twOf s m)) } }

/-- The stream's floor limit in units of 2^-26 uV (PID 0x0543). -/
def twLimit (s : State) (m : Nat) : Nat := pv s 0x0543 m 0 2 500 * 2 ^ 26

/-- The noise floor takes the rms of g over a block, in 2^-26 uV, with a factor of 2^-13 (R316). Blocks within 1 ms after
an arrival are left out; the instants since which the floor lies beyond its limits follow (R317). -/
def twBlock (m rms : Nat) (s : State) : State :=
  let x := twOf s m
  let quiet : Bool := match x.lastArr with | some t => due s t (msT 1 + nsT 12800) | none => true
  if !twExists s m || !quiet then s
  else
    let acc := ((x.acc : Int) + ((rms : Int) - x.acc) / 8192).toNat
    let lim := twLimit s m
    updTw m (fun x => { x with
      acc := acc
      aboveAt := sinceIf s (decide (lim < acc)) x.aboveAt
      belowAt := sinceIf s (decide (acc * 10 < lim * 8)) x.belowAt }) s

/-- TW_NOISE_FLOOR (R317): the floor has stayed above its limit for 1 s of TD0. -/
def execTwNoiseFloor (stream : Nat) (s : State) : Res :=
  let x := twOf s stream
  let on := heldFor s x.aboveAt (secT 1) || injOn s 0x27 stream
  .next (if hasTw s ∧ running s ∧ stream < 12 ∧ twExists s stream ∧ !x.noisy ∧ on then
      fireDet 0x27 stream stream (updTw stream (fun x => { x with noisy := true }) s)
    else s)

/-- TW_NOISE_CLEARED (R317): below 0.8 of the limit for 1 s of TD0. -/
def execTwNoiseCleared (stream : Nat) (s : State) : Res :=
  let x := twOf s stream
  .next (if hasTw s ∧ running s ∧ stream < 12 ∧ x.noisy ∧ heldFor s x.belowAt (secT 1) ∧ !injOn s 0x27 stream then
      submit .tw 0x4002 stream (clearDet 0x27 stream (updTw stream (fun x => { x with noisy := false }) s))
    else s)

/-- TW_REARM (R319): |g| has been low for 8 samples; the hold of PID 0x0544 has passed. -/
def execTwRearm (stream : Nat) (s : State) : Res :=
  let hold := usT (pv s 0x0544 0 0 2 2)
  let passed : Bool := match (twOf s stream).lastArr with | some t => due s t hold | none => true
  .next (if hasTw s ∧ running s ∧ stream < 12 ∧ passed then updTw stream (fun x => { x with armed := true }) s else s)

/-! Descriptors (R322, R323). -/

/-- The 32 bytes of a descriptor (R322). -/
def descBytes (d : Desc) : List Byte :=
  leBytes 4 d.seq ++ leBytes 1 d.term ++ leBytes 1 (d.mode + 4 * d.quantity + 64 * d.kind) ++ leBytes 1 (unsgn 8 d.pol) ++
  leBytes 1 d.conf ++ stamp d.time ++ leBytes 1 d.tqual ++ leBytes 1 d.flags ++ leBytes 2 d.rise ++
  leBytes 4 (fOfRat d.peak 1000000).toNat ++ leBytes 2 (unsgn 16 d.vref) ++ leBytes 2 (min 65535 d.floor)

/-- A TD1 stamp of 12 bytes in 2^-40 ns (R12). -/
def stampAt (bs : List Byte) (o : Nat) : Nat := secT (leAt bs o 6) + nsT (leAt bs (o + 6) 4) + leAt bs (o + 10) 2 * 2 ^ 24

/-- The descriptor in 32 bytes, as far as matching uses it. -/
def descFrom (bs : List Byte) : Desc :=
  { seq := leAt bs 0 4, term := leAt bs 4 1 % 2, mode := leAt bs 5 1 % 4, quantity := leAt bs 5 1 / 4 % 2
    kind := leAt bs 5 1 / 64, pol := sgn 8 (leAt bs 6 1), conf := leAt bs 7 1, time := stampAt bs 8, tqual := leAt bs 20 1
    flags := leAt bs 21 1, rise := leAt bs 22 2, peak := fInt (BitVec.ofNat 32 (leAt bs 24 4)) * 1000000 / 2 ^ 149
    vref := sgn 16 (leAt bs 28 2), floor := leAt bs 30 2 }

/-- The stream of an arrival. -/
def descStream (d : Desc) : Nat := 6 * d.term + 3 * d.quantity + d.mode

/-- An arrival reaches the recorder: its binary of class 6 and its trigger units of type 4 (R323, R472, R474). -/
def recDesc (d : Desc) (s : State) : State :=
  if d.kind != 0 then s
  else
    let us := unitsWhere s (fun c => c.type == 4 && c.source.testBit (descStream d) && decide (getFld c.source 16 8 ≤ d.conf))
    binPulse 6 d.term d.time (fireUnits us d.time s)

/-- A descriptor goes to the standby on issue (R324, R538). -/
def sendDesc (d : Desc) (s : State) : State :=
  if feeds s then sendCell 4 (descVals d) s else s

/-- A descriptor is issued (R27, R322, R323): it takes the next SEQ and crosses to the graph, the recorder and the
standby; a full crossing drops it, with one event per TD0 second. The flag says that it crossed. -/
def issueDesc (d : Desc) (s : State) : State × Desc × Bool :=
  let d := { d with seq := (s.acq.twSeq + 1) % 2 ^ 32 }
  let s := { s with acq := { s.acq with twSeq := d.seq } }
  if 32 ≤ s.acq.twQ.length then
    let s := { s with acq := { s.acq with twDrop := satInc 32 s.acq.twDrop } }
    if s.acq.twDropSec = some (secOf (td0 s)) then (s, d, false)
    else (submit .tw 0x4F01 s.acq.twDrop { s with acq := { s.acq with twDropSec := some (secOf (td0 s)) } }, d, false)
  else (sendDesc d (recDesc d { s with acq := { s.acq with twQ := s.acq.twQ ++ [d] } }), d, true)

/-! Bursts (R321, R322). -/

/-- The open burst of a terminal. -/
def burstOf (s : State) (t : Nat) : Option Burst := s.acq.burst.getD t none

/-- The burst of a terminal written. -/
def putBurst (t : Nat) (b : Option Burst) (s : State) : State :=
  { s with acq := { s.acq with burst := putAt 2 s.acq.burst t b } }

/-- A burst opens with the time of its first arrival; an armed velocity measurement of the terminal takes it (R337). -/
def openBurst (s : State) (t time : Nat) : Burst × State :=
  let vm := s.acq.vmState == 1 && s.acq.vmTerm == t
  ({ (default : Burst) with term := t, windowOpen := true, openedAt := time, lastTime := time, waves := s.acq.waves, vm := vm },
   { s with acq := { s.acq with burstCnt := putAt 2 s.acq.burstCnt t (wrapInc 16 (s.acq.burstCnt.getD t 0)) } })

/-- An arrival counted in a burst; kept for location and exchange when it crossed. -/
def Burst.take (b : Burst) (d : Desc) (crossed : Bool) : Burst :=
  { b with arrivals := if crossed then b.arrivals ++ [d] else b.arrivals, lastTime := d.time }

/-- TW_BURST (R343), with the LEAD descriptor. -/
def tellBurst (t : Nat) (d : Desc) (s : State) : State := submitParts .tw 0x4003 t [padTo 48 (descBytes d)] s

/-- The arrival that LEAD is set on: the current aerial arrival of largest |PEAK|, else the first (R321). -/
def leadOf (ds : List Desc) : Option Desc :=
  let aerial := ds.filter (fun (d : Desc) => d.quantity == 0 && d.mode != 0)
  let best := aerial.foldl (fun (o : Option Desc) d => match o with
    | some x => if x.peak.natAbs < d.peak.natAbs then some d else o
    | none => some d) none
  match best with | some d => some d | none => ds.head?

/-- The 200 ns window of a burst closes: LEAD is set and the arrivals held back are issued (R321). -/
def closeWindow (t : Nat) (s : State) : State :=
  match burstOf s t with
  | none => s
  | some b =>
    if !b.windowOpen then s
    else
      let lead := leadOf b.arrivals
      let step (p : State × Burst) (d : Desc) : State × Burst :=
        let isLead := lead == some d
        let (s, d, ok) := issueDesc (if isLead then { d with flags := d.flags ||| 0x40 } else d) p.1
        (s, { (if ok then { p.2 with arrivals := p.2.arrivals ++ [d] } else p.2) with
              lead := if isLead ∧ p.2.lead.isNone then some d else p.2.lead })
      let (s, b) := b.arrivals.foldl step (s, { b with arrivals := [], windowOpen := false })
      let s := putBurst t (some b) s
      match b.lead with | some d => tellBurst t d s | none => s

/-- TW_LEAD_WINDOW_CLOSE (R321). -/
def execTwLeadWindowClose (terminal : Nat) (s : State) : Res :=
  .next (match burstOf s terminal with
    | some b => if running s ∧ !followsAgreed s ∧ b.openedAt + nsT 200 ≤ td1 s then closeWindow terminal s else s
    | none => s)

/-! Detection (R318 to R320). -/

/-- The index of the peak: the largest g of the 32 samples from the crossing on, the first of equals (R318). -/
def peakIdx (g : Nat → Int) (cross : Nat) : Nat :=
  (List.range 32).foldl (fun best k => if g best < g (cross + k) then cross + k else best) cross

/-- The parabola's vertex in 1/256 sample, and whether it was clamped (R318). -/
def fitPeak (g : Nat → Int) (n0 : Nat) : Int × Bool :=
  let at_ (k : Int) : Int := g ((n0 : Int) + k).toNat
  let ks : List Int := [-4, -3, -2, -1, 0, 1, 2, 3, 4]
  let s0 := ks.foldl (fun a k => a + at_ k) 0
  let s1 := ks.foldl (fun a k => a + k * at_ k) 0
  let s2 := ks.foldl (fun a k => a + k * k * at_ k) 0
  let den := 20 * s0 - 3 * s2
  if den ≤ 0 then (0, true)
  else
    let d := divRound (77 * 256 * s1) (10 * den).toNat
    if 128 < d then (128, true) else if d < -128 then (-128, true) else (d, false)

/-- Where g falls to half its peak, going one way from the peak, in 1/65536 samples from it (R319). -/
def halfWidth (g : Nat → Int) (step : Nat → Nat) (peak : Int) : Nat → Nat → Nat → Nat
  | 0, _, w => w
  | fuel + 1, n, w =>
    let a := g n
    let b := g (step n)
    if 2 * b < peak ∨ step n = n then
      (if a ≤ b then w else w + ((2 * a - peak) * 65536 / (2 * (a - b))).toNat)
    else halfWidth g step peak fuel (step n) (w + 65536)

/-- The rise time in ns (R319): 1.09 of the width at half height, less the 350 ns of the band limit. -/
def riseOf (g : Nat → Int) (n0 len : Nat) : Nat :=
  let w := halfWidth g (fun n => n - 1) (g n0) len n0 0 + halfWidth g (fun n => min (n + 1) (len - 1)) (g n0) len n0 0
  let num : Int := (5450 * w : Nat) * (5450 * w : Nat) - 122500 * 6553600 * 6553600
  if num ≤ 0 then 0 else (2 * isqrt num.toNat + 6553600) / (2 * 6553600)

/-- The sum of g around the peak between the samples at 10 % of the threshold (R319). -/
def peakSum (g : Nat → Int) (n0 len : Nat) (low : Int → Bool) : Int :=
  let before := ((List.range n0).reverse.takeWhile (fun n => !low (g n))).foldl (fun a n => a + g n) 0
  let after := (List.range (len - n0)).takeWhile (fun k => k = 0 || !low (g (n0 + k - 1)))
  before + after.foldl (fun a k => a + g (n0 + k)) 0

/-- round(4 × SNR) clamped to 0 to 255, from the peak in uV and the floor in 2^-26 uV (R320). -/
def snrConf (peak acc : Nat) : Nat :=
  let p := (peak * 2 ^ 26) ^ 160
  let f := acc ^ 160
  ((List.range 255).takeWhile (fun k => decide (f * 10 ^ (2 * k + 1) ≤ p))).length

/-- The confidence after the flags (R320). -/
def confOf (c : Nat) (clamp swap noisy sat : Bool) : Nat :=
  let c := if clamp then c / 2 else c
  let c := if swap then c - 32 else c
  let c := if noisy then c / 2 else c
  if sat then min c 63 else c

/-- A stream's channels carry TEST and SUBST: a force on one of them or an injection (R322). -/
def twTest (s : State) (m : Nat) : Bool × Bool :=
  let cs := twPhases s (m / 6) (m % 6 / 3)
  let any (b : Nat) : Bool := cs.any (fun (c : ChanEntry) => (s.acq.ch.getD c.channel Chan.reset).qual.getLsbD b)
  (any 4 || injOn s 0x27 m, any 5 || injOn s 0x27 m)

/-- |g| in uV reaches the threshold max(K × FLOOR, TMIN) divided by `part` (R316). -/
def twReaches (s : State) (m part : Nat) (g : Int) : Bool :=
  let thr := max (pv s 0x0541 m 0 2 60 * (twOf s m).acc) (pv s 0x0542 m 0 2 50 * 10 * 2 ^ 26)
  decide (thr ≤ g.natAbs * 10 * 2 ^ 26 * part)

/-- An arrival as its descriptor (R318 to R322). `g` are samples from the 50 ns slot `slot` of TD1 second `sec` on, `cross`
is the first at the threshold, `sat` says that a token of a phase carries OVERRANGE there, `vref` is the mode's voltage
before it in 0.1 % of Vn. A floor of 0 gives no SNR; the confidence is then open. -/
def arrivalDesc (m sec slot : Nat) (g : List Int) (cross : Nat) (sat : Bool) (vref : Int) (s : State) : Desc × State :=
  let x := twOf s m
  let neg := decide (g.getD cross 0 < 0)
  let h (n : Nat) : Int := if neg then -(g.getD n 0) else g.getD n 0
  let n0 := peakIdx h cross
  let fit := fitPeak h n0
  let time := ((secT sec + (slot + n0) * 50 * 2 ^ 40 : Nat) : Int) + fit.1 * 50 * 2 ^ 32 + s.tu.sgOffset - s.acq.twDelay * 2 ^ 32
  let swap : Bool := match x.swapAt with | some t => !due s t (usT 10) | none => false
  let open_ := freshNat s
  let c0 := if x.acc = 0 then open_.1 % 256 else snrConf (h n0).natAbs x.acc
  let s := if x.acc = 0 then open_.2 else s
  let test := twTest s m
  let scale := match (twPhases s (m / 6) (m % 6 / 3)).head? with | some c => fInt (BitVec.ofNat 32 c.scale) | none => 0
  let sum := peakSum h n0 g.length (fun v => !twReaches s m 10 v)
  ({ seq := 0, term := m / 6, mode := m % 3, quantity := m % 6 / 3, kind := 0, pol := if neg then -1 else 1
     conf := confOf c0 fit.2 swap x.noisy sat, time := time.toNat, tqual := td1Qual s
     flags := b2n swap + 2 * b2n x.noisy + 4 * b2n fit.2 + 8 * b2n sat + 16 * b2n test.1 + 32 * b2n test.2
     rise := min 65535 (riseOf h n0 g.length), peak := (if neg then -sum else sum) * scale / 2 ^ 149
     vref := if m % 6 / 3 = 0 then vref else 0, floor := x.acc / 2 ^ 26 }, s)

/-! Supervision of the directional element (R328, R329). -/

/-- The directional element bound to a terminal. -/
def twNode (s : State) (t : Nat) : Option Node :=
  (nodes s).find? (fun (n : Node) => n.op == .twDirectional && n.terminal == t)

/-- An instance that stands for now, under the setting group in force. -/
def nowInst (s : State) : Inst := Inst.seen { lastInst s with group := s.img.group } s

/-- A supervision setting of a terminal's element, or its default. -/
def supSet (s : State) (t low bytes dflt : Nat) : Nat :=
  match twNode s t with | some n => setN s (nowInst s) n.inst low bytes dflt | none => dflt

/-- A supervision setting with a step of 0.01. -/
def supSetF (s : State) (t low : Nat) (dflt : Int) : Int :=
  match twNode s t with | some n => setF s (nowInst s) n.inst low 100 dflt | none => dflt

/-- The supervision window in us (R329). -/
def supWindow (s : State) (t : Nat) : Nat := (supSetF s t 0xB0 50).toNat * 10

/-- The supervision's reading (R328) of the incremental voltages and currents over the window, in 10^-6 of the primary
unit: POL and CONF. Where a sum of squares is 0 the spec gives no rho: it is open. -/
def supReading (t : Nat) (dv di : List Int) (s : State) : Int × Nat × State :=
  let dot := (dv.zip di).foldl (fun (a : Int) p => a + p.1 * p.2) 0
  let vv := (dv.foldl (fun (a : Int) x => a + x * x) 0).toNat
  let ii := (di.foldl (fun (a : Int) x => a + x * x) 0).toNat
  let (dot, den, s) : Int × Nat × State := if vv * ii = 0 then
      (let (v, s) := freshNat s; ((v % 511 : Nat) - 255, 255 * 255, s)) else (dot, vv * ii, s)
  let conf := (isqrt (510 * 510 * dot.natAbs * dot.natAbs / den) + 1) / 2
  let inNom := match (twPhases s t 0).head? with | some c => nominalOf s c.channel | none => 0
  let enough := decide ((supSet s t 0xB2 1 10 * inNom) * (supSet s t 0xB2 1 10 * inNom) * di.length ≤ 10000 * ii)
  let rmin := (supSetF s t 0xB3 20).toNat
  let far := decide (rmin * rmin * den ≤ 10000 * dot.natAbs * dot.natAbs)
  (if enough ∧ far then (if dot < 0 then 1 else -1) else 0, min 255 conf, s)

/-- The rms of the incremental current. -/
def rmsOf (xs : List Int) : Nat :=
  if xs.isEmpty then 0 else isqrt ((xs.foldl (fun (a : Int) x => a + x * x) 0).toNat / xs.length)

/-- TW_SUPERVISION_END (R329): the window that began at the LEAD arrival ends. Without all phases of both quantities the
front-end has no incremental pair, and the supervision reads undecided. -/
def execTwSupervisionEnd (terminal : Nat) (dv di : List Int) (s : State) : Res :=
  .next (match burstOf s terminal with
    | none => s
    | some b => match b.lead with
      | none => s
      | some l =>
        let win := supWindow s terminal
        if !running s ∨ followsAgreed s ∨ b.windowOpen ∨ b.supIssued ∨ td1 s < l.time + usT win then s
        else
          let pair := twExists s (6 * terminal) && twExists s (6 * terminal + 3)
          let (pol, conf, s) := if pair then supReading terminal dv di s else (0, 0, s)
          let d : Desc := { (default : Desc) with
            term := terminal, mode := l.mode, quantity := l.quantity, kind := 1, pol := pol, conf := conf, time := l.time
            tqual := l.tqual, flags := l.flags &&& 0x30, rise := win, peak := rmsOf di }
          putBurst terminal (some { b with supIssued := true }) (issueDesc d s).1)

/-! The remote exchange (R338, R339). -/

/-- The exchange is enabled (PID 0x09A0). -/
def exchOn (s : State) : Bool := hasTw s && pv s 0x09A0 0 0 1 0 == 1

/-- Descriptors cut into parts of 16. -/
def parts16 : Nat → List Desc → List (List Desc)
  | 0, _ => []
  | fuel + 1, ds => if ds.length ≤ 16 then [ds] else ds.take 16 :: parts16 fuel (ds.drop 16)

/-- One exchange message (R338). -/
def exchMsg (seq burstSeq part : Nat) (last : Bool) (ds : List Desc) (s : State) : List Byte :=
  let signed := 1 ≤ pv s 0x1841 0 0 1 0
  let test := ds.any (fun (d : Desc) => d.flags &&& 0x30 != 0)
  let cfg := (prm s 0x09A0 0).getD []
  let head := [0x53#8, 0x57#8, 0x54#8, 0x57#8, 1#8] ++ leBytes 1 (b2n signed + 2 * b2n test + 4 * b2n last) ++ leBytes 2 64 ++
    serialBytes s ++ padTo 8 (bytesAt cfg 8 8) ++ watermark s ++ leBytes 4 seq ++ leBytes 4 burstSeq ++ bytesAt cfg 2 1 ++
    leBytes 1 ds.length ++ leBytes 2 part ++ stamp (td1 s) ++ leBytes 1 (td1Qual s) ++ zeros 3
  let body := ds.flatMap descBytes
  let whole := head ++ leBytes 4 (crc32 (head ++ zeros 4 ++ body)).toNat ++ body
  if signed then
    let m := whole ++ keyIdOf s.sec.idKey
    m ++ padTo 64 (Config.sign m)
  else whole

/-- The messages of a burst: LEAD first, then in arrival order (R338, R339). -/
def assembleMsgs (b : Burst) (s : State) : State :=
  match b.lead with
  | none => s
  | some l =>
    if !exchOn s ∨ s.cmd.restarting.isSome then s
    else
      let ds := l :: b.arrivals.filter (fun (d : Desc) => d.seq != l.seq)
      let ps := parts16 (ds.length + 1) ds
      (List.range ps.length).foldl (fun s k =>
        let seq := (s.acq.msgSeq + 1) % 2 ^ 32
        let m := exchMsg seq l.seq k (decide (k + 1 = ps.length)) (ps.getD k []) s
        { s with acq := { s.acq with msgSeq := seq, msgSend := s.acq.msgSend ++ [⟨m, td0 s, 0⟩] } }) s

/-- The TD0 offset of the next copy of a message. -/
def copyAt (n : Nat) : Nat := if n = 0 then 0 else if n = 1 then msT 20 else msT 100

/-- TW_EXCHANGE_SEND (R339): the first message whose copy is due goes to each peer; after the third it is done. -/
def execTwExchangeSend (s : State) : Res :=
  match s.acq.msgSend.find? (fun (m : TwSend) => due s m.at0 (copyAt m.done)) with
  | none => .next s
  | some m =>
    let cfg := (prm s 0x09A0 0).getD []
    let port := pv s 0x09A0 0 4 2 47218
    let rest := if m.done = 2 then s.acq.msgSend.filter (fun (x : TwSend) => x != m)
      else updFirst (fun (x : TwSend) => x == m) (fun x => { x with done := x.done + 1 }) s.acq.msgSend
    let s := { s with acq := { s.acq with msgSend := rest } }
    .next (if !exchOn s ∨ !mayTx s ∨ s.cmd.restarting.isSome then s
      else (List.range 2).foldl (fun s k =>
        match prm s 0x09A1 k with
        | some v => if beAt v 0 4 = 0 then s
          else sendUdpOn (2 ^ (leAt cfg 1 1)) 7 (beAt v 0 4) port [9] [] m.bytes s
        | none => s) s)

/-- The identity of an exchange message: LINE_ID, TERMINAL, BURST_SEQ, PART. -/
def msgKey (bs : List Byte) : Nat × Nat × Nat × Nat := (leAt bs 16 8, leAt bs 40 1, leAt bs 36 4, leAt bs 42 2)

/-- The first check of R339 that a message fails; 0 none. -/
def msgReject (s : State) (bs : List Byte) : Nat :=
  let count := leAt bs 41 1
  let body := 64 + 32 * count
  let signed := leAt bs 5 1 % 2 = 1
  let cfg := (prm s 0x09A0 0).getD []
  let kid := bytesAt bs body 8
  let key := ((List.range 4).filterMap (prm s 0x1840)).find? (fun k => keyIdOf k == kid)
  if bs.length < 64 ∨ leAt bs 60 4 ≠ (crc32 (bs.take 60 ++ zeros 4 ++ bytesAt bs 64 (32 * count))).toNat then 1
  else if bs.take 5 != [0x53#8, 0x57#8, 0x54#8, 0x57#8, 1#8] ∨ leAt bs 6 2 ≠ 64 ∨ count = 0 ∨ 16 < count ∨
      bs.length ≠ body + (if signed then 72 else 0) then 2
  else if bytesAt bs 16 8 != padTo 8 (bytesAt cfg 8 8) then 3
  else if bytesAt bs 40 1 == bytesAt cfg 2 1 then 4
  else if !signed ∧ pv s 0x1841 0 0 1 0 = 2 then 5
  else if signed ∧ !(match key with
      | some k => Config.ed25519 k (bs.take (body + 8)) (bytesAt bs (body + 8) 64)
      | none => false) then 6
  else 0

/-- The LEAD descriptor that a message carries first in part 0. -/
def msgLead (bs : List Byte) : Option Desc :=
  let d := descFrom (bytesAt bs 64 32)
  if leAt bs 42 2 = 0 ∧ d.flags.testBit 6 then some d else none

/-- An accepted message is counted and held for matching. -/
def holdMsg (k : Nat × Nat × Nat × Nat) (lead : Option Desc) (s : State) : State :=
  { s with acq := { s.acq with
    msgRx := satInc 32 s.acq.msgRx, msgs := s.acq.msgs ++ [⟨k.1, k.2.1, k.2.2.1, k.2.2.2, lead, td0 s⟩] } }

/-- A message of this identity is held. -/
def msgHeld (s : State) (k : Nat × Nat × Nat × Nat) : Bool :=
  s.acq.msgs.any (fun (m : TwMsg) => (m.lineId, m.terminal, m.burstSeq, m.part) == k)

/-- TW_MSG_RX (R339, R346): checked, deduplicated, held. The standby's own receptions only serve its cross-check (R538). -/
def execTwMsgRx (bytes : List Byte) (s : State) : Res :=
  if !running s ∨ !exchOn s ∨ s.cmd.restarting.isSome then .next s
  else
    let c := msgReject s bytes
    let k := msgKey bytes
    .next (if c ≠ 0 then submit .tw 0x4020 c { s with acq := { s.acq with msgRej := satInc 32 s.acq.msgRej } }
      else if followsAgreed s then { s with acq := { s.acq with msgOwn := (k :: s.acq.msgOwn).take 64 } }
      else if msgHeld s k then s
      else
        let s := holdMsg k (msgLead bytes) s
        sendAgree 3 ((s.acq.wave + 2) % 2 ^ 32) ([5, k.1, k.2.1, k.2.2.1, k.2.2.2] ++
          (match msgLead bytes with | some d => descVals d | none => [])) s)

/-- The standby uses an agreed exchange message (R538); one that it has not received itself is counted (R541). -/
def msgAgreed (v : List Nat) (s : State) : State :=
  let k := (v.getD 0 0, v.getD 1 0, v.getD 2 0, v.getD 3 0)
  let s := if s.acq.msgOwn.contains k then s else { s with pr := { s.pr with inXchk := satInc 32 s.pr.inXchk } }
  if msgHeld s k then s else holdMsg k (if (v.drop 4).isEmpty then none else some (descOf (v.drop 4))) s

/-- TW_MSG_EXPIRY (R339): messages held for 10 s of TD0 leave. -/
def execTwMsgExpiry (s : State) : Res :=
  .next { s with acq := { s.acq with msgs := s.acq.msgs.filter (fun (m : TwMsg) => !due s m.at0 (secT 10)) } }

/-! Closing of bursts (R321, R331). -/

/-- A burst has closed: its location job enters the queue where an entry is free, its messages are assembled. -/
def burstClosed (b : Burst) (s : State) : State :=
  let s := putBurst b.term none s
  let s := stalledJoin { s with acq := { s.acq with locQ := s.acq.locQ ++ [{ b with closedAt := td0 s }] } }
  assembleMsgs b s

/-- The end descriptor of a burst; TQUAL is that of its last arrival (R322). -/
def endDesc (b : Burst) (s : State) : Desc :=
  { (default : Desc) with
    term := b.term, kind := 2, time := b.lastTime, rise := b.count
    tqual := (b.arrivals.getLast?.map (fun (d : Desc) => d.tqual)).getD (td1Qual s)
    flags := b.arrivals.foldl (fun a (d : Desc) => a ||| (d.flags &&& 0x30)) 0 }

/-- The quiet time has passed at a TD1 instant with no arrival since the burst's last, and nothing of it is outstanding
(R321). -/
def quietPassed (s : State) (b : Burst) (t1 : Nat) : Bool :=
  !b.windowOpen && b.supIssued && decide (b.lastTime + msT (pv s 0x0545 0 0 2 10) ≤ t1)

/-- A burst closes with its end descriptor (R321, R322). -/
def endBurst (b : Burst) (s : State) : State := burstClosed b (issueDesc (endDesc b s) s).1

/-- TW_BURST_CLOSE (R321): the quiet time passes with no arrival. -/
def execTwBurstClose (terminal : Nat) (s : State) : Res :=
  .next (match burstOf s terminal with
    | none => s
    | some b => if running s ∧ !followsAgreed s ∧ quietPassed s b (td1 s) then endBurst b s else s)

/-- An arrival of this lane's own streams enters its terminal's burst (R321). -/
def arriveBurst (d : Desc) (s : State) : State :=
  let s := match burstOf s d.term with
    | some b =>
      if b.windowOpen ∧ b.openedAt + nsT 200 < d.time then closeWindow d.term s
      else if quietPassed s b d.time then endBurst b s
      else s
    | none => s
  match burstOf s d.term with
  | none =>
    let (b, s) := openBurst s d.term d.time
    putBurst d.term (some { b with arrivals := [d], count := 1 }) s
  | some b =>
    let b := { b with count := satInc 16 b.count }
    if b.windowOpen then putBurst d.term (some (b.take d true)) s
    else
      let (s, d, ok) := issueDesc d s
      putBurst d.term (some (b.take d ok)) s

/-- TW_ARRIVAL (R318 to R321). In a lane that follows agreed data its own arrivals only serve the cross-check (R324). -/
def execTwArrival (stream sec slot : Nat) (g : List Int) (cross : Nat) (sat : Bool) (vref : Int) (s : State) : Res :=
  if !hasTw s ∨ !running s ∨ 12 ≤ stream ∨ !twExists s stream ∨ pv s 0x0540 stream 0 1 1 = 0 ∨ !(twOf s stream).armed ∨
      !twReaches s stream 1 (g.getD cross 0) then .next s
  else
    let (d, s) := arrivalDesc stream sec slot g cross sat vref s
    -- TD0 of n0, which the hold of R319 and the blocks of R316 count from
    let ago := td1 s - ((d.time : Int) - s.tu.sgOffset + s.acq.twDelay * 2 ^ 32).toNat
    let s := updTw stream (fun x => { x with armed := false, lastArr := some (td0 s - ago) }) s
    if followsAgreed s then
      .next { s with acq := { s.acq with twOwn := s.acq.twOwn ++ [(d.term, 3 * d.quantity + d.mode, d.time, s.acq.waves)] } }
    else .next (arriveBurst d s)

/-- The standby's bursts follow the agreed descriptors (R324). -/
def followDesc (d : Desc) (s : State) : State :=
  let s := recDesc d { s with acq := { s.acq with twSeq := d.seq } }
  match d.kind with
  | 0 =>
    let s := { s with acq := { s.acq with
      twGiven := s.acq.twGiven ++ [(d.term, 3 * d.quantity + d.mode, d.time, s.acq.waves)] } }
    let (b, s) := match burstOf s d.term with | some b => (b, s) | none => openBurst s d.term d.time
    let b := { b.take d true with windowOpen := false, count := satInc 16 b.count }
    if d.flags.testBit 6 ∧ b.lead.isNone then tellBurst d.term d (putBurst d.term (some { b with lead := some d }) s)
    else putBurst d.term (some b) s
  | 1 => match burstOf s d.term with
    | some b => putBurst d.term (some { b with supIssued := true }) s
    | none => s
  | _ => match burstOf s d.term with | some b => burstClosed b s | none => s

/-- An own arrival and an agreed one are the same (R541): terminal, mode, and within 50 ns. -/
def sameArrival (a b : Nat × Nat × Nat × Nat) : Bool :=
  a.1 == b.1 && a.2.1 == b.2.1 && decide (((a.2.2.1 : Int) - b.2.2.1).natAbs ≤ nsT 50)

/-- Own arrivals of more than 8 waves ago that no agreed one matches are counted (R541); old entries leave. -/
def crossDescs (s : State) : State :=
  let old (x : Nat × Nat × Nat × Nat) : Bool := decide (x.2.2.2 + 8 < s.acq.waves)
  let bad := (s.acq.twOwn.filter (fun x => old x && !s.acq.twGiven.any (sameArrival x))).length
  { s with
    acq := { s.acq with twOwn := s.acq.twOwn.filter (fun x => !old x)
                        twGiven := s.acq.twGiven.filter (fun x => decide (s.acq.waves ≤ x.2.2.2 + 32)) }
    pr := { s.pr with inXchk := satAdd 32 s.pr.inXchk bad } }

/-- DESCRIPTOR_ENTRY (R215): the descriptor at the head of the crossing enters the graph; the standby uses the active's
(R324). -/
def execDescriptorEntry (s : State) : Res :=
  if !running s then .next s
  else if followsAgreed s then
    match agreeHead s 2 with
    | some a => .next (graphDesc (descOf a.vals) (followDesc (descOf a.vals) (agreeUsed 2 s)))
    | none => .next s
  else match s.acq.twQ with
    | [] => .next s
    | d :: q => .next (graphDesc d { s with acq := { s.acq with twQ := q } })

/-! Location (R331 to R337). -/

/-- L in m, v in 0.001 m/us, minimum confidence of a terminal (R331). -/
def locL (s : State) (t : Nat) : Nat := pv s 0x0546 t 0 4 100000
/-- v. -/
def locV (s : State) (t : Nat) : Nat := pv s 0x0547 t 0 4 293000
/-- Minimum confidence. -/
def locConf (s : State) (t : Nat) : Nat := pv s 0x0548 t 0 1 100

/-- A wave's path in mm: v in 0.001 m/us over a TD1 difference in 2^-40 ns. -/
def pathMm (v : Nat) (dt : Int) : Int := (v : Int) * dt / (1000 * 2 ^ 40)

/-- The node whose channels and settings the impedance estimate uses: the terminal's distance element, else its first
three voltage and current channels. -/
def locNode (s : State) (t : Nat) : Node :=
  match (nodes s).find? (fun (n : Node) => n.op == .distance && n.terminal == t) with
  | some n => n
  | none =>
    let cs := match s.img.cur with | some i => i.chans | none => []
    let of_ (q : Nat) : List Nat := ((List.range 16).filter (fun c => cs.any (fun (e : ChanEntry) =>
      e.channel == c && e.terminal == t && e.quantity == q))).take 3
    let pad (l : List Nat) : List Nat := (l ++ [255, 255, 255]).take 3
    { (default : Node) with op := .distance, terminal := t, chans := pad (of_ 1) ++ pad (of_ 0) ++ [255] }

/-- The imaginary part of a product. -/
def imMul (a b : Ph) : Int := (a.mul b).im

/-- The loop of smallest |Z| among some. -/
def smallestLoop (m : Meas) (k0 : Ph) (ok : List Nat) : Option Nat :=
  let smaller (x y : Nat) : Bool := decide ((loopV m x).sq * (loopI k0 m y).sq < (loopV m y).sq * (loopI k0 m x).sq)
  ok.foldl (fun (o : Option Nat) l => match o with
    | some x => if smaller l x then some l else o
    | none => some l) none

/-- The estimate from a loop's voltage and current and the change of its current (R334), in mm. -/
def estimateOf (z1 v cur dI : Ph) : Option Int :=
  let den := imMul (z1.mul cur) dI
  if den = 0 then none else some (imMul v dI * 1000000 * 2 ^ 149 / den)

/-- Positive-sequence line impedance per km of a terminal (PID 0x0549), in units of 2^-149. -/
def lineZ1 (s : State) (term : Nat) : Ph :=
  let zb := (prm s 0x0549 term).getD (leBytes 4 0x3CF5C28F ++ leBytes 4 0x3EA3D70A)
  ⟨fInt (BitVec.ofNat 32 (leAt zb 0 4)), fInt (BitVec.ofNat 32 (leAt zb 4 4))⟩

/-- The impedance estimate in mm (R334): the operating distance loop, or the loop of smallest |Z|; none without a valid
loop. -/
def estimate (s : State) (b : Burst) : Option Int :=
  let n := locNode s b.term
  let i := nowInst s
  let m := measFull s i n
  let m0 := measBack s i n ((s.acq.waves - b.waves) + 2 * cycleTokens m.f)
  let k0 := k0Of s i n.inst
  let ok := (List.range 6).filter (fun l => !isInv (loopQ m l) && (loopI k0 m l).sq != 0)
  let pick := (ok.find? (fun l => (elemOf s n).oper.testBit l)).or (smallestLoop m k0 ok)
  pick.bind (fun l =>
    let cur := loopI k0 m l
    estimateOf (lineZ1 s b.term) (loopV m l) cur (cur.sub (loopI k0 m0 l)).conj)

/-- Bursts whose wave of R334 (1.5 tracked cycles after they opened) has been released take their impedance estimate. -/
def takeEstimates (s : State) : State :=
  let ready (b : Burst) : Bool :=
    b.dz.isNone && decide (2 * b.waves + 3 * cycleTokens (trackedHz s (nowInst s) b.term).1 ≤ 2 * s.acq.waves)
  let f (b : Burst) : Burst := if ready b then { b with dz := some (estimate s b) } else b
  { s with acq := { s.acq with burst := s.acq.burst.map (fun o => o.map f), locQ := s.acq.locQ.map f } }

/-- The remote LEAD arrival that matches a local one, for a velocity (R332). -/
def remoteLead (s : State) (t v : Nat) (l : Desc) : Option Desc :=
  (s.acq.msgs.filterMap (fun (m : TwMsg) => m.lead)).find? (fun (d : Desc) =>
    d.quantity == l.quantity && d.mode == l.mode &&
    decide ((pathMm v (((l.time : Int) - d.time).natAbs : Nat)) * 100 ≤ 105 * (locL s t * 1000 : Nat)))

/-- Later arrivals of the LEAD's stream of sufficient confidence. -/
def laterOf (s : State) (b : Burst) (l : Desc) : List Desc :=
  b.arrivals.filter (fun (d : Desc) => d.quantity == l.quantity && d.mode == l.mode && decide (l.time < d.time) &&
    decide (locConf s b.term ≤ d.conf))

/-- The distances of the candidates of R335 in mm: direct and complementary. -/
def candidates (s : State) (b : Burst) (l : Desc) : List (Int × Bool) :=
  let len : Int := (locL s b.term * 1000 : Nat)
  ((laterOf s b l).filter (fun (d : Desc) =>
      d.pol == l.pol && decide (pathMm (locV s b.term) ((d.time : Int) - l.time) < 2 * len))).flatMap (fun d =>
    let x := pathMm (locV s b.term) ((d.time : Int) - l.time) / 2
    [(x, true), (len - x, false)])

/-- The single-ended result (R335): the distance nearest to the estimate within max(2 km, 0.1 L); a direct one in place of
a complementary one within 50 m of it. -/
def singleEnded (s : State) (b : Burst) (l : Desc) (dz : Int) : Option Int :=
  let lim : Nat := max 2000000 (locL s b.term * 100)
  let near := (candidates s b l).filter (fun x => decide ((x.1 - dz).natAbs ≤ lim))
  let best := near.foldl (fun (o : Option (Int × Bool)) x => match o with
    | some y => if (x.1 - dz).natAbs < (y.1 - dz).natAbs then some x else o
    | none => some x) none
  best.map (fun x => match near.find? (fun y => y.2 && decide ((y.1 - x.1).natAbs ≤ 50000)) with
    | some y => if x.2 then x.1 else y.1
    | none => x.1)

/-- Bytes cut into companions of 48. -/
def cut48 : Nat → List Byte → List (List Byte)
  | 0, _ => []
  | fuel + 1, bs => if bs.isEmpty then [] else padTo 48 (bs.take 48) :: cut48 fuel (bs.drop 48)

/-- A result in mm as whole metres, rounded. -/
def metres (mm : Int) : Int := (mm + 500) / 1000

/-- The location reaches the record that the burst opened (R336, R493, R495). -/
def attachLoc (b : Burst) (dist method : Nat) (s : State) : State :=
  let mine (r : Record) : Bool := decide (b.openedAt ≤ r.t0) && decide (r.t0 ≤ b.lastTime)
  let f (r : Record) : Record := { r with locDist := dist, locMethod := method, flags := r.flags ||| 0x8000#16 }
  { s with dr := { s.dr with cap := s.dr.cap.map (fun r => if mine r then f r else r), reel := updFirst mine f s.dr.reel } }

/-- TW_LOCATION (R336). A negative estimate has no place in the value; the value is then open. -/
def located (b : Burst) (method : Nat) (deg : Bool) (mm : Int) (remote : Option Desc) (s : State) : State :=
  let (dist, s) : Nat × State := if metres mm < 0 then (let (v, s) := freshNat s; (v % 2 ^ 32, s))
    else ((metres mm).toNat % 2 ^ 32, s)
  let tOf (d : Option Desc) : List Byte := match d with | some d => stamp d.time | none => zeros 12
  let cs := match b.lead with | some l => candidates s b l | none => []
  let dz := match b.dz with | some (some z) => unsgn 32 (metres z) | _ => 0x80000000
  let snap := leBytes 1 method ++ leBytes 1 (b2n deg) ++ zeros 2 ++ tOf b.lead ++ tOf remote ++ leBytes 4 dz ++
    cs.flatMap (fun c => leBytes 4 (unsgn 32 (metres c.1)))
  let s := { s with acq := { s.acq with
    locDist := dist, locResults := wrapInc 8 s.acq.locResults, locMethod := method, locDegraded := deg, locTerm := b.term } }
  submitParts .tw 0x4010 dist (cut48 (snap.length + 1) snap) (attachLoc b dist method s)

/-- TW_LOCATION_FAILED. -/
def locFailed (cause : Nat) (s : State) : State := submit .tw 0x4011 cause { s with acq := { s.acq with locCause := cause } }

/-- Methods 2 and 3, or no result (R331, R335). -/
def locByImpedance (b : Burst) (s : State) : State :=
  match b.dz with
  | some (some z) =>
    match b.lead.bind (fun l => singleEnded s b l z) with
    | some d => located b 2 false d none s
    | none => located b 3 false z none s
  | _ => locFailed (match b.lead with
      | some l => if l.conf < locConf s b.term then 1 else 2
      | none => if hasTw s then 1 else 2) s

/-- A TQUAL accuracy class. -/
def clsBits (d : Desc) : Nat := d.tqual % 16

/-- The location of a burst (R331 to R335). -/
def locate (b : Burst) (s : State) : State :=
  match b.lead with
  | none => locByImpedance b s
  | some l =>
    match remoteLead s b.term (locV s b.term) l with
    | none => locByImpedance b s
    | some r =>
      let usable (d : Desc) : Bool := decide (locConf s b.term ≤ d.conf) && decide (clsBits d ≤ 1)
      if !usable l || !usable r then locByImpedance b s
      else
        let len : Int := (locL s b.term * 1000 : Nat)
        let d := (len + pathMm (locV s b.term) ((l.time : Int) - r.time)) / 2
        if d * 100 < -len ∨ 101 * len < d * 100 then locByImpedance b (locFailed 3 s)
        else
          let deg := clsBits l == 1 || clsBits r == 1 || decide (l.conf < 120) || decide (r.conf < 120)
          located b 1 deg (clampInt 0 len d) (some r) s

/-- The velocity from a path in m and a TD1 difference, 0.001 m/us (R337). -/
def velocity (m : Nat) (dt : Nat) : Nat := if dt = 0 then 0 else (2 * m * 1000000 * 2 ^ 40 + dt) / (2 * dt)

/-- The velocity measurement takes its burst (R337). -/
def measureVel (b : Burst) (s : State) : State :=
  if !b.vm ∨ s.acq.vmState ≠ 1 then s
  else
    let len := locL s b.term
    let v := match b.lead with
      | none => 0
      | some l => match remoteLead s b.term 250000 l with
        | some r => velocity len ((l.time : Int) - r.time).natAbs
        | none =>
          match (laterOf s b l).find? (fun (d : Desc) =>
              decide (2 * len * 1000 * 2 ^ 40 ≤ 300 * (d.time - l.time)) && decide (250 * (d.time - l.time) ≤ 2 * len * 1000 * 2 ^ 40)) with
          | some d => velocity (2 * len) (d.time - l.time)
          | none => 0
    if 250000 ≤ v ∧ v ≤ 300000 then
      submit .tw 0x4030 v { s with acq := { s.acq with vel := v, vmState := 2 } }
    else { s with acq := { s.acq with vmState := 3 } }

/-- TW_LOCATION_DONE (R237, R331, R339, R346): the oldest closed burst of a terminal whose job has started, once a matching
message is there or 2 s of TD0 have passed, and, unless both ends serve, its estimate has been taken. -/
def execTwLocationDone (terminal : Nat) (s : State) : Res :=
  match s.acq.locQ.find? (fun (b : Burst) => b.term == terminal) with
  | none => .next s
  | some b =>
    let remote := b.lead.bind (fun l => remoteLead s terminal (locV s terminal) l)
    let waited := due s b.closedAt (secT 2)
    let job := s.gr.jobs.find? (fun (j : Job) => b.job == some j.id && j.started)
    let go := if hasTw s then (remote.isSome && b.dz.isSome) || waited else b.dz.isSome
    if !running s ∨ !go ∨ job.isNone then .next s
    else
      let s := { s with acq := { s.acq with locQ := s.acq.locQ.erase b } }
      let s := if exchOn s ∧ remote.isNone ∧ b.lead.isSome then submit .tw 0x4021 terminal s else s
      let s := locate b (measureVel b s)
      .next (pump (match job with | some j => endJob j s | none => s))

/-- TW_VMEAS_TIMEOUT (R337): 60 s of TD0 pass with the measurement armed and no burst for it. -/
def execTwVmeasTimeout (s : State) : Res :=
  let taken := s.acq.burst.any (fun (o : Option Burst) => match o with | some b => b.vm | none => false) ||
    s.acq.locQ.any (fun (b : Burst) => b.vm)
  .next (if s.acq.vmState = 1 ∧ !taken ∧ due s s.acq.vmAt (secT 60) then { s with acq := { s.acq with vmState := 3 } } else s)

end Sys2Proof.Machine
end

