-- ==== Sys2Proof/Machine/Acquire.lean ====
section
/-! DEFINITION. Acquisition below the headbox (06): the slalom rotation, the sampled-value subscriptions, the high-rate
blocks. Residuals of a reference check come in the order 0 V, +3.9 V, -3.9 V, +1.95 V: the first in codes, the others in
10^-9 of the reference. -/

namespace Sys2Proof.Machine

/-! The slalom rotation (R170 to R177). -/

/-- The spare slice; 31 none. At start it is the last slice of the part (R170). -/
def spareOf (s : State) : Nat := if s.code = .e ∧ s.acq.spare = 16 then 8 else s.acq.spare

/-- The rotation runs: enabled (PID 0x0510), not halted and not resolving, with a spare. -/
def rotates (s : State) : Bool :=
  running s && pv s 0x0510 0 0 1 1 == 1 && s.acq.rotState == 0 && spareOf s != 31

/-- A reference check passes (R173). -/
def refPass (resid : List Int) : Bool :=
  decide ((resid.getD 0 0).natAbs ≤ 420) && (List.range 3).all (fun k => decide ((resid.getD (k + 1) 0).natAbs ≤ 200000))

/-- The corrections that a calibration gives are within their limits (R173): gain in 10^-9, offset in 1/256 code. -/
def calPass (gain ofs : Int) (resid : List Int) : Bool :=
  decide (gain.natAbs ≤ 10000000) && decide (ofs.natAbs ≤ 4096 * 256) && refPass resid

/-- The streams that an input feeds have been swapped to another slice (R313). -/
def noteSwap (input : Nat) (s : State) : State :=
  (List.range 12).foldl (fun s m =>
    if (twPhases s (m / 6) (m % 6 / 3)).any (fun (c : ChanEntry) => c.input == input) then
      updTw m (fun x => { x with swapAt := some (td0 s) }) s
    else s) s

/-- An input is served by another slice from now on (R174). -/
def serveBy (input slice : Nat) (s : State) : State :=
  noteSwap input { s with acq := { s.acq with serving := putAt 16 s.acq.serving input slice } }

/-- Channels that an input feeds are questionable while a mismatch on it is resolved (R176). -/
def resolveMark (input : Nat) (on : Bool) (s : State) : State :=
  let feeds (n : Nat) : Bool := match chanEntry s n with | some e => e.source == 1 && e.input == input | none => false
  { s with acq := { s.acq with ch := (List.range 16).map (fun n =>
      let c := s.acq.ch.getD n Chan.reset
      if feeds n then { c with resolving := on } else c) } }

/-- A slice is removed and the rotation halts (R177). -/
def removeSlice (k : Nat) (s : State) : State :=
  let s := { s with acq := { s.acq with
    removed := setB s.acq.removed k true, removedCnt := s.acq.removedCnt + 1, rotState := 2, spare := 31 } }
  submit .acq 0x2005 s.acq.removedCnt s

/-- The wave of the present rotation step that is released next: step m starts at sample index 1 600 m (R172). -/
def stepWave (s : State) : Nat := (s.tu.slot + 1) % 1600

/-- ROTATION_STEP_START (R172, R175): the next input; the same one after a void step, or where a re-phase cut the step short.
After 16 void steps on one input in succession the rotation goes on to the next. -/
def execRotationStepStart (s : State) : Res :=
  let a := s.acq
  if !rotates s ∨ stepWave s ≠ 0 then .next s
  else
    let next := (a.rotInput + 1) % paiCount s
    let again := (a.rotVoid && decide (a.voidRun < 16)) || a.rotPhase != .disconnect
    .next { s with acq := { a with
      rotStarted := true, rotPhase := .cal, rotVoid := false
      rotInput := if !a.rotStarted then 0 else if again then a.rotInput else next
      voidRun := if again then a.voidRun else 0 } }

/-- ROTATION_CAL_END, at wave 320 of the step (R172, R173): the spare's corrections are taken into service, or SLICE_CAL_FAIL. -/
def execRotationCalEnd (gain ofs : Int) (resid : List Int) (s : State) : Res :=
  let k := spareOf s
  if !rotates s ∨ !s.acq.rotStarted ∨ s.acq.rotPhase ≠ .cal ∨ stepWave s ≠ 320 then .next s
  else if calPass gain ofs resid && !(s.hlt.inj.any (fun j => j.det == 0x02 && j.applied)) then
    .next { s with acq := { s.acq with
      gain := putAt 17 s.acq.gain k gain, ofs := putAt 17 s.acq.ofs k ofs, rotPhase := .connect } }
  else .next (removeSlice k (fireDetOnce 0x02 k s))

/-- CONNECT gives way to PARALLEL at wave 336 of the step; a token of the input with OVERRANGE or SETTLE, or an invalid
one, voids the step (R172, R175). `idx` is the wave's sample index. -/
def rotWave (idx : Nat) (s : State) : State :=
  let a := s.acq
  let a := if a.rotState = 0 ∧ a.rotPhase = .connect ∧ 336 ≤ idx % 1600 then { a with rotPhase := .parallel, rotVoid := false } else a
  let s := { s with acq := a }
  if a.rotState ≠ 0 then s
  else if a.rotPhase = .parallel then
    let bad (n : Nat) : Bool := match chanEntry s n with
      | some e => e.source == 1 && e.input == a.rotInput &&
          (let q := (a.ch.getD n Chan.reset).qual; q.getLsbD 2 || q.getLsbD 3 || q.toNat % 4 == 1)
      | none => false
    if (List.range 16).any bad then { s with acq := { a with rotVoid := true } } else s
  else s

/-- ROTATION_DECISION, before wave 1 360 of the step is released (R172, R174 to R176): sums of (x - y)^2 and of y^2 over the
1 024 parallel waves. The roots are taken down to 1/1 024 of a code before they are compared (DESIGN CHOICE, log entry 60:
the rule gives no precision). -/
def execRotationDecision (sumD sumY : Nat) (s : State) : Res :=
  let a := s.acq
  if !rotates s ∨ a.rotPhase ≠ .parallel ∨ stepWave s ≠ 1360 then .next s
  else if a.rotVoid then .next (voidStep s)
  else
    -- rms values in 1/1024 code
    let y := isqrt (sumY * 1024)
    let lim := pv s 0x0511 0 0 2 840 * 1024 + pv s 0x0512 0 0 2 500 * y / 1000000
    let d := if injOn s 0x01 a.rotInput then 2 * lim else isqrt (sumD * 1024)
    let spare := spareOf s
    if d ≤ lim then
      let old := a.serving.getD a.rotInput 31
      let s := serveBy a.rotInput spare s
      .next { s with acq := { s.acq with spare := old, rotPhase := .disconnect, voidRun := 0 } }
    else
      let s := resolveMark a.rotInput true s
      .next { s with acq := { s.acq with
        rotState := 1, rotPhase := .spareCheck, mismatch := (d / 1024, lim / 1024), resSpare := spare, resChecks := ([], [])
        voidRun := 0 } }

/-- A mismatch is resolved (R176): SLICE_MISMATCH, the slice removed, the rotation halted. -/
def mismatchEnd (outcome removed serving : Nat) (s : State) : State :=
  let a := s.acq
  let res (l : List Int) : List Byte := (List.range 4).flatMap (fun k => leBytes 4 (unsgn 32 (l.getD k 0)))
  let snap := leBytes 4 a.mismatch.1 ++ leBytes 4 a.mismatch.2 ++ leBytes 1 a.resSpare ++ leBytes 1 serving ++ zeros 2 ++
    res a.resChecks.1 ++ res a.resChecks.2
  let s := resolveMark a.rotInput false s
  removeSlice removed (fireDetOnceP 0x01 (256 * outcome + removed) [padTo 48 snap] s)

/-- REFERENCE_CHECK_DONE (R176): the check of the spare, then of the serving slice. -/
def execReferenceCheckDone (resid : List Int) (s : State) : Res :=
  let a := s.acq
  if !running s ∨ a.rotState ≠ 1 then .next s
  else match a.rotPhase with
    | .spareCheck =>
      let s := { s with acq := { a with resChecks := (resid, []) } }
      if refPass resid then .next { s with acq := { s.acq with rotPhase := .connect } }
      else .next (mismatchEnd 1 a.resSpare (a.serving.getD a.rotInput 31) s)
    | .servingCheck =>
      let s := { s with acq := { a with resChecks := (a.resChecks.1, resid) } }
      if refPass resid then .next (mismatchEnd 3 a.resSpare a.spare (serveBy a.rotInput a.spare s))
      else .next (mismatchEnd 2 a.spare a.spare s)
    | _ => .next s

/-- SPARE_CONNECT_DONE (R176): the input moves to the spare; the slice that served it goes to the reference bus. -/
def execSpareConnectDone (s : State) : Res :=
  let a := s.acq
  if !running s ∨ a.rotState ≠ 1 ∨ a.rotPhase ≠ .connect then .next s
  else
    let old := a.serving.getD a.rotInput 31
    let s := serveBy a.rotInput a.resSpare s
    .next { s with acq := { s.acq with spare := old, rotPhase := .servingCheck } }

/-! Sampled-value subscriptions (R196 to R199, R574). -/

/-- Stream `v`. -/
def svOf (s : State) (v : Nat) : SvStream := s.acq.sv.getD v default

/-- Stream `v` changed. -/
def updSv (v : Nat) (f : SvStream → SvStream) (s : State) : State :=
  { s with acq := { s.acq with sv := putAt 2 s.acq.sv v (f (svOf s v)) } }

/-- The channels that a stream feeds take at least `k` SETTLE tokens (R185). -/
def settleSv (v k : Nat) (s : State) : State :=
  let feeds (n : Nat) : Bool := match chanEntry s n with | some e => e.source == 2 && e.input == v | none => false
  { s with acq := { s.acq with ch := (List.range 16).map (fun n =>
      let c := s.acq.ch.getD n Chan.reset
      if feeds n then { c with settle := max c.settle k } else c) } }

/-- The stream returns to WAITING (R198). -/
def svLost (v : Nat) (s : State) : State :=
  let was := (svOf s v).st
  let s := updSv v (fun x => { x with
    st := 1, goodRun := 0, lateRun := 0, settleLeft := 0, lost := if 2 ≤ was then satInc 32 x.lost else x.lost }) s
  if 2 ≤ was then submit .acq 0x2011 v s else s

/-- The subscribed stream that a frame belongs to (R574): destination, APPID and svID of PID 0x0984. -/
def svFor (s : State) (f : SvFrame) : Option Nat :=
  [0, 1].find? (fun v => match prm s 0x0984 v with
    | some b => beAt b 0 6 == f.dst && leAt b 6 2 == f.appid && bytesAt b 16 64 == padTo 64 f.svId
    | none => false)

/-- Samples a second of a stream (R196): 14 400 in frames of six ASDUs, 4 800 otherwise. -/
def svRate (x : SvStream) : Nat := if x.rate = 2 then 14400 else 4800

/-- The TD1 second of a sample: the one that brings it nearest to now (R197). -/
def svSecond (s : State) (rate n : Nat) : Nat :=
  let p := nsOf (td1 s) * rate / 1000000000
  let q := secOf (td1 s)
  if p + rate / 2 < n then q - 1 else if n + rate / 2 < p then q + 1 else q

/-- A frame's samples join those of the stream, newest first. -/
def svTake (v : Nat) (f : SvFrame) (s : State) : State :=
  let rate := svRate (svOf s v)
  let new := f.vals.zipIdx.map (fun (vs, i) =>
    let n := (f.smpCnt + i) % rate
    (⟨svSecond s rate n, n, vs, f.sim⟩ : SvSample))
  updSv v (fun x => { x with samples := (new.reverse ++ x.samples).take 192 }) s

/-- The SEC and INDEX of a channel's token in the wave of the present slot (R187, R197). -/
def tokenAt (s : State) (n : Nat) : Nat × Nat :=
  let k := s.tu.slot - tokLag s n
  (k / 16000, k % 16000)

/-- The samples that an SV channel's token is interpolated from, oldest first: 8 at 4 800 S/s, 16 at 14 400 S/s, around
its instant (R197); none while one of them has not arrived. With them the instant's place between two samples, in 1/16 000. -/
def svTaps (s : State) (n v : Nat) : Option (List SvSample) × Nat :=
  let x := svOf s v
  let rate := svRate x
  let t := if rate = 14400 then 16 else 8
  let at_ := tokenAt s n
  let p := at_.2 * rate
  let first := at_.1 * rate + p / 16000 + 1 - t / 2
  let taps := (List.range t).filterMap (fun j =>
    x.samples.find? (fun (y : SvSample) => y.sec * rate + y.n == first + j))
  (if taps.length = t then some taps else none, p % 16000)

/-- A sample that an SV channel's token needs has not arrived (R198). -/
def svLate (s : State) (n : Nat) : Bool :=
  match chanEntry s n with
  | some e => e.source == 2 && decide (2 ≤ (svOf s e.input).st) && (svTaps s n e.input).1.isNone
  | none => false

/-- SV_FRAME_RX (R196 to R199, R545, R574): rejected, a twin's second copy, or used; two valid frames in succession with
SmpSynch 2 start the resampler, SmpSynch below 2 ends it. A rejected frame breaks the succession (R198). -/
def execSvFrameRx (f : SvFrame) (s : State) : Res :=
  match svFor s f with
  | none => .next s
  | some v =>
    let x := svOf s v
    let b := (prm s 0x0984 v).getD []
    if !running s then .next s
    else if leAt b 8 4 ≠ f.confRev ∨ !(f.asdus == 1 || f.asdus == 6) ∨ !f.lenOk then
      .next (updSv v (fun x => { x with goodRun := 0 }) { s with net := { s.net with svRej := satInc 32 s.net.svRej } })
    else if x.smpCnt = some f.smpCnt then .next { s with net := { s.net with twinDup := satInc 32 s.net.twinDup } }
    else if f.sim ∧ pv s 0x0982 v 0 1 0 ≠ 1 then .next s
    else
      let s := updSv v (fun x => { x with
        smpCnt := some f.smpCnt, smpSynch := f.synch, rate := if f.asdus = 6 then 2 else 1
        goodRun := if f.synch = 2 then x.goodRun + 1 else 0, st := max x.st 1 }) s
      let s := svTake v f s
      if f.synch ≠ 2 then .next (svLost v s)
      else if (svOf s v).st = 1 ∧ 2 ≤ (svOf s v).goodRun then
        .next (settleSv v 8 (updSv v (fun x => { x with st := 2, settleLeft := 8, lateRun := 0 }) s))
      else .next s

/-- The streams at a wave (R198): `late` says which channels' samples had not arrived. 16 waves with late samples in
succession lose a stream; a settled one runs. -/
def svWave (late : Nat → Bool) (s : State) : State :=
  [0, 1].foldl (fun s v =>
    let x := svOf s v
    if x.st < 2 then s
    else
      let feeds (n : Nat) : Bool := match chanEntry s n with | some e => e.source == 2 && e.input == v | none => false
      let k := ((List.range 16).filter (fun n => feeds n && late n)).length
      let s := updSv v (fun x => { x with
        late := satAdd 32 x.late k, lateRun := if 0 < k then x.lateRun + 1 else 0, settleLeft := x.settleLeft - 1 }) s
      if 16 ≤ (svOf s v).lateRun then svLost v s
      else if x.st = 2 ∧ (svOf s v).settleLeft = 0 then submit .acq 0x2010 v (updSv v (fun x => { x with st := 3 }) s)
      else s) s

/-! Slice corrections (R171). -/

/-- A decimator's output in 1/256 code with its slice's corrections, the offset first, in codes, to the nearest (DESIGN
CHOICE, log entry 61: the rule gives neither order nor rounding). -/
def corrected (s : State) (slice : Nat) (x : Int) : Int :=
  divRound ((x + s.acq.ofs.getD slice 0) * (1000000000 + s.acq.gain.getD slice 0)) (256 * 1000000000)

/-- A 16-bit high-rate sample with its slice's corrections, brought into 16 bits. -/
def correctedHigh (s : State) (slice : Nat) (y : Int) : Int :=
  let x := divRound ((y * (256 * 8388607) + s.acq.ofs.getD slice 0 * 32767) * (1000000000 + s.acq.gain.getD slice 0))
    (256 * 8388607 * 1000000000)
  max (-32768) (min 32767 x)

/-! High-rate blocks (R314). -/

/-- The quality byte of an input's block that started 12.8 us ago. -/
def blockQual (s : State) (input : Nat) (above : Bool) : BitVec 8 :=
  let inj := injOn s 0x01 input || (List.range 16).any (fun n => injOn s 0x03 n &&
    (match chanEntry s n with | some e => e.source == 1 && e.input == input | none => false))
  BitVec.ofNat 8 ((if s.acq.serving.getD input 31 = 31 then 1 else 0) + 4 * b2n above + 16 * b2n inj + 32 * b2n inj +
    64 * b2n (syncAt s (td0 s - nsT 12800)))

/-- HIGH_RATE_BLOCK (R314): block `block` of TD1 second `sec`, per input its 256 samples before its slice's corrections (R171) and whether one exceeded 4.0 V,
and the rms of g per modal stream in 2^-26 uV. -/
def execHighRateBlock (sec block : Nat) (inputs : List (Nat × List Int × Bool)) (rms : List Nat) (s : State) : Res :=
  if !hasTw s ∨ !running s then .next s
  else
    let slot := (sec * 78125 + block) * 256
    let t1 := secT sec + nsT (block * 12800)
    let s := inputs.foldl (fun s (p : Nat × List Int × Bool) =>
      let q := blockQual s p.1 p.2.2
      recHigh p.1 slot t1 q (p.2.1.map (correctedHigh s (s.acq.serving.getD p.1 31))) { s with acq := { s.acq with hrQual := putAt 16 s.acq.hrQual p.1 q } }) s
    let s := (List.range 12).foldl (fun s m => match rms[m]? with | some r => twBlock m r s | none => s) s
    .next { s with acq := { s.acq with hrBlocks := s.acq.hrBlocks + 1 } }

end Sys2Proof.Machine
end

