-- ==== Sys2Proof/Machine/Program.lean ====
section
/-! DEFINITION. The check of a logic program (R348 to R356, R361): every instruction's coding and what it may write, then
the paths of every task and subroutine. -/

namespace Sys2Proof.Machine

/-- A parameter record of a list. -/
def getParam (ps : List Param) (pid index : Nat) : Option (List Byte) :=
  (ps.find? (fun p => p.pid == pid && p.index == index)).map (·.value)

/-- A field of a parameter record, or its default. -/
def getField (ps : List Param) (pid index off n dflt : Nat) : Nat :=
  match getParam ps pid index with | some v => leAt v off n | none => dflt

/-- OPCODE, SPACE and ADDR of an instruction (R348). -/
def opOf (w : Word) : Nat := w.toNat / 2 ^ 24

/-- SPACE of an instruction. -/
def spOf (w : Word) : Nat := w.toNat / 2 ^ 20 % 16

/-- ADDR of an instruction. -/
def adOf (w : Word) : Nat := w.toNat % 2 ^ 20

/-- Bits of a space's bit area (R349). -/
def bitArea : Nat → Nat
  | 2 => 65536 | 4 => 1024 | 5 => 1024 | 6 => 4096 | 7 => 4096 | 8 => 2048 | _ => 0

/-- Words of a space's word area (R349). -/
def wordArea : Nat → Nat
  | 0 => 2112 | 1 => 2112 | 3 => 16384 | 4 => 1024 | 5 => 1024 | 7 => 1024 | 8 => 512 | 9 => 16 | _ => 0

/-- A bit operand lies within its space (R350). -/
def bitOperand (sp a : Nat) : Bool :=
  if a < 65536 then decide (a < bitArea sp) else decide ((a - 65536) / 32 < wordArea sp)

/-- A word operand lies within its space; a K constant always does. -/
def wordOperand (sp a : Nat) : Bool := sp == 10 || decide (a < wordArea sp)

/-- What an instruction needs of the rest of the image: its parameters and its P space map. -/
structure ProgEnv where
  params : List Param
  graphBits : List Nat
  graphWords : List Nat
  timers : List Nat
  counters : List Nat
  deriving Repr

/-- An N bit or word is subscribed (PID 0x0921). -/
def subscribed (e : ProgEnv) (word : Bool) (a : Nat) : Bool :=
  e.params.any (fun p => p.pid == 0x0921 && (if word then decide (2 ≤ leAt p.value 1 1) && decide (leAt p.value 1 1 ≤ 4)
    else leAt p.value 1 1 == 1) && leAt p.value 4 4 == a)

/-- A word of a space may be written (R349, R356). -/
def wordWritable (e : ProgEnv) (sp w : Nat) : Bool :=
  match sp with
  | 1 => true
  | 3 => true
  | 7 => !subscribed e true w
  | 8 => !e.graphWords.contains w
  | _ => false

/-- A bit may be written: not a Q bit of a trip-class DO (R356). -/
def bitWritable (e : ProgEnv) (sp a : Nat) : Bool :=
  if 65536 ≤ a then
    wordWritable e sp ((a - 65536) / 32) && !(sp == 1 && decide (a < 65536 + 8) && getField e.params 0x0550 (a - 65536) 0 1 0 == 1)
  else match sp with
    | 2 => true
    | 7 => !subscribed e false a
    | 8 => !e.graphBits.contains a
    | _ => false

/-- An instruction is coded as R348 to R355 and R361 say and writes only what R356 lets it write. `n` is the program's
length. -/
def instrOk (e : ProgEnv) (n : Nat) (w : Word) : Bool :=
  let op := opOf w
  let sp := spOf w
  let a := adOf w
  if [0x01, 0x02, 0x03, 0x04, 0x05, 0x06, 0x07, 0x08].contains op then bitOperand sp a
  else if [0x09, 0x0A, 0x0B, 0x10, 0x11, 0x12, 0x13, 0x14, 0x15, 0x4D, 0x4E, 0x53, 0x64, 0x65, 0x74, 0x75, 0x76, 0x7A].contains op then
    sp == 0 && a == 0
  else if op = 0x18 ∨ op = 0x19 then sp == 6 && decide (a < 4096)
  else if 0x20 ≤ op ∧ op ≤ 0x23 then bitOperand sp a && bitWritable e sp a
  else if 0x28 ≤ op ∧ op ≤ 0x2C then sp == 4 && e.timers.contains a
  else if 0x30 ≤ op ∧ op ≤ 0x34 then sp == 5 && e.counters.contains a
  else if op = 0x41 ∨ op = 0x42 then wordOperand sp a && wordWritable e sp a
  else if op = 0x44 then sp == 10
  else if op = 0x40 ∨ (0x48 ≤ op ∧ op ≤ 0x4C) ∨ (0x50 ≤ op ∧ op ≤ 0x52) ∨ (0x58 ≤ op ∧ op ≤ 0x5D) ∨ (0x60 ≤ op ∧ op ≤ 0x63) ∨
      (0x68 ≤ op ∧ op ≤ 0x6A) then wordOperand sp a
  else if 0x54 ≤ op ∧ op ≤ 0x56 then sp == 10 && decide (a ≤ 31)
  else if 0x70 ≤ op ∧ op ≤ 0x73 then sp == 0 && decide (a < n)
  else if op = 0x78 then sp == 10 && decide (a ≤ 8191)
  else if op = 0x79 then sp == 3 && decide (a + 7 ≤ 16384)
  else false

/-- Where the routines of a program begin: task entries and call targets, in no order. -/
def routines (code : List Word) (entries : List Nat) : List Nat :=
  (entries ++ (code.filter (fun w => opOf w == 0x73)).map adOf).eraseDups

/-- The end of the routine that begins at `lo`: the next routine's beginning, or the program's end. -/
def routineEnd (starts : List Nat) (lo n : Nat) : Nat :=
  starts.foldl (fun a b => if lo < b ∧ b < a then b else a) n

/-- An instruction is LD or LDN. -/
def loads : Option Word → Bool
  | some x => opOf x == 0x01 || opOf x == 0x02
  | none => false

/-- The successors of an instruction at `pc` with the addresses of the open brackets, innermost first; none where the
instruction breaks a rule of R355 or R356. -/
def nexts (code : List Word) (task : Bool) (pc : Nat) (st : List Nat) : Option (List (Nat × List Nat)) :=
  match code[pc]? with
  | none => none
  | some w =>
    let op := opOf w
    if 0x10 ≤ op ∧ op ≤ 0x14 then
      if loads (code[pc + 1]?) && decide (st.length < 16) then some [(pc + 1, pc :: st)] else none
    else if op = 0x15 then (match st with | [] => none | _ :: rest => some [(pc + 1, rest)])
    else if op = 0x70 then some [(adOf w, st)]
    else if op = 0x71 ∨ op = 0x72 then some [(pc + 1, st), (adOf w, st)]
    else if op = 0x75 then (if st.isEmpty then some [] else none)
    else if op = 0x74 then (if st.isEmpty = true ∧ task = false then some [] else none)
    else some [(pc + 1, st)]

/-- Walks every path of a routine in [lo, hi): each address is reached with one set of open brackets, and no path leaves the
range. Answers the addresses reached with their open brackets, or the first address that breaks a rule. -/
def walk (code : List Word) (task : Bool) (lo hi : Nat) :
    Nat → List (Nat × List Nat) → List (Nat × List Nat) → Except Nat (List (Nat × List Nat))
  | 0, _, seen => .ok seen
  | _, [], seen => .ok seen
  | k + 1, (pc, st) :: todo, seen =>
    if pc < lo ∨ hi ≤ pc then .error (min pc (hi - 1))
    else match seen.find? (fun x => x.1 == pc) with
      | some x => if x.2 = st then walk code task lo hi k todo seen else .error pc
      | none =>
        match nexts code task pc st with
        | none => .error pc
        | some ns => walk code task lo hi k (ns ++ todo) ((pc, st) :: seen)

/-- The routines that a routine calls. -/
def callsOf (code : List Word) (lo hi : Nat) : List Nat :=
  (((code.take hi).drop lo).filter (fun w => opOf w == 0x73)).map adOf

/-- Calls from a routine nest no deeper than `k`; a recursion nests without end (R356). -/
def callsFit (code : List Word) (starts : List Nat) : Nat → Nat → Bool
  | 0, lo => (callsOf code lo (routineEnd starts lo code.length)).isEmpty
  | k + 1, lo => (callsOf code lo (routineEnd starts lo code.length)).all (callsFit code starts k)

/-- A routine as walked: where it begins, and its reached addresses with their open brackets. -/
abbrev Routine := Nat × List (Nat × List Nat)

/-- What a routine's reached addresses are, called routines left out. -/
def reachOf (rs : List Routine) (r : Nat) : List (Nat × List Nat) :=
  match rs.find? (fun x => x.1 == r) with | some x => x.2 | none => []

/-- Brackets along a path, those open at the calls on the way counted, are no deeper than `room` (R356); `k` bounds the
nesting of calls. -/
def bracketsFit (code : List Word) (rs : List Routine) : Nat → Nat → Nat → Bool
  | 0, _, _ => true
  | k + 1, r, room => (reachOf rs r).all (fun x =>
      decide (x.2.length ≤ room) && (match code[x.1]? with
        | some w => opOf w != 0x73 || bracketsFit code rs k (adOf w) (room - x.2.length)
        | none => true))

/-- The Q words that the reached instructions of a routine and of those it calls write (R356). -/
def qWritesOf (code : List Word) (rs : List Routine) : Nat → Nat → List Nat
  | 0, _ => []
  | k + 1, r => (reachOf rs r).flatMap (fun x => match code[x.1]? with
      | some w =>
        let op := opOf w
        if op = 0x73 then qWritesOf code rs k (adOf w)
        else if spOf w ≠ 1 then []
        else if 0x20 ≤ op ∧ op ≤ 0x23 then [(adOf w - 65536) / 32]
        else if op = 0x41 ∨ op = 0x42 then [adOf w]
        else []
      | none => [])

/-- No two of some lists share an element. -/
def listsDisjoint : List (List Nat) → Bool
  | [] => true
  | t :: ts => ts.all (fun u => !t.any (fun w => u.contains w)) && listsDisjoint ts

/-- The period and phase of a cyclic task (R362): a divisor of 16 000 waves of at least 4, or 1 s to 60 s in whole
seconds; the phase below the period. -/
def periodOk (t : TaskCfg) : Bool :=
  decide (8 ≤ t.task) ||
    (((decide (4 ≤ t.period) && decide (t.period ≤ 16000) && 16000 % (max 1 t.period) == 0) ||
      (t.period % 16000 == 0 && decide (1 ≤ t.period / 16000) && decide (t.period / 16000 ≤ 60))) && decide (t.phase < t.period))

/-- The first address at which a logic section's program breaks a rule, or its length where a task breaks one (R356, R362). -/
def programError (e : ProgEnv) (sec : LogicSec) : Option Nat :=
  let code := sec.program
  let n := code.length
  let entries := sec.tasks.map (fun t => t.entry)
  let starts := routines code entries
  match (List.range n).find? (fun i => match code[i]? with | some w => !instrOk e n w | none => true) with
  | some i => some i
  | none =>
    let walked := starts.map (fun r =>
      (r, walk code (entries.contains r) r (routineEnd starts r n) (2 * n + 2) [(r, [])] []))
    match walked.findSome? (fun x => match x.2 with | .error a => some a | .ok _ => none) with
    | some a => some a
    | none =>
      let rs : List Routine := walked.filterMap (fun x => match x.2 with | .ok l => some (x.1, l) | .error _ => none)
      match entries.find? (fun r => !callsFit code starts 8 r || !bracketsFit code rs 9 r 16) with
      | some r => some r
      | none =>
        let q := sec.tasks.map (fun t => t.qWords ++ qWritesOf code rs 9 t.entry)
        if listsDisjoint q && sec.tasks.all periodOk then none else some n

end Sys2Proof.Machine
end

