-- ==== Sys2Proof/Machine/Schema.lean ====
section
/-! DEFINITION. The parameter IDs of every section: value length, index range and value range (R102, R105, R256, R641 and
the settings tables of the owning chapters). -/

namespace Sys2Proof.Machine

/-! Element and measurement settings (R256, R274, R330, R641). -/

/-- The form of a setting: a reference, a whole number of `n` bytes in a range and a step, the signed 16-bit form, or a
binary32 number in a range given in units of 1 / den. -/
inductive SetForm where
  | ref
  | nat (n lo hi step : Nat)
  | i16 (lo hi : Int)
  | fp (den : Nat) (lo hi : Int)
  deriving DecidableEq, Repr

/-- A reference of R271: a P bit, a DI, a trip matrix row command, or none. -/
def refOk (r : Nat) : Bool :=
  decide (r < 0x800) || (decide (0x800 ≤ r) && decide (r < 0x810)) || (decide (0xC00 ≤ r) && decide (r < 0xC30)) || r == 0xFFFF

/-- A binary32 value is finite and lies within [lo / den, hi / den]. -/
def fpWithin (v den : Nat) (lo hi : Int) : Bool :=
  let w : Word := BitVec.ofNat 32 v
  decide (fExp w ≠ 255) && decide (lo * 2 ^ 149 ≤ fInt w * den) && decide (fInt w * den ≤ hi * 2 ^ 149)

/-- The measurement settings, low bytes 0x01 to 0x0B (R256). -/
def measureForm : Nat → Option SetForm
  | 0x01 => some (.nat 1 5 50 1) | 0x02 => some (.nat 1 2 50 1) | 0x03 => some (.fp 10 1 100) | 0x04 => some (.nat 1 2 50 1)
  | 0x05 => some (.nat 1 0 1 1) | 0x06 => some (.fp 1000 0 10000) | 0x07 => some (.fp 10 (-1800) 1800)
  | 0x08 => some (.nat 1 0 1 1) | 0x09 => some (.nat 1 0 1 1) | 0x0A => some (.nat 1 0 1 1)
  | 0x0B => some (.nat 4 1 1000000 1)
  | _ => none

/-- The overcurrent and directional settings (R275, R281), and the common ones (R274). -/
def currentForm : Nat → Option SetForm
  | 0x10 => some (.nat 1 0 1 1) | 0x11 => some .ref
  | 0x20 => some (.nat 1 0 2 1) | 0x21 => some (.nat 1 0 8 1) | 0x22 => some (.fp 100 5 4000) | 0x23 => some (.fp 1000 0 300000)
  | 0x24 => some (.fp 1000 10 15000) | 0x25 => some (.nat 1 0 2 1) | 0x26 => some (.fp 1000 0 60000)
  | 0x27 => some (.fp 1000 0 10000) | 0x28 => some .ref
  | 0x30 => some (.nat 1 0 3 1) | 0x31 => some (.nat 1 0 90 1) | 0x32 => some (.fp 10 5 200) | 0x33 => some (.nat 1 2 100 1)
  | 0x34 => some (.nat 1 5 100 1)
  | _ => none

/-- The distance, load encroachment, swing and incremental distance settings. -/
def distanceForm : Nat → Option SetForm
  | 0x40 => some (.nat 1 0 1 1) | 0x41 => some (.nat 1 0 2 1) | 0x42 => some (.fp 100 5 100000) | 0x43 => some (.fp 10 300 900)
  | 0x44 => some (.fp 100 5 100000) | 0x45 => some (.fp 100 5 100000) | 0x46 => some (.fp 10 (-300) 300)
  | 0x47 => some (.fp 1000 0 10000) | 0x48 => some (.nat 1 1 0x3F 1) | 0x49 => some (.nat 1 5 100 1)
  | 0x4A => some (.nat 1 5 100 1) | 0x4B => some (.nat 1 0 1 1) | 0x4C => some (.nat 1 0 1 1) | 0x4D => some (.fp 100 5 50)
  | 0x50 => some (.fp 100 100 100000) | 0x51 => some (.nat 1 5 70 1) | 0x52 => some (.nat 1 5 70 1) | 0x53 => some (.nat 1 0 1 1)
  | 0x58 => some (.fp 100 100 100000) | 0x59 => some (.fp 100 100 100000) | 0x5A => some (.nat 2 1 1000 1)
  | 0x5B => some (.nat 2 100 20000 10) | 0x5C => some (.nat 1 2 20 1) | 0x5D => some (.nat 1 5 100 1) | 0x5E => some (.fp 100 10 1000)
  | 0x60 => some (.fp 100 5 100000) | 0x61 => some (.fp 10 300 900) | 0x62 => some (.fp 100 100 200)
  | 0x63 => some (.nat 1 5 100 1) | 0x64 => some (.nat 1 1 0x3F 1)
  | _ => none

/-- The voltage, frequency, synchrocheck, breaker failure, switch-onto-fault and travelling-wave settings. -/
def otherForm : Nat → Option SetForm
  | 0x70 => some (.nat 1 0 1 1) | 0x71 => some (.nat 1 0 4 1) | 0x72 => some (.fp 10 20 2000) | 0x73 => some (.nat 1 0 1 1)
  | 0x74 => some (.fp 1000 0 300000) | 0x75 => some (.fp 10 20 500)
  | 0x78 => some (.nat 1 0 4 1) | 0x79 => some (.fp 100 4000 7000) | 0x7A => some (.fp 100 5 1000) | 0x7B => some (.fp 1000 0 300000)
  | 0x7C => some (.nat 1 10 90 1)
  | 0x80 => some (.fp 10 10 500) | 0x81 => some (.fp 100 1 200) | 0x82 => some (.nat 1 1 90 1) | 0x83 => some (.nat 1 10 100 1)
  | 0x84 => some (.nat 1 5 80 1) | 0x85 => some (.nat 1 0 7 1) | 0x86 => some (.i16 (-180) 180) | 0x87 => some (.fp 100 0 1000)
  | 0x90 => some (.nat 1 5 200 1) | 0x91 => some (.fp 1000 0 1000) | 0x92 => some (.fp 1000 50 1000) | 0x93 => some .ref
  | 0x94 => some .ref | 0x95 => some (.nat 1 0 1 1) | 0x96 => some .ref
  | 0xA0 => some .ref | 0xA1 => some (.fp 100 10 200) | 0xA2 => some (.nat 1 1 3 1) | 0xA3 => some .ref | 0xA4 => some (.fp 100 50 4000)
  | 0xB0 => some (.fp 100 10 90) | 0xB1 => some (.nat 1 0 255 1) | 0xB2 => some (.nat 1 5 100 1) | 0xB3 => some (.fp 100 5 90)
  | 0xB4 => some (.nat 1 5 50 1) | 0xB5 => some (.nat 1 0 1 1) | 0xB6 => some (.nat 1 0 1 1)
  | _ => none

/-- The form of a setting by its low byte. -/
def setForm (low : Nat) : Option SetForm :=
  if low < 0x10 then measureForm low else if low < 0x40 then currentForm low else if low < 0x70 then distanceForm low
  else otherForm low

/-- A setting's value has its form (R641). -/
def setOk (low : Nat) (v : List Byte) : Bool :=
  match setForm low with
  | none => false
  | some .ref => v.length == 2 && refOk (leNat v)
  | some (.nat n lo hi step) => v.length == n && decide (lo ≤ leNat v) && decide (leNat v ≤ hi) && leNat v % step == 0
  | some (.i16 lo hi) => v.length == 2 && decide (lo ≤ sgn 16 (leNat v)) && decide (sgn 16 (leNat v) ≤ hi)
  | some (.fp den lo hi) => v.length == 4 && fpWithin (leNat v) den lo hi

/-- The references among the settings. -/
def isRefSetting (low : Nat) : Bool := setForm low == some .ref

/-! The other sections. -/

/-- A value of `n` bytes at an index below `count`, with a further condition. An index outside its table (a 33rd publication, a
fifth PMU stream) breaks the record's form and so answers FORMAT, not ADMISSION (DESIGN CHOICE, log entry 77). -/
def shaped (v : List Byte) (n index count : Nat) (ok : Bool) : Bool := v.length == n && decide (index < count) && ok

/-- The field of `n` bytes at `o` lies within [lo, hi]. -/
def inRange (v : List Byte) (o n lo hi : Nat) : Bool := decide (lo ≤ leAt v o n) && decide (leAt v o n ≤ hi)

/-- A trip matrix row exists: 0 to 7 and 16 to 47 (R305). -/
def rowExists (r : Nat) : Bool := decide (r < 8) || (decide (16 ≤ r) && decide (r < 48))

/-- I/O assignment (R201, R310, R344, R434, R642). -/
def ioOk (pid index : Nat) (v : List Byte) : Bool :=
  match pid with
  | 0x0510 => shaped v 1 index 1 (inRange v 0 1 0 1)
  | 0x0511 => shaped v 2 index 1 (inRange v 0 2 100 65535)
  | 0x0512 => shaped v 2 index 1 (inRange v 0 2 100 10000)
  | 0x0514 => shaped v 1 index 1 (inRange v 0 1 0 1)
  | 0x0520 => shaped v 8 index 1 (inRange v 1 1 0 7 && inRange v 2 1 1 3 && inRange v 4 1 0 15 && inRange v 5 1 0 15 && inRange v 6 1 0 15)
  | 0x0521 => shaped v 2 index 1 (decide (leNat v < 512) || leNat v == 0xFFFF)
  | 0x0530 => shaped v 64 index 48 (rowExists index && (List.range 32).all (fun k => refOk (leAt v (2 * k) 2)))
  | 0x0531 => shaped v 2 index 48 (rowExists index && inRange v 0 2 0 2000)
  | 0x0532 => shaped v 1 index 48 (rowExists index && inRange v 0 1 0 2 && !(decide (16 ≤ index) && leNat v == 1))
  | 0x0533 => shaped v 4 index 48 (rowExists index && inRange v 0 1 0 1 && inRange v 2 2 5 200)
  | 0x0534 => shaped v 2 index 48 (rowExists index && inRange v 0 2 100 10000)
  | 0x0535 => shaped v 2 index 48 (rowExists index && refOk (leNat v))
  | 0x0536 => shaped v 1 index 48 (rowExists index && inRange v 0 1 0 1)
  | 0x0540 => shaped v 1 index 12 (inRange v 0 1 0 1)
  | 0x0541 => shaped v 2 index 12 (inRange v 0 2 20 200)
  | 0x0542 => shaped v 2 index 12 (inRange v 0 2 5 5000)
  | 0x0543 => shaped v 2 index 12 (inRange v 0 2 10 10000)
  | 0x0544 => shaped v 2 index 1 (inRange v 0 2 1 100)
  | 0x0545 => shaped v 2 index 1 (inRange v 0 2 2 100)
  | 0x0546 => shaped v 4 index 2 (inRange v 0 4 1000 1500000)
  | 0x0547 => shaped v 4 index 2 (inRange v 0 4 250000 300000)
  | 0x0548 => shaped v 1 index 2 true
  | 0x0549 => shaped v 8 index 2 (fpWithin (leAt v 0 4) 1 0 10 && fpWithin (leAt v 4 4) 1 0 10)
  | 0x0550 => shaped v 4 index 8 (inRange v 0 1 0 2 && inRange v 1 1 0 1 && inRange v 2 1 0 1)
  | 0x0551 => shaped v 4 index 8 (inRange v 0 1 0 3 && inRange v 2 2 1 100)
  | 0x0552 => shaped v 2 index 2 (inRange v 0 1 0 1 && inRange v 1 1 0 1)
  | 0x0553 => shaped v 2 index 16 (inRange v 0 2 0 65000)
  | 0x0554 => shaped v 6 index 16 (leAt v 0 1 != 1 && inRange v 2 2 10 60000 && inRange v 4 2 10 60000)
  | 0x0555 => shaped v 4 index 16 (inRange v 0 1 0 1 && inRange v 1 1 0 3)
  | _ => false

/-- Safe values (R105). -/
def safeOk (pid index : Nat) (v : List Byte) : Bool :=
  match pid with
  | 0x0601 => shaped v 1 index 8 (inRange v 0 1 0 1)
  | 0x0602 => shaped v 1 index (65536 + 32 * 2112) (decide (65536 ≤ index) && inRange v 0 1 0 1)
  | 0x0603 => shaped v 4 index 4 (fpWithin (leNat v) 10 0 36 || fpWithin (leNat v) 1 21 24)
  | 0x0604 => decide (index < 32) && decide (1 ≤ v.length) && decide (v.length ≤ 256)
  | _ => false

/-- A binary source of the recorder (R472). -/
def binSrcOk (w : Nat) : Bool :=
  let i := w % 2 ^ 24
  match w / 2 ^ 24 with
  | 1 => decide (i < 16) | 2 => decide (i < 2048) | 3 => decide (i < 4096) | 4 => rowExists i
  | 5 => decide (1 ≤ i) && decide (i ≤ 0x28) | 6 => decide (i < 2) | 7 => decide (i < 64) | _ => false

/-- Recorder (R499). -/
def recorderOk (pid index : Nat) (v : List Byte) : Bool :=
  match pid with
  | 0x0701 => shaped v 16 index 1 (inRange v 0 1 0 1 && inRange v 1 1 0 1 && inRange v 2 2 0 600 && inRange v 4 2 1 1000 &&
      inRange v 6 1 0 1 && inRange v 8 2 0 2000 && inRange v 10 2 0 60000 && inRange v 12 2 0 300 &&
      decide (leAt v 10 2 ≤ leAt v 12 2 * 1000))
  | 0x0702 => shaped v 8 index 1 true
  | 0x0703 => shaped v 8 index 1 (inRange v 0 2 1000 16000 && inRange v 2 2 1 4096 && inRange v 4 2 250 4000)
  | 0x0704 => shaped v 16 index 1 true
  | 0x0710 => shaped v 28 index 64 (inRange v 1 1 0 2 && (decide (32 ≤ index) || inRange v 0 1 0 15) &&
      decide (fExp (BitVec.ofNat 32 (leAt v 8 4)) ≠ 255) && decide (0 ≤ fInt (BitVec.ofNat 32 (leAt v 8 4))))
  | 0x0711 => shaped v 24 index 256 (binSrcOk (leAt v 0 4) && inRange v 4 1 0 1)
  | 0x0712 => shaped v 64 index 1 true
  | 0x0720 => shaped v 40 index 32 (inRange v 0 1 1 9 && inRange v 1 1 0 2 && inRange v 2 1 0 1 && inRange v 3 1 0 2 && inRange v 20 1 0 31)
  | _ => false

/-- The codes whose events have no limit (R511). -/
def exemptCode (c : Nat) : Bool :=
  decide (c < 0x300) || (decide (0xC000 ≤ c) && decide (c ≤ 0xCFFF)) ||
  [0xB002, 0x0121, 0x0123, 0x0128, 0x5002, 0x5005, 0x5007, 0x5008, 0x1004, 0xD020, 0xD021].contains c

/-- Events and rate limits (R524). -/
def eventsOk (pid index : Nat) (v : List Byte) : Bool :=
  match pid with
  | 0x0801 => shaped v 8 index 65536 (inRange v 0 2 1 65535 && inRange v 4 4 1 3600000 && !exemptCode index)
  | 0x0802 => shaped v 64 index 65536 true
  | 0x0803 => shaped v 1 index 65536 (inRange v 0 1 0 1)
  | _ => false

/-- Network datasets (R200, R263, R338, R578). -/
def networkOk (pid index : Nat) (v : List Byte) : Bool :=
  match pid with
  | 0x0901 => shaped v 4 index 1 (inRange v 0 1 0 2 && inRange v 1 1 0 2)
  | 0x0902 => shaped v 4 index 3 (inRange v 0 1 0 1 && inRange v 1 1 0 1)
  | 0x0903 => shaped v 16 index 1 (inRange v 0 1 0 2 && inRange v 1 1 8 30)
  | 0x0910 => shaped v 216 index 32 (inRange v 14 2 1 100 && inRange v 16 2 100 60000 && inRange v 18 1 0 7 && inRange v 19 1 1 64)
  | 0x0911 => shaped v 8 index 2048 (inRange v 4 1 1 6 && inRange v 3 1 1 7)
  | 0x0920 => shaped v 144 index 128 (inRange v 12 1 0 3 && inRange v 13 1 1 64 && inRange v 14 1 0 7)
  | 0x0921 => shaped v 8 index 8192 (inRange v 1 1 1 6)
  | 0x0980 => shaped v 1 index 2 (inRange v 0 1 16 128)
  | 0x0981 => shaped v 9 index 2 (inRange v 0 1 0 1 && (List.range 8).all (fun k => inRange v (k + 1) 1 0 15 || leAt v (k + 1) 1 == 0xFF))
  | 0x0982 => shaped v 1 index 2 (inRange v 0 1 0 1)
  | 0x0983 => shaped v 84 index 2 (inRange v 16 1 0 7)
  | 0x0984 => shaped v 80 index 2 (inRange v 12 1 0 7)
  | 0x0990 => shaped v 16 index 4 (inRange v 3 1 0 1 && inRange v 5 1 0 1 && inRange v 6 1 0 16 && inRange v 7 1 0 8 && inRange v 8 1 0 2 &&
      inRange v 9 1 0 1 && inRange v 12 4 1 16777215 &&
      [0, 10, 12, 15, 20, 25, 30, 50, 60, 100, 120].contains (leAt v 2 1))
  | 0x0991 => shaped v 20 index 64 (inRange v 0 1 0 21)
  | 0x0992 => shaped v 20 index 32 true
  | 0x0993 => shaped v 32 index 8 ((List.range 16).all (fun k => inRange v (2 * k) 2 0 2047))
  | 0x0994 => shaped v 16 index 4 true
  | 0x0995 => shaped v 12 index 4 (inRange v 8 1 0 63)
  | 0x09A0 => shaped v 16 index 1 (inRange v 0 1 0 1 && inRange v 1 1 0 2 && inRange v 2 1 0 1)
  | 0x09A1 => shaped v 8 index 2 true
  | _ => false

/-- Time and launch (R105, R164). -/
def timeOk (pid index : Nat) (v : List Byte) : Bool :=
  match pid with
  | 0x0A01 => shaped v 4 index 1 ((List.range 4).all (fun k => inRange v k 1 0 4))
  | 0x0A02 => shaped v 1 index 1 (inRange v 0 1 0 1)
  | 0x0A03 => shaped v 4 index 1 (inRange v 0 4 1 10000)
  | 0x0A04 => shaped v 1 index 1 (inRange v 0 1 0 1)
  | 0x0A05 => shaped v 1 index 1 (inRange v 0 1 0 1)
  | 0x0A06 => shaped v 1 index 1 (inRange v 0 1 0 1)
  | 0x0A07 => shaped v 1 index 1 (inRange v 0 1 0 127 || leNat v == 254)
  | 0x0A08 => shaped v 4 index 2 (inRange v 0 1 0 1)
  | 0x0A09 => shaped v 1 index 1 (inRange v 0 1 0 1)
  | 0x0A0A => shaped v 1 index 1 (inRange v 0 1 0 1)
  | 0x0A0B => shaped v 1 index 1 (inRange v 0 1 1 40)
  | 0x0A0C => shaped v 4 index 1 (inRange v 0 4 1 1000000)
  | 0x0A0D => shaped v 2 index 1 (inRange v 0 2 1 500)
  | 0x0A10 => shaped v 28 index 64 (inRange v 20 1 1 6 && leAt v 12 8 % 4 == 0 && inRange v 6 4 0 999999999)
  | _ => false

/-- The x values of a characteristic table ascend. -/
def tableAscends (v : List Byte) : Bool :=
  (List.range 32).all (fun k => fLt (BitVec.ofNat 32 (leAt v (8 * k) 4)) (BitVec.ofNat 32 (leAt v (8 * k + 8) 4)))

/-- Process channels (R439, R446, R464). -/
def processOk (pid index : Nat) (v : List Byte) : Bool :=
  match pid with
  | 0x0B01 => shaped v 16 index 4 (inRange v 0 1 0 7 && inRange v 1 1 0 7 && inRange v 3 1 0 1 && inRange v 4 1 0 2 &&
      !(leAt v 0 1 == 4 && !(inRange v 1 1 0 1 && inRange v 2 1 2 4)))
  | 0x0B02 => shaped v 12 index 4 (fpWithin (leAt v 8 4) 10 0 2)
  | 0x0B03 => shaped v 264 index 4 (tableAscends v)
  | 0x0B04 => shaped v 4 index 4 (fpWithin (leNat v) 1 0 100)
  | 0x0B05 => shaped v 6 index 4 (inRange v 0 2 10 10000 && inRange v 2 2 10 10000 && inRange v 4 1 0 1)
  | 0x0B10 => shaped v 8 index 32 (inRange v 0 1 0 3 && inRange v 1 1 0 4 && inRange v 2 1 0 2 && inRange v 3 1 0 13 &&
      decide (1 ≤ leAt v 6 2 % 8192) && decide (leAt v 6 2 % 8192 ≤ 4096))
  | 0x0B11 => shaped v 8 index 1 (inRange v 0 1 0 1 && inRange v 4 4 32 60000000 && leAt v 4 4 % 32 == 0)
  | _ => false

/-- Remote I/O (R390). -/
def remoteOk (pid index : Nat) (v : List Byte) : Bool :=
  match pid with
  | 0x0C01 => shaped v 12 index 1 (inRange v 0 1 0 2 && inRange v 1 1 0 7)
  | 0x0C02 => shaped v 12 index 32 (inRange v 0 1 0 1 && inRange v 2 2 0 256 && inRange v 4 2 0 256)
  | 0x0C03 => shaped v 6 index 1 (leAt v 0 1 % 2 == 1)
  | _ => false

/-- Pair (R556). -/
def pairOk (pid index : Nat) (v : List Byte) : Bool :=
  match pid with
  | 0x0D01 => shaped v 8 index 1 (inRange v 0 1 0 1 && inRange v 1 1 0 2 && inRange v 2 1 0 1 && inRange v 4 2 100 10000)
  | 0x0D02 => shaped v 24 index 2 true
  | 0x0D03 => shaped v 8 index 1 (inRange v 0 2 10 1000 && inRange v 2 2 10 1000 && inRange v 4 2 1 1000)
  | 0x0D04 => shaped v 2 index 1 (inRange v 0 2 0 365)
  | 0x0D05 => shaped v 2 index 1 (inRange v 0 2 200 60000)
  | _ => false

/-- Security policy (R340, R621). -/
def securityOk (pid index : Nat) (v : List Byte) : Bool :=
  match pid with
  | 0x1801 => shaped v 4 index 1 (inRange v 0 1 0 0x1F && inRange v 1 1 0 0x1F && inRange v 2 1 0 0x1F)
  | 0x1802 => shaped v 6 index 1 (inRange v 0 1 3 20 && inRange v 2 2 10 3600 && inRange v 4 2 10 3600)
  | 0x1803 => shaped v 2 index 1 (inRange v 0 2 0 1440)
  | 0x1840 => shaped v 32 index 4 true
  | 0x1841 => shaped v 1 index 1 (inRange v 0 1 0 2)
  | _ => false

/-- A parameter record has a PID that exists, the length that the PID defines and a value in its range (R102). -/
def paramOk (p : Param) : Bool :=
  match p.pid / 256 with
  | 0x05 => ioOk p.pid p.index p.value
  | 0x06 => safeOk p.pid p.index p.value
  | 0x07 => recorderOk p.pid p.index p.value
  | 0x08 => eventsOk p.pid p.index p.value
  | 0x09 => networkOk p.pid p.index p.value
  | 0x0A => timeOk p.pid p.index p.value
  | 0x0B => processOk p.pid p.index p.value
  | 0x0C => remoteOk p.pid p.index p.value
  | 0x0D => pairOk p.pid p.index p.value
  | 0x18 => securityOk p.pid p.index p.value
  | h => decide (0x10 ≤ h) && decide (h < 0x18) && setOk (p.pid % 256) p.value

end Sys2Proof.Machine
end

