-- ==== Sys2Proof/Machine/ImageFile.lean ====
section
/-! DEFINITION. The container of a scheme image: header, section table, parameter records, channels (R99 to R106), and the
layering over SCH_FACTORY (R79, R103, R121, R640). -/

namespace Sys2Proof.Machine

/-- A refusal of an image: the CAP_IMAGE status, the section type and the byte offset of the first offending item (R110). -/
abbrev ImgErr := Nat × Nat × Nat

/-- An entry of the section table (R100). -/
structure Sect where
  type : Nat
  off : Nat
  len : Nat
  records : Nat
  deriving DecidableEq, Repr, Inhabited

/-- The section types (R101). -/
def sectKnown (t : Nat) : Bool :=
  (decide (1 ≤ t) && decide (t ≤ 0x0D)) || (decide (0x10 ≤ t) && decide (t ≤ 0x18))

/-- The sections that are made of parameter records. -/
def sectRecords (t : Nat) : Bool := decide (5 ≤ t)

/-- Every byte is 0. -/
def allZero (bs : List Byte) : Bool := bs.all (· == 0#8)

/-- The entries of the section table. -/
def sectTable (b : List Byte) : List Sect :=
  (List.range (leAt b 16 4)).map (fun k =>
    let o := 128 + 16 * k
    ⟨leAt b o 2, leAt b (o + 4) 4, leAt b (o + 8) 4, leAt b (o + 12) 4⟩)

/-- The types of a section table ascend. -/
def typesAscend : List Sect → Bool
  | a :: b :: r => decide (a.type < b.type) && typesAscend (b :: r)
  | _ => true

/-- No two sections overlap. -/
def apart : List Sect → Bool
  | [] => true
  | a :: r => r.all (fun b => decide (a.off + a.len ≤ b.off) || decide (b.off + b.len ≤ a.off)) && apart r

/-- The bytes from `o` on that no section covers are 0, up to SIG_OFFSET. -/
def paddingZero (b : List Byte) (ss : List Sect) (o sig : Nat) : Bool :=
  let inSect (i : Nat) : Bool := ss.any (fun s => decide (s.off ≤ i) && decide (i < s.off + s.len))
  (((b.take sig).drop o).zipIdx o).all (fun x => x.1 == 0#8 || inSect x.2)

/-- The header and the section table (R99, R100, R107); the offset of the first field that breaks a rule. A section's LAYOUT
of 1 or above is read as layout version 1 (DESIGN CHOICE, log entry 78). -/
def headerError (b : List Byte) (fwVer : Nat) : Option Nat :=
  let sig := leAt b 24 4
  let n := leAt b 16 4
  let blk := if leAt b sig 2 = 2 then 208 else 80
  let ss := sectTable b
  if b.length < 128 then some 0
  else if leAt b 0 4 ≠ 0x49535753 then some 0
  else if leAt b 4 2 ≠ 1 then some 4
  else if leAt b 6 2 ≠ 128 then some 6
  else if leAt b 8 4 ≠ b.length ∨ 16777216 < b.length then some 8
  else if 8 ≤ leAt b 12 2 then some 12
  else if !inRange b 14 1 1 3 then some 14
  else if 2 ≤ leAt b 15 1 then some 15
  else if n = 0 ∨ 32 < n then some 16
  else if leAt b 20 4 ≠ 128 then some 20
  else if sig % 16 ≠ 0 ∨ b.length ≠ sig + blk then some 24
  else if fwVer < leAt b 32 4 then some 32
  else if !allZero (bytesAt b 46 2) then some 46
  else if !allZero (bytesAt b 112 16) then some 112
  else if !(inRange b sig 2 1 2) ∨ leAt b (sig + 2) 2 ≠ blk ∨ !allZero (bytesAt b (sig + 12) 4) then some sig
  else
    match (ss.zipIdx).find? (fun x => !sectKnown x.1.type || leAt b (128 + 16 * x.2 + 2) 2 == 0 || x.1.off % 16 != 0 ||
        decide (x.1.off < 128 + 16 * n) || decide (sig < x.1.off + x.1.len) || (!sectRecords x.1.type && x.1.records != 0)) with
    | some x => some (128 + 16 * x.2)
    | none =>
      if !typesAscend ss ∨ !apart ss then some 128
      else if !paddingZero b ss (128 + 16 * n) sig then some (128 + 16 * n)
      else none

/-- The parameter records of a section's bytes, with the offset of the first that breaks R102. `last` is the PID and index
before. -/
def records (type : Nat) : Nat → List Byte → Nat → Option (Nat × Nat) → List Param → List Param × Option Nat
  | 0, _, _, _, acc => (acc.reverse, none)
  | k + 1, b, o, last, acc =>
    if b.isEmpty then (acc.reverse, none)
    else
      let pid := leAt b 0 2
      let len := leAt b 2 2
      let size := (8 + len + 3) / 4 * 4
      let p : Param := ⟨pid, leAt b 4 4, bytesAt b 8 len⟩
      let ordered : Bool := match last with | some l => decide (l.1 < pid) || (l.1 == pid && decide (l.2 < p.index)) | none => true
      if b.length < 8 ∨ 4080 < len ∨ b.length < size ∨ pid / 256 ≠ type % 256 ∨ ordered = false ∨ !paramOk p ∨
          !allZero (bytesAt b (8 + len) (size - 8 - len)) then (acc.reverse, some o)
      else records type k (b.drop size) (o + size) (some (pid, p.index)) (p :: acc)

/-- One entry of the channels section (R104). -/
def chanEntryOf (b : List Byte) : ChanEntry :=
  { channel := leAt b 0 1, source := leAt b 1 1, input := leAt b 2 1, svIndex := leAt b 3 1, quantity := leAt b 4 1
    terminal := leAt b 5 1, filter := leAt b 6 1, invert := leAt b 7 1 % 2 == 1, scale := leAt b 8 4, nominal := leAt b 12 4
    ovrCount := leAt b 16 2 }

/-- An entry of the channels section keeps its ranges. -/
def chanOk (b : List Byte) : Bool :=
  let e := chanEntryOf b
  decide (e.channel < 16) && (e.source == 1 || e.source == 2) &&
  (if e.source = 1 then decide (e.input < 16) && e.svIndex == 0 else decide (e.input < 2) && decide (e.svIndex < 8)) &&
  decide (e.quantity ≤ 1) && decide (e.terminal ≤ 1) && decide (e.filter ≤ 2) && decide (leAt b 7 1 ≤ 1) &&
  decide (fExp (BitVec.ofNat 32 e.scale) ≠ 255) && decide (fExp (BitVec.ofNat 32 e.nominal) ≠ 255) &&
  decide (1 ≤ e.ovrCount) && decide (e.ovrCount ≤ 16000) && allZero (bytesAt b 18 14)

/-- The entries of a channels section, with the offset of the first that breaks R104. -/
def channels (b : List Byte) : List ChanEntry × Option Nat :=
  let n := b.length / 32
  let parts := (List.range n).map (fun k => bytesAt b (32 * k) 32)
  let es := parts.map chanEntryOf
  let bad := (List.range n).find? (fun k => !chanOk (parts.getD k []) ||
    (decide (0 < k) && decide ((es.getD k default).channel ≤ (es.getD (k - 1) default).channel)))
  (es, if b.length % 32 ≠ 0 ∨ 16 < n then some 0 else bad.map (32 * ·))

/-- The bytes of a section, none where the image does not hold it. -/
def sectBytes (b : List Byte) (t : Nat) : Option (List Byte) :=
  ((sectTable b).find? (fun s => s.type == t)).map (fun s => bytesAt b s.off s.len)

/-- The offset of a section in the file; 0 where the image does not hold it. -/
def sectOff (b : List Byte) (t : Nat) : Nat := ((sectTable b).find? (fun s => s.type == t)).elim 0 (·.off)

/-- The offset in the file of the first record of `b`, which starts at `o`, that satisfies a condition. -/
def recordAt (f : Param → Bool) : Nat → List Byte → Nat → Option Nat
  | 0, _, _ => none
  | k + 1, b, o =>
    if b.length < 8 then none
    else
      let len := leAt b 2 2
      let size := (8 + len + 3) / 4 * 4
      if f ⟨leAt b 0 2, leAt b 4 4, bytesAt b 8 len⟩ then some o else recordAt f k (b.drop size) (o + size)

/-- The offset of the first record of section `t` that satisfies a condition; else the section's own. -/
def recordOff (b : List Byte) (t : Nat) (f : Param → Bool) : Nat :=
  let bs := (sectBytes b t).getD []
  (recordAt f (bs.length / 8 + 1) bs (sectOff b t)).getD (sectOff b t)

/-- The records of every section of records, or the first refusal. -/
def sectionParams (b : List Byte) : List Sect → List Param → List Param × Option (Nat × Nat)
  | [], acc => (acc, none)
  | s :: r, acc =>
    if !sectRecords s.type then sectionParams b r acc
    else
      match records s.type (s.len / 8 + 1) (bytesAt b s.off s.len) s.off none [] with
      | (ps, some o) => (acc ++ ps, some (s.type, o))
      | (ps, none) => if ps.length = s.records then sectionParams b r (acc ++ ps) else (acc ++ ps, some (s.type, s.off))

/-- An overcurrent element's reset mode suits its characteristic in a group (R279). -/
def resetModeOk (ps : List Param) (g inst : Nat) : Bool :=
  let get (low dflt : Nat) : Nat :=
    match getParam ps (0x1000 + 0x100 * g + low) inst with
    | some v => leAt v 0 1
    | none => getField ps (0x1000 + low) inst 0 1 dflt
  (decide (6 ≤ get 0x21 1)) == (get 0x25 0 == 2)

/-- Records that break a rule that spans several of them: R122 (the group request word), R257 (PMU rates), R279, R390, R471,
R480 and R556. Answers the section type. -/
def crossError (chans : List ChanEntry) (graph : Option GraphSec) (ps : List Param) : Option Nat :=
  let logicOn := (getField ps 0x0520 0 0 1 1).testBit 1
  let word := getField ps 0x0521 0 0 2 0xFFFF
  let graphWord : Bool := match graph with | some g => g.graphWords.contains word | none => false
  let rates := if getField ps 0x0514 0 0 1 0 = 1 then [0, 10, 12, 15, 20, 30, 60, 120] else [0, 10, 25, 50, 100]
  let mode2 := getField ps 0x0C01 0 0 1 0 == 2
  let ocs := ps.filter (fun p => decide (0x1000 ≤ p.pid) && decide (p.pid < 0x1800) && (p.pid % 256 == 0x21 || p.pid % 256 == 0x25))
  if (logicOn && word == 0xFFFF) || graphWord then some 0x05
  else if (List.range 4).any (fun k => (getParam ps 0x0990 k).isSome && !rates.contains (getField ps 0x0990 k 2 1 0)) then some 0x09
  else if getField ps 0x0701 0 10 2 2000 < getField ps 0x0702 0 4 2 10 then some 0x07
  else if (List.range 16).any (fun k => (getParam ps 0x0710 (16 + k)).isSome &&
      !chans.any (fun c => c.source == 1 && c.input == getField ps 0x0710 (16 + k) 0 1 0)) then some 0x07
  else if (mode2 && ps.any (fun p => p.pid == 0x0C02 && leAt p.value 0 1 == 1 && (decide (16 ≤ p.index) ||
      decide (64 < leAt p.value 2 2) || decide (64 < leAt p.value 4 2)))) ||
      (getField ps 0x0C01 0 0 1 0 == 1 && (getParam ps 0x0C03 0).isNone) then some 0x0C
  else if (getParam ps 0x0D01 0).isSome && getField ps 0x0D01 0 0 1 1 == 1 &&
      ((getParam ps 0x0D02 0).isNone || (getParam ps 0x0D02 1).isNone) then some 0x0D
  else match ocs.find? (fun p => !resetModeOk ps (p.pid / 256 - 0x10) p.index) with
    | some p => some (p.pid / 256)
    | none => none

/-- The program's environment in an image. -/
def progEnv (ps : List Param) (graph : Option GraphSec) (l : LogicSec) : ProgEnv :=
  { params := ps, graphBits := (graph.map (·.graphBits)).getD [], graphWords := (graph.map (·.graphWords)).getD []
    timers := l.timers.map (·.n), counters := l.counters.map (·.n) }

/-- Check 1 of R110: the image that some bytes hold, or the refusal. -/
def parseImage (b : List Byte) (fwVer : Nat) : Except ImgErr Image :=
  match headerError b fwVer with
  | some o => .error (6, 0, o)
  | none =>
    let ss := sectTable b
    let (ps, bad) := sectionParams b ss []
    let (cs, badC) := channels ((sectBytes b 1).getD [])
    let offOf (t : Nat) : Nat := ((ss.find? (fun s => s.type == t)).getD default).off
    let graph := (sectBytes b 2).bind Config.parseGraph
    let budget := (sectBytes b 3).bind Config.parseBudget
    let logic := (sectBytes b 4).bind Config.parseLogic
    match bad, badC with
    | some (t, o), _ => .error (6, t, o)
    | none, some o => .error (6, 1, offOf 1 + o)
    | none, none =>
      if (sectBytes b 2).isSome ∧ graph.isNone then .error (6, 2, offOf 2)
      else if (sectBytes b 3).isSome ∧ budget.isNone then .error (6, 3, offOf 3)
      else if (sectBytes b 4).isSome ∧ logic.isNone then .error (6, 4, offOf 4)
      else if (match graph with | some g => !Config.libraryListed fwVer g.library | none => false) = true then .error (6, 2, offOf 2)
      else match crossError cs graph ps with
        | some t => .error (6, t, offOf t)
        | none => match logic.bind (fun l => programError (progEnv ps graph l) l) with
          | some a => .error (6, 4, a)
          | none =>
            let sig := leAt b 24 4
            .ok { variants := leAt b 12 2, declClass := leAt b 14 1, factory := leAt b 15 1 % 2 == 1, units := leAt b 28 4
                  minFw := leAt b 32 4, version := leAt b 36 4, digest := bytesAt b 48 64
                  sections := ss.map (fun s => (s.type, bytesAt b s.off s.len)), chans := cs, graph := graph, budget := budget
                  logic := logic, params := ps, signer := leAt b sig 2, keyId := bytesAt b (sig + 4) 8 }

/-! SCH_FACTORY and layering. -/

/-- Channel `n` of SCH_FACTORY (R640): PAI n of terminal A, PAI0 to PAI3 current and PAI4 to PAI7 voltage, SCALE and
NOMINAL 1.0, OVR_COUNT 16. -/
def factoryChan (n : Nat) : ChanEntry :=
  { channel := n, source := 1, input := n, svIndex := 0, quantity := if n < 4 then 0 else 1, terminal := 0, filter := 0
    invert := false, scale := 0x3F800000, nominal := 0x3F800000, ovrCount := 16 }

/-- The nodes of SCH_FACTORY's graph, all of terminal A (R640): op, band, token channels (VA, VB, VC, IA, IB, IC, IN for the ops
that read both, R38), sources among the nodes, and the units of the outputs (R244). Their order and the edges, which follow
from what each op reads, are the model's (DESIGN CHOICE, log entry 82). -/
def factoryOps : List (OpType × Nat × List Nat × List Nat × List Nat) :=
  let unit (c : Nat) : Nat := if c < 4 then 1 else 2
  let seq (u : Nat) : List Nat := [u, 9, u, 9, u, 9]
  let both := [4, 5, 6, 0, 1, 2, 3]
  let power := [4, 5, 6, 4, 5, 6, 4, 5, 6, 4, 5, 6, 0, 4]
  (OpType.tracker, 1, both, [], [7, 8]) ::
  (List.range 8).map (fun c => (OpType.phasor, 1, [c], [0], [unit c, 9])) ++
  [(OpType.sequence, 1, [0, 1, 2], [0, 1, 2, 3], seq 1), (OpType.sequence, 1, [4, 5, 6], [0, 5, 6, 7], seq 2),
   (OpType.power, 2, both, [0, 5, 6, 7, 1, 2, 3], power), (OpType.energy, 2, both, [0, 5, 6, 7, 1, 2, 3], [11, 11, 11, 11])] ++
  (List.range 8).map (fun c => (OpType.harmonic, 2, [c], [0], List.replicate 15 10)) ++
  [(OpType.readout, 3, [], [], [])]

/-- SCH_FACTORY's graph (R640): the nodes above, no element, no P0 node, no P space output. -/
def factoryGraph : GraphSec :=
  let ops := factoryOps.zipIdx
  { library := Config.factoryLibrary
    nodes := ops.map (fun ((op, band, chans, srcs, units), k) =>
      let (flow, declared, ctxLen, core) := Config.factoryPlan k
      { num := k, op := op, inst := k, band := band, flow := flow % 64, stateful := op == .tracker || op == .energy
        instant := false, jobEntry := if band = 3 then some 0 else none, terminal := 0, chans := chans, indegree := srcs.length
        declared := declared, ctxLen := ctxLen, cores := List.range 16, affinity := core % 16, maxDelays := 0, variant := 0
        outs := units.zipIdx.map (fun (u, p) => (Config.factoryOutput k p, u, PDest.none)) })
    edges := ops.flatMap (fun ((_, _, _, srcs, _), k) => srcs.zipIdx.map (fun (a, p) => ⟨a, 0, k, p⟩))
    graphBits := [], graphWords := [], logicBits := [], logicWords := [], resets := [], pmuTrig := [] }

/-- SCH_FACTORY's budget: D0 = 0 and no P0 node (R640). -/
def factoryBudget : BudgetSec := { Config.factoryLoad with d0 := 0, p0Cycles := 0 }

/-- SCH_FACTORY (R640). -/
def factoryImage : Image :=
  { variants := 7, declClass := 3, factory := true, units := 0x10, minFw := 0, version := 0, digest := Config.factoryDigest
    sections := [1, 2, 3, 5, 6, 0x10].map (fun t => (t, Config.factoryBytes t))
    chans := (List.range 8).map factoryChan, graph := some factoryGraph, budget := some factoryBudget, logic := none
    params := [⟨0x0552, 0, [0#8, 0#8]⟩, ⟨0x0552, 1, [0#8, 0#8]⟩], signer := 0, keyId := [] }

/-- The image holds a section. -/
def imgHas (i : Image) (t : Nat) : Bool := i.sections.any (fun x => x.1 == t)

/-- The bytes of a section of an image. -/
def imgBytes (i : Image) (t : Nat) : List Byte := ((i.sections.find? (fun x => x.1 == t)).map (·.2)).getD []

/-- The op type of an instance identifier in a graph. -/
def opOfInst (g : Option GraphSec) (inst : Nat) : Option OpType :=
  (g.bind (fun g => g.nodes.find? (fun (n : Node) => n.inst == inst))).map (·.op)

/-- A parameter of SCH_FACTORY stays in the layered result (R79, R103, R121). -/
def factoryKeeps (u : Image) (p : Param) : Bool :=
  let h := p.pid / 256
  let graph := if imgHas u 2 then u.graph else factoryImage.graph
  if h = 5 then !imgHas u 5
  else if 0x10 ≤ h ∧ h < 0x18 then
    (getParam u.params p.pid p.index).isNone && (getParam u.params (0x1000 + p.pid % 256) p.index).isNone &&
    opOfInst graph p.index == opOfInst factoryImage.graph p.index
  else (getParam u.params p.pid p.index).isNone

/-- An image layered over SCH_FACTORY. -/
def layered (u : Image) : Image :=
  let f := factoryImage
  { u with
    sections := u.sections ++ f.sections.filter (fun x => !imgHas u x.1)
    chans := if imgHas u 1 then u.chans else f.chans
    graph := if imgHas u 2 then u.graph else f.graph
    budget := if imgHas u 3 then u.budget else f.budget
    logic := if imgHas u 4 then u.logic else f.logic
    params := u.params ++ f.params.filter (factoryKeeps u) }

/-! Classes of change (R101, R115). -/

/-- The parameters of a structural class: the network, remote I/O and pair sections, and the ownership and class of
outputs. -/
def structuralPid (pid : Nat) : Bool := pid / 256 == 0x09 || pid / 256 == 0x0C || pid / 256 == 0x0D || pid == 0x0550

/-- The parameters that satisfy a condition, in ascending order of PID and index. -/
def pick (i : Image) (p : Nat → Bool) : List Param := i.params.filter (fun x => p x.pid)

/-- Two images hold the same parameters of a kind. -/
def sameParams (a b : Image) (p : Nat → Bool) : Bool :=
  (pick a p).all (fun x => getParam b.params x.pid x.index == some x.value) &&
  (pick b p).all (fun x => getParam a.params x.pid x.index == some x.value)

/-- The class of the change from one layered image to another, before DECL_CLASS (R115). -/
def foundClass (old new : Image) : Nat :=
  if [1, 2, 3].any (fun t => imgBytes old t != imgBytes new t || imgHas old t != imgHas new t) || !sameParams old new structuralPid then 3
  else if imgBytes old 4 != imgBytes new 4 || imgHas old 4 != imgHas new 4 then 2
  else 1

/-- The class of the change. -/
def changeClass (old new : Image) : Nat := max new.declClass (foundClass old new)

end Sys2Proof.Machine
end

