-- ==== Sys2Proof/Machine/Admission.lean ====
section
/-! DEFINITION. The checks of an image after its container: signature, target, units, completeness and resources (R107 to
R111, R229). -/

namespace Sys2Proof.Machine

/-! Check 2: signature (R107, R109, R110, R606). -/

/-- The installed owner key with a KEY_ID. -/
def ownerKey (s : State) (id : List Byte) : Option Key4 := s.sec.keys.find? (fun (k : Key4) => k.kind == 1 && keyIdOf k.key == id)

/-- The project key certificate of an image verifies against an owner key, names the signing key, and its permissions cover
the class of the change; `staging` also needs TD1 usable and within the validity. -/
def certCovers (s : State) (b : List Byte) (u : Image) (staging : Bool) : Bool :=
  let c := bytesAt b (leAt b 24 4 + 80) 128
  let now := secOf (td1 s)
  let perms := leAt c 56 4
  let cls := changeClass factoryImage (layered u)
  (match ownerKey s (bytesAt c 32 8) with
    | some k => Config.ed25519 k.key (bytesAt c 0 64) (bytesAt c 64 64)
    | none => false) &&
  keyIdOf (bytesAt c 0 32) == u.keyId && (perms.testBit 1 || (perms.testBit 0 && cls == 1)) &&
  (!staging || ((s.tu.d1.qst == .locked || s.tu.d1.qst == .glide) && decide (leAt c 40 6 ≤ now) && decide (now ≤ leAt c 48 6)))

/-- What fails of an image's signature: the section type and the offset of BODY_DIGEST, of the signature block, or of the
security section that a project key may not sign (R109). None where the signature holds. -/
def sigError (s : State) (b : List Byte) (u : Image) (staging : Bool) : Option (Nat × Nat) :=
  let sig := leAt b 24 4
  let header := bytesAt b 0 128
  let signature := bytesAt b (sig + 16) 64
  if Config.sha512 ((b.take sig).drop 128) ≠ u.digest then some (0, 48)
  else if u.signer = 1 then
    if (match ownerKey s u.keyId with | some k => Config.ed25519 k.key header signature | none => false) = true then none
    else some (0, sig)
  else if !certCovers s b u staging || !Config.ed25519 (bytesAt b (sig + 80) 32) header signature then some (0, sig)
  else if imgHas u 0x18 then some (0x18, sectOff b 0x18)
  else none

/-! Check 4: units (R4, R110, R346, R351, R389, R438, R500, R510, R561). -/

/-- The units present, as CAP_UNITS shows them (R1). -/
def unitsMask (s : State) : Nat := regVal s 4

/-- A parameter that names a PAI input above 7. -/
def namesPai8 (p : Param) : Bool :=
  p.pid == 0x0710 && decide (16 ≤ p.index) && decide (p.index < 32) && decide (8 ≤ leAt p.value 0 1)

/-- A parameter of U_TW (R346, R500). -/
def namesTw (p : Param) : Bool :=
  (p.pid == 0x0720 && (leAt p.value 0 1 == 4 || leAt p.value 2 1 % 2 == 1)) ||
  (decide (0x0540 ≤ p.pid) && decide (p.pid ≤ 0x0545)) || (p.pid == 0x09A0 && leAt p.value 0 1 == 1) ||
  (p.pid == 0x0710 && decide (16 ≤ p.index) && decide (p.index < 32)) || (p.pid == 0x0711 && leAt p.value 3 1 == 6)

/-- A parameter of U_RIO (R389, R561). -/
def namesRio (p : Param) : Bool :=
  p.pid / 256 == 0x0C || (p.pid == 0x0901 && p.index == 0 && leAt p.value 1 1 == 2) || p.pid == 0x0604 ||
  (p.pid == 0x0A10 && leAt p.value 20 1 == 5)

/-- A parameter names a unit that the part lacks, or a register of one (R510). -/
def paramAbsent (s : State) (p : Param) : Bool :=
  (!hasT2 s && namesPai8 p) || (!hasTw s && namesTw p) || (!hasRio s && namesRio p) ||
  (!hasUpc s && (p.pid / 256 == 0x0B || p.pid == 0x0603)) ||
  (p.pid == 0x0802 && (List.range 16).any (fun k =>
    let a := leAt p.value (4 * k) 4
    decide (a < 2 ^ 31) && regAbsent s (a % 2 ^ 20)))

/-- The I and Q words that a program names. -/
def ioWords (l : LogicSec) : List Nat :=
  l.program.filterMap (fun w =>
    let bit := decide (opOf w ≤ 0x08) || (decide (0x20 ≤ opOf w) && decide (opOf w ≤ 0x23))
    if spOf w = 0 ∨ spOf w = 1 then
      (if bit then (if 65536 ≤ adOf w then some ((adOf w - 65536) / 32) else none)
       else if 0x40 ≤ opOf w ∧ opOf w ≤ 0x6A then some (adOf w) else none)
    else none)

/-- The image names I or Q words in a range. -/
def namesIo (u : Image) (lo hi : Nat) : Bool :=
  match u.logic with | some l => (ioWords l).any (fun w => decide (lo ≤ w) && decide (w ≤ hi)) | none => false

/-- The first item by which the image names a unit that the part lacks, or a core it does not have: section type and
offset. -/
def unitError (s : State) (b : List Byte) (u : Image) : Option (Nat × Nat) :=
  let nodes := match u.graph with | some g => g.nodes | none => []
  if (List.range 5).any (fun k => u.units.testBit k && !(unitsMask s).testBit k) then some (0, 28)
  else match u.chans.findIdx? (fun (c : ChanEntry) => !hasT2 s && c.source == 1 && decide (8 ≤ c.input)) with
  | some k => some (1, sectOff b 1 + 32 * k)
  | none =>
    if nodes.any (fun (n : Node) => (!hasTw s && n.op == .twDirectional) || n.cores.any (fun c => decide (coreCount s ≤ c))) then
      some (2, sectOff b 2)
    else if (!hasRio s && (namesIo u 1 1 || namesIo u 64 2111)) || (!hasUpc s && namesIo u 16 23) then some (4, sectOff b 4)
    else match u.params.find? (paramAbsent s) with
    | some p => some (p.pid / 256, recordOff b (p.pid / 256) (paramAbsent s))
    | none =>
      if !hasUpc s && imgHas u 0x0B then some (0x0B, sectOff b 0x0B)
      else if !hasRio s && imgHas u 0x0C then some (0x0C, sectOff b 0x0C)
      else none

/-! Check 5: completeness (R79, R110). -/

/-- A section that is missing, which has no offset: the budget of a graph, or one that FACTORY needs. -/
def incompleteAt (u : Image) : Option (Nat × Nat) :=
  if imgHas u 2 && !imgHas u 3 then some (3, 0)
  else if u.factory then ([1, 2, 3, 5, 6, 0x10].find? (fun t => !imgHas u t)).map (fun t => (t, 0))
  else none

/-! Check 6: resources (R111, R229). `t` is the machine as it would be with the layered image in service. -/

/-- The machine with a layered image in service, for the checks that read parameters. -/
def trial (s : State) (l : Image) : State :=
  { s with img := { s.img with cur := some l }, le := { s.le with sec := l.logic } }

/-- The longest chain of declared cycles that ends at each node, over the edges between nodes that `live` admits: a round
adds one edge to the chains (R229). -/
def chainRound (g : GraphSec) (live : Node → Bool) (d : SMap) : SMap :=
  (g.nodes.filter live).foldl (fun (m : SMap) n =>
    let before := (g.edges.filter (fun (e : Edge) => e.dst == n.num)).foldl (fun a (e : Edge) => max a (smGet d e.src)) 0
    smSet m n.num (n.declared + before)) []

/-- Rounds until nothing grows; none where the chains never end (a cycle). -/
def chains (g : GraphSec) (live : Node → Bool) : Nat → SMap → Option SMap
  | 0, _ => none
  | fuel + 1, d =>
    let d' := chainRound g live d
    if d' = d then some d else chains g live fuel d'

/-- The longest chain of declared cycles to any node of a band, over the nodes that `live` admits, is within a limit. -/
def pathOk (g : GraphSec) (live : Node → Bool) (band lim : Nat) : Bool :=
  match chains g live (g.nodes.length + 2) [] with
  | some d => (g.nodes.filter (fun (n : Node) => n.band == band)).all (fun n => decide (smGet d n.num ≤ lim))
  | none => false

/-- The bounds of R229 and R209 on a graph and its budget; D0 counts the terminals with a travelling-wave directional
element (R323). -/
def loadOk (s : State) (g : GraphSec) (b : BudgetSec) : Bool :=
  let c := 25000 * coreCount s
  let tw := ((g.nodes.filter (fun (n : Node) => n.op == .twDirectional)).map (fun (n : Node) => n.terminal)).eraseDups.length
  let d0 := b.d0 + tw
  let count (k : Nat) : Nat := (g.nodes.filter (fun (n : Node) => n.band == k)).length
  let home (k : Nat) : Nat := (g.nodes.filter (fun (n : Node) => n.affinity == k)).foldl (fun a (n : Node) => a + n.ctxLen) 0
  let listOk (n : Nat) : Bool := decide (3 * n ≤ 1024) || (match b.readyPeak with | some p => decide (p ≤ 1024) | none => false)
  decide ((d0 * b.p0Cycles + b.p1Cycles) * 100 ≤ 60 * c) && decide ((d0 * b.p0Cycles + b.p1Cycles + b.p2Cycles) * 100 ≤ 85 * c) &&
  g.nodes.all (fun (n : Node) => decide (n.declared ≤ 10000)) && decide (b.d0 ≤ 16) &&
  pathOk g (fun n => n.band == 1) 1 40000 && pathOk g (fun n => n.band == 1 || n.band == 2) 2 60000 &&
  pathOk g (fun n => n.band == 0) 0 10000 && decide (b.inflight ≤ 224) &&
  decide (g.nodes.foldl (fun a (n : Node) => a + n.maxDelays) 0 ≤ 4096) &&
  decide (3 * count 1 + 4 * count 2 + 2 * d0 * count 0 ≤ 15360) &&
  listOk (d0 * count 0) && listOk (count 1) && listOk (count 2) &&
  decide (b.fineDelays ≤ 4096) && decide (b.coarseDelays ≤ 4096) &&
  (List.range (coreCount s)).all (fun k => decide (home k ≤ 196608)) &&
  decide (g.nodes.length ≤ 4096) && decide (g.edges.length ≤ 16384) &&
  decide ((g.nodes.map (fun (n : Node) => n.flow)).eraseDups.length ≤ 64) && g.nodes.all (fun (n : Node) => decide (n.ctxLen ≤ 4096))

/-- A P bit reference must be one that the graph writes (R271, R305). -/
def pRefOk (g : GraphSec) (r : Nat) : Bool := decide (0x800 ≤ r) || g.graphBits.contains r

/-- Element references and trip matrix rows (R271, R305, R306). -/
def tripOk (t : State) (g : GraphSec) : Bool :=
  (params t).all (fun p =>
    if 0x1000 ≤ p.pid ∧ p.pid < 0x1800 ∧ isRefSetting (p.pid % 256) = true then pRefOk g (leAt p.value 0 2)
    else if p.pid = 0x0530 then
      (List.range 32).all (fun k =>
        let r := leAt p.value (2 * k) 2
        r == 0xFFFF || (decide (r < 0x810) && pRefOk g r)) && (decide (8 ≤ p.index) || doClass t p.index == 1)
    -- the latch reset reference of a row: no third way for the logic engine to act on protection (R22; DEDUCED, log entry 74)
    else if p.pid = 0x0535 then pRefOk g (leAt p.value 0 2)
    else if p.pid = 0x0532 ∧ leAt p.value 0 1 = 1 then !(sealChans t (pv t 0x0533 p.index 0 1 0)).isEmpty
    else true)

/-- Image launch entries (R111): no more than the table leaves, each with a target that R160 takes. -/
def launchesOk (t : State) (digest : List Byte) : Bool :=
  let es := (params t).filter (fun p => p.pid == 0x0A10)
  let kept := Config.launchReserve digest 1 + Config.launchReserve digest 2 + Config.launchReserve digest 3
  decide (es.length + kept ≤ 64) && es.all (fun p => targetOk t (parseLaunch p.value))

/-- Wire time of a frame of `n` data bytes on NET_C in ns (R391): 14 bytes of Ethernet header, the layout of R393, FCS, preamble
and gap. -/
def wireNs (t : State) (n : Nat) : Nat :=
  (14 + 64 + n + 4 + 24) * (if (t.net.port.getD 2 default).speed = 1 then 80 else 8)

/-- The remote I/O timing of mode 1 (R391). -/
def rioOk (t : State) (u : Image) : Bool :=
  if pv t 0x0C01 0 0 1 0 ≠ 1 then true
  else
    let on := (List.range 32).filter (fun k => pv t 0x0C02 k 0 1 0 == 1)
    let up := on.foldl (fun a k => a + wireNs t (stIn t k)) 0
    let down := on.foldl (fun a k => a + wireNs t (stOut t k)) 0
    let l := pv t 0x0C01 0 2 2 0 * 1000
    let d := pv t 0x0C01 0 4 2 0 * 1000
    let a := pv t 0x0C01 0 6 2 0 * 1000
    let dmax := pv t 0x0C01 0 8 2 0
    match u.logic with
    | none => false
    | some lg => match lg.tasks.find? (fun (c : TaskCfg) => c.task == rioTask t) with
      | none => false
      | some c =>
        let p := c.period * 62500
        decide (c.period < 16000) && decide (4 ≤ c.period) && decide (10000 + up + dmax ≤ l) && decide (l < p) &&
        decide (16000 ≤ d) && decide (d < p) && decide (d + down + dmax + 10000 ≤ a) && decide (a ≤ d + p) &&
        lg.tasks.all (fun (x : TaskCfg) => x.task == c.task || !x.qWords.any (fun w => on.any (fun k =>
          decide (64 + 64 * k ≤ w) && decide (w < 64 + 64 * k + (stOut t k + 3) / 4))))

/-- The process sequencer serves every channel (R446). -/
def sequencerOk (t : State) : Bool :=
  let es := (List.range 32).filterMap (imgEntry t)
  (List.range 4).all (fun n => tableServes t n (imgChanMode t n) (pv t 0x0B01 n 2 1 0) &&
    decide ((es.filter (fun (e : SeqCfg) => e.chan == n && e.primary)).length ≤ 1)) &&
  es.all (fun (e : SeqCfg) => !(e.filter == 2 && decide (2 < e.rate)))

/-- A source of a trigger unit names a recorded channel (R500). -/
def unitSourceOk (t : State) (p : Param) : Bool :=
  let src := leAt p.value 4 4
  match leAt p.value 0 1 with
  | 1 => (prm t 0x0710 src).isSome
  | 2 => (prm t 0x0710 src).isSome
  | _ => true

/-- The recorder section (R500). -/
def recorderAdmits (t : State) : Bool :=
  let hr := (hrChannels t).length
  let span := if hr = 0 then 0 else 8388608 / (40 * hr)
  let us := (params t).filter (fun p => p.pid == 0x0720)
  us.all (fun p => unitSourceOk t p && !(leAt p.value 1 1 == 1 && pv t 0x0720 (leAt p.value 20 1) 1 1 0 != 2)) &&
  (hr == 0 || decide (pv t 0x0702 0 0 4 2000 ≤ span)) &&
  decide (((params t).filter (fun p => p.pid == 0x0710 && leAt p.value 1 1 == 2)).length ≤ 16) &&
  (match prm t 0x0712 0 with
    | none => true
    | some v => (List.range 64).all (fun k => (prm t 0x0711 (leAt v k 1)).isSome))

/-- The network section (R111, R564, R567): one interface, frames and the transmit share within their limits. -/
def networkAdmits (t : State) (digest : List Byte) : Bool :=
  let pmu := (params t).any (fun p => p.pid == 0x0990)
  let exch := pv t 0x09A0 0 0 1 0 == 1
  (!(pmu || exch) || (ifPorts t).isSome) &&
  (!exch || (match ifPorts t with | some m => m.testBit (pv t 0x09A0 0 1 1 0) | none => false)) &&
  ((params t).filter (fun p => p.pid == 0x0910)).all (fun p => decide (Config.frameLen 5 [p.index] [] ≤ 1518)) &&
  (List.range 3).all (fun k => decide (Config.txShare digest k ≤ 24576))

/-- A setting group record names an element instance of the graph (R111). -/
def instKnown (g : Option GraphSec) (p : Param) : Bool :=
  !(decide (0x1000 ≤ p.pid) && decide (p.pid < 0x1800)) ||
    (match g with | some g => g.nodes.any (fun (n : Node) => n.inst == p.index) | none => true)

/-- The checks of the resources, each with the section it is laid to. -/
def admitChecks (s : State) (l : Image) : List (Nat × Bool) :=
  let t := trial s l
  let load : Bool := match l.graph, l.budget with
    | some g, some b => loadOk s g b
    | none, _ => true
    | some _, none => false
  [(2, load), (4, match l.logic with | some g => decide (g.program.length ≤ 262144) | none => true),
   (5, (match l.graph with | some g => tripOk t g | none => true) && imgHas l (0x10 + pv t 0x0520 0 1 1 0)),
   (7, recorderAdmits t), (8, decide (((params t).filter (fun p => p.pid == 0x0801)).length ≤ 4096)),
   (9, networkAdmits t l.digest), (0x0A, launchesOk t l.digest), (0x0B, sequencerOk t), (0x0C, rioOk t l),
   (0x10, (params t).all (instKnown l.graph))]

/-- The layered image exceeds no resource. -/
def admitted (s : State) (l : Image) : Bool := (admitChecks s l).all (·.2)

/-! The checks in order (R110). -/

/-- A safe value of 1 for a DO that is not binding-governed, which R105 does not permit: a value outside its range. -/
def safeOff (l : Image) (p : Param) : Bool :=
  p.pid == 0x0601 && leAt p.value 0 1 == 1 && getField l.params 0x0550 p.index 0 1 0 != 2

/-- Checks 1 to 6: the layered image, or the refusal with the section type and the offset of the first offending item; a check
over several items is laid to a section, and to the section alone where R110 leaves the item open (DESIGN CHOICE, log entry
76). `staging` is true at IMG_COMMIT, false at power-up. -/
def checkImage (s : State) (b : List Byte) (staging : Bool) : Except ImgErr Image :=
  match parseImage b s.boot.fwVer with
  | .error e => .error e
  | .ok u =>
    let l := layered u
    if u.params.any (safeOff l) then .error (6, 6, recordOff b 6 (safeOff l))
    else match sigError s b u staging with
    | some e => .error (2, e)
    | none =>
      if !u.variants.testBit (match s.code with | .x => 0 | .l => 1 | .e => 2) then .error (3, 0, 12)
      else match unitError s b u with
      | some e => .error (4, e)
      | none =>
        match incompleteAt u with
        | some e => .error (7, e)
        | none =>
          match (admitChecks s l).find? (fun c => !c.2) with
          | some c => .error (5, c.1, sectOff b c.1)
          | none => .ok l

end Sys2Proof.Machine
end

