-- ==== Sys2Proof/Machine/Activate.lean ====
section
/-! DEFINITION. Setting differences and groups as they take effect at a wave boundary (R117, R120 to R123, R186, R512). -/

namespace Sys2Proof.Machine

/-! Effective settings (R121, R256, R274, R330, R641). -/

/-- Defaults of the measurement and overcurrent settings, in the steps of their forms. -/
def setDefaultA : Nat → Int
  | 0x01 => 10 | 0x02 => 5 | 0x03 => 20 | 0x04 => 5 | 0x06 => 500 | 0x08 => 1 | 0x0B => 1000
  | 0x10 => 1 | 0x11 => 0xFFFF | 0x21 => 1 | 0x22 => 100 | 0x23 => 1000 | 0x24 => 1000 | 0x28 => 0xFFFF
  | 0x31 => 75 | 0x32 => 10 | 0x33 => 5 | 0x34 => 10
  | _ => 0

/-- Defaults of the distance family's settings. -/
def setDefaultB : Nat → Int
  | 0x42 => 1000 | 0x43 => 800 | 0x44 => 2000 | 0x45 => 1000 | 0x48 => 0x3F | 0x49 => 10 | 0x4A => 10 | 0x4B => 1 | 0x4C => 1
  | 0x4D => 10 | 0x50 => 10000 | 0x51 => 30 | 0x52 => 30 | 0x58 => 8000 | 0x59 => 8000 | 0x5A => 5 | 0x5B => 2000 | 0x5C => 4
  | 0x5D => 10 | 0x5E => 200 | 0x60 => 800 | 0x61 => 800 | 0x62 => 110 | 0x63 => 10 | 0x64 => 0x3F
  | _ => 0

/-- Defaults of the other settings; `over` selects the default of 0x72 (R294). -/
def setDefaultC (above : Bool) : Nat → Int
  | 0x72 => if above then 1100 else 800
  | 0x74 => 1000 | 0x75 => 100 | 0x79 => 4950 | 0x7A => 100 | 0x7B => 200 | 0x7C => 50
  | 0x80 => 100 | 0x81 => 10 | 0x82 => 20 | 0x83 => 70 | 0x84 => 30 | 0x87 => 10
  | 0x90 => 10 | 0x91 => 50 | 0x92 => 150 | 0x93 => 0x0C00 | 0x94 => 0xFFFF | 0x96 => 0xFFFF
  | 0xA0 => 0xFFFF | 0xA1 => 100 | 0xA2 => 3 | 0xA3 => 0xFFFF | 0xA4 => 250
  | 0xB0 => 50 | 0xB1 => 120 | 0xB2 => 10 | 0xB3 => 20 | 0xB4 => 10 | 0xB6 => 1
  | _ => 0

/-- The default of a setting. -/
def setDefault (above : Bool) (low : Nat) : Int :=
  if low < 0x40 then setDefaultA low else if low < 0x70 then setDefaultB low else setDefaultC above low

/-- A setting's value in the steps of its form. -/
def setSteps (low : Nat) (v : List Byte) : Int :=
  match setForm low with
  | some (.i16 _ _) => sgn 16 (leNat v)
  | some (.fp den _ _) => fpSteps (leNat v) den
  | _ => leNat v

/-- The record that gives a setting of an instance in a group (R121); SCH_FACTORY's are among the layered records. -/
def setRecord (ps : List Param) (g inst low : Nat) : Option (List Byte) :=
  match findParam ps (0x1000 + 0x100 * g + low) inst with
  | some v => some v
  | none => findParam ps (0x1000 + low) inst

/-- The value of a setting of an instance in a group. -/
def setEff (ps : List Param) (g inst low : Nat) : Int :=
  match setRecord ps g inst low with
  | some v => setSteps low v
  | none => setDefault ((setRecord ps g inst 0x70).any (fun v => leNat v == 1)) low

/-- The settings of an instance differ between a group of one image and a group of another. -/
def setsDiffer (a : List Param) (g : Nat) (b : List Param) (h : Nat) (inst : Nat) : Bool :=
  (List.range 0xC0).any (fun low => (setForm low).isSome && setEff a g inst low != setEff b h inst low)

/-- The op is a protection element (R269). -/
def isElement : OpType → Bool
  | .overcurrent => true | .directional => true | .distance => true | .loadEncroachment => true | .swingBlock => true
  | .incDistance => true | .voltage => true | .frequency => true | .synchrocheck => true | .breakerFailure => true
  | .switchOntoFault => true | .twDirectional => true | _ => false

/-- The op is reset by a change of its settings (R117, R228, R256): an element, a tracker or a measurement with settings. -/
def hasSettings (o : OpType) : Bool := isElement o || isMeasurement o || o == .tracker

/-- The ops of the graph in service whose settings differ. -/
def elementsWhere (s : State) (p : Nat → Bool) : List Node := (nodes s).filter (fun (n : Node) => hasSettings n.op && p n.inst)

/-- One op starts afresh (R117, R252, R256): an element's context is cleared, a tracker keeps its source and last value, a
measurement's windows and registers start empty. -/
def resetOp (s : State) (n : Node) : State :=
  let e := elemOf s n
  let s := { s with gr := { s.gr with
    winFrom := smSet s.gr.winFrom n.num s.acq.waves, energy := s.gr.energy.filter (fun (x : Energy) => x.node != n.num) } }
  if n.op = .tracker then putElem (trackReset e) s
  else if isElement n.op then putElem e.cleared (elemReset n e s)
  else s

/-- Ops are reset at a boundary (R117, R225, R228): cancelled, then started afresh. What an instance that still executes
writes into its context afterwards stands (R226). -/
def resetElements (ns : List Node) (s : State) : State :=
  ns.foldl resetOp (cancelNodes (ns.map (fun (n : Node) => n.num)) s)

/-! Groups (R121 to R123). -/

/-- Group `g` exists in the image in service. -/
def groupExists (s : State) (g : Nat) : Bool := decide (g < 8) && (match s.img.cur with | some i => imgHas i (0x10 + g) | none => false)

/-- The default group. -/
def defaultGroup (s : State) : Nat := pv s 0x0520 0 1 1 0

/-- A source of group requests is enabled: 0 GROUP_SELECT, 1 logic, 2 DI code. -/
def groupSource (s : State) (k : Nat) : Bool := (pv s 0x0520 0 0 1 1).testBit k

/-- The front copy of the group request word; 0 where the image names none. -/
def reqWord (s : State) : Nat :=
  let w := pv s 0x0521 0 0 2 0xFFFF
  if w < 512 then smGet s.gr.lWord w else 0

/-- A group comes into force: `src` is 0 power-up or activation, 1 command, 2 logic, 3 DI. -/
def switchGroup (g src session : Nat) (s : State) : State :=
  let old := s.img.group
  if g = old then s
  else
    let ps := params s
    let s := resetElements (elementsWhere s (setsDiffer ps old ps g)) s
    let s := { s with img := { s.img with group := g, groupSrc := src, savedGroup := some (g, watermark s) } }
    if src = 1 then submitCmd .graph session 0x0128 (8 * old + g) s else submit .graph 0x0128 (8 * old + g) s

/-- The code of a group request that is ignored (R123). -/
def groupIgnored (src g : Nat) (s : State) : State := submit .graph 0x0129 (8 * src + g) s

/-- The DI code, while every DI of it is valid (R122). -/
def diCode (s : State) : Option Nat :=
  let b := (prm s 0x0520 0).getD [1#8, 0#8, 1#8, 0#8, 0#8, 0#8, 0#8, 0#8]
  let ds := (List.range (leAt b 2 1)).map (fun k => leAt b (4 + k) 1)
  if ds.all (fun d => s.acq.diValid.getLsbD d) then
    some ((ds.zipIdx.map (fun (d, k) => b2n (s.acq.di.getLsbD d) * 2 ^ k)).sum)
  else none

/-- A pickup state is set on an element whose settings differ between the group in force and another (R122). -/
def groupHeldOff (s : State) (g : Nat) : Bool :=
  (elementsWhere s (setsDiffer (params s) s.img.group (params s) g)).any (fun n => (elemOf s n).pickup)

/-- The answer of a GROUP_SELECT, in the lane that took it: with the wave of the switch, the one being released (R593). -/
def groupAnswer (r : Option Req) (st : Status) (s : State) : State :=
  match r with
  | some r => respond r 0x0025 st false (if st = .ok then leBytes 4 s.acq.wave else []) s
  | none => s

/-- A held logic request is discarded by a switch of another source. -/
def dropHeld (s : State) : State :=
  match s.img.heldGroup with
  | some g => groupIgnored 2 g { s with img := { s.img with heldGroup := none } }
  | none => s

/-- What the sources request at a wave: the logic word's edge and the DI code's change, with what they are compared with
brought up to date. The first code read, when none was read before, makes no request (DESIGN CHOICE, log entry 63: R122 says
what a code is compared with only where an earlier one was read). -/
def groupReads (s : State) : Option Nat × Option Nat × State :=
  let w := reqWord s
  let logic := if groupSource s 1 && w % 16 != s.img.lastReqWord % 16 && decide (8 ≤ w % 16) then some (w % 16 - 8) else none
  let code := if groupSource s 2 then diCode s else none
  let di := match code, s.img.lastDiCode with
    | some c, some l => if c = l then none else some c
    | _, _ => none
  (logic, di, { s with img := { s.img with
    lastReqWord := if groupSource s 1 then w else s.img.lastReqWord
    lastDiCode := match code with | some c => some c | none => s.img.lastDiCode } })

/-- A held logic request takes effect once every pickup that held it has cleared (R122). -/
def heldGroupWave (s : State) : State :=
  match s.img.heldGroup with
  | some g =>
    if groupHeldOff s g then s
    else
      let s := { s with img := { s.img with heldGroup := none } }
      if groupExists s g then switchGroup g 2 0 s else groupIgnored 2 g s
  | none => s

/-- The requests seen at a wave (R122, R123): DI code, then logic, then command. A DI or logic request for the group in force
or for an absent one still wins the wave, and the lower sources lose though no switch follows (DESIGN CHOICE, log entry 64:
the table ranks the requests seen, not the switches). -/
def groupsSeen (s : State) : State :=
  let (logic, di, s) := groupReads s
  let cmds := s.img.cmdGroups
  let s := { s with img := { s.img with cmdGroups := [] } }
  let lose (s : State) : State := cmds.foldl (fun s c => groupAnswer c.2 .conflict s) s
  match di with
  | some g =>
    let s := lose (match logic with | some l => groupIgnored 2 l s | none => s)
    if !groupExists s g then groupIgnored 3 g s
    else if g = s.img.group then s
    else dropHeld (switchGroup g 3 0 s)
  | none => match logic with
    | some g =>
      let s := lose s
      if !groupExists s g then groupIgnored 2 g s
      else if groupHeldOff s g then { s with img := { s.img with heldGroup := some g } }
      else switchGroup g 2 0 { s with img := { s.img with heldGroup := none } }
    | none => match cmds with
      | (g, r) :: rest =>
        let s := rest.foldl (fun s c => groupAnswer c.2 .conflict s) s
        if !groupExists s g then groupAnswer r .range s
        else
          let sess := match r with | some r => r.session | none => 0
          groupAnswer r .ok (if g = s.img.group then s else dropHeld (switchGroup g 1 sess s))
      | [] => s

/-- The groups at a wave: the requests seen, then a held one, which is none of them (R122, R123). -/
def groupsWave (s : State) : State := heldGroupWave (groupsSeen s)

/-- The group at the first wave after power-up (R123). -/
def startGroup (s : State) : State :=
  let di := if groupSource s 2 then diCode s else none
  let saved := match s.img.savedGroup with
    | some (g, m) => if m = watermark s ∧ groupExists s g then some g else none
    | none => none
  let g := match di with
    | some g => if groupExists s g then g else saved.getD (defaultGroup s)
    | none => saved.getD (defaultGroup s)
  { s with img := { s.img with
    group := g, groupSrc := 0, savedGroup := some (g, watermark s), lastDiCode := di, lastReqWord := reqWord s, heldGroup := none } }

/-! An activation at its boundary (R117, R120, R186, R309, R512). -/

/-- Records of a PID differ between two parameter lists: the indices. -/
def changedIdx (a b : List Param) (pid : Nat) : List Nat :=
  (((a ++ b).filter (fun p => p.pid == pid)).map (fun p => p.index)).eraseDups.filter (fun i => findParam a pid i != findParam b pid i)

/-- SUPPRESSED records of the codes whose limits change, and their buckets (R117, R512). The state still holds the old
image. -/
def limitsChange (b : List Param) (s : State) : State :=
  (changedIdx (params s) b 0x0801).foldl (fun s c =>
    let depth := pv s 0x0801 c 0 2 0
    let s := suppressedRecord c depth s
    { s with evr := { s.evr with buckets := s.evr.buckets.filter (fun (x : Bucket) => x.code != c) } }) s

/-- Image entries of the launch table at the boundary (R117): `b` are the parameters of the old image. -/
def launchesChange (b : List Param) (s : State) : State :=
  (changedIdx b (params s) 0x0A10).foldl (fun s e =>
    let s := match armedEntry s e with
      | some x => if x.owner = .image then updLaunch e (fun x => { x with armed := false }) s else s
      | none => s
    match imgLaunch s e with
    | none => s
    | some v =>
      let s := match armedEntry s e with
        | some _ => launchSkipped (512 + e) 1 0 4 (updLaunch e (fun x => { x with armed := false }) s)
        | none => s
      let past := v.period = 0 ∧ v.instant * 2 ^ 40 ≤ td1 s
      if !s.tu.everLocked then s
      else if past ∨ !targetOk s v then submit .time 0x0125 e s
      else putArmed .image e v (firstAfter v (td1 s)) s) s

/-- Channels that an activation removes or whose source, input or count it changes (R186): an overrange in force is
cleared, and the counts restart. `old` are the entries before. -/
def channelsChange (old : List ChanEntry) (s : State) : State :=
  let key (e : Option ChanEntry) : Option (Nat × Nat × Nat × Nat) := e.map (fun c => (c.source, c.input, 0, c.ovrCount))
  (List.range 16).foldl (fun s n =>
    if key (old.find? (fun (c : ChanEntry) => c.channel == n)) = key (chanEntry s n) then s
    else
      let c := s.acq.ch.getD n Chan.reset
      let s := if c.ovrActive then submit .acq 0x2004 n (clearDet 0x03 n s) else s
      { s with acq := { s.acq with ch := putAt 16 s.acq.ch n { c with ovrRun := 0, clearRun := 0, ovrFlag := false, ovrActive := false } } }) s

/-- The figures that count from the last activation start again (R230, R241, R387); a phase that a launch gave the I/O cycle
ends (R403). -/
def figuresRestart (s : State) : State :=
  { s with
    rio := { s.rio with phase := none, phaseNext := none }
    gr := { s.gr with breached := [], nodeMax := [], readyPeak := 0, flightPeak := 0 }
    le := { s.le with tasks := s.le.tasks.map (fun (t : Task) => { t with max := 0 }) } }

/-- The group after an activation whose image lacks the one in force (R123). -/
def groupAfter (s : State) : State :=
  if groupExists s s.img.group then s
  else
    let g := defaultGroup s
    submit .graph 0x0128 (8 * s.img.group + g)
      { s with img := { s.img with group := g, groupSrc := 0, savedGroup := some (g, watermark s) } }

/-- An image comes into service at a boundary, with every setting difference (R117, R120). -/
def applyImage (u : Image) (s : State) : State :=
  let old := s
  let ps := params s
  let g0 := s.img.group
  let s := limitsChange u.params s
  let s := { s with img := { s.img with cur := some u, source := 3 } }
  let s := groupAfter s
  let s := resetElements (elementsWhere s (setsDiffer ps g0 u.params s.img.group)) s
  let row (t : State) (k : Nat) := (prm t 0x0530 k, rowCfg t k, pv t 0x0535 k 0 2 0xFFFF, pv t 0x0536 k 0 1 0)
  let s := loadRows (rowCfg old) (fun k => (prm old 0x0530 k).isSome && row old k == row s k) s
  let s := channelsChange (match old.img.cur with | some i => i.chans | none => []) s
  let s := launchesChange ps s
  let s := loadProcess s
  let procPids := [0x0B01, 0x0B02, 0x0B03, 0x0B04, 0x0B05, 0x0B10, 0x0B11]
  let s := if procPids.any (fun p => !(changedIdx ps u.params p).isEmpty) then restartPasses s else s
  let s := recMark 5 (waveT1 s) (waveT1 s) (recFlags 0x0020#16 s)
  let s := if pv old 0x0514 0 0 1 0 = pv s 0x0514 0 0 1 0 then s else { s with acq := { s.acq with cycHold := true } }
  let s := figuresRestart { s with img := { s.img with lastReqWord := reqWord s } }
  refreshPads (updCert s)

end Sys2Proof.Machine
end

