-- ==== Sys2Proof/Machine/Boot.lean ====
section
/-! DEFINITION. Start-up: the ROM boot, self-tests, image selection, configuration and logic start (R44, R70 to R95). -/

namespace Sys2Proof.Machine

/-! Power-up and restart: what MRAM, the flash and the factory hold stays (R32, R54, R63, R81, R169, R508). -/

/-- A firmware slot map that a commit left to be swapped is swapped at the next start (R609). -/
def bootNext (cause : Nat) (b : Boot) : Boot :=
  { (default : Boot) with
    cause := cause, serial := b.serial, rev := b.rev, mac := b.mac
    fwA := if b.nextSwap then b.fwB else b.fwA, fwB := if b.nextSwap then b.fwA else b.fwB, physA := b.physA != b.nextSwap }

/-- What CAP_FLUSH shows of the flush that ended the run before (R94). -/
def flushNext (f : Flush) : Flush :=
  if f.cause = 0 ∨ f.recovered then { Flush.reset with lastOk := 31, lastCause := 0, lastTime := 0 }
  else { Flush.reset with lastOk := f.okMask, lastCause := f.cause, lastTime := f.time }

/-- The image slots at a start: an image whose staging was interrupted is discarded (R80, R81). -/
def imagesNext (i : Images) : Images :=
  let keep := i.staging.isNone
  { Images.reset with
    user := i.user, savedGroup := i.savedGroup, pending := if keep then i.pending else []
    pendStatus := if keep then i.pendStatus else 1, offend := i.offend, next := if keep then i.next else none }

/-- The domains at a start (R83, R169): TD0 reads `now`, the time since VMAIN became good, and the others read the same. -/
def timeNext (now : Nat) (t : TimeUnit) : TimeUnit :=
  let d (inc : Nat) : Domain :=
    { Domain.reset with t := now, inc := inc, slew := inc, incLo := inc % 2 ^ 32, slewLo := inc % 2 ^ 32 }
  let i := t.savedInc.getD []
  { TimeUnit.reset with
    d0 := { d (i.getD 0 (2 ^ 42)) with qst := .free }, d1 := d (i.getD 1 (2 ^ 42)), d2 := d (2 ^ 42), d3 := d (2 ^ 42)
    kickAt := now, learnAt := now, savedInc := t.savedInc, ageing := t.ageing, tempCo := t.tempCo, yRes := t.yRes
    lastMean := t.lastMean, lastYear := t.lastYear, fresh := t.fresh }

/-- The event recorder at a start, before it runs (R508, R511, R514, R516). -/
def evrNext (now : Nat) (e : EventRec) : EventRec :=
  { (default : EventRec) with
    log := e.log, mark := e.mark, committed := e.committed, first := e.first, used := e.used, pageNo := e.pageNo
    newest := e.newest, torn := e.torn
    buckets := e.buckets.map (fun (b : Bucket) => { b with refillAt := now, sumAt := now }) }

/-- TD0 at a start: 0 at power-up; at a restart of the hold-up stage the time since VMAIN became good again; at the restart
of a reset TD0 runs on, since VMAIN stayed good (R10, R69, R158). -/
def startTd0 (cause : Nat) (s : State) : Nat :=
  if cause = 0 then 0 else if cause = 2 then td0 s - s.pw.goodAt else td0 s

/-- The engine starts from the ROM boot (R44, R54, R58): START with the cause of R92. A reset leaves the supply and the store
as they are: VMAIN_LOW stays in force until VMAIN has risen above 10.3 V (R44), and a charged store is not measured again. -/
def powerUp (cause : Nat) (s : State) : State :=
  let now := startTd0 cause s
  let reset := decide (cause = 1 ∨ cause = 3)
  let spare := if s.code = .e then 8 else 16
  let z : State := { State.reset with
    code := s.code, pending := s.pending
    pw := { Power.reset with
      phase := .romBoot, vmainGood := true, vmainLow := reset && s.pw.vmainLow
      storeCharged := reset && s.pw.storeCharged, measuring := reset && s.pw.measuring
      pfailN := s.pw.pfailN, resetN := s.pw.resetN, storeCapUF := s.pw.storeCapUF
      storeEsrMohm := s.pw.storeEsrMohm, holdupUs := s.pw.holdupUs }
    pads := { (default : Pads) with bindIn := s.pads.bindIn }
    fl := flushNext s.fl, boot := bootNext cause s.boot, img := imagesNext s.img, tu := timeNext now s.tu
    acq := { Acq.reset with
      gain := s.acq.gain, ofs := s.acq.ofs, twDelay := s.acq.twDelay, spare := spare
      serving := (List.range 16).map (fun k => if k < spare then k else 31) }
    le := { Logic.reset with coldPend := s.le.coldPend, forces := s.le.forces, ret := { s.le.ret with bad := false } }
    fio := { Field.reset with
      diDelay := s.fio.diDelay, gateDelay := s.fio.gateDelay
      dout := s.fio.dout.map (fun (x : DigOut) => { (default : DigOut) with tsdLife := x.tsdLife }) }
    dr := { Dr.reset with
      reel := s.dr.reel, nextId := s.dr.nextId, usedMib := s.dr.usedMib, chains := s.dr.chains, suppSince := s.dr.suppSince }
    evr := evrNext now s.evr
    pr := { Pair.reset with drillT := s.pr.drillT, roleHist := s.pr.roleHist }
    cmd := { (default : Cmd) with wdCnt := s.cmd.wdCnt }
    sec := { (default : Sec) with
      keys := s.sec.keys, cert := s.sec.cert, idKey := s.sec.idKey, keySeq := s.sec.keySeq, counters := s.sec.counters
      attCnt := s.sec.attMark, attMark := s.sec.attMark + 65536, rollback := s.sec.rollback }
    hlt := { Health.reset with
      mon := s.hlt.mon.map (fun (m : Monitor) => { (default : Monitor) with hist := m.hist }), sampleAt := now
      vmain := if reset then s.hlt.vmain else 0
      active := if reset && s.pw.vmainLow then [(0x22, 0)] else [] } }
  submit .boot 0x0100 cause z

/-- VMAIN_GOOD (R44, R58): power-up, unless RESET_N is low: then the engine is in reset, with TD0 at 0 (R54). During a flush
of the hold-up stage the restart waits for its end. -/
def execVmainGood (s : State) : Res :=
  .next (match s.pw.phase with
    | .off =>
      if s.pw.resetN then powerUp 0 s
      else { powerUp 0 s with
        evr := evrNext 0 s.evr, fl := s.fl, pw := { (powerUp 0 s).pw with phase := .inReset, jtag := false } }
    | .holdUp => clearDetAll 0x22 { s with pw := { s.pw with vmainGood := true, goodAt := td0 s, vmainLow := false } }
    | _ => s)

/-- The value of FLUSH_INCOMPLETE (R95): the steps of the last flush that did not complete. -/
def flushIncomplete (s : State) : Nat :=
  let ok (k : Nat) : Bool := s.fl.lastOk.testBit (k - 1)
  b2n (!ok 1) + 2 * b2n (!(ok 2 && ok 4)) + 4 * b2n (!ok 3) + 8 * b2n (!ok 5)

/-- Self-test 5 on the security region (R607): `copies` of its two copies fail. -/
def secRegion (copies : Nat) (s : State) : State :=
  if copies = 0 then s
  else if copies = 1 then submit .sec 0xC008 1 { s with sec := { s.sec with restored := true } }
  else
    submit .sec 0xC008 2 { s with sec := { s.sec with
      lost := true, keys := s.sec.keys.filter (fun (k : Key4) => !(decide (1 ≤ k.kind) && decide (k.kind ≤ 3))), counters := []
      attCnt := s.sec.attMark, attMark := s.sec.attMark + 65536 } }

/-- Self-test 7 (R75): slices that fail are left out and the rotation halts, which event 0x2005 tells (R177). The inputs
that they served wait for the image to say which channel the spare serves. -/
def slicesOut (bad : List Nat) (s : State) : State :=
  bad.foldl (fun s k =>
    if !decide (k < sliceCount s) then s
    else
      let s := fireDetOnce 0x02 k s
      let s := { s with acq := { s.acq with
        removed := setB s.acq.removed k true, removedCnt := s.acq.removedCnt + 1, rotState := 2
        spare := if k = s.acq.spare then 31 else s.acq.spare
        serving := if k = s.acq.spare then s.acq.serving else putAt 16 s.acq.serving k 31 } }
      submit .acq 0x2005 s.acq.removedCnt s) s

/-- SELFTEST_COMPLETE (R75, R76, R95, R97): the tests that failed, the slices of test 7, what test 5 found (retain region,
force table, copies of the security region) and the corrections that test 7 gives. -/
def execSelftestComplete (failed slices : List Nat) (retain forces : Bool) (copies : Nat) (cals : List (Int × Int)) (s : State) : Res :=
  if s.pw.phase ≠ .firmware then .next s
  else
    let failed := (failed ++ (if slices.isEmpty then [] else [7]) ++ (if retain ∨ forces ∨ copies ≠ 0 then [5] else [])).eraseDups
    let s := failed.foldl (fun s k => submit .boot 0x0102 k s) s
    let s := { s with
      boot := { s.boot with failedTests := failed }
      acq := { s.acq with gain := s.acq.gain.zipIdx.map (fun (g, k) => ((cals[k]?).map (·.1)).getD g)
                          ofs := s.acq.ofs.zipIdx.map (fun (g, k) => ((cals[k]?).map (·.2)).getD g) } }
    let s := if failed.contains 5 then fireDetFree 0x0A s else s
    let s := secRegion copies { s with le := { s.le with
      ret := { s.le.ret with bad := retain }, forces := if forces then [] else s.le.forces } }
    let s := slicesOut (slices.mergeSort (fun a b => decide (a ≤ b))) s
    let s := if flushIncomplete s = 0 then s else submit .boot 0x0107 (flushIncomplete s) s
    let s := { s with dr := { s.dr with reel := s.dr.reel.map (fun (r : Record) => if r.state = 1 then { r with state := 3 } else r) } }
    let halt := failed.any (fun k => [1, 2, 3, 4, 6].contains k)
    let s := evrStart { s with pw := { s.pw with phase := if halt then .halted else .imageSelect } }
    .next (refreshPads s)

/-! The image and the units (R70, R77 to R79). -/

/-- A channel as the image in service starts it: a newly assigned PAI channel, a changed INPUT and a changed filter mark 48
tokens SETTLE (R83, R181, R185); a channel with another source or input, or none, starts afresh. Its overrange states stand
until the activation has told their end (R186). -/
def loadChannels (old : List ChanEntry) (s : State) : State :=
  { s with acq := { s.acq with ch := (List.range 16).map (fun n =>
      let c := s.acq.ch.getD n Chan.reset
      let z := { Chan.reset with
        ovrRun := c.ovrRun, clearRun := c.clearRun, ovrFlag := c.ovrFlag, ovrActive := c.ovrActive, xchk := c.xchk }
      match chanEntry s n, old.find? (fun (x : ChanEntry) => x.channel == n) with
      | none, _ => z
      | some e, none => { z with settle := if e.source = 1 then 48 else 0 }
      | some e, some o =>
        if e.source ≠ o.source ∨ e.input ≠ o.input then { z with settle := if e.source = 1 then 48 else 0 }
        else if e.source = 1 ∧ e.filter ≠ o.filter then { c with settle := 48 }
        else c) } }

/-- The spare serves the lowest-numbered assigned channel whose slice self-test 7 left out (R75). -/
def serveSpare (s : State) : State :=
  let lost (n : Nat) : Option Nat := match chanEntry s n with
    | some e => if e.source = 1 ∧ s.acq.serving.getD e.input 31 = 31 ∧ e.input < paiCount s then some e.input else none
    | none => none
  match (List.range 16).findSome? lost with
  | some i => if s.acq.spare = 31 then s
    else { s with acq := { s.acq with serving := putAt 16 s.acq.serving i s.acq.spare, spare := 31 } }
  | none => s

/-- Modal stream `m` existed under the channels `old` (R312). -/
def twExisted (old : List ChanEntry) (m : Nat) : Bool :=
  decide (3 ≤ (old.filter (fun (c : ChanEntry) => c.source == 1 && c.terminal == m / 6 && c.quantity == m % 6 / 3)).length)

/-- The streams of the image: sampled-value subscriptions wait (R197); a modal stream that goes on keeps its state; the
burst of a terminal that loses a stream closes with no end descriptor (R325). Closed bursts still await their location,
with no job. -/
def loadStreams (old : List ChanEntry) (s : State) : State :=
  let burst (t : Nat) : Option Burst :=
    if (List.range 6).any (fun k => twExisted old (6 * t + k) && !twExists s (6 * t + k)) then none else s.acq.burst.getD t none
  { s with acq := { s.acq with
    sv := (List.range 2).map (fun v => if (prm s 0x0984 v).isSome then { (default : SvStream) with st := 1 } else default)
    tw := (List.range 12).map (fun m => if twExisted old m && twExists s m then s.acq.tw.getD m default
      else { (default : TwStream) with armed := true })
    burst := [burst 0, burst 1]
    locQ := s.acq.locQ.map (fun (b : Burst) => { b with job := none }), twQ := [] } }

/-- The graph in core memory: no instance, every context as the image gives it, the P space at 0 (R210, R212). -/
def loadGraph (s : State) : State :=
  { s with gr := { s.gr with
    insts := [], ready := List.replicate 4 [], flight := [], epochs := [], affinity := [], delays := [], tokens := [], elems := []
    energy := [], outs := [], pBitF := [], pBitQ := [], pWordQ := [], pWordF := [], pBitB := [], pWordB := [], lBit := []
    lWord := [], lBitN := [], lWordN := [], rows := [], relWave := none, p2Done := [], openWaves := [], openDescs := []
    d0Count := 0, held := false, jobs := [], lateP2 := [], digIn := [], overWaves := []
    prev := [], winFrom := [], winSkip := [], waitAt := none } }

/-- The logic program and its tasks (R347, R362). -/
def loadLogic (s : State) : State :=
  match s.img.cur.bind (·.logic) with
  | none => { s with le := { s.le with sec := none, program := [], tasks := [], began := false, keepQ := [], mode := .notStarted } }
  | some l => { s with le := { s.le with
      sec := some l, program := l.program, began := false, keepQ := [], firstDone := [], mode := .notStarted
      trigIn := [], trigQ := [], heldTask := none, stepping := none, breaks := [], halted := s.pw.warning || s.pw.resetPend
      tasks := l.tasks.map (fun (c : TaskCfg) => { (default : Task) with num := c.task, first := true }) } }

/-- The configuration stage: every unit takes the image in service (R70, R119). `old` are the channels before. -/
def loadUnits (old : List ChanEntry) (s : State) : State :=
  let s := loadLogic (stalledJoin (loadGraph (loadStreams old (serveSpare (loadChannels old s)))))
  let s := loadProcess (loadRows (rowCfg s) (fun _ => false) s)
  figuresRestart { s with
    net := { s.net with pubs := [], subs := [], pend := [], nQual := [] }
    rio := { Rio.reset with seq := s.rio.seq, xchk := s.rio.xchk }
    dr := { s.dr with started := false, flushed := false, units := List.replicate 32 default } }

/-- IMAGE_SELECT (R78, R79): SCH_USER over SCH_FACTORY, or SCH_FACTORY alone. -/
def execImageSelect (s : State) : Res :=
  if s.pw.phase ≠ .imageSelect then .next s
  else
    let load (u : Image) (src st : Nat) (s : State) : State :=
      updCert (loadUnits [] { s with
        img := { s.img with cur := some u, source := src, userStatus := st }, pw := { s.pw with phase := .configure } })
    if s.img.user.isEmpty then .next (submit .boot 0x0103 1 (load factoryImage 2 1 s))
    else match checkImage s s.img.user false with
      | .ok u => .next (load u 1 0 s)
      | .error (st, t, o) =>
        .next (submit .boot 0x0103 st (load factoryImage 2 st { s with img := { s.img with offend := (t, o) } }))

/-- The last grid slot whose release offset of 192 us has passed (R19, R20). -/
def lastSlot (s : State) : Nat := (td1 s - usT 192) / (62500 * 2 ^ 40)

/-- A HELLO cell (R529): serial, established flag, state and role, watermark. -/
def sendHello (s : State) : State :=
  sendCell 1 ([s.boot.serial, b2n s.pr.established, s.pr.st.toNat, b2n s.pr.active] ++ (watermark s).map (·.toNat)) s

/-- Protection runs (R70, R82, R95): waves from the next slot on, the graph and the pair unit. Without an enabled pair
section, or not listed in it, the engine is active in SOLO and holds the binding (R533, R534). -/
def runProtection (s : State) : State :=
  let k := lastSlot s
  let s := { s with
    pw := { s.pw with phase := .running }
    boot := { s.boot with startT := if s.boot.startT = 0 then nsAll (td0 s) / 1000 else s.boot.startT, protSince := td0 s }
    tu := { s.tu with
      slot := k, gridLock := s.tu.gridLock || s.tu.grid == .aligned
      kickAt := if s.tu.kickOn then s.tu.kickAt else td0 s, kickOn := true }
    acq := { s.acq with wave := k % 2 ^ 32, waveAt := (k / 16000, k % 16000) }
    gr := { s.gr with running := true }
    pr := { s.pr with cfgAt := td0 s }
    pads := { s.pads with hbOut := true } }
  let alone := !pairOn s || (pairEntry s).isNone || s.pr.active
  let s := if alone then
      let s := if pairOn s && (pairEntry s).isNone then submit .pair 0x900A 1 s else s
      tryBind (setRoleActive true { s with pr := { s.pr with
        tx := true, tripOff := false, bindWant := !s.pads.bindOut, wantAt := td0 s } })
    else sendHello { s with pr := { s.pr with tripOff := true } }
  refreshPads (submit .boot 0x0104 s.img.source s)

/-- CONFIGURATION_COMPLETE (R70): every unit is configured. -/
def execConfigurationComplete (s : State) : Res :=
  if s.pw.phase ≠ .configure ∨ s.img.act.isSome then .next s else .next (runProtection s)

/-! Logic start (R86 to R89). -/

/-- The retain step of the flush that ended the run, or of a structural activation, completed. -/
def retainOk (s : State) : Bool := if s.fl.structural then s.fl.okMask.testBit 0 else s.fl.lastOk.testBit 0

/-- The logic start code (R86). -/
def startCode (s : State) : Nat :=
  match s.le.sec with
  | none => 0
  | some l =>
    if s.le.coldPend then 2
    else if s.le.ret.digest ≠ some l.digest then 3
    else if s.le.ret.bad then 4
    else if !retainOk s then 5 + min 2 l.retainInc
    else 1

/-- The mode that a warm start resumes (R88, R377). -/
def warmMode (m : LeMode) : LeMode := match m with | .notStarted => .run | m => m

/-- LOGIC_START (R86 to R89). -/
def execLogicStart (s : State) : Res :=
  if !running s ∨ s.le.began then .next s
  else
    let code := startCode s
    let s := { s with le := { s.le with began := true }, img := { s.img with leStart := code } }
    let s := submit .logic 0x0105 code s
    if code = 0 then .next s
    else
      let cold := decide (code = 2 ∨ code = 3 ∨ code = 4 ∨ code = 7)
      let s := if cold then coldState s else loadRetain s
      let m : LeMode := if code = 5 then .stop else if cold ∨ code = 6 then .run else warmMode s.le.ret.mode
      let s := { s with le := { s.le with driven := [], holdAt := td0 s } }
      .next (match m with
        | .run => setMode .run 1 (enterRun s)
        | m => setMode m 1 (abandon s))

/-- FW_B_CHECKED (R74): the background verification of FW_B, when FW_A runs. -/
def execFwBChecked (s : State) : Res :=
  if !running s ∨ s.boot.slot ≠ 1 ∨ s.boot.fwbResult ≠ 0 then .next s
  else
    let b := readSlot s.boot.fwB.bytes s
    .next (submit .boot 0x0108 b.result { s with boot := { s.boot with fwB := b, fwbResult := b.result } })

end Sys2Proof.Machine
end

