-- ==== Sys2Proof/Machine/Power.lean ====
section
/-! DEFINITION. Supply, hold-up store, power-fail flush and reset (R44, R54 to R63, R94 to R98). -/

namespace Sys2Proof.Machine

/-- The engine's firmware runs: it has started and neither halted nor gone down. -/
def firmwareUp (s : State) : Bool :=
  match s.pw.phase with
  | .firmware => true | .imageSelect => true | .configure => true | .running => true
  | _ => false

/-- R58 steps 1 to 3: HEALTHY and BIND_OUT drop, the failure message goes out, HB_OUT stops after three FAILURE pulses (R531), every output is off, the
isolated converters stop. -/
def outputsOff (s : State) : State :=
  let s := sendCell 6 [1] s
  let s := { s with
    pads := { s.pads with healthy := false, forceInd := false, bindOut := false, hbOut := false, hbCode := 3 }
    pw := { s.pw with convertersOn := false }
    pr := { s.pr with bindWant := false }
    fio := { s.fio with tripCmd := 0#8, sentCmd := 0#8, released := false, bindEn := false, sentLaunch := [] }
    upc := { s.upc with ch := s.upc.ch.map (fun (c : ProcChan) => { c with enabled := false, dac := 0 }) } }
  driveAll s

/-- A flush that was to start after the step in progress has not run: it ends with no step complete (R58, R94). -/
def lateFlush (f : Flush) : Flush :=
  if f.again = 0 then f else { f with cause := f.again, again := 0, okMask := 0, done := false, recovered := false }

/-- The engine enters reset (R54, R56); with RESET_N high, after a JTAG reset, it restarts at once. -/
def enterReset (s : State) : State :=
  let cause := if s.pw.jtag then 3 else 1
  let s := outputsOff s
  let s := { s with
    pw := { s.pw with phase := .inReset, resetPend := false }, gr := { s.gr with running := false }, fl := lateFlush s.fl }
  if s.pw.resetN then powerUp cause s else s

/-- The engine halts at the end of the hold-up stage; it restarts if VMAIN is good again (R58), with TD0 counted from that
instant (R69), unless RESET_N holds it in reset or a reset waited for the flush (R54, R55). -/
def halt (s : State) : State :=
  if !s.pw.vmainGood then { s with pw := { s.pw with phase := .off, resetPend := false } }
  else if s.pw.resetPend then enterReset s
  else if !s.pw.resetN then { s with pw := { s.pw with phase := .inReset, jtag := false } }
  else powerUp 2 s

/-- A flush starts (R96, R98): a freeze ends (R521), tasks halt, a commit to SCH_USER stops, an awaiting change is
refused. -/
def startFlush (cause : Nat) (structural : Bool) (s : State) : State :=
  let s := if s.evr.freeze.isSome then thaw 5 s else s
  let s := refuseChange .badState s
  let s := if s.img.committing then submit .image 0x0124 0 { s with img := { s.img with committing := false } } else s
  { s with
    le := { s.le with halted := true }
    fl := { s.fl with
      running := true, done := false, cause := cause, step := 1, okMask := 0, startAt := td0 s, time := 0
      structural := structural, recovered := false, again := 0 } }

/-- A flush is called for (R54, R57, R58): it starts, unless one runs (R55); after one that a recovery cuts short it starts
when the step in progress has completed (R59). -/
def callFlush (cause : Nat) (s : State) : State :=
  if s.fl.running && s.fl.recovered then { s with fl := { s.fl with again := cause } }
  else if s.fl.running && !s.fl.structural then s
  else startFlush cause false s

/-- Trip-class outputs are switched off and every other output takes its safe value (R119). -/
def structuralOff (s : State) : State :=
  driveAll { s with gr := { s.gr with rows := [] }, fio := { s.fio with tripCmd := 0#8 } }

/-- What follows the end of a flush. -/
def flushEnds (s : State) : State :=
  if s.pw.phase = .holdUp then halt s
  else if s.pw.resetPend then enterReset s
  else if outOfService s then structuralOff s
  else s

/-- Duration of the flush so far, in units of 10 us (R94). -/
def flushTime (s : State) : Nat := min 65535 (nsAll (td0 s - s.fl.startAt) / 10000)

/-- A flush ends: done, or cut short by a recovery, after which tasks resume and the recorder re-arms (R59, R98), or the
flush called for since then starts. -/
def endFlush (done : Bool) (s : State) : State :=
  if s.fl.again ≠ 0 then startFlush s.fl.again false { s with fl := { s.fl with running := false } }
  else
  let s := { s with fl := { s.fl with running := false, done := done, step := 0, time := flushTime s } }
  let s := if s.fl.recovered then drRecover { s with le := { s.le with halted := false } } else s
  flushEnds s

/-- Step 4 (R97): one page of at most 256 records; of more, the 254 oldest, a LOST record and its companion. -/
def finalPage (s : State) : State :=
  if s.evr.front.length ≤ 256 then commitAll s
  else
    let left := s.evr.front.drop 254
    let n := (left.filter (fun (r : Rec) => r.kind == 0)).length
    let evs := left.filterMap (fun (r : Rec) => r.ev)
    let now := engineEvent s 0 0
    let a := evs.head?.getD now
    let b := evs.getLast?.getD now
    let s := { s with evr := { s.evr with front := s.evr.front.take 254, lostCnt := satAdd 32 s.evr.lostCnt n } }
    commitAll (summaryRec 3 0 n (a.t1, a.epoch, a.t0) (b.t1, b.epoch) s)

/-- Step 5: the capture data of every closed record has drained. -/
def drainAll (s : State) : State :=
  (s.dr.reel.filter (fun (r : Record) => r.state == 1)).foldl (fun s r => reelDrainDone r.id 0 0 s) s

/-- What a completed step has written (R96). -/
def flushWrites (step : Nat) (s : State) : State :=
  match step with
  | 1 =>
    let s := if s.le.mode = .notStarted then s else writeRetain s
    { s with evr := { s.evr with commitLeft := s.evr.front.length } }
  | 2 =>
    let n := s.evr.commitLeft
    let s := (List.range ((n + 255) / 256)).foldl (fun s k => commitPage (min 256 (n - 256 * k)) s) s
    { s with evr := { s.evr with commitPend := false, committing := false, commitLeft := 0, commitAt := td0 s } }
  | 3 => if s.dr.cap.isSome then drPowerFail s else { s with dr := { s.dr with flushed := true, coll := none, owed := none } }
  | 4 => finalPage s
  | _ => drainAll s

/-- FLUSH_STEP_COMPLETE (R96): the step's writes are complete and the next starts; a structural activation runs steps 1
to 4 (R119); after a recovery the step in progress is the last. -/
def execFlushStepComplete (s : State) : Res :=
  if !s.fl.running then .next s
  else
    let k := s.fl.step
    let s := flushWrites k s
    let s := { s with fl := { s.fl with okMask := s.fl.okMask ||| 2 ^ (k - 1), step := k + 1 } }
    let all := decide (k = 5) || (s.fl.structural && decide (k = 4))
    .next (if all || s.fl.recovered then endFlush all s else s)

/-- The warning stage begins (R57): `by_` is 1 PFAIL_N, 2 VMAIN_LOW. -/
def warn (by_ : Nat) (s : State) : State :=
  if !firmwareUp s || s.pw.warning then s
  else
    callFlush by_ (submit .boot 0x0110 by_ { s with pw := { s.pw with warning := true } })

/-- The warning stage recovers (R59): the step in progress is the flush's last, or tasks resume and the recorder re-arms.
A reset's flush goes on. -/
def recover (last : Nat) (s : State) : State :=
  let s := submit .boot 0x0111 last { s with pw := { s.pw with warning := false } }
  if s.pw.resetPend then s
  else if s.fl.running then { s with fl := { s.fl with recovered := true, again := 0 } }
  else drRecover { s with le := { s.le with halted := false }, fl := { s.fl with recovered := true } }

/-- A condition of the warning stage that is in force when the firmware starts begins it. -/
def warnIfLow (s : State) : State := if !s.pw.pfailN then warn 1 s else if s.pw.vmainLow then warn 2 s else s

/-- FIRMWARE_START (R72, R73): the slot that passes starts; both barriers start with the firmware. A PFAIL_N or a
VMAIN_LOW that is already there begins the warning stage (R57). -/
def execFirmwareStart (s : State) : Res :=
  if s.pw.phase ≠ .romBoot then .next s
  else
    let a := readSlot s.boot.fwA.bytes s
    let b := readSlot s.boot.fwB.bytes s
    let s := { s with boot := { s.boot with fwA := a, fwaResult := a.result } }
    let up (s : State) : State :=
      warnIfLow { s with pw := { s.pw with phase := .firmware, convertersOn := true } }
    if a.result = 1 then .next (up { s with boot := { s.boot with slot := 1, fwVer := a.version } })
    else
      let s := { s with boot := { s.boot with fwB := b, fwbResult := b.result } }
      if b.result = 1 then
        .next (up (submit .boot 0x0101 a.result { s with boot := { s.boot with slot := 2, fwVer := b.version } }))
      else .next { s with pw := { s.pw with phase := .romRecovery } }

/-- PFAIL_N_LOW (R57). -/
def execPfailNLow (s : State) : Res :=
  if s.pw.phase = .off then .next { s with pw := { s.pw with pfailN := false } }
  else .next (warn 1 { s with pw := { s.pw with pfailN := false } })

/-- VMAIN_LOW (R44, R57, R628): VMAIN below 10.0 V, with its value in mV. -/
def execVmainLow (mv : Nat) (s : State) : Res :=
  if s.pw.phase = .off ∨ s.pw.vmainLow then .next s
  else
    let s := { s with pw := { s.pw with vmainLow := true }, hlt := { s.hlt with vmain := mv } }
    .next (warn 2 (fireDet 0x22 0 mv s))

/-- VMAIN rises above 10.3 V (R44). With PFAIL_N high a warning stage recovers, VMAIN_LOW being the last condition to clear
(R59). -/
def vmainRises (s : State) : State :=
  if s.pw.phase = .off ∨ injOn s 0x22 0 then s
  else
    let s := clearDetAll 0x22 { s with pw := { s.pw with vmainLow := false } }
    if s.pw.warning ∧ s.pw.pfailN ∧ s.pw.phase ≠ .holdUp then recover 2 s else s

/-- VMAIN_LOW_CLEARED (R44). -/
def execVmainLowCleared (s : State) : Res := .next (vmainRises s)

/-- PFAIL_N goes high: a warning stage recovers if VMAIN_LOW is not in force, PFAIL_N being the last condition to clear
(R59). -/
def pfailRises (s : State) : State :=
  let s := { s with pw := { s.pw with pfailN := true } }
  if s.pw.warning ∧ !s.pw.vmainLow ∧ s.pw.phase ≠ .holdUp then recover 1 s else s

/-- PFAIL_RECOVERED (R59), by the condition that clears: 1 PFAIL_N goes high, 2 VMAIN rises above 10.3 V. -/
def execPfailRecovered (last : Nat) (s : State) : Res :=
  .next (if last = 1 then pfailRises s else if last = 2 then vmainRises s else s)

/-- HOLD_UP_STAGE (R58): VMAIN below 9.0 V. The store carries the flush; before the firmware runs, or halted, there is
nothing to flush. -/
def execHoldUpStage (s : State) : Res :=
  match s.pw.phase with
  | .off => .next s
  | .holdUp => .next s
  | .inReset => .next { s with pw := { s.pw with phase := .off, vmainLow := true, vmainGood := false } }
  | _ =>
    let up := firmwareUp s
    let s := outputsOff { s with pw := { s.pw with vmainLow := true, vmainGood := false }, gr := { s.gr with running := false } }
    if !up then .next { s with pw := { s.pw with phase := .off } }
    else
      let s := if s.fl.cause ≠ 0 && s.fl.done && !s.fl.recovered && !s.fl.structural then s else callFlush 2 s
      let s := { s with pw := { s.pw with phase := .holdUp } }
      .next (if s.fl.running then s else halt s)

/-- STORE_CUTOFF (R58, R96, R97): the engine halts. `torn` are the slots of an event page whose write was cut off,
`written` the bytes of the draining record that the reel index shows. -/
def execStoreCutoff (torn written : Nat) (s : State) : Res :=
  if s.pw.phase ≠ .holdUp then .next s
  else
    let s := if s.fl.running ∧ (s.fl.step = 2 ∨ s.fl.step = 4) then { s with evr := { s.evr with torn := torn } } else s
    let s := { s with dr := { s.dr with
      reel := s.dr.reel.map (fun (r : Record) => if r.state = 1 then { r with written := min r.expLen written } else r) } }
    .next { s with
      pw := { s.pw with phase := .off, vmainLow := true, vmainGood := false, resetPend := false }
      fl := lateFlush { s.fl with running := false, time := flushTime s } }

/-! Reset (R54 to R56). -/

/-- A reset is taken: the flush starts unless one runs; in the hold-up stage it waits for the flush that runs (R55). -/
def takeReset (jtag : Bool) (s : State) : State :=
  match s.pw.phase with
  | .off => s
  | .inReset => s
  | .holdUp => { s with pw := { s.pw with resetPend := true, jtag := jtag } }
  | _ =>
    let s := { s with pw := { s.pw with resetPend := true, jtag := jtag, resetAt := td0 s - usT 10 } }
    if !firmwareUp s then enterReset s
    else if s.fl.running && !s.fl.structural && !s.fl.recovered then s
    else callFlush 3 (submit .boot 0x0112 0 s)

/-- RESET_N_LOW (R54, R55): RESET_N low for 10 us. -/
def execResetNLow (s : State) : Res := .next (takeReset false { s with pw := { s.pw with resetN := false } })

/-- JTAG_RESET (R56). -/
def execJtagReset (s : State) : Res := .next (takeReset true s)

/-- RESET_FLUSH_TIMEOUT (R54): 50 ms after RESET_N fell. A reset that waits for a power-fail flush waits for its end (R55). -/
def execResetFlushTimeout (s : State) : Res :=
  if s.pw.resetPend ∧ s.fl.running ∧ s.fl.cause = 3 ∧ due s s.pw.resetAt (msT 50) then
    .next (enterReset { s with fl := { s.fl with running := false, time := flushTime s } })
  else .next s

/-- RESET_N_RELEASE (R54): out of reset, from the ROM boot. -/
def execResetNRelease (s : State) : Res :=
  let s := { s with pw := { s.pw with resetN := true } }
  if s.pw.phase = .inReset then .next (powerUp (if s.pw.jtag then 3 else 1) s) else .next s

/-! The hold-up store (R60 to R63, R628). -/

/-- STORE_CHARGED (R62): the 2 ms measurement starts. -/
def execStoreCharged (s : State) : Res :=
  if s.pw.phase = .off ∨ s.pw.storeCharged then .next s
  else .next { s with pw := { s.pw with storeCharged := true, measuring := true } }

/-- A hold-up measurement's results are stored; below 20 ms it is reported (R62, R66). -/
def holdupMeasured (cap esr : Nat) (us : Nat) (s : State) : State :=
  let s := { s with pw := { s.pw with measuring := false, storeCapUF := cap, storeEsrMohm := esr, holdupUs := us } }
  let s := if us < 20000 then fireDetOnce 0x21 1 s else s
  monPoint 7 (monValue 7 (us * 1000) false s)

/-- The hold-up time at 5 W in us, of a capacitance in uF and an ESR in mOhm: C x 19.2 s/F (R60). What the ESR takes from it
is not stated: it is Config.esrLoss, nothing without ESR. -/
def holdupTime (cap esr : Nat) : Nat := cap * 192 / 10 - (if esr = 0 then 0 else Config.esrLoss cap esr)

/-- HOLDUP_MEASURE_DONE (R62, R630, R631): the capacitance of the internal store and that at VHOLD, which is on its node and
is included, in uF, and their ESR in mOhm. An injection of HOLDUP_LOW reads 19 ms. -/
def execHoldupMeasureDone (cap esr vhold : Nat) (s : State) : Res :=
  let c := cap + vhold
  if !s.pw.measuring then .next s else .next (holdupMeasured c esr (if injOn s 0x21 0 then 19000 else holdupTime c esr) s)

/-- STORE_CHARGE_TIMEOUT (R62): not at 15.0 V within 5 s of VMAIN good. -/
def execStoreChargeTimeout (s : State) : Res :=
  if s.pw.phase ≠ .off ∧ !s.pw.storeCharged ∧ due s 0 (secT 5) then .next (fireDetOnce 0x21 2 s) else .next s

/-- STORE_VOLTAGE_LOW (R62): below 15.0 V while VMAIN is good. -/
def execStoreVoltageLow (mv : Nat) (s : State) : Res :=
  if s.pw.phase ≠ .off ∧ s.pw.phase ≠ .holdUp ∧ s.pw.storeCharged ∧ s.pw.vmainGood then
    .next (fireDetOnce 0x21 3 { s with hlt := { s.hlt with store := mv } })
  else .next s

end Sys2Proof.Machine
end

