-- ==== Sys2Proof/Machine/Images.lean ====
section
/-! DEFINITION. Staging, activation and commit of images, on-line change of the logic section and group requests
(R80, R81, R110 to R124, R380 to R384). -/

namespace Sys2Proof.Machine

/-! Staging (R112 to R114). -/

/-- An activation, or an on-line change that an activation may have begun, is in progress. -/
def activating (s : State) : Bool := s.img.act.isSome || s.le.change.isSome || s.le.changeDue.isSome || s.img.committing

/-- Another session is staging. -/
def othersStage (r : Req) (s : State) : Bool := s.img.staging.any (fun x => x.1 != r.session)

/-- IMG_BEGIN (R112, R113). A length of 0 answers RANGE (DESIGN CHOICE, log entry 80). -/
def execImgBegin (r : Req) (len : Nat) (s : State) : Res :=
  .next (serve r 0x0020 s (fun s =>
    if activating s then answer r 0x0020 .badState s
    else if othersStage r s then answer r 0x0020 .conflict s
    else if len = 0 ∨ 16777216 < len then answer r 0x0020 .range s
    else answer r 0x0020 .ok { s with img := { s.img with
      staging := some (r.session, len), staged := [], pending := [], next := none, pendStatus := 1, offend := (0, 0) } }))

/-- IMG_DATA (R112): bytes at an offset, in any order. With no staging open it answers BAD_STATE (DESIGN CHOICE, log entry
80). -/
def execImgData (r : Req) (offset : Nat) (bytes : List Byte) (s : State) : Res :=
  .next (serve r 0x0021 s (fun s =>
    match s.img.staging with
    | none => answer r 0x0021 .badState s
    | some (h, len) =>
      if h ≠ r.session then answer r 0x0021 .conflict s
      else if len < offset + bytes.length then answer r 0x0021 .range s
      else answer r 0x0021 .ok { s with img := { s.img with staged := s.img.staged ++ [(offset, bytes)] } }))

/-- The first byte below `n` that no write covers. -/
def firstGap (ws : List (Nat × List Byte)) (n : Nat) : Nat :=
  ((List.range n).find? (fun i => !ws.any (fun w => decide (w.1 ≤ i) && decide (i < w.1 + w.2.length)))).getD 0

/-- The staged bytes are checked and held in SCH_PENDING with their status (R110, R112). -/
def stageImage (ws : List (Nat × List Byte)) (len : Nat) (s : State) : State :=
  let b := assemble ws len
  let (st, off, next) : Nat × (Nat × Nat) × Option Image :=
    if !covered ws len then (6, (0, firstGap ws len), none)
    else match checkImage s b true with
      | .ok u => (0, (0, 0), some u)
      | .error (st, t, o) => (st, (t, o), none)
  { s with img := { s.img with pending := b, next := next, pendStatus := st, offend := off, staging := none, staged := [] } }

/-- IMG_COMMIT (R112 to R114). With no staging open it answers BAD_STATE (DESIGN CHOICE, log entry 80). -/
def execImgCommit (r : Req) (s : State) : Res :=
  .next (serve r 0x0022 s (fun s =>
    match s.img.staging with
    | none => answer r 0x0022 .badState s
    | some (h, len) =>
      if h ≠ r.session then answer r 0x0022 .conflict s
      else
        let s := stageImage s.img.staged len s
        let s := submit .image 0x0120 s.img.pendStatus s
        respond r 0x0022 .ok false
          (leBytes 1 s.img.pendStatus ++ zeros 1 ++ leBytes 2 s.img.offend.1 ++ leBytes 4 s.img.offend.2) s))

/-- Watermark of the staged image. -/
def stagedMark (s : State) : List Byte := match s.img.next with | some u => padTo 8 u.digest | none => zeros 8

/-- IMG_STATUS (R93, R110). -/
def execImgStatus (r : Req) (s : State) : Res :=
  .next (serve r 0x0024 s (fun s =>
    respond r 0x0024 .ok false
      (leBytes 1 s.img.userStatus ++ leBytes 1 s.img.pendStatus ++ leBytes 2 s.img.offend.1 ++ leBytes 4 s.img.offend.2 ++
        watermark s ++ stagedMark s) s))

/-! Activation (R115 to R120). -/

/-- The image goes to the standby as BULK cells (R118, R529): kind 1, total length, offset, bytes. -/
def sendImage (s : State) : State :=
  let b := s.img.pending
  (List.range ((b.length + 499) / 500)).foldl (fun s k =>
    sendCell 7 (1 :: b.length :: 500 * k :: (bytesAt b (500 * k) 500).map (·.toNat)) s) s

/-- A commit to SCH_USER begins where the option asks for it (R120). -/
def beginCommit (commit : Bool) (s : State) : State :=
  if commit then { s with img := { s.img with committing := true } } else s

/-- The answer of an IMG_ACTIVATE that has taken effect: class and boundary wave. -/
def activated (req : Option Req) (cls w : Nat) (s : State) : State :=
  let s := submit .image 0x0121 cls s
  match req with
  | some r => respond r 0x0023 .ok false (leBytes 1 cls ++ zeros 3 ++ leBytes 4 w) s
  | none => s

/-- The staged image comes into service at the boundary wave `w` (R117, R120). -/
def activateNow (cls : Nat) (commit : Bool) (req : Option Req) (w : Nat) (s : State) : State :=
  match s.img.next with
  | none => { s with img := { s.img with act := none } }
  | some u =>
    let s := applyImage u { s with img := { s.img with act := none } }
    beginCommit commit (activated req cls w s)

/-- The parameters of the activation that an IMG_ACTIVATE begins. -/
def newAct (r : Req) (cls : Nat) (commit wait : Bool) (s : State) : Activation :=
  { cls := cls, commit := commit, req := r, acceptedNs := nsAll (td1 s), acceptedTd0 := td0 s, waitPeer := wait, boundary := none }

/-- The on-line change rules on the engine's state (R380, R384). -/
def changeBlocked (s : State) : Bool := s.le.mode == .hold || pairRefuses s || s.img.act.isSome || s.img.committing

/-- A change awaits changeover; in TWIN the standby confirms first (R380, R384). -/
def awaitChange (c : Change) (s : State) : State :=
  { s with le := { s.le with change := some c, changeSt := 1, changeRes := 0 } }

/-- A structural activation in SOLO begins (R119): HEALTHY, then the flush. -/
def startStructural (r : Req) (commit : Bool) (s : State) : State :=
  let s := { s with
    img := { s.img with act := some (newAct r 3 commit false s) }
    pw := { s.pw with phase := .configure }, gr := { s.gr with running := false } }
  startFlush 0 true (refreshPads s)

/-- IMG_ACTIVATE by class, the staged image valid (R116, R118). Class 3 in COLD answers BAD_STATE with OUT_OF_SERVICE too
(DESIGN CHOICE, log entry 79). -/
def activateClass (r : Req) (options : Nat) (cur next : Image) (s : State) : State :=
  let commit := options.testBit 0
  let no (st : Status) : State := activateRefused (some r) st s
  let twin := s.pr.st == .twin
  match changeClass cur next with
  | 1 =>
    let s := { s with img := { s.img with act := some (newAct r 1 commit twin s) } }
    if twin then sendImage s else s
  | 2 =>
    if changeBlocked s then no .badState
    else
      let s := awaitChange { commit := commit, byActivate := true, req := some r, at0 := td0 s, waitPeer := twin } s
      if twin then sendImage s else s
  | _ => if s.pr.st == .solo && options.testBit 1 then startStructural r commit s else no .badState

/-- IMG_ACTIVATE (R115, R116, R120, R620). -/
def execImgActivate (r : Req) (options : Nat) (s : State) : Res :=
  .next (serve r 0x0023 s (fun s =>
    let no (st : Status) : State := activateRefused (some r) st s
    if 8 ≤ options then no .range
    else match s.img.next, s.img.cur with
      | some next, some cur =>
        if s.img.pendStatus ≠ 0 ∨ !running s then no .badState
        else if imgHas next 0x18 && !(findSession s r).any (fun x => hasRole x 4) then no .denied
        else if options.testBit 2 then
          if padTo 8 next.digest ≠ watermark s ∨ s.img.committing then no .badState
          else respond r 0x0023 .ok false (leBytes 1 (changeClass cur next) ++ zeros 3 ++ leBytes 4 s.acq.wave) (beginCommit true s)
        else if pairRefuses s ∨ s.img.act.isSome ∨ s.img.committing ∨ s.le.changeDue.isSome then no .badState
        else if s.le.change.isSome then (if changeClass cur next = 2 then no .conflict else no .badState)
        else activateClass r options cur next s
      | _, _ => no .badState))

/-- ACTIVATION_BOUNDARY (R117): the first release at least 1 ms of TD1 after acceptance; the next wave is the boundary. In
TWIN the boundary is the wave that the active has named (R118). -/
def execActivationBoundary (s : State) : Res :=
  .next (match s.img.act with
    | some a =>
      if a.cls = 1 ∧ !a.waitPeer ∧ a.boundary.isNone ∧ a.acceptedNs + 1000000 ≤ nsAll (td1 s) then
        activateNow 1 a.commit (some a.req) ((s.acq.wave + 1) % 2 ^ 32) s
      else s
    | none => s)

/-- ACTIVATION_CONFIRM_TIMEOUT (R118, R384): the standby has not confirmed within 1 s. -/
def execActivationConfirmTimeout (s : State) : Res :=
  match s.img.act with
  | some a =>
    if a.waitPeer ∧ due s a.acceptedTd0 (secT 1) then
      .next (activateRefused (some a.req) .badState { s with img := { s.img with act := none } })
    else .next s
  | none => match s.le.change with
    | some c => if c.waitPeer ∧ due s c.at0 (secT 1) then .next (refuseChange .badState s) else .next s
    | none => .next s

/-- PMU streams whose parameters a structural activation changes mark the change (R262). -/
def pmuChanged (old : List Param) (s : State) : State :=
  let idx := (List.range 16).flatMap (fun k => changedIdx old (params s) (0x0990 + k))
  { s with gr := { s.gr with pmu := s.gr.pmu.zipIdx.map (fun (p, k) => if idx.contains k then { p with cfgChangeAt := some (td1 s) } else p) } }

/-- STRUCTURAL_CONFIG_DONE (R119, R120): the configuration stage with the new image is complete and protection runs. -/
def execStructuralConfigDone (s : State) : Res :=
  match s.img.act, s.img.next with
  | some a, some u =>
    if a.cls ≠ 3 ∨ s.fl.running ∨ s.pw.phase ≠ .configure then .next s
    else
      let old := params s
      let cyc := pv s 0x0514 0 0 1 0
      let chans := match s.img.cur with | some i => i.chans | none => []
      let s := limitsChange u.params s
      let s := { s with img := { s.img with cur := some u, source := 3 }, fio := { s.fio with tripCmd := 0#8 } }
      let s := groupAfter (loadUnits chans s)
      let s := pmuChanged old (launchesChange old (channelsChange chans s))
      let s := if pv s 0x0514 0 0 1 0 = cyc then s else { s with acq := { s.acq with cycHold := true } }
      let s := updCert { s with img := { s.img with act := none, lastReqWord := 0 } }
      let s := runProtection s
      .next (beginCommit a.commit (activated (some a.req) 3 ((s.acq.wave + 1) % 2 ^ 32) s))
  | _, _ => .next s

/-- SCH_USER_COMMIT_DONE (R81, R120): the image is written and verified and the slot pointer switches, or the commit
fails. -/
def execSchUserCommitDone (good : Bool) (s : State) : Res :=
  if !s.img.committing then .next s
  else
    let s := { s with img := { s.img with committing := false } }
    if good then .next (submit .image 0x0123 0 { s with img := { s.img with user := s.img.pending, userStatus := 0 } })
    else .next (submit .image 0x0124 0 s)

/-! On-line change of the logic section (R380 to R384). -/

/-- LE_CHANGE (R380, R384). -/
def execLeChange (r : Req) (mark forces : List Byte) (options : Nat) (s : State) : Res :=
  .next (serve r 0x0033 s (fun s =>
    if 2 ≤ options then answer r 0x0033 .range s
    else match s.img.next, s.img.cur with
      | some next, some cur =>
        if s.img.pendStatus ≠ 0 ∨ !running s ∨ changeClass cur next ≠ 2 ∨ changeBlocked s then answer r 0x0033 .badState s
        else if mark ≠ padTo 8 next.digest then answer r 0x0033 .range s
        else if forces ≠ forceDigest s ∨ s.le.change.isSome ∨ s.le.changeDue.isSome then answer r 0x0033 .conflict s
        else
          let twin := s.pr.st == .twin
          let s := awaitChange
            { commit := options.testBit 0, byActivate := false, req := none, at0 := td0 s, waitPeer := twin } s
          let s := if twin then sendCell 6 (11 :: mark.map (·.toNat)) s else s
          answer r 0x0033 .ok s
      | _, _ => answer r 0x0033 .badState s))

/-- The type of a timer: 1 TON, 2 TOF, 3 TP, by the instruction of a program that executes it; 0 where none does. -/
def timerType (prog : List Word) (n : Nat) : Nat :=
  match prog.find? (fun w => decide (0x28 ≤ opOf w) && decide (opOf w ≤ 0x2A) && adOf w == n) with
  | some w => opOf w - 0x27
  | none => 0

/-- The timer of the old program that an instance of the new one continues (R382). -/
def keptTimer (s : State) (old new : LogicSec) (c : TimerCfg) : Option Timer :=
  match s.le.timers.find? (fun (x : Timer) => x.id == c.id) with
  | some x => if timerType old.program x.n = timerType new.program c.n then some x else none
  | none => none

/-- A timer after changeover: elapsed converted to a new time base, rounding down; the preset of the new section where it
differs from the old section's. -/
def migTimer (s : State) (old new : LogicSec) (c : TimerCfg) : Timer :=
  match keptTimer s old new c with
  | none => ⟨c.n, c.id, c.baseNs, 0, c.preset, 0, false, false, 0, 0⟩
  | some x =>
    let was := (old.timers.find? (fun (y : TimerCfg) => y.id == c.id)).map (·.preset)
    let preset := if was = some c.preset then x.preset else c.preset
    if x.baseNs = c.baseNs then { x with n := c.n, preset := preset }
    else { x with n := c.n, baseNs := c.baseNs, preset := preset, elapsed := x.elapsed * x.baseNs / max 1 c.baseNs, rem := 0 }

/-- A counter after changeover. -/
def migCounter (s : State) (old : LogicSec) (c : CounterCfg) : Counter :=
  match s.le.counters.find? (fun (x : Counter) => x.id == c.id) with
  | none => ⟨c.n, c.id, sgn 32 c.preset, 0, false, false⟩
  | some x =>
    let was := (old.counters.find? (fun (y : CounterCfg) => y.id == c.id)).map (·.preset)
    { x with n := c.n, preset := if was = some c.preset then x.preset else sgn 32 c.preset }

/-- The identifiers of edge memories that both programs define. -/
def keptEdges (old new : LogicSec) : List (Nat × Nat) := new.edges.filter (fun e => old.edges.any (fun o => o.2 == e.2))

/-- An edge memory after changeover: its value, or primed. -/
def migEdge (s : State) (old : LogicSec) (e : Nat × Nat) : EdgeMem :=
  match old.edges.find? (fun o => o.2 == e.2) with
  | some o => { edgeOf s o.1 with n := e.1, id := e.2 }
  | none => ⟨e.1, e.2, false, true⟩

/-- How many instances changeover keeps: the value of LE_CHANGEOVER. -/
def keptCount (s : State) (old new : LogicSec) : Nat :=
  (new.timers.filter (fun c => (keptTimer s old new c).isSome)).length +
  (new.counters.filter (fun c => s.le.counters.any (fun (x : Counter) => x.id == c.id))).length + (keptEdges old new).length

/-- The initial value of a point in a logic section. -/
def initOf (l : LogicSec) (sp : Nat) (word : Bool) (a : Nat) : Nat :=
  match l.init.find? (fun e => e.1 == sp && e.2.1 == word && e.2.2.1 == a) with | some e => e.2.2.2 | none => 0

/-- A point that the new section marks for initialisation takes its initial value (R382). -/
def markPoint (l : LogicSec) (s : State) (e : Nat × Bool × Nat) : State :=
  let v := initOf l e.1 e.2.1 e.2.2
  let a := e.2.2
  match e.1, e.2.1 with
  | 1, true => { s with le := { s.le with q := smSet s.le.q a v } }
  | 2, _ => { s with le := { s.le with m := smSet s.le.m a v } }
  | 3, true => { s with le := { s.le with w := smSet s.le.w a v } }
  | 7, false => { s with le := { s.le with nb := smSet s.le.nb a v } }
  | 7, true => { s with le := { s.le with nw := smSet s.le.nw a v } }
  | 8, false => { s with gr := { s.gr with lBitN := smSet s.gr.lBitN a v } }
  | 8, true => { s with gr := { s.gr with lWordN := smSet s.gr.lWordN a v } }
  | _, _ => s

/-- A task of the new program: the task of the same number, or a new one. -/
def migTask (s : State) (c : TaskCfg) : Task := (taskOf s c.task).getD { (default : Task) with num := c.task, first := true }

/-- The Q words that outputs have been released on and that keep their values (R383). -/
def releasedQ (s : State) : List Nat :=
  let owned := match s.le.sec with | some l => l.tasks.flatMap (·.qWords) | none => []
  (owned ++ s.le.keepQ).filter (fun w => ownerDone s w || s.le.keepQ.contains w)

/-- Triggers queued for tasks that no longer exist are discarded (R383). -/
def dropTriggers (s : State) : State :=
  let gone (g : Trig) : Bool := (taskOf s g.task).isNone
  let s' := (s.le.trigQ.filter gone).foldl (fun s g => submit .logic 0x500A g.task s) s
  { s' with le := { s'.le with trigQ := s'.le.trigQ.filter (fun g => !gone g) } }

/-- The program banks switch and state migrates (R381 to R383): `new` over the section in service. -/
def migrate (old new : LogicSec) (s : State) : State :=
  let keep := releasedQ s
  let tasks := new.tasks.map (migTask s)
  let kept := keptCount s old new
  let s := { s with le := { s.le with
    timers := new.timers.map (migTimer s old new), counters := new.counters.map (migCounter s old)
    edges := new.edges.map (migEdge s old), tasks := tasks, keepQ := keep, breaks := []
    firstDone := s.le.firstDone.filter (fun n => new.tasks.any (fun (c : TaskCfg) => c.task == n))
    sec := some new, program := new.program, ret := { s.le.ret with digest := some new.digest } } }
  let s := new.markInit.foldl (markPoint new) s
  submit .logic 0x5005 kept (markDirty (dropTriggers s))

/-- The logic section of the staged image comes into service at a changeover; where either program is missing, the engine
starts, or stops, as at a start (R86). -/
def changeSection (u : Image) (s : State) : State :=
  match s.le.sec, u.logic with
  | some old, some new => migrate old new s
  | none, some _ =>
    let cur := s.img.cur
    let s := loadLogic { s with img := { s.img with cur := some u } }
    submit .logic 0x5005 0 { s with img := { s.img with cur := cur } }
  | _, none =>
    let s := setMode .notStarted 0 (abandon (syncClk s))
    submit .logic 0x5005 0 { s with le := { s.le with sec := none, program := [], tasks := [], keepQ := [] } }

/-- A changeover: the setting differences follow with the next wave released (R381). -/
def changeover (c : Change) (w : Nat) (s : State) : State :=
  match s.img.next with
  | none => s
  | some u =>
    let s := changeSection u s
    { s with le := { s.le with change := none, changeSt := 2, changeRes := 0, changeWave := w, changeDue := some c } }

/-- LE_CHANGEOVER (R381): the first clock cycle with no task mid-cycle. The standby follows the active's changeover. -/
def execLeChangeover (s : State) : Res :=
  if anyMid s ∨ s.le.halted ∨ !running s then .next s
  else if followsAgreed s then
    match logicHead s with
    | some [3, commit, w] =>
      .next (changeover { commit := commit == 1, byActivate := false, req := none, at0 := td0 s, waitPeer := false } w
        (agreeUsed 5 s))
    | _ => .next s
  else match s.le.change with
    | some c =>
      if c.waitPeer then .next s
      else
        let w := (s.acq.wave + 1) % 2 ^ 32
        .next (changeover c w (sendLogic [3, b2n c.commit, w] s))
    | none => .next s

/-- The wave after a changeover carries the image's setting differences (R116, R381). -/
def changeWaveNow (w : Nat) (s : State) : State :=
  match s.le.changeDue, s.img.next with
  | some c, some u =>
    let s := applyImage u { s with le := { s.le with changeDue := none } }
    beginCommit c.commit (if c.byActivate then activated c.req 2 w s else s)
  | _, _ => { s with le := { s.le with changeDue := none } }

/-- The longest cyclic period of the program in service, in counter units. -/
def longestPeriod (s : State) : Nat :=
  match s.le.sec with
  | some l => (l.tasks.filter (fun (c : TaskCfg) => decide (c.task < 8))).foldl (fun a c => max a (c.period * (62500 * 2 ^ 40))) 0
  | none => 0

/-- LE_CHANGE_REFUSED (R116, R381): no changeover instant within twice the longest cyclic period. -/
def execLeChangeRefused (s : State) : Res :=
  match s.le.change with
  | some c => if !c.waitPeer ∧ due s c.at0 (2 * longestPeriod s) then .next (refuseChange .badState s) else .next s
  | none => .next s

/-! Group requests (R122, R123). -/

/-- A request's place in a scheduling cell. -/
def reqCode (r : Req) : List Nat :=
  [match r.transport with | .hpi => 0 | .net => 1 | .uart => 2, r.session, r.tag]

/-- A request from a scheduling cell, in the lane that took it. -/
def reqOf (own : Bool) (l : List Nat) : Option Req :=
  match own, l with
  | true, [t, n, g] => some ⟨match t with | 0 => .hpi | 1 => .net | _ => .uart, n, g⟩
  | _, _ => none

/-- GROUP_SELECT (R122, R123): the answer comes with the wave at which the headbox sees the request. -/
def execGroupSelect (r : Req) (group : Nat) (s : State) : Res :=
  .next (serve r 0x0025 s (fun s =>
    if !running s ∨ !groupSource s 0 ∨ pairRefuses s then answer r 0x0025 .badState s
    else if !groupExists s group then answer r 0x0025 .range s
    else if !s.img.cmdGroups.isEmpty ∨ s.pr.sched.any (fun e => e.2.1 == 7) then answer r 0x0025 .conflict s
    else if s.pr.st = .twin then schedTwin 7 (group :: reqCode r) s
    else { s with img := { s.img with cmdGroups := [(group, some r)] } }))

end Sys2Proof.Machine
end

