-- ==== Sys2Proof/Machine/Forces.lean ====
section
/-! DEFINITION. The force table and its commands (R16, R189, R374 to R376, R522). -/

namespace Sys2Proof.Machine

/-- Words of the forceable spaces I, Q and N (R349). -/
def forceWords (sp : Nat) : Nat := if sp = 7 then 1024 else 2112

/-- Bits of the bit area of a forceable space. -/
def forceBits (sp : Nat) : Nat := if sp = 7 then 4096 else 0

/-- The word of a point lies in an absent unit: process channels, remote I/O (R351, R376). -/
def wordAbsent (s : State) (w : Nat) : Bool :=
  (!hasUpc s && decide (16 ≤ w) && decide (w < 24)) || (!hasRio s && (w == 1 || decide (64 ≤ w)))

/-- A Q word is mapped to an output. -/
def qMapped (w : Nat) : Bool := w == 0 || (decide (16 ≤ w) && decide (w ≤ 22) && w % 2 == 0) || decide (64 ≤ w)

/-- A task writes a Q word. -/
def qWritten (s : State) (w : Nat) : Bool :=
  match s.le.sec with | some l => l.tasks.any (fun (t : TaskCfg) => t.qWords.contains w) | none => false

/-- The status of a force on an I, Q or N point: space, word width, address. -/
def forceIoq (s : State) (sp : Nat) (word : Bool) (a : Nat) : Status :=
  let w := if word then a else (a - 65536) / 32
  let inArea := if word then decide (a < forceWords sp)
    else decide (a < forceBits sp) || (decide (65536 ≤ a) && decide (a < 65536 + 32 * forceWords sp))
  let hasWord := word || decide (65536 ≤ a)
  if !inArea then .range
  else if sp ≠ 7 ∧ wordAbsent s w then .absent
  else if sp = 1 ∧ !word ∧ a < 65544 ∧ doClass s (a - 65536) = 1 then .badState
  else if sp = 1 ∧ hasWord ∧ !qMapped w ∧ !qWritten s w then .badState
  else .ok

/-- The status of a FORCE_SET of a point (R374 to R376). -/
def forceStatus (s : State) (point : Nat) : Status :=
  let sp := pointSpace point
  let word := point / 2 ^ 24 % 2 == 1
  let a := pointAddr point
  if 2 ^ 25 ≤ point then .range
  else if sp = 8 ∨ sp = 9 then .badState
  else if sp = 0xB then (if word && decide (a < 16) then .ok else .range)
  else if sp = 0 ∨ sp = 1 ∨ sp = 7 then forceIoq s sp word a
  else .range

/-- The table with a force, in ascending point order. -/
def putForce (f : Force) : List Force → List Force
  | [] => [f]
  | g :: gs => if g.point < f.point then g :: putForce f gs else if g.point = f.point then f :: gs else f :: g :: gs

/-- The table has room for a point. -/
def forceRoom (s : State) (point : Nat) : Bool :=
  decide (s.le.forces.length < 1024) || s.le.forces.any (fun (f : Force) => f.point == point)

/-- A force comes into the table, its audit record committed first (R375, R522). -/
def applyForceSet (point value session : Nat) (s : State) : State :=
  if !forceRoom s point then s
  else
    let s := auditFirst .logic session 0x5007 point [] s
    let f : Force := ⟨point, value % 2 ^ 32, secOf (td1 s) % 2 ^ 32, session⟩
    refreshPads { s with le := { s.le with forces := putForce f s.le.forces } }

/-- Forces leave the table: one point, or all. -/
def applyForceClear (point session : Nat) (s : State) : State :=
  let rest := if point = 0xFFFFFFFF then [] else s.le.forces.filter (fun (f : Force) => f.point != point)
  if rest.length = s.le.forces.length then s
  else submitCmd .logic session 0x5008 point (refreshPads { s with le := { s.le with forces := rest } })

/-- A change awaits changeover, or has not had its wave (R376). -/
def changeAwaits (s : State) : Bool := s.le.change.isSome

/-- FORCE_SET (R374 to R376, R522, R539). -/
def execForceSet (r : Req) (point value : Nat) (s : State) : Res :=
  .next (serve r 0x0034 s (fun s =>
    if s.evr.freeze.isSome then answer r 0x0034 .frozen s
    else if pairRefuses s ∨ changeAwaits s then answer r 0x0034 .badState s
    else match forceStatus s point with
      | .ok =>
        if !forceRoom s point then answer r 0x0034 .range s
        else if s.pr.st = .twin then answer r 0x0034 .ok (schedTwin 4 [1, point, value, r.session] s)
        else answer r 0x0034 .ok (applyForceSet point value r.session s)
      | st => answer r 0x0034 st s))

/-- FORCE_CLEAR (R375, R376, R539). -/
def execForceClear (r : Req) (point : Nat) (s : State) : Res :=
  .next (serve r 0x0035 s (fun s =>
    if pairRefuses s ∨ changeAwaits s then answer r 0x0035 .badState s
    else if s.pr.st = .twin then answer r 0x0035 .ok (schedTwin 4 [2, point, 0, r.session] s)
    else answer r 0x0035 .ok (applyForceClear point r.session s)))

/-- One entry of FORCE_LIST (R375). -/
def forceEntry (f : Force) : List Byte :=
  leBytes 4 f.point ++ leBytes 4 f.value ++ leBytes 4 f.t1sec ++ leBytes 2 f.session ++ zeros 2

/-- FORCE_LIST (R375). -/
def execForceList (r : Req) (first : Nat) (s : State) : Res :=
  .next (serve r 0x0036 s (fun s =>
    let es := (s.le.forces.drop first).take 255
    respond r 0x0036 .ok false (leBytes 2 s.le.forces.length ++ leBytes 2 es.length ++ es.flatMap forceEntry) s))

end Sys2Proof.Machine
end

