-- ==== Sys2Proof/Machine/Launch.lean ====
section
/-! DEFINITION. Launch entries firing (R161 to R163, R264, R403). -/

namespace Sys2Proof.Machine

/-- A DO is owned by the logic engine (PID 0x0550). -/
def logicOwns (s : State) (n : Nat) : Bool := pv s 0x0550 n 1 1 0 == 1

/-- Action 1 at its instant (R161, R163): the level becomes the output's commanded value; no switching where the logic
engine that owns the output does not run. -/
def fireSwitch (e : LaunchEntry) (next : Nat) (s : State) : State :=
  let n := e.val.target % 256
  if logicOwns s n && s.le.mode != .run then launchSkipped (256 + e.num) 1 next 3 s
  else if logicOwns s n then
    markDirty { s with le := { s.le with q := smSet s.le.q 0 (withBit (smGet s.le.q 0) n (e.val.target.testBit 8)) } }
  else { s with fio := { s.fio with swCmd := setB s.fio.swCmd n (e.val.target.testBit 8) } }

/-- Action 3 at its instant (R161, R163, R363): the target task is queued, as are the tasks that name the entry. -/
def fireTask (e : LaunchEntry) (s : State) : State :=
  let task := 8 + e.val.target
  let names : List Nat := match s.le.sec with
    | some l => (l.tasks.filter (fun (t : TaskCfg) => decide (8 ≤ t.task) && t.task != task &&
        t.trigs.any (fun g => g.kind == 5 && g.index == e.num))).map (·.task)
    | none => []
  let t1 := e.next * 2 ^ 40
  let new : List Trig := (task :: names).map (fun t => ⟨t, 5, e.num, t1, t0Of s t1⟩)
  { s with le := { s.le with trigIn := s.le.trigIn ++ new } }

/-- Action 6 at its instant (R264): a reporting instant of the stream, dropped within 8 ms of the one before. -/
def firePmu (k inst : Nat) (s : State) : State :=
  let tooSoon : Bool := match (pmuOf s k).lastFire with | some t => decide (inst < t + 8000000) | none => false
  let s := updPmu k (fun x => { x with lastFire := some inst }) s
  if tooSoon then submit .graph 0x3101 k s
  else updPmu k (fun x => { x with launched := x.launched ++ [inst] }) s

/-- An entry's action (R161). -/
def fireAction (e : LaunchEntry) (next : Nat) (s : State) : State :=
  let t1 := e.next * 2 ^ 40
  match e.val.action with
  | 1 => fireSwitch e next s
  | 2 => fireUnit e.val.target t1 s
  | 3 => fireTask e s
  | 4 => publishLaunch e.val.target t1 s
  | 5 => rioPhase e.next s
  | 6 => firePmu e.val.target e.next s
  | _ => s

/-- An entry fires: a once entry is freed, a repeating one advances by its period (R161). -/
def fireEntry (e : LaunchEntry) (s : State) : State :=
  let once := decide (e.val.period = 0)
  let next := if once then 0 else e.next + e.val.period
  let s := updLaunch e.num (fun x =>
    { x with armed := !once, next := if once then x.next else next, fired := satInc 32 x.fired, lastNs := e.next % 1000000000, handed := false }) s
  fireAction e next (binPulse 7 e.num (e.next * 2 ^ 40) s)

/-- The armed entry that fires first: by instant, then by number (R162). -/
def firstDue (s : State) : List LaunchEntry → Option LaunchEntry
  | [] => none
  | e :: es =>
    if e.armed && decide (e.next * 2 ^ 40 ≤ td1 s) then
      match firstDue s es with
      | some f => if f.next < e.next then some f else some e
      | none => some e
    else firstDue s es

/-- LAUNCH_FIRE (R161): TD1 has reached an entry's instant. -/
def execLaunchFire (s : State) : Res :=
  if !running s then .next s
  else match firstDue s s.tu.launches with
    | some e => .next (fireEntry e s)
    | none => .next s

end Sys2Proof.Machine
end

