-- ==== Sys2Proof/Machine/Pair.lean ====
section
/-! DEFINITION. Pair operation: roles, joining, paths, handover, the drill and divergence verdicts as operations
(R529 to R555). -/

namespace Sys2Proof.Machine

/-! The pair section (R556). -/

/-- Serial of entry `i` of PID 0x0D02. -/
def entrySerial (s : State) (i : Nat) : Nat := pv s 0x0D02 i 0 8 0

/-- A serial is listed in PID 0x0D02. -/
def listed (s : State) (x : Nat) : Bool := [0, 1].any (fun i => (prm s 0x0D02 i).isSome && entrySerial s i == x)

/-- The serial of the other entry. -/
def otherSerial (s : State) : Nat := if pairEntry s = some 0 then entrySerial s 1 else entrySerial s 0

/-- This engine has the lower serial. -/
def lowerSerial (s : State) : Bool := decide (s.boot.serial ≤ otherSerial s)

/-- PID 0x0D01 names this engine, or, without that setting, it has the lower serial (R534). -/
def preferred (s : State) : Bool :=
  match pv s 0x0D01 0 1 1 0 with
  | 1 => pairEntry s == some 0
  | 2 => pairEntry s == some 1
  | _ => lowerSerial s

/-- COLD trip setting (R551). -/
def coldTrip (s : State) : Bool := pv s 0x0D01 0 2 1 0 == 1

/-- The join timeout in counter units (R537). -/
def joinTimeout (s : State) : Nat := msT (pv s 0x0D01 0 4 2 2000)

/-- A pair state by its code (R533). -/
def pairStOf : Nat → PairSt
  | 1 => .joining | 2 => .twin | 3 => .cold | _ => .solo

/-- The pair unit acts: the engine runs, the section is enabled and lists it. -/
def pairActs (s : State) : Bool := running s && pairOn s && (pairEntry s).isSome

/-! Roles (R533, R534). -/

/-- The engine becomes active in SOLO: it transmits and takes the binding (R533, R534). -/
def soloActive (s : State) : State :=
  let s := setRoleActive true s
  let s := { s with
    pr := { s.pr with
      tx := true, tripOff := false, migrating := false, ready := false, bindWant := !s.pads.bindOut, wantAt := td0 s
      bindHeld := false, joinAt := none, joinPhase := 0, waitUntil := none, partnerSt := .solo, agree := [], prov := none
      verdict := none, hand := none, handOk := false, handX := [] }
    le := { s.le with halted := false }, gr := { s.gr with running := true } }
  tryBind (refreshPads (setPair .solo (slewTd2 s)))

/-- The engine yields the active role (R534): it stops transmitting and drops BIND_OUT. -/
def yieldRole (s : State) : State :=
  let s := dropBind (setRoleActive false s)
  refreshPads { s with pr := { s.pr with tx := false, tripOff := true } }

/-- COLD (R551): the standby stops all transmission at once and drives trip-class DO as PID 0x0D01 says; the active runs
on. -/
def enterCold (s : State) : State :=
  let s := { s with pr := { s.pr with
    verdict := none, hand := none, handOk := false, handX := [], prov := none, agree := [], digests := [], pDigests := []
    waitUntil := none } }
  let s := if s.pr.active then s else { s with pr := { s.pr with tx := false, tripOff := !coldTrip s } }
  setPair .cold s

/-- A drill in progress is aborted by a takeover or a path failure (R553 result 4). -/
def drillAbort (s : State) : State :=
  if s.pr.drSt = 1 ∨ s.pr.drSt = 2 then submit .pair 0x900B 4 { s with pr := { s.pr with drSt := 3, drResult := 4 } } else s

/-! Starting on own inputs after a join (R537). -/

/-- The wave position taken from a grid slot (R19). -/
def placeWave (k : Nat) (s : State) : State :=
  { s with
    tu := { s.tu with slot := k }
    acq := { s.acq with wave := k % 2 ^ 32, waveAt := (k / 16000, k % 16000) } }

/-- The graph starts from the image's initial contexts, with every element reset (R537). -/
def graphAfresh (s : State) : State :=
  let z := loadRows (rowCfg s) (fun _ => false) (loadGraph s)
  placeWave (lastSlot s) { z with gr := { z.gr with running := true }, le := { z.le with halted := false } }

/-- The graph starts afresh, and the logic warm from the engine's own retain region (R537). -/
def startAfresh (s : State) : State :=
  let s := graphAfresh s
  if s.le.sec.isNone then s
  else
    let s := loadRetain (abandon s)
    let s := { s with le := { s.le with holdAt := td0 s } }
    match warmMode s.le.ret.mode with
    | .run => setMode .run 1 (enterRun s)
    | m => setMode m 1 s

/-- A lane whose snapshot is complete continues from the last wave it executed (R537). -/
def resumeOwn (s : State) : State := if s.pr.snapDone then s else startAfresh s

/-- JOIN_FAILED (R537): the lane reads SOLO again, without outputs, and retries after 10 s. -/
def failJoin (cause : Nat) (s : State) : State :=
  let was := s.pr.st
  let s := submit .pair 0x900A cause { s with pr := { s.pr with failAt := some (td0 s), joinAt := none, joinPhase := 0, joinBuf := 0 } }
  if was ≠ .joining then s
  else
    let s := { s with pr := { s.pr with agree := [] } }
    setPair .solo (resumeOwn s)

/-! Joining (R535). -/

/-- The conditions of a join apart from the watermarks (R535): both lanes up, the wire heartbeating, TD2 within 5 ns of
the partner's TD1, not faulty. -/
def mayJoin (s : State) : Bool :=
  pairActs s && !s.pr.active && (s.pr.st == .solo || s.pr.st == .cold) && !s.pr.faulty && !s.pr.left &&
  s.pr.failAt.isNone && s.pr.lanes == 3#2 && s.pr.hello && s.pr.wireOk && s.pr.partnerActive &&
  s.pr.td2Err.any (fun (e : Int) => decide (e.natAbs ≤ 5))

/-- A join begins where it may (R535, R537 cause 2). -/
def tryJoin (s : State) : State :=
  if !mayJoin s then s
  else if s.pr.migrating || s.pr.partnerMark == watermark s then startJoin s
  else failJoin 2 s

/-- The roles are settled when the link comes up (R534): established first, then the preferred engine. A lane in step,
joining or in COLD keeps its role. -/
def settleRoles (s : State) : State :=
  if !pairActs s ∨ s.pr.st ≠ .solo ∨ s.pr.left ∨ s.pr.faulty ∨ s.pr.partnerFaulty ∨ s.pr.partnerSt = .joining then s
  else
    let mine : Bool := match s.pr.established, s.pr.partnerEst with
      | true, false => true
      | false, true => false
      | _, _ => preferred s
    if mine then (if s.pr.active then s else soloActive s)
    else if s.pr.active then yieldRole s else s

/-- The paths between lanes as last reported no longer count: the partner is lost. -/
def partnerGone (s : State) : State :=
  { s with pr := { s.pr with partnerSt := .solo, partnerActive := false, partnerMig := (false, false), partnerFault := false } }

/-! Takeover (R549, R550). -/

/-- This lane may take over: a standby of TWIN or COLD, or a migrating one that has caught up (R549, R554). -/
def canTake (s : State) : Bool :=
  !s.pr.active && (s.pr.st == .twin || s.pr.st == .cold || (s.pr.st == .joining && s.pr.migrating && s.pr.joinPhase == 3))

/-- A takeover by failure of the partner (R550): the new active reads SOLO. -/
def takeoverSolo (cause : Nat) (s : State) : State := setPair .solo (partnerGone (takeover cause (drillAbort s)))

/-- The active of a pair has lost its partner: SOLO (R549). -/
def partnerLost (s : State) : State := activeSolo (partnerGone (drillAbort s))

/-- The active has failed, or both paths have gone, as a lane that cannot take over sees it (R537, R549): a joining lane
becomes active in SOLO, as does a lane that waits in SOLO. -/
def standAlone (s : State) : State :=
  if s.pr.st = .joining then
    let s := failJoin 5 s
    soloActive (partnerGone s)
  else if s.pr.st = .solo ∧ !s.pr.faulty ∧ !s.pr.left then soloActive (partnerGone s)
  else s

/-- A FAILURE message or FAILURE pulses from the partner (R549): takeover cause 2 in the standby. -/
def failureSeen (s : State) : State :=
  if !pairActs s then s
  else if canTake s then takeoverSolo 2 s
  else if s.pr.active then (if s.pr.st = .solo then partnerGone s else partnerLost s)
  else standAlone s

/-- The paths after one has fallen silent (R537, R549, R551). -/
def onPaths (s : State) : State :=
  let link := decide (s.pr.lanes ≠ 0#2)
  let wire := s.pr.wireOk
  if !pairActs s then s
  else if !link && !wire then
    if canTake s then takeoverSolo 1 s
    else if s.pr.active then (if s.pr.st = .solo then partnerGone s else partnerLost s)
    else standAlone s
  else match s.pr.st with
    | .twin =>
      if !link then enterCold (drillAbort (fireDet 0x1C 0 0 s))
      else if !wire then fireDet 0x1D 0 0 s
      else s
    | .joining => failJoin 5 s
    | _ => s

/-! The link's cells (R529, R530). -/

/-- A lane of the link that was declared down has carried a good cell (R530, R549). -/
def laneReturns (lane : Nat) (s : State) : State :=
  let silent := decide (s.pr.lanes = 0#2)
  let s := { s with pr := { s.pr with lanes := setB s.pr.lanes lane true } }
  if !s.pr.linkOnce then s
  else
    let s := submit .pair 0x900E lane s
    if silent then sendHello (submit .pair 0x900F 2 (clearDet 0x1C 0 s)) else s

/-- A good cell on a lane. -/
def laneGood (lane : Nat) (s : State) : State :=
  let s := { s with pr := { s.pr with laneAt := if lane = 0 then (td0 s, s.pr.laneAt.2) else (s.pr.laneAt.1, td0 s) } }
  if s.pr.lanes.getLsbD lane then s else laneReturns lane s

/-- BIND_IN and the level that the partner reports are compared (R532). -/
def noteBindDiff (s : State) : State :=
  if s.pads.bindIn = s.pr.partnerBind then { s with pr := { s.pr with bindDiff := none, diffTold := false } }
  else if s.pr.bindDiff.isSome then s
  else { s with pr := { s.pr with bindDiff := some (td0 s) } }

/-! The wave release as the pair sees it (R20, R540). -/

/-- TD1 tag of the next wave. -/
def nextTag (s : State) : Nat := (s.tu.slot + 1) * (62500 * 2 ^ 40)

/-- The instant of the next wave's release has come: on TD1 by the grid, in a standby of JOINING or TWIN on TD2 (R20,
R540); a lane that catches up waits for no instant (R535). -/
def releaseDue (s : State) : Bool :=
  if followsAgreed s then
    (s.pr.st == .joining && s.pr.joinPhase == 2) || decide (nextTag s + usT 192 ≤ s.tu.d2.t)
  else s.pr.st != .joining && decide ((nextTag s : Int) + (usT 192 : Nat) + s.tu.sgOffset ≤ (td1 s : Nat))

/-! Leaving, the drill and handover (R546, R553, R555). -/

/-- This lane leaves the pair: SOLO without outputs (R555 action 3). -/
def leavePair (s : State) : State :=
  let s := if s.pr.bindDrop then s else dropBind s
  refreshPads (setPair .solo { s with pr := { s.pr with
    tx := false, tripOff := true, left := true, joinAt := none, joinPhase := 0, verdict := none, hand := none, handOk := false
    handX := [], prov := none, agree := [], digests := [], pDigests := [], migrating := false, ready := false } })

/-- A drill ends with a result (R553): passed, it sets PAIR_DRILL_T; a failed check declares the drilled lane faulty. -/
def finishDrill (result detail upcFail : Nat) (s : State) : State :=
  let s := submit .pair 0x900B result { s with pr := { s.pr with
    drSt := 3, drResult := result, drDetail := BitVec.ofNat 8 detail, drUpc := BitVec.ofNat 4 upcFail
    drillT := if result = 0 then secOf (td1 s) % 2 ^ 32 else s.pr.drillT } }
  if 1 ≤ result ∧ result ≤ 3 then declareFaulty 3 s else s

/-- What a handover begins or ends, once the roles have changed. -/
def afterHandover (x : List Nat) (s : State) : State :=
  match x with
  | [1, dwell] => { s with pr := { s.pr with
      drSt := 1, drAt := td0 s, drDwell := dwell, drResult := 0, drDetail := 0#8, drUpc := 0#4 } }
  | [2, result, detail, upcFail] => finishDrill result detail upcFail s
  | [3] => if s.pr.active then activeSolo (partnerGone s) else leavePair s
  | _ => s

/-- The named handover takes place (R546). The old active sends the HANDOVER cell and drops BIND_OUT after its next field
frame start; without the standby's confirmation the handover is dropped. After a verdict (cause 5) the old active rejoins;
an old active that a migrating lane relieves stops transmitting and reports MIGRATING (R554). -/
def performHandover (s : State) : State :=
  match s.pr.hand with
  | none => s
  | some (_, cause) =>
    let x := s.pr.handX
    if s.pr.active then
      if !s.pr.handOk then { s with pr := { s.pr with hand := none, handX := [] } }
      else
        let was := s.pr.st
        let s := sendCell 6 [8] { s with pr := { s.pr with
          bindDrop := s.pads.bindOut, bindWant := false, hand := none, handOk := false, handX := [], agree := [] } }
        let s := setRoleActive false s
        let s := if cause = 5 then startJoin s
          else if was = .solo then
            setPair .joining { s with pr := { s.pr with
              tx := false, tripOff := true, migrating := true, ready := false, snapDone := true, joinPhase := 0, joinAt := none } }
          else s
        refreshPads (afterHandover x s)
    else
      let was := s.pr.st
      let s := takeover cause { s with pr := { s.pr with verdict := none, handX := [] } }
      let s := if was = .joining then
          setPair .solo { s with pr := { s.pr with partnerSt := .joining, w0 := s.acq.wave } }
        else if cause = 5 then setPair .solo s
        else s
      afterHandover x s

/-- The handover named for the next wave takes place at its release. -/
def handoverAt (n : Nat) (s : State) : State := if s.pr.hand.any (fun h => h.1 == n) then performHandover s else s

/-- Own detectors of fault class in force (R553). -/
def ownFault (s : State) : Bool := (List.range 41).any (fun d => faultClass d && detInForce s d)

/-- The drill's checks on the new active (R553): result, DETAIL, UPC_FAIL. -/
def drillChecks (s : State) : Nat × Nat × Nat :=
  let bad (n : Nat) : Bool :=
    let d := s.fio.dout.getD n default
    doClass s n == 2 && (if s.fio.sentCmd.getLsbD n then !d.driven || !d.level || d.overload || d.openW || d.overtemp || d.extv
      else d.driven)
  let detail := maskOf 8 bad
  let upcFail := if hasUpc s then maskOf 4 (fun n => (modeOf s n == 6 || modeOf s n == 7) && (procChan s n).mismatch) else 0
  if !s.pads.bindOut || !s.pr.partnerBindIn then (1, 0, 0)
  else if detail ≠ 0 then (2, detail, 0)
  else if upcFail ≠ 0 then (3, 0, upcFail)
  else (0, 0, 0)

/-- The roles return after the dwell or a failed check (R553). -/
def drillReturn (r : Nat × Nat × Nat) (s : State) : State :=
  nameHandover 6 [2, r.1, r.2.1, r.2.2] { s with pr := { s.pr with drSt := 2 } }

/-! Verdicts (R543, R544). -/

/-- The own verdict also fails with an OP_FAULT of cause 3 or an uncorrectable ECC error within the last second (R543). -/
def verdictOwn (pass : Bool) (s : State) : Bool :=
  pass && !s.gr.fault3At.any (fun t => !due s t (secT 1)) && !detInForce s 0x09 && !detInForce s 0x0A

/-- Both verdicts are known: the outcome of R543. -/
def resolveVerdict (s : State) : State :=
  let (_, own, other, _) := s.pr.divLast
  if s.pr.verdict.isNone ∨ own = 0 ∨ other = 0 ∨ s.pr.hand.isSome then s
  else
    let a := if s.pr.active then own else other
    let b := if s.pr.active then other else own
    if b = 2 then declareFaulty 1 s
    else if a = 1 then (if s.pr.active then activeSolo s else startJoin s)
    else if s.pr.active then nameHandover 5 [] s
    else s

/-- The partner's verdict arrives: 1 passed, 2 failed. -/
def partnerVerdict (v : Nat) (s : State) : State :=
  let (cause, own, _, w) := s.pr.divLast
  if s.pr.verdict.isNone ∨ v = 0 ∨ 2 < v then s else resolveVerdict { s with pr := { s.pr with divLast := (cause, own, v, w) } }

end Sys2Proof.Machine
end

