-- ==== Sys2Proof/Machine/PairRows.lean ====
section
/-! DEFINITION. Pair operation: cells, pulses, binding lines, timers and commands (R529 to R555). -/

namespace Sys2Proof.Machine

/-- A received cell: one with a bad CRC is discarded and counted (R529); the rest serves a running engine with an enabled
pair section. -/
def cell (good : Bool) (s : State) (f : State → State) : Res :=
  if !running s || !pairOn s then .next s
  else if good then .next (f s)
  else .next { s with pr := { s.pr with linkErr := satInc 32 s.pr.linkErr } }

/-! HELLO, HEARTBEAT and TIME cells (R127, R529, R530, R534). -/

/-- What a HELLO says of the partner. -/
def takeHello (serial : Nat) (est : Bool) (st : Nat) (active : Bool) (mark : List Byte) (s : State) : State :=
  let s := laneGood 1 (laneGood 0 s)
  { s with pr := { s.pr with
    hello := true, linkOnce := true, partner := serial % 2 ^ 64, partnerEst := est, partnerSt := pairStOf st
    partnerActive := active, partnerMark := mark.take 8 } }

/-- RISIA_HELLO_RX (R530, R534, R535): the link comes up and the roles are settled. -/
def execRisiaHelloRx (good : Bool) (serial : Nat) (est : Bool) (st : Nat) (active : Bool) (mark : List Byte) (s : State) : Res :=
  cell good s (fun s =>
    let s := takeHello serial est st active mark s
    if (pairEntry s).isNone then s
    else if !listed s serial then
      let s := submit .pair 0x900A 1 s
      if s.pr.active ∨ s.pr.st ≠ .solo ∨ s.pr.left ∨ s.pr.faulty then s else soloActive s
    else tryJoin (settleRoles s))

/-- What a HEARTBEAT says of the partner. Its flags: bits 1:0 verdict, 2 a detector of fault class in force, 3 MIGRATING,
4 MIGRATE_READY, 5 BIND_IN. -/
def takeHeartbeat (st : Nat) (active : Bool) (wave : Nat) (bind : Bool) (flags : Nat) (s : State) : State :=
  noteBindDiff { s with pr := { s.pr with
    partnerSt := pairStOf st, partnerActive := active, partnerWave := wave % 2 ^ 32, partnerBind := bind
    partnerFault := flags.testBit 2, partnerMig := (flags.testBit 3, flags.testBit 4), partnerBindIn := flags.testBit 5 } }

/-- RISIA_HEARTBEAT_RX (R529, R530). An active whose partner has left TWIN reads SOLO. -/
def execRisiaHeartbeatRx (good : Bool) (lane st : Nat) (active : Bool) (wave : Nat) (bind : Bool) (flags : Nat) (s : State) : Res :=
  cell good s (fun s =>
    let s := takeHeartbeat st active wave bind flags (laneGood (lane % 2) s)
    let s := partnerVerdict (flags % 4) s
    let gone := s.pr.partnerSt == .solo || s.pr.partnerSt == .joining || s.pr.partnerSt == .cold
    if s.pr.active && s.pr.st == .twin && gone && s.pr.verdict.isNone then activeSolo s else s)

/-- RISIA_TIME_RX: `err` is TD2 less the partner's TD1 in ns (R127, R535). In the standby an error above 1 us is the
active's step, which TD2 follows by a slew at 40 ppm (the threshold: DESIGN CHOICE, log entry 75). -/
def execRisiaTimeRx (good : Bool) (err : Int) (s : State) : Res :=
  cell good s (fun s =>
    let s := if !td2Follows s ∧ 1000 < err.natAbs then
        { s with tu := { s.tu with td2Rem := -(err * 2 ^ 40), td2Ppm := 40 } }
      else s
    tryJoin { s with pr := { s.pr with td2Err := some err } })

/-- The flags of a HEARTBEAT cell. -/
def heartbeatFlags (s : State) : Nat :=
  let v := match s.pr.divLast with | (_, own, _, _) => if s.pr.verdict.isSome then own else 0
  fld 0 2 v + fld 2 1 (b2n (ownFault s)) + fld 3 1 (b2n s.pr.migrating) + fld 4 1 (b2n s.pr.ready) + fld 5 1 (b2n s.pads.bindIn)

/-- PAIR_HEARTBEAT_TX (R529, R531): every 10 us of TD0 a pulse on HB_OUT, its width the role's code, and a HEARTBEAT cell on
each lane. -/
def execPairHeartbeatTx (s : State) : Res :=
  if !running s ∨ !due s s.pr.hbAt (usT 10) then .next s
  else
    let s := { s with pr := { s.pr with hbAt := td0 s }, pads := { s.pads with hbCode := if s.pr.active then 1 else 2 } }
    if !pairOn s then .next s
    else
      let vals := [s.pr.st.toNat, b2n s.pr.active, s.acq.wave, b2n s.pads.bindOut, heartbeatFlags s]
      .next (sendCell 2 (1 :: vals) (sendCell 2 (0 :: vals) { s with pr := { s.pr with hbCellAt := td0 s } }))

/-! Agreement data (R324, R538, R542). -/

/-- The standby of TWIN or JOINING takes agreement data. -/
def takesAgree (s : State) : Bool := !s.pr.active && (s.pr.st == .twin || s.pr.st == .joining)

/-- An agreement item waits for its use. -/
def keepAgree (kind wave : Nat) (vals : List Nat) (s : State) : State :=
  { s with pr := { s.pr with agree := s.pr.agree ++ [⟨kind, wave % 2 ^ 32, vals⟩] } }

/-- A word of a process channel as the active's value gives it (R463, R538). -/
def processAgreed (v : List Nat) (s : State) : State :=
  match v with
  | [n, y, st] => { s with le := { s.le with iw := smSet (smSet s.le.iw (16 + 2 * n) (y % 2 ^ 32)) (17 + 2 * n) (st % 2 ^ 32) } }
  | _ => s

/-- A recorder firing of the active's (R491). -/
def firingAgreed (v : List Nat) (s : State) : State :=
  match v with
  | [u, t1] => match unitCfg s u with
    | some c => if s.pr.st = .twin then unitActs u t1 c s else s
    | none => s
  | _ => s

/-- An overrun of the partner's is noted (R235): the active judges it once it has released the same wave or descriptor
itself, and both lanes at the wave that the active names. -/
def overrunTold (band num : Nat) (s : State) : State :=
  { s with pr := { s.pr with partnerOver := ((2 ^ 32 * band + num % 2 ^ 32) :: s.pr.partnerOver).take 8 } }

/-- RISIA_AGREE_RX (R538): an item of agreement data. `fill` is the join buffer's use in per cent, `lat` the delay from
the active's token crossing in ns. -/
def execRisiaAgreeRx (good : Bool) (kind wave : Nat) (vals : List Nat) (fill lat : Nat) (s : State) : Res :=
  cell good s (fun s =>
    if kind = 7 then overrunTold (vals.getD 0 1) wave s
    else if !takesAgree s then s
    else if kind = 6 then firingAgreed vals s
    else
      let s := keepAgree kind wave vals s
      let s := if s.pr.st = .joining then { s with pr := { s.pr with joinBuf := min 100 fill } } else s
      if kind = 0 then
        let l := min 65535 lat
        { s with pr := { s.pr with lat := (max s.pr.lat.1 l, l) } }
      else s)

/-- RISIA_DESC_RX (R324). -/
def execRisiaDescRx (good : Bool) (d : Desc) (s : State) : Res :=
  cell good s (fun s => if takesAgree s then keepAgree 2 s.acq.wave (descVals d) s else s)

/-- RISIA_DIGEST_RX (R542, R543). -/
def execRisiaDigestRx (good : Bool) (wave digest : Nat) (s : State) : Res :=
  cell good s (fun s =>
    if s.pr.st ≠ .twin then s
    else
      let w := wave % 2 ^ 32
      digestsMeet w { s with pr := { s.pr with pDigests := (s.pr.pDigests ++ [(w, digest % 2 ^ 64)]).drop (s.pr.pDigests.length - 15) } })

/-! CONTROL cells (R118, R529, R539, R541, R543, R546). -/

/-- The standby confirms the staged image (R118): the activation's wave is named, or the change awaits changeover. -/
def imageConfirmed (s : State) : State :=
  match s.img.act with
  | some a =>
    if a.waitPeer then
      schedTwin 1 [b2n a.commit] { s with img := { s.img with act := some { a with waitPeer := false, boundary := some (namedWave s) } } }
    else s
  | none => match s.le.change with
    | some c => if c.waitPeer then { s with le := { s.le with change := some { c with waitPeer := false, at0 := td0 s } } } else s
    | none => s

/-- A confirmation of the standby's: 1 image, 2 handover, 3 the image of an LE_CHANGE. -/
def confirmed (v : List Nat) (s : State) : State :=
  match v with
  | [1, ok] => if ok = 1 then imageConfirmed s else s
  | [2] => { s with pr := { s.pr with handOk := s.pr.hand.isSome } }
  | [3, ok] => match s.le.change with
    | some c => if !c.waitPeer then s else if ok = 1 then imageConfirmed s else refuseChange .badState s
    | none => s
  | _ => s

/-- A join request reaches the active (R535): it names the snapshot wave W0, the first released at least 2 ms later. -/
def joinAsked (mig : Bool) (s : State) : State :=
  if !s.pr.active then s
  else
    let s := if s.pr.st = .solo then s else activeSolo s
    let w := wave2ms s
    sendCell 7 [2, w] { s with pr := { s.pr with
      partnerSt := .joining, partnerMig := (mig, false), partnerFaulty := false, w0 := w } }

/-- A cross-check decision reaches the active (R541): both lanes set or clear XCHK at the first wave released at least 8
waves later. -/
def crossDecided (ch set_ : Nat) (s : State) : State :=
  if !s.pr.active ∨ s.pr.st ≠ .twin then s
  else
    let w := (s.acq.wave + 9) % 2 ^ 32
    sendCell 6 [3, 12, w, ch, set_] { s with pr := { s.pr with sched := s.pr.sched ++ [(w, 12, [ch, set_])] } }

/-- Both engines enter TWIN (R535): the active's side. -/
def activeTwin (s : State) : State :=
  if s.pr.active ∧ s.pr.st = .solo then
    setPair .twin { s with pr := { s.pr with partnerSt := .twin, digests := [], pDigests := [] } }
  else s

/-- What a CONTROL cell does. -/
def control (v : List Nat) (s : State) : State :=
  match v with
  | [1] => failureSeen s
  | 2 :: w :: cause :: x =>
    if takesAgree s then
      let s := { s with pr := { s.pr with hand := some (w % 2 ^ 32, cause), handX := x } }
      sendCell 6 [4, 2] (if x.head? = some 2 then { s with pr := { s.pr with drSt := 2 } } else s)
    else s
  | 3 :: code :: w :: x =>
    if takesAgree s then { s with pr := { s.pr with sched := s.pr.sched ++ [(w % 2 ^ 32, code, x)] } } else s
  | 4 :: x => if s.pr.active then confirmed x s else s
  | [5, ch, b] => crossDecided ch b s
  | [6, mig] => joinAsked (mig == 1) s
  | [7, r] => partnerVerdict r s
  | [8] => if s.pr.active then s else { s with pr := { s.pr with handCell := true } }
  | [9] => activeTwin s
  | [10, cause] => if s.pr.st = .twin ∧ s.pr.verdict.isNone then diverge cause s else s
  | 11 :: mark =>
    if takesAgree s then
      sendCell 6 [4, 3, b2n (s.img.pendStatus == 0 && s.img.next.isSome && (stagedMark s).map (·.toNat) == mark)] s
    else s
  | [12] =>
    let s := { s with pr := { s.pr with partnerFaulty := false } }
    if s.pr.faulty then tryJoin { s with pr := { s.pr with faulty := false, failAt := none } } else s
  | [13] => if s.pr.active ∧ s.pr.st ≠ .solo then activeSolo (partnerGone s) else partnerGone s
  | _ => s

/-- RISIA_CONTROL_RX (R529). -/
def execRisiaControlRx (good : Bool) (vals : List Nat) (s : State) : Res := cell good s (control vals)

/-- The image arrives in the standby (R118): complete, it is checked and staged, and confirmed. -/
def imageCell (total off : Nat) (bytes : List Byte) (s : State) : State :=
  let ws := s.pr.bulk ++ [(off, bytes)]
  if !covered ws total then { s with pr := { s.pr with bulk := ws } }
  else
    let s := stageImage ws total { s with pr := { s.pr with bulk := [] } }
    sendCell 6 [4, 1, b2n (s.img.pendStatus == 0)] s

/-- RISIA_BULK_RX (R118, R529, R535): kind 1 part of an image, kind 2 the snapshot wave W0. -/
def execRisiaBulkRx (good : Bool) (kind total off : Nat) (bytes : List Byte) (s : State) : Res :=
  cell good s (fun s =>
    if !takesAgree s then s
    else if kind = 1 then imageCell total off bytes s
    else if kind = 2 ∧ s.pr.joinPhase = 1 then { s with pr := { s.pr with w0 := total % 2 ^ 32 } }
    else s)

/-! Paths (R530 to R532, R549). -/

/-- PLK_LANE_DOWN (R530): 40 us of TD0 without a good cell. Injected, the whole link is silent in the standby (R627). -/
def execPlkLaneDown (lane : Nat) (s : State) : Res :=
  let inj := injOn s 0x1C 0 && !s.pr.active
  let at_ := if lane = 0 then s.pr.laneAt.1 else s.pr.laneAt.2
  if !running s ∨ 2 ≤ lane ∨ !s.pr.lanes.getLsbD lane ∨ !(due s at_ (usT 40) || inj) then .next s
  else
    let lanes := if inj then 0#2 else setB s.pr.lanes lane false
    let s := submit .pair 0x900D lane { s with pr := { s.pr with lanes := lanes } }
    .next (if lanes = 0#2 then onPaths s else s)

/-- The code of a pulse width in ns (R531): 1 ACTIVE, 2 STANDBY, 3 FAILURE, each within 0.7 us; 0 none. -/
def pulseCode (w : Nat) : Nat :=
  if 1300 ≤ w ∧ w ≤ 2700 then 1 else if 3300 ≤ w ∧ w ≤ 4700 then 2 else if 5300 ≤ w ∧ w ≤ 6700 then 3 else 0

/-- Edges that have not come since the last one, at most 4: the wire is silent after that (R531). -/
def missingEdges (now last : Nat) : Nat :=
  if last = 0 then 0 else min 4 ((now + usT 5 - last) / usT 10 - 1)

/-- An accepted pulse (R531, R549): a wire that was silent returns; FAILURE; a waiting lane that sees ACTIVE (R534). -/
def pulseTaken (code : Nat) (s : State) : State :=
  let back := !s.pr.wireOk && s.pr.wireAt != 0
  let s := { s with pr := { s.pr with wireOk := true, wireAt := td0 s, wireCode := code } }
  let s := if back then submit .pair 0x900F 1 (clearDet 0x1D 0 s) else s
  if code = 3 then failureSeen s
  else if code = 1 ∧ s.pr.waitUntil.isSome ∧ s.pr.lanes = 0#2 ∧ pairActs s then enterCold s
  else tryJoin s

/-- HB_IN_PULSE: a pulse of `width` ns whose rising edge comes now. -/
def execHbInPulse (width : Nat) (s : State) : Res :=
  if !running s ∨ (injOn s 0x1D 0 ∧ !s.pr.active) then .next s
  else
    let code := pulseCode width
    let missed := missingEdges (td0 s) s.pr.edgeAt
    let s := { s with pr := { s.pr with
      edgeAt := td0 s, hbErr := satAdd 32 s.pr.hbErr (missed + (if code = 0 then 1 else 0)) } }
    if code = 0 then .next s else .next (pulseTaken code s)

/-- HB_WIRE_SILENT (R531, R549). -/
def execHbWireSilent (s : State) : Res :=
  if !running s ∨ !s.pr.wireOk ∨ !(due s s.pr.wireAt (usT 40) || (injOn s 0x1D 0 && !s.pr.active)) then .next s
  else .next (onPaths { s with pr := { s.pr with wireOk := false } })

/-- BIND_IN has fallen, as judged after 2 us low (R532, R549): takeover without a HANDOVER cell, or the binding is taken. -/
def bindFell (s : State) : State :=
  let s := noteBindDiff { s with
    pads := { s.pads with bindIn := false }, pr := { s.pr with bindInAt := td0 s - usT 2, bindHeld := false } }
  if s.pr.handCell then tryBind { s with pr := { s.pr with handCell := false } }
  else if pairActs s ∧ canTake s then takeoverSolo 3 s
  else tryBind s

/-- BIND_IN has risen (R532): within 1 us of this lane's own rise the lane with the higher serial drops its own. -/
def bindRose (s : State) : State :=
  let s := noteBindDiff { s with pads := { s.pads with bindIn := true }, pr := { s.pr with bindInAt := td0 s } }
  if s.pads.bindOut ∧ td0 s ≤ s.pr.bindAt + usT 1 ∧ !lowerSerial s then dropBind s else s

/-- BIND_IN_CHANGE: the level has changed; a low level is taken once it has lasted 2 us. -/
def execBindInChange (level : Bool) (s : State) : Res :=
  if s.pads.bindIn = level then .next s
  else if !running s then .next { s with pads := { s.pads with bindIn := level }, pr := { s.pr with bindInAt := td0 s } }
  else .next (if level then bindRose s else bindFell s)

/-- BIND_HOLD_DROP (R532): no heartbeat pulse for 25 us; the hold circuit acts at the pad whatever the die does. -/
def execBindHoldDrop (s : State) : Res :=
  if s.pads.bindOut ∧ due s s.pr.hbAt (usT 25) then .next { s with pads := { s.pads with bindOut := false } } else .next s

/-- BIND_FAULT (R532, R549): value 1 for levels that differ for more than 100 us; value 2 for BIND_IN that stays high
after a takeover decision. -/
def execBindFault (s : State) : Res :=
  if !pairActs s then .next s
  else if s.pr.bindDiff.any (fun t => due s t (usT 100)) ∧ !s.pr.diffTold then
    .next (submit .pair 0x900C 1 { s with pr := { s.pr with diffTold := true } })
  else if s.pr.bindWant ∧ s.pads.bindIn ∧ !s.pr.bindHeld ∧ due s s.pr.wantAt (usT 100) then
    .next (submit .pair 0x900C 2 { s with pr := { s.pr with bindHeld := true } })
  else .next s

/-! Roles and joining (R534, R535, R537, R554). -/

/-- ESTABLISHED (R534): 1 s of TD0 since the first wave released with the active role. -/
def execEstablished (s : State) : Res :=
  if s.pr.active ∧ !s.pr.established ∧ s.pr.activeAt.any (fun t => due s t (secT 1)) then
    .next { s with pr := { s.pr with established := true } }
  else .next s

/-- LINK_START_TIMEOUT (R534): the link is not up 1 s after the configuration stage; a lane with the higher serial that
sees no ACTIVE pulses waits a further 1 s. -/
def execLinkStartTimeout (s : State) : Res :=
  if !pairActs s ∨ s.pr.active ∨ s.pr.linkOnce ∨ s.pr.st ≠ .solo ∨ s.pr.left ∨ s.pr.faulty ∨ !due s s.pr.cfgAt (secT 1) then .next s
  else if s.pr.wireOk ∧ s.pr.wireCode = 1 then .next (enterCold s)
  else match s.pr.waitUntil with
    | some t => if t ≤ td0 s then .next (soloActive s) else .next s
    | none =>
      if lowerSerial s then .next (soloActive s)
      else .next { s with pr := { s.pr with waitUntil := some (td0 s + secT 1) } }

/-- The accumulator windows, rows, contexts and counters of a snapshot (R536). -/
def loadSnapGraph (p : Snap) (s : State) : State :=
  let elems := p.elems.map (fun (e : Elem) => if p.resets.contains e.node then { e with resetReq := true } else e)
  { s with
    gr := { s.gr with
      elems := elems, energy := p.energy, epochs := p.epochs, delays := p.delays, tokens := p.tokens, rows := p.rows
      pmu := s.gr.pmu.zipIdx.map (fun (x, k) => { x with frames := p.frames.getD k x.frames }) }
    acq := { s.acq with ch := s.acq.ch.zipIdx.map (fun (c, k) =>
      match p.wins[k]? with | some (w, d) => { c with win := w, done := d } | none => c) }
    dr := { s.dr with st := p.rec_, holdAt := p.holdAt, chains := p.chains, started := true }
    tu := { s.tu with launches := s.tu.launches.filter (fun (e : LaunchEntry) => e.owner == .image) ++
      p.launches.filter (fun (e : LaunchEntry) => e.owner != .image) } }

/-- The logic engine's state as received (R536), its mode with it. -/
def loadSnapLogic (p : Snap) (s : State) : State :=
  let keep := s.le.ret
  let s := loadRetain { s with le := { s.le with ret := p.logic } }
  { s with le := { s.le with
    ret := keep, mode := p.logic.mode, began := true, released := decide (p.logic.mode = .run)
    firstDone := s.le.tasks.map (·.num), tasks := s.le.tasks.map (fun (t : Task) => { t with first := false }) } }

/-- A migrating join takes the logic state by instance identifier (R382, R554). -/
def loadSnapMigrate (p : Snap) (s : State) : State :=
  let keep := s.le.ret
  let s := loadSnapLogic p s
  let s := match s.pr.migSec, s.le.sec with
    | some old, some new => migrate old new s
    | _, _ => s
  { s with le := { s.le with ret := keep } }

/-- Publications of the same identity take the active's counters (R554). -/
def pubsById (ps : List GoosePub) (s : State) : State :=
  { s with net := { s.net with pubs := s.net.pubs.map (fun (x : GoosePub) => (ps.find? (fun y => y.num == x.num)).getD x) } }

/-- JOIN_SNAPSHOT_DONE (R535, R536): the snapshot of wave W0 is complete and loaded; catch-up begins. -/
def execJoinSnapshotDone (snap : Snap) (s : State) : Res :=
  if !running s ∨ s.pr.st ≠ .joining ∨ s.pr.active ∨ s.pr.joinPhase ≠ 1 ∨ snap.wave ≠ s.pr.w0 then .next s
  else
    let mig := s.pr.migrating
    let s := { s with
      gr := { s.gr with running := true }
      le := { s.le with halted := false, forces := snap.forces }
      img := { s.img with group := snap.group }
      acq := { s.acq with wave := snap.wave % 2 ^ 32, waveAt := snap.at_, waves := snap.waves }
      tu := { s.tu with slot := snap.at_.1 * 16000 + snap.at_.2 }
      net := { s.net with smpCnt := snap.smpCnt }
      rio := { s.rio with seq := snap.rioSeq }
      pr := { s.pr with snapDone := true, joinPhase := 2, dlyOwn := [], dlyGiven := [], partnerOver := [] } }
    .next (refreshPads (if mig then pubsById snap.pubs (loadSnapMigrate snap s)
      else loadSnapLogic snap (loadSnapGraph snap { s with net := { s.net with pubs := snap.pubs } })))

/-- The waves of the lanes lie within one. -/
def caughtUp (s : State) : Bool := decide ((s.pr.partnerWave + 1 + 2 ^ 32 - s.acq.wave) % 2 ^ 32 ≤ 2)

/-- Duration of a join so far, ms. -/
def joinTime (s : State) : Nat := match s.pr.joinAt with | some t => min 65535 (nsAll (td0 s - t) / 1000000) | none => 0

/-- JOIN_CATCHUP_DONE (R535): the lane is within one wave of the active; both enter TWIN, or the migrating lane stays in
step on its own image (R554). -/
def execJoinCatchupDone (s : State) : Res :=
  if !running s ∨ s.pr.st ≠ .joining ∨ s.pr.active ∨ s.pr.joinPhase ≠ 2 ∨ !caughtUp s then .next s
  else
    let s := { s with pr := { s.pr with joinPhase := 3, joinMs := joinTime s, joinAt := none, joinBuf := 0 } }
    if s.pr.migrating then .next { s with pr := { s.pr with migAt := td0 s } }
    else .next (sendCell 6 [9] (refreshPads (setPair .twin (writeRetain { s with pr := { s.pr with tx := true, tripOff := false } }))))

/-- JOIN_FAILED (R537): cause 3 the join buffer fills, cause 4 the join timeout. -/
def execJoinFailed (full : Bool) (s : State) : Res :=
  if s.pr.st ≠ .joining ∨ s.pr.joinAt.isNone then .next s
  else if full then .next (failJoin 3 s)
  else if s.pr.joinAt.any (fun t => due s t (joinTimeout s)) then .next (failJoin 4 s)
  else .next s

/-- JOIN_RETRY (R537): 10 s of TD0 after the failure. -/
def execJoinRetry (s : State) : Res :=
  if s.pr.failAt.any (fun t => due s t (secT 10)) then .next (tryJoin { s with pr := { s.pr with failAt := none } }) else .next s

/-- MIGRATE_WARM_DONE (R554): the warm time of PID 0x0D05. -/
def execMigrateWarmDone (s : State) : Res :=
  if s.pr.migrating ∧ s.pr.st = .joining ∧ !s.pr.ready ∧ s.pr.joinPhase = 3 ∧
      due s s.pr.migAt (msT (pv s 0x0D05 0 0 2 2000)) then
    .next { s with pr := { s.pr with ready := true } }
  else .next s

/-! Divergence (R543). -/

/-- An own digest has waited past the P1 deadline of the wave two after it (R542). -/
def digestLate (s : State) : Bool :=
  s.pr.digests.any (fun x =>
    let d := (s.acq.wave + 2 ^ 32 - x.1) % 2 ^ 32
    decide (3 ≤ d) || (d == 2 && decide (nextTag s - 62500 * 2 ^ 40 + usT 317 ≤ (if s.pr.active then td1 s else s.tu.d2.t))))

/-- AGREEMENT_DUE_MISSING (R538, R543): item 0 a digest; another item in the standby, missing by its due time. The link is
up. -/
def execAgreementDueMissing (item : Nat) (s : State) : Res :=
  if !running s ∨ s.pr.st ≠ .twin ∨ s.pr.verdict.isSome ∨ s.pr.lanes = 0#2 then .next s
  else if (item = 0 ∧ digestLate s) ∨ (item ≠ 0 ∧ !s.pr.active) then
    .next (diverge 2 (sendCell 6 [10, 2] { s with pr := { s.pr with digests := [], pDigests := [] } }))
  else .next s

/-- VERDICT_COMPLETE (R543): the lane's own test ends; `pass` is what its self-tests gave. -/
def execVerdictComplete (pass : Bool) (s : State) : Res :=
  let (cause, own, other, w) := s.pr.divLast
  if s.pr.verdict.isNone ∨ own ≠ 0 then .next s
  else
    let v := if verdictOwn pass s then 1 else 2
    .next (resolveVerdict (sendCell 6 [7, v] { s with pr := { s.pr with divLast := (cause, v, other, w) } }))

/-- PROVISIONAL_TIMEOUT (R548): 40 us after a provisional wave's release no takeover has followed. -/
def execProvisionalTimeout (s : State) : Res :=
  match s.pr.prov with
  | some (_, t) =>
    if !due s t (usT 40) then .next s
    else
      let s := { s with pr := { s.pr with prov := none } }
      if s.pr.st = .twin ∧ !s.pr.active ∧ s.pr.verdict.isNone then .next (diverge 5 (sendCell 6 [10, 5] s)) else .next s
  | none => .next s

/-! Handover, drill and release (R546, R553 to R555). -/

/-- HANDOVER_WAVE (R546): the named wave is released. -/
def execHandoverWave (s : State) : Res :=
  if running s ∧ releaseDue s then .next (handoverAt ((s.acq.wave + 1) % 2 ^ 32) s) else .next s

/-- A drill may start (R553). -/
def drillOk (s : State) : Bool :=
  pairActs s && s.pr.active && s.pr.st == .twin && !s.pr.migrating && !s.pr.partnerMig.1 && s.pr.drSt != 1 && s.pr.drSt != 2 &&
  s.pr.hand.isNone && s.pr.verdict.isNone && !ownFault s && !s.pr.partnerFault

/-- PAIR_DRILL (R553). -/
def execPairDrill (r : Req) (dwell : Nat) (s : State) : Res :=
  .next (serve r 0x0080 s (fun s =>
    if dwell < 1 ∨ 60 < dwell then answer r 0x0080 .range s
    else if !drillOk s then answer r 0x0080 .badState s
    else nameHandover 6 [1, dwell] (answer r 0x0080 .ok s)))

/-- DRILL_DWELL_END (R553): the dwell ends, or a check fails 1 ms or more into it. The new active judges. -/
def execDrillDwellEnd (s : State) : Res :=
  if !s.pr.active ∨ s.pr.st ≠ .twin ∨ s.pr.drSt ≠ 1 ∨ s.pr.hand.isSome ∨ !due s s.pr.drAt (msT 1) then .next s
  else
    let r := drillChecks s
    if r.1 ≠ 0 ∨ due s s.pr.drAt (secT s.pr.drDwell) then .next (drillReturn r s) else .next s

/-- Days since the last passed drill. -/
def drillDays (s : State) : Nat := (secOf (td1 s) - s.pr.drillT) / 86400

/-- DRILL_DUE (R553): once per day while PAIR_DRILL_T is older than the interval of PID 0x0D04. -/
def execDrillDue (s : State) : Res :=
  let day := secOf (td1 s) / 86400
  let every := pv s 0x0D04 0 0 2 30
  if !pairActs s ∨ every = 0 ∨ s.pr.dueDay = some day ∨ secOf (td1 s) ≤ s.pr.drillT + 86400 * every then .next s
  else .next (submit .pair 0x9010 (drillDays s) { s with pr := { s.pr with dueDay := some day } })

/-- The pair sections of two images are identical (R554). -/
def samePair (a b : Image) : Bool := a.sections.filter (fun x => x.1 == 0x0D) == b.sections.filter (fun x => x.1 == 0x0D)

/-- The configuration stage with the staged image in a standby (R554). -/
def runStaged (u : Image) (s : State) : State :=
  let chans := match s.img.cur with | some i => i.chans | none => []
  updCert (loadUnits chans { s with img := { s.img with cur := some u, source := 3 } })

/-- PAIR_RELEASE action 1 (R544, R555): the faulty declaration, here or of the partner, is cleared, and the engine that
was out rejoins. -/
def releaseClear (r : Req) (s : State) : State :=
  if !s.pr.faulty ∧ !s.pr.left ∧ !s.pr.partnerFaulty then answer r 0x0081 .badState s
  else
    let s := sendCell 6 [12] (answer r 0x0081 .ok s)
    tryJoin { s with pr := { s.pr with faulty := false, left := false, partnerFaulty := false, failAt := none } }

/-- PAIR_RELEASE action 2 (R554, R555): the active yields by a commanded handover. -/
def releaseYield (r : Req) (s : State) : State :=
  let idle := s.pr.active && s.pr.hand.isNone && s.pr.verdict.isNone && s.pr.drSt != 1 && s.pr.drSt != 2
  if idle && (s.pr.st == .twin || (s.pr.partnerSt == .joining && s.pr.partnerMig == (true, true))) then
    nameHandover 6 [] (answer r 0x0081 .ok s)
  else answer r 0x0081 .badState s

/-- PAIR_RELEASE action 3 (R555): the engine leaves the pair; an active first yields. -/
def releaseLeave (r : Req) (s : State) : State :=
  if s.pr.active then
    if s.pr.st = .twin ∧ s.pr.hand.isNone ∧ s.pr.verdict.isNone then nameHandover 6 [3] (answer r 0x0081 .ok s)
    else answer r 0x0081 .badState s
  else if s.pr.left then answer r 0x0081 .badState s
  else sendCell 6 [13] (leavePair (answer r 0x0081 .ok s))

/-- PAIR_RELEASE action 4 (R554, R555): a migrating join on the staged image, or a normal join once the watermarks
match. -/
def releaseMigrate (r : Req) (s : State) : State :=
  match s.img.next, s.img.cur with
  | some u, some c =>
    if s.pr.active ∨ s.pr.faulty ∨ s.img.pendStatus ≠ 0 ∨ !samePair u c ∨ !s.pr.partnerActive ∨ s.pr.lanes = 0#2 ∨
        (s.pr.st = .joining ∧ !s.pr.migrating) ∨ s.pr.st = .cold then answer r 0x0081 .badState s
    else
      let s := answer r 0x0081 .ok s
      let mig := decide (padTo 8 u.digest ≠ s.pr.partnerMark)
      let old := s.le.sec
      let s := runStaged u s
      startJoin { s with pr := { s.pr with migrating := mig, ready := false, left := false, migSec := if mig then old else none, failAt := none } }
  | _, _ =>
    if mayJoin s && s.pr.partnerMark == watermark s then tryJoin (answer r 0x0081 .ok s) else answer r 0x0081 .badState s

/-- PAIR_RELEASE (R555). -/
def execPairRelease (r : Req) (action : Nat) (s : State) : Res :=
  .next (serve r 0x0081 s (fun s =>
    if action < 1 ∨ 4 < action then answer r 0x0081 .range s
    else if !pairActs s then answer r 0x0081 .badState s
    else match action with
      | 1 => releaseClear r s
      | 2 => releaseYield r s
      | 3 => releaseLeave r s
      | _ => releaseMigrate r s))

end Sys2Proof.Machine
end

