-- ==== Sys2Proof/Machine/Inject.lean ====
section
/-! DEFINITION. Fault injection (R633 to R636). -/

namespace Sys2Proof.Machine

/-- The state that a result leads to; one that stops leads nowhere. -/
def resState (s : State) (r : Res) : State := match r with | .next s' => s' | _ => s

/-- The unit of a detector, or of the target that it would act on, is absent from the part (R634, R3): without U_T2 the
inputs PAI8 to PAI15 and their slices are absent. -/
def detAbsent (s : State) (d t : Nat) : Bool :=
  (!hasT2 s && d == 0x01 && decide (8 ≤ t) && decide (t ≤ 15)) || (!hasUpc s && decide (0x16 ≤ d) && decide (d ≤ 0x1B)) || (!hasRio s && d == 0x25) || (!hasTw s && d == 0x27)

/-- How many targets a detector has (R627, R633). -/
def targets (s : State) (d : Nat) : Nat :=
  if d = 0x01 then 16 else if d = 0x03 ∨ d = 0x1F then 16 else if d = 0x08 then 256 else if d = 0x09 then coreCount s
  else if d = 0x0A ∨ d = 0x0B then 8 else if d = 0x0C then 24
  else if d = 0x0E ∨ d = 0x0F ∨ d = 0x10 ∨ d = 0x15 then 8
  else if d = 0x11 ∨ d = 0x12 ∨ d = 0x13 ∨ d = 0x26 then 16
  else if d = 0x14 then 2 else if 0x17 ≤ d ∧ d ≤ 0x1B then 4
  else if d = 0x20 ∨ d = 0x28 then 3 else if d = 0x24 then 4 else if d = 0x25 then 32 else if d = 0x27 then 12 else 1

/-- A field diagnostic's bit is read as set (R627): its flag, its event and its effect. -/
def diagBegin (d n : Nat) (s : State) : State :=
  if detOn s d n then s
  else match d with
    | 0x0E => fireDet d n n (updDo n (fun x => { x with overload := true }) s)
    | 0x0F => fireDet d n (16 * b2n (doOf s n).driven + n) (updDo n (fun x => { x with openW := true }) s)
    | 0x10 => fireDet d n n (updDo n (fun x => { x with overtemp := true }) s)
    | 0x11 => diRefresh n (fireDet d n n (updDi n (fun x => { x with openW := true }) s))
    | 0x12 => diRefresh n (fireDet d n n (updDi n (fun x => { x with overload := true }) s))
    | 0x13 => diRefresh n (fireDet d n n (updDi n (fun x => { x with overtemp := true }) s))
    | 0x14 => fireDet d n (16 + n) { s with fio := { s.fio with low := setB s.fio.low n true } }
    | 0x15 => fireDet d n n (updDo n (fun x => { x with extv := true }) s)
    | 0x26 =>
      let s := updDi n (fun x => { x with frozen := true, frozenState := diState s n, lastChange := td0 s }) s
      diRefresh n (fireDet d n n s)
    | _ => s

/-- Detectors whose injected condition acts at the injection itself; the others act where the condition is judged. -/
def actsAtOnce (d : Nat) : Bool :=
  d == 0x04 || d == 0x05 || d == 0x06 || (decide (0x0E ≤ d) && decide (d ≤ 0x15)) || d == 0x20 || d == 0x22 || d == 0x26 || d == 0x28

/-- The condition arises (R627). -/
def condition (d t : Nat) (s : State) : State :=
  match d with
  | 0x04 => resState s (execSampleLoopUnlock s)
  | 0x05 => if s.tu.active = 0 then s else srcLost s.tu.active true s
  | 0x06 => applyStep 1 0 2 s
  | 0x20 => if portOn s t && (portAt s t).link then laneLoss 1 t (updPort t (fun x => { x with link := false, speed := 0 }) s) else s
  | 0x22 => resState s (execVmainLow s.hlt.vmain s)
  | 0x28 => authFail 1 (match t with | 0 => .hpi | 1 => .net | _ => .uart) s
  | d => diagBegin d t s

/-- An injection's condition is applied: at the wave named, or at the start of a period (R633). -/
def injBegin (j : Inj) (s : State) : State :=
  let j := { j with applied := true, since := td0 s }
  let s := { s with hlt := { s.hlt with
    inj := s.hlt.inj.filter (fun (x : Inj) => x.slot != j.slot) ++ [j] } }
  if !actsAtOnce j.det then refreshPads s
  else
    let s := condition j.det j.target (refreshPads s)
    if j.mode = 0 then endInj 1 j s else s

/-- An injection takes effect at its wave (R539, R634), in the lane that armed it and in its partner. -/
def applyInj (v : List Nat) (s : State) : State :=
  match v with
  | [slot, det, mode, target, dur, per, rep] =>
    match s.hlt.inj.find? (fun (x : Inj) => x.slot == slot) with
    | some j => injBegin j s
    | none =>
      if s.pr.active then s
      else injBegin ⟨slot, det, mode, target, dur, per, rep, rep == 0, 0, false, 0⟩ s
  | _ => s

/-- What refuses an INJ_ARM, in the order of R634. -/
def injRefusal (det mode target dur per : Nat) (s : State) : Option Status :=
  if s.evr.freeze.isSome then some .frozen
  else if detAbsent s det target then some .absent
  else if det = 0 ∨ 0x28 < det ∨ 2 < mode ∨ targets s det ≤ target ∨ (mode ≠ 0 ∧ (det = 0x06 ∨ det = 0x28)) ∨
      (mode ≠ 0 ∧ (dur = 0 ∨ 600000 < dur)) ∨ (mode = 2 ∧ per < dur + 100) then some .range
  else if !running s ∨ !s.pr.active ∨ s.pr.st = .joining ∨ (pairOn s ∧ s.pr.st ≠ .twin) then some .badState
  else if s.hlt.inj.any (fun (x : Inj) => x.det == det && x.target == target) then some .conflict
  else if 8 ≤ s.hlt.inj.length then some .busy
  else none

/-- INJ_ARM (R633 to R635): INJ_ARMED is committed before the injection acts, at the wave that the response names. -/
def execInjArm (r : Req) (body : List Byte) (s : State) : Res :=
  .next (serve r 0x0090 s (fun s =>
    let det := leAt body 0 1
    let mode := leAt body 1 1
    let target := leAt body 2 1
    let dur := leAt body 4 4
    let per := leAt body 8 4
    let rep := leAt body 12 2
    match injRefusal det mode target dur per s with
    | some st => answer r 0x0090 st s
    | none =>
      let slot := ((List.range 8).find? (fun k => !s.hlt.inj.any (fun (x : Inj) => x.slot == k))).getD 0
      let s := auditFirst .hlt r.session 0xD020 (256 * slot + det) [] s
      let j : Inj := ⟨slot, det, mode, target, dur, per, rep, rep == 0, r.session, false, 0⟩
      let s := refreshPads { s with hlt := { s.hlt with inj := s.hlt.inj ++ [j] } }
      let v := [slot, det, mode, target, dur, per, rep]
      let w := if s.pr.st = .twin then namedWave s else (s.acq.wave + 1) % 2 ^ 32
      let s := if s.pr.st = .twin then schedTwin 11 v s else { s with pr := { s.pr with sched := s.pr.sched ++ [(w, 11, v)] } }
      respond r 0x0090 .ok false (leBytes 1 slot ++ zeros 3 ++ leBytes 4 w) s))

/-- INJ_CLEAR (R636): a detector's injections, or all with 0xFF; OK where none is armed. -/
def execInjClear (r : Req) (det : Nat) (s : State) : Res :=
  .next (serve r 0x0091 s (fun s =>
    answer r 0x0091 .ok (endInjs 2 (fun j => det == 0xFF || j.det == det) s)))

/-- The detector has fired since the condition was applied. -/
def hasFired (s : State) (j : Inj) : Bool :=
  s.hlt.active.any (fun e => e.1 == j.det) || s.hlt.momentary.any (fun e => e.1 == j.det && decide (j.since ≤ e.2))

/-- INJ_DURATION_END (R633, R636): mode 0 completes once the condition has arisen, mode 1 with its duration, mode 2 with
its last repeat. -/
def execInjDurationEnd (slot : Nat) (s : State) : Res :=
  match s.hlt.inj.find? (fun (j : Inj) => j.slot == slot && j.applied) with
  | none => .next s
  | some j =>
    if j.mode = 0 then (if hasFired s j then .next (endInj 1 j s) else .next s)
    else if !due s j.since (msT j.durMs) then .next s
    else if j.mode = 1 ∨ (!j.forever ∧ j.repeats ≤ 1) then .next (endInj 1 j s)
    else
      let f (x : Inj) : Inj := { x with applied := false, repeats := x.repeats - 1 }
      .next { s with hlt := { s.hlt with inj := updFirst (fun (x : Inj) => x.slot == slot) f s.hlt.inj } }

/-- INJ_PERIOD_START (R633): the condition is applied again. -/
def execInjPeriodStart (slot : Nat) (s : State) : Res :=
  match s.hlt.inj.find? (fun (j : Inj) => j.slot == slot && !j.applied) with
  | none => .next s
  | some j =>
    if j.mode = 2 ∧ j.since ≠ 0 ∧ due s j.since (msT j.perMs) then .next (injBegin j s) else .next s

end Sys2Proof.Machine
end

