-- ==== Sys2Proof/Machine/Headbox.lean ====
section
/-! DEFINITION. The headbox: named commands at their wave, tokens and their quality, agreement, windows, the cross-check and
the wave's release (R18 to R21, R182 to R195, R538 to R541). -/

namespace Sys2Proof.Machine

/-! Commands at the wave that the active named (R118, R235, R373, R539, R541). -/

/-- An overrun of the active's, at the wave named (R235, R549): in both lanes nothing; in the active alone the standby takes
over and the active rejoins. -/
def overrunAt (o : Nat) (s : State) : State :=
  if s.pr.st ≠ .twin then s
  else if s.pr.active then
    if s.pr.partnerOver.contains o then s else startJoin (yieldRole (drillAbort s))
  else if s.gr.overWaves.contains o then s
  else takeoverSolo 4 s

/-- XCHK of a channel is set or cleared (R184, R541). -/
def setXchk (ch : Nat) (b : Bool) (s : State) : State :=
  { s with
    pr := { s.pr with xchk := setB s.pr.xchk ch b }
    acq := { s.acq with ch := putAt 16 s.acq.ch ch { s.acq.ch.getD ch Chan.reset with xchk := b } } }

/-- A force command of the agreed set (R374, R539). -/
def forceAt (v : List Nat) (s : State) : State :=
  match v with
  | [1, point, value, session] => applyForceSet point value (if s.pr.active then session else 0) s
  | [2, point, _, session] => applyForceClear point (if s.pr.active then session else 0) s
  | _ => s

/-- A LAUNCH_ARM of the agreed set arms its entry in both lanes at the same wave (R163): its lead was judged for that wave; an
entry taken by another owner meanwhile stays. -/
def armNamed (e : Nat) (v : LaunchVal) (s : State) : State :=
  if armStatusAt s 0 .command e v = .ok then putArmed .command e v v.instant s else s

/-- One command of the agreed set takes effect at its wave. -/
def applySched (n code : Nat) (v : List Nat) (s : State) : State :=
  match code, v with
  | 1, [commit] => activateNow 1 (commit == 1) (s.img.act.map (·.req)) n s
  | 2, [c] => applyMode c s
  | 4, v => forceAt v s
  | 5, [e, inst, per, act, tgt] => armNamed e { instant := inst, period := per, action := act, target := tgt } s
  | 6, [e] => (cancelLaunch .command e s).1
  | 7, g :: r => { s with img := { s.img with cmdGroups := s.img.cmdGroups ++ [(g, reqOf s.pr.active r)] } }
  | 8, [arm] => applyArm (arm == 1) s
  | 9, [u] => askManual u s
  | 10, mask :: r => { s with acq := { s.acq with snapReqs := s.acq.snapReqs ++ [(reqOf s.pr.active r, mask)] } }
  | 11, v => applyInj v s
  | 12, [ch, b] => setXchk ch (b == 1) s
  | 13, [w] => overrunAt w s
  | 14, [t] => applyWatchdog t s
  | 15, _ => { s with pr := { s.pr with tx := false } }
  | 16, [slot, cause] => match s.hlt.inj.find? (fun (j : Inj) => j.slot == slot) with
    | some j => endInj cause j s
    | none => s
  | 17, [op, k, ip] => applyPmu op k ip s
  | _, _ => s

/-- A wave number has been reached. -/
def reached (n w : Nat) : Bool := decide ((n + 2 ^ 32 - w) % 2 ^ 32 < 2 ^ 31)

/-- The active has released what an overrun of the standby's names. -/
def pastOverrun (s : State) (o : Nat) : Bool :=
  let n := o % 2 ^ 32
  if 2 ^ 32 ≤ o then reached s.acq.wave n && !s.gr.openWaves.any (fun w => w.1 == n)
  else !s.gr.openDescs.any (fun d => d.1 == n)

/-- Overruns that the standby reported (R235): once the active has released the same without an overrun of its own they are a
divergence of the standby, of cause 3. -/
def judgeReports (s : State) : State :=
  if s.pr.st ≠ .twin ∨ !s.pr.active then s
  else
    let mine (o : Nat) : Bool := pastOverrun s o && !s.gr.overWaves.contains o
    if s.pr.partnerOver.any mine then
      diverge 3 (sendCell 6 [10, 3] { s with pr := { s.pr with partnerOver := s.pr.partnerOver.filter (fun o => !mine o) } })
    else s

/-- Everything named for wave `n` takes effect, in the order of naming. -/
def schedAt (n : Nat) (s : State) : State :=
  let now := s.pr.sched.filter (fun e => reached n e.1)
  let s := { s with pr := { s.pr with sched := s.pr.sched.filter (fun e => !reached n e.1) } }
  now.foldl (fun s e => applySched n e.2.1 e.2.2 s) s

/-! Windows (R192 to R195). -/

/-- One token enters a window (R193): `first` is the wave's second and index, `at_` the token's own instant. -/
def addToken (snap : Bool) (first at_ : Nat × Nat) (v : Int) (q : BitVec 8) (w : Window) : Window :=
  if w.full then w
  else
    let w := if w.count = 0 ∧ w.excluded = 0 then { w with start := first } else w
    if q.toNat % 4 = 1 then { w with excluded := w.excluded + 1 }
    else
      { w with
        count := w.count + 1, sum := w.sum + v, sumsq := w.sumsq + v.natAbs * v.natAbs
        qualOr := w.qualOr ||| (q.toNat / 4 * 4)
        min := if w.count = 0 ∨ v < w.min then v else w.min, minAt := if w.count = 0 ∨ v < w.min then at_ else w.minAt
        max := if w.count = 0 ∨ w.max < v then v else w.max, maxAt := if w.count = 0 ∨ w.max < v then at_ else w.maxAt
        full := snap && decide (262144 ≤ w.count + 1) }

/-- A cycle window begins at this sample index, and the length of the one that ends there (R192). -/
def cycleEdge (s : State) (idx : Nat) : Option Nat :=
  if pv s 0x0514 0 0 1 0 = 1 then
    (match idx % 800 with | 0 => some 266 | 267 => some 267 | 534 => some 267 | _ => none)
  else if idx % 320 = 0 then some 320 else none

/-- The length of the window of a kind that ends at this sample index. -/
def windowEdge (s : State) (kind idx : Nat) : Option Nat :=
  match kind with
  | 0 => if s.acq.cycHold then none else cycleEdge s idx
  | 1 => if idx % 3200 = 0 then some 3200 else none
  | 2 => if idx = 0 then some 16000 else none
  | _ => none

/-- A window of a channel at a wave: it takes the wave's token, and at its last wave it ends, complete if it holds its whole
length; a new one begins with the next wave. -/
def windowStep (s : State) (at_ : Nat × Nat) (v : Int) (q : BitVec 8) (c : Chan) (kind : Nat) : Window × Window :=
  let hold := kind == 0 && s.acq.cycHold
  let w := if hold then default else addToken (kind == 3) at_ c.at_ v q (c.win.getD kind default)
  let d := c.done.getD kind default
  match windowEdge s kind ((at_.2 + 1) % 16000) with
  | some len => (default, if w.count + w.excluded = len then w else d)
  | none => (w, d)

/-- The windows of a channel take its token. -/
def chanWindows (s : State) (at_ : Nat × Nat) (c : Chan) : Chan :=
  let ws := [0, 1, 2, 3].map (windowStep s at_ c.val c.qual c)
  { c with win := ws.map (·.1), done := (ws.map (·.2)).take 3 }

/-- The assigned channels' windows at a wave; cycle windows held by a change of nominal frequency begin with the TD1
second (R192). -/
def windowsWave (at_ : Nat × Nat) (s : State) : State :=
  let s := if at_.2 = 0 ∧ s.acq.cycHold then { s with acq := { s.acq with cycHold := false } } else s
  { s with acq := { s.acq with ch := s.acq.ch.zipIdx.map (fun (c, n) =>
      if (chanEntry s n).isSome then chanWindows s at_ c else c) } }

/-- A record of ACC_SNAP (R195). `complete`: the window is complete. -/
def snapRecord (ch kind : Nat) (complete : Bool) (w : Window) : List Byte :=
  leBytes 1 ch ++ leBytes 1 kind ++ leBytes 1 (w.qualOr / 4 * 4) ++
  leBytes 1 (fld 0 1 (b2n complete) + fld 1 1 (b2n w.full) + fld 2 1 (b2n (w.excluded != 0))) ++
  leBytes 6 w.start.1 ++ leBytes 2 w.start.2 ++ leBytes 4 w.count ++ leBytes 4 w.excluded ++ leBytes 8 (unsgn 64 w.sum) ++
  leBytes 8 w.sumsq ++ leBytes 3 (unsgn 24 w.min) ++ zeros 1 ++ leBytes 6 w.minAt.1 ++ leBytes 2 w.minAt.2 ++
  leBytes 3 (unsgn 24 w.max) ++ zeros 1 ++ leBytes 6 w.maxAt.1 ++ leBytes 2 w.maxAt.2 ++ zeros 4

/-- Records of the last completed windows of a kind. -/
def doneRecords (kind mask : Nat) (s : State) : List Byte :=
  (maskBits mask).flatMap (fun n =>
    let w := (s.acq.ch.getD n Chan.reset).done.getD kind default
    snapRecord n kind (w.count + w.excluded != 0) w)

/-- One waiting ACC_SNAP of kind 3 is answered, and its channels' snap windows restart (R194). -/
def snapNow (p : Option Req × Nat) (s : State) : State :=
  let body := (maskBits p.2).flatMap (fun n => snapRecord n 3 true ((s.acq.ch.getD n Chan.reset).win.getD 3 default))
  let s := { s with acq := { s.acq with ch := s.acq.ch.zipIdx.map (fun (c, n) =>
    if p.2.testBit n then { c with win := putAt 4 c.win 3 default } else c) } }
  match p.1 with
  | some r => respond r 0x0040 .ok false body s
  | none => s

/-- Requests that wait for the wave boundary, in arrival order. -/
def snapsWave (s : State) : State :=
  s.acq.snapReqs.foldl (fun s p => snapNow p s) { s with acq := { s.acq with snapReqs := [] } }

/-- ACC_SNAP (R194, R451, R620): kinds 0 to 2 at once, kind 3 at the next wave boundary, kind 4 process entries. -/
def execAccSnap (r : Req) (kind mask : Nat) (s : State) : Res :=
  .next (serveAs r 0x0040 false (some (if kind < 3 then 0 else 1)) s (fun s =>
    if 4 < kind ∨ (kind < 4 ∧ 2 ^ 16 ≤ mask) then answer r 0x0040 .range s
    else if kind = 4 ∧ !hasUpc s then answer r 0x0040 .absent s
    else if !running s ∨ (kind = 3 ∧ pairRefuses s) then answer r 0x0040 .badState s
    else if kind < 3 then respond r 0x0040 .ok false (doneRecords kind mask s) s
    else if kind = 4 then { s with upc := { s.upc with snapReqs := s.upc.snapReqs ++ [(r, mask)] } }
    else if s.pr.st = .twin then schedTwin 10 (mask :: reqCode r) s
    else { s with acq := { s.acq with snapReqs := s.acq.snapReqs ++ [(some r, mask)] } }))

/-! Tokens (R182 to R191). A token before its quality is a value and bits: 0 OVERRANGE, 1 SETTLE, 2 invalid source,
3 questionable source or resolution, 4 SUBST, 5 TEST, 6 OVERRANGE as R186 judges it. -/

/-- What a channel's source gives for a wave: its value, whether it is invalid or questionable, OVERRANGE, TEST, SUBST. -/
structure Sourced where
  val : Int
  inv : Bool
  quest : Bool
  above : Bool
  test : Bool
  subst : Bool
  deriving DecidableEq, Repr

/-- The value of a PAI channel (R171, R174, R180, R186): the output of the decimator that FILTER selects, of the slice that
serves the input, with that slice's corrections, within 24 bits. -/
def paiSource (s : State) (raw : Slices) (e : ChanEntry) : Sourced :=
  let k := s.acq.serving.getD e.input 31
  let x := raw.1.getD k default
  let v := corrected s k (if e.filter = 0 then x.prot else if e.filter = 1 then x.wide else x.narrow)
  ⟨max (-8388608) (min 8388607 v), k == 31, false, k != 31 && raw.2.getLsbD k, false, false⟩

/-- The value of an SV channel (R196 to R199): the samples of its SV_INDEX interpolated onto its instant; their worst
validity and the OR of their flags (DEDUCED from R201, log entry 62). -/
def svSource (s : State) (n : Nat) (e : ChanEntry) : Sourced :=
  match decide ((svOf s e.input).st < 2), svTaps s n e.input with
  | false, (some xs, frac) =>
    let ys := xs.map (fun (x : SvSample) => x.vals.getD e.svIndex (0, 1))
    let any (b : Nat) : Bool := ys.any (fun y => y.2.testBit b)
    let v := Config.svFir (svRate (svOf s e.input)) frac (ys.map (·.1))
    ⟨sgn 24 (unsgn 24 v), ys.any (fun y => y.2 % 4 == 1 || y.2 % 4 == 2), ys.any (fun y => y.2 % 4 == 3), any 2,
     any 3 || xs.any (·.sim), any 4⟩
  | _, _ => ⟨0, true, false, false, false, false⟩

/-- A channel's token from its own source, after substitution (R184 to R189). -/
def ownToken (s : State) (raw : Slices) (full : Bool) (n : Nat) : Int × Nat :=
  match chanEntry s n with
  | none => (0, 4)
  | some e =>
    let c := s.acq.ch.getD n Chan.reset
    let x := if e.source = 1 then paiSource s raw e else svSource s n e
    let inj := injOn s 0x03 n
    let f := forced s (pointCode 1 0xB n)
    let judged := x.above || inj
    let bits := fld 0 1 (b2n (judged && f.isNone)) + fld 1 1 (b2n (c.settle != 0)) + fld 2 1 (b2n (x.inv || full)) +
      fld 3 1 (b2n (x.quest || c.resolving)) + fld 4 1 (b2n (x.subst || inj || f.isSome)) +
      fld 5 1 (b2n (x.test || inj || f.isSome)) + fld 6 1 (b2n judged)
    (match f with | some v => sgn 24 v | none => x.val, bits)

/-- A token's quality byte (R183, R184, R191). -/
def tokenQual (s : State) (sync : Bool) (n bits : Nat) : BitVec 8 :=
  if (chanEntry s n).isNone then 0x01#8
  else
    let xchk := (s.acq.ch.getD n Chan.reset).xchk
    let v := if bits.testBit 2 then 1 else if bits.testBit 0 || bits.testBit 1 || bits.testBit 3 || xchk then 3 else 0
    BitVec.ofNat 8 (v + fld 2 1 (b2n (bits.testBit 0)) + fld 3 1 (b2n (bits.testBit 1)) + fld 4 1 (b2n (bits.testBit 5)) +
      fld 5 1 (b2n (bits.testBit 4)) + fld 6 1 (b2n sync) + fld 7 1 (b2n xchk))

/-- OVERRANGE as it stands before forcing is judged (R186). -/
def judgeOver (n : Nat) (above : Bool) (s : State) : State :=
  match chanEntry s n with
  | none => s
  | some e =>
    let c := s.acq.ch.getD n Chan.reset
    let c := { c with
      ovrRun := if above then c.ovrRun + 1 else 0, clearRun := if above then 0 else c.clearRun + 1, ovrFlag := above }
    let fire := decide (e.ovrCount ≤ c.ovrRun) && above && !c.ovrActive
    let clear := decide (e.ovrCount ≤ c.clearRun) && !above && c.ovrActive
    let c := { c with ovrActive := (c.ovrActive || fire) && !clear }
    let s := { s with acq := { s.acq with ch := putAt 16 s.acq.ch n c } }
    if fire then fireDet 0x03 n n s else if clear then submit .acq 0x2004 n (clearDet 0x03 n s) else s

/-- A token as software reads it (R182). -/
def tokenBytes (s : State) (n : Nat) : List Byte :=
  let c := s.acq.ch.getD n Chan.reset
  leBytes 6 c.at_.1 ++ leBytes 2 c.at_.2 ++ leBytes 1 n ++ [c.qual] ++ leBytes 3 (unsgn 24 c.val) ++ zeros 3

/-- The last wave released, 288 bytes (R187, R191). -/
def waveBytes (s : State) : List Byte :=
  leBytes 4 s.acq.wave ++ leBytes 6 s.acq.waveAt.1 ++ leBytes 2 s.acq.waveAt.2 ++ leBytes 2 s.acq.di.toNat ++
  leBytes 2 s.acq.diValid.toNat ++ leBytes 2 (maskOf 16 (fun n => (chanEntry s n).isSome)) ++
  leBytes 2 s.acq.agreed.toNat ++ zeros 12 ++ (List.range 16).flatMap (tokenBytes s)

/-- The wave's tokens stand in the channels and their histories, each with its own instant (R182, R185, R197). -/
def putTokens (toks : List (Int × BitVec 8)) (s : State) : State :=
  { s with acq := { s.acq with ch := s.acq.ch.zipIdx.map (fun (c, n) =>
      let (v, q) := toks.getD n (0, 0x01#8)
      { c with val := v, at_ := tokenAt s n, qual := q, settle := c.settle - 1, hist := ((v, q) :: c.hist).take 32768 }) } }

/-- The wave core as agreement values (R538): per channel value and bits, then SYNC, TD1 quality, DI states and validity,
second and index. -/
def coreVals (toks : List (Int × Nat)) (sync : Bool) (di : Nat) (at_ : Nat × Nat) (s : State) : List Nat :=
  toks.flatMap (fun t => [unsgn 24 t.1, t.2]) ++ [b2n sync, td1Qual s, di % 65536, di / 65536 % 65536, at_.1, at_.2]

/-- Pairs of numbers. -/
def unPairs : List Nat → List (Nat × Nat)
  | a :: b :: r => (a, b) :: unPairs r
  | _ => []

/-! Cross-check in the standby (R541). -/

/-- A token that leaves its window out of the comparison: invalid, without SYNC, OVERRANGE or SUBST. -/
def leftOut (q : BitVec 8) : Bool := q.toNat % 4 == 1 || !q.getLsbD 6 || q.getLsbD 2 || q.getLsbD 5

/-- A window's difference lies beyond LIM = ABS × NOMINAL + REL × rms of the agreed value, in codes. -/
def beyondLim (s : State) (ch : Nat) (x : XChk) : Bool :=
  let (num, den) := codeUnit s ch
  let abs := pv s 0x0D03 0 0 2 50
  let rel := pv s 0x0D03 0 2 2 100
  let nominal := if num.natAbs = 0 then 0 else nominalOf s ch * den * 2 ^ 20 / num.natAbs
  let rms (sum : Nat) : Nat := isqrt (sum * 2 ^ 40 / 320)
  decide (abs * nominal + rel * rms x.sumA < 10000 * rms x.sumD)

/-- The runs of windows beyond and within LIM after one more window. -/
def nextRuns (beyond : Bool) (x : XChk) : XChk :=
  { (default : XChk) with above := if beyond then x.above + 1 else 0, under := if beyond then 0 else x.under + 1 }

/-- Three windows in succession beyond, or within, LIM decide. -/
def crossJudge (ch : Nat) (y : XChk) (s : State) : State × XChk :=
  if y.above = 3 ∧ !detOn s 0x1F ch then (sendCell 6 [5, ch, 1] (fireDet 0x1F ch ch s), y)
  else if y.under = 3 ∧ detOn s 0x1F ch then
    (sendCell 6 [5, ch, 0] (submit .pair 0x9008 ch (clearDet 0x1F ch s)), y)
  else (s, y)

/-- A window of 320 waves ends. -/
def crossWindow (ch : Nat) (x : XChk) (s : State) : State × XChk :=
  if x.skip then (s, { (default : XChk) with above := x.above, under := x.under })
  else crossJudge ch (nextRuns (beyondLim s ch x || injOn s 0x1F ch) x) s

/-- One channel's window takes the wave's own and agreed token. -/
def crossChan (late : Bool) (ch : Nat) (own agreed : Int × BitVec 8) (s : State) : State :=
  let x := s.pr.xc.getD ch default
  let d := (own.1 - agreed.1).natAbs
  let x := { x with
    n := x.n + 1, skip := x.skip || late || leftOut own.2 || leftOut agreed.2
    sumD := x.sumD + d * d, sumA := x.sumA + agreed.1.natAbs * agreed.1.natAbs }
  let (s, x) := if 320 ≤ x.n then crossWindow ch x s else (s, x)
  { s with pr := { s.pr with xc := putAt 16 s.pr.xc ch x } }

/-- DI whose own state differs from the agreed one for longer than the DI time are counted once each. -/
def crossDi (own agreed : Nat) (s : State) : State :=
  let lim := msT (pv s 0x0D03 0 4 2 20)
  let diff := (List.range 16).filter (fun n => own.testBit n != agreed.testBit n)
  let keep : List (Nat × Nat × Bool) := diff.map (fun n =>
    match s.pr.diDiff.find? (fun (e : Nat × Nat × Bool) => e.1 == n) with | some e => e | none => (n, td0 s, false))
  let now (e : Nat × Nat × Bool) : Bool := !e.2.2 && due s e.2.1 lim
  { s with pr := { s.pr with
    diDiff := keep.map (fun e => if now e then (e.1, e.2.1, true) else e)
    inXchk := satAdd 32 s.pr.inXchk (keep.filter now).length } }

/-- The standby's cross-checks at a wave; its own samples are left out while TD2 is more than 1 us off its TD1. -/
def crossWave (own agreed : List (Int × BitVec 8)) (ownDi di : Nat) (s : State) : State :=
  let late := decide (1000 < (td2Ofs s).natAbs)
  let s := (List.range 16).foldl (fun s n =>
    if (chanEntry s n).isSome then crossChan late n (own.getD n (0, 1#8)) (agreed.getD n (0, 1#8)) s else s) s
  crossDescs (crossDi ownDi di s)

/-! What a following lane takes from the active at a wave (R223, R402, R463, R538). -/

/-- An agreed station frame, ring buffer or missed ring cycle (R402, R407); a frame that differs from the standby's own reception is counted. -/
def rioAgreed (v : List Nat) (s : State) : State :=
  match v with
  | 1 :: k :: seq :: flags :: ok :: data =>
    let bytes := data.map (BitVec.ofNat 8)
    let x := stOf s k
    let differs : Bool := match x.own with | some (q, d) => q == seq && d != bytes | none => false
    let s := if differs then { s with rio := { s.rio with xchk := satInc 32 s.rio.xchk } } else s
    updSt k (fun x => { x with used := some seq, held := bytes, flags := flags % 64, heldOk := ok == 1 }) s
  | 2 :: k :: data =>
    let bytes := data.map (BitVec.ofNat 8)
    stGood k bytes (updSt k (fun x => { x with
      ring := ([], bytes), ringAt := td1 s, used := some s.rio.ringCycles, held := bytes, heldOk := true }) s)
  | [6, k] => stMiss k s
  | _ => s

/-- One network arrival or process word of the active's. -/
def useAgreed (a : Agree) (s : State) : State :=
  match a.kind, a.vals with
  | 3, 3 :: v => goAgreed v s
  | 3, 5 :: v => msgAgreed v s
  | 3, v => rioAgreed v s
  | 4, v => processAgreed v s
  | _, _ => s

/-- Items whose wave has come are used, in the active's order. -/
def useAgreedAt (n : Nat) (s : State) : State :=
  let now (a : Agree) : Bool := (a.kind == 3 || a.kind == 4) && reached n a.wave
  let items := s.pr.agree.filter now
  let s := { s with pr := { s.pr with agree := s.pr.agree.filter (fun a => !now a && !(a.kind == 0 && reached n a.wave)) } }
  agreedTokens n (items.foldl (fun s a => useAgreed a s) s)

/-! The release (R20, R187, R188). -/

/-- Commands, setting differences and groups that take effect with wave `n` (R117, R122, R381, R539). -/
def effectsAt (n : Nat) (s : State) : State :=
  let s := if s.le.changeDue.isSome ∧ (!followsAgreed s ∨ s.le.changeWave = n) then changeWaveNow n s else s
  let s := schedAt n s
  let s := if s.acq.waves ≤ 1 then startGroup s else groupsWave s
  snapsWave s

/-- The wave's DI image and its validity (R187). -/
def takeDi (di : Nat) (s : State) : State :=
  { s with acq := { s.acq with di := BitVec.ofNat 16 di, diValid := BitVec.ofNat 16 (di / 65536) } }

/-- The TD1 instant at which the sample of the present slot was taken: its tag plus TB_SG_OFFSET (R18, R153). -/
def slotT1 (s : State) : Nat := ((waveT1 s : Int) + s.tu.sgOffset).toNat

/-- The wave's values are settled: tokens and DI image stand, and everything that a release feeds takes them. `late` says
which channels' samples had not arrived. -/
def releaseTokens (n : Nat) (at_ : Nat × Nat) (toks : List (Int × Nat)) (sync : Bool) (di : Nat) (late : Nat → Bool) (s : State) :
    State :=
  let s := (List.range 16).foldl (fun s k => judgeOver k ((toks.getD k (0, 0)).2.testBit 6) s) s
  let vals := (List.range 16).map (fun k => let t := toks.getD k (0, 4); (t.1, tokenQual s sync k t.2))
  let s := putTokens vals (takeDi di s)
  let s := rotWave at_.2 (svWave late (windowsWave at_ s))
  let s := recWave vals (goosePump n s)
  takeEstimates (judgeReports (graphWave n s))

/-- A wave of the lane's own values (R188); the active feeds the standby. -/
def ownWave (n : Nat) (raw : Slices) (full : Bool) (s : State) : State :=
  let at_ := s.acq.waveAt
  let toks := (List.range 16).map (ownToken s raw full)
  let sync := syncAt s (t0Of s (slotT1 s))
  let di := diAt s (slotT1 s)
  let s := ownTokens (sendAgree 0 n (coreVals toks sync di at_ s) s)
  let s := { s with acq := { s.acq with agreed := 0#16, tq := td1Qual s } }
  let s := if s.pr.active ∧ s.pr.activeAt.isNone then { s with pr := { s.pr with activeAt := some (td0 s) } } else s
  releaseTokens n at_ toks sync di (svLate s) s

/-- The DI image and validity of an agreed wave core (R538). -/
def agreedDi (v : List Nat) : Nat := (v.drop 32).getD 2 0 + (v.drop 32).getD 3 0 * 65536

/-- A wave of agreed values (R190), with the standby's cross-checks while in TWIN (R541). -/
def agreedWave (n : Nat) (raw : Slices) (full : Bool) (v : List Nat) (s : State) : State :=
  let toks := (unPairs (v.take 32)).map (fun t => (sgn 24 t.1, t.2))
  let w := v.drop 32
  let sync := w.getD 0 0 == 1
  let di := agreedDi v
  let at_ := (w.getD 4 0, w.getD 5 0)
  let ownToks := (List.range 16).map (ownToken s raw full)
  let ownSync := syncAt s (t0Of s (slotT1 s))
  let own := (List.range 16).map (fun k => let t := ownToks.getD k (0, 4); (t.1, tokenQual s ownSync k t.2))
  let ownDi := diAt s (slotT1 s)
  let s := useAgreedAt n { s with
    acq := { s.acq with agreed := BitVec.ofNat 16 (maskOf 16 (fun k => (chanEntry s k).isSome)), tq := w.getD 1 0, waveAt := at_ }
    tu := { s.tu with slot := at_.1 * 16000 + at_.2 } }
  let s := releaseTokens n at_ toks sync di (svLate s) s
  if s.pr.st = .twin then crossWave own (s.acq.ch.map (fun c => (c.val, c.qual))) ownDi di s else s

/-- The next wave is released (R20): a named handover first, then what takes effect with the wave, then its values. A
standby in TWIN whose core has not come releases provisionally on its own values (R548); a lane that catches up waits for
its core (R535). A token queue found full makes every own token of the wave invalid, is counted and told (R27). -/
def releaseNext (raw : Slices) (full : Bool) (s : State) : State :=
  let n := (s.acq.wave + 1) % 2 ^ 32
  let s := handoverAt n s
  let core := if followsAgreed s then s.pr.agree.find? (fun (a : Agree) => a.kind == 0 && a.wave == n) else none
  if s.pr.st = .joining ∧ core.isNone then s
  else
    let k := s.tu.slot + 1
    let s := { s with
      acq := { s.acq with wave := n, waves := s.acq.waves + 1, waveAt := (k / 16000, k % 16000) }
      tu := { s.tu with slot := k } }
    let s := takeDi (match core with | some a => agreedDi a.vals | none => diAt s (slotT1 s)) s
    let s := effectsAt n s
    if !s.gr.running then s
    else
      let s := if full then
          submit .acq 0x2F01 (n % 65536) { s with acq := { s.acq with qfull := satInc 32 s.acq.qfull } }
        else s
      match core, followsAgreed s with
      | some a, true => agreedWave n raw full a.vals s
      | none, true => ownWave n raw full { s with pr := { s.pr with prov := some (n, td0 s) } }
      | _, false => ownWave n raw full s

/-- HEADBOX_WAVE_RELEASE (R20): `raw` the decimators' outputs by slice, `full` the token queue found full (R27), `sat` the
slices of which a conversion exceeded ±4.0 V or that saturated (R186). -/
def execHeadboxWaveRelease (raw : List RawSample) (full : Bool) (sat : BitVec 32) (s : State) : Res :=
  if !running s ∨ !s.gr.running ∨ !releaseDue s then .next s else .next (releaseNext (raw, sat) full s)

end Sys2Proof.Machine
end

