-- ==== Sys2Proof/Machine/Health.lean ====
section
/-! DEFINITION. Monitors, detectors, memory errors and the management watchdog (R599, R601, R607, R627 to R632). -/

namespace Sys2Proof.Machine

/-! Monitors (R630 to R632). -/

/-- One 24-byte entry of HEALTH_READ (R632). -/
def healthEntry (s : State) (m : Nat) : List Byte :=
  let x := monOf s m
  leBytes 1 m ++ leBytes 1 (fld 0 1 (b2n x.high) + fld 1 1 (b2n x.soon)) ++ leBytes 1 (monConf s m) ++ leBytes 1 x.hist.length ++
  leBytes 4 (monFp x.value).toNat ++ leBytes 4 (monFp (monLimit m)).toNat ++
  leBytes 6 ((monEol s m).getD (2 ^ 48 - 1)) ++ zeros 2 ++ leBytes 4 (monSlope s m).toNat

/-- HEALTH_READ (R632). -/
def execHealthRead (r : Req) (selector : Nat) (s : State) : Res :=
  .next (serve r 0x00B0 s (fun s =>
    if selector = 0xFF then respond r 0x00B0 .ok false ((List.range 10).flatMap (healthEntry s)) s
    else if 9 < selector then answer r 0x00B0 .range s
    else respond r 0x00B0 .ok false (healthEntry s selector) s))

/-- Monitor 3: the largest gain correction over the present slices, 10^-6 %. -/
def gainFigure (s : State) : Int := (((List.range 17).map (fun k => (s.acq.gain.getD k 0).natAbs)).foldl max 0 / 10 : Nat)

/-- Monitor 4: deviation of the mean TD1 base increment from 4.0 ns, 10^-6 ppm. -/
def oscFigure (s : State) : Int :=
  let (sum, n) := s.tu.incMean
  let mean : Int := if n = 0 then s.tu.d1.inc else (sum / n : Nat)
  ((mean - 4 * 2 ^ 40).natAbs * 1000000000000 / (4 * 2 ^ 40) : Nat)

/-- Monitor 8: the largest lifetime count of thermal shutdowns. -/
def tsdFigure (s : State) : Int := ((s.fio.dout.map (·.tsdLife)).foldl max 0 * 1000000 : Nat)

/-- Monitors take values (monitor, value in 10^-6 units, spare blocks low), and the points of the daily ones follow (R630,
R631). -/
def sampleMonitors (vals : List (Nat × Int × Bool)) (s : State) : State :=
  [3, 4, 5, 6, 8].foldl (fun s m => monPoint m s) (vals.foldl (fun s e => monValue e.1 e.2.1 e.2.2 s) s)

/-- The daily values; monitor 4 is sampled while TD1 is locked (R630). -/
def dailyValues (flash mram : Nat) (spareLow : Bool) (s : State) : List (Nat × Int × Bool) :=
  [(3, gainFigure s, false)] ++ (if s.tu.d1.qst = .locked then [(4, oscFigure s, false)] else []) ++
    [(5, ((flash * 1000000 : Nat) : Int), spareLow), (6, ((mram * 1000000 : Nat) : Int), false), (8, tsdFigure s, false)]

/-- MONITOR_SAMPLE (R630, R631): every 24 h of TD0 the wear monitors take their values and their points. `flash` is the
mean program/erase count of the most-worn partition, `mram` the largest write count, `spareLow` fewer than 10 % of the
spare blocks. Monitor 7 takes its points at its measurement. -/
def execMonitorSample (flash mram : Nat) (spareLow : Bool) (s : State) : Res :=
  if !running s ∨ !due s s.hlt.sampleAt (secT 86400) then .next s
  else .next (sampleMonitors (dailyValues flash mram spareLow s) { s with hlt := { s.hlt with sampleAt := td0 s } })

/-- MONITOR_LIMIT_CROSSED (R630): a continuously measured monitor (0, 1, 2 or 9) takes a value in 10^-6 of its unit. -/
def execMonitorLimitCrossed (monitor : Nat) (value : Int) (s : State) : Res :=
  if !running s then .next s
  else match monitor with
    | 0 => .next (monValue 0 value false { s with hlt := { s.hlt with dieTemp := value / 100000 } })
    | 1 => .next (monValue 1 value false { s with hlt := { s.hlt with boardTemp := value / 100000 } })
    | 2 => .next (monValue 2 value false { s with hlt := { s.hlt with vmain := (value / 1000).toNat } })
    | 9 => .next (monValue 9 value false s)
    | _ => .next s

/-- DETECTOR_HOLD_EXPIRY (R629): 1 s of TD0 after its latest firing a detector without duration is no longer in force. -/
def execDetectorHoldExpiry (det : Nat) (s : State) : Res :=
  .next { s with hlt := { s.hlt with
    momentary := s.hlt.momentary.filter (fun e => !(e.1 == det && due s e.2 (secT 1))) } }

/-! Die temperature (R628, R237). -/

/-- DIE_TEMP_HIGH: the die at `temp`, in 0.1 °C; injected it reads 121 °C. Above 120 °C value 1, above 130 °C value 2. -/
def execDieTempHigh (temp : Int) (s : State) : Res :=
  if !running s then .next s
  else
    let t : Int := if injOn s 0x23 0 then 1210 else temp
    let s := { s with hlt := { s.hlt with dieTemp := t } }
    let s := monValue 0 (t * 100000) false s
    let s := if 1200 < t ∧ s.hlt.dieHigh = 0 then fireDet 0x23 0 1 { s with hlt := { s.hlt with dieHigh := 1 } } else s
    .next (if 1300 < t ∧ s.hlt.dieHigh = 1 then fireDet 0x23 0 2 { s with hlt := { s.hlt with dieHigh := 2 } } else s)

/-- DIE_TEMP_NORMAL: below 125 °C P3 jobs start again, below 115 °C the detector clears. -/
def execDieTempNormal (temp : Int) (s : State) : Res :=
  if !running s ∨ injOn s 0x23 0 then .next s
  else
    let s := monValue 0 (temp * 100000) false { s with hlt := { s.hlt with dieTemp := temp } }
    let s := if temp < 1250 ∧ s.hlt.dieHigh = 2 then { s with hlt := { s.hlt with dieHigh := 1 } } else s
    .next (if temp < 1150 ∧ s.hlt.dieHigh = 1 then clearDetAll 0x23 { s with hlt := { s.hlt with dieHigh := 0 } } else s)

/-! The management watchdog (R601). -/

/-- The management cores restart: every session closes, requests and packets are lost, HIRQ_N is released; in the pair a
join fails and a drill ends. A second restart within 60 s of TD0 leaves limited service. -/
def mgmtRestart (core : Nat) (s : State) : State :=
  let s := s.cmd.sessions.foldl (fun s x => closeSession x.num s) s
  let again := s.cmd.restartAt.any (fun t => !due s t (secT 60))
  let s := { s with
    cmd := { s.cmd with
      sessions := [], queue := [], out := [], zeroBusy := false, uart := [], tls := [], conns := [], exports := []
      restarting := some core, restartAt := some (td0 s), urgentOnly := s.cmd.urgentOnly || again }
    pads := { s.pads with hirq := false } }
  drillAbort (if s.pr.st = .joining ∧ s.pr.joinAt.isSome then failJoin 4 s else s)

/-- MGMT_WATCHDOG (R601): a core has missed 100 ms of its reports. -/
def execMgmtWatchdog (core : Nat) (s : State) : Res :=
  if !running s ∨ 4 ≤ core ∨ s.cmd.restarting.isSome then .next s else .next (mgmtRestart core s)

/-- MGMT_RESTART_DONE (R601): MGMT_WATCHDOG is written with the core that missed; frames that waited for the cores are
sent (R265). -/
def execMgmtRestartDone (s : State) : Res :=
  match s.cmd.restarting with
  | none => .next s
  | some core =>
    let s := { s with cmd := { s.cmd with restarting := none, wdCnt := satInc 32 s.cmd.wdCnt } }
    let s := fireDetOnce 0x24 core s
    .next ((List.range 4).foldl (fun s k =>
      let q := (pmuOf s k).frameQ
      if q.isEmpty ∨ !mayTx s then s
      else
        let s := updPmu k (fun x => { x with frameQ := [] }) s
        q.foldl (fun s (f : Nat × Nat) => sendUdp 7 f.2 (pv s 0x0995 k 6 2 4712) [pv s 0x0990 k 0 2 0, f.1] [] [] s) s) s)

/-! Memory errors (R34, R232, R488, R514, R607, R628). -/

/-- Samples of a ring in a range of slots become invalid. -/
def spoil (lo hi : Nat) (l : List Samp) : List Samp :=
  l.map (fun (x : Samp) => if lo ≤ x.slot ∧ x.slot ≤ hi then { x with qual := withV x.qual 1 } else x)

/-- ECC_SRAM (R34, R628): `place` 0 a corrected error, which is counted; uncorrectable: 1 a core's local memory, 2 capture
RAM (the slots `lo` to `hi`), 3 management SRAM, 4 network buffers, 5 logic run-time state, 6 graph, scheduler or shared
SRAM. -/
def execEccSram (place core lo hi : Nat) (s : State) : Res :=
  if !firmwareUp s then .next s
  else match place with
    | 0 => .next { s with hlt := { s.hlt with eccSram := satInc 16 s.hlt.eccSram } }
    | 1 =>
      if s.gr.insts.any (fun (i : Inst) => i.onCore core) then execOpRetire core 0 3 [] [] s
      else .next (fireDetFree 0x09 s)
    | 2 =>
      let s := fireDetFree 0x09 s
      .next { s with dr := { s.dr with prot := spoil lo hi s.dr.prot, high := spoil lo hi s.dr.high } }
    | 3 => .next (if s.cmd.restarting.isSome then fireDetFree 0x09 s else mgmtRestart (core % 4) (fireDetFree 0x09 s))
    | 4 => .next (fireDetFree 0x09 s)
    | 5 => .next (if s.le.sec.isSome then enterSafe (fireDetFree 0x09 s) else fireDetFree 0x09 s)
    | 6 => .next (takeReset false (sendCell 6 [1] (fireDetFree 0x09 s)))
    | _ => .next s

/-- ECC_MRAM (R34, R607, R628): `region` 0 a corrected error, 1 the security region with `copies` failed, 2 the write-once
region, else a region that its SRAM copy restores. -/
def execEccMram (region copies : Nat) (s : State) : Res :=
  if !firmwareUp s then .next s
  else match region with
    | 0 => .next { s with hlt := { s.hlt with eccMram := satInc 16 s.hlt.eccMram } }
    | 1 => .next (secRegion copies (fireDetFree 0x0A s))
    | _ => .next (fireDetFree 0x0A s)

/-- FLASH_ERR (R488, R514): a page fails and the managed flash writes it again; records stay in the front buffer and
capture data in its ring meanwhile. -/
def execFlashErr (s : State) : Res :=
  if !firmwareUp s then .next s
  else
    .next (fireDetFree 0x0B s)

end Sys2Proof.Machine
end

