-- ==== Sys2Proof/Machine/LogicInstr.lean ====
section
/-! DEFINITION. The instructions of the logic engine (R353) and LE_STEP (R370). An instruction row acts where the task that
executes stands at that instruction. -/

namespace Sys2Proof.Machine

/-- LD (R353): RLO := bit operand. -/
def fnLd : InstrFn := iBit (fun _ x => x)

/-- LD at the executing task. -/
def execLeLd (sp addr : Nat) (s : State) : Res := .next (runInstr 0x01 sp addr fnLd s)

/-- LDN (R353): RLO := not bit operand. -/
def fnLdn : InstrFn := iBit (fun _ x => !x)

/-- LDN at the executing task. -/
def execLeLdn (sp addr : Nat) (s : State) : Res := .next (runInstr 0x02 sp addr fnLdn s)

/-- AND (R353): RLO := RLO and operand. -/
def fnAnd : InstrFn := iBit (fun r x => r && x)

/-- AND at the executing task. -/
def execLeAnd (sp addr : Nat) (s : State) : Res := .next (runInstr 0x03 sp addr fnAnd s)

/-- ANDN (R353): RLO := RLO and not operand. -/
def fnAndn : InstrFn := iBit (fun r x => r && !x)

/-- ANDN at the executing task. -/
def execLeAndn (sp addr : Nat) (s : State) : Res := .next (runInstr 0x04 sp addr fnAndn s)

/-- OR (R353): RLO := RLO or operand. -/
def fnOr : InstrFn := iBit (fun r x => r || x)

/-- OR at the executing task. -/
def execLeOr (sp addr : Nat) (s : State) : Res := .next (runInstr 0x05 sp addr fnOr s)

/-- ORN (R353): RLO := RLO or not operand. -/
def fnOrn : InstrFn := iBit (fun r x => r || !x)

/-- ORN at the executing task. -/
def execLeOrn (sp addr : Nat) (s : State) : Res := .next (runInstr 0x06 sp addr fnOrn s)

/-- XOR (R353): RLO := RLO xor operand. -/
def fnXor : InstrFn := iBit (fun r x => r != x)

/-- XOR at the executing task. -/
def execLeXor (sp addr : Nat) (s : State) : Res := .next (runInstr 0x07 sp addr fnXor s)

/-- XORN (R353): RLO := RLO xor not operand. -/
def fnXorn : InstrFn := iBit (fun r x => r != !x)

/-- XORN at the executing task. -/
def execLeXorn (sp addr : Nat) (s : State) : Res := .next (runInstr 0x08 sp addr fnXorn s)

/-- NOT (R353): Inverts RLO. -/
def fnNot : InstrFn := fun _ _ t s => ({ t with rlo := !t.rlo }, s)

/-- NOT at the executing task. -/
def execLeNot (s : State) : Res := .next (runInstr 0x09 0 0 fnNot s)

/-- SETR (R353): RLO := 1. -/
def fnSetr : InstrFn := fun _ _ t s => ({ t with rlo := true }, s)

/-- SETR at the executing task. -/
def execLeSetr (s : State) : Res := .next (runInstr 0x0A 0 0 fnSetr s)

/-- CLRR (R353): RLO := 0. -/
def fnClrr : InstrFn := fun _ _ t s => ({ t with rlo := false }, s)

/-- CLRR at the executing task. -/
def execLeClrr (s : State) : Res := .next (runInstr 0x0B 0 0 fnClrr s)

/-- AND_OPEN (R355): AND( pushes RLO and the operation on the nesting stack. -/
def fnAndOpen : InstrFn := iPush 0

/-- AND_OPEN at the executing task. -/
def execLeAndOpen (s : State) : Res := .next (runInstr 0x10 0 0 fnAndOpen s)

/-- ANDN_OPEN (R355): ANDN( pushes RLO and the operation on the nesting stack. -/
def fnAndnOpen : InstrFn := iPush 1

/-- ANDN_OPEN at the executing task. -/
def execLeAndnOpen (s : State) : Res := .next (runInstr 0x11 0 0 fnAndnOpen s)

/-- OR_OPEN (R355): OR( pushes RLO and the operation on the nesting stack. -/
def fnOrOpen : InstrFn := iPush 2

/-- OR_OPEN at the executing task. -/
def execLeOrOpen (s : State) : Res := .next (runInstr 0x12 0 0 fnOrOpen s)

/-- ORN_OPEN (R355): ORN( pushes RLO and the operation on the nesting stack. -/
def fnOrnOpen : InstrFn := iPush 3

/-- ORN_OPEN at the executing task. -/
def execLeOrnOpen (s : State) : Res := .next (runInstr 0x13 0 0 fnOrnOpen s)

/-- XOR_OPEN (R355): XOR( pushes RLO and the operation on the nesting stack. -/
def fnXorOpen : InstrFn := iPush 4

/-- XOR_OPEN at the executing task. -/
def execLeXorOpen (s : State) : Res := .next (runInstr 0x14 0 0 fnXorOpen s)

/-- BRACKET_CLOSE (R355): ) pops the entry and combines the saved RLO with the inner RLO. -/
def fnBracketClose : InstrFn := iClose

/-- BRACKET_CLOSE at the executing task. -/
def execLeBracketClose (s : State) : Res := .next (runInstr 0x15 0 0 fnBracketClose s)

/-- FP (R360): Rising-edge detection of RLO against an edge memory, which then stores RLO. -/
def fnFp : InstrFn := iEdge true

/-- FP at the executing task. -/
def execLeFp (sp addr : Nat) (s : State) : Res := .next (runInstr 0x18 sp addr fnFp s)

/-- FN (R360): Falling-edge detection of RLO against an edge memory, which then stores RLO. -/
def fnFn : InstrFn := iEdge false

/-- FN at the executing task. -/
def execLeFn (sp addr : Nat) (s : State) : Res := .next (runInstr 0x19 sp addr fnFn s)

/-- ST (R353): Stores RLO to a bit. -/
def fnSt : InstrFn := iSt false

/-- ST at the executing task. -/
def execLeSt (sp addr : Nat) (s : State) : Res := .next (runInstr 0x20 sp addr fnSt s)

/-- STN (R353): Stores not RLO to a bit. -/
def fnStn : InstrFn := iSt true

/-- STN at the executing task. -/
def execLeStn (sp addr : Nat) (s : State) : Res := .next (runInstr 0x21 sp addr fnStn s)

/-- SET (R353): Sets a bit when RLO is 1. -/
def fnSet : InstrFn := iSetRst true

/-- SET at the executing task. -/
def execLeSet (sp addr : Nat) (s : State) : Res := .next (runInstr 0x22 sp addr fnSet s)

/-- RST (R353): Clears a bit when RLO is 1. -/
def fnRst : InstrFn := iSetRst false

/-- RST at the executing task. -/
def execLeRst (sp addr : Nat) (s : State) : Res := .next (runInstr 0x23 sp addr fnRst s)

/-- TON (R357): On-delay timer with input RLO, advancing by run-clock time; RLO := output. -/
def fnTon : InstrFn := iTimer 1

/-- TON at the executing task. -/
def execLeTon (sp addr : Nat) (s : State) : Res := .next (runInstr 0x28 sp addr fnTon s)

/-- TOF (R357): Off-delay timer with input RLO; RLO := output. -/
def fnTof : InstrFn := iTimer 2

/-- TOF at the executing task. -/
def execLeTof (sp addr : Nat) (s : State) : Res := .next (runInstr 0x29 sp addr fnTof s)

/-- TP (R357): Pulse timer started by a rising input; RLO := output. -/
def fnTp : InstrFn := iTimer 3

/-- TP at the executing task. -/
def execLeTp (sp addr : Nat) (s : State) : Res := .next (runInstr 0x2A sp addr fnTp s)

/-- TRST (R357): Resets a timer when RLO is 1. -/
def fnTrst : InstrFn := iTrst

/-- TRST at the executing task. -/
def execLeTrst (sp addr : Nat) (s : State) : Res := .next (runInstr 0x2B sp addr fnTrst s)

/-- TPV (R353): Sets a timer's preset from ACC. -/
def fnTpv : InstrFn := iTpv

/-- TPV at the executing task. -/
def execLeTpv (sp addr : Nat) (s : State) : Res := .next (runInstr 0x2C sp addr fnTpv s)

/-- CTU (R359): Counts up on a rising RLO, saturating; RLO := count ≥ preset. -/
def fnCtu : InstrFn := iCtu

/-- CTU at the executing task. -/
def execLeCtu (sp addr : Nat) (s : State) : Res := .next (runInstr 0x30 sp addr fnCtu s)

/-- CTD (R359): Counts down on a rising RLO, saturating; RLO := count ≤ 0. -/
def fnCtd : InstrFn := iCtd

/-- CTD at the executing task. -/
def execLeCtd (sp addr : Nat) (s : State) : Res := .next (runInstr 0x31 sp addr fnCtd s)

/-- CRST (R353): Sets a count to 0 when RLO is 1. -/
def fnCrst : InstrFn := iCount (fun _ => 0)

/-- CRST at the executing task. -/
def execLeCrst (sp addr : Nat) (s : State) : Res := .next (runInstr 0x32 sp addr fnCrst s)

/-- CLD (R353): Loads a count with its preset when RLO is 1. -/
def fnCld : InstrFn := iCount (fun c => c.preset)

/-- CLD at the executing task. -/
def execLeCld (sp addr : Nat) (s : State) : Res := .next (runInstr 0x33 sp addr fnCld s)

/-- CPV (R353): Sets a counter's preset from ACC. -/
def fnCpv : InstrFn := iCpv

/-- CPV at the executing task. -/
def execLeCpv (sp addr : Nat) (s : State) : Res := .next (runInstr 0x34 sp addr fnCpv s)

/-- LW (R353): ACC := word operand. -/
def fnLw : InstrFn := iWord (fun _ x => x)

/-- LW at the executing task. -/
def execLeLw (sp addr : Nat) (s : State) : Res := .next (runInstr 0x40 sp addr fnLw s)

/-- SW (R353): Stores ACC to a word. -/
def fnSw : InstrFn := fun sp a t s => wordPut sp a t.acc.toNat t s

/-- SW at the executing task. -/
def execLeSw (sp addr : Nat) (s : State) : Res := .next (runInstr 0x41 sp addr fnSw s)

/-- SWC (R353): Stores ACC to a word when RLO is 1. -/
def fnSwc : InstrFn := fun sp a t s => if t.rlo then wordPut sp a t.acc.toNat t s else (t, s)

/-- SWC at the executing task. -/
def execLeSwc (sp addr : Nat) (s : State) : Res := .next (runInstr 0x42 sp addr fnSwc s)

/-- LDH (R353): Loads ACC bits 31:20 from a K constant. -/
def fnLdh : InstrFn := iLdh

/-- LDH at the executing task. -/
def execLeLdh (sp addr : Nat) (s : State) : Res := .next (runInstr 0x44 sp addr fnLdh s)

/-- ADD (R354): Signed saturating addition into ACC. -/
def fnAdd : InstrFn := iArith (fun a b => sat32 (a + b))

/-- ADD at the executing task. -/
def execLeAdd (sp addr : Nat) (s : State) : Res := .next (runInstr 0x48 sp addr fnAdd s)

/-- SUB (R354): Signed saturating subtraction into ACC. -/
def fnSub : InstrFn := iArith (fun a b => sat32 (a - b))

/-- SUB at the executing task. -/
def execLeSub (sp addr : Nat) (s : State) : Res := .next (runInstr 0x49 sp addr fnSub s)

/-- MUL (R354): Signed saturating multiplication into ACC. -/
def fnMul : InstrFn := iArith (fun a b => sat32 (a * b))

/-- MUL at the executing task. -/
def execLeMul (sp addr : Nat) (s : State) : Res := .next (runInstr 0x4A sp addr fnMul s)

/-- DIV (R354): Signed division truncating toward 0, with defined results for division by 0. -/
def fnDiv : InstrFn := iArith divSat

/-- DIV at the executing task. -/
def execLeDiv (sp addr : Nat) (s : State) : Res := .next (runInstr 0x4B sp addr fnDiv s)

/-- MOD (R354): Signed remainder, 0 for division by 0. -/
def fnMod : InstrFn := iArith modSat

/-- MOD at the executing task. -/
def execLeMod (sp addr : Nat) (s : State) : Res := .next (runInstr 0x4C sp addr fnMod s)

/-- NEG (R354): ACC := −ACC, saturating. -/
def fnNeg : InstrFn := iSigned (fun a => -a)

/-- NEG at the executing task. -/
def execLeNeg (s : State) : Res := .next (runInstr 0x4D 0 0 fnNeg s)

/-- ABS (R354): ACC := |ACC|, saturating. -/
def fnAbs : InstrFn := iSigned (fun a => if a < 0 then -a else a)

/-- ABS at the executing task. -/
def execLeAbs (s : State) : Res := .next (runInstr 0x4E 0 0 fnAbs s)

/-- WAND (R353): Bitwise AND into ACC. -/
def fnWand : InstrFn := iWord (fun a b => a &&& b)

/-- WAND at the executing task. -/
def execLeWand (sp addr : Nat) (s : State) : Res := .next (runInstr 0x50 sp addr fnWand s)

/-- WOR (R353): Bitwise OR into ACC. -/
def fnWor : InstrFn := iWord (fun a b => a ||| b)

/-- WOR at the executing task. -/
def execLeWor (sp addr : Nat) (s : State) : Res := .next (runInstr 0x51 sp addr fnWor s)

/-- WXOR (R353): Bitwise XOR into ACC. -/
def fnWxor : InstrFn := iWord (fun a b => a ^^^ b)

/-- WXOR at the executing task. -/
def execLeWxor (sp addr : Nat) (s : State) : Res := .next (runInstr 0x52 sp addr fnWxor s)

/-- WNOT (R353): Bitwise NOT of ACC. -/
def fnWnot : InstrFn := iAcc (fun a => ~~~a)

/-- WNOT at the executing task. -/
def execLeWnot (s : State) : Res := .next (runInstr 0x53 0 0 fnWnot s)

/-- SHL (R353): Shifts ACC left by a constant. -/
def fnShl : InstrFn := iShift (fun a n => a <<< n)

/-- SHL at the executing task. -/
def execLeShl (sp addr : Nat) (s : State) : Res := .next (runInstr 0x54 sp addr fnShl s)

/-- SHR (R353): Shifts ACC right logically by a constant. -/
def fnShr : InstrFn := iShift (fun a n => a >>> n)

/-- SHR at the executing task. -/
def execLeShr (sp addr : Nat) (s : State) : Res := .next (runInstr 0x55 sp addr fnShr s)

/-- SAR (R353): Shifts ACC right arithmetically by a constant. -/
def fnSar : InstrFn := iShift (fun a n => a.sshiftRight n)

/-- SAR at the executing task. -/
def execLeSar (sp addr : Nat) (s : State) : Res := .next (runInstr 0x56 sp addr fnSar s)

/-- CEQ (R353): RLO := ACC = operand, signed. -/
def fnCeq : InstrFn := iCmp (fun a b => a == b)

/-- CEQ at the executing task. -/
def execLeCeq (sp addr : Nat) (s : State) : Res := .next (runInstr 0x58 sp addr fnCeq s)

/-- CNE (R353): RLO := ACC ≠ operand. -/
def fnCne : InstrFn := iCmp (fun a b => a != b)

/-- CNE at the executing task. -/
def execLeCne (sp addr : Nat) (s : State) : Res := .next (runInstr 0x59 sp addr fnCne s)

/-- CLT (R353): RLO := ACC < operand, signed. -/
def fnClt : InstrFn := iCmp (fun a b => a.slt b)

/-- CLT at the executing task. -/
def execLeClt (sp addr : Nat) (s : State) : Res := .next (runInstr 0x5A sp addr fnClt s)

/-- CLE (R353): RLO := ACC ≤ operand, signed. -/
def fnCle : InstrFn := iCmp (fun a b => a.sle b)

/-- CLE at the executing task. -/
def execLeCle (sp addr : Nat) (s : State) : Res := .next (runInstr 0x5B sp addr fnCle s)

/-- CGT (R353): RLO := ACC > operand, signed. -/
def fnCgt : InstrFn := iCmp (fun a b => b.slt a)

/-- CGT at the executing task. -/
def execLeCgt (sp addr : Nat) (s : State) : Res := .next (runInstr 0x5C sp addr fnCgt s)

/-- CGE (R353): RLO := ACC ≥ operand, signed. -/
def fnCge : InstrFn := iCmp (fun a b => b.sle a)

/-- CGE at the executing task. -/
def execLeCge (sp addr : Nat) (s : State) : Res := .next (runInstr 0x5D sp addr fnCge s)

/-- FADD (R354): binary32 addition into ACC. -/
def fnFadd : InstrFn := iWord fAdd

/-- FADD at the executing task. -/
def execLeFadd (sp addr : Nat) (s : State) : Res := .next (runInstr 0x60 sp addr fnFadd s)

/-- FSUB (R354): binary32 subtraction into ACC. -/
def fnFsub : InstrFn := iWord fSub

/-- FSUB at the executing task. -/
def execLeFsub (sp addr : Nat) (s : State) : Res := .next (runInstr 0x61 sp addr fnFsub s)

/-- FMUL (R354): binary32 multiplication into ACC. -/
def fnFmul : InstrFn := iWord fMul

/-- FMUL at the executing task. -/
def execLeFmul (sp addr : Nat) (s : State) : Res := .next (runInstr 0x62 sp addr fnFmul s)

/-- FDIV (R354): binary32 division into ACC, infinity on division by 0. -/
def fnFdiv : InstrFn := iWord fDiv

/-- FDIV at the executing task. -/
def execLeFdiv (sp addr : Nat) (s : State) : Res := .next (runInstr 0x63 sp addr fnFdiv s)

/-- FLT (R353): Converts the integer in ACC to binary32. -/
def fnFlt : InstrFn := iAcc (fun a => fOfInt a.toInt)

/-- FLT at the executing task. -/
def execLeFlt (s : State) : Res := .next (runInstr 0x64 0 0 fnFlt s)

/-- FIX (R354): Rounds the binary32 in ACC to a saturated integer. -/
def fnFix : InstrFn := iFix

/-- FIX at the executing task. -/
def execLeFix (s : State) : Res := .next (runInstr 0x65 0 0 fnFix s)

/-- FCLT (R354): RLO := ACC < operand as binary32; 0 with NaN. -/
def fnFclt : InstrFn := iCmp fLt

/-- FCLT at the executing task. -/
def execLeFclt (sp addr : Nat) (s : State) : Res := .next (runInstr 0x68 sp addr fnFclt s)

/-- FCGT (R354): RLO := ACC > operand as binary32; 0 with NaN. -/
def fnFcgt : InstrFn := iCmp (fun a b => fLt b a)

/-- FCGT at the executing task. -/
def execLeFcgt (sp addr : Nat) (s : State) : Res := .next (runInstr 0x69 sp addr fnFcgt s)

/-- FCEQ (R354): RLO := ACC = operand as binary32; 0 with NaN. -/
def fnFceq : InstrFn := iCmp fEq

/-- FCEQ at the executing task. -/
def execLeFceq (sp addr : Nat) (s : State) : Res := .next (runInstr 0x6A sp addr fnFceq s)

/-- JMP (R353): Jumps to an address. -/
def fnJmp : InstrFn := iJump (fun _ => true)

/-- JMP at the executing task. -/
def execLeJmp (addr : Nat) (s : State) : Res := .next (runInstr 0x70 0 addr fnJmp s)

/-- JC (R353): Jumps if RLO is 1. -/
def fnJc : InstrFn := iJump (fun r => r)

/-- JC at the executing task. -/
def execLeJc (addr : Nat) (s : State) : Res := .next (runInstr 0x71 0 addr fnJc s)

/-- JNC (R353): Jumps if RLO is 0. -/
def fnJnc : InstrFn := iJump (fun r => !r)

/-- JNC at the executing task. -/
def execLeJnc (addr : Nat) (s : State) : Res := .next (runInstr 0x72 0 addr fnJnc s)

/-- CALL (R353): Calls a subroutine, pushing a return address. -/
def fnCall : InstrFn := iCall

/-- CALL at the executing task. -/
def execLeCall (addr : Nat) (s : State) : Res := .next (runInstr 0x73 0 addr fnCall s)

/-- RET (R353): Returns from a subroutine. -/
def fnRet : InstrFn := iRet

/-- RET at the executing task. -/
def execLeRet (s : State) : Res := .next (runInstr 0x74 0 0 fnRet s)

/-- END (R365): Ends the task cycle and passes Q words, N publications, logic P points and launch requests on in one step. -/
def execLeEnd (s : State) : Res := .next (runEnd s)

/-- NOP (R353): Does nothing for one cycle. -/
def fnNop : InstrFn := iNop

/-- NOP at the executing task. -/
def execLeNop (s : State) : Res := .next (runInstr 0x76 0 0 fnNop s)

/-- EVT (R353): Raises user event 0xE000 + constant with value ACC when RLO is 1. -/
def fnEvt : InstrFn := iEvt

/-- EVT at the executing task. -/
def execLeEvt (sp addr : Nat) (s : State) : Res := .next (runInstr 0x78 sp addr fnEvt s)

/-- LARM (R361): Queues a logic-owned launch arm from W words, passed to the time unit at cycle end. -/
def fnLarm : InstrFn := iLarm

/-- LARM at the executing task. -/
def execLeLarm (sp addr : Nat) (s : State) : Res := .next (runInstr 0x79 sp addr fnLarm s)

/-- LCAN (R361): Queues cancellation of the logic-owned launch entry numbered in ACC, passed at cycle end. -/
def fnLcan : InstrFn := iLcan

/-- LCAN at the executing task. -/
def execLeLcan (s : State) : Res := .next (runInstr 0x7A 0 0 fnLcan s)

/-- The instruction of an opcode; END stands apart. -/
def instrFn : Nat → InstrFn
  | 0x01 => fnLd | 0x02 => fnLdn | 0x03 => fnAnd | 0x04 => fnAndn | 0x05 => fnOr | 0x06 => fnOrn | 0x07 => fnXor
  | 0x08 => fnXorn | 0x09 => fnNot | 0x0A => fnSetr | 0x0B => fnClrr | 0x10 => fnAndOpen | 0x11 => fnAndnOpen
  | 0x12 => fnOrOpen | 0x13 => fnOrnOpen | 0x14 => fnXorOpen | 0x15 => fnBracketClose | 0x18 => fnFp | 0x19 => fnFn
  | 0x20 => fnSt | 0x21 => fnStn | 0x22 => fnSet | 0x23 => fnRst | 0x28 => fnTon | 0x29 => fnTof | 0x2A => fnTp
  | 0x2B => fnTrst | 0x2C => fnTpv | 0x30 => fnCtu | 0x31 => fnCtd | 0x32 => fnCrst | 0x33 => fnCld | 0x34 => fnCpv
  | 0x40 => fnLw | 0x41 => fnSw | 0x42 => fnSwc | 0x44 => fnLdh | 0x48 => fnAdd | 0x49 => fnSub | 0x4A => fnMul
  | 0x4B => fnDiv | 0x4C => fnMod | 0x4D => fnNeg | 0x4E => fnAbs | 0x50 => fnWand | 0x51 => fnWor | 0x52 => fnWxor
  | 0x53 => fnWnot | 0x54 => fnShl | 0x55 => fnShr | 0x56 => fnSar | 0x58 => fnCeq | 0x59 => fnCne | 0x5A => fnClt
  | 0x5B => fnCle | 0x5C => fnCgt | 0x5D => fnCge | 0x60 => fnFadd | 0x61 => fnFsub | 0x62 => fnFmul
  | 0x63 => fnFdiv | 0x64 => fnFlt | 0x65 => fnFix | 0x68 => fnFclt | 0x69 => fnFcgt | 0x6A => fnFceq
  | 0x70 => fnJmp | 0x71 => fnJc | 0x72 => fnJnc | 0x73 => fnCall | 0x74 => fnRet | 0x76 => fnNop | 0x78 => fnEvt
  | 0x79 => fnLarm | 0x7A => fnLcan
  | _ => iNop

/-- The held task executes its next instruction (R370). -/
def stepHeld (s : State) : State :=
  match held s with
  | none => s
  | some t =>
    match fetchWord s t with
    | none => s
    | some w =>
      let op := w.toNat / 2 ^ 24
      if op = 0x75 then taskEnd { t with icount := t.icount + 1 } { s with le := { s.le with brkSkip := false } }
      else stepTask (instrFn op) (w.toNat / 2 ^ 20 % 16) (w.toNat % 2 ^ 20) t s

/-- LE_STEP (R368, R370, R371): 0 executes one instruction of the held task, 1 runs it to END, one instruction row after
another. In RUN it first enters HOLD. -/
def execLeStep (r : Req) (option : Nat) (s : State) : Res :=
  .next (serve r 0x0031 s (fun s =>
    if 1 < option then answer r 0x0031 .range s
    else if s.pr.st = .twin ∨ s.pr.st = .joining ∨ (s.le.mode ≠ .run ∧ s.le.mode ≠ .hold) then answer r 0x0031 .badState s
    else
      let s := if s.le.mode = .run then enterHold 0 s else s
      let s := if option = 0 then stepHeld s else { s with le := { s.le with stepping := s.le.heldTask } }
      answer r 0x0031 .ok s))

end Sys2Proof.Machine
end

