-- ==== Sys2Proof/Machine/Dispatch.lean ====
section
/-! DEFINITION. The dispatch of the commands: one arm per constructor. -/

namespace Sys2Proof.Machine

/-- The effect of a command on everything but the queue. -/
def exec (i : Instr) (s : State) : Host.Outcome State Fault Refusal :=
  match i with
  | .vmainGood => Sys2Proof.Machine.execVmainGood s
  | .firmwareStart => Sys2Proof.Machine.execFirmwareStart s
  | .selftestComplete failed slices retain forces copies cals => Sys2Proof.Machine.execSelftestComplete failed slices retain forces copies cals s
  | .imageSelect => Sys2Proof.Machine.execImageSelect s
  | .configurationComplete => Sys2Proof.Machine.execConfigurationComplete s
  | .logicStart => Sys2Proof.Machine.execLogicStart s
  | .fwBChecked => Sys2Proof.Machine.execFwBChecked s
  | .storeCharged => Sys2Proof.Machine.execStoreCharged s
  | .holdupMeasureDone cap esr vhold => Sys2Proof.Machine.execHoldupMeasureDone cap esr vhold s
  | .storeChargeTimeout => Sys2Proof.Machine.execStoreChargeTimeout s
  | .storeVoltageLow mv => Sys2Proof.Machine.execStoreVoltageLow mv s
  | .vmainLow mv => Sys2Proof.Machine.execVmainLow mv s
  | .pfailNLow => Sys2Proof.Machine.execPfailNLow s
  | .pfailRecovered last => Sys2Proof.Machine.execPfailRecovered last s
  | .holdUpStage => Sys2Proof.Machine.execHoldUpStage s
  | .flushStepComplete => Sys2Proof.Machine.execFlushStepComplete s
  | .storeCutoff torn written => Sys2Proof.Machine.execStoreCutoff torn written s
  | .resetNLow => Sys2Proof.Machine.execResetNLow s
  | .jtagReset => Sys2Proof.Machine.execJtagReset s
  | .resetFlushTimeout => Sys2Proof.Machine.execResetFlushTimeout s
  | .resetNRelease => Sys2Proof.Machine.execResetNRelease s
  | .sessionOpen r method roles options auth => Sys2Proof.Machine.execSessionOpen r method roles options auth s
  | .sessionClose r => Sys2Proof.Machine.execSessionClose r s
  | .regRead r addr count => Sys2Proof.Machine.execRegRead r addr count s
  | .regWrite r addr values => Sys2Proof.Machine.execRegWrite r addr values s
  | .regModify r addr mask value => Sys2Proof.Machine.execRegModify r addr mask value s
  | .imgBegin r len => Sys2Proof.Machine.execImgBegin r len s
  | .imgData r offset bytes => Sys2Proof.Machine.execImgData r offset bytes s
  | .imgCommit r => Sys2Proof.Machine.execImgCommit r s
  | .imgActivate r options => Sys2Proof.Machine.execImgActivate r options s
  | .activationBoundary => Sys2Proof.Machine.execActivationBoundary s
  | .activationConfirmTimeout => Sys2Proof.Machine.execActivationConfirmTimeout s
  | .structuralConfigDone => Sys2Proof.Machine.execStructuralConfigDone s
  | .schUserCommitDone good => Sys2Proof.Machine.execSchUserCommitDone good s
  | .imgStatus r => Sys2Proof.Machine.execImgStatus r s
  | .groupSelect r group => Sys2Proof.Machine.execGroupSelect r group s
  | .fwBegin r len slot => Sys2Proof.Machine.execFwBegin r len slot s
  | .fwData r offset bytes => Sys2Proof.Machine.execFwData r offset bytes s
  | .fwCommit r => Sys2Proof.Machine.execFwCommit r s
  | .rollbackRaise => Sys2Proof.Machine.execRollbackRaise s
  | .leMode r code => Sys2Proof.Machine.execLeMode r code s
  | .leColdExecute => Sys2Proof.Machine.execLeColdExecute s
  | .leStep r option => Sys2Proof.Machine.execLeStep r option s
  | .leBreakSet r entries => Sys2Proof.Machine.execLeBreakSet r entries s
  | .breakpoint => Sys2Proof.Machine.execBreakpoint s
  | .holdTimeout => Sys2Proof.Machine.execHoldTimeout s
  | .leChange r watermark forces options => Sys2Proof.Machine.execLeChange r watermark forces options s
  | .leChangeover => Sys2Proof.Machine.execLeChangeover s
  | .leChangeRefused => Sys2Proof.Machine.execLeChangeRefused s
  | .forceSet r point value => Sys2Proof.Machine.execForceSet r point value s
  | .forceClear r point => Sys2Proof.Machine.execForceClear r point s
  | .forceList r first => Sys2Proof.Machine.execForceList r first s
  | .accSnap r kind mask => Sys2Proof.Machine.execAccSnap r kind mask s
  | .upcUrgent r chan meas filter rate settle => Sys2Proof.Machine.execUpcUrgent r chan meas filter rate settle s
  | .jobSubmit r set input => Sys2Proof.Machine.execJobSubmit r set input s
  | .tbRead r wanted => Sys2Proof.Machine.execTbRead r wanted s
  | .tbSetInc r domain inc => Sys2Proof.Machine.execTbSetInc r domain inc s
  | .tbSlew r domain inc count => Sys2Proof.Machine.execTbSlew r domain inc count s
  | .tbStep r domain frac offset => Sys2Proof.Machine.execTbStep r domain frac offset s
  | .tbServoKick r => Sys2Proof.Machine.execTbServoKick r s
  | .tbCapture r => Sys2Proof.Machine.execTbCapture r s
  | .tbStepGo r => Sys2Proof.Machine.execTbStepGo r s
  | .tbSlewCountWrite r domain count => Sys2Proof.Machine.execTbSlewCountWrite r domain count s
  | .tbIncHiWrite r domain slew hi => Sys2Proof.Machine.execTbIncHiWrite r domain slew hi s
  | .kickExpiredClear r => Sys2Proof.Machine.execKickExpiredClear r s
  | .servoKickExpiry => Sys2Proof.Machine.execServoKickExpiry s
  | .slewEnd domain => Sys2Proof.Machine.execSlewEnd domain s
  | .servoPeriod inc offset => Sys2Proof.Machine.execServoPeriod inc offset s
  | .inc0Learn => Sys2Proof.Machine.execInc0Learn s
  | .ptpMessageRx port m half portId gm missing offset role utc => Sys2Proof.Machine.execPtpMessageRx port m half portId gm missing offset role utc s
  | .ptpMessageTx port m half => Sys2Proof.Machine.execPtpMessageTx port m half s
  | .ppsInEdge half trueErr => Sys2Proof.Machine.execPpsInEdge half trueErr s
  | .irigInFrame f day sec half => Sys2Proof.Machine.execIrigInFrame f day sec half s
  | .ptpSyncMissing port => Sys2Proof.Machine.execPtpSyncMissing port s
  | .announceReceiptTimeout port => Sys2Proof.Machine.execAnnounceReceiptTimeout port s
  | .ppsEdgeMissing => Sys2Proof.Machine.execPpsEdgeMissing s
  | .irigFrameMissing => Sys2Proof.Machine.execIrigFrameMissing s
  | .timeClass dTemp => Sys2Proof.Machine.execTimeClass dTemp s
  | .glideToFree dTemp => Sys2Proof.Machine.execGlideToFree dTemp s
  | .utcOffsetChange => Sys2Proof.Machine.execUtcOffsetChange s
  | .refInLost => Sys2Proof.Machine.execRefInLost s
  | .refInRestored => Sys2Proof.Machine.execRefInRestored s
  | .gridRephase => Sys2Proof.Machine.execGridRephase s
  | .gridAligned => Sys2Proof.Machine.execGridAligned s
  | .td2Servo inc slew count => Sys2Proof.Machine.execTd2Servo inc slew count s
  | .launchArm r entry value => Sys2Proof.Machine.execLaunchArm r entry value s
  | .launchCancel r entry => Sys2Proof.Machine.execLaunchCancel r entry s
  | .launchFire => Sys2Proof.Machine.execLaunchFire s
  | .headboxWaveRelease raw full sat => Sys2Proof.Machine.execHeadboxWaveRelease raw full sat s
  | .provisionalTimeout => Sys2Proof.Machine.execProvisionalTimeout s
  | .rotationStepStart => Sys2Proof.Machine.execRotationStepStart s
  | .rotationCalEnd gain ofs resid => Sys2Proof.Machine.execRotationCalEnd gain ofs resid s
  | .rotationDecision sumD sumY => Sys2Proof.Machine.execRotationDecision sumD sumY s
  | .referenceCheckDone resid => Sys2Proof.Machine.execReferenceCheckDone resid s
  | .spareConnectDone => Sys2Proof.Machine.execSpareConnectDone s
  | .svFrameRx f => Sys2Proof.Machine.execSvFrameRx f s
  | .twArrival stream sec slot g cross sat vref => Sys2Proof.Machine.execTwArrival stream sec slot g cross sat vref s
  | .twRearm stream => Sys2Proof.Machine.execTwRearm stream s
  | .twLeadWindowClose terminal => Sys2Proof.Machine.execTwLeadWindowClose terminal s
  | .twSupervisionEnd terminal dv di => Sys2Proof.Machine.execTwSupervisionEnd terminal dv di s
  | .twBurstClose terminal => Sys2Proof.Machine.execTwBurstClose terminal s
  | .twNoiseFloor stream => Sys2Proof.Machine.execTwNoiseFloor stream s
  | .twNoiseCleared stream => Sys2Proof.Machine.execTwNoiseCleared stream s
  | .twLocationDone terminal => Sys2Proof.Machine.execTwLocationDone terminal s
  | .twExchangeSend => Sys2Proof.Machine.execTwExchangeSend s
  | .twMsgRx bytes => Sys2Proof.Machine.execTwMsgRx bytes s
  | .twMsgExpiry => Sys2Proof.Machine.execTwMsgExpiry s
  | .twVmeasArm r terminal => Sys2Proof.Machine.execTwVmeasArm r terminal s
  | .twVmeasTimeout => Sys2Proof.Machine.execTwVmeasTimeout s
  | .descriptorEntry => Sys2Proof.Machine.execDescriptorEntry s
  | .opRetire core cycles fault vals bytes => Sys2Proof.Machine.execOpRetire core cycles fault vals bytes s
  | .opCycleLimit core => Sys2Proof.Machine.execOpCycleLimit core s
  | .p1Deadline => Sys2Proof.Machine.execP1Deadline s
  | .p0Deadline => Sys2Proof.Machine.execP0Deadline s
  | .p2Late => Sys2Proof.Machine.execP2Late s
  | .overrunQuiet => Sys2Proof.Machine.execOverrunQuiet s
  | .delayEntryFire => Sys2Proof.Machine.execDelayEntryFire s
  | .jobStart => Sys2Proof.Machine.execJobStart s
  | .freqTrackHoldExpiry terminal => Sys2Proof.Machine.execFreqTrackHoldExpiry terminal s
  | .pmuTurnOff idcode good => Sys2Proof.Machine.execPmuTurnOff idcode good s
  | .pmuTurnOn idcode good => Sys2Proof.Machine.execPmuTurnOn idcode good s
  | .pmuSendHdr idcode good ip => Sys2Proof.Machine.execPmuSendHdr idcode good ip s
  | .pmuSendCfg idcode good kind ip => Sys2Proof.Machine.execPmuSendCfg idcode good kind ip s
  | .cyclicTaskRelease task => Sys2Proof.Machine.execCyclicTaskRelease task s
  | .logicCycleReady => Sys2Proof.Machine.execLogicCycleReady s
  | .eventTaskTrigger => Sys2Proof.Machine.execEventTaskTrigger s
  | .leWatchdog => Sys2Proof.Machine.execLeWatchdog s
  | .retainWrite => Sys2Proof.Machine.execRetainWrite s
  | .leLd sp addr => Sys2Proof.Machine.execLeLd sp addr s
  | .leLdn sp addr => Sys2Proof.Machine.execLeLdn sp addr s
  | .leAnd sp addr => Sys2Proof.Machine.execLeAnd sp addr s
  | .leAndn sp addr => Sys2Proof.Machine.execLeAndn sp addr s
  | .leOr sp addr => Sys2Proof.Machine.execLeOr sp addr s
  | .leOrn sp addr => Sys2Proof.Machine.execLeOrn sp addr s
  | .leXor sp addr => Sys2Proof.Machine.execLeXor sp addr s
  | .leXorn sp addr => Sys2Proof.Machine.execLeXorn sp addr s
  | .leNot => Sys2Proof.Machine.execLeNot s
  | .leSetr => Sys2Proof.Machine.execLeSetr s
  | .leClrr => Sys2Proof.Machine.execLeClrr s
  | .leAndOpen => Sys2Proof.Machine.execLeAndOpen s
  | .leAndnOpen => Sys2Proof.Machine.execLeAndnOpen s
  | .leOrOpen => Sys2Proof.Machine.execLeOrOpen s
  | .leOrnOpen => Sys2Proof.Machine.execLeOrnOpen s
  | .leXorOpen => Sys2Proof.Machine.execLeXorOpen s
  | .leBracketClose => Sys2Proof.Machine.execLeBracketClose s
  | .leFp sp addr => Sys2Proof.Machine.execLeFp sp addr s
  | .leFn sp addr => Sys2Proof.Machine.execLeFn sp addr s
  | .leSt sp addr => Sys2Proof.Machine.execLeSt sp addr s
  | .leStn sp addr => Sys2Proof.Machine.execLeStn sp addr s
  | .leSet sp addr => Sys2Proof.Machine.execLeSet sp addr s
  | .leRst sp addr => Sys2Proof.Machine.execLeRst sp addr s
  | .leTon sp addr => Sys2Proof.Machine.execLeTon sp addr s
  | .leTof sp addr => Sys2Proof.Machine.execLeTof sp addr s
  | .leTp sp addr => Sys2Proof.Machine.execLeTp sp addr s
  | .leTrst sp addr => Sys2Proof.Machine.execLeTrst sp addr s
  | .leTpv sp addr => Sys2Proof.Machine.execLeTpv sp addr s
  | .leCtu sp addr => Sys2Proof.Machine.execLeCtu sp addr s
  | .leCtd sp addr => Sys2Proof.Machine.execLeCtd sp addr s
  | .leCrst sp addr => Sys2Proof.Machine.execLeCrst sp addr s
  | .leCld sp addr => Sys2Proof.Machine.execLeCld sp addr s
  | .leCpv sp addr => Sys2Proof.Machine.execLeCpv sp addr s
  | .leLw sp addr => Sys2Proof.Machine.execLeLw sp addr s
  | .leSw sp addr => Sys2Proof.Machine.execLeSw sp addr s
  | .leSwc sp addr => Sys2Proof.Machine.execLeSwc sp addr s
  | .leLdh sp addr => Sys2Proof.Machine.execLeLdh sp addr s
  | .leAdd sp addr => Sys2Proof.Machine.execLeAdd sp addr s
  | .leSub sp addr => Sys2Proof.Machine.execLeSub sp addr s
  | .leMul sp addr => Sys2Proof.Machine.execLeMul sp addr s
  | .leDiv sp addr => Sys2Proof.Machine.execLeDiv sp addr s
  | .leMod sp addr => Sys2Proof.Machine.execLeMod sp addr s
  | .leNeg => Sys2Proof.Machine.execLeNeg s
  | .leAbs => Sys2Proof.Machine.execLeAbs s
  | .leWand sp addr => Sys2Proof.Machine.execLeWand sp addr s
  | .leWor sp addr => Sys2Proof.Machine.execLeWor sp addr s
  | .leWxor sp addr => Sys2Proof.Machine.execLeWxor sp addr s
  | .leWnot => Sys2Proof.Machine.execLeWnot s
  | .leShl sp addr => Sys2Proof.Machine.execLeShl sp addr s
  | .leShr sp addr => Sys2Proof.Machine.execLeShr sp addr s
  | .leSar sp addr => Sys2Proof.Machine.execLeSar sp addr s
  | .leCeq sp addr => Sys2Proof.Machine.execLeCeq sp addr s
  | .leCne sp addr => Sys2Proof.Machine.execLeCne sp addr s
  | .leClt sp addr => Sys2Proof.Machine.execLeClt sp addr s
  | .leCle sp addr => Sys2Proof.Machine.execLeCle sp addr s
  | .leCgt sp addr => Sys2Proof.Machine.execLeCgt sp addr s
  | .leCge sp addr => Sys2Proof.Machine.execLeCge sp addr s
  | .leFadd sp addr => Sys2Proof.Machine.execLeFadd sp addr s
  | .leFsub sp addr => Sys2Proof.Machine.execLeFsub sp addr s
  | .leFmul sp addr => Sys2Proof.Machine.execLeFmul sp addr s
  | .leFdiv sp addr => Sys2Proof.Machine.execLeFdiv sp addr s
  | .leFlt => Sys2Proof.Machine.execLeFlt s
  | .leFix => Sys2Proof.Machine.execLeFix s
  | .leFclt sp addr => Sys2Proof.Machine.execLeFclt sp addr s
  | .leFcgt sp addr => Sys2Proof.Machine.execLeFcgt sp addr s
  | .leFceq sp addr => Sys2Proof.Machine.execLeFceq sp addr s
  | .leJmp addr => Sys2Proof.Machine.execLeJmp addr s
  | .leJc addr => Sys2Proof.Machine.execLeJc addr s
  | .leJnc addr => Sys2Proof.Machine.execLeJnc addr s
  | .leCall addr => Sys2Proof.Machine.execLeCall addr s
  | .leRet => Sys2Proof.Machine.execLeRet s
  | .leEnd => Sys2Proof.Machine.execLeEnd s
  | .leNop => Sys2Proof.Machine.execLeNop s
  | .leEvt sp addr => Sys2Proof.Machine.execLeEvt sp addr s
  | .leLarm sp addr => Sys2Proof.Machine.execLeLarm sp addr s
  | .leLcan => Sys2Proof.Machine.execLeLcan s
  | .lePeekSelWrite r value => Sys2Proof.Machine.execLePeekSelWrite r value s
  | .brkHitClear r => Sys2Proof.Machine.execBrkHitClear r s
  | .gsNodeSelWrite r node => Sys2Proof.Machine.execGsNodeSelWrite r node s
  | .fieldFrameStart => Sys2Proof.Machine.execFieldFrameStart s
  | .fieldUpstreamRx di chg1 chg2 chg3 first last level temp => Sys2Proof.Machine.execFieldUpstreamRx di chg1 chg2 chg3 first last level temp s
  | .diChatterCleared input => Sys2Proof.Machine.execDiChatterCleared input s
  | .diMaxOn input => Sys2Proof.Machine.execDiMaxOn input s
  | .fieldUpstreamMissing => Sys2Proof.Machine.execFieldUpstreamMissing s
  | .fieldSelftestTimeout => Sys2Proof.Machine.execFieldSelftestTimeout s
  | .fieldDownstreamRx => Sys2Proof.Machine.execFieldDownstreamRx s
  | .fieldDownstreamMissing => Sys2Proof.Machine.execFieldDownstreamMissing s
  | .doLaunchSwitch dout => Sys2Proof.Machine.execDoLaunchSwitch dout s
  | .fioDoOverload dout => Sys2Proof.Machine.execFioDoOverload dout s
  | .fioDoOvertemp dout => Sys2Proof.Machine.execFioDoOvertemp dout s
  | .doThermalRetry dout => Sys2Proof.Machine.execDoThermalRetry dout s
  | .fioDoOpenWire dout => Sys2Proof.Machine.execFioDoOpenWire dout s
  | .fioDoExtVoltage dout => Sys2Proof.Machine.execFioDoExtVoltage dout s
  | .fioDiOpenWire input => Sys2Proof.Machine.execFioDiOpenWire input s
  | .fioDiOverload input => Sys2Proof.Machine.execFioDiOverload input s
  | .fioDiOvertemp input => Sys2Proof.Machine.execFioDiOvertemp input s
  | .fioDiagCleared det chan => Sys2Proof.Machine.execFioDiagCleared det chan s
  | .fioSupplyLow group level => Sys2Proof.Machine.execFioSupplyLow group level s
  | .fioSupplyRestored group full => Sys2Proof.Machine.execFioSupplyRestored group full s
  | .processFrameStart arrives => Sys2Proof.Machine.execProcessFrameStart arrives s
  | .processUpstreamRx seq status rbs chStat pl24 temp => Sys2Proof.Machine.execProcessUpstreamRx seq status rbs chStat pl24 temp s
  | .processUpstreamMissing => Sys2Proof.Machine.execProcessUpstreamMissing s
  | .processSideSafe => Sys2Proof.Machine.execProcessSideSafe s
  | .conversionComplete code ovr => Sys2Proof.Machine.execConversionComplete code ovr s
  | .seqPassStart => Sys2Proof.Machine.execSeqPassStart s
  | .readbackVerification chan => Sys2Proof.Machine.execReadbackVerification chan s
  | .upcReadbackMismatch chan => Sys2Proof.Machine.execUpcReadbackMismatch chan s
  | .readbackMismatchClear chan => Sys2Proof.Machine.execReadbackMismatchClear chan s
  | .outputStartupTest chan rb mv => Sys2Proof.Machine.execOutputStartupTest chan rb mv s
  | .upcCompliance chan => Sys2Proof.Machine.execUpcCompliance chan s
  | .upcOpenLoop chan => Sys2Proof.Machine.execUpcOpenLoop chan s
  | .upcSignalRange chan => Sys2Proof.Machine.execUpcSignalRange chan s
  | .tcTest chan high => Sys2Proof.Machine.execTcTest chan high s
  | .upcDiagCleared det chan => Sys2Proof.Machine.execUpcDiagCleared det chan s
  | .upcChModeWrite r chan value => Sys2Proof.Machine.execUpcChModeWrite r chan value s
  | .rioUpstreamRx station flags seq rxSeq mark tx rx data good => Sys2Proof.Machine.execRioUpstreamRx station flags seq rxSeq mark tx rx data good s
  | .rioDownstreamSend => Sys2Proof.Machine.execRioDownstreamSend s
  | .duciaRingCycle => Sys2Proof.Machine.execDuciaRingCycle s
  | .duciaRingFrameRx station data good => Sys2Proof.Machine.execDuciaRingFrameRx station data good s
  | .drArm r arm => Sys2Proof.Machine.execDrArm r arm s
  | .drTrigger r unit => Sys2Proof.Machine.execDrTrigger r unit s
  | .drUnitFiredClear r mask => Sys2Proof.Machine.execDrUnitFiredClear r mask s
  | .recordOpen => Sys2Proof.Machine.execRecordOpen s
  | .recordEnd => Sys2Proof.Machine.execRecordEnd s
  | .holdOffExpiry => Sys2Proof.Machine.execHoldOffExpiry s
  | .rateStepUp high prot => Sys2Proof.Machine.execRateStepUp high prot s
  | .rateStepDown high prot => Sys2Proof.Machine.execRateStepDown high prot s
  | .ringFull high => Sys2Proof.Machine.execRingFull high s
  | .reelDrainDone id high prot => Sys2Proof.Machine.execReelDrainDone id high prot s
  | .drList r from_ max => Sys2Proof.Machine.execDrList r from_ max s
  | .drRead r id offset len => Sys2Proof.Machine.execDrRead r id offset len s
  | .drExport r id set format chain file offset => Sys2Proof.Machine.execDrExport r id set format chain file offset s
  | .eventEntry => Sys2Proof.Machine.execEventEntry s
  | .rateRefill code => Sys2Proof.Machine.execRateRefill code s
  | .suppressedSummary60s code => Sys2Proof.Machine.execSuppressedSummary60s code s
  | .commitPeriod => Sys2Proof.Machine.execCommitPeriod s
  | .commitStart => Sys2Proof.Machine.execCommitStart s
  | .pageCommitComplete => Sys2Proof.Machine.execPageCommitComplete s
  | .evrRead r from_ max options => Sys2Proof.Machine.execEvrRead r from_ max options s
  | .evrFreeze r => Sys2Proof.Machine.execEvrFreeze r s
  | .evrThaw r => Sys2Proof.Machine.execEvrThaw r s
  | .freezeTimeout => Sys2Proof.Machine.execFreezeTimeout s
  | .risiaHelloRx good serial est st active mark => Sys2Proof.Machine.execRisiaHelloRx good serial est st active mark s
  | .risiaHeartbeatRx good lane st active wave bind flags => Sys2Proof.Machine.execRisiaHeartbeatRx good lane st active wave bind flags s
  | .risiaAgreeRx good kind wave vals fill lat => Sys2Proof.Machine.execRisiaAgreeRx good kind wave vals fill lat s
  | .risiaDescRx good d => Sys2Proof.Machine.execRisiaDescRx good d s
  | .risiaDigestRx good wave digest => Sys2Proof.Machine.execRisiaDigestRx good wave digest s
  | .risiaControlRx good vals => Sys2Proof.Machine.execRisiaControlRx good vals s
  | .risiaBulkRx good kind total off bytes => Sys2Proof.Machine.execRisiaBulkRx good kind total off bytes s
  | .risiaTimeRx good err => Sys2Proof.Machine.execRisiaTimeRx good err s
  | .pairHeartbeatTx => Sys2Proof.Machine.execPairHeartbeatTx s
  | .plkLaneDown lane => Sys2Proof.Machine.execPlkLaneDown lane s
  | .hbInPulse width => Sys2Proof.Machine.execHbInPulse width s
  | .hbWireSilent => Sys2Proof.Machine.execHbWireSilent s
  | .bindInChange level => Sys2Proof.Machine.execBindInChange level s
  | .bindHoldDrop => Sys2Proof.Machine.execBindHoldDrop s
  | .bindFault => Sys2Proof.Machine.execBindFault s
  | .established => Sys2Proof.Machine.execEstablished s
  | .linkStartTimeout => Sys2Proof.Machine.execLinkStartTimeout s
  | .joinSnapshotDone snap => Sys2Proof.Machine.execJoinSnapshotDone snap s
  | .joinCatchupDone => Sys2Proof.Machine.execJoinCatchupDone s
  | .joinFailed full => Sys2Proof.Machine.execJoinFailed full s
  | .joinRetry => Sys2Proof.Machine.execJoinRetry s
  | .agreementDueMissing item => Sys2Proof.Machine.execAgreementDueMissing item s
  | .verdictComplete pass => Sys2Proof.Machine.execVerdictComplete pass s
  | .handoverWave => Sys2Proof.Machine.execHandoverWave s
  | .pairDrill r dwell => Sys2Proof.Machine.execPairDrill r dwell s
  | .drillDwellEnd => Sys2Proof.Machine.execDrillDwellEnd s
  | .drillDue => Sys2Proof.Machine.execDrillDue s
  | .pairRelease r action => Sys2Proof.Machine.execPairRelease r action s
  | .migrateWarmDone => Sys2Proof.Machine.execMigrateWarmDone s
  | .gooseFrameRx f => Sys2Proof.Machine.execGooseFrameRx f s
  | .gooseSubLost sub => Sys2Proof.Machine.execGooseSubLost sub s
  | .gooseRetransmit pub => Sys2Proof.Machine.execGooseRetransmit pub s
  | .prpSupervisionTx => Sys2Proof.Machine.execPrpSupervisionTx s
  | .prpDupAgeout => Sys2Proof.Machine.execPrpDupAgeout s
  | .netFrameRx f => Sys2Proof.Machine.execNetFrameRx f s
  | .arpRx request target ip mac => Sys2Proof.Machine.execArpRx request target ip mac s
  | .arpRefresh => Sys2Proof.Machine.execArpRefresh s
  | .icmpEcho ip bytes => Sys2Proof.Machine.execIcmpEcho ip bytes s
  | .tlsRecordRx conn handshake bytes => Sys2Proof.Machine.execTlsRecordRx conn handshake bytes s
  | .linkLoss port => Sys2Proof.Machine.execLinkLoss port s
  | .laneNoFrame port => Sys2Proof.Machine.execLaneNoFrame port s
  | .ringOpen port => Sys2Proof.Machine.execRingOpen port s
  | .netLaneRestored port => Sys2Proof.Machine.execNetLaneRestored port s
  | .hpiWriteTransfer bytes => Sys2Proof.Machine.execHpiWriteTransfer bytes s
  | .hpiReadTransfer complete => Sys2Proof.Machine.execHpiReadTransfer complete s
  | .uartFrameRx bytes => Sys2Proof.Machine.execUartFrameRx bytes s
  | .uartFrameTimeout => Sys2Proof.Machine.execUartFrameTimeout s
  | .diagStream r period addrs => Sys2Proof.Machine.execDiagStream r period addrs s
  | .diagData session => Sys2Proof.Machine.execDiagData session s
  | .loadWindow mean => Sys2Proof.Machine.execLoadWindow mean s
  | .mgmtWatchdog core => Sys2Proof.Machine.execMgmtWatchdog core s
  | .mgmtRestartDone => Sys2Proof.Machine.execMgmtRestartDone s
  | .attest r nonce => Sys2Proof.Machine.execAttest r nonce s
  | .keyInstall r body => Sys2Proof.Machine.execKeyInstall r body s
  | .keyList r => Sys2Proof.Machine.execKeyList r s
  | .authLockoutExpiry transport => Sys2Proof.Machine.execAuthLockoutExpiry transport s
  | .sessionIdleTimeout session => Sys2Proof.Machine.execSessionIdleTimeout session s
  | .healthRead r selector => Sys2Proof.Machine.execHealthRead r selector s
  | .injArm r body => Sys2Proof.Machine.execInjArm r body s
  | .injClear r det => Sys2Proof.Machine.execInjClear r det s
  | .injDurationEnd slot => Sys2Proof.Machine.execInjDurationEnd slot s
  | .injPeriodStart slot => Sys2Proof.Machine.execInjPeriodStart slot s
  | .detectorHoldExpiry det => Sys2Proof.Machine.execDetectorHoldExpiry det s
  | .monitorSample flash mram spareLow => Sys2Proof.Machine.execMonitorSample flash mram spareLow s
  | .dieTempHigh temp => Sys2Proof.Machine.execDieTempHigh temp s
  | .eccSram place core lo hi => Sys2Proof.Machine.execEccSram place core lo hi s
  | .eccMram region copies => Sys2Proof.Machine.execEccMram region copies s
  | .flashErr => Sys2Proof.Machine.execFlashErr s
  | .upcSelftestTimeout => Sys2Proof.Machine.execUpcSelftestTimeout s
  | .highRateBlock sec block inputs rms => Sys2Proof.Machine.execHighRateBlock sec block inputs rms s
  | .ppsOutRise => Sys2Proof.Machine.execPpsOutRise s
  | .ppsOutFall => Sys2Proof.Machine.execPpsOutFall s
  | .sampleLoopUnlock => Sys2Proof.Machine.execSampleLoopUnlock s
  | .tlsConnectionEnd conn => Sys2Proof.Machine.execTlsConnectionEnd conn s
  | .monitorLimitCrossed monitor value => Sys2Proof.Machine.execMonitorLimitCrossed monitor value s
  | .dieTempNormal temp => Sys2Proof.Machine.execDieTempNormal temp s
  | .vmainLowCleared => Sys2Proof.Machine.execVmainLowCleared s
  | .portLinkUp port speed => Sys2Proof.Machine.execPortLinkUp port speed s

end Sys2Proof.Machine
end

