-- ==== Sys2Proof/WellFormed.lean ====
section
/-! DEFINITION. Well-formed commands: the ranges that the widths and numbers of the spec allow an operand. -/

namespace Sys2Proof

/-- A request: session and tag of 16 bits (R585). -/
abbrev okReq (r : Req) : Bool := decide (r.session < 2 ^ 16 ∧ r.tag < 2 ^ 16)

/-- A 32-bit field. -/
abbrev okWord (n : Nat) : Bool := decide (n < 2 ^ 32)

/-- A 16-bit field. -/
abbrev okHalf (n : Nat) : Bool := decide (n < 2 ^ 16)

/-- An 8-bit field. -/
abbrev okByte (n : Nat) : Bool := decide (n < 2 ^ 8)

/-- A 64-bit field. -/
abbrev okLong (n : Nat) : Bool := decide (n < 2 ^ 64)

/-- A port: NET_A, NET_B, NET_C (R560). -/
abbrev okPort (n : Nat) : Bool := decide (n < 3)

/-- A line terminal: A or B (R104). -/
abbrev okTerminal (n : Nat) : Bool := decide (n < 2)

/-- A modal stream (R312). -/
abbrev okStream (n : Nat) : Bool := decide (n < 12)

/-- A digital input (R420). -/
abbrev okInput (n : Nat) : Bool := decide (n < 16)

/-- A digital output (R427). -/
abbrev okOutput (n : Nat) : Bool := decide (n < 8)

/-- A field supply group (R68). -/
abbrev okGroup (n : Nat) : Bool := decide (n < 2)

/-- A process channel (R438). -/
abbrev okChan (n : Nat) : Bool := decide (n < 4)

/-- An operator core (R206). -/
abbrev okCore (n : Nat) : Bool := decide (n < 32)

/-- A management core (R601). -/
abbrev okMgmt (n : Nat) : Bool := decide (n < 4)

/-- A logic task (R352). -/
abbrev okTask (n : Nat) : Bool := decide (n < 24)

/-- A time domain (R10). -/
abbrev okDomain (n : Nat) : Bool := decide (n < 4)

/-- A remote I/O station (R390). -/
abbrev okStation (n : Nat) : Bool := decide (n < 32)

/-- An injection slot (R633). -/
abbrev okSlot (n : Nat) : Bool := decide (n < 8)

/-- A lane of the Risia link (R529). -/
abbrev okLane (n : Nat) : Bool := decide (n < 2)

/-- A GOOSE subscription (R571). -/
abbrev okSub (n : Nat) : Bool := decide (n < 128)

/-- A GOOSE publication (R567). -/
abbrev okPub (n : Nat) : Bool := decide (n < 32)

/-- A percentage. -/
abbrev okPercent (n : Nat) : Bool := decide (n ≤ 100)

/-- A 48-bit increment (R126). -/
abbrev okInc (n : Nat) : Bool := decide (n < 2 ^ 48)

/-- An operand of a logic instruction: space and address (R348). -/
abbrev okSpace (sp addr : Nat) : Bool := decide (sp < 16 ∧ addr < 2 ^ 20)

/-- A program address (R347). -/
abbrev okPc (n : Nat) : Bool := decide (n < 2 ^ 18)

/-- A watermark (R110). -/
abbrev okMark (b : List Byte) : Bool := decide (b.length = 8)

/-- A block of bytes that a frame or packet can carry (R585). -/
abbrev okBlock (b : List Byte) : Bool := decide (b.length ≤ 65535)

/-- A monitor (R630). -/
abbrev okMonitor (n : Nat) : Bool := decide (n < 10)

/-- A command is well-formed: every operand lies in the range of its field. -/
def Instr.wellFormed : Instr → Bool
  | .vmainGood => true
  | .firmwareStart => true
  | .selftestComplete _ _ _ _ copies _ => okByte copies
  | .imageSelect => true
  | .configurationComplete => true
  | .logicStart => true
  | .fwBChecked => true
  | .storeCharged => true
  | .holdupMeasureDone _ _ _ => true
  | .storeChargeTimeout => true
  | .storeVoltageLow mv => okHalf mv
  | .vmainLow mv => okHalf mv
  | .pfailNLow => true
  | .pfailRecovered _ => true
  | .holdUpStage => true
  | .flushStepComplete => true
  | .storeCutoff _ _ => true
  | .resetNLow => true
  | .jtagReset => true
  | .resetFlushTimeout => true
  | .resetNRelease => true
  | .sessionOpen r method roles options auth => okReq r && okByte method && okByte roles && okWord options && okBlock auth
  | .sessionClose r => okReq r
  | .regRead r addr count => okReq r && okWord addr && okHalf count
  | .regWrite r addr _ => okReq r && okWord addr
  | .regModify r addr _ _ => okReq r && okWord addr
  | .imgBegin r len => okReq r && okWord len
  | .imgData r offset bytes => okReq r && okWord offset && okBlock bytes
  | .imgCommit r => okReq r
  | .imgActivate r options => okReq r && okWord options
  | .activationBoundary => true
  | .activationConfirmTimeout => true
  | .structuralConfigDone => true
  | .schUserCommitDone _ => true
  | .imgStatus r => okReq r
  | .groupSelect r group => okReq r && okByte group
  | .fwBegin r len slot => okReq r && okWord len && okByte slot
  | .fwData r offset bytes => okReq r && okWord offset && okBlock bytes
  | .fwCommit r => okReq r
  | .rollbackRaise => true
  | .leMode r code => okReq r && okHalf code
  | .leColdExecute => true
  | .leStep r option => okReq r && okByte option
  | .leBreakSet r _ => okReq r
  | .breakpoint => true
  | .holdTimeout => true
  | .leChange r watermark forces options => okReq r && okMark watermark && okMark forces && okWord options
  | .leChangeover => true
  | .leChangeRefused => true
  | .forceSet r point value => okReq r && okWord point && okWord value
  | .forceClear r point => okReq r && okWord point
  | .forceList r first => okReq r && okWord first
  | .accSnap r kind mask => okReq r && okByte kind && okWord mask
  | .upcUrgent r chan meas filter rate settle => okReq r && okByte chan && okByte meas && okByte filter && okByte rate && okHalf settle
  | .jobSubmit r set input => okReq r && okHalf set && okBlock input
  | .tbRead r wanted => okReq r && okWord wanted
  | .tbSetInc r domain inc => okReq r && okByte domain && okInc inc
  | .tbSlew r domain inc count => okReq r && okByte domain && okInc inc && okWord count
  | .tbStep r domain frac _ => okReq r && okByte domain && okHalf frac
  | .tbServoKick r => okReq r
  | .tbCapture r => okReq r
  | .tbStepGo r => okReq r
  | .tbSlewCountWrite r domain count => okReq r && okDomain domain && okWord count
  | .tbIncHiWrite r domain _ hi => okReq r && okDomain domain && okHalf hi
  | .kickExpiredClear r => okReq r
  | .servoKickExpiry => true
  | .slewEnd domain => okDomain domain
  | .servoPeriod inc _ => okInc inc
  | .inc0Learn => true
  | .ptpMessageRx port m _ _ _ _ _ _ _ => okPort port && okByte m.msgType && okHalf m.seq && okByte m.dom
  | .ptpMessageTx port m _ => okPort port && okByte m.msgType && okHalf m.seq && okByte m.dom
  | .ppsInEdge _ _ => true
  | .irigInFrame _ _ _ _ => true
  | .ptpSyncMissing port => okPort port
  | .announceReceiptTimeout port => okPort port
  | .ppsEdgeMissing => true
  | .irigFrameMissing => true
  | .timeClass _ => true
  | .glideToFree _ => true
  | .utcOffsetChange => true
  | .refInLost => true
  | .refInRestored => true
  | .gridRephase => true
  | .gridAligned => true
  | .td2Servo inc slew count => okInc inc && okInc slew && okWord count
  | .launchArm r entry _ => okReq r && okByte entry
  | .launchCancel r entry => okReq r && okByte entry
  | .launchFire => true
  | .headboxWaveRelease _ _ _ => true
  | .provisionalTimeout => true
  | .rotationStepStart => true
  | .rotationCalEnd _ _ _ => true
  | .rotationDecision _ _ => true
  | .referenceCheckDone _ => true
  | .spareConnectDone => true
  | .svFrameRx _ => true
  | .twArrival stream _ slot _ _ _ _ => okStream stream && okWord slot
  | .twRearm stream => okStream stream
  | .twLeadWindowClose terminal => okTerminal terminal
  | .twSupervisionEnd terminal _ _ => okTerminal terminal
  | .twBurstClose terminal => okTerminal terminal
  | .twNoiseFloor stream => okStream stream
  | .twNoiseCleared stream => okStream stream
  | .twLocationDone terminal => okTerminal terminal
  | .twExchangeSend => true
  | .twMsgRx bytes => okBlock bytes
  | .twMsgExpiry => true
  | .twVmeasArm r terminal => okReq r && okByte terminal
  | .twVmeasTimeout => true
  | .descriptorEntry => true
  | .opRetire core cycles _ _ bytes => okCore core && okHalf cycles && okBlock bytes
  | .opCycleLimit core => okCore core
  | .p1Deadline => true
  | .p0Deadline => true
  | .p2Late => true
  | .overrunQuiet => true
  | .delayEntryFire => true
  | .jobStart => true
  | .freqTrackHoldExpiry terminal => okTerminal terminal
  | .pmuTurnOff idcode _ => okHalf idcode
  | .pmuTurnOn idcode _ => okHalf idcode
  | .pmuSendHdr idcode _ ip => okHalf idcode && okWord ip
  | .pmuSendCfg idcode _ kind ip => okHalf idcode && okByte kind && okWord ip
  | .cyclicTaskRelease task => okTask task
  | .logicCycleReady => true
  | .eventTaskTrigger => true
  | .leWatchdog => true
  | .retainWrite => true
  | .leLd sp addr => okSpace sp addr
  | .leLdn sp addr => okSpace sp addr
  | .leAnd sp addr => okSpace sp addr
  | .leAndn sp addr => okSpace sp addr
  | .leOr sp addr => okSpace sp addr
  | .leOrn sp addr => okSpace sp addr
  | .leXor sp addr => okSpace sp addr
  | .leXorn sp addr => okSpace sp addr
  | .leNot => true
  | .leSetr => true
  | .leClrr => true
  | .leAndOpen => true
  | .leAndnOpen => true
  | .leOrOpen => true
  | .leOrnOpen => true
  | .leXorOpen => true
  | .leBracketClose => true
  | .leFp sp addr => okSpace sp addr
  | .leFn sp addr => okSpace sp addr
  | .leSt sp addr => okSpace sp addr
  | .leStn sp addr => okSpace sp addr
  | .leSet sp addr => okSpace sp addr
  | .leRst sp addr => okSpace sp addr
  | .leTon sp addr => okSpace sp addr
  | .leTof sp addr => okSpace sp addr
  | .leTp sp addr => okSpace sp addr
  | .leTrst sp addr => okSpace sp addr
  | .leTpv sp addr => okSpace sp addr
  | .leCtu sp addr => okSpace sp addr
  | .leCtd sp addr => okSpace sp addr
  | .leCrst sp addr => okSpace sp addr
  | .leCld sp addr => okSpace sp addr
  | .leCpv sp addr => okSpace sp addr
  | .leLw sp addr => okSpace sp addr
  | .leSw sp addr => okSpace sp addr
  | .leSwc sp addr => okSpace sp addr
  | .leLdh sp addr => okSpace sp addr
  | .leAdd sp addr => okSpace sp addr
  | .leSub sp addr => okSpace sp addr
  | .leMul sp addr => okSpace sp addr
  | .leDiv sp addr => okSpace sp addr
  | .leMod sp addr => okSpace sp addr
  | .leNeg => true
  | .leAbs => true
  | .leWand sp addr => okSpace sp addr
  | .leWor sp addr => okSpace sp addr
  | .leWxor sp addr => okSpace sp addr
  | .leWnot => true
  | .leShl sp addr => okSpace sp addr
  | .leShr sp addr => okSpace sp addr
  | .leSar sp addr => okSpace sp addr
  | .leCeq sp addr => okSpace sp addr
  | .leCne sp addr => okSpace sp addr
  | .leClt sp addr => okSpace sp addr
  | .leCle sp addr => okSpace sp addr
  | .leCgt sp addr => okSpace sp addr
  | .leCge sp addr => okSpace sp addr
  | .leFadd sp addr => okSpace sp addr
  | .leFsub sp addr => okSpace sp addr
  | .leFmul sp addr => okSpace sp addr
  | .leFdiv sp addr => okSpace sp addr
  | .leFlt => true
  | .leFix => true
  | .leFclt sp addr => okSpace sp addr
  | .leFcgt sp addr => okSpace sp addr
  | .leFceq sp addr => okSpace sp addr
  | .leJmp addr => okPc addr
  | .leJc addr => okPc addr
  | .leJnc addr => okPc addr
  | .leCall addr => okPc addr
  | .leRet => true
  | .leEnd => true
  | .leNop => true
  | .leEvt sp addr => okSpace sp addr
  | .leLarm sp addr => okSpace sp addr
  | .leLcan => true
  | .lePeekSelWrite r _ => okReq r
  | .brkHitClear r => okReq r
  | .gsNodeSelWrite r node => okReq r && okHalf node
  | .fieldFrameStart => true
  | .fieldUpstreamRx _ _ _ _ first last level _ => okByte first && okByte last && okByte level
  | .diChatterCleared input => okInput input
  | .diMaxOn input => okInput input
  | .fieldUpstreamMissing => true
  | .fieldSelftestTimeout => true
  | .fieldDownstreamRx => true
  | .fieldDownstreamMissing => true
  | .doLaunchSwitch dout => okOutput dout
  | .fioDoOverload dout => okOutput dout
  | .fioDoOvertemp dout => okOutput dout
  | .doThermalRetry dout => okOutput dout
  | .fioDoOpenWire dout => okOutput dout
  | .fioDoExtVoltage dout => okOutput dout
  | .fioDiOpenWire input => okInput input
  | .fioDiOverload input => okInput input
  | .fioDiOvertemp input => okInput input
  | .fioDiagCleared det chan => okByte det && okInput chan
  | .fioSupplyLow group level => okGroup group && okByte level
  | .fioSupplyRestored group _ => okGroup group
  | .processFrameStart _ => true
  | .processUpstreamRx seq _ _ _ _ _ => okHalf seq
  | .processUpstreamMissing => true
  | .processSideSafe => true
  | .conversionComplete _ _ => true
  | .seqPassStart => true
  | .readbackVerification chan => okChan chan
  | .upcReadbackMismatch chan => okChan chan
  | .readbackMismatchClear chan => okChan chan
  | .outputStartupTest chan _ mv => okChan chan && okHalf mv
  | .upcCompliance chan => okChan chan
  | .upcOpenLoop chan => okChan chan
  | .upcSignalRange chan => okChan chan
  | .tcTest chan _ => okChan chan
  | .upcDiagCleared det chan => okByte det && okByte chan
  | .upcChModeWrite r chan _ => okReq r && okChan chan
  | .rioUpstreamRx station flags seq _ mark _ _ data _ => okStation station && okHalf flags && okWord seq && okMark mark && okBlock data
  | .rioDownstreamSend => true
  | .duciaRingCycle => true
  | .duciaRingFrameRx station data _ => okStation station && okBlock data
  | .drArm r arm => okReq r && okByte arm
  | .drTrigger r unit => okReq r && okByte unit
  | .drUnitFiredClear r _ => okReq r
  | .recordOpen => true
  | .recordEnd => true
  | .holdOffExpiry => true
  | .rateStepUp high prot => okPercent high && okPercent prot
  | .rateStepDown high prot => okPercent high && okPercent prot
  | .ringFull _ => true
  | .reelDrainDone id high prot => okLong id && okPercent high && okPercent prot
  | .drList r from_ max => okReq r && okLong from_ && okHalf max
  | .drRead r id offset len => okReq r && okLong id && okWord offset && okHalf len
  | .drExport r id set format chain file offset => okReq r && okLong id && okHalf set && okByte format && okByte chain && okByte file && okWord offset
  | .eventEntry => true
  | .rateRefill code => okHalf code
  | .suppressedSummary60s code => okHalf code
  | .commitPeriod => true
  | .commitStart => true
  | .pageCommitComplete => true
  | .evrRead r from_ max options => okReq r && okLong from_ && okByte max && okWord options
  | .evrFreeze r => okReq r
  | .evrThaw r => okReq r
  | .freezeTimeout => true
  | .risiaHelloRx _ serial _ st _ mark => okLong serial && okByte st && okMark mark
  | .risiaHeartbeatRx _ lane st _ wave _ flags => okLane lane && okByte st && okWord wave && okHalf flags
  | .risiaAgreeRx _ kind wave _ fill lat => okByte kind && okWord wave && okPercent fill && okHalf lat
  | .risiaDescRx _ _ => true
  | .risiaDigestRx _ wave digest => okWord wave && okLong digest
  | .risiaControlRx _ _ => true
  | .risiaBulkRx _ kind total off bytes => okByte kind && okWord total && okWord off && okBlock bytes
  | .risiaTimeRx _ _ => true
  | .pairHeartbeatTx => true
  | .plkLaneDown lane => okLane lane
  | .hbInPulse width => okWord width
  | .hbWireSilent => true
  | .bindInChange _ => true
  | .bindHoldDrop => true
  | .bindFault => true
  | .established => true
  | .linkStartTimeout => true
  | .joinSnapshotDone _ => true
  | .joinCatchupDone => true
  | .joinFailed _ => true
  | .joinRetry => true
  | .agreementDueMissing item => okByte item
  | .verdictComplete _ => true
  | .handoverWave => true
  | .pairDrill r dwell => okReq r && okByte dwell
  | .drillDwellEnd => true
  | .drillDue => true
  | .pairRelease r action => okReq r && okByte action
  | .migrateWarmDone => true
  | .gooseFrameRx _ => true
  | .gooseSubLost sub => okSub sub
  | .gooseRetransmit pub => okPub pub
  | .prpSupervisionTx => true
  | .prpDupAgeout => true
  | .netFrameRx _ => true
  | .arpRx _ _ ip _ => okWord ip
  | .arpRefresh => true
  | .icmpEcho ip bytes => okWord ip && okBlock bytes
  | .tlsRecordRx conn _ bytes => okHalf conn && okBlock bytes
  | .linkLoss port => okPort port
  | .laneNoFrame port => okPort port
  | .ringOpen port => okPort port
  | .netLaneRestored port => okPort port
  | .hpiWriteTransfer bytes => okBlock bytes
  | .hpiReadTransfer _ => true
  | .uartFrameRx bytes => okBlock bytes
  | .uartFrameTimeout => true
  | .diagStream r period _ => okReq r && okHalf period
  | .diagData session => okHalf session
  | .loadWindow mean => okWord mean
  | .mgmtWatchdog core => okMgmt core
  | .mgmtRestartDone => true
  | .attest r nonce => okReq r && okBlock nonce
  | .keyInstall r body => okReq r && okBlock body
  | .keyList r => okReq r
  | .authLockoutExpiry _ => true
  | .sessionIdleTimeout session => okHalf session
  | .healthRead r selector => okReq r && okByte selector
  | .injArm r body => okReq r && okBlock body
  | .injClear r det => okReq r && okByte det
  | .injDurationEnd slot => okSlot slot
  | .injPeriodStart slot => okSlot slot
  | .detectorHoldExpiry det => okByte det
  | .monitorSample _ _ _ => true
  | .dieTempHigh _ => true
  | .eccSram place core _ hi => okByte place && okCore core && okHalf hi
  | .eccMram region copies => okByte region && okByte copies
  | .flashErr => true
  | .upcSelftestTimeout => true
  | .highRateBlock _ _ _ _ => true
  | .ppsOutRise => true
  | .ppsOutFall => true
  | .sampleLoopUnlock => true
  | .tlsConnectionEnd conn => okHalf conn
  | .monitorLimitCrossed monitor _ => okMonitor monitor
  | .dieTempNormal _ => true
  | .vmainLowCleared => true
  | .portLinkUp port _ => okPort port

end Sys2Proof
end

