-- ==== Sys2Proof/Safety.lean ====
section
/-! DEFINITION. What a safe run keeps, and the words in which the statements speak of a command's effect. -/

namespace Sys2Proof.Machine

/-- The numbers that the engine has given out stay below what it has reserved in memory that keeps its contents: the
sequence number of the last event record below its mark (R508), the attestation counter not above its mark (R616), the
anti-rollback counter within its 64 write-once bits (R610), the table of accepted counters in its canonical form (R617). -/
def Reserved (s : State) : Prop :=
  s.evr.newest < max 1 s.evr.mark ∧ s.sec.attCnt ≤ s.sec.attMark ∧ s.sec.rollback ≤ 64 ∧ smWf s.sec.counters = true

/-- A safe step answers a next state with its numbers reserved and none of them lower than before. -/
def SafeStep (s t : State) : Prop :=
  Reserved t ∧ s.evr.newest ≤ t.evr.newest ∧ s.sec.attCnt ≤ t.sec.attCnt ∧ s.sec.rollback ≤ t.sec.rollback

/-- HIRQ_N is held low exactly while a packet is pending for an HPI session (R582). -/
def HirqTold (s : State) : Prop := s.pads.hirq = s.cmd.out.any (fun (p : Packet) => p.transport == .hpi)

/-- The units of the engine, and the queue. -/
inductive Part where
  | code | pw | pads | fl | boot | img | tu | acq | gr | le | rio | fio | upc | dr | evr | pr | net | cmd | sec | hlt | pending
  deriving DecidableEq, Repr

/-- A unit is the same in two states. -/
def Same (p : Part) (s t : State) : Prop :=
  match p with
  | .code => t.code = s.code | .pw => t.pw = s.pw | .pads => t.pads = s.pads | .fl => t.fl = s.fl
  | .boot => t.boot = s.boot | .img => t.img = s.img | .tu => t.tu = s.tu | .acq => t.acq = s.acq
  | .gr => t.gr = s.gr | .le => t.le = s.le | .rio => t.rio = s.rio | .fio => t.fio = s.fio
  | .upc => t.upc = s.upc | .dr => t.dr = s.dr | .evr => t.evr = s.evr | .pr => t.pr = s.pr
  | .net => t.net = s.net | .cmd => t.cmd = s.cmd | .sec => t.sec = s.sec | .hlt => t.hlt = s.hlt
  | .pending => t.pending = s.pending

/-- Only the named units may differ: the frame of a command. -/
def Only (ps : List Part) (s t : State) : Prop := ∀ p : Part, p ∈ ps ∨ Same p s t

/-- A host request does not wait (R73, R598) and passes the checks of R587, R73, R76, R601 and R620. -/
abbrev Served (r : Req) (op : Nat) (s : State) : Prop :=
  waits r (isUrgent op) s = false ∧ precheck r op (isUrgent op) (roleOf op) s = none

/-- A task past the instruction that it executes. -/
def past (t : Task) : Task := { t with pc := (t.pc + 1) % 2 ^ 18, icount := t.icount + 1 }

/-- The state after an instruction: the task's record is written back, every other register of the engine is kept. -/
def ran (t : Task) (s : State) : State := putTask t { s with le := { s.le with brkSkip := false } }

end Sys2Proof.Machine
end

