-- ==== Sys2Proof/Certificates/Slice0/Obligations.lean ====
section
/-! DEFINITION. The statements for the provers. -/

set_option linter.unusedVariables false
open Sys2Proof Sys2Proof.Machine

/-- A step runs the command at the front of the queue on the state with the queue's rest (R588). -/
def Obligations.FrontCommandIsExecuted : Prop :=
  ∀ (c : Instr) (q : List Instr) (s : State), s.pending = c :: q → step s = exec c { s with pending := q }

/-- On an empty queue a powered engine counts one tick of the timing clock (the model's choice, log entry 6) (R125, R128). -/
def Obligations.EmptyQueueLetsATickPass : Prop :=
  ∀ s : State, s.pending = [] →
    (s.pw.phase ≠ .off → s.tu.d0.slewLeft = 0 → s.tu.d1.slewLeft = 0 →
      ∃ t, step s = .next t ∧ Only [.tu, .net] s t ∧ (s.net.mgmtWait = [] → t.net = s.net) ∧ td0 t = td0 s + s.tu.d0.inc ∧ td1 t = td1 s + s.tu.d1.inc) ∧
    (s.pw.phase = .off → step s = .next s)

/-- Every step answers a next state, takes one command from the queue and leaves the ordering code (R1, R588). -/
def Obligations.StepTakesOneCommandAndKeepsThePart : Prop :=
  ∀ s : State, ∃ t, step s = .next t ∧ t.pending = s.pending.tail ∧ t.code = s.code

/-- Every step keeps the reserved numbers and lowers no sequence number, attestation counter or anti-rollback counter (R508, R606, R610, R616, R617). -/
def Obligations.EveryStepKeepsTheReservedNumbers : Prop :=
  ∀ s : State, Reserved s → ∃ t, step s = .next t ∧ SafeStep s t

/-- The state after reset keeps the reserved numbers and waits for the supply with an empty queue (R508, R610, R616). -/
def Obligations.ResetReservesTheNumbers : Prop :=
  Reserved State.reset ∧ State.reset.pending = [] ∧ State.reset.pw.phase = .off ∧ State.reset.fio.fsSafe = true ∧
    State.reset.upc.psSafe = true ∧ State.reset.cmd.sessions = [] ∧ State.reset.evr.started = false ∧ td0 State.reset = 0

/-- Operand storage: a read gives what was written, other addresses are unchanged, the canonical form is kept (R349, R350). -/
def Obligations.SparseStorageReadsWhatWasWritten : Prop :=
  ∀ m : SMap, smWf m = true →
    (∀ a v, smWf (smSet m a v) = true ∧ smGet (smSet m a v) a = v ∧ ∀ b, b ≠ a → smGet (smSet m a v) b = smGet m b) ∧
    ∀ m' : SMap, smWf m' = true → (∀ a, smGet m a = smGet m' a) → m = m'

/-- A submitted event is held before the recorder starts, dropped and counted at a full queue, else queued in order (R27, R95, R515). -/
def Obligations.SubmittedEventIsHeldDroppedOrQueued : Prop :=
  ∀ (b : Block) (e : Event) (s : State), Only [.evr] s (emit b e s) ∧
    (s.evr.started = false → (emit b e s).evr = { s.evr with held := s.evr.held ++ [{ e with held := true }] }) ∧
    (s.evr.started = true → (s.evr.subq.filter (·.1 == b)).length < 16 →
      (emit b e s).evr = { s.evr with subq := s.evr.subq ++ [(b, { e with sub := td0 s })] }) ∧
    (s.evr.started = true → 16 ≤ (s.evr.subq.filter (·.1 == b)).length →
      (emit b e s).evr.subq = s.evr.subq ∧ (emit b e s).evr.lostCnt = satInc 32 s.evr.lostCnt ∧
      (emit b e s).evr.owed = true ∧ (emit b e s).evr.front = s.evr.front ∧ (emit b e s).evr.held = s.evr.held)

/-- A response carries the request's session, tag and opcode and leaves through its transport (R585, R588, R604). -/
def Obligations.AnswerCarriesTheRequestsNumbers : Prop :=
  ∀ (r : Req) (op : Nat) (st : Status) (s : State),
    (r.session = 0 ∨ s.cmd.sessions.any (fun x => x.num == r.session && x.transport == r.transport) = true) →
    Only [.cmd, .pads] s (answer r op st s) ∧
    (∃ p : Packet, (answer r op st s).cmd.out = s.cmd.out ++ [p] ∧ p.transport = r.transport ∧ p.session = r.session ∧
      p.tag = r.tag ∧ p.op = op ∧ p.status = st.toNat ∧ p.more = false ∧ p.unsol = false ∧ p.payload = []) ∧
    (answer r op st s).cmd.busyCnt = (if st = .busy then satInc 32 s.cmd.busyCnt else s.cmd.busyCnt) ∧
    (answer r op st s).cmd.sessions.map (·.num) = s.cmd.sessions.map (·.num)

/-- The start-up events complete: supply, firmware, self-tests, image, configuration, logic start, background check (R44, R54, R69, R72, R73, R74, R76, R78, R79, R82, R86, R89). -/
def Obligations.StartUpRowsComplete : Prop :=
  (∀ s : State, s.pw.phase = .off → ∃ t, exec .vmainGood s = .next t ∧ td0 t = 0 ∧
    t.pw.phase = (if s.pw.resetN = true then .romBoot else .inReset) ∧ (s.pw.resetN = true → t.boot.cause = 0) ∧
    t.code = s.code ∧ t.evr.log = s.evr.log ∧ t.img.user = s.img.user) ∧
  (∀ s : State, s.pw.phase = .romBoot →
    ∃ t, exec .firmwareStart s = .next t ∧
      (s.pw.pfailN = true → s.pw.vmainLow = false → Only [.pw, .boot, .evr] s t) ∧
      t.boot.fwaResult = (readSlot s.boot.fwA.bytes s).result ∧
      t.pw.phase = (if (readSlot s.boot.fwA.bytes s).result = 1 ∨ (readSlot s.boot.fwB.bytes s).result = 1 then .firmware
        else .romRecovery) ∧
      t.boot.slot = (if (readSlot s.boot.fwA.bytes s).result = 1 then 1
        else if (readSlot s.boot.fwB.bytes s).result = 1 then 2 else s.boot.slot)) ∧
  (∀ (failed slices : List Nat) (retain forces : Bool) (copies : Nat) (cals : List (Int × Int)) (s : State),
    s.pw.phase = .firmware →
    ∃ t, exec (.selftestComplete failed slices retain forces copies cals) s = .next t ∧ t.evr.started = true ∧
      (∀ k, k ∈ t.boot.failedTests ↔
        k ∈ failed ∨ (k = 7 ∧ slices ≠ []) ∨ (k = 5 ∧ (retain = true ∨ forces = true ∨ copies ≠ 0))) ∧
      t.pw.phase = (if [1, 2, 3, 4, 6].any (fun k => failed.contains k) then .halted else .imageSelect)) ∧
  (∀ s : State, s.pw.phase = .imageSelect → s.img.user = [] →
    ∃ t, exec .imageSelect s = .next t ∧ t.pw.phase = .configure ∧ t.img.source = 2 ∧ t.img.userStatus = 1 ∧
      t.img.cur = some factoryImage) ∧
  (∀ s : State, s.pw.phase = .imageSelect → s.img.user ≠ [] →
    ∃ t, exec .imageSelect s = .next t ∧ t.pw.phase = .configure ∧
      (∀ u, checkImage s s.img.user false = .ok u → t.img.source = 1 ∧ t.img.userStatus = 0 ∧ t.img.cur = some u) ∧
      (∀ st x, checkImage s s.img.user false = .error (st, x) →
        t.img.source = 2 ∧ t.img.userStatus = st ∧ t.img.cur = some factoryImage)) ∧
  (∀ s : State, s.pw.phase = .configure → s.img.act = none →
    ∃ t, exec .configurationComplete s = .next t ∧ t.pw.phase = .running ∧ t.gr.running = true ∧
      t.acq.wave = lastSlot s % 2 ^ 32 ∧ t.boot.protSince = td0 s) ∧
  (∀ s : State, running s = true → s.le.began = false → s.le.sec = none →
    ∃ t, exec .logicStart s = .next t ∧ Only [.le, .img, .evr] s t ∧ t.le = { s.le with began := true } ∧ t.img.leStart = 0) ∧
  (∀ s : State, running s = true → s.boot.slot = 1 → s.boot.fwbResult = 0 →
    ∃ t, exec .fwBChecked s = .next t ∧ Only [.boot, .evr] s t ∧
      t.boot = { s.boot with fwB := readSlot s.boot.fwB.bytes s, fwbResult := (readSlot s.boot.fwB.bytes s).result } ∧
      t.evr = (submit .boot 0x0108 (readSlot s.boot.fwB.bytes s).result s).evr)

/-- The supply, hold-up store and warning events complete with the effect the spec gives them (R44, R57, R59, R60, R62). -/
def Obligations.PowerRowsComplete : Prop :=
  (∀ s : State, s.pw.phase ≠ .off → s.pw.storeCharged = false →
    exec .storeCharged s = .next { s with pw := { s.pw with storeCharged := true, measuring := true } }) ∧
  (∀ (cap esr vhold : Nat) (s : State), s.pw.measuring = true → injOn s 0x21 0 = false →
    ∃ t, exec (.holdupMeasureDone cap esr vhold) s = .next t ∧ Only [.pw, .hlt, .evr] s t ∧
      t.pw = { s.pw with
        measuring := false, storeCapUF := cap + vhold, storeEsrMohm := esr, holdupUs := holdupTime (cap + vhold) esr }) ∧
  (∀ s : State, s.pw.phase ≠ .off → s.pw.storeCharged = false → due s 0 (secT 5) = true →
    ∃ t, exec .storeChargeTimeout s = .next t ∧ Only [.hlt, .evr] s t ∧ detInForce t 0x21 = true ∧
      t.evr = (fireDetOnce 0x21 2 s).evr) ∧
  (∀ (mv : Nat) (s : State), s.pw.phase ≠ .off → s.pw.phase ≠ .holdUp → s.pw.storeCharged = true → s.pw.vmainGood = true →
    ∃ t, exec (.storeVoltageLow mv) s = .next t ∧ Only [.hlt, .evr] s t ∧ detInForce t 0x21 = true ∧ t.hlt.store = mv) ∧
  (∀ (mv : Nat) (s : State), s.pw.phase = .running → s.pw.vmainLow = false → s.pw.warning = false → s.fl.running = false →
    ∃ t, exec (.vmainLow mv) s = .next t ∧ t.pw = { s.pw with vmainLow := true, warning := true } ∧ t.hlt.vmain = mv ∧
      detInForce t 0x22 = true ∧ t.fl.running = true ∧ t.fl.cause = 2 ∧ t.fl.step = 1 ∧ t.le.halted = true ∧
      t.pads.healthy = s.pads.healthy ∧ t.pads.bindOut = s.pads.bindOut ∧ t.fio = s.fio ∧ t.gr = s.gr) ∧
  (∀ s : State, s.pw.phase = .running → s.pw.warning = false → s.fl.running = false →
    ∃ t, exec .pfailNLow s = .next t ∧ t.pw = { s.pw with pfailN := false, warning := true } ∧ t.fl.running = true ∧
      t.fl.cause = 1 ∧ t.fl.step = 1 ∧ t.le.halted = true ∧ t.fio = s.fio ∧ t.gr = s.gr) ∧
  (∀ s : State, s.pw.phase = .running → s.pw.warning = true → s.pw.vmainLow = false → s.pw.resetPend = false →
    ∃ t, exec (.pfailRecovered 1) s = .next t ∧ Only [.pw, .evr, .fl, .le, .dr] s t ∧
      t.pw = { s.pw with pfailN := true, warning := false } ∧ t.fl.recovered = true ∧
      (s.fl.running = false → t.le.halted = false)) ∧
  (∀ s : State, s.pw.warning = false ∨ s.pw.vmainLow = true →
    exec (.pfailRecovered 1) s = .next { s with pw := { s.pw with pfailN := true } }) ∧
  (∀ s : State, exec (.pfailRecovered 2) s = exec .vmainLowCleared s) ∧
  (∀ s : State, s.pw.phase = .running → injOn s 0x22 0 = false →
    ∃ t, exec .vmainLowCleared s = .next t ∧ Only [.pw, .hlt, .evr, .fl, .le, .dr] s t ∧
      t.pw = { s.pw with vmainLow := false, warning := s.pw.warning && !s.pw.pfailN } ∧
      t.hlt.active = s.hlt.active.filter (·.1 != 0x22) ∧
      (s.pw.warning = true → s.pw.pfailN = true → s.pw.resetPend = false → t.fl.recovered = true))

/-- The hold-up stage, the flush and the reset events complete with the effect the spec gives them (R54, R55, R56, R58, R94, R96). -/
def Obligations.FlushAndResetRowsComplete : Prop :=
  (∀ s : State, s.pw.phase = .running →
    ∃ t, exec .holdUpStage s = .next t ∧ t.pads.healthy = false ∧ t.pads.bindOut = false ∧ t.pads.hbOut = false ∧
      t.pw.convertersOn = false ∧ t.gr.running = false ∧ t.pw.vmainLow = true ∧ (t.pw.phase = .holdUp ∨ t.pw.phase = .off)) ∧
  (∀ s : State, s.pw.phase = .inReset →
    exec .holdUpStage s = .next { s with pw := { s.pw with phase := .off, vmainLow := true, vmainGood := false } }) ∧
  (∀ s : State, s.fl.running = true → s.fl.recovered = false → s.fl.structural = false → s.fl.step ≠ 5 →
    ∃ t, exec .flushStepComplete s = .next t ∧ t.pw = s.pw ∧ t.fio = s.fio ∧
      t.fl = { s.fl with okMask := s.fl.okMask ||| 2 ^ (s.fl.step - 1), step := s.fl.step + 1 }) ∧
  (∀ s : State, s.fl.running = true → s.fl.recovered = false → s.fl.step = 5 → s.fl.again = 0 → s.pw.phase = .running →
    s.pw.resetPend = false →
    ∃ t, exec .flushStepComplete s = .next t ∧ t.fl.running = false ∧ t.fl.done = true ∧ t.fl.okMask = s.fl.okMask ||| 16) ∧
  (∀ (torn written : Nat) (s : State), s.pw.phase = .holdUp →
    ∃ t, exec (.storeCutoff torn written) s = .next t ∧ Only [.pw, .fl, .evr, .dr] s t ∧ t.pw.phase = .off ∧ t.fl.running = false) ∧
  (∀ s : State, s.pw.phase = .running → s.fl.running = false →
    (∃ t, exec .resetNLow s = .next t ∧ t.pw.resetN = false ∧ t.pw.resetPend = true ∧ t.pw.jtag = false ∧ t.fl.running = true ∧
      t.fl.cause = 3 ∧ t.le.halted = true) ∧
    ∃ t, exec .jtagReset s = .next t ∧ t.pw.resetPend = true ∧ t.pw.jtag = true ∧ t.fl.running = true ∧ t.fl.cause = 3) ∧
  (∀ s : State, s.pw.resetPend = true → s.pw.resetN = false → s.fl.running = true → s.fl.cause = 3 →
    due s s.pw.resetAt (msT 50) = true →
    ∃ t, exec .resetFlushTimeout s = .next t ∧ t.pw.phase = .inReset ∧ t.pw.resetPend = false ∧ t.fl.running = false ∧
      t.pads.healthy = false ∧ t.pads.bindOut = false ∧ t.pw.convertersOn = false ∧ t.gr.running = false) ∧
  (∀ s : State, s.pw.phase = .inReset →
    ∃ t, exec .resetNRelease s = .next t ∧ t.pw.phase = .romBoot ∧ t.pw.resetN = true ∧ t.boot.cause = (if s.pw.jtag then 3 else 1) ∧
      td0 t = td0 s) ∧
  (∀ s : State, s.pw.phase ≠ .inReset → exec .resetNRelease s = .next { s with pw := { s.pw with resetN := true } })

/-- SESSION_OPEN, SESSION_CLOSE, REG_READ, REG_WRITE and REG_MODIFY complete (R588, R589, R593, R594, R617). -/
def Obligations.SessionAndRegisterCommandsComplete : Prop :=
  (∀ (r : Req) (roles options : Nat) (auth : List Byte) (s : State), Served r 0x0001 s → r.transport = .uart →
    s.pw.phase ≠ .halted → lockedOut .uart s = false → sessionRoom s .uart = true → (roles &&& policyRoles s .uart) ≠ 0 →
    ∃ t, exec (.sessionOpen r 2 roles options auth) s = .next t ∧ Only [.cmd, .pads, .evr] s t ∧
      t.cmd.lastSession = newNumber s ∧ t.cmd.sessions.length = s.cmd.sessions.length + 1 ∧
      t.cmd.sessions.any (fun x => x.num == newNumber s && x.roles == BitVec.ofNat 5 (roles &&& policyRoles s .uart) && x.phys) = true) ∧
  (∀ (r : Req) (s : State), Served r 0x0002 s → r.session ≠ 0 →
    ∃ t, exec (.sessionClose r) s = .next t ∧ t.cmd.sessions.any (fun x => x.num == r.session) = false) ∧
  (∀ (r : Req) (addr count : Nat) (s : State), Served r 0x0010 s → r.session ≠ 0 → s.pw.phase ≠ .halted → s.pw.phase ≠ .romRecovery →
    1 ≤ count → count ≤ 1024 → addr % 4 = 0 → ((List.range count).map (fun i => addr + 4 * i)).any (regAbsent s) = false →
    exec (.regRead r addr count) s = .next (respond r 0x0010 .ok false
      (((List.range count).map (fun i => addr + 4 * i)).flatMap (fun a => leBytes 4 (regVal s a))) s)) ∧
  (∀ (r : Req) (addr : Nat) (values : List Word) (s : State), Served r 0x0011 s → touchesSec addr values.length = false →
    values ≠ [] → values.length ≤ 1022 → addr % 4 = 0 →
    exec (.regWrite r addr values) s = .next (respond r 0x0011 (writeWords addr values 0 s).2.2 false
      (leBytes 2 (writeWords addr values 0 s).2.1) (writeWords addr values 0 s).1)) ∧
  (∀ (r : Req) (addr : Nat) (mask value : Word) (s t : State), Served r 0x0012 s → touchesSec addr 1 = false → addr % 4 = 0 →
    pulseReg addr = false →
    writeWord addr ((BitVec.ofNat 32 (regVal s addr) &&& ~~~mask) ||| (value &&& mask)).toNat s = (t, .ok) →
    exec (.regModify r addr mask value) s =
      .next (respond r 0x0012 .ok false (leBytes 4 (regVal s addr) ++ leBytes 4 (regVal t addr)) t))

/-- The image commands complete: staging, checking, activating, committing, status (R80, R93, R112, R113, R115, R116, R120, R593). -/
def Obligations.ImageCommandsComplete : Prop :=
  (∀ (r : Req) (len : Nat) (s : State), Served r 0x0020 s → activating s = false → othersStage r s = false → 1 ≤ len → len ≤ 16777216 →
    exec (.imgBegin r len) s = .next (answer r 0x0020 .ok { s with img := { s.img with
      staging := some (r.session, len), staged := [], pending := [], next := none, pendStatus := 1, offend := (0, 0) } })) ∧
  (∀ (r : Req) (offset len : Nat) (bytes : List Byte) (s : State), Served r 0x0021 s → s.img.staging = some (r.session, len) →
    offset + bytes.length ≤ len →
    exec (.imgData r offset bytes) s =
      .next (answer r 0x0021 .ok { s with img := { s.img with staged := s.img.staged ++ [(offset, bytes)] } })) ∧
  (∀ (r : Req) (len : Nat) (s : State), Served r 0x0022 s → s.img.staging = some (r.session, len) →
    ∃ t, exec (.imgCommit r) s = .next t ∧ Only [.img, .evr, .cmd, .pads] s t ∧ t.img.staging = none ∧
      t.img.pending = assemble s.img.staged len ∧ t.img.cur = s.img.cur ∧ t.img.user = s.img.user ∧
      t.evr = (submit .image 0x0120 t.img.pendStatus s).evr ∧
      (covered s.img.staged len = false → t.img.pendStatus = 6) ∧
      (∀ u, covered s.img.staged len = true → checkImage s (assemble s.img.staged len) true = .ok u →
        t.img.pendStatus = 0 ∧ t.img.next = some u)) ∧
  (∀ (r : Req) (next cur : Image) (s : State), Served r 0x0023 s → running s = true → s.img.next = some next → s.img.cur = some cur →
    s.img.pendStatus = 0 → imgHas next 0x18 = false → padTo 8 next.digest = watermark s → s.img.committing = false →
    ∃ t, exec (.imgActivate r 4) s = .next t ∧ Only [.img, .evr, .cmd, .pads] s t ∧ t.img.committing = true ∧ t.img.cur = s.img.cur) ∧
  (∀ (r : Req) (s : State), Served r 0x0024 s →
    exec (.imgStatus r) s = .next (respond r 0x0024 .ok false
      (leBytes 1 s.img.userStatus ++ leBytes 1 s.img.pendStatus ++ leBytes 2 s.img.offend.1 ++ leBytes 4 s.img.offend.2 ++
        watermark s ++ stagedMark s) s)) ∧
  (∀ s : State, s.img.committing = true →
    (∃ t, exec (.schUserCommitDone true) s = .next t ∧ Only [.img, .evr] s t ∧
      t.img = { s.img with committing := false, user := s.img.pending, userStatus := 0 }) ∧
    ∃ t, exec (.schUserCommitDone false) s = .next t ∧ Only [.img, .evr] s t ∧ t.img = { s.img with committing := false } ∧
      t.evr = (submit .image 0x0124 0 s).evr)

/-- Activation boundary and time-outs, structural restart, group request and on-line change complete (R116, R117, R118, R119, R122, R380, R381, R384). -/
def Obligations.ActivationAndChangeRowsComplete : Prop :=
  (∀ (a : Activation) (u cur : Image) (s : State), s.img.act = some a → s.img.next = some u → s.img.cur = some cur → a.cls = 1 →
    a.waitPeer = false → a.boundary = none → a.acceptedNs + 1000000 ≤ nsAll (td1 s) →
    ∃ t, exec .activationBoundary s = .next t ∧ t.img.cur = some u ∧ t.img.source = 3 ∧ t.img.act = none ∧ t.pw = s.pw) ∧
  (∀ (a : Activation) (s : State), s.img.act = some a → a.waitPeer = true → due s a.acceptedTd0 (secT 1) = true →
    ∃ t, exec .activationConfirmTimeout s = .next t ∧ t.img.act = none ∧ t.img.cur = s.img.cur ∧ t.img.next = s.img.next) ∧
  (∀ (a : Activation) (u : Image) (s : State), s.img.act = some a → s.img.next = some u → a.cls = 3 → s.fl.running = false →
    s.pw.phase = .configure →
    ∃ t, exec .structuralConfigDone s = .next t ∧ t.img.cur = some u ∧ t.img.source = 3 ∧ t.img.act = none ∧
      t.pw.phase = .running ∧ t.gr.running = true) ∧
  (∀ (r : Req) (group : Nat) (s : State), Served r 0x0025 s → running s = true → groupSource s 0 = true → pairRefuses s = false →
    groupExists s group = true → s.img.cmdGroups = [] → s.pr.sched = [] → s.pr.st ≠ .twin →
    exec (.groupSelect r group) s = .next { s with img := { s.img with cmdGroups := [(group, some r)] } }) ∧
  (∀ (r : Req) (options : Nat) (next cur : Image) (s : State), Served r 0x0033 s → options < 2 → s.img.next = some next →
    s.img.cur = some cur → s.img.pendStatus = 0 → running s = true → changeClass cur next = 2 → changeBlocked s = false →
    s.le.change = none → s.le.changeDue = none → s.pr.st ≠ .twin →
    ∃ t, exec (.leChange r (padTo 8 next.digest) (forceDigest s) options) s = .next t ∧ t.le.program = s.le.program ∧
      t.img = s.img ∧ (∃ c, t.le.change = some c ∧ c.commit = options.testBit 0 ∧ c.at0 = td0 s ∧ c.waitPeer = false)) ∧
  (∀ (c : Change) (u : Image) (s : State), anyMid s = false → s.le.halted = false → running s = true → followsAgreed s = false →
    s.le.change = some c → c.waitPeer = false → s.img.next = some u →
    ∃ t, exec .leChangeover s = .next t ∧ t.le.change = none ∧ t.le.changeSt = 2 ∧ t.le.changeDue = some c ∧
      t.le.changeWave = (s.acq.wave + 1) % 2 ^ 32 ∧ t.img.cur = s.img.cur) ∧
  (∀ (c : Change) (s : State), s.le.change = some c → c.waitPeer = false → due s c.at0 (2 * longestPeriod s) = true →
    ∃ t, exec .leChangeRefused s = .next t ∧ t.le.change = none ∧ t.le.program = s.le.program ∧ t.img = s.img)

/-- Firmware staging, key and attestation commands and the security events complete (R606, R609, R610, R611, R613, R614, R616, R619). -/
def Obligations.FirmwareAndSecurityCommandsComplete : Prop :=
  (∀ (r : Req) (len slot : Nat) (s : State), Served r 0x0028 s → fwOther r s = false → slot ≤ 1 → 1 ≤ len → slotRuns s slot = false →
    ∃ t, exec (.fwBegin r len slot) s = .next t ∧ Only [.boot, .cmd, .pads] s t ∧ t.boot.fwStage = some (len, slot, r.session) ∧
      t.boot.fwBytes = [] ∧ (if slot = 0 then t.boot.fwA = default ∧ t.boot.fwB = s.boot.fwB
        else t.boot.fwB = default ∧ t.boot.fwA = s.boot.fwA)) ∧
  (∀ (r : Req) (offset len slot h : Nat) (bytes : List Byte) (s : State), Served r 0x0029 s → fwOther r s = false →
    s.boot.fwStage = some (len, slot, h) → offset + bytes.length ≤ len →
    exec (.fwData r offset bytes) s =
      .next (answer r 0x0029 .ok { s with boot := { s.boot with fwBytes := s.boot.fwBytes ++ [(offset, bytes)] } })) ∧
  (∀ (r : Req) (len slot h : Nat) (s : State), Served r 0x002A s → fwOther r s = false → s.boot.fwStage = some (len, slot, h) →
    ∃ t, exec (.fwCommit r) s = .next t ∧ Only [.boot, .evr, .cmd, .pads] s t ∧ t.boot.fwStage = none ∧ t.boot.fwBytes = [] ∧
      (covered s.boot.fwBytes len = true → (readSlot (assemble s.boot.fwBytes len) s).result = 1 →
        t.boot.nextSwap = decide (slot = 1))) ∧
  (∀ s : State, s.pw.phase = .running → s.boot.slot = 1 → s.boot.fwA.result = 1 → s.boot.fwB.result = 1 →
    s.sec.rollback < min s.boot.fwA.svn s.boot.fwB.svn → due s s.boot.protSince (secT 3600) = true →
    ∃ t, exec .rollbackRaise s = .next t ∧ Only [.sec, .evr] s t ∧
      t.sec = { s.sec with rollback := min 64 (min s.boot.fwA.svn s.boot.fwB.svn) } ∧
      t.evr = (submit .sec 0xC005 (min s.boot.fwA.svn s.boot.fwB.svn) s).evr) ∧
  (∀ (r : Req) (nonce : List Byte) (s : State), Served r 0x00A0 s →
    ∃ t, exec (.attest r nonce) s = .next t ∧ Only [.sec, .cmd, .pads] s t ∧ t.sec.attCnt = s.sec.attCnt + 1 ∧
      t.sec.keys = s.sec.keys ∧ t.sec.attCnt ≤ t.sec.attMark) ∧
  (∀ (r : Req) (body : List Byte) (s : State), Served r 0x00A1 s → s.evr.freeze = none → leAt body 0 1 = 1 → leAt body 1 1 < 4 →
    leAt body 2 1 = 0 → leAt body 36 8 = (s.sec.keySeq + 1) % 2 ^ 64 → keyAuth r body s = true →
    ∃ t, exec (.keyInstall r body) s = .next t ∧ t.sec.keySeq = (s.sec.keySeq + 1) % 2 ^ 64 ∧
      (keyAt t 1 (leAt body 1 1)).map (·.key) = some (bytesAt body 4 32)) ∧
  (∀ (r : Req) (s : State), Served r 0x00A2 s → ∃ t p, exec (.keyList r) s = .next t ∧ Only [.cmd, .pads] s t ∧
    t.cmd.out = s.cmd.out ++ [p] ∧ p.op = 0x00A2 ∧ p.status = 0 ∧ p.payload.head? = some (BitVec.ofNat 8
      (1 + ([1, 2, 3].flatMap (fun k => (List.range (slotsOf k)).filterMap (fun i => keyAt s k i))).length))) ∧
  (∀ (x : Transport) (s : State), ∃ t, exec (.authLockoutExpiry x) s = .next t ∧ Only [.sec] s t ∧
    t.sec = { s.sec with locked := s.sec.locked.filter (fun e => !(e.1 == x && decide (e.2 ≤ td0 s))) } ∧ lockedOut x t = lockedOut x s)

/-- Logic mode commands, stepping, breakpoints and the peek registers complete (R368, R370, R371, R372, R385, R388, R593). -/
def Obligations.LogicModeRowsComplete : Prop :=
  (∀ (r : Req) (s : State), waits r true s = false → precheck r 0x0030 true (roleOf 0x0030) s = none → pairRefuses s = false → s.pr.st = .solo → s.le.mode = .run →
    ∃ t, exec (.leMode r 2) s = .next t ∧ t.le.mode = .stop ∧ t.le.prev = LeMode.toNat .run ∧ t.le.cause = 0 ∧ t.le.trigQ = [] ∧
      (∀ x ∈ t.le.tasks, x.st = .idle) ∧ t.le.q = s.le.q ∧ t.le.m = s.le.m ∧ t.le.w = s.le.w ∧ t.fio = s.fio) ∧
  (∀ (r : Req) (s : State), waits r false s = false → precheck r 0x0030 false (roleOf 0x0030) s = none → pairRefuses s = false → s.pr.st = .solo → s.le.mode = .run →
    ∃ t, exec (.leMode r 5) s = .next t ∧ t.le.mode = .run ∧ t.le.coldPend = true ∧ t.le.tasks = s.le.tasks ∧ t.le.m = s.le.m) ∧
  (∀ s : State, s.le.coldPend = true → s.le.mode = .run → anyMid s = false → s.le.halted = false → followsAgreed s = false →
    s.le.sec.isSome = true →
    ∃ t, exec .leColdExecute s = .next t ∧ t.le.coldPend = false ∧ t.le.runClk = 0 ∧ t.le.mode = .run ∧ t.le.program = s.le.program) ∧
  (∀ (r : Req) (s : State), Served r 0x0031 s → s.pr.st ≠ .twin → s.pr.st ≠ .joining → s.le.mode = .run →
    ∃ t, exec (.leStep r 1) s = .next t ∧ t.le.mode = .hold ∧ t.le.stepping = t.le.heldTask ∧ t.le.holdAt = td0 s ∧
      t.le.tasks = s.le.tasks) ∧
  (∀ (r : Req) (entries : List (Nat × Nat)) (s : State), Served r 0x0032 s → s.pr.st ≠ .twin → s.pr.st ≠ .joining →
    entries.length ≤ 8 → (∀ e ∈ entries, e.1 < 2 ^ 18 ∧ (e.2 < 24 ∨ e.2 = 0xFF)) →
    exec (.leBreakSet r entries) s = .next (answer r 0x0032 .ok { s with le := { s.le with
      breaks := entries.map (fun e => (e.1, if e.2 = 0xFF then none else some e.2)) } })) ∧
  (∀ (x : Task) (s : State), s.le.mode = .run → s.le.halted = false → runningTask s = some x → atBreak s x = true →
    ∃ t, exec .breakpoint s = .next t ∧ t.le.mode = .hold ∧ t.le.cause = 3 ∧ t.le.brk = (true, x.num, x.pc) ∧
      t.le.tasks = s.le.tasks ∧ t.le.holdAt = td0 s) ∧
  (∀ s : State, s.le.mode = .hold → due s s.le.holdAt (secT 600) = true →
    ∃ t, exec .holdTimeout s = .next t ∧ t.le.mode = .stop ∧ t.le.cause = 4 ∧ t.le.prev = LeMode.toNat .hold ∧
      (∀ x ∈ t.le.tasks, x.st = .idle)) ∧
  (∀ (d k : Nat) (s : State), s.le.mode = .run → s.le.halted = false → earliest (overdue s) = some (d, k) → s.pr.st ≠ .twin →
    ∃ t, exec .leWatchdog s = .next t ∧ t.le.mode = .safe ∧ t.le.cause = 2 ∧ t.le.wdCount = satInc 16 s.le.wdCount ∧
      t.le.wdTask = k ∧ (∀ x ∈ t.le.tasks, x.st = .idle) ∧ detInForce t 0x0C = true) ∧
  (∀ s : State, s.le.dirtySince.isSome = true → s.le.mode ≠ .notStarted → s.le.halted = false →
    exec .retainWrite s = .next { s with le := { s.le with ret := mirror s, dirtySince := none } }) ∧
  (∀ (r : Req) (v : Word) (s : State), Served r 0x0011 s →
    exec (.lePeekSelWrite r v) s = .next (answerWrite r .ok { s with le := { s.le with
      peek := (v.getLsbD 24, getFld v.toNat 20 4, getFld v.toNat 0 20) } })) ∧
  (∀ (r : Req) (s : State), Served r 0x0011 s →
    exec (.brkHitClear r) s = .next (answerWrite r .ok { s with le := { s.le with brk := (false, s.le.brk.2) } }))

/-- Task release, cycle start, triggers, END and the force commands complete (R189, R361, R362, R363, R364, R365, R366, R374, R375). -/
def Obligations.LogicCycleRowsComplete : Prop :=
  (∀ (task : Nat) (x : Task) (c : TaskCfg) (s : State), taskOf s task = some x → taskCfg s task = some c → task < 8 →
    s.le.halted = false → followsAgreed s = false → slotReleases s c (gridSlot s).1 = true → x.relN ≠ some (gridSlot s).1 →
    s.le.mode = .run → x.st = .idle → x.num ≠ rioTask s → (overdue s).any (fun x => x.2 == task) = false →
    ∃ t y, exec (.cyclicTaskRelease task) s = .next t ∧ taskOf t task = some y ∧ y.st = .released ∧ y.relN = some (gridSlot s).1 ∧
      y.relT1 = (gridSlot s).2 ∧ y.trig = 0 ∧ y.outQ = x.outQ ∧ t.le.m = s.le.m ∧ t.le.w = s.le.w) ∧
  (∀ s : State, ∃ t, exec .logicCycleReady s = .next t ∧
    Only [.le, .pr] s t ∧ (∀ x ∈ t.le.tasks, x.st = .released → due s x.relT0 (usT 16) = false) ∧ t.le.q = s.le.q) ∧
  (∀ (g : Trig) (rest : List Trig) (s : State), followsAgreed s = false → s.le.trigIn = g :: rest →
    ∃ t, exec .eventTaskTrigger s = .next t ∧ t.le.trigIn = rest ∧ t.le.m = s.le.m ∧ t.le.w = s.le.w ∧ t.le.program = s.le.program) ∧
  (∀ (x : Task) (s : State), atInstr s 0x75 0 0 = some x → s.le.mode = .hold →
    ∃ t y, exec .leEnd s = .next t ∧ taskOf t x.num = some y ∧ y.st = .idle ∧ y.first = false ∧ y.cycles = satInc 32 x.cycles ∧
      t.le.stepping = none ∧ t.le.q = passQ { x with icount := x.icount + 1 } s.le.q ∧ t.le.m = s.le.m) ∧
  (∀ (r : Req) (point value : Nat) (s : State), Served r 0x0034 s → s.evr.freeze = none → pairRefuses s = false → changeAwaits s = false →
    forceStatus s point = .ok → forceRoom s point = true → s.pr.st ≠ .twin →
    ∃ t, exec (.forceSet r point value) s = .next t ∧
      t.le.forces = putForce ⟨point, value % 2 ^ 32, secOf (td1 s) % 2 ^ 32, r.session⟩ s.le.forces ∧ t.le.q = s.le.q ∧
      t.acq = s.acq ∧ t.fio = s.fio) ∧
  (∀ (r : Req) (point : Nat) (s : State), Served r 0x0035 s → pairRefuses s = false → changeAwaits s = false → s.pr.st ≠ .twin →
    ∃ t, exec (.forceClear r point) s = .next t ∧ Only [.le, .evr, .cmd, .pads] s t ∧
      t.le = { s.le with forces := if point = 0xFFFFFFFF then [] else s.le.forces.filter (fun f => f.point != point) }) ∧
  (∀ (r : Req) (first : Nat) (s : State), Served r 0x0036 s →
    exec (.forceList r first) s = .next (respond r 0x0036 .ok false (leBytes 2 s.le.forces.length ++
      leBytes 2 ((s.le.forces.drop first).take 255).length ++ ((s.le.forces.drop first).take 255).flatMap forceEntry) s))

/-- LD, LDN, AND, ANDN, OR, ORN, XOR, XORN, NOT, SETR, CLRR, NOP set RLO and nothing else (R347, R349, R350, R353). -/
def Obligations.LogicBitInstructionsRun : Prop :=
  ∀ (sp a : Nat) (t : Task) (s : State),
    (atInstr s 0x01 sp a = some t → exec (.leLd sp a) s = .next (ran { past t with rlo := bitGet s t sp a } s)) ∧
    (atInstr s 0x02 sp a = some t → exec (.leLdn sp a) s = .next (ran { past t with rlo := !bitGet s t sp a } s)) ∧
    (atInstr s 0x03 sp a = some t → exec (.leAnd sp a) s = .next (ran { past t with rlo := t.rlo && bitGet s t sp a } s)) ∧
    (atInstr s 0x04 sp a = some t → exec (.leAndn sp a) s = .next (ran { past t with rlo := t.rlo && !bitGet s t sp a } s)) ∧
    (atInstr s 0x05 sp a = some t → exec (.leOr sp a) s = .next (ran { past t with rlo := t.rlo || bitGet s t sp a } s)) ∧
    (atInstr s 0x06 sp a = some t → exec (.leOrn sp a) s = .next (ran { past t with rlo := t.rlo || !bitGet s t sp a } s)) ∧
    (atInstr s 0x07 sp a = some t → exec (.leXor sp a) s = .next (ran { past t with rlo := t.rlo ^^ bitGet s t sp a } s)) ∧
    (atInstr s 0x08 sp a = some t → exec (.leXorn sp a) s = .next (ran { past t with rlo := t.rlo ^^ !bitGet s t sp a } s)) ∧
    (atInstr s 0x09 0 0 = some t → exec .leNot s = .next (ran { past t with rlo := !t.rlo } s)) ∧
    (atInstr s 0x0A 0 0 = some t → exec .leSetr s = .next (ran { past t with rlo := true } s)) ∧
    (atInstr s 0x0B 0 0 = some t → exec .leClrr s = .next (ran { past t with rlo := false } s)) ∧
    (atInstr s 0x76 0 0 = some t → exec .leNop s = .next (ran (past t) s))

/-- The brackets push RLO with their operation and combine it at the closing bracket (R353, R355). -/
def Obligations.BracketInstructionsNest : Prop :=
  ∀ (t : Task) (s : State),
    (atInstr s 0x10 0 0 = some t → exec .leAndOpen s = .next (ran { past t with nest := (t.rlo, 0) :: t.nest } s)) ∧
    (atInstr s 0x11 0 0 = some t → exec .leAndnOpen s = .next (ran { past t with nest := (t.rlo, 1) :: t.nest } s)) ∧
    (atInstr s 0x12 0 0 = some t → exec .leOrOpen s = .next (ran { past t with nest := (t.rlo, 2) :: t.nest } s)) ∧
    (atInstr s 0x13 0 0 = some t → exec .leOrnOpen s = .next (ran { past t with nest := (t.rlo, 3) :: t.nest } s)) ∧
    (atInstr s 0x14 0 0 = some t → exec .leXorOpen s = .next (ran { past t with nest := (t.rlo, 4) :: t.nest } s)) ∧
    (∀ (r : Bool) (op : Nat) (rest : List (Bool × Nat)), atInstr s 0x15 0 0 = some t → t.nest = (r, op) :: rest →
      exec .leBracketClose s = .next (ran { past t with
        nest := rest
        rlo := if op = 0 then r && t.rlo else if op = 1 then r && !t.rlo else if op = 2 then r || t.rlo
          else if op = 3 then r || !t.rlo else r ^^ t.rlo } s)) ∧
    (atInstr s 0x15 0 0 = some t → t.nest = [] → exec .leBracketClose s = .next (ran (past t) s))

/-- FP and FN leave the edge of RLO against the edge memory and store the RLO received (R360). -/
def Obligations.EdgeInstructionsDetectEdges : Prop :=
  ∀ (sp e : Nat) (t : Task) (s : State), (edgeOf s e).primed = false →
    (atInstr s 0x18 sp e = some t → ∃ u, exec (.leFp sp e) s = .next u ∧ Only [.le] s u ∧
      u = ran { past t with rlo := t.rlo && !(edgeOf s e).val } (putEdge { edgeOf s e with val := t.rlo, primed := false } s) ∧
      (edgeOf u e).val = t.rlo ∧ ∀ k, k ≠ e → edgeOf u k = edgeOf s k) ∧
    (atInstr s 0x19 sp e = some t → ∃ u, exec (.leFn sp e) s = .next u ∧ Only [.le] s u ∧
      u = ran { past t with rlo := !t.rlo && (edgeOf s e).val } (putEdge { edgeOf s e with val := t.rlo, primed := false } s) ∧
      (edgeOf u e).val = t.rlo ∧ ∀ k, k ≠ e → edgeOf u k = edgeOf s k)

/-- ST, STN, SET and RST write the bit that they name (R349, R350, R353, R365, R377). -/
def Obligations.BitStoreInstructionsWrite : Prop :=
  ∀ (sp a : Nat) (t : Task) (s : State),
    (atInstr s 0x20 sp a = some t → exec (.leSt sp a) s = .next (ran (bitPut sp a t.rlo (past t) s).1 (bitPut sp a t.rlo (past t) s).2)) ∧
    (atInstr s 0x21 sp a = some t → exec (.leStn sp a) s = .next (ran (bitPut sp a (!t.rlo) (past t) s).1 (bitPut sp a (!t.rlo) (past t) s).2)) ∧
    (atInstr s 0x22 sp a = some t → t.rlo = true →
      exec (.leSet sp a) s = .next (ran (bitPut sp a true (past t) s).1 (bitPut sp a true (past t) s).2)) ∧
    (atInstr s 0x23 sp a = some t → t.rlo = true →
      exec (.leRst sp a) s = .next (ran (bitPut sp a false (past t) s).1 (bitPut sp a false (past t) s).2)) ∧
    (t.rlo = false → (atInstr s 0x22 sp a = some t → exec (.leSet sp a) s = .next (ran (past t) s)) ∧
      (atInstr s 0x23 sp a = some t → exec (.leRst sp a) s = .next (ran (past t) s))) ∧
    (∀ b, a < 65536 → smWf s.le.m = true → smBit (bitPut 2 a b t s).2.le.m a = b ∧
      ∀ k, k ≠ a → smBit (bitPut 2 a b t s).2.le.m k = smBit s.le.m k) ∧
    (∀ b, Only [.le] s (bitPut sp a b t s).2)

/-- Timer and counter instructions act on the timer or counter that they name (R353, R357, R358, R359). -/
def Obligations.TimerAndCounterInstructionsRun : Prop :=
  ∀ (sp a : Nat) (t : Task) (x : Timer) (c : Counter) (s : State),
    (timerOf s a = some x →
      (atInstr s 0x28 sp a = some t → exec (.leTon sp a) s =
        .next (ran { past t with rlo := (timerExec 1 t.rlo t.clk x).out } (putTimer (timerExec 1 t.rlo t.clk x) s))) ∧
      (atInstr s 0x29 sp a = some t → exec (.leTof sp a) s =
        .next (ran { past t with rlo := (timerExec 2 t.rlo t.clk x).out } (putTimer (timerExec 2 t.rlo t.clk x) s))) ∧
      (atInstr s 0x2A sp a = some t → exec (.leTp sp a) s =
        .next (ran { past t with rlo := (timerExec 3 t.rlo t.clk x).out } (putTimer (timerExec 3 t.rlo t.clk x) s))) ∧
      (atInstr s 0x2B sp a = some t → t.rlo = true → exec (.leTrst sp a) s =
        .next (ran (past t) (putTimer { x with elapsed := 0, rem := 0, out := false } s))) ∧
      (atInstr s 0x2C sp a = some t → exec (.leTpv sp a) s = .next (ran (past t) (putTimer { x with preset := t.acc.toNat } s)))) ∧
    (counterOf s a = some c →
      (atInstr s 0x30 sp a = some t → ∃ n : Int, n = (if t.rlo && !c.upIn then min (c.count + 1) 2147483647 else c.count) ∧
        exec (.leCtu sp a) s = .next (ran { past t with rlo := decide (c.preset ≤ n) } (putCounter { c with count := n, upIn := t.rlo } s))) ∧
      (atInstr s 0x31 sp a = some t → ∃ n : Int, n = (if t.rlo && !c.dnIn then max (c.count - 1) (-2147483648) else c.count) ∧
        exec (.leCtd sp a) s = .next (ran { past t with rlo := decide (n ≤ 0) } (putCounter { c with count := n, dnIn := t.rlo } s))) ∧
      (atInstr s 0x32 sp a = some t → t.rlo = true → exec (.leCrst sp a) s = .next (ran (past t) (putCounter { c with count := 0 } s))) ∧
      (atInstr s 0x33 sp a = some t → t.rlo = true → exec (.leCld sp a) s = .next (ran (past t) (putCounter { c with count := c.preset } s))) ∧
      (atInstr s 0x34 sp a = some t → exec (.leCpv sp a) s = .next (ran (past t) (putCounter { c with preset := t.acc.toInt } s))))

/-- LW, SW, SWC, LDH, WAND, WOR, WXOR, WNOT, SHL, SHR and SAR (R349, R353). -/
def Obligations.WordMoveAndLogicInstructionsRun : Prop :=
  ∀ (sp a : Nat) (t : Task) (s : State),
    (atInstr s 0x40 sp a = some t → exec (.leLw sp a) s = .next (ran { past t with acc := BitVec.ofNat 32 (wordGet s t sp a) } s)) ∧
    (atInstr s 0x41 sp a = some t → exec (.leSw sp a) s =
      .next (ran (wordPut sp a t.acc.toNat (past t) s).1 (wordPut sp a t.acc.toNat (past t) s).2)) ∧
    (atInstr s 0x42 sp a = some t → exec (.leSwc sp a) s =
      .next (if t.rlo then ran (wordPut sp a t.acc.toNat (past t) s).1 (wordPut sp a t.acc.toNat (past t) s).2 else ran (past t) s)) ∧
    (smWf s.le.w = true → smGet (wordPut 3 a t.acc.toNat t s).2.le.w a = t.acc.toNat ∧
      ∀ k, k ≠ a → smGet (wordPut 3 a t.acc.toNat t s).2.le.w k = smGet s.le.w k) ∧
    (atInstr s 0x44 sp a = some t → exec (.leLdh sp a) s =
      .next (ran { past t with acc := BitVec.ofNat 12 a ++ t.acc.extractLsb' 0 20 } s)) ∧
    (atInstr s 0x50 sp a = some t → exec (.leWand sp a) s = .next (ran { past t with acc := t.acc &&& BitVec.ofNat 32 (wordGet s t sp a) } s)) ∧
    (atInstr s 0x51 sp a = some t → exec (.leWor sp a) s = .next (ran { past t with acc := t.acc ||| BitVec.ofNat 32 (wordGet s t sp a) } s)) ∧
    (atInstr s 0x52 sp a = some t → exec (.leWxor sp a) s = .next (ran { past t with acc := t.acc ^^^ BitVec.ofNat 32 (wordGet s t sp a) } s)) ∧
    (atInstr s 0x53 0 0 = some t → exec .leWnot s = .next (ran { past t with acc := ~~~t.acc } s)) ∧
    (atInstr s 0x54 sp a = some t → exec (.leShl sp a) s = .next (ran { past t with acc := t.acc <<< (a % 32) } s)) ∧
    (atInstr s 0x55 sp a = some t → exec (.leShr sp a) s = .next (ran { past t with acc := t.acc >>> (a % 32) } s)) ∧
    (atInstr s 0x56 sp a = some t → exec (.leSar sp a) s = .next (ran { past t with acc := t.acc.sshiftRight (a % 32) } s))

/-- ADD, SUB, MUL, DIV, MOD, NEG, ABS compute exactly, saturate and set OV (R353, R354). -/
def Obligations.IntegerArithmeticSaturates : Prop :=
  ∀ (sp a : Nat) (t : Task) (s : State) (A B : Int), A = t.acc.toInt → B = (BitVec.ofNat 32 (wordGet s t sp a)).toInt →
    let clamp (i : Int) : Word := BitVec.ofInt 32 (max (-2147483648) (min i 2147483647))
    let out (i : Int) : Bool := decide (2147483647 < i) || decide (i < -2147483648)
    (atInstr s 0x48 sp a = some t → exec (.leAdd sp a) s = .next (ran { past t with acc := clamp (A + B), ov := t.ov || out (A + B) } s)) ∧
    (atInstr s 0x49 sp a = some t → exec (.leSub sp a) s = .next (ran { past t with acc := clamp (A - B), ov := t.ov || out (A - B) } s)) ∧
    (atInstr s 0x4A sp a = some t → exec (.leMul sp a) s = .next (ran { past t with acc := clamp (A * B), ov := t.ov || out (A * B) } s)) ∧
    (atInstr s 0x4B sp a = some t → B ≠ 0 →
      exec (.leDiv sp a) s = .next (ran { past t with acc := clamp (A.tdiv B), ov := t.ov || out (A.tdiv B) } s)) ∧
    (atInstr s 0x4B sp a = some t → B = 0 → exec (.leDiv sp a) s =
      .next (ran { past t with acc := if 0 ≤ A then 0x7FFFFFFF#32 else 0x80000000#32, ov := true } s)) ∧
    (atInstr s 0x4C sp a = some t → B ≠ 0 →
      exec (.leMod sp a) s = .next (ran { past t with acc := BitVec.ofInt 32 (A.tmod B) } s)) ∧
    (atInstr s 0x4C sp a = some t → B = 0 → exec (.leMod sp a) s = .next (ran { past t with acc := 0#32, ov := true } s)) ∧
    (atInstr s 0x4D 0 0 = some t → exec .leNeg s = .next (ran { past t with acc := clamp (-A), ov := t.ov || out (-A) } s)) ∧
    (atInstr s 0x4E 0 0 = some t → exec .leAbs s = .next (ran { past t with acc := clamp A.natAbs, ov := t.ov || out A.natAbs } s))

/-- Signed and binary32 comparisons set RLO and leave ACC and OV (R353, R354). -/
def Obligations.CompareInstructionsSetRlo : Prop :=
  ∀ (sp a : Nat) (t : Task) (s : State) (w : Word), w = BitVec.ofNat 32 (wordGet s t sp a) →
    (atInstr s 0x58 sp a = some t → exec (.leCeq sp a) s = .next (ran { past t with rlo := decide (t.acc.toInt = w.toInt) } s)) ∧
    (atInstr s 0x59 sp a = some t → exec (.leCne sp a) s = .next (ran { past t with rlo := decide (t.acc.toInt ≠ w.toInt) } s)) ∧
    (atInstr s 0x5A sp a = some t → exec (.leClt sp a) s = .next (ran { past t with rlo := decide (t.acc.toInt < w.toInt) } s)) ∧
    (atInstr s 0x5B sp a = some t → exec (.leCle sp a) s = .next (ran { past t with rlo := decide (t.acc.toInt ≤ w.toInt) } s)) ∧
    (atInstr s 0x5C sp a = some t → exec (.leCgt sp a) s = .next (ran { past t with rlo := decide (w.toInt < t.acc.toInt) } s)) ∧
    (atInstr s 0x5D sp a = some t → exec (.leCge sp a) s = .next (ran { past t with rlo := decide (w.toInt ≤ t.acc.toInt) } s)) ∧
    (atInstr s 0x68 sp a = some t → exec (.leFclt sp a) s = .next (ran { past t with rlo := fLt t.acc w } s)) ∧
    (atInstr s 0x69 sp a = some t → exec (.leFcgt sp a) s = .next (ran { past t with rlo := fLt w t.acc } s)) ∧
    (atInstr s 0x6A sp a = some t → exec (.leFceq sp a) s = .next (ran { past t with rlo := fEq t.acc w } s)) ∧
    (fIsNan t.acc = true ∨ fIsNan w = true → fLt t.acc w = false ∧ fLt w t.acc = false ∧ fEq t.acc w = false)

/-- FADD, FSUB, FMUL, FDIV, FLT and FIX (R208, R353, R354). -/
def Obligations.FloatInstructionsRun : Prop :=
  ∀ (sp a : Nat) (t : Task) (s : State) (w : Word), w = BitVec.ofNat 32 (wordGet s t sp a) →
    (atInstr s 0x60 sp a = some t → exec (.leFadd sp a) s = .next (ran { past t with acc := fAdd t.acc w } s)) ∧
    (atInstr s 0x61 sp a = some t → exec (.leFsub sp a) s = .next (ran { past t with acc := fSub t.acc w } s)) ∧
    (atInstr s 0x62 sp a = some t → exec (.leFmul sp a) s = .next (ran { past t with acc := fMul t.acc w } s)) ∧
    (atInstr s 0x63 sp a = some t → exec (.leFdiv sp a) s = .next (ran { past t with acc := fDiv t.acc w } s)) ∧
    (atInstr s 0x64 0 0 = some t → exec .leFlt s = .next (ran { past t with acc := fOfInt t.acc.toInt } s)) ∧
    (atInstr s 0x65 0 0 = some t → exec .leFix s = .next (ran { past t with acc := (fFix t.acc).1, ov := t.ov || (fFix t.acc).2 } s)) ∧
    (fIsNan t.acc = false → fIsInf t.acc = false → fMag t.acc ≠ 0 → fIsNan w = false → fIsInf w = false → fMag w = 0 →
      fDiv t.acc w = fInf (fNeg t.acc ^^ fNeg w)) ∧
    (fIsNan t.acc = true ∨ fIsInf t.acc = true → (fFix t.acc).2 = true)

/-- JMP, JC, JNC, CALL, RET, EVT, LARM and LCAN (R347, R353, R361). -/
def Obligations.JumpsCallsAndRequestsRun : Prop :=
  ∀ (sp a : Nat) (t : Task) (s : State),
    (atInstr s 0x70 0 a = some t → exec (.leJmp a) s = .next (ran { past t with pc := a } s)) ∧
    (atInstr s 0x71 0 a = some t → exec (.leJc a) s = .next (ran (if t.rlo then { past t with pc := a } else past t) s)) ∧
    (atInstr s 0x72 0 a = some t → exec (.leJnc a) s = .next (ran (if t.rlo then past t else { past t with pc := a }) s)) ∧
    (atInstr s 0x73 0 a = some t → exec (.leCall a) s =
      .next (ran { past t with calls := (past t).pc :: t.calls, pc := a } s)) ∧
    (∀ (p : Nat) (rest : List Nat), atInstr s 0x74 0 0 = some t → t.calls = p :: rest →
      exec .leRet s = .next (ran { past t with pc := p, calls := rest } s)) ∧
    (atInstr s 0x78 sp a = some t → t.rlo = true → exec (.leEvt sp a) s = .next (ran (past t)
      (emit .logic { engineEvent s (0xE000 + a % 8192) t.acc.toNat with origin := 2, source := t.num } s))) ∧
    (atInstr s 0x79 sp a = some t → t.rlo = true → ∃ v, exec (.leLarm sp a) s =
      .next (ran { past t with reqs := t.reqs ++ [(true, smGet s.le.w (a + 6) % 64, v, a + 6)] } s)) ∧
    (atInstr s 0x7A 0 0 = some t → t.rlo = true → exec .leLcan s =
      .next (ran { past t with reqs := t.reqs ++ [(false, t.acc.toNat, default, 0)] } s)) ∧
    (t.rlo = false → (atInstr s 0x78 sp a = some t → exec (.leEvt sp a) s = .next (ran (past t) s)) ∧
      (atInstr s 0x79 sp a = some t → exec (.leLarm sp a) s = .next (ran (past t) s)) ∧
      (atInstr s 0x7A 0 0 = some t → exec .leLcan s = .next (ran (past t) s)))

/-- TB_READ, TB_SET_INC, TB_SLEW, TB_STEP and the writes to the time registers complete (R126, R128, R129, R131, R142, R143, R168, R595, R643). -/
def Obligations.HostTimeCommandsComplete : Prop :=
  (∀ (r : Req) (wanted : Nat) (s : State), Served r 0x0050 s → wanted ≤ 62 →
    ∃ t, exec (.tbRead r wanted) s = .next t ∧ Only [.tu, .cmd, .pads] s t ∧
      t.tu = { (latchAll s).tu with capQ := s.tu.capQ.drop wanted }) ∧
  (∀ (r : Req) (domain inc : Nat) (s : State), Served r 0x0051 s → incTarget s domain = .ok →
    incOk (incPpm domain) (inc % 2 ^ 48) = true →
    exec (.tbSetInc r domain inc) s = .next (answer r 0x0051 .ok (setInc domain (inc % 2 ^ 48) s))) ∧
  (∀ (r : Req) (domain inc count : Nat) (s : State), Served r 0x0052 s → incTarget s domain = .ok → domain ≠ 0 →
    incOk (incPpm domain) (inc % 2 ^ 48) = true →
    exec (.tbSlew r domain inc count) s =
      .next (answer r 0x0052 .ok (startSlew domain (inc % 2 ^ 48) (count % 2 ^ 32) s))) ∧
  (∀ (r : Req) (domain frac : Nat) (offset off : Int) (s : State), Served r 0x0053 s →
    off = offset * 2 ^ 40 + ((frac % 65536 : Nat) : Int) * 2 ^ 24 → stepStatus s domain off = .ok →
    ∃ t, exec (.tbStep r domain frac offset) s = .next t ∧ ((dom t domain).t : Int) = (dom s domain).t + off ∧
      (dom t domain).epoch = wrapInc 16 (dom s domain).epoch ∧ t.tu.d0 = s.tu.d0 ∧
      t = answer r 0x0053 .ok (applyStep domain off 2 s)) ∧
  (∀ (r : Req) (s : State), Served r 0x0011 s →
    exec (.tbServoKick r) s = .next (answerWrite r .ok { s with tu := { s.tu with kickAt := td0 s, kickOn := true, kickFired := false } }) ∧
    exec (.tbCapture r) s = .next (answerWrite r .ok (latchAll s)) ∧
    exec (.kickExpiredClear r) s = .next (answerWrite r .ok { s with tu := { s.tu with kickExpired := false } })) ∧
  (∀ (r : Req) (n : Nat) (off : Int) (s : State), Served r 0x0011 s → s.tu.stepDom ≤ 1 →
    n = (if s.tu.stepDom = 1 then 3 else 1) →
    off = sgn 64 (s.tu.stepHi * 2 ^ 32 + s.tu.stepLo) * 2 ^ 40 + (s.tu.stepFrac : Int) * 2 ^ 24 → stepStatus s n off = .ok →
    exec (.tbStepGo r) s = .next (answerWrite r .ok (applyStep n off 2 s))) ∧
  (∀ (r : Req) (domain count : Nat) (s : State), Served r 0x0011 s → domain < 4 → domWrite s domain true = .ok →
    exec (.tbSlewCountWrite r domain count) s = .next (answerWrite r .ok
      (if domain = 0 then s else startSlew domain (dom s domain).slew (count % 2 ^ 32) s))) ∧
  (∀ (r : Req) (domain hi inc : Nat) (s : State), Served r 0x0011 s → domain < 4 → domWrite s domain false = .ok →
    inc = (hi % 65536) * 2 ^ 32 + (dom s domain).incLo → incOk (incPpm domain) inc = true →
    exec (.tbIncHiWrite r domain false hi) s = .next (answerWrite r .ok (setInc domain inc s))) ∧
  (∀ (r : Req) (domain hi inc : Nat) (s : State), Served r 0x0011 s → domain < 4 → domWrite s domain true = .ok →
    inc = (hi % 65536) * 2 ^ 32 + (dom s domain).slewLo → incOk (incPpm domain) inc = true →
    exec (.tbIncHiWrite r domain true hi) s = .next (answerWrite r .ok
      (if domain = 0 then s else updDom domain (fun d => { d with slew := inc, slewLo := inc % 2 ^ 32 }) s)))

/-- The servo's rows and those of TD1's quality complete (R14, R127, R128, R139, R143, R144, R145, R147, R148, R628). -/
def Obligations.ServoAndQualityRowsComplete : Prop :=
  (∀ (d : Nat) (s : State), d < 4 → s.pw.phase ≠ .off →
    ∃ t, exec (.slewEnd d) s = .next t ∧ Only [.tu] s t ∧ (dom t d).slewLeft = 0 ∧
      (d ≠ 2 → (dom t d).t = (dom s d).t + (dom s d).slewLeft * (dom s d).slew)) ∧
  (∀ s : State, running s = true → s.tu.kickOn = true → s.tu.kickFired = false → due s s.tu.kickAt (msT 250) = true →
    ∃ t, exec .servoKickExpiry s = .next t ∧ Only [.tu, .evr, .hlt] s t ∧ t.tu.kickExpired = true ∧ t.tu.kickFired = true ∧
      detOn t 0x05 0 = true ∧
      t.tu.d1 = { s.tu.d1 with qst := if s.tu.d1.qst = .locked then .glide else s.tu.d1.qst }) ∧
  (∀ (inc : Nat) (offset : Int) (s : State), servoRuns s = true →
    ∃ t, exec (.servoPeriod inc offset) s = .next t ∧ Only [.tu, .evr, .hlt, .dr] s t ∧ t.tu.capQ = [] ∧
      t.tu.kickAt = td0 s ∧ t.tu.kickFired = false ∧ (s.tu.active = 0 → t.tu.d1 = s.tu.d1) ∧
      (s.tu.active ≠ 0 → t.tu.d1.inc = clampInc inc ∧ t.tu.d1.qst = .locked)) ∧
  (∀ (m : Nat) (s : State), servoRuns s = true → s.tu.d1.qst = .locked → due s s.tu.learnAt (secT 1000) = true →
    s.tu.incMean.2 ≠ 0 → m = s.tu.incMean.1 / s.tu.incMean.2 →
    ∃ t, exec .inc0Learn s = .next t ∧ Only [.tu] s t ∧ t.tu.learnAt = td0 s ∧ t.tu.incMean = (0, 0) ∧
      t.tu.d0 = (if incOk 200 m then { s.tu.d0 with inc := m, incLo := m % 2 ^ 32 } else s.tu.d0) ∧ t.tu.d1 = s.tu.d1) ∧
  (∀ (dTemp : Nat) (s : State), s.tu.d1.qst = .glide →
    (clsOf (glideError s dTemp) ≤ 7 → ∃ t, exec (.timeClass dTemp) s = .next t ∧ Only [.tu, .evr] s t ∧
      t.tu.d1 = { s.tu.d1 with cls := clsOf (glideError s dTemp) }) ∧
    (msT 100 < glideError s dTemp → ∃ t, exec (.glideToFree dTemp) s = .next t ∧ Only [.tu, .evr] s t ∧
      t.tu.d1 = { s.tu.d1 with qst := .free, cls := 15 })) ∧
  (∀ (n : Int) (s : State), (s.tu.utcPending = 1 ∧ n = sgn 16 s.tu.utcOffset + 1 ∨
      s.tu.utcPending = 2 ∧ n = sgn 16 s.tu.utcOffset - 1) → ((secOf (td1 s) : Int) - n) % 86400 = 0 →
    exec .utcOffsetChange s = .next (submit .time 0x100D (unsgn 32 n)
      { s with tu := { s.tu with utcOffset := unsgn 16 n, utcPending := 0 } })) ∧
  (∀ s : State, pv s 0x0A04 0 0 1 0 = 1 → s.pw.refLost = false →
    exec .refInLost s = .next (submit .hlt 0xD010 0 { s with pw := { s.pw with refLost := true } })) ∧
  (∀ s : State, s.pw.refLost = true →
    exec .refInRestored s = .next (submit .hlt 0xD011 0 { s with pw := { s.pw with refLost := false } })) ∧
  (∀ (inc slew count : Nat) (s : State), td2Follows s = false → incOk 40 inc = true → incOk 40 slew = true → count < 2 ^ 32 →
    ∃ t, exec (.td2Servo inc slew count) s = .next t ∧ Only [.tu] s t ∧ t.tu.d1 = s.tu.d1 ∧
      t.tu.d2 = { s.tu.d2 with
        inc := inc, incLo := inc % 2 ^ 32, slew := slew, slewLo := slew % 2 ^ 32, slewCount := count, slewLeft := count })

/-- The rows of the PTP ports, PPS_IN and IRIG_IN complete (R132, R133, R134, R135, R136, R137, R138, R141). -/
def Obligations.TimeSourceRowsComplete : Prop :=
  (∀ (port m seq gm role dom half h : Nat) (portId : List Byte) (missing : Bool) (offset : Int) (utc : Option (Int × Nat)) (s : State),
    port < 2 → portOn s port = true → s.pw.phase ≠ .off → m ≠ 0xD → h = half % 8 * 2 ^ 39 →
    ∃ t, exec (.ptpMessageRx port ⟨m, seq, dom⟩ half portId gm missing offset role utc) s = .next t ∧
      Only [.tu, .evr, .hlt, .dr, .net] s t ∧
      (dom ≠ pv s 0x0A07 0 0 1 0 → t.tu.capQ = s.tu.capQ ∧ t.tu.src = s.tu.src ∧ t.tu.d1 = s.tu.d1) ∧
      (dom = pv s 0x0A07 0 0 1 0 →
        t.tu.capQ = (if [0x0, 0x2, 0x3, 0x8].contains m && decide (s.tu.capQ.length < 64) then s.tu.capQ ++
          [⟨port + 1, m, seq, portId, s.tu.d0.t + h, s.tu.d1.t + h, s.tu.d2.t + h, s.tu.d3.t + h⟩] else s.tu.capQ) ∧
        ((m = 0x3 ∨ m = 0xA) → (srcOf t (port + 1)).peerDelay = true) ∧
        (m = 0xB → role ≤ 2 → (role = 1 → masterOk s port = true) → t.tu.ptpRole.getD port 0 = role))) ∧
  (∀ (port m seq half h : Nat) (s : State), port < 2 → portOn s port = true → s.pw.phase ≠ .off →
    m = 0x0 ∨ m = 0x2 ∨ m = 0x3 ∨ m = 0x8 → (m = 0x0 ∨ m = 0x8 → s.tu.ptpRole.getD port 0 = 1) →
    (m = 0x8 → pv s 0x0A09 0 0 1 0 ≠ 0) → s.tu.capQ.length < 64 → h = half % 8 * 2 ^ 39 →
    ∃ t, exec (.ptpMessageTx port ⟨m, seq, pv s 0x0A07 0 0 1 0⟩ half) s = .next t ∧ Only [.tu, .net] s t ∧
      t.tu.capQ = s.tu.capQ ++ [⟨port + 1, 0x80 + m, seq, [], s.tu.d0.t + h, s.tu.d1.t + h, s.tu.d2.t + h, s.tu.d3.t + h⟩]) ∧
  (∀ (half h : Nat) (trueErr : Int) (good : Bool) (s : State), s.pw.phase ≠ .off → s.tu.capQ.length < 64 → h = half % 8 * 2 ^ 39 →
    good = ((srcOf s 3).present && decide ((((td1 s + h : Nat) : Int) - (((srcOf s 3).last + secT 1 : Nat) : Int)).natAbs ≤ usT 1) &&
      ((s.tu.d1.qst != .never || s.tu.stepped) && decide (trueErr.natAbs ≤ 400000000))) →
    ∃ t, exec (.ppsInEdge half trueErr) s = .next t ∧
      t.tu.capQ = s.tu.capQ ++ [⟨3, 0, 0, [], s.tu.d0.t + h, s.tu.d1.t + h, s.tu.d2.t + h, s.tu.d3.t + h⟩] ∧
      (srcOf t 3).present = true ∧
      (good = true → (srcOf t 3).good = (srcOf s 3).good + 1 ∧ (srcOf t 3).bad = 0 ∧
        (2 ≤ (srcOf s 3).good → (srcOf t 3).qualified = true)) ∧
      (good = false → (srcOf t 3).good = 0 ∧ (2 ≤ (srcOf s 3).bad → (srcOf t 3).qualified = false))) ∧
  (∀ (f : IrigFrame) (day sec half h : Nat) (ok good : Bool) (s : State), s.pw.phase ≠ .off → s.tu.capQ.length < 64 →
    h = half % 8 * 2 ^ 39 → ok = ([0, 4, 6, 7].contains f.format && f.parityOk) →
    good = (ok && (decide (irigUtc s f day sec = (srcOf s 4).lastSec + 1) || (srcOf s 4).good == 0)) →
    ∃ t, exec (.irigInFrame f day sec half) s = .next t ∧
      t.tu.capQ = s.tu.capQ ++ [⟨4, 0, 0, [], s.tu.d0.t + h, s.tu.d1.t + h, s.tu.d2.t + h, s.tu.d3.t + h⟩] ∧
      (srcOf t 4).present = true ∧
      (good = true → (srcOf t 4).cls = min f.quality 15 ∧ (srcOf t 4).good = (srcOf s 4).good + 1 ∧
        (2 ≤ (srcOf s 4).good → (srcOf t 4).qualified = true)) ∧
      (ok = false → (srcOf t 4).good = 0) ∧ (good = false → 1 ≤ (srcOf s 4).bad → (srcOf t 4).qualified = false)) ∧
  (∀ (port : Nat) (s : State), port < 2 → (srcOf s (port + 1)).present = true →
    (due s (srcOf s (port + 1)).sync (2 * (srcOf s (port + 1)).syncInt) = true → ∃ t, exec (.ptpSyncMissing port) s = .next t ∧
      (srcOf t (port + 1)).present = false ∧ (srcOf t (port + 1)).qualified = false) ∧
    (due s (srcOf s (port + 1)).announce (3 * (srcOf s (port + 1)).annInt) = true →
      ∃ t, exec (.announceReceiptTimeout port) s = .next t ∧
      (srcOf t (port + 1)).present = false ∧ (srcOf t (port + 1)).qualified = false)) ∧
  (∀ s : State, (srcOf s 3).present = true → (srcOf s 3).last + msT 1100 ≤ td1 s →
    ∃ t, exec .ppsEdgeMissing s = .next t ∧ (srcOf t 3).present = false ∧ (srcOf t 3).qualified = false) ∧
  (∀ s : State, (srcOf s 4).present = true → (srcOf s 4).last + secT 2 ≤ td1 s →
    ∃ t, exec .irigFrameMissing s = .next t ∧ (srcOf t 4).present = false ∧ (srcOf t 4).qualified = false)

/-- The sample grid, PPS_OUT and launch rows complete (R140, R151, R153, R154, R155, R159, R160, R161, R162). -/
def Obligations.GridPulseAndLaunchRowsComplete : Prop :=
  (∀ s : State, s.tu.grid = .jumpPending → s.tu.rephaseAt ≤ td1 s →
    ∃ t, exec .gridRephase s = .next t ∧ Only [.tu, .acq, .dr, .evr, .hlt, .rio] s t ∧ t.tu.grid = .aligned ∧ t.tu.sgOffset = 0 ∧
      (s.acq.rotPhase = .parallel → s.acq.rotState = 0 → t.acq.rotVoid = true ∧ t.acq.rotPhase = .disconnect) ∧
      (s.acq.rotPhase ≠ .parallel → t.acq.rotPhase = s.acq.rotPhase ∧ t.acq.rotVoid = s.acq.rotVoid) ∧
      (t.acq.wave + 1) % 2 ^ 32 = (secOf (td1 s) * 16000 + nsOf (td1 s) / 62500) % 2 ^ 32) ∧
  (∀ s : State, s.tu.grid = .slewing → s.tu.sgOffset = 0 →
    ∃ t, exec .gridAligned s = .next t ∧ Only [.tu, .evr, .hlt] s t ∧ t.tu.grid = .aligned ∧ t.tu.gridLock = true) ∧
  (∀ s : State, s.tu.grid = .aligned → s.pw.phase ≠ .off →
    ∃ t, exec .sampleLoopUnlock s = .next t ∧ Only [.tu, .evr, .hlt] s t ∧ t.tu.grid = .unlocked ∧
      t.tu.gridUnlock = s.tu.gridUnlock + 1 ∧ detOn t 0x04 0 = true) ∧
  (∀ s : State, nsOf (td1 s) < 4 → ppsOk s = true → s.pw.phase ≠ .off →
    exec .ppsOutRise s =
      .next { s with pads := { s.pads with ppsOut := true }, tu := { s.tu with ppsRoseAt := td0 s } }) ∧
  (∀ s : State, s.pads.ppsOut = true → (due s s.tu.ppsRoseAt (msT (pv s 0x0A0D 0 0 2 100)) = true ∨ ppsOk s = false) →
    exec .ppsOutFall s = .next { s with pads := { s.pads with ppsOut := false } }) ∧
  (∀ (r : Req) (entry : Nat) (value v : LaunchVal) (s : State), Served r 0x0054 s → pairRefuses s = false → s.pr.st ≠ .twin →
    v = { value with instant := value.instant / 4 * 4, period := value.period / 4 * 4 } → armStatus s .command entry v = .ok →
    exec (.launchArm r entry value) s = .next (answer r 0x0054 .ok (putArmed .command entry v v.instant s))) ∧
  (∀ (r : Req) (entry : Nat) (x : LaunchEntry) (s : State), Served r 0x0055 s → pairRefuses s = false → s.pr.st ≠ .twin →
    armedEntry s entry = some x → x.owner = .command → (x.val.action = 1 → x.handed = true → x.val.period ≠ 0) →
    exec (.launchCancel r entry) s = .next (answer r 0x0055 .ok (updLaunch entry (fun y =>
      if x.val.action = 1 ∧ x.handed = true then { y with val := { y.val with period := 0 } } else { y with armed := false }) s))) ∧
  (∀ (e : LaunchEntry) (s : State), running s = true → firstDue s s.tu.launches = some e →
    ∃ t, exec .launchFire s = .next t ∧
      t.tu.launches = updFirst (fun (x : LaunchEntry) => x.num == e.num) (fun x => { x with
        armed := decide (e.val.period ≠ 0), next := if e.val.period = 0 then x.next else e.next + e.val.period
        fired := satInc 32 x.fired, lastNs := e.next % 1000000000, handed := false }) s.tu.launches ∧
      Only [.tu, .le, .fio, .rio, .dr, .gr, .net, .evr, .pr] s t)

/-- Wave release, sampled-value, high-rate and travelling-wave detection rows complete (R20, R196, R197, R198, R314, R317, R319, R321, R548). -/
def Obligations.AcquisitionRowsComplete : Prop :=
  (∀ (raw : List RawSample) (full : Bool) (sat : BitVec 32) (s : State), running s = true → s.gr.running = true →
    releaseDue s = true → s.pr.hand = none → s.pr.st ≠ .joining →
    ∃ t, exec (.headboxWaveRelease raw full sat) s = .next t ∧ t.acq.wave = (s.acq.wave + 1) % 2 ^ 32 ∧
      t.acq.waves = s.acq.waves + 1) ∧
  (∀ (f : SvFrame) (v : Nat) (wrong : Prop) (s : State), svFor s f = some v → running s = true →
    (wrong ↔ leAt ((prm s 0x0984 v).getD []) 8 4 ≠ f.confRev ∨ (f.asdus ≠ 1 ∧ f.asdus ≠ 6) ∨ f.lenOk = false) →
    (wrong → ∃ t, exec (.svFrameRx f) s = .next t ∧ Only [.acq, .net] s t ∧ (svOf t v).goodRun = 0 ∧
      t.net.svRej = satInc 32 s.net.svRej) ∧
    (¬wrong → (svOf s v).smpCnt ≠ some f.smpCnt → (f.sim = true → pv s 0x0982 v 0 1 0 = 1) →
      ∃ t, exec (.svFrameRx f) s = .next t ∧ Only [.acq, .evr] s t ∧ (svOf t v).smpCnt = some f.smpCnt ∧
        (f.synch = 2 → (svOf s v).st ≤ 1 → 1 ≤ (svOf s v).goodRun → (svOf t v).st = 2) ∧ (f.synch ≠ 2 → (svOf t v).st = 1))) ∧
  (∀ (sec block : Nat) (inputs : List (Nat × List Int × Bool)) (rms : List Nat) (s : State), hasTw s = true → running s = true →
    ∃ t, exec (.highRateBlock sec block inputs rms) s = .next t ∧ t.acq.hrBlocks = s.acq.hrBlocks + 1 ∧
      t.acq.wave = s.acq.wave) ∧
  (∀ (n a : Nat) (s : State), s.pr.prov = some (n, a) → due s a (usT 40) = true →
    ∃ t, exec .provisionalTimeout s = .next t ∧ t.pr.prov = none) ∧
  (∀ (stream sec slot cross : Nat) (g : List Int) (sat : Bool) (vref : Int) (s : State), hasTw s = true → running s = true →
    stream < 12 → twExists s stream = true → pv s 0x0540 stream 0 1 1 ≠ 0 → (twOf s stream).armed = true →
    twReaches s stream 1 (g.getD cross 0) = true →
    ∃ t, exec (.twArrival stream sec slot g cross sat vref) s = .next t ∧ (twOf t stream).armed = false ∧
      (twOf t stream).lastArr.isSome = true ∧
      (followsAgreed s = false → (burstOf t (stream / 6)).isSome = true) ∧
      (followsAgreed s = true → t.acq.twOwn.length = s.acq.twOwn.length + 1 ∧ t.acq.burst = s.acq.burst)) ∧
  (∀ (stream : Nat) (s : State), hasTw s = true → running s = true → stream < 12 →
    ((∀ a, (twOf s stream).lastArr = some a → due s a (usT (pv s 0x0544 0 0 2 2)) = true) →
      ∃ t, exec (.twRearm stream) s = .next t ∧ Only [.acq] s t ∧ (twOf t stream).armed = true) ∧
    (twExists s stream = true → (twOf s stream).noisy = false →
      (heldFor s (twOf s stream).aboveAt (secT 1) = true ∨ injOn s 0x27 stream = true) →
      ∃ t, exec (.twNoiseFloor stream) s = .next t ∧ Only [.acq, .evr, .hlt] s t ∧ (twOf t stream).noisy = true ∧
        detOn t 0x27 stream = true) ∧
    ((twOf s stream).noisy = true → heldFor s (twOf s stream).belowAt (secT 1) = true → injOn s 0x27 stream = false →
      ∃ t, exec (.twNoiseCleared stream) s = .next t ∧ Only [.acq, .evr, .hlt] s t ∧ (twOf t stream).noisy = false ∧
        detOn t 0x27 stream = false))

/-- The slalom rotation's rows complete: step start, calibration, decision, resolution of a mismatch (R172, R173, R174, R175, R176, R177). -/
def Obligations.RotationRowsComplete : Prop :=
  (∀ (again : Bool) (s : State), rotates s = true → stepWave s = 0 →
    again = ((s.acq.rotVoid && decide (s.acq.voidRun < 16)) || s.acq.rotPhase != .disconnect) →
    exec .rotationStepStart s = .next { s with acq := { s.acq with
      rotStarted := true, rotPhase := .cal, rotVoid := false, voidRun := if again then s.acq.voidRun else 0
      rotInput := if !s.acq.rotStarted then 0 else if again then s.acq.rotInput else (s.acq.rotInput + 1) % paiCount s } }) ∧
  (∀ (gain ofs : Int) (resid : List Int) (s : State), rotates s = true → s.acq.rotStarted = true → s.acq.rotPhase = .cal →
    stepWave s = 320 →
    (calPass gain ofs resid = true → s.hlt.inj.any (fun j => j.det == 0x02 && j.applied) = false →
      exec (.rotationCalEnd gain ofs resid) s = .next { s with acq := { s.acq with
        gain := putAt 17 s.acq.gain (spareOf s) gain, ofs := putAt 17 s.acq.ofs (spareOf s) ofs, rotPhase := .connect } }) ∧
    (calPass gain ofs resid = false → ∃ t, exec (.rotationCalEnd gain ofs resid) s = .next t ∧ Only [.acq, .evr, .hlt] s t ∧
      t.acq.removed = setB s.acq.removed (spareOf s) true ∧ t.acq.rotState = 2 ∧ t.acq.spare = 31 ∧
      detInForce t 0x02 = true)) ∧
  (∀ (sumD sumY lim d : Nat) (s : State), rotates s = true → s.acq.rotPhase = .parallel → stepWave s = 1360 →
    lim = pv s 0x0511 0 0 2 840 * 1024 + pv s 0x0512 0 0 2 500 * isqrt (sumY * 1024) / 1000000 → d = isqrt (sumD * 1024) →
    (s.acq.rotVoid = true → ∃ t, exec (.rotationDecision sumD sumY) s = .next t ∧ Only [.acq, .evr] s t ∧
      t.acq = { s.acq with rotPhase := .disconnect, voidCnt := satInc 32 s.acq.voidCnt, voidRun := s.acq.voidRun + 1 }) ∧
    (s.acq.rotVoid = false → d ≤ lim → injOn s 0x01 s.acq.rotInput = false →
      ∃ t, exec (.rotationDecision sumD sumY) s = .next t ∧ Only [.acq] s t ∧ t.acq.rotPhase = .disconnect ∧
        t.acq.serving = putAt 16 s.acq.serving s.acq.rotInput (spareOf s) ∧
        t.acq.spare = s.acq.serving.getD s.acq.rotInput 31) ∧
    (s.acq.rotVoid = false → lim < d → injOn s 0x01 s.acq.rotInput = false →
      ∃ t, exec (.rotationDecision sumD sumY) s = .next t ∧ Only [.acq] s t ∧ t.acq.rotState = 1 ∧
        t.acq.rotPhase = .spareCheck ∧ t.acq.resSpare = spareOf s ∧ t.acq.serving = s.acq.serving)) ∧
  (∀ (resid : List Int) (s : State), running s = true → s.acq.rotState = 1 →
    (s.acq.rotPhase = .spareCheck → refPass resid = true →
      ∃ t, exec (.referenceCheckDone resid) s = .next t ∧ Only [.acq] s t ∧ t.acq.rotPhase = .connect ∧ t.acq.rotState = 1) ∧
    (s.acq.rotPhase = .spareCheck → refPass resid = false →
      ∃ t, exec (.referenceCheckDone resid) s = .next t ∧ t.acq.rotState = 2 ∧ detInForce t 0x01 = true ∧
        t.acq.removed = setB s.acq.removed s.acq.resSpare true ∧ t.acq.serving = s.acq.serving) ∧
    (s.acq.rotPhase = .servingCheck →
      ∃ t, exec (.referenceCheckDone resid) s = .next t ∧ t.acq.rotState = 2 ∧ detInForce t 0x01 = true ∧
        t.acq.removed = setB s.acq.removed (if refPass resid then s.acq.resSpare else s.acq.spare) true ∧
        t.acq.serving = (if refPass resid then putAt 16 s.acq.serving s.acq.rotInput s.acq.spare else s.acq.serving)) ∧
    (s.acq.rotPhase = .connect →
      ∃ t, exec .spareConnectDone s = .next t ∧ Only [.acq] s t ∧ t.acq.rotPhase = .servingCheck ∧
        t.acq.serving = putAt 16 s.acq.serving s.acq.rotInput s.acq.resSpare ∧
        t.acq.spare = s.acq.serving.getD s.acq.rotInput 31))

/-- The rows of bursts, supervision, location and the exchange complete (R321, R323, R324, R329, R331, R337, R339). -/
def Obligations.TravellingWaveRowsComplete : Prop :=
  (∀ (k : Nat) (b : Burst) (s : State), k < 2 → running s = true → burstOf s k = some b → followsAgreed s = false →
    (b.windowOpen = true → b.openedAt + nsT 200 ≤ td1 s →
      ∃ t b', exec (.twLeadWindowClose k) s = .next t ∧ burstOf t k = some b' ∧ b'.windowOpen = false) ∧
    (∀ (l : Desc) (dv di : List Int), b.lead = some l → b.windowOpen = false → b.supIssued = false →
      l.time + usT (supWindow s k) ≤ td1 s →
      ∃ t, exec (.twSupervisionEnd k dv di) s = .next t ∧ burstOf t k = some { b with supIssued := true } ∧
        t.acq.twSeq = (s.acq.twSeq + 1) % 2 ^ 32) ∧
    (b.windowOpen = false → b.supIssued = true → b.lastTime + msT (pv s 0x0545 0 0 2 10) ≤ td1 s →
      ∃ t, exec (.twBurstClose k) s = .next t ∧
        t.acq.locQ.map (·.term) = s.acq.locQ.map (·.term) ++ [b.term] ∧
        t.acq.twSeq = (s.acq.twSeq + 1) % 2 ^ 32 ∧ (b.term = k → burstOf t k = none))) ∧
  (∀ (k : Nat) (b : Burst) (j : Job) (s : State), running s = true →
    s.acq.locQ.find? (fun (x : Burst) => x.term == k) = some b →
    s.gr.jobs.find? (fun (x : Job) => b.job == some x.id && x.started) = some j →
    (hasTw s = true ∧ due s b.closedAt (secT 2) = true ∨ hasTw s = false ∧ b.dz.isSome = true) →
    ∃ t, exec (.twLocationDone k) s = .next t ∧ t.acq.locQ.map (·.term) = (s.acq.locQ.erase b).map (·.term)) ∧
  (∀ (m : TwSend) (s : State), s.acq.msgSend.find? (fun (x : TwSend) => due s x.at0 (copyAt x.done)) = some m →
    ∃ t, exec .twExchangeSend s = .next t ∧ Only [.acq, .net, .evr] s t ∧
      t.acq.msgSend = (if m.done = 2 then s.acq.msgSend.filter (fun (x : TwSend) => x != m)
        else updFirst (fun (x : TwSend) => x == m) (fun x => { x with done := x.done + 1 }) s.acq.msgSend)) ∧
  (∀ (bytes : List Byte) (s : State), running s = true → exchOn s = true → s.cmd.restarting = none →
    (msgReject s bytes ≠ 0 → exec (.twMsgRx bytes) s = .next (submit .tw 0x4020 (msgReject s bytes)
      { s with acq := { s.acq with msgRej := satInc 32 s.acq.msgRej } })) ∧
    (msgReject s bytes = 0 → followsAgreed s = false → msgHeld s (msgKey bytes) = false →
      ∃ t, exec (.twMsgRx bytes) s = .next t ∧ Only [.acq, .pr] s t ∧ t.acq.msgRx = satInc 32 s.acq.msgRx ∧
        t.acq.msgs.length = s.acq.msgs.length + 1 ∧ msgHeld t (msgKey bytes) = true)) ∧
  (∀ s : State, exec .twMsgExpiry s = .next { s with acq := { s.acq with
    msgs := s.acq.msgs.filter (fun (m : TwMsg) => decide (td0 s < m.at0 + secT 10)) } }) ∧
  (∀ s : State, s.acq.vmState = 1 → due s s.acq.vmAt (secT 60) = true →
    (s.acq.burst.filterMap id ++ s.acq.locQ).all (fun (b : Burst) => !b.vm) = true →
    exec .twVmeasTimeout s = .next { s with acq := { s.acq with vmState := 3 } }) ∧
  (∀ s : State, running s = true →
    (∀ (d : Desc) (q : List Desc), followsAgreed s = false → s.acq.twQ = d :: q →
      ∃ t, exec .descriptorEntry s = .next t ∧ t.acq.twQ = q ∧ t.acq.burst = s.acq.burst) ∧
    (∀ a : Agree, followsAgreed s = true → agreeHead s 2 = some a →
      exec .descriptorEntry s = .next (graphDesc (descOf a.vals) (followDesc (descOf a.vals) (agreeUsed 2 s)))))

/-- The graph scheduler's rows complete (R213, R222, R223, R230, R231, R233, R234, R235, R236, R237, R238, R246). -/
def Obligations.GraphRowsComplete : Prop :=
  (∀ (core cycles fault : Nat) (vals : List (Nat × Nat)) (bytes : List Byte) (i : Inst) (n : Node) (s : State),
    s.gr.insts.find? (fun (x : Inst) => x.onCore core) = some i → n = nodeAt s i.node →
    ∃ t, exec (.opRetire core cycles fault vals bytes) s = .next t ∧
      t.gr.nodeMax = smSet s.gr.nodeMax n.num (max (smGet s.gr.nodeMax n.num) (min 65535 cycles)) ∧
      t.acq.wave = s.acq.wave ∧ t.img = s.img ∧ (fault ≠ 0 → injOn s 0x08 (n.num % 256) = false → detInForce t 0x08 = true)) ∧
  (∀ (core : Nat) (i : Inst) (n : Node) (s : State), s.gr.insts.find? (fun (x : Inst) => x.onCore core) = some i →
    n = nodeAt s i.node → due s i.execAt (nsT (abortLimit n * 5 / 2)) = true →
    ∃ t, exec (.opCycleLimit core) s = .next t ∧ detInForce t 0x08 = true ∧ t.img = s.img ∧
      t.gr.nodeMax = smSet s.gr.nodeMax n.num (max (smGet s.gr.nodeMax n.num) (min 65535 (abortLimit n)))) ∧
  (∀ (w a : Nat) (s : State), s.gr.openWaves.head? = some (w, a) → a + usT 125 ≤ td1 s → waveDone s w = false →
    ∃ t, exec .p1Deadline s = .next t ∧ t.gr.overrunCnt = satInc 32 s.gr.overrunCnt ∧ detInForce t 0x07 = true ∧
      t.img = s.img ∧ t.acq.wave = s.acq.wave) ∧
  (∀ (q a : Nat) (s : State), s.gr.openDescs.find? (fun d => decide (d.2 + usT 50 ≤ td1 s)) = some (q, a) →
    ∃ t, exec .p0Deadline s = .next t ∧ t.gr.overrunCnt = satInc 32 s.gr.overrunCnt ∧ detInForce t 0x07 = true ∧
      t.img = s.img ∧ t.acq.wave = s.acq.wave) ∧
  (∀ (late : List Inst) (s : State), late = s.gr.insts.filter (fun (i : Inst) => i.band == 2 && i.unretired &&
      decide (i.born1 + 187500 * 2 ^ 40 ≤ td1 s) && !s.gr.lateP2.contains (i.node, i.key)) → late ≠ [] →
    ∃ t, exec .p2Late s = .next t ∧ Only [.gr, .evr] s t ∧ t.gr.insts = s.gr.insts ∧
      t.gr.lateP2 = s.gr.lateP2 ++ late.map (fun (i : Inst) => (i.node, i.key)) ∧
      (s.gr.p2LateSec = some (secOf (td0 s)) → t.evr = s.evr)) ∧
  (∀ s : State, s.gr.healthyHold = true → s.gr.overruns.any (fun a => !due s a (msT 1000)) = false →
    ∃ t, exec .overrunQuiet s = .next t ∧ Only [.gr, .pads] s t ∧
      t.gr = { s.gr with healthyHold := false, overruns := [] }) ∧
  (∀ s : State, ∃ t, exec .delayEntryFire s = .next t ∧ Only [.gr, .pr] s t ∧
    t.gr.delays = s.gr.delays.filter (fun (d : Delay) => decide (td0 s < d.tick)) ∧
    t.gr.tokens = s.gr.tokens ++ (if followsAgreed s = true then [] else (s.gr.delays.filter (fun (d : Delay) =>
      decide (d.tick ≤ td0 s) && d.epoch == epochOf s d.node)).map (fun (d : Delay) => (d.node, d.tag, d.tick, d.epoch)))) ∧
  (∀ (j : Job) (s : State), running s = true → s.gr.running = true → s.hlt.dieHigh ≠ 2 →
    s.gr.jobs.find? (fun (x : Job) => !x.started) = some j →
    (s.gr.insts.filter (fun (i : Inst) => i.band == 3)).length + (jobNodes s j.set).length ≤ 1024 →
    exec .jobStart s = .next (pump (createAll (.job j.id) (jobNodes s j.set) none j.wave (fun _ => 0)
      { s with gr := { s.gr with
        jobs := updFirst (fun (x : Job) => x.id == j.id) (fun x => { x with started := true }) s.gr.jobs } }))) ∧
  (∀ (k hold : Nat) (n : Node) (s : State), trackerNode s k = some n → trackAux (elemOf s n) 6 = ((hold + 1 : Nat) : Int) →
    hold + msT ((setF s { (default : Inst) with group := s.img.group } n.inst 0x03 10 20).toNat * 100) ≤ td0 s →
    exec (.freqTrackHoldExpiry k) s = .next (trackExpire (elemOf s n) s.acq.waves s))

/-- ACC_SNAP, UPC_URGENT, JOB_SUBMIT and the writes of GS_NODE_SEL, ACQ_TW_VMEAS and DR_UNIT_FIRED complete (R194, R195, R237, R241, R337, R451, R452, R477). -/
def Obligations.MeasurementRequestsComplete : Prop :=
  (∀ (r : Req) (kind mask : Nat) (s : State), running s = true → mask < 2 ^ 16 →
    waits r false s = false → precheck r 0x0040 false (some (if kind < 3 then 0 else 1)) s = none →
    (kind < 3 → exec (.accSnap r kind mask) s = .next (respond r 0x0040 .ok false (doneRecords kind mask s) s)) ∧
    (kind = 3 → pairRefuses s = false → s.pr.st ≠ .twin →
      exec (.accSnap r kind mask) s = .next { s with acq := { s.acq with snapReqs := s.acq.snapReqs ++ [(some r, mask)] } }) ∧
    (kind = 3 → pairRefuses s = false → s.pr.st = .twin →
      exec (.accSnap r kind mask) s = .next (schedTwin 10 (mask :: reqCode r) s))) ∧
  (∀ (r : Req) (mask : Nat) (s : State), running s = true → hasUpc s = true → waits r false s = false →
    precheck r 0x0040 false (some 1) s = none →
    exec (.accSnap r 4 mask) s = .next { s with upc := { s.upc with snapReqs := s.upc.snapReqs ++ [(r, mask)] } }) ∧
  (∀ (r : Req) (chan meas filter rate settle : Nat) (s : State), Served r 0x0041 s → hasUpc s = true → chan ≤ 3 → meas ≤ 4 →
    filter ≤ 2 → rate ≤ 13 → settle ≤ 65535 → s.upc.up = true → urgFree s = true →
    exec (.upcUrgent r chan meas filter rate settle) s = .next { s with upc := { s.upc with
      urgPend := some { verify := false, req := r, chan := chan, meas := meas, filter := filter, rate := rate
                        settle := settle } } }) ∧
  (∀ (r : Req) (set : Nat) (input : List Byte) (s : State), Served r 0x0042 s → jobNodes s set ≠ [] → input.length ≤ 4096 →
    hostEntry s = true → s.hlt.dieHigh ≠ 2 →
    exec (.jobSubmit r set input) s = .next { s with gr := { s.gr with
      jobs := s.gr.jobs ++ [⟨s.gr.jobNext, set, some r, false, input, [], jobWave s set, 0⟩], jobNext := s.gr.jobNext + 1 } }) ∧
  (∀ (r : Req) (node : Nat) (s : State), Served r 0x0011 s →
    exec (.gsNodeSelWrite r node) s = .next (answerWrite r (if (nodeOf s (node % 4096)).isSome then .ok else .range)
      { s with gr := { s.gr with nodeSel := node % 4096 } })) ∧
  (∀ (r : Req) (k : Nat) (s : State), Served r 0x0011 s → regAbsent s 0x20820 = false →
    exec (.twVmeasArm r k) s = .next (answerWrite r .ok
      { s with acq := { s.acq with vmTerm := k % 2, vmState := 1, vmAt := td0 s } })) ∧
  (∀ (r : Req) (mask : Word) (s : State), Served r 0x0011 s →
    exec (.drUnitFiredClear r mask) s = .next (answerWrite r .ok { s with dr := { s.dr with fired := s.dr.fired &&& ~~~mask } }))

/-- PMU commands, GOOSE reception and publication, PRP and lane supervision complete (R265, R266, R539, R562, R563, R564, R568, R571, R572, R573, R577). -/
def Obligations.StreamRowsComplete : Prop :=
  (∀ (id ip k : Nat) (s : State), running s = true → pmuByCode s id = some k →
    (feeds s = false → (s.pr.active = true ∨ s.pr.st = .solo ∨ s.pr.st = .cold) →
      exec (.pmuTurnOff id true) s = .next (updPmu k (fun x => { x with tx := false }) s) ∧
      exec (.pmuTurnOn id true) s = .next (updPmu k (fun x => { x with tx := true }) s) ∧
      (∃ t, exec (.pmuSendHdr id true ip) s = .next t ∧ Only [.gr, .net] s t ∧ (pmuOf t k).frameQ =
        if s.cmd.restarting.isSome || !mayTx s then (pmuOf s k).frameQ ++ [(4, ip)] else []) ∧
      ∀ kind, 1 ≤ kind → kind ≤ 3 → ∃ t, exec (.pmuSendCfg id true kind ip) s = .next t ∧ Only [.gr, .net] s t ∧
        (pmuOf t k).frameQ = if s.cmd.restarting.isSome || !mayTx s then (pmuOf s k).frameQ ++ [(kind, ip)] else []) ∧
    (feeds s = true → exec (.pmuTurnOff id true) s = .next (schedTwin 17 [0, k, 0] s) ∧
      exec (.pmuTurnOn id true) s = .next (schedTwin 17 [1, k, 0] s) ∧
      exec (.pmuSendHdr id true ip) s = .next (schedTwin 17 [2, k, ip] s) ∧
      ∀ kind, 1 ≤ kind → kind ≤ 3 → exec (.pmuSendCfg id true kind ip) s = .next (schedTwin 17 [2 + kind, k, ip] s)) ∧
    exec (.pmuTurnOff id false) s = .next (submit .elem 0x3102 id s)) ∧
  (∀ (f : GooseFrame) (k : Nat) (s : State), running s = true → portOn s f.port = true → subFor s f = some k →
    (goReject s k f ≠ 0 → ∃ t, exec (.gooseFrameRx f) s = .next t ∧ Only [.net, .evr] s t ∧
      t.net.goRej = satInc 32 s.net.goRej ∧ t.net.pend = s.net.pend) ∧
    (goReject s k f = 0 → followsAgreed s = false → ((subOf s k).ever = false ∨ (subOf s k).lost = true ∨
        (1 ≤ (f.st + 2 ^ 32 - (subOf s k).st) % 2 ^ 32 ∧ (f.st + 2 ^ 32 - (subOf s k).st) % 2 ^ 32 < 2 ^ 31) ∨
        (f.st = (subOf s k).st ∧ (subOf s k).sq < f.sq)) →
      ∃ t, exec (.gooseFrameRx f) s = .next t ∧ Only [.net, .evr, .pr] s t ∧ (subOf t k).st = f.st ∧ (subOf t k).sq = f.sq ∧
        (subOf t k).lost = false ∧ (subOf t k).until_ = td0 s + msT f.ttl ∧ t.net.pend.length = s.net.pend.length + 1)) ∧
  (∀ (k : Nat) (s : State), running s = true → (subOf s k).ever = true → (subOf s k).lost = false → (subOf s k).until_ ≤ td0 s →
    ∃ t, exec (.gooseSubLost k) s = .next t ∧ (subOf t k).lost = true ∧ t.tu = s.tu ∧ t.acq = s.acq) ∧
  (∀ (p : Nat) (x : GoosePub) (s : State), x = pubOf s p → running s = true → x.st ≠ 0 → (prm s 0x0910 p).isSome = true →
    x.nextAt ≤ td0 s →
    ∃ t, exec (.gooseRetransmit p) s = .next t ∧ Only [.net] s t ∧ (pubOf t p).sq = goInc x.sq ∧ (pubOf t p).st = x.st ∧
      (pubOf t p).interval = (if x.first then x.interval else min (2 * x.interval) (goT0 s p))) ∧
  (∀ s : State, running s = true → abPair s = true → s.net.supAt + secT 2 ≤ td0 s →
    ∃ t, exec .prpSupervisionTx s = .next t ∧ Only [.net] s t ∧ t.net.supAt = td0 s ∧
      ∀ p, p < 2 → (portAt t p).noReturn = (portAt s p).noReturn + (if abMode s = 2 then 1 else 0)) ∧
  (∀ s : State, exec .prpDupAgeout s = .next { s with net := { s.net with
    dup := s.net.dup.filter (fun e => decide (td0 s < e.2.2 + msT 400)) } }) ∧
  (∀ (port : Nat) (s : State), running s = true → port < 2 → (portAt s port).loss = false →
    (abPair s = true → (portAt s port).link = true → (portAt s port).rxAt + secT 2 ≤ td0 s →
      td0 s < (portAt s (1 - port)).rxAt + secT 2 →
      ∃ t, exec (.laneNoFrame port) s = .next t ∧ Only [.net, .evr, .hlt] s t ∧ (portAt t port).loss = true ∧
        (portAt t port).lossVal = 32 + port ∧ detOn t 0x20 port = true) ∧
    (abMode s = 2 → 3 ≤ (portAt s port).noReturn →
      ∃ t, exec (.ringOpen port) s = .next t ∧ Only [.net, .evr, .hlt] s t ∧ (portAt t port).loss = true ∧
        t.net.ringOpen = true ∧ detOn t 0x20 port = true))

/-- Port reception, ARP, ICMP, TLS, link and lane rows complete (R27, R562, R563, R564, R565, R577, R589, R597, R618). -/
def Obligations.PortRowsComplete : Prop :=
  (∀ (f : NetFrame) (s : State), running s = true → f.port < 3 → portOn s f.port = true → (portAt s f.port).link = true →
    (f.good = false → ∃ t, exec (.netFrameRx f) s = .next t ∧ Only [.net] s t ∧
      portAt t f.port = { portAt s f.port with fcs := satInc 32 (portAt s f.port).fcs }) ∧
    (f.good = true → accepts s f = true → f.frag = false → f.room = true → (abMode s = 2 → f.port < 2 → f.src ≠ ownMac s) →
      ∃ t, exec (.netFrameRx f) s = .next t ∧ Only [.net, .evr] s t ∧ (portAt t f.port).rxAt = td0 s ∧
        (portAt t f.port).rx = satInc 32 (portAt s f.port).rx)) ∧
  (∀ (request : Bool) (target ip mac : Nat) (s : State), running s = true → (ifPorts s).isSome = true →
    s.cmd.restarting = none → (request = true → target = ownIp s) →
    ∃ t, exec (.arpRx request target ip mac) s = .next t ∧ Only [.net] s t ∧
      t.net.arp = ((ip, mac, td0 s) :: s.net.arp.filter (fun e => e.1 != ip)).take 64) ∧
  (∀ s : State, running s = true → (ifPorts s).isSome = true → s.net.arpAt + secT 60 ≤ td0 s →
    ∃ t, exec .arpRefresh s = .next t ∧ Only [.net] s t ∧ t.net.arpAt = td0 s ∧ t.net.arp = s.net.arp) ∧
  (∀ (ip : Nat) (bytes : List Byte) (s : State), running s = true → (ifPorts s).isSome = true → s.cmd.restarting = none →
    exec (.icmpEcho ip bytes) s = .next (sendUdp 7 ip 0 [0x0001] [] bytes s)) ∧
  (∀ (conn : Nat) (c : TlsClient) (s : State), takesPackets .net s = true → (ifPorts s).isSome = true →
    lockedOut .net s = false → s.sec.keys.any (fun (k : Key4) => k.kind == 3 && k.key == c.anchor) = true → c.sigOk = true →
    (s.tu.d1.qst = .locked ∨ s.tu.d1.qst = .glide) → (c.notBefore : Int) ≤ utcSec s (td1 s) →
    utcSec s (td1 s) ≤ (c.notAfter : Int) →
    s.cmd.tls.find? (fun e => e.1 == conn) = none →
    ∃ t, exec (.tlsRecordRx conn (some c) []) s = .next t ∧ Only [.cmd] s t ∧
      t.cmd.conns = s.cmd.conns.filter (fun e => e.1 != conn) ++ [(conn, c.roles)]) ∧
  (∀ (conn : Nat) (held bytes : List Byte) (s : State), takesPackets .net s = true → (ifPorts s).isSome = true →
    s.cmd.conns.any (fun e => e.1 == conn) = true →
    held = (match s.cmd.tls.find? (fun e => e.1 == conn) with | some e => e.2 | none => []) →
    exec (.tlsRecordRx conn none bytes) s = .next (tlsPackets conn (bytes.length + 1) (held ++ bytes) s)) ∧
  (∀ (conn : Nat) (s : State), ∃ t, exec (.tlsConnectionEnd conn) s = .next t ∧
    t.cmd.conns.any (fun e => e.1 == conn) = false ∧ t.cmd.tls.any (fun e => e.1 == conn) = false) ∧
  (∀ (port : Nat) (s : State), running s = true → port < 3 →
    (portOn s port = true → (portAt s port).link = true →
      ∃ t, exec (.linkLoss port) s = .next t ∧ Only [.net, .evr, .hlt] s t ∧ (portAt t port).link = false ∧
        (portAt t port).loss = true ∧ detOn t 0x20 port = true) ∧
    (∀ speed, portOn s port = true → injOn s 0x20 port = false →
      ∃ t, exec (.portLinkUp port speed) s = .next t ∧ Only [.net] s t ∧ (portAt t port).link = true ∧
        (portAt t port).speed = (if pv s 0x0902 port 1 1 0 = 1 ∧ speed = 1 then 1 else 2)) ∧
    (∀ c, (portAt s port).loss = true → (portAt s port).clearAt = some c → c + secT 1 ≤ td0 s → injOn s 0x20 port = false →
      ∃ t, exec (.netLaneRestored port) s = .next t ∧ Only [.net, .evr, .hlt] s t ∧ (portAt t port).loss = false ∧
        detOn t 0x20 port = false))

/-- The field barrier's frames complete in both directions; three bad downstream frames put the field side into SAFE (R412, R414, R415, R416, R417, R418, R419, R421, R429, R430). -/
def Obligations.FieldBarrierRowsComplete : Prop :=
  (∀ s : State, s.pw.convertersOn = true → atMultiple 8 s.fio.frameIdx s = true →
    ∃ t, exec .fieldFrameStart s = .next t ∧ t.fio.seq = (s.fio.seq + 1) % 256 ∧ t.fio.cfgIdx = (s.fio.cfgIdx + 1) % 32 ∧
      t.fio.cfgData = fieldCfgWord s s.fio.cfgIdx ∧ t.fio.bindEn = s.pads.bindOut ∧ t.pr.bindDrop = false ∧
      (s.pr.bindDrop = true → t.pads.bindOut = false) ∧
      (s.fio.restorePend = true → t.fio.up = true ∧ t.fio.restorePend = false ∧ detOn t 0x0D 0 = false)) ∧
  (∀ (di chg1 chg2 chg3 first last level : Nat) (temp : Int) (s : State), s.pw.convertersOn = true →
    ∃ t, exec (.fieldUpstreamRx di chg1 chg2 chg3 first last level temp) s = .next t ∧ t.fio.everUp = true ∧
      t.fio.badRun = 0 ∧ t.fio.safeRep = s.fio.fsSafe ∧ t.fio.upSeq = some s.fio.fsSeq ∧ t.fio.temp = temp ∧
      ∀ n, n < 16 → (diOf t n).state = di.testBit n) ∧
  (∀ s : State, s.pw.convertersOn = true →
    ∃ t, exec .fieldUpstreamMissing s = .next t ∧ t.fio.upErr = satInc 32 s.fio.upErr ∧ t.fio.badRun = s.fio.badRun + 1 ∧
      t.fio.goodRun = 0 ∧ (s.fio.everUp = true → 2 ≤ s.fio.badRun → detOn t 0x0D 0 = true)) ∧
  (∀ s : State, s.pw.convertersOn = true → s.fio.everUp = false →
    ∃ t, exec .fieldSelftestTimeout s = .next t ∧ detOn t 0x0D 0 = true ∧ t.boot.failedTests = 8 :: s.boot.failedTests) ∧
  (∀ s : State, s.pw.convertersOn = true → injOn s 0x0D 0 = false →
    ∃ t, exec .fieldDownstreamRx s = .next t ∧ Only [.fio] s t ∧ t.fio.fsBad = 0 ∧ t.fio.fsGood = s.fio.fsGood + 1 ∧
      t.fio.fsSeq = s.fio.seq ∧ t.fio.fsBind = s.fio.bindEn ∧
      t.fio.fsSafe = (!s.fio.released || (s.fio.fsSafe && decide (s.fio.fsGood = 0)))) ∧
  (∀ s : State, ∃ t, exec .fieldDownstreamMissing s = .next t ∧ Only [.fio] s t ∧ t.fio.fsBad = s.fio.fsBad + 1 ∧
    t.fio.fsGood = 0 ∧ t.fio.sentCmd = s.fio.sentCmd ∧
    (2 ≤ s.fio.fsBad → t.fio.fsSafe = true ∧ t.fio.fsLaunch = [] ∧
      ∀ n, n < 8 → s.pw.convertersOn = true → (doOf s n).shut = false → s.fio.lockout.getLsbD (doGroup n) = false →
        (doOf s n).inhibit = false →
        (doOf t n).driven = (s.fio.fsRel && (fsCfg s 16).testBit n && !fsTrip s n))) ∧
  (∀ (n : Nat) (l : FieldLaunch) (s : State), n < 8 → s.fio.fsLaunch.find? (fun x => x.dout == n) = some l →
    ∃ t, exec (.doLaunchSwitch n) s = .next t ∧ Only [.fio] s t ∧ (doOf t n).cmd = l.level ∧
      t.fio.fsLaunch = s.fio.fsLaunch.filter (fun x => x.dout != n))

/-- The field diagnostics complete: detectors in force, cleared, thermal retry, supply groups (R68, R423, R424, R426, R431, R432, R433). -/
def Obligations.FieldDiagnosticRowsComplete : Prop :=
  (∀ (n : Nat) (s : State), n < 8 →
    ((doOf s n).driven = true → (doOf s n).overload = false →
      ∃ t, exec (.fioDoOverload n) s = .next t ∧ Only [.fio, .evr, .hlt] s t ∧ (doOf t n).overload = true ∧ detOn t 0x0E n = true) ∧
    (owSupervised s n = true → (doOf s n).openW = false →
      ∃ t, exec (.fioDoOpenWire n) s = .next t ∧ Only [.fio, .evr, .hlt] s t ∧ (doOf t n).openW = true ∧ detOn t 0x0F n = true) ∧
    ((doOf s n).driven = true →
      ∃ t, exec (.fioDoOvertemp n) s = .next t ∧ Only [.fio, .evr, .hlt] s t ∧ (doOf t n).overtemp = true ∧
        (doOf t n).shut = true ∧ (doOf t n).driven = false ∧ (doOf t n).tsd = satInc 32 (doOf s n).tsd ∧ detOn t 0x10 n = true) ∧
    ((doOf s n).shut = true → due s (doOf s n).shutAt (msT 100) = true →
      ∃ t, exec (.doThermalRetry n) s = .next t ∧ Only [.fio] s t ∧ (doOf t n).shut = false ∧ (doOf t n).cmd = (doOf s n).cmd) ∧
    ((doOf s n).driven = false → doPaired s n = false → (doOf s n).extv = false →
      ∃ t, exec (.fioDoExtVoltage n) s = .next t ∧ Only [.fio, .evr, .hlt] s t ∧ (doOf t n).extv = true ∧ detOn t 0x15 n = true)) ∧
  (∀ (n : Nat) (s : State), n < 16 →
    ((fsCfg s 18).testBit n = true → (diOf s n).state = false → (diOf s n).openW = false →
      ∃ t, exec (.fioDiOpenWire n) s = .next t ∧ (diOf t n).openW = true ∧ detOn t 0x11 n = true ∧ diValidity t n = 1) ∧
    ((diOf s n).overload = false →
      ∃ t, exec (.fioDiOverload n) s = .next t ∧ (diOf t n).overload = true ∧ detOn t 0x12 n = true ∧ diValidity t n ≠ 0) ∧
    ((diOf s n).overtemp = false →
      ∃ t, exec (.fioDiOvertemp n) s = .next t ∧ (diOf t n).overtemp = true ∧ detOn t 0x13 n = true ∧ diValidity t n = 1) ∧
    ((diOf s n).frozen = true → injOn s 0x26 n = false → due s (diOf s n).lastChange (msT (pv s 0x0554 n 4 2 5000)) = true →
      ∃ t, exec (.diChatterCleared n) s = .next t ∧ (diOf t n).frozen = false ∧ detOn t 0x26 n = false ∧
        diState t n = (diOf s n).state)) ∧
  (∀ (det n : Nat) (s : State), det ∈ [0x0E, 0x0F, 0x10, 0x11, 0x12, 0x13, 0x15] → detOn s det n = true → injOn s det n = false →
    ∃ t, exec (.fioDiagCleared det n) s = .next t ∧ detOn t det n = false ∧
      Only [.fio, .evr, .hlt, .le, .dr, .gr, .pr] s t) ∧
  (∀ (g : Nat) (s : State), g < 2 →
    (pv s 0x0552 g 0 1 1 = 1 → s.fio.low.getLsbD g = false →
      ∃ t, exec (.fioSupplyLow g 1) s = .next t ∧ Only [.fio, .evr, .hlt] s t ∧ t.fio.low = setB s.fio.low g true ∧
        t.fio.lockout = s.fio.lockout ∧ detOn t 0x14 g = true) ∧
    (pv s 0x0552 g 0 1 1 = 1 → s.fio.lockout.getLsbD g = false →
      ∃ t, exec (.fioSupplyLow g 2) s = .next t ∧ Only [.fio, .evr, .hlt] s t ∧ t.fio.low = setB s.fio.low g true ∧
        t.fio.lockout = setB s.fio.lockout g true ∧ detOn t 0x14 g = true ∧
        ∀ n, n < 8 → doGroup n = g → (doOf t n).driven = false) ∧
    (s.fio.low.getLsbD g = true → injOn s 0x14 g = false →
      ∃ t, exec (.fioSupplyRestored g true) s = .next t ∧ Only [.fio, .evr, .hlt] s t ∧
        t.fio.low = setB s.fio.low g false ∧ t.fio.lockout.getLsbD g = false ∧ detOn t 0x14 g = false))

/-- An input on for longer than its maximum-on time writes one DI_MAX_ON and nothing further until it has gone off (R424). -/
def Obligations.MaximumOnTimeTellsOnce : Prop :=
  (∀ (n : Nat) (s : State), n < 16 → pv s 0x0555 n 2 2 0 ≠ 0 → (diOf s n).state = true →
    due s (diOf s n).onSince (secT (pv s 0x0555 n 2 2 0)) = true →
    ((diOf s n).maxOnDone = false → exec (.diMaxOn n) s =
      .next (submit .field 0x6004 n (updDi n (fun d => { d with maxOnDone := true }) s))) ∧
    ((diOf s n).maxOnDone = true → exec (.diMaxOn n) s = .next s)) ∧
  (∀ (e : DiEdge) (s : State), e.input < 16 → (diOf (takeEdge s e) e.input).maxOnDone = false ∧
    ∀ n, n < 16 → n ≠ e.input → (diOf (takeEdge s e) n).maxOnDone = (diOf s n).maxOnDone)

/-- The process barrier's frames and the sequencer's rows complete (R416, R441, R448, R449, R450, R452, R454, R459, R460, R461, R462). -/
def Obligations.ProcessBarrierRowsComplete : Prop :=
  (∀ (arrives : Bool) (s : State), hasUpc s = true → s.pw.convertersOn = true →
    atMultiple 32 s.upc.frameIdx s = true → ∃ t, exec (.processFrameStart arrives) s = .next t ∧ Only [.upc, .evr, .hlt] s t ∧ t.upc.seq = (s.upc.seq + 1) % 256 ∧
      t.upc.cfgIdx = (s.upc.cfgIdx + 1) % 85 ∧ t.upc.restorePend = false ∧
      (s.upc.restorePend = true → t.upc.up = true ∧ detOn t 0x16 0 = false) ∧
      (arrives = true → injOn s 0x16 0 = false → t.upc.psBad = 0 ∧ t.upc.psGood = s.upc.psGood + 1) ∧
      (arrives = false → t.upc.psBad = s.upc.psBad + 1 ∧ t.upc.psGood = 0 ∧ t.upc.psDownErr = true)) ∧
  (∀ (seq status pl24 : Nat) (rbs chStat : List Nat) (temp : Int) (s : State), hasUpc s = true →
    ∃ t, exec (.processUpstreamRx seq status rbs chStat pl24 temp) s = .next t ∧ t.upc.everUp = true ∧ t.upc.badRun = 0 ∧
      t.upc.upSeq = some seq ∧ t.upc.safeRep = status.testBit 0 ∧ t.upc.configured = status.testBit 2 ∧ t.upc.pl24 = pl24 ∧
      t.upc.temp = temp ∧ t.upc.snapReqs = [] ∧ (status.testBit 0 = true → s.upc.up = true → detOn t 0x16 0 = true)) ∧
  (∀ s : State, hasUpc s = true →
    (∃ t, exec .processUpstreamMissing s = .next t ∧ t.upc.upErr = satInc 32 s.upc.upErr ∧ t.upc.badRun = s.upc.badRun + 1 ∧
      t.upc.goodRun = 0 ∧ (2 ≤ s.upc.badRun → detOn t 0x16 0 = true)) ∧
    (s.upc.everUp = false → ∃ t, exec .upcSelftestTimeout s = .next t ∧ detOn t 0x16 0 = true) ∧
    (3 ≤ s.upc.psBad → s.upc.psSafe = false → exec .processSideSafe s = .next { s with upc := { s.upc with
      psSafe := true, stopped := true, prevConv := none } })) ∧
  (∀ (code : Int) (ovr : Bool) (s : State), hasUpc s = true → s.upc.stopped = false →
    (∀ k, s.upc.urgent = none → s.upc.running = true → (s.upc.ent.getD s.upc.cur default).cfg = some k → 0 < s.upc.discLeft →
      ∃ t, exec (.conversionComplete code ovr) s = .next t ∧ Only [.upc] s t ∧ t.upc.discard = satInc 32 s.upc.discard ∧
        t.upc.prevConv = some (k.chan, k.meas, k.filter, k.rate) ∧ t.upc.results = s.upc.results) ∧
    (∀ k, s.upc.urgent = none → s.upc.running = true → (s.upc.ent.getD s.upc.cur default).cfg = some k → s.upc.discLeft = 0 →
      ∃ t, exec (.conversionComplete code ovr) s = .next t ∧ t.upc.discard = s.upc.discard ∧
        t.upc.prevConv = some (k.chan, k.meas, k.filter, k.rate) ∧
        (s.upc.up = true → t.upc.results.getLast? = some (s.upc.cur, false,
          ovr || beyondRange (procChan s k.chan).mode k.meas code || injOn s 0x1A k.chan, code))) ∧
    (∀ u, s.upc.urgent = some u → u.verify = false → s.upc.discLeft = 0 →
      ∃ t, exec (.conversionComplete code ovr) s = .next t ∧ (s.upc.urgWait = none → t.upc.urgent = none) ∧
        t.cmd = (respond u.req 0x0041 .ok false (leBytes 4 (unsgn 32 code) ++
          leBytes 4 (fOfRat (codeValue (procChan s u.chan).mode u.meas code 1).1
            (codeValue (procChan s u.chan).mode u.meas code 1).2).toNat ++ stamp (resultStamp s u.filter u.rate)) s).cmd)) ∧
  (∀ s : State, hasUpc s = true → s.upc.startIn = true → s.upc.stopped = false →
    (s.upc.running = false → exec .seqPassStart s = .next (startPass { s with upc := { s.upc with startIn := false } })) ∧
    (s.upc.running = true → s.upc.latched = false →
      exec .seqPassStart s = .next { s with upc := { s.upc with startIn := false, latched := true } }) ∧
    (s.upc.running = true → s.upc.latched = true → ∃ t, exec .seqPassStart s = .next t ∧ Only [.upc, .evr] s t ∧
      t.upc.overlap = satInc 32 s.upc.overlap ∧ t.upc.latched = true))

/-- The process channel rows complete: verification, mismatch, start-up test, diagnostics, mode write (R446, R452, R454, R455, R456, R458, R464, R465). -/
def Obligations.ProcessChannelRowsComplete : Prop :=
  (∀ (n : Nat) (s : State), hasUpc s = true → n < 4 →
    (verifyDue s n = true → ∃ t, exec (.readbackVerification n) s = .next t ∧ (procChan t n).verifyAt = td0 s ∧
      (urgFree s = true → t.upc.urgPend = some { verify := true, req := ⟨.hpi, 0, 0⟩, chan := n, meas := 4, filter := 1
                                                 rate := 8, settle := 0 })) ∧
    (heldFor s (procChan s n).mismatchSince (msT 100) = true → (procChan s n).mismatch = false →
      ∃ t, exec (.upcReadbackMismatch n) s = .next t ∧ Only [.upc, .evr, .hlt] s t ∧ (procChan t n).mismatch = true ∧
        detOn t 0x17 n = true) ∧
    ((procChan s n).mismatch = true → heldFor s (procChan s n).agreeSince (secT 1) = true →
      ∃ t, exec (.readbackMismatchClear n) s = .next t ∧ Only [.upc, .evr, .hlt] s t ∧ (procChan t n).mismatch = false ∧
        detOn t 0x17 n = false) ∧
    (∀ rb mv, heldFor s (procChan s n).testAt (msT 5) = true →
      ∃ t, exec (.outputStartupTest n rb mv) s = .next t ∧ Only [.upc, .evr, .hlt] s t ∧ (procChan t n).tested = true ∧
        (procChan t n).testAt = none ∧ (rb < 80 → (procChan t n).openLoop = true ∧ detOn t 0x18 n = true) ∧
        (80 ≤ rb → (procChan t n).openLoop = (procChan s n).openLoop)) ∧
    (heldFor s (procChan s n).headSince (msT (pv s 0x0B05 n 0 2 500)) = true → (procChan s n).compliance = false →
      ∃ t, exec (.upcCompliance n) s = .next t ∧ Only [.upc, .evr, .hlt] s t ∧ (procChan t n).compliance = true ∧
        detOn t 0x19 n = true) ∧
    (heldFor s (procChan s n).openSince (msT 100) = true → (procChan s n).openLoop = false →
      ∃ t, exec (.upcOpenLoop n) s = .next t ∧ (procChan t n).openLoop = true ∧ detOn t 0x18 n = true ∧
        procValidity t n = 1) ∧
    (heldFor s (procChan s n).rangeSince (msT (pv s 0x0B05 n 2 2 1000)) = true → (procChan s n).range = false →
      ∃ t, exec (.upcSignalRange n) s = .next t ∧ Only [.upc, .evr, .hlt] s t ∧ (procChan t n).range = true ∧
        detOn t 0x1A n = true) ∧
    (∀ high, (procChan s n).mode = 5 → pv s 0x0B05 n 4 1 1 = 1 → due s (procChan s n).tcAt (secT 1) = true →
      ∃ t, exec (.tcTest n high) s = .next t ∧ (procChan t n).tcAt = td0 s ∧
        (procChan t n).tcHigh = (high || injOn s 0x1B n) ∧
        (high = true → (procChan s n).tcOpen = false → (procChan t n).tcOpen = true ∧ detOn t 0x1B n = true)) ∧
    ((procChan s n).openLoop = true → heldFor s ((procChan s n).clearSince.getD 0 none) (secT 1) = true →
      ∃ t, exec (.upcDiagCleared 0x18 n) s = .next t ∧ (procChan t n).openLoop = false ∧ detOn t 0x18 n = false) ∧
    ((procChan s n).compliance = true → heldFor s ((procChan s n).clearSince.getD 1 none) (secT 1) = true →
      ∃ t, exec (.upcDiagCleared 0x19 n) s = .next t ∧ (procChan t n).compliance = false ∧ detOn t 0x19 n = false) ∧
    ((procChan s n).range = true → heldFor s ((procChan s n).clearSince.getD 2 none) (secT 1) = true →
      ∃ t, exec (.upcDiagCleared 0x1A n) s = .next t ∧ (procChan t n).range = false ∧ detOn t 0x1A n = false) ∧
    ((procChan s n).tcOpen = true → heldFor s ((procChan s n).clearSince.getD 3 none) (secT 1) = true →
      ∃ t, exec (.upcDiagCleared 0x1B n) s = .next t ∧ (procChan t n).tcOpen = false ∧ detOn t 0x1B n = false)) ∧
  (∀ (r : Req) (n : Nat) (v : Word) (s : State), Served r 0x0011 s → hasUpc s = true →
    (s.le.mode = .notStarted ∨ s.le.mode = .stop) → s.pr.st ≠ .joining → s.pr.st ≠ .twin → getFld v.toNat 0 4 ≤ 7 →
    tableServes s n (getFld v.toNat 0 4) (getFld v.toNat 8 4) = true →
    exec (.upcChModeWrite r n v) s = .next (answerWrite r .ok
      (updChan n (fun c => { c with newMode := some (getFld v.toNat 0 4, getFld v.toNat 4 4, getFld v.toNat 8 4) }) s)))

/-- The remote I/O rows complete: station frames in mode 1, the Ducia ring in mode 2 (R392, R394, R396, R400, R401, R402, R404, R405, R407). -/
def Obligations.RemoteIoRowsComplete : Prop :=
  (∀ (k flags seq rxSeq tx rx : Nat) (mark data : List Byte) (s : State), rioMode s = 1 → (stations s).contains k = true →
    (s.net.port.getD 2 default).link = true →
    (usesAgreed s = false → (stOf s k).used ≠ some seq → seq = wrapInc 32 s.rio.seq →
      ∃ t, exec (.rioUpstreamRx k flags seq rxSeq mark tx rx data true) s = .next t ∧ Only [.rio, .pr] s t ∧
        (stOf t k).used = some seq ∧ (stOf t k).held = data ∧ (stOf t k).flags = flags % 64 ∧
        (stOf t k).heldOk = (flags % 4 == 3 && mark == watermark s)) ∧
    (usesAgreed s = false → (stOf s k).used ≠ some seq → seq ≠ wrapInc 32 s.rio.seq →
      ∃ t, exec (.rioUpstreamRx k flags seq rxSeq mark tx rx data true) s = .next t ∧ Only [.rio] s t ∧
        (stOf t k).late = satInc 32 (stOf s k).late ∧ (stOf t k).held = (stOf s k).held) ∧
    (usesAgreed s = true →
      ∃ t, exec (.rioUpstreamRx k flags seq rxSeq mark tx rx data true) s = .next t ∧ Only [.rio] s t ∧
        (stOf t k).own = some (seq, data) ∧ (stOf t k).held = (stOf s k).held)) ∧
  (∀ s : State, rioMode s = 1 → running s = true → mayTx s = true → rioSent s = false →
    gridInstant s (s.rio.relT1 + rioSend s) ≤ td1 s →
    ∃ t, exec .rioDownstreamSend s = .next t ∧ Only [.rio, .net, .evr] s t ∧ ∀ k, k ∈ stations s →
      (stOf t k).sent = (if (stOf s k).cyclic then stImage s k else lossImage s k) ∧
      (stOf t k).sentHdr.1 = (if (stOf s k).cyclic then 1 else 3)) ∧
  (∀ s : State, rioMode s = 2 → running s = true → ringMaster s = true → mayTx s = true → due s s.rio.ringTd0 (msT 2) = true →
    ∃ t, exec .duciaRingCycle s = .next t ∧ Only [.rio, .net, .evr, .hlt, .le, .pr] s t ∧
      t.rio.ringCycles = s.rio.ringCycles + 1 ∧ t.rio.ringTd0 = td0 s ∧
      ∀ k, k ∈ stations s → (stOf t k).sent = (stImage s k).take 64) ∧
  (∀ (k : Nat) (data : List Byte) (s : State), rioMode s = 2 → (stations s).contains k = true → usesAgreed s = false →
    ((stOf s k).used ≠ some s.rio.ringCycles →
      ∃ t, exec (.duciaRingFrameRx k data true) s = .next t ∧ (stOf t k).used = some s.rio.ringCycles ∧
        (stOf t k).held = data.take 64 ∧ (stOf t k).missRun = 0) ∧
    (∃ t, exec (.duciaRingFrameRx k data false) s = .next t ∧ Only [.rio] s t ∧
      (stOf t k).ring = (data.take 64, (stOf s k).ring.2) ∧ (stOf t k).held = (stOf s k).held))

/-- The disturbance recorder's rows complete (R474, R476, R478, R479, R481, R486, R487, R490, R496, R497, R539). -/
def Obligations.RecorderRowsComplete : Prop :=
  (∀ (r : Req) (s : State), pairRefuses s = false →
    (∀ arm, Served r 0x0060 s → arm ≤ 1 → exec (.drArm r arm) s =
      .next (answer r 0x0060 .ok (if s.pr.st = .twin then schedTwin 8 [arm] s else applyArm (arm == 1) s))) ∧
    (∀ unit c, Served r 0x0061 s → unitCfg s unit = some c → c.type = 8 → exec (.drTrigger r unit) s =
      .next (answer r 0x0061 .ok (if s.pr.st = .twin then schedTwin 9 [unit] s else askManual unit s)))) ∧
  (∀ (a : Nat) (fs : List Firing) (rec : Record) (s : State), s.dr.coll = some (a, fs) → s.dr.cap = none →
    a + usT (100 + fMax s) ≤ td1 s → newRecord s fs = some rec →
    ∃ t, exec .recordOpen s = .next t ∧ Only [.dr, .evr, .gr] s t ∧ t.dr.cap = some rec ∧ t.dr.st = .capturing ∧
      t.dr.chains = s.dr.chains + 1 ∧ t.dr.nextId = s.dr.nextId + 1 ∧ t.dr.coll = none) ∧
  (∀ (rec : Record) (s : State), s.dr.cap = some rec → rec.endSlot ≤ s.acq.waves →
    (rec.pendEnd ≤ rec.limSlot → ∃ t, exec .recordEnd s = .next t ∧ Only [.dr, .evr, .gr] s t ∧ t.dr.cap = none ∧
      ∃ x, x ∈ t.dr.reel ∧ x.id = rec.id ∧ x.state = 1) ∧
    (rec.limSlot < rec.pendEnd → ∃ t c, exec .recordEnd s = .next t ∧ Only [.dr, .evr, .gr] s t ∧ t.dr.cap = some c ∧
      c.prev = rec.id ∧ c.contNo = rec.contNo + 1 ∧ t.dr.truncCnt = satInc 32 s.dr.truncCnt)) ∧
  (∀ s : State, s.dr.st = .holdOff → due s s.dr.holdAt (msT (100 * pv s 0x0701 0 2 2 50)) = true →
    exec .holdOffExpiry s = .next { s with dr := { s.dr with st := .armed } }) ∧
  (∀ (high prot : Nat) (s : State),
    (50 ≤ max high prot → s.dr.step < 5 → (∀ a, s.dr.stepAt = some a → a + msT 20 ≤ td1 s) →
      ∃ t, exec (.rateStepUp high prot) s = .next t ∧ Only [.dr, .evr] s t ∧ t.dr.step = s.dr.step + 1 ∧
        t.dr.stepCnt = satInc 32 s.dr.stepCnt ∧ t.dr.stepAt = some (td1 s)) ∧
    (∀ a, max high prot ≤ 20 → s.dr.lowSince = some a → 0 < s.dr.step → due s a (secT 1) = true →
      ∃ t, exec (.rateStepDown high prot) s = .next t ∧ Only [.dr, .evr] s t ∧ t.dr.step = s.dr.step - 1 ∧
        t.dr.lowSince = some (td0 s))) ∧
  (∀ (high : Bool) (s : State), (if high then s.dr.full.2 else s.dr.full.1) = false → (high = true → hasTw s = true) →
    (keepFrom s).isSome = true →
    ∃ t, exec (.ringFull high) s = .next t ∧ Only [.dr, .evr, .gr] s t ∧
      t.dr.full = (if high then (s.dr.full.1, true) else (true, s.dr.full.2)) ∧
      (∀ rec, s.dr.cap = some rec → t.dr.cap = none ∧ ∃ x, t.dr.owed = some x ∧ x.id = rec.id)) ∧
  (∀ (id high prot : Nat) (rec : Record) (s : State), s.dr.reel.find? (fun x => x.id == id && x.state == 1) = some rec →
    ∃ t, exec (.reelDrainDone id high prot) s = .next t ∧ Only [.dr, .evr] s t ∧ t.dr.full = (false, false) ∧
      t.dr.backHigh = high ∧ t.dr.backProt = prot ∧ ∃ x, x ∈ t.dr.reel ∧ x.id = id ∧ x.state = 2) ∧
  (∀ (r : Req) (s : State),
    (∀ from_ max_, Served r 0x0062 s → 1 ≤ max_ → max_ ≤ 63 → exec (.drList r from_ max_) s = .next (respond r 0x0062 .ok
      (decide (max_ < ((allRecords s).filter (fun x => from_ == 0 || decide (x.id ≤ from_))).length))
      ((((allRecords s).filter (fun x => from_ == 0 || decide (x.id ≤ from_))).take max_).flatMap indexEntry) s)) ∧
    (∀ id offset len x, Served r 0x0063 s → len ≤ 4080 → (allRecords s).find? (fun y => y.id == id) = some x →
      offset + len ≤ x.bytes.length → exec (.drRead r id offset len) s =
        .next (respond r 0x0063 .ok false (leBytes 8 offset ++ bytesAt x.bytes offset len) s)) ∧
    (∀ id set format chain file offset x, Served r 0x0064 s → set ≤ 1 → (set = 1 → hasTw s = true) → format ≤ 1 → chain ≤ 1 →
      file ≤ 3 → (allRecords s).find? (fun y => y.id == id) = some x → 2 ≤ x.state → offset = 0 →
      ∃ t, exec (.drExport r id set format chain file offset) s = .next t ∧ Only [.cmd, .pads] s t ∧
        ∃ more payload, t = respond r 0x0064 .ok more payload s))

/-- The event recorder's rows complete (R507, R508, R511, R512, R513, R514, R519, R520, R521). -/
def Obligations.EventRecorderRowsComplete : Prop :=
  (∀ s : State,
    (s.evr.subq = [] → exec .eventEntry s = .next (writeLost s)) ∧
    (∀ b e, lowestCode (entryHeads s.evr.subq) = some (b, e) → s.evr.owed = false → s.evr.front.length < 4096 → rateLimit s e = none →
      ∃ t, exec .eventEntry s = .next t ∧ s.evr.subq.erase (b, e) <+: t.evr.subq ∧ s.evr.newest < t.evr.newest ∧
        s.evr.front <+: t.evr.front ∧ (t.evr.front.drop s.evr.front.length).head?.map (·.seq) = some (s.evr.newest + 1))) ∧
  (∀ (code depth period n : Nat) (b : List Byte) (s : State), prm s 0x0801 code = some b → depth = leAt b 0 2 →
    period = leAt b 4 4 → n = (td0 s - (bucketOf s code depth).refillAt) / msT (max 1 period) →
    s.evr.buckets.any (fun (x : Bucket) => x.code == code) = true → 0 < n → (bucketOf s code depth).tokens < depth →
    ∃ t, exec (.rateRefill code) s = .next t ∧
      (bucketOf t code depth).tokens = min depth ((bucketOf s code depth).tokens + n)) ∧
  (∀ (code depth : Nat) (b : List Byte) (s : State), prm s 0x0801 code = some b → depth = leAt b 0 2 →
    due s (bucketOf s code depth).sumAt (secT 60) = true → (bucketOf s code depth).supp ≠ 0 → s.evr.front.length < 4096 →
    s.evr.owed = false →
    ∃ t, exec (.suppressedSummary60s code) s = .next t ∧ (bucketOf t code depth).supp = 0 ∧ s.evr.newest < t.evr.newest) ∧
  (∀ s : State,
    (s.evr.front ≠ [] → due s s.evr.commitAt (secT 1) = true → exec .commitPeriod s = .next { s with evr :=
      if s.evr.freeze.isSome then { s.evr with flushPend := true } else { s.evr with commitPend := true } }) ∧
    (s.evr.commitPend = true → s.evr.committing = false → s.evr.freeze = none → s.fl.running = false →
      s.cmd.restarting = none → exec .commitStart s = .next { s with evr := { s.evr with
        commitPend := false, committing := !s.evr.front.isEmpty, commitLeft := s.evr.front.length } }) ∧
    (∀ x, s.evr.committing = true → (s.evr.front.take (min 256 s.evr.commitLeft)).getLast? = some x →
      ∃ t, exec .pageCommitComplete s = .next t ∧ t.evr.committed = x.seq ∧ t.evr.commitCnt = satInc 32 s.evr.commitCnt ∧
        t.evr.commitLeft = s.evr.commitLeft - min 256 s.evr.commitLeft ∧
        t.evr.committing = decide (256 < s.evr.commitLeft))) ∧
  (∀ (r : Req) (s : State),
    (∀ from_ max_ options, Served r 0x0070 s → 1 ≤ max_ → max_ ≤ 63 →
      exec (.evrRead r from_ max_ options) s = .next (respond r 0x0070 .ok
        (decide (max_ < ((s.evr.log ++ (if options % 2 = 1 then s.evr.front else [])).filter (fun (x : Rec) =>
          x.kind != 4 && decide (Nat.max from_ s.evr.first ≤ x.seq))).length)) (evrBounds s ++
        ((((s.evr.log ++ (if options % 2 = 1 then s.evr.front else [])).filter (fun (x : Rec) => x.kind != 4 &&
          decide (Nat.max from_ s.evr.first ≤ x.seq))).take max_).flatMap recBytes)) s)) ∧
    (Served r 0x0071 s → s.evr.freeze = none →
      ∃ t, exec (.evrFreeze r) s = .next t ∧ Only [.evr, .cmd, .pads] s t ∧ t.evr.freeze = some (r.session, td0 s) ∧
        t.evr.flushPend = (s.evr.committing || s.evr.commitPend) ∧ t.evr.committing = false ∧ t.evr.front = s.evr.front) ∧
    (∀ a, Served r 0x0072 s → s.evr.freeze = some (r.session, a) →
      ∃ t, exec (.evrThaw r) s = .next t ∧ Only [.evr, .cmd, .pads] s t ∧ t.evr.freeze = none ∧ t.evr.commitPend = true)) ∧
  (∀ (h a : Nat) (s : State), s.evr.freeze = some (h, a) → due s a (secT 30) = true →
    ∃ t, exec .freezeTimeout s = .next t ∧ Only [.evr] s t ∧ t.evr.freeze = none ∧ t.evr.commitPend = true)

/-- The pair link's cells complete (R127, R324, R529, R530, R531, R535, R538, R542, R546). -/
def Obligations.PairLinkRowsComplete : Prop :=
  (∀ s : State, running s = true → pairOn s = true →
    (∀ serial est st act mark lane wave bind flags kind vals fill lat d digest total off bytes err, ∀ c, c ∈ [
        Instr.risiaHelloRx false serial est st act mark, .risiaHeartbeatRx false lane st act wave bind flags,
        .risiaAgreeRx false kind wave vals fill lat, .risiaDescRx false d, .risiaDigestRx false wave digest,
        .risiaControlRx false vals, .risiaBulkRx false kind total off bytes, .risiaTimeRx false err] →
      exec c s = .next { s with pr := { s.pr with linkErr := satInc 32 s.pr.linkErr } }) ∧
    (∀ serial est st act mark, s.pr.st = .twin → listed s serial = true →
      ∃ t, exec (.risiaHelloRx true serial est st act mark) s = .next t ∧ Only [.pr, .evr, .hlt] s t ∧ t.pr.hello = true ∧
        t.pr.partner = serial % 2 ^ 64 ∧ t.pr.partnerEst = est ∧ t.pr.partnerActive = act ∧ t.pr.partnerMark = mark.take 8 ∧
        t.pr.lanes = 3#2 ∧ t.pr.laneAt = (td0 s, td0 s) ∧ t.pr.st = .twin ∧ t.pr.active = s.pr.active) ∧
    (∀ lane st act wave bind flags, s.pr.active = false → s.pr.verdict = none →
      ∃ t, exec (.risiaHeartbeatRx true lane st act wave bind flags) s = .next t ∧ Only [.pr, .evr, .hlt] s t ∧
        t.pr.partnerSt = pairStOf st ∧ t.pr.partnerActive = act ∧ t.pr.partnerWave = wave % 2 ^ 32 ∧ t.pr.partnerBind = bind ∧
        t.pr.partnerFault = flags.testBit 2 ∧ t.pr.partnerBindIn = flags.testBit 5 ∧
        t.pr.lanes.getLsbD (lane % 2) = true ∧ (s.pads.bindIn = bind → t.pr.bindDiff = none)) ∧
    (∀ kind wave vals fill lat, takesAgree s = true → kind ≠ 6 → kind ≠ 7 →
      ∃ t, exec (.risiaAgreeRx true kind wave vals fill lat) s = .next t ∧ Only [.pr] s t ∧
        t.pr.agree = s.pr.agree ++ [⟨kind, wave % 2 ^ 32, vals⟩]) ∧
    (∀ d, takesAgree s = true → exec (.risiaDescRx true d) s =
      .next { s with pr := { s.pr with agree := s.pr.agree ++ [⟨2, s.acq.wave % 2 ^ 32, descVals d⟩] } }) ∧
    (∀ wave digest, s.pr.st = .twin → s.pr.pDigests = [] →
      s.pr.digests.find? (fun x => x.1 == wave % 2 ^ 32) = some (wave % 2 ^ 32, digest % 2 ^ 64) →
      exec (.risiaDigestRx true wave digest) s = .next { s with pr := { s.pr with
        digests := s.pr.digests.filter (fun x => x.1 != wave % 2 ^ 32), pDigests := [] } }) ∧
    (∀ w cause, takesAgree s = true → exec (.risiaControlRx true [2, w, cause]) s = .next { s with pr := { s.pr with
      hand := some (w % 2 ^ 32, cause), handX := [], cells := (6, [4, 2]) :: s.pr.cells } }) ∧
    (s.pr.active = false → exec (.risiaControlRx true [8]) s = .next { s with pr := { s.pr with handCell := true } }) ∧
    (∀ total off bytes, takesAgree s = true → s.pr.joinPhase = 1 → exec (.risiaBulkRx true 2 total off bytes) s =
      .next { s with pr := { s.pr with w0 := total % 2 ^ 32 } }) ∧
    (∀ err, s.pr.st = .twin → err.natAbs ≤ 1000 → exec (.risiaTimeRx true err) s = .next { s with pr := { s.pr with td2Err := some err } }) ∧
    (due s s.pr.hbAt (usT 10) = true → ∃ t flags, exec .pairHeartbeatTx s = .next t ∧ Only [.pr, .pads] s t ∧
      t.pads.hbCode = (if s.pr.active then 1 else 2) ∧
      t.pr.hbAt = td0 s ∧ t.pr.hbCellAt = td0 s ∧ t.pr.cells =
        (2, [1, s.pr.st.toNat, b2n s.pr.active, s.acq.wave, b2n s.pads.bindOut, flags]) ::
        (2, [0, s.pr.st.toNat, b2n s.pr.active, s.acq.wave, b2n s.pads.bindOut, flags]) :: s.pr.cells))

/-- The pair's paths, binding levels and start of roles complete (R530, R531, R532, R534, R549, R550, R551). -/
def Obligations.PairPathRowsComplete : Prop :=
  (∀ s : State, running s = true → s.pr.st = .twin →
    (∀ lane, lane < 2 → s.pr.lanes = 3#2 → injOn s 0x1C 0 = false →
      due s (if lane = 0 then s.pr.laneAt.1 else s.pr.laneAt.2) (usT 40) = true →
      exec (.plkLaneDown lane) s =
        .next (submit .pair 0x900D lane { s with pr := { s.pr with lanes := if lane = 0 then 2#2 else 1#2 } })) ∧
    (s.pr.lanes = 1#2 → pairActs s = true → s.pr.wireOk = true → due s s.pr.laneAt.1 (usT 40) = true →
      ∃ t, exec (.plkLaneDown 0) s = .next t ∧ t.pr.st = .cold ∧ t.pr.active = s.pr.active ∧
        t.pr.tx = (if s.pr.active then s.pr.tx else false)) ∧
    (∀ width, 3300 ≤ width → width ≤ 4700 → injOn s 0x1D 0 = false → s.pr.wireOk = true →
      exec (.hbInPulse width) s = .next { s with pr := { s.pr with
        edgeAt := td0 s, wireAt := td0 s, wireCode := 2
        wireOk := true, hbErr := satAdd 32 s.pr.hbErr (missingEdges (td0 s) s.pr.edgeAt) } }) ∧
    (pairActs s = true → s.pr.wireOk = true → due s s.pr.wireAt (usT 40) = true →
      (s.pr.lanes ≠ 0#2 → exec .hbWireSilent s = .next (fireDet 0x1D 0 0 { s with pr := { s.pr with wireOk := false } })) ∧
      (s.pr.lanes = 0#2 → s.pr.active = false → ∃ t, exec .hbWireSilent s = .next t ∧ t.pr.active = true ∧
        t.pr.st = .solo ∧ t.pr.tx = true ∧ t.pr.takeover = (1, (s.acq.wave + 1) % 65536))) ∧
    (s.pads.bindIn = true → s.pr.handCell = false → s.pr.active = false → pairActs s = true →
      ∃ t, exec (.bindInChange false) s = .next t ∧ t.pads.bindIn = false ∧ t.pr.active = true ∧ t.pr.st = .solo ∧
        t.pr.takeover.1 = 3 ∧ t.pr.takeovers = satInc 32 s.pr.takeovers) ∧
    (s.pads.bindIn = false → ∃ t, exec (.bindInChange true) s = .next t ∧ Only [.pads, .pr] s t ∧
      t.pads.bindIn = true ∧ t.pr.bindInAt = td0 s ∧ t.pr.active = s.pr.active)) ∧
  (∀ s : State,
    (s.pads.bindOut = true → due s s.pr.hbAt (usT 25) = true →
      exec .bindHoldDrop s = .next { s with pads := { s.pads with bindOut := false } }) ∧
    (∀ a, pairActs s = true → s.pr.bindDiff = some a → due s a (usT 100) = true → s.pr.diffTold = false →
      exec .bindFault s = .next (submit .pair 0x900C 1 { s with pr := { s.pr with diffTold := true } }))) ∧
  (∀ (a : Nat) (s : State), s.pr.active = true → s.pr.established = false → s.pr.activeAt = some a → due s a (secT 1) = true →
    exec .established s = .next { s with pr := { s.pr with established := true } }) ∧
  (∀ s : State, pairActs s = true → s.pr.active = false → s.pr.linkOnce = false → s.pr.st = .solo → s.pr.left = false →
    s.pr.faulty = false → due s s.pr.cfgAt (secT 1) = true → s.pr.waitUntil = none →
    (lowerSerial s = true → s.pr.wireOk = false → ∃ t, exec .linkStartTimeout s = .next t ∧ t.pr.active = true ∧
      t.pr.st = .solo ∧ t.pr.tx = true ∧ t.gr.running = true ∧ t.le.halted = false) ∧
    (lowerSerial s = false → s.pr.wireOk = false →
      exec .linkStartTimeout s = .next { s with pr := { s.pr with waitUntil := some (td0 s + secT 1) } }) ∧
    (s.pr.wireOk = true → s.pr.wireCode = 1 →
      ∃ t, exec .linkStartTimeout s = .next t ∧ t.pr.st = .cold ∧ t.pr.active = false ∧ t.pr.tx = false))

/-- The pair's joining and divergence rows complete (R535, R536, R537, R538, R543, R554). -/
def Obligations.PairRoleRowsComplete : Prop :=
  (∀ (snap : Snap) (s : State), running s = true → s.pr.st = .joining → s.pr.active = false → s.pr.joinPhase = 1 →
    snap.wave = s.pr.w0 →
    ∃ t, exec (.joinSnapshotDone snap) s = .next t ∧ t.pr.joinPhase = 2 ∧ t.pr.snapDone = true ∧ t.gr.running = true ∧
      t.le.halted = false ∧ t.le.forces = snap.forces ∧ t.img.group = snap.group ∧ t.acq.wave = snap.wave % 2 ^ 32 ∧
      t.acq.waves = snap.waves ∧ t.rio.seq = snap.rioSeq ∧ t.net.smpCnt = snap.smpCnt ∧
      (s.pr.migrating = false → t.net.pubs = snap.pubs ∧ t.gr.energy = snap.energy ∧ t.gr.tokens = snap.tokens ∧
        t.le.q = snap.logic.q ∧ t.le.m = snap.logic.m ∧ t.le.w = snap.logic.w ∧ t.le.mode = snap.logic.mode)) ∧
  (∀ s : State, running s = true → s.pr.st = .joining → s.pr.active = false → s.pr.joinPhase = 2 → caughtUp s = true →
    (s.pr.migrating = false → ∃ t, exec .joinCatchupDone s = .next t ∧ t.pr.st = .twin ∧ t.pr.tx = true ∧
      t.pr.tripOff = false ∧ t.pr.active = false ∧ t.pr.cells = (6, [9]) :: s.pr.cells) ∧
    (s.pr.migrating = true → ∃ t, exec .joinCatchupDone s = .next t ∧ Only [.pr] s t ∧ t.pr.st = .joining ∧
      t.pr.joinPhase = 3 ∧ t.pr.migAt = td0 s)) ∧
  (∀ (a : Nat) (s : State), s.pr.st = .joining → s.pr.joinAt = some a →
    (∃ t, exec (.joinFailed true) s = .next t ∧ t.pr.st = .solo ∧ t.pr.failAt = some (td0 s) ∧ t.pr.joinAt = none ∧
      t.pr.active = s.pr.active ∧ (s.pr.snapDone = true → Only [.pr, .evr, .hlt, .pads] s t)) ∧
    (due s a (joinTimeout s) = true → ∃ t, exec (.joinFailed false) s = .next t ∧ t.pr.st = .solo ∧
      t.pr.failAt = some (td0 s))) ∧
  (∀ (a : Nat) (s : State), s.pr.failAt = some a → due s a (secT 10) = true →
    (s.pr.lanes ≠ 3#2 → exec .joinRetry s = .next { s with pr := { s.pr with failAt := none } }) ∧
    (mayJoin { s with pr := { s.pr with failAt := none } } = true → s.pr.partnerMark = watermark s →
      ∃ t, exec .joinRetry s = .next t ∧ t.pr.st = .joining ∧ t.pr.joinPhase = 1 ∧ t.pr.failAt = none ∧ t.pr.tx = false)) ∧
  (∀ s : State, s.pr.migrating = true → s.pr.st = .joining → s.pr.ready = false → s.pr.joinPhase = 3 →
    due s s.pr.migAt (msT (pv s 0x0D05 0 0 2 2000)) = true →
    exec .migrateWarmDone s = .next { s with pr := { s.pr with ready := true } }) ∧
  (∀ (item : Nat) (s : State), running s = true → s.pr.st = .twin → s.pr.verdict = none → s.pr.lanes ≠ 0#2 → item ≠ 0 →
    s.pr.active = false →
    ∃ t, exec (.agreementDueMissing item) s = .next t ∧ t.pr.divCnt = satInc 32 s.pr.divCnt ∧
      t.pr.divLast = (2, 0, 0, s.acq.wave % 65536) ∧ t.pr.tripOff = true ∧ (6, [10, 2]) ∈ t.pr.cells) ∧
  (∀ (pass : Bool) (cause other w : Nat) (s : State), s.pr.verdict.isSome = true → s.pr.divLast = (cause, 0, other, w) →
    (other = 0 → exec (.verdictComplete pass) s = .next { s with pr := { s.pr with
      divLast := (cause, (if verdictOwn pass s then 1 else 2), 0, w)
      cells := (6, [7, if verdictOwn pass s then 1 else 2]) :: s.pr.cells } }) ∧
    (other = 2 → verdictOwn pass s = true → s.pr.active = true → s.pr.st = .twin → s.pr.hand = none →
      ∃ t, exec (.verdictComplete pass) s = .next t ∧ t.pr.active = true ∧ t.pr.st = .solo ∧ t.pr.partnerFaulty = true ∧
        t.pr.verdict = none))

/-- The handover, the drill and PAIR_RELEASE complete (R546, R553, R554, R555). -/
def Obligations.PairCommandRowsComplete : Prop :=
  (∀ s : State, running s = true → releaseDue s = true → s.pr.st = .twin →
    s.pr.hand = some ((s.acq.wave + 1) % 2 ^ 32, 6) → s.pr.handX = [] →
    (s.pr.active = true → s.pr.handOk = true → ∃ t, exec .handoverWave s = .next t ∧ Only [.pr, .evr, .pads] s t ∧
      t.pr.active = false ∧ t.pr.bindDrop = s.pads.bindOut ∧ t.pr.hand = none ∧ t.pr.cells = (6, [8]) :: s.pr.cells ∧
      t.pr.st = .twin ∧ t.pads.bindOut = s.pads.bindOut) ∧
    (s.pr.active = true → s.pr.handOk = false →
      exec .handoverWave s = .next { s with pr := { s.pr with hand := none, handX := [] } }) ∧
    (s.pr.active = false → ∃ t, exec .handoverWave s = .next t ∧ Only [.pr, .evr, .pads, .tu, .le] s t ∧ t.pr.active = true ∧
      t.pr.st = .twin ∧ t.pr.takeover = (6, (s.acq.wave + 1) % 65536) ∧ t.pr.tx = true ∧ t.pr.hand = none)) ∧
  (∀ (r : Req) (dwell : Nat) (s : State), Served r 0x0080 s → 1 ≤ dwell → dwell ≤ 60 → drillOk s = true →
    exec (.pairDrill r dwell) s = .next (nameHandover 6 [1, dwell] (answer r 0x0080 .ok s))) ∧
  (∀ s : State, s.pr.active = true → s.pr.st = .twin → s.pr.drSt = 1 → s.pr.hand = none → due s s.pr.drAt (msT 1) = true →
    (drillChecks s).1 ≠ 0 ∨ due s s.pr.drAt (secT s.pr.drDwell) = true →
    ∃ t, exec .drillDwellEnd s = .next t ∧ Only [.pr] s t ∧ t.pr.drSt = 2 ∧
      t.pr.hand = some ((s.acq.wave + 33) % 2 ^ 32, 6) ∧
      t.pr.handX = [2, (drillChecks s).1, (drillChecks s).2.1, (drillChecks s).2.2]) ∧
  (∀ s : State, pairActs s = true → pv s 0x0D04 0 0 2 30 ≠ 0 → s.pr.dueDay ≠ some (secOf (td1 s) / 86400) →
    s.pr.drillT + 86400 * pv s 0x0D04 0 0 2 30 < secOf (td1 s) →
    exec .drillDue s = .next (submit .pair 0x9010 ((secOf (td1 s) - s.pr.drillT) / 86400)
      { s with pr := { s.pr with dueDay := some (secOf (td1 s) / 86400) } })) ∧
  (∀ (r : Req) (s : State), Served r 0x0081 s → pairActs s = true →
    (s.pr.faulty = true → s.pr.lanes ≠ 3#2 → ∃ t, exec (.pairRelease r 1) s = .next t ∧ Only [.pr, .cmd, .pads] s t ∧
      t.pr.faulty = false ∧ t.pr.left = false ∧ t.pr.partnerFaulty = false ∧ t.pr.cells = (6, [12]) :: s.pr.cells) ∧
    (s.pr.active = true → s.pr.st = .twin → s.pr.hand = none → s.pr.verdict = none → s.pr.drSt = 0 →
      exec (.pairRelease r 2) s = .next (nameHandover 6 [] (answer r 0x0081 .ok s)) ∧
      exec (.pairRelease r 3) s = .next (nameHandover 6 [3] (answer r 0x0081 .ok s))) ∧
    (s.pr.active = false → s.pr.left = false → ∃ t, exec (.pairRelease r 3) s = .next t ∧ t.pr.left = true ∧
      t.pr.st = .solo ∧ t.pr.tx = false ∧ t.pr.tripOff = true ∧ (s.pr.bindDrop = false → t.pads.bindOut = false)) ∧
    (∀ u c, s.img.next = some u → s.img.cur = some c → s.pr.active = false → s.pr.faulty = false → s.img.pendStatus = 0 →
      samePair u c = true → s.pr.partnerActive = true → s.pr.lanes ≠ 0#2 → s.pr.st = .solo →
      ∃ t, exec (.pairRelease r 4) s = .next t ∧ t.pr.st = .joining ∧ t.pr.joinPhase = 1 ∧ t.img.cur = some u ∧
        t.img.source = 3 ∧ t.pr.migrating = decide (padTo 8 u.digest ≠ s.pr.partnerMark)))

/-- The host transports, streams and management rows complete (R583, R585, R587, R588, R589, R590, R592, R596, R599, R601, R619). -/
def Obligations.HostTransportRowsComplete : Prop :=
  (∀ (b : List Byte) (s : State), takesPackets .hpi s = true →
    (b.length < 16 → exec (.hpiWriteTransfer b) s =
      .next { s with cmd := { s.cmd with crcErr := satInc 32 s.cmd.crcErr } }) ∧
    (∀ len x, len = leAt b 10 2 → 20 + len ≤ b.length → (crc32 (b.take (16 + len))).toNat = leAt b (16 + len) 4 →
      leAt b 0 1 = 1 → knownOp (leAt b 2 2) = true → len ≤ 4096 → lenOk (leAt b 2 2) (bytesAt b 16 len) = true →
      leAt b 8 2 ≠ 0 → findSession s ⟨.hpi, leAt b 8 2, leAt b 4 4⟩ = some x →
      reqClass (leAt b 2 2) (bytesAt b 16 len) = 0 → hasCredit x 0 = true → getFld (leAt b 1 1) 2 2 = 0 → s.cmd.step ≠ 3 →
      ∃ t, exec (.hpiWriteTransfer b) s = .next t ∧ Only [.cmd] s t ∧ t.cmd.queue = s.cmd.queue ++
        [{ req := ⟨.hpi, leAt b 8 2, leAt b 4 4⟩, op := leAt b 2 2, cls := 0, payload := bytesAt b 16 len }])) ∧
  (∀ (p : Packet) (rest : List Packet) (s : State), s.cmd.out = p :: rest → p.transport = .hpi →
    ∃ t, exec (.hpiReadTransfer true) s = .next t ∧ Only [.cmd, .pads] s t ∧ t.cmd.out = rest ∧
      t.pads.hirq = rest.any (fun (x : Packet) => x.transport == .hpi)) ∧
  (∀ (frame : List Byte) (s : State),
    (s.cmd.uart = [] → frame ≠ [] → (∀ b, b ∈ frame → b ≠ 0xC0#8) →
      exec (.uartFrameRx (0xC0#8 :: (frame ++ [0xC0#8]))) s = .next (acceptCrc .uart (unescape frame) s)) ∧
    (s.cmd.uart ≠ [] → exec .uartFrameTimeout s =
      .next { s with cmd := { s.cmd with uart := [], crcErr := satInc 32 s.cmd.crcErr } })) ∧
  (∀ (r : Req) (period : Nat) (addrs : List Nat) (s : State), Served r 0x00C0 s →
    exec (.diagStream r 0 addrs) s = .next (answer r 0x00C0 .ok (updSession r.session (fun x => { x with diag := none }) s)) ∧
    (10 ≤ period → period ≤ 10000 → addrs ≠ [] → addrs.length ≤ 64 → addrs.any (regAbsent s) = false →
      exec (.diagStream r period addrs) s =
      .next (answer r 0x00C0 .ok (updSession r.session (fun x => { x with diag := some (period, addrs), diagAt := td0 s }) s)))) ∧
  (∀ (session period : Nat) (addrs : List Nat) (x : Session) (s : State),
    s.cmd.sessions.find? (fun (y : Session) => y.num == session) = some x → x.diag = some (period, addrs) →
    due s x.diagAt (msT period) = true → s.cmd.step = 0 →
    ∃ t p, exec (.diagData session) s = .next t ∧ Only [.cmd, .pads] s t ∧ t.cmd.out = s.cmd.out ++ [p] ∧
      p.transport = x.transport ∧ p.session = x.num ∧ p.op = 0x0102 ∧ p.unsol = true ∧
      p.payload = stamp (td1 s) ++ addrs.flatMap (fun a => leBytes 4 (regVal s a))) ∧
  (∀ (mean : Nat) (s : State), s.cmd.step = 0 → 8000 ≤ mean →
    ∃ t, exec (.loadWindow mean) s = .next t ∧ Only [.cmd, .evr, .pads] s t ∧ t.cmd.step = 1 ∧ t.cmd.loadMean = mean ∧
      t.cmd.loadPeak = max s.cmd.loadPeak mean) ∧
  (∀ (core : Nat) (s : State), running s = true → core < 4 → s.cmd.restarting = none →
    ∃ t, exec (.mgmtWatchdog core) s = .next t ∧ t.cmd.sessions = [] ∧ t.cmd.queue = [] ∧ t.cmd.out = [] ∧
      t.cmd.restarting = some core ∧ t.cmd.restartAt = some (td0 s) ∧ t.pads.hirq = false ∧
      (∀ a, s.cmd.restartAt = some a → td0 s < a + secT 60 → t.cmd.urgentOnly = true)) ∧
  (∀ (core : Nat) (s : State), s.cmd.restarting = some core →
    ∃ t, exec .mgmtRestartDone s = .next t ∧ Only [.cmd, .evr, .gr, .hlt, .net] s t ∧ t.cmd.restarting = none ∧
      t.cmd.wdCnt = satInc 32 s.cmd.wdCnt ∧ (0x24, td0 s) ∈ t.hlt.momentary) ∧
  (∀ (session : Nat) (x : Session) (s : State), s.cmd.sessions.find? (fun (y : Session) => y.num == session) = some x →
    x.transport = .net → pv s 0x1803 0 0 2 30 ≠ 0 → due s x.lastUse (secT (60 * pv s 0x1803 0 0 2 30)) = true →
    ∃ t, exec (.sessionIdleTimeout session) s = .next t ∧
      t.cmd.sessions = s.cmd.sessions.filter (fun (y : Session) => y.num != session))

/-- The health commands, injections and detector holds complete (R539, R629, R632, R633, R634, R635, R636). -/
def Obligations.InjectionAndHealthRowsComplete : Prop :=
  (∀ (r : Req) (s : State),
    (Served r 0x00B0 s → exec (.healthRead r 0xFF) s =
      .next (respond r 0x00B0 .ok false ((List.range 10).flatMap (healthEntry s)) s)) ∧
    (∀ m, Served r 0x00B0 s → m ≤ 9 → exec (.healthRead r m) s = .next (respond r 0x00B0 .ok false (healthEntry s m) s)) ∧
    (∀ body slot, Served r 0x0090 s →
      injRefusal (leAt body 0 1) (leAt body 1 1) (leAt body 2 1) (leAt body 4 4) (leAt body 8 4) s = none →
      (List.range 8).find? (fun k => !s.hlt.inj.any (fun (x : Inj) => x.slot == k)) = some slot →
      ∃ t, exec (.injArm r body) s = .next t ∧
        t.hlt.inj = s.hlt.inj ++ [⟨slot, leAt body 0 1, leAt body 1 1, leAt body 2 1, leAt body 4 4, leAt body 8 4,
          leAt body 12 2, leAt body 12 2 == 0, r.session, false, 0⟩] ∧
        t.pr.sched = s.pr.sched ++ [(if s.pr.st = .twin then namedWave s else (s.acq.wave + 1) % 2 ^ 32, 11,
          [slot, leAt body 0 1, leAt body 1 1, leAt body 2 1, leAt body 4 4, leAt body 8 4, leAt body 12 2])]) ∧
    (∀ det, Served r 0x0091 s →
      (¬ (s.pr.st = .twin ∧ s.pr.active = true) → ∃ t, exec (.injClear r det) s = .next t ∧
        Only [.hlt, .evr, .pads, .cmd] s t ∧ ∀ j, j ∈ t.hlt.inj → j ∈ s.hlt.inj ∧ j.det ≠ det ∧ det ≠ 0xFF) ∧
      (s.pr.st = .twin → s.pr.active = true → ∃ t, exec (.injClear r det) s = .next t ∧ Only [.pr, .pads, .cmd] s t ∧
        t.pr.sched = s.pr.sched ++ (s.hlt.inj.filter (fun (j : Inj) => det == 0xFF || j.det == det)).map
          (fun (j : Inj) => (namedWave s, 16, [j.slot, 2]))))) ∧
  (∀ (slot : Nat) (j : Inj) (s : State),
    (s.hlt.inj.find? (fun (x : Inj) => x.slot == slot && x.applied) = some j → j.mode ≠ 0 → due s j.since (msT j.durMs) = true →
      (j.mode = 1 → exec (.injDurationEnd slot) s = .next (endInj 1 j s)) ∧
      (j.mode = 2 → j.forever = true → ∃ t, exec (.injDurationEnd slot) s = .next t ∧ Only [.hlt] s t ∧
        t.hlt.inj = updFirst (fun (x : Inj) => x.slot == slot)
          (fun x => { x with applied := false, repeats := x.repeats - 1 }) s.hlt.inj)) ∧
    (s.hlt.inj.find? (fun (x : Inj) => x.slot == slot && !x.applied) = some j → j.mode = 2 → j.since ≠ 0 →
      due s j.since (msT j.perMs) = true → actsAtOnce j.det = false →
      ∃ t, exec (.injPeriodStart slot) s = .next t ∧ Only [.hlt, .pads] s t ∧
        t.hlt.inj = s.hlt.inj.filter (fun (x : Inj) => x.slot != j.slot) ++ [{ j with applied := true, since := td0 s }])) ∧
  (∀ (det a : Nat) (s : State), (det, a) ∈ s.hlt.momentary → due s a (secT 1) = true →
    ∃ t, exec (.detectorHoldExpiry det) s = .next t ∧ Only [.hlt] s t ∧ (det, a) ∉ t.hlt.momentary ∧
      ∀ e, e ∈ s.hlt.momentary → e.1 ≠ det → e ∈ t.hlt.momentary)

/-- The monitor, temperature and memory error rows complete (R34, R488, R514, R607, R627, R628, R630, R631). -/
def Obligations.MonitorAndErrorRowsComplete : Prop :=
  (∀ s : State, running s = true →
    (∀ flash mram low, due s s.hlt.sampleAt (secT 86400) = true → ∃ t, exec (.monitorSample flash mram low) s = .next t ∧
      Only [.hlt, .evr] s t ∧ t.hlt.sampleAt = td0 s) ∧
    (∀ temp, injOn s 0x23 0 = false →
      (1200 < temp → temp ≤ 1300 → s.hlt.dieHigh = 0 → ∃ t, exec (.dieTempHigh temp) s = .next t ∧ Only [.hlt, .evr] s t ∧
        t.hlt.dieTemp = temp ∧ t.hlt.dieHigh = 1 ∧ (0x23, 0) ∈ t.hlt.active) ∧
      (temp < 1150 → s.hlt.dieHigh = 1 → ∃ t, exec (.dieTempNormal temp) s = .next t ∧ Only [.hlt, .evr] s t ∧
        t.hlt.dieTemp = temp ∧ t.hlt.dieHigh = 0 ∧ ∀ i, (0x23, i) ∉ t.hlt.active)) ∧
    (∀ value, ∃ t, exec (.monitorLimitCrossed 0 value) s = .next t ∧ Only [.hlt, .evr] s t ∧
      t.hlt.dieTemp = value / 100000 ∧ (monOf t 0).value = value)) ∧
  (∀ s : State, firmwareUp s = true →
    (∀ core lo hi, exec (.eccSram 0 core lo hi) s =
        .next { s with hlt := { s.hlt with eccSram := satInc 16 s.hlt.eccSram } } ∧
      (∃ t, exec (.eccSram 2 core lo hi) s = .next t ∧ Only [.dr, .tu, .hlt, .evr] s t ∧
        t.dr.prot = spoil lo hi s.dr.prot ∧ t.dr.high = spoil lo hi s.dr.high ∧ (0x09, td0 s) ∈ t.hlt.momentary) ∧
      (s.le.sec.isSome = true → ∃ t, exec (.eccSram 5 core lo hi) s = .next t ∧ t.le.mode = .safe ∧ t.le.prev = s.le.mode.toNat ∧ t.le.cause = 2)) ∧
    (∀ copies, exec (.eccMram 0 copies) s = .next { s with hlt := { s.hlt with eccMram := satInc 16 s.hlt.eccMram } } ∧
      (2 ≤ copies → ∃ t, exec (.eccMram 1 copies) s = .next t ∧ Only [.sec, .tu, .hlt, .evr] s t ∧ t.sec.lost = true ∧
        t.sec.counters = [] ∧ t.sec.attCnt = s.sec.attMark ∧ (0x0A, td0 s) ∈ t.hlt.momentary)) ∧
    (∃ t, exec .flashErr s = .next t ∧ Only [.tu, .hlt, .evr] s t ∧ t.tu.fresh = s.tu.fresh + 1 ∧
      (0x0B, td0 s) ∈ t.hlt.momentary))

/-- In every step HIRQ_N is held low exactly while a packet is pending for an HPI session (R582, R592, R601). -/
def Obligations.HirqIsLowWhilePacketsWait : Prop :=
  HirqTold State.reset ∧ ∀ s : State, HirqTold s → ∃ t, step s = .next t ∧ HirqTold t

/-- A timestamp of 12 bytes holds seconds, nanoseconds and the fraction of its instant (R12). -/
def Obligations.TimestampHoldsTheInstant : Prop :=
  ∀ t : Nat, secOf t < 2 ^ 48 → (stamp t).length = 12 ∧ leAt (stamp t) 0 6 = t / (10 ^ 9 * 2 ^ 40) ∧
    leAt (stamp t) 6 4 = t / 2 ^ 40 % 10 ^ 9 ∧ leAt (stamp t) 6 4 ≤ 999999999 ∧
    leAt (stamp t) 10 2 = t / 2 ^ 24 % 65536 ∧ stampAt (stamp t) 0 = t / 2 ^ 24 * 2 ^ 24

/-- A logic instruction word gives back its opcode, space and address, and no two words coincide (R347, R348). -/
def Obligations.InstructionWordsKeepTheirFields : Prop :=
  (∀ op sp a : Nat, op < 256 → sp < 16 → a < 2 ^ 20 →
    (instrWord op sp a).extractLsb' 24 8 = BitVec.ofNat 8 op ∧ (instrWord op sp a).extractLsb' 20 4 = BitVec.ofNat 4 sp ∧
    (instrWord op sp a).extractLsb' 0 20 = BitVec.ofNat 20 a ∧
    opOf (instrWord op sp a) = op ∧ spOf (instrWord op sp a) = sp ∧ adOf (instrWord op sp a) = a) ∧
  (∀ op sp a op' sp' a' : Nat, op < 256 → sp < 16 → a < 2 ^ 20 → op' < 256 → sp' < 16 → a' < 2 ^ 20 →
    instrWord op sp a = instrWord op' sp' a' → op = op' ∧ sp = sp' ∧ a = a')

/-- A glide whose predicted error exceeds 100 ms leaves TD1 free, class 15, at its last increment (R148). -/
def Obligations.LargeGlideErrorFreesTd1 : Prop :=
  ∀ (dTemp : Nat) (s : State), s.tu.d1.qst = .glide →
    (msT 100 < glideError s dTemp → ∃ t, exec (.glideToFree dTemp) s = .next t ∧ Only [.tu, .evr] s t ∧
      t.tu.d1.qst = .free ∧ t.tu.d1.cls = 15 ∧ t.tu.d1.inc = s.tu.d1.inc ∧ td1 t = td1 s) ∧
    (glideError s dTemp ≤ msT 100 → exec (.glideToFree dTemp) s = .next s)

/-- A request of a session without ENGINEER neither runs, stops nor holds the logic engine (R15). -/
def Obligations.OnlyEngineerMovesTheLogicEngine : Prop :=
  ∀ (r : Req) (s : State), (∀ x, findSession s r = some x → hasRole x 2 = false) →
    ∀ code option entries mark forces options value, ∀ c, c ∈ [Instr.leMode r code, .leStep r option, .leBreakSet r entries,
      .leChange r mark forces options, .brkHitClear r, .lePeekSelWrite r value] →
    ∃ t, exec c s = .next t ∧ Only [.cmd, .pads] s t

/-- A request that fails the checks before its command's own is answered with that status and has no other effect (R73, R76, R587, R588, R601, R620). -/
def Obligations.RefusedRequestsHaveNoEffect : Prop :=
  ∀ (r : Req) (n a b d e : Nat) (off : Int) (bytes bytes' : List Byte) (es : List (Nat × Nat)) (as : List Nat)
    (ws : List Word) (m v : Word) (lv : LaunchVal) (s : State) (st : Status),
    ∀ c, c ∈ [(Instr.sessionOpen r n a b bytes, 0x0001), (.sessionClose r, 0x0002), (.regRead r n a, 0x0010),
      (.regWrite r n ws, 0x0011), (.regModify r n m v, 0x0012), (.imgBegin r n, 0x0020), (.imgData r n bytes, 0x0021),
      (.imgCommit r, 0x0022), (.imgActivate r n, 0x0023), (.imgStatus r, 0x0024), (.groupSelect r n, 0x0025),
      (.fwBegin r n a, 0x0028), (.fwData r n bytes, 0x0029), (.fwCommit r, 0x002A), (.leStep r n, 0x0031),
      (.leBreakSet r es, 0x0032), (.leChange r bytes bytes' n, 0x0033), (.forceSet r n a, 0x0034), (.forceClear r n, 0x0035),
      (.forceList r n, 0x0036), (.upcUrgent r n a b d e, 0x0041), (.jobSubmit r n bytes, 0x0042), (.tbRead r n, 0x0050),
      (.tbSetInc r n a, 0x0051), (.tbSlew r n a b, 0x0052), (.tbStep r n a off, 0x0053), (.launchArm r n lv, 0x0054),
      (.launchCancel r n, 0x0055), (.drArm r n, 0x0060), (.drTrigger r n, 0x0061), (.drList r n a, 0x0062),
      (.drRead r n a b, 0x0063), (.evrRead r n a b, 0x0070), (.evrFreeze r, 0x0071), (.evrThaw r, 0x0072),
      (.pairDrill r n, 0x0080), (.pairRelease r n, 0x0081), (.injArm r bytes, 0x0090), (.injClear r n, 0x0091),
      (.attest r bytes, 0x00A0), (.keyInstall r bytes, 0x00A1), (.keyList r, 0x00A2), (.healthRead r n, 0x00B0),
      (.diagStream r n as, 0x00C0)] →
    waits r (isUrgent c.2) s = false → precheck r c.2 (isUrgent c.2) (roleOf c.2) s = some st →
    ∃ t p, exec c.1 s = .next t ∧ Only [.cmd, .pads] s t ∧ t.cmd.out = s.cmd.out ++ [p] ∧ p.status = st.toNat ∧
      p.op = c.2 ∧ p.session = r.session ∧ p.tag = r.tag ∧ p.payload = []

/-- In DX-720-E the process channels' registers and commands answer ABSENT (R3, R438). -/
def Obligations.AbsentProcessChannelsAnswerAbsent : Prop :=
  ∀ (r : Req) (s : State), s.code = .e →
    (∀ a, 0x60000 ≤ a → a < 0x70000 → a % 4 = 0 → regVal s a = 0 ∧
      (r.session ≠ 0 → s.pw.phase = .running → Served r 0x0010 s → exec (.regRead r a 1) s = .next (answer r 0x0010 .absent s)) ∧
      (∀ v, Served r 0x0011 s → exec (.regWrite r a [v]) s = .next (respond r 0x0011 .absent false (leBytes 2 0) s))) ∧
    (∀ chan meas filter rate settle, Served r 0x0041 s →
      exec (.upcUrgent r chan meas filter rate settle) s = .next (answer r 0x0041 .absent s)) ∧
    (∀ mask, waits r false s = false → precheck r 0x0040 false (some 1) s = none → exec (.accSnap r 4 mask) s = .next (answer r 0x0040 .absent s)) ∧
    (∀ op st payload, Only [.cmd, .pads] s (respond r op st false payload s))
end

