-- ==== Sys2Proof/Laws/Kept.lean ====
section
/-! SUPPORT. What an operation keeps: the queue, the ordering code, the security unit and the sequence numbers of the event
recorder, one lemma for each operation that leaves them as they are. -/

set_option maxRecDepth 4000
set_option linter.unusedSimpArgs false
namespace Sys2Proof.Machine
open Sys2Proof

/-- What only a restart, a key command, an attestation or the entry of a record changes: the queue, the ordering code, the
security unit, the last sequence number given and its reservation mark. -/
def kept (s : State) : List Instr × Code × Sec × Nat × Nat := (s.pending, s.code, s.sec, s.evr.newest, s.evr.mark)

theorem kept_fold (s : State) : (s.pending, s.code, s.sec, s.evr.newest, s.evr.mark) = kept s := rfl

theorem kept_ite (c : Prop) [Decidable c] (a b : State) : kept (if c then a else b) = if c then kept a else kept b := by
  split <;> rfl

/-- A fold keeps what each of its steps keeps. -/
theorem kept_foldl {α : Type} (g : State → α → State) (l : List α) (s : State) (h : ∀ s a, kept (g s a) = kept s) :
    kept (l.foldl g s) = kept s := by
  induction l generalizing s with
  | nil => rfl
  | cons a l ih => rw [List.foldl_cons, ih, h]

theorem kept_foldl_snd {α β : Type} (g : β × State → α → β × State) (l : List α) (b : β) (s : State)
    (h : ∀ p a, kept (g p a).2 = kept p.2) : kept (l.foldl g (b, s)).2 = kept s := by
  have : ∀ p : β × State, kept (l.foldl g p).2 = kept p.2 := by
    induction l with
    | nil => intro p; rfl
    | cons a l ih => intro p; rw [List.foldl_cons, ih, h]
  exact this (b, s)

theorem kept_of_snd {β : Type} {e : β × State} {b : β} {s : State} (h : e = (b, s)) : kept s = kept e.2 := by rw [h]

theorem kept_of_fst {β : Type} {e : State × β} {b : β} {s : State} (h : e = (s, b)) : kept s = kept e.1 := by rw [h]

theorem kept_ec_ite (c : Prop) [Decidable c] (a b : EC) : kept (if c then a else b).s = if c then kept a.s else kept b.s := by
  split <;> rfl

theorem kept_mk (code pw pads fl boot img tu acq gr le rio fio upc dr evr pr net cmd sec hlt pending) :
    kept (State.mk code pw pads fl boot img tu acq gr le rio fio upc dr evr pr net cmd sec hlt pending) = (pending, code, sec, evr.newest, evr.mark) := rfl

theorem freshNat_kept (x0 : State) :
    kept (freshNat x0).2 = kept x0 := by
  simp only [freshNat, kept_mk, kept_fold]

theorem dropEvent_kept (x0 : Event) (x1 : State) :
    kept (dropEvent x0 x1) = kept x1 := by
  simp only [dropEvent, kept_mk, kept_fold]

theorem emit_kept (x0 : Block) (x1 : Event) (x2 : State) :
    kept (emit x0 x1 x2) = kept x2 := by
  simp only [emit, kept_mk, kept_fold, kept_ite, ite_self, dropEvent_kept]

theorem submit_kept (x0 : Block) (x1 x2 : Nat) (x3 : State) :
    kept (submit x0 x1 x2 x3) = kept x3 := by
  simp only [submit, emit_kept]

theorem submitParts_kept (x0 : Block) (x1 x2 : Nat) (x3 : List (List Byte)) (x4 : State) :
    kept (submitParts x0 x1 x2 x3 x4) = kept x4 := by
  simp only [submitParts, emit_kept]

theorem submitCmd_kept (x0 : Block) (x1 x2 x3 : Nat) (x4 : State) :
    kept (submitCmd x0 x1 x2 x3 x4) = kept x4 := by
  simp only [submitCmd, emit_kept]

theorem fireDet_kept (x0 x1 x2 : Nat) (x3 : State) :
    kept (fireDet x0 x1 x2 x3) = kept x3 := by
  simp only [fireDet, kept_mk, kept_fold, emit_kept]

theorem fireDetOnceP_kept (x0 x1 : Nat) (x2 : List (List Byte)) (x3 : State) :
    kept (fireDetOnceP x0 x1 x2 x3) = kept x3 := by
  simp only [fireDetOnceP, kept_mk, kept_fold, emit_kept]

theorem fireDetOnce_kept (x0 x1 : Nat) (x2 : State) :
    kept (fireDetOnce x0 x1 x2) = kept x2 := by
  simp only [fireDetOnce, fireDetOnceP_kept]

theorem fireDetFree_kept (x0 : Nat) (x1 : State) :
    kept (fireDetFree x0 x1) = kept x1 := by
  simp only [fireDetFree, fireDetOnce_kept, freshNat_kept]

theorem clearDet_kept (x0 x1 : Nat) (x2 : State) :
    kept (clearDet x0 x1 x2) = kept x2 := by
  simp only [clearDet, kept_mk, kept_fold]

theorem clearDetAll_kept (x0 : Nat) (x1 : State) :
    kept (clearDetAll x0 x1) = kept x1 := by
  simp only [clearDetAll, kept_mk, kept_fold]

theorem raiseTrig_kept (x0 x1 x2 x3 x4 : Nat) (x5 : State) :
    kept (raiseTrig x0 x1 x2 x3 x4 x5) = kept x5 := by
  unfold raiseTrig
  split <;> simp only [kept_mk, kept_fold]

theorem setHirq_kept (x0 : State) :
    kept (setHirq x0) = kept x0 := by
  simp only [setHirq, kept_mk, kept_fold]

theorem respondTo_kept (x0 : Bool) (x1 : Req) (x2 : Nat) (x3 : Status) (x4 : Bool) (x5 : List Byte) (x6 : State) :
    kept (respondTo x0 x1 x2 x3 x4 x5 x6) = kept x6 := by
  simp only [respondTo, kept_mk, kept_fold, setHirq_kept]

theorem respond_kept (x0 : Req) (x1 : Nat) (x2 : Status) (x3 : Bool) (x4 : List Byte) (x5 : State) :
    kept (respond x0 x1 x2 x3 x4 x5) = kept x5 := by
  simp only [respond, respondTo_kept]

theorem answer_kept (x0 : Req) (x1 : Nat) (x2 : Status) (x3 : State) :
    kept (answer x0 x1 x2 x3) = kept x3 := by
  simp only [answer, respond_kept]

theorem serveAs_kept (x0 : Req) (x1 : Nat) (x2 : Bool) (x3 : Option Nat) (x4 : State) (x5 : State → State) (h : ∀ s, kept (x5 s) = kept s) :
    kept (serveAs x0 x1 x2 x3 x4 x5) = kept x4 := by
  unfold serveAs
  repeat' split
  all_goals simp only [*, *, kept_mk, kept_fold, kept_ite, kept_ec_ite, ite_self, respondTo_kept]

theorem serve_kept (x0 : Req) (x1 : Nat) (x2 : State) (x3 : State → State) (h : ∀ s, kept (x3 s) = kept s) :
    kept (serve x0 x1 x2 x3) = kept x2 := by
  exact serveAs_kept _ _ _ _ _ _ h

theorem answerWrite_kept (x0 : Req) (x1 : Status) (x2 : State) :
    kept (answerWrite x0 x1 x2) = kept x2 := by
  simp only [answerWrite, respond_kept]

theorem serveWrite_kept (x0 : Req) (x1 : State) (x2 : State → State × Status) (h : ∀ s, kept (x2 s).1 = kept s) :
    kept (serveWrite x0 x1 x2) = kept x1 := by
  unfold serveWrite
  repeat' (first | (simp only [*, *, kept_mk, kept_fold, kept_ite, kept_ec_ite, ite_self, serve_kept, answerWrite_kept]; done) | split | (with_reducible refine serve_kept _ _ _ _ ?_; intro _))

theorem unsolicited_kept (x0 : Session) (x1 x2 : Nat) (x3 : List Byte) (x4 : State) :
    kept (unsolicited x0 x1 x2 x3 x4) = kept x4 := by
  simp only [unsolicited, kept_mk, kept_fold, setHirq_kept]

theorem sendCell_kept (x0 : Nat) (x1 : List Nat) (x2 : State) :
    kept (sendCell x0 x1 x2) = kept x2 := by
  simp only [sendCell, kept_mk, kept_fold]

theorem digNote_kept (x0 : Nat) (x1 : List Byte) (x2 : State) :
    kept (digNote x0 x1 x2) = kept x2 := by
  simp only [digNote, kept_mk, kept_fold]

theorem sendAgree_kept (x0 x1 : Nat) (x2 : List Nat) (x3 : State) :
    kept (sendAgree x0 x1 x2 x3) = kept x3 := by
  simp only [sendAgree, kept_ite, ite_self, sendCell_kept]

theorem schedTwin_kept (x0 : Nat) (x1 : List Nat) (x2 : State) :
    kept (schedTwin x0 x1 x2) = kept x2 := by
  simp only [schedTwin, kept_mk, kept_fold, sendCell_kept]

theorem refreshPads_kept (x0 : State) :
    kept (refreshPads x0) = kept x0 := by
  simp only [refreshPads, kept_mk, kept_fold]

theorem endInj_kept (x0 : Nat) (x1 : Inj) (x2 : State) :
    kept (endInj x0 x1 x2) = kept x2 := by
  simp only [endInj, kept_mk, kept_fold, refreshPads_kept, submit_kept]

theorem noteRole_kept (x0 : State) :
    kept (noteRole x0) = kept x0 := by
  simp only [noteRole, kept_mk, kept_fold]

theorem setPair_kept (x0 : PairSt) (x1 : State) :
    kept (setPair x0 x1) = kept x1 := by
  unfold setPair
  repeat' (first
    | (simp only [*, kept_mk, kept_fold, kept_ite, kept_ec_ite, ite_self, noteRole_kept, endInj_kept, refreshPads_kept, submit_kept]; done)
    | (simp only [kept_mk, kept_fold, kept_ite, kept_ec_ite, ite_self, noteRole_kept, endInj_kept, refreshPads_kept, submit_kept, kept_foldl]; done)
    | split
    | (with_reducible refine serve_kept _ _ _ _ ?_; intro _)
    | (with_reducible refine serveWrite_kept _ _ _ ?_; intro _)
    | (dsimp only; split)
    | (with_reducible refine (kept_foldl _ _ _ ?_).trans ?_ <;> try intro _ _)
    | (simp only [kept_mk, kept_fold, kept_ite, kept_ec_ite, ite_self, noteRole_kept, endInj_kept, refreshPads_kept, submit_kept]; first | split | (with_reducible refine serve_kept _ _ _ _ ?_; intro _) | (with_reducible refine (kept_foldl _ _ _ ?_).trans ?_ <;> try intro _ _))
    | (rename_i h; first | rw [kept_of_snd h] | rw [kept_of_fst h])
    | (rename_i h _; first | rw [kept_of_snd h] | rw [kept_of_fst h])
    | (rename_i h _ _; first | rw [kept_of_snd h] | rw [kept_of_fst h])
    | (dsimp only; rename_i h; first | rw [kept_of_snd h] | rw [kept_of_fst h])
    | (dsimp only; rename_i h _; first | rw [kept_of_snd h] | rw [kept_of_fst h])
    | (dsimp only; rename_i h _ _; first | rw [kept_of_snd h] | rw [kept_of_fst h]))

theorem setRoleActive_kept (x0 : Bool) (x1 : State) :
    kept (setRoleActive x0 x1) = kept x1 := by
  simp only [setRoleActive, kept_mk, kept_fold, kept_ite, ite_self, noteRole_kept, submit_kept]

theorem tryBind_kept (x0 : State) :
    kept (tryBind x0) = kept x0 := by
  simp only [tryBind, kept_mk, kept_fold, kept_ite, ite_self]

theorem dropBind_kept (x0 : State) :
    kept (dropBind x0) = kept x0 := by
  simp only [dropBind, kept_mk, kept_fold]

theorem slewTd2_kept (x0 : State) :
    kept (slewTd2 x0) = kept x0 := by
  simp only [slewTd2, kept_mk, kept_fold]

theorem takeover_kept (x0 : Nat) (x1 : State) :
    kept (takeover x0 x1) = kept x1 := by
  simp only [takeover, kept_mk, kept_fold, raiseTrig_kept, slewTd2_kept, refreshPads_kept, submitParts_kept, setRoleActive_kept, tryBind_kept]

theorem startJoin_kept (x0 : State) :
    kept (startJoin x0) = kept x0 := by
  simp only [startJoin, kept_mk, kept_fold, kept_ite, ite_self, setPair_kept, sendCell_kept, dropBind_kept]

theorem activeSolo_kept (x0 : State) :
    kept (activeSolo x0) = kept x0 := by
  simp only [activeSolo, kept_mk, kept_fold, setPair_kept]

theorem declareFaulty_kept (x0 : Nat) (x1 : State) :
    kept (declareFaulty x0 x1) = kept x1 := by
  simp only [declareFaulty, kept_mk, kept_fold, kept_ite, ite_self, setPair_kept, activeSolo_kept, refreshPads_kept, dropBind_kept, submit_kept]

theorem diverge_kept (x0 : Nat) (x1 : State) :
    kept (diverge x0 x1) = kept x1 := by
  simp only [diverge, kept_mk, kept_fold, kept_ite, ite_self, fireDetOnce_kept, activeSolo_kept, startJoin_kept, declareFaulty_kept, submit_kept]

theorem digestsMeet_kept (x0 : Nat) (x1 : State) :
    kept (digestsMeet x0 x1) = kept x1 := by
  unfold digestsMeet
  split <;> simp only [kept_mk, kept_fold, kept_ite, ite_self, diverge_kept]

theorem nameHandover_kept (x0 : Nat) (x1 : List Nat) (x2 : State) :
    kept (nameHandover x0 x1 x2) = kept x2 := by
  simp only [nameHandover, kept_mk, kept_fold, sendCell_kept]

theorem agreeUsed_kept (x0 : Nat) (x1 : State) :
    kept (agreeUsed x0 x1) = kept x1 := by
  simp only [agreeUsed, kept_mk, kept_fold]

theorem updPort_kept (x0 : Nat) (x1 : Port → Port) (x2 : State) :
    kept (updPort x0 x1 x2) = kept x2 := by
  simp only [updPort, kept_mk, kept_fold]

theorem portTake_kept (x0 x1 : Nat) (x2 : State) (x3 : Nat) :
    kept (portTake x0 x1 x2 x3) = kept x2 := by
  simp only [portTake, updPort_kept]

theorem putFrame_kept (x0 x1 : Nat) (x2 x3 : List Nat) (x4 : List Byte) (x5 : State) :
    kept (putFrame x0 x1 x2 x3 x4 x5) = kept x5 := by
  unfold putFrame
  repeat' (first
    | (simp only [*, kept_mk, kept_fold, kept_ite, kept_ec_ite, ite_self, portTake_kept]; done)
    | (simp only [kept_mk, kept_fold, kept_ite, kept_ec_ite, ite_self, portTake_kept, kept_foldl]; done)
    | split
    | (with_reducible refine serve_kept _ _ _ _ ?_; intro _)
    | (with_reducible refine serveWrite_kept _ _ _ ?_; intro _)
    | (dsimp only; split)
    | (with_reducible refine (kept_foldl _ _ _ ?_).trans ?_ <;> try intro _ _)
    | (simp only [kept_mk, kept_fold, kept_ite, kept_ec_ite, ite_self, portTake_kept]; first | split | (with_reducible refine serve_kept _ _ _ _ ?_; intro _) | (with_reducible refine (kept_foldl _ _ _ ?_).trans ?_ <;> try intro _ _))
    | (rename_i h; first | rw [kept_of_snd h] | rw [kept_of_fst h])
    | (rename_i h _; first | rw [kept_of_snd h] | rw [kept_of_fst h])
    | (rename_i h _ _; first | rw [kept_of_snd h] | rw [kept_of_fst h])
    | (dsimp only; rename_i h; first | rw [kept_of_snd h] | rw [kept_of_fst h])
    | (dsimp only; rename_i h _; first | rw [kept_of_snd h] | rw [kept_of_fst h])
    | (dsimp only; rename_i h _ _; first | rw [kept_of_snd h] | rw [kept_of_fst h]))

theorem sendFrame_kept (x0 x1 : Nat) (x2 x3 : List Nat) (x4 : List Byte) (x5 : State) :
    kept (sendFrame x0 x1 x2 x3 x4 x5) = kept x5 := by
  unfold sendFrame
  repeat' (first
    | (simp only [*, kept_mk, kept_fold, kept_ite, kept_ec_ite, ite_self, putFrame_kept]; done)
    | (simp only [kept_mk, kept_fold, kept_ite, kept_ec_ite, ite_self, putFrame_kept, kept_foldl]; done)
    | split
    | (with_reducible refine serve_kept _ _ _ _ ?_; intro _)
    | (with_reducible refine serveWrite_kept _ _ _ ?_; intro _)
    | (dsimp only; split)
    | (with_reducible refine (kept_foldl _ _ _ ?_).trans ?_ <;> try intro _ _)
    | (simp only [kept_mk, kept_fold, kept_ite, kept_ec_ite, ite_self, putFrame_kept]; first | split | (with_reducible refine serve_kept _ _ _ _ ?_; intro _) | (with_reducible refine (kept_foldl _ _ _ ?_).trans ?_ <;> try intro _ _))
    | (rename_i h; first | rw [kept_of_snd h] | rw [kept_of_fst h])
    | (rename_i h _; first | rw [kept_of_snd h] | rw [kept_of_fst h])
    | (rename_i h _ _; first | rw [kept_of_snd h] | rw [kept_of_fst h])
    | (dsimp only; rename_i h; first | rw [kept_of_snd h] | rw [kept_of_fst h])
    | (dsimp only; rename_i h _; first | rw [kept_of_snd h] | rw [kept_of_fst h])
    | (dsimp only; rename_i h _ _; first | rw [kept_of_snd h] | rw [kept_of_fst h]))

theorem mgmtPump_kept (x0 : State) :
    kept (mgmtPump x0) = kept x0 := by
  unfold mgmtPump
  split <;> simp only [kept_mk, kept_fold, kept_ite, ite_self, putFrame_kept]

theorem sendUdpOn_kept (x0 x1 x2 x3 : Nat) (x4 x5 : List Nat) (x6 : List Byte) (x7 : State) :
    kept (sendUdpOn x0 x1 x2 x3 x4 x5 x6 x7) = kept x7 := by
  simp only [sendUdpOn, kept_mk, kept_fold, kept_ite, ite_self, sendFrame_kept]

theorem sendUdp_kept (x0 x1 x2 : Nat) (x3 x4 : List Nat) (x5 : List Byte) (x6 : State) :
    kept (sendUdp x0 x1 x2 x3 x4 x5 x6) = kept x6 := by
  unfold sendUdp
  split <;> simp only [sendUdpOn_kept]

theorem updUnit_kept (x0 : Nat) (x1 : DrUnit → DrUnit) (x2 : State) :
    kept (updUnit x0 x1 x2) = kept x2 := by
  simp only [updUnit, kept_mk, kept_fold]

theorem pushProt_kept (x0 : List Samp) (x1 : State) :
    kept (pushProt x0 x1) = kept x1 := by
  simp only [pushProt, kept_mk, kept_fold, kept_ite, ite_self]

theorem pushHigh_kept (x0 : List Samp) (x1 : State) :
    kept (pushHigh x0 x1) = kept x1 := by
  simp only [pushHigh, kept_mk, kept_fold, kept_ite, ite_self]

theorem recFlags_kept (x0 : BitVec 16) (x1 : State) :
    kept (recFlags x0 x1) = kept x1 := by
  unfold recFlags
  split <;> simp only [kept_mk, kept_fold]

theorem recMark_kept (x0 x1 x2 : Nat) (x3 : State) :
    kept (recMark x0 x1 x2 x3) = kept x3 := by
  unfold recMark
  repeat' (first
    | (simp only [*, kept_mk, kept_fold, kept_ite, kept_ec_ite, ite_self]; done)
    | (simp only [kept_mk, kept_fold, kept_ite, kept_ec_ite, ite_self, kept_foldl]; done)
    | split
    | (with_reducible refine serve_kept _ _ _ _ ?_; intro _)
    | (with_reducible refine serveWrite_kept _ _ _ ?_; intro _)
    | (dsimp only; split)
    | (with_reducible refine (kept_foldl _ _ _ ?_).trans ?_ <;> try intro _ _)
    | (simp only [kept_mk, kept_fold, kept_ite, kept_ec_ite, ite_self]; first | split | (with_reducible refine serve_kept _ _ _ _ ?_; intro _) | (with_reducible refine (kept_foldl _ _ _ ?_).trans ?_ <;> try intro _ _))
    | (rename_i h; first | rw [kept_of_snd h] | rw [kept_of_fst h])
    | (rename_i h _; first | rw [kept_of_snd h] | rw [kept_of_fst h])
    | (rename_i h _ _; first | rw [kept_of_snd h] | rw [kept_of_fst h])
    | (dsimp only; rename_i h; first | rw [kept_of_snd h] | rw [kept_of_fst h])
    | (dsimp only; rename_i h _; first | rw [kept_of_snd h] | rw [kept_of_fst h])
    | (dsimp only; rename_i h _ _; first | rw [kept_of_snd h] | rw [kept_of_fst h]))

theorem dropOldest_kept (x0 : State) :
    kept (dropOldest x0) = kept x0 := by
  unfold dropOldest
  split <;> simp only [kept_mk, kept_fold, submit_kept]

theorem makeRoom_kept (x0 x1 : Nat) (x2 : State) :
    kept (makeRoom x0 x1 x2) = kept x2 := by
  have h : kept ((List.range x2.dr.reel.length).foldl (fun s _ => if fitsReel x0 x1 s then s else dropOldest s) x2) = kept x2 :=
    kept_foldl _ _ _ (fun s _ => by split <;> first | rfl | exact dropOldest_kept s)
  unfold makeRoom
  revert h
  generalize (List.range x2.dr.reel.length).foldl _ x2 = p
  intro h
  rw [kept_mk, kept_fold, h]

theorem openRecord_kept (x0 : Record) (x1 : State) :
    kept (openRecord x0 x1) = kept x1 := by
  unfold openRecord
  have h := digNote_kept 6 (1#8 :: leBytes 8 x0.id ++ leBytes 16 x0.t0) (makeRoom 1 0 x1)
  revert h
  rw [makeRoom_kept]
  generalize digNote 6 _ (makeRoom 1 0 x1) = p
  intro h
  rw [submit_kept, kept_mk, kept_fold, h]

theorem closeRecord_kept (x0 : BitVec 16) (x1 : State) :
    kept (closeRecord x0 x1) = kept x1 := by
  unfold closeRecord
  split <;> simp only [kept_mk, kept_fold, submit_kept, digNote_kept]

theorem setArm_kept (x0 : DrSt) (x1 : State) :
    kept (setArm x0 x1) = kept x1 := by
  simp only [setArm, kept_mk, kept_fold, submit_kept]

theorem chainEnd_kept (x0 : State) :
    kept (chainEnd x0) = kept x0 := by
  simp only [chainEnd, kept_mk, kept_fold, kept_ite, ite_self, setArm_kept]

theorem truncate_kept (x0 : State) :
    kept (truncate x0) = kept x0 := by
  unfold truncate
  split <;> simp only [kept_mk, kept_fold, closeRecord_kept, submit_kept]

theorem opening_kept (x0 : Firing) (x1 : State) :
    kept (opening x0 x1) = kept x1 := by
  unfold opening
  repeat' split
  all_goals simp only [*, kept_mk, kept_fold, kept_ite, kept_ec_ite, ite_self, recMark_kept, submit_kept, digNote_kept]

theorem unitActs_kept (x0 x1 : Nat) (x2 : UnitCfg) (x3 : State) :
    kept (unitActs x0 x1 x2 x3) = kept x3 := by
  unfold unitActs
  repeat' split
  all_goals simp only [*, kept_mk, kept_fold, kept_ite, kept_ec_ite, ite_self, updUnit_kept, opening_kept]

theorem fireUnit_kept (x0 x1 : Nat) (x2 : State) :
    kept (fireUnit x0 x1 x2) = kept x2 := by
  unfold fireUnit
  split <;> simp only [kept_mk, kept_fold, kept_ite, ite_self, raiseTrig_kept, updUnit_kept, unitActs_kept, sendAgree_kept]

theorem fireUnits_kept (x0 : List Nat) (x1 : Nat) (x2 : State) :
    kept (fireUnits x0 x1 x2) = kept x2 := by
  unfold fireUnits
  repeat' (first | (simp only [*, kept_mk, kept_fold, kept_ite, kept_ec_ite, ite_self, fireUnit_kept]; done) | split | (with_reducible refine (kept_foldl _ _ _ ?_).trans ?_ <;> try intro _ _))

theorem unitSample_kept (x0 : Nat) (x1 : UnitCfg) (x2 : Samp) (x3 : State) :
    kept (unitSample x0 x1 x2 x3) = kept x3 := by
  unfold unitSample
  repeat' (first
    | (simp only [*, kept_mk, kept_fold, kept_ite, kept_ec_ite, ite_self, updUnit_kept, fireUnit_kept]; done)
    | (simp only [kept_mk, kept_fold, kept_ite, kept_ec_ite, ite_self, updUnit_kept, fireUnit_kept, kept_foldl]; done)
    | split
    | (with_reducible refine serve_kept _ _ _ _ ?_; intro _)
    | (with_reducible refine serveWrite_kept _ _ _ ?_; intro _)
    | (dsimp only; split)
    | (with_reducible refine (kept_foldl _ _ _ ?_).trans ?_ <;> try intro _ _)
    | (simp only [kept_mk, kept_fold, kept_ite, kept_ec_ite, ite_self, updUnit_kept, fireUnit_kept]; first | split | (with_reducible refine serve_kept _ _ _ _ ?_; intro _) | (with_reducible refine (kept_foldl _ _ _ ?_).trans ?_ <;> try intro _ _))
    | (rename_i h; first | rw [kept_of_snd h] | rw [kept_of_fst h])
    | (rename_i h _; first | rw [kept_of_snd h] | rw [kept_of_fst h])
    | (rename_i h _ _; first | rw [kept_of_snd h] | rw [kept_of_fst h])
    | (dsimp only; rename_i h; first | rw [kept_of_snd h] | rw [kept_of_fst h])
    | (dsimp only; rename_i h _; first | rw [kept_of_snd h] | rw [kept_of_fst h])
    | (dsimp only; rename_i h _ _; first | rw [kept_of_snd h] | rw [kept_of_fst h]))

theorem unitsSample_kept (x0 : Samp) (x1 : State) :
    kept (unitsSample x0 x1) = kept x1 := by
  unfold unitsSample
  repeat' (first | (simp only [*, kept_mk, kept_fold, kept_ite, kept_ec_ite, ite_self, unitSample_kept]; done) | split | (with_reducible refine (kept_foldl _ _ _ ?_).trans ?_ <;> try intro _ _))

theorem patternUnits_kept (x0 : Nat) (x1 : State) :
    kept (patternUnits x0 x1) = kept x1 := by
  unfold patternUnits
  repeat' (first | (simp only [*, kept_mk, kept_fold, kept_ite, kept_ec_ite, ite_self, updUnit_kept, fireUnit_kept]; done) | split | (with_reducible refine (kept_foldl _ _ _ ?_).trans ?_ <;> try intro _ _))

theorem binSet_kept (x0 x1 : Nat) (x2 x3 x4 x5 : Bool) (x6 : Nat) (x7 : State) :
    kept (binSet x0 x1 x2 x3 x4 x5 x6 x7) = kept x7 := by
  unfold binSet
  repeat' (first
    | (simp only [*, kept_mk, kept_fold, kept_ite, kept_ec_ite, ite_self, patternUnits_kept]; done)
    | (simp only [kept_mk, kept_fold, kept_ite, kept_ec_ite, ite_self, patternUnits_kept, kept_foldl]; done)
    | split
    | (with_reducible refine serve_kept _ _ _ _ ?_; intro _)
    | (with_reducible refine serveWrite_kept _ _ _ ?_; intro _)
    | (dsimp only; split)
    | (with_reducible refine (kept_foldl _ _ _ ?_).trans ?_ <;> try intro _ _)
    | (simp only [kept_mk, kept_fold, kept_ite, kept_ec_ite, ite_self, patternUnits_kept]; first | split | (with_reducible refine serve_kept _ _ _ _ ?_; intro _) | (with_reducible refine (kept_foldl _ _ _ ?_).trans ?_ <;> try intro _ _))
    | (rename_i h; first | rw [kept_of_snd h] | rw [kept_of_fst h])
    | (rename_i h _; first | rw [kept_of_snd h] | rw [kept_of_fst h])
    | (rename_i h _ _; first | rw [kept_of_snd h] | rw [kept_of_fst h])
    | (dsimp only; rename_i h; first | rw [kept_of_snd h] | rw [kept_of_fst h])
    | (dsimp only; rename_i h _; first | rw [kept_of_snd h] | rw [kept_of_fst h])
    | (dsimp only; rename_i h _ _; first | rw [kept_of_snd h] | rw [kept_of_fst h]))

theorem binPulse_kept (x0 x1 x2 : Nat) (x3 : State) :
    kept (binPulse x0 x1 x2 x3) = kept x3 := by
  simp only [binPulse, binSet_kept]

theorem setPhase_kept (x0 : Nat) (x1 : Option (Nat × Int × Nat)) (x2 : State) :
    kept (setPhase x0 x1 x2) = kept x2 := by
  simp only [setPhase, kept_mk, kept_fold, kept_ite, ite_self]

theorem sampUnits_kept (x0 : Samp) (x1 : State) :
    kept (sampUnits x0 x1) = kept x1 := by
  simp only [sampUnits, kept_ite, ite_self, unitsSample_kept]

theorem recTokens_kept (x0 : List (Int × BitVec 8)) (x1 : State) :
    kept (recTokens x0 x1) = kept x1 := by
  unfold recTokens
  repeat' (first | (simp only [*, kept_mk, kept_fold, kept_ite, kept_ec_ite, ite_self, sampUnits_kept, pushProt_kept, recFlags_kept]; done) | split | (with_reducible refine (kept_foldl _ _ _ ?_).trans ?_ <;> try intro _ _))

theorem recManual_kept (x0 : State) :
    kept (recManual x0) = kept x0 := by
  unfold recManual
  repeat' (first | (simp only [*, kept_mk, kept_fold, kept_ite, kept_ec_ite, ite_self, fireUnit_kept]; done) | split | (with_reducible refine (kept_foldl _ _ _ ?_).trans ?_ <;> try intro _ _))

theorem recStart_kept (x0 : State) :
    kept (recStart x0) = kept x0 := by
  simp only [recStart, kept_mk, kept_fold, kept_ite, ite_self, setArm_kept]

theorem applyArm_kept (x0 : Bool) (x1 : State) :
    kept (applyArm x0 x1) = kept x1 := by
  unfold applyArm
  repeat' split
  all_goals simp only [*, kept_mk, kept_fold, kept_ite, kept_ec_ite, ite_self, setArm_kept]

theorem recResume_kept (x0 : State) :
    kept (recResume x0) = kept x0 := by
  unfold recResume
  split <;> simp only [kept_mk, kept_fold, kept_ite, ite_self, recMark_kept, openRecord_kept]

theorem recWave_kept (x0 : List (Int × BitVec 8)) (x1 : State) :
    kept (recWave x0 x1) = kept x1 := by
  simp only [recWave, kept_ite, ite_self, recResume_kept, recTokens_kept, recManual_kept, recStart_kept]

theorem recDerived_kept (x0 x1 : Nat) (x2 : BitVec 8) (x3 x4 : Nat) (x5 : State) :
    kept (recDerived x0 x1 x2 x3 x4 x5) = kept x5 := by
  unfold recDerived
  repeat' (first
    | (simp only [*, kept_mk, kept_fold, kept_ite, kept_ec_ite, ite_self, sampUnits_kept, pushProt_kept, recFlags_kept]; done)
    | (simp only [kept_mk, kept_fold, kept_ite, kept_ec_ite, ite_self, sampUnits_kept, pushProt_kept, recFlags_kept, kept_foldl]; done)
    | split
    | (with_reducible refine serve_kept _ _ _ _ ?_; intro _)
    | (with_reducible refine serveWrite_kept _ _ _ ?_; intro _)
    | (dsimp only; split)
    | (with_reducible refine (kept_foldl _ _ _ ?_).trans ?_ <;> try intro _ _)
    | (simp only [kept_mk, kept_fold, kept_ite, kept_ec_ite, ite_self, sampUnits_kept, pushProt_kept, recFlags_kept]; first | split | (with_reducible refine serve_kept _ _ _ _ ?_; intro _) | (with_reducible refine (kept_foldl _ _ _ ?_).trans ?_ <;> try intro _ _))
    | (rename_i h; first | rw [kept_of_snd h] | rw [kept_of_fst h])
    | (rename_i h _; first | rw [kept_of_snd h] | rw [kept_of_fst h])
    | (rename_i h _ _; first | rw [kept_of_snd h] | rw [kept_of_fst h])
    | (dsimp only; rename_i h; first | rw [kept_of_snd h] | rw [kept_of_fst h])
    | (dsimp only; rename_i h _; first | rw [kept_of_snd h] | rw [kept_of_fst h])
    | (dsimp only; rename_i h _ _; first | rw [kept_of_snd h] | rw [kept_of_fst h]))

theorem recHigh_kept (x0 x1 x2 : Nat) (x3 : BitVec 8) (x4 : List Int) (x5 : State) :
    kept (recHigh x0 x1 x2 x3 x4 x5) = kept x5 := by
  unfold recHigh
  repeat' (first
    | (simp only [*, kept_mk, kept_fold, kept_ite, kept_ec_ite, ite_self, sampUnits_kept, pushHigh_kept, recFlags_kept]; done)
    | (simp only [kept_mk, kept_fold, kept_ite, kept_ec_ite, ite_self, sampUnits_kept, pushHigh_kept, recFlags_kept, kept_foldl]; done)
    | split
    | (with_reducible refine serve_kept _ _ _ _ ?_; intro _)
    | (with_reducible refine serveWrite_kept _ _ _ ?_; intro _)
    | (dsimp only; split)
    | (with_reducible refine (kept_foldl _ _ _ ?_).trans ?_ <;> try intro _ _)
    | (simp only [kept_mk, kept_fold, kept_ite, kept_ec_ite, ite_self, sampUnits_kept, pushHigh_kept, recFlags_kept]; first | split | (with_reducible refine serve_kept _ _ _ _ ?_; intro _) | (with_reducible refine (kept_foldl _ _ _ ?_).trans ?_ <;> try intro _ _))
    | (rename_i h; first | rw [kept_of_snd h] | rw [kept_of_fst h])
    | (rename_i h _; first | rw [kept_of_snd h] | rw [kept_of_fst h])
    | (rename_i h _ _; first | rw [kept_of_snd h] | rw [kept_of_fst h])
    | (dsimp only; rename_i h; first | rw [kept_of_snd h] | rw [kept_of_fst h])
    | (dsimp only; rename_i h _; first | rw [kept_of_snd h] | rw [kept_of_fst h])
    | (dsimp only; rename_i h _ _; first | rw [kept_of_snd h] | rw [kept_of_fst h]))

theorem drArm_kept (x0 : Req) (x1 : Nat) (x2 : State) :
    kept (drArm x0 x1 x2) = kept x2 := by
  unfold drArm
  repeat' (first | (simp only [*, kept_mk, kept_fold, kept_ite, kept_ec_ite, ite_self, serve_kept, schedTwin_kept, applyArm_kept, answer_kept]; done) | split | (with_reducible refine serve_kept _ _ _ _ ?_; intro _))

theorem askManual_kept (x0 : Nat) (x1 : State) :
    kept (askManual x0 x1) = kept x1 := by
  simp only [askManual, kept_mk, kept_fold]

theorem drTrigger_kept (x0 : Req) (x1 : Nat) (x2 : State) :
    kept (drTrigger x0 x1 x2) = kept x2 := by
  unfold drTrigger
  repeat' (first | (simp only [*, kept_mk, kept_fold, kept_ite, kept_ec_ite, ite_self, serve_kept, askManual_kept, schedTwin_kept, answer_kept]; done) | split | (with_reducible refine serve_kept _ _ _ _ ?_; intro _))

theorem clearFired_kept (x0 : Word) (x1 : State) :
    kept (clearFired x0 x1).1 = kept x1 := by
  simp only [clearFired, kept_mk, kept_fold]

theorem recordOpen_kept (x0 : State) :
    kept (recordOpen x0) = kept x0 := by
  unfold recordOpen
  repeat' split
  all_goals simp only [*, kept_mk, kept_fold, kept_ite, kept_ec_ite, ite_self, openRecord_kept]

theorem recordEnd_kept (x0 : State) :
    kept (recordEnd x0) = kept x0 := by
  unfold recordEnd
  split <;> simp only [kept_ite, ite_self, closeRecord_kept, truncate_kept, chainEnd_kept, openRecord_kept]

theorem holdOffExpiry_kept (x0 : State) :
    kept (holdOffExpiry x0) = kept x0 := by
  simp only [holdOffExpiry, kept_mk, kept_fold, kept_ite, ite_self]

theorem setStep_kept (x0 : Nat) (x1 : State) :
    kept (setStep x0 x1) = kept x1 := by
  unfold setStep
  repeat' (first
    | (simp only [*, kept_mk, kept_fold, kept_ite, kept_ec_ite, ite_self, recMark_kept, submit_kept]; done)
    | (simp only [kept_mk, kept_fold, kept_ite, kept_ec_ite, ite_self, recMark_kept, submit_kept, kept_foldl]; done)
    | split
    | (with_reducible refine serve_kept _ _ _ _ ?_; intro _)
    | (with_reducible refine serveWrite_kept _ _ _ ?_; intro _)
    | (dsimp only; split)
    | (with_reducible refine (kept_foldl _ _ _ ?_).trans ?_ <;> try intro _ _)
    | (simp only [kept_mk, kept_fold, kept_ite, kept_ec_ite, ite_self, recMark_kept, submit_kept]; first | split | (with_reducible refine serve_kept _ _ _ _ ?_; intro _) | (with_reducible refine (kept_foldl _ _ _ ?_).trans ?_ <;> try intro _ _))
    | (rename_i h; first | rw [kept_of_snd h] | rw [kept_of_fst h])
    | (rename_i h _; first | rw [kept_of_snd h] | rw [kept_of_fst h])
    | (rename_i h _ _; first | rw [kept_of_snd h] | rw [kept_of_fst h])
    | (dsimp only; rename_i h; first | rw [kept_of_snd h] | rw [kept_of_fst h])
    | (dsimp only; rename_i h _; first | rw [kept_of_snd h] | rw [kept_of_fst h])
    | (dsimp only; rename_i h _ _; first | rw [kept_of_snd h] | rw [kept_of_fst h]))

theorem rateStepUp_kept (x0 x1 : Nat) (x2 : State) :
    kept (rateStepUp x0 x1 x2) = kept x2 := by
  simp only [rateStepUp, kept_mk, kept_fold, kept_ite, ite_self, setStep_kept]

theorem rateStepDown_kept (x0 x1 : Nat) (x2 : State) :
    kept (rateStepDown x0 x1 x2) = kept x2 := by
  unfold rateStepDown
  repeat' (first
    | (simp only [*, kept_mk, kept_fold, kept_ite, kept_ec_ite, ite_self, setStep_kept]; done)
    | (simp only [kept_mk, kept_fold, kept_ite, kept_ec_ite, ite_self, setStep_kept, kept_foldl]; done)
    | split
    | (with_reducible refine serve_kept _ _ _ _ ?_; intro _)
    | (with_reducible refine serveWrite_kept _ _ _ ?_; intro _)
    | (dsimp only; split)
    | (with_reducible refine (kept_foldl _ _ _ ?_).trans ?_ <;> try intro _ _)
    | (simp only [kept_mk, kept_fold, kept_ite, kept_ec_ite, ite_self, setStep_kept]; first | split | (with_reducible refine serve_kept _ _ _ _ ?_; intro _) | (with_reducible refine (kept_foldl _ _ _ ?_).trans ?_ <;> try intro _ _))
    | (rename_i h; first | rw [kept_of_snd h] | rw [kept_of_fst h])
    | (rename_i h _; first | rw [kept_of_snd h] | rw [kept_of_fst h])
    | (rename_i h _ _; first | rw [kept_of_snd h] | rw [kept_of_fst h])
    | (dsimp only; rename_i h; first | rw [kept_of_snd h] | rw [kept_of_fst h])
    | (dsimp only; rename_i h _; first | rw [kept_of_snd h] | rw [kept_of_fst h])
    | (dsimp only; rename_i h _ _; first | rw [kept_of_snd h] | rw [kept_of_fst h]))

theorem ringFull_kept (x0 : Bool) (x1 : State) :
    kept (ringFull x0 x1) = kept x1 := by
  unfold ringFull
  repeat' (first
    | (simp only [*, kept_mk, kept_fold, kept_ite, kept_ec_ite, ite_self, truncate_kept]; done)
    | (simp only [kept_mk, kept_fold, kept_ite, kept_ec_ite, ite_self, truncate_kept, kept_foldl]; done)
    | split
    | (with_reducible refine serve_kept _ _ _ _ ?_; intro _)
    | (with_reducible refine serveWrite_kept _ _ _ ?_; intro _)
    | (dsimp only; split)
    | (with_reducible refine (kept_foldl _ _ _ ?_).trans ?_ <;> try intro _ _)
    | (simp only [kept_mk, kept_fold, kept_ite, kept_ec_ite, ite_self, truncate_kept]; first | split | (with_reducible refine serve_kept _ _ _ _ ?_; intro _) | (with_reducible refine (kept_foldl _ _ _ ?_).trans ?_ <;> try intro _ _))
    | (rename_i h; first | rw [kept_of_snd h] | rw [kept_of_fst h])
    | (rename_i h _; first | rw [kept_of_snd h] | rw [kept_of_fst h])
    | (rename_i h _ _; first | rw [kept_of_snd h] | rw [kept_of_fst h])
    | (dsimp only; rename_i h; first | rw [kept_of_snd h] | rw [kept_of_fst h])
    | (dsimp only; rename_i h _; first | rw [kept_of_snd h] | rw [kept_of_fst h])
    | (dsimp only; rename_i h _ _; first | rw [kept_of_snd h] | rw [kept_of_fst h]))

theorem reelDrainDone_kept (x0 x1 x2 : Nat) (x3 : State) :
    kept (reelDrainDone x0 x1 x2 x3) = kept x3 := by
  unfold reelDrainDone
  split
  · rfl
  · dsimp only
    rw [kept_mk, kept_fold, makeRoom_kept]

theorem drList_kept (x0 : Req) (x1 x2 : Nat) (x3 : State) :
    kept (drList x0 x1 x2 x3) = kept x3 := by
  unfold drList
  repeat' (first | (simp only [*, kept_mk, kept_fold, kept_ite, kept_ec_ite, ite_self, serve_kept, respond_kept, answer_kept]; done) | split | (with_reducible refine serve_kept _ _ _ _ ?_; intro _))

theorem drRead_kept (x0 : Req) (x1 x2 x3 : Nat) (x4 : State) :
    kept (drRead x0 x1 x2 x3 x4) = kept x4 := by
  unfold drRead
  repeat' (first | (simp only [*, kept_mk, kept_fold, kept_ite, kept_ec_ite, ite_self, serve_kept, respond_kept, answer_kept]; done) | split | (with_reducible refine serve_kept _ _ _ _ ?_; intro _))

theorem drExport_kept (x0 : Req) (x1 x2 x3 x4 x5 x6 : Nat) (x7 : State) :
    kept (drExport x0 x1 x2 x3 x4 x5 x6 x7) = kept x7 := by
  unfold drExport
  repeat' (first | (simp only [*, kept_mk, kept_fold, kept_ite, kept_ec_ite, ite_self, serve_kept, respond_kept, answer_kept]; done) | split | (with_reducible refine serve_kept _ _ _ _ ?_; intro _))

theorem drPowerFail_kept (x0 : State) :
    kept (drPowerFail x0) = kept x0 := by
  simp only [drPowerFail, kept_mk, kept_fold, closeRecord_kept, recMark_kept]

theorem drRecover_kept (x0 : State) :
    kept (drRecover x0) = kept x0 := by
  simp only [drRecover, kept_mk, kept_fold, kept_ite, ite_self, setArm_kept]

theorem updDom_kept (x0 : Nat) (x1 : Domain → Domain) (x2 : State) :
    kept (updDom x0 x1 x2) = kept x2 := by
  unfold updDom
  split <;> simp only [kept_mk, kept_fold]

theorem noteSync_kept (x0 : State) :
    kept (noteSync x0) = kept x0 := by
  simp only [noteSync, kept_mk, kept_fold, kept_ite, ite_self]

theorem advance_kept (x0 : Nat) (x1 : State) :
    kept (advance x0 x1) = kept x1 := by
  simp only [advance, kept_mk, kept_fold, kept_ite, ite_self, noteSync_kept]

theorem saveIncs_kept (x0 : State) :
    kept (saveIncs x0) = kept x0 := by
  simp only [saveIncs, kept_mk, kept_fold, kept_ite, ite_self]

theorem setInc_kept (x0 x1 : Nat) (x2 : State) :
    kept (setInc x0 x1 x2) = kept x2 := by
  simp only [setInc, kept_ite, ite_self, saveIncs_kept, updDom_kept]

theorem startSlew_kept (x0 x1 x2 : Nat) (x3 : State) :
    kept (startSlew x0 x1 x2 x3) = kept x3 := by
  simp only [startSlew, kept_ite, ite_self, updDom_kept]

theorem latchAll_kept (x0 : State) :
    kept (latchAll x0) = kept x0 := by
  simp only [latchAll, kept_mk, kept_fold]

theorem putArmed_kept (x0 : Owner) (x1 : Nat) (x2 : LaunchVal) (x3 : Nat) (x4 : State) :
    kept (putArmed x0 x1 x2 x3 x4) = kept x4 := by
  simp only [putArmed, kept_mk, kept_fold]

theorem armLaunch_kept (x0 : Owner) (x1 : Nat) (x2 : LaunchVal) (x3 : State) :
    kept (armLaunch x0 x1 x2 x3).1 = kept x3 := by
  unfold armLaunch
  split <;> simp only [putArmed_kept]

theorem updLaunch_kept (x0 : Nat) (x1 : LaunchEntry → LaunchEntry) (x2 : State) :
    kept (updLaunch x0 x1 x2) = kept x2 := by
  simp only [updLaunch, kept_mk, kept_fold]

theorem cancelLaunch_kept (x0 : Owner) (x1 : Nat) (x2 : State) :
    kept (cancelLaunch x0 x1 x2).1 = kept x2 := by
  unfold cancelLaunch
  repeat' split
  all_goals simp only [*, kept_mk, kept_fold, kept_ite, kept_ec_ite, ite_self, updLaunch_kept]

theorem launchSkipped_kept (x0 x1 x2 x3 : Nat) (x4 : State) :
    kept (launchSkipped x0 x1 x2 x3 x4) = kept x4 := by
  simp only [launchSkipped, submitParts_kept]

theorem launchesAcross_kept (x0 x1 : Nat) (x2 : State) :
    kept (launchesAcross x0 x1 x2) = kept x2 := by
  unfold launchesAcross
  repeat' (first | (simp only [*, kept_mk, kept_fold, kept_ite, kept_ec_ite, ite_self, launchSkipped_kept, updLaunch_kept]; done) | split | (with_reducible refine (kept_foldl _ _ _ ?_).trans ?_ <;> try intro _ _))

theorem armImage_kept (x0 : State) :
    kept (armImage x0) = kept x0 := by
  unfold armImage
  repeat' (first | (simp only [*, kept_mk, kept_fold, kept_ite, kept_ec_ite, ite_self, putArmed_kept, submit_kept]; done) | split | (with_reducible refine (kept_foldl _ _ _ ?_).trans ?_ <;> try intro _ _))

theorem gridCheck_kept (x0 : Nat) (x1 : Int) (x2 : State) :
    kept (gridCheck x0 x1 x2) = kept x2 := by
  simp only [gridCheck, kept_mk, kept_fold, kept_ite, ite_self, fireDet_kept]

theorem gridStep_kept (x0 : Bool) (x1 : Int) (x2 : State) :
    kept (gridStep x0 x1 x2) = kept x2 := by
  simp only [gridStep, kept_mk, kept_fold, gridCheck_kept]

theorem applyStep_kept (x0 : Nat) (x1 : Int) (x2 : Nat) (x3 : State) :
    kept (applyStep x0 x1 x2 x3) = kept x3 := by
  simp only [applyStep, kept_mk, kept_fold, kept_ite, ite_self, fireDetOnceP_kept, recMark_kept, gridStep_kept, updDom_kept, noteSync_kept, launchesAcross_kept, recFlags_kept]

theorem setRole_kept (x0 x1 : Nat) (x2 : State) :
    kept (setRole x0 x1 x2) = kept x2 := by
  simp only [setRole, kept_mk, kept_fold, kept_ite, ite_self, submit_kept]

theorem checkRoles_kept (x0 : State) :
    kept (checkRoles x0) = kept x0 := by
  unfold checkRoles
  repeat' (first | (simp only [*, kept_mk, kept_fold, kept_ite, kept_ec_ite, ite_self, setRole_kept]; done) | split | (with_reducible refine (kept_foldl _ _ _ ?_).trans ?_ <;> try intro _ _))

theorem setQual_kept (x0 : TQState) (x1 : Nat) (x2 : Bool) (x3 : State) :
    kept (setQual x0 x1 x2 x3) = kept x3 := by
  simp only [setQual, kept_mk, kept_fold, kept_ite, ite_self, checkRoles_kept, updDom_kept, noteSync_kept, submit_kept]

theorem leaveNever_kept (x0 : TQState) (x1 : State) :
    kept (leaveNever x0 x1) = kept x1 := by
  simp only [leaveNever, kept_mk, kept_fold, kept_ite, ite_self, armImage_kept]

theorem removeOffset_kept (x0 : Int) (x1 : State) :
    kept (removeOffset x0 x1).1 = kept x1 := by
  unfold removeOffset
  repeat' split
  all_goals simp only [*, kept_mk, kept_fold, kept_ite, kept_ec_ite, ite_self, applyStep_kept, startSlew_kept]

theorem updSrc_kept (x0 : Nat) (x1 : Source → Source) (x2 : State) :
    kept (updSrc x0 x1 x2) = kept x2 := by
  simp only [updSrc, kept_mk, kept_fold]

theorem noteYear_kept (x0 : State) :
    kept (noteYear x0) = kept x0 := by
  simp only [noteYear, kept_mk, kept_fold, kept_ite, ite_self]

theorem servoUpdate_kept (x0 : Int) (x1 : State) :
    kept (servoUpdate x0 x1) = kept x1 := by
  unfold servoUpdate
  have hr := removeOffset_kept x0 x1
  revert hr
  generalize removeOffset x0 x1 = p
  intro hr
  dsimp only
  generalize max _ (clsOf p.2) = c
  rw [leaveNever_kept]
  split
  · rw [noteYear_kept, saveIncs_kept, setQual_kept, kept_mk, kept_fold, updSrc_kept, hr]
  · split
    · rw [submit_kept, kept_mk, kept_fold, noteYear_kept, saveIncs_kept, setQual_kept, kept_mk, kept_fold, updSrc_kept, hr]
    · rw [submit_kept, clearDetAll_kept, noteYear_kept, saveIncs_kept, setQual_kept, kept_mk, kept_fold, updSrc_kept, hr]

theorem enterGlide_kept (x0 : Nat) (x1 : State) :
    kept (enterGlide x0 x1) = kept x1 := by
  simp only [enterGlide, kept_ite, ite_self, setQual_kept, fireDet_kept]

theorem selectSource_kept (x0 : Int) (x1 : State) :
    kept (selectSource x0 x1) = kept x1 := by
  simp only [selectSource, kept_mk, kept_fold, kept_ite, ite_self, servoUpdate_kept, enterGlide_kept, checkRoles_kept, submit_kept]

theorem srcGood_kept (x0 x1 : Nat) (x2 : Int) (x3 : State) :
    kept (srcGood x0 x1 x2 x3) = kept x3 := by
  simp only [srcGood, kept_ite, ite_self, updSrc_kept, selectSource_kept]

theorem srcLost_kept (x0 : Nat) (x1 : Bool) (x2 : State) :
    kept (srcLost x0 x1 x2) = kept x2 := by
  simp only [srcLost, updSrc_kept, selectSource_kept]

theorem capture_kept (x0 x1 x2 x3 : Nat) (x4 : List Byte) (x5 : State) :
    kept (capture x0 x1 x2 x3 x4 x5) = kept x5 := by
  simp only [capture, kept_mk, kept_fold, kept_ite, ite_self, submit_kept]

theorem takeUtc_kept (x0 : Option (Int × Nat)) (x1 : State) :
    kept (takeUtc x0 x1) = kept x1 := by
  unfold takeUtc
  split <;> simp only [kept_mk, kept_fold, kept_ite, ite_self]

theorem ptpPass_kept (x0 : Nat) (x1 : PtpMsg) (x2 : Nat) (x3 : State) :
    kept (ptpPass x0 x1 x2 x3) = kept x3 := by
  unfold ptpPass
  repeat' (first
    | (simp only [*, kept_mk, kept_fold, kept_ite, kept_ec_ite, ite_self, freshNat_kept, sendFrame_kept]; done)
    | (simp only [kept_mk, kept_fold, kept_ite, kept_ec_ite, ite_self, freshNat_kept, sendFrame_kept, kept_foldl]; done)
    | split
    | (with_reducible refine serve_kept _ _ _ _ ?_; intro _)
    | (with_reducible refine serveWrite_kept _ _ _ ?_; intro _)
    | (dsimp only; split)
    | (with_reducible refine (kept_foldl _ _ _ ?_).trans ?_ <;> try intro _ _)
    | (simp only [kept_mk, kept_fold, kept_ite, kept_ec_ite, ite_self, freshNat_kept, sendFrame_kept]; first | split | (with_reducible refine serve_kept _ _ _ _ ?_; intro _) | (with_reducible refine (kept_foldl _ _ _ ?_).trans ?_ <;> try intro _ _))
    | (rename_i h; first | rw [kept_of_snd h] | rw [kept_of_fst h])
    | (rename_i h _; first | rw [kept_of_snd h] | rw [kept_of_fst h])
    | (rename_i h _ _; first | rw [kept_of_snd h] | rw [kept_of_fst h])
    | (dsimp only; rename_i h; first | rw [kept_of_snd h] | rw [kept_of_fst h])
    | (dsimp only; rename_i h _; first | rw [kept_of_snd h] | rw [kept_of_fst h])
    | (dsimp only; rename_i h _ _; first | rw [kept_of_snd h] | rw [kept_of_fst h]))

theorem kick_kept (x0 : State) :
    kept (kick x0) = kept x0 := by
  simp only [kick, kept_mk, kept_fold]

theorem learnModel_kept (x0 : Nat) (x1 : State) :
    kept (learnModel x0 x1) = kept x1 := by
  simp only [learnModel, kept_mk, kept_fold, freshNat_kept]

theorem gridDone_kept (x0 : State) :
    kept (gridDone x0) = kept x0 := by
  unfold gridDone
  repeat' (first
    | (simp only [*, kept_mk, kept_fold, kept_ite, kept_ec_ite, ite_self, clearDetAll_kept, noteSync_kept, submit_kept]; done)
    | (simp only [kept_mk, kept_fold, kept_ite, kept_ec_ite, ite_self, clearDetAll_kept, noteSync_kept, submit_kept, kept_foldl]; done)
    | split
    | (with_reducible refine serve_kept _ _ _ _ ?_; intro _)
    | (with_reducible refine serveWrite_kept _ _ _ ?_; intro _)
    | (dsimp only; split)
    | (with_reducible refine (kept_foldl _ _ _ ?_).trans ?_ <;> try intro _ _)
    | (simp only [kept_mk, kept_fold, kept_ite, kept_ec_ite, ite_self, clearDetAll_kept, noteSync_kept, submit_kept]; first | split | (with_reducible refine serve_kept _ _ _ _ ?_; intro _) | (with_reducible refine (kept_foldl _ _ _ ?_).trans ?_ <;> try intro _ _))
    | (rename_i h; first | rw [kept_of_snd h] | rw [kept_of_fst h])
    | (rename_i h _; first | rw [kept_of_snd h] | rw [kept_of_fst h])
    | (rename_i h _ _; first | rw [kept_of_snd h] | rw [kept_of_fst h])
    | (dsimp only; rename_i h; first | rw [kept_of_snd h] | rw [kept_of_fst h])
    | (dsimp only; rename_i h _; first | rw [kept_of_snd h] | rw [kept_of_fst h])
    | (dsimp only; rename_i h _ _; first | rw [kept_of_snd h] | rw [kept_of_fst h]))

theorem voidStep_kept (x0 : State) :
    kept (voidStep x0) = kept x0 := by
  simp only [voidStep, kept_mk, kept_fold, submit_kept]

theorem tbLo_kept (x0 : Nat) (x1 : Bool) (x2 : Nat) (x3 : State) :
    kept (tbLo x0 x1 x2 x3).1 = kept x3 := by
  unfold tbLo
  repeat' split
  all_goals simp only [*, kept_mk, kept_fold, kept_ite, kept_ec_ite, ite_self, updDom_kept]

theorem tbHi_kept (x0 : Nat) (x1 : Bool) (x2 : Nat) (x3 : State) :
    kept (tbHi x0 x1 x2 x3).1 = kept x3 := by
  unfold tbHi
  generalize domWrite x3 x0 x1 = w
  cases w <;> try rfl
  dsimp only
  generalize (if x1 = true then (dom x3 x0).slewLo else (dom x3 x0).incLo) = lo
  generalize x2 % 65536 * 2 ^ 32 + lo = inc
  split
  · rfl
  · split
    · rfl
    · split
      · exact updDom_kept _ _ _
      · exact setInc_kept _ _ _

theorem tbCount_kept (x0 x1 : Nat) (x2 : State) :
    kept (tbCount x0 x1 x2).1 = kept x2 := by
  unfold tbCount
  repeat' split
  all_goals simp only [*, kept_mk, kept_fold, kept_ite, kept_ec_ite, ite_self, startSlew_kept]

theorem tbStepCtl_kept (x0 : Nat) (x1 : State) :
    kept (tbStepCtl x0 x1).1 = kept x1 := by
  unfold tbStepCtl
  dsimp only
  split
  · rfl
  · generalize stepStatus _ _ _ = w
    cases w <;> first | rfl | simp only [applyStep_kept, kept_mk, kept_fold]

theorem tbQual_kept (x0 x1 : Nat) (x2 : State) :
    kept (tbQual x0 x1 x2).1 = kept x2 := by
  unfold tbQual
  repeat' split
  all_goals simp only [*, kept_mk, kept_fold, kept_ite, kept_ec_ite, ite_self, saveIncs_kept, leaveNever_kept, noteYear_kept, setQual_kept, clearDetAll_kept, updDom_kept]

theorem tbWrite_kept (x0 x1 : Nat) (x2 : State) :
    kept (tbWrite x0 x1 x2).1 = kept x2 := by
  unfold tbWrite
  repeat' split
  all_goals simp only [*, kept_mk, kept_fold, kept_ite, kept_ec_ite, ite_self, tbCount_kept, tbStepCtl_kept, latchAll_kept, kick_kept, tbHi_kept, tbQual_kept, tbLo_kept]

theorem idle_kept (x0 : State) :
    kept (idle x0) = kept x0 := by
  simp only [idle, kept_ite, ite_self, advance_kept, mgmtPump_kept]

theorem updDi_kept (x0 : Nat) (x1 : DigIn → DigIn) (x2 : State) :
    kept (updDi x0 x1 x2) = kept x2 := by
  simp only [updDi, kept_mk, kept_fold]

theorem updDo_kept (x0 : Nat) (x1 : DigOut → DigOut) (x2 : State) :
    kept (updDo x0 x1 x2) = kept x2 := by
  simp only [updDo, kept_mk, kept_fold]

theorem noteDi_kept (x0 : Nat) (x1 : State) :
    kept (noteDi x0 x1) = kept x1 := by
  simp only [noteDi, kept_mk, kept_fold, kept_ite, ite_self]

theorem diRecord_kept (x0 : Nat) (x1 x2 : Bool) (x3 : Nat) (x4 : State) :
    kept (diRecord x0 x1 x2 x3 x4) = kept x4 := by
  simp only [diRecord, binSet_kept]

theorem diRefresh_kept (x0 : Nat) (x1 : State) :
    kept (diRefresh x0 x1) = kept x1 := by
  simp only [diRefresh, diRecord_kept, noteDi_kept]

theorem fieldAdopt_kept (x0 x1 : Nat) (x2 : State) :
    kept (fieldAdopt x0 x1 x2) = kept x2 := by
  simp only [fieldAdopt, kept_mk, kept_fold, kept_ite, ite_self]

theorem driveAll_kept (x0 : State) :
    kept (driveAll x0) = kept x0 := by
  simp only [driveAll, kept_mk, kept_fold]

theorem fieldRestore_kept (x0 : State) :
    kept (fieldRestore x0) = kept x0 := by
  unfold fieldRestore
  repeat' (first | (simp only [*, kept_mk, kept_fold, kept_ite, kept_ec_ite, ite_self, raiseTrig_kept, clearDet_kept, refreshPads_kept, diRecord_kept, noteDi_kept, submit_kept]; done) | split | (with_reducible refine (kept_foldl _ _ _ ?_).trans ?_ <;> try intro _ _))

theorem fieldFrameStart_kept (x0 : State) :
    kept (fieldFrameStart x0) = kept x0 := by
  unfold fieldFrameStart
  repeat' (first
    | (simp only [*, kept_mk, kept_fold, kept_ite, kept_ec_ite, ite_self, fieldRestore_kept, updLaunch_kept]; done)
    | (simp only [kept_mk, kept_fold, kept_ite, kept_ec_ite, ite_self, fieldRestore_kept, updLaunch_kept, kept_foldl]; done)
    | split
    | (with_reducible refine serve_kept _ _ _ _ ?_; intro _)
    | (with_reducible refine serveWrite_kept _ _ _ ?_; intro _)
    | (dsimp only; split)
    | (with_reducible refine (kept_foldl _ _ _ ?_).trans ?_ <;> try intro _ _)
    | (simp only [kept_mk, kept_fold, kept_ite, kept_ec_ite, ite_self, fieldRestore_kept, updLaunch_kept]; first | split | (with_reducible refine serve_kept _ _ _ _ ?_; intro _) | (with_reducible refine (kept_foldl _ _ _ ?_).trans ?_ <;> try intro _ _))
    | (rename_i h; first | rw [kept_of_snd h] | rw [kept_of_fst h])
    | (rename_i h _; first | rw [kept_of_snd h] | rw [kept_of_fst h])
    | (rename_i h _ _; first | rw [kept_of_snd h] | rw [kept_of_fst h])
    | (dsimp only; rename_i h; first | rw [kept_of_snd h] | rw [kept_of_fst h])
    | (dsimp only; rename_i h _; first | rw [kept_of_snd h] | rw [kept_of_fst h])
    | (dsimp only; rename_i h _ _; first | rw [kept_of_snd h] | rw [kept_of_fst h]))

theorem fieldDownMissing_kept (x0 : State) :
    kept (fieldDownMissing x0) = kept x0 := by
  simp only [fieldDownMissing, kept_mk, kept_fold, driveAll_kept]

theorem fieldDownRx_kept (x0 : State) :
    kept (fieldDownRx x0) = kept x0 := by
  unfold fieldDownRx
  repeat' (first
    | (simp only [*, kept_mk, kept_fold, kept_ite, kept_ec_ite, ite_self, driveAll_kept, fieldAdopt_kept, updDo_kept]; done)
    | (simp only [kept_mk, kept_fold, kept_ite, kept_ec_ite, ite_self, driveAll_kept, fieldAdopt_kept, updDo_kept, kept_foldl]; done)
    | split
    | (with_reducible refine serve_kept _ _ _ _ ?_; intro _)
    | (with_reducible refine serveWrite_kept _ _ _ ?_; intro _)
    | (dsimp only; split)
    | (with_reducible refine (kept_foldl _ _ _ ?_).trans ?_ <;> try intro _ _)
    | (simp only [kept_mk, kept_fold, kept_ite, kept_ec_ite, ite_self, driveAll_kept, fieldAdopt_kept, updDo_kept]; first | split | (with_reducible refine serve_kept _ _ _ _ ?_; intro _) | (with_reducible refine (kept_foldl _ _ _ ?_).trans ?_ <;> try intro _ _))
    | (rename_i h; first | rw [kept_of_snd h] | rw [kept_of_fst h])
    | (rename_i h _; first | rw [kept_of_snd h] | rw [kept_of_fst h])
    | (rename_i h _ _; first | rw [kept_of_snd h] | rw [kept_of_fst h])
    | (dsimp only; rename_i h; first | rw [kept_of_snd h] | rw [kept_of_fst h])
    | (dsimp only; rename_i h _; first | rw [kept_of_snd h] | rw [kept_of_fst h])
    | (dsimp only; rename_i h _ _; first | rw [kept_of_snd h] | rw [kept_of_fst h]))

theorem takeEdge_kept (x0 : State) (x1 : DiEdge) :
    kept (takeEdge x0 x1) = kept x0 := by
  simp only [takeEdge, kept_ite, ite_self, raiseTrig_kept, updDi_kept, emit_kept, diRecord_kept, noteDi_kept, fireDet_kept]

theorem fieldLost_kept (x0 : Nat) (x1 : State) :
    kept (fieldLost x0 x1) = kept x1 := by
  unfold fieldLost
  repeat' (first
    | (simp only [*, kept_mk, kept_fold, kept_ite, kept_ec_ite, ite_self, updDi_kept, refreshPads_kept, diRecord_kept, noteDi_kept, fireDet_kept]; done)
    | (simp only [kept_mk, kept_fold, kept_ite, kept_ec_ite, ite_self, updDi_kept, refreshPads_kept, diRecord_kept, noteDi_kept, fireDet_kept, kept_foldl]; done)
    | split
    | (with_reducible refine serve_kept _ _ _ _ ?_; intro _)
    | (with_reducible refine serveWrite_kept _ _ _ ?_; intro _)
    | (dsimp only; split)
    | (with_reducible refine (kept_foldl _ _ _ ?_).trans ?_ <;> try intro _ _)
    | (simp only [kept_mk, kept_fold, kept_ite, kept_ec_ite, ite_self, updDi_kept, refreshPads_kept, diRecord_kept, noteDi_kept, fireDet_kept]; first | split | (with_reducible refine serve_kept _ _ _ _ ?_; intro _) | (with_reducible refine (kept_foldl _ _ _ ?_).trans ?_ <;> try intro _ _))
    | (rename_i h; first | rw [kept_of_snd h] | rw [kept_of_fst h])
    | (rename_i h _; first | rw [kept_of_snd h] | rw [kept_of_fst h])
    | (rename_i h _ _; first | rw [kept_of_snd h] | rw [kept_of_fst h])
    | (dsimp only; rename_i h; first | rw [kept_of_snd h] | rw [kept_of_fst h])
    | (dsimp only; rename_i h _; first | rw [kept_of_snd h] | rw [kept_of_fst h])
    | (dsimp only; rename_i h _ _; first | rw [kept_of_snd h] | rw [kept_of_fst h]))

theorem fieldUpHead_kept (x0 : Nat) (x1 : Int) (x2 : State) :
    kept (fieldUpHead x0 x1 x2) = kept x2 := by
  simp only [fieldUpHead, kept_mk, kept_fold, kept_ite, ite_self, fieldLost_kept]

theorem takeStates_kept (x0 : Nat) (x1 : State) :
    kept (takeStates x0 x1) = kept x1 := by
  unfold takeStates
  repeat' (first | (simp only [*, kept_mk, kept_fold, kept_ite, kept_ec_ite, ite_self, updDi_kept]; done) | split | (with_reducible refine (kept_foldl _ _ _ ?_).trans ?_ <;> try intro _ _))

theorem unreported_kept (x0 x1 : Nat) (x2 : State) (x3 : Nat) :
    kept (unreported x0 x1 x2 x3) = kept x2 := by
  simp only [unreported, kept_ite, ite_self, raiseTrig_kept, updDi_kept, diRecord_kept, noteDi_kept, submit_kept]

theorem fieldUpRx_kept (x0 x1 x2 x3 x4 x5 x6 : Nat) (x7 : Int) (x8 : State) :
    kept (fieldUpRx x0 x1 x2 x3 x4 x5 x6 x7 x8) = kept x8 := by
  unfold fieldUpRx
  repeat' (first
    | (simp only [*, kept_mk, kept_fold, kept_ite, kept_ec_ite, ite_self, takeEdge_kept, fieldUpHead_kept, takeStates_kept, diRecord_kept, noteDi_kept, unreported_kept]; done)
    | (simp only [kept_mk, kept_fold, kept_ite, kept_ec_ite, ite_self, takeEdge_kept, fieldUpHead_kept, takeStates_kept, diRecord_kept, noteDi_kept, unreported_kept, kept_foldl]; done)
    | split
    | (with_reducible refine serve_kept _ _ _ _ ?_; intro _)
    | (with_reducible refine serveWrite_kept _ _ _ ?_; intro _)
    | (dsimp only; split)
    | (with_reducible refine (kept_foldl _ _ _ ?_).trans ?_ <;> try intro _ _)
    | (simp only [kept_mk, kept_fold, kept_ite, kept_ec_ite, ite_self, takeEdge_kept, fieldUpHead_kept, takeStates_kept, diRecord_kept, noteDi_kept, unreported_kept]; first | split | (with_reducible refine serve_kept _ _ _ _ ?_; intro _) | (with_reducible refine (kept_foldl _ _ _ ?_).trans ?_ <;> try intro _ _))
    | (rename_i h; first | rw [kept_of_snd h] | rw [kept_of_fst h])
    | (rename_i h _; first | rw [kept_of_snd h] | rw [kept_of_fst h])
    | (rename_i h _ _; first | rw [kept_of_snd h] | rw [kept_of_fst h])
    | (dsimp only; rename_i h; first | rw [kept_of_snd h] | rw [kept_of_fst h])
    | (dsimp only; rename_i h _; first | rw [kept_of_snd h] | rw [kept_of_fst h])
    | (dsimp only; rename_i h _ _; first | rw [kept_of_snd h] | rw [kept_of_fst h]))

theorem clearFieldFlag_kept (x0 x1 : Nat) (x2 : State) :
    kept (clearFieldFlag x0 x1 x2) = kept x2 := by
  unfold clearFieldFlag
  split <;> simp only [updDi_kept, updDo_kept]

theorem syncClk_kept (x0 : State) :
    kept (syncClk x0) = kept x0 := by
  simp only [syncClk, kept_mk, kept_fold]

theorem markDirty_kept (x0 : State) :
    kept (markDirty x0) = kept x0 := by
  simp only [markDirty, kept_mk, kept_fold]

theorem putTask_kept (x0 : Task) (x1 : State) :
    kept (putTask x0 x1) = kept x1 := by
  simp only [putTask, kept_mk, kept_fold]

theorem wordPut_kept (x0 x1 x2 : Nat) (x3 : Task) (x4 : State) :
    kept (wordPut x0 x1 x2 x3 x4).2 = kept x4 := by
  unfold wordPut
  split <;> simp only [kept_mk, kept_fold, markDirty_kept]

theorem bitPut_kept (x0 x1 : Nat) (x2 : Bool) (x3 : Task) (x4 : State) :
    kept (bitPut x0 x1 x2 x3 x4).2 = kept x4 := by
  unfold bitPut
  repeat' split
  all_goals simp only [*, kept_mk, kept_fold, kept_ite, kept_ec_ite, ite_self, wordPut_kept, markDirty_kept]

theorem iBit_kept (x0 : Bool → Bool → Bool) (x1 x2 : Nat) (x3 : Task) (x4 : State) :
    kept (iBit x0 x1 x2 x3 x4).2 = kept x4 := by
  simp only [iBit, ]

theorem iPush_kept (x0 x1 x2 : Nat) (x3 : Task) (x4 : State) :
    kept (iPush x0 x1 x2 x3 x4).2 = kept x4 := by
  simp only [iPush, ]

theorem iClose_kept (x0 x1 : Nat) (x2 : Task) (x3 : State) :
    kept (iClose x0 x1 x2 x3).2 = kept x3 := by
  unfold iClose
  split <;> simp only []

theorem putEdge_kept (x0 : EdgeMem) (x1 : State) :
    kept (putEdge x0 x1) = kept x1 := by
  simp only [putEdge, kept_mk, kept_fold, markDirty_kept]

theorem iEdge_kept (x0 : Bool) (x1 x2 : Nat) (x3 : Task) (x4 : State) :
    kept (iEdge x0 x1 x2 x3 x4).2 = kept x4 := by
  simp only [iEdge, putEdge_kept]

theorem iSt_kept (x0 : Bool) (x1 x2 : Nat) (x3 : Task) (x4 : State) :
    kept (iSt x0 x1 x2 x3 x4).2 = kept x4 := by
  simp only [iSt, bitPut_kept]

theorem iSetRst_kept (x0 : Bool) (x1 x2 : Nat) (x3 : Task) (x4 : State) :
    kept (iSetRst x0 x1 x2 x3 x4).2 = kept x4 := by
  unfold iSetRst
  split <;> simp only [bitPut_kept]

theorem putTimer_kept (x0 : Timer) (x1 : State) :
    kept (putTimer x0 x1) = kept x1 := by
  simp only [putTimer, kept_mk, kept_fold, markDirty_kept]

theorem iTimer_kept (x0 x1 x2 : Nat) (x3 : Task) (x4 : State) :
    kept (iTimer x0 x1 x2 x3 x4).2 = kept x4 := by
  unfold iTimer
  split <;> simp only [putTimer_kept]

theorem iTrst_kept (x0 x1 : Nat) (x2 : Task) (x3 : State) :
    kept (iTrst x0 x1 x2 x3).2 = kept x3 := by
  unfold iTrst
  repeat' split
  all_goals simp only [*, kept_mk, kept_fold, kept_ite, kept_ec_ite, ite_self, putTimer_kept]

theorem iTpv_kept (x0 x1 : Nat) (x2 : Task) (x3 : State) :
    kept (iTpv x0 x1 x2 x3).2 = kept x3 := by
  unfold iTpv
  split <;> simp only [putTimer_kept]

theorem putCounter_kept (x0 : Counter) (x1 : State) :
    kept (putCounter x0 x1) = kept x1 := by
  simp only [putCounter, kept_mk, kept_fold, markDirty_kept]

theorem iCtu_kept (x0 x1 : Nat) (x2 : Task) (x3 : State) :
    kept (iCtu x0 x1 x2 x3).2 = kept x3 := by
  unfold iCtu
  split <;> simp only [putCounter_kept]

theorem iCtd_kept (x0 x1 : Nat) (x2 : Task) (x3 : State) :
    kept (iCtd x0 x1 x2 x3).2 = kept x3 := by
  unfold iCtd
  split <;> simp only [putCounter_kept]

theorem iCount_kept (x0 : Counter → Int) (x1 x2 : Nat) (x3 : Task) (x4 : State) :
    kept (iCount x0 x1 x2 x3 x4).2 = kept x4 := by
  unfold iCount
  repeat' split
  all_goals simp only [*, kept_mk, kept_fold, kept_ite, kept_ec_ite, ite_self, putCounter_kept]

theorem iCpv_kept (x0 x1 : Nat) (x2 : Task) (x3 : State) :
    kept (iCpv x0 x1 x2 x3).2 = kept x3 := by
  unfold iCpv
  split <;> simp only [putCounter_kept]

theorem iWord_kept (x0 : Word → Word → Word) (x1 x2 : Nat) (x3 : Task) (x4 : State) :
    kept (iWord x0 x1 x2 x3 x4).2 = kept x4 := by
  simp only [iWord, ]

theorem iArith_kept (x0 : Int → Int → Word × Bool) (x1 x2 : Nat) (x3 : Task) (x4 : State) :
    kept (iArith x0 x1 x2 x3 x4).2 = kept x4 := by
  simp only [iArith, ]

theorem iSigned_kept (x0 : Int → Int) (x1 x2 : Nat) (x3 : Task) (x4 : State) :
    kept (iSigned x0 x1 x2 x3 x4).2 = kept x4 := by
  simp only [iSigned, ]

theorem iAcc_kept (x0 : Word → Word) (x1 x2 : Nat) (x3 : Task) (x4 : State) :
    kept (iAcc x0 x1 x2 x3 x4).2 = kept x4 := by
  simp only [iAcc, ]

theorem iShift_kept (x0 : Word → Nat → Word) (x1 x2 : Nat) (x3 : Task) (x4 : State) :
    kept (iShift x0 x1 x2 x3 x4).2 = kept x4 := by
  simp only [iShift, ]

theorem iCmp_kept (x0 : Word → Word → Bool) (x1 x2 : Nat) (x3 : Task) (x4 : State) :
    kept (iCmp x0 x1 x2 x3 x4).2 = kept x4 := by
  simp only [iCmp, ]

theorem iLdh_kept (x0 x1 : Nat) (x2 : Task) (x3 : State) :
    kept (iLdh x0 x1 x2 x3).2 = kept x3 := by
  simp only [iLdh, ]

theorem iFix_kept (x0 x1 : Nat) (x2 : Task) (x3 : State) :
    kept (iFix x0 x1 x2 x3).2 = kept x3 := by
  simp only [iFix, ]

theorem iJump_kept (x0 : Bool → Bool) (x1 x2 : Nat) (x3 : Task) (x4 : State) :
    kept (iJump x0 x1 x2 x3 x4).2 = kept x4 := by
  simp only [iJump, ]

theorem iCall_kept (x0 x1 : Nat) (x2 : Task) (x3 : State) :
    kept (iCall x0 x1 x2 x3).2 = kept x3 := by
  simp only [iCall, ]

theorem iRet_kept (x0 x1 : Nat) (x2 : Task) (x3 : State) :
    kept (iRet x0 x1 x2 x3).2 = kept x3 := by
  unfold iRet
  split <;> simp only []

theorem iEvt_kept (x0 x1 : Nat) (x2 : Task) (x3 : State) :
    kept (iEvt x0 x1 x2 x3).2 = kept x3 := by
  unfold iEvt
  split <;> simp only [emit_kept]

theorem iLarm_kept (x0 x1 : Nat) (x2 : Task) (x3 : State) :
    kept (iLarm x0 x1 x2 x3).2 = kept x3 := by
  unfold iLarm
  split <;> simp only []

theorem iLcan_kept (x0 x1 : Nat) (x2 : Task) (x3 : State) :
    kept (iLcan x0 x1 x2 x3).2 = kept x3 := by
  unfold iLcan
  split <;> simp only []

theorem iNop_kept (x0 x1 : Nat) (x2 : Task) (x3 : State) :
    kept (iNop x0 x1 x2 x3).2 = kept x3 := by
  simp only [iNop, ]

theorem updSt_kept (x0 : Nat) (x1 : Station → Station) (x2 : State) :
    kept (updSt x0 x1 x2) = kept x2 := by
  simp only [updSt, kept_mk, kept_fold]

theorem putInputs_kept (x0 : Nat) (x1 : List Byte) (x2 : State) :
    kept (putInputs x0 x1 x2) = kept x2 := by
  simp only [putInputs, kept_mk, kept_fold]

theorem putValid_kept (x0 : State) :
    kept (putValid x0) = kept x0 := by
  simp only [putValid, kept_mk, kept_fold]

theorem stMiss_kept (x0 : Nat) (x1 : State) :
    kept (stMiss x0 x1) = kept x1 := by
  simp only [stMiss, kept_ite, ite_self, putValid_kept, updSt_kept, fireDet_kept]

theorem stGood_kept (x0 : Nat) (x1 : List Byte) (x2 : State) :
    kept (stGood x0 x1 x2) = kept x2 := by
  simp only [stGood, kept_ite, ite_self, putValid_kept, clearDet_kept, putInputs_kept, updSt_kept, submit_kept]

theorem rioRelease_kept (x0 : Nat) (x1 : State) :
    kept (rioRelease x0 x1) = kept x1 := by
  unfold rioRelease
  repeat' (first | (simp only [*, kept_mk, kept_fold, kept_ite, kept_ec_ite, ite_self, updSt_kept, stGood_kept, stMiss_kept]; done) | split | (with_reducible refine (kept_foldl _ _ _ ?_).trans ?_ <;> try intro _ _))

theorem stTrip_kept (x0 x1 x2 x3 : Nat) (x4 : State) :
    kept (stTrip x0 x1 x2 x3 x4) = kept x4 := by
  unfold stTrip
  split <;> simp only [updSt_kept]

theorem stTake_kept (x0 x1 x2 : Nat) (x3 : Bool) (x4 : List Byte) (x5 : State) :
    kept (stTake x0 x1 x2 x3 x4 x5) = kept x5 := by
  simp only [stTake, updSt_kept, sendAgree_kept]

theorem stSend_kept (x0 : Bool) (x1 : State × Nat) (x2 : Nat) :
    kept (stSend x0 x1 x2).1 = kept x1.1 := by
  simp only [stSend, updSt_kept, sendFrame_kept]

theorem rioPhase_kept (x0 : Nat) (x1 : State) :
    kept (rioPhase x0 x1) = kept x1 := by
  simp only [rioPhase, kept_mk, kept_fold, kept_ite, ite_self, submit_kept]

theorem ringTake_kept (x0 : Nat) (x1 : List Byte) (x2 : State) :
    kept (ringTake x0 x1 x2) = kept x2 := by
  simp only [ringTake, updSt_kept, sendAgree_kept, stGood_kept]

theorem sendLogic_kept (x0 : List Nat) (x1 : State) :
    kept (sendLogic x0 x1) = kept x1 := by
  simp only [sendLogic, sendAgree_kept]

theorem startWith_kept (x0 : Task) (x1 x2 x3 : Nat) (x4 x5 : SMap) (x6 : State) :
    kept (startWith x0 x1 x2 x3 x4 x5 x6) = kept x6 := by
  simp only [startWith, putTask_kept]

theorem preempt_kept (x0 : State) :
    kept (preempt x0) = kept x0 := by
  unfold preempt
  split <;> simp only [putTask_kept]

theorem startTask_kept (x0 : Task) (x1 : State) :
    kept (startTask x0 x1) = kept x1 := by
  simp only [startTask, preempt_kept, sendLogic_kept, startWith_kept]

theorem resumeTask_kept (x0 : Task) (x1 : State) :
    kept (resumeTask x0 x1) = kept x1 := by
  simp only [resumeTask, putTask_kept, sendLogic_kept]

theorem dispatchOwn_kept (x0 : State) :
    kept (dispatchOwn x0) = kept x0 := by
  unfold dispatchOwn
  repeat' (first
    | (simp only [*, kept_mk, kept_fold, kept_ite, kept_ec_ite, ite_self, resumeTask_kept, startTask_kept]; done)
    | (simp only [kept_mk, kept_fold, kept_ite, kept_ec_ite, ite_self, resumeTask_kept, startTask_kept, kept_foldl]; done)
    | split
    | (with_reducible refine serve_kept _ _ _ _ ?_; intro _)
    | (with_reducible refine serveWrite_kept _ _ _ ?_; intro _)
    | (dsimp only; split)
    | (with_reducible refine (kept_foldl _ _ _ ?_).trans ?_ <;> try intro _ _)
    | (simp only [kept_mk, kept_fold, kept_ite, kept_ec_ite, ite_self, resumeTask_kept, startTask_kept]; first | split | (with_reducible refine serve_kept _ _ _ _ ?_; intro _) | (with_reducible refine (kept_foldl _ _ _ ?_).trans ?_ <;> try intro _ _))
    | (rename_i h; first | rw [kept_of_snd h] | rw [kept_of_fst h])
    | (rename_i h _; first | rw [kept_of_snd h] | rw [kept_of_fst h])
    | (rename_i h _ _; first | rw [kept_of_snd h] | rw [kept_of_fst h])
    | (dsimp only; rename_i h; first | rw [kept_of_snd h] | rw [kept_of_fst h])
    | (dsimp only; rename_i h _; first | rw [kept_of_snd h] | rw [kept_of_fst h])
    | (dsimp only; rename_i h _ _; first | rw [kept_of_snd h] | rw [kept_of_fst h]))

theorem dispatchAgreed_kept (x0 : State) :
    kept (dispatchAgreed x0) = kept x0 := by
  unfold dispatchAgreed
  repeat' split
  all_goals simp only [*, kept_mk, kept_fold, kept_ite, kept_ec_ite, ite_self, putTask_kept, preempt_kept, startWith_kept, agreeUsed_kept]

theorem dispatch_kept (x0 : State) :
    kept (dispatch x0) = kept x0 := by
  simp only [dispatch, kept_ite, ite_self, dispatchOwn_kept, dispatchAgreed_kept]

theorem pumpTriggers_kept (x0 : State) :
    kept (pumpTriggers x0) = kept x0 := by
  unfold pumpTriggers
  repeat' (first | (simp only [*, kept_mk, kept_fold, kept_ite, kept_ec_ite, ite_self, putTask_kept]; done) | split | (with_reducible refine (kept_foldl _ _ _ ?_).trans ?_ <;> try intro _ _))

theorem queueTrig_kept (x0 : Trig) (x1 : State) :
    kept (queueTrig x0 x1) = kept x1 := by
  simp only [queueTrig, kept_mk, kept_fold, kept_ite, ite_self, submit_kept]

theorem releaseTask_kept (x0 : Task) (x1 x2 x3 : Nat) (x4 : State) :
    kept (releaseTask x0 x1 x2 x3 x4) = kept x4 := by
  simp only [releaseTask, kept_mk, kept_fold, kept_ite, ite_self, putTask_kept, rioRelease_kept, submit_kept]

theorem launchRefused_kept (x0 : Status) (x1 : Nat) (x2 : State) :
    kept (launchRefused x0 x1 x2) = kept x2 := by
  simp only [launchRefused, kept_ite, ite_self, submit_kept]

theorem passReq_kept (x0 : State) (x1 : Bool × Nat × LaunchVal × Nat) :
    kept (passReq x0 x1) = kept x0 := by
  unfold passReq
  split
  split
  · split
    rename_i h
    simp only [kept_mk, kept_fold, launchRefused_kept, markDirty_kept]
    rw [kept_of_fst h, armLaunch_kept]
  · split
    rename_i h
    simp only [launchRefused_kept]
    rw [kept_of_fst h]
    split
    · exact cancelLaunch_kept _ _ _
    · rfl

theorem checkReleased_kept (x0 : State) :
    kept (checkReleased x0) = kept x0 := by
  simp only [checkReleased, kept_mk, kept_fold, kept_ite, ite_self, submit_kept]

theorem taskEnd_kept (x0 : Task) (x1 : State) :
    kept (taskEnd x0 x1) = kept x1 := by
  unfold taskEnd
  repeat' (first
    | (simp only [*, kept_mk, kept_fold, kept_ite, kept_ec_ite, ite_self, putTask_kept, pumpTriggers_kept, dispatch_kept, checkReleased_kept, passReq_kept, markDirty_kept, digNote_kept]; done)
    | (simp only [kept_mk, kept_fold, kept_ite, kept_ec_ite, ite_self, putTask_kept, pumpTriggers_kept, dispatch_kept, checkReleased_kept, passReq_kept, markDirty_kept, digNote_kept, kept_foldl]; done)
    | split
    | (with_reducible refine serve_kept _ _ _ _ ?_; intro _)
    | (with_reducible refine serveWrite_kept _ _ _ ?_; intro _)
    | (dsimp only; split)
    | (with_reducible refine (kept_foldl _ _ _ ?_).trans ?_ <;> try intro _ _)
    | (simp only [kept_mk, kept_fold, kept_ite, kept_ec_ite, ite_self, putTask_kept, pumpTriggers_kept, dispatch_kept, checkReleased_kept, passReq_kept, markDirty_kept, digNote_kept]; first | split | (with_reducible refine serve_kept _ _ _ _ ?_; intro _) | (with_reducible refine (kept_foldl _ _ _ ?_).trans ?_ <;> try intro _ _))
    | (rename_i h; first | rw [kept_of_snd h] | rw [kept_of_fst h])
    | (rename_i h _; first | rw [kept_of_snd h] | rw [kept_of_fst h])
    | (rename_i h _ _; first | rw [kept_of_snd h] | rw [kept_of_fst h])
    | (dsimp only; rename_i h; first | rw [kept_of_snd h] | rw [kept_of_fst h])
    | (dsimp only; rename_i h _; first | rw [kept_of_snd h] | rw [kept_of_fst h])
    | (dsimp only; rename_i h _ _; first | rw [kept_of_snd h] | rw [kept_of_fst h]))

theorem setMode_kept (x0 : LeMode) (x1 : Nat) (x2 : State) :
    kept (setMode x0 x1 x2) = kept x2 := by
  simp only [setMode, kept_mk, kept_fold, submit_kept, markDirty_kept]

theorem abandon_kept (x0 : State) :
    kept (abandon x0) = kept x0 := by
  simp only [abandon, kept_mk, kept_fold]

theorem enterRun_kept (x0 : State) :
    kept (enterRun x0) = kept x0 := by
  simp only [enterRun, kept_mk, kept_fold, checkReleased_kept, abandon_kept]

theorem coldState_kept (x0 : State) :
    kept (coldState x0) = kept x0 := by
  unfold coldState
  split <;> simp only [kept_mk, kept_fold, markDirty_kept]

theorem activateRefused_kept (x0 : Option Req) (x1 : Status) (x2 : State) :
    kept (activateRefused x0 x1 x2) = kept x2 := by
  unfold activateRefused
  split <;> simp only [submitCmd_kept, submit_kept, answer_kept]

theorem refuseChange_kept (x0 : Status) (x1 : State) :
    kept (refuseChange x0 x1) = kept x1 := by
  unfold refuseChange
  split <;> simp only [kept_mk, kept_fold, kept_ite, ite_self, submit_kept, activateRefused_kept]

theorem enterHold_kept (x0 : Nat) (x1 : State) :
    kept (enterHold x0 x1) = kept x1 := by
  simp only [enterHold, kept_mk, kept_fold, syncClk_kept, setMode_kept]

theorem leaveHold_kept (x0 : State) :
    kept (leaveHold x0) = kept x0 := by
  simp only [leaveHold, kept_mk, kept_fold, pumpTriggers_kept, dispatch_kept, setMode_kept]

theorem enterStop_kept (x0 : Nat) (x1 : State) :
    kept (enterStop x0 x1) = kept x1 := by
  simp only [enterStop, syncClk_kept, abandon_kept, setMode_kept]

theorem applyMode_kept (x0 : Nat) (x1 : State) :
    kept (applyMode x0 x1) = kept x1 := by
  unfold applyMode
  repeat' (first
    | (simp only [*, kept_mk, kept_fold, kept_ite, kept_ec_ite, ite_self, enterStop_kept, enterHold_kept, enterRun_kept, setMode_kept, coldState_kept, refuseChange_kept, leaveHold_kept, markDirty_kept]; done)
    | (simp only [kept_mk, kept_fold, kept_ite, kept_ec_ite, ite_self, enterStop_kept, enterHold_kept, enterRun_kept, setMode_kept, coldState_kept, refuseChange_kept, leaveHold_kept, markDirty_kept, kept_foldl]; done)
    | split
    | (with_reducible refine serve_kept _ _ _ _ ?_; intro _)
    | (with_reducible refine serveWrite_kept _ _ _ ?_; intro _)
    | (dsimp only; split)
    | (with_reducible refine (kept_foldl _ _ _ ?_).trans ?_ <;> try intro _ _)
    | (simp only [kept_mk, kept_fold, kept_ite, kept_ec_ite, ite_self, enterStop_kept, enterHold_kept, enterRun_kept, setMode_kept, coldState_kept, refuseChange_kept, leaveHold_kept, markDirty_kept]; first | split | (with_reducible refine serve_kept _ _ _ _ ?_; intro _) | (with_reducible refine (kept_foldl _ _ _ ?_).trans ?_ <;> try intro _ _))
    | (rename_i h; first | rw [kept_of_snd h] | rw [kept_of_fst h])
    | (rename_i h _; first | rw [kept_of_snd h] | rw [kept_of_fst h])
    | (rename_i h _ _; first | rw [kept_of_snd h] | rw [kept_of_fst h])
    | (dsimp only; rename_i h; first | rw [kept_of_snd h] | rw [kept_of_fst h])
    | (dsimp only; rename_i h _; first | rw [kept_of_snd h] | rw [kept_of_fst h])
    | (dsimp only; rename_i h _ _; first | rw [kept_of_snd h] | rw [kept_of_fst h]))

theorem coldNow_kept (x0 : State) :
    kept (coldNow x0) = kept x0 := by
  simp only [coldNow, pumpTriggers_kept, dispatch_kept, setMode_kept, coldState_kept]

theorem stepTask_kept (x0 : InstrFn) (x1 x2 : Nat) (x3 : Task) (x4 : State) (h : ∀ a b t s, kept (x0 a b t s).2 = kept s) :
    kept (stepTask x0 x1 x2 x3 x4) = kept x4 := by
  unfold stepTask
  simp only [putTask_kept, kept_mk, kept_fold]
  exact h _ _ _ _

theorem runInstr_kept (x0 x1 x2 : Nat) (x3 : InstrFn) (x4 : State) (h : ∀ a b t s, kept (x3 a b t s).2 = kept s) :
    kept (runInstr x0 x1 x2 x3 x4) = kept x4 := by
  unfold runInstr
  split
  · exact stepTask_kept _ _ _ _ _ h
  · rfl

theorem runEnd_kept (x0 : State) :
    kept (runEnd x0) = kept x0 := by
  unfold runEnd
  split <;> simp only [kept_mk, kept_fold, taskEnd_kept]

theorem enterSafe_kept (x0 : State) :
    kept (enterSafe x0) = kept x0 := by
  simp only [enterSafe, syncClk_kept, abandon_kept, setMode_kept]

theorem applyWatchdog_kept (x0 : Nat) (x1 : State) :
    kept (applyWatchdog x0 x1) = kept x1 := by
  simp only [applyWatchdog, kept_mk, kept_fold, fireDetOnce_kept, enterSafe_kept]

theorem watchdogNow_kept (x0 : State) :
    kept (watchdogNow x0) = kept x0 := by
  unfold watchdogNow
  repeat' split
  all_goals simp only [*, kept_mk, kept_fold, kept_ite, kept_ec_ite, ite_self, applyWatchdog_kept, schedTwin_kept, sendCell_kept, diverge_kept]

theorem writeRetain_kept (x0 : State) :
    kept (writeRetain x0) = kept x0 := by
  simp only [writeRetain, kept_mk, kept_fold]

theorem loadRetain_kept (x0 : State) :
    kept (loadRetain x0) = kept x0 := by
  simp only [loadRetain, kept_mk, kept_fold]

theorem peekWrite_kept (x0 : Nat) (x1 : State) :
    kept (peekWrite x0 x1).1 = kept x1 := by
  simp only [peekWrite, kept_mk, kept_fold]

theorem brkWrite_kept (x0 : Nat) (x1 : State) :
    kept (brkWrite x0 x1).1 = kept x1 := by
  simp only [brkWrite, kept_mk, kept_fold, kept_ite, ite_self]

theorem updMon_kept (x0 : Nat) (x1 : Monitor → Monitor) (x2 : State) :
    kept (updMon x0 x1 x2) = kept x2 := by
  simp only [updMon, kept_mk, kept_fold]

theorem monValue_kept (x0 : Nat) (x1 : Int) (x2 : Bool) (x3 : State) :
    kept (monValue x0 x1 x2 x3) = kept x3 := by
  simp only [monValue, kept_ite, ite_self, updMon_kept, submit_kept]

theorem monPoint_kept (x0 : Nat) (x1 : State) :
    kept (monPoint x0 x1) = kept x1 := by
  unfold monPoint
  repeat' (first
    | (simp only [*, kept_mk, kept_fold, kept_ite, kept_ec_ite, ite_self, updMon_kept, submit_kept]; done)
    | (simp only [kept_mk, kept_fold, kept_ite, kept_ec_ite, ite_self, updMon_kept, submit_kept, kept_foldl]; done)
    | split
    | (with_reducible refine serve_kept _ _ _ _ ?_; intro _)
    | (with_reducible refine serveWrite_kept _ _ _ ?_; intro _)
    | (dsimp only; split)
    | (with_reducible refine (kept_foldl _ _ _ ?_).trans ?_ <;> try intro _ _)
    | (simp only [kept_mk, kept_fold, kept_ite, kept_ec_ite, ite_self, updMon_kept, submit_kept]; first | split | (with_reducible refine serve_kept _ _ _ _ ?_; intro _) | (with_reducible refine (kept_foldl _ _ _ ?_).trans ?_ <;> try intro _ _))
    | (rename_i h; first | rw [kept_of_snd h] | rw [kept_of_fst h])
    | (rename_i h _; first | rw [kept_of_snd h] | rw [kept_of_fst h])
    | (rename_i h _ _; first | rw [kept_of_snd h] | rw [kept_of_fst h])
    | (dsimp only; rename_i h; first | rw [kept_of_snd h] | rw [kept_of_fst h])
    | (dsimp only; rename_i h _; first | rw [kept_of_snd h] | rw [kept_of_fst h])
    | (dsimp only; rename_i h _ _; first | rw [kept_of_snd h] | rw [kept_of_fst h]))

theorem updChan_kept (x0 : Nat) (x1 : ProcChan → ProcChan) (x2 : State) :
    kept (updChan x0 x1 x2) = kept x2 := by
  simp only [updChan, kept_mk, kept_fold]

theorem updEntry_kept (x0 : Nat) (x1 : SeqEntry → SeqEntry) (x2 : State) :
    kept (updEntry x0 x1 x2) = kept x2 := by
  simp only [updEntry, kept_mk, kept_fold]

theorem putProcWords_kept (x0 : Nat) (x1 : Word) (x2 : State) :
    kept (putProcWords x0 x1 x2) = kept x2 := by
  simp only [putProcWords, kept_mk, kept_fold, kept_ite, ite_self, updChan_kept, sendAgree_kept]

theorem refreshQual_kept (x0 : Nat) (x1 : State) :
    kept (refreshQual x0 x1) = kept x1 := by
  simp only [refreshQual, putProcWords_kept]

theorem refreshAll_kept (x0 : State) :
    kept (refreshAll x0) = kept x0 := by
  simp only [refreshAll, refreshQual_kept]

theorem passEnd_kept (x0 : Nat) (x1 : Int) (x2 : Nat) (x3 : Bool) (x4 : State) :
    kept (passEnd x0 x1 x2 x3 x4) = kept x4 := by
  simp only [passEnd, updChan_kept, putProcWords_kept]

theorem beginEntry_kept (x0 : Nat) (x1 : State) :
    kept (beginEntry x0 x1) = kept x1 := by
  unfold beginEntry
  split <;> simp only [kept_mk, kept_fold]

theorem startPass_kept (x0 : State) :
    kept (startPass x0) = kept x0 := by
  unfold startPass
  split <;> simp only [kept_mk, kept_fold, beginEntry_kept]

theorem endPass_kept (x0 : State) :
    kept (endPass x0) = kept x0 := by
  simp only [endPass, kept_mk, kept_fold, kept_ite, ite_self, startPass_kept]

theorem beginUrgent_kept (x0 : Urgent) (x1 : State) :
    kept (beginUrgent x0 x1) = kept x1 := by
  simp only [beginUrgent, kept_mk, kept_fold]

theorem takeUrgent_kept (x0 : State) :
    kept (takeUrgent x0) = kept x0 := by
  unfold takeUrgent
  split <;> simp only [kept_ite, ite_self, beginUrgent_kept]

theorem urgentDone_kept (x0 : Urgent) (x1 : Int) (x2 : State) :
    kept (urgentDone x0 x1 x2) = kept x2 := by
  simp only [urgentDone, kept_mk, kept_fold, kept_ite, ite_self, updChan_kept, beginEntry_kept, respond_kept]

theorem keepResult_kept (x0 : Int) (x1 : Bool) (x2 : SeqCfg) (x3 : State) :
    kept (keepResult x0 x1 x2 x3) = kept x3 := by
  unfold keepResult
  repeat' (first
    | (simp only [*, kept_mk, kept_fold, kept_ite, kept_ec_ite, ite_self, updEntry_kept, updChan_kept, beginEntry_kept, endPass_kept, passEnd_kept]; done)
    | (simp only [kept_mk, kept_fold, kept_ite, kept_ec_ite, ite_self, updEntry_kept, updChan_kept, beginEntry_kept, endPass_kept, passEnd_kept, kept_foldl]; done)
    | split
    | (with_reducible refine serve_kept _ _ _ _ ?_; intro _)
    | (with_reducible refine serveWrite_kept _ _ _ ?_; intro _)
    | (dsimp only; split)
    | (with_reducible refine (kept_foldl _ _ _ ?_).trans ?_ <;> try intro _ _)
    | (simp only [kept_mk, kept_fold, kept_ite, kept_ec_ite, ite_self, updEntry_kept, updChan_kept, beginEntry_kept, endPass_kept, passEnd_kept]; first | split | (with_reducible refine serve_kept _ _ _ _ ?_; intro _) | (with_reducible refine (kept_foldl _ _ _ ?_).trans ?_ <;> try intro _ _))
    | (rename_i h; first | rw [kept_of_snd h] | rw [kept_of_fst h])
    | (rename_i h _; first | rw [kept_of_snd h] | rw [kept_of_fst h])
    | (rename_i h _ _; first | rw [kept_of_snd h] | rw [kept_of_fst h])
    | (dsimp only; rename_i h; first | rw [kept_of_snd h] | rw [kept_of_fst h])
    | (dsimp only; rename_i h _; first | rw [kept_of_snd h] | rw [kept_of_fst h])
    | (dsimp only; rename_i h _ _; first | rw [kept_of_snd h] | rw [kept_of_fst h]))

theorem conversionComplete_kept (x0 : Int) (x1 : Bool) (x2 : State) :
    kept (conversionComplete x0 x1 x2) = kept x2 := by
  unfold conversionComplete
  repeat' split
  all_goals simp only [*, kept_mk, kept_fold, kept_ite, kept_ec_ite, ite_self, keepResult_kept, updEntry_kept, urgentDone_kept, takeUrgent_kept]

theorem seqPassStart_kept (x0 : State) :
    kept (seqPassStart x0) = kept x0 := by
  simp only [seqPassStart, kept_mk, kept_fold, kept_ite, ite_self, startPass_kept, submit_kept]

theorem procAdopt_kept (x0 x1 : Nat) (x2 : State) :
    kept (procAdopt x0 x1 x2) = kept x2 := by
  simp only [procAdopt, kept_mk, kept_fold, kept_ite, ite_self]

theorem processDownstream_kept (x0 x1 : Bool) (x2 x3 : Nat) (x4 : State) :
    kept (processDownstream x0 x1 x2 x3 x4) = kept x4 := by
  unfold processDownstream
  repeat' (first
    | (simp only [*, kept_mk, kept_fold, kept_ite, kept_ec_ite, ite_self, beginEntry_kept, procAdopt_kept, takeUrgent_kept, startPass_kept]; done)
    | (simp only [kept_mk, kept_fold, kept_ite, kept_ec_ite, ite_self, beginEntry_kept, procAdopt_kept, takeUrgent_kept, startPass_kept, kept_foldl]; done)
    | split
    | (with_reducible refine serve_kept _ _ _ _ ?_; intro _)
    | (with_reducible refine serveWrite_kept _ _ _ ?_; intro _)
    | (dsimp only; split)
    | (with_reducible refine (kept_foldl _ _ _ ?_).trans ?_ <;> try intro _ _)
    | (simp only [kept_mk, kept_fold, kept_ite, kept_ec_ite, ite_self, beginEntry_kept, procAdopt_kept, takeUrgent_kept, startPass_kept]; first | split | (with_reducible refine serve_kept _ _ _ _ ?_; intro _) | (with_reducible refine (kept_foldl _ _ _ ?_).trans ?_ <;> try intro _ _))
    | (rename_i h; first | rw [kept_of_snd h] | rw [kept_of_fst h])
    | (rename_i h _; first | rw [kept_of_snd h] | rw [kept_of_fst h])
    | (rename_i h _ _; first | rw [kept_of_snd h] | rw [kept_of_fst h])
    | (dsimp only; rename_i h; first | rw [kept_of_snd h] | rw [kept_of_fst h])
    | (dsimp only; rename_i h _; first | rw [kept_of_snd h] | rw [kept_of_fst h])
    | (dsimp only; rename_i h _ _; first | rw [kept_of_snd h] | rw [kept_of_fst h]))

theorem processFrameStart_kept (x0 : Bool) (x1 : State) :
    kept (processFrameStart x0 x1) = kept x1 := by
  simp only [processFrameStart, kept_mk, kept_fold, kept_ite, ite_self, clearDet_kept, processDownstream_kept, submit_kept]

theorem processSideSafe_kept (x0 : State) :
    kept (processSideSafe x0) = kept x0 := by
  simp only [processSideSafe, kept_mk, kept_fold, kept_ite, ite_self]

theorem procBarrierLost_kept (x0 : Nat) (x1 : State) :
    kept (procBarrierLost x0 x1) = kept x1 := by
  unfold procBarrierLost
  repeat' (first
    | (simp only [*, kept_mk, kept_fold, kept_ite, kept_ec_ite, ite_self, refreshAll_kept, answer_kept, fireDet_kept]; done)
    | (simp only [kept_mk, kept_fold, kept_ite, kept_ec_ite, ite_self, refreshAll_kept, answer_kept, fireDet_kept, kept_foldl]; done)
    | split
    | (with_reducible refine serve_kept _ _ _ _ ?_; intro _)
    | (with_reducible refine serveWrite_kept _ _ _ ?_; intro _)
    | (dsimp only; split)
    | (with_reducible refine (kept_foldl _ _ _ ?_).trans ?_ <;> try intro _ _)
    | (simp only [kept_mk, kept_fold, kept_ite, kept_ec_ite, ite_self, refreshAll_kept, answer_kept, fireDet_kept]; first | split | (with_reducible refine serve_kept _ _ _ _ ?_; intro _) | (with_reducible refine (kept_foldl _ _ _ ?_).trans ?_ <;> try intro _ _))
    | (rename_i h; first | rw [kept_of_snd h] | rw [kept_of_fst h])
    | (rename_i h _; first | rw [kept_of_snd h] | rw [kept_of_fst h])
    | (rename_i h _ _; first | rw [kept_of_snd h] | rw [kept_of_fst h])
    | (dsimp only; rename_i h; first | rw [kept_of_snd h] | rw [kept_of_fst h])
    | (dsimp only; rename_i h _; first | rw [kept_of_snd h] | rw [kept_of_fst h])
    | (dsimp only; rename_i h _ _; first | rw [kept_of_snd h] | rw [kept_of_fst h]))

theorem processUpstreamMissing_kept (x0 : State) :
    kept (processUpstreamMissing x0) = kept x0 := by
  simp only [processUpstreamMissing, kept_mk, kept_fold, kept_ite, ite_self, procBarrierLost_kept]

theorem upcSelftestTimeout_kept (x0 : State) :
    kept (upcSelftestTimeout x0) = kept x0 := by
  simp only [upcSelftestTimeout, kept_ite, ite_self, procBarrierLost_kept, submit_kept]

theorem chanFrame_kept (x0 x1 x2 : Nat) (x3 : State) :
    kept (chanFrame x0 x1 x2 x3) = kept x3 := by
  simp only [chanFrame, updChan_kept]

theorem putReadback_kept (x0 : Nat) (x1 : State) :
    kept (putReadback x0 x1) = kept x1 := by
  simp only [putReadback, kept_ite, ite_self, refreshQual_kept, putProcWords_kept]

theorem adoptMode_kept (x0 : Nat) (x1 : State) :
    kept (adoptMode x0 x1) = kept x1 := by
  unfold adoptMode
  repeat' (first
    | (simp only [*, kept_mk, kept_fold, kept_ite, kept_ec_ite, ite_self, updChan_kept, submit_kept]; done)
    | (simp only [kept_mk, kept_fold, kept_ite, kept_ec_ite, ite_self, updChan_kept, submit_kept, kept_foldl]; done)
    | split
    | (with_reducible refine serve_kept _ _ _ _ ?_; intro _)
    | (with_reducible refine serveWrite_kept _ _ _ ?_; intro _)
    | (dsimp only; split)
    | (with_reducible refine (kept_foldl _ _ _ ?_).trans ?_ <;> try intro _ _)
    | (simp only [kept_mk, kept_fold, kept_ite, kept_ec_ite, ite_self, updChan_kept, submit_kept]; first | split | (with_reducible refine serve_kept _ _ _ _ ?_; intro _) | (with_reducible refine (kept_foldl _ _ _ ?_).trans ?_ <;> try intro _ _))
    | (rename_i h; first | rw [kept_of_snd h] | rw [kept_of_fst h])
    | (rename_i h _; first | rw [kept_of_snd h] | rw [kept_of_fst h])
    | (rename_i h _ _; first | rw [kept_of_snd h] | rw [kept_of_fst h])
    | (dsimp only; rename_i h; first | rw [kept_of_snd h] | rw [kept_of_fst h])
    | (dsimp only; rename_i h _; first | rw [kept_of_snd h] | rw [kept_of_fst h])
    | (dsimp only; rename_i h _ _; first | rw [kept_of_snd h] | rw [kept_of_fst h]))

theorem answerSnap_kept (x0 : Req × Nat) (x1 : State) :
    kept (answerSnap x0 x1) = kept x1 := by
  unfold answerSnap
  repeat' (first
    | (simp only [*, kept_mk, kept_fold, kept_ite, kept_ec_ite, ite_self, updEntry_kept, respond_kept]; done)
    | (simp only [kept_mk, kept_fold, kept_ite, kept_ec_ite, ite_self, updEntry_kept, respond_kept, kept_foldl]; done)
    | split
    | (with_reducible refine serve_kept _ _ _ _ ?_; intro _)
    | (with_reducible refine serveWrite_kept _ _ _ ?_; intro _)
    | (dsimp only; split)
    | (with_reducible refine (kept_foldl _ _ _ ?_).trans ?_ <;> try intro _ _)
    | (simp only [kept_mk, kept_fold, kept_ite, kept_ec_ite, ite_self, updEntry_kept, respond_kept]; first | split | (with_reducible refine serve_kept _ _ _ _ ?_; intro _) | (with_reducible refine (kept_foldl _ _ _ ?_).trans ?_ <;> try intro _ _))
    | (rename_i h; first | rw [kept_of_snd h] | rw [kept_of_fst h])
    | (rename_i h _; first | rw [kept_of_snd h] | rw [kept_of_fst h])
    | (rename_i h _ _; first | rw [kept_of_snd h] | rw [kept_of_fst h])
    | (dsimp only; rename_i h; first | rw [kept_of_snd h] | rw [kept_of_fst h])
    | (dsimp only; rename_i h _; first | rw [kept_of_snd h] | rw [kept_of_fst h])
    | (dsimp only; rename_i h _ _; first | rw [kept_of_snd h] | rw [kept_of_fst h]))

theorem processUpstreamRx_kept (x0 x1 : Nat) (x2 x3 : List Nat) (x4 : Nat) (x5 : Int) (x6 : State) :
    kept (processUpstreamRx x0 x1 x2 x3 x4 x5 x6) = kept x6 := by
  unfold processUpstreamRx
  repeat' (first
    | (simp only [*, kept_mk, kept_fold, kept_ite, kept_ec_ite, ite_self, answerSnap_kept, procBarrierLost_kept, putReadback_kept, adoptMode_kept, chanFrame_kept]; done)
    | (simp only [kept_mk, kept_fold, kept_ite, kept_ec_ite, ite_self, answerSnap_kept, procBarrierLost_kept, putReadback_kept, adoptMode_kept, chanFrame_kept, kept_foldl]; done)
    | split
    | (with_reducible refine serve_kept _ _ _ _ ?_; intro _)
    | (with_reducible refine serveWrite_kept _ _ _ ?_; intro _)
    | (dsimp only; split)
    | (with_reducible refine (kept_foldl _ _ _ ?_).trans ?_ <;> try intro _ _)
    | (simp only [kept_mk, kept_fold, kept_ite, kept_ec_ite, ite_self, answerSnap_kept, procBarrierLost_kept, putReadback_kept, adoptMode_kept, chanFrame_kept]; first | split | (with_reducible refine serve_kept _ _ _ _ ?_; intro _) | (with_reducible refine (kept_foldl _ _ _ ?_).trans ?_ <;> try intro _ _))
    | (rename_i h; first | rw [kept_of_snd h] | rw [kept_of_fst h])
    | (rename_i h _; first | rw [kept_of_snd h] | rw [kept_of_fst h])
    | (rename_i h _ _; first | rw [kept_of_snd h] | rw [kept_of_fst h])
    | (dsimp only; rename_i h; first | rw [kept_of_snd h] | rw [kept_of_fst h])
    | (dsimp only; rename_i h _; first | rw [kept_of_snd h] | rw [kept_of_fst h])
    | (dsimp only; rename_i h _ _; first | rw [kept_of_snd h] | rw [kept_of_fst h]))

theorem upcUrgent_kept (x0 : Req) (x1 x2 x3 x4 x5 : Nat) (x6 : State) :
    kept (upcUrgent x0 x1 x2 x3 x4 x5 x6) = kept x6 := by
  unfold upcUrgent
  repeat' (first | (simp only [*, kept_mk, kept_fold, kept_ite, kept_ec_ite, ite_self, serve_kept, answer_kept]; done) | split | (with_reducible refine serve_kept _ _ _ _ ?_; intro _))

theorem readbackVerification_kept (x0 : Nat) (x1 : State) :
    kept (readbackVerification x0 x1) = kept x1 := by
  unfold readbackVerification
  repeat' (first
    | (simp only [*, kept_mk, kept_fold, kept_ite, kept_ec_ite, ite_self, updChan_kept, answer_kept]; done)
    | (simp only [kept_mk, kept_fold, kept_ite, kept_ec_ite, ite_self, updChan_kept, answer_kept, kept_foldl]; done)
    | split
    | (with_reducible refine serve_kept _ _ _ _ ?_; intro _)
    | (with_reducible refine serveWrite_kept _ _ _ ?_; intro _)
    | (dsimp only; split)
    | (with_reducible refine (kept_foldl _ _ _ ?_).trans ?_ <;> try intro _ _)
    | (simp only [kept_mk, kept_fold, kept_ite, kept_ec_ite, ite_self, updChan_kept, answer_kept]; first | split | (with_reducible refine serve_kept _ _ _ _ ?_; intro _) | (with_reducible refine (kept_foldl _ _ _ ?_).trans ?_ <;> try intro _ _))
    | (rename_i h; first | rw [kept_of_snd h] | rw [kept_of_fst h])
    | (rename_i h _; first | rw [kept_of_snd h] | rw [kept_of_fst h])
    | (rename_i h _ _; first | rw [kept_of_snd h] | rw [kept_of_fst h])
    | (dsimp only; rename_i h; first | rw [kept_of_snd h] | rw [kept_of_fst h])
    | (dsimp only; rename_i h _; first | rw [kept_of_snd h] | rw [kept_of_fst h])
    | (dsimp only; rename_i h _ _; first | rw [kept_of_snd h] | rw [kept_of_fst h]))

theorem upcReadbackMismatch_kept (x0 : Nat) (x1 : State) :
    kept (upcReadbackMismatch x0 x1) = kept x1 := by
  simp only [upcReadbackMismatch, kept_ite, ite_self, updChan_kept, fireDet_kept]

theorem readbackMismatchClear_kept (x0 : Nat) (x1 : State) :
    kept (readbackMismatchClear x0 x1) = kept x1 := by
  simp only [readbackMismatchClear, kept_ite, ite_self, updChan_kept, clearDet_kept, submit_kept]

theorem outputStartupTest_kept (x0 x1 x2 : Nat) (x3 : State) :
    kept (outputStartupTest x0 x1 x2 x3) = kept x3 := by
  simp only [outputStartupTest, kept_ite, ite_self, updChan_kept, fireDet_kept]

theorem upcCompliance_kept (x0 : Nat) (x1 : State) :
    kept (upcCompliance x0 x1) = kept x1 := by
  simp only [upcCompliance, kept_ite, ite_self, updChan_kept, fireDet_kept]

theorem upcOpenLoop_kept (x0 : Nat) (x1 : State) :
    kept (upcOpenLoop x0 x1) = kept x1 := by
  simp only [upcOpenLoop, kept_ite, ite_self, updChan_kept, refreshQual_kept, fireDet_kept]

theorem upcSignalRange_kept (x0 : Nat) (x1 : State) :
    kept (upcSignalRange x0 x1) = kept x1 := by
  simp only [upcSignalRange, kept_ite, ite_self, updChan_kept, fireDet_kept]

theorem tcTest_kept (x0 : Nat) (x1 : Bool) (x2 : State) :
    kept (tcTest x0 x1 x2) = kept x2 := by
  simp only [tcTest, kept_ite, ite_self, updChan_kept, refreshQual_kept, fireDet_kept]

theorem upcDiagCleared_kept (x0 x1 : Nat) (x2 : State) :
    kept (upcDiagCleared x0 x1 x2) = kept x2 := by
  simp only [upcDiagCleared, kept_ite, ite_self, updChan_kept, clearDet_kept, refreshQual_kept, submit_kept]

theorem writeChMode_kept (x0 x1 : Nat) (x2 : State) :
    kept (writeChMode x0 x1 x2).1 = kept x2 := by
  unfold writeChMode
  repeat' (first
    | (simp only [*, kept_mk, kept_fold, kept_ite, kept_ec_ite, ite_self, updChan_kept]; done)
    | (simp only [kept_mk, kept_fold, kept_ite, kept_ec_ite, ite_self, updChan_kept, kept_foldl]; done)
    | split
    | (with_reducible refine serve_kept _ _ _ _ ?_; intro _)
    | (with_reducible refine serveWrite_kept _ _ _ ?_; intro _)
    | (dsimp only; split)
    | (with_reducible refine (kept_foldl _ _ _ ?_).trans ?_ <;> try intro _ _)
    | (simp only [kept_mk, kept_fold, kept_ite, kept_ec_ite, ite_self, updChan_kept]; first | split | (with_reducible refine serve_kept _ _ _ _ ?_; intro _) | (with_reducible refine (kept_foldl _ _ _ ?_).trans ?_ <;> try intro _ _))
    | (rename_i h; first | rw [kept_of_snd h] | rw [kept_of_fst h])
    | (rename_i h _; first | rw [kept_of_snd h] | rw [kept_of_fst h])
    | (rename_i h _ _; first | rw [kept_of_snd h] | rw [kept_of_fst h])
    | (dsimp only; rename_i h; first | rw [kept_of_snd h] | rw [kept_of_fst h])
    | (dsimp only; rename_i h _; first | rw [kept_of_snd h] | rw [kept_of_fst h])
    | (dsimp only; rename_i h _ _; first | rw [kept_of_snd h] | rw [kept_of_fst h]))

theorem restartPasses_kept (x0 : State) :
    kept (restartPasses x0) = kept x0 := by
  simp only [restartPasses, kept_mk, kept_fold, kept_ite, ite_self, startPass_kept]

theorem loadProcess_kept (x0 : State) :
    kept (loadProcess x0) = kept x0 := by
  simp only [loadProcess, kept_mk, kept_fold]

theorem rollLoad_kept (x0 : State) :
    kept (rollLoad x0) = kept x0 := by
  simp only [rollLoad, kept_mk, kept_fold, kept_ite, ite_self]

theorem nodeSelWrite_kept (x0 : Nat) (x1 : State) :
    kept (nodeSelWrite x0 x1).1 = kept x1 := by
  simp only [nodeSelWrite, kept_mk, kept_fold]

theorem putElem_kept (x0 : Elem) (x1 : State) :
    kept (putElem x0 x1) = kept x1 := by
  simp only [putElem, kept_mk, kept_fold, kept_ite, ite_self]

theorem opEnergy_kept (x0 : State) (x1 : Inst) (x2 : Node) :
    kept (opEnergy x0 x1 x2).2 = kept x0 := by
  simp only [opEnergy, kept_mk, kept_fold]

theorem trackEvents_kept (x0 : Elem) (x1 : Nat) (x2 x3 : Bool) (x4 : Nat) (x5 : State) :
    kept (trackEvents x0 x1 x2 x3 x4 x5) = kept x5 := by
  simp only [trackEvents, kept_ite, ite_self, submit_kept]

theorem opTracker_kept (x0 : State) (x1 : Inst) (x2 : Node) :
    kept (opTracker x0 x1 x2).2 = kept x0 := by
  simp only [opTracker, putElem_kept, setPhase_kept, trackEvents_kept]

theorem trackExpire_kept (x0 : Elem) (x1 : Nat) (x2 : State) :
    kept (trackExpire x0 x1 x2) = kept x2 := by
  simp only [trackExpire, putElem_kept]

theorem EC_s_kept (x0 : EC) :
    kept (EC.s x0) = kept x0.s := by
  simp only [EC.s, ]

theorem insertDelay_kept (n : Node) (i : Inst) (tag at_ delay : Nat) (s t : State) (h : insertDelay n i tag at_ delay s = some t) :
    kept t = kept s := by
  unfold insertDelay at h
  dsimp only at h
  split at h
  · cases h
  · cases h; rfl

theorem EC_start_kept (x0 : EC) (x1 : Node) (x2 : Inst) (x3 x4 : Nat) :
    kept (EC.start x0 x1 x2 x3 x4).s = kept x0.s := by
  unfold EC.start
  split
  · rfl
  split
  · rfl
  split
  · simp only [fireDetOnce_kept]
  · rename_i h; exact insertDelay_kept _ _ _ _ _ _ _ h

theorem EC_stop_kept (x0 : EC) (x1 : Nat) :
    kept (EC.stop x0 x1).s = kept x0.s := by
  simp only [EC.stop, ]

theorem EC_run_kept (x0 : EC) (x1 : Node) (x2 : Inst) (x3 x4 : Nat) (x5 : Bool) :
    kept (EC.run x0 x1 x2 x3 x4 x5).s = kept x0.s := by
  simp only [EC.run, kept_ec_ite, ite_self, EC_stop_kept, EC_start_kept]

theorem EC_set_kept (x0 : EC) (x1 : Elem → Elem) :
    kept (EC.set x0 x1).s = kept x0.s := by
  simp only [EC.set, ]

theorem EC_keep_kept (x0 : EC) (x1 : List Int) :
    kept (EC.keep x0 x1).s = kept x0.s := by
  simp only [EC.keep, EC_set_kept]

theorem overcurrent_kept (x0 : Inst) (x1 : Node) (x2 : Bool) (x3 : List (BitVec 8)) (x4 : EC) :
    kept (overcurrent x0 x1 x2 x3 x4).c.s = kept x4.s := by
  unfold overcurrent
  simp only [kept_ec_ite, ite_self, EC_stop_kept, EC_set_kept, EC_start_kept]

theorem directional_kept (x0 : Inst) (x1 : Node) (x2 : Bool) (x3 : EC) :
    kept (directional x0 x1 x2 x3).c.s = kept x3.s := by
  unfold directional
  repeat' (first
    | (simp only [*, kept_mk, kept_fold, kept_ite, kept_ec_ite, ite_self, EC_s_kept, EC_keep_kept]; done)
    | (simp only [kept_mk, kept_fold, kept_ite, kept_ec_ite, ite_self, EC_s_kept, EC_keep_kept, kept_foldl]; done)
    | split
    | (with_reducible refine serve_kept _ _ _ _ ?_; intro _)
    | (with_reducible refine serveWrite_kept _ _ _ ?_; intro _)
    | (dsimp only; split)
    | (with_reducible refine (kept_foldl _ _ _ ?_).trans ?_ <;> try intro _ _)
    | (simp only [kept_mk, kept_fold, kept_ite, kept_ec_ite, ite_self, EC_s_kept, EC_keep_kept]; first | split | (with_reducible refine serve_kept _ _ _ _ ?_; intro _) | (with_reducible refine (kept_foldl _ _ _ ?_).trans ?_ <;> try intro _ _))
    | (rename_i h; first | rw [kept_of_snd h] | rw [kept_of_fst h])
    | (rename_i h _; first | rw [kept_of_snd h] | rw [kept_of_fst h])
    | (rename_i h _ _; first | rw [kept_of_snd h] | rw [kept_of_fst h])
    | (dsimp only; rename_i h; first | rw [kept_of_snd h] | rw [kept_of_fst h])
    | (dsimp only; rename_i h _; first | rw [kept_of_snd h] | rw [kept_of_fst h])
    | (dsimp only; rename_i h _ _; first | rw [kept_of_snd h] | rw [kept_of_fst h]))

theorem voltage_kept (x0 : Inst) (x1 : Node) (x2 : Bool) (x3 : List (BitVec 8)) (x4 : EC) :
    kept (voltage x0 x1 x2 x3 x4).c.s = kept x4.s := by
  simp only [voltage, EC_set_kept, EC_run_kept]

theorem frequency_kept (x0 : Inst) (x1 : Node) (x2 : Bool) (x3 : EC) :
    kept (frequency x0 x1 x2 x3).c.s = kept x3.s := by
  simp only [frequency, EC_run_kept]

theorem synchrocheck_kept (x0 : Inst) (x1 : Node) (x2 : Bool) (x3 : EC) :
    kept (synchrocheck x0 x1 x2 x3).c.s = kept x3.s := by
  simp only [synchrocheck, EC_set_kept, EC_run_kept]

theorem breakerFailure_kept (x0 : Inst) (x1 : Node) (x2 : Bool) (x3 : List (BitVec 8)) (x4 : EC) :
    kept (breakerFailure x0 x1 x2 x3 x4).c.s = kept x4.s := by
  simp only [breakerFailure, kept_ec_ite, ite_self, EC_stop_kept, EC_set_kept, EC_keep_kept, EC_start_kept]

theorem switchOntoFault_kept (x0 : Inst) (x1 : Node) (x2 : Bool) (x3 : EC) :
    kept (switchOntoFault x0 x1 x2 x3).c.s = kept x3.s := by
  simp only [switchOntoFault, kept_ec_ite, ite_self, EC_stop_kept, EC_keep_kept, EC_start_kept]

theorem distance_kept (x0 : Inst) (x1 : Node) (x2 : Bool) (x3 : List (BitVec 8)) (x4 : EC) :
    kept (distance x0 x1 x2 x3 x4).c.s = kept x4.s := by
  simp only [distance, EC_set_kept, EC_keep_kept, EC_run_kept]

theorem loadEncroach_kept (x0 : Inst) (x1 : Node) (x2 : Bool) (x3 : EC) :
    kept (loadEncroach x0 x1 x2 x3).c.s = kept x3.s := by
  simp only [loadEncroach, ]

theorem swingBlock_kept (x0 : Inst) (x1 : Node) (x2 : Bool) (x3 : EC) :
    kept (swingBlock x0 x1 x2 x3).c.s = kept x3.s := by
  unfold swingBlock
  simp only [kept_ec_ite, ite_self, EC_stop_kept, EC_set_kept, EC_keep_kept, EC_start_kept]

theorem incDistance_kept (x0 : Inst) (x1 : Node) (x2 : Bool) (x3 : List (BitVec 8)) (x4 : EC) :
    kept (incDistance x0 x1 x2 x3 x4).c.s = kept x4.s := by
  simp only [incDistance, EC_set_kept, EC_keep_kept]

theorem twDirectional_kept (x0 : Inst) (x1 : Node) (x2 : Bool) (x3 : EC) :
    kept (twDirectional x0 x1 x2 x3).c.s = kept x3.s := by
  unfold twDirectional
  repeat' (first
    | (simp only [*, kept_mk, kept_fold, kept_ite, kept_ec_ite, ite_self, EC_s_kept, EC_keep_kept]; done)
    | (simp only [kept_mk, kept_fold, kept_ite, kept_ec_ite, ite_self, EC_s_kept, EC_keep_kept, kept_foldl]; done)
    | split
    | (with_reducible refine serve_kept _ _ _ _ ?_; intro _)
    | (with_reducible refine serveWrite_kept _ _ _ ?_; intro _)
    | (dsimp only; split)
    | (with_reducible refine (kept_foldl _ _ _ ?_).trans ?_ <;> try intro _ _)
    | (simp only [kept_mk, kept_fold, kept_ite, kept_ec_ite, ite_self, EC_s_kept, EC_keep_kept]; first | split | (with_reducible refine serve_kept _ _ _ _ ?_; intro _) | (with_reducible refine (kept_foldl _ _ _ ?_).trans ?_ <;> try intro _ _))
    | (rename_i h; first | rw [kept_of_snd h] | rw [kept_of_fst h])
    | (rename_i h _; first | rw [kept_of_snd h] | rw [kept_of_fst h])
    | (rename_i h _ _; first | rw [kept_of_snd h] | rw [kept_of_fst h])
    | (dsimp only; rename_i h; first | rw [kept_of_snd h] | rw [kept_of_fst h])
    | (dsimp only; rename_i h _; first | rw [kept_of_snd h] | rw [kept_of_fst h])
    | (dsimp only; rename_i h _ _; first | rw [kept_of_snd h] | rw [kept_of_fst h]))

theorem famRun_kept (x0 : Inst) (x1 : Node) (x2 : Bool) (x3 : List (BitVec 8)) (x4 : EC) :
    kept (famRun x0 x1 x2 x3 x4).c.s = kept x4.s := by
  unfold famRun
  split <;> simp only [swingBlock_kept, loadEncroach_kept, incDistance_kept, twDirectional_kept, voltage_kept, switchOntoFault_kept, synchrocheck_kept, overcurrent_kept, distance_kept, breakerFailure_kept, frequency_kept, directional_kept]

theorem elemEvent_kept (x0 x1 : Nat) (x2 : List Byte) (x3 : State) :
    kept (elemEvent x0 x1 x2 x3) = kept x3 := by
  simp only [elemEvent, submitParts_kept]

theorem elemReset_kept (x0 : Node) (x1 : Elem) (x2 : State) :
    kept (elemReset x0 x1 x2) = kept x2 := by
  simp only [elemReset, kept_ite, ite_self, elemEvent_kept]

theorem elemJudge_kept (x0 : Inst) (x1 : Node) (x2 : List (BitVec 8)) (x3 : Elem) (x4 : State) :
    kept (elemJudge x0 x1 x2 x3 x4).2 = kept x4 := by
  unfold elemJudge
  repeat' (first
    | (simp only [*, kept_mk, kept_fold, kept_ite, kept_ec_ite, ite_self, EC_s_kept, famRun_kept, putElem_kept, elemEvent_kept]; done)
    | (simp only [kept_mk, kept_fold, kept_ite, kept_ec_ite, ite_self, EC_s_kept, famRun_kept, putElem_kept, elemEvent_kept, kept_foldl]; done)
    | split
    | (with_reducible refine serve_kept _ _ _ _ ?_; intro _)
    | (with_reducible refine serveWrite_kept _ _ _ ?_; intro _)
    | (dsimp only; split)
    | (with_reducible refine (kept_foldl _ _ _ ?_).trans ?_ <;> try intro _ _)
    | (simp only [kept_mk, kept_fold, kept_ite, kept_ec_ite, ite_self, EC_s_kept, famRun_kept, putElem_kept, elemEvent_kept]; first | split | (with_reducible refine serve_kept _ _ _ _ ?_; intro _) | (with_reducible refine (kept_foldl _ _ _ ?_).trans ?_ <;> try intro _ _))
    | (rename_i h; first | rw [kept_of_snd h] | rw [kept_of_fst h])
    | (rename_i h _; first | rw [kept_of_snd h] | rw [kept_of_fst h])
    | (rename_i h _ _; first | rw [kept_of_snd h] | rw [kept_of_fst h])
    | (dsimp only; rename_i h; first | rw [kept_of_snd h] | rw [kept_of_fst h])
    | (dsimp only; rename_i h _; first | rw [kept_of_snd h] | rw [kept_of_fst h])
    | (dsimp only; rename_i h _ _; first | rw [kept_of_snd h] | rw [kept_of_fst h]))

theorem opElement_kept (x0 : State) (x1 : Inst) (x2 : Node) :
    kept (opElement x0 x1 x2).2 = kept x0 := by
  unfold opElement
  repeat' (first
    | (simp only [*, kept_mk, kept_fold, kept_ite, kept_ec_ite, ite_self, famRun_kept, putElem_kept, elemReset_kept, elemJudge_kept, elemEvent_kept]; done)
    | (simp only [kept_mk, kept_fold, kept_ite, kept_ec_ite, ite_self, famRun_kept, putElem_kept, elemReset_kept, elemJudge_kept, elemEvent_kept, kept_foldl]; done)
    | split
    | (with_reducible refine serve_kept _ _ _ _ ?_; intro _)
    | (with_reducible refine serveWrite_kept _ _ _ ?_; intro _)
    | (dsimp only; split)
    | (with_reducible refine (kept_foldl _ _ _ ?_).trans ?_ <;> try intro _ _)
    | (simp only [kept_mk, kept_fold, kept_ite, kept_ec_ite, ite_self, famRun_kept, putElem_kept, elemReset_kept, elemJudge_kept, elemEvent_kept]; first | split | (with_reducible refine serve_kept _ _ _ _ ?_; intro _) | (with_reducible refine (kept_foldl _ _ _ ?_).trans ?_ <;> try intro _ _))
    | (rename_i h; first | rw [kept_of_snd h] | rw [kept_of_fst h])
    | (rename_i h _; first | rw [kept_of_snd h] | rw [kept_of_fst h])
    | (rename_i h _ _; first | rw [kept_of_snd h] | rw [kept_of_fst h])
    | (dsimp only; rename_i h; first | rw [kept_of_snd h] | rw [kept_of_fst h])
    | (dsimp only; rename_i h _; first | rw [kept_of_snd h] | rw [kept_of_fst h])
    | (dsimp only; rename_i h _ _; first | rw [kept_of_snd h] | rw [kept_of_fst h]))

theorem putJob_kept (x0 : Nat) (x1 : Option Req) (x2 : List Byte) (x3 x4 : Nat) (x5 : State) :
    kept (putJob x0 x1 x2 x3 x4 x5) = kept x5 := by
  simp only [putJob, kept_mk, kept_fold]

theorem stalledJoin_kept (x0 : State) :
    kept (stalledJoin x0) = kept x0 := by
  unfold stalledJoin
  repeat' (first | (simp only [*, kept_mk, kept_fold, kept_ite, kept_ec_ite, ite_self, putJob_kept]; done) | split | (with_reducible refine (kept_foldl _ _ _ ?_).trans ?_ <;> try intro _ _))

theorem tripLocate_kept (x0 : Nat) (x1 : State) :
    kept (tripLocate x0 x1) = kept x1 := by
  simp only [tripLocate, kept_mk, kept_fold, kept_ite, ite_self, stalledJoin_kept]

theorem rowTell_kept (x0 : Nat) (x1 x2 : Row) (x3 : State) :
    kept (rowTell x0 x1 x2 x3) = kept x3 := by
  simp only [rowTell, kept_mk, kept_fold, kept_ite, ite_self, binSet_kept, tripLocate_kept, submit_kept]

theorem tripRelease_kept (x0 : Inst) (x1 : Nat) (x2 : State) :
    kept (tripRelease x0 x1 x2) = kept x2 := by
  unfold tripRelease
  repeat' (first
    | (simp only [*, kept_mk, kept_fold, kept_ite, kept_ec_ite, ite_self, rowTell_kept, submit_kept]; done)
    | (simp only [kept_mk, kept_fold, kept_ite, kept_ec_ite, ite_self, rowTell_kept, submit_kept, kept_foldl]; done)
    | split
    | (with_reducible refine serve_kept _ _ _ _ ?_; intro _)
    | (with_reducible refine serveWrite_kept _ _ _ ?_; intro _)
    | (dsimp only; split)
    | (with_reducible refine (kept_foldl _ _ _ ?_).trans ?_ <;> try intro _ _)
    | (simp only [kept_mk, kept_fold, kept_ite, kept_ec_ite, ite_self, rowTell_kept, submit_kept]; first | split | (with_reducible refine serve_kept _ _ _ _ ?_; intro _) | (with_reducible refine (kept_foldl _ _ _ ?_).trans ?_ <;> try intro _ _))
    | (rename_i h; first | rw [kept_of_snd h] | rw [kept_of_fst h])
    | (rename_i h _; first | rw [kept_of_snd h] | rw [kept_of_fst h])
    | (rename_i h _ _; first | rw [kept_of_snd h] | rw [kept_of_fst h])
    | (dsimp only; rename_i h; first | rw [kept_of_snd h] | rw [kept_of_fst h])
    | (dsimp only; rename_i h _; first | rw [kept_of_snd h] | rw [kept_of_fst h])
    | (dsimp only; rename_i h _ _; first | rw [kept_of_snd h] | rw [kept_of_fst h]))

theorem tripHeld_kept (x0 : State) :
    kept (tripHeld x0) = kept x0 := by
  simp only [tripHeld, kept_mk, kept_fold]

theorem loadRows_kept (x0 : Nat → RowCfg) (x1 : Nat → Bool) (x2 : State) :
    kept (loadRows x0 x1 x2) = kept x2 := by
  simp only [loadRows, kept_mk, kept_fold]

theorem goSend_kept (x0 : GoosePub) (x1 : State) :
    kept (goSend x0 x1) = kept x1 := by
  simp only [goSend, kept_ite, ite_self, sendFrame_kept]

theorem putPub_kept (x0 : GoosePub) (x1 : State) :
    kept (putPub x0 x1) = kept x1 := by
  simp only [putPub, kept_mk, kept_fold]

theorem goChange_kept (x0 : Nat) (x1 : List (Nat × Nat)) (x2 : Nat) (x3 : State) :
    kept (goChange x0 x1 x2 x3) = kept x3 := by
  simp only [goChange, putPub_kept, goSend_kept, digNote_kept]

theorem publishAll_kept (x0 : Nat) (x1 : State) :
    kept (publishAll x0 x1) = kept x1 := by
  unfold publishAll
  repeat' (first | (simp only [*, kept_mk, kept_fold, kept_ite, kept_ec_ite, ite_self, goChange_kept]; done) | split | (with_reducible refine (kept_foldl _ _ _ ?_).trans ?_ <;> try intro _ _))

theorem publishLaunch_kept (x0 x1 : Nat) (x2 : State) :
    kept (publishLaunch x0 x1 x2) = kept x2 := by
  simp only [publishLaunch, kept_ite, ite_self, goChange_kept]

theorem putSub_kept (x0 : GooseSub) (x1 : State) :
    kept (putSub x0 x1) = kept x1 := by
  simp only [putSub, kept_mk, kept_fold]

theorem writeN_kept (x0 : Nat) (x1 : Bool × Nat × Nat × Nat) (x2 : State) :
    kept (writeN x0 x1 x2) = kept x2 := by
  simp only [writeN, kept_mk, kept_fold, kept_ite, ite_self, raiseTrig_kept, binSet_kept, markDirty_kept]

theorem applyWrites_kept (x0 : GoosePend) (x1 : State) :
    kept (applyWrites x0 x1) = kept x1 := by
  unfold applyWrites
  repeat' (first | (simp only [*, kept_mk, kept_fold, kept_ite, kept_ec_ite, ite_self, writeN_kept]; done) | split | (with_reducible refine (kept_foldl _ _ _ ?_).trans ?_ <;> try intro _ _))

theorem goAccept_kept (x0 x1 x2 x3 : Nat) (x4 : State) :
    kept (goAccept x0 x1 x2 x3 x4) = kept x4 := by
  simp only [goAccept, kept_ite, ite_self, putSub_kept, submit_kept]

theorem goosePump_kept (x0 : Nat) (x1 : State) :
    kept (goosePump x0 x1) = kept x1 := by
  unfold goosePump
  repeat' (first | (simp only [*, kept_mk, kept_fold, kept_ite, kept_ec_ite, ite_self, applyWrites_kept]; done) | split | (with_reducible refine (kept_foldl _ _ _ ?_).trans ?_ <;> try intro _ _))

theorem goAgreed_kept (x0 : List Nat) (x1 : State) :
    kept (goAgreed x0 x1) = kept x1 := by
  unfold goAgreed
  split <;> simp only [kept_mk, kept_fold, kept_ite, ite_self, goAccept_kept, applyWrites_kept]

theorem publishSv_kept (x0 : Nat) (x1 : Inst) (x2 : List OutVal) (x3 : State) :
    kept (publishSv x0 x1 x2 x3) = kept x3 := by
  unfold publishSv
  split <;> simp only [kept_mk, kept_fold, kept_ite, ite_self, sendFrame_kept]

theorem updPmu_kept (x0 : Nat) (x1 : Pmu → Pmu) (x2 : State) :
    kept (updPmu x0 x1 x2) = kept x2 := by
  simp only [updPmu, kept_mk, kept_fold]

theorem useLaunched_kept (x0 : State) :
    kept (useLaunched x0) = kept x0 := by
  unfold useLaunched
  repeat' (first | (simp only [*, kept_mk, kept_fold, kept_ite, kept_ec_ite, ite_self, updPmu_kept]; done) | split | (with_reducible refine (kept_foldl _ _ _ ?_).trans ?_ <;> try intro _ _))

theorem publishPmu_kept (x0 : Nat) (x1 : Inst) (x2 : List OutVal) (x3 : State) :
    kept (publishPmu x0 x1 x2 x3) = kept x3 := by
  simp only [publishPmu, kept_ite, ite_self, sendUdp_kept, updPmu_kept]

theorem applyPmu_kept (x0 x1 x2 : Nat) (x3 : State) :
    kept (applyPmu x0 x1 x2 x3) = kept x3 := by
  unfold applyPmu
  repeat' (first
    | (simp only [*, kept_mk, kept_fold, kept_ite, kept_ec_ite, ite_self, sendUdp_kept, updPmu_kept]; done)
    | (simp only [kept_mk, kept_fold, kept_ite, kept_ec_ite, ite_self, sendUdp_kept, updPmu_kept, kept_foldl]; done)
    | split
    | (with_reducible refine serve_kept _ _ _ _ ?_; intro _)
    | (with_reducible refine serveWrite_kept _ _ _ ?_; intro _)
    | (dsimp only; split)
    | (with_reducible refine (kept_foldl _ _ _ ?_).trans ?_ <;> try intro _ _)
    | (simp only [kept_mk, kept_fold, kept_ite, kept_ec_ite, ite_self, sendUdp_kept, updPmu_kept]; first | split | (with_reducible refine serve_kept _ _ _ _ ?_; intro _) | (with_reducible refine (kept_foldl _ _ _ ?_).trans ?_ <;> try intro _ _))
    | (rename_i h; first | rw [kept_of_snd h] | rw [kept_of_fst h])
    | (rename_i h _; first | rw [kept_of_snd h] | rw [kept_of_fst h])
    | (rename_i h _ _; first | rw [kept_of_snd h] | rw [kept_of_fst h])
    | (dsimp only; rename_i h; first | rw [kept_of_snd h] | rw [kept_of_fst h])
    | (dsimp only; rename_i h _; first | rw [kept_of_snd h] | rw [kept_of_fst h])
    | (dsimp only; rename_i h _ _; first | rw [kept_of_snd h] | rw [kept_of_fst h]))

theorem pmuCommand_kept (x0 x1 x2 : Nat) (x3 : Bool) (x4 : State) :
    kept (pmuCommand x0 x1 x2 x3 x4) = kept x4 := by
  unfold pmuCommand
  repeat' split
  all_goals simp only [*, kept_mk, kept_fold, kept_ite, kept_ec_ite, ite_self, applyPmu_kept, schedTwin_kept, submit_kept]

theorem hsrForward_kept (x0 : NetFrame) (x1 : State) :
    kept (hsrForward x0 x1) = kept x1 := by
  simp only [hsrForward, kept_mk, kept_fold, kept_ite, ite_self, updPort_kept]

theorem ageDup_kept (x0 : State) :
    kept (ageDup x0) = kept x0 := by
  simp only [ageDup, kept_mk, kept_fold]

theorem arpSend_kept (x0 x1 : Nat) (x2 : State) :
    kept (arpSend x0 x1 x2) = kept x2 := by
  unfold arpSend
  split <;> simp only [sendFrame_kept]

theorem arpPut_kept (x0 x1 : Nat) (x2 : State) :
    kept (arpPut x0 x1 x2) = kept x2 := by
  simp only [arpPut, kept_mk, kept_fold]

theorem laneLoss_kept (x0 x1 : Nat) (x2 : State) :
    kept (laneLoss x0 x1 x2) = kept x2 := by
  simp only [laneLoss, kept_mk, kept_fold, kept_ite, ite_self, updPort_kept, fireDet_kept]

theorem commitTrigger_kept (x0 : State) :
    kept (commitTrigger x0) = kept x0 := by
  simp only [commitTrigger, kept_mk, kept_fold, kept_ite, ite_self]

theorem notify_kept (x0 : List Rec) (x1 : State) :
    kept (notify x0 x1) = kept x1 := by
  unfold notify
  repeat' (first | (simp only [*, kept_mk, kept_fold, kept_ite, kept_ec_ite, ite_self, unsolicited_kept]; done) | split | (with_reducible refine (kept_foldl _ _ _ ?_).trans ?_ <;> try intro _ _))

theorem thaw_kept (x0 : Nat) (x1 : State) :
    kept (thaw x0 x1) = kept x1 := by
  simp only [thaw, kept_mk, kept_fold, submit_kept]

theorem putBucket_kept (x0 : Bucket) (x1 : Nat) (x2 : State) :
    kept (putBucket x0 x1 x2) = kept x2 := by
  simp only [putBucket, kept_mk, kept_fold]

theorem binsClear_kept (x0 : Option Nat) (x1 : Nat) (x2 : State) :
    kept (binsClear x0 x1 x2) = kept x2 := by
  unfold binsClear
  repeat' (first | (simp only [*, kept_mk, kept_fold, kept_ite, kept_ec_ite, ite_self, binSet_kept]; done) | split | (with_reducible refine (kept_foldl _ _ _ ?_).trans ?_ <;> try intro _ _))

theorem recEvent_kept (x0 : Event) (x1 : State) :
    kept (recEvent x0 x1) = kept x1 := by
  unfold recEvent
  split <;> simp only [kept_ite, ite_self, binsClear_kept, fireUnits_kept, binPulse_kept, binSet_kept]

theorem reclaim_kept (x0 : Nat) (x1 : State) :
    kept (reclaim x0 x1) = kept x1 := by
  simp only [reclaim, kept_mk, kept_fold, kept_ite, ite_self, submit_kept]

theorem commitPage_kept (x0 : Nat) (x1 : State) :
    kept (commitPage x0 x1) = kept x1 := by
  unfold commitPage
  repeat' (first
    | (simp only [*, kept_mk, kept_fold, kept_ite, kept_ec_ite, ite_self, reclaim_kept]; done)
    | (simp only [kept_mk, kept_fold, kept_ite, kept_ec_ite, ite_self, reclaim_kept, kept_foldl]; done)
    | split
    | (with_reducible refine serve_kept _ _ _ _ ?_; intro _)
    | (with_reducible refine serveWrite_kept _ _ _ ?_; intro _)
    | (dsimp only; split)
    | (with_reducible refine (kept_foldl _ _ _ ?_).trans ?_ <;> try intro _ _)
    | (simp only [kept_mk, kept_fold, kept_ite, kept_ec_ite, ite_self, reclaim_kept]; first | split | (with_reducible refine serve_kept _ _ _ _ ?_; intro _) | (with_reducible refine (kept_foldl _ _ _ ?_).trans ?_ <;> try intro _ _))
    | (rename_i h; first | rw [kept_of_snd h] | rw [kept_of_fst h])
    | (rename_i h _; first | rw [kept_of_snd h] | rw [kept_of_fst h])
    | (rename_i h _ _; first | rw [kept_of_snd h] | rw [kept_of_fst h])
    | (dsimp only; rename_i h; first | rw [kept_of_snd h] | rw [kept_of_fst h])
    | (dsimp only; rename_i h _; first | rw [kept_of_snd h] | rw [kept_of_fst h])
    | (dsimp only; rename_i h _ _; first | rw [kept_of_snd h] | rw [kept_of_fst h]))

theorem commitAll_kept (x0 : State) :
    kept (commitAll x0) = kept x0 := by
  unfold commitAll
  repeat' (first
    | (simp only [*, kept_mk, kept_fold, kept_ite, kept_ec_ite, ite_self, commitPage_kept]; done)
    | (simp only [kept_mk, kept_fold, kept_ite, kept_ec_ite, ite_self, commitPage_kept, kept_foldl]; done)
    | split
    | (with_reducible refine serve_kept _ _ _ _ ?_; intro _)
    | (with_reducible refine serveWrite_kept _ _ _ ?_; intro _)
    | (dsimp only; split)
    | (with_reducible refine (kept_foldl _ _ _ ?_).trans ?_ <;> try intro _ _)
    | (simp only [kept_mk, kept_fold, kept_ite, kept_ec_ite, ite_self, commitPage_kept]; first | split | (with_reducible refine serve_kept _ _ _ _ ?_; intro _) | (with_reducible refine (kept_foldl _ _ _ ?_).trans ?_ <;> try intro _ _))
    | (rename_i h; first | rw [kept_of_snd h] | rw [kept_of_fst h])
    | (rename_i h _; first | rw [kept_of_snd h] | rw [kept_of_fst h])
    | (rename_i h _ _; first | rw [kept_of_snd h] | rw [kept_of_fst h])
    | (dsimp only; rename_i h; first | rw [kept_of_snd h] | rw [kept_of_fst h])
    | (dsimp only; rename_i h _; first | rw [kept_of_snd h] | rw [kept_of_fst h])
    | (dsimp only; rename_i h _ _; first | rw [kept_of_snd h] | rw [kept_of_fst h]))

theorem evrRead_kept (x0 : Req) (x1 x2 x3 : Nat) (x4 : State) :
    kept (evrRead x0 x1 x2 x3 x4) = kept x4 := by
  unfold evrRead
  repeat' (first | (simp only [*, kept_mk, kept_fold, kept_ite, kept_ec_ite, ite_self, serve_kept, respond_kept, answer_kept]; done) | split | (with_reducible refine serve_kept _ _ _ _ ?_; intro _))

theorem evrFreeze_kept (x0 : Req) (x1 : State) :
    kept (evrFreeze x0 x1) = kept x1 := by
  unfold evrFreeze
  repeat' (first | (simp only [*, kept_mk, kept_fold, kept_ite, kept_ec_ite, ite_self, serve_kept, respond_kept, submit_kept, answer_kept]; done) | split | (with_reducible refine serve_kept _ _ _ _ ?_; intro _))

theorem evrThaw_kept (x0 : Req) (x1 : State) :
    kept (evrThaw x0 x1) = kept x1 := by
  unfold evrThaw
  repeat' (first | (simp only [*, kept_mk, kept_fold, kept_ite, kept_ec_ite, ite_self, serve_kept, thaw_kept, answer_kept]; done) | split | (with_reducible refine serve_kept _ _ _ _ ?_; intro _))

theorem endInjs_kept (x0 : Nat) (x1 : Inj → Bool) (x2 : State) :
    kept (endInjs x0 x1 x2) = kept x2 := by
  unfold endInjs
  repeat' (first | (simp only [*, kept_mk, kept_fold, kept_ite, kept_ec_ite, ite_self, endInj_kept, schedTwin_kept]; done) | split | (with_reducible refine (kept_foldl _ _ _ ?_).trans ?_ <;> try intro _ _))

theorem dropStaging_kept (x0 : State) :
    kept (dropStaging x0) = kept x0 := by
  simp only [dropStaging, kept_mk, kept_fold]

theorem closeSession_kept (x0 : Nat) (x1 : State) :
    kept (closeSession x0 x1) = kept x1 := by
  unfold closeSession
  repeat' (first
    | (simp only [*, kept_mk, kept_fold, kept_ite, kept_ec_ite, ite_self, endInjs_kept, thaw_kept, dropStaging_kept, submit_kept]; done)
    | (simp only [kept_mk, kept_fold, kept_ite, kept_ec_ite, ite_self, endInjs_kept, thaw_kept, dropStaging_kept, submit_kept, kept_foldl]; done)
    | split
    | (with_reducible refine serve_kept _ _ _ _ ?_; intro _)
    | (with_reducible refine serveWrite_kept _ _ _ ?_; intro _)
    | (dsimp only; split)
    | (with_reducible refine (kept_foldl _ _ _ ?_).trans ?_ <;> try intro _ _)
    | (simp only [kept_mk, kept_fold, kept_ite, kept_ec_ite, ite_self, endInjs_kept, thaw_kept, dropStaging_kept, submit_kept]; first | split | (with_reducible refine serve_kept _ _ _ _ ?_; intro _) | (with_reducible refine (kept_foldl _ _ _ ?_).trans ?_ <;> try intro _ _))
    | (rename_i h; first | rw [kept_of_snd h] | rw [kept_of_fst h])
    | (rename_i h _; first | rw [kept_of_snd h] | rw [kept_of_fst h])
    | (rename_i h _ _; first | rw [kept_of_snd h] | rw [kept_of_fst h])
    | (dsimp only; rename_i h; first | rw [kept_of_snd h] | rw [kept_of_fst h])
    | (dsimp only; rename_i h _; first | rw [kept_of_snd h] | rw [kept_of_fst h])
    | (dsimp only; rename_i h _ _; first | rw [kept_of_snd h] | rw [kept_of_fst h]))

theorem refuse_kept (x0 : Req) (x1 : Nat) (x2 : Status) (x3 : State) :
    kept (refuse x0 x1 x2 x3) = kept x3 := by
  simp only [refuse, kept_mk, kept_fold, setHirq_kept]

theorem creditOverrun_kept (x0 : Req) (x1 : Nat) (x2 : Session) (x3 : State) :
    kept (creditOverrun x0 x1 x2 x3) = kept x3 := by
  simp only [creditOverrun, kept_mk, kept_fold, kept_ite, ite_self, refuse_kept, submit_kept]

theorem queueReq_kept (x0 : Req) (x1 x2 x3 : Nat) (x4 : List Byte) (x5 : State) :
    kept (queueReq x0 x1 x2 x3 x4 x5) = kept x5 := by
  simp only [queueReq, kept_mk, kept_fold, kept_ite, ite_self, respondTo_kept]

theorem accept_kept (x0 : Transport) (x1 : Nat) (x2 : List Byte) (x3 : State) :
    kept (accept x0 x1 x2 x3).1 = kept x3 := by
  unfold accept
  repeat' (first
    | (simp only [*, kept_mk, kept_fold, kept_ite, kept_ec_ite, ite_self, queueReq_kept, refuse_kept, creditOverrun_kept]; done)
    | (simp only [kept_mk, kept_fold, kept_ite, kept_ec_ite, ite_self, queueReq_kept, refuse_kept, creditOverrun_kept, kept_foldl]; done)
    | split
    | (with_reducible refine serve_kept _ _ _ _ ?_; intro _)
    | (with_reducible refine serveWrite_kept _ _ _ ?_; intro _)
    | (dsimp only; split)
    | (with_reducible refine (kept_foldl _ _ _ ?_).trans ?_ <;> try intro _ _)
    | (simp only [kept_mk, kept_fold, kept_ite, kept_ec_ite, ite_self, queueReq_kept, refuse_kept, creditOverrun_kept]; first | split | (with_reducible refine serve_kept _ _ _ _ ?_; intro _) | (with_reducible refine (kept_foldl _ _ _ ?_).trans ?_ <;> try intro _ _))
    | (rename_i h; first | rw [kept_of_snd h] | rw [kept_of_fst h])
    | (rename_i h _; first | rw [kept_of_snd h] | rw [kept_of_fst h])
    | (rename_i h _ _; first | rw [kept_of_snd h] | rw [kept_of_fst h])
    | (dsimp only; rename_i h; first | rw [kept_of_snd h] | rw [kept_of_fst h])
    | (dsimp only; rename_i h _; first | rw [kept_of_snd h] | rw [kept_of_fst h])
    | (dsimp only; rename_i h _ _; first | rw [kept_of_snd h] | rw [kept_of_fst h]))

theorem acceptCrc_kept (x0 : Transport) (x1 : List Byte) (x2 : State) :
    kept (acceptCrc x0 x1 x2) = kept x2 := by
  simp only [acceptCrc, kept_mk, kept_fold, kept_ite, ite_self, accept_kept, refuse_kept]

theorem uartByte_kept (x0 : State) (x1 : Byte) :
    kept (uartByte x0 x1) = kept x0 := by
  unfold uartByte
  split <;> simp only [kept_mk, kept_fold, kept_ite, ite_self, acceptCrc_kept]

theorem connEnd_kept (x0 : Nat) (x1 : State) :
    kept (connEnd x0 x1) = kept x1 := by
  unfold connEnd
  split <;> simp only [kept_mk, kept_fold, closeSession_kept]

theorem tlsPackets_kept (x0 x1 : Nat) (x2 : List Byte) (x3 : State) :
    kept (tlsPackets x0 x1 x2 x3) = kept x3 := by
  induction x1 generalizing x2 x3 with
  | zero => rfl
  | succ n ih =>
    simp only [tlsPackets, kept_ite, ih, connEnd_kept, accept_kept]
    split <;> simp only [ite_self, kept_mk, kept_fold]

theorem vmeasWrite_kept (x0 : Nat) (x1 : State) :
    kept (vmeasWrite x0 x1).1 = kept x1 := by
  simp only [vmeasWrite, kept_mk, kept_fold, kept_ite, ite_self]

theorem writeWord_kept (x0 x1 : Nat) (x2 : State) :
    kept (writeWord x0 x1 x2).1 = kept x2 := by
  unfold writeWord
  repeat' split
  all_goals simp only [*, kept_mk, kept_fold, kept_ite, kept_ec_ite, ite_self, tbWrite_kept, peekWrite_kept, vmeasWrite_kept, brkWrite_kept, nodeSelWrite_kept, clearFired_kept, writeChMode_kept]

theorem writeWords_kept (x0 : Nat) (x1 : List Word) (x2 : Nat) (x3 : State) :
    kept (writeWords x0 x1 x2 x3).1 = kept x3 := by
  induction x1 generalizing x0 x2 x3 with
  | nil => rfl
  | cons v vs ih =>
    simp only [writeWords]
    split <;> simp only [ih, writeWord_kept]

theorem regRead_kept (x0 : Req) (x1 x2 : Nat) (x3 : State) :
    kept (regRead x0 x1 x2 x3) = kept x3 := by
  unfold regRead
  repeat' (first | (simp only [*, kept_mk, kept_fold, kept_ite, kept_ec_ite, ite_self, serve_kept, respond_kept, answer_kept]; done) | split | (with_reducible refine serve_kept _ _ _ _ ?_; intro _))

theorem regWrite_kept (x0 : Req) (x1 : Nat) (x2 : List Word) (x3 : State) :
    kept (regWrite x0 x1 x2 x3) = kept x3 := by
  unfold regWrite
  repeat' (first | (simp only [*, kept_mk, kept_fold, kept_ite, kept_ec_ite, ite_self, serve_kept, writeWords_kept, respond_kept, answer_kept]; done) | split | (with_reducible refine serve_kept _ _ _ _ ?_; intro _))

theorem regModify_kept (x0 : Req) (x1 : Nat) (x2 x3 : Word) (x4 : State) :
    kept (regModify x0 x1 x2 x3 x4) = kept x4 := by
  unfold regModify
  repeat' (first | (simp only [*, kept_mk, kept_fold, kept_ite, kept_ec_ite, ite_self, serve_kept, respond_kept, writeWord_kept, answer_kept]; done) | split | (with_reducible refine serve_kept _ _ _ _ ?_; intro _))

theorem updSession_kept (x0 : Nat) (x1 : Session → Session) (x2 : State) :
    kept (updSession x0 x1 x2) = kept x2 := by
  simp only [updSession, kept_mk, kept_fold]

theorem grantOwed_kept (x0 : State) :
    kept (grantOwed x0) = kept x0 := by
  unfold grantOwed
  repeat' (first | (simp only [*, kept_mk, kept_fold, kept_ite, kept_ec_ite, ite_self, unsolicited_kept, updSession_kept]; done) | split | (with_reducible refine (kept_foldl _ _ _ ?_).trans ?_ <;> try intro _ _))

theorem setShed_kept (x0 : Nat) (x1 : State) :
    kept (setShed x0 x1) = kept x1 := by
  simp only [setShed, kept_mk, kept_fold, kept_ite, ite_self, grantOwed_kept, submit_kept]

theorem loadWindow_kept (x0 : Nat) (x1 : State) :
    kept (loadWindow x0 x1) = kept x1 := by
  unfold loadWindow
  repeat' split
  all_goals simp only [*, kept_mk, kept_fold, kept_ite, kept_ec_ite, ite_self, setShed_kept]

theorem updInst_kept (x0 : Nat) (x1 : Key) (x2 : Inst → Inst) (x3 : State) :
    kept (updInst x0 x1 x2 x3) = kept x3 := by
  simp only [updInst, kept_mk, kept_fold]

theorem setReady_kept (x0 : Nat) (x1 : List (Nat × Key)) (x2 : State) :
    kept (setReady x0 x1 x2) = kept x2 := by
  simp only [setReady, kept_mk, kept_fold]

theorem moveTo_kept (x0 : Node) (x1 : Nat) (x2 : State) :
    kept (moveTo x0 x1 x2) = kept x2 := by
  simp only [moveTo, kept_mk, kept_fold, kept_ite, ite_self]

theorem startCore_kept (x0 : Nat) (x1 : State) :
    kept (startCore x0 x1) = kept x1 := by
  simp only [startCore, kept_mk, kept_fold, kept_ite, ite_self]

theorem assign_kept (x0 : Node) (x1 : Inst) (x2 : Nat) (x3 : State) :
    kept (assign x0 x1 x2 x3) = kept x3 := by
  simp only [assign, kept_mk, kept_fold, updInst_kept, moveTo_kept, startCore_kept, setReady_kept]

theorem displace_kept (x0 : Nat) (x1 : State) :
    kept (displace x0 x1) = kept x1 := by
  unfold displace
  split <;> simp only [kept_mk, kept_fold, updInst_kept, setReady_kept]

theorem countWait_kept (x0 : State) :
    kept (countWait x0) = kept x0 := by
  simp only [countWait, kept_mk, kept_fold, kept_ite, ite_self]

theorem dispatchOne_kept (s t : State) (f b : Nat) (o : List Nat) (h : dispatchOne s f b o = some t) : kept t = kept s := by
  induction f generalizing b o with
  | zero => simp only [dispatchOne] at h; cases h
  | succ f ih =>
    simp only [dispatchOne] at h
    split at h
    · exact ih _ _ h
    · split at h
      · cases h; simp only [setReady_kept]
      · split at h
        · exact ih _ _ h
        · split at h
          · cases h; simp only [assign_kept, kept_ite, displace_kept, ite_self]
          · exact ih _ _ h

theorem dispatchAll_kept (x0 : Nat) (x1 : State) :
    kept (dispatchAll x0 x1) = kept x1 := by
  induction x0 generalizing x1 with
  | zero => rfl
  | succ n ih =>
    simp only [dispatchAll]
    split
    · rename_i h; rw [ih, dispatchOne_kept _ _ _ _ _ h]
    · simp only [countWait_kept]

theorem arrive_kept (x0 : Inst) (x1 : Bool) (x2 : State) (x3 : Edge) :
    kept (arrive x0 x1 x2 x3) = kept x2 := by
  simp only [arrive, updInst_kept]

theorem nextStateful_kept (x0 : Node) (x1 : Key) (x2 : State) :
    kept (nextStateful x0 x1 x2) = kept x2 := by
  unfold nextStateful
  repeat' split
  all_goals simp only [*, kept_mk, kept_fold, kept_ite, kept_ec_ite, ite_self, updInst_kept]

theorem retireVoid_kept (x0 : Inst) (x1 : State) :
    kept (retireVoid x0 x1) = kept x1 := by
  simp only [retireVoid, kept_mk, kept_fold, updInst_kept, nextStateful_kept]

theorem becomeReady_kept (x0 : State) (x1 : Inst) :
    kept (becomeReady x0 x1) = kept x0 := by
  simp only [becomeReady, kept_ite, ite_self, updInst_kept, retireVoid_kept, nextStateful_kept, setReady_kept]

theorem readyStep_kept (x0 : State) :
    kept (readyStep x0) = kept x0 := by
  unfold readyStep
  repeat' (first | (simp only [*, kept_mk, kept_fold, kept_ite, kept_ec_ite, ite_self, becomeReady_kept]; done) | split | (with_reducible refine (kept_foldl _ _ _ ?_).trans ?_ <;> try intro _ _))

theorem releaseFlow_kept (x0 : State) (x1 : Inst) :
    kept (releaseFlow x0 x1) = kept x0 := by
  unfold releaseFlow
  repeat' (first
    | (simp only [*, kept_mk, kept_fold, kept_ite, kept_ec_ite, ite_self, updInst_kept, arrive_kept]; done)
    | (simp only [kept_mk, kept_fold, kept_ite, kept_ec_ite, ite_self, updInst_kept, arrive_kept, kept_foldl]; done)
    | split
    | (with_reducible refine serve_kept _ _ _ _ ?_; intro _)
    | (with_reducible refine serveWrite_kept _ _ _ ?_; intro _)
    | (dsimp only; split)
    | (with_reducible refine (kept_foldl _ _ _ ?_).trans ?_ <;> try intro _ _)
    | (simp only [kept_mk, kept_fold, kept_ite, kept_ec_ite, ite_self, updInst_kept, arrive_kept]; first | split | (with_reducible refine serve_kept _ _ _ _ ?_; intro _) | (with_reducible refine (kept_foldl _ _ _ ?_).trans ?_ <;> try intro _ _))
    | (rename_i h; first | rw [kept_of_snd h] | rw [kept_of_fst h])
    | (rename_i h _; first | rw [kept_of_snd h] | rw [kept_of_fst h])
    | (rename_i h _ _; first | rw [kept_of_snd h] | rw [kept_of_fst h])
    | (dsimp only; rename_i h; first | rw [kept_of_snd h] | rw [kept_of_fst h])
    | (dsimp only; rename_i h _; first | rw [kept_of_snd h] | rw [kept_of_fst h])
    | (dsimp only; rename_i h _ _; first | rw [kept_of_snd h] | rw [kept_of_fst h]))

theorem settle_kept (x0 : Nat) (x1 : State) :
    kept (settle x0 x1) = kept x1 := by
  induction x0 generalizing x1 with
  | zero => rfl
  | succ n ih =>
    simp only [settle]
    split
    · simp only [readyStep_kept]
    · rw [ih, kept_foldl _ _ _ (fun s a => releaseFlow_kept s a), readyStep_kept]

theorem putOut_kept (x0 : Node) (x1 x2 x3 : Nat) (x4 : State) (x5 : OutVal) :
    kept (putOut x0 x1 x2 x3 x4 x5) = kept x4 := by
  unfold putOut
  repeat' split
  all_goals simp only [*, kept_mk, kept_fold, kept_ite, kept_ec_ite, ite_self, recDerived_kept]

theorem swapP_kept (x0 : Nat) (x1 : State) :
    kept (swapP x0 x1) = kept x1 := by
  unfold swapP
  repeat' (first | (simp only [*, kept_mk, kept_fold, kept_ite, kept_ec_ite, ite_self, raiseTrig_kept, binSet_kept]; done) | split | (with_reducible refine (kept_foldl _ _ _ ?_).trans ?_ <;> try intro _ _))

theorem takeDigest_kept (x0 : Nat) (x1 : List OutVal) (x2 : State) :
    kept (takeDigest x0 x1 x2) = kept x2 := by
  simp only [takeDigest, kept_mk, kept_fold, kept_ite, ite_self, digestsMeet_kept, sendCell_kept]

theorem publishOuts_kept (x0 : Node) (x1 : Inst) (x2 : State) :
    kept (publishOuts x0 x1 x2) = kept x2 := by
  unfold publishOuts
  repeat' split
  all_goals simp only [*, kept_mk, kept_fold, kept_ite, kept_ec_ite, ite_self, publishSv_kept, publishPmu_kept]

theorem releaseOuts_kept (x0 x1 : Nat) (x2 : Inst) (x3 : List Inst) (x4 : Bool) (x5 : State) :
    kept (releaseOuts x0 x1 x2 x3 x4 x5) = kept x5 := by
  unfold releaseOuts
  repeat' (first
    | (simp only [*, kept_mk, kept_fold, kept_ite, kept_ec_ite, ite_self, tripRelease_kept, publishOuts_kept, publishAll_kept, swapP_kept, tripHeld_kept, putOut_kept]; done)
    | (simp only [kept_mk, kept_fold, kept_ite, kept_ec_ite, ite_self, tripRelease_kept, publishOuts_kept, publishAll_kept, swapP_kept, tripHeld_kept, putOut_kept, kept_foldl]; done)
    | split
    | (with_reducible refine serve_kept _ _ _ _ ?_; intro _)
    | (with_reducible refine serveWrite_kept _ _ _ ?_; intro _)
    | (dsimp only; split)
    | (with_reducible refine (kept_foldl _ _ _ ?_).trans ?_ <;> try intro _ _)
    | (simp only [kept_mk, kept_fold, kept_ite, kept_ec_ite, ite_self, tripRelease_kept, publishOuts_kept, publishAll_kept, swapP_kept, tripHeld_kept, putOut_kept]; first | split | (with_reducible refine serve_kept _ _ _ _ ?_; intro _) | (with_reducible refine (kept_foldl _ _ _ ?_).trans ?_ <;> try intro _ _))
    | (rename_i h; first | rw [kept_of_snd h] | rw [kept_of_fst h])
    | (rename_i h _; first | rw [kept_of_snd h] | rw [kept_of_fst h])
    | (rename_i h _ _; first | rw [kept_of_snd h] | rw [kept_of_fst h])
    | (dsimp only; rename_i h; first | rw [kept_of_snd h] | rw [kept_of_fst h])
    | (dsimp only; rename_i h _; first | rw [kept_of_snd h] | rw [kept_of_fst h])
    | (dsimp only; rename_i h _ _; first | rw [kept_of_snd h] | rw [kept_of_fst h]))

theorem releaseWave_kept (x0 : Nat) (x1 : Bool) (x2 : State) :
    kept (releaseWave x0 x1 x2) = kept x2 := by
  simp only [releaseWave, kept_mk, kept_fold, releaseOuts_kept, takeDigest_kept]

theorem releaseWaves_kept (x0 : Nat) (x1 : State) :
    kept (releaseWaves x0 x1) = kept x1 := by
  induction x0 generalizing x1 with
  | zero => rfl
  | succ n ih =>
    simp only [releaseWaves]
    split
    · rfl
    · split
      · rw [ih, releaseWave_kept]
      · rfl

theorem releaseDesc_kept (x0 : Nat) (x1 : State) :
    kept (releaseDesc x0 x1) = kept x1 := by
  simp only [releaseDesc, kept_mk, kept_fold, releaseOuts_kept, digNote_kept]

theorem releaseDescs_kept (x0 : Nat) (x1 : State) :
    kept (releaseDescs x0 x1) = kept x1 := by
  induction x0 generalizing x1 with
  | zero => rfl
  | succ n ih =>
    simp only [releaseDescs]
    split
    · rfl
    · rw [ih, releaseDesc_kept]

theorem sweep_kept (x0 : State) :
    kept (sweep x0) = kept x0 := by
  simp only [sweep, kept_mk, kept_fold]

theorem grantJobs_kept (x0 : State) :
    kept (grantJobs x0) = kept x0 := by
  unfold grantJobs
  repeat' (first | (simp only [*, kept_mk, kept_fold, kept_ite, kept_ec_ite, ite_self, unsolicited_kept, updSession_kept]; done) | split | (with_reducible refine (kept_foldl _ _ _ ?_).trans ?_ <;> try intro _ _))

theorem endJob_kept (x0 : Job) (x1 : State) :
    kept (endJob x0 x1) = kept x1 := by
  unfold endJob
  split <;> simp only [kept_mk, kept_fold, kept_ite, ite_self, stalledJoin_kept, grantJobs_kept, respond_kept]

theorem endJobs_kept (x0 : State) :
    kept (endJobs x0) = kept x0 := by
  unfold endJobs
  repeat' (first | (simp only [*, kept_mk, kept_fold, kept_ite, kept_ec_ite, ite_self, endJob_kept]; done) | split | (with_reducible refine (kept_foldl _ _ _ ?_).trans ?_ <;> try intro _ _))

theorem pump_kept (x0 : State) :
    kept (pump x0) = kept x0 := by
  simp only [pump, releaseDescs_kept, settle_kept, releaseWaves_kept, sweep_kept, endJobs_kept, dispatchAll_kept]

theorem account_kept (x0 : Node) (x1 : Nat) (x2 : State) :
    kept (account x0 x1 x2) = kept x2 := by
  simp only [account, kept_mk, kept_fold, kept_ite, ite_self, rollLoad_kept, submitParts_kept]

theorem runOp_kept (x0 : Node) (x1 : Inst) (x2 : List (Nat × Nat)) (x3 : List Byte) (x4 : State) :
    kept (runOp x0 x1 x2 x3 x4).2.2 = kept x4 := by
  unfold runOp
  repeat' (first | (simp only [*, kept_mk, kept_fold, kept_ite, kept_ec_ite, ite_self, opEnergy_kept, opElement_kept, opTracker_kept]; done) | split)

theorem reload_kept (x0 : Nat) (x1 : State) (x2 : Node) :
    kept (reload x0 x1 x2) = kept x1 := by
  unfold reload
  split <;> simp only [kept_mk, kept_fold]

theorem recheck_kept (x0 : State) :
    kept (recheck x0) = kept x0 := by
  unfold recheck
  repeat' (first | (simp only [*, kept_mk, kept_fold, kept_ite, kept_ec_ite, ite_self, updInst_kept, setReady_kept]; done) | split | (with_reducible refine (kept_foldl _ _ _ ?_).trans ?_ <;> try intro _ _))

theorem removeCore_kept (x0 : Nat) (x1 : State) :
    kept (removeCore x0 x1) = kept x1 := by
  unfold removeCore
  repeat' (first
    | (simp only [*, kept_mk, kept_fold, kept_ite, kept_ec_ite, ite_self, reload_kept, displace_kept, submit_kept, recheck_kept]; done)
    | (simp only [kept_mk, kept_fold, kept_ite, kept_ec_ite, ite_self, reload_kept, displace_kept, submit_kept, recheck_kept, kept_foldl]; done)
    | split
    | (with_reducible refine serve_kept _ _ _ _ ?_; intro _)
    | (with_reducible refine serveWrite_kept _ _ _ ?_; intro _)
    | (dsimp only; split)
    | (with_reducible refine (kept_foldl _ _ _ ?_).trans ?_ <;> try intro _ _)
    | (simp only [kept_mk, kept_fold, kept_ite, kept_ec_ite, ite_self, reload_kept, displace_kept, submit_kept, recheck_kept]; first | split | (with_reducible refine serve_kept _ _ _ _ ?_; intro _) | (with_reducible refine (kept_foldl _ _ _ ?_).trans ?_ <;> try intro _ _))
    | (rename_i h; first | rw [kept_of_snd h] | rw [kept_of_fst h])
    | (rename_i h _; first | rw [kept_of_snd h] | rw [kept_of_fst h])
    | (rename_i h _ _; first | rw [kept_of_snd h] | rw [kept_of_fst h])
    | (dsimp only; rename_i h; first | rw [kept_of_snd h] | rw [kept_of_fst h])
    | (dsimp only; rename_i h _; first | rw [kept_of_snd h] | rw [kept_of_fst h])
    | (dsimp only; rename_i h _ _; first | rw [kept_of_snd h] | rw [kept_of_fst h]))

theorem opFault_kept (x0 x1 : Nat) (x2 : State) :
    kept (opFault x0 x1 x2) = kept x2 := by
  simp only [opFault, kept_mk, kept_fold, kept_ite, ite_self, fireDetOnce_kept]

theorem retireWith_kept (x0 : Inst) (x1 : List OutVal) (x2 : List Byte) (x3 : Nat) (x4 : State) :
    kept (retireWith x0 x1 x2 x3 x4) = kept x4 := by
  simp only [retireWith, updInst_kept, nextStateful_kept]

theorem abort_kept (x0 : Inst) (x1 : State) :
    kept (abort x0 x1) = kept x1 := by
  simp only [abort, retireWith_kept, opFault_kept]

theorem complete_kept (x0 : Node) (x1 : Inst) (x2 : List (Nat × Nat)) (x3 : List Byte) (x4 : State) :
    kept (complete x0 x1 x2 x3 x4) = kept x4 := by
  simp only [complete, runOp_kept, retireWith_kept]

theorem cancelInst_kept (x0 : State) (x1 : Inst) :
    kept (cancelInst x0 x1) = kept x0 := by
  unfold cancelInst
  repeat' split
  all_goals simp only [*, kept_mk, kept_fold, kept_ite, kept_ec_ite, ite_self, updInst_kept, retireVoid_kept]

theorem raiseEpochs_kept (x0 : List Nat) (x1 : State) :
    kept (raiseEpochs x0 x1) = kept x1 := by
  unfold raiseEpochs
  repeat' (first
    | (simp only [*, kept_mk, kept_fold, kept_ite, kept_ec_ite, ite_self]; done)
    | (simp only [kept_mk, kept_fold, kept_ite, kept_ec_ite, ite_self, kept_foldl]; done)
    | split
    | (with_reducible refine serve_kept _ _ _ _ ?_; intro _)
    | (with_reducible refine serveWrite_kept _ _ _ ?_; intro _)
    | (dsimp only; split)
    | (with_reducible refine (kept_foldl _ _ _ ?_).trans ?_ <;> try intro _ _)
    | (simp only [kept_mk, kept_fold, kept_ite, kept_ec_ite, ite_self]; first | split | (with_reducible refine serve_kept _ _ _ _ ?_; intro _) | (with_reducible refine (kept_foldl _ _ _ ?_).trans ?_ <;> try intro _ _))
    | (rename_i h; first | rw [kept_of_snd h] | rw [kept_of_fst h])
    | (rename_i h _; first | rw [kept_of_snd h] | rw [kept_of_fst h])
    | (rename_i h _ _; first | rw [kept_of_snd h] | rw [kept_of_fst h])
    | (dsimp only; rename_i h; first | rw [kept_of_snd h] | rw [kept_of_fst h])
    | (dsimp only; rename_i h _; first | rw [kept_of_snd h] | rw [kept_of_fst h])
    | (dsimp only; rename_i h _ _; first | rw [kept_of_snd h] | rw [kept_of_fst h]))

theorem cancelNodes_kept (x0 : List Nat) (x1 : State) :
    kept (cancelNodes x0 x1) = kept x1 := by
  unfold cancelNodes
  repeat' (first
    | (simp only [*, kept_mk, kept_fold, kept_ite, kept_ec_ite, ite_self, cancelInst_kept, raiseEpochs_kept]; done)
    | (simp only [kept_mk, kept_fold, kept_ite, kept_ec_ite, ite_self, cancelInst_kept, raiseEpochs_kept, kept_foldl]; done)
    | split
    | (with_reducible refine serve_kept _ _ _ _ ?_; intro _)
    | (with_reducible refine serveWrite_kept _ _ _ ?_; intro _)
    | (dsimp only; split)
    | (with_reducible refine (kept_foldl _ _ _ ?_).trans ?_ <;> try intro _ _)
    | (simp only [kept_mk, kept_fold, kept_ite, kept_ec_ite, ite_self, cancelInst_kept, raiseEpochs_kept]; first | split | (with_reducible refine serve_kept _ _ _ _ ?_; intro _) | (with_reducible refine (kept_foldl _ _ _ ?_).trans ?_ <;> try intro _ _))
    | (rename_i h; first | rw [kept_of_snd h] | rw [kept_of_fst h])
    | (rename_i h _; first | rw [kept_of_snd h] | rw [kept_of_fst h])
    | (rename_i h _ _; first | rw [kept_of_snd h] | rw [kept_of_fst h])
    | (dsimp only; rename_i h; first | rw [kept_of_snd h] | rw [kept_of_fst h])
    | (dsimp only; rename_i h _; first | rw [kept_of_snd h] | rw [kept_of_fst h])
    | (dsimp only; rename_i h _ _; first | rw [kept_of_snd h] | rw [kept_of_fst h]))

theorem cancelMissed_kept (x0 : Key) (x1 : List Nat) (x2 : State) :
    kept (cancelMissed x0 x1 x2) = kept x2 := by
  unfold cancelMissed
  repeat' (first | (simp only [*, kept_mk, kept_fold, kept_ite, kept_ec_ite, ite_self, cancelInst_kept, raiseEpochs_kept]; done) | split | (with_reducible refine (kept_foldl _ _ _ ?_).trans ?_ <;> try intro _ _))

theorem createInst_kept (x0 : Key) (x1 : List Nat) (x2 : Option Desc) (x3 x4 : Nat) (x5 : Node) (x6 : State) :
    kept (createInst x0 x1 x2 x3 x4 x5 x6) = kept x6 := by
  simp only [createInst, kept_mk, kept_fold]

theorem createAll_kept (x0 : Key) (x1 : List Node) (x2 : Option Desc) (x3 : Nat) (x4 : Node → Nat) (x5 : State) :
    kept (createAll x0 x1 x2 x3 x4 x5) = kept x5 := by
  unfold createAll
  repeat' (first | (simp only [*, kept_mk, kept_fold, kept_ite, kept_ec_ite, ite_self, createInst_kept]; done) | split | (with_reducible refine (kept_foldl _ _ _ ?_).trans ?_ <;> try intro _ _))

theorem noteResets_kept (x0 : SMap) (x1 : State) :
    kept (noteResets x0 x1) = kept x1 := by
  unfold noteResets
  repeat' (first | (simp only [*, kept_mk, kept_fold, kept_ite, kept_ec_ite, ite_self, putElem_kept]; done) | split | (with_reducible refine (kept_foldl _ _ _ ?_).trans ?_ <;> try intro _ _))

theorem actResets_kept (x0 : State) :
    kept (actResets x0) = kept x0 := by
  unfold actResets
  repeat' (first | (simp only [*, kept_mk, kept_fold, kept_ite, kept_ec_ite, ite_self, cancelNodes_kept, putElem_kept]; done) | split | (with_reducible refine (kept_foldl _ _ _ ?_).trans ?_ <;> try intro _ _))

theorem harmonicWindows_kept (x0 : Nat) (x1 : State) :
    kept (harmonicWindows x0 x1) = kept x1 := by
  unfold harmonicWindows
  repeat' (first | (simp only [*, kept_mk, kept_fold, kept_ite, kept_ec_ite, ite_self, putJob_kept]; done) | split | (with_reducible refine (kept_foldl _ _ _ ?_).trans ?_ <;> try intro _ _))

theorem graphWave_kept (x0 : Nat) (x1 : State) :
    kept (graphWave x0 x1) = kept x1 := by
  simp only [graphWave, kept_mk, kept_fold, kept_ite, ite_self, harmonicWindows_kept, pump_kept, actResets_kept, createAll_kept, useLaunched_kept, noteResets_kept]

theorem graphDesc_kept (x0 : Desc) (x1 : State) :
    kept (graphDesc x0 x1) = kept x1 := by
  simp only [graphDesc, kept_mk, kept_fold, kept_ite, ite_self, pump_kept, createAll_kept, submit_kept]

theorem overrun_kept (x0 x1 x2 : Nat) (x3 : State) :
    kept (overrun x0 x1 x2 x3) = kept x3 := by
  simp only [overrun, kept_mk, kept_fold, kept_ite, ite_self, fireDetOnceP_kept, refreshPads_kept, schedTwin_kept, sendAgree_kept, sendCell_kept]

theorem overrunWave_kept (x0 : Nat) (x1 : State) :
    kept (overrunWave x0 x1) = kept x1 := by
  unfold overrunWave
  repeat' (first
    | (simp only [*, kept_mk, kept_fold, kept_ite, kept_ec_ite, ite_self, pump_kept, releaseWave_kept, cancelMissed_kept, overrun_kept, putOut_kept]; done)
    | (simp only [kept_mk, kept_fold, kept_ite, kept_ec_ite, ite_self, pump_kept, releaseWave_kept, cancelMissed_kept, overrun_kept, putOut_kept, kept_foldl]; done)
    | split
    | (with_reducible refine serve_kept _ _ _ _ ?_; intro _)
    | (with_reducible refine serveWrite_kept _ _ _ ?_; intro _)
    | (dsimp only; split)
    | (with_reducible refine (kept_foldl _ _ _ ?_).trans ?_ <;> try intro _ _)
    | (simp only [kept_mk, kept_fold, kept_ite, kept_ec_ite, ite_self, pump_kept, releaseWave_kept, cancelMissed_kept, overrun_kept, putOut_kept]; first | split | (with_reducible refine serve_kept _ _ _ _ ?_; intro _) | (with_reducible refine (kept_foldl _ _ _ ?_).trans ?_ <;> try intro _ _))
    | (rename_i h; first | rw [kept_of_snd h] | rw [kept_of_fst h])
    | (rename_i h _; first | rw [kept_of_snd h] | rw [kept_of_fst h])
    | (rename_i h _ _; first | rw [kept_of_snd h] | rw [kept_of_fst h])
    | (dsimp only; rename_i h; first | rw [kept_of_snd h] | rw [kept_of_fst h])
    | (dsimp only; rename_i h _; first | rw [kept_of_snd h] | rw [kept_of_fst h])
    | (dsimp only; rename_i h _ _; first | rw [kept_of_snd h] | rw [kept_of_fst h]))

theorem ownFiring_kept (x0 : Nat) (x1 : Delay) (x2 : State) :
    kept (ownFiring x0 x1 x2) = kept x2 := by
  simp only [ownFiring, kept_mk, kept_fold, kept_ite, ite_self]

theorem givenFiring_kept (x0 : Nat) (x1 : State) (x2 : List Nat) :
    kept (givenFiring x0 x1 x2) = kept x1 := by
  unfold givenFiring
  repeat' (first
    | (simp only [*, kept_mk, kept_fold, kept_ite, kept_ec_ite, ite_self]; done)
    | (simp only [kept_mk, kept_fold, kept_ite, kept_ec_ite, ite_self, kept_foldl]; done)
    | split
    | (with_reducible refine serve_kept _ _ _ _ ?_; intro _)
    | (with_reducible refine serveWrite_kept _ _ _ ?_; intro _)
    | (dsimp only; split)
    | (with_reducible refine (kept_foldl _ _ _ ?_).trans ?_ <;> try intro _ _)
    | (simp only [kept_mk, kept_fold, kept_ite, kept_ec_ite, ite_self]; first | split | (with_reducible refine serve_kept _ _ _ _ ?_; intro _) | (with_reducible refine (kept_foldl _ _ _ ?_).trans ?_ <;> try intro _ _))
    | (rename_i h; first | rw [kept_of_snd h] | rw [kept_of_fst h])
    | (rename_i h _; first | rw [kept_of_snd h] | rw [kept_of_fst h])
    | (rename_i h _ _; first | rw [kept_of_snd h] | rw [kept_of_fst h])
    | (dsimp only; rename_i h; first | rw [kept_of_snd h] | rw [kept_of_fst h])
    | (dsimp only; rename_i h _; first | rw [kept_of_snd h] | rw [kept_of_fst h])
    | (dsimp only; rename_i h _ _; first | rw [kept_of_snd h] | rw [kept_of_fst h]))

theorem agreedTokens_kept (x0 : Nat) (x1 : State) :
    kept (agreedTokens x0 x1) = kept x1 := by
  unfold agreedTokens
  repeat' (first | (simp only [*, kept_mk, kept_fold, kept_ite, kept_ec_ite, ite_self, givenFiring_kept]; done) | split | (with_reducible refine (kept_foldl _ _ _ ?_).trans ?_ <;> try intro _ _))

theorem ownTokens_kept (x0 : State) :
    kept (ownTokens x0) = kept x0 := by
  simp only [ownTokens, kept_mk, kept_fold]

theorem openSession_kept (x0 : Req) (x1 x2 : Nat) (x3 : Option Nat) (x4 : Bool) (x5 : Option Nat) (x6 : State) :
    kept (openSession x0 x1 x2 x3 x4 x5 x6) = kept x6 := by
  simp only [openSession, kept_mk, kept_fold, kept_ite, ite_self, respond_kept, submit_kept, answer_kept]

theorem putSlot_kept (x0 : Nat) (x1 : FwSlot) (x2 : State) :
    kept (putSlot x0 x1 x2) = kept x2 := by
  simp only [putSlot, kept_mk, kept_fold, kept_ite, ite_self]

theorem fwCommit_kept (x0 : Req) (x1 : State) :
    kept (fwCommit x0 x1) = kept x1 := by
  unfold fwCommit
  repeat' (first | (simp only [*, kept_mk, kept_fold, kept_ite, kept_ec_ite, ite_self, serve_kept, submitCmd_kept, respond_kept, answer_kept, putSlot_kept]; done) | split | (with_reducible refine serve_kept _ _ _ _ ?_; intro _))

theorem trial_kept (x0 : State) (x1 : Image) :
    kept (trial x0 x1) = kept x0 := by
  simp only [trial, kept_mk, kept_fold]

theorem resetOp_kept (x0 : State) (x1 : Node) :
    kept (resetOp x0 x1) = kept x0 := by
  simp only [resetOp, kept_mk, kept_fold, kept_ite, ite_self, putElem_kept, elemReset_kept]

theorem resetElements_kept (x0 : List Node) (x1 : State) :
    kept (resetElements x0 x1) = kept x1 := by
  unfold resetElements
  repeat' (first
    | (simp only [*, kept_mk, kept_fold, kept_ite, kept_ec_ite, ite_self, cancelNodes_kept, resetOp_kept]; done)
    | (simp only [kept_mk, kept_fold, kept_ite, kept_ec_ite, ite_self, cancelNodes_kept, resetOp_kept, kept_foldl]; done)
    | split
    | (with_reducible refine serve_kept _ _ _ _ ?_; intro _)
    | (with_reducible refine serveWrite_kept _ _ _ ?_; intro _)
    | (dsimp only; split)
    | (with_reducible refine (kept_foldl _ _ _ ?_).trans ?_ <;> try intro _ _)
    | (simp only [kept_mk, kept_fold, kept_ite, kept_ec_ite, ite_self, cancelNodes_kept, resetOp_kept]; first | split | (with_reducible refine serve_kept _ _ _ _ ?_; intro _) | (with_reducible refine (kept_foldl _ _ _ ?_).trans ?_ <;> try intro _ _))
    | (rename_i h; first | rw [kept_of_snd h] | rw [kept_of_fst h])
    | (rename_i h _; first | rw [kept_of_snd h] | rw [kept_of_fst h])
    | (rename_i h _ _; first | rw [kept_of_snd h] | rw [kept_of_fst h])
    | (dsimp only; rename_i h; first | rw [kept_of_snd h] | rw [kept_of_fst h])
    | (dsimp only; rename_i h _; first | rw [kept_of_snd h] | rw [kept_of_fst h])
    | (dsimp only; rename_i h _ _; first | rw [kept_of_snd h] | rw [kept_of_fst h]))

theorem switchGroup_kept (x0 x1 x2 : Nat) (x3 : State) :
    kept (switchGroup x0 x1 x2 x3) = kept x3 := by
  simp only [switchGroup, kept_mk, kept_fold, kept_ite, ite_self, submitCmd_kept, submit_kept, resetElements_kept]

theorem groupIgnored_kept (x0 x1 : Nat) (x2 : State) :
    kept (groupIgnored x0 x1 x2) = kept x2 := by
  simp only [groupIgnored, submit_kept]

theorem groupAnswer_kept (x0 : Option Req) (x1 : Status) (x2 : State) :
    kept (groupAnswer x0 x1 x2) = kept x2 := by
  unfold groupAnswer
  split <;> simp only [respond_kept]

theorem dropHeld_kept (x0 : State) :
    kept (dropHeld x0) = kept x0 := by
  unfold dropHeld
  split <;> simp only [kept_mk, kept_fold, groupIgnored_kept]

theorem groupReads_kept (x0 : State) :
    kept (groupReads x0).2.2 = kept x0 := by
  simp only [groupReads, kept_mk, kept_fold]

theorem heldGroupWave_kept (x0 : State) :
    kept (heldGroupWave x0) = kept x0 := by
  unfold heldGroupWave
  split <;> simp only [kept_mk, kept_fold, kept_ite, ite_self, groupIgnored_kept, switchGroup_kept]

theorem groupsSeen_kept (x0 : State) :
    kept (groupsSeen x0) = kept x0 := by
  unfold groupsSeen
  have hg := groupReads_kept x0
  revert hg
  generalize groupReads x0 = p
  obtain ⟨a, b, s⟩ := p
  intro hg
  dsimp only at hg ⊢
  have hl : ∀ (l : List (Nat × Option Req)) (s : State), kept (l.foldl (fun s c => groupAnswer c.2 .conflict s) s) = kept s :=
    fun l s => kept_foldl _ l s (fun s c => groupAnswer_kept _ _ _)
  repeat' split
  all_goals simp only [hl, hg, kept_mk, kept_fold, kept_ite, kept_ec_ite, ite_self, groupReads_kept, groupAnswer_kept, groupIgnored_kept, dropHeld_kept, switchGroup_kept]

theorem groupsWave_kept (x0 : State) :
    kept (groupsWave x0) = kept x0 := by
  unfold groupsWave
  have hg := groupReads_kept x0
  revert hg
  generalize groupReads x0 = p
  obtain ⟨a, b, s⟩ := p
  intro hg
  dsimp only at hg ⊢
  have hl : ∀ (l : List (Nat × Option Req)) (s : State), kept (l.foldl (fun s c => groupAnswer c.2 .conflict s) s) = kept s :=
    fun l s => kept_foldl _ l s (fun s c => groupAnswer_kept _ _ _)
  repeat' split
  all_goals simp only [hl, hg, heldGroupWave_kept, groupsSeen_kept]

theorem startGroup_kept (x0 : State) :
    kept (startGroup x0) = kept x0 := by
  simp only [startGroup, kept_mk, kept_fold]

theorem launchesChange_kept (x0 : List Param) (x1 : State) :
    kept (launchesChange x0 x1) = kept x1 := by
  unfold launchesChange
  repeat' (first
    | (simp only [*, kept_mk, kept_fold, kept_ite, kept_ec_ite, ite_self, launchSkipped_kept, putArmed_kept, updLaunch_kept, submit_kept]; done)
    | (simp only [kept_mk, kept_fold, kept_ite, kept_ec_ite, ite_self, launchSkipped_kept, putArmed_kept, updLaunch_kept, submit_kept, kept_foldl]; done)
    | split
    | (with_reducible refine serve_kept _ _ _ _ ?_; intro _)
    | (with_reducible refine serveWrite_kept _ _ _ ?_; intro _)
    | (dsimp only; split)
    | (with_reducible refine (kept_foldl _ _ _ ?_).trans ?_ <;> try intro _ _)
    | (simp only [kept_mk, kept_fold, kept_ite, kept_ec_ite, ite_self, launchSkipped_kept, putArmed_kept, updLaunch_kept, submit_kept]; first | split | (with_reducible refine serve_kept _ _ _ _ ?_; intro _) | (with_reducible refine (kept_foldl _ _ _ ?_).trans ?_ <;> try intro _ _))
    | (rename_i h; first | rw [kept_of_snd h] | rw [kept_of_fst h])
    | (rename_i h _; first | rw [kept_of_snd h] | rw [kept_of_fst h])
    | (rename_i h _ _; first | rw [kept_of_snd h] | rw [kept_of_fst h])
    | (dsimp only; rename_i h; first | rw [kept_of_snd h] | rw [kept_of_fst h])
    | (dsimp only; rename_i h _; first | rw [kept_of_snd h] | rw [kept_of_fst h])
    | (dsimp only; rename_i h _ _; first | rw [kept_of_snd h] | rw [kept_of_fst h]))

theorem channelsChange_kept (x0 : List ChanEntry) (x1 : State) :
    kept (channelsChange x0 x1) = kept x1 := by
  unfold channelsChange
  repeat' (first | (simp only [*, kept_mk, kept_fold, kept_ite, kept_ec_ite, ite_self, clearDet_kept, submit_kept]; done) | split | (with_reducible refine (kept_foldl _ _ _ ?_).trans ?_ <;> try intro _ _))

theorem figuresRestart_kept (x0 : State) :
    kept (figuresRestart x0) = kept x0 := by
  simp only [figuresRestart, kept_mk, kept_fold]

theorem groupAfter_kept (x0 : State) :
    kept (groupAfter x0) = kept x0 := by
  simp only [groupAfter, kept_mk, kept_fold, kept_ite, ite_self, submit_kept]

theorem slicesOut_kept (x0 : List Nat) (x1 : State) :
    kept (slicesOut x0 x1) = kept x1 := by
  unfold slicesOut
  repeat' (first | (simp only [*, kept_mk, kept_fold, kept_ite, kept_ec_ite, ite_self, fireDetOnce_kept, submit_kept]; done) | split | (with_reducible refine (kept_foldl _ _ _ ?_).trans ?_ <;> try intro _ _))

theorem loadChannels_kept (x0 : List ChanEntry) (x1 : State) :
    kept (loadChannels x0 x1) = kept x1 := by
  simp only [loadChannels, kept_mk, kept_fold]

theorem serveSpare_kept (x0 : State) :
    kept (serveSpare x0) = kept x0 := by
  unfold serveSpare
  repeat' (first
    | (simp only [*, kept_mk, kept_fold, kept_ite, kept_ec_ite, ite_self]; done)
    | (simp only [kept_mk, kept_fold, kept_ite, kept_ec_ite, ite_self, kept_foldl]; done)
    | split
    | (with_reducible refine serve_kept _ _ _ _ ?_; intro _)
    | (with_reducible refine serveWrite_kept _ _ _ ?_; intro _)
    | (dsimp only; split)
    | (with_reducible refine (kept_foldl _ _ _ ?_).trans ?_ <;> try intro _ _)
    | (simp only [kept_mk, kept_fold, kept_ite, kept_ec_ite, ite_self]; first | split | (with_reducible refine serve_kept _ _ _ _ ?_; intro _) | (with_reducible refine (kept_foldl _ _ _ ?_).trans ?_ <;> try intro _ _))
    | (rename_i h; first | rw [kept_of_snd h] | rw [kept_of_fst h])
    | (rename_i h _; first | rw [kept_of_snd h] | rw [kept_of_fst h])
    | (rename_i h _ _; first | rw [kept_of_snd h] | rw [kept_of_fst h])
    | (dsimp only; rename_i h; first | rw [kept_of_snd h] | rw [kept_of_fst h])
    | (dsimp only; rename_i h _; first | rw [kept_of_snd h] | rw [kept_of_fst h])
    | (dsimp only; rename_i h _ _; first | rw [kept_of_snd h] | rw [kept_of_fst h]))

theorem loadStreams_kept (x0 : List ChanEntry) (x1 : State) :
    kept (loadStreams x0 x1) = kept x1 := by
  simp only [loadStreams, kept_mk, kept_fold]

theorem loadGraph_kept (x0 : State) :
    kept (loadGraph x0) = kept x0 := by
  simp only [loadGraph, kept_mk, kept_fold]

theorem loadLogic_kept (x0 : State) :
    kept (loadLogic x0) = kept x0 := by
  unfold loadLogic
  split <;> simp only [kept_mk, kept_fold]

theorem loadUnits_kept (x0 : List ChanEntry) (x1 : State) :
    kept (loadUnits x0 x1) = kept x1 := by
  simp only [loadUnits, kept_mk, kept_fold, stalledJoin_kept, loadGraph_kept, serveSpare_kept, loadLogic_kept, loadProcess_kept, figuresRestart_kept, loadRows_kept, loadStreams_kept, loadChannels_kept]

theorem sendHello_kept (x0 : State) :
    kept (sendHello x0) = kept x0 := by
  simp only [sendHello, sendCell_kept]

theorem runProtection_kept (x0 : State) :
    kept (runProtection x0) = kept x0 := by
  simp only [runProtection, kept_mk, kept_fold, kept_ite, ite_self, sendHello_kept, refreshPads_kept, setRoleActive_kept, tryBind_kept, submit_kept]

theorem outputsOff_kept (x0 : State) :
    kept (outputsOff x0) = kept x0 := by
  simp only [outputsOff, kept_mk, kept_fold, driveAll_kept, sendCell_kept]

theorem startFlush_kept (x0 : Nat) (x1 : Bool) (x2 : State) :
    kept (startFlush x0 x1 x2) = kept x2 := by
  simp only [startFlush, kept_mk, kept_fold, kept_ite, ite_self, thaw_kept, submit_kept, refuseChange_kept]

theorem callFlush_kept (x0 : Nat) (x1 : State) :
    kept (callFlush x0 x1) = kept x1 := by
  simp only [callFlush, kept_mk, kept_fold, kept_ite, ite_self, startFlush_kept]

theorem structuralOff_kept (x0 : State) :
    kept (structuralOff x0) = kept x0 := by
  simp only [structuralOff, kept_mk, kept_fold, driveAll_kept]

theorem drainAll_kept (x0 : State) :
    kept (drainAll x0) = kept x0 := by
  unfold drainAll
  repeat' (first | (simp only [*, kept_mk, kept_fold, kept_ite, kept_ec_ite, ite_self, reelDrainDone_kept]; done) | split | (with_reducible refine (kept_foldl _ _ _ ?_).trans ?_ <;> try intro _ _))

theorem warn_kept (x0 : Nat) (x1 : State) :
    kept (warn x0 x1) = kept x1 := by
  simp only [warn, kept_mk, kept_fold, kept_ite, ite_self, callFlush_kept, submit_kept]

theorem recover_kept (x0 : Nat) (x1 : State) :
    kept (recover x0 x1) = kept x1 := by
  simp only [recover, kept_mk, kept_fold, kept_ite, ite_self, drRecover_kept, submit_kept]

theorem warnIfLow_kept (x0 : State) :
    kept (warnIfLow x0) = kept x0 := by
  simp only [warnIfLow, kept_ite, ite_self, warn_kept]

theorem vmainRises_kept (x0 : State) :
    kept (vmainRises x0) = kept x0 := by
  simp only [vmainRises, kept_mk, kept_fold, kept_ite, ite_self, recover_kept, clearDetAll_kept]

theorem pfailRises_kept (x0 : State) :
    kept (pfailRises x0) = kept x0 := by
  simp only [pfailRises, kept_mk, kept_fold, kept_ite, ite_self, recover_kept]

theorem holdupMeasured_kept (x0 x1 x2 : Nat) (x3 : State) :
    kept (holdupMeasured x0 x1 x2 x3) = kept x3 := by
  unfold holdupMeasured
  simp only [monPoint_kept, monValue_kept]
  split <;> simp only [fireDetOnce_kept, kept_mk, kept_fold]

theorem stageImage_kept (x0 : List (Nat × List Byte)) (x1 : Nat) (x2 : State) :
    kept (stageImage x0 x1 x2) = kept x2 := by
  simp only [stageImage, kept_mk, kept_fold]

theorem sendImage_kept (x0 : State) :
    kept (sendImage x0) = kept x0 := by
  unfold sendImage
  repeat' (first | (simp only [*, kept_mk, kept_fold, kept_ite, kept_ec_ite, ite_self, sendCell_kept]; done) | split | (with_reducible refine (kept_foldl _ _ _ ?_).trans ?_ <;> try intro _ _))

theorem beginCommit_kept (x0 : Bool) (x1 : State) :
    kept (beginCommit x0 x1) = kept x1 := by
  simp only [beginCommit, kept_mk, kept_fold, kept_ite, ite_self]

theorem activated_kept (x0 : Option Req) (x1 x2 : Nat) (x3 : State) :
    kept (activated x0 x1 x2 x3) = kept x3 := by
  unfold activated
  split <;> simp only [respond_kept, submit_kept]

theorem awaitChange_kept (x0 : Change) (x1 : State) :
    kept (awaitChange x0 x1) = kept x1 := by
  simp only [awaitChange, kept_mk, kept_fold]

theorem startStructural_kept (x0 : Req) (x1 : Bool) (x2 : State) :
    kept (startStructural x0 x1 x2) = kept x2 := by
  simp only [startStructural, kept_mk, kept_fold, refreshPads_kept, startFlush_kept]

theorem activateClass_kept (x0 : Req) (x1 : Nat) (x2 x3 : Image) (x4 : State) :
    kept (activateClass x0 x1 x2 x3 x4) = kept x4 := by
  unfold activateClass
  split <;> simp only [kept_mk, kept_fold, kept_ite, ite_self, sendImage_kept, awaitChange_kept, startStructural_kept, activateRefused_kept]

theorem pmuChanged_kept (x0 : List Param) (x1 : State) :
    kept (pmuChanged x0 x1) = kept x1 := by
  simp only [pmuChanged, kept_mk, kept_fold]

theorem markPoint_kept (x0 : LogicSec) (x1 : State) (x2 : Nat × Bool × Nat) :
    kept (markPoint x0 x1 x2) = kept x1 := by
  unfold markPoint
  split <;> simp only [kept_mk, kept_fold]

theorem dropTriggers_kept (x0 : State) :
    kept (dropTriggers x0) = kept x0 := by
  unfold dropTriggers
  repeat' (first
    | (simp only [*, kept_mk, kept_fold, kept_ite, kept_ec_ite, ite_self, submit_kept]; done)
    | (simp only [kept_mk, kept_fold, kept_ite, kept_ec_ite, ite_self, submit_kept, kept_foldl]; done)
    | split
    | (with_reducible refine serve_kept _ _ _ _ ?_; intro _)
    | (with_reducible refine serveWrite_kept _ _ _ ?_; intro _)
    | (dsimp only; split)
    | (with_reducible refine (kept_foldl _ _ _ ?_).trans ?_ <;> try intro _ _)
    | (simp only [kept_mk, kept_fold, kept_ite, kept_ec_ite, ite_self, submit_kept]; first | split | (with_reducible refine serve_kept _ _ _ _ ?_; intro _) | (with_reducible refine (kept_foldl _ _ _ ?_).trans ?_ <;> try intro _ _))
    | (rename_i h; first | rw [kept_of_snd h] | rw [kept_of_fst h])
    | (rename_i h _; first | rw [kept_of_snd h] | rw [kept_of_fst h])
    | (rename_i h _ _; first | rw [kept_of_snd h] | rw [kept_of_fst h])
    | (dsimp only; rename_i h; first | rw [kept_of_snd h] | rw [kept_of_fst h])
    | (dsimp only; rename_i h _; first | rw [kept_of_snd h] | rw [kept_of_fst h])
    | (dsimp only; rename_i h _ _; first | rw [kept_of_snd h] | rw [kept_of_fst h]))

theorem migrate_kept (x0 x1 : LogicSec) (x2 : State) :
    kept (migrate x0 x1 x2) = kept x2 := by
  unfold migrate
  repeat' (first
    | (simp only [*, kept_mk, kept_fold, kept_ite, kept_ec_ite, ite_self, markPoint_kept, dropTriggers_kept, submit_kept, markDirty_kept]; done)
    | (simp only [kept_mk, kept_fold, kept_ite, kept_ec_ite, ite_self, markPoint_kept, dropTriggers_kept, submit_kept, markDirty_kept, kept_foldl]; done)
    | split
    | (with_reducible refine serve_kept _ _ _ _ ?_; intro _)
    | (with_reducible refine serveWrite_kept _ _ _ ?_; intro _)
    | (dsimp only; split)
    | (with_reducible refine (kept_foldl _ _ _ ?_).trans ?_ <;> try intro _ _)
    | (simp only [kept_mk, kept_fold, kept_ite, kept_ec_ite, ite_self, markPoint_kept, dropTriggers_kept, submit_kept, markDirty_kept]; first | split | (with_reducible refine serve_kept _ _ _ _ ?_; intro _) | (with_reducible refine (kept_foldl _ _ _ ?_).trans ?_ <;> try intro _ _))
    | (rename_i h; first | rw [kept_of_snd h] | rw [kept_of_fst h])
    | (rename_i h _; first | rw [kept_of_snd h] | rw [kept_of_fst h])
    | (rename_i h _ _; first | rw [kept_of_snd h] | rw [kept_of_fst h])
    | (dsimp only; rename_i h; first | rw [kept_of_snd h] | rw [kept_of_fst h])
    | (dsimp only; rename_i h _; first | rw [kept_of_snd h] | rw [kept_of_fst h])
    | (dsimp only; rename_i h _ _; first | rw [kept_of_snd h] | rw [kept_of_fst h]))

theorem changeSection_kept (x0 : Image) (x1 : State) :
    kept (changeSection x0 x1) = kept x1 := by
  unfold changeSection
  split <;> simp only [kept_mk, kept_fold, syncClk_kept, loadLogic_kept, abandon_kept, migrate_kept, setMode_kept, submit_kept]

theorem changeover_kept (x0 : Change) (x1 : Nat) (x2 : State) :
    kept (changeover x0 x1 x2) = kept x2 := by
  unfold changeover
  split <;> simp only [kept_mk, kept_fold, changeSection_kept]

theorem fnLd_kept (x0 x1 : Nat) (x2 : Task) (x3 : State) :
    kept (fnLd x0 x1 x2 x3).2 = kept x3 := by
  simp only [fnLd, iBit_kept]

theorem fnLdn_kept (x0 x1 : Nat) (x2 : Task) (x3 : State) :
    kept (fnLdn x0 x1 x2 x3).2 = kept x3 := by
  simp only [fnLdn, iBit_kept]

theorem fnAnd_kept (x0 x1 : Nat) (x2 : Task) (x3 : State) :
    kept (fnAnd x0 x1 x2 x3).2 = kept x3 := by
  simp only [fnAnd, iBit_kept]

theorem fnAndn_kept (x0 x1 : Nat) (x2 : Task) (x3 : State) :
    kept (fnAndn x0 x1 x2 x3).2 = kept x3 := by
  simp only [fnAndn, iBit_kept]

theorem fnOr_kept (x0 x1 : Nat) (x2 : Task) (x3 : State) :
    kept (fnOr x0 x1 x2 x3).2 = kept x3 := by
  simp only [fnOr, iBit_kept]

theorem fnOrn_kept (x0 x1 : Nat) (x2 : Task) (x3 : State) :
    kept (fnOrn x0 x1 x2 x3).2 = kept x3 := by
  simp only [fnOrn, iBit_kept]

theorem fnXor_kept (x0 x1 : Nat) (x2 : Task) (x3 : State) :
    kept (fnXor x0 x1 x2 x3).2 = kept x3 := by
  simp only [fnXor, iBit_kept]

theorem fnXorn_kept (x0 x1 : Nat) (x2 : Task) (x3 : State) :
    kept (fnXorn x0 x1 x2 x3).2 = kept x3 := by
  simp only [fnXorn, iBit_kept]

theorem fnNot_kept (x0 x1 : Nat) (x2 : Task) (x3 : State) :
    kept (fnNot x0 x1 x2 x3).2 = kept x3 := by
  simp only [fnNot, ]

theorem fnSetr_kept (x0 x1 : Nat) (x2 : Task) (x3 : State) :
    kept (fnSetr x0 x1 x2 x3).2 = kept x3 := by
  simp only [fnSetr, ]

theorem fnClrr_kept (x0 x1 : Nat) (x2 : Task) (x3 : State) :
    kept (fnClrr x0 x1 x2 x3).2 = kept x3 := by
  simp only [fnClrr, ]

theorem fnAndOpen_kept (x0 x1 : Nat) (x2 : Task) (x3 : State) :
    kept (fnAndOpen x0 x1 x2 x3).2 = kept x3 := by
  simp only [fnAndOpen, iPush_kept]

theorem fnAndnOpen_kept (x0 x1 : Nat) (x2 : Task) (x3 : State) :
    kept (fnAndnOpen x0 x1 x2 x3).2 = kept x3 := by
  simp only [fnAndnOpen, iPush_kept]

theorem fnOrOpen_kept (x0 x1 : Nat) (x2 : Task) (x3 : State) :
    kept (fnOrOpen x0 x1 x2 x3).2 = kept x3 := by
  simp only [fnOrOpen, iPush_kept]

theorem fnOrnOpen_kept (x0 x1 : Nat) (x2 : Task) (x3 : State) :
    kept (fnOrnOpen x0 x1 x2 x3).2 = kept x3 := by
  simp only [fnOrnOpen, iPush_kept]

theorem fnXorOpen_kept (x0 x1 : Nat) (x2 : Task) (x3 : State) :
    kept (fnXorOpen x0 x1 x2 x3).2 = kept x3 := by
  simp only [fnXorOpen, iPush_kept]

theorem fnBracketClose_kept (x0 x1 : Nat) (x2 : Task) (x3 : State) :
    kept (fnBracketClose x0 x1 x2 x3).2 = kept x3 := by
  simp only [fnBracketClose, iClose_kept]

theorem fnFp_kept (x0 x1 : Nat) (x2 : Task) (x3 : State) :
    kept (fnFp x0 x1 x2 x3).2 = kept x3 := by
  simp only [fnFp, iEdge_kept]

theorem fnFn_kept (x0 x1 : Nat) (x2 : Task) (x3 : State) :
    kept (fnFn x0 x1 x2 x3).2 = kept x3 := by
  simp only [fnFn, iEdge_kept]

theorem fnSt_kept (x0 x1 : Nat) (x2 : Task) (x3 : State) :
    kept (fnSt x0 x1 x2 x3).2 = kept x3 := by
  simp only [fnSt, iSt_kept]

theorem fnStn_kept (x0 x1 : Nat) (x2 : Task) (x3 : State) :
    kept (fnStn x0 x1 x2 x3).2 = kept x3 := by
  simp only [fnStn, iSt_kept]

theorem fnSet_kept (x0 x1 : Nat) (x2 : Task) (x3 : State) :
    kept (fnSet x0 x1 x2 x3).2 = kept x3 := by
  simp only [fnSet, iSetRst_kept]

theorem fnRst_kept (x0 x1 : Nat) (x2 : Task) (x3 : State) :
    kept (fnRst x0 x1 x2 x3).2 = kept x3 := by
  simp only [fnRst, iSetRst_kept]

theorem fnTon_kept (x0 x1 : Nat) (x2 : Task) (x3 : State) :
    kept (fnTon x0 x1 x2 x3).2 = kept x3 := by
  simp only [fnTon, iTimer_kept]

theorem fnTof_kept (x0 x1 : Nat) (x2 : Task) (x3 : State) :
    kept (fnTof x0 x1 x2 x3).2 = kept x3 := by
  simp only [fnTof, iTimer_kept]

theorem fnTp_kept (x0 x1 : Nat) (x2 : Task) (x3 : State) :
    kept (fnTp x0 x1 x2 x3).2 = kept x3 := by
  simp only [fnTp, iTimer_kept]

theorem fnTrst_kept (x0 x1 : Nat) (x2 : Task) (x3 : State) :
    kept (fnTrst x0 x1 x2 x3).2 = kept x3 := by
  simp only [fnTrst, iTrst_kept]

theorem fnTpv_kept (x0 x1 : Nat) (x2 : Task) (x3 : State) :
    kept (fnTpv x0 x1 x2 x3).2 = kept x3 := by
  simp only [fnTpv, iTpv_kept]

theorem fnCtu_kept (x0 x1 : Nat) (x2 : Task) (x3 : State) :
    kept (fnCtu x0 x1 x2 x3).2 = kept x3 := by
  simp only [fnCtu, iCtu_kept]

theorem fnCtd_kept (x0 x1 : Nat) (x2 : Task) (x3 : State) :
    kept (fnCtd x0 x1 x2 x3).2 = kept x3 := by
  simp only [fnCtd, iCtd_kept]

theorem fnCrst_kept (x0 x1 : Nat) (x2 : Task) (x3 : State) :
    kept (fnCrst x0 x1 x2 x3).2 = kept x3 := by
  simp only [fnCrst, iCount_kept]

theorem fnCld_kept (x0 x1 : Nat) (x2 : Task) (x3 : State) :
    kept (fnCld x0 x1 x2 x3).2 = kept x3 := by
  simp only [fnCld, iCount_kept]

theorem fnCpv_kept (x0 x1 : Nat) (x2 : Task) (x3 : State) :
    kept (fnCpv x0 x1 x2 x3).2 = kept x3 := by
  simp only [fnCpv, iCpv_kept]

theorem fnLw_kept (x0 x1 : Nat) (x2 : Task) (x3 : State) :
    kept (fnLw x0 x1 x2 x3).2 = kept x3 := by
  simp only [fnLw, iWord_kept]

theorem fnSw_kept (x0 x1 : Nat) (x2 : Task) (x3 : State) :
    kept (fnSw x0 x1 x2 x3).2 = kept x3 := by
  simp only [fnSw, wordPut_kept]

theorem fnSwc_kept (x0 x1 : Nat) (x2 : Task) (x3 : State) :
    kept (fnSwc x0 x1 x2 x3).2 = kept x3 := by
  unfold fnSwc
  split <;> simp only [wordPut_kept]

theorem fnLdh_kept (x0 x1 : Nat) (x2 : Task) (x3 : State) :
    kept (fnLdh x0 x1 x2 x3).2 = kept x3 := by
  simp only [fnLdh, iLdh_kept]

theorem fnAdd_kept (x0 x1 : Nat) (x2 : Task) (x3 : State) :
    kept (fnAdd x0 x1 x2 x3).2 = kept x3 := by
  simp only [fnAdd, iArith_kept]

theorem fnSub_kept (x0 x1 : Nat) (x2 : Task) (x3 : State) :
    kept (fnSub x0 x1 x2 x3).2 = kept x3 := by
  simp only [fnSub, iArith_kept]

theorem fnMul_kept (x0 x1 : Nat) (x2 : Task) (x3 : State) :
    kept (fnMul x0 x1 x2 x3).2 = kept x3 := by
  simp only [fnMul, iArith_kept]

theorem fnDiv_kept (x0 x1 : Nat) (x2 : Task) (x3 : State) :
    kept (fnDiv x0 x1 x2 x3).2 = kept x3 := by
  simp only [fnDiv, iArith_kept]

theorem fnMod_kept (x0 x1 : Nat) (x2 : Task) (x3 : State) :
    kept (fnMod x0 x1 x2 x3).2 = kept x3 := by
  simp only [fnMod, iArith_kept]

theorem fnNeg_kept (x0 x1 : Nat) (x2 : Task) (x3 : State) :
    kept (fnNeg x0 x1 x2 x3).2 = kept x3 := by
  simp only [fnNeg, iSigned_kept]

theorem fnAbs_kept (x0 x1 : Nat) (x2 : Task) (x3 : State) :
    kept (fnAbs x0 x1 x2 x3).2 = kept x3 := by
  simp only [fnAbs, iSigned_kept]

theorem fnWand_kept (x0 x1 : Nat) (x2 : Task) (x3 : State) :
    kept (fnWand x0 x1 x2 x3).2 = kept x3 := by
  simp only [fnWand, iWord_kept]

theorem fnWor_kept (x0 x1 : Nat) (x2 : Task) (x3 : State) :
    kept (fnWor x0 x1 x2 x3).2 = kept x3 := by
  simp only [fnWor, iWord_kept]

theorem fnWxor_kept (x0 x1 : Nat) (x2 : Task) (x3 : State) :
    kept (fnWxor x0 x1 x2 x3).2 = kept x3 := by
  simp only [fnWxor, iWord_kept]

theorem fnWnot_kept (x0 x1 : Nat) (x2 : Task) (x3 : State) :
    kept (fnWnot x0 x1 x2 x3).2 = kept x3 := by
  simp only [fnWnot, iAcc_kept]

theorem fnShl_kept (x0 x1 : Nat) (x2 : Task) (x3 : State) :
    kept (fnShl x0 x1 x2 x3).2 = kept x3 := by
  simp only [fnShl, iShift_kept]

theorem fnShr_kept (x0 x1 : Nat) (x2 : Task) (x3 : State) :
    kept (fnShr x0 x1 x2 x3).2 = kept x3 := by
  simp only [fnShr, iShift_kept]

theorem fnSar_kept (x0 x1 : Nat) (x2 : Task) (x3 : State) :
    kept (fnSar x0 x1 x2 x3).2 = kept x3 := by
  simp only [fnSar, iShift_kept]

theorem fnCeq_kept (x0 x1 : Nat) (x2 : Task) (x3 : State) :
    kept (fnCeq x0 x1 x2 x3).2 = kept x3 := by
  simp only [fnCeq, iCmp_kept]

theorem fnCne_kept (x0 x1 : Nat) (x2 : Task) (x3 : State) :
    kept (fnCne x0 x1 x2 x3).2 = kept x3 := by
  simp only [fnCne, iCmp_kept]

theorem fnClt_kept (x0 x1 : Nat) (x2 : Task) (x3 : State) :
    kept (fnClt x0 x1 x2 x3).2 = kept x3 := by
  simp only [fnClt, iCmp_kept]

theorem fnCle_kept (x0 x1 : Nat) (x2 : Task) (x3 : State) :
    kept (fnCle x0 x1 x2 x3).2 = kept x3 := by
  simp only [fnCle, iCmp_kept]

theorem fnCgt_kept (x0 x1 : Nat) (x2 : Task) (x3 : State) :
    kept (fnCgt x0 x1 x2 x3).2 = kept x3 := by
  simp only [fnCgt, iCmp_kept]

theorem fnCge_kept (x0 x1 : Nat) (x2 : Task) (x3 : State) :
    kept (fnCge x0 x1 x2 x3).2 = kept x3 := by
  simp only [fnCge, iCmp_kept]

theorem fnFadd_kept (x0 x1 : Nat) (x2 : Task) (x3 : State) :
    kept (fnFadd x0 x1 x2 x3).2 = kept x3 := by
  simp only [fnFadd, iWord_kept]

theorem fnFsub_kept (x0 x1 : Nat) (x2 : Task) (x3 : State) :
    kept (fnFsub x0 x1 x2 x3).2 = kept x3 := by
  simp only [fnFsub, iWord_kept]

theorem fnFmul_kept (x0 x1 : Nat) (x2 : Task) (x3 : State) :
    kept (fnFmul x0 x1 x2 x3).2 = kept x3 := by
  simp only [fnFmul, iWord_kept]

theorem fnFdiv_kept (x0 x1 : Nat) (x2 : Task) (x3 : State) :
    kept (fnFdiv x0 x1 x2 x3).2 = kept x3 := by
  simp only [fnFdiv, iWord_kept]

theorem fnFlt_kept (x0 x1 : Nat) (x2 : Task) (x3 : State) :
    kept (fnFlt x0 x1 x2 x3).2 = kept x3 := by
  simp only [fnFlt, iAcc_kept]

theorem fnFix_kept (x0 x1 : Nat) (x2 : Task) (x3 : State) :
    kept (fnFix x0 x1 x2 x3).2 = kept x3 := by
  simp only [fnFix, iFix_kept]

theorem fnFclt_kept (x0 x1 : Nat) (x2 : Task) (x3 : State) :
    kept (fnFclt x0 x1 x2 x3).2 = kept x3 := by
  simp only [fnFclt, iCmp_kept]

theorem fnFcgt_kept (x0 x1 : Nat) (x2 : Task) (x3 : State) :
    kept (fnFcgt x0 x1 x2 x3).2 = kept x3 := by
  simp only [fnFcgt, iCmp_kept]

theorem fnFceq_kept (x0 x1 : Nat) (x2 : Task) (x3 : State) :
    kept (fnFceq x0 x1 x2 x3).2 = kept x3 := by
  simp only [fnFceq, iCmp_kept]

theorem fnJmp_kept (x0 x1 : Nat) (x2 : Task) (x3 : State) :
    kept (fnJmp x0 x1 x2 x3).2 = kept x3 := by
  simp only [fnJmp, iJump_kept]

theorem fnJc_kept (x0 x1 : Nat) (x2 : Task) (x3 : State) :
    kept (fnJc x0 x1 x2 x3).2 = kept x3 := by
  simp only [fnJc, iJump_kept]

theorem fnJnc_kept (x0 x1 : Nat) (x2 : Task) (x3 : State) :
    kept (fnJnc x0 x1 x2 x3).2 = kept x3 := by
  simp only [fnJnc, iJump_kept]

theorem fnCall_kept (x0 x1 : Nat) (x2 : Task) (x3 : State) :
    kept (fnCall x0 x1 x2 x3).2 = kept x3 := by
  simp only [fnCall, iCall_kept]

theorem fnRet_kept (x0 x1 : Nat) (x2 : Task) (x3 : State) :
    kept (fnRet x0 x1 x2 x3).2 = kept x3 := by
  simp only [fnRet, iRet_kept]

theorem fnNop_kept (x0 x1 : Nat) (x2 : Task) (x3 : State) :
    kept (fnNop x0 x1 x2 x3).2 = kept x3 := by
  simp only [fnNop, iNop_kept]

theorem fnEvt_kept (x0 x1 : Nat) (x2 : Task) (x3 : State) :
    kept (fnEvt x0 x1 x2 x3).2 = kept x3 := by
  simp only [fnEvt, iEvt_kept]

theorem fnLarm_kept (x0 x1 : Nat) (x2 : Task) (x3 : State) :
    kept (fnLarm x0 x1 x2 x3).2 = kept x3 := by
  simp only [fnLarm, iLarm_kept]

theorem fnLcan_kept (x0 x1 : Nat) (x2 : Task) (x3 : State) :
    kept (fnLcan x0 x1 x2 x3).2 = kept x3 := by
  simp only [fnLcan, iLcan_kept]

theorem instrFn_kept (x0 x1 x2 : Nat) (x3 : Task) (x4 : State) :
    kept (instrFn x0 x1 x2 x3 x4).2 = kept x4 := by
  unfold instrFn
  split <;> simp only [fnCtu_kept, fnNop_kept, fnWand_kept, fnLdh_kept, fnSetr_kept, fnBracketClose_kept, fnSwc_kept, fnCeq_kept, fnTpv_kept, fnJc_kept, fnMul_kept, fnMod_kept, fnLd_kept, fnTrst_kept, fnAbs_kept, fnCpv_kept, fnCld_kept, fnFsub_kept, fnAndnOpen_kept, fnFdiv_kept, fnShr_kept, fnShl_kept, fnAnd_kept, fnDiv_kept, fnClt_kept, fnFmul_kept, fnCrst_kept, fnCtd_kept, fnCall_kept, fnTon_kept, fnSt_kept, fnNeg_kept, fnFclt_kept, fnSet_kept, fnAdd_kept, fnFp_kept, fnCge_kept, fnEvt_kept, fnFcgt_kept, fnFix_kept, fnJnc_kept, fnLw_kept, fnAndn_kept, fnCgt_kept, fnLcan_kept, fnTof_kept, fnNot_kept, fnTp_kept, fnSw_kept, fnJmp_kept, fnOrnOpen_kept, fnRet_kept, iNop_kept, fnWor_kept, fnOrn_kept, fnCle_kept, fnSub_kept, fnAndOpen_kept, fnSar_kept, fnLarm_kept, fnWxor_kept, fnFadd_kept, fnLdn_kept, fnFceq_kept, fnClrr_kept, fnFn_kept, fnFlt_kept, fnOr_kept, fnXorOpen_kept, fnCne_kept, fnWnot_kept, fnOrOpen_kept, fnXorn_kept, fnXor_kept, fnRst_kept, fnStn_kept]

theorem stepHeld_kept (x0 : State) :
    kept (stepHeld x0) = kept x0 := by
  unfold stepHeld
  split
  · rfl
  · split
    · rfl
    · dsimp only
      split
      · simp only [taskEnd_kept, kept_mk, kept_fold]
      · exact stepTask_kept _ _ _ _ _ (instrFn_kept _)

theorem applyForceClear_kept (x0 x1 : Nat) (x2 : State) :
    kept (applyForceClear x0 x1 x2) = kept x2 := by
  simp only [applyForceClear, kept_mk, kept_fold, kept_ite, ite_self, submitCmd_kept, refreshPads_kept]

theorem fireSwitch_kept (x0 : LaunchEntry) (x1 : Nat) (x2 : State) :
    kept (fireSwitch x0 x1 x2) = kept x2 := by
  simp only [fireSwitch, kept_mk, kept_fold, kept_ite, ite_self, launchSkipped_kept, markDirty_kept]

theorem fireTask_kept (x0 : LaunchEntry) (x1 : State) :
    kept (fireTask x0 x1) = kept x1 := by
  simp only [fireTask, kept_mk, kept_fold]

theorem firePmu_kept (x0 x1 : Nat) (x2 : State) :
    kept (firePmu x0 x1 x2) = kept x2 := by
  simp only [firePmu, kept_ite, ite_self, updPmu_kept, submit_kept]

theorem fireAction_kept (x0 : LaunchEntry) (x1 : Nat) (x2 : State) :
    kept (fireAction x0 x1 x2) = kept x2 := by
  unfold fireAction
  split <;> simp only [rioPhase_kept, publishLaunch_kept, fireTask_kept, fireSwitch_kept, firePmu_kept, fireUnit_kept]

theorem fireEntry_kept (x0 : LaunchEntry) (x1 : State) :
    kept (fireEntry x0 x1) = kept x1 := by
  simp only [fireEntry, binPulse_kept, fireAction_kept, updLaunch_kept]

theorem soloActive_kept (x0 : State) :
    kept (soloActive x0) = kept x0 := by
  simp only [soloActive, kept_mk, kept_fold, setPair_kept, slewTd2_kept, refreshPads_kept, setRoleActive_kept, tryBind_kept]

theorem yieldRole_kept (x0 : State) :
    kept (yieldRole x0) = kept x0 := by
  simp only [yieldRole, kept_mk, kept_fold, refreshPads_kept, setRoleActive_kept, dropBind_kept]

theorem enterCold_kept (x0 : State) :
    kept (enterCold x0) = kept x0 := by
  simp only [enterCold, kept_mk, kept_fold, kept_ite, ite_self, setPair_kept]

theorem drillAbort_kept (x0 : State) :
    kept (drillAbort x0) = kept x0 := by
  simp only [drillAbort, kept_mk, kept_fold, kept_ite, ite_self, submit_kept]

theorem placeWave_kept (x0 : Nat) (x1 : State) :
    kept (placeWave x0 x1) = kept x1 := by
  simp only [placeWave, kept_mk, kept_fold]

theorem graphAfresh_kept (x0 : State) :
    kept (graphAfresh x0) = kept x0 := by
  simp only [graphAfresh, kept_mk, kept_fold, loadGraph_kept, loadRows_kept, placeWave_kept]

theorem startAfresh_kept (x0 : State) :
    kept (startAfresh x0) = kept x0 := by
  unfold startAfresh
  repeat' (first
    | (simp only [*, kept_mk, kept_fold, kept_ite, kept_ec_ite, ite_self, graphAfresh_kept, loadRetain_kept, enterRun_kept, abandon_kept, setMode_kept]; done)
    | (simp only [kept_mk, kept_fold, kept_ite, kept_ec_ite, ite_self, graphAfresh_kept, loadRetain_kept, enterRun_kept, abandon_kept, setMode_kept, kept_foldl]; done)
    | split
    | (with_reducible refine serve_kept _ _ _ _ ?_; intro _)
    | (with_reducible refine serveWrite_kept _ _ _ ?_; intro _)
    | (dsimp only; split)
    | (with_reducible refine (kept_foldl _ _ _ ?_).trans ?_ <;> try intro _ _)
    | (simp only [kept_mk, kept_fold, kept_ite, kept_ec_ite, ite_self, graphAfresh_kept, loadRetain_kept, enterRun_kept, abandon_kept, setMode_kept]; first | split | (with_reducible refine serve_kept _ _ _ _ ?_; intro _) | (with_reducible refine (kept_foldl _ _ _ ?_).trans ?_ <;> try intro _ _))
    | (rename_i h; first | rw [kept_of_snd h] | rw [kept_of_fst h])
    | (rename_i h _; first | rw [kept_of_snd h] | rw [kept_of_fst h])
    | (rename_i h _ _; first | rw [kept_of_snd h] | rw [kept_of_fst h])
    | (dsimp only; rename_i h; first | rw [kept_of_snd h] | rw [kept_of_fst h])
    | (dsimp only; rename_i h _; first | rw [kept_of_snd h] | rw [kept_of_fst h])
    | (dsimp only; rename_i h _ _; first | rw [kept_of_snd h] | rw [kept_of_fst h]))

theorem resumeOwn_kept (x0 : State) :
    kept (resumeOwn x0) = kept x0 := by
  simp only [resumeOwn, kept_ite, ite_self, startAfresh_kept]

theorem failJoin_kept (x0 : Nat) (x1 : State) :
    kept (failJoin x0 x1) = kept x1 := by
  simp only [failJoin, kept_mk, kept_fold, kept_ite, ite_self, setPair_kept, resumeOwn_kept, submit_kept]

theorem tryJoin_kept (x0 : State) :
    kept (tryJoin x0) = kept x0 := by
  simp only [tryJoin, kept_ite, ite_self, failJoin_kept, startJoin_kept]

theorem settleRoles_kept (x0 : State) :
    kept (settleRoles x0) = kept x0 := by
  simp only [settleRoles, kept_ite, ite_self, soloActive_kept, yieldRole_kept]

theorem partnerGone_kept (x0 : State) :
    kept (partnerGone x0) = kept x0 := by
  simp only [partnerGone, kept_mk, kept_fold]

theorem takeoverSolo_kept (x0 : Nat) (x1 : State) :
    kept (takeoverSolo x0 x1) = kept x1 := by
  simp only [takeoverSolo, setPair_kept, takeover_kept, partnerGone_kept, drillAbort_kept]

theorem partnerLost_kept (x0 : State) :
    kept (partnerLost x0) = kept x0 := by
  simp only [partnerLost, activeSolo_kept, partnerGone_kept, drillAbort_kept]

theorem standAlone_kept (x0 : State) :
    kept (standAlone x0) = kept x0 := by
  simp only [standAlone, kept_ite, ite_self, soloActive_kept, failJoin_kept, partnerGone_kept]

theorem failureSeen_kept (x0 : State) :
    kept (failureSeen x0) = kept x0 := by
  simp only [failureSeen, kept_ite, ite_self, takeoverSolo_kept, standAlone_kept, partnerGone_kept, partnerLost_kept]

theorem onPaths_kept (x0 : State) :
    kept (onPaths x0) = kept x0 := by
  unfold onPaths
  repeat' split
  all_goals simp only [*, kept_mk, kept_fold, kept_ite, kept_ec_ite, ite_self, enterCold_kept, takeoverSolo_kept, standAlone_kept, failJoin_kept, partnerGone_kept, drillAbort_kept, partnerLost_kept, fireDet_kept]

theorem laneReturns_kept (x0 : Nat) (x1 : State) :
    kept (laneReturns x0 x1) = kept x1 := by
  simp only [laneReturns, kept_mk, kept_fold, kept_ite, ite_self, clearDet_kept, sendHello_kept, submit_kept]

theorem laneGood_kept (x0 : Nat) (x1 : State) :
    kept (laneGood x0 x1) = kept x1 := by
  simp only [laneGood, kept_mk, kept_fold, kept_ite, ite_self, laneReturns_kept]

theorem noteBindDiff_kept (x0 : State) :
    kept (noteBindDiff x0) = kept x0 := by
  simp only [noteBindDiff, kept_mk, kept_fold, kept_ite, ite_self]

theorem leavePair_kept (x0 : State) :
    kept (leavePair x0) = kept x0 := by
  simp only [leavePair, kept_mk, kept_fold, kept_ite, ite_self, setPair_kept, refreshPads_kept, dropBind_kept]

theorem finishDrill_kept (x0 x1 x2 : Nat) (x3 : State) :
    kept (finishDrill x0 x1 x2 x3) = kept x3 := by
  simp only [finishDrill, kept_mk, kept_fold, kept_ite, ite_self, declareFaulty_kept, submit_kept]

theorem afterHandover_kept (x0 : List Nat) (x1 : State) :
    kept (afterHandover x0 x1) = kept x1 := by
  unfold afterHandover
  split <;> simp only [kept_mk, kept_fold, kept_ite, ite_self, activeSolo_kept, leavePair_kept, partnerGone_kept, finishDrill_kept]

theorem performHandover_kept (x0 : State) :
    kept (performHandover x0) = kept x0 := by
  unfold performHandover
  split <;> simp only [kept_mk, kept_fold, kept_ite, ite_self, setPair_kept, takeover_kept, refreshPads_kept, afterHandover_kept, startJoin_kept, sendCell_kept, setRoleActive_kept]

theorem handoverAt_kept (x0 : Nat) (x1 : State) :
    kept (handoverAt x0 x1) = kept x1 := by
  simp only [handoverAt, kept_ite, ite_self, performHandover_kept]

theorem drillReturn_kept (x0 : Nat × Nat × Nat) (x1 : State) :
    kept (drillReturn x0 x1) = kept x1 := by
  simp only [drillReturn, kept_mk, kept_fold, nameHandover_kept]

theorem resolveVerdict_kept (x0 : State) :
    kept (resolveVerdict x0) = kept x0 := by
  simp only [resolveVerdict, kept_ite, ite_self, activeSolo_kept, nameHandover_kept, startJoin_kept, declareFaulty_kept]

theorem partnerVerdict_kept (x0 : Nat) (x1 : State) :
    kept (partnerVerdict x0 x1) = kept x1 := by
  simp only [partnerVerdict, kept_mk, kept_fold, kept_ite, ite_self, resolveVerdict_kept]

theorem takeHello_kept (x0 : Nat) (x1 : Bool) (x2 : Nat) (x3 : Bool) (x4 : List Byte) (x5 : State) :
    kept (takeHello x0 x1 x2 x3 x4 x5) = kept x5 := by
  simp only [takeHello, kept_mk, kept_fold, laneGood_kept]

theorem takeHeartbeat_kept (x0 : Nat) (x1 : Bool) (x2 : Nat) (x3 : Bool) (x4 : Nat) (x5 : State) :
    kept (takeHeartbeat x0 x1 x2 x3 x4 x5) = kept x5 := by
  simp only [takeHeartbeat, kept_mk, kept_fold, noteBindDiff_kept]

theorem keepAgree_kept (x0 x1 : Nat) (x2 : List Nat) (x3 : State) :
    kept (keepAgree x0 x1 x2 x3) = kept x3 := by
  simp only [keepAgree, kept_mk, kept_fold]

theorem processAgreed_kept (x0 : List Nat) (x1 : State) :
    kept (processAgreed x0 x1) = kept x1 := by
  unfold processAgreed
  split <;> simp only [kept_mk, kept_fold]

theorem firingAgreed_kept (x0 : List Nat) (x1 : State) :
    kept (firingAgreed x0 x1) = kept x1 := by
  unfold firingAgreed
  repeat' split
  all_goals simp only [*, kept_mk, kept_fold, kept_ite, kept_ec_ite, ite_self, unitActs_kept]

theorem overrunTold_kept (x0 x1 : Nat) (x2 : State) :
    kept (overrunTold x0 x1 x2) = kept x2 := by
  simp only [overrunTold, kept_mk, kept_fold]

theorem imageConfirmed_kept (x0 : State) :
    kept (imageConfirmed x0) = kept x0 := by
  unfold imageConfirmed
  repeat' split
  all_goals simp only [*, kept_mk, kept_fold, kept_ite, kept_ec_ite, ite_self, schedTwin_kept]

theorem confirmed_kept (x0 : List Nat) (x1 : State) :
    kept (confirmed x0 x1) = kept x1 := by
  unfold confirmed
  repeat' split
  all_goals simp only [*, kept_mk, kept_fold, kept_ite, kept_ec_ite, ite_self, refuseChange_kept, imageConfirmed_kept]

theorem joinAsked_kept (x0 : Bool) (x1 : State) :
    kept (joinAsked x0 x1) = kept x1 := by
  simp only [joinAsked, kept_mk, kept_fold, kept_ite, ite_self, activeSolo_kept, sendCell_kept]

theorem crossDecided_kept (x0 x1 : Nat) (x2 : State) :
    kept (crossDecided x0 x1 x2) = kept x2 := by
  simp only [crossDecided, kept_mk, kept_fold, kept_ite, ite_self, sendCell_kept]

theorem activeTwin_kept (x0 : State) :
    kept (activeTwin x0) = kept x0 := by
  simp only [activeTwin, kept_mk, kept_fold, kept_ite, ite_self, setPair_kept]

theorem control_kept (x0 : List Nat) (x1 : State) :
    kept (control x0 x1) = kept x1 := by
  unfold control
  split <;> simp only [kept_mk, kept_fold, kept_ite, ite_self, confirmed_kept, activeSolo_kept, activeTwin_kept, partnerVerdict_kept, partnerGone_kept, sendCell_kept, diverge_kept, tryJoin_kept, failureSeen_kept, crossDecided_kept, joinAsked_kept]

theorem imageCell_kept (x0 x1 : Nat) (x2 : List Byte) (x3 : State) :
    kept (imageCell x0 x1 x2 x3) = kept x3 := by
  simp only [imageCell, kept_mk, kept_fold, kept_ite, ite_self, stageImage_kept, sendCell_kept]

theorem pulseTaken_kept (x0 : Nat) (x1 : State) :
    kept (pulseTaken x0 x1) = kept x1 := by
  simp only [pulseTaken, kept_mk, kept_fold, kept_ite, ite_self, enterCold_kept, clearDet_kept, tryJoin_kept, submit_kept, failureSeen_kept]

theorem bindFell_kept (x0 : State) :
    kept (bindFell x0) = kept x0 := by
  simp only [bindFell, kept_mk, kept_fold, kept_ite, ite_self, takeoverSolo_kept, noteBindDiff_kept, tryBind_kept]

theorem bindRose_kept (x0 : State) :
    kept (bindRose x0) = kept x0 := by
  simp only [bindRose, kept_mk, kept_fold, kept_ite, ite_self, noteBindDiff_kept, dropBind_kept]

theorem loadSnapGraph_kept (x0 : Snap) (x1 : State) :
    kept (loadSnapGraph x0 x1) = kept x1 := by
  simp only [loadSnapGraph, kept_mk, kept_fold]

theorem loadSnapLogic_kept (x0 : Snap) (x1 : State) :
    kept (loadSnapLogic x0 x1) = kept x1 := by
  simp only [loadSnapLogic, kept_mk, kept_fold, loadRetain_kept]

theorem loadSnapMigrate_kept (x0 : Snap) (x1 : State) :
    kept (loadSnapMigrate x0 x1) = kept x1 := by
  unfold loadSnapMigrate
  repeat' (first
    | (simp only [*, kept_mk, kept_fold, kept_ite, kept_ec_ite, ite_self, loadSnapLogic_kept, migrate_kept]; done)
    | (simp only [kept_mk, kept_fold, kept_ite, kept_ec_ite, ite_self, loadSnapLogic_kept, migrate_kept, kept_foldl]; done)
    | split
    | (with_reducible refine serve_kept _ _ _ _ ?_; intro _)
    | (with_reducible refine serveWrite_kept _ _ _ ?_; intro _)
    | (dsimp only; split)
    | (with_reducible refine (kept_foldl _ _ _ ?_).trans ?_ <;> try intro _ _)
    | (simp only [kept_mk, kept_fold, kept_ite, kept_ec_ite, ite_self, loadSnapLogic_kept, migrate_kept]; first | split | (with_reducible refine serve_kept _ _ _ _ ?_; intro _) | (with_reducible refine (kept_foldl _ _ _ ?_).trans ?_ <;> try intro _ _))
    | (rename_i h; first | rw [kept_of_snd h] | rw [kept_of_fst h])
    | (rename_i h _; first | rw [kept_of_snd h] | rw [kept_of_fst h])
    | (rename_i h _ _; first | rw [kept_of_snd h] | rw [kept_of_fst h])
    | (dsimp only; rename_i h; first | rw [kept_of_snd h] | rw [kept_of_fst h])
    | (dsimp only; rename_i h _; first | rw [kept_of_snd h] | rw [kept_of_fst h])
    | (dsimp only; rename_i h _ _; first | rw [kept_of_snd h] | rw [kept_of_fst h]))

theorem pubsById_kept (x0 : List GoosePub) (x1 : State) :
    kept (pubsById x0 x1) = kept x1 := by
  simp only [pubsById, kept_mk, kept_fold]

theorem releaseClear_kept (x0 : Req) (x1 : State) :
    kept (releaseClear x0 x1) = kept x1 := by
  simp only [releaseClear, kept_mk, kept_fold, kept_ite, ite_self, sendCell_kept, tryJoin_kept, answer_kept]

theorem releaseYield_kept (x0 : Req) (x1 : State) :
    kept (releaseYield x0 x1) = kept x1 := by
  simp only [releaseYield, kept_ite, ite_self, nameHandover_kept, answer_kept]

theorem releaseLeave_kept (x0 : Req) (x1 : State) :
    kept (releaseLeave x0 x1) = kept x1 := by
  simp only [releaseLeave, kept_ite, ite_self, nameHandover_kept, leavePair_kept, sendCell_kept, answer_kept]

theorem diagBegin_kept (x0 x1 : Nat) (x2 : State) :
    kept (diagBegin x0 x1 x2) = kept x2 := by
  unfold diagBegin
  repeat' split
  all_goals simp only [*, kept_mk, kept_fold, kept_ite, kept_ec_ite, ite_self, diRefresh_kept, updDi_kept, updDo_kept, fireDet_kept]

theorem updTw_kept (x0 : Nat) (x1 : TwStream → TwStream) (x2 : State) :
    kept (updTw x0 x1 x2) = kept x2 := by
  simp only [updTw, kept_mk, kept_fold]

theorem twBlock_kept (x0 x1 : Nat) (x2 : State) :
    kept (twBlock x0 x1 x2) = kept x2 := by
  simp only [twBlock, kept_ite, ite_self, updTw_kept]

theorem recDesc_kept (x0 : Desc) (x1 : State) :
    kept (recDesc x0 x1) = kept x1 := by
  simp only [recDesc, kept_ite, ite_self, fireUnits_kept, binPulse_kept]

theorem sendDesc_kept (x0 : Desc) (x1 : State) :
    kept (sendDesc x0 x1) = kept x1 := by
  simp only [sendDesc, kept_ite, ite_self, sendCell_kept]

theorem issueDesc_kept (x0 : Desc) (x1 : State) :
    kept (issueDesc x0 x1).1 = kept x1 := by
  unfold issueDesc
  dsimp only
  split
  · split
    · simp only [kept_mk, kept_fold]
    · simp only [submit_kept, kept_mk, kept_fold]
  · simp only [sendDesc_kept, recDesc_kept, kept_mk, kept_fold]

theorem putBurst_kept (x0 : Nat) (x1 : Option Burst) (x2 : State) :
    kept (putBurst x0 x1 x2) = kept x2 := by
  simp only [putBurst, kept_mk, kept_fold]

theorem openBurst_kept (x0 : State) (x1 x2 : Nat) :
    kept (openBurst x0 x1 x2).2 = kept x0 := by
  simp only [openBurst, kept_mk, kept_fold]

theorem tellBurst_kept (x0 : Nat) (x1 : Desc) (x2 : State) :
    kept (tellBurst x0 x1 x2) = kept x2 := by
  simp only [tellBurst, submitParts_kept]

theorem closeWindow_kept (x0 : Nat) (x1 : State) :
    kept (closeWindow x0 x1) = kept x1 := by
  unfold closeWindow
  split
  · rfl
  · split
    · rfl
    · simp only []
      have hf : ∀ (l : List Desc) (p : State × Burst) (g : State × Burst → Desc → State × Burst),
          (∀ p d, kept (g p d).1 = kept p.1) → kept (l.foldl g p).1 = kept p.1 := by
        intro l
        induction l with
        | nil => intro p g _; rfl
        | cons a l ih => intro p g h; rw [List.foldl_cons, ih _ _ h, h]
      split <;> simp only [tellBurst_kept, putBurst_kept] <;>
        exact hf _ _ _ (fun p d => by simp only [issueDesc_kept])

theorem arrivalDesc_kept (x0 x1 x2 : Nat) (x3 : List Int) (x4 : Nat) (x5 : Bool) (x6 : Int) (x7 : State) :
    kept (arrivalDesc x0 x1 x2 x3 x4 x5 x6 x7).2 = kept x7 := by
  simp only [arrivalDesc, kept_ite, ite_self, freshNat_kept]

theorem supReading_kept (x0 : Nat) (x1 x2 : List Int) (x3 : State) :
    kept (supReading x0 x1 x2 x3).2.2 = kept x3 := by
  unfold supReading
  repeat' (first
    | (simp only [*, kept_mk, kept_fold, kept_ite, kept_ec_ite, ite_self, freshNat_kept]; done)
    | (simp only [kept_mk, kept_fold, kept_ite, kept_ec_ite, ite_self, freshNat_kept, kept_foldl]; done)
    | split
    | (with_reducible refine serve_kept _ _ _ _ ?_; intro _)
    | (with_reducible refine serveWrite_kept _ _ _ ?_; intro _)
    | (dsimp only; split)
    | (with_reducible refine (kept_foldl _ _ _ ?_).trans ?_ <;> try intro _ _)
    | (simp only [kept_mk, kept_fold, kept_ite, kept_ec_ite, ite_self, freshNat_kept]; first | split | (with_reducible refine serve_kept _ _ _ _ ?_; intro _) | (with_reducible refine (kept_foldl _ _ _ ?_).trans ?_ <;> try intro _ _))
    | (rename_i h; first | rw [kept_of_snd h] | rw [kept_of_fst h])
    | (rename_i h _; first | rw [kept_of_snd h] | rw [kept_of_fst h])
    | (rename_i h _ _; first | rw [kept_of_snd h] | rw [kept_of_fst h])
    | (dsimp only; rename_i h; first | rw [kept_of_snd h] | rw [kept_of_fst h])
    | (dsimp only; rename_i h _; first | rw [kept_of_snd h] | rw [kept_of_fst h])
    | (dsimp only; rename_i h _ _; first | rw [kept_of_snd h] | rw [kept_of_fst h]))

theorem assembleMsgs_kept (x0 : Burst) (x1 : State) :
    kept (assembleMsgs x0 x1) = kept x1 := by
  unfold assembleMsgs
  repeat' (first | (simp only [*, kept_mk, kept_fold, kept_ite, kept_ec_ite, ite_self]; done) | split | (with_reducible refine (kept_foldl _ _ _ ?_).trans ?_ <;> try intro _ _))

theorem holdMsg_kept (x0 : Nat × Nat × Nat × Nat) (x1 : Option Desc) (x2 : State) :
    kept (holdMsg x0 x1 x2) = kept x2 := by
  simp only [holdMsg, kept_mk, kept_fold]

theorem msgAgreed_kept (x0 : List Nat) (x1 : State) :
    kept (msgAgreed x0 x1) = kept x1 := by
  simp only [msgAgreed, kept_mk, kept_fold, kept_ite, ite_self, holdMsg_kept]

theorem burstClosed_kept (x0 : Burst) (x1 : State) :
    kept (burstClosed x0 x1) = kept x1 := by
  simp only [burstClosed, kept_mk, kept_fold, putBurst_kept, stalledJoin_kept, assembleMsgs_kept]

theorem endBurst_kept (x0 : Burst) (x1 : State) :
    kept (endBurst x0 x1) = kept x1 := by
  simp only [endBurst, issueDesc_kept, burstClosed_kept]

theorem arriveBurst_kept (x0 : Desc) (x1 : State) :
    kept (arriveBurst x0 x1) = kept x1 := by
  unfold arriveBurst
  repeat' (first
    | (simp only [*, kept_mk, kept_fold, kept_ite, kept_ec_ite, ite_self, putBurst_kept, endBurst_kept, openBurst_kept, closeWindow_kept, issueDesc_kept]; done)
    | (simp only [kept_mk, kept_fold, kept_ite, kept_ec_ite, ite_self, putBurst_kept, endBurst_kept, openBurst_kept, closeWindow_kept, issueDesc_kept, kept_foldl]; done)
    | split
    | (with_reducible refine serve_kept _ _ _ _ ?_; intro _)
    | (with_reducible refine serveWrite_kept _ _ _ ?_; intro _)
    | (dsimp only; split)
    | (with_reducible refine (kept_foldl _ _ _ ?_).trans ?_ <;> try intro _ _)
    | (simp only [kept_mk, kept_fold, kept_ite, kept_ec_ite, ite_self, putBurst_kept, endBurst_kept, openBurst_kept, closeWindow_kept, issueDesc_kept]; first | split | (with_reducible refine serve_kept _ _ _ _ ?_; intro _) | (with_reducible refine (kept_foldl _ _ _ ?_).trans ?_ <;> try intro _ _))
    | (rename_i h; first | rw [kept_of_snd h] | rw [kept_of_fst h])
    | (rename_i h _; first | rw [kept_of_snd h] | rw [kept_of_fst h])
    | (rename_i h _ _; first | rw [kept_of_snd h] | rw [kept_of_fst h])
    | (dsimp only; rename_i h; first | rw [kept_of_snd h] | rw [kept_of_fst h])
    | (dsimp only; rename_i h _; first | rw [kept_of_snd h] | rw [kept_of_fst h])
    | (dsimp only; rename_i h _ _; first | rw [kept_of_snd h] | rw [kept_of_fst h]))

theorem followDesc_kept (x0 : Desc) (x1 : State) :
    kept (followDesc x0 x1) = kept x1 := by
  unfold followDesc
  repeat' (first
    | (simp only [*, kept_mk, kept_fold, kept_ite, kept_ec_ite, ite_self, putBurst_kept, openBurst_kept, tellBurst_kept, recDesc_kept, burstClosed_kept]; done)
    | (simp only [kept_mk, kept_fold, kept_ite, kept_ec_ite, ite_self, putBurst_kept, openBurst_kept, tellBurst_kept, recDesc_kept, burstClosed_kept, kept_foldl]; done)
    | split
    | (with_reducible refine serve_kept _ _ _ _ ?_; intro _)
    | (with_reducible refine serveWrite_kept _ _ _ ?_; intro _)
    | (dsimp only; split)
    | (with_reducible refine (kept_foldl _ _ _ ?_).trans ?_ <;> try intro _ _)
    | (simp only [kept_mk, kept_fold, kept_ite, kept_ec_ite, ite_self, putBurst_kept, openBurst_kept, tellBurst_kept, recDesc_kept, burstClosed_kept]; first | split | (with_reducible refine serve_kept _ _ _ _ ?_; intro _) | (with_reducible refine (kept_foldl _ _ _ ?_).trans ?_ <;> try intro _ _))
    | (rename_i h; first | rw [kept_of_snd h] | rw [kept_of_fst h])
    | (rename_i h _; first | rw [kept_of_snd h] | rw [kept_of_fst h])
    | (rename_i h _ _; first | rw [kept_of_snd h] | rw [kept_of_fst h])
    | (dsimp only; rename_i h; first | rw [kept_of_snd h] | rw [kept_of_fst h])
    | (dsimp only; rename_i h _; first | rw [kept_of_snd h] | rw [kept_of_fst h])
    | (dsimp only; rename_i h _ _; first | rw [kept_of_snd h] | rw [kept_of_fst h]))

theorem crossDescs_kept (x0 : State) :
    kept (crossDescs x0) = kept x0 := by
  simp only [crossDescs, kept_mk, kept_fold]

theorem takeEstimates_kept (x0 : State) :
    kept (takeEstimates x0) = kept x0 := by
  simp only [takeEstimates, kept_mk, kept_fold]

theorem attachLoc_kept (x0 : Burst) (x1 x2 : Nat) (x3 : State) :
    kept (attachLoc x0 x1 x2 x3) = kept x3 := by
  simp only [attachLoc, kept_mk, kept_fold]

theorem located_kept (x0 : Burst) (x1 : Nat) (x2 : Bool) (x3 : Int) (x4 : Option Desc) (x5 : State) :
    kept (located x0 x1 x2 x3 x4 x5) = kept x5 := by
  unfold located
  simp only [submitParts_kept, attachLoc_kept, kept_mk, kept_fold]
  split <;> simp only [freshNat_kept]

theorem locFailed_kept (x0 : Nat) (x1 : State) :
    kept (locFailed x0 x1) = kept x1 := by
  simp only [locFailed, kept_mk, kept_fold, submit_kept]

theorem locByImpedance_kept (x0 : Burst) (x1 : State) :
    kept (locByImpedance x0 x1) = kept x1 := by
  unfold locByImpedance
  repeat' split
  all_goals simp only [*, kept_mk, kept_fold, kept_ite, kept_ec_ite, ite_self, located_kept, locFailed_kept]

theorem locate_kept (x0 : Burst) (x1 : State) :
    kept (locate x0 x1) = kept x1 := by
  unfold locate
  repeat' split
  all_goals simp only [*, kept_mk, kept_fold, kept_ite, kept_ec_ite, ite_self, located_kept, locFailed_kept, locByImpedance_kept]

theorem measureVel_kept (x0 : Burst) (x1 : State) :
    kept (measureVel x0 x1) = kept x1 := by
  simp only [measureVel, kept_mk, kept_fold, kept_ite, ite_self, submit_kept]

theorem noteSwap_kept (x0 : Nat) (x1 : State) :
    kept (noteSwap x0 x1) = kept x1 := by
  unfold noteSwap
  repeat' (first | (simp only [*, kept_mk, kept_fold, kept_ite, kept_ec_ite, ite_self, updTw_kept]; done) | split | (with_reducible refine (kept_foldl _ _ _ ?_).trans ?_ <;> try intro _ _))

theorem serveBy_kept (x0 x1 : Nat) (x2 : State) :
    kept (serveBy x0 x1 x2) = kept x2 := by
  simp only [serveBy, kept_mk, kept_fold, noteSwap_kept]

theorem resolveMark_kept (x0 : Nat) (x1 : Bool) (x2 : State) :
    kept (resolveMark x0 x1 x2) = kept x2 := by
  simp only [resolveMark, kept_mk, kept_fold]

theorem removeSlice_kept (x0 : Nat) (x1 : State) :
    kept (removeSlice x0 x1) = kept x1 := by
  simp only [removeSlice, kept_mk, kept_fold, submit_kept]

theorem rotWave_kept (x0 : Nat) (x1 : State) :
    kept (rotWave x0 x1) = kept x1 := by
  simp only [rotWave, kept_mk, kept_fold, kept_ite, ite_self]

theorem mismatchEnd_kept (x0 x1 x2 : Nat) (x3 : State) :
    kept (mismatchEnd x0 x1 x2 x3) = kept x3 := by
  simp only [mismatchEnd, fireDetOnceP_kept, removeSlice_kept, resolveMark_kept]

theorem updSv_kept (x0 : Nat) (x1 : SvStream → SvStream) (x2 : State) :
    kept (updSv x0 x1 x2) = kept x2 := by
  simp only [updSv, kept_mk, kept_fold]

theorem settleSv_kept (x0 x1 : Nat) (x2 : State) :
    kept (settleSv x0 x1 x2) = kept x2 := by
  simp only [settleSv, kept_mk, kept_fold]

theorem svLost_kept (x0 : Nat) (x1 : State) :
    kept (svLost x0 x1) = kept x1 := by
  simp only [svLost, kept_ite, ite_self, updSv_kept, submit_kept]

theorem svTake_kept (x0 : Nat) (x1 : SvFrame) (x2 : State) :
    kept (svTake x0 x1 x2) = kept x2 := by
  simp only [svTake, updSv_kept]

theorem svWave_kept (x0 : Nat → Bool) (x1 : State) :
    kept (svWave x0 x1) = kept x1 := by
  unfold svWave
  repeat' (first | (simp only [*, kept_mk, kept_fold, kept_ite, kept_ec_ite, ite_self, updSv_kept, submit_kept, svLost_kept]; done) | split | (with_reducible refine (kept_foldl _ _ _ ?_).trans ?_ <;> try intro _ _))

theorem overrunAt_kept (x0 : Nat) (x1 : State) :
    kept (overrunAt x0 x1) = kept x1 := by
  simp only [overrunAt, kept_ite, ite_self, takeoverSolo_kept, drillAbort_kept, startJoin_kept, yieldRole_kept]

theorem setXchk_kept (x0 : Nat) (x1 : Bool) (x2 : State) :
    kept (setXchk x0 x1 x2) = kept x2 := by
  simp only [setXchk, kept_mk, kept_fold]

theorem armNamed_kept (x0 : Nat) (x1 : LaunchVal) (x2 : State) :
    kept (armNamed x0 x1 x2) = kept x2 := by
  simp only [armNamed, kept_ite, ite_self, putArmed_kept]

theorem judgeReports_kept (x0 : State) :
    kept (judgeReports x0) = kept x0 := by
  simp only [judgeReports, kept_mk, kept_fold, kept_ite, ite_self, sendCell_kept, diverge_kept]

theorem windowsWave_kept (x0 : Nat × Nat) (x1 : State) :
    kept (windowsWave x0 x1) = kept x1 := by
  simp only [windowsWave, kept_mk, kept_fold, kept_ite, ite_self]

theorem snapNow_kept (x0 : Option Req × Nat) (x1 : State) :
    kept (snapNow x0 x1) = kept x1 := by
  unfold snapNow
  split <;> simp only [kept_mk, kept_fold, respond_kept]

theorem snapsWave_kept (x0 : State) :
    kept (snapsWave x0) = kept x0 := by
  unfold snapsWave
  repeat' (first | (simp only [*, kept_mk, kept_fold, kept_ite, kept_ec_ite, ite_self, snapNow_kept]; done) | split | (with_reducible refine (kept_foldl _ _ _ ?_).trans ?_ <;> try intro _ _))

theorem judgeOver_kept (x0 : Nat) (x1 : Bool) (x2 : State) :
    kept (judgeOver x0 x1 x2) = kept x2 := by
  unfold judgeOver
  split <;> simp only [kept_mk, kept_fold, kept_ite, ite_self, clearDet_kept, submit_kept, fireDet_kept]

theorem putTokens_kept (x0 : List (Int × BitVec 8)) (x1 : State) :
    kept (putTokens x0 x1) = kept x1 := by
  simp only [putTokens, kept_mk, kept_fold]

theorem crossJudge_kept (x0 : Nat) (x1 : XChk) (x2 : State) :
    kept (crossJudge x0 x1 x2).1 = kept x2 := by
  unfold crossJudge
  repeat' split
  all_goals simp only [*, kept_mk, kept_fold, kept_ite, kept_ec_ite, ite_self, clearDet_kept, sendCell_kept, submit_kept, fireDet_kept]

theorem crossWindow_kept (x0 : Nat) (x1 : XChk) (x2 : State) :
    kept (crossWindow x0 x1 x2).1 = kept x2 := by
  unfold crossWindow
  split <;> simp only [crossJudge_kept]

theorem crossChan_kept (x0 : Bool) (x1 : Nat) (x2 x3 : Int × BitVec 8) (x4 : State) :
    kept (crossChan x0 x1 x2 x3 x4) = kept x4 := by
  unfold crossChan
  repeat' (first
    | (simp only [*, kept_mk, kept_fold, kept_ite, kept_ec_ite, ite_self, crossWindow_kept]; done)
    | (simp only [kept_mk, kept_fold, kept_ite, kept_ec_ite, ite_self, crossWindow_kept, kept_foldl]; done)
    | split
    | (with_reducible refine serve_kept _ _ _ _ ?_; intro _)
    | (with_reducible refine serveWrite_kept _ _ _ ?_; intro _)
    | (dsimp only; split)
    | (with_reducible refine (kept_foldl _ _ _ ?_).trans ?_ <;> try intro _ _)
    | (simp only [kept_mk, kept_fold, kept_ite, kept_ec_ite, ite_self, crossWindow_kept]; first | split | (with_reducible refine serve_kept _ _ _ _ ?_; intro _) | (with_reducible refine (kept_foldl _ _ _ ?_).trans ?_ <;> try intro _ _))
    | (rename_i h; first | rw [kept_of_snd h] | rw [kept_of_fst h])
    | (rename_i h _; first | rw [kept_of_snd h] | rw [kept_of_fst h])
    | (rename_i h _ _; first | rw [kept_of_snd h] | rw [kept_of_fst h])
    | (dsimp only; rename_i h; first | rw [kept_of_snd h] | rw [kept_of_fst h])
    | (dsimp only; rename_i h _; first | rw [kept_of_snd h] | rw [kept_of_fst h])
    | (dsimp only; rename_i h _ _; first | rw [kept_of_snd h] | rw [kept_of_fst h]))

theorem crossDi_kept (x0 x1 : Nat) (x2 : State) :
    kept (crossDi x0 x1 x2) = kept x2 := by
  simp only [crossDi, kept_mk, kept_fold]

theorem crossWave_kept (x0 x1 : List (Int × BitVec 8)) (x2 x3 : Nat) (x4 : State) :
    kept (crossWave x0 x1 x2 x3 x4) = kept x4 := by
  unfold crossWave
  repeat' (first
    | (simp only [*, kept_mk, kept_fold, kept_ite, kept_ec_ite, ite_self, crossChan_kept, crossDi_kept, crossDescs_kept]; done)
    | (simp only [kept_mk, kept_fold, kept_ite, kept_ec_ite, ite_self, crossChan_kept, crossDi_kept, crossDescs_kept, kept_foldl]; done)
    | split
    | (with_reducible refine serve_kept _ _ _ _ ?_; intro _)
    | (with_reducible refine serveWrite_kept _ _ _ ?_; intro _)
    | (dsimp only; split)
    | (with_reducible refine (kept_foldl _ _ _ ?_).trans ?_ <;> try intro _ _)
    | (simp only [kept_mk, kept_fold, kept_ite, kept_ec_ite, ite_self, crossChan_kept, crossDi_kept, crossDescs_kept]; first | split | (with_reducible refine serve_kept _ _ _ _ ?_; intro _) | (with_reducible refine (kept_foldl _ _ _ ?_).trans ?_ <;> try intro _ _))
    | (rename_i h; first | rw [kept_of_snd h] | rw [kept_of_fst h])
    | (rename_i h _; first | rw [kept_of_snd h] | rw [kept_of_fst h])
    | (rename_i h _ _; first | rw [kept_of_snd h] | rw [kept_of_fst h])
    | (dsimp only; rename_i h; first | rw [kept_of_snd h] | rw [kept_of_fst h])
    | (dsimp only; rename_i h _; first | rw [kept_of_snd h] | rw [kept_of_fst h])
    | (dsimp only; rename_i h _ _; first | rw [kept_of_snd h] | rw [kept_of_fst h]))

theorem rioAgreed_kept (x0 : List Nat) (x1 : State) :
    kept (rioAgreed x0 x1) = kept x1 := by
  unfold rioAgreed
  split <;> simp only [kept_mk, kept_fold, kept_ite, ite_self, updSt_kept, stGood_kept, stMiss_kept]

theorem useAgreed_kept (x0 : Agree) (x1 : State) :
    kept (useAgreed x0 x1) = kept x1 := by
  unfold useAgreed
  split <;> simp only [rioAgreed_kept, processAgreed_kept, goAgreed_kept, msgAgreed_kept]

theorem useAgreedAt_kept (x0 : Nat) (x1 : State) :
    kept (useAgreedAt x0 x1) = kept x1 := by
  unfold useAgreedAt
  repeat' (first
    | (simp only [*, kept_mk, kept_fold, kept_ite, kept_ec_ite, ite_self, useAgreed_kept, agreedTokens_kept]; done)
    | (simp only [kept_mk, kept_fold, kept_ite, kept_ec_ite, ite_self, useAgreed_kept, agreedTokens_kept, kept_foldl]; done)
    | split
    | (with_reducible refine serve_kept _ _ _ _ ?_; intro _)
    | (with_reducible refine serveWrite_kept _ _ _ ?_; intro _)
    | (dsimp only; split)
    | (with_reducible refine (kept_foldl _ _ _ ?_).trans ?_ <;> try intro _ _)
    | (simp only [kept_mk, kept_fold, kept_ite, kept_ec_ite, ite_self, useAgreed_kept, agreedTokens_kept]; first | split | (with_reducible refine serve_kept _ _ _ _ ?_; intro _) | (with_reducible refine (kept_foldl _ _ _ ?_).trans ?_ <;> try intro _ _))
    | (rename_i h; first | rw [kept_of_snd h] | rw [kept_of_fst h])
    | (rename_i h _; first | rw [kept_of_snd h] | rw [kept_of_fst h])
    | (rename_i h _ _; first | rw [kept_of_snd h] | rw [kept_of_fst h])
    | (dsimp only; rename_i h; first | rw [kept_of_snd h] | rw [kept_of_fst h])
    | (dsimp only; rename_i h _; first | rw [kept_of_snd h] | rw [kept_of_fst h])
    | (dsimp only; rename_i h _ _; first | rw [kept_of_snd h] | rw [kept_of_fst h]))

theorem takeDi_kept (x0 : Nat) (x1 : State) :
    kept (takeDi x0 x1) = kept x1 := by
  simp only [takeDi, kept_mk, kept_fold]

theorem releaseTokens_kept (x0 : Nat) (x1 : Nat × Nat) (x2 : List (Int × Nat)) (x3 : Bool) (x4 : Nat) (x5 : Nat → Bool) (x6 : State) :
    kept (releaseTokens x0 x1 x2 x3 x4 x5 x6) = kept x6 := by
  unfold releaseTokens
  repeat' (first
    | (simp only [*, kept_mk, kept_fold, kept_ite, kept_ec_ite, ite_self, takeEstimates_kept, takeDi_kept, judgeReports_kept, goosePump_kept, graphWave_kept, rotWave_kept, recWave_kept, judgeOver_kept, svWave_kept, putTokens_kept, windowsWave_kept]; done)
    | (simp only [kept_mk, kept_fold, kept_ite, kept_ec_ite, ite_self, takeEstimates_kept, takeDi_kept, judgeReports_kept, goosePump_kept, graphWave_kept, rotWave_kept, recWave_kept, judgeOver_kept, svWave_kept, putTokens_kept, windowsWave_kept, kept_foldl]; done)
    | split
    | (with_reducible refine serve_kept _ _ _ _ ?_; intro _)
    | (with_reducible refine serveWrite_kept _ _ _ ?_; intro _)
    | (dsimp only; split)
    | (with_reducible refine (kept_foldl _ _ _ ?_).trans ?_ <;> try intro _ _)
    | (simp only [kept_mk, kept_fold, kept_ite, kept_ec_ite, ite_self, takeEstimates_kept, takeDi_kept, judgeReports_kept, goosePump_kept, graphWave_kept, rotWave_kept, recWave_kept, judgeOver_kept, svWave_kept, putTokens_kept, windowsWave_kept]; first | split | (with_reducible refine serve_kept _ _ _ _ ?_; intro _) | (with_reducible refine (kept_foldl _ _ _ ?_).trans ?_ <;> try intro _ _))
    | (rename_i h; first | rw [kept_of_snd h] | rw [kept_of_fst h])
    | (rename_i h _; first | rw [kept_of_snd h] | rw [kept_of_fst h])
    | (rename_i h _ _; first | rw [kept_of_snd h] | rw [kept_of_fst h])
    | (dsimp only; rename_i h; first | rw [kept_of_snd h] | rw [kept_of_fst h])
    | (dsimp only; rename_i h _; first | rw [kept_of_snd h] | rw [kept_of_fst h])
    | (dsimp only; rename_i h _ _; first | rw [kept_of_snd h] | rw [kept_of_fst h]))

theorem ownWave_kept (x0 : Nat) (x1 : Slices) (x2 : Bool) (x3 : State) :
    kept (ownWave x0 x1 x2 x3) = kept x3 := by
  unfold ownWave
  repeat' (first
    | (simp only [*, kept_mk, kept_fold, kept_ite, kept_ec_ite, ite_self, releaseTokens_kept, sendAgree_kept, ownTokens_kept]; done)
    | (simp only [kept_mk, kept_fold, kept_ite, kept_ec_ite, ite_self, releaseTokens_kept, sendAgree_kept, ownTokens_kept, kept_foldl]; done)
    | split
    | (with_reducible refine serve_kept _ _ _ _ ?_; intro _)
    | (with_reducible refine serveWrite_kept _ _ _ ?_; intro _)
    | (dsimp only; split)
    | (with_reducible refine (kept_foldl _ _ _ ?_).trans ?_ <;> try intro _ _)
    | (simp only [kept_mk, kept_fold, kept_ite, kept_ec_ite, ite_self, releaseTokens_kept, sendAgree_kept, ownTokens_kept]; first | split | (with_reducible refine serve_kept _ _ _ _ ?_; intro _) | (with_reducible refine (kept_foldl _ _ _ ?_).trans ?_ <;> try intro _ _))
    | (rename_i h; first | rw [kept_of_snd h] | rw [kept_of_fst h])
    | (rename_i h _; first | rw [kept_of_snd h] | rw [kept_of_fst h])
    | (rename_i h _ _; first | rw [kept_of_snd h] | rw [kept_of_fst h])
    | (dsimp only; rename_i h; first | rw [kept_of_snd h] | rw [kept_of_fst h])
    | (dsimp only; rename_i h _; first | rw [kept_of_snd h] | rw [kept_of_fst h])
    | (dsimp only; rename_i h _ _; first | rw [kept_of_snd h] | rw [kept_of_fst h]))

theorem agreedWave_kept (x0 : Nat) (x1 : Slices) (x2 : Bool) (x3 : List Nat) (x4 : State) :
    kept (agreedWave x0 x1 x2 x3 x4) = kept x4 := by
  unfold agreedWave
  repeat' (first
    | (simp only [*, kept_mk, kept_fold, kept_ite, kept_ec_ite, ite_self, releaseTokens_kept, useAgreedAt_kept, crossWave_kept]; done)
    | (simp only [kept_mk, kept_fold, kept_ite, kept_ec_ite, ite_self, releaseTokens_kept, useAgreedAt_kept, crossWave_kept, kept_foldl]; done)
    | split
    | (with_reducible refine serve_kept _ _ _ _ ?_; intro _)
    | (with_reducible refine serveWrite_kept _ _ _ ?_; intro _)
    | (dsimp only; split)
    | (with_reducible refine (kept_foldl _ _ _ ?_).trans ?_ <;> try intro _ _)
    | (simp only [kept_mk, kept_fold, kept_ite, kept_ec_ite, ite_self, releaseTokens_kept, useAgreedAt_kept, crossWave_kept]; first | split | (with_reducible refine serve_kept _ _ _ _ ?_; intro _) | (with_reducible refine (kept_foldl _ _ _ ?_).trans ?_ <;> try intro _ _))
    | (rename_i h; first | rw [kept_of_snd h] | rw [kept_of_fst h])
    | (rename_i h _; first | rw [kept_of_snd h] | rw [kept_of_fst h])
    | (rename_i h _ _; first | rw [kept_of_snd h] | rw [kept_of_fst h])
    | (dsimp only; rename_i h; first | rw [kept_of_snd h] | rw [kept_of_fst h])
    | (dsimp only; rename_i h _; first | rw [kept_of_snd h] | rw [kept_of_fst h])
    | (dsimp only; rename_i h _ _; first | rw [kept_of_snd h] | rw [kept_of_fst h]))

theorem sampleMonitors_kept (x0 : List (Nat × Int × Bool)) (x1 : State) :
    kept (sampleMonitors x0 x1) = kept x1 := by
  exact (kept_foldl _ _ _ (fun s m => monPoint_kept m s)).trans (kept_foldl _ _ _ (fun s e => monValue_kept _ _ _ _))

theorem mgmtRestart_kept (x0 : Nat) (x1 : State) :
    kept (mgmtRestart x0 x1) = kept x1 := by
  unfold mgmtRestart
  repeat' (first
    | (simp only [*, kept_mk, kept_fold, kept_ite, kept_ec_ite, ite_self, closeSession_kept, failJoin_kept, drillAbort_kept]; done)
    | (simp only [kept_mk, kept_fold, kept_ite, kept_ec_ite, ite_self, closeSession_kept, failJoin_kept, drillAbort_kept, kept_foldl]; done)
    | split
    | (with_reducible refine serve_kept _ _ _ _ ?_; intro _)
    | (with_reducible refine serveWrite_kept _ _ _ ?_; intro _)
    | (dsimp only; split)
    | (with_reducible refine (kept_foldl _ _ _ ?_).trans ?_ <;> try intro _ _)
    | (simp only [kept_mk, kept_fold, kept_ite, kept_ec_ite, ite_self, closeSession_kept, failJoin_kept, drillAbort_kept]; first | split | (with_reducible refine serve_kept _ _ _ _ ?_; intro _) | (with_reducible refine (kept_foldl _ _ _ ?_).trans ?_ <;> try intro _ _))
    | (rename_i h; first | rw [kept_of_snd h] | rw [kept_of_fst h])
    | (rename_i h _; first | rw [kept_of_snd h] | rw [kept_of_fst h])
    | (rename_i h _ _; first | rw [kept_of_snd h] | rw [kept_of_fst h])
    | (dsimp only; rename_i h; first | rw [kept_of_snd h] | rw [kept_of_fst h])
    | (dsimp only; rename_i h _; first | rw [kept_of_snd h] | rw [kept_of_fst h])
    | (dsimp only; rename_i h _ _; first | rw [kept_of_snd h] | rw [kept_of_fst h]))

end Sys2Proof.Machine
end

