-- ==== Sys2Proof/Laws/KeptRows.lean ====
section
/-! SUPPORT. The rows of the table that keep what Laws/Kept.lean names: one lemma for each row whose effect leaves the queue, the
ordering code, the security unit and the sequence numbers as they are. -/

set_option maxRecDepth 4000
set_option linter.unusedSimpArgs false
namespace Sys2Proof.Machine
open Sys2Proof

/-- A result's next state. -/
theorem resState_next (s t : State) : resState s (.next t) = t := rfl

theorem resState_ite (c : Prop) [Decidable c] (s : State) (a b : Res) :
    resState s (if c then a else b) = if c then resState s a else resState s b := by split <;> rfl

theorem execDrArm_kept (x0 : Req) (x1 : Nat) (x2 : State) :
    kept (resState x2 (execDrArm x0 x1 x2)) = kept x2 := by
  simp only [execDrArm, kept_mk, kept_fold, kept_ite, kept_ec_ite, ite_self, resState_next, resState_ite, drArm_kept]

theorem execDrTrigger_kept (x0 : Req) (x1 : Nat) (x2 : State) :
    kept (resState x2 (execDrTrigger x0 x1 x2)) = kept x2 := by
  simp only [execDrTrigger, kept_mk, kept_fold, kept_ite, kept_ec_ite, ite_self, resState_next, resState_ite, drTrigger_kept]

theorem execDrUnitFiredClear_kept (x0 : Req) (x1 : Word) (x2 : State) :
    kept (resState x2 (execDrUnitFiredClear x0 x1 x2)) = kept x2 := by
  unfold execDrUnitFiredClear
  simp only [resState_next]
  refine serveWrite_kept _ _ _ ?_
  intro s
  simp only [kept_mk, kept_fold, kept_ite, kept_ec_ite, ite_self, resState_next, resState_ite, serveWrite_kept, clearFired_kept]

theorem execRecordOpen_kept (x0 : State) :
    kept (resState x0 (execRecordOpen x0)) = kept x0 := by
  simp only [execRecordOpen, kept_mk, kept_fold, kept_ite, kept_ec_ite, ite_self, resState_next, resState_ite, recordOpen_kept]

theorem execRecordEnd_kept (x0 : State) :
    kept (resState x0 (execRecordEnd x0)) = kept x0 := by
  simp only [execRecordEnd, kept_mk, kept_fold, kept_ite, kept_ec_ite, ite_self, resState_next, resState_ite, recordEnd_kept]

theorem execHoldOffExpiry_kept (x0 : State) :
    kept (resState x0 (execHoldOffExpiry x0)) = kept x0 := by
  simp only [execHoldOffExpiry, kept_mk, kept_fold, kept_ite, kept_ec_ite, ite_self, resState_next, resState_ite, holdOffExpiry_kept]

theorem execRateStepUp_kept (x0 x1 : Nat) (x2 : State) :
    kept (resState x2 (execRateStepUp x0 x1 x2)) = kept x2 := by
  simp only [execRateStepUp, kept_mk, kept_fold, kept_ite, kept_ec_ite, ite_self, resState_next, resState_ite, rateStepUp_kept]

theorem execRateStepDown_kept (x0 x1 : Nat) (x2 : State) :
    kept (resState x2 (execRateStepDown x0 x1 x2)) = kept x2 := by
  simp only [execRateStepDown, kept_mk, kept_fold, kept_ite, kept_ec_ite, ite_self, resState_next, resState_ite, rateStepDown_kept]

theorem execRingFull_kept (x0 : Bool) (x1 : State) :
    kept (resState x1 (execRingFull x0 x1)) = kept x1 := by
  simp only [execRingFull, kept_mk, kept_fold, kept_ite, kept_ec_ite, ite_self, resState_next, resState_ite, ringFull_kept]

theorem execReelDrainDone_kept (x0 x1 x2 : Nat) (x3 : State) :
    kept (resState x3 (execReelDrainDone x0 x1 x2 x3)) = kept x3 := by
  simp only [execReelDrainDone, kept_mk, kept_fold, kept_ite, kept_ec_ite, ite_self, resState_next, resState_ite, reelDrainDone_kept]

theorem execDrList_kept (x0 : Req) (x1 x2 : Nat) (x3 : State) :
    kept (resState x3 (execDrList x0 x1 x2 x3)) = kept x3 := by
  simp only [execDrList, kept_mk, kept_fold, kept_ite, kept_ec_ite, ite_self, resState_next, resState_ite, drList_kept]

theorem execDrRead_kept (x0 : Req) (x1 x2 x3 : Nat) (x4 : State) :
    kept (resState x4 (execDrRead x0 x1 x2 x3 x4)) = kept x4 := by
  simp only [execDrRead, kept_mk, kept_fold, kept_ite, kept_ec_ite, ite_self, resState_next, resState_ite, drRead_kept]

theorem execDrExport_kept (x0 : Req) (x1 x2 x3 x4 x5 x6 : Nat) (x7 : State) :
    kept (resState x7 (execDrExport x0 x1 x2 x3 x4 x5 x6 x7)) = kept x7 := by
  simp only [execDrExport, kept_mk, kept_fold, kept_ite, kept_ec_ite, ite_self, resState_next, resState_ite, drExport_kept]

theorem execPtpMessageRx_kept (x0 : Nat) (x1 : PtpMsg) (x2 : Nat) (x3 : List Byte) (x4 : Nat) (x5 : Bool) (x6 : Int) (x7 : Nat) (x8 : Option (Int × Nat)) (x9 : State) :
    kept (resState x9 (execPtpMessageRx x0 x1 x2 x3 x4 x5 x6 x7 x8 x9)) = kept x9 := by
  unfold execPtpMessageRx
  repeat' split
  all_goals simp only [*, kept_mk, kept_fold, kept_ite, kept_ec_ite, ite_self, resState_next, resState_ite, ptpPass_kept, srcGood_kept, capture_kept, takeUtc_kept, srcLost_kept, setRole_kept, updSrc_kept]

theorem execPtpMessageTx_kept (x0 : Nat) (x1 : PtpMsg) (x2 : Nat) (x3 : State) :
    kept (resState x3 (execPtpMessageTx x0 x1 x2 x3)) = kept x3 := by
  simp only [execPtpMessageTx, kept_mk, kept_fold, kept_ite, kept_ec_ite, ite_self, resState_next, resState_ite, capture_kept, sendFrame_kept]

theorem execPpsInEdge_kept (x0 : Nat) (x1 : Int) (x2 : State) :
    kept (resState x2 (execPpsInEdge x0 x1 x2)) = kept x2 := by
  simp only [execPpsInEdge, kept_mk, kept_fold, kept_ite, kept_ec_ite, ite_self, resState_next, resState_ite, srcGood_kept, capture_kept, srcLost_kept, updSrc_kept]

theorem execIrigInFrame_kept (x0 : IrigFrame) (x1 x2 x3 : Nat) (x4 : State) :
    kept (resState x4 (execIrigInFrame x0 x1 x2 x3 x4)) = kept x4 := by
  simp only [execIrigInFrame, kept_mk, kept_fold, kept_ite, kept_ec_ite, ite_self, resState_next, resState_ite, srcGood_kept, capture_kept, takeUtc_kept, srcLost_kept, updSrc_kept]

theorem execPtpSyncMissing_kept (x0 : Nat) (x1 : State) :
    kept (resState x1 (execPtpSyncMissing x0 x1)) = kept x1 := by
  simp only [execPtpSyncMissing, kept_mk, kept_fold, kept_ite, kept_ec_ite, ite_self, resState_next, resState_ite, srcLost_kept]

theorem execAnnounceReceiptTimeout_kept (x0 : Nat) (x1 : State) :
    kept (resState x1 (execAnnounceReceiptTimeout x0 x1)) = kept x1 := by
  simp only [execAnnounceReceiptTimeout, kept_mk, kept_fold, kept_ite, kept_ec_ite, ite_self, resState_next, resState_ite, srcLost_kept]

theorem execPpsEdgeMissing_kept (x0 : State) :
    kept (resState x0 (execPpsEdgeMissing x0)) = kept x0 := by
  simp only [execPpsEdgeMissing, kept_mk, kept_fold, kept_ite, kept_ec_ite, ite_self, resState_next, resState_ite, srcLost_kept]

theorem execIrigFrameMissing_kept (x0 : State) :
    kept (resState x0 (execIrigFrameMissing x0)) = kept x0 := by
  simp only [execIrigFrameMissing, kept_mk, kept_fold, kept_ite, kept_ec_ite, ite_self, resState_next, resState_ite, srcLost_kept]

theorem execServoPeriod_kept (x0 : Nat) (x1 : Int) (x2 : State) :
    kept (resState x2 (execServoPeriod x0 x1 x2)) = kept x2 := by
  simp only [execServoPeriod, kept_mk, kept_fold, kept_ite, kept_ec_ite, ite_self, resState_next, resState_ite, servoUpdate_kept, setInc_kept, kick_kept]

theorem execInc0Learn_kept (x0 : State) :
    kept (resState x0 (execInc0Learn x0)) = kept x0 := by
  unfold execInc0Learn
  generalize (incOk 200 (x0.tu.incMean.1 / x0.tu.incMean.2)) = ok
  generalize x0.tu.incMean.1 / x0.tu.incMean.2 = m
  generalize due x0 x0.tu.learnAt (secT 1000) = b
  dsimp only
  split
  · rw [resState_next, kept_mk, kept_fold]
    split
    · exact setInc_kept _ _ _
    · rfl
  · rfl

theorem execServoKickExpiry_kept (x0 : State) :
    kept (resState x0 (execServoKickExpiry x0)) = kept x0 := by
  simp only [execServoKickExpiry, kept_mk, kept_fold, kept_ite, kept_ec_ite, ite_self, resState_next, resState_ite, setQual_kept, fireDet_kept]

theorem execSlewEnd_kept (x0 : Nat) (x1 : State) :
    kept (resState x1 (execSlewEnd x0 x1)) = kept x1 := by
  simp only [execSlewEnd, kept_mk, kept_fold, kept_ite, kept_ec_ite, ite_self, resState_next, resState_ite, advance_kept]

theorem execTimeClass_kept (x0 : Nat) (x1 : State) :
    kept (resState x1 (execTimeClass x0 x1)) = kept x1 := by
  simp only [execTimeClass, kept_mk, kept_fold, kept_ite, kept_ec_ite, ite_self, resState_next, resState_ite, setQual_kept]

theorem execGlideToFree_kept (x0 : Nat) (x1 : State) :
    kept (resState x1 (execGlideToFree x0 x1)) = kept x1 := by
  simp only [execGlideToFree, kept_mk, kept_fold, kept_ite, kept_ec_ite, ite_self, resState_next, resState_ite, setQual_kept]

theorem execUtcOffsetChange_kept (x0 : State) :
    kept (resState x0 (execUtcOffsetChange x0)) = kept x0 := by
  simp only [execUtcOffsetChange, kept_mk, kept_fold, kept_ite, kept_ec_ite, ite_self, resState_next, resState_ite, submit_kept]

theorem execRefInLost_kept (x0 : State) :
    kept (resState x0 (execRefInLost x0)) = kept x0 := by
  simp only [execRefInLost, kept_mk, kept_fold, kept_ite, kept_ec_ite, ite_self, resState_next, resState_ite, submit_kept]

theorem execRefInRestored_kept (x0 : State) :
    kept (resState x0 (execRefInRestored x0)) = kept x0 := by
  simp only [execRefInRestored, kept_mk, kept_fold, kept_ite, kept_ec_ite, ite_self, resState_next, resState_ite, submit_kept]

theorem execPpsOutRise_kept (x0 : State) :
    kept (resState x0 (execPpsOutRise x0)) = kept x0 := by
  simp only [execPpsOutRise, kept_mk, kept_fold, kept_ite, kept_ec_ite, ite_self, resState_next, resState_ite]

theorem execPpsOutFall_kept (x0 : State) :
    kept (resState x0 (execPpsOutFall x0)) = kept x0 := by
  simp only [execPpsOutFall, kept_mk, kept_fold, kept_ite, kept_ec_ite, ite_self, resState_next, resState_ite]

theorem execGridAligned_kept (x0 : State) :
    kept (resState x0 (execGridAligned x0)) = kept x0 := by
  unfold execGridAligned
  split <;> simp only [kept_mk, kept_fold, kept_ite, kept_ec_ite, ite_self, resState_next, resState_ite, gridDone_kept]

theorem execGridRephase_kept (x0 : State) :
    kept (resState x0 (execGridRephase x0)) = kept x0 := by
  simp only [execGridRephase, kept_mk, kept_fold, kept_ite, kept_ec_ite, ite_self, resState_next, resState_ite, voidStep_kept, recMark_kept, recFlags_kept, gridDone_kept]

theorem execSampleLoopUnlock_kept (x0 : State) :
    kept (resState x0 (execSampleLoopUnlock x0)) = kept x0 := by
  simp only [execSampleLoopUnlock, kept_mk, kept_fold, kept_ite, kept_ec_ite, ite_self, resState_next, resState_ite, noteSync_kept, fireDet_kept]

theorem execTd2Servo_kept (x0 x1 x2 : Nat) (x3 : State) :
    kept (resState x3 (execTd2Servo x0 x1 x2 x3)) = kept x3 := by
  simp only [execTd2Servo, kept_mk, kept_fold, kept_ite, kept_ec_ite, ite_self, resState_next, resState_ite, setInc_kept, startSlew_kept]

theorem execTbSetInc_kept (x0 : Req) (x1 x2 : Nat) (x3 : State) :
    kept (resState x3 (execTbSetInc x0 x1 x2 x3)) = kept x3 := by
  unfold execTbSetInc
  simp only [resState_next]
  refine serve_kept _ _ _ _ ?_
  intro s
  repeat' (first | (simp only [*, kept_mk, kept_fold, kept_ite, kept_ec_ite, ite_self, resState_next, resState_ite, serve_kept, setInc_kept, answer_kept]; done) | split)

theorem execTbSlew_kept (x0 : Req) (x1 x2 x3 : Nat) (x4 : State) :
    kept (resState x4 (execTbSlew x0 x1 x2 x3 x4)) = kept x4 := by
  unfold execTbSlew
  simp only [resState_next]
  refine serve_kept _ _ _ _ ?_
  intro s
  repeat' (first | (simp only [*, kept_mk, kept_fold, kept_ite, kept_ec_ite, ite_self, resState_next, resState_ite, serve_kept, startSlew_kept, answer_kept]; done) | split)

theorem execTbStep_kept (x0 : Req) (x1 x2 : Nat) (x3 : Int) (x4 : State) :
    kept (resState x4 (execTbStep x0 x1 x2 x3 x4)) = kept x4 := by
  unfold execTbStep
  simp only [resState_next]
  refine serve_kept _ _ _ _ ?_
  intro s
  repeat' (first | (simp only [*, kept_mk, kept_fold, kept_ite, kept_ec_ite, ite_self, resState_next, resState_ite, applyStep_kept, serve_kept, answer_kept]; done) | split)

theorem execTbRead_kept (x0 : Req) (x1 : Nat) (x2 : State) :
    kept (resState x2 (execTbRead x0 x1 x2)) = kept x2 := by
  unfold execTbRead
  simp only [resState_next]
  refine serve_kept _ _ _ _ ?_
  intro s
  simp only [kept_mk, kept_fold, kept_ite, kept_ec_ite, ite_self, resState_next, resState_ite, serve_kept, latchAll_kept, respond_kept, answer_kept]

theorem execTbServoKick_kept (x0 : Req) (x1 : State) :
    kept (resState x1 (execTbServoKick x0 x1)) = kept x1 := by
  unfold execTbServoKick
  simp only [resState_next]
  refine serveWrite_kept _ _ _ ?_
  intro s
  simp only [kept_mk, kept_fold, kept_ite, kept_ec_ite, ite_self, resState_next, resState_ite, tbWrite_kept, serveWrite_kept]

theorem execTbCapture_kept (x0 : Req) (x1 : State) :
    kept (resState x1 (execTbCapture x0 x1)) = kept x1 := by
  unfold execTbCapture
  simp only [resState_next]
  refine serveWrite_kept _ _ _ ?_
  intro s
  simp only [kept_mk, kept_fold, kept_ite, kept_ec_ite, ite_self, resState_next, resState_ite, tbWrite_kept, serveWrite_kept]

theorem execTbStepGo_kept (x0 : Req) (x1 : State) :
    kept (resState x1 (execTbStepGo x0 x1)) = kept x1 := by
  unfold execTbStepGo
  simp only [resState_next]
  refine serveWrite_kept _ _ _ ?_
  intro s
  simp only [kept_mk, kept_fold, kept_ite, kept_ec_ite, ite_self, resState_next, resState_ite, tbWrite_kept, serveWrite_kept]

theorem execTbSlewCountWrite_kept (x0 : Req) (x1 x2 : Nat) (x3 : State) :
    kept (resState x3 (execTbSlewCountWrite x0 x1 x2 x3)) = kept x3 := by
  unfold execTbSlewCountWrite
  split
  · exact serveWrite_kept x0 x3 (fun s => (s, .absent)) (fun _ => rfl)
  · exact serveWrite_kept x0 x3 (tbWrite _ _) (fun _ => tbWrite_kept _ _ _)

theorem execTbIncHiWrite_kept (x0 : Req) (x1 : Nat) (x2 : Bool) (x3 : Nat) (x4 : State) :
    kept (resState x4 (execTbIncHiWrite x0 x1 x2 x3 x4)) = kept x4 := by
  unfold execTbIncHiWrite
  split
  · exact serveWrite_kept x0 x4 (fun s => (s, .absent)) (fun _ => rfl)
  · exact serveWrite_kept x0 x4 (tbWrite _ _) (fun _ => tbWrite_kept _ _ _)

theorem execKickExpiredClear_kept (x0 : Req) (x1 : State) :
    kept (resState x1 (execKickExpiredClear x0 x1)) = kept x1 := by
  unfold execKickExpiredClear
  simp only [resState_next]
  refine serveWrite_kept _ _ _ ?_
  intro s
  simp only [kept_mk, kept_fold, kept_ite, kept_ec_ite, ite_self, resState_next, resState_ite, tbWrite_kept, serveWrite_kept]

theorem execLaunchArm_kept (x0 : Req) (x1 : Nat) (x2 : LaunchVal) (x3 : State) :
    kept (resState x3 (execLaunchArm x0 x1 x2 x3)) = kept x3 := by
  unfold execLaunchArm
  simp only [resState_next]
  refine serve_kept _ _ _ _ ?_
  intro s
  simp only [kept_mk, kept_fold, kept_ite, kept_ec_ite, ite_self, resState_next, resState_ite, serve_kept, armLaunch_kept, schedTwin_kept, answer_kept]

theorem execLaunchCancel_kept (x0 : Req) (x1 : Nat) (x2 : State) :
    kept (resState x2 (execLaunchCancel x0 x1 x2)) = kept x2 := by
  unfold execLaunchCancel
  simp only [resState_next]
  refine serve_kept _ _ _ _ ?_
  intro s
  simp only [kept_mk, kept_fold, kept_ite, kept_ec_ite, ite_self, resState_next, resState_ite, serve_kept, schedTwin_kept, answer_kept, cancelLaunch_kept]

theorem execFieldFrameStart_kept (x0 : State) :
    kept (resState x0 (execFieldFrameStart x0)) = kept x0 := by
  simp only [execFieldFrameStart, kept_mk, kept_fold, kept_ite, kept_ec_ite, ite_self, resState_next, resState_ite, fieldFrameStart_kept]

theorem execFieldDownstreamMissing_kept (x0 : State) :
    kept (resState x0 (execFieldDownstreamMissing x0)) = kept x0 := by
  simp only [execFieldDownstreamMissing, kept_mk, kept_fold, kept_ite, kept_ec_ite, ite_self, resState_next, resState_ite, fieldDownMissing_kept]

theorem execFieldDownstreamRx_kept (x0 : State) :
    kept (resState x0 (execFieldDownstreamRx x0)) = kept x0 := by
  simp only [execFieldDownstreamRx, kept_mk, kept_fold, kept_ite, kept_ec_ite, ite_self, resState_next, resState_ite, fieldDownRx_kept, fieldDownMissing_kept]

theorem execDoLaunchSwitch_kept (x0 : Nat) (x1 : State) :
    kept (resState x1 (execDoLaunchSwitch x0 x1)) = kept x1 := by
  unfold execDoLaunchSwitch
  split <;> simp only [kept_mk, kept_fold, kept_ite, kept_ec_ite, ite_self, resState_next, resState_ite, driveAll_kept, updDo_kept]

theorem execFieldUpstreamRx_kept (x0 x1 x2 x3 x4 x5 x6 : Nat) (x7 : Int) (x8 : State) :
    kept (resState x8 (execFieldUpstreamRx x0 x1 x2 x3 x4 x5 x6 x7 x8)) = kept x8 := by
  simp only [execFieldUpstreamRx, kept_mk, kept_fold, kept_ite, kept_ec_ite, ite_self, resState_next, resState_ite, fieldUpRx_kept]

theorem execFieldUpstreamMissing_kept (x0 : State) :
    kept (resState x0 (execFieldUpstreamMissing x0)) = kept x0 := by
  simp only [execFieldUpstreamMissing, kept_mk, kept_fold, kept_ite, kept_ec_ite, ite_self, resState_next, resState_ite, fieldLost_kept]

theorem execFieldSelftestTimeout_kept (x0 : State) :
    kept (resState x0 (execFieldSelftestTimeout x0)) = kept x0 := by
  simp only [execFieldSelftestTimeout, kept_mk, kept_fold, kept_ite, kept_ec_ite, ite_self, resState_next, resState_ite, fieldLost_kept, submit_kept]

theorem execDiChatterCleared_kept (x0 : Nat) (x1 : State) :
    kept (resState x1 (execDiChatterCleared x0 x1)) = kept x1 := by
  simp only [execDiChatterCleared, kept_mk, kept_fold, kept_ite, kept_ec_ite, ite_self, resState_next, resState_ite, raiseTrig_kept, diRefresh_kept, updDi_kept, clearDet_kept, emit_kept, submit_kept]

theorem execDiMaxOn_kept (x0 : Nat) (x1 : State) :
    kept (resState x1 (execDiMaxOn x0 x1)) = kept x1 := by
  simp only [execDiMaxOn, kept_mk, kept_fold, kept_ite, kept_ec_ite, ite_self, resState_next, resState_ite, updDi_kept, submit_kept]

theorem execFioDoOverload_kept (x0 : Nat) (x1 : State) :
    kept (resState x1 (execFioDoOverload x0 x1)) = kept x1 := by
  simp only [execFioDoOverload, kept_mk, kept_fold, kept_ite, kept_ec_ite, ite_self, resState_next, resState_ite, updDo_kept, fireDet_kept]

theorem execFioDoOvertemp_kept (x0 : Nat) (x1 : State) :
    kept (resState x1 (execFioDoOvertemp x0 x1)) = kept x1 := by
  simp only [execFioDoOvertemp, kept_mk, kept_fold, kept_ite, kept_ec_ite, ite_self, resState_next, resState_ite, driveAll_kept, updDo_kept, fireDet_kept]

theorem execDoThermalRetry_kept (x0 : Nat) (x1 : State) :
    kept (resState x1 (execDoThermalRetry x0 x1)) = kept x1 := by
  simp only [execDoThermalRetry, kept_mk, kept_fold, kept_ite, kept_ec_ite, ite_self, resState_next, resState_ite, driveAll_kept, updDo_kept]

theorem execFioDoOpenWire_kept (x0 : Nat) (x1 : State) :
    kept (resState x1 (execFioDoOpenWire x0 x1)) = kept x1 := by
  simp only [execFioDoOpenWire, kept_mk, kept_fold, kept_ite, kept_ec_ite, ite_self, resState_next, resState_ite, updDo_kept, fireDet_kept]

theorem execFioDoExtVoltage_kept (x0 : Nat) (x1 : State) :
    kept (resState x1 (execFioDoExtVoltage x0 x1)) = kept x1 := by
  simp only [execFioDoExtVoltage, kept_mk, kept_fold, kept_ite, kept_ec_ite, ite_self, resState_next, resState_ite, updDo_kept, fireDet_kept]

theorem execFioDiOpenWire_kept (x0 : Nat) (x1 : State) :
    kept (resState x1 (execFioDiOpenWire x0 x1)) = kept x1 := by
  simp only [execFioDiOpenWire, kept_mk, kept_fold, kept_ite, kept_ec_ite, ite_self, resState_next, resState_ite, diRefresh_kept, updDi_kept, fireDet_kept]

theorem execFioDiOverload_kept (x0 : Nat) (x1 : State) :
    kept (resState x1 (execFioDiOverload x0 x1)) = kept x1 := by
  simp only [execFioDiOverload, kept_mk, kept_fold, kept_ite, kept_ec_ite, ite_self, resState_next, resState_ite, diRefresh_kept, updDi_kept, fireDet_kept]

theorem execFioDiOvertemp_kept (x0 : Nat) (x1 : State) :
    kept (resState x1 (execFioDiOvertemp x0 x1)) = kept x1 := by
  simp only [execFioDiOvertemp, kept_mk, kept_fold, kept_ite, kept_ec_ite, ite_self, resState_next, resState_ite, diRefresh_kept, updDi_kept, fireDet_kept]

theorem execFioDiagCleared_kept (x0 x1 : Nat) (x2 : State) :
    kept (resState x2 (execFioDiagCleared x0 x1 x2)) = kept x2 := by
  simp only [execFioDiagCleared, kept_mk, kept_fold, kept_ite, kept_ec_ite, ite_self, resState_next, resState_ite, diRefresh_kept, clearDet_kept, clearFieldFlag_kept, submit_kept]

theorem execFioSupplyLow_kept (x0 x1 : Nat) (x2 : State) :
    kept (resState x2 (execFioSupplyLow x0 x1 x2)) = kept x2 := by
  simp only [execFioSupplyLow, kept_mk, kept_fold, kept_ite, kept_ec_ite, ite_self, resState_next, resState_ite, driveAll_kept, fireDet_kept]

theorem execFioSupplyRestored_kept (x0 : Nat) (x1 : Bool) (x2 : State) :
    kept (resState x2 (execFioSupplyRestored x0 x1 x2)) = kept x2 := by
  unfold execFioSupplyRestored
  repeat' (first
    | (simp only [*, kept_mk, kept_fold, kept_ite, kept_ec_ite, ite_self, resState_next, resState_ite, clearDet_kept, driveAll_kept, updDo_kept, submit_kept]; done)
    | (simp only [kept_mk, kept_fold, kept_ite, kept_ec_ite, ite_self, resState_next, resState_ite, clearDet_kept, driveAll_kept, updDo_kept, submit_kept, kept_foldl]; done)
    | split
    | (with_reducible refine serve_kept _ _ _ _ ?_; intro _)
    | (with_reducible refine serveWrite_kept _ _ _ ?_; intro _)
    | (dsimp only; split)
    | (with_reducible refine (kept_foldl _ _ _ ?_).trans ?_ <;> try intro _ _)
    | (simp only [kept_mk, kept_fold, kept_ite, kept_ec_ite, ite_self, resState_next, resState_ite, clearDet_kept, driveAll_kept, updDo_kept, submit_kept]; first | split | (with_reducible refine serve_kept _ _ _ _ ?_; intro _) | (with_reducible refine (kept_foldl _ _ _ ?_).trans ?_ <;> try intro _ _))
    | (rename_i h; first | rw [kept_of_snd h] | rw [kept_of_fst h])
    | (rename_i h _; first | rw [kept_of_snd h] | rw [kept_of_fst h])
    | (rename_i h _ _; first | rw [kept_of_snd h] | rw [kept_of_fst h])
    | (dsimp only; rename_i h; first | rw [kept_of_snd h] | rw [kept_of_fst h])
    | (dsimp only; rename_i h _; first | rw [kept_of_snd h] | rw [kept_of_fst h])
    | (dsimp only; rename_i h _ _; first | rw [kept_of_snd h] | rw [kept_of_fst h]))

theorem execRioUpstreamRx_kept (x0 x1 x2 x3 : Nat) (x4 : List Byte) (x5 x6 : Nat) (x7 : List Byte) (x8 : Bool) (x9 : State) :
    kept (resState x9 (execRioUpstreamRx x0 x1 x2 x3 x4 x5 x6 x7 x8 x9)) = kept x9 := by
  simp only [execRioUpstreamRx, kept_mk, kept_fold, kept_ite, kept_ec_ite, ite_self, resState_next, resState_ite, stTrip_kept, updSt_kept, stTake_kept]

theorem execRioDownstreamSend_kept (x0 : State) :
    kept (resState x0 (execRioDownstreamSend x0)) = kept x0 := by
  have hf : ∀ (b : Bool) (l : List Nat) (p : State × Nat), kept (l.foldl (stSend b) p).1 = kept p.1 := by
    intro b l
    induction l with
    | nil => intro p; rfl
    | cons a l ih => intro p; rw [List.foldl_cons, ih, stSend_kept]
  unfold execRioDownstreamSend
  split
  · rfl
  · simp only [resState_next]
    rw [hf]
    split
    · rw [submit_kept, kept_mk, kept_fold]
    · rfl

theorem execDuciaRingCycle_kept (x0 : State) :
    kept (resState x0 (execDuciaRingCycle x0)) = kept x0 := by
  unfold execDuciaRingCycle
  repeat' (first
    | (simp only [*, kept_mk, kept_fold, kept_ite, kept_ec_ite, ite_self, resState_next, resState_ite, updSt_kept, sendFrame_kept, sendAgree_kept, stMiss_kept]; done)
    | (simp only [kept_mk, kept_fold, kept_ite, kept_ec_ite, ite_self, resState_next, resState_ite, updSt_kept, sendFrame_kept, sendAgree_kept, stMiss_kept, kept_foldl]; done)
    | split
    | (with_reducible refine serve_kept _ _ _ _ ?_; intro _)
    | (with_reducible refine serveWrite_kept _ _ _ ?_; intro _)
    | (dsimp only; split)
    | (with_reducible refine (kept_foldl _ _ _ ?_).trans ?_ <;> try intro _ _)
    | (simp only [kept_mk, kept_fold, kept_ite, kept_ec_ite, ite_self, resState_next, resState_ite, updSt_kept, sendFrame_kept, sendAgree_kept, stMiss_kept]; first | split | (with_reducible refine serve_kept _ _ _ _ ?_; intro _) | (with_reducible refine (kept_foldl _ _ _ ?_).trans ?_ <;> try intro _ _))
    | (rename_i h; first | rw [kept_of_snd h] | rw [kept_of_fst h])
    | (rename_i h _; first | rw [kept_of_snd h] | rw [kept_of_fst h])
    | (rename_i h _ _; first | rw [kept_of_snd h] | rw [kept_of_fst h])
    | (dsimp only; rename_i h; first | rw [kept_of_snd h] | rw [kept_of_fst h])
    | (dsimp only; rename_i h _; first | rw [kept_of_snd h] | rw [kept_of_fst h])
    | (dsimp only; rename_i h _ _; first | rw [kept_of_snd h] | rw [kept_of_fst h]))

theorem execDuciaRingFrameRx_kept (x0 : Nat) (x1 : List Byte) (x2 : Bool) (x3 : State) :
    kept (resState x3 (execDuciaRingFrameRx x0 x1 x2 x3)) = kept x3 := by
  simp only [execDuciaRingFrameRx, kept_mk, kept_fold, kept_ite, kept_ec_ite, ite_self, resState_next, resState_ite, updSt_kept, ringTake_kept]

theorem execEventTaskTrigger_kept (x0 : State) :
    kept (resState x0 (execEventTaskTrigger x0)) = kept x0 := by
  unfold execEventTaskTrigger
  repeat' (first
    | (simp only [*, kept_mk, kept_fold, kept_ite, kept_ec_ite, ite_self, resState_next, resState_ite, pumpTriggers_kept, queueTrig_kept, sendLogic_kept, dispatch_kept, agreeUsed_kept, submit_kept]; done)
    | (simp only [kept_mk, kept_fold, kept_ite, kept_ec_ite, ite_self, resState_next, resState_ite, pumpTriggers_kept, queueTrig_kept, sendLogic_kept, dispatch_kept, agreeUsed_kept, submit_kept, kept_foldl]; done)
    | split
    | (with_reducible refine serve_kept _ _ _ _ ?_; intro _)
    | (with_reducible refine serveWrite_kept _ _ _ ?_; intro _)
    | (dsimp only; split)
    | (with_reducible refine (kept_foldl _ _ _ ?_).trans ?_ <;> try intro _ _)
    | (simp only [kept_mk, kept_fold, kept_ite, kept_ec_ite, ite_self, resState_next, resState_ite, pumpTriggers_kept, queueTrig_kept, sendLogic_kept, dispatch_kept, agreeUsed_kept, submit_kept]; first | split | (with_reducible refine serve_kept _ _ _ _ ?_; intro _) | (with_reducible refine (kept_foldl _ _ _ ?_).trans ?_ <;> try intro _ _))
    | (rename_i h; first | rw [kept_of_snd h] | rw [kept_of_fst h])
    | (rename_i h _; first | rw [kept_of_snd h] | rw [kept_of_fst h])
    | (rename_i h _ _; first | rw [kept_of_snd h] | rw [kept_of_fst h])
    | (dsimp only; rename_i h; first | rw [kept_of_snd h] | rw [kept_of_fst h])
    | (dsimp only; rename_i h _; first | rw [kept_of_snd h] | rw [kept_of_fst h])
    | (dsimp only; rename_i h _ _; first | rw [kept_of_snd h] | rw [kept_of_fst h]))

theorem execLogicCycleReady_kept (x0 : State) :
    kept (resState x0 (execLogicCycleReady x0)) = kept x0 := by
  simp only [execLogicCycleReady, kept_mk, kept_fold, kept_ite, kept_ec_ite, ite_self, resState_next, resState_ite, pumpTriggers_kept, dispatch_kept]

theorem execLeMode_kept (x0 : Req) (x1 : Nat) (x2 : State) :
    kept (resState x2 (execLeMode x0 x1 x2)) = kept x2 := by
  unfold execLeMode
  simp only [resState_next]
  refine serveAs_kept _ _ _ _ _ _ ?_
  intro s
  simp only [kept_mk, kept_fold, kept_ite, kept_ec_ite, ite_self, resState_next, resState_ite, serveAs_kept, schedTwin_kept, applyMode_kept, answer_kept]

theorem execLeColdExecute_kept (x0 : State) :
    kept (resState x0 (execLeColdExecute x0)) = kept x0 := by
  unfold execLeColdExecute
  repeat' split
  all_goals simp only [*, kept_mk, kept_fold, kept_ite, kept_ec_ite, ite_self, resState_next, resState_ite, coldNow_kept, sendLogic_kept, agreeUsed_kept]

theorem execHoldTimeout_kept (x0 : State) :
    kept (resState x0 (execHoldTimeout x0)) = kept x0 := by
  simp only [execHoldTimeout, kept_mk, kept_fold, kept_ite, kept_ec_ite, ite_self, resState_next, resState_ite, enterStop_kept, submit_kept]

theorem execBreakpoint_kept (x0 : State) :
    kept (resState x0 (execBreakpoint x0)) = kept x0 := by
  unfold execBreakpoint
  repeat' split
  all_goals simp only [*, kept_mk, kept_fold, kept_ite, kept_ec_ite, ite_self, resState_next, resState_ite, enterHold_kept, submit_kept]

theorem execLeBreakSet_kept (x0 : Req) (x1 : List (Nat × Nat)) (x2 : State) :
    kept (resState x2 (execLeBreakSet x0 x1 x2)) = kept x2 := by
  unfold execLeBreakSet
  simp only [resState_next]
  refine serve_kept _ _ _ _ ?_
  intro s
  simp only [kept_mk, kept_fold, kept_ite, kept_ec_ite, ite_self, resState_next, resState_ite, serve_kept, answer_kept]

theorem execLeWatchdog_kept (x0 : State) :
    kept (resState x0 (execLeWatchdog x0)) = kept x0 := by
  unfold execLeWatchdog
  repeat' split
  all_goals simp only [*, kept_mk, kept_fold, kept_ite, kept_ec_ite, ite_self, resState_next, resState_ite, watchdogNow_kept]

theorem execCyclicTaskRelease_kept (x0 : Nat) (x1 : State) :
    kept (resState x1 (execCyclicTaskRelease x0 x1)) = kept x1 := by
  unfold execCyclicTaskRelease
  repeat' split
  all_goals simp only [*, kept_mk, kept_fold, kept_ite, kept_ec_ite, ite_self, resState_next, resState_ite, sendLogic_kept, agreeUsed_kept, releaseTask_kept, watchdogNow_kept]

theorem execRetainWrite_kept (x0 : State) :
    kept (resState x0 (execRetainWrite x0)) = kept x0 := by
  simp only [execRetainWrite, kept_mk, kept_fold, kept_ite, kept_ec_ite, ite_self, resState_next, resState_ite, writeRetain_kept]

theorem execLePeekSelWrite_kept (x0 : Req) (x1 : Word) (x2 : State) :
    kept (resState x2 (execLePeekSelWrite x0 x1 x2)) = kept x2 := by
  unfold execLePeekSelWrite
  simp only [resState_next]
  refine serveWrite_kept _ _ _ ?_
  intro s
  simp only [kept_mk, kept_fold, kept_ite, kept_ec_ite, ite_self, resState_next, resState_ite, peekWrite_kept, serveWrite_kept]

theorem execBrkHitClear_kept (x0 : Req) (x1 : State) :
    kept (resState x1 (execBrkHitClear x0 x1)) = kept x1 := by
  unfold execBrkHitClear
  simp only [resState_next]
  refine serveWrite_kept _ _ _ ?_
  intro s
  simp only [kept_mk, kept_fold, kept_ite, kept_ec_ite, ite_self, resState_next, resState_ite, serveWrite_kept, brkWrite_kept]

theorem execConversionComplete_kept (x0 : Int) (x1 : Bool) (x2 : State) :
    kept (resState x2 (execConversionComplete x0 x1 x2)) = kept x2 := by
  simp only [execConversionComplete, kept_mk, kept_fold, kept_ite, kept_ec_ite, ite_self, resState_next, resState_ite, conversionComplete_kept]

theorem execSeqPassStart_kept (x0 : State) :
    kept (resState x0 (execSeqPassStart x0)) = kept x0 := by
  simp only [execSeqPassStart, kept_mk, kept_fold, kept_ite, kept_ec_ite, ite_self, resState_next, resState_ite, seqPassStart_kept]

theorem execProcessFrameStart_kept (x0 : Bool) (x1 : State) :
    kept (resState x1 (execProcessFrameStart x0 x1)) = kept x1 := by
  simp only [execProcessFrameStart, kept_mk, kept_fold, kept_ite, kept_ec_ite, ite_self, resState_next, resState_ite, processFrameStart_kept]

theorem execProcessSideSafe_kept (x0 : State) :
    kept (resState x0 (execProcessSideSafe x0)) = kept x0 := by
  simp only [execProcessSideSafe, kept_mk, kept_fold, kept_ite, kept_ec_ite, ite_self, resState_next, resState_ite, processSideSafe_kept]

theorem execProcessUpstreamMissing_kept (x0 : State) :
    kept (resState x0 (execProcessUpstreamMissing x0)) = kept x0 := by
  simp only [execProcessUpstreamMissing, kept_mk, kept_fold, kept_ite, kept_ec_ite, ite_self, resState_next, resState_ite, processUpstreamMissing_kept]

theorem execUpcSelftestTimeout_kept (x0 : State) :
    kept (resState x0 (execUpcSelftestTimeout x0)) = kept x0 := by
  simp only [execUpcSelftestTimeout, kept_mk, kept_fold, kept_ite, kept_ec_ite, ite_self, resState_next, resState_ite, upcSelftestTimeout_kept]

theorem execProcessUpstreamRx_kept (x0 x1 : Nat) (x2 x3 : List Nat) (x4 : Nat) (x5 : Int) (x6 : State) :
    kept (resState x6 (execProcessUpstreamRx x0 x1 x2 x3 x4 x5 x6)) = kept x6 := by
  simp only [execProcessUpstreamRx, kept_mk, kept_fold, kept_ite, kept_ec_ite, ite_self, resState_next, resState_ite, processUpstreamRx_kept]

theorem execUpcUrgent_kept (x0 : Req) (x1 x2 x3 x4 x5 : Nat) (x6 : State) :
    kept (resState x6 (execUpcUrgent x0 x1 x2 x3 x4 x5 x6)) = kept x6 := by
  simp only [execUpcUrgent, kept_mk, kept_fold, kept_ite, kept_ec_ite, ite_self, resState_next, resState_ite, upcUrgent_kept]

theorem execReadbackVerification_kept (x0 : Nat) (x1 : State) :
    kept (resState x1 (execReadbackVerification x0 x1)) = kept x1 := by
  simp only [execReadbackVerification, kept_mk, kept_fold, kept_ite, kept_ec_ite, ite_self, resState_next, resState_ite, readbackVerification_kept]

theorem execUpcReadbackMismatch_kept (x0 : Nat) (x1 : State) :
    kept (resState x1 (execUpcReadbackMismatch x0 x1)) = kept x1 := by
  simp only [execUpcReadbackMismatch, kept_mk, kept_fold, kept_ite, kept_ec_ite, ite_self, resState_next, resState_ite, upcReadbackMismatch_kept]

theorem execReadbackMismatchClear_kept (x0 : Nat) (x1 : State) :
    kept (resState x1 (execReadbackMismatchClear x0 x1)) = kept x1 := by
  simp only [execReadbackMismatchClear, kept_mk, kept_fold, kept_ite, kept_ec_ite, ite_self, resState_next, resState_ite, readbackMismatchClear_kept]

theorem execOutputStartupTest_kept (x0 x1 x2 : Nat) (x3 : State) :
    kept (resState x3 (execOutputStartupTest x0 x1 x2 x3)) = kept x3 := by
  simp only [execOutputStartupTest, kept_mk, kept_fold, kept_ite, kept_ec_ite, ite_self, resState_next, resState_ite, outputStartupTest_kept]

theorem execUpcCompliance_kept (x0 : Nat) (x1 : State) :
    kept (resState x1 (execUpcCompliance x0 x1)) = kept x1 := by
  simp only [execUpcCompliance, kept_mk, kept_fold, kept_ite, kept_ec_ite, ite_self, resState_next, resState_ite, upcCompliance_kept]

theorem execUpcOpenLoop_kept (x0 : Nat) (x1 : State) :
    kept (resState x1 (execUpcOpenLoop x0 x1)) = kept x1 := by
  simp only [execUpcOpenLoop, kept_mk, kept_fold, kept_ite, kept_ec_ite, ite_self, resState_next, resState_ite, upcOpenLoop_kept]

theorem execUpcSignalRange_kept (x0 : Nat) (x1 : State) :
    kept (resState x1 (execUpcSignalRange x0 x1)) = kept x1 := by
  simp only [execUpcSignalRange, kept_mk, kept_fold, kept_ite, kept_ec_ite, ite_self, resState_next, resState_ite, upcSignalRange_kept]

theorem execTcTest_kept (x0 : Nat) (x1 : Bool) (x2 : State) :
    kept (resState x2 (execTcTest x0 x1 x2)) = kept x2 := by
  simp only [execTcTest, kept_mk, kept_fold, kept_ite, kept_ec_ite, ite_self, resState_next, resState_ite, tcTest_kept]

theorem execUpcDiagCleared_kept (x0 x1 : Nat) (x2 : State) :
    kept (resState x2 (execUpcDiagCleared x0 x1 x2)) = kept x2 := by
  simp only [execUpcDiagCleared, kept_mk, kept_fold, kept_ite, kept_ec_ite, ite_self, resState_next, resState_ite, upcDiagCleared_kept]

theorem execUpcChModeWrite_kept (x0 : Req) (x1 : Nat) (x2 : Word) (x3 : State) :
    kept (resState x3 (execUpcChModeWrite x0 x1 x2 x3)) = kept x3 := by
  unfold execUpcChModeWrite
  simp only [resState_next]
  refine serveWrite_kept _ _ _ ?_
  intro s
  simp only [kept_mk, kept_fold, kept_ite, kept_ec_ite, ite_self, resState_next, resState_ite, serveWrite_kept, writeChMode_kept]

theorem execGooseRetransmit_kept (x0 : Nat) (x1 : State) :
    kept (resState x1 (execGooseRetransmit x0 x1)) = kept x1 := by
  simp only [execGooseRetransmit, kept_mk, kept_fold, kept_ite, kept_ec_ite, ite_self, resState_next, resState_ite, putPub_kept, goSend_kept]

theorem execGooseFrameRx_kept (x0 : GooseFrame) (x1 : State) :
    kept (resState x1 (execGooseFrameRx x0 x1)) = kept x1 := by
  unfold execGooseFrameRx
  repeat' split
  all_goals simp only [*, kept_mk, kept_fold, kept_ite, kept_ec_ite, ite_self, resState_next, resState_ite, putSub_kept, goAccept_kept, sendAgree_kept, submit_kept]

theorem execGooseSubLost_kept (x0 : Nat) (x1 : State) :
    kept (resState x1 (execGooseSubLost x0 x1)) = kept x1 := by
  unfold execGooseSubLost
  repeat' (first
    | (simp only [*, kept_mk, kept_fold, kept_ite, kept_ec_ite, ite_self, resState_next, resState_ite, putSub_kept, writeN_kept, submit_kept]; done)
    | (simp only [kept_mk, kept_fold, kept_ite, kept_ec_ite, ite_self, resState_next, resState_ite, putSub_kept, writeN_kept, submit_kept, kept_foldl]; done)
    | split
    | (with_reducible refine serve_kept _ _ _ _ ?_; intro _)
    | (with_reducible refine serveWrite_kept _ _ _ ?_; intro _)
    | (dsimp only; split)
    | (with_reducible refine (kept_foldl _ _ _ ?_).trans ?_ <;> try intro _ _)
    | (simp only [kept_mk, kept_fold, kept_ite, kept_ec_ite, ite_self, resState_next, resState_ite, putSub_kept, writeN_kept, submit_kept]; first | split | (with_reducible refine serve_kept _ _ _ _ ?_; intro _) | (with_reducible refine (kept_foldl _ _ _ ?_).trans ?_ <;> try intro _ _))
    | (rename_i h; first | rw [kept_of_snd h] | rw [kept_of_fst h])
    | (rename_i h _; first | rw [kept_of_snd h] | rw [kept_of_fst h])
    | (rename_i h _ _; first | rw [kept_of_snd h] | rw [kept_of_fst h])
    | (dsimp only; rename_i h; first | rw [kept_of_snd h] | rw [kept_of_fst h])
    | (dsimp only; rename_i h _; first | rw [kept_of_snd h] | rw [kept_of_fst h])
    | (dsimp only; rename_i h _ _; first | rw [kept_of_snd h] | rw [kept_of_fst h]))

theorem execPmuTurnOff_kept (x0 : Nat) (x1 : Bool) (x2 : State) :
    kept (resState x2 (execPmuTurnOff x0 x1 x2)) = kept x2 := by
  simp only [execPmuTurnOff, kept_mk, kept_fold, kept_ite, kept_ec_ite, ite_self, resState_next, resState_ite, pmuCommand_kept]

theorem execPmuTurnOn_kept (x0 : Nat) (x1 : Bool) (x2 : State) :
    kept (resState x2 (execPmuTurnOn x0 x1 x2)) = kept x2 := by
  simp only [execPmuTurnOn, kept_mk, kept_fold, kept_ite, kept_ec_ite, ite_self, resState_next, resState_ite, pmuCommand_kept]

theorem execPmuSendHdr_kept (x0 : Nat) (x1 : Bool) (x2 : Nat) (x3 : State) :
    kept (resState x3 (execPmuSendHdr x0 x1 x2 x3)) = kept x3 := by
  simp only [execPmuSendHdr, kept_mk, kept_fold, kept_ite, kept_ec_ite, ite_self, resState_next, resState_ite, pmuCommand_kept]

theorem execPmuSendCfg_kept (x0 : Nat) (x1 : Bool) (x2 x3 : Nat) (x4 : State) :
    kept (resState x4 (execPmuSendCfg x0 x1 x2 x3 x4)) = kept x4 := by
  simp only [execPmuSendCfg, kept_mk, kept_fold, kept_ite, kept_ec_ite, ite_self, resState_next, resState_ite, pmuCommand_kept]

theorem execNetFrameRx_kept (x0 : NetFrame) (x1 : State) :
    kept (resState x1 (execNetFrameRx x0 x1)) = kept x1 := by
  unfold execNetFrameRx
  repeat' (first
    | (simp only [*, kept_mk, kept_fold, kept_ite, kept_ec_ite, ite_self, resState_next, resState_ite, hsrForward_kept, ageDup_kept, updPort_kept, submit_kept]; done)
    | (simp only [kept_mk, kept_fold, kept_ite, kept_ec_ite, ite_self, resState_next, resState_ite, hsrForward_kept, ageDup_kept, updPort_kept, submit_kept, kept_foldl]; done)
    | split
    | (with_reducible refine serve_kept _ _ _ _ ?_; intro _)
    | (with_reducible refine serveWrite_kept _ _ _ ?_; intro _)
    | (dsimp only; split)
    | (with_reducible refine (kept_foldl _ _ _ ?_).trans ?_ <;> try intro _ _)
    | (simp only [kept_mk, kept_fold, kept_ite, kept_ec_ite, ite_self, resState_next, resState_ite, hsrForward_kept, ageDup_kept, updPort_kept, submit_kept]; first | split | (with_reducible refine serve_kept _ _ _ _ ?_; intro _) | (with_reducible refine (kept_foldl _ _ _ ?_).trans ?_ <;> try intro _ _))
    | (rename_i h; first | rw [kept_of_snd h] | rw [kept_of_fst h])
    | (rename_i h _; first | rw [kept_of_snd h] | rw [kept_of_fst h])
    | (rename_i h _ _; first | rw [kept_of_snd h] | rw [kept_of_fst h])
    | (dsimp only; rename_i h; first | rw [kept_of_snd h] | rw [kept_of_fst h])
    | (dsimp only; rename_i h _; first | rw [kept_of_snd h] | rw [kept_of_fst h])
    | (dsimp only; rename_i h _ _; first | rw [kept_of_snd h] | rw [kept_of_fst h]))

theorem execPrpDupAgeout_kept (x0 : State) :
    kept (resState x0 (execPrpDupAgeout x0)) = kept x0 := by
  simp only [execPrpDupAgeout, kept_mk, kept_fold, kept_ite, kept_ec_ite, ite_self, resState_next, resState_ite, ageDup_kept]

theorem execPrpSupervisionTx_kept (x0 : State) :
    kept (resState x0 (execPrpSupervisionTx x0)) = kept x0 := by
  unfold execPrpSupervisionTx
  repeat' (first
    | (simp only [*, kept_mk, kept_fold, kept_ite, kept_ec_ite, ite_self, resState_next, resState_ite, updPort_kept, sendFrame_kept]; done)
    | (simp only [kept_mk, kept_fold, kept_ite, kept_ec_ite, ite_self, resState_next, resState_ite, updPort_kept, sendFrame_kept, kept_foldl]; done)
    | split
    | (with_reducible refine serve_kept _ _ _ _ ?_; intro _)
    | (with_reducible refine serveWrite_kept _ _ _ ?_; intro _)
    | (dsimp only; split)
    | (with_reducible refine (kept_foldl _ _ _ ?_).trans ?_ <;> try intro _ _)
    | (simp only [kept_mk, kept_fold, kept_ite, kept_ec_ite, ite_self, resState_next, resState_ite, updPort_kept, sendFrame_kept]; first | split | (with_reducible refine serve_kept _ _ _ _ ?_; intro _) | (with_reducible refine (kept_foldl _ _ _ ?_).trans ?_ <;> try intro _ _))
    | (rename_i h; first | rw [kept_of_snd h] | rw [kept_of_fst h])
    | (rename_i h _; first | rw [kept_of_snd h] | rw [kept_of_fst h])
    | (rename_i h _ _; first | rw [kept_of_snd h] | rw [kept_of_fst h])
    | (dsimp only; rename_i h; first | rw [kept_of_snd h] | rw [kept_of_fst h])
    | (dsimp only; rename_i h _; first | rw [kept_of_snd h] | rw [kept_of_fst h])
    | (dsimp only; rename_i h _ _; first | rw [kept_of_snd h] | rw [kept_of_fst h]))

theorem execArpRx_kept (x0 : Bool) (x1 x2 x3 : Nat) (x4 : State) :
    kept (resState x4 (execArpRx x0 x1 x2 x3 x4)) = kept x4 := by
  simp only [execArpRx, kept_mk, kept_fold, kept_ite, kept_ec_ite, ite_self, resState_next, resState_ite, arpSend_kept, arpPut_kept]

theorem execArpRefresh_kept (x0 : State) :
    kept (resState x0 (execArpRefresh x0)) = kept x0 := by
  unfold execArpRefresh
  repeat' (first
    | (simp only [*, kept_mk, kept_fold, kept_ite, kept_ec_ite, ite_self, resState_next, resState_ite, arpSend_kept]; done)
    | (simp only [kept_mk, kept_fold, kept_ite, kept_ec_ite, ite_self, resState_next, resState_ite, arpSend_kept, kept_foldl]; done)
    | split
    | (with_reducible refine serve_kept _ _ _ _ ?_; intro _)
    | (with_reducible refine serveWrite_kept _ _ _ ?_; intro _)
    | (dsimp only; split)
    | (with_reducible refine (kept_foldl _ _ _ ?_).trans ?_ <;> try intro _ _)
    | (simp only [kept_mk, kept_fold, kept_ite, kept_ec_ite, ite_self, resState_next, resState_ite, arpSend_kept]; first | split | (with_reducible refine serve_kept _ _ _ _ ?_; intro _) | (with_reducible refine (kept_foldl _ _ _ ?_).trans ?_ <;> try intro _ _))
    | (rename_i h; first | rw [kept_of_snd h] | rw [kept_of_fst h])
    | (rename_i h _; first | rw [kept_of_snd h] | rw [kept_of_fst h])
    | (rename_i h _ _; first | rw [kept_of_snd h] | rw [kept_of_fst h])
    | (dsimp only; rename_i h; first | rw [kept_of_snd h] | rw [kept_of_fst h])
    | (dsimp only; rename_i h _; first | rw [kept_of_snd h] | rw [kept_of_fst h])
    | (dsimp only; rename_i h _ _; first | rw [kept_of_snd h] | rw [kept_of_fst h]))

theorem execIcmpEcho_kept (x0 : Nat) (x1 : List Byte) (x2 : State) :
    kept (resState x2 (execIcmpEcho x0 x1 x2)) = kept x2 := by
  simp only [execIcmpEcho, kept_mk, kept_fold, kept_ite, kept_ec_ite, ite_self, resState_next, resState_ite, sendUdp_kept]

theorem execLinkLoss_kept (x0 : Nat) (x1 : State) :
    kept (resState x1 (execLinkLoss x0 x1)) = kept x1 := by
  simp only [execLinkLoss, kept_mk, kept_fold, kept_ite, kept_ec_ite, ite_self, resState_next, resState_ite, updPort_kept, laneLoss_kept]

theorem execPortLinkUp_kept (x0 x1 : Nat) (x2 : State) :
    kept (resState x2 (execPortLinkUp x0 x1 x2)) = kept x2 := by
  simp only [execPortLinkUp, kept_mk, kept_fold, kept_ite, kept_ec_ite, ite_self, resState_next, resState_ite, updPort_kept]

theorem execLaneNoFrame_kept (x0 : Nat) (x1 : State) :
    kept (resState x1 (execLaneNoFrame x0 x1)) = kept x1 := by
  simp only [execLaneNoFrame, kept_mk, kept_fold, kept_ite, kept_ec_ite, ite_self, resState_next, resState_ite, laneLoss_kept]

theorem execRingOpen_kept (x0 : Nat) (x1 : State) :
    kept (resState x1 (execRingOpen x0 x1)) = kept x1 := by
  simp only [execRingOpen, kept_mk, kept_fold, kept_ite, kept_ec_ite, ite_self, resState_next, resState_ite, laneLoss_kept]

theorem execNetLaneRestored_kept (x0 : Nat) (x1 : State) :
    kept (resState x1 (execNetLaneRestored x0 x1)) = kept x1 := by
  simp only [execNetLaneRestored, kept_mk, kept_fold, kept_ite, kept_ec_ite, ite_self, resState_next, resState_ite, clearDet_kept, updPort_kept, submit_kept]

theorem execCommitPeriod_kept (x0 : State) :
    kept (resState x0 (execCommitPeriod x0)) = kept x0 := by
  simp only [execCommitPeriod, kept_mk, kept_fold, kept_ite, kept_ec_ite, ite_self, resState_next, resState_ite, commitTrigger_kept]

theorem execCommitStart_kept (x0 : State) :
    kept (resState x0 (execCommitStart x0)) = kept x0 := by
  simp only [execCommitStart, kept_mk, kept_fold, kept_ite, kept_ec_ite, ite_self, resState_next, resState_ite]

theorem execEvrRead_kept (x0 : Req) (x1 x2 x3 : Nat) (x4 : State) :
    kept (resState x4 (execEvrRead x0 x1 x2 x3 x4)) = kept x4 := by
  simp only [execEvrRead, kept_mk, kept_fold, kept_ite, kept_ec_ite, ite_self, resState_next, resState_ite, evrRead_kept]

theorem execEvrFreeze_kept (x0 : Req) (x1 : State) :
    kept (resState x1 (execEvrFreeze x0 x1)) = kept x1 := by
  simp only [execEvrFreeze, kept_mk, kept_fold, kept_ite, kept_ec_ite, ite_self, resState_next, resState_ite, evrFreeze_kept]

theorem execEvrThaw_kept (x0 : Req) (x1 : State) :
    kept (resState x1 (execEvrThaw x0 x1)) = kept x1 := by
  simp only [execEvrThaw, kept_mk, kept_fold, kept_ite, kept_ec_ite, ite_self, resState_next, resState_ite, evrThaw_kept]

theorem execFreezeTimeout_kept (x0 : State) :
    kept (resState x0 (execFreezeTimeout x0)) = kept x0 := by
  unfold execFreezeTimeout
  repeat' split
  all_goals simp only [*, kept_mk, kept_fold, kept_ite, kept_ec_ite, ite_self, resState_next, resState_ite, thaw_kept]

theorem execSessionClose_kept (x0 : Req) (x1 : State) :
    kept (resState x1 (execSessionClose x0 x1)) = kept x1 := by
  unfold execSessionClose
  simp only [resState_next]
  refine serve_kept _ _ _ _ ?_
  intro s
  simp only [kept_mk, kept_fold, kept_ite, kept_ec_ite, ite_self, resState_next, resState_ite, serve_kept, closeSession_kept, answer_kept]

theorem execHpiWriteTransfer_kept (x0 : List Byte) (x1 : State) :
    kept (resState x1 (execHpiWriteTransfer x0 x1)) = kept x1 := by
  simp only [execHpiWriteTransfer, kept_mk, kept_fold, kept_ite, kept_ec_ite, ite_self, resState_next, resState_ite, acceptCrc_kept]

theorem execHpiReadTransfer_kept (x0 : Bool) (x1 : State) :
    kept (resState x1 (execHpiReadTransfer x0 x1)) = kept x1 := by
  simp only [execHpiReadTransfer, kept_mk, kept_fold, kept_ite, kept_ec_ite, ite_self, resState_next, resState_ite, setHirq_kept]

theorem execUartFrameRx_kept (x0 : List Byte) (x1 : State) :
    kept (resState x1 (execUartFrameRx x0 x1)) = kept x1 := by
  unfold execUartFrameRx
  repeat' (first
    | (simp only [*, kept_mk, kept_fold, kept_ite, kept_ec_ite, ite_self, resState_next, resState_ite, uartByte_kept]; done)
    | (simp only [kept_mk, kept_fold, kept_ite, kept_ec_ite, ite_self, resState_next, resState_ite, uartByte_kept, kept_foldl]; done)
    | split
    | (with_reducible refine serve_kept _ _ _ _ ?_; intro _)
    | (with_reducible refine serveWrite_kept _ _ _ ?_; intro _)
    | (dsimp only; split)
    | (with_reducible refine (kept_foldl _ _ _ ?_).trans ?_ <;> try intro _ _)
    | (simp only [kept_mk, kept_fold, kept_ite, kept_ec_ite, ite_self, resState_next, resState_ite, uartByte_kept]; first | split | (with_reducible refine serve_kept _ _ _ _ ?_; intro _) | (with_reducible refine (kept_foldl _ _ _ ?_).trans ?_ <;> try intro _ _))
    | (rename_i h; first | rw [kept_of_snd h] | rw [kept_of_fst h])
    | (rename_i h _; first | rw [kept_of_snd h] | rw [kept_of_fst h])
    | (rename_i h _ _; first | rw [kept_of_snd h] | rw [kept_of_fst h])
    | (dsimp only; rename_i h; first | rw [kept_of_snd h] | rw [kept_of_fst h])
    | (dsimp only; rename_i h _; first | rw [kept_of_snd h] | rw [kept_of_fst h])
    | (dsimp only; rename_i h _ _; first | rw [kept_of_snd h] | rw [kept_of_fst h]))

theorem execUartFrameTimeout_kept (x0 : State) :
    kept (resState x0 (execUartFrameTimeout x0)) = kept x0 := by
  simp only [execUartFrameTimeout, kept_mk, kept_fold, kept_ite, kept_ec_ite, ite_self, resState_next, resState_ite]

theorem execTlsConnectionEnd_kept (x0 : Nat) (x1 : State) :
    kept (resState x1 (execTlsConnectionEnd x0 x1)) = kept x1 := by
  simp only [execTlsConnectionEnd, kept_mk, kept_fold, kept_ite, kept_ec_ite, ite_self, resState_next, resState_ite, connEnd_kept]

theorem execRegRead_kept (x0 : Req) (x1 x2 : Nat) (x3 : State) :
    kept (resState x3 (execRegRead x0 x1 x2 x3)) = kept x3 := by
  simp only [execRegRead, kept_mk, kept_fold, kept_ite, kept_ec_ite, ite_self, resState_next, resState_ite, regRead_kept]

theorem execRegWrite_kept (x0 : Req) (x1 : Nat) (x2 : List Word) (x3 : State) :
    kept (resState x3 (execRegWrite x0 x1 x2 x3)) = kept x3 := by
  simp only [execRegWrite, kept_mk, kept_fold, kept_ite, kept_ec_ite, ite_self, resState_next, resState_ite, regWrite_kept]

theorem execRegModify_kept (x0 : Req) (x1 : Nat) (x2 x3 : Word) (x4 : State) :
    kept (resState x4 (execRegModify x0 x1 x2 x3 x4)) = kept x4 := by
  simp only [execRegModify, kept_mk, kept_fold, kept_ite, kept_ec_ite, ite_self, resState_next, resState_ite, regModify_kept]

theorem execGsNodeSelWrite_kept (x0 : Req) (x1 : Nat) (x2 : State) :
    kept (resState x2 (execGsNodeSelWrite x0 x1 x2)) = kept x2 := by
  unfold execGsNodeSelWrite
  simp only [resState_next]
  refine serveWrite_kept _ _ _ ?_
  intro s
  simp only [kept_mk, kept_fold, kept_ite, kept_ec_ite, ite_self, resState_next, resState_ite, serveWrite_kept, nodeSelWrite_kept]

theorem execTwVmeasArm_kept (x0 : Req) (x1 : Nat) (x2 : State) :
    kept (resState x2 (execTwVmeasArm x0 x1 x2)) = kept x2 := by
  unfold execTwVmeasArm
  simp only [resState_next]
  refine serveWrite_kept _ _ _ ?_
  intro s
  simp only [kept_mk, kept_fold, kept_ite, kept_ec_ite, ite_self, resState_next, resState_ite, serveWrite_kept, writeWord_kept]

theorem execDiagStream_kept (x0 : Req) (x1 : Nat) (x2 : List Nat) (x3 : State) :
    kept (resState x3 (execDiagStream x0 x1 x2 x3)) = kept x3 := by
  unfold execDiagStream
  simp only [resState_next]
  refine serve_kept _ _ _ _ ?_
  intro s
  simp only [kept_mk, kept_fold, kept_ite, kept_ec_ite, ite_self, resState_next, resState_ite, serve_kept, updSession_kept, answer_kept]

theorem execDiagData_kept (x0 : Nat) (x1 : State) :
    kept (resState x1 (execDiagData x0 x1)) = kept x1 := by
  unfold execDiagData
  repeat' split
  all_goals simp only [*, kept_mk, kept_fold, kept_ite, kept_ec_ite, ite_self, resState_next, resState_ite, unsolicited_kept, updSession_kept]

theorem execLoadWindow_kept (x0 : Nat) (x1 : State) :
    kept (resState x1 (execLoadWindow x0 x1)) = kept x1 := by
  simp only [execLoadWindow, kept_mk, kept_fold, kept_ite, kept_ec_ite, ite_self, resState_next, resState_ite, loadWindow_kept]

theorem execOpRetire_kept (x0 x1 x2 : Nat) (x3 : List (Nat × Nat)) (x4 : List Byte) (x5 : State) :
    kept (resState x5 (execOpRetire x0 x1 x2 x3 x4 x5)) = kept x5 := by
  unfold execOpRetire
  split <;> simp only [kept_mk, kept_fold, kept_ite, kept_ec_ite, ite_self, resState_next, resState_ite, pump_kept, fireDetFree_kept, retireWith_kept, account_kept, startCore_kept, complete_kept, removeCore_kept, opFault_kept, abort_kept]

theorem execOpCycleLimit_kept (x0 : Nat) (x1 : State) :
    kept (resState x1 (execOpCycleLimit x0 x1)) = kept x1 := by
  unfold execOpCycleLimit
  split <;> simp only [kept_mk, kept_fold, kept_ite, kept_ec_ite, ite_self, resState_next, resState_ite, pump_kept, account_kept, startCore_kept, abort_kept]

theorem execP1Deadline_kept (x0 : State) :
    kept (resState x0 (execP1Deadline x0)) = kept x0 := by
  unfold execP1Deadline
  split <;> simp only [kept_mk, kept_fold, kept_ite, kept_ec_ite, ite_self, resState_next, resState_ite, overrunWave_kept]

theorem execP0Deadline_kept (x0 : State) :
    kept (resState x0 (execP0Deadline x0)) = kept x0 := by
  unfold execP0Deadline
  repeat' (first
    | (simp only [*, kept_mk, kept_fold, kept_ite, kept_ec_ite, ite_self, resState_next, resState_ite, pump_kept, releaseDesc_kept, cancelMissed_kept, overrun_kept]; done)
    | (simp only [kept_mk, kept_fold, kept_ite, kept_ec_ite, ite_self, resState_next, resState_ite, pump_kept, releaseDesc_kept, cancelMissed_kept, overrun_kept, kept_foldl]; done)
    | split
    | (with_reducible refine serve_kept _ _ _ _ ?_; intro _)
    | (with_reducible refine serveWrite_kept _ _ _ ?_; intro _)
    | (dsimp only; split)
    | (with_reducible refine (kept_foldl _ _ _ ?_).trans ?_ <;> try intro _ _)
    | (simp only [kept_mk, kept_fold, kept_ite, kept_ec_ite, ite_self, resState_next, resState_ite, pump_kept, releaseDesc_kept, cancelMissed_kept, overrun_kept]; first | split | (with_reducible refine serve_kept _ _ _ _ ?_; intro _) | (with_reducible refine (kept_foldl _ _ _ ?_).trans ?_ <;> try intro _ _))
    | (rename_i h; first | rw [kept_of_snd h] | rw [kept_of_fst h])
    | (rename_i h _; first | rw [kept_of_snd h] | rw [kept_of_fst h])
    | (rename_i h _ _; first | rw [kept_of_snd h] | rw [kept_of_fst h])
    | (dsimp only; rename_i h; first | rw [kept_of_snd h] | rw [kept_of_fst h])
    | (dsimp only; rename_i h _; first | rw [kept_of_snd h] | rw [kept_of_fst h])
    | (dsimp only; rename_i h _ _; first | rw [kept_of_snd h] | rw [kept_of_fst h]))

theorem execP2Late_kept (x0 : State) :
    kept (resState x0 (execP2Late x0)) = kept x0 := by
  unfold execP2Late
  repeat' (first
    | (simp only [*, kept_mk, kept_fold, kept_ite, kept_ec_ite, ite_self, resState_next, resState_ite, submit_kept]; done)
    | (simp only [kept_mk, kept_fold, kept_ite, kept_ec_ite, ite_self, resState_next, resState_ite, submit_kept, kept_foldl]; done)
    | split
    | (with_reducible refine serve_kept _ _ _ _ ?_; intro _)
    | (with_reducible refine serveWrite_kept _ _ _ ?_; intro _)
    | (dsimp only; split)
    | (with_reducible refine (kept_foldl _ _ _ ?_).trans ?_ <;> try intro _ _)
    | (simp only [kept_mk, kept_fold, kept_ite, kept_ec_ite, ite_self, resState_next, resState_ite, submit_kept]; first | split | (with_reducible refine serve_kept _ _ _ _ ?_; intro _) | (with_reducible refine (kept_foldl _ _ _ ?_).trans ?_ <;> try intro _ _))
    | (rename_i h; first | rw [kept_of_snd h] | rw [kept_of_fst h])
    | (rename_i h _; first | rw [kept_of_snd h] | rw [kept_of_fst h])
    | (rename_i h _ _; first | rw [kept_of_snd h] | rw [kept_of_fst h])
    | (dsimp only; rename_i h; first | rw [kept_of_snd h] | rw [kept_of_fst h])
    | (dsimp only; rename_i h _; first | rw [kept_of_snd h] | rw [kept_of_fst h])
    | (dsimp only; rename_i h _ _; first | rw [kept_of_snd h] | rw [kept_of_fst h]))

theorem execOverrunQuiet_kept (x0 : State) :
    kept (resState x0 (execOverrunQuiet x0)) = kept x0 := by
  simp only [execOverrunQuiet, kept_mk, kept_fold, kept_ite, kept_ec_ite, ite_self, resState_next, resState_ite, refreshPads_kept]

theorem execDelayEntryFire_kept (x0 : State) :
    kept (resState x0 (execDelayEntryFire x0)) = kept x0 := by
  unfold execDelayEntryFire
  repeat' (first
    | (simp only [*, kept_mk, kept_fold, kept_ite, kept_ec_ite, ite_self, resState_next, resState_ite, ownFiring_kept, sendAgree_kept]; done)
    | (simp only [kept_mk, kept_fold, kept_ite, kept_ec_ite, ite_self, resState_next, resState_ite, ownFiring_kept, sendAgree_kept, kept_foldl]; done)
    | split
    | (with_reducible refine serve_kept _ _ _ _ ?_; intro _)
    | (with_reducible refine serveWrite_kept _ _ _ ?_; intro _)
    | (dsimp only; split)
    | (with_reducible refine (kept_foldl _ _ _ ?_).trans ?_ <;> try intro _ _)
    | (simp only [kept_mk, kept_fold, kept_ite, kept_ec_ite, ite_self, resState_next, resState_ite, ownFiring_kept, sendAgree_kept]; first | split | (with_reducible refine serve_kept _ _ _ _ ?_; intro _) | (with_reducible refine (kept_foldl _ _ _ ?_).trans ?_ <;> try intro _ _))
    | (rename_i h; first | rw [kept_of_snd h] | rw [kept_of_fst h])
    | (rename_i h _; first | rw [kept_of_snd h] | rw [kept_of_fst h])
    | (rename_i h _ _; first | rw [kept_of_snd h] | rw [kept_of_fst h])
    | (dsimp only; rename_i h; first | rw [kept_of_snd h] | rw [kept_of_fst h])
    | (dsimp only; rename_i h _; first | rw [kept_of_snd h] | rw [kept_of_fst h])
    | (dsimp only; rename_i h _ _; first | rw [kept_of_snd h] | rw [kept_of_fst h]))

theorem execJobSubmit_kept (x0 : Req) (x1 : Nat) (x2 : List Byte) (x3 : State) :
    kept (resState x3 (execJobSubmit x0 x1 x2 x3)) = kept x3 := by
  unfold execJobSubmit
  simp only [resState_next]
  refine serve_kept _ _ _ _ ?_
  intro s
  simp only [kept_mk, kept_fold, kept_ite, kept_ec_ite, ite_self, resState_next, resState_ite, serve_kept, putJob_kept, answer_kept]

theorem execJobStart_kept (x0 : State) :
    kept (resState x0 (execJobStart x0)) = kept x0 := by
  unfold execJobStart
  repeat' split
  all_goals simp only [*, kept_mk, kept_fold, kept_ite, kept_ec_ite, ite_self, resState_next, resState_ite, pump_kept, createAll_kept]

theorem execFreqTrackHoldExpiry_kept (x0 : Nat) (x1 : State) :
    kept (resState x1 (execFreqTrackHoldExpiry x0 x1)) = kept x1 := by
  unfold execFreqTrackHoldExpiry
  split <;> simp only [kept_mk, kept_fold, kept_ite, kept_ec_ite, ite_self, resState_next, resState_ite, trackExpire_kept]

theorem execSessionIdleTimeout_kept (x0 : Nat) (x1 : State) :
    kept (resState x1 (execSessionIdleTimeout x0 x1)) = kept x1 := by
  unfold execSessionIdleTimeout
  split <;> simp only [kept_mk, kept_fold, kept_ite, kept_ec_ite, ite_self, resState_next, resState_ite, closeSession_kept]

theorem execKeyList_kept (x0 : Req) (x1 : State) :
    kept (resState x1 (execKeyList x0 x1)) = kept x1 := by
  unfold execKeyList
  simp only [resState_next]
  refine serve_kept _ _ _ _ ?_
  intro s
  simp only [kept_mk, kept_fold, kept_ite, kept_ec_ite, ite_self, resState_next, resState_ite, serve_kept, respond_kept]

theorem execFwBegin_kept (x0 : Req) (x1 x2 : Nat) (x3 : State) :
    kept (resState x3 (execFwBegin x0 x1 x2 x3)) = kept x3 := by
  unfold execFwBegin
  simp only [resState_next]
  refine serve_kept _ _ _ _ ?_
  intro s
  simp only [kept_mk, kept_fold, kept_ite, kept_ec_ite, ite_self, resState_next, resState_ite, serve_kept, answer_kept, putSlot_kept]

theorem execFwData_kept (x0 : Req) (x1 : Nat) (x2 : List Byte) (x3 : State) :
    kept (resState x3 (execFwData x0 x1 x2 x3)) = kept x3 := by
  unfold execFwData
  simp only [resState_next]
  refine serve_kept _ _ _ _ ?_
  intro s
  repeat' (first | (simp only [*, kept_mk, kept_fold, kept_ite, kept_ec_ite, ite_self, resState_next, resState_ite, serve_kept, answer_kept]; done) | split)

theorem execFwCommit_kept (x0 : Req) (x1 : State) :
    kept (resState x1 (execFwCommit x0 x1)) = kept x1 := by
  simp only [execFwCommit, kept_mk, kept_fold, kept_ite, kept_ec_ite, ite_self, resState_next, resState_ite, fwCommit_kept]

theorem execConfigurationComplete_kept (x0 : State) :
    kept (resState x0 (execConfigurationComplete x0)) = kept x0 := by
  simp only [execConfigurationComplete, kept_mk, kept_fold, kept_ite, kept_ec_ite, ite_self, resState_next, resState_ite, runProtection_kept]

theorem execLogicStart_kept (x0 : State) :
    kept (resState x0 (execLogicStart x0)) = kept x0 := by
  unfold execLogicStart
  repeat' (first
    | (simp only [*, kept_mk, kept_fold, kept_ite, kept_ec_ite, ite_self, resState_next, resState_ite, loadRetain_kept, enterRun_kept, abandon_kept, setMode_kept, coldState_kept, submit_kept]; done)
    | (simp only [kept_mk, kept_fold, kept_ite, kept_ec_ite, ite_self, resState_next, resState_ite, loadRetain_kept, enterRun_kept, abandon_kept, setMode_kept, coldState_kept, submit_kept, kept_foldl]; done)
    | split
    | (with_reducible refine serve_kept _ _ _ _ ?_; intro _)
    | (with_reducible refine serveWrite_kept _ _ _ ?_; intro _)
    | (dsimp only; split)
    | (with_reducible refine (kept_foldl _ _ _ ?_).trans ?_ <;> try intro _ _)
    | (simp only [kept_mk, kept_fold, kept_ite, kept_ec_ite, ite_self, resState_next, resState_ite, loadRetain_kept, enterRun_kept, abandon_kept, setMode_kept, coldState_kept, submit_kept]; first | split | (with_reducible refine serve_kept _ _ _ _ ?_; intro _) | (with_reducible refine (kept_foldl _ _ _ ?_).trans ?_ <;> try intro _ _))
    | (rename_i h; first | rw [kept_of_snd h] | rw [kept_of_fst h])
    | (rename_i h _; first | rw [kept_of_snd h] | rw [kept_of_fst h])
    | (rename_i h _ _; first | rw [kept_of_snd h] | rw [kept_of_fst h])
    | (dsimp only; rename_i h; first | rw [kept_of_snd h] | rw [kept_of_fst h])
    | (dsimp only; rename_i h _; first | rw [kept_of_snd h] | rw [kept_of_fst h])
    | (dsimp only; rename_i h _ _; first | rw [kept_of_snd h] | rw [kept_of_fst h]))

theorem execFwBChecked_kept (x0 : State) :
    kept (resState x0 (execFwBChecked x0)) = kept x0 := by
  simp only [execFwBChecked, kept_mk, kept_fold, kept_ite, kept_ec_ite, ite_self, resState_next, resState_ite, submit_kept]

theorem execFirmwareStart_kept (x0 : State) :
    kept (resState x0 (execFirmwareStart x0)) = kept x0 := by
  simp only [execFirmwareStart, kept_mk, kept_fold, kept_ite, kept_ec_ite, ite_self, resState_next, resState_ite, submit_kept, warnIfLow_kept]

theorem execPfailNLow_kept (x0 : State) :
    kept (resState x0 (execPfailNLow x0)) = kept x0 := by
  simp only [execPfailNLow, kept_mk, kept_fold, kept_ite, kept_ec_ite, ite_self, resState_next, resState_ite, warn_kept]

theorem execVmainLow_kept (x0 : Nat) (x1 : State) :
    kept (resState x1 (execVmainLow x0 x1)) = kept x1 := by
  simp only [execVmainLow, kept_mk, kept_fold, kept_ite, kept_ec_ite, ite_self, resState_next, resState_ite, warn_kept, fireDet_kept]

theorem execVmainLowCleared_kept (x0 : State) :
    kept (resState x0 (execVmainLowCleared x0)) = kept x0 := by
  simp only [execVmainLowCleared, kept_mk, kept_fold, kept_ite, kept_ec_ite, ite_self, resState_next, resState_ite, vmainRises_kept]

theorem execPfailRecovered_kept (x0 : Nat) (x1 : State) :
    kept (resState x1 (execPfailRecovered x0 x1)) = kept x1 := by
  simp only [execPfailRecovered, kept_mk, kept_fold, kept_ite, kept_ec_ite, ite_self, resState_next, resState_ite, pfailRises_kept, vmainRises_kept]

theorem execStoreCutoff_kept (x0 x1 : Nat) (x2 : State) :
    kept (resState x2 (execStoreCutoff x0 x1 x2)) = kept x2 := by
  simp only [execStoreCutoff, kept_mk, kept_fold, kept_ite, kept_ec_ite, ite_self, resState_next, resState_ite]

theorem execStoreCharged_kept (x0 : State) :
    kept (resState x0 (execStoreCharged x0)) = kept x0 := by
  simp only [execStoreCharged, kept_mk, kept_fold, kept_ite, kept_ec_ite, ite_self, resState_next, resState_ite]

theorem execHoldupMeasureDone_kept (x0 x1 x2 : Nat) (x3 : State) :
    kept (resState x3 (execHoldupMeasureDone x0 x1 x2 x3)) = kept x3 := by
  unfold execHoldupMeasureDone
  split
  · rfl
  · rw [resState_next, holdupMeasured_kept]

theorem execStoreChargeTimeout_kept (x0 : State) :
    kept (resState x0 (execStoreChargeTimeout x0)) = kept x0 := by
  simp only [execStoreChargeTimeout, kept_mk, kept_fold, kept_ite, kept_ec_ite, ite_self, resState_next, resState_ite, fireDetOnce_kept]

theorem execStoreVoltageLow_kept (x0 : Nat) (x1 : State) :
    kept (resState x1 (execStoreVoltageLow x0 x1)) = kept x1 := by
  simp only [execStoreVoltageLow, kept_mk, kept_fold, kept_ite, kept_ec_ite, ite_self, resState_next, resState_ite, fireDetOnce_kept]

theorem execImgBegin_kept (x0 : Req) (x1 : Nat) (x2 : State) :
    kept (resState x2 (execImgBegin x0 x1 x2)) = kept x2 := by
  unfold execImgBegin
  simp only [resState_next]
  refine serve_kept _ _ _ _ ?_
  intro s
  simp only [kept_mk, kept_fold, kept_ite, kept_ec_ite, ite_self, resState_next, resState_ite, serve_kept, answer_kept]

theorem execImgData_kept (x0 : Req) (x1 : Nat) (x2 : List Byte) (x3 : State) :
    kept (resState x3 (execImgData x0 x1 x2 x3)) = kept x3 := by
  unfold execImgData
  simp only [resState_next]
  refine serve_kept _ _ _ _ ?_
  intro s
  repeat' (first | (simp only [*, kept_mk, kept_fold, kept_ite, kept_ec_ite, ite_self, resState_next, resState_ite, serve_kept, answer_kept]; done) | split)

theorem execImgCommit_kept (x0 : Req) (x1 : State) :
    kept (resState x1 (execImgCommit x0 x1)) = kept x1 := by
  unfold execImgCommit
  simp only [resState_next]
  refine serve_kept _ _ _ _ ?_
  intro s
  repeat' (first | (simp only [*, kept_mk, kept_fold, kept_ite, kept_ec_ite, ite_self, resState_next, resState_ite, serve_kept, stageImage_kept, respond_kept, submit_kept, answer_kept]; done) | split)

theorem execImgStatus_kept (x0 : Req) (x1 : State) :
    kept (resState x1 (execImgStatus x0 x1)) = kept x1 := by
  unfold execImgStatus
  simp only [resState_next]
  refine serve_kept _ _ _ _ ?_
  intro s
  simp only [kept_mk, kept_fold, kept_ite, kept_ec_ite, ite_self, resState_next, resState_ite, serve_kept, respond_kept]

theorem execImgActivate_kept (x0 : Req) (x1 : Nat) (x2 : State) :
    kept (resState x2 (execImgActivate x0 x1 x2)) = kept x2 := by
  unfold execImgActivate
  simp only [resState_next]
  refine serve_kept _ _ _ _ ?_
  intro s
  repeat' (first | (simp only [*, kept_mk, kept_fold, kept_ite, kept_ec_ite, ite_self, resState_next, resState_ite, serve_kept, beginCommit_kept, activateClass_kept, respond_kept, activateRefused_kept]; done) | split)

theorem execActivationConfirmTimeout_kept (x0 : State) :
    kept (resState x0 (execActivationConfirmTimeout x0)) = kept x0 := by
  unfold execActivationConfirmTimeout
  repeat' split
  all_goals simp only [*, kept_mk, kept_fold, kept_ite, kept_ec_ite, ite_self, resState_next, resState_ite, refuseChange_kept, activateRefused_kept]

theorem execSchUserCommitDone_kept (x0 : Bool) (x1 : State) :
    kept (resState x1 (execSchUserCommitDone x0 x1)) = kept x1 := by
  simp only [execSchUserCommitDone, kept_mk, kept_fold, kept_ite, kept_ec_ite, ite_self, resState_next, resState_ite, submit_kept]

theorem execLeChange_kept (x0 : Req) (x1 x2 : List Byte) (x3 : Nat) (x4 : State) :
    kept (resState x4 (execLeChange x0 x1 x2 x3 x4)) = kept x4 := by
  unfold execLeChange
  simp only [resState_next]
  refine serve_kept _ _ _ _ ?_
  intro s
  repeat' (first | (simp only [*, kept_mk, kept_fold, kept_ite, kept_ec_ite, ite_self, resState_next, resState_ite, serve_kept, awaitChange_kept, sendCell_kept, answer_kept]; done) | split)

theorem execLeChangeover_kept (x0 : State) :
    kept (resState x0 (execLeChangeover x0)) = kept x0 := by
  unfold execLeChangeover
  repeat' split
  all_goals simp only [*, kept_mk, kept_fold, kept_ite, kept_ec_ite, ite_self, resState_next, resState_ite, sendLogic_kept, changeover_kept, agreeUsed_kept]

theorem execLeChangeRefused_kept (x0 : State) :
    kept (resState x0 (execLeChangeRefused x0)) = kept x0 := by
  unfold execLeChangeRefused
  split <;> simp only [kept_mk, kept_fold, kept_ite, kept_ec_ite, ite_self, resState_next, resState_ite, refuseChange_kept]

theorem execGroupSelect_kept (x0 : Req) (x1 : Nat) (x2 : State) :
    kept (resState x2 (execGroupSelect x0 x1 x2)) = kept x2 := by
  unfold execGroupSelect
  simp only [resState_next]
  refine serve_kept _ _ _ _ ?_
  intro s
  simp only [kept_mk, kept_fold, kept_ite, kept_ec_ite, ite_self, resState_next, resState_ite, serve_kept, schedTwin_kept, answer_kept]

theorem execLeLd_kept (x0 x1 : Nat) (x2 : State) :
    kept (resState x2 (execLeLd x0 x1 x2)) = kept x2 := by
  exact runInstr_kept _ _ _ _ _ fnLd_kept

theorem execLeLdn_kept (x0 x1 : Nat) (x2 : State) :
    kept (resState x2 (execLeLdn x0 x1 x2)) = kept x2 := by
  exact runInstr_kept _ _ _ _ _ fnLdn_kept

theorem execLeAnd_kept (x0 x1 : Nat) (x2 : State) :
    kept (resState x2 (execLeAnd x0 x1 x2)) = kept x2 := by
  exact runInstr_kept _ _ _ _ _ fnAnd_kept

theorem execLeAndn_kept (x0 x1 : Nat) (x2 : State) :
    kept (resState x2 (execLeAndn x0 x1 x2)) = kept x2 := by
  exact runInstr_kept _ _ _ _ _ fnAndn_kept

theorem execLeOr_kept (x0 x1 : Nat) (x2 : State) :
    kept (resState x2 (execLeOr x0 x1 x2)) = kept x2 := by
  exact runInstr_kept _ _ _ _ _ fnOr_kept

theorem execLeOrn_kept (x0 x1 : Nat) (x2 : State) :
    kept (resState x2 (execLeOrn x0 x1 x2)) = kept x2 := by
  exact runInstr_kept _ _ _ _ _ fnOrn_kept

theorem execLeXor_kept (x0 x1 : Nat) (x2 : State) :
    kept (resState x2 (execLeXor x0 x1 x2)) = kept x2 := by
  exact runInstr_kept _ _ _ _ _ fnXor_kept

theorem execLeXorn_kept (x0 x1 : Nat) (x2 : State) :
    kept (resState x2 (execLeXorn x0 x1 x2)) = kept x2 := by
  exact runInstr_kept _ _ _ _ _ fnXorn_kept

theorem execLeNot_kept (x0 : State) :
    kept (resState x0 (execLeNot x0)) = kept x0 := by
  exact runInstr_kept _ _ _ _ _ fnNot_kept

theorem execLeSetr_kept (x0 : State) :
    kept (resState x0 (execLeSetr x0)) = kept x0 := by
  exact runInstr_kept _ _ _ _ _ fnSetr_kept

theorem execLeClrr_kept (x0 : State) :
    kept (resState x0 (execLeClrr x0)) = kept x0 := by
  exact runInstr_kept _ _ _ _ _ fnClrr_kept

theorem execLeAndOpen_kept (x0 : State) :
    kept (resState x0 (execLeAndOpen x0)) = kept x0 := by
  exact runInstr_kept _ _ _ _ _ fnAndOpen_kept

theorem execLeAndnOpen_kept (x0 : State) :
    kept (resState x0 (execLeAndnOpen x0)) = kept x0 := by
  exact runInstr_kept _ _ _ _ _ fnAndnOpen_kept

theorem execLeOrOpen_kept (x0 : State) :
    kept (resState x0 (execLeOrOpen x0)) = kept x0 := by
  exact runInstr_kept _ _ _ _ _ fnOrOpen_kept

theorem execLeOrnOpen_kept (x0 : State) :
    kept (resState x0 (execLeOrnOpen x0)) = kept x0 := by
  exact runInstr_kept _ _ _ _ _ fnOrnOpen_kept

theorem execLeXorOpen_kept (x0 : State) :
    kept (resState x0 (execLeXorOpen x0)) = kept x0 := by
  exact runInstr_kept _ _ _ _ _ fnXorOpen_kept

theorem execLeBracketClose_kept (x0 : State) :
    kept (resState x0 (execLeBracketClose x0)) = kept x0 := by
  exact runInstr_kept _ _ _ _ _ fnBracketClose_kept

theorem execLeFp_kept (x0 x1 : Nat) (x2 : State) :
    kept (resState x2 (execLeFp x0 x1 x2)) = kept x2 := by
  exact runInstr_kept _ _ _ _ _ fnFp_kept

theorem execLeFn_kept (x0 x1 : Nat) (x2 : State) :
    kept (resState x2 (execLeFn x0 x1 x2)) = kept x2 := by
  exact runInstr_kept _ _ _ _ _ fnFn_kept

theorem execLeSt_kept (x0 x1 : Nat) (x2 : State) :
    kept (resState x2 (execLeSt x0 x1 x2)) = kept x2 := by
  exact runInstr_kept _ _ _ _ _ fnSt_kept

theorem execLeStn_kept (x0 x1 : Nat) (x2 : State) :
    kept (resState x2 (execLeStn x0 x1 x2)) = kept x2 := by
  exact runInstr_kept _ _ _ _ _ fnStn_kept

theorem execLeSet_kept (x0 x1 : Nat) (x2 : State) :
    kept (resState x2 (execLeSet x0 x1 x2)) = kept x2 := by
  exact runInstr_kept _ _ _ _ _ fnSet_kept

theorem execLeRst_kept (x0 x1 : Nat) (x2 : State) :
    kept (resState x2 (execLeRst x0 x1 x2)) = kept x2 := by
  exact runInstr_kept _ _ _ _ _ fnRst_kept

theorem execLeTon_kept (x0 x1 : Nat) (x2 : State) :
    kept (resState x2 (execLeTon x0 x1 x2)) = kept x2 := by
  exact runInstr_kept _ _ _ _ _ fnTon_kept

theorem execLeTof_kept (x0 x1 : Nat) (x2 : State) :
    kept (resState x2 (execLeTof x0 x1 x2)) = kept x2 := by
  exact runInstr_kept _ _ _ _ _ fnTof_kept

theorem execLeTp_kept (x0 x1 : Nat) (x2 : State) :
    kept (resState x2 (execLeTp x0 x1 x2)) = kept x2 := by
  exact runInstr_kept _ _ _ _ _ fnTp_kept

theorem execLeTrst_kept (x0 x1 : Nat) (x2 : State) :
    kept (resState x2 (execLeTrst x0 x1 x2)) = kept x2 := by
  exact runInstr_kept _ _ _ _ _ fnTrst_kept

theorem execLeTpv_kept (x0 x1 : Nat) (x2 : State) :
    kept (resState x2 (execLeTpv x0 x1 x2)) = kept x2 := by
  exact runInstr_kept _ _ _ _ _ fnTpv_kept

theorem execLeCtu_kept (x0 x1 : Nat) (x2 : State) :
    kept (resState x2 (execLeCtu x0 x1 x2)) = kept x2 := by
  exact runInstr_kept _ _ _ _ _ fnCtu_kept

theorem execLeCtd_kept (x0 x1 : Nat) (x2 : State) :
    kept (resState x2 (execLeCtd x0 x1 x2)) = kept x2 := by
  exact runInstr_kept _ _ _ _ _ fnCtd_kept

theorem execLeCrst_kept (x0 x1 : Nat) (x2 : State) :
    kept (resState x2 (execLeCrst x0 x1 x2)) = kept x2 := by
  exact runInstr_kept _ _ _ _ _ fnCrst_kept

theorem execLeCld_kept (x0 x1 : Nat) (x2 : State) :
    kept (resState x2 (execLeCld x0 x1 x2)) = kept x2 := by
  exact runInstr_kept _ _ _ _ _ fnCld_kept

theorem execLeCpv_kept (x0 x1 : Nat) (x2 : State) :
    kept (resState x2 (execLeCpv x0 x1 x2)) = kept x2 := by
  exact runInstr_kept _ _ _ _ _ fnCpv_kept

theorem execLeLw_kept (x0 x1 : Nat) (x2 : State) :
    kept (resState x2 (execLeLw x0 x1 x2)) = kept x2 := by
  exact runInstr_kept _ _ _ _ _ fnLw_kept

theorem execLeSw_kept (x0 x1 : Nat) (x2 : State) :
    kept (resState x2 (execLeSw x0 x1 x2)) = kept x2 := by
  exact runInstr_kept _ _ _ _ _ fnSw_kept

theorem execLeSwc_kept (x0 x1 : Nat) (x2 : State) :
    kept (resState x2 (execLeSwc x0 x1 x2)) = kept x2 := by
  exact runInstr_kept _ _ _ _ _ fnSwc_kept

theorem execLeLdh_kept (x0 x1 : Nat) (x2 : State) :
    kept (resState x2 (execLeLdh x0 x1 x2)) = kept x2 := by
  exact runInstr_kept _ _ _ _ _ fnLdh_kept

theorem execLeAdd_kept (x0 x1 : Nat) (x2 : State) :
    kept (resState x2 (execLeAdd x0 x1 x2)) = kept x2 := by
  exact runInstr_kept _ _ _ _ _ fnAdd_kept

theorem execLeSub_kept (x0 x1 : Nat) (x2 : State) :
    kept (resState x2 (execLeSub x0 x1 x2)) = kept x2 := by
  exact runInstr_kept _ _ _ _ _ fnSub_kept

theorem execLeMul_kept (x0 x1 : Nat) (x2 : State) :
    kept (resState x2 (execLeMul x0 x1 x2)) = kept x2 := by
  exact runInstr_kept _ _ _ _ _ fnMul_kept

theorem execLeDiv_kept (x0 x1 : Nat) (x2 : State) :
    kept (resState x2 (execLeDiv x0 x1 x2)) = kept x2 := by
  exact runInstr_kept _ _ _ _ _ fnDiv_kept

theorem execLeMod_kept (x0 x1 : Nat) (x2 : State) :
    kept (resState x2 (execLeMod x0 x1 x2)) = kept x2 := by
  exact runInstr_kept _ _ _ _ _ fnMod_kept

theorem execLeNeg_kept (x0 : State) :
    kept (resState x0 (execLeNeg x0)) = kept x0 := by
  exact runInstr_kept _ _ _ _ _ fnNeg_kept

theorem execLeAbs_kept (x0 : State) :
    kept (resState x0 (execLeAbs x0)) = kept x0 := by
  exact runInstr_kept _ _ _ _ _ fnAbs_kept

theorem execLeWand_kept (x0 x1 : Nat) (x2 : State) :
    kept (resState x2 (execLeWand x0 x1 x2)) = kept x2 := by
  exact runInstr_kept _ _ _ _ _ fnWand_kept

theorem execLeWor_kept (x0 x1 : Nat) (x2 : State) :
    kept (resState x2 (execLeWor x0 x1 x2)) = kept x2 := by
  exact runInstr_kept _ _ _ _ _ fnWor_kept

theorem execLeWxor_kept (x0 x1 : Nat) (x2 : State) :
    kept (resState x2 (execLeWxor x0 x1 x2)) = kept x2 := by
  exact runInstr_kept _ _ _ _ _ fnWxor_kept

theorem execLeWnot_kept (x0 : State) :
    kept (resState x0 (execLeWnot x0)) = kept x0 := by
  exact runInstr_kept _ _ _ _ _ fnWnot_kept

theorem execLeShl_kept (x0 x1 : Nat) (x2 : State) :
    kept (resState x2 (execLeShl x0 x1 x2)) = kept x2 := by
  exact runInstr_kept _ _ _ _ _ fnShl_kept

theorem execLeShr_kept (x0 x1 : Nat) (x2 : State) :
    kept (resState x2 (execLeShr x0 x1 x2)) = kept x2 := by
  exact runInstr_kept _ _ _ _ _ fnShr_kept

theorem execLeSar_kept (x0 x1 : Nat) (x2 : State) :
    kept (resState x2 (execLeSar x0 x1 x2)) = kept x2 := by
  exact runInstr_kept _ _ _ _ _ fnSar_kept

theorem execLeCeq_kept (x0 x1 : Nat) (x2 : State) :
    kept (resState x2 (execLeCeq x0 x1 x2)) = kept x2 := by
  exact runInstr_kept _ _ _ _ _ fnCeq_kept

theorem execLeCne_kept (x0 x1 : Nat) (x2 : State) :
    kept (resState x2 (execLeCne x0 x1 x2)) = kept x2 := by
  exact runInstr_kept _ _ _ _ _ fnCne_kept

theorem execLeClt_kept (x0 x1 : Nat) (x2 : State) :
    kept (resState x2 (execLeClt x0 x1 x2)) = kept x2 := by
  exact runInstr_kept _ _ _ _ _ fnClt_kept

theorem execLeCle_kept (x0 x1 : Nat) (x2 : State) :
    kept (resState x2 (execLeCle x0 x1 x2)) = kept x2 := by
  exact runInstr_kept _ _ _ _ _ fnCle_kept

theorem execLeCgt_kept (x0 x1 : Nat) (x2 : State) :
    kept (resState x2 (execLeCgt x0 x1 x2)) = kept x2 := by
  exact runInstr_kept _ _ _ _ _ fnCgt_kept

theorem execLeCge_kept (x0 x1 : Nat) (x2 : State) :
    kept (resState x2 (execLeCge x0 x1 x2)) = kept x2 := by
  exact runInstr_kept _ _ _ _ _ fnCge_kept

theorem execLeFadd_kept (x0 x1 : Nat) (x2 : State) :
    kept (resState x2 (execLeFadd x0 x1 x2)) = kept x2 := by
  exact runInstr_kept _ _ _ _ _ fnFadd_kept

theorem execLeFsub_kept (x0 x1 : Nat) (x2 : State) :
    kept (resState x2 (execLeFsub x0 x1 x2)) = kept x2 := by
  exact runInstr_kept _ _ _ _ _ fnFsub_kept

theorem execLeFmul_kept (x0 x1 : Nat) (x2 : State) :
    kept (resState x2 (execLeFmul x0 x1 x2)) = kept x2 := by
  exact runInstr_kept _ _ _ _ _ fnFmul_kept

theorem execLeFdiv_kept (x0 x1 : Nat) (x2 : State) :
    kept (resState x2 (execLeFdiv x0 x1 x2)) = kept x2 := by
  exact runInstr_kept _ _ _ _ _ fnFdiv_kept

theorem execLeFlt_kept (x0 : State) :
    kept (resState x0 (execLeFlt x0)) = kept x0 := by
  exact runInstr_kept _ _ _ _ _ fnFlt_kept

theorem execLeFix_kept (x0 : State) :
    kept (resState x0 (execLeFix x0)) = kept x0 := by
  exact runInstr_kept _ _ _ _ _ fnFix_kept

theorem execLeFclt_kept (x0 x1 : Nat) (x2 : State) :
    kept (resState x2 (execLeFclt x0 x1 x2)) = kept x2 := by
  exact runInstr_kept _ _ _ _ _ fnFclt_kept

theorem execLeFcgt_kept (x0 x1 : Nat) (x2 : State) :
    kept (resState x2 (execLeFcgt x0 x1 x2)) = kept x2 := by
  exact runInstr_kept _ _ _ _ _ fnFcgt_kept

theorem execLeFceq_kept (x0 x1 : Nat) (x2 : State) :
    kept (resState x2 (execLeFceq x0 x1 x2)) = kept x2 := by
  exact runInstr_kept _ _ _ _ _ fnFceq_kept

theorem execLeJmp_kept (x0 : Nat) (x1 : State) :
    kept (resState x1 (execLeJmp x0 x1)) = kept x1 := by
  exact runInstr_kept _ _ _ _ _ fnJmp_kept

theorem execLeJc_kept (x0 : Nat) (x1 : State) :
    kept (resState x1 (execLeJc x0 x1)) = kept x1 := by
  exact runInstr_kept _ _ _ _ _ fnJc_kept

theorem execLeJnc_kept (x0 : Nat) (x1 : State) :
    kept (resState x1 (execLeJnc x0 x1)) = kept x1 := by
  exact runInstr_kept _ _ _ _ _ fnJnc_kept

theorem execLeCall_kept (x0 : Nat) (x1 : State) :
    kept (resState x1 (execLeCall x0 x1)) = kept x1 := by
  exact runInstr_kept _ _ _ _ _ fnCall_kept

theorem execLeRet_kept (x0 : State) :
    kept (resState x0 (execLeRet x0)) = kept x0 := by
  exact runInstr_kept _ _ _ _ _ fnRet_kept

theorem execLeEnd_kept (x0 : State) :
    kept (resState x0 (execLeEnd x0)) = kept x0 := by
  simp only [execLeEnd, kept_mk, kept_fold, kept_ite, kept_ec_ite, ite_self, resState_next, resState_ite, runEnd_kept]

theorem execLeNop_kept (x0 : State) :
    kept (resState x0 (execLeNop x0)) = kept x0 := by
  exact runInstr_kept _ _ _ _ _ fnNop_kept

theorem execLeEvt_kept (x0 x1 : Nat) (x2 : State) :
    kept (resState x2 (execLeEvt x0 x1 x2)) = kept x2 := by
  exact runInstr_kept _ _ _ _ _ fnEvt_kept

theorem execLeLarm_kept (x0 x1 : Nat) (x2 : State) :
    kept (resState x2 (execLeLarm x0 x1 x2)) = kept x2 := by
  exact runInstr_kept _ _ _ _ _ fnLarm_kept

theorem execLeLcan_kept (x0 : State) :
    kept (resState x0 (execLeLcan x0)) = kept x0 := by
  exact runInstr_kept _ _ _ _ _ fnLcan_kept

theorem execLeStep_kept (x0 : Req) (x1 : Nat) (x2 : State) :
    kept (resState x2 (execLeStep x0 x1 x2)) = kept x2 := by
  unfold execLeStep
  simp only [resState_next]
  refine serve_kept _ _ _ _ ?_
  intro s
  simp only [kept_mk, kept_fold, kept_ite, kept_ec_ite, ite_self, resState_next, resState_ite, serve_kept, enterHold_kept, stepHeld_kept, answer_kept]

theorem execForceClear_kept (x0 : Req) (x1 : Nat) (x2 : State) :
    kept (resState x2 (execForceClear x0 x1 x2)) = kept x2 := by
  unfold execForceClear
  simp only [resState_next]
  refine serve_kept _ _ _ _ ?_
  intro s
  simp only [kept_mk, kept_fold, kept_ite, kept_ec_ite, ite_self, resState_next, resState_ite, serve_kept, applyForceClear_kept, schedTwin_kept, answer_kept]

theorem execForceList_kept (x0 : Req) (x1 : Nat) (x2 : State) :
    kept (resState x2 (execForceList x0 x1 x2)) = kept x2 := by
  unfold execForceList
  simp only [resState_next]
  refine serve_kept _ _ _ _ ?_
  intro s
  simp only [kept_mk, kept_fold, kept_ite, kept_ec_ite, ite_self, resState_next, resState_ite, serve_kept, respond_kept]

theorem execLaunchFire_kept (x0 : State) :
    kept (resState x0 (execLaunchFire x0)) = kept x0 := by
  unfold execLaunchFire
  repeat' split
  all_goals simp only [*, kept_mk, kept_fold, kept_ite, kept_ec_ite, ite_self, resState_next, resState_ite, fireEntry_kept]

theorem cell_kept (x0 : Bool) (x1 : State) (x2 : State → State) (h : ∀ s, kept (x2 s) = kept s) :
    kept (resState x1 (cell x0 x1 x2)) = kept x1 := by
  simp only [cell, *, kept_mk, kept_fold, kept_ite, kept_ec_ite, ite_self, resState_next, resState_ite]

theorem execRisiaHelloRx_kept (x0 : Bool) (x1 : Nat) (x2 : Bool) (x3 : Nat) (x4 : Bool) (x5 : List Byte) (x6 : State) :
    kept (resState x6 (execRisiaHelloRx x0 x1 x2 x3 x4 x5 x6)) = kept x6 := by
  unfold execRisiaHelloRx
  refine cell_kept _ _ _ ?_
  intro s
  simp only [kept_mk, kept_fold, kept_ite, kept_ec_ite, ite_self, resState_next, resState_ite, soloActive_kept, settleRoles_kept, cell_kept, tryJoin_kept, submit_kept, takeHello_kept]

theorem execRisiaHeartbeatRx_kept (x0 : Bool) (x1 x2 : Nat) (x3 : Bool) (x4 : Nat) (x5 : Bool) (x6 : Nat) (x7 : State) :
    kept (resState x7 (execRisiaHeartbeatRx x0 x1 x2 x3 x4 x5 x6 x7)) = kept x7 := by
  unfold execRisiaHeartbeatRx
  refine cell_kept _ _ _ ?_
  intro s
  simp only [kept_mk, kept_fold, kept_ite, kept_ec_ite, ite_self, resState_next, resState_ite, cell_kept, laneGood_kept, activeSolo_kept, partnerVerdict_kept, takeHeartbeat_kept]

theorem execRisiaTimeRx_kept (x0 : Bool) (x1 : Int) (x2 : State) :
    kept (resState x2 (execRisiaTimeRx x0 x1 x2)) = kept x2 := by
  unfold execRisiaTimeRx
  refine cell_kept _ _ _ ?_
  intro s
  simp only [kept_mk, kept_fold, kept_ite, kept_ec_ite, ite_self, resState_next, resState_ite, cell_kept, tryJoin_kept]

theorem execPairHeartbeatTx_kept (x0 : State) :
    kept (resState x0 (execPairHeartbeatTx x0)) = kept x0 := by
  simp only [execPairHeartbeatTx, kept_mk, kept_fold, kept_ite, kept_ec_ite, ite_self, resState_next, resState_ite, sendCell_kept]

theorem execRisiaAgreeRx_kept (x0 : Bool) (x1 x2 : Nat) (x3 : List Nat) (x4 x5 : Nat) (x6 : State) :
    kept (resState x6 (execRisiaAgreeRx x0 x1 x2 x3 x4 x5 x6)) = kept x6 := by
  unfold execRisiaAgreeRx
  refine cell_kept _ _ _ ?_
  intro s
  simp only [kept_mk, kept_fold, kept_ite, kept_ec_ite, ite_self, resState_next, resState_ite, keepAgree_kept, cell_kept, overrunTold_kept, firingAgreed_kept]

theorem execRisiaDescRx_kept (x0 : Bool) (x1 : Desc) (x2 : State) :
    kept (resState x2 (execRisiaDescRx x0 x1 x2)) = kept x2 := by
  unfold execRisiaDescRx
  refine cell_kept _ _ _ ?_
  intro s
  simp only [kept_mk, kept_fold, kept_ite, kept_ec_ite, ite_self, resState_next, resState_ite, keepAgree_kept, cell_kept]

theorem execRisiaDigestRx_kept (x0 : Bool) (x1 x2 : Nat) (x3 : State) :
    kept (resState x3 (execRisiaDigestRx x0 x1 x2 x3)) = kept x3 := by
  unfold execRisiaDigestRx
  refine cell_kept _ _ _ ?_
  intro s
  simp only [kept_mk, kept_fold, kept_ite, kept_ec_ite, ite_self, resState_next, resState_ite, cell_kept, digestsMeet_kept]

theorem execRisiaControlRx_kept (x0 : Bool) (x1 : List Nat) (x2 : State) :
    kept (resState x2 (execRisiaControlRx x0 x1 x2)) = kept x2 := by
  unfold execRisiaControlRx
  refine cell_kept _ _ _ ?_
  intro s
  simp only [kept_mk, kept_fold, kept_ite, kept_ec_ite, ite_self, resState_next, resState_ite, cell_kept, control_kept]

theorem execRisiaBulkRx_kept (x0 : Bool) (x1 x2 x3 : Nat) (x4 : List Byte) (x5 : State) :
    kept (resState x5 (execRisiaBulkRx x0 x1 x2 x3 x4 x5)) = kept x5 := by
  unfold execRisiaBulkRx
  refine cell_kept _ _ _ ?_
  intro s
  simp only [kept_mk, kept_fold, kept_ite, kept_ec_ite, ite_self, resState_next, resState_ite, cell_kept, imageCell_kept]

theorem execPlkLaneDown_kept (x0 : Nat) (x1 : State) :
    kept (resState x1 (execPlkLaneDown x0 x1)) = kept x1 := by
  simp only [execPlkLaneDown, kept_mk, kept_fold, kept_ite, kept_ec_ite, ite_self, resState_next, resState_ite, onPaths_kept, submit_kept]

theorem execHbInPulse_kept (x0 : Nat) (x1 : State) :
    kept (resState x1 (execHbInPulse x0 x1)) = kept x1 := by
  simp only [execHbInPulse, kept_mk, kept_fold, kept_ite, kept_ec_ite, ite_self, resState_next, resState_ite, pulseTaken_kept]

theorem execHbWireSilent_kept (x0 : State) :
    kept (resState x0 (execHbWireSilent x0)) = kept x0 := by
  simp only [execHbWireSilent, kept_mk, kept_fold, kept_ite, kept_ec_ite, ite_self, resState_next, resState_ite, onPaths_kept]

theorem execBindInChange_kept (x0 : Bool) (x1 : State) :
    kept (resState x1 (execBindInChange x0 x1)) = kept x1 := by
  simp only [execBindInChange, kept_mk, kept_fold, kept_ite, kept_ec_ite, ite_self, resState_next, resState_ite, bindFell_kept, bindRose_kept]

theorem execBindHoldDrop_kept (x0 : State) :
    kept (resState x0 (execBindHoldDrop x0)) = kept x0 := by
  simp only [execBindHoldDrop, kept_mk, kept_fold, kept_ite, kept_ec_ite, ite_self, resState_next, resState_ite]

theorem execBindFault_kept (x0 : State) :
    kept (resState x0 (execBindFault x0)) = kept x0 := by
  simp only [execBindFault, kept_mk, kept_fold, kept_ite, kept_ec_ite, ite_self, resState_next, resState_ite, submit_kept]

theorem execEstablished_kept (x0 : State) :
    kept (resState x0 (execEstablished x0)) = kept x0 := by
  simp only [execEstablished, kept_mk, kept_fold, kept_ite, kept_ec_ite, ite_self, resState_next, resState_ite]

theorem execLinkStartTimeout_kept (x0 : State) :
    kept (resState x0 (execLinkStartTimeout x0)) = kept x0 := by
  unfold execLinkStartTimeout
  repeat' split
  all_goals simp only [*, kept_mk, kept_fold, kept_ite, kept_ec_ite, ite_self, resState_next, resState_ite, soloActive_kept, enterCold_kept]

theorem execJoinSnapshotDone_kept (x0 : Snap) (x1 : State) :
    kept (resState x1 (execJoinSnapshotDone x0 x1)) = kept x1 := by
  simp only [execJoinSnapshotDone, kept_mk, kept_fold, kept_ite, kept_ec_ite, ite_self, resState_next, resState_ite, pubsById_kept, loadSnapLogic_kept, loadSnapMigrate_kept, refreshPads_kept, loadSnapGraph_kept]

theorem execJoinCatchupDone_kept (x0 : State) :
    kept (resState x0 (execJoinCatchupDone x0)) = kept x0 := by
  simp only [execJoinCatchupDone, kept_mk, kept_fold, kept_ite, kept_ec_ite, ite_self, resState_next, resState_ite, setPair_kept, refreshPads_kept, sendCell_kept, writeRetain_kept]

theorem execJoinFailed_kept (x0 : Bool) (x1 : State) :
    kept (resState x1 (execJoinFailed x0 x1)) = kept x1 := by
  simp only [execJoinFailed, kept_mk, kept_fold, kept_ite, kept_ec_ite, ite_self, resState_next, resState_ite, failJoin_kept]

theorem execJoinRetry_kept (x0 : State) :
    kept (resState x0 (execJoinRetry x0)) = kept x0 := by
  simp only [execJoinRetry, kept_mk, kept_fold, kept_ite, kept_ec_ite, ite_self, resState_next, resState_ite, tryJoin_kept]

theorem execMigrateWarmDone_kept (x0 : State) :
    kept (resState x0 (execMigrateWarmDone x0)) = kept x0 := by
  simp only [execMigrateWarmDone, kept_mk, kept_fold, kept_ite, kept_ec_ite, ite_self, resState_next, resState_ite]

theorem execAgreementDueMissing_kept (x0 : Nat) (x1 : State) :
    kept (resState x1 (execAgreementDueMissing x0 x1)) = kept x1 := by
  simp only [execAgreementDueMissing, kept_mk, kept_fold, kept_ite, kept_ec_ite, ite_self, resState_next, resState_ite, sendCell_kept, diverge_kept]

theorem execVerdictComplete_kept (x0 : Bool) (x1 : State) :
    kept (resState x1 (execVerdictComplete x0 x1)) = kept x1 := by
  simp only [execVerdictComplete, kept_mk, kept_fold, kept_ite, kept_ec_ite, ite_self, resState_next, resState_ite, resolveVerdict_kept, sendCell_kept]

theorem execProvisionalTimeout_kept (x0 : State) :
    kept (resState x0 (execProvisionalTimeout x0)) = kept x0 := by
  unfold execProvisionalTimeout
  split <;> simp only [kept_mk, kept_fold, kept_ite, kept_ec_ite, ite_self, resState_next, resState_ite, sendCell_kept, diverge_kept]

theorem execHandoverWave_kept (x0 : State) :
    kept (resState x0 (execHandoverWave x0)) = kept x0 := by
  simp only [execHandoverWave, kept_mk, kept_fold, kept_ite, kept_ec_ite, ite_self, resState_next, resState_ite, handoverAt_kept]

theorem execPairDrill_kept (x0 : Req) (x1 : Nat) (x2 : State) :
    kept (resState x2 (execPairDrill x0 x1 x2)) = kept x2 := by
  unfold execPairDrill
  simp only [resState_next]
  refine serve_kept _ _ _ _ ?_
  intro s
  simp only [kept_mk, kept_fold, kept_ite, kept_ec_ite, ite_self, resState_next, resState_ite, serve_kept, nameHandover_kept, answer_kept]

theorem execDrillDwellEnd_kept (x0 : State) :
    kept (resState x0 (execDrillDwellEnd x0)) = kept x0 := by
  simp only [execDrillDwellEnd, kept_mk, kept_fold, kept_ite, kept_ec_ite, ite_self, resState_next, resState_ite, drillReturn_kept]

theorem execDrillDue_kept (x0 : State) :
    kept (resState x0 (execDrillDue x0)) = kept x0 := by
  simp only [execDrillDue, kept_mk, kept_fold, kept_ite, kept_ec_ite, ite_self, resState_next, resState_ite, submit_kept]

theorem execInjClear_kept (x0 : Req) (x1 : Nat) (x2 : State) :
    kept (resState x2 (execInjClear x0 x1 x2)) = kept x2 := by
  unfold execInjClear
  simp only [resState_next]
  refine serve_kept _ _ _ _ ?_
  intro s
  simp only [kept_mk, kept_fold, kept_ite, kept_ec_ite, ite_self, resState_next, resState_ite, serve_kept, endInjs_kept, answer_kept]

theorem execInjDurationEnd_kept (x0 : Nat) (x1 : State) :
    kept (resState x1 (execInjDurationEnd x0 x1)) = kept x1 := by
  unfold execInjDurationEnd
  split <;> simp only [kept_mk, kept_fold, kept_ite, kept_ec_ite, ite_self, resState_next, resState_ite, endInj_kept]

theorem execTwNoiseFloor_kept (x0 : Nat) (x1 : State) :
    kept (resState x1 (execTwNoiseFloor x0 x1)) = kept x1 := by
  simp only [execTwNoiseFloor, kept_mk, kept_fold, kept_ite, kept_ec_ite, ite_self, resState_next, resState_ite, updTw_kept, fireDet_kept]

theorem execTwNoiseCleared_kept (x0 : Nat) (x1 : State) :
    kept (resState x1 (execTwNoiseCleared x0 x1)) = kept x1 := by
  simp only [execTwNoiseCleared, kept_mk, kept_fold, kept_ite, kept_ec_ite, ite_self, resState_next, resState_ite, updTw_kept, clearDet_kept, submit_kept]

theorem execTwRearm_kept (x0 : Nat) (x1 : State) :
    kept (resState x1 (execTwRearm x0 x1)) = kept x1 := by
  simp only [execTwRearm, kept_mk, kept_fold, kept_ite, kept_ec_ite, ite_self, resState_next, resState_ite, updTw_kept]

theorem execTwLeadWindowClose_kept (x0 : Nat) (x1 : State) :
    kept (resState x1 (execTwLeadWindowClose x0 x1)) = kept x1 := by
  unfold execTwLeadWindowClose
  split <;> simp only [kept_mk, kept_fold, kept_ite, kept_ec_ite, ite_self, resState_next, resState_ite, closeWindow_kept]

theorem execTwSupervisionEnd_kept (x0 : Nat) (x1 x2 : List Int) (x3 : State) :
    kept (resState x3 (execTwSupervisionEnd x0 x1 x2 x3)) = kept x3 := by
  unfold execTwSupervisionEnd
  repeat' (first
    | (simp only [*, kept_mk, kept_fold, kept_ite, kept_ec_ite, ite_self, resState_next, resState_ite, putBurst_kept, supReading_kept, issueDesc_kept]; done)
    | (simp only [kept_mk, kept_fold, kept_ite, kept_ec_ite, ite_self, resState_next, resState_ite, putBurst_kept, supReading_kept, issueDesc_kept, kept_foldl]; done)
    | split
    | (with_reducible refine serve_kept _ _ _ _ ?_; intro _)
    | (with_reducible refine serveWrite_kept _ _ _ ?_; intro _)
    | (dsimp only; split)
    | (with_reducible refine (kept_foldl _ _ _ ?_).trans ?_ <;> try intro _ _)
    | (simp only [kept_mk, kept_fold, kept_ite, kept_ec_ite, ite_self, resState_next, resState_ite, putBurst_kept, supReading_kept, issueDesc_kept]; first | split | (with_reducible refine serve_kept _ _ _ _ ?_; intro _) | (with_reducible refine (kept_foldl _ _ _ ?_).trans ?_ <;> try intro _ _))
    | (rename_i h; first | rw [kept_of_snd h] | rw [kept_of_fst h])
    | (rename_i h _; first | rw [kept_of_snd h] | rw [kept_of_fst h])
    | (rename_i h _ _; first | rw [kept_of_snd h] | rw [kept_of_fst h])
    | (dsimp only; rename_i h; first | rw [kept_of_snd h] | rw [kept_of_fst h])
    | (dsimp only; rename_i h _; first | rw [kept_of_snd h] | rw [kept_of_fst h])
    | (dsimp only; rename_i h _ _; first | rw [kept_of_snd h] | rw [kept_of_fst h]))

theorem execTwExchangeSend_kept (x0 : State) :
    kept (resState x0 (execTwExchangeSend x0)) = kept x0 := by
  unfold execTwExchangeSend
  repeat' (first
    | (simp only [*, kept_mk, kept_fold, kept_ite, kept_ec_ite, ite_self, resState_next, resState_ite, sendUdpOn_kept]; done)
    | (simp only [kept_mk, kept_fold, kept_ite, kept_ec_ite, ite_self, resState_next, resState_ite, sendUdpOn_kept, kept_foldl]; done)
    | split
    | (with_reducible refine serve_kept _ _ _ _ ?_; intro _)
    | (with_reducible refine serveWrite_kept _ _ _ ?_; intro _)
    | (dsimp only; split)
    | (with_reducible refine (kept_foldl _ _ _ ?_).trans ?_ <;> try intro _ _)
    | (simp only [kept_mk, kept_fold, kept_ite, kept_ec_ite, ite_self, resState_next, resState_ite, sendUdpOn_kept]; first | split | (with_reducible refine serve_kept _ _ _ _ ?_; intro _) | (with_reducible refine (kept_foldl _ _ _ ?_).trans ?_ <;> try intro _ _))
    | (rename_i h; first | rw [kept_of_snd h] | rw [kept_of_fst h])
    | (rename_i h _; first | rw [kept_of_snd h] | rw [kept_of_fst h])
    | (rename_i h _ _; first | rw [kept_of_snd h] | rw [kept_of_fst h])
    | (dsimp only; rename_i h; first | rw [kept_of_snd h] | rw [kept_of_fst h])
    | (dsimp only; rename_i h _; first | rw [kept_of_snd h] | rw [kept_of_fst h])
    | (dsimp only; rename_i h _ _; first | rw [kept_of_snd h] | rw [kept_of_fst h]))

theorem execTwMsgRx_kept (x0 : List Byte) (x1 : State) :
    kept (resState x1 (execTwMsgRx x0 x1)) = kept x1 := by
  simp only [execTwMsgRx, kept_mk, kept_fold, kept_ite, kept_ec_ite, ite_self, resState_next, resState_ite, sendAgree_kept, submit_kept, holdMsg_kept]

theorem execTwMsgExpiry_kept (x0 : State) :
    kept (resState x0 (execTwMsgExpiry x0)) = kept x0 := by
  simp only [execTwMsgExpiry, kept_mk, kept_fold, kept_ite, kept_ec_ite, ite_self, resState_next, resState_ite]

theorem execTwBurstClose_kept (x0 : Nat) (x1 : State) :
    kept (resState x1 (execTwBurstClose x0 x1)) = kept x1 := by
  unfold execTwBurstClose
  split <;> simp only [kept_mk, kept_fold, kept_ite, kept_ec_ite, ite_self, resState_next, resState_ite, endBurst_kept]

theorem execTwArrival_kept (x0 x1 x2 : Nat) (x3 : List Int) (x4 : Nat) (x5 : Bool) (x6 : Int) (x7 : State) :
    kept (resState x7 (execTwArrival x0 x1 x2 x3 x4 x5 x6 x7)) = kept x7 := by
  simp only [execTwArrival, kept_mk, kept_fold, kept_ite, kept_ec_ite, ite_self, resState_next, resState_ite, updTw_kept, arriveBurst_kept, arrivalDesc_kept]

theorem execDescriptorEntry_kept (x0 : State) :
    kept (resState x0 (execDescriptorEntry x0)) = kept x0 := by
  unfold execDescriptorEntry
  repeat' split
  all_goals simp only [*, kept_mk, kept_fold, kept_ite, kept_ec_ite, ite_self, resState_next, resState_ite, graphDesc_kept, agreeUsed_kept, followDesc_kept]

theorem execTwLocationDone_kept (x0 : Nat) (x1 : State) :
    kept (resState x1 (execTwLocationDone x0 x1)) = kept x1 := by
  unfold execTwLocationDone
  repeat' (first
    | (simp only [*, kept_mk, kept_fold, kept_ite, kept_ec_ite, ite_self, resState_next, resState_ite, locate_kept, pump_kept, measureVel_kept, endJob_kept, submit_kept]; done)
    | (simp only [kept_mk, kept_fold, kept_ite, kept_ec_ite, ite_self, resState_next, resState_ite, locate_kept, pump_kept, measureVel_kept, endJob_kept, submit_kept, kept_foldl]; done)
    | split
    | (with_reducible refine serve_kept _ _ _ _ ?_; intro _)
    | (with_reducible refine serveWrite_kept _ _ _ ?_; intro _)
    | (dsimp only; split)
    | (with_reducible refine (kept_foldl _ _ _ ?_).trans ?_ <;> try intro _ _)
    | (simp only [kept_mk, kept_fold, kept_ite, kept_ec_ite, ite_self, resState_next, resState_ite, locate_kept, pump_kept, measureVel_kept, endJob_kept, submit_kept]; first | split | (with_reducible refine serve_kept _ _ _ _ ?_; intro _) | (with_reducible refine (kept_foldl _ _ _ ?_).trans ?_ <;> try intro _ _))
    | (rename_i h; first | rw [kept_of_snd h] | rw [kept_of_fst h])
    | (rename_i h _; first | rw [kept_of_snd h] | rw [kept_of_fst h])
    | (rename_i h _ _; first | rw [kept_of_snd h] | rw [kept_of_fst h])
    | (dsimp only; rename_i h; first | rw [kept_of_snd h] | rw [kept_of_fst h])
    | (dsimp only; rename_i h _; first | rw [kept_of_snd h] | rw [kept_of_fst h])
    | (dsimp only; rename_i h _ _; first | rw [kept_of_snd h] | rw [kept_of_fst h]))

theorem execTwVmeasTimeout_kept (x0 : State) :
    kept (resState x0 (execTwVmeasTimeout x0)) = kept x0 := by
  simp only [execTwVmeasTimeout, kept_mk, kept_fold, kept_ite, kept_ec_ite, ite_self, resState_next, resState_ite]

theorem execRotationStepStart_kept (x0 : State) :
    kept (resState x0 (execRotationStepStart x0)) = kept x0 := by
  simp only [execRotationStepStart, kept_mk, kept_fold, kept_ite, kept_ec_ite, ite_self, resState_next, resState_ite]

theorem execRotationCalEnd_kept (x0 x1 : Int) (x2 : List Int) (x3 : State) :
    kept (resState x3 (execRotationCalEnd x0 x1 x2 x3)) = kept x3 := by
  simp only [execRotationCalEnd, kept_mk, kept_fold, kept_ite, kept_ec_ite, ite_self, resState_next, resState_ite, fireDetOnce_kept, removeSlice_kept]

theorem execRotationDecision_kept (x0 x1 : Nat) (x2 : State) :
    kept (resState x2 (execRotationDecision x0 x1 x2)) = kept x2 := by
  simp only [execRotationDecision, kept_mk, kept_fold, kept_ite, kept_ec_ite, ite_self, resState_next, resState_ite, voidStep_kept, serveBy_kept, resolveMark_kept]

theorem execReferenceCheckDone_kept (x0 : List Int) (x1 : State) :
    kept (resState x1 (execReferenceCheckDone x0 x1)) = kept x1 := by
  unfold execReferenceCheckDone
  repeat' (first
    | (simp only [*, kept_mk, kept_fold, kept_ite, kept_ec_ite, ite_self, resState_next, resState_ite, serveBy_kept, mismatchEnd_kept]; done)
    | (simp only [kept_mk, kept_fold, kept_ite, kept_ec_ite, ite_self, resState_next, resState_ite, serveBy_kept, mismatchEnd_kept, kept_foldl]; done)
    | split
    | (with_reducible refine serve_kept _ _ _ _ ?_; intro _)
    | (with_reducible refine serveWrite_kept _ _ _ ?_; intro _)
    | (dsimp only; split)
    | (with_reducible refine (kept_foldl _ _ _ ?_).trans ?_ <;> try intro _ _)
    | (simp only [kept_mk, kept_fold, kept_ite, kept_ec_ite, ite_self, resState_next, resState_ite, serveBy_kept, mismatchEnd_kept]; first | split | (with_reducible refine serve_kept _ _ _ _ ?_; intro _) | (with_reducible refine (kept_foldl _ _ _ ?_).trans ?_ <;> try intro _ _))
    | (rename_i h; first | rw [kept_of_snd h] | rw [kept_of_fst h])
    | (rename_i h _; first | rw [kept_of_snd h] | rw [kept_of_fst h])
    | (rename_i h _ _; first | rw [kept_of_snd h] | rw [kept_of_fst h])
    | (dsimp only; rename_i h; first | rw [kept_of_snd h] | rw [kept_of_fst h])
    | (dsimp only; rename_i h _; first | rw [kept_of_snd h] | rw [kept_of_fst h])
    | (dsimp only; rename_i h _ _; first | rw [kept_of_snd h] | rw [kept_of_fst h]))

theorem execSpareConnectDone_kept (x0 : State) :
    kept (resState x0 (execSpareConnectDone x0)) = kept x0 := by
  simp only [execSpareConnectDone, kept_mk, kept_fold, kept_ite, kept_ec_ite, ite_self, resState_next, resState_ite, serveBy_kept]

theorem execSvFrameRx_kept (x0 : SvFrame) (x1 : State) :
    kept (resState x1 (execSvFrameRx x0 x1)) = kept x1 := by
  unfold execSvFrameRx
  split <;> simp only [kept_mk, kept_fold, kept_ite, kept_ec_ite, ite_self, resState_next, resState_ite, svTake_kept, updSv_kept, settleSv_kept, svLost_kept]

theorem execHighRateBlock_kept (x0 x1 : Nat) (x2 : List (Nat × List Int × Bool)) (x3 : List Nat) (x4 : State) :
    kept (resState x4 (execHighRateBlock x0 x1 x2 x3 x4)) = kept x4 := by
  unfold execHighRateBlock
  repeat' (first
    | (simp only [*, kept_mk, kept_fold, kept_ite, kept_ec_ite, ite_self, resState_next, resState_ite, recHigh_kept, twBlock_kept]; done)
    | (simp only [kept_mk, kept_fold, kept_ite, kept_ec_ite, ite_self, resState_next, resState_ite, recHigh_kept, twBlock_kept, kept_foldl]; done)
    | split
    | (with_reducible refine serve_kept _ _ _ _ ?_; intro _)
    | (with_reducible refine serveWrite_kept _ _ _ ?_; intro _)
    | (dsimp only; split)
    | (with_reducible refine (kept_foldl _ _ _ ?_).trans ?_ <;> try intro _ _)
    | (simp only [kept_mk, kept_fold, kept_ite, kept_ec_ite, ite_self, resState_next, resState_ite, recHigh_kept, twBlock_kept]; first | split | (with_reducible refine serve_kept _ _ _ _ ?_; intro _) | (with_reducible refine (kept_foldl _ _ _ ?_).trans ?_ <;> try intro _ _))
    | (rename_i h; first | rw [kept_of_snd h] | rw [kept_of_fst h])
    | (rename_i h _; first | rw [kept_of_snd h] | rw [kept_of_fst h])
    | (rename_i h _ _; first | rw [kept_of_snd h] | rw [kept_of_fst h])
    | (dsimp only; rename_i h; first | rw [kept_of_snd h] | rw [kept_of_fst h])
    | (dsimp only; rename_i h _; first | rw [kept_of_snd h] | rw [kept_of_fst h])
    | (dsimp only; rename_i h _ _; first | rw [kept_of_snd h] | rw [kept_of_fst h]))

theorem execAccSnap_kept (x0 : Req) (x1 x2 : Nat) (x3 : State) :
    kept (resState x3 (execAccSnap x0 x1 x2 x3)) = kept x3 := by
  unfold execAccSnap
  simp only [resState_next]
  refine serveAs_kept _ _ _ _ _ _ ?_
  intro s
  simp only [kept_mk, kept_fold, kept_ite, kept_ec_ite, ite_self, resState_next, resState_ite, serveAs_kept, schedTwin_kept, respond_kept, answer_kept]

theorem execHealthRead_kept (x0 : Req) (x1 : Nat) (x2 : State) :
    kept (resState x2 (execHealthRead x0 x1 x2)) = kept x2 := by
  unfold execHealthRead
  simp only [resState_next]
  refine serve_kept _ _ _ _ ?_
  intro s
  simp only [kept_mk, kept_fold, kept_ite, kept_ec_ite, ite_self, resState_next, resState_ite, serve_kept, respond_kept, answer_kept]

theorem execMonitorSample_kept (x0 x1 : Nat) (x2 : Bool) (x3 : State) :
    kept (resState x3 (execMonitorSample x0 x1 x2 x3)) = kept x3 := by
  unfold execMonitorSample
  split
  · rfl
  · rw [resState_next, sampleMonitors_kept, kept_mk, kept_fold]

theorem execMonitorLimitCrossed_kept (x0 : Nat) (x1 : Int) (x2 : State) :
    kept (resState x2 (execMonitorLimitCrossed x0 x1 x2)) = kept x2 := by
  unfold execMonitorLimitCrossed
  repeat' split
  all_goals simp only [*, kept_mk, kept_fold, kept_ite, kept_ec_ite, ite_self, resState_next, resState_ite, monValue_kept]

theorem execDetectorHoldExpiry_kept (x0 : Nat) (x1 : State) :
    kept (resState x1 (execDetectorHoldExpiry x0 x1)) = kept x1 := by
  simp only [execDetectorHoldExpiry, kept_mk, kept_fold, kept_ite, kept_ec_ite, ite_self, resState_next, resState_ite]

theorem execDieTempHigh_kept (x0 : Int) (x1 : State) :
    kept (resState x1 (execDieTempHigh x0 x1)) = kept x1 := by
  simp only [execDieTempHigh, kept_mk, kept_fold, kept_ite, kept_ec_ite, ite_self, resState_next, resState_ite, monValue_kept, fireDet_kept]

theorem execDieTempNormal_kept (x0 : Int) (x1 : State) :
    kept (resState x1 (execDieTempNormal x0 x1)) = kept x1 := by
  simp only [execDieTempNormal, kept_mk, kept_fold, kept_ite, kept_ec_ite, ite_self, resState_next, resState_ite, monValue_kept, clearDetAll_kept]

theorem execMgmtWatchdog_kept (x0 : Nat) (x1 : State) :
    kept (resState x1 (execMgmtWatchdog x0 x1)) = kept x1 := by
  simp only [execMgmtWatchdog, kept_mk, kept_fold, kept_ite, kept_ec_ite, ite_self, resState_next, resState_ite, mgmtRestart_kept]

theorem execMgmtRestartDone_kept (x0 : State) :
    kept (resState x0 (execMgmtRestartDone x0)) = kept x0 := by
  unfold execMgmtRestartDone
  repeat' (first
    | (simp only [*, kept_mk, kept_fold, kept_ite, kept_ec_ite, ite_self, resState_next, resState_ite, fireDetOnce_kept, sendUdp_kept, updPmu_kept]; done)
    | (simp only [kept_mk, kept_fold, kept_ite, kept_ec_ite, ite_self, resState_next, resState_ite, fireDetOnce_kept, sendUdp_kept, updPmu_kept, kept_foldl]; done)
    | split
    | (with_reducible refine serve_kept _ _ _ _ ?_; intro _)
    | (with_reducible refine serveWrite_kept _ _ _ ?_; intro _)
    | (dsimp only; split)
    | (with_reducible refine (kept_foldl _ _ _ ?_).trans ?_ <;> try intro _ _)
    | (simp only [kept_mk, kept_fold, kept_ite, kept_ec_ite, ite_self, resState_next, resState_ite, fireDetOnce_kept, sendUdp_kept, updPmu_kept]; first | split | (with_reducible refine serve_kept _ _ _ _ ?_; intro _) | (with_reducible refine (kept_foldl _ _ _ ?_).trans ?_ <;> try intro _ _))
    | (rename_i h; first | rw [kept_of_snd h] | rw [kept_of_fst h])
    | (rename_i h _; first | rw [kept_of_snd h] | rw [kept_of_fst h])
    | (rename_i h _ _; first | rw [kept_of_snd h] | rw [kept_of_fst h])
    | (dsimp only; rename_i h; first | rw [kept_of_snd h] | rw [kept_of_fst h])
    | (dsimp only; rename_i h _; first | rw [kept_of_snd h] | rw [kept_of_fst h])
    | (dsimp only; rename_i h _ _; first | rw [kept_of_snd h] | rw [kept_of_fst h]))

theorem execFlashErr_kept (x0 : State) :
    kept (resState x0 (execFlashErr x0)) = kept x0 := by
  simp only [execFlashErr, kept_mk, kept_fold, kept_ite, kept_ec_ite, ite_self, resState_next, resState_ite, fireDetFree_kept]

end Sys2Proof.Machine
end

