-- ==== Sys2Proof/Laws/Mem.lean ====
section
/-! SUPPORT. Laws of the sparse storage: a read after a write, other addresses, the canonical form. -/

namespace Sys2Proof.Machine

theorem smGet_smSet_ne (m : SMap) (a b v : Nat) (h : b ≠ a) : smGet (smSet m a v) b = smGet m b := by
  induction m with
  | nil => simp only [smSet]; split <;> simp [smGet, Ne.symm h]
  | cons p m ih =>
    obtain ⟨k, w⟩ := p
    simp only [smSet]
    split
    · split <;> simp [smGet, Ne.symm h]
    · split
      · subst_vars; split <;> simp [smGet, Ne.symm h]
      · simp [smGet, ih]

theorem smAbove_mono (m : SMap) (lo lo' : Nat) (h : lo' ≤ lo) (w : smAbove lo m = true) : smAbove lo' m = true := by
  cases m with
  | nil => rfl
  | cons p m => simp only [smAbove, Bool.and_eq_true, decide_eq_true_eq] at w ⊢; exact ⟨⟨h.trans w.1.1, w.1.2⟩, w.2⟩

/-- A key below every listed key reads 0. -/
theorem smGet_below (m : SMap) (lo a : Nat) (w : smAbove lo m = true) (h : a < lo) : smGet m a = 0 := by
  induction m generalizing lo with
  | nil => rfl
  | cons p m ih =>
    obtain ⟨k, v⟩ := p
    simp only [smAbove, Bool.and_eq_true, decide_eq_true_eq] at w
    rw [smGet, if_neg (by omega)]
    exact ih (k + 1) w.2 (by omega)

theorem smGet_smSet_above (m : SMap) (lo a v : Nat) (w : smAbove lo m = true) : smGet (smSet m a v) a = v := by
  induction m generalizing lo with
  | nil => simp only [smSet]; split <;> simp [smGet, *]
  | cons p m ih =>
    obtain ⟨k, x⟩ := p
    simp only [smAbove, Bool.and_eq_true, decide_eq_true_eq] at w
    simp only [smSet]
    split
    · split
      · subst_vars; rw [smGet, if_neg (by omega)]; exact smGet_below m (k + 1) a w.2 (by omega)
      · simp [smGet]
    · split
      · subst_vars; split
        · subst_vars; exact smGet_below m (k + 1) k w.2 (by omega)
        · simp [smGet]
      · rw [smGet, if_neg (by omega)]; exact ih _ w.2

theorem smAbove_smSet (m : SMap) (lo a v : Nat) (w : smAbove lo m = true) (h : lo ≤ a) : smAbove lo (smSet m a v) = true := by
  induction m generalizing lo with
  | nil => simp only [smSet]; split <;> simp_all [smAbove]
  | cons p m ih =>
    obtain ⟨k, x⟩ := p
    simp only [smAbove, Bool.and_eq_true, decide_eq_true_eq] at w
    simp only [smSet]
    split
    · split
      · simp only [smAbove, Bool.and_eq_true, decide_eq_true_eq]; exact w
      · simp only [smAbove, Bool.and_eq_true, decide_eq_true_eq]; exact ⟨⟨h, by omega⟩, ⟨by omega, w.1.2⟩, w.2⟩
    · split
      · subst_vars; split
        · exact smAbove_mono _ _ _ (by omega) w.2
        · simp only [smAbove, Bool.and_eq_true, decide_eq_true_eq]; exact ⟨⟨h, by omega⟩, w.2⟩
      · simp only [smAbove, Bool.and_eq_true, decide_eq_true_eq]; exact ⟨w.1, ih _ w.2 (by omega)⟩

/-- A write keeps the canonical form. -/
theorem smSet_wf (m : SMap) (a v : Nat) (w : smWf m = true) : smWf (smSet m a v) = true := smAbove_smSet m 0 a v w (Nat.zero_le a)

/-- A read gives what was written. -/
theorem smGet_smSet (m : SMap) (a v : Nat) (w : smWf m = true) : smGet (smSet m a v) a = v := smGet_smSet_above m 0 a v w

/-- A write of one bit keeps the canonical form. -/
theorem smSetBit_wf (m : SMap) (a : Nat) (b : Bool) (w : smWf m = true) : smWf (smSetBit m a b) = true := smSet_wf m a _ w

/-- A bit reads as written. -/
theorem smBit_smSetBit (m : SMap) (a : Nat) (b : Bool) (w : smWf m = true) : smBit (smSetBit m a b) a = b := by
  rw [smBit, smSetBit, smGet_smSet m a _ w]; cases b <;> rfl

end Sys2Proof.Machine
end

