-- ==== Sys2Proof/Laws/Ops.lean ====
section
/-! SUPPORT. What each shared operation can do: the units that it leaves, and what it gives. -/

namespace Sys2Proof.Machine
open Sys2Proof

theorem Only.refl (ps : List Part) (s : State) : Only ps s s := fun p => .inr (by cases p <;> rfl)

theorem Only.trans {ps : List Part} {a b c : State} (h : Only ps a b) (k : Only ps b c) : Only ps a c := fun p => by
  rcases h p with h | h
  · exact .inl h
  · rcases k p with k | k
    · exact .inl k
    · exact .inr (by cases p <;> exact Eq.trans k h)

theorem Only.mono {ps qs : List Part} {a b : State} (h : Only ps a b) (k : ∀ p ∈ ps, p ∈ qs) : Only qs a b := fun p =>
  (h p).imp (k p) id

/-- An event changes the event recorder alone (R504). -/
theorem emit_only (b : Block) (e : Event) (s : State) : Only [.evr] s (emit b e s) := fun p => by
  unfold emit dropEvent
  repeat' split
  all_goals cases p <;> simp [Same]

theorem submit_only (b : Block) (c v : Nat) (s : State) : Only [.evr] s (submit b c v s) := emit_only _ _ _

theorem submitParts_only (b : Block) (c v : Nat) (l : List (List Byte)) (s : State) : Only [.evr] s (submitParts b c v l s) :=
  emit_only _ _ _

theorem submitCmd_only (b : Block) (n c v : Nat) (s : State) : Only [.evr] s (submitCmd b n c v s) := emit_only _ _ _

@[simp] theorem emit_code (b : Block) (e : Event) (s : State) : (emit b e s).code = s.code := ((emit_only b e s) .code).resolve_left (by simp)

@[simp] theorem emit_pw (b : Block) (e : Event) (s : State) : (emit b e s).pw = s.pw := ((emit_only b e s) .pw).resolve_left (by simp)

@[simp] theorem emit_pads (b : Block) (e : Event) (s : State) : (emit b e s).pads = s.pads := ((emit_only b e s) .pads).resolve_left (by simp)

@[simp] theorem emit_fl (b : Block) (e : Event) (s : State) : (emit b e s).fl = s.fl := ((emit_only b e s) .fl).resolve_left (by simp)

@[simp] theorem emit_boot (b : Block) (e : Event) (s : State) : (emit b e s).boot = s.boot := ((emit_only b e s) .boot).resolve_left (by simp)

@[simp] theorem emit_img (b : Block) (e : Event) (s : State) : (emit b e s).img = s.img := ((emit_only b e s) .img).resolve_left (by simp)

@[simp] theorem emit_tu (b : Block) (e : Event) (s : State) : (emit b e s).tu = s.tu := ((emit_only b e s) .tu).resolve_left (by simp)

@[simp] theorem emit_acq (b : Block) (e : Event) (s : State) : (emit b e s).acq = s.acq := ((emit_only b e s) .acq).resolve_left (by simp)

@[simp] theorem emit_gr (b : Block) (e : Event) (s : State) : (emit b e s).gr = s.gr := ((emit_only b e s) .gr).resolve_left (by simp)

@[simp] theorem emit_le (b : Block) (e : Event) (s : State) : (emit b e s).le = s.le := ((emit_only b e s) .le).resolve_left (by simp)

@[simp] theorem emit_rio (b : Block) (e : Event) (s : State) : (emit b e s).rio = s.rio := ((emit_only b e s) .rio).resolve_left (by simp)

@[simp] theorem emit_fio (b : Block) (e : Event) (s : State) : (emit b e s).fio = s.fio := ((emit_only b e s) .fio).resolve_left (by simp)

@[simp] theorem emit_upc (b : Block) (e : Event) (s : State) : (emit b e s).upc = s.upc := ((emit_only b e s) .upc).resolve_left (by simp)

@[simp] theorem emit_dr (b : Block) (e : Event) (s : State) : (emit b e s).dr = s.dr := ((emit_only b e s) .dr).resolve_left (by simp)

@[simp] theorem emit_pr (b : Block) (e : Event) (s : State) : (emit b e s).pr = s.pr := ((emit_only b e s) .pr).resolve_left (by simp)

@[simp] theorem emit_net (b : Block) (e : Event) (s : State) : (emit b e s).net = s.net := ((emit_only b e s) .net).resolve_left (by simp)

@[simp] theorem emit_cmd (b : Block) (e : Event) (s : State) : (emit b e s).cmd = s.cmd := ((emit_only b e s) .cmd).resolve_left (by simp)

@[simp] theorem emit_sec (b : Block) (e : Event) (s : State) : (emit b e s).sec = s.sec := ((emit_only b e s) .sec).resolve_left (by simp)

@[simp] theorem emit_hlt (b : Block) (e : Event) (s : State) : (emit b e s).hlt = s.hlt := ((emit_only b e s) .hlt).resolve_left (by simp)

@[simp] theorem emit_pending (b : Block) (e : Event) (s : State) : (emit b e s).pending = s.pending := ((emit_only b e s) .pending).resolve_left (by simp)

/-- A detector that fires changes the event recorder and the detectors in force (R627, R629). -/
theorem fireDet_only (d i v : Nat) (s : State) : Only [.evr, .hlt] s (fireDet d i v s) := fun p => by
  unfold fireDet
  cases p <;> simp [Same]

theorem fireDetOnceP_only (d v : Nat) (l : List (List Byte)) (s : State) : Only [.evr, .hlt] s (fireDetOnceP d v l s) := fun p => by
  unfold fireDetOnceP
  cases p <;> simp [Same]

theorem fireDetOnce_only (d v : Nat) (s : State) : Only [.evr, .hlt] s (fireDetOnce d v s) := fireDetOnceP_only d v [] s

theorem clearDet_only (d i : Nat) (s : State) : Only [.hlt] s (clearDet d i s) := fun p => by cases p <;> simp [clearDet, Same]

theorem clearDetAll_only (d : Nat) (s : State) : Only [.hlt] s (clearDetAll d s) := fun p => by
  cases p <;> simp [clearDetAll, Same]

/-- A trigger changes the logic engine alone (R363). -/
theorem raiseTrig_only (k i e t1 t0 : Nat) (s : State) : Only [.le] s (raiseTrig k i e t1 t0 s) := fun p => by
  unfold raiseTrig
  split <;> cases p <;> simp [Same]

/-- A response changes the command processor and the HIRQ_N pad alone (R585). -/
theorem respondTo_only (a : Bool) (r : Req) (op : Nat) (st : Status) (m : Bool) (pl : List Byte) (s : State) :
    Only [.cmd, .pads] s (respondTo a r op st m pl s) := fun p => by cases p <;> simp [respondTo, setHirq, Same]

theorem respond_only (r : Req) (op : Nat) (st : Status) (m : Bool) (pl : List Byte) (s : State) :
    Only [.cmd, .pads] s (respond r op st m pl s) := respondTo_only false r op st m pl s

theorem answer_only (r : Req) (op : Nat) (st : Status) (s : State) : Only [.cmd, .pads] s (answer r op st s) := respond_only r op st false [] s

/-! Each unit that a shared operation leaves, as it stands before. -/

@[simp] theorem submit_code (b : Block) (c v : Nat) (s : State) : (submit b c v s).code = s.code :=
  ((submit_only b c v s) .code).resolve_left (by simp)

@[simp] theorem submit_pw (b : Block) (c v : Nat) (s : State) : (submit b c v s).pw = s.pw :=
  ((submit_only b c v s) .pw).resolve_left (by simp)

@[simp] theorem submit_pads (b : Block) (c v : Nat) (s : State) : (submit b c v s).pads = s.pads :=
  ((submit_only b c v s) .pads).resolve_left (by simp)

@[simp] theorem submit_fl (b : Block) (c v : Nat) (s : State) : (submit b c v s).fl = s.fl :=
  ((submit_only b c v s) .fl).resolve_left (by simp)

@[simp] theorem submit_boot (b : Block) (c v : Nat) (s : State) : (submit b c v s).boot = s.boot :=
  ((submit_only b c v s) .boot).resolve_left (by simp)

@[simp] theorem submit_img (b : Block) (c v : Nat) (s : State) : (submit b c v s).img = s.img :=
  ((submit_only b c v s) .img).resolve_left (by simp)

@[simp] theorem submit_tu (b : Block) (c v : Nat) (s : State) : (submit b c v s).tu = s.tu :=
  ((submit_only b c v s) .tu).resolve_left (by simp)

@[simp] theorem submit_acq (b : Block) (c v : Nat) (s : State) : (submit b c v s).acq = s.acq :=
  ((submit_only b c v s) .acq).resolve_left (by simp)

@[simp] theorem submit_gr (b : Block) (c v : Nat) (s : State) : (submit b c v s).gr = s.gr :=
  ((submit_only b c v s) .gr).resolve_left (by simp)

@[simp] theorem submit_le (b : Block) (c v : Nat) (s : State) : (submit b c v s).le = s.le :=
  ((submit_only b c v s) .le).resolve_left (by simp)

@[simp] theorem submit_rio (b : Block) (c v : Nat) (s : State) : (submit b c v s).rio = s.rio :=
  ((submit_only b c v s) .rio).resolve_left (by simp)

@[simp] theorem submit_fio (b : Block) (c v : Nat) (s : State) : (submit b c v s).fio = s.fio :=
  ((submit_only b c v s) .fio).resolve_left (by simp)

@[simp] theorem submit_upc (b : Block) (c v : Nat) (s : State) : (submit b c v s).upc = s.upc :=
  ((submit_only b c v s) .upc).resolve_left (by simp)

@[simp] theorem submit_dr (b : Block) (c v : Nat) (s : State) : (submit b c v s).dr = s.dr :=
  ((submit_only b c v s) .dr).resolve_left (by simp)

@[simp] theorem submit_pr (b : Block) (c v : Nat) (s : State) : (submit b c v s).pr = s.pr :=
  ((submit_only b c v s) .pr).resolve_left (by simp)

@[simp] theorem submit_net (b : Block) (c v : Nat) (s : State) : (submit b c v s).net = s.net :=
  ((submit_only b c v s) .net).resolve_left (by simp)

@[simp] theorem submit_cmd (b : Block) (c v : Nat) (s : State) : (submit b c v s).cmd = s.cmd :=
  ((submit_only b c v s) .cmd).resolve_left (by simp)

@[simp] theorem submit_sec (b : Block) (c v : Nat) (s : State) : (submit b c v s).sec = s.sec :=
  ((submit_only b c v s) .sec).resolve_left (by simp)

@[simp] theorem submit_hlt (b : Block) (c v : Nat) (s : State) : (submit b c v s).hlt = s.hlt :=
  ((submit_only b c v s) .hlt).resolve_left (by simp)

@[simp] theorem submit_pending (b : Block) (c v : Nat) (s : State) : (submit b c v s).pending = s.pending :=
  ((submit_only b c v s) .pending).resolve_left (by simp)

@[simp] theorem submitParts_code (b : Block) (c v : Nat) (l : List (List Byte)) (s : State) : (submitParts b c v l s).code = s.code :=
  ((submitParts_only b c v l s) .code).resolve_left (by simp)

@[simp] theorem submitParts_pw (b : Block) (c v : Nat) (l : List (List Byte)) (s : State) : (submitParts b c v l s).pw = s.pw :=
  ((submitParts_only b c v l s) .pw).resolve_left (by simp)

@[simp] theorem submitParts_pads (b : Block) (c v : Nat) (l : List (List Byte)) (s : State) : (submitParts b c v l s).pads = s.pads :=
  ((submitParts_only b c v l s) .pads).resolve_left (by simp)

@[simp] theorem submitParts_fl (b : Block) (c v : Nat) (l : List (List Byte)) (s : State) : (submitParts b c v l s).fl = s.fl :=
  ((submitParts_only b c v l s) .fl).resolve_left (by simp)

@[simp] theorem submitParts_boot (b : Block) (c v : Nat) (l : List (List Byte)) (s : State) : (submitParts b c v l s).boot = s.boot :=
  ((submitParts_only b c v l s) .boot).resolve_left (by simp)

@[simp] theorem submitParts_img (b : Block) (c v : Nat) (l : List (List Byte)) (s : State) : (submitParts b c v l s).img = s.img :=
  ((submitParts_only b c v l s) .img).resolve_left (by simp)

@[simp] theorem submitParts_tu (b : Block) (c v : Nat) (l : List (List Byte)) (s : State) : (submitParts b c v l s).tu = s.tu :=
  ((submitParts_only b c v l s) .tu).resolve_left (by simp)

@[simp] theorem submitParts_acq (b : Block) (c v : Nat) (l : List (List Byte)) (s : State) : (submitParts b c v l s).acq = s.acq :=
  ((submitParts_only b c v l s) .acq).resolve_left (by simp)

@[simp] theorem submitParts_gr (b : Block) (c v : Nat) (l : List (List Byte)) (s : State) : (submitParts b c v l s).gr = s.gr :=
  ((submitParts_only b c v l s) .gr).resolve_left (by simp)

@[simp] theorem submitParts_le (b : Block) (c v : Nat) (l : List (List Byte)) (s : State) : (submitParts b c v l s).le = s.le :=
  ((submitParts_only b c v l s) .le).resolve_left (by simp)

@[simp] theorem submitParts_rio (b : Block) (c v : Nat) (l : List (List Byte)) (s : State) : (submitParts b c v l s).rio = s.rio :=
  ((submitParts_only b c v l s) .rio).resolve_left (by simp)

@[simp] theorem submitParts_fio (b : Block) (c v : Nat) (l : List (List Byte)) (s : State) : (submitParts b c v l s).fio = s.fio :=
  ((submitParts_only b c v l s) .fio).resolve_left (by simp)

@[simp] theorem submitParts_upc (b : Block) (c v : Nat) (l : List (List Byte)) (s : State) : (submitParts b c v l s).upc = s.upc :=
  ((submitParts_only b c v l s) .upc).resolve_left (by simp)

@[simp] theorem submitParts_dr (b : Block) (c v : Nat) (l : List (List Byte)) (s : State) : (submitParts b c v l s).dr = s.dr :=
  ((submitParts_only b c v l s) .dr).resolve_left (by simp)

@[simp] theorem submitParts_pr (b : Block) (c v : Nat) (l : List (List Byte)) (s : State) : (submitParts b c v l s).pr = s.pr :=
  ((submitParts_only b c v l s) .pr).resolve_left (by simp)

@[simp] theorem submitParts_net (b : Block) (c v : Nat) (l : List (List Byte)) (s : State) : (submitParts b c v l s).net = s.net :=
  ((submitParts_only b c v l s) .net).resolve_left (by simp)

@[simp] theorem submitParts_cmd (b : Block) (c v : Nat) (l : List (List Byte)) (s : State) : (submitParts b c v l s).cmd = s.cmd :=
  ((submitParts_only b c v l s) .cmd).resolve_left (by simp)

@[simp] theorem submitParts_sec (b : Block) (c v : Nat) (l : List (List Byte)) (s : State) : (submitParts b c v l s).sec = s.sec :=
  ((submitParts_only b c v l s) .sec).resolve_left (by simp)

@[simp] theorem submitParts_hlt (b : Block) (c v : Nat) (l : List (List Byte)) (s : State) : (submitParts b c v l s).hlt = s.hlt :=
  ((submitParts_only b c v l s) .hlt).resolve_left (by simp)

@[simp] theorem submitParts_pending (b : Block) (c v : Nat) (l : List (List Byte)) (s : State) : (submitParts b c v l s).pending = s.pending :=
  ((submitParts_only b c v l s) .pending).resolve_left (by simp)

@[simp] theorem submitCmd_code (b : Block) (n c v : Nat) (s : State) : (submitCmd b n c v s).code = s.code :=
  ((submitCmd_only b n c v s) .code).resolve_left (by simp)

@[simp] theorem submitCmd_pw (b : Block) (n c v : Nat) (s : State) : (submitCmd b n c v s).pw = s.pw :=
  ((submitCmd_only b n c v s) .pw).resolve_left (by simp)

@[simp] theorem submitCmd_pads (b : Block) (n c v : Nat) (s : State) : (submitCmd b n c v s).pads = s.pads :=
  ((submitCmd_only b n c v s) .pads).resolve_left (by simp)

@[simp] theorem submitCmd_fl (b : Block) (n c v : Nat) (s : State) : (submitCmd b n c v s).fl = s.fl :=
  ((submitCmd_only b n c v s) .fl).resolve_left (by simp)

@[simp] theorem submitCmd_boot (b : Block) (n c v : Nat) (s : State) : (submitCmd b n c v s).boot = s.boot :=
  ((submitCmd_only b n c v s) .boot).resolve_left (by simp)

@[simp] theorem submitCmd_img (b : Block) (n c v : Nat) (s : State) : (submitCmd b n c v s).img = s.img :=
  ((submitCmd_only b n c v s) .img).resolve_left (by simp)

@[simp] theorem submitCmd_tu (b : Block) (n c v : Nat) (s : State) : (submitCmd b n c v s).tu = s.tu :=
  ((submitCmd_only b n c v s) .tu).resolve_left (by simp)

@[simp] theorem submitCmd_acq (b : Block) (n c v : Nat) (s : State) : (submitCmd b n c v s).acq = s.acq :=
  ((submitCmd_only b n c v s) .acq).resolve_left (by simp)

@[simp] theorem submitCmd_gr (b : Block) (n c v : Nat) (s : State) : (submitCmd b n c v s).gr = s.gr :=
  ((submitCmd_only b n c v s) .gr).resolve_left (by simp)

@[simp] theorem submitCmd_le (b : Block) (n c v : Nat) (s : State) : (submitCmd b n c v s).le = s.le :=
  ((submitCmd_only b n c v s) .le).resolve_left (by simp)

@[simp] theorem submitCmd_rio (b : Block) (n c v : Nat) (s : State) : (submitCmd b n c v s).rio = s.rio :=
  ((submitCmd_only b n c v s) .rio).resolve_left (by simp)

@[simp] theorem submitCmd_fio (b : Block) (n c v : Nat) (s : State) : (submitCmd b n c v s).fio = s.fio :=
  ((submitCmd_only b n c v s) .fio).resolve_left (by simp)

@[simp] theorem submitCmd_upc (b : Block) (n c v : Nat) (s : State) : (submitCmd b n c v s).upc = s.upc :=
  ((submitCmd_only b n c v s) .upc).resolve_left (by simp)

@[simp] theorem submitCmd_dr (b : Block) (n c v : Nat) (s : State) : (submitCmd b n c v s).dr = s.dr :=
  ((submitCmd_only b n c v s) .dr).resolve_left (by simp)

@[simp] theorem submitCmd_pr (b : Block) (n c v : Nat) (s : State) : (submitCmd b n c v s).pr = s.pr :=
  ((submitCmd_only b n c v s) .pr).resolve_left (by simp)

@[simp] theorem submitCmd_net (b : Block) (n c v : Nat) (s : State) : (submitCmd b n c v s).net = s.net :=
  ((submitCmd_only b n c v s) .net).resolve_left (by simp)

@[simp] theorem submitCmd_cmd (b : Block) (n c v : Nat) (s : State) : (submitCmd b n c v s).cmd = s.cmd :=
  ((submitCmd_only b n c v s) .cmd).resolve_left (by simp)

@[simp] theorem submitCmd_sec (b : Block) (n c v : Nat) (s : State) : (submitCmd b n c v s).sec = s.sec :=
  ((submitCmd_only b n c v s) .sec).resolve_left (by simp)

@[simp] theorem submitCmd_hlt (b : Block) (n c v : Nat) (s : State) : (submitCmd b n c v s).hlt = s.hlt :=
  ((submitCmd_only b n c v s) .hlt).resolve_left (by simp)

@[simp] theorem submitCmd_pending (b : Block) (n c v : Nat) (s : State) : (submitCmd b n c v s).pending = s.pending :=
  ((submitCmd_only b n c v s) .pending).resolve_left (by simp)

@[simp] theorem fireDet_code (d i v : Nat) (s : State) : (fireDet d i v s).code = s.code :=
  ((fireDet_only d i v s) .code).resolve_left (by simp)

@[simp] theorem fireDet_pw (d i v : Nat) (s : State) : (fireDet d i v s).pw = s.pw :=
  ((fireDet_only d i v s) .pw).resolve_left (by simp)

@[simp] theorem fireDet_pads (d i v : Nat) (s : State) : (fireDet d i v s).pads = s.pads :=
  ((fireDet_only d i v s) .pads).resolve_left (by simp)

@[simp] theorem fireDet_fl (d i v : Nat) (s : State) : (fireDet d i v s).fl = s.fl :=
  ((fireDet_only d i v s) .fl).resolve_left (by simp)

@[simp] theorem fireDet_boot (d i v : Nat) (s : State) : (fireDet d i v s).boot = s.boot :=
  ((fireDet_only d i v s) .boot).resolve_left (by simp)

@[simp] theorem fireDet_img (d i v : Nat) (s : State) : (fireDet d i v s).img = s.img :=
  ((fireDet_only d i v s) .img).resolve_left (by simp)

@[simp] theorem fireDet_tu (d i v : Nat) (s : State) : (fireDet d i v s).tu = s.tu :=
  ((fireDet_only d i v s) .tu).resolve_left (by simp)

@[simp] theorem fireDet_acq (d i v : Nat) (s : State) : (fireDet d i v s).acq = s.acq :=
  ((fireDet_only d i v s) .acq).resolve_left (by simp)

@[simp] theorem fireDet_gr (d i v : Nat) (s : State) : (fireDet d i v s).gr = s.gr :=
  ((fireDet_only d i v s) .gr).resolve_left (by simp)

@[simp] theorem fireDet_le (d i v : Nat) (s : State) : (fireDet d i v s).le = s.le :=
  ((fireDet_only d i v s) .le).resolve_left (by simp)

@[simp] theorem fireDet_rio (d i v : Nat) (s : State) : (fireDet d i v s).rio = s.rio :=
  ((fireDet_only d i v s) .rio).resolve_left (by simp)

@[simp] theorem fireDet_fio (d i v : Nat) (s : State) : (fireDet d i v s).fio = s.fio :=
  ((fireDet_only d i v s) .fio).resolve_left (by simp)

@[simp] theorem fireDet_upc (d i v : Nat) (s : State) : (fireDet d i v s).upc = s.upc :=
  ((fireDet_only d i v s) .upc).resolve_left (by simp)

@[simp] theorem fireDet_dr (d i v : Nat) (s : State) : (fireDet d i v s).dr = s.dr :=
  ((fireDet_only d i v s) .dr).resolve_left (by simp)

@[simp] theorem fireDet_pr (d i v : Nat) (s : State) : (fireDet d i v s).pr = s.pr :=
  ((fireDet_only d i v s) .pr).resolve_left (by simp)

@[simp] theorem fireDet_net (d i v : Nat) (s : State) : (fireDet d i v s).net = s.net :=
  ((fireDet_only d i v s) .net).resolve_left (by simp)

@[simp] theorem fireDet_cmd (d i v : Nat) (s : State) : (fireDet d i v s).cmd = s.cmd :=
  ((fireDet_only d i v s) .cmd).resolve_left (by simp)

@[simp] theorem fireDet_sec (d i v : Nat) (s : State) : (fireDet d i v s).sec = s.sec :=
  ((fireDet_only d i v s) .sec).resolve_left (by simp)

@[simp] theorem fireDet_pending (d i v : Nat) (s : State) : (fireDet d i v s).pending = s.pending :=
  ((fireDet_only d i v s) .pending).resolve_left (by simp)

@[simp] theorem fireDetOnce_code (d v : Nat) (s : State) : (fireDetOnce d v s).code = s.code :=
  ((fireDetOnce_only d v s) .code).resolve_left (by simp)

@[simp] theorem fireDetOnce_pw (d v : Nat) (s : State) : (fireDetOnce d v s).pw = s.pw :=
  ((fireDetOnce_only d v s) .pw).resolve_left (by simp)

@[simp] theorem fireDetOnce_pads (d v : Nat) (s : State) : (fireDetOnce d v s).pads = s.pads :=
  ((fireDetOnce_only d v s) .pads).resolve_left (by simp)

@[simp] theorem fireDetOnce_fl (d v : Nat) (s : State) : (fireDetOnce d v s).fl = s.fl :=
  ((fireDetOnce_only d v s) .fl).resolve_left (by simp)

@[simp] theorem fireDetOnce_boot (d v : Nat) (s : State) : (fireDetOnce d v s).boot = s.boot :=
  ((fireDetOnce_only d v s) .boot).resolve_left (by simp)

@[simp] theorem fireDetOnce_img (d v : Nat) (s : State) : (fireDetOnce d v s).img = s.img :=
  ((fireDetOnce_only d v s) .img).resolve_left (by simp)

@[simp] theorem fireDetOnce_tu (d v : Nat) (s : State) : (fireDetOnce d v s).tu = s.tu :=
  ((fireDetOnce_only d v s) .tu).resolve_left (by simp)

@[simp] theorem fireDetOnce_acq (d v : Nat) (s : State) : (fireDetOnce d v s).acq = s.acq :=
  ((fireDetOnce_only d v s) .acq).resolve_left (by simp)

@[simp] theorem fireDetOnce_gr (d v : Nat) (s : State) : (fireDetOnce d v s).gr = s.gr :=
  ((fireDetOnce_only d v s) .gr).resolve_left (by simp)

@[simp] theorem fireDetOnce_le (d v : Nat) (s : State) : (fireDetOnce d v s).le = s.le :=
  ((fireDetOnce_only d v s) .le).resolve_left (by simp)

@[simp] theorem fireDetOnce_rio (d v : Nat) (s : State) : (fireDetOnce d v s).rio = s.rio :=
  ((fireDetOnce_only d v s) .rio).resolve_left (by simp)

@[simp] theorem fireDetOnce_fio (d v : Nat) (s : State) : (fireDetOnce d v s).fio = s.fio :=
  ((fireDetOnce_only d v s) .fio).resolve_left (by simp)

@[simp] theorem fireDetOnce_upc (d v : Nat) (s : State) : (fireDetOnce d v s).upc = s.upc :=
  ((fireDetOnce_only d v s) .upc).resolve_left (by simp)

@[simp] theorem fireDetOnce_dr (d v : Nat) (s : State) : (fireDetOnce d v s).dr = s.dr :=
  ((fireDetOnce_only d v s) .dr).resolve_left (by simp)

@[simp] theorem fireDetOnce_pr (d v : Nat) (s : State) : (fireDetOnce d v s).pr = s.pr :=
  ((fireDetOnce_only d v s) .pr).resolve_left (by simp)

@[simp] theorem fireDetOnce_net (d v : Nat) (s : State) : (fireDetOnce d v s).net = s.net :=
  ((fireDetOnce_only d v s) .net).resolve_left (by simp)

@[simp] theorem fireDetOnce_cmd (d v : Nat) (s : State) : (fireDetOnce d v s).cmd = s.cmd :=
  ((fireDetOnce_only d v s) .cmd).resolve_left (by simp)

@[simp] theorem fireDetOnce_sec (d v : Nat) (s : State) : (fireDetOnce d v s).sec = s.sec :=
  ((fireDetOnce_only d v s) .sec).resolve_left (by simp)

@[simp] theorem fireDetOnce_pending (d v : Nat) (s : State) : (fireDetOnce d v s).pending = s.pending :=
  ((fireDetOnce_only d v s) .pending).resolve_left (by simp)

@[simp] theorem clearDet_code (d i : Nat) (s : State) : (clearDet d i s).code = s.code :=
  ((clearDet_only d i s) .code).resolve_left (by simp)

@[simp] theorem clearDet_pw (d i : Nat) (s : State) : (clearDet d i s).pw = s.pw :=
  ((clearDet_only d i s) .pw).resolve_left (by simp)

@[simp] theorem clearDet_pads (d i : Nat) (s : State) : (clearDet d i s).pads = s.pads :=
  ((clearDet_only d i s) .pads).resolve_left (by simp)

@[simp] theorem clearDet_fl (d i : Nat) (s : State) : (clearDet d i s).fl = s.fl :=
  ((clearDet_only d i s) .fl).resolve_left (by simp)

@[simp] theorem clearDet_boot (d i : Nat) (s : State) : (clearDet d i s).boot = s.boot :=
  ((clearDet_only d i s) .boot).resolve_left (by simp)

@[simp] theorem clearDet_img (d i : Nat) (s : State) : (clearDet d i s).img = s.img :=
  ((clearDet_only d i s) .img).resolve_left (by simp)

@[simp] theorem clearDet_tu (d i : Nat) (s : State) : (clearDet d i s).tu = s.tu :=
  ((clearDet_only d i s) .tu).resolve_left (by simp)

@[simp] theorem clearDet_acq (d i : Nat) (s : State) : (clearDet d i s).acq = s.acq :=
  ((clearDet_only d i s) .acq).resolve_left (by simp)

@[simp] theorem clearDet_gr (d i : Nat) (s : State) : (clearDet d i s).gr = s.gr :=
  ((clearDet_only d i s) .gr).resolve_left (by simp)

@[simp] theorem clearDet_le (d i : Nat) (s : State) : (clearDet d i s).le = s.le :=
  ((clearDet_only d i s) .le).resolve_left (by simp)

@[simp] theorem clearDet_rio (d i : Nat) (s : State) : (clearDet d i s).rio = s.rio :=
  ((clearDet_only d i s) .rio).resolve_left (by simp)

@[simp] theorem clearDet_fio (d i : Nat) (s : State) : (clearDet d i s).fio = s.fio :=
  ((clearDet_only d i s) .fio).resolve_left (by simp)

@[simp] theorem clearDet_upc (d i : Nat) (s : State) : (clearDet d i s).upc = s.upc :=
  ((clearDet_only d i s) .upc).resolve_left (by simp)

@[simp] theorem clearDet_dr (d i : Nat) (s : State) : (clearDet d i s).dr = s.dr :=
  ((clearDet_only d i s) .dr).resolve_left (by simp)

@[simp] theorem clearDet_evr (d i : Nat) (s : State) : (clearDet d i s).evr = s.evr :=
  ((clearDet_only d i s) .evr).resolve_left (by simp)

@[simp] theorem clearDet_pr (d i : Nat) (s : State) : (clearDet d i s).pr = s.pr :=
  ((clearDet_only d i s) .pr).resolve_left (by simp)

@[simp] theorem clearDet_net (d i : Nat) (s : State) : (clearDet d i s).net = s.net :=
  ((clearDet_only d i s) .net).resolve_left (by simp)

@[simp] theorem clearDet_cmd (d i : Nat) (s : State) : (clearDet d i s).cmd = s.cmd :=
  ((clearDet_only d i s) .cmd).resolve_left (by simp)

@[simp] theorem clearDet_sec (d i : Nat) (s : State) : (clearDet d i s).sec = s.sec :=
  ((clearDet_only d i s) .sec).resolve_left (by simp)

@[simp] theorem clearDet_pending (d i : Nat) (s : State) : (clearDet d i s).pending = s.pending :=
  ((clearDet_only d i s) .pending).resolve_left (by simp)

@[simp] theorem clearDetAll_code (d : Nat) (s : State) : (clearDetAll d s).code = s.code :=
  ((clearDetAll_only d s) .code).resolve_left (by simp)

@[simp] theorem clearDetAll_pw (d : Nat) (s : State) : (clearDetAll d s).pw = s.pw :=
  ((clearDetAll_only d s) .pw).resolve_left (by simp)

@[simp] theorem clearDetAll_pads (d : Nat) (s : State) : (clearDetAll d s).pads = s.pads :=
  ((clearDetAll_only d s) .pads).resolve_left (by simp)

@[simp] theorem clearDetAll_fl (d : Nat) (s : State) : (clearDetAll d s).fl = s.fl :=
  ((clearDetAll_only d s) .fl).resolve_left (by simp)

@[simp] theorem clearDetAll_boot (d : Nat) (s : State) : (clearDetAll d s).boot = s.boot :=
  ((clearDetAll_only d s) .boot).resolve_left (by simp)

@[simp] theorem clearDetAll_img (d : Nat) (s : State) : (clearDetAll d s).img = s.img :=
  ((clearDetAll_only d s) .img).resolve_left (by simp)

@[simp] theorem clearDetAll_tu (d : Nat) (s : State) : (clearDetAll d s).tu = s.tu :=
  ((clearDetAll_only d s) .tu).resolve_left (by simp)

@[simp] theorem clearDetAll_acq (d : Nat) (s : State) : (clearDetAll d s).acq = s.acq :=
  ((clearDetAll_only d s) .acq).resolve_left (by simp)

@[simp] theorem clearDetAll_gr (d : Nat) (s : State) : (clearDetAll d s).gr = s.gr :=
  ((clearDetAll_only d s) .gr).resolve_left (by simp)

@[simp] theorem clearDetAll_le (d : Nat) (s : State) : (clearDetAll d s).le = s.le :=
  ((clearDetAll_only d s) .le).resolve_left (by simp)

@[simp] theorem clearDetAll_rio (d : Nat) (s : State) : (clearDetAll d s).rio = s.rio :=
  ((clearDetAll_only d s) .rio).resolve_left (by simp)

@[simp] theorem clearDetAll_fio (d : Nat) (s : State) : (clearDetAll d s).fio = s.fio :=
  ((clearDetAll_only d s) .fio).resolve_left (by simp)

@[simp] theorem clearDetAll_upc (d : Nat) (s : State) : (clearDetAll d s).upc = s.upc :=
  ((clearDetAll_only d s) .upc).resolve_left (by simp)

@[simp] theorem clearDetAll_dr (d : Nat) (s : State) : (clearDetAll d s).dr = s.dr :=
  ((clearDetAll_only d s) .dr).resolve_left (by simp)

@[simp] theorem clearDetAll_evr (d : Nat) (s : State) : (clearDetAll d s).evr = s.evr :=
  ((clearDetAll_only d s) .evr).resolve_left (by simp)

@[simp] theorem clearDetAll_pr (d : Nat) (s : State) : (clearDetAll d s).pr = s.pr :=
  ((clearDetAll_only d s) .pr).resolve_left (by simp)

@[simp] theorem clearDetAll_net (d : Nat) (s : State) : (clearDetAll d s).net = s.net :=
  ((clearDetAll_only d s) .net).resolve_left (by simp)

@[simp] theorem clearDetAll_cmd (d : Nat) (s : State) : (clearDetAll d s).cmd = s.cmd :=
  ((clearDetAll_only d s) .cmd).resolve_left (by simp)

@[simp] theorem clearDetAll_sec (d : Nat) (s : State) : (clearDetAll d s).sec = s.sec :=
  ((clearDetAll_only d s) .sec).resolve_left (by simp)

@[simp] theorem clearDetAll_pending (d : Nat) (s : State) : (clearDetAll d s).pending = s.pending :=
  ((clearDetAll_only d s) .pending).resolve_left (by simp)

@[simp] theorem raiseTrig_code (k i e t1 t0 : Nat) (s : State) : (raiseTrig k i e t1 t0 s).code = s.code :=
  ((raiseTrig_only k i e t1 t0 s) .code).resolve_left (by simp)

@[simp] theorem raiseTrig_pw (k i e t1 t0 : Nat) (s : State) : (raiseTrig k i e t1 t0 s).pw = s.pw :=
  ((raiseTrig_only k i e t1 t0 s) .pw).resolve_left (by simp)

@[simp] theorem raiseTrig_pads (k i e t1 t0 : Nat) (s : State) : (raiseTrig k i e t1 t0 s).pads = s.pads :=
  ((raiseTrig_only k i e t1 t0 s) .pads).resolve_left (by simp)

@[simp] theorem raiseTrig_fl (k i e t1 t0 : Nat) (s : State) : (raiseTrig k i e t1 t0 s).fl = s.fl :=
  ((raiseTrig_only k i e t1 t0 s) .fl).resolve_left (by simp)

@[simp] theorem raiseTrig_boot (k i e t1 t0 : Nat) (s : State) : (raiseTrig k i e t1 t0 s).boot = s.boot :=
  ((raiseTrig_only k i e t1 t0 s) .boot).resolve_left (by simp)

@[simp] theorem raiseTrig_img (k i e t1 t0 : Nat) (s : State) : (raiseTrig k i e t1 t0 s).img = s.img :=
  ((raiseTrig_only k i e t1 t0 s) .img).resolve_left (by simp)

@[simp] theorem raiseTrig_tu (k i e t1 t0 : Nat) (s : State) : (raiseTrig k i e t1 t0 s).tu = s.tu :=
  ((raiseTrig_only k i e t1 t0 s) .tu).resolve_left (by simp)

@[simp] theorem raiseTrig_acq (k i e t1 t0 : Nat) (s : State) : (raiseTrig k i e t1 t0 s).acq = s.acq :=
  ((raiseTrig_only k i e t1 t0 s) .acq).resolve_left (by simp)

@[simp] theorem raiseTrig_gr (k i e t1 t0 : Nat) (s : State) : (raiseTrig k i e t1 t0 s).gr = s.gr :=
  ((raiseTrig_only k i e t1 t0 s) .gr).resolve_left (by simp)

@[simp] theorem raiseTrig_rio (k i e t1 t0 : Nat) (s : State) : (raiseTrig k i e t1 t0 s).rio = s.rio :=
  ((raiseTrig_only k i e t1 t0 s) .rio).resolve_left (by simp)

@[simp] theorem raiseTrig_fio (k i e t1 t0 : Nat) (s : State) : (raiseTrig k i e t1 t0 s).fio = s.fio :=
  ((raiseTrig_only k i e t1 t0 s) .fio).resolve_left (by simp)

@[simp] theorem raiseTrig_upc (k i e t1 t0 : Nat) (s : State) : (raiseTrig k i e t1 t0 s).upc = s.upc :=
  ((raiseTrig_only k i e t1 t0 s) .upc).resolve_left (by simp)

@[simp] theorem raiseTrig_dr (k i e t1 t0 : Nat) (s : State) : (raiseTrig k i e t1 t0 s).dr = s.dr :=
  ((raiseTrig_only k i e t1 t0 s) .dr).resolve_left (by simp)

@[simp] theorem raiseTrig_evr (k i e t1 t0 : Nat) (s : State) : (raiseTrig k i e t1 t0 s).evr = s.evr :=
  ((raiseTrig_only k i e t1 t0 s) .evr).resolve_left (by simp)

@[simp] theorem raiseTrig_pr (k i e t1 t0 : Nat) (s : State) : (raiseTrig k i e t1 t0 s).pr = s.pr :=
  ((raiseTrig_only k i e t1 t0 s) .pr).resolve_left (by simp)

@[simp] theorem raiseTrig_net (k i e t1 t0 : Nat) (s : State) : (raiseTrig k i e t1 t0 s).net = s.net :=
  ((raiseTrig_only k i e t1 t0 s) .net).resolve_left (by simp)

@[simp] theorem raiseTrig_cmd (k i e t1 t0 : Nat) (s : State) : (raiseTrig k i e t1 t0 s).cmd = s.cmd :=
  ((raiseTrig_only k i e t1 t0 s) .cmd).resolve_left (by simp)

@[simp] theorem raiseTrig_sec (k i e t1 t0 : Nat) (s : State) : (raiseTrig k i e t1 t0 s).sec = s.sec :=
  ((raiseTrig_only k i e t1 t0 s) .sec).resolve_left (by simp)

@[simp] theorem raiseTrig_hlt (k i e t1 t0 : Nat) (s : State) : (raiseTrig k i e t1 t0 s).hlt = s.hlt :=
  ((raiseTrig_only k i e t1 t0 s) .hlt).resolve_left (by simp)

@[simp] theorem raiseTrig_pending (k i e t1 t0 : Nat) (s : State) : (raiseTrig k i e t1 t0 s).pending = s.pending :=
  ((raiseTrig_only k i e t1 t0 s) .pending).resolve_left (by simp)

@[simp] theorem respond_code (r : Req) (op : Nat) (st : Status) (m : Bool) (pl : List Byte) (s : State) : (respond r op st m pl s).code = s.code :=
  ((respond_only r op st m pl s) .code).resolve_left (by simp)

@[simp] theorem respond_pw (r : Req) (op : Nat) (st : Status) (m : Bool) (pl : List Byte) (s : State) : (respond r op st m pl s).pw = s.pw :=
  ((respond_only r op st m pl s) .pw).resolve_left (by simp)

@[simp] theorem respond_fl (r : Req) (op : Nat) (st : Status) (m : Bool) (pl : List Byte) (s : State) : (respond r op st m pl s).fl = s.fl :=
  ((respond_only r op st m pl s) .fl).resolve_left (by simp)

@[simp] theorem respond_boot (r : Req) (op : Nat) (st : Status) (m : Bool) (pl : List Byte) (s : State) : (respond r op st m pl s).boot = s.boot :=
  ((respond_only r op st m pl s) .boot).resolve_left (by simp)

@[simp] theorem respond_img (r : Req) (op : Nat) (st : Status) (m : Bool) (pl : List Byte) (s : State) : (respond r op st m pl s).img = s.img :=
  ((respond_only r op st m pl s) .img).resolve_left (by simp)

@[simp] theorem respond_tu (r : Req) (op : Nat) (st : Status) (m : Bool) (pl : List Byte) (s : State) : (respond r op st m pl s).tu = s.tu :=
  ((respond_only r op st m pl s) .tu).resolve_left (by simp)

@[simp] theorem respond_acq (r : Req) (op : Nat) (st : Status) (m : Bool) (pl : List Byte) (s : State) : (respond r op st m pl s).acq = s.acq :=
  ((respond_only r op st m pl s) .acq).resolve_left (by simp)

@[simp] theorem respond_gr (r : Req) (op : Nat) (st : Status) (m : Bool) (pl : List Byte) (s : State) : (respond r op st m pl s).gr = s.gr :=
  ((respond_only r op st m pl s) .gr).resolve_left (by simp)

@[simp] theorem respond_le (r : Req) (op : Nat) (st : Status) (m : Bool) (pl : List Byte) (s : State) : (respond r op st m pl s).le = s.le :=
  ((respond_only r op st m pl s) .le).resolve_left (by simp)

@[simp] theorem respond_rio (r : Req) (op : Nat) (st : Status) (m : Bool) (pl : List Byte) (s : State) : (respond r op st m pl s).rio = s.rio :=
  ((respond_only r op st m pl s) .rio).resolve_left (by simp)

@[simp] theorem respond_fio (r : Req) (op : Nat) (st : Status) (m : Bool) (pl : List Byte) (s : State) : (respond r op st m pl s).fio = s.fio :=
  ((respond_only r op st m pl s) .fio).resolve_left (by simp)

@[simp] theorem respond_upc (r : Req) (op : Nat) (st : Status) (m : Bool) (pl : List Byte) (s : State) : (respond r op st m pl s).upc = s.upc :=
  ((respond_only r op st m pl s) .upc).resolve_left (by simp)

@[simp] theorem respond_dr (r : Req) (op : Nat) (st : Status) (m : Bool) (pl : List Byte) (s : State) : (respond r op st m pl s).dr = s.dr :=
  ((respond_only r op st m pl s) .dr).resolve_left (by simp)

@[simp] theorem respond_evr (r : Req) (op : Nat) (st : Status) (m : Bool) (pl : List Byte) (s : State) : (respond r op st m pl s).evr = s.evr :=
  ((respond_only r op st m pl s) .evr).resolve_left (by simp)

@[simp] theorem respond_pr (r : Req) (op : Nat) (st : Status) (m : Bool) (pl : List Byte) (s : State) : (respond r op st m pl s).pr = s.pr :=
  ((respond_only r op st m pl s) .pr).resolve_left (by simp)

@[simp] theorem respond_net (r : Req) (op : Nat) (st : Status) (m : Bool) (pl : List Byte) (s : State) : (respond r op st m pl s).net = s.net :=
  ((respond_only r op st m pl s) .net).resolve_left (by simp)

@[simp] theorem respond_sec (r : Req) (op : Nat) (st : Status) (m : Bool) (pl : List Byte) (s : State) : (respond r op st m pl s).sec = s.sec :=
  ((respond_only r op st m pl s) .sec).resolve_left (by simp)

@[simp] theorem respond_hlt (r : Req) (op : Nat) (st : Status) (m : Bool) (pl : List Byte) (s : State) : (respond r op st m pl s).hlt = s.hlt :=
  ((respond_only r op st m pl s) .hlt).resolve_left (by simp)

@[simp] theorem respond_pending (r : Req) (op : Nat) (st : Status) (m : Bool) (pl : List Byte) (s : State) : (respond r op st m pl s).pending = s.pending :=
  ((respond_only r op st m pl s) .pending).resolve_left (by simp)

@[simp] theorem answer_code (r : Req) (op : Nat) (st : Status) (s : State) : (answer r op st s).code = s.code :=
  ((answer_only r op st s) .code).resolve_left (by simp)

@[simp] theorem answer_pw (r : Req) (op : Nat) (st : Status) (s : State) : (answer r op st s).pw = s.pw :=
  ((answer_only r op st s) .pw).resolve_left (by simp)

@[simp] theorem answer_fl (r : Req) (op : Nat) (st : Status) (s : State) : (answer r op st s).fl = s.fl :=
  ((answer_only r op st s) .fl).resolve_left (by simp)

@[simp] theorem answer_boot (r : Req) (op : Nat) (st : Status) (s : State) : (answer r op st s).boot = s.boot :=
  ((answer_only r op st s) .boot).resolve_left (by simp)

@[simp] theorem answer_img (r : Req) (op : Nat) (st : Status) (s : State) : (answer r op st s).img = s.img :=
  ((answer_only r op st s) .img).resolve_left (by simp)

@[simp] theorem answer_tu (r : Req) (op : Nat) (st : Status) (s : State) : (answer r op st s).tu = s.tu :=
  ((answer_only r op st s) .tu).resolve_left (by simp)

@[simp] theorem answer_acq (r : Req) (op : Nat) (st : Status) (s : State) : (answer r op st s).acq = s.acq :=
  ((answer_only r op st s) .acq).resolve_left (by simp)

@[simp] theorem answer_gr (r : Req) (op : Nat) (st : Status) (s : State) : (answer r op st s).gr = s.gr :=
  ((answer_only r op st s) .gr).resolve_left (by simp)

@[simp] theorem answer_le (r : Req) (op : Nat) (st : Status) (s : State) : (answer r op st s).le = s.le :=
  ((answer_only r op st s) .le).resolve_left (by simp)

@[simp] theorem answer_rio (r : Req) (op : Nat) (st : Status) (s : State) : (answer r op st s).rio = s.rio :=
  ((answer_only r op st s) .rio).resolve_left (by simp)

@[simp] theorem answer_fio (r : Req) (op : Nat) (st : Status) (s : State) : (answer r op st s).fio = s.fio :=
  ((answer_only r op st s) .fio).resolve_left (by simp)

@[simp] theorem answer_upc (r : Req) (op : Nat) (st : Status) (s : State) : (answer r op st s).upc = s.upc :=
  ((answer_only r op st s) .upc).resolve_left (by simp)

@[simp] theorem answer_dr (r : Req) (op : Nat) (st : Status) (s : State) : (answer r op st s).dr = s.dr :=
  ((answer_only r op st s) .dr).resolve_left (by simp)

@[simp] theorem answer_evr (r : Req) (op : Nat) (st : Status) (s : State) : (answer r op st s).evr = s.evr :=
  ((answer_only r op st s) .evr).resolve_left (by simp)

@[simp] theorem answer_pr (r : Req) (op : Nat) (st : Status) (s : State) : (answer r op st s).pr = s.pr :=
  ((answer_only r op st s) .pr).resolve_left (by simp)

@[simp] theorem answer_net (r : Req) (op : Nat) (st : Status) (s : State) : (answer r op st s).net = s.net :=
  ((answer_only r op st s) .net).resolve_left (by simp)

@[simp] theorem answer_sec (r : Req) (op : Nat) (st : Status) (s : State) : (answer r op st s).sec = s.sec :=
  ((answer_only r op st s) .sec).resolve_left (by simp)

@[simp] theorem answer_hlt (r : Req) (op : Nat) (st : Status) (s : State) : (answer r op st s).hlt = s.hlt :=
  ((answer_only r op st s) .hlt).resolve_left (by simp)

@[simp] theorem answer_pending (r : Req) (op : Nat) (st : Status) (s : State) : (answer r op st s).pending = s.pending :=
  ((answer_only r op st s) .pending).resolve_left (by simp)

/-- A request that waits stays where it is (R73, R598). -/
theorem serveAs_waits (r : Req) (op : Nat) (u : Bool) (role : Option Nat) (s : State) (f : State → State)
    (w : waits r u s = true) : serveAs r op u role s f = s := by
  rw [serveAs, if_pos w]

/-- A request that fails a check gets its status and has no other effect (R587). -/
theorem serveAs_refused (r : Req) (op : Nat) (u : Bool) (role : Option Nat) (s : State) (f : State → State) (st : Status)
    (w : waits r u s = false) (h : precheck r op u role s = some st) :
    serveAs r op u role s f = respondTo true r op st false [] s := by
  simp [serveAs, w, h]

/-- A request that passes the checks runs its command. -/
theorem serveAs_served (r : Req) (op : Nat) (u : Bool) (role : Option Nat) (s : State) (f : State → State)
    (w : waits r u s = false) (h : precheck r op u role s = none) : serveAs r op u role s f = f s := by
  simp [serveAs, w, h]

theorem serve_served (r : Req) (op : Nat) (s : State) (f : State → State) (h : Served r op s) : serve r op s f = f s :=
  serveAs_served r op _ _ s f h.1 h.2

theorem serveWrite_served (r : Req) (s : State) (f : State → State × Status) (h : Served r 0x0011 s) :
    serveWrite r s f = answerWrite r (f s).2 (f s).1 := by rw [serveWrite, serve_served r _ s _ h]

/-- An instruction runs where its task stands. -/
theorem runInstr_at (op sp a : Nat) (f : InstrFn) (s : State) (t : Task) (h : atInstr s op sp a = some t) :
    runInstr op sp a f s = stepTask f sp a t s := by rw [runInstr, h]

end Sys2Proof.Machine
end

