-- ==== Sys2Proof/Laws/State.lean ====
section
/-! SUPPORT. What replacing one unit of the engine leaves of the others: one lemma for each field and each update, and the
frame of each update. -/

namespace Sys2Proof.Machine

/-! Replacing `code`. -/

@[simp] theorem State.with_code_code (s : State) (v : Code) : (State.code { s with code := v }) = v := rfl
@[simp] theorem State.with_code_pw (s : State) (v : Code) : (State.pw { s with code := v }) = s.pw := rfl
@[simp] theorem State.with_code_pads (s : State) (v : Code) : (State.pads { s with code := v }) = s.pads := rfl
@[simp] theorem State.with_code_fl (s : State) (v : Code) : (State.fl { s with code := v }) = s.fl := rfl
@[simp] theorem State.with_code_boot (s : State) (v : Code) : (State.boot { s with code := v }) = s.boot := rfl
@[simp] theorem State.with_code_img (s : State) (v : Code) : (State.img { s with code := v }) = s.img := rfl
@[simp] theorem State.with_code_tu (s : State) (v : Code) : (State.tu { s with code := v }) = s.tu := rfl
@[simp] theorem State.with_code_acq (s : State) (v : Code) : (State.acq { s with code := v }) = s.acq := rfl
@[simp] theorem State.with_code_gr (s : State) (v : Code) : (State.gr { s with code := v }) = s.gr := rfl
@[simp] theorem State.with_code_le (s : State) (v : Code) : (State.le { s with code := v }) = s.le := rfl
@[simp] theorem State.with_code_rio (s : State) (v : Code) : (State.rio { s with code := v }) = s.rio := rfl
@[simp] theorem State.with_code_fio (s : State) (v : Code) : (State.fio { s with code := v }) = s.fio := rfl
@[simp] theorem State.with_code_upc (s : State) (v : Code) : (State.upc { s with code := v }) = s.upc := rfl
@[simp] theorem State.with_code_dr (s : State) (v : Code) : (State.dr { s with code := v }) = s.dr := rfl
@[simp] theorem State.with_code_evr (s : State) (v : Code) : (State.evr { s with code := v }) = s.evr := rfl
@[simp] theorem State.with_code_pr (s : State) (v : Code) : (State.pr { s with code := v }) = s.pr := rfl
@[simp] theorem State.with_code_net (s : State) (v : Code) : (State.net { s with code := v }) = s.net := rfl
@[simp] theorem State.with_code_cmd (s : State) (v : Code) : (State.cmd { s with code := v }) = s.cmd := rfl
@[simp] theorem State.with_code_sec (s : State) (v : Code) : (State.sec { s with code := v }) = s.sec := rfl
@[simp] theorem State.with_code_hlt (s : State) (v : Code) : (State.hlt { s with code := v }) = s.hlt := rfl
@[simp] theorem State.with_code_pending (s : State) (v : Code) : (State.pending { s with code := v }) = s.pending := rfl
theorem State.with_code_only (s : State) (v : Code) : Only [.code] s { s with code := v } := fun p => by
  cases p <;> simp [Same]

/-! Replacing `pw`. -/

@[simp] theorem State.with_pw_code (s : State) (v : Power) : (State.code { s with pw := v }) = s.code := rfl
@[simp] theorem State.with_pw_pw (s : State) (v : Power) : (State.pw { s with pw := v }) = v := rfl
@[simp] theorem State.with_pw_pads (s : State) (v : Power) : (State.pads { s with pw := v }) = s.pads := rfl
@[simp] theorem State.with_pw_fl (s : State) (v : Power) : (State.fl { s with pw := v }) = s.fl := rfl
@[simp] theorem State.with_pw_boot (s : State) (v : Power) : (State.boot { s with pw := v }) = s.boot := rfl
@[simp] theorem State.with_pw_img (s : State) (v : Power) : (State.img { s with pw := v }) = s.img := rfl
@[simp] theorem State.with_pw_tu (s : State) (v : Power) : (State.tu { s with pw := v }) = s.tu := rfl
@[simp] theorem State.with_pw_acq (s : State) (v : Power) : (State.acq { s with pw := v }) = s.acq := rfl
@[simp] theorem State.with_pw_gr (s : State) (v : Power) : (State.gr { s with pw := v }) = s.gr := rfl
@[simp] theorem State.with_pw_le (s : State) (v : Power) : (State.le { s with pw := v }) = s.le := rfl
@[simp] theorem State.with_pw_rio (s : State) (v : Power) : (State.rio { s with pw := v }) = s.rio := rfl
@[simp] theorem State.with_pw_fio (s : State) (v : Power) : (State.fio { s with pw := v }) = s.fio := rfl
@[simp] theorem State.with_pw_upc (s : State) (v : Power) : (State.upc { s with pw := v }) = s.upc := rfl
@[simp] theorem State.with_pw_dr (s : State) (v : Power) : (State.dr { s with pw := v }) = s.dr := rfl
@[simp] theorem State.with_pw_evr (s : State) (v : Power) : (State.evr { s with pw := v }) = s.evr := rfl
@[simp] theorem State.with_pw_pr (s : State) (v : Power) : (State.pr { s with pw := v }) = s.pr := rfl
@[simp] theorem State.with_pw_net (s : State) (v : Power) : (State.net { s with pw := v }) = s.net := rfl
@[simp] theorem State.with_pw_cmd (s : State) (v : Power) : (State.cmd { s with pw := v }) = s.cmd := rfl
@[simp] theorem State.with_pw_sec (s : State) (v : Power) : (State.sec { s with pw := v }) = s.sec := rfl
@[simp] theorem State.with_pw_hlt (s : State) (v : Power) : (State.hlt { s with pw := v }) = s.hlt := rfl
@[simp] theorem State.with_pw_pending (s : State) (v : Power) : (State.pending { s with pw := v }) = s.pending := rfl
theorem State.with_pw_only (s : State) (v : Power) : Only [.pw] s { s with pw := v } := fun p => by
  cases p <;> simp [Same]

/-! Replacing `pads`. -/

@[simp] theorem State.with_pads_code (s : State) (v : Pads) : (State.code { s with pads := v }) = s.code := rfl
@[simp] theorem State.with_pads_pw (s : State) (v : Pads) : (State.pw { s with pads := v }) = s.pw := rfl
@[simp] theorem State.with_pads_pads (s : State) (v : Pads) : (State.pads { s with pads := v }) = v := rfl
@[simp] theorem State.with_pads_fl (s : State) (v : Pads) : (State.fl { s with pads := v }) = s.fl := rfl
@[simp] theorem State.with_pads_boot (s : State) (v : Pads) : (State.boot { s with pads := v }) = s.boot := rfl
@[simp] theorem State.with_pads_img (s : State) (v : Pads) : (State.img { s with pads := v }) = s.img := rfl
@[simp] theorem State.with_pads_tu (s : State) (v : Pads) : (State.tu { s with pads := v }) = s.tu := rfl
@[simp] theorem State.with_pads_acq (s : State) (v : Pads) : (State.acq { s with pads := v }) = s.acq := rfl
@[simp] theorem State.with_pads_gr (s : State) (v : Pads) : (State.gr { s with pads := v }) = s.gr := rfl
@[simp] theorem State.with_pads_le (s : State) (v : Pads) : (State.le { s with pads := v }) = s.le := rfl
@[simp] theorem State.with_pads_rio (s : State) (v : Pads) : (State.rio { s with pads := v }) = s.rio := rfl
@[simp] theorem State.with_pads_fio (s : State) (v : Pads) : (State.fio { s with pads := v }) = s.fio := rfl
@[simp] theorem State.with_pads_upc (s : State) (v : Pads) : (State.upc { s with pads := v }) = s.upc := rfl
@[simp] theorem State.with_pads_dr (s : State) (v : Pads) : (State.dr { s with pads := v }) = s.dr := rfl
@[simp] theorem State.with_pads_evr (s : State) (v : Pads) : (State.evr { s with pads := v }) = s.evr := rfl
@[simp] theorem State.with_pads_pr (s : State) (v : Pads) : (State.pr { s with pads := v }) = s.pr := rfl
@[simp] theorem State.with_pads_net (s : State) (v : Pads) : (State.net { s with pads := v }) = s.net := rfl
@[simp] theorem State.with_pads_cmd (s : State) (v : Pads) : (State.cmd { s with pads := v }) = s.cmd := rfl
@[simp] theorem State.with_pads_sec (s : State) (v : Pads) : (State.sec { s with pads := v }) = s.sec := rfl
@[simp] theorem State.with_pads_hlt (s : State) (v : Pads) : (State.hlt { s with pads := v }) = s.hlt := rfl
@[simp] theorem State.with_pads_pending (s : State) (v : Pads) : (State.pending { s with pads := v }) = s.pending := rfl
theorem State.with_pads_only (s : State) (v : Pads) : Only [.pads] s { s with pads := v } := fun p => by
  cases p <;> simp [Same]

/-! Replacing `fl`. -/

@[simp] theorem State.with_fl_code (s : State) (v : Flush) : (State.code { s with fl := v }) = s.code := rfl
@[simp] theorem State.with_fl_pw (s : State) (v : Flush) : (State.pw { s with fl := v }) = s.pw := rfl
@[simp] theorem State.with_fl_pads (s : State) (v : Flush) : (State.pads { s with fl := v }) = s.pads := rfl
@[simp] theorem State.with_fl_fl (s : State) (v : Flush) : (State.fl { s with fl := v }) = v := rfl
@[simp] theorem State.with_fl_boot (s : State) (v : Flush) : (State.boot { s with fl := v }) = s.boot := rfl
@[simp] theorem State.with_fl_img (s : State) (v : Flush) : (State.img { s with fl := v }) = s.img := rfl
@[simp] theorem State.with_fl_tu (s : State) (v : Flush) : (State.tu { s with fl := v }) = s.tu := rfl
@[simp] theorem State.with_fl_acq (s : State) (v : Flush) : (State.acq { s with fl := v }) = s.acq := rfl
@[simp] theorem State.with_fl_gr (s : State) (v : Flush) : (State.gr { s with fl := v }) = s.gr := rfl
@[simp] theorem State.with_fl_le (s : State) (v : Flush) : (State.le { s with fl := v }) = s.le := rfl
@[simp] theorem State.with_fl_rio (s : State) (v : Flush) : (State.rio { s with fl := v }) = s.rio := rfl
@[simp] theorem State.with_fl_fio (s : State) (v : Flush) : (State.fio { s with fl := v }) = s.fio := rfl
@[simp] theorem State.with_fl_upc (s : State) (v : Flush) : (State.upc { s with fl := v }) = s.upc := rfl
@[simp] theorem State.with_fl_dr (s : State) (v : Flush) : (State.dr { s with fl := v }) = s.dr := rfl
@[simp] theorem State.with_fl_evr (s : State) (v : Flush) : (State.evr { s with fl := v }) = s.evr := rfl
@[simp] theorem State.with_fl_pr (s : State) (v : Flush) : (State.pr { s with fl := v }) = s.pr := rfl
@[simp] theorem State.with_fl_net (s : State) (v : Flush) : (State.net { s with fl := v }) = s.net := rfl
@[simp] theorem State.with_fl_cmd (s : State) (v : Flush) : (State.cmd { s with fl := v }) = s.cmd := rfl
@[simp] theorem State.with_fl_sec (s : State) (v : Flush) : (State.sec { s with fl := v }) = s.sec := rfl
@[simp] theorem State.with_fl_hlt (s : State) (v : Flush) : (State.hlt { s with fl := v }) = s.hlt := rfl
@[simp] theorem State.with_fl_pending (s : State) (v : Flush) : (State.pending { s with fl := v }) = s.pending := rfl
theorem State.with_fl_only (s : State) (v : Flush) : Only [.fl] s { s with fl := v } := fun p => by
  cases p <;> simp [Same]

/-! Replacing `boot`. -/

@[simp] theorem State.with_boot_code (s : State) (v : Boot) : (State.code { s with boot := v }) = s.code := rfl
@[simp] theorem State.with_boot_pw (s : State) (v : Boot) : (State.pw { s with boot := v }) = s.pw := rfl
@[simp] theorem State.with_boot_pads (s : State) (v : Boot) : (State.pads { s with boot := v }) = s.pads := rfl
@[simp] theorem State.with_boot_fl (s : State) (v : Boot) : (State.fl { s with boot := v }) = s.fl := rfl
@[simp] theorem State.with_boot_boot (s : State) (v : Boot) : (State.boot { s with boot := v }) = v := rfl
@[simp] theorem State.with_boot_img (s : State) (v : Boot) : (State.img { s with boot := v }) = s.img := rfl
@[simp] theorem State.with_boot_tu (s : State) (v : Boot) : (State.tu { s with boot := v }) = s.tu := rfl
@[simp] theorem State.with_boot_acq (s : State) (v : Boot) : (State.acq { s with boot := v }) = s.acq := rfl
@[simp] theorem State.with_boot_gr (s : State) (v : Boot) : (State.gr { s with boot := v }) = s.gr := rfl
@[simp] theorem State.with_boot_le (s : State) (v : Boot) : (State.le { s with boot := v }) = s.le := rfl
@[simp] theorem State.with_boot_rio (s : State) (v : Boot) : (State.rio { s with boot := v }) = s.rio := rfl
@[simp] theorem State.with_boot_fio (s : State) (v : Boot) : (State.fio { s with boot := v }) = s.fio := rfl
@[simp] theorem State.with_boot_upc (s : State) (v : Boot) : (State.upc { s with boot := v }) = s.upc := rfl
@[simp] theorem State.with_boot_dr (s : State) (v : Boot) : (State.dr { s with boot := v }) = s.dr := rfl
@[simp] theorem State.with_boot_evr (s : State) (v : Boot) : (State.evr { s with boot := v }) = s.evr := rfl
@[simp] theorem State.with_boot_pr (s : State) (v : Boot) : (State.pr { s with boot := v }) = s.pr := rfl
@[simp] theorem State.with_boot_net (s : State) (v : Boot) : (State.net { s with boot := v }) = s.net := rfl
@[simp] theorem State.with_boot_cmd (s : State) (v : Boot) : (State.cmd { s with boot := v }) = s.cmd := rfl
@[simp] theorem State.with_boot_sec (s : State) (v : Boot) : (State.sec { s with boot := v }) = s.sec := rfl
@[simp] theorem State.with_boot_hlt (s : State) (v : Boot) : (State.hlt { s with boot := v }) = s.hlt := rfl
@[simp] theorem State.with_boot_pending (s : State) (v : Boot) : (State.pending { s with boot := v }) = s.pending := rfl
theorem State.with_boot_only (s : State) (v : Boot) : Only [.boot] s { s with boot := v } := fun p => by
  cases p <;> simp [Same]

/-! Replacing `img`. -/

@[simp] theorem State.with_img_code (s : State) (v : Images) : (State.code { s with img := v }) = s.code := rfl
@[simp] theorem State.with_img_pw (s : State) (v : Images) : (State.pw { s with img := v }) = s.pw := rfl
@[simp] theorem State.with_img_pads (s : State) (v : Images) : (State.pads { s with img := v }) = s.pads := rfl
@[simp] theorem State.with_img_fl (s : State) (v : Images) : (State.fl { s with img := v }) = s.fl := rfl
@[simp] theorem State.with_img_boot (s : State) (v : Images) : (State.boot { s with img := v }) = s.boot := rfl
@[simp] theorem State.with_img_img (s : State) (v : Images) : (State.img { s with img := v }) = v := rfl
@[simp] theorem State.with_img_tu (s : State) (v : Images) : (State.tu { s with img := v }) = s.tu := rfl
@[simp] theorem State.with_img_acq (s : State) (v : Images) : (State.acq { s with img := v }) = s.acq := rfl
@[simp] theorem State.with_img_gr (s : State) (v : Images) : (State.gr { s with img := v }) = s.gr := rfl
@[simp] theorem State.with_img_le (s : State) (v : Images) : (State.le { s with img := v }) = s.le := rfl
@[simp] theorem State.with_img_rio (s : State) (v : Images) : (State.rio { s with img := v }) = s.rio := rfl
@[simp] theorem State.with_img_fio (s : State) (v : Images) : (State.fio { s with img := v }) = s.fio := rfl
@[simp] theorem State.with_img_upc (s : State) (v : Images) : (State.upc { s with img := v }) = s.upc := rfl
@[simp] theorem State.with_img_dr (s : State) (v : Images) : (State.dr { s with img := v }) = s.dr := rfl
@[simp] theorem State.with_img_evr (s : State) (v : Images) : (State.evr { s with img := v }) = s.evr := rfl
@[simp] theorem State.with_img_pr (s : State) (v : Images) : (State.pr { s with img := v }) = s.pr := rfl
@[simp] theorem State.with_img_net (s : State) (v : Images) : (State.net { s with img := v }) = s.net := rfl
@[simp] theorem State.with_img_cmd (s : State) (v : Images) : (State.cmd { s with img := v }) = s.cmd := rfl
@[simp] theorem State.with_img_sec (s : State) (v : Images) : (State.sec { s with img := v }) = s.sec := rfl
@[simp] theorem State.with_img_hlt (s : State) (v : Images) : (State.hlt { s with img := v }) = s.hlt := rfl
@[simp] theorem State.with_img_pending (s : State) (v : Images) : (State.pending { s with img := v }) = s.pending := rfl
theorem State.with_img_only (s : State) (v : Images) : Only [.img] s { s with img := v } := fun p => by
  cases p <;> simp [Same]

/-! Replacing `tu`. -/

@[simp] theorem State.with_tu_code (s : State) (v : TimeUnit) : (State.code { s with tu := v }) = s.code := rfl
@[simp] theorem State.with_tu_pw (s : State) (v : TimeUnit) : (State.pw { s with tu := v }) = s.pw := rfl
@[simp] theorem State.with_tu_pads (s : State) (v : TimeUnit) : (State.pads { s with tu := v }) = s.pads := rfl
@[simp] theorem State.with_tu_fl (s : State) (v : TimeUnit) : (State.fl { s with tu := v }) = s.fl := rfl
@[simp] theorem State.with_tu_boot (s : State) (v : TimeUnit) : (State.boot { s with tu := v }) = s.boot := rfl
@[simp] theorem State.with_tu_img (s : State) (v : TimeUnit) : (State.img { s with tu := v }) = s.img := rfl
@[simp] theorem State.with_tu_tu (s : State) (v : TimeUnit) : (State.tu { s with tu := v }) = v := rfl
@[simp] theorem State.with_tu_acq (s : State) (v : TimeUnit) : (State.acq { s with tu := v }) = s.acq := rfl
@[simp] theorem State.with_tu_gr (s : State) (v : TimeUnit) : (State.gr { s with tu := v }) = s.gr := rfl
@[simp] theorem State.with_tu_le (s : State) (v : TimeUnit) : (State.le { s with tu := v }) = s.le := rfl
@[simp] theorem State.with_tu_rio (s : State) (v : TimeUnit) : (State.rio { s with tu := v }) = s.rio := rfl
@[simp] theorem State.with_tu_fio (s : State) (v : TimeUnit) : (State.fio { s with tu := v }) = s.fio := rfl
@[simp] theorem State.with_tu_upc (s : State) (v : TimeUnit) : (State.upc { s with tu := v }) = s.upc := rfl
@[simp] theorem State.with_tu_dr (s : State) (v : TimeUnit) : (State.dr { s with tu := v }) = s.dr := rfl
@[simp] theorem State.with_tu_evr (s : State) (v : TimeUnit) : (State.evr { s with tu := v }) = s.evr := rfl
@[simp] theorem State.with_tu_pr (s : State) (v : TimeUnit) : (State.pr { s with tu := v }) = s.pr := rfl
@[simp] theorem State.with_tu_net (s : State) (v : TimeUnit) : (State.net { s with tu := v }) = s.net := rfl
@[simp] theorem State.with_tu_cmd (s : State) (v : TimeUnit) : (State.cmd { s with tu := v }) = s.cmd := rfl
@[simp] theorem State.with_tu_sec (s : State) (v : TimeUnit) : (State.sec { s with tu := v }) = s.sec := rfl
@[simp] theorem State.with_tu_hlt (s : State) (v : TimeUnit) : (State.hlt { s with tu := v }) = s.hlt := rfl
@[simp] theorem State.with_tu_pending (s : State) (v : TimeUnit) : (State.pending { s with tu := v }) = s.pending := rfl
theorem State.with_tu_only (s : State) (v : TimeUnit) : Only [.tu] s { s with tu := v } := fun p => by
  cases p <;> simp [Same]

/-! Replacing `acq`. -/

@[simp] theorem State.with_acq_code (s : State) (v : Acq) : (State.code { s with acq := v }) = s.code := rfl
@[simp] theorem State.with_acq_pw (s : State) (v : Acq) : (State.pw { s with acq := v }) = s.pw := rfl
@[simp] theorem State.with_acq_pads (s : State) (v : Acq) : (State.pads { s with acq := v }) = s.pads := rfl
@[simp] theorem State.with_acq_fl (s : State) (v : Acq) : (State.fl { s with acq := v }) = s.fl := rfl
@[simp] theorem State.with_acq_boot (s : State) (v : Acq) : (State.boot { s with acq := v }) = s.boot := rfl
@[simp] theorem State.with_acq_img (s : State) (v : Acq) : (State.img { s with acq := v }) = s.img := rfl
@[simp] theorem State.with_acq_tu (s : State) (v : Acq) : (State.tu { s with acq := v }) = s.tu := rfl
@[simp] theorem State.with_acq_acq (s : State) (v : Acq) : (State.acq { s with acq := v }) = v := rfl
@[simp] theorem State.with_acq_gr (s : State) (v : Acq) : (State.gr { s with acq := v }) = s.gr := rfl
@[simp] theorem State.with_acq_le (s : State) (v : Acq) : (State.le { s with acq := v }) = s.le := rfl
@[simp] theorem State.with_acq_rio (s : State) (v : Acq) : (State.rio { s with acq := v }) = s.rio := rfl
@[simp] theorem State.with_acq_fio (s : State) (v : Acq) : (State.fio { s with acq := v }) = s.fio := rfl
@[simp] theorem State.with_acq_upc (s : State) (v : Acq) : (State.upc { s with acq := v }) = s.upc := rfl
@[simp] theorem State.with_acq_dr (s : State) (v : Acq) : (State.dr { s with acq := v }) = s.dr := rfl
@[simp] theorem State.with_acq_evr (s : State) (v : Acq) : (State.evr { s with acq := v }) = s.evr := rfl
@[simp] theorem State.with_acq_pr (s : State) (v : Acq) : (State.pr { s with acq := v }) = s.pr := rfl
@[simp] theorem State.with_acq_net (s : State) (v : Acq) : (State.net { s with acq := v }) = s.net := rfl
@[simp] theorem State.with_acq_cmd (s : State) (v : Acq) : (State.cmd { s with acq := v }) = s.cmd := rfl
@[simp] theorem State.with_acq_sec (s : State) (v : Acq) : (State.sec { s with acq := v }) = s.sec := rfl
@[simp] theorem State.with_acq_hlt (s : State) (v : Acq) : (State.hlt { s with acq := v }) = s.hlt := rfl
@[simp] theorem State.with_acq_pending (s : State) (v : Acq) : (State.pending { s with acq := v }) = s.pending := rfl
theorem State.with_acq_only (s : State) (v : Acq) : Only [.acq] s { s with acq := v } := fun p => by
  cases p <;> simp [Same]

/-! Replacing `gr`. -/

@[simp] theorem State.with_gr_code (s : State) (v : GraphUnit) : (State.code { s with gr := v }) = s.code := rfl
@[simp] theorem State.with_gr_pw (s : State) (v : GraphUnit) : (State.pw { s with gr := v }) = s.pw := rfl
@[simp] theorem State.with_gr_pads (s : State) (v : GraphUnit) : (State.pads { s with gr := v }) = s.pads := rfl
@[simp] theorem State.with_gr_fl (s : State) (v : GraphUnit) : (State.fl { s with gr := v }) = s.fl := rfl
@[simp] theorem State.with_gr_boot (s : State) (v : GraphUnit) : (State.boot { s with gr := v }) = s.boot := rfl
@[simp] theorem State.with_gr_img (s : State) (v : GraphUnit) : (State.img { s with gr := v }) = s.img := rfl
@[simp] theorem State.with_gr_tu (s : State) (v : GraphUnit) : (State.tu { s with gr := v }) = s.tu := rfl
@[simp] theorem State.with_gr_acq (s : State) (v : GraphUnit) : (State.acq { s with gr := v }) = s.acq := rfl
@[simp] theorem State.with_gr_gr (s : State) (v : GraphUnit) : (State.gr { s with gr := v }) = v := rfl
@[simp] theorem State.with_gr_le (s : State) (v : GraphUnit) : (State.le { s with gr := v }) = s.le := rfl
@[simp] theorem State.with_gr_rio (s : State) (v : GraphUnit) : (State.rio { s with gr := v }) = s.rio := rfl
@[simp] theorem State.with_gr_fio (s : State) (v : GraphUnit) : (State.fio { s with gr := v }) = s.fio := rfl
@[simp] theorem State.with_gr_upc (s : State) (v : GraphUnit) : (State.upc { s with gr := v }) = s.upc := rfl
@[simp] theorem State.with_gr_dr (s : State) (v : GraphUnit) : (State.dr { s with gr := v }) = s.dr := rfl
@[simp] theorem State.with_gr_evr (s : State) (v : GraphUnit) : (State.evr { s with gr := v }) = s.evr := rfl
@[simp] theorem State.with_gr_pr (s : State) (v : GraphUnit) : (State.pr { s with gr := v }) = s.pr := rfl
@[simp] theorem State.with_gr_net (s : State) (v : GraphUnit) : (State.net { s with gr := v }) = s.net := rfl
@[simp] theorem State.with_gr_cmd (s : State) (v : GraphUnit) : (State.cmd { s with gr := v }) = s.cmd := rfl
@[simp] theorem State.with_gr_sec (s : State) (v : GraphUnit) : (State.sec { s with gr := v }) = s.sec := rfl
@[simp] theorem State.with_gr_hlt (s : State) (v : GraphUnit) : (State.hlt { s with gr := v }) = s.hlt := rfl
@[simp] theorem State.with_gr_pending (s : State) (v : GraphUnit) : (State.pending { s with gr := v }) = s.pending := rfl
theorem State.with_gr_only (s : State) (v : GraphUnit) : Only [.gr] s { s with gr := v } := fun p => by
  cases p <;> simp [Same]

/-! Replacing `le`. -/

@[simp] theorem State.with_le_code (s : State) (v : Logic) : (State.code { s with le := v }) = s.code := rfl
@[simp] theorem State.with_le_pw (s : State) (v : Logic) : (State.pw { s with le := v }) = s.pw := rfl
@[simp] theorem State.with_le_pads (s : State) (v : Logic) : (State.pads { s with le := v }) = s.pads := rfl
@[simp] theorem State.with_le_fl (s : State) (v : Logic) : (State.fl { s with le := v }) = s.fl := rfl
@[simp] theorem State.with_le_boot (s : State) (v : Logic) : (State.boot { s with le := v }) = s.boot := rfl
@[simp] theorem State.with_le_img (s : State) (v : Logic) : (State.img { s with le := v }) = s.img := rfl
@[simp] theorem State.with_le_tu (s : State) (v : Logic) : (State.tu { s with le := v }) = s.tu := rfl
@[simp] theorem State.with_le_acq (s : State) (v : Logic) : (State.acq { s with le := v }) = s.acq := rfl
@[simp] theorem State.with_le_gr (s : State) (v : Logic) : (State.gr { s with le := v }) = s.gr := rfl
@[simp] theorem State.with_le_le (s : State) (v : Logic) : (State.le { s with le := v }) = v := rfl
@[simp] theorem State.with_le_rio (s : State) (v : Logic) : (State.rio { s with le := v }) = s.rio := rfl
@[simp] theorem State.with_le_fio (s : State) (v : Logic) : (State.fio { s with le := v }) = s.fio := rfl
@[simp] theorem State.with_le_upc (s : State) (v : Logic) : (State.upc { s with le := v }) = s.upc := rfl
@[simp] theorem State.with_le_dr (s : State) (v : Logic) : (State.dr { s with le := v }) = s.dr := rfl
@[simp] theorem State.with_le_evr (s : State) (v : Logic) : (State.evr { s with le := v }) = s.evr := rfl
@[simp] theorem State.with_le_pr (s : State) (v : Logic) : (State.pr { s with le := v }) = s.pr := rfl
@[simp] theorem State.with_le_net (s : State) (v : Logic) : (State.net { s with le := v }) = s.net := rfl
@[simp] theorem State.with_le_cmd (s : State) (v : Logic) : (State.cmd { s with le := v }) = s.cmd := rfl
@[simp] theorem State.with_le_sec (s : State) (v : Logic) : (State.sec { s with le := v }) = s.sec := rfl
@[simp] theorem State.with_le_hlt (s : State) (v : Logic) : (State.hlt { s with le := v }) = s.hlt := rfl
@[simp] theorem State.with_le_pending (s : State) (v : Logic) : (State.pending { s with le := v }) = s.pending := rfl
theorem State.with_le_only (s : State) (v : Logic) : Only [.le] s { s with le := v } := fun p => by
  cases p <;> simp [Same]

/-! Replacing `rio`. -/

@[simp] theorem State.with_rio_code (s : State) (v : Rio) : (State.code { s with rio := v }) = s.code := rfl
@[simp] theorem State.with_rio_pw (s : State) (v : Rio) : (State.pw { s with rio := v }) = s.pw := rfl
@[simp] theorem State.with_rio_pads (s : State) (v : Rio) : (State.pads { s with rio := v }) = s.pads := rfl
@[simp] theorem State.with_rio_fl (s : State) (v : Rio) : (State.fl { s with rio := v }) = s.fl := rfl
@[simp] theorem State.with_rio_boot (s : State) (v : Rio) : (State.boot { s with rio := v }) = s.boot := rfl
@[simp] theorem State.with_rio_img (s : State) (v : Rio) : (State.img { s with rio := v }) = s.img := rfl
@[simp] theorem State.with_rio_tu (s : State) (v : Rio) : (State.tu { s with rio := v }) = s.tu := rfl
@[simp] theorem State.with_rio_acq (s : State) (v : Rio) : (State.acq { s with rio := v }) = s.acq := rfl
@[simp] theorem State.with_rio_gr (s : State) (v : Rio) : (State.gr { s with rio := v }) = s.gr := rfl
@[simp] theorem State.with_rio_le (s : State) (v : Rio) : (State.le { s with rio := v }) = s.le := rfl
@[simp] theorem State.with_rio_rio (s : State) (v : Rio) : (State.rio { s with rio := v }) = v := rfl
@[simp] theorem State.with_rio_fio (s : State) (v : Rio) : (State.fio { s with rio := v }) = s.fio := rfl
@[simp] theorem State.with_rio_upc (s : State) (v : Rio) : (State.upc { s with rio := v }) = s.upc := rfl
@[simp] theorem State.with_rio_dr (s : State) (v : Rio) : (State.dr { s with rio := v }) = s.dr := rfl
@[simp] theorem State.with_rio_evr (s : State) (v : Rio) : (State.evr { s with rio := v }) = s.evr := rfl
@[simp] theorem State.with_rio_pr (s : State) (v : Rio) : (State.pr { s with rio := v }) = s.pr := rfl
@[simp] theorem State.with_rio_net (s : State) (v : Rio) : (State.net { s with rio := v }) = s.net := rfl
@[simp] theorem State.with_rio_cmd (s : State) (v : Rio) : (State.cmd { s with rio := v }) = s.cmd := rfl
@[simp] theorem State.with_rio_sec (s : State) (v : Rio) : (State.sec { s with rio := v }) = s.sec := rfl
@[simp] theorem State.with_rio_hlt (s : State) (v : Rio) : (State.hlt { s with rio := v }) = s.hlt := rfl
@[simp] theorem State.with_rio_pending (s : State) (v : Rio) : (State.pending { s with rio := v }) = s.pending := rfl
theorem State.with_rio_only (s : State) (v : Rio) : Only [.rio] s { s with rio := v } := fun p => by
  cases p <;> simp [Same]

/-! Replacing `fio`. -/

@[simp] theorem State.with_fio_code (s : State) (v : Field) : (State.code { s with fio := v }) = s.code := rfl
@[simp] theorem State.with_fio_pw (s : State) (v : Field) : (State.pw { s with fio := v }) = s.pw := rfl
@[simp] theorem State.with_fio_pads (s : State) (v : Field) : (State.pads { s with fio := v }) = s.pads := rfl
@[simp] theorem State.with_fio_fl (s : State) (v : Field) : (State.fl { s with fio := v }) = s.fl := rfl
@[simp] theorem State.with_fio_boot (s : State) (v : Field) : (State.boot { s with fio := v }) = s.boot := rfl
@[simp] theorem State.with_fio_img (s : State) (v : Field) : (State.img { s with fio := v }) = s.img := rfl
@[simp] theorem State.with_fio_tu (s : State) (v : Field) : (State.tu { s with fio := v }) = s.tu := rfl
@[simp] theorem State.with_fio_acq (s : State) (v : Field) : (State.acq { s with fio := v }) = s.acq := rfl
@[simp] theorem State.with_fio_gr (s : State) (v : Field) : (State.gr { s with fio := v }) = s.gr := rfl
@[simp] theorem State.with_fio_le (s : State) (v : Field) : (State.le { s with fio := v }) = s.le := rfl
@[simp] theorem State.with_fio_rio (s : State) (v : Field) : (State.rio { s with fio := v }) = s.rio := rfl
@[simp] theorem State.with_fio_fio (s : State) (v : Field) : (State.fio { s with fio := v }) = v := rfl
@[simp] theorem State.with_fio_upc (s : State) (v : Field) : (State.upc { s with fio := v }) = s.upc := rfl
@[simp] theorem State.with_fio_dr (s : State) (v : Field) : (State.dr { s with fio := v }) = s.dr := rfl
@[simp] theorem State.with_fio_evr (s : State) (v : Field) : (State.evr { s with fio := v }) = s.evr := rfl
@[simp] theorem State.with_fio_pr (s : State) (v : Field) : (State.pr { s with fio := v }) = s.pr := rfl
@[simp] theorem State.with_fio_net (s : State) (v : Field) : (State.net { s with fio := v }) = s.net := rfl
@[simp] theorem State.with_fio_cmd (s : State) (v : Field) : (State.cmd { s with fio := v }) = s.cmd := rfl
@[simp] theorem State.with_fio_sec (s : State) (v : Field) : (State.sec { s with fio := v }) = s.sec := rfl
@[simp] theorem State.with_fio_hlt (s : State) (v : Field) : (State.hlt { s with fio := v }) = s.hlt := rfl
@[simp] theorem State.with_fio_pending (s : State) (v : Field) : (State.pending { s with fio := v }) = s.pending := rfl
theorem State.with_fio_only (s : State) (v : Field) : Only [.fio] s { s with fio := v } := fun p => by
  cases p <;> simp [Same]

/-! Replacing `upc`. -/

@[simp] theorem State.with_upc_code (s : State) (v : Upc) : (State.code { s with upc := v }) = s.code := rfl
@[simp] theorem State.with_upc_pw (s : State) (v : Upc) : (State.pw { s with upc := v }) = s.pw := rfl
@[simp] theorem State.with_upc_pads (s : State) (v : Upc) : (State.pads { s with upc := v }) = s.pads := rfl
@[simp] theorem State.with_upc_fl (s : State) (v : Upc) : (State.fl { s with upc := v }) = s.fl := rfl
@[simp] theorem State.with_upc_boot (s : State) (v : Upc) : (State.boot { s with upc := v }) = s.boot := rfl
@[simp] theorem State.with_upc_img (s : State) (v : Upc) : (State.img { s with upc := v }) = s.img := rfl
@[simp] theorem State.with_upc_tu (s : State) (v : Upc) : (State.tu { s with upc := v }) = s.tu := rfl
@[simp] theorem State.with_upc_acq (s : State) (v : Upc) : (State.acq { s with upc := v }) = s.acq := rfl
@[simp] theorem State.with_upc_gr (s : State) (v : Upc) : (State.gr { s with upc := v }) = s.gr := rfl
@[simp] theorem State.with_upc_le (s : State) (v : Upc) : (State.le { s with upc := v }) = s.le := rfl
@[simp] theorem State.with_upc_rio (s : State) (v : Upc) : (State.rio { s with upc := v }) = s.rio := rfl
@[simp] theorem State.with_upc_fio (s : State) (v : Upc) : (State.fio { s with upc := v }) = s.fio := rfl
@[simp] theorem State.with_upc_upc (s : State) (v : Upc) : (State.upc { s with upc := v }) = v := rfl
@[simp] theorem State.with_upc_dr (s : State) (v : Upc) : (State.dr { s with upc := v }) = s.dr := rfl
@[simp] theorem State.with_upc_evr (s : State) (v : Upc) : (State.evr { s with upc := v }) = s.evr := rfl
@[simp] theorem State.with_upc_pr (s : State) (v : Upc) : (State.pr { s with upc := v }) = s.pr := rfl
@[simp] theorem State.with_upc_net (s : State) (v : Upc) : (State.net { s with upc := v }) = s.net := rfl
@[simp] theorem State.with_upc_cmd (s : State) (v : Upc) : (State.cmd { s with upc := v }) = s.cmd := rfl
@[simp] theorem State.with_upc_sec (s : State) (v : Upc) : (State.sec { s with upc := v }) = s.sec := rfl
@[simp] theorem State.with_upc_hlt (s : State) (v : Upc) : (State.hlt { s with upc := v }) = s.hlt := rfl
@[simp] theorem State.with_upc_pending (s : State) (v : Upc) : (State.pending { s with upc := v }) = s.pending := rfl
theorem State.with_upc_only (s : State) (v : Upc) : Only [.upc] s { s with upc := v } := fun p => by
  cases p <;> simp [Same]

/-! Replacing `dr`. -/

@[simp] theorem State.with_dr_code (s : State) (v : Dr) : (State.code { s with dr := v }) = s.code := rfl
@[simp] theorem State.with_dr_pw (s : State) (v : Dr) : (State.pw { s with dr := v }) = s.pw := rfl
@[simp] theorem State.with_dr_pads (s : State) (v : Dr) : (State.pads { s with dr := v }) = s.pads := rfl
@[simp] theorem State.with_dr_fl (s : State) (v : Dr) : (State.fl { s with dr := v }) = s.fl := rfl
@[simp] theorem State.with_dr_boot (s : State) (v : Dr) : (State.boot { s with dr := v }) = s.boot := rfl
@[simp] theorem State.with_dr_img (s : State) (v : Dr) : (State.img { s with dr := v }) = s.img := rfl
@[simp] theorem State.with_dr_tu (s : State) (v : Dr) : (State.tu { s with dr := v }) = s.tu := rfl
@[simp] theorem State.with_dr_acq (s : State) (v : Dr) : (State.acq { s with dr := v }) = s.acq := rfl
@[simp] theorem State.with_dr_gr (s : State) (v : Dr) : (State.gr { s with dr := v }) = s.gr := rfl
@[simp] theorem State.with_dr_le (s : State) (v : Dr) : (State.le { s with dr := v }) = s.le := rfl
@[simp] theorem State.with_dr_rio (s : State) (v : Dr) : (State.rio { s with dr := v }) = s.rio := rfl
@[simp] theorem State.with_dr_fio (s : State) (v : Dr) : (State.fio { s with dr := v }) = s.fio := rfl
@[simp] theorem State.with_dr_upc (s : State) (v : Dr) : (State.upc { s with dr := v }) = s.upc := rfl
@[simp] theorem State.with_dr_dr (s : State) (v : Dr) : (State.dr { s with dr := v }) = v := rfl
@[simp] theorem State.with_dr_evr (s : State) (v : Dr) : (State.evr { s with dr := v }) = s.evr := rfl
@[simp] theorem State.with_dr_pr (s : State) (v : Dr) : (State.pr { s with dr := v }) = s.pr := rfl
@[simp] theorem State.with_dr_net (s : State) (v : Dr) : (State.net { s with dr := v }) = s.net := rfl
@[simp] theorem State.with_dr_cmd (s : State) (v : Dr) : (State.cmd { s with dr := v }) = s.cmd := rfl
@[simp] theorem State.with_dr_sec (s : State) (v : Dr) : (State.sec { s with dr := v }) = s.sec := rfl
@[simp] theorem State.with_dr_hlt (s : State) (v : Dr) : (State.hlt { s with dr := v }) = s.hlt := rfl
@[simp] theorem State.with_dr_pending (s : State) (v : Dr) : (State.pending { s with dr := v }) = s.pending := rfl
theorem State.with_dr_only (s : State) (v : Dr) : Only [.dr] s { s with dr := v } := fun p => by
  cases p <;> simp [Same]

/-! Replacing `evr`. -/

@[simp] theorem State.with_evr_code (s : State) (v : EventRec) : (State.code { s with evr := v }) = s.code := rfl
@[simp] theorem State.with_evr_pw (s : State) (v : EventRec) : (State.pw { s with evr := v }) = s.pw := rfl
@[simp] theorem State.with_evr_pads (s : State) (v : EventRec) : (State.pads { s with evr := v }) = s.pads := rfl
@[simp] theorem State.with_evr_fl (s : State) (v : EventRec) : (State.fl { s with evr := v }) = s.fl := rfl
@[simp] theorem State.with_evr_boot (s : State) (v : EventRec) : (State.boot { s with evr := v }) = s.boot := rfl
@[simp] theorem State.with_evr_img (s : State) (v : EventRec) : (State.img { s with evr := v }) = s.img := rfl
@[simp] theorem State.with_evr_tu (s : State) (v : EventRec) : (State.tu { s with evr := v }) = s.tu := rfl
@[simp] theorem State.with_evr_acq (s : State) (v : EventRec) : (State.acq { s with evr := v }) = s.acq := rfl
@[simp] theorem State.with_evr_gr (s : State) (v : EventRec) : (State.gr { s with evr := v }) = s.gr := rfl
@[simp] theorem State.with_evr_le (s : State) (v : EventRec) : (State.le { s with evr := v }) = s.le := rfl
@[simp] theorem State.with_evr_rio (s : State) (v : EventRec) : (State.rio { s with evr := v }) = s.rio := rfl
@[simp] theorem State.with_evr_fio (s : State) (v : EventRec) : (State.fio { s with evr := v }) = s.fio := rfl
@[simp] theorem State.with_evr_upc (s : State) (v : EventRec) : (State.upc { s with evr := v }) = s.upc := rfl
@[simp] theorem State.with_evr_dr (s : State) (v : EventRec) : (State.dr { s with evr := v }) = s.dr := rfl
@[simp] theorem State.with_evr_evr (s : State) (v : EventRec) : (State.evr { s with evr := v }) = v := rfl
@[simp] theorem State.with_evr_pr (s : State) (v : EventRec) : (State.pr { s with evr := v }) = s.pr := rfl
@[simp] theorem State.with_evr_net (s : State) (v : EventRec) : (State.net { s with evr := v }) = s.net := rfl
@[simp] theorem State.with_evr_cmd (s : State) (v : EventRec) : (State.cmd { s with evr := v }) = s.cmd := rfl
@[simp] theorem State.with_evr_sec (s : State) (v : EventRec) : (State.sec { s with evr := v }) = s.sec := rfl
@[simp] theorem State.with_evr_hlt (s : State) (v : EventRec) : (State.hlt { s with evr := v }) = s.hlt := rfl
@[simp] theorem State.with_evr_pending (s : State) (v : EventRec) : (State.pending { s with evr := v }) = s.pending := rfl
theorem State.with_evr_only (s : State) (v : EventRec) : Only [.evr] s { s with evr := v } := fun p => by
  cases p <;> simp [Same]

/-! Replacing `pr`. -/

@[simp] theorem State.with_pr_code (s : State) (v : Pair) : (State.code { s with pr := v }) = s.code := rfl
@[simp] theorem State.with_pr_pw (s : State) (v : Pair) : (State.pw { s with pr := v }) = s.pw := rfl
@[simp] theorem State.with_pr_pads (s : State) (v : Pair) : (State.pads { s with pr := v }) = s.pads := rfl
@[simp] theorem State.with_pr_fl (s : State) (v : Pair) : (State.fl { s with pr := v }) = s.fl := rfl
@[simp] theorem State.with_pr_boot (s : State) (v : Pair) : (State.boot { s with pr := v }) = s.boot := rfl
@[simp] theorem State.with_pr_img (s : State) (v : Pair) : (State.img { s with pr := v }) = s.img := rfl
@[simp] theorem State.with_pr_tu (s : State) (v : Pair) : (State.tu { s with pr := v }) = s.tu := rfl
@[simp] theorem State.with_pr_acq (s : State) (v : Pair) : (State.acq { s with pr := v }) = s.acq := rfl
@[simp] theorem State.with_pr_gr (s : State) (v : Pair) : (State.gr { s with pr := v }) = s.gr := rfl
@[simp] theorem State.with_pr_le (s : State) (v : Pair) : (State.le { s with pr := v }) = s.le := rfl
@[simp] theorem State.with_pr_rio (s : State) (v : Pair) : (State.rio { s with pr := v }) = s.rio := rfl
@[simp] theorem State.with_pr_fio (s : State) (v : Pair) : (State.fio { s with pr := v }) = s.fio := rfl
@[simp] theorem State.with_pr_upc (s : State) (v : Pair) : (State.upc { s with pr := v }) = s.upc := rfl
@[simp] theorem State.with_pr_dr (s : State) (v : Pair) : (State.dr { s with pr := v }) = s.dr := rfl
@[simp] theorem State.with_pr_evr (s : State) (v : Pair) : (State.evr { s with pr := v }) = s.evr := rfl
@[simp] theorem State.with_pr_pr (s : State) (v : Pair) : (State.pr { s with pr := v }) = v := rfl
@[simp] theorem State.with_pr_net (s : State) (v : Pair) : (State.net { s with pr := v }) = s.net := rfl
@[simp] theorem State.with_pr_cmd (s : State) (v : Pair) : (State.cmd { s with pr := v }) = s.cmd := rfl
@[simp] theorem State.with_pr_sec (s : State) (v : Pair) : (State.sec { s with pr := v }) = s.sec := rfl
@[simp] theorem State.with_pr_hlt (s : State) (v : Pair) : (State.hlt { s with pr := v }) = s.hlt := rfl
@[simp] theorem State.with_pr_pending (s : State) (v : Pair) : (State.pending { s with pr := v }) = s.pending := rfl
theorem State.with_pr_only (s : State) (v : Pair) : Only [.pr] s { s with pr := v } := fun p => by
  cases p <;> simp [Same]

/-! Replacing `net`. -/

@[simp] theorem State.with_net_code (s : State) (v : Net) : (State.code { s with net := v }) = s.code := rfl
@[simp] theorem State.with_net_pw (s : State) (v : Net) : (State.pw { s with net := v }) = s.pw := rfl
@[simp] theorem State.with_net_pads (s : State) (v : Net) : (State.pads { s with net := v }) = s.pads := rfl
@[simp] theorem State.with_net_fl (s : State) (v : Net) : (State.fl { s with net := v }) = s.fl := rfl
@[simp] theorem State.with_net_boot (s : State) (v : Net) : (State.boot { s with net := v }) = s.boot := rfl
@[simp] theorem State.with_net_img (s : State) (v : Net) : (State.img { s with net := v }) = s.img := rfl
@[simp] theorem State.with_net_tu (s : State) (v : Net) : (State.tu { s with net := v }) = s.tu := rfl
@[simp] theorem State.with_net_acq (s : State) (v : Net) : (State.acq { s with net := v }) = s.acq := rfl
@[simp] theorem State.with_net_gr (s : State) (v : Net) : (State.gr { s with net := v }) = s.gr := rfl
@[simp] theorem State.with_net_le (s : State) (v : Net) : (State.le { s with net := v }) = s.le := rfl
@[simp] theorem State.with_net_rio (s : State) (v : Net) : (State.rio { s with net := v }) = s.rio := rfl
@[simp] theorem State.with_net_fio (s : State) (v : Net) : (State.fio { s with net := v }) = s.fio := rfl
@[simp] theorem State.with_net_upc (s : State) (v : Net) : (State.upc { s with net := v }) = s.upc := rfl
@[simp] theorem State.with_net_dr (s : State) (v : Net) : (State.dr { s with net := v }) = s.dr := rfl
@[simp] theorem State.with_net_evr (s : State) (v : Net) : (State.evr { s with net := v }) = s.evr := rfl
@[simp] theorem State.with_net_pr (s : State) (v : Net) : (State.pr { s with net := v }) = s.pr := rfl
@[simp] theorem State.with_net_net (s : State) (v : Net) : (State.net { s with net := v }) = v := rfl
@[simp] theorem State.with_net_cmd (s : State) (v : Net) : (State.cmd { s with net := v }) = s.cmd := rfl
@[simp] theorem State.with_net_sec (s : State) (v : Net) : (State.sec { s with net := v }) = s.sec := rfl
@[simp] theorem State.with_net_hlt (s : State) (v : Net) : (State.hlt { s with net := v }) = s.hlt := rfl
@[simp] theorem State.with_net_pending (s : State) (v : Net) : (State.pending { s with net := v }) = s.pending := rfl
theorem State.with_net_only (s : State) (v : Net) : Only [.net] s { s with net := v } := fun p => by
  cases p <;> simp [Same]

/-! Replacing `cmd`. -/

@[simp] theorem State.with_cmd_code (s : State) (v : Cmd) : (State.code { s with cmd := v }) = s.code := rfl
@[simp] theorem State.with_cmd_pw (s : State) (v : Cmd) : (State.pw { s with cmd := v }) = s.pw := rfl
@[simp] theorem State.with_cmd_pads (s : State) (v : Cmd) : (State.pads { s with cmd := v }) = s.pads := rfl
@[simp] theorem State.with_cmd_fl (s : State) (v : Cmd) : (State.fl { s with cmd := v }) = s.fl := rfl
@[simp] theorem State.with_cmd_boot (s : State) (v : Cmd) : (State.boot { s with cmd := v }) = s.boot := rfl
@[simp] theorem State.with_cmd_img (s : State) (v : Cmd) : (State.img { s with cmd := v }) = s.img := rfl
@[simp] theorem State.with_cmd_tu (s : State) (v : Cmd) : (State.tu { s with cmd := v }) = s.tu := rfl
@[simp] theorem State.with_cmd_acq (s : State) (v : Cmd) : (State.acq { s with cmd := v }) = s.acq := rfl
@[simp] theorem State.with_cmd_gr (s : State) (v : Cmd) : (State.gr { s with cmd := v }) = s.gr := rfl
@[simp] theorem State.with_cmd_le (s : State) (v : Cmd) : (State.le { s with cmd := v }) = s.le := rfl
@[simp] theorem State.with_cmd_rio (s : State) (v : Cmd) : (State.rio { s with cmd := v }) = s.rio := rfl
@[simp] theorem State.with_cmd_fio (s : State) (v : Cmd) : (State.fio { s with cmd := v }) = s.fio := rfl
@[simp] theorem State.with_cmd_upc (s : State) (v : Cmd) : (State.upc { s with cmd := v }) = s.upc := rfl
@[simp] theorem State.with_cmd_dr (s : State) (v : Cmd) : (State.dr { s with cmd := v }) = s.dr := rfl
@[simp] theorem State.with_cmd_evr (s : State) (v : Cmd) : (State.evr { s with cmd := v }) = s.evr := rfl
@[simp] theorem State.with_cmd_pr (s : State) (v : Cmd) : (State.pr { s with cmd := v }) = s.pr := rfl
@[simp] theorem State.with_cmd_net (s : State) (v : Cmd) : (State.net { s with cmd := v }) = s.net := rfl
@[simp] theorem State.with_cmd_cmd (s : State) (v : Cmd) : (State.cmd { s with cmd := v }) = v := rfl
@[simp] theorem State.with_cmd_sec (s : State) (v : Cmd) : (State.sec { s with cmd := v }) = s.sec := rfl
@[simp] theorem State.with_cmd_hlt (s : State) (v : Cmd) : (State.hlt { s with cmd := v }) = s.hlt := rfl
@[simp] theorem State.with_cmd_pending (s : State) (v : Cmd) : (State.pending { s with cmd := v }) = s.pending := rfl
theorem State.with_cmd_only (s : State) (v : Cmd) : Only [.cmd] s { s with cmd := v } := fun p => by
  cases p <;> simp [Same]

/-! Replacing `sec`. -/

@[simp] theorem State.with_sec_code (s : State) (v : Sec) : (State.code { s with sec := v }) = s.code := rfl
@[simp] theorem State.with_sec_pw (s : State) (v : Sec) : (State.pw { s with sec := v }) = s.pw := rfl
@[simp] theorem State.with_sec_pads (s : State) (v : Sec) : (State.pads { s with sec := v }) = s.pads := rfl
@[simp] theorem State.with_sec_fl (s : State) (v : Sec) : (State.fl { s with sec := v }) = s.fl := rfl
@[simp] theorem State.with_sec_boot (s : State) (v : Sec) : (State.boot { s with sec := v }) = s.boot := rfl
@[simp] theorem State.with_sec_img (s : State) (v : Sec) : (State.img { s with sec := v }) = s.img := rfl
@[simp] theorem State.with_sec_tu (s : State) (v : Sec) : (State.tu { s with sec := v }) = s.tu := rfl
@[simp] theorem State.with_sec_acq (s : State) (v : Sec) : (State.acq { s with sec := v }) = s.acq := rfl
@[simp] theorem State.with_sec_gr (s : State) (v : Sec) : (State.gr { s with sec := v }) = s.gr := rfl
@[simp] theorem State.with_sec_le (s : State) (v : Sec) : (State.le { s with sec := v }) = s.le := rfl
@[simp] theorem State.with_sec_rio (s : State) (v : Sec) : (State.rio { s with sec := v }) = s.rio := rfl
@[simp] theorem State.with_sec_fio (s : State) (v : Sec) : (State.fio { s with sec := v }) = s.fio := rfl
@[simp] theorem State.with_sec_upc (s : State) (v : Sec) : (State.upc { s with sec := v }) = s.upc := rfl
@[simp] theorem State.with_sec_dr (s : State) (v : Sec) : (State.dr { s with sec := v }) = s.dr := rfl
@[simp] theorem State.with_sec_evr (s : State) (v : Sec) : (State.evr { s with sec := v }) = s.evr := rfl
@[simp] theorem State.with_sec_pr (s : State) (v : Sec) : (State.pr { s with sec := v }) = s.pr := rfl
@[simp] theorem State.with_sec_net (s : State) (v : Sec) : (State.net { s with sec := v }) = s.net := rfl
@[simp] theorem State.with_sec_cmd (s : State) (v : Sec) : (State.cmd { s with sec := v }) = s.cmd := rfl
@[simp] theorem State.with_sec_sec (s : State) (v : Sec) : (State.sec { s with sec := v }) = v := rfl
@[simp] theorem State.with_sec_hlt (s : State) (v : Sec) : (State.hlt { s with sec := v }) = s.hlt := rfl
@[simp] theorem State.with_sec_pending (s : State) (v : Sec) : (State.pending { s with sec := v }) = s.pending := rfl
theorem State.with_sec_only (s : State) (v : Sec) : Only [.sec] s { s with sec := v } := fun p => by
  cases p <;> simp [Same]

/-! Replacing `hlt`. -/

@[simp] theorem State.with_hlt_code (s : State) (v : Health) : (State.code { s with hlt := v }) = s.code := rfl
@[simp] theorem State.with_hlt_pw (s : State) (v : Health) : (State.pw { s with hlt := v }) = s.pw := rfl
@[simp] theorem State.with_hlt_pads (s : State) (v : Health) : (State.pads { s with hlt := v }) = s.pads := rfl
@[simp] theorem State.with_hlt_fl (s : State) (v : Health) : (State.fl { s with hlt := v }) = s.fl := rfl
@[simp] theorem State.with_hlt_boot (s : State) (v : Health) : (State.boot { s with hlt := v }) = s.boot := rfl
@[simp] theorem State.with_hlt_img (s : State) (v : Health) : (State.img { s with hlt := v }) = s.img := rfl
@[simp] theorem State.with_hlt_tu (s : State) (v : Health) : (State.tu { s with hlt := v }) = s.tu := rfl
@[simp] theorem State.with_hlt_acq (s : State) (v : Health) : (State.acq { s with hlt := v }) = s.acq := rfl
@[simp] theorem State.with_hlt_gr (s : State) (v : Health) : (State.gr { s with hlt := v }) = s.gr := rfl
@[simp] theorem State.with_hlt_le (s : State) (v : Health) : (State.le { s with hlt := v }) = s.le := rfl
@[simp] theorem State.with_hlt_rio (s : State) (v : Health) : (State.rio { s with hlt := v }) = s.rio := rfl
@[simp] theorem State.with_hlt_fio (s : State) (v : Health) : (State.fio { s with hlt := v }) = s.fio := rfl
@[simp] theorem State.with_hlt_upc (s : State) (v : Health) : (State.upc { s with hlt := v }) = s.upc := rfl
@[simp] theorem State.with_hlt_dr (s : State) (v : Health) : (State.dr { s with hlt := v }) = s.dr := rfl
@[simp] theorem State.with_hlt_evr (s : State) (v : Health) : (State.evr { s with hlt := v }) = s.evr := rfl
@[simp] theorem State.with_hlt_pr (s : State) (v : Health) : (State.pr { s with hlt := v }) = s.pr := rfl
@[simp] theorem State.with_hlt_net (s : State) (v : Health) : (State.net { s with hlt := v }) = s.net := rfl
@[simp] theorem State.with_hlt_cmd (s : State) (v : Health) : (State.cmd { s with hlt := v }) = s.cmd := rfl
@[simp] theorem State.with_hlt_sec (s : State) (v : Health) : (State.sec { s with hlt := v }) = s.sec := rfl
@[simp] theorem State.with_hlt_hlt (s : State) (v : Health) : (State.hlt { s with hlt := v }) = v := rfl
@[simp] theorem State.with_hlt_pending (s : State) (v : Health) : (State.pending { s with hlt := v }) = s.pending := rfl
theorem State.with_hlt_only (s : State) (v : Health) : Only [.hlt] s { s with hlt := v } := fun p => by
  cases p <;> simp [Same]

/-! Replacing `pending`. -/

@[simp] theorem State.with_pending_code (s : State) (v : List Instr) : (State.code { s with pending := v }) = s.code := rfl
@[simp] theorem State.with_pending_pw (s : State) (v : List Instr) : (State.pw { s with pending := v }) = s.pw := rfl
@[simp] theorem State.with_pending_pads (s : State) (v : List Instr) : (State.pads { s with pending := v }) = s.pads := rfl
@[simp] theorem State.with_pending_fl (s : State) (v : List Instr) : (State.fl { s with pending := v }) = s.fl := rfl
@[simp] theorem State.with_pending_boot (s : State) (v : List Instr) : (State.boot { s with pending := v }) = s.boot := rfl
@[simp] theorem State.with_pending_img (s : State) (v : List Instr) : (State.img { s with pending := v }) = s.img := rfl
@[simp] theorem State.with_pending_tu (s : State) (v : List Instr) : (State.tu { s with pending := v }) = s.tu := rfl
@[simp] theorem State.with_pending_acq (s : State) (v : List Instr) : (State.acq { s with pending := v }) = s.acq := rfl
@[simp] theorem State.with_pending_gr (s : State) (v : List Instr) : (State.gr { s with pending := v }) = s.gr := rfl
@[simp] theorem State.with_pending_le (s : State) (v : List Instr) : (State.le { s with pending := v }) = s.le := rfl
@[simp] theorem State.with_pending_rio (s : State) (v : List Instr) : (State.rio { s with pending := v }) = s.rio := rfl
@[simp] theorem State.with_pending_fio (s : State) (v : List Instr) : (State.fio { s with pending := v }) = s.fio := rfl
@[simp] theorem State.with_pending_upc (s : State) (v : List Instr) : (State.upc { s with pending := v }) = s.upc := rfl
@[simp] theorem State.with_pending_dr (s : State) (v : List Instr) : (State.dr { s with pending := v }) = s.dr := rfl
@[simp] theorem State.with_pending_evr (s : State) (v : List Instr) : (State.evr { s with pending := v }) = s.evr := rfl
@[simp] theorem State.with_pending_pr (s : State) (v : List Instr) : (State.pr { s with pending := v }) = s.pr := rfl
@[simp] theorem State.with_pending_net (s : State) (v : List Instr) : (State.net { s with pending := v }) = s.net := rfl
@[simp] theorem State.with_pending_cmd (s : State) (v : List Instr) : (State.cmd { s with pending := v }) = s.cmd := rfl
@[simp] theorem State.with_pending_sec (s : State) (v : List Instr) : (State.sec { s with pending := v }) = s.sec := rfl
@[simp] theorem State.with_pending_hlt (s : State) (v : List Instr) : (State.hlt { s with pending := v }) = s.hlt := rfl
@[simp] theorem State.with_pending_pending (s : State) (v : List Instr) : (State.pending { s with pending := v }) = v := rfl
theorem State.with_pending_only (s : State) (v : List Instr) : Only [.pending] s { s with pending := v } := fun p => by
  cases p <;> simp [Same]

end Sys2Proof.Machine
end

