-- ==== Sys2Proof/Tests/Slice0.lean ====
section
/-! SUPPORT. Tests of the model. First the states the tests share; then the well-formedness smoke, one ill-formed command
for each check; then the worked examples of the spec and a few single effects, with the expected values taken from the
spec's text; then one witness theorem for each statement that has hypotheses: each clause's hypotheses hold together at a
concrete input. -/

namespace Sys2Proof.Tests

open Sys2Proof.Machine

set_option maxRecDepth 20000
set_option linter.unusedVariables false

/-- A session with every role on the maintenance UART. -/
def sess : Session :=
  { (default : Session) with num := 1, transport := .uart, roles := 31#5, phys := true, normal := 8, bulk := 4 }

/-- A request of that session. -/
def rq : Req := ⟨.uart, 1, 7⟩

/-- A running engine with that session open. -/
def live : State :=
  { State.reset with
    pw := { State.reset.pw with phase := .running }
    cmd := { State.reset.cmd with sessions := [sess] }
    evr := { State.reset.evr with started := true } }

/-- An engine in a stage of its start or shutdown. -/
def atPhase (p : Phase) : State := { live with pw := { live.pw with phase := p } }

/-- TD0 and TD1 read `t` seconds. -/
def atSec (t : Nat) (s : State) : State :=
  { s with tu := { s.tu with d0 := { s.tu.d0 with t := secT t }, d1 := { s.tu.d1 with t := secT t } } }

/-- An image with parameters in service. -/
def withPrm (ps : List Param) (s : State) : State :=
  { s with img := { s.img with cur := some { (default : Image) with params := ps } } }

/-- A running engine whose hold-up store is charged. -/
def charged : State := { live with pw := { live.pw with storeCharged := true } }

/-- A staging of `len` bytes by that session. -/
def staging (len : Nat) : State := { live with img := { live.img with staging := some (1, len) } }

/-- An image staged and found valid beside one in service. -/
def staged (u : Image) : State := { live with img := { live.img with next := some u, cur := some default, pendStatus := 0 } }

/-- An activation accepted 1 s ago. -/
def activatingWith (a : Activation) : State :=
  atSec 1 { staged default with img := { (staged default).img with act := some a } }

/-- A firmware staging of `len` bytes for FW_B by that session. -/
def fwStaging (len : Nat) : State := { live with boot := { live.boot with fwStage := some (len, 1, 1) } }

/-- A running engine with no session. -/
def noSession : State := { live with cmd := { live.cmd with sessions := [] } }

/-- A task that runs. -/
def tk (rlo : Bool) : Task := { (default : Task) with st := .running, rlo := rlo }

/-- An engine in RUN whose running task `t` stands at an instruction. -/
def atWord (op sp a : Nat) (t : Task) : State :=
  { live with le := { live.le with mode := .run, program := [instrWord op sp a], tasks := [t] } }

/-- With timer 5 and counter 5. -/
def withTC (s : State) : State :=
  { s with le := { s.le with timers := [{ (default : Timer) with n := 5 }], counters := [{ (default : Counter) with n := 5 }] } }

/-- A logic section of one cyclic task, released in every wave, and one event task. -/
def section1 : LogicSec :=
  { (default : LogicSec) with tasks := [{ (default : TaskCfg) with task := 1, period := 1 }, { (default : TaskCfg) with task := 8 }] }

/-- An engine that runs that section. -/
def runs1 : State :=
  { live with le := { live.le with mode := .run, began := true, sec := some section1, tasks := [{ (default : Task) with num := 1 }, { (default : Task) with num := 8 }] } }

/-- An engine whose servo is the host's. -/
def hostServo : State := withPrm [⟨0x0A05, 0, [1#8]⟩] live

/-- TD1 in glide since a lock of class `c`. -/
def glide (c : Nat) : State :=
  atSec 3600 { live with tu := { live.tu with lockCls := c, d1 := { live.tu.d1 with qst := .glide, cls := c } } }

/-- An image in service with every port enabled. -/
def ports : State := withPrm [] { live with net := { live.net with port := List.replicate 3 { (default : Port) with link := true } } }

/-- A launch entry of the commands, due at 1 s. -/
def entry3 : LaunchEntry :=
  { (default : LaunchEntry) with num := 3, owner := .command, armed := true, next := 1000000000, val := ⟨1000000000, 0, 5, 0⟩ }

/-- With that entry. -/
def armed3 : State := { live with tu := { live.tu with launches := [entry3] } }

/-- An engine whose graph runs. -/
def graphOn : State := { live with gr := { live.gr with running := true } }

/-- A rotation step in progress. -/
def rot (p : RotPhase) : State := { live with acq := { live.acq with rotStarted := true, rotPhase := p } }

/-- A rotation that resolves a mismatch. -/
def resolving (p : RotPhase) : State := { rot p with acq := { (rot p).acq with rotState := 1 } }

/-- A sampled-value stream configured. -/
def svOn : State :=
  let s := withPrm [⟨0x0984, 0, zeros 5 ++ [5#8] ++ zeros 74⟩] live
  { s with acq := { s.acq with sv := [{ (default : SvStream) with st := 1, goodRun := 1 }, default] } }

/-- Three current channels with travelling waves at terminal 0, detection on. -/
def twLive : State :=
  let ch (n : Nat) : ChanEntry := { (default : ChanEntry) with channel := n, source := 1, input := n }
  { live with img := { live.img with cur := some { (default : Image) with chans := [ch 0, ch 1, ch 2] } } }

/-- A burst open at terminal 1. -/
def burst1 (b : Burst) : State := atSec 1 { live with acq := { live.acq with burst := [none, some b] } }

/-- Those channels with stream 0 as given, at 1 s. -/
def noisy (x : TwStream) : State := atSec 1 { twLive with acq := { twLive.acq with tw := x :: List.replicate 11 default } }

/-- An engine with the exchange of terminal 1's descriptors. -/
def exch : State := withPrm [⟨0x09A0, 0, [1#8, 0#8, 1#8] ++ zeros 13⟩] live

/-- An exchange message of one descriptor. -/
def msg : List Byte :=
  let h := [0x53#8, 0x57#8, 0x54#8, 0x57#8, 1#8, 0#8, 64#8] ++ zeros 34 ++ [1#8] ++ zeros 18
  h ++ leBytes 4 (crc32 (h ++ zeros 4 ++ zeros 32)).toNat ++ zeros 32

/-- An instance that executes on core 0. -/
def execInst : Inst := { (default : Inst) with st := .executing 0, band := 1 }

/-- With that instance. -/
def execState : State := atSec 1 { graphOn with gr := { graphOn.gr with insts := [execInst] } }

/-- Wave 0 is open with that instance. -/
def openWave : State := atSec 1 { execState with gr := { execState.gr with openWaves := [(0, 0)] } }

/-- A frequency tracker of terminal 0. -/
def tracker : Node := { (default : Node) with op := .tracker }

/-- Its hold began at TD0 0. -/
def tracking : State :=
  atSec 10 { live with
    img := { live.img with cur := some { (default : Image) with graph := some { (default : GraphSec) with nodes := [tracker] } } }
    gr := { live.gr with elems := [{ (default : Elem) with aux := [0, 0, 0, 0, 0, 0, 1] }] } }

/-- A graph with a job set. -/
def jobGraph : State :=
  { live with img := { live.img with cur := some { (default : Image) with
      graph := some { (default : GraphSec) with nodes := [{ (default : Node) with band := 3, jobEntry := some 2 }] } } } }

/-- A PMU stream of IDCODE 7. -/
def pmu7 : State := withPrm [⟨0x0990, 0, [7#8, 0#8]⟩] live

/-- The active engine of a pair in TWIN. -/
def twinActive (s : State) : State := { s with pr := { s.pr with st := .twin, active := true } }

/-- A GOOSE subscription to frames without members on port 1. -/
def gooseOn : State := withPrm [⟨0x0920, 0, zeros 14 ++ [2#8] ++ zeros 129⟩, ⟨0x0902, 1, [1#8]⟩] live

/-- A first frame of it. -/
def goose1 : GooseFrame := { (default : GooseFrame) with port := 1, st := 1 }

/-- A publication due. -/
def pub1 : State :=
  let s := withPrm [⟨0x0910, 0, zeros 160⟩] live
  { s with net := { s.net with pubs := [{ (default : GoosePub) with st := 1 }] } }

/-- A host interface with IP address 5. -/
def iface : State := withPrm [⟨0x0903, 0, zeros 7 ++ [5#8] ++ zeros 8⟩] live

/-- With an anchor and a valid TD1. -/
def tlsOn : State :=
  { iface with
    sec := { iface.sec with keys := [{ (default : Key4) with kind := 3, key := [9#8] }] }
    tu := { iface.tu with d1 := { iface.tu.d1 with qst := .locked } } }

/-- Ports with links, one of them as given. -/
def portIs (n : Nat) (x : Port) : State := { ports with net := { ports.net with port := putAt 3 ports.net.port n x } }

/-- An engine whose barriers run. -/
def barrier : State := { live with pw := { live.pw with convertersOn := true } }

/-- One output as given. -/
def doIs (n : Nat) (x : DigOut) : State := { barrier with fio := { barrier.fio with dout := putAt 8 barrier.fio.dout n x } }

/-- One input as given. -/
def diIs (n : Nat) (x : DigIn) : State := { barrier with fio := { barrier.fio with din := putAt 16 barrier.fio.din n x } }

/-- Input 15 on since TD0 0 with a maximum-on time of 3 s. -/
def maxOn (told : Bool) : State :=
  withPrm [⟨0x0555, 15, [0#8, 0#8, 3#8, 0#8]⟩] (diIs 15 { (default : DigIn) with state := true, maxOnDone := told })

/-- The process side measures with the given state; its entry 0 is configured. -/
def passing (u : Upc) : State :=
  { barrier with upc := { u with stopped := false, running := true, ent := putAt 32 u.ent 0 { (default : SeqEntry) with cfg := some default } } }

/-- Process channel 3 as given. -/
def chan3 (c : ProcChan) : State := { barrier with upc := { barrier.upc with ch := putAt 4 barrier.upc.ch 3 c } }

/-- Remote I/O of mode 1 with one station enabled and the link up. -/
def rio1 (k : Nat) : State :=
  let s := withPrm [⟨0x0C01, 0, 1#8 :: zeros 7⟩, ⟨0x0C02, k, 1#8 :: zeros 7⟩] live
  { s with net := { s.net with port := List.replicate 3 { (default : Port) with link := true } } }

/-- The Ducia ring with one station. -/
def ducia (k : Nat) : State := withPrm [⟨0x0C01, 0, 2#8 :: zeros 7⟩, ⟨0x0C02, k, 1#8 :: zeros 7⟩] live

/-- Recorder unit 31 is manual. -/
def manual31 : State := withPrm [⟨0x0720, 31, 8#8 :: zeros 39⟩] live

/-- A firing of unit 0 was collected at TD1 0. -/
def collecting : State := atSec 1 { live with dr := { live.dr with st := .armed, coll := some (0, [default]) } }

/-- A record open. -/
def capturing (x : Record) : State := { live with dr := { live.dr with cap := some x } }

/-- A record on the reel. -/
def onReel (x : Record) : State := { live with dr := { live.dr with reel := [x] } }

/-- Event code 6004h is rate limited and its bucket empty with one suppressed. -/
def limited : State :=
  let s := atSec 1 (withPrm [⟨0x0801, 0x6004, [2#8, 0#8, 0#8, 0#8, 1#8, 0#8, 0#8, 0#8]⟩] live)
  { s with evr := { s.evr with buckets := [{ (default : Bucket) with code := 0x6004, supp := 1 }] } }

/-- One record in the front buffer for 1 s. -/
def fronted : State := atSec 1 { live with evr := { live.evr with front := [default] } }


/-- A lane of a pair of serials 0 and 1 at 100 s, its pair fields as given. -/
def lane (f : Pair → Pair) : State :=
  let s := atSec 100 (withPrm [⟨0x0D01, 0, [1#8]⟩, ⟨0x0D02, 0, zeros 8⟩, ⟨0x0D02, 1, 1#8 :: zeros 7⟩] live)
  { s with pr := f s.pr, tu := { s.tu with d2 := { s.tu.d2 with t := secT 100 } } }

/-- The lane of serial 1. -/
def lane1 (f : Pair → Pair) : State :=
  { lane f with boot := { (lane f).boot with serial := 1 } }

/-- A standby in TWIN. -/
def standby (f : Pair → Pair) : State := lane (fun p => f { p with st := .twin, lanes := 3#2, wireOk := true })

/-- An active in TWIN. -/
def leads (f : Pair → Pair) : State := standby (fun p => f { p with active := true })

/-- A standby that joins. -/
def joins (n : Nat) (f : Pair → Pair) : State := lane (fun p => f { p with st := .joining, joinPhase := n, joinAt := some 0 })

/-- A pair that has never been up. -/
def starts (f : Pair → Pair) (s : (Pair → Pair) → State) : State :=
  s (fun p => f { p with st := .solo, active := false, linkOnce := false })

/-- With an image found valid beside the one in service. -/
def prepared (s : State) : State :=
  { s with img := { s.img with next := s.img.cur, pendStatus := 0 } }

/-- That session over the host port. -/
def hpi : State := { live with cmd := { live.cmd with sessions := [{ sess with transport := .hpi }] } }

/-- A packet of operation 0024h (IMG_STATUS) with tag 7 in session 1. -/
def packet : List Byte :=
  let h := [1#8, 0#8, 0x24#8, 0#8, 7#8, 0#8, 0#8, 0#8, 1#8, 0#8, 0#8, 0#8, 0#8, 0#8, 0#8, 0#8]
  h ++ leBytes 4 (crc32 h).toNat

/-- A packet that waits on the host port. -/
def waiting : Packet := { (default : Packet) with transport := .hpi }

/-- One injection at 1 s. -/
def injected (j : Inj) : State := atSec 1 { live with hlt := { live.hlt with inj := [j] } }

/-- An engine alone that is active. -/
def alone : State := { live with pr := { live.pr with active := true } }

/-- An engine of ordering code E. -/
def codeE : State := { live with code := .e }

/-- Time source `k` present. -/
def withSrc (k : Nat) : State :=
  { live with tu := { live.tu with src := (List.range 4).map (fun i => { srcOf live (i + 1) with present := decide (i + 1 = k) }) } }

/-- The last wave released has slot `k`. -/
def atWave (k : Nat) (s : State) : State := { s with tu := { s.tu with slot := k } }

/-- A burst of terminal 1 queued for location whose job has started, 2 s ago. -/
def located : State :=
  atSec 2 { live with
    acq := { live.acq with locQ := [{ (default : Burst) with term := 1, job := some 3 }] }
    gr := { live.gr with jobs := [{ (default : Job) with id := 3, started := true }] } }

/-- The field side has adopted every configuration word, these among them. -/
def configured (cfg : List (Nat × Nat)) : State :=
  { barrier with fio := { barrier.fio with cfg := cfg, cfgDone := List.range 32 } }

/-! The well-formedness smoke. -/

/-- A request and the largest values of its fields are well-formed. -/
theorem test_wf_accepts : (Instr.regRead rq (2 ^ 32 - 1) 65535).wellFormed = true := by decide

/-- A tag of 17 bits (R585). -/
theorem test_wf_req : (Instr.sessionClose ⟨.uart, 1, 65536⟩).wellFormed = false := by decide

/-- An address of 33 bits. -/
theorem test_wf_word : (Instr.regRead rq (2 ^ 32) 1).wellFormed = false := by decide

/-- A voltage of 17 bits. -/
theorem test_wf_half : (Instr.storeVoltageLow 65536).wellFormed = false := by decide

/-- A method of 9 bits. -/
theorem test_wf_byte : (Instr.sessionOpen rq 256 0 0 []).wellFormed = false := by decide

/-- A record number of 65 bits. -/
theorem test_wf_long : (Instr.reelDrainDone (2 ^ 64) 0 0).wellFormed = false := by decide

/-- There is no fourth port (R560). -/
theorem test_wf_port : (Instr.linkLoss 3).wellFormed = false := by decide

/-- There is no third terminal (R104). -/
theorem test_wf_terminal : (Instr.twLeadWindowClose 2).wellFormed = false := by decide

/-- There are 12 modal streams (R312). -/
theorem test_wf_stream : (Instr.twArrival 12 0 0 [] 0 false 0).wellFormed = false := by decide

/-- There is no input DI16 (R420). -/
theorem test_wf_input : (Instr.diChatterCleared 16).wellFormed = false := by decide

/-- There is no output DO8 (R427). -/
theorem test_wf_output : (Instr.doLaunchSwitch 8).wellFormed = false := by decide

/-- There are two field supply groups (R68). -/
theorem test_wf_group : (Instr.fioSupplyLow 2 0).wellFormed = false := by decide

/-- There are four process channels (R438). -/
theorem test_wf_chan : (Instr.readbackVerification 4).wellFormed = false := by decide

/-- There are 32 operator cores (R206). -/
theorem test_wf_core : (Instr.opCycleLimit 32).wellFormed = false := by decide

/-- There are four management cores (R601). -/
theorem test_wf_mgmt : (Instr.mgmtWatchdog 4).wellFormed = false := by decide

/-- There are 24 tasks (R352). -/
theorem test_wf_task : (Instr.cyclicTaskRelease 24).wellFormed = false := by decide

/-- There are four time domains (R10). -/
theorem test_wf_domain : (Instr.tbSlewCountWrite rq 4 0).wellFormed = false := by decide

/-- There are 32 stations (R390). -/
theorem test_wf_station : (Instr.duciaRingFrameRx 32 [] true).wellFormed = false := by decide

/-- There are 8 injection slots (R633). -/
theorem test_wf_slot : (Instr.injDurationEnd 8).wellFormed = false := by decide

/-- There are two lanes (R529). -/
theorem test_wf_lane : (Instr.plkLaneDown 2).wellFormed = false := by decide

/-- There are 128 subscriptions (R571). -/
theorem test_wf_sub : (Instr.gooseSubLost 128).wellFormed = false := by decide

/-- There are 32 publications (R567). -/
theorem test_wf_pub : (Instr.gooseRetransmit 32).wellFormed = false := by decide

/-- A percentage above 100. -/
theorem test_wf_percent : (Instr.rateStepUp 101 0).wellFormed = false := by decide

/-- An increment of 49 bits (R126). -/
theorem test_wf_inc : (Instr.tbSetInc rq 1 (2 ^ 48)).wellFormed = false := by decide

/-- A space of 5 bits (R348). -/
theorem test_wf_space : (Instr.leLd 16 0).wellFormed = false := by decide

/-- A program address of 19 bits (R347). -/
theorem test_wf_pc : (Instr.leJmp (2 ^ 18)).wellFormed = false := by decide

/-- A watermark of 7 bytes (R110). -/
theorem test_wf_mark : (Instr.leChange rq (zeros 7) (zeros 8) 0).wellFormed = false := by decide

/-- A block longer than a packet's length field (R585). -/
theorem test_wf_block : (Instr.imgData rq 0 (zeros 65536)).wellFormed = false := by decide +kernel

/-- There are 10 monitors (R630). -/
theorem test_wf_monitor : (Instr.monitorLimitCrossed 10 0).wellFormed = false := by decide

/-! The worked examples of the spec, and single effects. -/

/-- No row of the table has bits. -/
theorem test_no_row_has_bits : decodeTableWord 32 0x01010002 = none := by decide

/-- R14: a TD1 timestamp in glide with an error below 1 us carries 52h. -/
theorem test_time_quality_example : qualOf 1 { State.reset.tu.d1 with qst := .glide, cls := clsOf (999 * 2 ^ 40) } = 0x52 := by decide

/-- R168: TB_QUALn reads 2Fh, 7Fh, BFh and FFh at reset. -/
theorem test_reset_quality :
    [0x10118, 0x10158, 0x10198, 0x101D8].map (regVal State.reset) = [0x2F, 0x7F, 0xBF, 0xFF] := by decide +kernel

/-- R205, R345, R470, R639: other reset values that are not 0: ACQ_MAP0, ACQ_TW_LOC_DIST, UPC_CH0_STAT, HLT_EOL_EARLIEST, HLT_EOL_T. -/
theorem test_reset_registers :
    [0x20040, 0x20814, 0x60104, 0xD000C, 0xD0010].map (regVal State.reset) = [0x1F00, 0xFFFFFFFF, 0x10000, 0xF, 0xFFFFFFFF] := by
  decide +kernel

/-- Chapter 11's example program, instruction by instruction. -/
theorem test_logic_example_words :
    [instrWord 0x01 0 0x10002, instrWord 0x10 0 0, instrWord 0x01 8 40, instrWord 0x06 2 7, instrWord 0x15 0 0, instrWord 0x28 4 12,
      instrWord 0x20 1 0x10004, instrWord 0x75 0 0]
      = [0x01010002#32, 0x10000000#32, 0x01800028#32, 0x06200007#32, 0x15000000#32, 0x2840000C#32, 0x20110004#32, 0x75000000#32] := by
  decide

/-- R483, R484: the keyframe of 1 000 codes is E8 03 00. -/
theorem test_calender_keyframe : valBytes 1 1000 = [0xE8#8, 0x03#8, 0x00#8] := by decide

/-- R484: D = 100 stores 1 150 with s = 3 and 1 400 with s = 2. -/
theorem test_calender_example :
    let x (v : Int) : Samp := { (default : Samp) with val := v }
    items 1 100 0 (x 1000) (x 1000) ([1020, 1080, 1150, 1160, 1400].map x) =
      [0x02#8, 0x7E#8, 0x04#8, 0x00#8, 0x01#8, 0x78#8, 0x05#8, 0x00#8, 0xC0#8] := by decide

/-- R337: 284 000 m in 966.644 us is 293.800 m/us. -/
theorem test_velocity_example : velocity 284000 (966644 * 2 ^ 40) = 293800 := by decide

/-- The accumulator and RLO of the running task after a command. -/
def accAfter (r : Host.Outcome State Fault Refusal) : Option (Word × Bool) :=
  match r with
  | .next t => (runningTask t).map (fun (x : Task) => (x.acc, x.rlo))
  | _ => none

/-- A task that runs with this accumulator. -/
def acc (w : Word) : Task := { tk false with acc := w }

/-- R354: a sum that overflows saturates at 7FFF FFFFh. -/
theorem test_add_saturates :
    accAfter (execLeAdd 0xA 1 (atWord 0x48 0xA 1 (acc 0x7FFFFFFF#32))) = some (0x7FFFFFFF#32, false) := by decide +kernel

/-- R354: DIV by 0 of a negative ACC gives 8000 0000h. -/
theorem test_div_by_zero :
    accAfter (execLeDiv 0xA 0 (atWord 0x4B 0xA 0 (acc 0xFFFFFFFB#32))) = some (0x80000000#32, false) := by decide +kernel

/-- R354: division truncates toward 0: -7 over 2 is -3. -/
theorem test_div_truncates :
    accAfter (execLeDiv 0xA 2 (atWord 0x4B 0xA 2 (acc 0xFFFFFFF9#32))) = some (0xFFFFFFFD#32, false) := by decide +kernel

/-- R354: MOD by 0 gives 0. -/
theorem test_mod_by_zero : accAfter (execLeMod 0xA 0 (atWord 0x4C 0xA 0 (acc 77#32))) = some (0#32, false) := by decide +kernel

/-- R353: SAR by 31 spreads the sign. -/
theorem test_sar_spreads_sign :
    accAfter (execLeSar 0xA 31 (atWord 0x56 0xA 31 (acc 0x80000000#32))) = some (0xFFFFFFFF#32, false) := by decide +kernel

/-- R353: LDH replaces ACC[31:20] only. -/
theorem test_ldh_keeps_low :
    accAfter (execLeLdh 0xA 0xABC (atWord 0x44 0xA 0xABC (acc 0x00012345#32))) = some (0xABC12345#32, false) := by decide +kernel

/-- R349: K is a 20-bit two's-complement constant; CLT compares signed: 3 is not below -1. -/
theorem test_k_is_signed :
    accAfter (execLeClt 0xA 0xFFFFF (atWord 0x5A 0xA 0xFFFFF (acc 3#32))) = some (3#32, false) := by decide +kernel

/-- R353: FIX rounds 2.5 to even. -/
theorem test_fix_ties_to_even : accAfter (execLeFix (atWord 0x65 0 0 (acc 0x40200000#32))) = some (2#32, false) := by decide +kernel

/-- R354: FIX saturates for an infinity. -/
theorem test_fix_infinity : accAfter (execLeFix (atWord 0x65 0 0 (acc 0xFF800000#32))) = some (0x80000000#32, false) := by decide +kernel

/-- R353: 2^24 + 1 converts to the even neighbour 2^24. -/
theorem test_flt_rounds_even : accAfter (execLeFlt (atWord 0x64 0 0 (acc 0x01000001#32))) = some (0x4B800000#32, false) := by decide +kernel

/-- A packet with its CRC is accepted and queued; one changed bit of the tag counts an error (R585). -/
theorem test_hpi_crc :
    (match execHpiWriteTransfer (packet.set 4 8#8) hpi with | .next t => t.cmd.crcErr | _ => 0) = 1 := by decide +kernel

/-! The hypotheses of the statements hold together. -/

/-- Hypotheses of `FrontCommandIsExecuted`. -/
theorem witness_FrontCommandIsExecuted :
    (∃ (c : Instr) (q : List Instr) (s : State), s.pending = c :: q) :=
  ⟨.storeCharged, [], { live with pending := [.storeCharged] }, by decide⟩

/-- Hypotheses of `EmptyQueueLetsATickPass`. -/
theorem witness_EmptyQueueLetsATickPass :
    (∃ (s : State), s.pending = [] ∧ s.pw.phase ≠ .off ∧ s.tu.d0.slewLeft = 0 ∧ s.tu.d1.slewLeft = 0) ∧
    (∃ (s : State), s.pending = [] ∧ s.pw.phase = .off) :=
  ⟨⟨live, by decide⟩,
   ⟨State.reset, by decide⟩⟩

/-- Hypotheses of `EveryStepKeepsTheReservedNumbers`. -/
theorem witness_EveryStepKeepsTheReservedNumbers :
    (∃ (s : State), Reserved s) :=
  ⟨live, by unfold Reserved; decide⟩

/-- Hypotheses of `SparseStorageReadsWhatWasWritten`. -/
theorem witness_SparseStorageReadsWhatWasWritten :
    (∃ (m : SMap), smWf m = true) ∧
    (∃ (m : SMap) (a : Nat) (b : Nat), smWf m = true ∧ b ≠ a) ∧
    (∃ (m : SMap) (m' : SMap), (smWf m = true) ∧ (smWf m' = true) ∧ (∀ a, smGet m a = smGet m' a)) :=
  ⟨⟨[(3, 5)], by decide⟩,
   ⟨[(3, 5)], 3, 4, by decide⟩,
   [(3, 5)], [(3, 5)], by decide, by decide, fun _ => rfl⟩

/-- Hypotheses of `SubmittedEventIsHeldDroppedOrQueued`. -/
theorem witness_SubmittedEventIsHeldDroppedOrQueued :
    (∃ (s : State), s.evr.started = false) ∧
    (∃ (b : Block) (s : State), s.evr.started = true ∧ (s.evr.subq.filter (·.1 == b)).length < 16) ∧
    (∃ (b : Block) (s : State), s.evr.started = true ∧ 16 ≤ (s.evr.subq.filter (·.1 == b)).length) :=
  ⟨⟨State.reset, by decide⟩,
   ⟨default, live, by decide⟩,
   ⟨.hlt, { live with evr := { live.evr with subq := List.replicate 16 (.hlt, default) } }, by decide⟩⟩

/-- Hypotheses of `AnswerCarriesTheRequestsNumbers`. -/
theorem witness_AnswerCarriesTheRequestsNumbers :
    (∃ (r : Req) (s : State), ((r.session = 0 ∨ s.cmd.sessions.any (fun x => x.num == r.session && x.transport ==
      r.transport) = true))) :=
  ⟨rq, live, by decide⟩

/-- Hypotheses of `StartUpRowsComplete`. -/
theorem witness_StartUpRowsComplete :
    (∃ (s : State), s.pw.phase = .off) ∧
    (∃ (s : State), s.pw.phase = .romBoot) ∧
    (∃ (s : State), s.pw.phase = .firmware) ∧
    (∃ (s : State), s.pw.phase = .imageSelect ∧ s.img.user = []) ∧
    (∃ (s : State), s.pw.phase = .imageSelect ∧ s.img.user ≠ []) ∧
    (∃ (s : State), s.pw.phase = .configure ∧ s.img.act = none) ∧
    (∃ (s : State), running s = true ∧ s.le.began = false ∧ s.le.sec = none) ∧
    (∃ (s : State), running s = true ∧ s.boot.slot = 1 ∧ s.boot.fwbResult = 0) :=
  ⟨⟨State.reset, by decide⟩,
   ⟨atPhase .romBoot, by decide⟩,
   ⟨atPhase .firmware, by decide⟩,
   ⟨atPhase .imageSelect, by decide⟩,
   ⟨{ atPhase .imageSelect with img := { live.img with user := [0#8] } }, by decide⟩,
   ⟨atPhase .configure, by decide⟩,
   ⟨live, by decide⟩,
   ⟨{ live with boot := { live.boot with slot := 1 } }, by decide⟩⟩

/-- Hypotheses of `PowerRowsComplete`. -/
theorem witness_PowerRowsComplete :
    (∃ (s : State), s.pw.phase ≠ .off ∧ s.pw.storeCharged = false) ∧
    (∃ (s : State), s.pw.measuring = true ∧ injOn s 0x21 0 = false) ∧
    (∃ (s : State), s.pw.phase ≠ .off ∧ s.pw.storeCharged = false ∧ due s 0 (secT 5) = true) ∧
    (∃ (s : State), s.pw.phase ≠ .off ∧ s.pw.phase ≠ .holdUp ∧ s.pw.storeCharged = true ∧ s.pw.vmainGood = true) ∧
    (∃ (s : State), s.pw.phase = .running ∧ s.pw.vmainLow = false ∧ s.pw.warning = false ∧ s.fl.running = false) ∧
    (∃ (s : State), s.pw.phase = .running ∧ s.pw.warning = false ∧ s.fl.running = false) ∧
    (∃ (s : State), s.pw.phase = .running ∧ s.pw.warning = true ∧ s.pw.vmainLow = false ∧ s.pw.resetPend = false) ∧
    (∃ (s : State), (s.pw.warning = false ∨ s.pw.vmainLow = true)) ∧
    (∃ (s : State), s.pw.phase = .running ∧ injOn s 0x22 0 = false) :=
  ⟨⟨live, by decide⟩,
   ⟨{ live with pw := { live.pw with measuring := true } }, by decide⟩,
   ⟨atSec 5 live, by decide⟩,
   ⟨{ charged with pw := { charged.pw with vmainGood := true } }, by decide⟩,
   ⟨live, by decide⟩,
   ⟨live, by decide⟩,
   ⟨{ live with pw := { live.pw with warning := true } }, by decide⟩,
   ⟨live, by decide⟩,
   ⟨live, by decide⟩⟩

/-- Hypotheses of `FlushAndResetRowsComplete`. -/
theorem witness_FlushAndResetRowsComplete :
    (∃ (s : State), s.pw.phase = .running) ∧
    (∃ (s : State), s.pw.phase = .inReset) ∧
    (∃ (s : State), s.fl.running = true ∧ s.fl.recovered = false ∧ s.fl.structural = false ∧ s.fl.step ≠ 5) ∧
    (∃ (s : State), s.fl.running = true ∧ s.fl.recovered = false ∧ s.fl.step = 5 ∧ s.fl.again = 0 ∧ s.pw.phase = .running ∧
      s.pw.resetPend = false) ∧
    (∃ (s : State), s.pw.phase = .holdUp) ∧
    (∃ (s : State), s.pw.phase = .running ∧ s.fl.running = false) ∧
    (∃ (s : State), s.pw.resetPend = true ∧ s.pw.resetN = false ∧ s.fl.running = true ∧ s.fl.cause = 3 ∧
      due s s.pw.resetAt (msT 50) = true) ∧
    (∃ (s : State), s.pw.phase = .inReset) ∧
    (∃ (s : State), s.pw.phase ≠ .inReset) :=
  ⟨⟨live, by decide⟩,
   ⟨atPhase .inReset, by decide⟩,
   ⟨{ live with fl := { live.fl with running := true, step := 1 } }, by decide⟩,
   ⟨{ live with fl := { live.fl with running := true, step := 5 } }, by decide⟩,
   ⟨atPhase .holdUp, by decide⟩,
   ⟨live, by decide⟩,
   ⟨{ atSec 1 live with pw := { live.pw with resetPend := true, resetN := false }, fl := { live.fl with running := true, cause := 3 } }, by decide⟩,
   ⟨atPhase .inReset, by decide⟩,
   ⟨live, by decide⟩⟩

/-- Hypotheses of `SessionAndRegisterCommandsComplete`. -/
theorem witness_SessionAndRegisterCommandsComplete :
    (∃ (r : Req) (roles : Nat) (s : State), Served r 0x0001 s ∧ r.transport = .uart ∧ s.pw.phase ≠ .halted ∧
      lockedOut .uart s = false ∧ sessionRoom s .uart = true ∧ (roles &&& policyRoles s .uart) ≠ 0) ∧
    (∃ (r : Req) (s : State), Served r 0x0002 s ∧ r.session ≠ 0) ∧
    (∃ (r : Req) (addr : Nat) (count : Nat) (s : State), Served r 0x0010 s ∧ r.session ≠ 0 ∧ s.pw.phase ≠ .halted ∧
      s.pw.phase ≠ .romRecovery ∧ 1 ≤ count ∧ count ≤ 1024 ∧ addr % 4 = 0 ∧
      ((List.range count).map (fun i => addr + 4 * i)).any (regAbsent s) = false) ∧
    (∃ (r : Req) (addr : Nat) (values : List Word) (s : State), Served r 0x0011 s ∧ touchesSec addr values.length = false ∧
      values ≠ [] ∧ values.length ≤ 1022 ∧ addr % 4 = 0) ∧
    (∃ (r : Req) (addr : Nat) (mask : Word) (value : Word) (s : State) (t : State), Served r 0x0012 s ∧ touchesSec addr 1 =
      false ∧ addr % 4 = 0 ∧ pulseReg addr = false ∧
      writeWord addr ((BitVec.ofNat 32 (regVal s addr) &&& ~~~mask) ||| (value &&& mask)).toNat s = (t, .ok)) :=
  ⟨⟨⟨.uart, 0, 1⟩, 0x1F, noSession, by decide⟩,
   ⟨rq, live, by decide⟩,
   ⟨rq, 0, 1, live, by decide⟩,
   ⟨rq, 0x10014, [5#32], live, by decide⟩,
   ⟨rq, 0x10020, 0xFFFF#32, 3#32, live, { live with tu := { live.tu with stepLo := 3 } }, by decide⟩⟩

/-- Hypotheses of `ImageCommandsComplete`. -/
theorem witness_ImageCommandsComplete :
    (∃ (r : Req) (len : Nat) (s : State), Served r 0x0020 s ∧ activating s = false ∧ othersStage r s = false ∧ 1 ≤ len ∧
      len ≤ 16777216) ∧
    (∃ (r : Req) (offset : Nat) (len : Nat) (bytes : List Byte) (s : State), Served r 0x0021 s ∧ s.img.staging =
      some (r.session, len) ∧ offset + bytes.length ≤ len) ∧
    (∃ (r : Req) (len : Nat) (s : State), Served r 0x0022 s ∧ s.img.staging = some (r.session, len)) ∧
    (∃ (r : Req) (next : Image) (cur : Image) (s : State), Served r 0x0023 s ∧ running s = true ∧ s.img.next = some next ∧
      s.img.cur = some cur ∧ s.img.pendStatus = 0 ∧ imgHas next 0x18 = false ∧ padTo 8 next.digest = watermark s ∧
      s.img.committing = false) ∧
    (∃ (r : Req) (s : State), Served r 0x0024 s) ∧
    (∃ (s : State), s.img.committing = true) :=
  ⟨⟨rq, 1, live, by decide⟩,
   ⟨rq, 1, 2, [1#8], staging 2, by decide⟩,
   ⟨rq, 2, staging 2, by decide⟩,
   ⟨rq, default, default, staged default, by decide⟩,
   ⟨rq, live, by decide⟩,
   ⟨{ live with img := { live.img with committing := true } }, by decide⟩⟩

/-- Hypotheses of `ActivationAndChangeRowsComplete`. -/
theorem witness_ActivationAndChangeRowsComplete :
    (∃ (a : Activation) (u : Image) (cur : Image) (s : State), s.img.act = some a ∧ s.img.next = some u ∧ s.img.cur =
      some cur ∧ a.cls = 1 ∧ a.waitPeer = false ∧ a.boundary = none ∧ a.acceptedNs + 1000000 ≤ nsAll (td1 s)) ∧
    (∃ (a : Activation) (s : State), s.img.act = some a ∧ a.waitPeer = true ∧ due s a.acceptedTd0 (secT 1) = true) ∧
    (∃ (a : Activation) (u : Image) (s : State), s.img.act = some a ∧ s.img.next = some u ∧ a.cls = 3 ∧ s.fl.running =
      false ∧ s.pw.phase = .configure) ∧
    (∃ (r : Req) (group : Nat) (s : State), Served r 0x0025 s ∧ running s = true ∧ groupSource s 0 = true ∧ pairRefuses s =
      false ∧ groupExists s group = true ∧ s.img.cmdGroups = [] ∧ s.pr.sched = [] ∧ s.pr.st ≠ .twin) ∧
    (∃ (r : Req) (options : Nat) (next : Image) (cur : Image) (s : State), Served r 0x0033 s ∧ options < 2 ∧ s.img.next =
      some next ∧ s.img.cur = some cur ∧ s.img.pendStatus = 0 ∧ running s = true ∧ changeClass cur next = 2 ∧
      changeBlocked s = false ∧ s.le.change = none ∧ s.le.changeDue = none ∧ s.pr.st ≠ .twin) ∧
    (∃ (c : Change) (u : Image) (s : State), anyMid s = false ∧ s.le.halted = false ∧ running s = true ∧ followsAgreed s =
      false ∧ s.le.change = some c ∧ c.waitPeer = false ∧ s.img.next = some u) ∧
    (∃ (c : Change) (s : State), s.le.change = some c ∧ c.waitPeer = false ∧ due s c.at0 (2 * longestPeriod s) = true) :=
  ⟨⟨{ (default : Activation) with cls := 1 }, default, default, activatingWith { (default : Activation) with cls := 1 },
    by decide⟩,
   ⟨{ (default : Activation) with cls := 1, waitPeer := true },
     activatingWith { (default : Activation) with cls := 1, waitPeer := true }, by decide⟩,
   ⟨{ (default : Activation) with cls := 3 }, default,
     { activatingWith { (default : Activation) with cls := 3 } with pw := { live.pw with phase := .configure } },
     by decide⟩,
   ⟨rq, 7, { live with img := { live.img with cur := some { (default : Image) with sections := [(0x17, [])] } } },
     by decide⟩,
   ⟨rq, 0, { (default : Image) with declClass := 2 }, default, staged { (default : Image) with declClass := 2 }, by decide⟩,
   ⟨default, default, { staged default with le := { live.le with change := some default } }, by decide⟩,
   ⟨default, { live with le := { live.le with change := some default } }, by decide⟩⟩

/-- Hypotheses of `FirmwareAndSecurityCommandsComplete`. -/
theorem witness_FirmwareAndSecurityCommandsComplete :
    (∃ (r : Req) (len : Nat) (slot : Nat) (s : State), Served r 0x0028 s ∧ fwOther r s = false ∧ slot ≤ 1 ∧ 1 ≤ len ∧
      slotRuns s slot = false) ∧
    (∃ (r : Req) (offset : Nat) (len : Nat) (slot : Nat) (h : Nat) (bytes : List Byte) (s : State), Served r 0x0029 s ∧
      fwOther r s = false ∧ s.boot.fwStage = some (len, slot, h) ∧ offset + bytes.length ≤ len) ∧
    (∃ (r : Req) (len : Nat) (slot : Nat) (h : Nat) (s : State), Served r 0x002A s ∧ fwOther r s = false ∧ s.boot.fwStage =
      some (len, slot, h)) ∧
    (∃ (s : State), s.pw.phase = .running ∧ s.boot.slot = 1 ∧ s.boot.fwA.result = 1 ∧ s.boot.fwB.result = 1 ∧
      s.sec.rollback < min s.boot.fwA.svn s.boot.fwB.svn ∧ due s s.boot.protSince (secT 3600) = true) ∧
    (∃ (r : Req) (s : State), Served r 0x00A0 s) ∧
    (∃ (r : Req) (body : List Byte) (s : State), Served r 0x00A1 s ∧ s.evr.freeze = none ∧ leAt body 0 1 = 1 ∧
      leAt body 1 1 < 4 ∧ leAt body 2 1 = 0 ∧ leAt body 36 8 = (s.sec.keySeq + 1) % 2 ^ 64 ∧ keyAuth r body s = true) ∧
    (∃ (r : Req) (s : State), Served r 0x00A2 s) :=
  ⟨⟨rq, 1, 1, live, by decide⟩,
   ⟨rq, 1, 2, 1, 1, [1#8], fwStaging 2, by decide⟩,
   ⟨rq, 2, 1, 1, fwStaging 2, by decide⟩,
   ⟨atSec 3600 { live with boot := { live.boot with slot := 1, fwA := { (default : FwSlot) with svn := 3, result := 1 }, fwB := { (default : FwSlot) with svn := 2, result := 1 } } }, by decide⟩,
   ⟨rq, live, by decide⟩,
   ⟨rq, [1#8] ++ zeros 35 ++ [1#8] ++ zeros 79, live, by decide⟩,
   ⟨rq, live, by decide⟩⟩

/-- Hypotheses of `LogicModeRowsComplete`. -/
theorem witness_LogicModeRowsComplete :
    (∃ (r : Req) (s : State), waits r true s = false ∧ precheck r 0x0030 true (roleOf 0x0030) s = none ∧ pairRefuses s =
      false ∧ s.pr.st = .solo ∧ s.le.mode = .run) ∧
    (∃ (r : Req) (s : State), waits r false s = false ∧ precheck r 0x0030 false (roleOf 0x0030) s = none ∧ pairRefuses s =
      false ∧ s.pr.st = .solo ∧ s.le.mode = .run) ∧
    (∃ (s : State), s.le.coldPend = true ∧ s.le.mode = .run ∧ anyMid s = false ∧ s.le.halted = false ∧ followsAgreed s =
      false ∧ s.le.sec.isSome = true) ∧
    (∃ (r : Req) (s : State), Served r 0x0031 s ∧ s.pr.st ≠ .twin ∧ s.pr.st ≠ .joining ∧ s.le.mode = .run) ∧
    (∃ (r : Req) (entries : List (Nat × Nat)) (s : State), Served r 0x0032 s ∧ s.pr.st ≠ .twin ∧ s.pr.st ≠ .joining ∧
      entries.length ≤ 8 ∧ ((∀ e ∈ entries, e.1 < 2 ^ 18 ∧ (e.2 < 24 ∨ e.2 = 0xFF)))) ∧
    (∃ (x : Task) (s : State), s.le.mode = .run ∧ s.le.halted = false ∧ runningTask s = some x ∧ atBreak s x = true) ∧
    (∃ (s : State), s.le.mode = .hold ∧ due s s.le.holdAt (secT 600) = true) ∧
    (∃ (d : Nat) (k : Nat) (s : State), s.le.mode = .run ∧ s.le.halted = false ∧ earliest (overdue s) = some (d, k) ∧
      s.pr.st ≠ .twin) ∧
    (∃ (s : State), s.le.dirtySince.isSome = true ∧ s.le.mode ≠ .notStarted ∧ s.le.halted = false) ∧
    (∃ (r : Req) (s : State), Served r 0x0011 s) ∧
    (∃ (r : Req) (s : State), Served r 0x0011 s) :=
  ⟨⟨rq, runs1, by decide⟩,
   ⟨rq, runs1, by decide⟩,
   ⟨{ runs1 with le := { runs1.le with coldPend := true } }, by decide⟩,
   ⟨rq, runs1, by decide⟩,
   ⟨rq, [(262143, 23), (0, 0xFF)], live, by decide⟩,
   ⟨tk false, { atWord 0x76 0 0 (tk false) with le := { (atWord 0x76 0 0 (tk false)).le with breaks := [(0, none)] } },
     by decide⟩,
   ⟨atSec 600 { live with le := { live.le with mode := .hold } }, by decide⟩,
   ⟨0, 0, atWord 0x76 0 0 (tk false), by decide⟩,
   ⟨{ live with le := { live.le with mode := .run, dirtySince := some 0 } }, by decide⟩,
   ⟨rq, live, by decide⟩,
   ⟨rq, live, by decide⟩⟩

/-- Hypotheses of `LogicCycleRowsComplete`. -/
theorem witness_LogicCycleRowsComplete :
    (∃ (task : Nat) (x : Task) (c : TaskCfg) (s : State), taskOf s task = some x ∧ taskCfg s task = some c ∧ task < 8 ∧
      s.le.halted = false ∧ followsAgreed s = false ∧ slotReleases s c (gridSlot s).1 = true ∧
      x.relN ≠ some (gridSlot s).1 ∧ s.le.mode = .run ∧ x.st = .idle ∧ x.num ≠ rioTask s ∧ (overdue s).any (fun x => x.2 ==
      task) = false) ∧
    (∃ (g : Trig) (rest : List Trig) (s : State), followsAgreed s = false ∧ s.le.trigIn = g :: rest) ∧
    (∃ (x : Task) (s : State), atInstr s 0x75 0 0 = some x ∧ s.le.mode = .hold) ∧
    (∃ (r : Req) (point : Nat) (s : State), Served r 0x0034 s ∧ s.evr.freeze = none ∧ pairRefuses s = false ∧
      changeAwaits s = false ∧ forceStatus s point = .ok ∧ forceRoom s point = true ∧ s.pr.st ≠ .twin) ∧
    (∃ (r : Req) (s : State), Served r 0x0035 s ∧ pairRefuses s = false ∧ changeAwaits s = false ∧ s.pr.st ≠ .twin) ∧
    (∃ (r : Req) (s : State), Served r 0x0036 s) :=
  ⟨⟨1, { (default : Task) with num := 1 }, { (default : TaskCfg) with task := 1, period := 1 }, runs1, by decide⟩,
   ⟨{ (default : Trig) with task := 8 }, [],
     { runs1 with le := { runs1.le with trigIn := [{ (default : Trig) with task := 8 }] } }, by decide⟩,
   ⟨tk true, { atWord 0x75 0 0 (tk true) with le := { (atWord 0x75 0 0 (tk true)).le with mode := .hold, stepping := some 0 } }, by decide⟩,
   ⟨rq, 0x01B00000, live, by decide⟩,
   ⟨rq, live, by decide⟩,
   ⟨rq, live, by decide⟩⟩

/-- Hypotheses of `LogicBitInstructionsRun`. -/
theorem witness_LogicBitInstructionsRun :
    (∃ (sp : Nat) (a : Nat) (t : Task) (s : State), atInstr s 0x01 sp a = some t) ∧
    (∃ (sp : Nat) (a : Nat) (t : Task) (s : State), atInstr s 0x02 sp a = some t) ∧
    (∃ (sp : Nat) (a : Nat) (t : Task) (s : State), atInstr s 0x03 sp a = some t) ∧
    (∃ (sp : Nat) (a : Nat) (t : Task) (s : State), atInstr s 0x04 sp a = some t) ∧
    (∃ (sp : Nat) (a : Nat) (t : Task) (s : State), atInstr s 0x05 sp a = some t) ∧
    (∃ (sp : Nat) (a : Nat) (t : Task) (s : State), atInstr s 0x06 sp a = some t) ∧
    (∃ (sp : Nat) (a : Nat) (t : Task) (s : State), atInstr s 0x07 sp a = some t) ∧
    (∃ (sp : Nat) (a : Nat) (t : Task) (s : State), atInstr s 0x08 sp a = some t) ∧
    (∃ (t : Task) (s : State), atInstr s 0x09 0 0 = some t) ∧
    (∃ (t : Task) (s : State), atInstr s 0x0A 0 0 = some t) ∧
    (∃ (t : Task) (s : State), atInstr s 0x0B 0 0 = some t) ∧
    (∃ (t : Task) (s : State), atInstr s 0x76 0 0 = some t) :=
  ⟨⟨2, 5, (tk false), atWord 0x01 2 5 (tk false), by decide⟩,
   ⟨2, 5, (tk false), atWord 0x02 2 5 (tk false), by decide⟩,
   ⟨2, 5, (tk false), atWord 0x03 2 5 (tk false), by decide⟩,
   ⟨2, 5, (tk false), atWord 0x04 2 5 (tk false), by decide⟩,
   ⟨2, 5, (tk false), atWord 0x05 2 5 (tk false), by decide⟩,
   ⟨2, 5, (tk false), atWord 0x06 2 5 (tk false), by decide⟩,
   ⟨2, 5, (tk false), atWord 0x07 2 5 (tk false), by decide⟩,
   ⟨2, 5, (tk false), atWord 0x08 2 5 (tk false), by decide⟩,
   ⟨(tk false), atWord 0x09 0 0 (tk false), by decide⟩,
   ⟨(tk false), atWord 0x0A 0 0 (tk false), by decide⟩,
   ⟨(tk false), atWord 0x0B 0 0 (tk false), by decide⟩,
   ⟨(tk false), atWord 0x76 0 0 (tk false), by decide⟩⟩

/-- Hypotheses of `BracketInstructionsNest`. -/
theorem witness_BracketInstructionsNest :
    (∃ (t : Task) (s : State), atInstr s 0x10 0 0 = some t) ∧
    (∃ (t : Task) (s : State), atInstr s 0x11 0 0 = some t) ∧
    (∃ (t : Task) (s : State), atInstr s 0x12 0 0 = some t) ∧
    (∃ (t : Task) (s : State), atInstr s 0x13 0 0 = some t) ∧
    (∃ (t : Task) (s : State), atInstr s 0x14 0 0 = some t) ∧
    (∃ (t : Task) (s : State) (r : Bool) (op : Nat) (rest : List (Bool × Nat)), atInstr s 0x15 0 0 = some t ∧ t.nest = (r,
      op) :: rest) ∧
    (∃ (t : Task) (s : State), atInstr s 0x15 0 0 = some t ∧ t.nest = []) :=
  ⟨⟨(tk false), atWord 0x10 0 0 (tk false), by decide⟩,
   ⟨(tk false), atWord 0x11 0 0 (tk false), by decide⟩,
   ⟨(tk false), atWord 0x12 0 0 (tk false), by decide⟩,
   ⟨(tk false), atWord 0x13 0 0 (tk false), by decide⟩,
   ⟨(tk false), atWord 0x14 0 0 (tk false), by decide⟩,
   ⟨{ tk true with nest := [(false, 2)] }, atWord 0x15 0 0 ({ tk true with nest := [(false, 2)] }), false, 2, [],
     by decide⟩,
   ⟨tk true, atWord 0x15 0 0 (tk true), by decide⟩⟩

/-- Hypotheses of `EdgeInstructionsDetectEdges`. -/
theorem witness_EdgeInstructionsDetectEdges :
    (∃ (sp : Nat) (e : Nat) (t : Task) (s : State), (edgeOf s e).primed = false ∧ atInstr s 0x18 sp e = some t) ∧
    (∃ (sp : Nat) (e : Nat) (t : Task) (s : State), (edgeOf s e).primed = false ∧ atInstr s 0x19 sp e = some t) :=
  ⟨⟨2, 5, (tk false), atWord 0x18 2 5 (tk false), by decide⟩,
   ⟨2, 5, (tk false), atWord 0x19 2 5 (tk false), by decide⟩⟩

/-- Hypotheses of `BitStoreInstructionsWrite`. -/
theorem witness_BitStoreInstructionsWrite :
    (∃ (sp : Nat) (a : Nat) (t : Task) (s : State), atInstr s 0x20 sp a = some t) ∧
    (∃ (sp : Nat) (a : Nat) (t : Task) (s : State), atInstr s 0x21 sp a = some t) ∧
    (∃ (sp : Nat) (a : Nat) (t : Task) (s : State), atInstr s 0x22 sp a = some t ∧ t.rlo = true) ∧
    (∃ (sp : Nat) (a : Nat) (t : Task) (s : State), atInstr s 0x23 sp a = some t ∧ t.rlo = true) ∧
    (∃ (sp : Nat) (a : Nat) (t : Task) (s : State), t.rlo = false ∧ atInstr s 0x22 sp a = some t) ∧
    (∃ (sp : Nat) (a : Nat) (t : Task) (s : State), t.rlo = false ∧ atInstr s 0x23 sp a = some t) ∧
    (∃ (a : Nat) (s : State), a < 65536 ∧ smWf s.le.m = true) ∧
    (∃ (a : Nat) (s : State) (k : Nat), a < 65536 ∧ smWf s.le.m = true ∧ k ≠ a) :=
  ⟨⟨2, 5, (tk false), atWord 0x20 2 5 (tk false), by decide⟩,
   ⟨2, 5, (tk false), atWord 0x21 2 5 (tk false), by decide⟩,
   ⟨2, 5, (tk true), atWord 0x22 2 5 (tk true), by decide⟩,
   ⟨2, 5, (tk true), atWord 0x23 2 5 (tk true), by decide⟩,
   ⟨2, 5, (tk false), atWord 0x22 2 5 (tk false), by decide⟩,
   ⟨2, 5, (tk false), atWord 0x23 2 5 (tk false), by decide⟩,
   ⟨65535, live, by decide⟩,
   ⟨65535, live, 0, by decide⟩⟩

/-- Hypotheses of `TimerAndCounterInstructionsRun`. -/
theorem witness_TimerAndCounterInstructionsRun :
    (∃ (sp : Nat) (a : Nat) (t : Task) (x : Timer) (s : State), timerOf s a = some x ∧ atInstr s 0x28 sp a = some t) ∧
    (∃ (sp : Nat) (a : Nat) (t : Task) (x : Timer) (s : State), timerOf s a = some x ∧ atInstr s 0x29 sp a = some t) ∧
    (∃ (sp : Nat) (a : Nat) (t : Task) (x : Timer) (s : State), timerOf s a = some x ∧ atInstr s 0x2A sp a = some t) ∧
    (∃ (sp : Nat) (a : Nat) (t : Task) (x : Timer) (s : State), timerOf s a = some x ∧ atInstr s 0x2B sp a = some t ∧
      t.rlo = true) ∧
    (∃ (sp : Nat) (a : Nat) (t : Task) (x : Timer) (s : State), timerOf s a = some x ∧ atInstr s 0x2C sp a = some t) ∧
    (∃ (sp : Nat) (a : Nat) (t : Task) (c : Counter) (s : State), counterOf s a = some c ∧ atInstr s 0x30 sp a = some t) ∧
    (∃ (sp : Nat) (a : Nat) (t : Task) (c : Counter) (s : State), counterOf s a = some c ∧ atInstr s 0x31 sp a = some t) ∧
    (∃ (sp : Nat) (a : Nat) (t : Task) (c : Counter) (s : State), counterOf s a = some c ∧ atInstr s 0x32 sp a = some t ∧
      t.rlo = true) ∧
    (∃ (sp : Nat) (a : Nat) (t : Task) (c : Counter) (s : State), counterOf s a = some c ∧ atInstr s 0x33 sp a = some t ∧
      t.rlo = true) ∧
    (∃ (sp : Nat) (a : Nat) (t : Task) (c : Counter) (s : State), counterOf s a = some c ∧ atInstr s 0x34 sp a = some t) :=
  ⟨⟨2, 5, (tk false), { (default : Timer) with n := 5 }, withTC (atWord 0x28 2 5 (tk false)), by decide⟩,
   ⟨2, 5, (tk false), { (default : Timer) with n := 5 }, withTC (atWord 0x29 2 5 (tk false)), by decide⟩,
   ⟨2, 5, (tk false), { (default : Timer) with n := 5 }, withTC (atWord 0x2A 2 5 (tk false)), by decide⟩,
   ⟨2, 5, (tk true), { (default : Timer) with n := 5 }, withTC (atWord 0x2B 2 5 (tk true)), by decide⟩,
   ⟨2, 5, (tk false), { (default : Timer) with n := 5 }, withTC (atWord 0x2C 2 5 (tk false)), by decide⟩,
   ⟨2, 5, (tk false), { (default : Counter) with n := 5 }, withTC (atWord 0x30 2 5 (tk false)), by decide⟩,
   ⟨2, 5, (tk false), { (default : Counter) with n := 5 }, withTC (atWord 0x31 2 5 (tk false)), by decide⟩,
   ⟨2, 5, (tk true), { (default : Counter) with n := 5 }, withTC (atWord 0x32 2 5 (tk true)), by decide⟩,
   ⟨2, 5, (tk true), { (default : Counter) with n := 5 }, withTC (atWord 0x33 2 5 (tk true)), by decide⟩,
   ⟨2, 5, (tk false), { (default : Counter) with n := 5 }, withTC (atWord 0x34 2 5 (tk false)), by decide⟩⟩

/-- Hypotheses of `WordMoveAndLogicInstructionsRun`. -/
theorem witness_WordMoveAndLogicInstructionsRun :
    (∃ (sp : Nat) (a : Nat) (t : Task) (s : State), atInstr s 0x40 sp a = some t) ∧
    (∃ (sp : Nat) (a : Nat) (t : Task) (s : State), atInstr s 0x41 sp a = some t) ∧
    (∃ (sp : Nat) (a : Nat) (t : Task) (s : State), atInstr s 0x42 sp a = some t) ∧
    (∃ (s : State), smWf s.le.w = true) ∧
    (∃ (a : Nat) (s : State) (k : Nat), smWf s.le.w = true ∧ k ≠ a) ∧
    (∃ (sp : Nat) (a : Nat) (t : Task) (s : State), atInstr s 0x44 sp a = some t) ∧
    (∃ (sp : Nat) (a : Nat) (t : Task) (s : State), atInstr s 0x50 sp a = some t) ∧
    (∃ (sp : Nat) (a : Nat) (t : Task) (s : State), atInstr s 0x51 sp a = some t) ∧
    (∃ (sp : Nat) (a : Nat) (t : Task) (s : State), atInstr s 0x52 sp a = some t) ∧
    (∃ (t : Task) (s : State), atInstr s 0x53 0 0 = some t) ∧
    (∃ (sp : Nat) (a : Nat) (t : Task) (s : State), atInstr s 0x54 sp a = some t) ∧
    (∃ (sp : Nat) (a : Nat) (t : Task) (s : State), atInstr s 0x55 sp a = some t) ∧
    (∃ (sp : Nat) (a : Nat) (t : Task) (s : State), atInstr s 0x56 sp a = some t) :=
  ⟨⟨2, 5, (tk false), atWord 0x40 2 5 (tk false), by decide⟩,
   ⟨2, 5, (tk false), atWord 0x41 2 5 (tk false), by decide⟩,
   ⟨2, 5, (tk false), atWord 0x42 2 5 (tk false), by decide⟩,
   ⟨live, by decide⟩,
   ⟨0, live, 1, by decide⟩,
   ⟨2, 5, (tk false), atWord 0x44 2 5 (tk false), by decide⟩,
   ⟨2, 5, (tk false), atWord 0x50 2 5 (tk false), by decide⟩,
   ⟨2, 5, (tk false), atWord 0x51 2 5 (tk false), by decide⟩,
   ⟨2, 5, (tk false), atWord 0x52 2 5 (tk false), by decide⟩,
   ⟨(tk false), atWord 0x53 0 0 (tk false), by decide⟩,
   ⟨2, 5, (tk false), atWord 0x54 2 5 (tk false), by decide⟩,
   ⟨2, 5, (tk false), atWord 0x55 2 5 (tk false), by decide⟩,
   ⟨2, 5, (tk false), atWord 0x56 2 5 (tk false), by decide⟩⟩

/-- Hypotheses of `IntegerArithmeticSaturates`. -/
theorem witness_IntegerArithmeticSaturates :
    (∃ (sp : Nat) (a : Nat) (t : Task) (s : State) (A : Int) (B : Int), A = t.acc.toInt ∧ B =
      (BitVec.ofNat 32 (wordGet s t sp a)).toInt ∧ atInstr s 0x48 sp a = some t) ∧
    (∃ (sp : Nat) (a : Nat) (t : Task) (s : State) (A : Int) (B : Int), A = t.acc.toInt ∧ B =
      (BitVec.ofNat 32 (wordGet s t sp a)).toInt ∧ atInstr s 0x49 sp a = some t) ∧
    (∃ (sp : Nat) (a : Nat) (t : Task) (s : State) (A : Int) (B : Int), A = t.acc.toInt ∧ B =
      (BitVec.ofNat 32 (wordGet s t sp a)).toInt ∧ atInstr s 0x4A sp a = some t) ∧
    (∃ (sp : Nat) (a : Nat) (t : Task) (s : State) (A : Int) (B : Int), A = t.acc.toInt ∧ B =
      (BitVec.ofNat 32 (wordGet s t sp a)).toInt ∧ atInstr s 0x4B sp a = some t ∧ B ≠ 0) ∧
    (∃ (sp : Nat) (a : Nat) (t : Task) (s : State) (A : Int) (B : Int), A = t.acc.toInt ∧ B =
      (BitVec.ofNat 32 (wordGet s t sp a)).toInt ∧ atInstr s 0x4B sp a = some t ∧ B = 0) ∧
    (∃ (sp : Nat) (a : Nat) (t : Task) (s : State) (A : Int) (B : Int), A = t.acc.toInt ∧ B =
      (BitVec.ofNat 32 (wordGet s t sp a)).toInt ∧ atInstr s 0x4C sp a = some t ∧ B ≠ 0) ∧
    (∃ (sp : Nat) (a : Nat) (t : Task) (s : State) (A : Int) (B : Int), A = t.acc.toInt ∧ B =
      (BitVec.ofNat 32 (wordGet s t sp a)).toInt ∧ atInstr s 0x4C sp a = some t ∧ B = 0) ∧
    (∃ (sp : Nat) (a : Nat) (t : Task) (s : State) (A : Int) (B : Int), A = t.acc.toInt ∧ B =
      (BitVec.ofNat 32 (wordGet s t sp a)).toInt ∧ atInstr s 0x4D 0 0 = some t) ∧
    (∃ (sp : Nat) (a : Nat) (t : Task) (s : State) (A : Int) (B : Int), A = t.acc.toInt ∧ B =
      (BitVec.ofNat 32 (wordGet s t sp a)).toInt ∧ atInstr s 0x4E 0 0 = some t) :=
  ⟨⟨2, 5, (tk false), atWord 0x48 2 5 (tk false), 0, 0, by decide⟩,
   ⟨2, 5, (tk false), atWord 0x49 2 5 (tk false), 0, 0, by decide⟩,
   ⟨2, 5, (tk false), atWord 0x4A 2 5 (tk false), 0, 0, by decide⟩,
   ⟨10, 5, (tk false), atWord 0x4B 10 5 (tk false), 0, 5, by decide⟩,
   ⟨2, 5, (tk false), atWord 0x4B 2 5 (tk false), 0, 0, by decide⟩,
   ⟨10, 5, (tk false), atWord 0x4C 10 5 (tk false), 0, 5, by decide⟩,
   ⟨2, 5, (tk false), atWord 0x4C 2 5 (tk false), 0, 0, by decide⟩,
   ⟨2, 5, (tk false), atWord 0x4D 0 0 (tk false), 0, 0, by decide⟩,
   ⟨2, 5, (tk false), atWord 0x4E 0 0 (tk false), 0, 0, by decide⟩⟩

/-- Hypotheses of `CompareInstructionsSetRlo`. -/
theorem witness_CompareInstructionsSetRlo :
    (∃ (sp : Nat) (a : Nat) (t : Task) (s : State) (w : Word), w = BitVec.ofNat 32 (wordGet s t sp a) ∧
      atInstr s 0x58 sp a = some t) ∧
    (∃ (sp : Nat) (a : Nat) (t : Task) (s : State) (w : Word), w = BitVec.ofNat 32 (wordGet s t sp a) ∧
      atInstr s 0x59 sp a = some t) ∧
    (∃ (sp : Nat) (a : Nat) (t : Task) (s : State) (w : Word), w = BitVec.ofNat 32 (wordGet s t sp a) ∧
      atInstr s 0x5A sp a = some t) ∧
    (∃ (sp : Nat) (a : Nat) (t : Task) (s : State) (w : Word), w = BitVec.ofNat 32 (wordGet s t sp a) ∧
      atInstr s 0x5B sp a = some t) ∧
    (∃ (sp : Nat) (a : Nat) (t : Task) (s : State) (w : Word), w = BitVec.ofNat 32 (wordGet s t sp a) ∧
      atInstr s 0x5C sp a = some t) ∧
    (∃ (sp : Nat) (a : Nat) (t : Task) (s : State) (w : Word), w = BitVec.ofNat 32 (wordGet s t sp a) ∧
      atInstr s 0x5D sp a = some t) ∧
    (∃ (sp : Nat) (a : Nat) (t : Task) (s : State) (w : Word), w = BitVec.ofNat 32 (wordGet s t sp a) ∧
      atInstr s 0x68 sp a = some t) ∧
    (∃ (sp : Nat) (a : Nat) (t : Task) (s : State) (w : Word), w = BitVec.ofNat 32 (wordGet s t sp a) ∧
      atInstr s 0x69 sp a = some t) ∧
    (∃ (sp : Nat) (a : Nat) (t : Task) (s : State) (w : Word), w = BitVec.ofNat 32 (wordGet s t sp a) ∧
      atInstr s 0x6A sp a = some t) ∧
    (∃ (sp : Nat) (a : Nat) (t : Task) (s : State) (w : Word), w = BitVec.ofNat 32 (wordGet s t sp a) ∧ (fIsNan t.acc =
      true ∨ fIsNan w = true)) :=
  ⟨⟨2, 5, (tk false), atWord 0x58 2 5 (tk false), 0#32, by decide⟩,
   ⟨2, 5, (tk false), atWord 0x59 2 5 (tk false), 0#32, by decide⟩,
   ⟨2, 5, (tk false), atWord 0x5A 2 5 (tk false), 0#32, by decide⟩,
   ⟨2, 5, (tk false), atWord 0x5B 2 5 (tk false), 0#32, by decide⟩,
   ⟨2, 5, (tk false), atWord 0x5C 2 5 (tk false), 0#32, by decide⟩,
   ⟨2, 5, (tk false), atWord 0x5D 2 5 (tk false), 0#32, by decide⟩,
   ⟨2, 5, (tk false), atWord 0x68 2 5 (tk false), 0#32, by decide⟩,
   ⟨2, 5, (tk false), atWord 0x69 2 5 (tk false), 0#32, by decide⟩,
   ⟨2, 5, (tk false), atWord 0x6A 2 5 (tk false), 0#32, by decide⟩,
   ⟨0, 0, { tk false with acc := 0x7FC00000#32 }, live, 0#32, by decide⟩⟩

/-- Hypotheses of `FloatInstructionsRun`. -/
theorem witness_FloatInstructionsRun :
    (∃ (sp : Nat) (a : Nat) (t : Task) (s : State) (w : Word), w = BitVec.ofNat 32 (wordGet s t sp a) ∧
      atInstr s 0x60 sp a = some t) ∧
    (∃ (sp : Nat) (a : Nat) (t : Task) (s : State) (w : Word), w = BitVec.ofNat 32 (wordGet s t sp a) ∧
      atInstr s 0x61 sp a = some t) ∧
    (∃ (sp : Nat) (a : Nat) (t : Task) (s : State) (w : Word), w = BitVec.ofNat 32 (wordGet s t sp a) ∧
      atInstr s 0x62 sp a = some t) ∧
    (∃ (sp : Nat) (a : Nat) (t : Task) (s : State) (w : Word), w = BitVec.ofNat 32 (wordGet s t sp a) ∧
      atInstr s 0x63 sp a = some t) ∧
    (∃ (sp : Nat) (a : Nat) (t : Task) (s : State) (w : Word), w = BitVec.ofNat 32 (wordGet s t sp a) ∧
      atInstr s 0x64 0 0 = some t) ∧
    (∃ (sp : Nat) (a : Nat) (t : Task) (s : State) (w : Word), w = BitVec.ofNat 32 (wordGet s t sp a) ∧
      atInstr s 0x65 0 0 = some t) ∧
    (∃ (sp : Nat) (a : Nat) (t : Task) (s : State) (w : Word), w = BitVec.ofNat 32 (wordGet s t sp a) ∧ fIsNan t.acc =
      false ∧ fIsInf t.acc = false ∧ fMag t.acc ≠ 0 ∧ fIsNan w = false ∧ fIsInf w = false ∧ fMag w = 0) ∧
    (∃ (sp : Nat) (a : Nat) (t : Task) (s : State) (w : Word), w = BitVec.ofNat 32 (wordGet s t sp a) ∧ (fIsNan t.acc =
      true ∨ fIsInf t.acc = true)) :=
  ⟨⟨2, 5, (tk false), atWord 0x60 2 5 (tk false), 0#32, by decide⟩,
   ⟨2, 5, (tk false), atWord 0x61 2 5 (tk false), 0#32, by decide⟩,
   ⟨2, 5, (tk false), atWord 0x62 2 5 (tk false), 0#32, by decide⟩,
   ⟨2, 5, (tk false), atWord 0x63 2 5 (tk false), 0#32, by decide⟩,
   ⟨2, 5, (tk false), atWord 0x64 0 0 (tk false), 0#32, by decide⟩,
   ⟨2, 5, (tk false), atWord 0x65 0 0 (tk false), 0#32, by decide⟩,
   ⟨0, 0, { tk false with acc := 0x3F800000#32 }, live, 0#32, by decide⟩,
   ⟨0, 0, { tk false with acc := 0x7F800000#32 }, live, 0#32, by decide⟩⟩

/-- Hypotheses of `JumpsCallsAndRequestsRun`. -/
theorem witness_JumpsCallsAndRequestsRun :
    (∃ (a : Nat) (t : Task) (s : State), atInstr s 0x70 0 a = some t) ∧
    (∃ (a : Nat) (t : Task) (s : State), atInstr s 0x71 0 a = some t) ∧
    (∃ (a : Nat) (t : Task) (s : State), atInstr s 0x72 0 a = some t) ∧
    (∃ (a : Nat) (t : Task) (s : State), atInstr s 0x73 0 a = some t) ∧
    (∃ (t : Task) (s : State) (p : Nat) (rest : List Nat), atInstr s 0x74 0 0 = some t ∧ t.calls = p :: rest) ∧
    (∃ (sp : Nat) (a : Nat) (t : Task) (s : State), atInstr s 0x78 sp a = some t ∧ t.rlo = true) ∧
    (∃ (sp : Nat) (a : Nat) (t : Task) (s : State), atInstr s 0x79 sp a = some t ∧ t.rlo = true) ∧
    (∃ (t : Task) (s : State), atInstr s 0x7A 0 0 = some t ∧ t.rlo = true) ∧
    (∃ (sp : Nat) (a : Nat) (t : Task) (s : State), t.rlo = false ∧ atInstr s 0x78 sp a = some t) ∧
    (∃ (sp : Nat) (a : Nat) (t : Task) (s : State), t.rlo = false ∧ atInstr s 0x79 sp a = some t) ∧
    (∃ (t : Task) (s : State), t.rlo = false ∧ atInstr s 0x7A 0 0 = some t) :=
  ⟨⟨5, (tk false), atWord 0x70 0 5 (tk false), by decide⟩,
   ⟨5, (tk false), atWord 0x71 0 5 (tk false), by decide⟩,
   ⟨5, (tk false), atWord 0x72 0 5 (tk false), by decide⟩,
   ⟨5, (tk false), atWord 0x73 0 5 (tk false), by decide⟩,
   ⟨{ tk false with calls := [9] }, atWord 0x74 0 0 ({ tk false with calls := [9] }), 9, [], by decide⟩,
   ⟨2, 5, (tk true), atWord 0x78 2 5 (tk true), by decide⟩,
   ⟨2, 5, (tk true), atWord 0x79 2 5 (tk true), by decide⟩,
   ⟨(tk true), atWord 0x7A 0 0 (tk true), by decide⟩,
   ⟨2, 5, (tk false), atWord 0x78 2 5 (tk false), by decide⟩,
   ⟨2, 5, (tk false), atWord 0x79 2 5 (tk false), by decide⟩,
   ⟨(tk false), atWord 0x7A 0 0 (tk false), by decide⟩⟩

/-- Hypotheses of `HostTimeCommandsComplete`. -/
theorem witness_HostTimeCommandsComplete :
    (∃ (r : Req) (wanted : Nat) (s : State), Served r 0x0050 s ∧ wanted ≤ 62) ∧
    (∃ (r : Req) (domain : Nat) (inc : Nat) (s : State), Served r 0x0051 s ∧ incTarget s domain = .ok ∧
      incOk (incPpm domain) (inc % 2 ^ 48) = true) ∧
    (∃ (r : Req) (domain : Nat) (inc : Nat) (s : State), Served r 0x0052 s ∧ incTarget s domain = .ok ∧ domain ≠ 0 ∧
      incOk (incPpm domain) (inc % 2 ^ 48) = true) ∧
    (∃ (r : Req) (domain : Nat) (frac : Nat) (offset : Int) (off : Int) (s : State), Served r 0x0053 s ∧ off =
      offset * 2 ^ 40 + ((frac % 65536 : Nat) : Int) * 2 ^ 24 ∧ stepStatus s domain off = .ok) ∧
    (∃ (r : Req) (s : State), Served r 0x0011 s) ∧
    (∃ (r : Req) (n : Nat) (off : Int) (s : State), Served r 0x0011 s ∧ s.tu.stepDom ≤ 1 ∧ n = (if s.tu.stepDom =
      1 then 3 else 1) ∧ off = sgn 64 (s.tu.stepHi * 2 ^ 32 + s.tu.stepLo) * 2 ^ 40 + (s.tu.stepFrac : Int) * 2 ^ 24 ∧
      stepStatus s n off = .ok) ∧
    (∃ (r : Req) (domain : Nat) (s : State), Served r 0x0011 s ∧ domain < 4 ∧ domWrite s domain true = .ok) ∧
    (∃ (r : Req) (domain : Nat) (hi : Nat) (inc : Nat) (s : State), Served r 0x0011 s ∧ domain < 4 ∧
      domWrite s domain false = .ok ∧ inc = (hi % 65536) * 2 ^ 32 + (dom s domain).incLo ∧ incOk (incPpm domain) inc =
      true) ∧
    (∃ (r : Req) (domain : Nat) (hi : Nat) (inc : Nat) (s : State), Served r 0x0011 s ∧ domain < 4 ∧
      domWrite s domain true = .ok ∧ inc = (hi % 65536) * 2 ^ 32 + (dom s domain).slewLo ∧ incOk (incPpm domain) inc =
      true) :=
  ⟨⟨rq, 62, live, by decide⟩,
   ⟨rq, 1, 2 ^ 42, hostServo, by decide⟩,
   ⟨rq, 3, 2 ^ 42, live, by decide⟩,
   ⟨rq, 3, 0, 1, 2 ^ 40, live, by decide⟩,
   ⟨rq, live, by decide⟩,
   ⟨rq, 1, 2 ^ 40, { hostServo with tu := { live.tu with stepLo := 1 } }, by decide⟩,
   ⟨rq, 3, live, by decide⟩,
   ⟨rq, 3, 1024, 2 ^ 42, live, by decide⟩,
   ⟨rq, 3, 1024, 2 ^ 42, live, by decide⟩⟩

/-- Hypotheses of `ServoAndQualityRowsComplete`. -/
theorem witness_ServoAndQualityRowsComplete :
    (∃ (d : Nat) (s : State), d < 4 ∧ s.pw.phase ≠ .off) ∧
    (∃ (s : State), running s = true ∧ s.tu.kickOn = true ∧ s.tu.kickFired = false ∧ due s s.tu.kickAt (msT 250) = true) ∧
    (∃ (s : State), servoRuns s = true) ∧
    (∃ (m : Nat) (s : State), servoRuns s = true ∧ s.tu.d1.qst = .locked ∧ due s s.tu.learnAt (secT 1000) = true ∧
      s.tu.incMean.2 ≠ 0 ∧ m = s.tu.incMean.1 / s.tu.incMean.2) ∧
    (∃ (dTemp : Nat) (s : State), s.tu.d1.qst = .glide ∧ clsOf (glideError s dTemp) ≤ 7) ∧
    (∃ (dTemp : Nat) (s : State), s.tu.d1.qst = .glide ∧ msT 100 < glideError s dTemp) ∧
    (∃ (n : Int) (s : State), ((s.tu.utcPending = 1 ∧ n = sgn 16 s.tu.utcOffset + 1 ∨ s.tu.utcPending = 2 ∧ n =
      sgn 16 s.tu.utcOffset - 1)) ∧ ((secOf (td1 s) : Int) - n) % 86400 = 0) ∧
    (∃ (s : State), pv s 0x0A04 0 0 1 0 = 1 ∧ s.pw.refLost = false) ∧
    (∃ (s : State), s.pw.refLost = true) ∧
    (∃ (inc : Nat) (slew : Nat) (count : Nat) (s : State), td2Follows s = false ∧ incOk 40 inc = true ∧ incOk 40 slew =
      true ∧ count < 2 ^ 32) :=
  ⟨⟨3, { live with tu := { live.tu with d3 := { live.tu.d3 with slewLeft := 5 } } }, by decide⟩,
   ⟨atSec 1 { live with tu := { live.tu with kickOn := true } }, by decide⟩,
   ⟨{ live with tu := { live.tu with active := 3 } }, by decide⟩,
   ⟨2 ^ 42, atSec 1000 { live with tu := { live.tu with incMean := (2 ^ 43, 2), d1 := { live.tu.d1 with qst := .locked } } }, by decide⟩,
   ⟨0, glide 0, by decide⟩,
   ⟨0, glide 15, by decide⟩,
   ⟨1, atSec 86401 { live with tu := { live.tu with utcPending := 1 } }, by decide⟩,
   ⟨withPrm [⟨0x0A04, 0, [1#8]⟩] live, by decide⟩,
   ⟨{ live with pw := { live.pw with refLost := true } }, by decide⟩,
   ⟨2 ^ 42, 2 ^ 42, 3, { live with pr := { live.pr with st := .twin } }, by decide⟩⟩

/-- Hypotheses of `TimeSourceRowsComplete`. -/
theorem witness_TimeSourceRowsComplete :
    (∃ (port : Nat) (m : Nat) (half : Nat) (h : Nat) (s : State), port < 2 ∧ portOn s port = true ∧ s.pw.phase ≠ .off ∧
      m ≠ 0xD ∧ h = half % 8 * 2 ^ 39) ∧
    (∃ (port : Nat) (m : Nat) (half : Nat) (h : Nat) (s : State), port < 2 ∧ portOn s port = true ∧ s.pw.phase ≠ .off ∧
      (m = 0x0 ∨ m = 0x2 ∨ m = 0x3 ∨ m = 0x8) ∧ ((m = 0x0 ∨ m = 0x8 → s.tu.ptpRole.getD port 0 = 1)) ∧ ((m = 0x8 →
      pv s 0x0A09 0 0 1 0 ≠ 0)) ∧ s.tu.capQ.length < 64 ∧ h = half % 8 * 2 ^ 39) ∧
    (∃ (half : Nat) (h : Nat) (trueErr : Int) (good : Bool) (s : State), s.pw.phase ≠ .off ∧ s.tu.capQ.length < 64 ∧ h =
      half % 8 * 2 ^ 39 ∧ good =
      ((srcOf s 3).present && decide ((((td1 s + h : Nat) : Int) - (((srcOf s 3).last + secT 1 : Nat)
      : Int)).natAbs ≤ usT 1) && ((s.tu.d1.qst != .never || s.tu.stepped) && decide (trueErr.natAbs ≤ 400000000)))) ∧
    (∃ (f : IrigFrame) (day : Nat) (sec : Nat) (half : Nat) (h : Nat) (ok : Bool) (good : Bool) (s : State),
      s.pw.phase ≠ .off ∧ s.tu.capQ.length < 64 ∧ h = half % 8 * 2 ^ 39 ∧ ok = ([0, 4, 6,
      7].contains f.format && f.parityOk) ∧ good = (ok && (decide (irigUtc s f day sec =
      (srcOf s 4).lastSec + 1) || (srcOf s 4).good == 0))) ∧
    (∃ (port : Nat) (s : State), port < 2 ∧ (srcOf s (port + 1)).present = true ∧
      due s (srcOf s (port + 1)).sync (2 * (srcOf s (port + 1)).syncInt) = true) ∧
    (∃ (port : Nat) (s : State), port < 2 ∧ (srcOf s (port + 1)).present = true ∧
      due s (srcOf s (port + 1)).announce (3 * (srcOf s (port + 1)).annInt) = true) ∧
    (∃ (s : State), (srcOf s 3).present = true ∧ (srcOf s 3).last + msT 1100 ≤ td1 s) ∧
    (∃ (s : State), (srcOf s 4).present = true ∧ (srcOf s 4).last + secT 2 ≤ td1 s) :=
  ⟨⟨1, 0x3, 3, 3 * 2 ^ 39, ports, by decide⟩,
   ⟨1, 0x2, 9, 2 ^ 39, ports, by decide⟩,
   ⟨1, 2 ^ 39, 0, false, live, by decide⟩,
   ⟨{ (default : IrigFrame) with parityOk := true }, 1, 0, 0, 0, true, true, live, by decide⟩,
   ⟨1, atSec 2 (withSrc 2), by decide⟩,
   ⟨1, atSec 2 (withSrc 2), by decide⟩,
   ⟨atSec 2 (withSrc 3), by decide⟩,
   ⟨atSec 2 (withSrc 4), by decide⟩⟩

/-- Hypotheses of `GridPulseAndLaunchRowsComplete`. -/
theorem witness_GridPulseAndLaunchRowsComplete :
    (∃ (s : State), s.tu.grid = .jumpPending ∧ s.tu.rephaseAt ≤ td1 s) ∧
    (∃ (s : State), s.tu.grid = .slewing ∧ s.tu.sgOffset = 0) ∧
    (∃ (s : State), s.tu.grid = .aligned ∧ s.pw.phase ≠ .off) ∧
    (∃ (s : State), nsOf (td1 s) < 4 ∧ ppsOk s = true ∧ s.pw.phase ≠ .off) ∧
    (∃ (s : State), s.pads.ppsOut = true ∧ ((due s s.tu.ppsRoseAt (msT (pv s 0x0A0D 0 0 2 100)) = true ∨ ppsOk s =
      false))) ∧
    (∃ (r : Req) (entry : Nat) (value : LaunchVal) (v : LaunchVal) (s : State), Served r 0x0054 s ∧ pairRefuses s = false ∧
      s.pr.st ≠ .twin ∧ v = { value with instant := value.instant / 4 * 4, period := value.period / 4 * 4 } ∧
      armStatus s .command entry v = .ok) ∧
    (∃ (r : Req) (entry : Nat) (x : LaunchEntry) (s : State), Served r 0x0055 s ∧ pairRefuses s = false ∧ s.pr.st ≠ .twin ∧
      armedEntry s entry = some x ∧ x.owner = .command ∧ ((x.val.action = 1 → x.handed = true → x.val.period ≠ 0))) ∧
    (∃ (e : LaunchEntry) (s : State), running s = true ∧ firstDue s s.tu.launches = some e) :=
  ⟨⟨{ live with tu := { live.tu with grid := .jumpPending } }, by decide⟩,
   ⟨{ live with tu := { live.tu with grid := .slewing } }, by decide⟩,
   ⟨live, by decide⟩,
   ⟨{ live with tu := { live.tu with d1 := { live.tu.d1 with qst := .locked, cls := 2 } } }, by decide⟩,
   ⟨{ live with pads := { live.pads with ppsOut := true } }, by decide⟩,
   ⟨rq, 3, ⟨1000000002, 0, 5, 0⟩, ⟨1000000000, 0, 5, 0⟩, armed3, by decide⟩,
   ⟨rq, 3, entry3, armed3, by decide⟩,
   ⟨entry3, atSec 1 armed3, by decide⟩⟩

/-- Hypotheses of `AcquisitionRowsComplete`. -/
theorem witness_AcquisitionRowsComplete :
    (∃ (s : State), running s = true ∧ s.gr.running = true ∧ releaseDue s = true ∧ s.pr.hand = none ∧ s.pr.st ≠ .joining) ∧
    (∃ (f : SvFrame) (v : Nat) (wrong : Prop) (s : State), svFor s f = some v ∧ running s = true ∧
      ((wrong ↔ leAt ((prm s 0x0984 v).getD []) 8 4 ≠ f.confRev ∨ (f.asdus ≠ 1 ∧ f.asdus ≠ 6) ∨ f.lenOk = false)) ∧ wrong) ∧
    (∃ (f : SvFrame) (v : Nat) (wrong : Prop) (s : State), svFor s f = some v ∧ running s = true ∧
      ((wrong ↔ leAt ((prm s 0x0984 v).getD []) 8 4 ≠ f.confRev ∨ (f.asdus ≠ 1 ∧ f.asdus ≠ 6) ∨ f.lenOk = false)) ∧
      ¬wrong ∧ (svOf s v).smpCnt ≠ some f.smpCnt ∧ ((f.sim = true → pv s 0x0982 v 0 1 0 = 1))) ∧
    (∃ (s : State), hasTw s = true ∧ running s = true) ∧
    (∃ (n : Nat) (a : Nat) (s : State), s.pr.prov = some (n, a) ∧ due s a (usT 40) = true) ∧
    (∃ (stream : Nat) (cross : Nat) (g : List Int) (s : State), hasTw s = true ∧ running s = true ∧ stream < 12 ∧
      twExists s stream = true ∧ pv s 0x0540 stream 0 1 1 ≠ 0 ∧ (twOf s stream).armed = true ∧
      twReaches s stream 1 (g.getD cross 0) = true) ∧
    (∃ (stream : Nat) (s : State), hasTw s = true ∧ running s = true ∧ stream < 12 ∧ ((∀ a, (twOf s stream).lastArr =
      some a → due s a (usT (pv s 0x0544 0 0 2 2)) = true))) ∧
    (∃ (stream : Nat) (s : State), hasTw s = true ∧ running s = true ∧ stream < 12 ∧ twExists s stream = true ∧
      (twOf s stream).noisy = false ∧ ((heldFor s (twOf s stream).aboveAt (secT 1) = true ∨ injOn s 0x27 stream = true))) ∧
    (∃ (stream : Nat) (s : State), hasTw s = true ∧ running s = true ∧ stream < 12 ∧ (twOf s stream).noisy = true ∧
      heldFor s (twOf s stream).belowAt (secT 1) = true ∧ injOn s 0x27 stream = false) :=
  ⟨⟨atSec 1 graphOn, by decide⟩,
   ⟨{ (default : SvFrame) with dst := 5, asdus := 2 }, 0, True, svOn, by decide⟩,
   ⟨{ (default : SvFrame) with dst := 5, asdus := 1, lenOk := true, smpCnt := 1, synch := 2 }, 0, False, svOn, by decide⟩,
   ⟨live, by decide⟩,
   ⟨0, 0, atSec 1 { live with pr := { live.pr with prov := some (0, 0) } }, by decide⟩,
   ⟨0, 1, [0, 60], twLive, by decide⟩,
   ⟨11, twLive, by decide⟩,
   ⟨0, noisy { (default : TwStream) with aboveAt := some 0 }, by decide⟩,
   ⟨0, noisy { (default : TwStream) with noisy := true, belowAt := some 0 }, by decide⟩⟩

/-- Hypotheses of `RotationRowsComplete`. -/
theorem witness_RotationRowsComplete :
    (∃ (again : Bool) (s : State), rotates s = true ∧ stepWave s = 0 ∧ again =
      ((s.acq.rotVoid && decide (s.acq.voidRun < 16)) || s.acq.rotPhase != .disconnect)) ∧
    (∃ (gain : Int) (ofs : Int) (resid : List Int) (s : State), rotates s = true ∧ s.acq.rotStarted = true ∧
      s.acq.rotPhase = .cal ∧ stepWave s = 320 ∧ calPass gain ofs resid = true ∧ s.hlt.inj.any (fun j => j.det ==
      0x02 && j.applied) = false) ∧
    (∃ (gain : Int) (ofs : Int) (resid : List Int) (s : State), rotates s = true ∧ s.acq.rotStarted = true ∧
      s.acq.rotPhase = .cal ∧ stepWave s = 320 ∧ calPass gain ofs resid = false) ∧
    (∃ (sumD : Nat) (sumY : Nat) (lim : Nat) (d : Nat) (s : State), rotates s = true ∧ s.acq.rotPhase = .parallel ∧
      stepWave s = 1360 ∧ lim = pv s 0x0511 0 0 2 840 * 1024 + pv s 0x0512 0 0 2 500 * isqrt (sumY * 1024) / 1000000 ∧ d =
      isqrt (sumD * 1024) ∧ s.acq.rotVoid = true) ∧
    (∃ (sumD : Nat) (sumY : Nat) (lim : Nat) (d : Nat) (s : State), rotates s = true ∧ s.acq.rotPhase = .parallel ∧
      stepWave s = 1360 ∧ lim = pv s 0x0511 0 0 2 840 * 1024 + pv s 0x0512 0 0 2 500 * isqrt (sumY * 1024) / 1000000 ∧ d =
      isqrt (sumD * 1024) ∧ s.acq.rotVoid = false ∧ d ≤ lim ∧ injOn s 0x01 s.acq.rotInput = false) ∧
    (∃ (sumD : Nat) (sumY : Nat) (lim : Nat) (d : Nat) (s : State), rotates s = true ∧ s.acq.rotPhase = .parallel ∧
      stepWave s = 1360 ∧ lim = pv s 0x0511 0 0 2 840 * 1024 + pv s 0x0512 0 0 2 500 * isqrt (sumY * 1024) / 1000000 ∧ d =
      isqrt (sumD * 1024) ∧ s.acq.rotVoid = false ∧ lim < d ∧ injOn s 0x01 s.acq.rotInput = false) ∧
    (∃ (resid : List Int) (s : State), running s = true ∧ s.acq.rotState = 1 ∧ s.acq.rotPhase = .spareCheck ∧
      refPass resid = true) ∧
    (∃ (resid : List Int) (s : State), running s = true ∧ s.acq.rotState = 1 ∧ s.acq.rotPhase = .spareCheck ∧
      refPass resid = false) ∧
    (∃ (s : State), running s = true ∧ s.acq.rotState = 1 ∧ s.acq.rotPhase = .servingCheck) ∧
    (∃ (s : State), running s = true ∧ s.acq.rotState = 1 ∧ s.acq.rotPhase = .connect) :=
  ⟨⟨false, atWave 1599 (rot .disconnect), by decide⟩,
   ⟨10000000, -1048576, [420, 0, 0, 0], atWave 319 (rot .cal), by decide⟩,
   ⟨10000001, 0, [0, 0, 0, 0], atWave 319 (rot .cal), by decide⟩,
   ⟨0, 0, 860160, 0, atWave 1359 { rot .parallel with acq := { (rot .parallel).acq with rotVoid := true } }, by decide⟩,
   ⟨0, 0, 860160, 0, atWave 1359 (rot .parallel), by decide⟩,
   ⟨722536081, 0, 860160, 860161, atWave 1359 (rot .parallel), by decide⟩,
   ⟨[420, 200000, 0, 0], resolving .spareCheck, by decide⟩,
   ⟨[421, 0, 0, 0], resolving .spareCheck, by decide⟩,
   ⟨resolving .servingCheck, by decide⟩,
   ⟨resolving .connect, by decide⟩⟩

/-- Hypotheses of `TravellingWaveRowsComplete`. -/
theorem witness_TravellingWaveRowsComplete :
    (∃ (k : Nat) (b : Burst) (s : State), k < 2 ∧ running s = true ∧ burstOf s k = some b ∧ followsAgreed s = false ∧
      b.windowOpen = true ∧ b.openedAt + nsT 200 ≤ td1 s) ∧
    (∃ (k : Nat) (b : Burst) (s : State) (l : Desc), k < 2 ∧ running s = true ∧ burstOf s k = some b ∧ followsAgreed s =
      false ∧ b.lead = some l ∧ b.windowOpen = false ∧ b.supIssued = false ∧ l.time + usT (supWindow s k) ≤ td1 s) ∧
    (∃ (k : Nat) (b : Burst) (s : State), k < 2 ∧ running s = true ∧ burstOf s k = some b ∧ followsAgreed s = false ∧
      b.windowOpen = false ∧ b.supIssued = true ∧ b.lastTime + msT (pv s 0x0545 0 0 2 10) ≤ td1 s) ∧
    (∃ (k : Nat) (b : Burst) (j : Job) (s : State), running s = true ∧ s.acq.locQ.find? (fun (x : Burst) => x.term == k) =
      some b ∧ s.gr.jobs.find? (fun (x : Job) => b.job == some x.id && x.started) = some j ∧ ((hasTw s = true ∧
      due s b.closedAt (secT 2) = true ∨ hasTw s = false ∧ b.dz.isSome = true))) ∧
    (∃ (m : TwSend) (s : State), s.acq.msgSend.find? (fun (x : TwSend) => due s x.at0 (copyAt x.done)) = some m) ∧
    (∃ (bytes : List Byte) (s : State), running s = true ∧ exchOn s = true ∧ s.cmd.restarting = none ∧
      msgReject s bytes ≠ 0) ∧
    (∃ (bytes : List Byte) (s : State), running s = true ∧ exchOn s = true ∧ s.cmd.restarting = none ∧ msgReject s bytes =
      0 ∧ followsAgreed s = false ∧ msgHeld s (msgKey bytes) = false) ∧
    (∃ (s : State), s.acq.vmState = 1 ∧ due s s.acq.vmAt (secT 60) = true ∧
      (s.acq.burst.filterMap id ++ s.acq.locQ).all (fun (b : Burst) => !b.vm) = true) ∧
    (∃ (s : State) (d : Desc) (q : List Desc), running s = true ∧ followsAgreed s = false ∧ s.acq.twQ = d :: q) ∧
    (∃ (s : State) (a : Agree), running s = true ∧ followsAgreed s = true ∧ agreeHead s 2 = some a) :=
  ⟨⟨1, { (default : Burst) with windowOpen := true }, burst1 { (default : Burst) with windowOpen := true }, by decide⟩,
   ⟨1, { (default : Burst) with lead := some default }, burst1 { (default : Burst) with lead := some default }, default,
     by decide⟩,
   ⟨1, { (default : Burst) with term := 1, supIssued := true },
     burst1 { (default : Burst) with term := 1, supIssued := true }, by decide⟩,
   ⟨1, { (default : Burst) with term := 1, job := some 3 }, { (default : Job) with id := 3, started := true }, located,
     by decide⟩,
   ⟨default, { live with acq := { live.acq with msgSend := [default] } }, by decide⟩,
   ⟨[], exch, by decide⟩,
   ⟨msg, exch, by decide +kernel⟩,
   ⟨atSec 60 { live with acq := { live.acq with vmState := 1 } }, by decide⟩,
   ⟨{ live with acq := { live.acq with twQ := [default] } }, default, [], by decide⟩,
   ⟨{ live with pr := { live.pr with st := .twin, agree := [⟨2, 0, []⟩] } }, ⟨2, 0, []⟩, by decide⟩⟩

/-- Hypotheses of `GraphRowsComplete`. -/
theorem witness_GraphRowsComplete :
    (∃ (core : Nat) (i : Inst) (n : Node) (s : State), s.gr.insts.find? (fun (x : Inst) => x.onCore core) = some i ∧ n =
      nodeAt s i.node) ∧
    (∃ (core : Nat) (i : Inst) (n : Node) (s : State), s.gr.insts.find? (fun (x : Inst) => x.onCore core) = some i ∧ n =
      nodeAt s i.node ∧ due s i.execAt (nsT (abortLimit n * 5 / 2)) = true) ∧
    (∃ (w : Nat) (a : Nat) (s : State), s.gr.openWaves.head? = some (w, a) ∧ a + usT 125 ≤ td1 s ∧ waveDone s w = false) ∧
    (∃ (q : Nat) (a : Nat) (s : State), s.gr.openDescs.find? (fun d => decide (d.2 + usT 50 ≤ td1 s)) = some (q, a)) ∧
    (∃ (late : List Inst) (s : State), late = s.gr.insts.filter (fun (i : Inst) => i.band ==
      2 && i.unretired && decide (i.born1 + 187500 * 2 ^ 40 ≤ td1 s) && !s.gr.lateP2.contains (i.node, i.key)) ∧
      late ≠ []) ∧
    (∃ (s : State), s.gr.healthyHold = true ∧ s.gr.overruns.any (fun a => !due s a (msT 1000)) = false) ∧
    (∃ (j : Job) (s : State), running s = true ∧ s.gr.running = true ∧ s.hlt.dieHigh ≠ 2 ∧
      s.gr.jobs.find? (fun (x : Job) => !x.started) = some j ∧ (s.gr.insts.filter (fun (i : Inst) => i.band ==
      3)).length + (jobNodes s j.set).length ≤ 1024) ∧
    (∃ (k : Nat) (hold : Nat) (n : Node) (s : State), trackerNode s k = some n ∧ trackAux (elemOf s n) 6 =
      ((hold + 1 : Nat) : Int) ∧
      hold + msT ((setF s { (default : Inst) with group := s.img.group } n.inst 0x03 10 20).toNat * 100) ≤ td0 s) :=
  ⟨⟨0, execInst, nodeAt execState 0, execState, by decide⟩,
   ⟨0, execInst, nodeAt execState 0, execState, by decide⟩,
   ⟨0, 0, openWave, by decide⟩,
   ⟨0, 0, atSec 1 { live with gr := { live.gr with openDescs := [(0, 0)] } }, by decide⟩,
   ⟨[{ execInst with band := 2 }], atSec 1 { live with gr := { live.gr with insts := [{ execInst with band := 2 }] } },
     by decide⟩,
   ⟨{ live with gr := { live.gr with healthyHold := true } }, by decide⟩,
   ⟨default, { graphOn with gr := { graphOn.gr with jobs := [default] } }, by decide⟩,
   ⟨0, 0, tracker, tracking, by decide⟩⟩

/-- Hypotheses of `MeasurementRequestsComplete`. -/
theorem witness_MeasurementRequestsComplete :
    (∃ (r : Req) (kind : Nat) (mask : Nat) (s : State), running s = true ∧ mask < 2 ^ 16 ∧ waits r false s = false ∧
      precheck r 0x0040 false (some (if kind < 3 then 0 else 1)) s = none ∧ kind < 3) ∧
    (∃ (r : Req) (kind : Nat) (mask : Nat) (s : State), running s = true ∧ mask < 2 ^ 16 ∧ waits r false s = false ∧
      precheck r 0x0040 false (some (if kind < 3 then 0 else 1)) s = none ∧ kind = 3 ∧ pairRefuses s = false ∧
      s.pr.st ≠ .twin) ∧
    (∃ (r : Req) (kind : Nat) (mask : Nat) (s : State), running s = true ∧ mask < 2 ^ 16 ∧ waits r false s = false ∧
      precheck r 0x0040 false (some (if kind < 3 then 0 else 1)) s = none ∧ kind = 3 ∧ pairRefuses s = false ∧ s.pr.st =
      .twin) ∧
    (∃ (r : Req) (s : State), running s = true ∧ hasUpc s = true ∧ waits r false s = false ∧
      precheck r 0x0040 false (some 1) s = none) ∧
    (∃ (r : Req) (chan : Nat) (meas : Nat) (filter : Nat) (rate : Nat) (settle : Nat) (s : State), Served r 0x0041 s ∧
      hasUpc s = true ∧ chan ≤ 3 ∧ meas ≤ 4 ∧ filter ≤ 2 ∧ rate ≤ 13 ∧ settle ≤ 65535 ∧ s.upc.up = true ∧ urgFree s =
      true) ∧
    (∃ (r : Req) (set : Nat) (input : List Byte) (s : State), Served r 0x0042 s ∧ jobNodes s set ≠ [] ∧
      input.length ≤ 4096 ∧ hostEntry s = true ∧ s.hlt.dieHigh ≠ 2) ∧
    (∃ (r : Req) (s : State), Served r 0x0011 s) ∧
    (∃ (r : Req) (s : State), Served r 0x0011 s ∧ regAbsent s 0x20820 = false) ∧
    (∃ (r : Req) (s : State), Served r 0x0011 s) :=
  ⟨⟨rq, 2, 65535, live, by decide⟩,
   ⟨rq, 3, 65535, live, by decide⟩,
   ⟨rq, 3, 65535, { live with pr := { live.pr with st := .twin, active := true } }, by decide⟩,
   ⟨rq, live, by decide⟩,
   ⟨rq, 3, 4, 2, 13, 65535, { live with upc := { live.upc with up := true } }, by decide⟩,
   ⟨rq, 2, [], jobGraph, by decide⟩,
   ⟨rq, live, by decide⟩,
   ⟨rq, live, by decide⟩,
   ⟨rq, live, by decide⟩⟩

/-- Hypotheses of `StreamRowsComplete`. -/
theorem witness_StreamRowsComplete :
    (∃ (id : Nat) (k : Nat) (s : State), running s = true ∧ pmuByCode s id = some k) ∧
    (∃ (id : Nat) (k : Nat) (s : State), running s = true ∧ pmuByCode s id = some k ∧ feeds s = false ∧ ((s.pr.active =
      true ∨ s.pr.st = .solo ∨ s.pr.st = .cold))) ∧
    (∃ (id : Nat) (k : Nat) (s : State) (kind : Nat), running s = true ∧ pmuByCode s id = some k ∧ feeds s = false ∧
      ((s.pr.active = true ∨ s.pr.st = .solo ∨ s.pr.st = .cold)) ∧ 1 ≤ kind ∧ kind ≤ 3) ∧
    (∃ (id : Nat) (k : Nat) (s : State), running s = true ∧ pmuByCode s id = some k ∧ feeds s = true) ∧
    (∃ (id : Nat) (k : Nat) (s : State) (kind : Nat), running s = true ∧ pmuByCode s id = some k ∧ feeds s = true ∧
      1 ≤ kind ∧ kind ≤ 3) ∧
    (∃ (f : GooseFrame) (k : Nat) (s : State), running s = true ∧ portOn s f.port = true ∧ subFor s f = some k ∧
      goReject s k f ≠ 0) ∧
    (∃ (f : GooseFrame) (k : Nat) (s : State), running s = true ∧ portOn s f.port = true ∧ subFor s f = some k ∧
      goReject s k f = 0 ∧ followsAgreed s = false ∧ (((subOf s k).ever = false ∨ (subOf s k).lost =
      true ∨ (1 ≤ (f.st + 2 ^ 32 - (subOf s k).st) % 2 ^ 32 ∧ (f.st + 2 ^ 32 - (subOf s k).st) % 2 ^ 32 < 2 ^ 31) ∨ (f.st =
      (subOf s k).st ∧ (subOf s k).sq < f.sq)))) ∧
    (∃ (k : Nat) (s : State), running s = true ∧ (subOf s k).ever = true ∧ (subOf s k).lost = false ∧
      (subOf s k).until_ ≤ td0 s) ∧
    (∃ (p : Nat) (x : GoosePub) (s : State), x = pubOf s p ∧ running s = true ∧ x.st ≠ 0 ∧ (prm s 0x0910 p).isSome = true ∧
      x.nextAt ≤ td0 s) ∧
    (∃ (s : State), running s = true ∧ abPair s = true ∧ s.net.supAt + secT 2 ≤ td0 s) ∧
    (∃ (port : Nat) (s : State), running s = true ∧ port < 2 ∧ (portAt s port).loss = false ∧ abPair s = true ∧
      (portAt s port).link = true ∧ (portAt s port).rxAt + secT 2 ≤ td0 s ∧ td0 s < (portAt s (1 - port)).rxAt + secT 2) ∧
    (∃ (port : Nat) (s : State), running s = true ∧ port < 2 ∧ (portAt s port).loss = false ∧ abMode s = 2 ∧
      3 ≤ (portAt s port).noReturn) :=
  ⟨⟨7, 0, pmu7, by decide⟩,
   ⟨7, 0, pmu7, by decide⟩,
   ⟨7, 0, pmu7, 3, by decide⟩,
   ⟨7, 0, twinActive pmu7, by decide⟩,
   ⟨7, 0, twinActive pmu7, 1, by decide⟩,
   ⟨{ goose1 with nds := true }, 0, gooseOn, by decide⟩,
   ⟨goose1, 0, gooseOn, by decide⟩,
   ⟨0, { gooseOn with net := { gooseOn.net with subs := [{ (default : GooseSub) with ever := true }] } }, by decide⟩,
   ⟨0, { (default : GoosePub) with st := 1 }, pub1, by decide⟩,
   ⟨atSec 2 (withPrm [⟨0x0901, 0, [2#8]⟩] live), by decide⟩,
   ⟨1, atSec 2 (withPrm [⟨0x0901, 0, [1#8]⟩] (portIs 0 { (default : Port) with rxAt := secT 1 })), by decide⟩,
   ⟨1, withPrm [⟨0x0901, 0, [2#8]⟩] (portIs 1 { (default : Port) with noReturn := 3 }), by decide⟩⟩

/-- Hypotheses of `PortRowsComplete`. -/
theorem witness_PortRowsComplete :
    (∃ (f : NetFrame) (s : State), running s = true ∧ f.port < 3 ∧ portOn s f.port = true ∧ (portAt s f.port).link = true ∧
      f.good = false) ∧
    (∃ (f : NetFrame) (s : State), running s = true ∧ f.port < 3 ∧ portOn s f.port = true ∧ (portAt s f.port).link = true ∧
      f.good = true ∧ accepts s f = true ∧ f.frag = false ∧ f.room = true ∧ ((abMode s = 2 → f.port < 2 →
      f.src ≠ ownMac s))) ∧
    (∃ (request : Bool) (target : Nat) (s : State), running s = true ∧ (ifPorts s).isSome = true ∧ s.cmd.restarting =
      none ∧ ((request = true → target = ownIp s))) ∧
    (∃ (s : State), running s = true ∧ (ifPorts s).isSome = true ∧ s.net.arpAt + secT 60 ≤ td0 s) ∧
    (∃ (s : State), running s = true ∧ (ifPorts s).isSome = true ∧ s.cmd.restarting = none) ∧
    (∃ (conn : Nat) (c : TlsClient) (s : State), takesPackets .net s = true ∧ (ifPorts s).isSome = true ∧
      lockedOut .net s = false ∧ s.sec.keys.any (fun (k : Key4) => k.kind == 3 && k.key == c.anchor) = true ∧ c.sigOk =
      true ∧ ((s.tu.d1.qst = .locked ∨ s.tu.d1.qst = .glide)) ∧ (c.notBefore : Int) ≤ utcSec s (td1 s) ∧
      utcSec s (td1 s) ≤ (c.notAfter : Int) ∧ s.cmd.tls.find? (fun e => e.1 == conn) = none) ∧
    (∃ (conn : Nat) (held : List Byte) (s : State), takesPackets .net s = true ∧ (ifPorts s).isSome = true ∧
      s.cmd.conns.any (fun e => e.1 == conn) = true ∧ held = (match s.cmd.tls.find? (fun e => e.1 ==
      conn) with | some e => e.2 | none => [])) ∧
    (∃ (port : Nat) (s : State), running s = true ∧ port < 3 ∧ portOn s port = true ∧ (portAt s port).link = true) ∧
    (∃ (port : Nat) (s : State), running s = true ∧ port < 3 ∧ portOn s port = true ∧ injOn s 0x20 port = false) ∧
    (∃ (port : Nat) (s : State) (c : Nat), running s = true ∧ port < 3 ∧ (portAt s port).loss = true ∧
      (portAt s port).clearAt = some c ∧ c + secT 1 ≤ td0 s ∧ injOn s 0x20 port = false) :=
  ⟨⟨{ (default : NetFrame) with port := 1 }, ports, by decide⟩,
   ⟨{ (default : NetFrame) with port := 1, good := true, room := true }, ports, by decide⟩,
   ⟨true, 5, iface, by decide⟩,
   ⟨atSec 60 iface, by decide⟩,
   ⟨iface, by decide⟩,
   ⟨1, { (default : TlsClient) with sigOk := true, anchor := [9#8], notAfter := 1 }, tlsOn, by decide⟩,
   ⟨1, [], { tlsOn with cmd := { tlsOn.cmd with conns := [(1, 31)] } }, by decide⟩,
   ⟨2, ports, by decide⟩,
   ⟨2, ports, by decide⟩,
   ⟨2, atSec 1 (portIs 2 { (default : Port) with loss := true, clearAt := some 0 }), 0, by decide⟩⟩

/-- Hypotheses of `FieldBarrierRowsComplete`. -/
theorem witness_FieldBarrierRowsComplete :
    (∃ (s : State), s.pw.convertersOn = true ∧ atMultiple 8 s.fio.frameIdx s = true) ∧
    (∃ (s : State), s.pw.convertersOn = true) ∧
    (∃ (s : State), s.pw.convertersOn = true) ∧
    (∃ (s : State), s.pw.convertersOn = true ∧ s.fio.everUp = false) ∧
    (∃ (s : State), s.pw.convertersOn = true ∧ injOn s 0x0D 0 = false) ∧
    (∃ (n : Nat) (l : FieldLaunch) (s : State), n < 8 ∧ s.fio.fsLaunch.find? (fun x => x.dout == n) = some l) :=
  ⟨⟨{ barrier with fio := { barrier.fio with frameIdx := 9 } }, by decide⟩,
   ⟨barrier, by decide⟩,
   ⟨barrier, by decide⟩,
   ⟨barrier, by decide⟩,
   ⟨barrier, by decide⟩,
   ⟨7, ⟨7, true, 0⟩, { barrier with fio := { barrier.fio with fsLaunch := [⟨7, true, 0⟩] } }, by decide⟩⟩

/-- Hypotheses of `FieldDiagnosticRowsComplete`. -/
theorem witness_FieldDiagnosticRowsComplete :
    (∃ (n : Nat) (s : State), n < 8 ∧ (doOf s n).driven = true ∧ (doOf s n).overload = false) ∧
    (∃ (n : Nat) (s : State), n < 8 ∧ owSupervised s n = true ∧ (doOf s n).openW = false) ∧
    (∃ (n : Nat) (s : State), n < 8 ∧ (doOf s n).driven = true) ∧
    (∃ (n : Nat) (s : State), n < 8 ∧ (doOf s n).shut = true ∧ due s (doOf s n).shutAt (msT 100) = true) ∧
    (∃ (n : Nat) (s : State), n < 8 ∧ (doOf s n).driven = false ∧ doPaired s n = false ∧ (doOf s n).extv = false) ∧
    (∃ (n : Nat) (s : State), n < 16 ∧ (fsCfg s 18).testBit n = true ∧ (diOf s n).state = false ∧ (diOf s n).openW =
      false) ∧
    (∃ (n : Nat) (s : State), n < 16 ∧ (diOf s n).overload = false) ∧
    (∃ (n : Nat) (s : State), n < 16 ∧ (diOf s n).overtemp = false) ∧
    (∃ (n : Nat) (s : State), n < 16 ∧ (diOf s n).frozen = true ∧ injOn s 0x26 n = false ∧
      due s (diOf s n).lastChange (msT (pv s 0x0554 n 4 2 5000)) = true) ∧
    (∃ (det : Nat) (n : Nat) (s : State), det ∈ [0x0E, 0x0F, 0x10, 0x11, 0x12, 0x13, 0x15] ∧ detOn s det n = true ∧
      injOn s det n = false) ∧
    (∃ (g : Nat) (s : State), g < 2 ∧ pv s 0x0552 g 0 1 1 = 1 ∧ s.fio.low.getLsbD g = false) ∧
    (∃ (g : Nat) (s : State), g < 2 ∧ pv s 0x0552 g 0 1 1 = 1 ∧ s.fio.lockout.getLsbD g = false) ∧
    (∃ (g : Nat) (s : State), g < 2 ∧ s.fio.low.getLsbD g = true ∧ injOn s 0x14 g = false) :=
  ⟨⟨7, doIs 7 { (default : DigOut) with driven := true }, by decide⟩,
   ⟨7, configured [(17, 0x8000)], by decide⟩,
   ⟨7, doIs 7 { (default : DigOut) with driven := true }, by decide⟩,
   ⟨7, atSec 1 (doIs 7 { (default : DigOut) with shut := true }), by decide⟩,
   ⟨7, barrier, by decide⟩,
   ⟨15, configured [(18, 0x8000)], by decide⟩,
   ⟨15, barrier, by decide⟩,
   ⟨15, barrier, by decide⟩,
   ⟨15, atSec 5 (diIs 15 { (default : DigIn) with frozen := true }), by decide⟩,
   ⟨0x15, 7, { doIs 7 { (default : DigOut) with extv := true } with hlt := { live.hlt with active := [(0x15, 7)] } },
     by decide⟩,
   ⟨1, barrier, by decide⟩,
   ⟨1, barrier, by decide⟩,
   ⟨1, { barrier with fio := { barrier.fio with low := 2#2 } }, by decide⟩⟩

/-- Hypotheses of `MaximumOnTimeTellsOnce`. -/
theorem witness_MaximumOnTimeTellsOnce :
    (∃ (n : Nat) (s : State), n < 16 ∧ pv s 0x0555 n 2 2 0 ≠ 0 ∧ (diOf s n).state = true ∧
      due s (diOf s n).onSince (secT (pv s 0x0555 n 2 2 0)) = true ∧ (diOf s n).maxOnDone = false) ∧
    (∃ (n : Nat) (s : State), n < 16 ∧ pv s 0x0555 n 2 2 0 ≠ 0 ∧ (diOf s n).state = true ∧
      due s (diOf s n).onSince (secT (pv s 0x0555 n 2 2 0)) = true ∧ (diOf s n).maxOnDone = true) ∧
    (∃ (e : DiEdge), e.input < 16) ∧
    (∃ (e : DiEdge) (n : Nat), e.input < 16 ∧ n < 16 ∧ n ≠ e.input) :=
  ⟨⟨15, atSec 3 (maxOn false), by decide⟩,
   ⟨15, atSec 3 (maxOn true), by decide⟩,
   ⟨⟨0, true, false, 0, 0⟩, by decide⟩,
   ⟨⟨0, true, false, 0, 0⟩, 15, by decide⟩⟩

/-- Hypotheses of `ProcessBarrierRowsComplete`. -/
theorem witness_ProcessBarrierRowsComplete :
    (∃ (s : State), hasUpc s = true ∧ s.pw.convertersOn = true ∧ atMultiple 32 s.upc.frameIdx s = true) ∧
    (∃ (s : State), hasUpc s = true) ∧
    (∃ (s : State), hasUpc s = true) ∧
    (∃ (s : State), hasUpc s = true ∧ s.upc.everUp = false) ∧
    (∃ (s : State), hasUpc s = true ∧ 3 ≤ s.upc.psBad ∧ s.upc.psSafe = false) ∧
    (∃ (s : State) (k : SeqCfg), hasUpc s = true ∧ s.upc.stopped = false ∧ s.upc.urgent = none ∧ s.upc.running = true ∧
      (s.upc.ent.getD s.upc.cur default).cfg = some k ∧ 0 < s.upc.discLeft) ∧
    (∃ (s : State) (k : SeqCfg), hasUpc s = true ∧ s.upc.stopped = false ∧ s.upc.urgent = none ∧ s.upc.running = true ∧
      (s.upc.ent.getD s.upc.cur default).cfg = some k ∧ s.upc.discLeft = 0) ∧
    (∃ (s : State) (u : Urgent), hasUpc s = true ∧ s.upc.stopped = false ∧ s.upc.urgent = some u ∧ u.verify = false ∧
      s.upc.discLeft = 0) ∧
    (∃ (s : State), hasUpc s = true ∧ s.upc.startIn = true ∧ s.upc.stopped = false ∧ s.upc.running = false) ∧
    (∃ (s : State), hasUpc s = true ∧ s.upc.startIn = true ∧ s.upc.stopped = false ∧ s.upc.running = true ∧ s.upc.latched =
      false) ∧
    (∃ (s : State), hasUpc s = true ∧ s.upc.startIn = true ∧ s.upc.stopped = false ∧ s.upc.running = true ∧ s.upc.latched =
      true) :=
  ⟨⟨{ barrier with upc := { barrier.upc with frameIdx := 9 } }, by decide⟩,
   ⟨barrier, by decide⟩,
   ⟨barrier, by decide⟩,
   ⟨barrier, by decide⟩,
   ⟨{ barrier with upc := { barrier.upc with psBad := 3, psSafe := false } }, by decide⟩,
   ⟨passing { barrier.upc with discLeft := 1 }, default, by decide⟩,
   ⟨passing { barrier.upc with up := true }, default, by decide⟩,
   ⟨passing { barrier.upc with urgent := some default }, default, by decide⟩,
   ⟨{ barrier with upc := { barrier.upc with startIn := true, stopped := false } }, by decide⟩,
   ⟨{ barrier with upc := { barrier.upc with startIn := true, stopped := false, running := true } }, by decide⟩,
   ⟨{ barrier with upc := { barrier.upc with startIn := true, stopped := false, running := true, latched := true } },
     by decide⟩⟩

/-- Hypotheses of `ProcessChannelRowsComplete`. -/
theorem witness_ProcessChannelRowsComplete :
    (∃ (n : Nat) (s : State), hasUpc s = true ∧ n < 4 ∧ verifyDue s n = true) ∧
    (∃ (n : Nat) (s : State), hasUpc s = true ∧ n < 4 ∧ heldFor s (procChan s n).mismatchSince (msT 100) = true ∧
      (procChan s n).mismatch = false) ∧
    (∃ (n : Nat) (s : State), hasUpc s = true ∧ n < 4 ∧ (procChan s n).mismatch = true ∧
      heldFor s (procChan s n).agreeSince (secT 1) = true) ∧
    (∃ (n : Nat) (s : State), hasUpc s = true ∧ n < 4 ∧ heldFor s (procChan s n).testAt (msT 5) = true) ∧
    (∃ (n : Nat) (s : State), hasUpc s = true ∧ n < 4 ∧ heldFor s (procChan s n).headSince (msT (pv s 0x0B05 n 0 2 500)) =
      true ∧ (procChan s n).compliance = false) ∧
    (∃ (n : Nat) (s : State), hasUpc s = true ∧ n < 4 ∧ heldFor s (procChan s n).openSince (msT 100) = true ∧
      (procChan s n).openLoop = false) ∧
    (∃ (n : Nat) (s : State), hasUpc s = true ∧ n < 4 ∧
      heldFor s (procChan s n).rangeSince (msT (pv s 0x0B05 n 2 2 1000)) = true ∧ (procChan s n).range = false) ∧
    (∃ (n : Nat) (s : State), hasUpc s = true ∧ n < 4 ∧ (procChan s n).mode = 5 ∧ pv s 0x0B05 n 4 1 1 = 1 ∧
      due s (procChan s n).tcAt (secT 1) = true) ∧
    (∃ (n : Nat) (s : State), hasUpc s = true ∧ n < 4 ∧ (procChan s n).openLoop = true ∧
      heldFor s ((procChan s n).clearSince.getD 0 none) (secT 1) = true) ∧
    (∃ (n : Nat) (s : State), hasUpc s = true ∧ n < 4 ∧ (procChan s n).compliance = true ∧
      heldFor s ((procChan s n).clearSince.getD 1 none) (secT 1) = true) ∧
    (∃ (n : Nat) (s : State), hasUpc s = true ∧ n < 4 ∧ (procChan s n).range = true ∧
      heldFor s ((procChan s n).clearSince.getD 2 none) (secT 1) = true) ∧
    (∃ (n : Nat) (s : State), hasUpc s = true ∧ n < 4 ∧ (procChan s n).tcOpen = true ∧
      heldFor s ((procChan s n).clearSince.getD 3 none) (secT 1) = true) ∧
    (∃ (r : Req) (n : Nat) (v : Word) (s : State), Served r 0x0011 s ∧ hasUpc s = true ∧ ((s.le.mode =
      .notStarted ∨ s.le.mode = .stop)) ∧ s.pr.st ≠ .joining ∧ s.pr.st ≠ .twin ∧ getFld v.toNat 0 4 ≤ 7 ∧
      tableServes s n (getFld v.toNat 0 4) (getFld v.toNat 8 4) = true) :=
  ⟨⟨3, { atSec 60 (chan3 { (default : ProcChan) with mode := 6 }) with upc := { (chan3 { (default : ProcChan) with mode := 6 }).upc with up := true } }, by decide⟩,
   ⟨3, atSec 1 (chan3 { (default : ProcChan) with mismatchSince := some 0 }), by decide⟩,
   ⟨3, atSec 1 (chan3 { (default : ProcChan) with mismatch := true, agreeSince := some 0 }), by decide⟩,
   ⟨3, atSec 1 (chan3 { (default : ProcChan) with testAt := some 0 }), by decide⟩,
   ⟨3, atSec 1 (chan3 { (default : ProcChan) with headSince := some 0 }), by decide⟩,
   ⟨3, atSec 1 (chan3 { (default : ProcChan) with openSince := some 0 }), by decide⟩,
   ⟨3, atSec 1 (chan3 { (default : ProcChan) with rangeSince := some 0 }), by decide⟩,
   ⟨3, atSec 1 (chan3 { (default : ProcChan) with mode := 5 }), by decide⟩,
   ⟨3, atSec 1 (chan3 { (default : ProcChan) with openLoop := true, clearSince := [some 0, none, none, none] }), by decide⟩,
   ⟨3, atSec 1 (chan3 { (default : ProcChan) with compliance := true, clearSince := [none, some 0, none, none] }),
     by decide⟩,
   ⟨3, atSec 1 (chan3 { (default : ProcChan) with range := true, clearSince := [none, none, some 0, none] }), by decide⟩,
   ⟨3, atSec 1 (chan3 { (default : ProcChan) with tcOpen := true, clearSince := [none, none, none, some 0] }), by decide⟩,
   ⟨rq, 3, 0#32, live, by decide⟩⟩

/-- Hypotheses of `RemoteIoRowsComplete`. -/
theorem witness_RemoteIoRowsComplete :
    (∃ (k : Nat) (seq : Nat) (s : State), rioMode s = 1 ∧ (stations s).contains k = true ∧
      (s.net.port.getD 2 default).link = true ∧ usesAgreed s = false ∧ (stOf s k).used ≠ some seq ∧ seq =
      wrapInc 32 s.rio.seq) ∧
    (∃ (k : Nat) (seq : Nat) (s : State), rioMode s = 1 ∧ (stations s).contains k = true ∧
      (s.net.port.getD 2 default).link = true ∧ usesAgreed s = false ∧ (stOf s k).used ≠ some seq ∧
      seq ≠ wrapInc 32 s.rio.seq) ∧
    (∃ (k : Nat) (s : State), rioMode s = 1 ∧ (stations s).contains k = true ∧ (s.net.port.getD 2 default).link = true ∧
      usesAgreed s = true) ∧
    (∃ (s : State), rioMode s = 1 ∧ running s = true ∧ mayTx s = true ∧ rioSent s = false ∧
      gridInstant s (s.rio.relT1 + rioSend s) ≤ td1 s) ∧
    (∃ (s : State), rioMode s = 2 ∧ running s = true ∧ ringMaster s = true ∧ mayTx s = true ∧ due s s.rio.ringTd0 (msT 2) =
      true) ∧
    (∃ (k : Nat) (s : State), rioMode s = 2 ∧ (stations s).contains k = true ∧ usesAgreed s = false) ∧
    (∃ (k : Nat) (s : State), rioMode s = 2 ∧ (stations s).contains k = true ∧ usesAgreed s = false ∧
      (stOf s k).used ≠ some s.rio.ringCycles) :=
  ⟨⟨31, 1, rio1 31, by decide⟩,
   ⟨31, 2, rio1 31, by decide⟩,
   ⟨31, { rio1 31 with pr := { live.pr with st := .twin } }, by decide⟩,
   ⟨{ rio1 31 with pr := { live.pr with tx := true } }, by decide⟩,
   ⟨atSec 1 { ducia 15 with pr := { live.pr with tx := true } }, by decide⟩,
   ⟨15, ducia 15, by decide⟩,
   ⟨15, ducia 15, by decide⟩⟩

/-- Hypotheses of `RecorderRowsComplete`. -/
theorem witness_RecorderRowsComplete :
    (∃ (r : Req) (s : State) (arm : Nat), pairRefuses s = false ∧ Served r 0x0060 s ∧ arm ≤ 1) ∧
    (∃ (r : Req) (s : State) (unit : Nat) (c : UnitCfg), pairRefuses s = false ∧ Served r 0x0061 s ∧ unitCfg s unit =
      some c ∧ c.type = 8) ∧
    (∃ (a : Nat) (fs : List Firing) (rec : Record) (s : State), s.dr.coll = some (a, fs) ∧ s.dr.cap = none ∧
      a + usT (100 + fMax s) ≤ td1 s ∧ newRecord s fs = some rec) ∧
    (∃ (rec : Record) (s : State), s.dr.cap = some rec ∧ rec.endSlot ≤ s.acq.waves ∧ rec.pendEnd ≤ rec.limSlot) ∧
    (∃ (rec : Record) (s : State), s.dr.cap = some rec ∧ rec.endSlot ≤ s.acq.waves ∧ rec.limSlot < rec.pendEnd) ∧
    (∃ (s : State), s.dr.st = .holdOff ∧ due s s.dr.holdAt (msT (100 * pv s 0x0701 0 2 2 50)) = true) ∧
    (∃ (high : Nat) (prot : Nat) (s : State), 50 ≤ max high prot ∧ s.dr.step < 5 ∧ ((∀ a, s.dr.stepAt = some a →
      a + msT 20 ≤ td1 s))) ∧
    (∃ (high : Nat) (prot : Nat) (s : State) (a : Nat), max high prot ≤ 20 ∧ s.dr.lowSince = some a ∧ 0 < s.dr.step ∧
      due s a (secT 1) = true) ∧
    (∃ (high : Bool) (s : State), (if high then s.dr.full.2 else s.dr.full.1) = false ∧ ((high = true → hasTw s = true)) ∧
      (keepFrom s).isSome = true) ∧
    (∃ (id : Nat) (rec : Record) (s : State), s.dr.reel.find? (fun x => x.id == id && x.state == 1) = some rec) ∧
    (∃ (r : Req) (s : State) (max_ : Nat), Served r 0x0062 s ∧ 1 ≤ max_ ∧ max_ ≤ 63) ∧
    (∃ (r : Req) (s : State) (id : Nat) (offset : Nat) (len : Nat) (x : Record), Served r 0x0063 s ∧ len ≤ 4080 ∧
      (allRecords s).find? (fun y => y.id == id) = some x ∧ offset + len ≤ x.bytes.length) ∧
    (∃ (r : Req) (s : State) (id : Nat) (set : Nat) (format : Nat) (chain : Nat) (file : Nat) (offset : Nat) (x : Record),
      Served r 0x0064 s ∧ set ≤ 1 ∧ ((set = 1 → hasTw s = true)) ∧ format ≤ 1 ∧ chain ≤ 1 ∧ file ≤ 3 ∧
      (allRecords s).find? (fun y => y.id == id) = some x ∧ 2 ≤ x.state ∧ offset = 0) :=
  ⟨⟨rq, live, 1, by decide⟩,
   ⟨rq, manual31, 31, (unitCfg manual31 31).getD ⟨0, 0, false, 0, 0, 0, 0, 0, 0, 0, 0⟩, by decide⟩,
   ⟨0, [default], (newRecord collecting [default]).getD default, collecting, by decide⟩,
   ⟨default, capturing default, by decide⟩,
   ⟨{ (default : Record) with pendEnd := 1 }, capturing { (default : Record) with pendEnd := 1 }, by decide⟩,
   ⟨atSec 5 { live with dr := { live.dr with st := .holdOff } }, by decide⟩,
   ⟨50, 0, live, by refine ⟨by decide, by decide, ?_⟩; rintro a ⟨⟩⟩,
   ⟨20, 20, atSec 1 { live with dr := { live.dr with step := 1, lowSince := some 0 } }, 0, by decide⟩,
   ⟨true, capturing default, by decide⟩,
   ⟨1, { (default : Record) with id := 1, state := 1 }, onReel { (default : Record) with id := 1, state := 1 }, by decide⟩,
   ⟨rq, live, 63, by decide⟩,
   ⟨rq, onReel { (default : Record) with id := 1, bytes := [1#8, 2#8] }, 1, 1, 1,
     { (default : Record) with id := 1, bytes := [1#8, 2#8] }, by decide⟩,
   ⟨rq, onReel { (default : Record) with id := 1, state := 2 }, 1, 1, 1, 1, 3, 0,
     { (default : Record) with id := 1, state := 2 }, by decide⟩⟩

/-- Hypotheses of `EventRecorderRowsComplete`. -/
theorem witness_EventRecorderRowsComplete :
    (∃ (s : State), s.evr.subq = []) ∧
    (∃ (s : State) (b : Block) (e : Event), lowestCode (entryHeads s.evr.subq) = some (b, e) ∧ s.evr.owed = false ∧
      s.evr.front.length < 4096 ∧ rateLimit s e = none) ∧
    (∃ (code : Nat) (depth : Nat) (period : Nat) (n : Nat) (b : List Byte) (s : State), prm s 0x0801 code = some b ∧
      depth = leAt b 0 2 ∧ period = leAt b 4 4 ∧ n = (td0 s - (bucketOf s code depth).refillAt) / msT (max 1 period) ∧
      s.evr.buckets.any (fun (x : Bucket) => x.code == code) = true ∧ 0 < n ∧ (bucketOf s code depth).tokens < depth) ∧
    (∃ (code : Nat) (depth : Nat) (b : List Byte) (s : State), prm s 0x0801 code = some b ∧ depth = leAt b 0 2 ∧
      due s (bucketOf s code depth).sumAt (secT 60) = true ∧ (bucketOf s code depth).supp ≠ 0 ∧ s.evr.front.length < 4096 ∧
      s.evr.owed = false) ∧
    (∃ (s : State), s.evr.front ≠ [] ∧ due s s.evr.commitAt (secT 1) = true) ∧
    (∃ (s : State), s.evr.commitPend = true ∧ s.evr.committing = false ∧ s.evr.freeze = none ∧ s.fl.running = false ∧
      s.cmd.restarting = none) ∧
    (∃ (s : State) (x : Rec), s.evr.committing = true ∧ (s.evr.front.take (min 256 s.evr.commitLeft)).getLast? = some x) ∧
    (∃ (r : Req) (s : State) (max_ : Nat), Served r 0x0070 s ∧ 1 ≤ max_ ∧ max_ ≤ 63) ∧
    (∃ (r : Req) (s : State), Served r 0x0071 s ∧ s.evr.freeze = none) ∧
    (∃ (r : Req) (s : State) (a : Nat), Served r 0x0072 s ∧ s.evr.freeze = some (r.session, a)) ∧
    (∃ (h : Nat) (a : Nat) (s : State), s.evr.freeze = some (h, a) ∧ due s a (secT 30) = true) :=
  ⟨⟨live, by decide⟩,
   ⟨{ live with evr := { live.evr with subq := [(.boot, default)] } }, .boot, default, by decide⟩,
   ⟨0x6004, 2, 1, 1000, [2#8, 0#8, 0#8, 0#8, 1#8, 0#8, 0#8, 0#8], limited, by decide⟩,
   ⟨0x6004, 2, [2#8, 0#8, 0#8, 0#8, 1#8, 0#8, 0#8, 0#8], atSec 60 limited, by decide⟩,
   ⟨fronted, by decide⟩,
   ⟨{ fronted with evr := { fronted.evr with commitPend := true } }, by decide⟩,
   ⟨{ fronted with evr := { fronted.evr with committing := true, commitLeft := 1 } }, default, by decide⟩,
   ⟨rq, fronted, 63, by decide⟩,
   ⟨rq, { fronted with evr := { fronted.evr with committing := true } }, by decide⟩,
   ⟨rq, { live with evr := { live.evr with freeze := some (1, 0) } }, 0, by decide⟩,
   ⟨1, 0, atSec 30 { live with evr := { live.evr with freeze := some (1, 0) } }, by decide⟩⟩

/-- Hypotheses of `PairLinkRowsComplete`. -/
theorem witness_PairLinkRowsComplete :
    (∃ (s : State) (serial : Nat) (est : Bool) (st : Nat) (act : Bool) (mark : List Byte) (lane : Nat) (wave : Nat)
      (bind : Bool) (flags : Nat) (kind : Nat) (vals : List Nat) (fill : Nat) (lat : Nat) (d : Desc) (digest : Nat)
      (total : Nat) (off : Nat) (bytes : List Byte) (err : Int) (c : Instr), running s = true ∧ pairOn s = true ∧
      c ∈ [ Instr.risiaHelloRx false serial est st act mark, .risiaHeartbeatRx false lane st act wave bind flags,
      .risiaAgreeRx false kind wave vals fill lat, .risiaDescRx false d, .risiaDigestRx false wave digest,
      .risiaControlRx false vals, .risiaBulkRx false kind total off bytes, .risiaTimeRx false err]) ∧
    (∃ (s : State) (serial : Nat) (st : Nat), running s = true ∧ pairOn s = true ∧ s.pr.st = .twin ∧ listed s serial =
      true) ∧
    (∃ (s : State), running s = true ∧ pairOn s = true ∧ s.pr.active = false ∧ s.pr.verdict = none) ∧
    (∃ (s : State) (kind : Nat), running s = true ∧ pairOn s = true ∧ takesAgree s = true ∧ kind ≠ 6 ∧ kind ≠ 7) ∧
    (∃ (s : State), running s = true ∧ pairOn s = true ∧ takesAgree s = true) ∧
    (∃ (s : State) (wave : Nat) (digest : Nat), running s = true ∧ pairOn s = true ∧ s.pr.st = .twin ∧ s.pr.pDigests = [] ∧
      s.pr.digests.find? (fun x => x.1 == wave % 2 ^ 32) = some (wave % 2 ^ 32, digest % 2 ^ 64)) ∧
    (∃ (s : State), running s = true ∧ pairOn s = true ∧ takesAgree s = true) ∧
    (∃ (s : State), running s = true ∧ pairOn s = true ∧ s.pr.active = false) ∧
    (∃ (s : State), running s = true ∧ pairOn s = true ∧ takesAgree s = true ∧ s.pr.joinPhase = 1) ∧
    (∃ (s : State) (err : Int), running s = true ∧ pairOn s = true ∧ s.pr.st = .twin ∧ err.natAbs ≤ 1000) ∧
    (∃ (s : State), running s = true ∧ pairOn s = true ∧ due s s.pr.hbAt (usT 10) = true) :=
  ⟨⟨standby id, 0, default, default, default, default, default, default, default, default, default, default, default,
    default, default, default, default, default, default, default, .risiaTimeRx false 0,
    by simp only [List.mem_cons, List.mem_nil_iff, or_false]; decide⟩,
   ⟨standby id, 1, default, by decide⟩,
   ⟨standby id, by decide⟩,
   ⟨standby id, 0, by decide⟩,
   ⟨standby id, by decide⟩,
   ⟨standby (fun p => { p with digests := [(9, 5)] }), 9, 5, by decide⟩,
   ⟨standby id, by decide⟩,
   ⟨standby id, by decide⟩,
   ⟨joins 1 id, by decide⟩,
   ⟨standby id, -3, by decide⟩,
   ⟨standby id, by decide⟩⟩

/-- Hypotheses of `PairPathRowsComplete`. -/
theorem witness_PairPathRowsComplete :
    (∃ (s : State) (lane : Nat), running s = true ∧ s.pr.st = .twin ∧ lane < 2 ∧ s.pr.lanes = 3#2 ∧ injOn s 0x1C 0 =
      false ∧ due s (if lane = 0 then s.pr.laneAt.1 else s.pr.laneAt.2) (usT 40) = true) ∧
    (∃ (s : State), running s = true ∧ s.pr.st = .twin ∧ s.pr.lanes = 1#2 ∧ pairActs s = true ∧ s.pr.wireOk = true ∧
      due s s.pr.laneAt.1 (usT 40) = true) ∧
    (∃ (s : State) (width : Nat), running s = true ∧ s.pr.st = .twin ∧ 3300 ≤ width ∧ width ≤ 4700 ∧ injOn s 0x1D 0 =
      false ∧ s.pr.wireOk = true) ∧
    (∃ (s : State), running s = true ∧ s.pr.st = .twin ∧ pairActs s = true ∧ s.pr.wireOk = true ∧
      due s s.pr.wireAt (usT 40) = true ∧ s.pr.lanes ≠ 0#2) ∧
    (∃ (s : State), running s = true ∧ s.pr.st = .twin ∧ pairActs s = true ∧ s.pr.wireOk = true ∧
      due s s.pr.wireAt (usT 40) = true ∧ s.pr.lanes = 0#2 ∧ s.pr.active = false) ∧
    (∃ (s : State), running s = true ∧ s.pr.st = .twin ∧ s.pads.bindIn = true ∧ s.pr.handCell = false ∧ s.pr.active =
      false ∧ pairActs s = true) ∧
    (∃ (s : State), running s = true ∧ s.pr.st = .twin ∧ s.pads.bindIn = false) ∧
    (∃ (s : State), s.pads.bindOut = true ∧ due s s.pr.hbAt (usT 25) = true) ∧
    (∃ (s : State) (a : Nat), pairActs s = true ∧ s.pr.bindDiff = some a ∧ due s a (usT 100) = true ∧ s.pr.diffTold =
      false) ∧
    (∃ (a : Nat) (s : State), s.pr.active = true ∧ s.pr.established = false ∧ s.pr.activeAt = some a ∧ due s a (secT 1) =
      true) ∧
    (∃ (s : State), pairActs s = true ∧ s.pr.active = false ∧ s.pr.linkOnce = false ∧ s.pr.st = .solo ∧ s.pr.left = false ∧
      s.pr.faulty = false ∧ due s s.pr.cfgAt (secT 1) = true ∧ s.pr.waitUntil = none ∧ lowerSerial s = true ∧ s.pr.wireOk =
      false) ∧
    (∃ (s : State), pairActs s = true ∧ s.pr.active = false ∧ s.pr.linkOnce = false ∧ s.pr.st = .solo ∧ s.pr.left = false ∧
      s.pr.faulty = false ∧ due s s.pr.cfgAt (secT 1) = true ∧ s.pr.waitUntil = none ∧ lowerSerial s = false ∧
      s.pr.wireOk = false) ∧
    (∃ (s : State), pairActs s = true ∧ s.pr.active = false ∧ s.pr.linkOnce = false ∧ s.pr.st = .solo ∧ s.pr.left = false ∧
      s.pr.faulty = false ∧ due s s.pr.cfgAt (secT 1) = true ∧ s.pr.waitUntil = none ∧ s.pr.wireOk = true ∧ s.pr.wireCode =
      1) :=
  ⟨⟨standby id, 1, by decide⟩,
   ⟨standby (fun p => { p with lanes := 1#2 }), by decide⟩,
   ⟨standby id, 3300, by decide⟩,
   ⟨standby id, by decide⟩,
   ⟨standby (fun p => { p with lanes := 0#2 }), by decide⟩,
   ⟨{ standby id with pads := { (standby id).pads with bindIn := true } }, by decide⟩,
   ⟨standby id, by decide⟩,
   ⟨{ standby id with pads := { (standby id).pads with bindOut := true } }, by decide⟩,
   ⟨standby (fun p => { p with bindDiff := some 0 }), 0, by decide⟩,
   ⟨0, leads (fun p => { p with activeAt := some 0 }), by decide⟩,
   ⟨starts id lane, by decide⟩,
   ⟨starts id lane1, by decide⟩,
   ⟨starts (fun p => { p with wireOk := true, wireCode := 1 }) lane, by decide⟩⟩

/-- Hypotheses of `PairRoleRowsComplete`. -/
theorem witness_PairRoleRowsComplete :
    (∃ (snap : Snap) (s : State), running s = true ∧ s.pr.st = .joining ∧ s.pr.active = false ∧ s.pr.joinPhase = 1 ∧
      snap.wave = s.pr.w0) ∧
    (∃ (s : State), running s = true ∧ s.pr.st = .joining ∧ s.pr.active = false ∧ s.pr.joinPhase = 2 ∧ caughtUp s = true ∧
      s.pr.migrating = false) ∧
    (∃ (s : State), running s = true ∧ s.pr.st = .joining ∧ s.pr.active = false ∧ s.pr.joinPhase = 2 ∧ caughtUp s = true ∧
      s.pr.migrating = true) ∧
    (∃ (a : Nat) (s : State), s.pr.st = .joining ∧ s.pr.joinAt = some a) ∧
    (∃ (a : Nat) (s : State), s.pr.st = .joining ∧ s.pr.joinAt = some a ∧ due s a (joinTimeout s) = true) ∧
    (∃ (a : Nat) (s : State), s.pr.failAt = some a ∧ due s a (secT 10) = true ∧ s.pr.lanes ≠ 3#2) ∧
    (∃ (a : Nat) (s : State), s.pr.failAt = some a ∧ due s a (secT 10) = true ∧
      mayJoin { s with pr := { s.pr with failAt := none } } = true ∧ s.pr.partnerMark = watermark s) ∧
    (∃ (s : State), s.pr.migrating = true ∧ s.pr.st = .joining ∧ s.pr.ready = false ∧ s.pr.joinPhase = 3 ∧
      due s s.pr.migAt (msT (pv s 0x0D05 0 0 2 2000)) = true) ∧
    (∃ (item : Nat) (s : State), running s = true ∧ s.pr.st = .twin ∧ s.pr.verdict = none ∧ s.pr.lanes ≠ 0#2 ∧ item ≠ 0 ∧
      s.pr.active = false) ∧
    (∃ (cause : Nat) (other : Nat) (w : Nat) (s : State), s.pr.verdict.isSome = true ∧ s.pr.divLast = (cause, 0, other,
      w) ∧ other = 0) ∧
    (∃ (pass : Bool) (cause : Nat) (other : Nat) (w : Nat) (s : State), s.pr.verdict.isSome = true ∧ s.pr.divLast = (cause,
      0, other, w) ∧ other = 2 ∧ verdictOwn pass s = true ∧ s.pr.active = true ∧ s.pr.st = .twin ∧ s.pr.hand = none) :=
  ⟨⟨{ (default : Snap) with wave := 9 }, joins 1 (fun p => { p with w0 := 9 }), by decide⟩,
   ⟨joins 2 id, by decide⟩,
   ⟨joins 2 (fun p => { p with migrating := true }), by decide⟩,
   ⟨0, joins 2 id, by decide⟩,
   ⟨0, joins 2 id, by decide⟩,
   ⟨0, lane (fun p => { p with failAt := some 0 }), by decide⟩,
   ⟨0, lane (fun p => { p with st := .solo, failAt := some 0, lanes := 3#2, hello := true, wireOk := true, partnerActive := true, td2Err := some 5, partnerMark := zeros 8 }), by decide⟩,
   ⟨joins 3 (fun p => { p with migrating := true }), by decide⟩,
   ⟨1, standby id, by decide⟩,
   ⟨2, 0, 9, standby (fun p => { p with verdict := some (0, 0), divLast := (2, 0, 0, 9) }), by decide⟩,
   ⟨true, 2, 2, 9, leads (fun p => { p with verdict := some (0, 0), divLast := (2, 0, 2, 9) }), by decide⟩⟩

/-- Hypotheses of `PairCommandRowsComplete`. -/
theorem witness_PairCommandRowsComplete :
    (∃ (s : State), running s = true ∧ releaseDue s = true ∧ s.pr.st = .twin ∧ s.pr.hand = some ((s.acq.wave + 1) % 2 ^ 32,
      6) ∧ s.pr.handX = [] ∧ s.pr.active = true ∧ s.pr.handOk = true) ∧
    (∃ (s : State), running s = true ∧ releaseDue s = true ∧ s.pr.st = .twin ∧ s.pr.hand = some ((s.acq.wave + 1) % 2 ^ 32,
      6) ∧ s.pr.handX = [] ∧ s.pr.active = true ∧ s.pr.handOk = false) ∧
    (∃ (s : State), running s = true ∧ releaseDue s = true ∧ s.pr.st = .twin ∧ s.pr.hand = some ((s.acq.wave + 1) % 2 ^ 32,
      6) ∧ s.pr.handX = [] ∧ s.pr.active = false) ∧
    (∃ (r : Req) (dwell : Nat) (s : State), Served r 0x0080 s ∧ 1 ≤ dwell ∧ dwell ≤ 60 ∧ drillOk s = true) ∧
    (∃ (s : State), s.pr.active = true ∧ s.pr.st = .twin ∧ s.pr.drSt = 1 ∧ s.pr.hand = none ∧ due s s.pr.drAt (msT 1) =
      true ∧ ((drillChecks s).1 ≠ 0 ∨ due s s.pr.drAt (secT s.pr.drDwell) = true)) ∧
    (∃ (s : State), pairActs s = true ∧ pv s 0x0D04 0 0 2 30 ≠ 0 ∧ s.pr.dueDay ≠ some (secOf (td1 s) / 86400) ∧
      s.pr.drillT + 86400 * pv s 0x0D04 0 0 2 30 < secOf (td1 s)) ∧
    (∃ (r : Req) (s : State), Served r 0x0081 s ∧ pairActs s = true ∧ s.pr.faulty = true ∧ s.pr.lanes ≠ 3#2) ∧
    (∃ (r : Req) (s : State), Served r 0x0081 s ∧ pairActs s = true ∧ s.pr.active = true ∧ s.pr.st = .twin ∧ s.pr.hand =
      none ∧ s.pr.verdict = none ∧ s.pr.drSt = 0) ∧
    (∃ (r : Req) (s : State), Served r 0x0081 s ∧ pairActs s = true ∧ s.pr.active = false ∧ s.pr.left = false) ∧
    (∃ (r : Req) (s : State) (u : Image) (c : Image), Served r 0x0081 s ∧ pairActs s = true ∧ s.img.next = some u ∧
      s.img.cur = some c ∧ s.pr.active = false ∧ s.pr.faulty = false ∧ s.img.pendStatus = 0 ∧ samePair u c = true ∧
      s.pr.partnerActive = true ∧ s.pr.lanes ≠ 0#2 ∧ s.pr.st = .solo) :=
  ⟨⟨leads (fun p => { p with hand := some (1, 6), handOk := true }), by decide⟩,
   ⟨leads (fun p => { p with hand := some (1, 6) }), by decide⟩,
   ⟨standby (fun p => { p with hand := some (1, 6) }), by decide⟩,
   ⟨rq, 60, leads id, by decide⟩,
   ⟨leads (fun p => { p with drSt := 1, drDwell := 1 }), by decide⟩,
   ⟨{ leads id with tu := { (leads id).tu with d1 := { (leads id).tu.d1 with t := secT 2592001 } } }, by decide⟩,
   ⟨rq, lane (fun p => { p with faulty := true }), by decide⟩,
   ⟨rq, leads id, by decide⟩,
   ⟨rq, standby id, by decide⟩,
   ⟨rq, prepared (lane (fun p => { p with st := .solo, lanes := 1#2, partnerActive := true })),
     { (default : Image) with params := [⟨0x0D01, 0, [1#8]⟩, ⟨0x0D02, 0, zeros 8⟩, ⟨0x0D02, 1, 1#8 :: zeros 7⟩] },
     { (default : Image) with params := [⟨0x0D01, 0, [1#8]⟩, ⟨0x0D02, 0, zeros 8⟩, ⟨0x0D02, 1, 1#8 :: zeros 7⟩] },
     by decide⟩⟩

/-- Hypotheses of `HostTransportRowsComplete`. -/
theorem witness_HostTransportRowsComplete :
    (∃ (b : List Byte) (s : State), takesPackets .hpi s = true ∧ b.length < 16) ∧
    (∃ (b : List Byte) (s : State) (len : Nat) (x : Session), takesPackets .hpi s = true ∧ len = leAt b 10 2 ∧
      20 + len ≤ b.length ∧ (crc32 (b.take (16 + len))).toNat = leAt b (16 + len) 4 ∧ leAt b 0 1 = 1 ∧
      knownOp (leAt b 2 2) = true ∧ len ≤ 4096 ∧ lenOk (leAt b 2 2) (bytesAt b 16 len) = true ∧ leAt b 8 2 ≠ 0 ∧
      findSession s ⟨.hpi, leAt b 8 2, leAt b 4 4⟩ = some x ∧ reqClass (leAt b 2 2) (bytesAt b 16 len) = 0 ∧
      hasCredit x 0 = true ∧ getFld (leAt b 1 1) 2 2 = 0 ∧ s.cmd.step ≠ 3) ∧
    (∃ (p : Packet) (rest : List Packet) (s : State), s.cmd.out = p :: rest ∧ p.transport = .hpi) ∧
    (∃ (frame : List Byte) (s : State), s.cmd.uart = [] ∧ frame ≠ [] ∧ ((∀ b, b ∈ frame → b ≠ 0xC0#8))) ∧
    (∃ (s : State), s.cmd.uart ≠ []) ∧
    (∃ (r : Req) (s : State), Served r 0x00C0 s) ∧
    (∃ (r : Req) (period : Nat) (addrs : List Nat) (s : State), Served r 0x00C0 s ∧ 10 ≤ period ∧ period ≤ 10000 ∧
      addrs ≠ [] ∧ addrs.length ≤ 64 ∧ addrs.any (regAbsent s) = false) ∧
    (∃ (session : Nat) (period : Nat) (addrs : List Nat) (x : Session) (s : State),
      s.cmd.sessions.find? (fun (y : Session) => y.num == session) = some x ∧ x.diag = some (period, addrs) ∧
      due s x.diagAt (msT period) = true ∧ s.cmd.step = 0) ∧
    (∃ (mean : Nat) (s : State), s.cmd.step = 0 ∧ 8000 ≤ mean) ∧
    (∃ (core : Nat) (s : State), running s = true ∧ core < 4 ∧ s.cmd.restarting = none) ∧
    (∃ (core : Nat) (s : State), s.cmd.restarting = some core) ∧
    (∃ (session : Nat) (x : Session) (s : State), s.cmd.sessions.find? (fun (y : Session) => y.num == session) = some x ∧
      x.transport = .net ∧ pv s 0x1803 0 0 2 30 ≠ 0 ∧ due s x.lastUse (secT (60 * pv s 0x1803 0 0 2 30)) = true) :=
  ⟨⟨[1#8], live, by decide⟩,
   ⟨packet, hpi, 0, { sess with transport := .hpi }, by decide +kernel⟩,
   ⟨waiting, [], { live with cmd := { live.cmd with out := [waiting] } }, by decide⟩,
   ⟨[1#8, 0xDB#8], live, by decide⟩,
   ⟨{ live with cmd := { live.cmd with uart := [0xC0#8] } }, by decide⟩,
   ⟨rq, live, by decide⟩,
   ⟨rq, 10000, [4], live, by decide⟩,
   ⟨1, 10, [4], { sess with diag := some (10, [4]) },
     atSec 1 { live with cmd := { live.cmd with sessions := [{ sess with diag := some (10, [4]) }] } }, by decide⟩,
   ⟨8000, live, by decide⟩,
   ⟨3, live, by decide⟩,
   ⟨3, { live with cmd := { live.cmd with restarting := some 3 } }, by decide⟩,
   ⟨1, { sess with transport := .net },
     atSec 1800 { live with cmd := { live.cmd with sessions := [{ sess with transport := .net }] } }, by decide⟩⟩

/-- Hypotheses of `InjectionAndHealthRowsComplete`. -/
theorem witness_InjectionAndHealthRowsComplete :
    (∃ (r : Req) (s : State), Served r 0x00B0 s) ∧
    (∃ (r : Req) (s : State) (m : Nat), Served r 0x00B0 s ∧ m ≤ 9) ∧
    (∃ (r : Req) (s : State) (body : List Byte) (slot : Nat), Served r 0x0090 s ∧
      injRefusal (leAt body 0 1) (leAt body 1 1) (leAt body 2 1) (leAt body 4 4) (leAt body 8 4) s = none ∧
      (List.range 8).find? (fun k => !s.hlt.inj.any (fun (x : Inj) => x.slot == k)) = some slot) ∧
    (∃ (r : Req) (s : State), Served r 0x0091 s ∧ ¬ (s.pr.st = .twin ∧ s.pr.active = true)) ∧
    (∃ (r : Req) (s : State), Served r 0x0091 s ∧ s.pr.st = .twin ∧ s.pr.active = true) ∧
    (∃ (slot : Nat) (j : Inj) (s : State), s.hlt.inj.find? (fun (x : Inj) => x.slot == slot && x.applied) = some j ∧
      j.mode ≠ 0 ∧ due s j.since (msT j.durMs) = true ∧ j.mode = 1) ∧
    (∃ (slot : Nat) (j : Inj) (s : State), s.hlt.inj.find? (fun (x : Inj) => x.slot == slot && x.applied) = some j ∧
      j.mode ≠ 0 ∧ due s j.since (msT j.durMs) = true ∧ j.mode = 2 ∧ j.forever = true) ∧
    (∃ (slot : Nat) (j : Inj) (s : State), s.hlt.inj.find? (fun (x : Inj) => x.slot == slot && !x.applied) = some j ∧
      j.mode = 2 ∧ j.since ≠ 0 ∧ due s j.since (msT j.perMs) = true ∧ actsAtOnce j.det = false) ∧
    (∃ (det : Nat) (a : Nat) (s : State), (det, a) ∈ s.hlt.momentary ∧ due s a (secT 1) = true) :=
  ⟨⟨rq, live, by decide⟩,
   ⟨rq, live, 9, by decide⟩,
   ⟨rq, alone, [4#8, 1#8, 0#8, 0#8, 100#8] ++ zeros 11, 0, by decide⟩,
   ⟨rq, alone, by decide⟩,
   ⟨rq, leads id, by decide⟩,
   ⟨0, ⟨0, 4, 1, 0, 100, 0, 0, false, 1, true, 0⟩, injected ⟨0, 4, 1, 0, 100, 0, 0, false, 1, true, 0⟩, by decide⟩,
   ⟨0, ⟨0, 4, 2, 0, 100, 300, 0, true, 1, true, 0⟩, injected ⟨0, 4, 2, 0, 100, 300, 0, true, 1, true, 0⟩, by decide⟩,
   ⟨0, ⟨0, 7, 2, 0, 100, 300, 5, false, 1, false, 1⟩, injected ⟨0, 7, 2, 0, 100, 300, 5, false, 1, false, 1⟩, by decide⟩,
   ⟨0x0B, 0, atSec 1 { live with hlt := { live.hlt with momentary := [(0x0B, 0), (0x09, 0)] } }, by decide⟩⟩

/-- Hypotheses of `MonitorAndErrorRowsComplete`. -/
theorem witness_MonitorAndErrorRowsComplete :
    (∃ (s : State), running s = true ∧ due s s.hlt.sampleAt (secT 86400) = true) ∧
    (∃ (s : State) (temp : Nat), running s = true ∧ injOn s 0x23 0 = false ∧ 1200 < temp ∧ temp ≤ 1300 ∧ s.hlt.dieHigh =
      0) ∧
    (∃ (s : State) (temp : Nat), running s = true ∧ injOn s 0x23 0 = false ∧ temp < 1150 ∧ s.hlt.dieHigh = 1) ∧
    (∃ (s : State), running s = true) ∧
    (∃ (s : State), firmwareUp s = true) ∧
    (∃ (s : State), firmwareUp s = true) ∧
    (∃ (s : State), firmwareUp s = true ∧ s.le.sec.isSome = true) ∧
    (∃ (s : State), firmwareUp s = true) ∧
    (∃ (s : State) (copies : Nat), firmwareUp s = true ∧ 2 ≤ copies) :=
  ⟨⟨atSec 86400 live, by decide⟩,
   ⟨live, 1201, by decide⟩,
   ⟨{ live with hlt := { live.hlt with dieHigh := 1, active := [(0x23, 0)] } }, 1149, by decide⟩,
   ⟨live, by decide⟩,
   ⟨live, by decide⟩,
   ⟨live, by decide⟩,
   ⟨runs1, by decide⟩,
   ⟨live, by decide⟩,
   ⟨live, 3, by decide⟩⟩

/-- Hypotheses of `HirqIsLowWhilePacketsWait`. -/
theorem witness_HirqIsLowWhilePacketsWait :
    (∃ (s : State), HirqTold s) :=
  ⟨State.reset, by unfold HirqTold; decide⟩

/-- Hypotheses of `TimestampHoldsTheInstant`. -/
theorem witness_TimestampHoldsTheInstant :
    (∃ (t : Nat), secOf t < 2 ^ 48) :=
  ⟨999999999999 * 2 ^ 40 + 77, by decide⟩

/-- Hypotheses of `InstructionWordsKeepTheirFields`. -/
theorem witness_InstructionWordsKeepTheirFields :
    (∃ (op : Nat) (sp : Nat) (a : Nat), op < 256 ∧ sp < 16 ∧ a < 2 ^ 20) ∧
    (∃ (op : Nat) (sp : Nat) (a : Nat) (op' : Nat) (sp' : Nat) (a' : Nat), op < 256 ∧ sp < 16 ∧ a < 2 ^ 20 ∧ op' < 256 ∧
      sp' < 16 ∧ a' < 2 ^ 20 ∧ instrWord op sp a = instrWord op' sp' a') :=
  ⟨⟨255, 15, 0xFFFFF, by decide⟩,
   ⟨255, 15, 0xFFFFF, 255, 15, 0xFFFFF, by decide⟩⟩

/-- Hypotheses of `LargeGlideErrorFreesTd1`. -/
theorem witness_LargeGlideErrorFreesTd1 :
    (∃ (dTemp : Nat) (s : State), s.tu.d1.qst = .glide ∧ msT 100 < glideError s dTemp) ∧
    (∃ (dTemp : Nat) (s : State), s.tu.d1.qst = .glide ∧ glideError s dTemp ≤ msT 100) :=
  ⟨⟨100000, atSec 100000000 (glide 1), by decide⟩,
   ⟨0, atSec 0 (glide 1), by decide⟩⟩

/-- Hypotheses of `OnlyEngineerMovesTheLogicEngine`. -/
theorem witness_OnlyEngineerMovesTheLogicEngine :
    (∃ (r : Req) (s : State) (code : Nat) (option : Nat) (entries : List (Nat × Nat)) (mark : List Byte)
      (forces : List Byte) (options : Nat) (value : Nat) (c : Instr), ((∀ x, findSession s r = some x → hasRole x 2 =
      false)) ∧ c ∈ [Instr.leMode r code, .leStep r option, .leBreakSet r entries, .leChange r mark forces options,
      .brkHitClear r, .lePeekSelWrite r value]) :=
  ⟨rq, noSession, 2, 0, [], [], [], 0, 0, Instr.leMode rq 2, by decide⟩

/-- Hypotheses of `RefusedRequestsHaveNoEffect`. -/
theorem witness_RefusedRequestsHaveNoEffect :
    (∃ (r : Req) (n : Nat) (a : Nat) (b : Nat) (d : Nat) (e : Nat) (off : Int) (bytes : List Byte) (bytes' : List Byte)
      (es : List (Nat × Nat)) (as : List Nat) (ws : List Word) (m : Word) (v : Word) (lv : LaunchVal) (s : State)
      (st : Status) (c : Instr × Nat), c ∈ [(Instr.sessionOpen r n a b bytes, 0x0001), (.sessionClose r, 0x0002),
      (.regRead r n a, 0x0010), (.regWrite r n ws, 0x0011), (.regModify r n m v, 0x0012), (.imgBegin r n, 0x0020),
      (.imgData r n bytes, 0x0021), (.imgCommit r, 0x0022), (.imgActivate r n, 0x0023), (.imgStatus r, 0x0024),
      (.groupSelect r n, 0x0025), (.fwBegin r n a, 0x0028), (.fwData r n bytes, 0x0029), (.fwCommit r, 0x002A),
      (.leStep r n, 0x0031), (.leBreakSet r es, 0x0032), (.leChange r bytes bytes' n, 0x0033), (.forceSet r n a, 0x0034),
      (.forceClear r n, 0x0035), (.forceList r n, 0x0036), (.upcUrgent r n a b d e, 0x0041), (.jobSubmit r n bytes,
      0x0042), (.tbRead r n, 0x0050), (.tbSetInc r n a, 0x0051), (.tbSlew r n a b, 0x0052), (.tbStep r n a off, 0x0053),
      (.launchArm r n lv, 0x0054), (.launchCancel r n, 0x0055), (.drArm r n, 0x0060), (.drTrigger r n, 0x0061),
      (.drList r n a, 0x0062), (.drRead r n a b, 0x0063), (.evrRead r n a b, 0x0070), (.evrFreeze r, 0x0071), (.evrThaw r,
      0x0072), (.pairDrill r n, 0x0080), (.pairRelease r n, 0x0081), (.injArm r bytes, 0x0090), (.injClear r n, 0x0091),
      (.attest r bytes, 0x00A0), (.keyInstall r bytes, 0x00A1), (.keyList r, 0x00A2), (.healthRead r n, 0x00B0),
      (.diagStream r n as, 0x00C0)] ∧ waits r (isUrgent c.2) s = false ∧ precheck r c.2 (isUrgent c.2) (roleOf c.2) s =
      some st) :=
  ⟨rq, 5, 0, 0, 0, 0, 0, [], [], [], [], [], 0#32, 0#32, default, noSession, .denied, (Instr.keyList rq, 0x00A2), by decide⟩

/-- Hypotheses of `AbsentProcessChannelsAnswerAbsent`. -/
theorem witness_AbsentProcessChannelsAnswerAbsent :
    (∃ (s : State) (a : Nat), s.code = .e ∧ 0x60000 ≤ a ∧ a < 0x70000 ∧ a % 4 = 0) ∧
    (∃ (r : Req) (s : State) (a : Nat), s.code = .e ∧ 0x60000 ≤ a ∧ a < 0x70000 ∧ a % 4 = 0 ∧ r.session ≠ 0 ∧ s.pw.phase =
      .running ∧ Served r 0x0010 s) ∧
    (∃ (r : Req) (s : State) (a : Nat), s.code = .e ∧ 0x60000 ≤ a ∧ a < 0x70000 ∧ a % 4 = 0 ∧ Served r 0x0011 s) ∧
    (∃ (r : Req) (s : State), s.code = .e ∧ Served r 0x0041 s) ∧
    (∃ (r : Req) (s : State), s.code = .e ∧ waits r false s = false ∧ precheck r 0x0040 false (some 1) s = none) ∧
    (∃ (s : State), s.code = .e) :=
  ⟨⟨codeE, 0x60000, by decide⟩,
   ⟨rq, codeE, 0x6FFFC, by decide⟩,
   ⟨rq, codeE, 0x60000, by decide⟩,
   ⟨rq, codeE, by decide⟩,
   ⟨rq, codeE, by decide⟩,
   ⟨codeE, by decide⟩⟩

end Sys2Proof.Tests
end

section
/-! PROOFS. Every step completes, takes one command and keeps the ordering code (R1, R588): one lemma for each operation and row
that Laws/Kept.lean and Laws/KeptRows.lean do not cover, then the case split over the table. -/

namespace Sys2Proof.Machine
open Sys2Proof

/-- The queue of waiting commands and the ordering code. -/
def queueCode (s : State) : List Instr × Code := (s.pending, s.code)

@[simp] theorem queueCode_fold (s : State) : (s.pending, s.code) = queueCode s := rfl

@[simp] theorem queueCode_mk (code pw pads fl boot img tu acq gr le rio fio upc dr evr pr net cmd sec hlt pending) :
    queueCode (State.mk code pw pads fl boot img tu acq gr le rio fio upc dr evr pr net cmd sec hlt pending) =
      (pending, code) := rfl

@[simp] theorem queueCode_ite (c : Prop) [Decidable c] (a b : State) :
    queueCode (if c then a else b) = if c then queueCode a else queueCode b := by
  split <;> rfl

theorem queueCode_of_kept {s t : State} (h : kept t = kept s) : queueCode t = queueCode s := by
  have hq : t.pending = s.pending := congrArg Prod.fst h
  have hc : t.code = s.code := congrArg (fun k => k.2.1) h
  rw [queueCode, queueCode, hq, hc]

theorem queueCode_foldl {α : Type} (g : State → α → State) (l : List α) (s : State)
    (h : ∀ s a, queueCode (g s a) = queueCode s) : queueCode (l.foldl g s) = queueCode s := by
  induction l generalizing s with
  | nil => rfl
  | cons a l ih => rw [List.foldl_cons, ih, h]

theorem serve_queueCode (r : Req) (op : Nat) (s : State) (f : State → State)
    (h : ∀ s, queueCode (f s) = queueCode s) : queueCode (serve r op s f) = queueCode s := by
  unfold serve serveAs
  repeat' split
  · rfl
  · exact queueCode_of_kept (respondTo_kept _ _ _ _ _ _ _)
  · exact h s

/-! Operations of Laws/Kept.lean that many of the proofs below meet. -/

@[simp] theorem submit_queueCode (b : Block) (code value : Nat) (s : State) : queueCode (submit b code value s) = queueCode s :=
  queueCode_of_kept (submit_kept ..)

@[simp] theorem answer_queueCode (r : Req) (op : Nat) (st : Status) (s : State) : queueCode (answer r op st s) = queueCode s :=
  queueCode_of_kept (answer_kept ..)

@[simp] theorem refreshPads_queueCode (s : State) : queueCode (refreshPads s) = queueCode s :=
  queueCode_of_kept (refreshPads_kept ..)

@[simp] theorem putBucket_queueCode (b : Bucket) (depth : Nat) (s : State) : queueCode (putBucket b depth s) = queueCode s :=
  queueCode_of_kept (putBucket_kept ..)

@[simp] theorem recEvent_queueCode (e : Event) (s : State) : queueCode (recEvent e s) = queueCode s :=
  queueCode_of_kept (recEvent_kept ..)

@[simp] theorem commitAll_queueCode (s : State) : queueCode (commitAll s) = queueCode s :=
  queueCode_of_kept (commitAll_kept ..)

@[simp] theorem beginCommit_queueCode (commit : Bool) (s : State) : queueCode (beginCommit commit s) = queueCode s :=
  queueCode_of_kept (beginCommit_kept ..)

@[simp] theorem activated_queueCode (req : Option Req) (cls w : Nat) (s : State) :
    queueCode (activated req cls w s) = queueCode s :=
  queueCode_of_kept (activated_kept ..)

@[simp] theorem loadUnits_queueCode (old : List ChanEntry) (s : State) : queueCode (loadUnits old s) = queueCode s :=
  queueCode_of_kept (loadUnits_kept ..)

@[simp] theorem fireDetFree_queueCode (d : Nat) (s : State) : queueCode (fireDetFree d s) = queueCode s :=
  queueCode_of_kept (fireDetFree_kept ..)

@[simp] theorem respond_queueCode (r : Req) (op : Nat) (st : Status) (more : Bool) (payload : List Byte) (s : State) :
    queueCode (respond r op st more payload s) = queueCode s :=
  queueCode_of_kept (respond_kept ..)

/-! Operations that enter records, change keys and counters or restart the engine, in the order of the model's files. -/

@[simp] theorem enterRecs_queueCode (parent : Rec) (parts : List (List Byte)) (s : State) :
    queueCode (enterRecs parent parts s) = queueCode s := by
  simp [enterRecs, queueCode_of_kept (commitTrigger_kept ..), queueCode_of_kept (thaw_kept ..),
    queueCode_of_kept (notify_kept ..)]

@[simp] theorem summaryRec_queueCode (kind code count : Nat) (first : Nat × Nat × Nat) (last : Nat × Nat) (s : State) :
    queueCode (summaryRec kind code count first last s) = queueCode s := by
  simp [summaryRec]

@[simp] theorem writeLost_queueCode (s : State) : queueCode (writeLost s) = queueCode s := by
  simp [writeLost, queueCode_foldl]

@[simp] theorem suppressedRecord_queueCode (code depth : Nat) (s : State) :
    queueCode (suppressedRecord code depth s) = queueCode s := by
  simp [suppressedRecord]

@[simp] theorem refill_queueCode (code depth periodMs : Nat) (s : State) :
    queueCode (refill code depth periodMs s) = queueCode s := by
  simp [refill]

@[simp] theorem takeToken_queueCode (e : Event) (s : State) : queueCode (takeToken e s).2 = queueCode s := by
  dsimp only [takeToken]
  repeat' split
  all_goals simp

@[simp] theorem enterEvent_queueCode (e : Event) (s : State) : queueCode (enterEvent e s) = queueCode s := by
  unfold enterEvent
  simp [queueCode_of_kept (dropEvent_kept ..), queueCode_of_kept (commitTrigger_kept ..)]

@[simp] theorem eventEntry_queueCode (s : State) : queueCode (eventEntry s) = queueCode s := by
  unfold eventEntry
  repeat' split
  all_goals simp

@[simp] theorem pageComplete_queueCode (s : State) : queueCode (pageComplete s) = queueCode s := by
  simp [pageComplete, queueCode_of_kept (commitPage_kept ..)]

@[simp] theorem auditFirst_queueCode (b : Block) (session code value : Nat) (parts : List (List Byte)) (s : State) :
    queueCode (auditFirst b session code value parts s) = queueCode s := by
  simp [auditFirst, queueCode_of_kept (emit_kept ..)]

@[simp] theorem evrStart_queueCode (s : State) : queueCode (evrStart s) = queueCode s := by
  simp [evrStart, queueCode_foldl]

@[simp] theorem authFail_queueCode (cause : Nat) (t : Transport) (s : State) :
    queueCode (authFail cause t s) = queueCode s := by
  simp [authFail]

@[simp] theorem tlsHandshake_queueCode (conn : Nat) (c : TlsClient) (s : State) :
    queueCode (tlsHandshake conn c s) = queueCode s := by
  simp [tlsHandshake]

@[simp] theorem updCert_queueCode (s : State) : queueCode (updCert s) = queueCode s := by
  simp [updCert]

@[simp] theorem openHostKey_queueCode (r : Req) (roles options : Nat) (auth : List Byte) (s : State) :
    queueCode (openHostKey r roles options auth s) = queueCode s := by
  dsimp only [openHostKey]
  repeat' split
  all_goals simp [queueCode_of_kept (openSession_kept ..)]

@[simp] theorem sessionOpen_queueCode (r : Req) (method roles options : Nat) (auth : List Byte) (s : State) :
    queueCode (sessionOpen r method roles options auth s) = queueCode s := by
  unfold sessionOpen
  refine serve_queueCode _ _ _ _ fun s => ?_
  repeat' split
  all_goals simp [queueCode_of_kept (openSession_kept ..)]

@[simp] theorem changeKey_queueCode (type slot op : Nat) (body : List Byte) (s : State) :
    queueCode (changeKey type slot op body s) = queueCode s := by
  simp [changeKey, queueCode_foldl, queueCode_of_kept (closeSession_kept ..)]

@[simp] theorem keyInstall_queueCode (r : Req) (body : List Byte) (s : State) :
    queueCode (keyInstall r body s) = queueCode s := by
  unfold keyInstall
  refine serve_queueCode _ _ _ _ fun s => ?_
  repeat' split
  all_goals simp

@[simp] theorem limitsChange_queueCode (b : List Param) (s : State) : queueCode (limitsChange b s) = queueCode s := by
  simp [limitsChange, queueCode_foldl]

@[simp] theorem applyImage_queueCode (u : Image) (s : State) : queueCode (applyImage u s) = queueCode s := by
  simp [applyImage, queueCode_of_kept (groupAfter_kept ..), queueCode_of_kept (resetElements_kept ..),
    queueCode_of_kept (loadRows_kept ..), queueCode_of_kept (channelsChange_kept ..),
    queueCode_of_kept (launchesChange_kept ..), queueCode_of_kept (loadProcess_kept ..),
    queueCode_of_kept (restartPasses_kept ..), queueCode_of_kept (recMark_kept ..), queueCode_of_kept (recFlags_kept ..),
    queueCode_of_kept (figuresRestart_kept ..)]

@[simp] theorem powerUp_queueCode (cause : Nat) (s : State) : queueCode (powerUp cause s) = queueCode s := by
  simp [powerUp]

@[simp] theorem secRegion_queueCode (copies : Nat) (s : State) : queueCode (secRegion copies s) = queueCode s := by
  simp [secRegion]

@[simp] theorem enterReset_queueCode (s : State) : queueCode (enterReset s) = queueCode s := by
  simp [enterReset, queueCode_of_kept (outputsOff_kept ..)]

@[simp] theorem halt_queueCode (s : State) : queueCode (halt s) = queueCode s := by
  simp [halt]

@[simp] theorem flushEnds_queueCode (s : State) : queueCode (flushEnds s) = queueCode s := by
  simp [flushEnds, queueCode_of_kept (structuralOff_kept ..)]

@[simp] theorem endFlush_queueCode (done : Bool) (s : State) : queueCode (endFlush done s) = queueCode s := by
  simp [endFlush, queueCode_of_kept (startFlush_kept ..), queueCode_of_kept (drRecover_kept ..)]

@[simp] theorem finalPage_queueCode (s : State) : queueCode (finalPage s) = queueCode s := by
  simp [finalPage]

@[simp] theorem flushWrites_queueCode (step : Nat) (s : State) : queueCode (flushWrites step s) = queueCode s := by
  unfold flushWrites
  repeat' split
  all_goals simp [queueCode_foldl, queueCode_of_kept (writeRetain_kept ..), queueCode_of_kept (commitPage_kept ..),
    queueCode_of_kept (drPowerFail_kept ..), queueCode_of_kept (drainAll_kept ..)]

@[simp] theorem takeReset_queueCode (jtag : Bool) (s : State) : queueCode (takeReset jtag s) = queueCode s := by
  unfold takeReset
  repeat' split
  all_goals simp [queueCode_of_kept (callFlush_kept ..)]

@[simp] theorem activateNow_queueCode (cls : Nat) (commit : Bool) (req : Option Req) (w : Nat) (s : State) :
    queueCode (activateNow cls commit req w s) = queueCode s := by
  unfold activateNow
  repeat' split
  all_goals simp

@[simp] theorem changeWaveNow_queueCode (w : Nat) (s : State) : queueCode (changeWaveNow w s) = queueCode s := by
  unfold changeWaveNow
  repeat' split
  all_goals simp

@[simp] theorem applyForceSet_queueCode (point value session : Nat) (s : State) :
    queueCode (applyForceSet point value session s) = queueCode s := by
  simp [applyForceSet]

@[simp] theorem runStaged_queueCode (u : Image) (s : State) : queueCode (runStaged u s) = queueCode s := by
  simp [runStaged]

@[simp] theorem releaseMigrate_queueCode (r : Req) (s : State) : queueCode (releaseMigrate r s) = queueCode s := by
  unfold releaseMigrate
  repeat' split
  all_goals simp [queueCode_of_kept (startJoin_kept ..), queueCode_of_kept (tryJoin_kept ..)]

@[simp] theorem condition_queueCode (d t : Nat) (s : State) : queueCode (condition d t s) = queueCode s := by
  unfold condition
  repeat' split
  all_goals simp [queueCode_of_kept (execSampleLoopUnlock_kept ..), queueCode_of_kept (srcLost_kept ..),
    queueCode_of_kept (applyStep_kept ..), queueCode_of_kept (laneLoss_kept ..), queueCode_of_kept (updPort_kept ..),
    queueCode_of_kept (execVmainLow_kept ..), queueCode_of_kept (diagBegin_kept ..)]

@[simp] theorem injBegin_queueCode (j : Inj) (s : State) : queueCode (injBegin j s) = queueCode s := by
  unfold injBegin
  simp [queueCode_of_kept (endInj_kept ..)]

@[simp] theorem applyInj_queueCode (v : List Nat) (s : State) : queueCode (applyInj v s) = queueCode s := by
  unfold applyInj
  repeat' split
  all_goals simp

@[simp] theorem forceAt_queueCode (v : List Nat) (s : State) : queueCode (forceAt v s) = queueCode s := by
  unfold forceAt
  repeat' split
  all_goals simp [queueCode_of_kept (applyForceClear_kept ..)]

@[simp] theorem applySched_queueCode (n code : Nat) (v : List Nat) (s : State) :
    queueCode (applySched n code v s) = queueCode s := by
  unfold applySched
  repeat' split
  all_goals simp [queueCode_of_kept (applyMode_kept ..), queueCode_of_kept (armNamed_kept ..),
    queueCode_of_kept (cancelLaunch_kept ..), queueCode_of_kept (applyArm_kept ..), queueCode_of_kept (askManual_kept ..),
    queueCode_of_kept (setXchk_kept ..), queueCode_of_kept (overrunAt_kept ..), queueCode_of_kept (applyWatchdog_kept ..),
    queueCode_of_kept (endInj_kept ..), queueCode_of_kept (applyPmu_kept ..)]

@[simp] theorem schedAt_queueCode (n : Nat) (s : State) : queueCode (schedAt n s) = queueCode s := by
  unfold schedAt
  simp [queueCode_foldl]

@[simp] theorem effectsAt_queueCode (n : Nat) (s : State) : queueCode (effectsAt n s) = queueCode s := by
  simp [effectsAt, queueCode_of_kept (startGroup_kept ..), queueCode_of_kept (groupsWave_kept ..),
    queueCode_of_kept (snapsWave_kept ..)]

@[simp] theorem releaseNext_queueCode (raw : Slices) (full : Bool) (s : State) :
    queueCode (releaseNext raw full s) = queueCode s := by
  dsimp only [releaseNext]
  repeat' split
  all_goals simp [queueCode_of_kept (handoverAt_kept ..), queueCode_of_kept (takeDi_kept ..),
    queueCode_of_kept (agreedWave_kept ..), queueCode_of_kept (ownWave_kept ..)]

/-! The rows that use them. -/

theorem execVmainGood_queueCode (s : State) : queueCode (resState s (execVmainGood s)) = queueCode s := by
  unfold execVmainGood
  repeat' split
  all_goals simp [resState_next, queueCode_of_kept (clearDetAll_kept ..)]

theorem execSelftestComplete_queueCode (failed slices : List Nat) (retain forces : Bool) (copies : Nat) (cals : List
    (Int × Int)) (s : State) :
    queueCode (resState s (execSelftestComplete failed slices retain forces copies cals s)) = queueCode s := by
  simp [execSelftestComplete, resState_next, resState_ite, queueCode_foldl, queueCode_of_kept (slicesOut_kept ..)]

theorem execImageSelect_queueCode (s : State) : queueCode (resState s (execImageSelect s)) = queueCode s := by
  unfold execImageSelect
  repeat' split
  all_goals simp [resState_next]

theorem execHoldUpStage_queueCode (s : State) : queueCode (resState s (execHoldUpStage s)) = queueCode s := by
  unfold execHoldUpStage
  repeat' split
  all_goals simp [resState_next, resState_ite, queueCode_of_kept (outputsOff_kept ..), queueCode_of_kept (callFlush_kept ..)]

theorem execFlushStepComplete_queueCode (s : State) : queueCode (resState s (execFlushStepComplete s)) = queueCode s := by
  simp [execFlushStepComplete, resState_next, resState_ite]

theorem execResetNLow_queueCode (s : State) : queueCode (resState s (execResetNLow s)) = queueCode s := by
  simp [execResetNLow, resState_next]

theorem execJtagReset_queueCode (s : State) : queueCode (resState s (execJtagReset s)) = queueCode s := by
  simp [execJtagReset, resState_next]

theorem execResetFlushTimeout_queueCode (s : State) : queueCode (resState s (execResetFlushTimeout s)) = queueCode s := by
  simp [execResetFlushTimeout, resState_next, resState_ite]

theorem execResetNRelease_queueCode (s : State) : queueCode (resState s (execResetNRelease s)) = queueCode s := by
  simp [execResetNRelease, resState_next, resState_ite]

theorem execSessionOpen_queueCode (r : Req) (method roles options : Nat) (auth : List Byte) (s : State) :
    queueCode (resState s (execSessionOpen r method roles options auth s)) = queueCode s := by
  simp [execSessionOpen, resState_next]

theorem execActivationBoundary_queueCode (s : State) : queueCode (resState s (execActivationBoundary s)) = queueCode s := by
  unfold execActivationBoundary
  repeat' split
  all_goals simp [resState_next]

theorem execStructuralConfigDone_queueCode (s : State) : queueCode (resState s (execStructuralConfigDone s)) = queueCode s := by
  unfold execStructuralConfigDone
  repeat' split
  all_goals simp [resState_next, queueCode_of_kept (groupAfter_kept ..), queueCode_of_kept (pmuChanged_kept ..),
    queueCode_of_kept (launchesChange_kept ..), queueCode_of_kept (channelsChange_kept ..),
    queueCode_of_kept (runProtection_kept ..)]

theorem execRollbackRaise_queueCode (s : State) : queueCode (resState s (execRollbackRaise s)) = queueCode s := by
  simp [execRollbackRaise, resState_next]

theorem execForceSet_queueCode (r : Req) (point value : Nat) (s : State) :
    queueCode (resState s (execForceSet r point value s)) = queueCode s := by
  unfold execForceSet
  rw [resState_next]
  refine serve_queueCode _ _ _ _ fun s => ?_
  repeat' split
  all_goals simp [queueCode_of_kept (schedTwin_kept ..)]

theorem execHeadboxWaveRelease_queueCode (raw : List RawSample) (full : Bool) (sat : BitVec 32) (s : State) :
    queueCode (resState s (execHeadboxWaveRelease raw full sat s)) = queueCode s := by
  simp [execHeadboxWaveRelease, resState_next, resState_ite]

theorem execEventEntry_queueCode (s : State) : queueCode (resState s (execEventEntry s)) = queueCode s := by
  simp [execEventEntry, resState_next]

theorem execRateRefill_queueCode (code : Nat) (s : State) : queueCode (resState s (execRateRefill code s)) = queueCode s := by
  unfold execRateRefill
  repeat' split
  all_goals simp [resState_next]

theorem execSuppressedSummary60s_queueCode (code : Nat) (s : State) :
    queueCode (resState s (execSuppressedSummary60s code s)) = queueCode s := by
  unfold execSuppressedSummary60s
  repeat' split
  all_goals simp [resState_next]

theorem execPageCommitComplete_queueCode (s : State) : queueCode (resState s (execPageCommitComplete s)) = queueCode s := by
  simp [execPageCommitComplete, resState_next]

theorem execPairRelease_queueCode (r : Req) (action : Nat) (s : State) :
    queueCode (resState s (execPairRelease r action s)) = queueCode s := by
  unfold execPairRelease
  rw [resState_next]
  refine serve_queueCode _ _ _ _ fun s => ?_
  repeat' split
  all_goals simp [queueCode_of_kept (releaseClear_kept ..), queueCode_of_kept (releaseYield_kept ..),
    queueCode_of_kept (releaseLeave_kept ..)]

theorem execTlsRecordRx_queueCode (conn : Nat) (handshake : Option TlsClient) (bytes : List Byte) (s : State) :
    queueCode (resState s (execTlsRecordRx conn handshake bytes s)) = queueCode s := by
  unfold execTlsRecordRx
  repeat' split
  all_goals simp [resState_next, queueCode_of_kept (tlsPackets_kept ..)]

theorem execAttest_queueCode (r : Req) (nonce : List Byte) (s : State) :
    queueCode (resState s (execAttest r nonce s)) = queueCode s := by
  unfold execAttest
  rw [resState_next]
  refine serve_queueCode _ _ _ _ fun s => ?_
  simp

theorem execKeyInstall_queueCode (r : Req) (body : List Byte) (s : State) :
    queueCode (resState s (execKeyInstall r body s)) = queueCode s := by
  simp [execKeyInstall, resState_next]

theorem execAuthLockoutExpiry_queueCode (transport : Transport) (s : State) :
    queueCode (resState s (execAuthLockoutExpiry transport s)) = queueCode s := by
  simp [execAuthLockoutExpiry, resState_next]

theorem execInjArm_queueCode (r : Req) (body : List Byte) (s : State) :
    queueCode (resState s (execInjArm r body s)) = queueCode s := by
  unfold execInjArm
  rw [resState_next]
  refine serve_queueCode _ _ _ _ fun s => ?_
  dsimp only
  repeat' split
  all_goals simp [queueCode_of_kept (schedTwin_kept ..)]

theorem execInjPeriodStart_queueCode (slot : Nat) (s : State) :
    queueCode (resState s (execInjPeriodStart slot s)) = queueCode s := by
  unfold execInjPeriodStart
  repeat' split
  all_goals simp [resState_next]

theorem execEccSram_queueCode (place core lo hi : Nat) (s : State) :
    queueCode (resState s (execEccSram place core lo hi s)) = queueCode s := by
  unfold execEccSram
  repeat' split
  all_goals simp [resState_next, queueCode_of_kept (execOpRetire_kept ..), queueCode_of_kept (mgmtRestart_kept ..),
    queueCode_of_kept (enterSafe_kept ..), queueCode_of_kept (sendCell_kept ..)]

theorem execEccMram_queueCode (region copies : Nat) (s : State) :
    queueCode (resState s (execEccMram region copies s)) = queueCode s := by
  unfold execEccMram
  repeat' split
  all_goals simp [resState_next]

/-! Every row answers a next state. -/

/-- A result that is a next state. -/
def Completes (r : Res) : Prop := ∃ t, r = .next t

theorem completes_next (t : State) : Completes (.next t) := ⟨t, rfl⟩

theorem completes_ite (c : Prop) [Decidable c] (a b : Res) (ha : Completes a) (hb : Completes b) :
    Completes (if c then a else b) := by
  split
  · exact ha
  · exact hb

theorem execOpRetire_completes (core cycles fault : Nat) (vals : List (Nat × Nat)) (bytes : List Byte) (s : State) :
    Completes (execOpRetire core cycles fault vals bytes s) := by
  unfold execOpRetire
  split
  all_goals exact completes_next _

/-- No command faults or is refused: most rows answer at once; the others answer in each branch of their conditions. The rows
named are those that begin with a `match`, which must stand in the goal before it is split. -/
theorem exec_completes (i : Instr) (s : State) : Completes (exec i s) := by
  cases i
  any_goals exact completes_next _
  case opRetire => exact execOpRetire_completes _ _ _ _ _ _
  case eccSram =>
    repeat' first | exact execOpRetire_completes _ _ _ _ _ _ | with_reducible exact completes_next _ | apply completes_ite |
      split
  case p2Late =>
    dsimp only [exec, execP2Late]
    split
    · exact completes_next _
    · exact completes_ite _ _ _ (completes_next _) (completes_next _)
  case holdUpStage | activationConfirmTimeout | structuralConfigDone | leChangeRefused | gridAligned | provisionalTimeout |
      svFrameRx | twLocationDone | twExchangeSend | opCycleLimit | p1Deadline | p0Deadline | freqTrackHoldExpiry |
      cyclicTaskRelease | doLaunchSwitch | mgmtRestartDone | injDurationEnd | injPeriodStart =>
    dsimp only [exec]
    delta execHoldUpStage execActivationConfirmTimeout execStructuralConfigDone execLeChangeRefused
      execGridAligned execProvisionalTimeout execSvFrameRx execTwLocationDone execTwExchangeSend execOpCycleLimit
      execP1Deadline execP0Deadline execFreqTrackHoldExpiry execCyclicTaskRelease execDoLaunchSwitch
      execMgmtRestartDone execInjDurationEnd execInjPeriodStart
    repeat' first | with_reducible exact completes_next _ | apply completes_ite | split
  all_goals
    repeat' first | with_reducible exact completes_next _ | apply completes_ite | split

theorem completes_resState (s : State) (r : Res) (h : Completes r) : r = .next (resState s r) := by
  obtain ⟨t, rfl⟩ := h
  rfl

/-- Every command keeps the queue and the ordering code, one row of the table after the other. -/
theorem exec_queueCode (i : Instr) (s : State) : queueCode (resState s (exec i s)) = queueCode s :=
  match i with
  | .vmainGood => execVmainGood_queueCode ..
  | .firmwareStart => queueCode_of_kept (execFirmwareStart_kept ..)
  | .selftestComplete _ _ _ _ _ _ => execSelftestComplete_queueCode ..
  | .imageSelect => execImageSelect_queueCode ..
  | .configurationComplete => queueCode_of_kept (execConfigurationComplete_kept ..)
  | .logicStart => queueCode_of_kept (execLogicStart_kept ..)
  | .fwBChecked => queueCode_of_kept (execFwBChecked_kept ..)
  | .storeCharged => queueCode_of_kept (execStoreCharged_kept ..)
  | .holdupMeasureDone _ _ _ => queueCode_of_kept (execHoldupMeasureDone_kept ..)
  | .storeChargeTimeout => queueCode_of_kept (execStoreChargeTimeout_kept ..)
  | .storeVoltageLow _ => queueCode_of_kept (execStoreVoltageLow_kept ..)
  | .vmainLow _ => queueCode_of_kept (execVmainLow_kept ..)
  | .pfailNLow => queueCode_of_kept (execPfailNLow_kept ..)
  | .pfailRecovered _ => queueCode_of_kept (execPfailRecovered_kept ..)
  | .holdUpStage => execHoldUpStage_queueCode ..
  | .flushStepComplete => execFlushStepComplete_queueCode ..
  | .storeCutoff _ _ => queueCode_of_kept (execStoreCutoff_kept ..)
  | .resetNLow => execResetNLow_queueCode ..
  | .jtagReset => execJtagReset_queueCode ..
  | .resetFlushTimeout => execResetFlushTimeout_queueCode ..
  | .resetNRelease => execResetNRelease_queueCode ..
  | .sessionOpen _ _ _ _ _ => execSessionOpen_queueCode ..
  | .sessionClose _ => queueCode_of_kept (execSessionClose_kept ..)
  | .regRead _ _ _ => queueCode_of_kept (execRegRead_kept ..)
  | .regWrite _ _ _ => queueCode_of_kept (execRegWrite_kept ..)
  | .regModify _ _ _ _ => queueCode_of_kept (execRegModify_kept ..)
  | .imgBegin _ _ => queueCode_of_kept (execImgBegin_kept ..)
  | .imgData _ _ _ => queueCode_of_kept (execImgData_kept ..)
  | .imgCommit _ => queueCode_of_kept (execImgCommit_kept ..)
  | .imgActivate _ _ => queueCode_of_kept (execImgActivate_kept ..)
  | .activationBoundary => execActivationBoundary_queueCode ..
  | .activationConfirmTimeout => queueCode_of_kept (execActivationConfirmTimeout_kept ..)
  | .structuralConfigDone => execStructuralConfigDone_queueCode ..
  | .schUserCommitDone _ => queueCode_of_kept (execSchUserCommitDone_kept ..)
  | .imgStatus _ => queueCode_of_kept (execImgStatus_kept ..)
  | .groupSelect _ _ => queueCode_of_kept (execGroupSelect_kept ..)
  | .fwBegin _ _ _ => queueCode_of_kept (execFwBegin_kept ..)
  | .fwData _ _ _ => queueCode_of_kept (execFwData_kept ..)
  | .fwCommit _ => queueCode_of_kept (execFwCommit_kept ..)
  | .rollbackRaise => execRollbackRaise_queueCode ..
  | .leMode _ _ => queueCode_of_kept (execLeMode_kept ..)
  | .leColdExecute => queueCode_of_kept (execLeColdExecute_kept ..)
  | .leStep _ _ => queueCode_of_kept (execLeStep_kept ..)
  | .leBreakSet _ _ => queueCode_of_kept (execLeBreakSet_kept ..)
  | .breakpoint => queueCode_of_kept (execBreakpoint_kept ..)
  | .holdTimeout => queueCode_of_kept (execHoldTimeout_kept ..)
  | .leChange _ _ _ _ => queueCode_of_kept (execLeChange_kept ..)
  | .leChangeover => queueCode_of_kept (execLeChangeover_kept ..)
  | .leChangeRefused => queueCode_of_kept (execLeChangeRefused_kept ..)
  | .forceSet _ _ _ => execForceSet_queueCode ..
  | .forceClear _ _ => queueCode_of_kept (execForceClear_kept ..)
  | .forceList _ _ => queueCode_of_kept (execForceList_kept ..)
  | .accSnap _ _ _ => queueCode_of_kept (execAccSnap_kept ..)
  | .upcUrgent _ _ _ _ _ _ => queueCode_of_kept (execUpcUrgent_kept ..)
  | .jobSubmit _ _ _ => queueCode_of_kept (execJobSubmit_kept ..)
  | .tbRead _ _ => queueCode_of_kept (execTbRead_kept ..)
  | .tbSetInc _ _ _ => queueCode_of_kept (execTbSetInc_kept ..)
  | .tbSlew _ _ _ _ => queueCode_of_kept (execTbSlew_kept ..)
  | .tbStep _ _ _ _ => queueCode_of_kept (execTbStep_kept ..)
  | .tbServoKick _ => queueCode_of_kept (execTbServoKick_kept ..)
  | .tbCapture _ => queueCode_of_kept (execTbCapture_kept ..)
  | .tbStepGo _ => queueCode_of_kept (execTbStepGo_kept ..)
  | .tbSlewCountWrite _ _ _ => queueCode_of_kept (execTbSlewCountWrite_kept ..)
  | .tbIncHiWrite _ _ _ _ => queueCode_of_kept (execTbIncHiWrite_kept ..)
  | .kickExpiredClear _ => queueCode_of_kept (execKickExpiredClear_kept ..)
  | .servoKickExpiry => queueCode_of_kept (execServoKickExpiry_kept ..)
  | .slewEnd _ => queueCode_of_kept (execSlewEnd_kept ..)
  | .servoPeriod _ _ => queueCode_of_kept (execServoPeriod_kept ..)
  | .inc0Learn => queueCode_of_kept (execInc0Learn_kept ..)
  | .ptpMessageRx _ _ _ _ _ _ _ _ _ => queueCode_of_kept (execPtpMessageRx_kept ..)
  | .ptpMessageTx _ _ _ => queueCode_of_kept (execPtpMessageTx_kept ..)
  | .ppsInEdge _ _ => queueCode_of_kept (execPpsInEdge_kept ..)
  | .irigInFrame _ _ _ _ => queueCode_of_kept (execIrigInFrame_kept ..)
  | .ptpSyncMissing _ => queueCode_of_kept (execPtpSyncMissing_kept ..)
  | .announceReceiptTimeout _ => queueCode_of_kept (execAnnounceReceiptTimeout_kept ..)
  | .ppsEdgeMissing => queueCode_of_kept (execPpsEdgeMissing_kept ..)
  | .irigFrameMissing => queueCode_of_kept (execIrigFrameMissing_kept ..)
  | .timeClass _ => queueCode_of_kept (execTimeClass_kept ..)
  | .glideToFree _ => queueCode_of_kept (execGlideToFree_kept ..)
  | .utcOffsetChange => queueCode_of_kept (execUtcOffsetChange_kept ..)
  | .refInLost => queueCode_of_kept (execRefInLost_kept ..)
  | .refInRestored => queueCode_of_kept (execRefInRestored_kept ..)
  | .gridRephase => queueCode_of_kept (execGridRephase_kept ..)
  | .gridAligned => queueCode_of_kept (execGridAligned_kept ..)
  | .td2Servo _ _ _ => queueCode_of_kept (execTd2Servo_kept ..)
  | .launchArm _ _ _ => queueCode_of_kept (execLaunchArm_kept ..)
  | .launchCancel _ _ => queueCode_of_kept (execLaunchCancel_kept ..)
  | .launchFire => queueCode_of_kept (execLaunchFire_kept ..)
  | .headboxWaveRelease _ _ _ => execHeadboxWaveRelease_queueCode ..
  | .provisionalTimeout => queueCode_of_kept (execProvisionalTimeout_kept ..)
  | .rotationStepStart => queueCode_of_kept (execRotationStepStart_kept ..)
  | .rotationCalEnd _ _ _ => queueCode_of_kept (execRotationCalEnd_kept ..)
  | .rotationDecision _ _ => queueCode_of_kept (execRotationDecision_kept ..)
  | .referenceCheckDone _ => queueCode_of_kept (execReferenceCheckDone_kept ..)
  | .spareConnectDone => queueCode_of_kept (execSpareConnectDone_kept ..)
  | .svFrameRx _ => queueCode_of_kept (execSvFrameRx_kept ..)
  | .twArrival _ _ _ _ _ _ _ => queueCode_of_kept (execTwArrival_kept ..)
  | .twRearm _ => queueCode_of_kept (execTwRearm_kept ..)
  | .twLeadWindowClose _ => queueCode_of_kept (execTwLeadWindowClose_kept ..)
  | .twSupervisionEnd _ _ _ => queueCode_of_kept (execTwSupervisionEnd_kept ..)
  | .twBurstClose _ => queueCode_of_kept (execTwBurstClose_kept ..)
  | .twNoiseFloor _ => queueCode_of_kept (execTwNoiseFloor_kept ..)
  | .twNoiseCleared _ => queueCode_of_kept (execTwNoiseCleared_kept ..)
  | .twLocationDone _ => queueCode_of_kept (execTwLocationDone_kept ..)
  | .twExchangeSend => queueCode_of_kept (execTwExchangeSend_kept ..)
  | .twMsgRx _ => queueCode_of_kept (execTwMsgRx_kept ..)
  | .twMsgExpiry => queueCode_of_kept (execTwMsgExpiry_kept ..)
  | .twVmeasArm _ _ => queueCode_of_kept (execTwVmeasArm_kept ..)
  | .twVmeasTimeout => queueCode_of_kept (execTwVmeasTimeout_kept ..)
  | .descriptorEntry => queueCode_of_kept (execDescriptorEntry_kept ..)
  | .opRetire _ _ _ _ _ => queueCode_of_kept (execOpRetire_kept ..)
  | .opCycleLimit _ => queueCode_of_kept (execOpCycleLimit_kept ..)
  | .p1Deadline => queueCode_of_kept (execP1Deadline_kept ..)
  | .p0Deadline => queueCode_of_kept (execP0Deadline_kept ..)
  | .p2Late => queueCode_of_kept (execP2Late_kept ..)
  | .overrunQuiet => queueCode_of_kept (execOverrunQuiet_kept ..)
  | .delayEntryFire => queueCode_of_kept (execDelayEntryFire_kept ..)
  | .jobStart => queueCode_of_kept (execJobStart_kept ..)
  | .freqTrackHoldExpiry _ => queueCode_of_kept (execFreqTrackHoldExpiry_kept ..)
  | .pmuTurnOff _ _ => queueCode_of_kept (execPmuTurnOff_kept ..)
  | .pmuTurnOn _ _ => queueCode_of_kept (execPmuTurnOn_kept ..)
  | .pmuSendHdr _ _ _ => queueCode_of_kept (execPmuSendHdr_kept ..)
  | .pmuSendCfg _ _ _ _ => queueCode_of_kept (execPmuSendCfg_kept ..)
  | .cyclicTaskRelease _ => queueCode_of_kept (execCyclicTaskRelease_kept ..)
  | .logicCycleReady => queueCode_of_kept (execLogicCycleReady_kept ..)
  | .eventTaskTrigger => queueCode_of_kept (execEventTaskTrigger_kept ..)
  | .leWatchdog => queueCode_of_kept (execLeWatchdog_kept ..)
  | .retainWrite => queueCode_of_kept (execRetainWrite_kept ..)
  | .leLd _ _ => queueCode_of_kept (execLeLd_kept ..)
  | .leLdn _ _ => queueCode_of_kept (execLeLdn_kept ..)
  | .leAnd _ _ => queueCode_of_kept (execLeAnd_kept ..)
  | .leAndn _ _ => queueCode_of_kept (execLeAndn_kept ..)
  | .leOr _ _ => queueCode_of_kept (execLeOr_kept ..)
  | .leOrn _ _ => queueCode_of_kept (execLeOrn_kept ..)
  | .leXor _ _ => queueCode_of_kept (execLeXor_kept ..)
  | .leXorn _ _ => queueCode_of_kept (execLeXorn_kept ..)
  | .leNot => queueCode_of_kept (execLeNot_kept ..)
  | .leSetr => queueCode_of_kept (execLeSetr_kept ..)
  | .leClrr => queueCode_of_kept (execLeClrr_kept ..)
  | .leAndOpen => queueCode_of_kept (execLeAndOpen_kept ..)
  | .leAndnOpen => queueCode_of_kept (execLeAndnOpen_kept ..)
  | .leOrOpen => queueCode_of_kept (execLeOrOpen_kept ..)
  | .leOrnOpen => queueCode_of_kept (execLeOrnOpen_kept ..)
  | .leXorOpen => queueCode_of_kept (execLeXorOpen_kept ..)
  | .leBracketClose => queueCode_of_kept (execLeBracketClose_kept ..)
  | .leFp _ _ => queueCode_of_kept (execLeFp_kept ..)
  | .leFn _ _ => queueCode_of_kept (execLeFn_kept ..)
  | .leSt _ _ => queueCode_of_kept (execLeSt_kept ..)
  | .leStn _ _ => queueCode_of_kept (execLeStn_kept ..)
  | .leSet _ _ => queueCode_of_kept (execLeSet_kept ..)
  | .leRst _ _ => queueCode_of_kept (execLeRst_kept ..)
  | .leTon _ _ => queueCode_of_kept (execLeTon_kept ..)
  | .leTof _ _ => queueCode_of_kept (execLeTof_kept ..)
  | .leTp _ _ => queueCode_of_kept (execLeTp_kept ..)
  | .leTrst _ _ => queueCode_of_kept (execLeTrst_kept ..)
  | .leTpv _ _ => queueCode_of_kept (execLeTpv_kept ..)
  | .leCtu _ _ => queueCode_of_kept (execLeCtu_kept ..)
  | .leCtd _ _ => queueCode_of_kept (execLeCtd_kept ..)
  | .leCrst _ _ => queueCode_of_kept (execLeCrst_kept ..)
  | .leCld _ _ => queueCode_of_kept (execLeCld_kept ..)
  | .leCpv _ _ => queueCode_of_kept (execLeCpv_kept ..)
  | .leLw _ _ => queueCode_of_kept (execLeLw_kept ..)
  | .leSw _ _ => queueCode_of_kept (execLeSw_kept ..)
  | .leSwc _ _ => queueCode_of_kept (execLeSwc_kept ..)
  | .leLdh _ _ => queueCode_of_kept (execLeLdh_kept ..)
  | .leAdd _ _ => queueCode_of_kept (execLeAdd_kept ..)
  | .leSub _ _ => queueCode_of_kept (execLeSub_kept ..)
  | .leMul _ _ => queueCode_of_kept (execLeMul_kept ..)
  | .leDiv _ _ => queueCode_of_kept (execLeDiv_kept ..)
  | .leMod _ _ => queueCode_of_kept (execLeMod_kept ..)
  | .leNeg => queueCode_of_kept (execLeNeg_kept ..)
  | .leAbs => queueCode_of_kept (execLeAbs_kept ..)
  | .leWand _ _ => queueCode_of_kept (execLeWand_kept ..)
  | .leWor _ _ => queueCode_of_kept (execLeWor_kept ..)
  | .leWxor _ _ => queueCode_of_kept (execLeWxor_kept ..)
  | .leWnot => queueCode_of_kept (execLeWnot_kept ..)
  | .leShl _ _ => queueCode_of_kept (execLeShl_kept ..)
  | .leShr _ _ => queueCode_of_kept (execLeShr_kept ..)
  | .leSar _ _ => queueCode_of_kept (execLeSar_kept ..)
  | .leCeq _ _ => queueCode_of_kept (execLeCeq_kept ..)
  | .leCne _ _ => queueCode_of_kept (execLeCne_kept ..)
  | .leClt _ _ => queueCode_of_kept (execLeClt_kept ..)
  | .leCle _ _ => queueCode_of_kept (execLeCle_kept ..)
  | .leCgt _ _ => queueCode_of_kept (execLeCgt_kept ..)
  | .leCge _ _ => queueCode_of_kept (execLeCge_kept ..)
  | .leFadd _ _ => queueCode_of_kept (execLeFadd_kept ..)
  | .leFsub _ _ => queueCode_of_kept (execLeFsub_kept ..)
  | .leFmul _ _ => queueCode_of_kept (execLeFmul_kept ..)
  | .leFdiv _ _ => queueCode_of_kept (execLeFdiv_kept ..)
  | .leFlt => queueCode_of_kept (execLeFlt_kept ..)
  | .leFix => queueCode_of_kept (execLeFix_kept ..)
  | .leFclt _ _ => queueCode_of_kept (execLeFclt_kept ..)
  | .leFcgt _ _ => queueCode_of_kept (execLeFcgt_kept ..)
  | .leFceq _ _ => queueCode_of_kept (execLeFceq_kept ..)
  | .leJmp _ => queueCode_of_kept (execLeJmp_kept ..)
  | .leJc _ => queueCode_of_kept (execLeJc_kept ..)
  | .leJnc _ => queueCode_of_kept (execLeJnc_kept ..)
  | .leCall _ => queueCode_of_kept (execLeCall_kept ..)
  | .leRet => queueCode_of_kept (execLeRet_kept ..)
  | .leEnd => queueCode_of_kept (execLeEnd_kept ..)
  | .leNop => queueCode_of_kept (execLeNop_kept ..)
  | .leEvt _ _ => queueCode_of_kept (execLeEvt_kept ..)
  | .leLarm _ _ => queueCode_of_kept (execLeLarm_kept ..)
  | .leLcan => queueCode_of_kept (execLeLcan_kept ..)
  | .lePeekSelWrite _ _ => queueCode_of_kept (execLePeekSelWrite_kept ..)
  | .brkHitClear _ => queueCode_of_kept (execBrkHitClear_kept ..)
  | .gsNodeSelWrite _ _ => queueCode_of_kept (execGsNodeSelWrite_kept ..)
  | .fieldFrameStart => queueCode_of_kept (execFieldFrameStart_kept ..)
  | .fieldUpstreamRx _ _ _ _ _ _ _ _ => queueCode_of_kept (execFieldUpstreamRx_kept ..)
  | .diChatterCleared _ => queueCode_of_kept (execDiChatterCleared_kept ..)
  | .diMaxOn _ => queueCode_of_kept (execDiMaxOn_kept ..)
  | .fieldUpstreamMissing => queueCode_of_kept (execFieldUpstreamMissing_kept ..)
  | .fieldSelftestTimeout => queueCode_of_kept (execFieldSelftestTimeout_kept ..)
  | .fieldDownstreamRx => queueCode_of_kept (execFieldDownstreamRx_kept ..)
  | .fieldDownstreamMissing => queueCode_of_kept (execFieldDownstreamMissing_kept ..)
  | .doLaunchSwitch _ => queueCode_of_kept (execDoLaunchSwitch_kept ..)
  | .fioDoOverload _ => queueCode_of_kept (execFioDoOverload_kept ..)
  | .fioDoOvertemp _ => queueCode_of_kept (execFioDoOvertemp_kept ..)
  | .doThermalRetry _ => queueCode_of_kept (execDoThermalRetry_kept ..)
  | .fioDoOpenWire _ => queueCode_of_kept (execFioDoOpenWire_kept ..)
  | .fioDoExtVoltage _ => queueCode_of_kept (execFioDoExtVoltage_kept ..)
  | .fioDiOpenWire _ => queueCode_of_kept (execFioDiOpenWire_kept ..)
  | .fioDiOverload _ => queueCode_of_kept (execFioDiOverload_kept ..)
  | .fioDiOvertemp _ => queueCode_of_kept (execFioDiOvertemp_kept ..)
  | .fioDiagCleared _ _ => queueCode_of_kept (execFioDiagCleared_kept ..)
  | .fioSupplyLow _ _ => queueCode_of_kept (execFioSupplyLow_kept ..)
  | .fioSupplyRestored _ _ => queueCode_of_kept (execFioSupplyRestored_kept ..)
  | .processFrameStart _ => queueCode_of_kept (execProcessFrameStart_kept ..)
  | .processUpstreamRx _ _ _ _ _ _ => queueCode_of_kept (execProcessUpstreamRx_kept ..)
  | .processUpstreamMissing => queueCode_of_kept (execProcessUpstreamMissing_kept ..)
  | .processSideSafe => queueCode_of_kept (execProcessSideSafe_kept ..)
  | .conversionComplete _ _ => queueCode_of_kept (execConversionComplete_kept ..)
  | .seqPassStart => queueCode_of_kept (execSeqPassStart_kept ..)
  | .readbackVerification _ => queueCode_of_kept (execReadbackVerification_kept ..)
  | .upcReadbackMismatch _ => queueCode_of_kept (execUpcReadbackMismatch_kept ..)
  | .readbackMismatchClear _ => queueCode_of_kept (execReadbackMismatchClear_kept ..)
  | .outputStartupTest _ _ _ => queueCode_of_kept (execOutputStartupTest_kept ..)
  | .upcCompliance _ => queueCode_of_kept (execUpcCompliance_kept ..)
  | .upcOpenLoop _ => queueCode_of_kept (execUpcOpenLoop_kept ..)
  | .upcSignalRange _ => queueCode_of_kept (execUpcSignalRange_kept ..)
  | .tcTest _ _ => queueCode_of_kept (execTcTest_kept ..)
  | .upcDiagCleared _ _ => queueCode_of_kept (execUpcDiagCleared_kept ..)
  | .upcChModeWrite _ _ _ => queueCode_of_kept (execUpcChModeWrite_kept ..)
  | .rioUpstreamRx _ _ _ _ _ _ _ _ _ => queueCode_of_kept (execRioUpstreamRx_kept ..)
  | .rioDownstreamSend => queueCode_of_kept (execRioDownstreamSend_kept ..)
  | .duciaRingCycle => queueCode_of_kept (execDuciaRingCycle_kept ..)
  | .duciaRingFrameRx _ _ _ => queueCode_of_kept (execDuciaRingFrameRx_kept ..)
  | .drArm _ _ => queueCode_of_kept (execDrArm_kept ..)
  | .drTrigger _ _ => queueCode_of_kept (execDrTrigger_kept ..)
  | .drUnitFiredClear _ _ => queueCode_of_kept (execDrUnitFiredClear_kept ..)
  | .recordOpen => queueCode_of_kept (execRecordOpen_kept ..)
  | .recordEnd => queueCode_of_kept (execRecordEnd_kept ..)
  | .holdOffExpiry => queueCode_of_kept (execHoldOffExpiry_kept ..)
  | .rateStepUp _ _ => queueCode_of_kept (execRateStepUp_kept ..)
  | .rateStepDown _ _ => queueCode_of_kept (execRateStepDown_kept ..)
  | .ringFull _ => queueCode_of_kept (execRingFull_kept ..)
  | .reelDrainDone _ _ _ => queueCode_of_kept (execReelDrainDone_kept ..)
  | .drList _ _ _ => queueCode_of_kept (execDrList_kept ..)
  | .drRead _ _ _ _ => queueCode_of_kept (execDrRead_kept ..)
  | .drExport _ _ _ _ _ _ _ => queueCode_of_kept (execDrExport_kept ..)
  | .eventEntry => execEventEntry_queueCode ..
  | .rateRefill _ => execRateRefill_queueCode ..
  | .suppressedSummary60s _ => execSuppressedSummary60s_queueCode ..
  | .commitPeriod => queueCode_of_kept (execCommitPeriod_kept ..)
  | .commitStart => queueCode_of_kept (execCommitStart_kept ..)
  | .pageCommitComplete => execPageCommitComplete_queueCode ..
  | .evrRead _ _ _ _ => queueCode_of_kept (execEvrRead_kept ..)
  | .evrFreeze _ => queueCode_of_kept (execEvrFreeze_kept ..)
  | .evrThaw _ => queueCode_of_kept (execEvrThaw_kept ..)
  | .freezeTimeout => queueCode_of_kept (execFreezeTimeout_kept ..)
  | .risiaHelloRx _ _ _ _ _ _ => queueCode_of_kept (execRisiaHelloRx_kept ..)
  | .risiaHeartbeatRx _ _ _ _ _ _ _ => queueCode_of_kept (execRisiaHeartbeatRx_kept ..)
  | .risiaAgreeRx _ _ _ _ _ _ => queueCode_of_kept (execRisiaAgreeRx_kept ..)
  | .risiaDescRx _ _ => queueCode_of_kept (execRisiaDescRx_kept ..)
  | .risiaDigestRx _ _ _ => queueCode_of_kept (execRisiaDigestRx_kept ..)
  | .risiaControlRx _ _ => queueCode_of_kept (execRisiaControlRx_kept ..)
  | .risiaBulkRx _ _ _ _ _ => queueCode_of_kept (execRisiaBulkRx_kept ..)
  | .risiaTimeRx _ _ => queueCode_of_kept (execRisiaTimeRx_kept ..)
  | .pairHeartbeatTx => queueCode_of_kept (execPairHeartbeatTx_kept ..)
  | .plkLaneDown _ => queueCode_of_kept (execPlkLaneDown_kept ..)
  | .hbInPulse _ => queueCode_of_kept (execHbInPulse_kept ..)
  | .hbWireSilent => queueCode_of_kept (execHbWireSilent_kept ..)
  | .bindInChange _ => queueCode_of_kept (execBindInChange_kept ..)
  | .bindHoldDrop => queueCode_of_kept (execBindHoldDrop_kept ..)
  | .bindFault => queueCode_of_kept (execBindFault_kept ..)
  | .established => queueCode_of_kept (execEstablished_kept ..)
  | .linkStartTimeout => queueCode_of_kept (execLinkStartTimeout_kept ..)
  | .joinSnapshotDone _ => queueCode_of_kept (execJoinSnapshotDone_kept ..)
  | .joinCatchupDone => queueCode_of_kept (execJoinCatchupDone_kept ..)
  | .joinFailed _ => queueCode_of_kept (execJoinFailed_kept ..)
  | .joinRetry => queueCode_of_kept (execJoinRetry_kept ..)
  | .agreementDueMissing _ => queueCode_of_kept (execAgreementDueMissing_kept ..)
  | .verdictComplete _ => queueCode_of_kept (execVerdictComplete_kept ..)
  | .handoverWave => queueCode_of_kept (execHandoverWave_kept ..)
  | .pairDrill _ _ => queueCode_of_kept (execPairDrill_kept ..)
  | .drillDwellEnd => queueCode_of_kept (execDrillDwellEnd_kept ..)
  | .drillDue => queueCode_of_kept (execDrillDue_kept ..)
  | .pairRelease _ _ => execPairRelease_queueCode ..
  | .migrateWarmDone => queueCode_of_kept (execMigrateWarmDone_kept ..)
  | .gooseFrameRx _ => queueCode_of_kept (execGooseFrameRx_kept ..)
  | .gooseSubLost _ => queueCode_of_kept (execGooseSubLost_kept ..)
  | .gooseRetransmit _ => queueCode_of_kept (execGooseRetransmit_kept ..)
  | .prpSupervisionTx => queueCode_of_kept (execPrpSupervisionTx_kept ..)
  | .prpDupAgeout => queueCode_of_kept (execPrpDupAgeout_kept ..)
  | .netFrameRx _ => queueCode_of_kept (execNetFrameRx_kept ..)
  | .arpRx _ _ _ _ => queueCode_of_kept (execArpRx_kept ..)
  | .arpRefresh => queueCode_of_kept (execArpRefresh_kept ..)
  | .icmpEcho _ _ => queueCode_of_kept (execIcmpEcho_kept ..)
  | .tlsRecordRx _ _ _ => execTlsRecordRx_queueCode ..
  | .linkLoss _ => queueCode_of_kept (execLinkLoss_kept ..)
  | .laneNoFrame _ => queueCode_of_kept (execLaneNoFrame_kept ..)
  | .ringOpen _ => queueCode_of_kept (execRingOpen_kept ..)
  | .netLaneRestored _ => queueCode_of_kept (execNetLaneRestored_kept ..)
  | .hpiWriteTransfer _ => queueCode_of_kept (execHpiWriteTransfer_kept ..)
  | .hpiReadTransfer _ => queueCode_of_kept (execHpiReadTransfer_kept ..)
  | .uartFrameRx _ => queueCode_of_kept (execUartFrameRx_kept ..)
  | .uartFrameTimeout => queueCode_of_kept (execUartFrameTimeout_kept ..)
  | .diagStream _ _ _ => queueCode_of_kept (execDiagStream_kept ..)
  | .diagData _ => queueCode_of_kept (execDiagData_kept ..)
  | .loadWindow _ => queueCode_of_kept (execLoadWindow_kept ..)
  | .mgmtWatchdog _ => queueCode_of_kept (execMgmtWatchdog_kept ..)
  | .mgmtRestartDone => queueCode_of_kept (execMgmtRestartDone_kept ..)
  | .attest _ _ => execAttest_queueCode ..
  | .keyInstall _ _ => execKeyInstall_queueCode ..
  | .keyList _ => queueCode_of_kept (execKeyList_kept ..)
  | .authLockoutExpiry _ => execAuthLockoutExpiry_queueCode ..
  | .sessionIdleTimeout _ => queueCode_of_kept (execSessionIdleTimeout_kept ..)
  | .healthRead _ _ => queueCode_of_kept (execHealthRead_kept ..)
  | .injArm _ _ => execInjArm_queueCode ..
  | .injClear _ _ => queueCode_of_kept (execInjClear_kept ..)
  | .injDurationEnd _ => queueCode_of_kept (execInjDurationEnd_kept ..)
  | .injPeriodStart _ => execInjPeriodStart_queueCode ..
  | .detectorHoldExpiry _ => queueCode_of_kept (execDetectorHoldExpiry_kept ..)
  | .monitorSample _ _ _ => queueCode_of_kept (execMonitorSample_kept ..)
  | .dieTempHigh _ => queueCode_of_kept (execDieTempHigh_kept ..)
  | .eccSram _ _ _ _ => execEccSram_queueCode ..
  | .eccMram _ _ => execEccMram_queueCode ..
  | .flashErr => queueCode_of_kept (execFlashErr_kept ..)
  | .upcSelftestTimeout => queueCode_of_kept (execUpcSelftestTimeout_kept ..)
  | .highRateBlock _ _ _ _ => queueCode_of_kept (execHighRateBlock_kept ..)
  | .ppsOutRise => queueCode_of_kept (execPpsOutRise_kept ..)
  | .ppsOutFall => queueCode_of_kept (execPpsOutFall_kept ..)
  | .sampleLoopUnlock => queueCode_of_kept (execSampleLoopUnlock_kept ..)
  | .tlsConnectionEnd _ => queueCode_of_kept (execTlsConnectionEnd_kept ..)
  | .monitorLimitCrossed _ _ => queueCode_of_kept (execMonitorLimitCrossed_kept ..)
  | .dieTempNormal _ => queueCode_of_kept (execDieTempNormal_kept ..)
  | .vmainLowCleared => queueCode_of_kept (execVmainLowCleared_kept ..)
  | .portLinkUp _ _ => queueCode_of_kept (execPortLinkUp_kept ..)

/-! The step. -/

theorem step_of_nil (s : State) (h : s.pending = []) : step s = .next (idle s) := by rw [step, h]

theorem step_of_cons (s : State) (c : Instr) (q : List Instr) (h : s.pending = c :: q) :
    step s = exec c { s with pending := q } := by rw [step, h]

/-- A step answers a next state, with the rest of the queue and the same ordering code. -/
theorem step_queueCode (s : State) : ∃ t, step s = .next t ∧ queueCode t = (s.pending.tail, s.code) := by
  cases h : s.pending with
  | nil =>
    refine ⟨idle s, step_of_nil s h, (queueCode_of_kept (idle_kept s)).trans ?_⟩
    rw [queueCode, h, List.tail_nil]
  | cons c q =>
    rw [step_of_cons s c q h]
    exact ⟨_, completes_resState { s with pending := q } _ (exec_completes c _), exec_queueCode c _⟩

/-- Settles O3: a command's row answers a next state (`exec_completes`) and keeps the queue and the code (`exec_queueCode`); the
command itself is taken by the step, and a tick of an empty queue keeps both. -/
theorem stepTakesOneCommandAndKeepsThePart : Obligations.StepTakesOneCommandAndKeepsThePart := by
  intro s
  obtain ⟨t, ht, hq⟩ := step_queueCode s
  exact ⟨t, ht, congrArg Prod.fst hq, congrArg Prod.snd hq⟩

end Sys2Proof.Machine
end

section
/-! PROOFS. The timestamp of 12 bytes (R12): a field of a byte list is read back from where it stands. -/

namespace Sys2Proof.Machine
open Sys2Proof

@[simp] theorem leBytes_length (n v : Nat) : (leBytes n v).length = n := by
  induction n generalizing v with
  | zero => rfl
  | succ n ih => rw [leBytes, List.length_cons, ih]

/-- The number read back from the `n` bytes of `v` is `v` reduced to them. -/
theorem leNat_leBytes (n v : Nat) : leNat (leBytes n v) = v % 256 ^ n := by
  induction n generalizing v with
  | zero => rw [leBytes, leNat, pow_zero, Nat.mod_one]
  | succ n ih => rw [leBytes, leNat, ih, BitVec.toNat_ofNat, pow_succ' 256 n, Nat.mod_mul]

/-- A field between `a` and `b`, read at its place. -/
theorem leAt_field (a b : List Byte) (o n v : Nat) (ho : a.length = o) : leAt (a ++ leBytes n v ++ b) o n = v % 256 ^ n := by
  rw [leAt, bytesAt, List.append_assoc, ← ho, List.drop_left,
    List.take_append_of_le_length (leBytes_length n v).ge, List.take_of_length_le (leBytes_length n v).le, leNat_leBytes]

theorem stamp_length (t : Nat) : (stamp t).length = 12 := by simp [stamp]

theorem leAt_stamp_seconds (t : Nat) (h : secOf t < 2 ^ 48) : leAt (stamp t) 0 6 = secOf t := by
  rw [stamp, List.append_assoc, ← List.nil_append (leBytes 6 _ ++ _), ← List.append_assoc,
    leAt_field [] _ 0 6 _ rfl]
  exact Nat.mod_eq_of_lt h

theorem nsOf_lt (t : Nat) : nsOf t < 10 ^ 9 := by
  have : t % secT 1 < secT 1 := Nat.mod_lt _ (by decide)
  unfold nsOf secT at *
  omega

theorem leAt_stamp_nanoseconds (t : Nat) : leAt (stamp t) 6 4 = nsOf t := by
  rw [stamp, leAt_field _ _ 6 4 _ (leBytes_length 6 _)]
  exact Nat.mod_eq_of_lt ((nsOf_lt t).trans (by decide))

theorem leAt_stamp_fraction (t : Nat) : leAt (stamp t) 10 2 = t / 2 ^ 24 % 65536 := by
  rw [stamp, ← List.append_nil (_ ++ leBytes 2 _), leAt_field _ [] 10 2 _ (by simp)]
  exact Nat.mod_mod _ _

/-- Seconds, nanoseconds and fraction together are the instant rounded down to 2^-16 ns. -/
theorem stampAt_stamp (t : Nat) (h : secOf t < 2 ^ 48) : stampAt (stamp t) 0 = t / 2 ^ 24 * 2 ^ 24 := by
  rw [stampAt, leAt_stamp_seconds t h, leAt_stamp_nanoseconds, leAt_stamp_fraction]
  unfold secOf nsOf secT nsT
  omega

/-- Settles O55, field by field. -/
theorem timestampHoldsTheInstant : Obligations.TimestampHoldsTheInstant := by
  intro t h
  have hn := leAt_stamp_nanoseconds t
  refine ⟨stamp_length t, leAt_stamp_seconds t h, hn.trans ?_, ?_, leAt_stamp_fraction t, stampAt_stamp t h⟩
  · unfold nsOf secT
    omega
  · have := nsOf_lt t
    omega

end Sys2Proof.Machine
end

section
/-! PROOFS. The role check of a request (R15, R587, R620), and what an absent unit answers (R3, R438). -/

namespace Sys2Proof.Machine
open Sys2Proof

/-- An ENGINEER's command other than the five that session 0 may send is refused without the role (R587, R620). -/
theorem precheck_without_engineer (r : Req) (op : Nat) (urgent : Bool) (s : State)
    (h : ∀ x, findSession s r = some x → hasRole x 2 = false)
    (ho : op ∉ [0x0001, 0x0010, 0x0028, 0x0029, 0x002A]) : ∃ st, precheck r op urgent (some 2) s = some st := by
  simp only [List.mem_cons, List.not_mem_nil, or_false, not_or] at ho
  unfold precheck
  split
  · exact ⟨_, rfl⟩
  split
  · exact ⟨_, rfl⟩
  split
  · exact ⟨.denied, by simp [ho]⟩
  cases hx : findSession s r with
  | none => exact ⟨_, rfl⟩
  | some x => exact ⟨.denied, by simp [h x hx]⟩

/-- Such a request waits or is answered with its status; it does nothing else. -/
theorem serveAs_without_engineer (r : Req) (op : Nat) (urgent : Bool) (s : State) (f : State → State)
    (h : ∀ x, findSession s r = some x → hasRole x 2 = false)
    (ho : op ∉ [0x0001, 0x0010, 0x0028, 0x0029, 0x002A]) : Only [.cmd, .pads] s (serveAs r op urgent (some 2) s f) := by
  obtain ⟨st, hst⟩ := precheck_without_engineer r op urgent s h ho
  cases w : waits r urgent s with
  | true =>
    rw [serveAs_waits r op urgent _ s f w]
    exact Only.refl _ s
  | false =>
    rw [serveAs_refused r op urgent _ s f st w hst]
    exact respondTo_only _ _ _ _ _ _ s

/-- Settles O58: each of the commands and writes is served under ENGINEER alone. -/
theorem onlyEngineerMovesTheLogicEngine : Obligations.OnlyEngineerMovesTheLogicEngine := by
  intro r s h code option entries mark forces options value c hc
  have denied := fun op urgent f ho => serveAs_without_engineer r op urgent s f h ho
  simp only [List.mem_cons, List.not_mem_nil, or_false] at hc
  obtain rfl | rfl | rfl | rfl | rfl | rfl := hc
  · exact ⟨_, rfl, denied 0x0030 _ _ (by decide)⟩
  · exact ⟨_, rfl, denied 0x0031 _ _ (by decide)⟩
  · exact ⟨_, rfl, denied 0x0032 _ _ (by decide)⟩
  · exact ⟨_, rfl, denied 0x0033 _ _ (by decide)⟩
  · exact ⟨_, rfl, denied 0x0011 _ _ (by decide)⟩
  · exact ⟨_, rfl, denied 0x0011 _ _ (by decide)⟩

theorem hasUpc_of_codeE (s : State) (h : s.code = .e) : hasUpc s = false := by rw [hasUpc, h]; rfl

/-- The words of the UPC_ block are absent without U_UPC (R3, R438). -/
theorem regAbsent_upc (s : State) (a : Nat) (h : hasUpc s = false) (lo : 0x60000 ≤ a) (hi : a < 0x70000) :
    regAbsent s a = true := by simp [regAbsent, h, lo, hi]

theorem regVal_absent (s : State) (a : Nat) (h : regAbsent s a = true) : regVal s a = 0 := by
  rw [regVal, regAt, if_pos (.inr h), Option.getD_none]

theorem regRead_absent_word (r : Req) (a : Nat) (s : State) (hv : Served r 0x0010 s) (hs : r.session ≠ 0)
    (hp : s.pw.phase = .running) (h4 : a % 4 = 0) (h : regAbsent s a = true) :
    regRead r a 1 s = answer r 0x0010 .absent s := by
  rw [regRead, serve_served r _ s _ hv]
  simp [hs, hp, h4, h]

theorem writeWords_absent_word (a : Nat) (v : Word) (s : State) (h : regAbsent s a = true) :
    writeWords a [v] 0 s = (s, 0, .absent) := by
  simp [writeWords, writeWord, h]

theorem regWrite_absent_word (r : Req) (a : Nat) (v : Word) (s : State) (hv : Served r 0x0011 s)
    (ht : touchesSec a 1 = false) (h4 : a % 4 = 0) (h : regAbsent s a = true) :
    regWrite r a [v] s = respond r 0x0011 .absent false (leBytes 2 0) s := by
  rw [regWrite, serve_served r _ s _ hv]
  simp [ht, h4, writeWords_absent_word a v s h]

theorem upcUrgent_absent (r : Req) (chan meas filter rate settle : Nat) (s : State) (hv : Served r 0x0041 s)
    (h : hasUpc s = false) : upcUrgent r chan meas filter rate settle s = answer r 0x0041 .absent s := by
  rw [upcUrgent, serve_served r _ s _ hv, h]
  rfl

theorem execAccSnap_process_absent (r : Req) (mask : Nat) (s : State) (w : waits r false s = false)
    (hp : precheck r 0x0040 false (some 1) s = none) (h : hasUpc s = false) :
    execAccSnap r 4 mask s = .next (answer r 0x0040 .absent s) := by
  refine (congrArg Host.Outcome.next (serveAs_served r _ false (some 1) s _ w hp)).trans ?_
  simp [h]

/-- Settles O60: every word of the block is absent, and the two commands test for the unit before all else. -/
theorem absentProcessChannelsAnswerAbsent : Obligations.AbsentProcessChannelsAnswerAbsent := by
  intro r s he
  have hu := hasUpc_of_codeE s he
  refine ⟨fun a lo hi h4 => ?_, fun chan meas filter rate settle hv => ?_, fun mask w hp => ?_, fun op st payload => ?_⟩
  · have ha := regAbsent_upc s a hu lo hi
    have ht : touchesSec a 1 = false := by simp only [touchesSec, Bool.and_eq_false_iff, decide_eq_false_iff_not]; omega
    exact ⟨regVal_absent s a ha, fun hs hp hv => congrArg _ (regRead_absent_word r a s hv hs hp h4 ha),
      fun v hv => congrArg _ (regWrite_absent_word r a v s hv ht h4 ha)⟩
  · exact congrArg _ (upcUrgent_absent r chan meas filter rate settle s hv hu)
  · exact execAccSnap_process_absent r mask s w hp hu
  · exact respond_only r op st false payload s

end Sys2Proof.Machine
end

section
/-! PROOFS. The time unit: which units the operations of the servo and of TD1's quality leave, and what they leave of the domains
(R125 to R150); then the servo's rows. -/

namespace Sys2Proof.Machine
open Sys2Proof

/-- A fold leaves the units that each of its steps leaves. -/
theorem Only.foldl {α : Type} (ps : List Part) (g : State → α → State) (l : List α) (s : State)
    (h : ∀ s a, Only ps s (g s a)) : Only ps s (l.foldl g s) := by
  induction l generalizing s with
  | nil => exact Only.refl ps s
  | cons a l ih => exact (h s a).trans (ih (g s a))

/-- A further operation under a condition. -/
theorem Only.trans_ite {ps : List Part} {s a b : State} (c : Prop) [Decidable c] (h : Only ps s b) (k : Only ps b a) :
    Only ps s (if c then a else b) := by
  split
  · exact h.trans k
  · exact h

theorem Only.ite {ps : List Part} {s a b : State} (c : Prop) [Decidable c] (ha : Only ps s a) (hb : Only ps s b) :
    Only ps s (if c then a else b) := by
  split
  · exact ha
  · exact hb

theorem Only.of_tu {ps : List Part} {s t : State} (h : Only [.tu] s t) (k : Part.tu ∈ ps) : Only ps s t :=
  h.mono (by simpa using k)

theorem Only.of_evr {ps : List Part} {s t : State} (h : Only [.evr] s t) (k : Part.evr ∈ ps) : Only ps s t :=
  h.mono (by simpa using k)

/-! The frame of each operation. -/

theorem updDom_only (n : Nat) (f : Domain → Domain) (s : State) : Only [.tu] s (updDom n f s) := by
  unfold updDom
  split <;> exact State.with_tu_only s _

/-- R149's condition changes its own history alone. -/
theorem noteSync_eq (s : State) : ∃ h, noteSync s = { s with tu := { s.tu with syncHist := h } } := by
  unfold noteSync
  dsimp only
  repeat' split
  all_goals exact ⟨_, rfl⟩

theorem noteSync_only (s : State) : Only [.tu] s (noteSync s) := by
  obtain ⟨h, hs⟩ := noteSync_eq s
  rw [hs]
  exact State.with_tu_only s _

theorem advance_only (k : Nat) (s : State) : Only [.tu] s (advance k s) :=
  Only.ite _ (Only.refl _ s) (((noteSync_only s).trans (State.with_tu_only _ _)).trans (noteSync_only _))

theorem saveIncs_only (s : State) : Only [.tu] s (saveIncs s) :=
  Only.ite _ (State.with_tu_only s _) (State.with_tu_only s _)

theorem setInc_only (n inc : Nat) (s : State) : Only [.tu] s (setInc n inc s) :=
  (Only.trans_ite _ (updDom_only n _ s) (updDom_only 2 _ _)).trans (saveIncs_only _)

theorem startSlew_only (n inc count : Nat) (s : State) : Only [.tu] s (startSlew n inc count s) :=
  Only.trans_ite _ (updDom_only n _ s) (updDom_only 2 _ _)

theorem setRole_only (port role : Nat) (s : State) : Only [.tu, .evr] s (setRole port role s) :=
  Only.ite _ (Only.refl _ s) (((State.with_tu_only s _).of_tu (by simp)).trans ((submit_only _ _ _ _).of_evr (by simp)))

theorem checkRoles_only (s : State) : Only [.tu, .evr] s (checkRoles s) :=
  Only.foldl _ _ _ s fun s p => Only.ite _ (setRole_only p 0 s) (Only.refl _ s)

theorem setQual_only (q : TQState) (c : Nat) (tell : Bool) (s : State) : Only [.tu, .evr] s (setQual q c tell s) := by
  have tu : ∀ {a b : State}, Only [.tu] a b → Only [.tu, .evr] a b := fun h => h.of_tu (by simp)
  refine Only.trans (Only.trans (Only.trans_ite _ (Only.trans_ite _ (Only.trans_ite _ (tu ?_) (tu ?_)) (tu ?_)) ?_)
    (tu (noteSync_only _))) (checkRoles_only _)
  · exact updDom_only 1 _ s
  · exact updDom_only 2 _ _
  · exact State.with_tu_only _ _
  · exact (submit_only _ _ _ _).of_evr (by simp)

theorem recFlags_only (m : BitVec 16) (s : State) : Only [.dr] s (recFlags m s) := by
  unfold recFlags
  split
  · exact State.with_dr_only s _
  · exact Only.refl _ s

theorem recMark_only (code t1 start : Nat) (s : State) : Only [.dr] s (recMark code t1 start s) := by
  have marked := Only.ite (code = 2 ∨ code = 3)
    (State.with_dr_only s { s.dr with marks := (⟨code, t1, start, s.acq.waves + 1, s.dr.step⟩ :: s.dr.marks).take 64 })
    (Only.refl _ s)
  unfold recMark
  dsimp only
  split
  · exact marked.trans (State.with_dr_only _ _)
  · exact marked

theorem updLaunch_only (e : Nat) (f : LaunchEntry → LaunchEntry) (s : State) : Only [.tu] s (updLaunch e f s) :=
  State.with_tu_only s _

theorem launchesAcross_only (old new : Nat) (s : State) : Only [.tu, .evr] s (launchesAcross old new s) := by
  refine Only.foldl _ _ _ s fun s x => ?_
  have moved := fun f => (updLaunch_only x.num f s).of_tu (ps := [.tu, .evr]) (by simp)
  have told := fun v n next a => ((submitParts_only .time 0x1009 v [skipPart n next 1] a).of_evr (ps := [.tu, .evr]) (by simp))
  refine Only.ite _ (Only.ite _ ((moved _).trans (told _ _ _ _)) (Only.refl _ s)) ?_
  exact Only.trans_ite _ (moved _) (told _ _ _ _)

theorem gridCheck_only (value : Nat) (was : Int) (s : State) : Only [.tu, .evr, .hlt] s (gridCheck value was s) :=
  Only.ite _ (((State.with_tu_only s _).of_tu (by simp)).trans ((fireDet_only _ _ _ _).mono (by simp))) (Only.refl _ s)

theorem gridStep_only (first : Bool) (off : Int) (s : State) : Only [.tu, .evr, .hlt] s (gridStep first off s) :=
  ((State.with_tu_only s _).of_tu (by simp)).trans (gridCheck_only _ _ _)

/-- A step of TD1 writes its event and detector, moves the launch entries and the grid, and marks the record in capture (R129,
R157, R164). -/
theorem applyStep_only (n : Nat) (off : Int) (cause : Nat) (s : State) :
    Only [.tu, .evr, .hlt, .dr] s (applyStep n off cause s) := by
  have tu : ∀ {a b : State}, Only [.tu] a b → Only [.tu, .evr, .hlt, .dr] a b := fun h => h.of_tu (by simp)
  have dr : ∀ {a b : State}, Only [.dr] a b → Only [.tu, .evr, .hlt, .dr] a b := fun h => h.mono (by simp)
  refine Only.trans_ite _ (Only.trans (tu (updDom_only n _ s)) ((fireDetOnceP_only 0x06 n _ _).mono (by simp))) ?_
  exact Only.trans (Only.trans (Only.trans (Only.trans (Only.trans
    (Only.trans_ite _ (tu (State.with_tu_only _ _)) (tu (State.with_tu_only _ _)))
    (dr (recMark_only _ _ _ _))) (dr (recFlags_only _ _))) ((launchesAcross_only _ _ _).mono (by simp)))
    ((gridStep_only _ _ _).mono (by simp))) (tu (noteSync_only _))

theorem updSrc_only (k : Nat) (f : Source → Source) (s : State) : Only [.tu] s (updSrc k f s) := State.with_tu_only s _

theorem noteYear_only (s : State) : Only [.tu] s (noteYear s) :=
  Only.ite _ (State.with_tu_only s _) (Only.refl _ s)

theorem armImage_only (s : State) : Only [.tu, .evr] s (armImage s) := by
  refine Only.foldl _ _ _ s fun s e => ?_
  dsimp only
  split
  · exact Only.refl _ s
  · exact Only.ite _ ((submit_only _ _ _ _).of_evr (by simp)) ((State.with_tu_only s _).of_tu (by simp))

theorem leaveNever_only (was : TQState) (s : State) : Only [.tu, .evr] s (leaveNever was s) :=
  Only.ite _ (((State.with_tu_only s _).of_tu (by simp)).trans (armImage_only _)) (Only.refl _ s)

theorem removeOffset_only (off : Int) (s : State) : Only [.tu, .evr, .hlt, .dr] s (removeOffset off s).1 := by
  unfold removeOffset
  split
  · exact applyStep_only _ _ _ s
  · split
    · exact Only.refl _ s
    · exact (startSlew_only _ _ _ s).of_tu (by simp)

/-- TD1 is locked with class `c` by an update of source `k`: what `servoUpdate` does between the offset and the events (R150). -/
def lockTd1 (k c : Nat) (s : State) : State :=
  let s := updSrc k (fun x => { x with lastUpd := td0 s }) s
  noteYear (saveIncs (setQual .locked c true { s with tu := { s.tu with lockCls := c } }))

/-- The class of an update: the source's, or that of the offset still to be removed (R150). -/
def updateClass (off : Int) (s : State) : Nat :=
  max (srcOf (removeOffset off s).1 s.tu.active).cls (clsOf (removeOffset off s).2)

/-- The events of an update that finds TD1 in the state `was`. -/
def tellLocked (was : TQState) (v : Nat) (s : State) : State :=
  if was = .locked then s
  else submit .time (if was = .never then 0x1000 else 0x1002) v
    (if was = .never then { s with tu := { s.tu with learnAt := td0 s } } else clearDetAll 0x05 s)

theorem servoUpdate_eq (off : Int) (s : State) : servoUpdate off s =
    leaveNever s.tu.d1.qst (tellLocked s.tu.d1.qst (16 * s.tu.active + updateClass off s)
      (lockTd1 s.tu.active (updateClass off s) (removeOffset off s).1)) := by
  delta servoUpdate tellLocked lockTd1 updateClass
  with_reducible rfl

theorem lockTd1_only (k c : Nat) (s : State) : Only [.tu, .evr] s (lockTd1 k c s) := by
  have tu : ∀ {a b : State}, Only [.tu] a b → Only [.tu, .evr] a b := fun h => h.of_tu (by simp)
  unfold lockTd1
  exact Only.trans (Only.trans (Only.trans ((tu (updSrc_only k _ s)).trans (tu (State.with_tu_only _ _)))
    (setQual_only _ _ _ _)) (tu (saveIncs_only _))) (tu (noteYear_only _))

theorem tellLocked_only (was : TQState) (v : Nat) (s : State) : Only [.tu, .evr, .hlt] s (tellLocked was v s) := by
  refine Only.ite _ (Only.refl _ _) (Only.trans ?_ ((submit_only _ _ _ _).of_evr (by simp)))
  exact Only.ite _ ((State.with_tu_only _ _).of_tu (by simp)) ((clearDetAll_only _ _).mono (by simp))

theorem servoUpdate_only (off : Int) (s : State) : Only [.tu, .evr, .hlt, .dr] s (servoUpdate off s) := by
  have te : ∀ {a b : State}, Only [.tu, .evr] a b → Only [.tu, .evr, .hlt, .dr] a b := fun h => h.mono (by simp)
  rw [servoUpdate_eq]
  exact Only.trans (Only.trans ((removeOffset_only off s).trans (te (lockTd1_only _ _ _)))
    ((tellLocked_only _ _ _).mono (by simp))) (te (leaveNever_only _ _))

theorem kick_only (s : State) : Only [.tu] s (kick s) := State.with_tu_only s _

/-! What the operations leave of the time unit. -/

/-- TD0, TD1, the capture queue and the marks of the kick. -/
def servoRegs (s : State) : Domain × Domain × List CapEntry × Bool × Bool :=
  (s.tu.d0, s.tu.d1, s.tu.capQ, s.tu.kickExpired, s.tu.kickFired)

theorem servoRegs_of_tu {s t : State} (h : t.tu = s.tu) : servoRegs t = servoRegs s := by rw [servoRegs, servoRegs, h]

theorem servoRegs_of_only {ps : List Part} {s t : State} (h : Only ps s t) (k : Part.tu ∉ ps) : servoRegs t = servoRegs s :=
  servoRegs_of_tu ((h .tu).resolve_left k)

theorem servoRegs_inv {s : State} {d0 d1 : Domain} {q : List CapEntry} {e f : Bool} (h : servoRegs s = (d0, d1, q, e, f)) :
    s.tu.d0 = d0 ∧ s.tu.d1 = d1 ∧ s.tu.capQ = q ∧ s.tu.kickExpired = e ∧ s.tu.kickFired = f := by
  simpa only [servoRegs, Prod.mk.injEq] using h

theorem servoRegs_foldl {α : Type} (g : State → α → State) (l : List α) (s : State)
    (h : ∀ s a, servoRegs (g s a) = servoRegs s) : servoRegs (l.foldl g s) = servoRegs s := by
  induction l generalizing s with
  | nil => rfl
  | cons a l ih => rw [List.foldl_cons, ih, h]

@[simp] theorem submit_servoRegs (b : Block) (c v : Nat) (s : State) : servoRegs (submit b c v s) = servoRegs s :=
  servoRegs_of_tu (submit_tu b c v s)

@[simp] theorem noteSync_servoRegs (s : State) : servoRegs (noteSync s) = servoRegs s := by
  obtain ⟨h, hs⟩ := noteSync_eq s
  rw [hs]
  rfl

@[simp] theorem saveIncs_servoRegs (s : State) : servoRegs (saveIncs s) = servoRegs s := by
  unfold saveIncs
  split <;> rfl

@[simp] theorem noteYear_servoRegs (s : State) : servoRegs (noteYear s) = servoRegs s := by
  unfold noteYear
  split <;> rfl

@[simp] theorem setRole_servoRegs (port role : Nat) (s : State) : servoRegs (setRole port role s) = servoRegs s := by
  unfold setRole
  split
  · rfl
  · rw [submit_servoRegs]
    rfl

@[simp] theorem checkRoles_servoRegs (s : State) : servoRegs (checkRoles s) = servoRegs s := by
  unfold checkRoles
  refine servoRegs_foldl _ _ s fun s p => ?_
  split
  · exact setRole_servoRegs p 0 s
  · rfl

@[simp] theorem armImage_servoRegs (s : State) : servoRegs (armImage s) = servoRegs s := by
  unfold armImage
  refine servoRegs_foldl _ _ s fun s e => ?_
  split
  · rfl
  · dsimp only
    split
    · exact submit_servoRegs _ _ _ s
    · rfl

@[simp] theorem leaveNever_servoRegs (was : TQState) (s : State) : servoRegs (leaveNever was s) = servoRegs s := by
  unfold leaveNever
  split
  · exact armImage_servoRegs _
  · rfl

/-- A change of TD1's quality leaves TD1's counter, increment and slew. -/
theorem setQual_servoRegs (q : TQState) (c : Nat) (tell : Bool) (s : State) : servoRegs (setQual q c tell s) =
    (s.tu.d0, { s.tu.d1 with qst := q, cls := c }, s.tu.capQ, s.tu.kickExpired, s.tu.kickFired) := by
  unfold setQual
  rw [checkRoles_servoRegs, noteSync_servoRegs]
  repeat' split
  all_goals first | rw [submit_servoRegs] ; rfl | rfl


@[simp] theorem launchesAcross_servoRegs (old new : Nat) (s : State) : servoRegs (launchesAcross old new s) = servoRegs s := by
  unfold launchesAcross
  refine servoRegs_foldl _ _ s fun s x => ?_
  have told := fun v n next a => servoRegs_of_only (submitParts_only .time 0x1009 v [skipPart n next 1] a) (by simp)
  have moved := fun f => (rfl : servoRegs (updLaunch x.num f s) = servoRegs s)
  dsimp only
  repeat' split
  · exact (told _ _ _ _).trans (moved _)
  · rfl
  · exact (told _ _ _ _).trans (moved _)
  · exact moved _

@[simp] theorem gridStep_servoRegs (first : Bool) (off : Int) (s : State) : servoRegs (gridStep first off s) = servoRegs s := by
  unfold gridStep gridCheck
  dsimp only
  split
  · rw [servoRegs_of_only (fireDet_only _ _ _ _) (by simp)]
    rfl
  · rfl

/-- A step of TD1 moves its counter and its epoch (R129). -/
theorem applyStep_td1_servoRegs (off : Int) (cause : Nat) (s : State) : servoRegs (applyStep 1 off cause s) =
    (s.tu.d0, { s.tu.d1 with t := ((s.tu.d1.t : Int) + off).toNat, epoch := wrapInc 16 s.tu.d1.epoch }, s.tu.capQ,
      s.tu.kickExpired, s.tu.kickFired) := by
  unfold applyStep
  rw [if_pos rfl, noteSync_servoRegs, gridStep_servoRegs, launchesAcross_servoRegs,
    servoRegs_of_only (recFlags_only _ _) (by simp), servoRegs_of_only (recMark_only _ _ _ _) (by simp)]
  have moved := fun f l => servoRegs_of_only (fireDetOnceP_only 0x06 1 l (updDom 1 f s)) (by simp)
  split
  · exact moved _ _
  · exact moved _ _

theorem startSlew_td1_servoRegs (inc count : Nat) (s : State) : servoRegs (startSlew 1 inc count s) =
    (s.tu.d0, { s.tu.d1 with slew := inc, slewLo := inc % 2 ^ 32, slewCount := count, slewLeft := count }, s.tu.capQ,
      s.tu.kickExpired, s.tu.kickFired) := by
  unfold startSlew
  dsimp only
  split <;> rfl

theorem setInc_td1_servoRegs (inc : Nat) (s : State) : servoRegs (setInc 1 inc s) =
    (s.tu.d0, { s.tu.d1 with inc := inc, incLo := inc % 2 ^ 32 }, s.tu.capQ, s.tu.kickExpired, s.tu.kickFired) := by
  unfold setInc
  rw [saveIncs_servoRegs]
  split <;> rfl

/-- The removal of an offset, by a step or a slew, leaves TD0, TD1's increment and the queue. -/
theorem removeOffset_leaves (off : Int) (s : State) : ∃ d : Domain, d.inc = s.tu.d1.inc ∧
    servoRegs (removeOffset off s).1 = (s.tu.d0, d, s.tu.capQ, s.tu.kickExpired, s.tu.kickFired) := by
  unfold removeOffset
  split
  · refine ⟨_, ?_, applyStep_td1_servoRegs _ _ s⟩
    rfl
  · split
    · exact ⟨_, rfl, rfl⟩
    · refine ⟨_, ?_, startSlew_td1_servoRegs _ _ s⟩
      rfl

theorem lockTd1_servoRegs (k c : Nat) (s : State) : servoRegs (lockTd1 k c s) =
    (s.tu.d0, { s.tu.d1 with qst := .locked, cls := c }, s.tu.capQ, s.tu.kickExpired, s.tu.kickFired) := by
  unfold lockTd1
  rw [noteYear_servoRegs, saveIncs_servoRegs, setQual_servoRegs]
  rfl

theorem tellLocked_servoRegs (was : TQState) (v : Nat) (s : State) : servoRegs (tellLocked was v s) = servoRegs s := by
  unfold tellLocked
  split
  · rfl
  · rw [submit_servoRegs]
    split
    · rfl
    · exact servoRegs_of_tu (clearDetAll_tu _ _)

/-- A servo update locks TD1 and leaves TD0, TD1's increment and the queue. -/
theorem servoUpdate_leaves (off : Int) (s : State) : ∃ d : Domain, d.inc = s.tu.d1.inc ∧ d.qst = .locked ∧
    servoRegs (servoUpdate off s) = (s.tu.d0, d, s.tu.capQ, s.tu.kickExpired, s.tu.kickFired) := by
  obtain ⟨d, hd, hr⟩ := removeOffset_leaves off s
  generalize hm : (removeOffset off s).1 = m at hr
  refine ⟨{ d with qst := .locked, cls := updateClass off s }, hd, rfl, ?_⟩
  obtain ⟨h0, h1, hq, he, hf⟩ := servoRegs_inv hr
  rw [servoUpdate_eq, leaveNever_servoRegs, tellLocked_servoRegs, lockTd1_servoRegs, hm, h0, h1, hq, he, hf]

/-! The ticks of a slew (R125, R128). -/

theorem advDom_left (k : Nat) (d : Domain) : (advDom k d).slewLeft = d.slewLeft - k := by
  unfold advDom
  dsimp only
  omega

/-- The ticks that are left of a slew are counted with its increment. -/
theorem advDom_slew_ends (d : Domain) : (advDom d.slewLeft d).slewLeft = 0 ∧
    (advDom d.slewLeft d).t = d.t + d.slewLeft * d.slew := by
  simp [advDom]

theorem noteSync_dom (s : State) (n : Nat) : dom (noteSync s) n = dom s n := by
  obtain ⟨h, hs⟩ := noteSync_eq s
  rw [hs]
  obtain _ | _ | _ | n := n <;> rfl

/-- The counters other than TD2 advance by their own slew and increment. -/
theorem advance_dom (k n : Nat) (s : State) (hp : s.pw.phase ≠ .off) (h2 : n ≠ 2) :
    dom (advance k s) n = advDom k (dom s n) := by
  rw [advance, if_neg hp, noteSync_dom]
  have same := noteSync_dom s
  obtain _ | _ | _ | n := n
  · exact congrArg (advDom k) (same 0)
  · exact congrArg (advDom k) (same 1)
  · exact absurd rfl h2
  · exact congrArg (advDom k) (same 3)

theorem advance_td2_slewLeft (k : Nat) (s : State) (hp : s.pw.phase ≠ .off) :
    (dom (advance k s) 2).slewLeft = (dom s 2).slewLeft - k := by
  have same : (noteSync s).tu.d2 = s.tu.d2 := noteSync_dom s 2
  rw [advance, if_neg hp, noteSync_dom, dom, dom, ← same]
  dsimp only
  split
  · rfl
  · exact advDom_left k _

theorem execSlewEnd_completes (n : Nat) (s : State) (hn : n < 4) (hp : s.pw.phase ≠ .off) :
    ∃ t, execSlewEnd n s = .next t ∧ Only [.tu] s t ∧ (dom t n).slewLeft = 0 ∧
      (n ≠ 2 → (dom t n).t = (dom s n).t + (dom s n).slewLeft * (dom s n).slew) := by
  refine ⟨_, if_neg (by omega), advance_only _ s, ?_, fun h2 => ?_⟩
  · by_cases h2 : n = 2
    · rw [h2, advance_td2_slewLeft _ s hp, Nat.sub_self]
    · rw [advance_dom _ n s hp h2, (advDom_slew_ends _).1]
  · rw [advance_dom _ n s hp h2, (advDom_slew_ends _).2]

/-! The kick and the period of the servo (R143, R144). -/

theorem fireDet_detOn (d i v : Nat) (s : State) : detOn (fireDet d i v s) d i = true := by
  unfold detOn fireDet
  dsimp only
  split
  · assumption
  · simp

/-- The kick expires: its marks, then the detector (R143). -/
def kickExpires (s : State) : State :=
  fireDet 0x05 0 5 { s with tu := { s.tu with kickExpired := true, kickFired := true } }

theorem kickExpires_tu (s : State) : (kickExpires s).tu = { s.tu with kickExpired := true, kickFired := true } :=
  fireDet_tu 0x05 0 5 _

theorem kickExpires_only (s : State) : Only [.tu, .evr, .hlt] s (kickExpires s) :=
  ((State.with_tu_only s _).of_tu (by simp)).trans ((fireDet_only 0x05 0 5 _).mono (by simp))

theorem kickExpires_detOn (s : State) : detOn (kickExpires s) 0x05 0 = true := fireDet_detOn 0x05 0 5 _

/-- An expiry in lock is a glide, whose change of quality leaves the detector in force. -/
theorem execServoKickExpiry_completes (s : State) (hr : running s = true) (ho : s.tu.kickOn = true)
    (hf : s.tu.kickFired = false) (hd : due s s.tu.kickAt (msT 250) = true) :
    ∃ t, execServoKickExpiry s = .next t ∧ Only [.tu, .evr, .hlt] s t ∧ t.tu.kickExpired = true ∧ t.tu.kickFired = true ∧
      detOn t 0x05 0 = true ∧ t.tu.d1 = { s.tu.d1 with qst := if s.tu.d1.qst = .locked then .glide else s.tu.d1.qst } := by
  have hp : s.pw.phase = .running := by simpa [running] using hr
  have htu := kickExpires_tu s
  have hx : execServoKickExpiry s = .next (if (kickExpires s).tu.d1.qst = .locked then
      setQual .glide (kickExpires s).tu.d1.cls false (kickExpires s) else kickExpires s) :=
    if_pos ⟨ho, by simp [hf], .inl hp, hd⟩
  rw [hx, htu]
  by_cases hl : s.tu.d1.qst = .locked
  · have hq := setQual_only .glide s.tu.d1.cls false (kickExpires s)
    have hh : (setQual .glide s.tu.d1.cls false (kickExpires s)).hlt = (kickExpires s).hlt := (hq .hlt).resolve_left (by simp)
    obtain ⟨-, h1, -, he, hf⟩ := servoRegs_inv (setQual_servoRegs .glide s.tu.d1.cls false (kickExpires s))
    rw [htu] at h1 he hf
    simp only [hl, if_true]
    refine ⟨_, rfl, (kickExpires_only s).trans (hq.mono (by simp)), he, hf, ?_, h1⟩
    rw [detOn, hh]
    exact kickExpires_detOn s
  · simp only [hl, if_false]
    exact ⟨_, rfl, kickExpires_only s, by rw [htu], by rw [htu], kickExpires_detOn s, by rw [htu]⟩

/-- A period without an active source drains the queue and kicks. -/
theorem servoPeriod_without_source (inc : Nat) (offset : Int) (s : State) (hr : servoRuns s = true) (ha : s.tu.active = 0) :
    execServoPeriod inc offset s = .next (kick { s with tu := { s.tu with capQ := [] } }) := by
  unfold execServoPeriod
  rw [if_neg (by simp [hr])]
  exact congrArg (fun t => Host.Outcome.next (kick t)) (if_pos ha)

/-- The rate of a period with an active source: the base increment, and its share in the mean that TD0 learns from. -/
def writeRate (inc : Nat) (s : State) : State :=
  let s := setInc 1 (clampInc inc) { s with tu := { s.tu with capQ := [] } }
  { s with tu := { s.tu with incMean := (s.tu.incMean.1 + clampInc inc, s.tu.incMean.2 + 1) } }

theorem servoPeriod_with_source (inc : Nat) (offset : Int) (s : State) (hr : servoRuns s = true) (ha : s.tu.active ≠ 0) :
    execServoPeriod inc offset s = .next (kick (servoUpdate (offset * 2 ^ 24) (writeRate inc s))) := by
  unfold execServoPeriod
  rw [if_neg (by simp [hr])]
  exact congrArg (fun t => Host.Outcome.next (kick t)) (if_neg ha)

theorem servoRegs_incMean (s : State) (v : Nat × Nat) :
    servoRegs { s with tu := { s.tu with incMean := v } } = servoRegs s := rfl

theorem writeRate_only (inc : Nat) (s : State) : Only [.tu] s (writeRate inc s) := by
  unfold writeRate
  exact ((State.with_tu_only s _).trans (setInc_only 1 _ _)).trans (State.with_tu_only _ _)

theorem writeRate_servoRegs (inc : Nat) (s : State) : servoRegs (writeRate inc s) =
    (s.tu.d0, { s.tu.d1 with inc := clampInc inc, incLo := clampInc inc % 2 ^ 32 }, [], s.tu.kickExpired, s.tu.kickFired) :=
  (servoRegs_incMean _ _).trans (setInc_td1_servoRegs (clampInc inc) { s with tu := { s.tu with capQ := [] } })

theorem execServoPeriod_completes (inc : Nat) (offset : Int) (s : State) (hr : servoRuns s = true) :
    ∃ t, execServoPeriod inc offset s = .next t ∧ Only [.tu, .evr, .hlt, .dr] s t ∧ t.tu.capQ = [] ∧
      t.tu.kickAt = td0 s ∧ t.tu.kickFired = false ∧ (s.tu.active = 0 → t.tu.d1 = s.tu.d1) ∧
      (s.tu.active ≠ 0 → t.tu.d1.inc = clampInc inc ∧ t.tu.d1.qst = .locked) := by
  by_cases ha : s.tu.active = 0
  · exact ⟨_, servoPeriod_without_source inc offset s hr ha,
      ((State.with_tu_only s _).trans (kick_only _)).of_tu (by simp), rfl, rfl, rfl, fun _ => rfl, fun h => absurd ha h⟩
  · obtain ⟨d, hi, hq, hu⟩ := servoUpdate_leaves (offset * 2 ^ 24) (writeRate inc s)
    obtain ⟨hw0, hw1, hwq, -, -⟩ := servoRegs_inv (writeRate_servoRegs inc s)
    obtain ⟨hu0, hu1, huq, -, -⟩ := servoRegs_inv hu
    refine ⟨_, servoPeriod_with_source inc offset s hr ha, ?_, huq.trans hwq, congrArg Domain.t (hu0.trans hw0), rfl,
      fun h => absurd h ha, fun _ => ⟨?_, (congrArg Domain.qst hu1).trans hq⟩⟩
    · exact (((writeRate_only inc s).of_tu (by simp)).trans (servoUpdate_only _ _)).trans ((kick_only _).of_tu (by simp))
    · exact (congrArg Domain.inc hu1).trans (hi.trans (congrArg Domain.inc hw1))

/-! Learning, the class in glide, the leap second, REF_IN and TD2 (R127, R139, R144 to R148). -/

theorem setInc_td0_servoRegs (inc : Nat) (s : State) : servoRegs (setInc 0 inc s) =
    ({ s.tu.d0 with inc := inc, incLo := inc % 2 ^ 32 }, s.tu.d1, s.tu.capQ, s.tu.kickExpired, s.tu.kickFired) := by
  unfold setInc
  rw [saveIncs_servoRegs]
  rfl

theorem learnModel_servoRegs (m : Nat) (s : State) : servoRegs (learnModel m s) = servoRegs s := rfl

theorem learnModel_only (m : Nat) (s : State) : Only [.tu] s (learnModel m s) := fun p => by
  cases p <;> simp [learnModel, freshNat, Same]

/-- What a learning writes: to TD0 where the mean is in range, and to the model of the oscillator. -/
def learn (inRange : Bool) (m : Nat) (s : State) : State := learnModel m (if inRange then setInc 0 m s else s)

theorem learn_only (b : Bool) (m : Nat) (s : State) : Only [.tu] s (learn b m s) :=
  (Only.ite _ (setInc_only 0 m s) (Only.refl _ s)).trans (learnModel_only m _)

theorem learn_servoRegs (b : Bool) (m : Nat) (s : State) : servoRegs (learn b m s) =
    (if b then { s.tu.d0 with inc := m, incLo := m % 2 ^ 32 } else s.tu.d0, s.tu.d1, s.tu.capQ, s.tu.kickExpired,
      s.tu.kickFired) := by
  rw [learn, learnModel_servoRegs]
  split
  · exact setInc_td0_servoRegs m s
  · rfl

/-- A learning at the instant `td0 s`. The range test is a variable here, so that no proof evaluates its arithmetic. -/
theorem learn_completes (b : Bool) (m : Nat) (s : State) (t : State)
    (ht : t = { learn b m s with tu := { (learn b m s).tu with learnAt := td0 (learn b m s), incMean := (0, 0) } }) :
    Only [.tu] s t ∧ t.tu.learnAt = td0 s ∧ t.tu.incMean = (0, 0) ∧
      t.tu.d0 = (if b then { s.tu.d0 with inc := m, incLo := m % 2 ^ 32 } else s.tu.d0) ∧ t.tu.d1 = s.tu.d1 := by
  obtain ⟨h0, h1, -, -, -⟩ := servoRegs_inv (learn_servoRegs b m s)
  have hd : td0 (learn b m s) = td0 s := by
    rw [td0, h0]
    split <;> rfl
  subst ht
  exact ⟨(learn_only b m s).trans (State.with_tu_only _ _), hd, rfl, h0, h1⟩

theorem execInc0Learn_due (m : Nat) (s : State) (hr : servoRuns s = true) (hl : s.tu.d1.qst = .locked)
    (hd : due s s.tu.learnAt (secT 1000) = true) (hn : s.tu.incMean.2 ≠ 0) (hm : s.tu.incMean.1 / s.tu.incMean.2 = m) :
    execInc0Learn s = .next { learn (incOk 200 m) m s with
      tu := { (learn (incOk 200 m) m s).tu with learnAt := td0 (learn (incOk 200 m) m s), incMean := (0, 0) } } := by
  delta execInc0Learn
  rw [if_pos ⟨hr, hl, hd, hn⟩, hm]
  delta learn
  with_reducible rfl

theorem execInc0Learn_completes (m : Nat) (s : State) (hr : servoRuns s = true) (hl : s.tu.d1.qst = .locked)
    (hd : due s s.tu.learnAt (secT 1000) = true) (hn : s.tu.incMean.2 ≠ 0) (hm : m = s.tu.incMean.1 / s.tu.incMean.2) :
    ∃ t, execInc0Learn s = .next t ∧ Only [.tu] s t ∧ t.tu.learnAt = td0 s ∧ t.tu.incMean = (0, 0) ∧
      t.tu.d0 = (if incOk 200 m then { s.tu.d0 with inc := m, incLo := m % 2 ^ 32 } else s.tu.d0) ∧ t.tu.d1 = s.tu.d1 :=
  ⟨_, execInc0Learn_due m s hr hl hd hn hm.symm, learn_completes (incOk 200 m) m s _ rfl⟩

/-- A change of quality in a row of glide: the event recorder and the time unit alone, and TD1 keeps its counter. -/
theorem setQual_completes (q : TQState) (c : Nat) (s : State) : Only [.tu, .evr] s (setQual q c true s) ∧
    (setQual q c true s).tu.d1 = { s.tu.d1 with qst := q, cls := c } := by
  obtain ⟨-, h1, -, -, -⟩ := servoRegs_inv (setQual_servoRegs q c true s)
  exact ⟨setQual_only q c true s, h1⟩

theorem execTimeClass_completes (dTemp : Nat) (s : State) (hg : s.tu.d1.qst = .glide) (hc : clsOf (glideError s dTemp) ≤ 7) :
    ∃ t, execTimeClass dTemp s = .next t ∧ Only [.tu, .evr] s t ∧
      t.tu.d1 = { s.tu.d1 with cls := clsOf (glideError s dTemp) } := by
  obtain ⟨ho, h1⟩ := setQual_completes .glide (clsOf (glideError s dTemp)) s
  exact ⟨_, (if_pos hg).trans (if_pos hc), ho, by rw [h1, ← hg]⟩

theorem execGlideToFree_completes (dTemp : Nat) (s : State) (hg : s.tu.d1.qst = .glide) (he : msT 100 < glideError s dTemp) :
    ∃ t, execGlideToFree dTemp s = .next t ∧ Only [.tu, .evr] s t ∧ t.tu.d1 = { s.tu.d1 with qst := .free, cls := 15 } := by
  obtain ⟨ho, h1⟩ := setQual_completes .free 15 s
  exact ⟨_, if_pos ⟨hg, he⟩, ho, h1⟩

theorem execUtcOffsetChange_completes (n : Int) (s : State)
    (hn : s.tu.utcPending = 1 ∧ n = sgn 16 s.tu.utcOffset + 1 ∨ s.tu.utcPending = 2 ∧ n = sgn 16 s.tu.utcOffset - 1)
    (hd : ((secOf (td1 s) : Int) - n) % 86400 = 0) :
    execUtcOffsetChange s = .next (submit .time 0x100D (unsgn 32 n)
      { s with tu := { s.tu with utcOffset := unsgn 16 n, utcPending := 0 } }) := by
  unfold execUtcOffsetChange
  obtain ⟨hp, rfl⟩ | ⟨hp, rfl⟩ := hn
  · simp [hp, hd]
  · simp [hp, hd]

theorem execTd2Servo_completes (inc slew count : Nat) (s : State) (hf : td2Follows s = false) (hi : incOk 40 inc = true)
    (hs : incOk 40 slew = true) (hc : count < 2 ^ 32) :
    ∃ t, execTd2Servo inc slew count s = .next t ∧ Only [.tu] s t ∧ t.tu.d1 = s.tu.d1 ∧
      t.tu.d2 = { s.tu.d2 with
        inc := inc, incLo := inc % 2 ^ 32, slew := slew, slewLo := slew % 2 ^ 32, slewCount := count, slewLeft := count } := by
  refine ⟨_, if_pos ⟨by simp [hf], hi, hs, hc⟩, (setInc_only 2 inc s).trans (startSlew_only 2 slew count _), ?_, ?_⟩
  all_goals
    simp only [startSlew, setInc, saveIncs, updDom]
    repeat' split
    all_goals rfl

/-- Settles O29, row by row. -/
theorem servoAndQualityRowsComplete : Obligations.ServoAndQualityRowsComplete := by
  refine ⟨execSlewEnd_completes, execServoKickExpiry_completes, execServoPeriod_completes, execInc0Learn_completes,
    fun dTemp s hg => ⟨execTimeClass_completes dTemp s hg, execGlideToFree_completes dTemp s hg⟩, execUtcOffsetChange_completes,
    fun s hp hl => if_pos ⟨hp, by simp [hl]⟩, fun s hl => if_pos hl, execTd2Servo_completes⟩

end Sys2Proof.Machine
end

section
/-! PROOFS. Submission of an event (R27, R95, R515); the monitors, the die temperature and the memory errors (R34, R488, R607,
R627 to R631). -/

namespace Sys2Proof.Machine
open Sys2Proof

/-! Submission of an event. -/

theorem emit_before_start (b : Block) (e : Event) (s : State) (h : s.evr.started = false) :
    emit b e s = { s with evr := { s.evr with held := s.evr.held ++ [{ e with held := true }] } } := by simp [emit, h]

theorem emit_queued (b : Block) (e : Event) (s : State) (h : s.evr.started = true)
    (hq : (s.evr.subq.filter (·.1 == b)).length < 16) :
    emit b e s = { s with evr := { s.evr with subq := s.evr.subq ++ [(b, { e with sub := td0 s })] } } := by
  rw [emit, if_neg (by simp [h]), if_neg (by omega)]

theorem emit_dropped (b : Block) (e : Event) (s : State) (h : s.evr.started = true)
    (hq : 16 ≤ (s.evr.subq.filter (·.1 == b)).length) : emit b e s = dropEvent e s := by
  rw [emit, if_neg (by simp [h]), if_pos hq]

/-- Settles O7: the three branches of a submission. -/
theorem submittedEventIsHeldDroppedOrQueued : Obligations.SubmittedEventIsHeldDroppedOrQueued := by
  refine fun b e s => ⟨emit_only b e s, fun h => ?_, fun h hq => ?_, fun h hq => ?_⟩
  · rw [emit_before_start b e s h]
  · rw [emit_queued b e s h hq]
  · rw [emit_dropped b e s h hq]
    exact ⟨rfl, rfl, rfl, rfl, rfl⟩

/-! Folds, and the registers of a file (`putAt`). -/

/-- A fold keeps what each of its steps keeps. -/
theorem foldl_keeps {σ α β : Type} (k : σ → β) (g : σ → α → σ) (l : List α) (s : σ) (h : ∀ s a, k (g s a) = k s) :
    k (l.foldl g s) = k s := by
  induction l generalizing s with
  | nil => rfl
  | cons a l ih => rw [List.foldl_cons, ih, h]

theorem padSet_getD_same {α : Type} [Inhabited α] (l : List α) (i : Nat) (v d : α) : (padSet l i v).getD i d = v := by
  induction l generalizing i with
  | nil =>
    induction i with
    | zero => rfl
    | succ i ih => exact ih
  | cons x xs ih =>
    cases i with
    | zero => rfl
    | succ i => exact ih i

theorem padSet_getD_ne {α : Type} [Inhabited α] (l : List α) (i j : Nat) (v : α) (h : j ≠ i) :
    (padSet l i v).getD j default = l.getD j default := by
  induction l generalizing i j with
  | nil =>
    induction i generalizing j with
    | zero =>
      cases j with
      | zero => exact absurd rfl h
      | succ j => rfl
    | succ i ih =>
      cases j with
      | zero => rfl
      | succ j => exact ih j (by omega)
  | cons x xs ih =>
    cases i with
    | zero =>
      cases j with
      | zero => exact absurd rfl h
      | succ j => rfl
    | succ i =>
      cases j with
      | zero => rfl
      | succ j => exact ih i j (by omega)

theorem putAt_getD_same {α : Type} [Inhabited α] (n : Nat) (l : List α) (i : Nat) (v d : α) (h : i < n) :
    (putAt n l i v).getD i d = v := by rw [putAt, if_pos h, padSet_getD_same]

theorem putAt_getD_ne {α : Type} [Inhabited α] (n : Nat) (l : List α) (i j : Nat) (v : α) (h : j ≠ i) :
    (putAt n l i v).getD j default = l.getD j default := by
  unfold putAt
  split
  · exact padSet_getD_ne l i j v h
  · rfl

/-! Frames of the health unit's operations. -/

theorem Only.of_hlt {ps : List Part} {s t : State} (h : Only [.hlt] s t) (k : Part.hlt ∈ ps) : Only ps s t :=
  h.mono (by simpa using k)

theorem updMon_only (m : Nat) (f : Monitor → Monitor) (s : State) : Only [.hlt] s (updMon m f s) := State.with_hlt_only s _

theorem monOf_updMon (m : Nat) (f : Monitor → Monitor) (s : State) (h : m < 10) : monOf (updMon m f s) m = f (monOf s m) :=
  putAt_getD_same 10 s.hlt.mon m _ _ h

theorem monValue_only (m : Nat) (v : Int) (low : Bool) (s : State) : Only [.hlt, .evr] s (monValue m v low s) :=
  Only.trans_ite _ ((updMon_only m _ s).of_hlt (by simp)) ((submit_only _ _ _ _).of_evr (by simp))

/-- A value taken changes one monitor alone in the health unit. -/
theorem monValue_hlt (m : Nat) (v : Int) (low : Bool) (s : State) : (monValue m v low s).hlt =
    (updMon m (fun x => { x with value := v, high := monBeyond m v || (m == 5 && low) }) s).hlt := by
  unfold monValue
  dsimp only
  split
  · exact submit_hlt ..
  · rfl

theorem monOf_monValue (m : Nat) (v : Int) (low : Bool) (s : State) (h : m < 10) : (monOf (monValue m v low s) m).value = v := by
  rw [monOf, monValue_hlt]
  exact congrArg Monitor.value (monOf_updMon m _ s h)

/-- What a sample leaves of the health unit: the temperatures, the detectors and the instants. -/
def healthRegs (s : State) : Int × Nat × List (Nat × Nat) × Nat × List Inj :=
  (s.hlt.dieTemp, s.hlt.dieHigh, s.hlt.active, s.hlt.sampleAt, s.hlt.inj)

theorem healthRegs_inv {s : State} {temp : Int} {high at_ : Nat} {act : List (Nat × Nat)} {inj : List Inj}
    (h : healthRegs s = (temp, high, act, at_, inj)) :
    s.hlt.dieTemp = temp ∧ s.hlt.dieHigh = high ∧ s.hlt.active = act ∧ s.hlt.sampleAt = at_ ∧ s.hlt.inj = inj := by
  simpa only [healthRegs, Prod.mk.injEq] using h

theorem healthRegs_of_hlt {s t : State} (h : t.hlt = s.hlt) : healthRegs t = healthRegs s := by rw [healthRegs, healthRegs, h]

theorem updMon_healthRegs (m : Nat) (f : Monitor → Monitor) (s : State) : healthRegs (updMon m f s) = healthRegs s := rfl

theorem monValue_healthRegs (m : Nat) (v : Int) (low : Bool) (s : State) : healthRegs (monValue m v low s) = healthRegs s :=
  (healthRegs_of_hlt (monValue_hlt m v low s)).trans (updMon_healthRegs m _ s)

theorem monPoint_only (m : Nat) (s : State) : Only [.hlt, .evr] s (monPoint m s) := by
  have upd := fun f (s : State) => (updMon_only m f s).of_hlt (ps := [.hlt, .evr]) (by simp)
  have told := fun s => (submit_only .hlt 0xD030 m s).of_evr (ps := [.hlt, .evr]) (by simp)
  unfold monPoint
  refine Only.ite _ (Only.refl _ s) ?_
  dsimp only
  split
  · refine Only.ite _ (Only.ite _ ((upd _ s).trans (upd _ _)) (((upd _ s).trans (upd _ _)).trans (told _))) (upd _ s)
  · exact upd _ s

theorem monPoint_healthRegs (m : Nat) (s : State) : healthRegs (monPoint m s) = healthRegs s := by
  unfold monPoint
  split
  · rfl
  dsimp only
  repeat' split
  · rfl
  · exact (healthRegs_of_hlt (submit_hlt ..)).trans rfl
  all_goals rfl

theorem sampleMonitors_only (vals : List (Nat × Int × Bool)) (s : State) : Only [.hlt, .evr] s (sampleMonitors vals s) :=
  (Only.foldl _ _ vals s fun s e => monValue_only e.1 e.2.1 e.2.2 s).trans
    (Only.foldl _ _ [3, 4, 5, 6, 8] _ fun s m => monPoint_only m s)

theorem sampleMonitors_healthRegs (vals : List (Nat × Int × Bool)) (s : State) :
    healthRegs (sampleMonitors vals s) = healthRegs s :=
  (foldl_keeps healthRegs _ [3, 4, 5, 6, 8] _ fun s m => monPoint_healthRegs m s).trans
    (foldl_keeps healthRegs _ vals s fun s e => monValue_healthRegs e.1 e.2.1 e.2.2 s)

/-- A daily sample begins. -/
def sampleBegun (s : State) : State := { s with hlt := { s.hlt with sampleAt := td0 s } }

theorem execMonitorSample_due (flash mram : Nat) (low : Bool) (s : State) (hr : running s = true)
    (hd : due s s.hlt.sampleAt (secT 86400) = true) :
    execMonitorSample flash mram low s = .next (sampleMonitors (dailyValues flash mram low s) (sampleBegun s)) := by
  rw [execMonitorSample, if_neg (by simp [hr, hd])]
  rfl

theorem execMonitorSample_completes (flash mram : Nat) (low : Bool) (s : State) (hr : running s = true)
    (hd : due s s.hlt.sampleAt (secT 86400) = true) : ∃ t, execMonitorSample flash mram low s = .next t ∧
      Only [.hlt, .evr] s t ∧ t.hlt.sampleAt = td0 s := by
  have begun : Only [.hlt] s (sampleBegun s) := State.with_hlt_only s _
  obtain ⟨-, -, -, ht, -⟩ := healthRegs_inv (sampleMonitors_healthRegs (dailyValues flash mram low s) (sampleBegun s))
  exact ⟨_, execMonitorSample_due flash mram low s hr hd, (begun.of_hlt (by simp)).trans (sampleMonitors_only _ _), ht⟩

/-! The die temperature (R628). -/

/-- The die temperature as taken. -/
def dieTaken (temp : Int) (s : State) : State := monValue 0 (temp * 100000) false { s with hlt := { s.hlt with dieTemp := temp } }

theorem dieTaken_only (temp : Int) (s : State) : Only [.hlt, .evr] s (dieTaken temp s) :=
  ((State.with_hlt_only s _).of_hlt (by simp)).trans (monValue_only _ _ _ _)

theorem dieTaken_healthRegs (temp : Int) (s : State) :
    healthRegs (dieTaken temp s) = (temp, s.hlt.dieHigh, s.hlt.active, s.hlt.sampleAt, s.hlt.inj) :=
  monValue_healthRegs 0 (temp * 100000) false { s with hlt := { s.hlt with dieTemp := temp } }

/-- The die temperature's stage: 0 normal, 1 above 120 degrees, 2 above 130. -/
def setDie (n : Nat) (s : State) : State := { s with hlt := { s.hlt with dieHigh := n } }

theorem setDie_only (n : Nat) (s : State) : Only [.hlt, .evr] s (setDie n s) := (State.with_hlt_only s _).of_hlt (by simp)

theorem fireDet_hlt (d i v : Nat) (s : State) : (fireDet d i v s).hlt = { s.hlt with
    active := if s.hlt.active.contains (d, i) then s.hlt.active else s.hlt.active ++ [(d, i)] } := by simp [fireDet]

theorem execDieTempHigh_above (temp : Int) (s : State) (hr : running s = true) (hi : injOn s 0x23 0 = false)
    (hl : 1200 < temp) (hu : temp ≤ 1300) (hd : s.hlt.dieHigh = 0) :
    execDieTempHigh temp s = .next (fireDet 0x23 0 1 (setDie 1 (dieTaken temp s))) := by
  obtain ⟨-, hz, -, -, -⟩ := healthRegs_inv (dieTaken_healthRegs temp s)
  have high : execDieTempHigh temp s = .next (
      let s := if 1200 < temp ∧ (dieTaken temp s).hlt.dieHigh = 0 then fireDet 0x23 0 1 (setDie 1 (dieTaken temp s))
        else dieTaken temp s
      if 1300 < temp ∧ s.hlt.dieHigh = 1 then fireDet 0x23 0 2 (setDie 2 s) else s) := by
    rw [execDieTempHigh, if_neg (by simp [hr]), hi]
    rfl
  rw [high, if_pos (c := 1200 < temp ∧ _) ⟨hl, hz.trans hd⟩]
  exact congrArg Host.Outcome.next (if_neg fun h => absurd h.1 (by omega))

theorem execDieTempHigh_completes (temp : Int) (s : State) (hr : running s = true) (hi : injOn s 0x23 0 = false)
    (hl : 1200 < temp) (hu : temp ≤ 1300) (hd : s.hlt.dieHigh = 0) : ∃ t, execDieTempHigh temp s = .next t ∧
      Only [.hlt, .evr] s t ∧ t.hlt.dieTemp = temp ∧ t.hlt.dieHigh = 1 ∧ (0x23, 0) ∈ t.hlt.active := by
  obtain ⟨ht, -, -, -, -⟩ := healthRegs_inv (dieTaken_healthRegs temp s)
  refine ⟨_, execDieTempHigh_above temp s hr hi hl hu hd, ?_, ?_, ?_, ?_⟩
  · exact ((dieTaken_only temp s).trans (setDie_only 1 _)).trans ((fireDet_only _ _ _ _).mono (by simp))
  · rw [fireDet_hlt]
    exact ht
  · rw [fireDet_hlt]
    rfl
  · exact List.contains_iff_mem.mp (fireDet_detOn 0x23 0 1 _)

theorem execDieTempNormal_below (temp : Int) (s : State) (hr : running s = true) (hi : injOn s 0x23 0 = false)
    (hl : temp < 1150) (hd : s.hlt.dieHigh = 1) :
    execDieTempNormal temp s = .next (clearDetAll 0x23 (setDie 0 (dieTaken temp s))) := by
  obtain ⟨-, hz, -, -, -⟩ := healthRegs_inv (dieTaken_healthRegs temp s)
  have normal : execDieTempNormal temp s = .next (
      let s := if temp < 1250 ∧ (dieTaken temp s).hlt.dieHigh = 2 then setDie 1 (dieTaken temp s) else dieTaken temp s
      if temp < 1150 ∧ s.hlt.dieHigh = 1 then clearDetAll 0x23 (setDie 0 s) else s) := by
    rw [execDieTempNormal, if_neg (by simp [hr, hi])]
    rfl
  rw [normal, if_neg (c := temp < 1250 ∧ _) (by omega)]
  exact congrArg Host.Outcome.next (if_pos ⟨hl, hz.trans hd⟩)

theorem execDieTempNormal_completes (temp : Int) (s : State) (hr : running s = true) (hi : injOn s 0x23 0 = false)
    (hl : temp < 1150) (hd : s.hlt.dieHigh = 1) : ∃ t, execDieTempNormal temp s = .next t ∧
      Only [.hlt, .evr] s t ∧ t.hlt.dieTemp = temp ∧ t.hlt.dieHigh = 0 ∧ ∀ i, (0x23, i) ∉ t.hlt.active := by
  obtain ⟨ht, -, -, -, -⟩ := healthRegs_inv (dieTaken_healthRegs temp s)
  exact ⟨_, execDieTempNormal_below temp s hr hi hl hd,
    ((dieTaken_only temp s).trans (setDie_only 0 _)).trans ((clearDetAll_only _ _).of_hlt (by simp)), ht, rfl,
    fun i => by simp [clearDetAll]⟩

theorem execMonitorLimitCrossed_die (value : Int) (s : State) (hr : running s = true) :
    ∃ t, execMonitorLimitCrossed 0 value s = .next t ∧ Only [.hlt, .evr] s t ∧ t.hlt.dieTemp = value / 100000 ∧
      (monOf t 0).value = value := by
  have hk := monValue_healthRegs 0 value false { s with hlt := { s.hlt with dieTemp := value / 100000 } }
  obtain ⟨ht, -, -, -, -⟩ := healthRegs_inv hk
  exact ⟨_, if_neg (by simp [hr]), ((State.with_hlt_only s _).of_hlt (by simp)).trans (monValue_only _ _ _ _), ht,
    monOf_monValue 0 value false _ (by decide)⟩

/-! Memory errors (R34, R488, R607, R628). -/

theorem freshNat_only (s : State) : Only [.tu] s (freshNat s).2 := State.with_tu_only s _

theorem fireDetFree_only (d : Nat) (s : State) : Only [.tu, .evr, .hlt] s (fireDetFree d s) :=
  ((freshNat_only s).of_tu (by simp)).trans ((fireDetOnce_only _ _ _).mono (by simp))

theorem fireDetOnce_momentary (d v : Nat) (s : State) : (d, td0 s) ∈ (fireDetOnce d v s).hlt.momentary := by
  have h0 : ∀ b e, td0 (emit b e s) = td0 s := fun b e => by rw [td0, emit_tu, td0]
  simp [fireDetOnce, fireDetOnceP, h0]

theorem fireDetFree_momentary (d : Nat) (s : State) : (d, td0 s) ∈ (fireDetFree d s).hlt.momentary :=
  fireDetOnce_momentary d _ (freshNat s).2

theorem fireDetFree_fresh (d : Nat) (s : State) : (fireDetFree d s).tu.fresh = s.tu.fresh + 1 := by
  simp [fireDetFree, freshNat]

theorem fireDetFree_same (d : Nat) (s : State) (p : Part) (h : p ∉ [.tu, .evr, .hlt]) : Same p s (fireDetFree d s) :=
  (fireDetFree_only d s p).resolve_left h

theorem execEccSram_corrected (core lo hi : Nat) (s : State) (hf : firmwareUp s = true) :
    execEccSram 0 core lo hi s = .next { s with hlt := { s.hlt with eccSram := satInc 16 s.hlt.eccSram } } :=
  if_neg (by simp [hf])

/-- An uncorrectable error of capture RAM loses the slots that it held (R628). -/
theorem execEccSram_capture (core lo hi : Nat) (s : State) (hf : firmwareUp s = true) :
    ∃ t, execEccSram 2 core lo hi s = .next t ∧ Only [.dr, .tu, .hlt, .evr] s t ∧
      t.dr.prot = spoil lo hi s.dr.prot ∧ t.dr.high = spoil lo hi s.dr.high ∧ (0x09, td0 s) ∈ t.hlt.momentary := by
  have hd : (fireDetFree 0x09 s).dr = s.dr := fireDetFree_same 0x09 s .dr (by simp)
  refine ⟨_, if_neg (by simp [hf]), ?_, ?_, ?_, fireDetFree_momentary 0x09 s⟩
  · exact ((fireDetFree_only 0x09 s).mono (by simp)).trans ((State.with_dr_only _ _).mono (by simp))
  · exact congrArg (fun r : Dr => spoil lo hi r.prot) hd
  · exact congrArg (fun r : Dr => spoil lo hi r.high) hd

theorem setMode_le (m : LeMode) (c : Nat) (s : State) :
    (setMode m c s).le.mode = m ∧ (setMode m c s).le.prev = s.le.mode.toNat ∧ (setMode m c s).le.cause = c := by
  simp [setMode, markDirty]

theorem enterSafe_le (s : State) :
    (enterSafe s).le.mode = .safe ∧ (enterSafe s).le.prev = s.le.mode.toNat ∧ (enterSafe s).le.cause = 2 :=
  setMode_le .safe 2 (abandon (syncClk s))

/-- An uncorrectable error of the logic's run-time state enters SAFE (R628). -/
theorem execEccSram_logic (core lo hi : Nat) (s : State) (hf : firmwareUp s = true) (hs : s.le.sec.isSome = true) :
    ∃ t, execEccSram 5 core lo hi s = .next t ∧ t.le.mode = .safe ∧ t.le.prev = s.le.mode.toNat ∧ t.le.cause = 2 := by
  have hl : (fireDetFree 0x09 s).le = s.le := fireDetFree_same 0x09 s .le (by simp)
  refine ⟨_, (if_neg (by simp [hf])).trans (congrArg Host.Outcome.next (if_pos hs)), ?_⟩
  rw [← hl]
  exact enterSafe_le (fireDetFree 0x09 s)

theorem execEccMram_corrected (copies : Nat) (s : State) (hf : firmwareUp s = true) :
    execEccMram 0 copies s = .next { s with hlt := { s.hlt with eccMram := satInc 16 s.hlt.eccMram } } :=
  if_neg (by simp [hf])

/-- The region with both copies failed (R607). -/
theorem secRegion_lost (copies : Nat) (s : State) (h : 2 ≤ copies) : secRegion copies s =
    submit .sec 0xC008 2 { s with sec := { s.sec with
      lost := true, keys := s.sec.keys.filter (fun (k : Key4) => !(decide (1 ≤ k.kind) && decide (k.kind ≤ 3))), counters := []
      attCnt := s.sec.attMark, attMark := s.sec.attMark + 65536 } } := by
  rw [secRegion, if_neg (by omega), if_neg (by omega)]

theorem execEccMram_security (copies : Nat) (s : State) (hf : firmwareUp s = true) (hc : 2 ≤ copies) :
    ∃ t, execEccMram 1 copies s = .next t ∧ Only [.sec, .tu, .hlt, .evr] s t ∧ t.sec.lost = true ∧
      t.sec.counters = [] ∧ t.sec.attCnt = s.sec.attMark ∧ (0x0A, td0 s) ∈ t.hlt.momentary := by
  have hs : (fireDetFree 0x0A s).sec = s.sec := fireDetFree_same 0x0A s .sec (by simp)
  refine ⟨_, (if_neg (by simp [hf])).trans (congrArg Host.Outcome.next (secRegion_lost copies _ hc)), ?_, ?_⟩
  · exact (((fireDetFree_only 0x0A s).mono (by simp)).trans ((State.with_sec_only _ _).mono (by simp))).trans
      ((submit_only _ _ _ _).of_evr (by simp))
  · rw [submit_sec, submit_hlt]
    exact ⟨rfl, rfl, congrArg Sec.attMark hs, fireDetFree_momentary 0x0A s⟩

theorem execFlashErr_completes (s : State) (hf : firmwareUp s = true) : ∃ t, execFlashErr s = .next t ∧
    Only [.tu, .hlt, .evr] s t ∧ t.tu.fresh = s.tu.fresh + 1 ∧ (0x0B, td0 s) ∈ t.hlt.momentary :=
  ⟨_, if_neg (by simp [hf]), (fireDetFree_only 0x0B s).mono (by simp), fireDetFree_fresh 0x0B s, fireDetFree_momentary 0x0B s⟩

/-- Settles O53, row by row. -/
theorem monitorAndErrorRowsComplete : Obligations.MonitorAndErrorRowsComplete := by
  refine ⟨fun s hr => ⟨fun flash mram low hd => execMonitorSample_completes flash mram low s hr hd, fun temp hi => ⟨?_, ?_⟩,
    fun value => execMonitorLimitCrossed_die value s hr⟩,
    fun s hf => ⟨fun core lo hi => ⟨?_, ?_, ?_⟩, fun copies => ⟨?_, ?_⟩, ?_⟩⟩
  · exact fun hl hu hd => execDieTempHigh_completes temp s hr hi hl hu hd
  · exact fun hl hd => execDieTempNormal_completes temp s hr hi hl hd
  · exact execEccSram_corrected core lo hi s hf
  · exact execEccSram_capture core lo hi s hf
  · exact execEccSram_logic core lo hi s hf
  · exact execEccMram_corrected copies s hf
  · exact execEccMram_security copies s hf
  · exact execFlashErr_completes s hf

end Sys2Proof.Machine
end

section
/-! PROOFS. The ports (R27, R562 to R565, R577, R589, R597, R618): reception, ARP and ICMP, TLS connections, link and lanes. -/

namespace Sys2Proof.Machine
open Sys2Proof

/-! A port's record and the frames that leave. -/

theorem Only.of_net {ps : List Part} {s t : State} (h : Only [.net] s t) (k : Part.net ∈ ps) : Only ps s t :=
  h.mono (by simpa using k)

theorem updPort_only (p : Nat) (f : Port → Port) (s : State) : Only [.net] s (updPort p f s) := State.with_net_only s _

theorem portAt_updPort (p : Nat) (f : Port → Port) (s : State) (h : p < 3) : portAt (updPort p f s) p = f (portAt s p) :=
  putAt_getD_same 3 s.net.port p _ _ h

theorem portAt_updPort_ne (p q : Nat) (f : Port → Port) (s : State) (h : p ≠ q) : portAt (updPort q f s) p = portAt s p :=
  putAt_getD_ne 3 s.net.port q p _ h

theorem portAt_of_net {s t : State} (h : t.net = s.net) (p : Nat) : portAt t p = portAt s p := by rw [portAt, h, portAt]

theorem portTake_only (kind len : Nat) (s : State) (p : Nat) : Only [.net] s (portTake kind len s p) := updPort_only p _ s

theorem putFrame_only (kind mask : Nat) (ids vals : List Nat) (bytes : List Byte) (s : State) :
    Only [.net] s (putFrame kind mask ids vals bytes s) := by
  have taken := Only.foldl [.net] (portTake kind (frameBytes kind ids vals bytes)) (portsOf s mask) s fun s p =>
    portTake_only kind _ s p
  exact Only.ite _ taken ((Only.trans_ite _ taken (State.with_net_only _ _)).trans (State.with_net_only _ _))

theorem sendFrame_only (kind mask : Nat) (ids vals : List Nat) (bytes : List Byte) (s : State) :
    Only [.net] s (sendFrame kind mask ids vals bytes s) :=
  Only.ite _ (putFrame_only kind mask ids vals bytes s) (State.with_net_only s _)

/-- The address cache and the instant of its refreshing. -/
def arpRegs (s : State) : List (Nat × Nat × Nat) × Nat := (s.net.arp, s.net.arpAt)

theorem putFrame_arpRegs (kind mask : Nat) (ids vals : List Nat) (bytes : List Byte) (s : State) :
    arpRegs (putFrame kind mask ids vals bytes s) = arpRegs s := by
  have taken := foldl_keeps arpRegs (portTake kind (frameBytes kind ids vals bytes)) (portsOf s mask) s fun _ _ => rfl
  unfold putFrame
  dsimp only
  repeat' split
  · exact taken
  · exact taken
  · exact taken

theorem sendFrame_arpRegs (kind mask : Nat) (ids vals : List Nat) (bytes : List Byte) (s : State) :
    arpRegs (sendFrame kind mask ids vals bytes s) = arpRegs s := by
  unfold sendFrame
  split
  · exact putFrame_arpRegs kind mask ids vals bytes s
  · rfl

/-! Reception (R562, R563, R565). -/

/-- A good frame for this engine has been counted at its port. -/
def FrameCounted (f : NetFrame) (s t : State) : Prop :=
  Only [.net, .evr] s t ∧ (portAt t f.port).rxAt = td0 s ∧ (portAt t f.port).rx = satInc 32 (portAt s f.port).rx

theorem FrameCounted.with_net {f : NetFrame} {s t : State} {n : Net} (h : FrameCounted f s t) (hp : n.port = t.net.port) :
    FrameCounted f s { t with net := n } := by
  obtain ⟨ho, ha, hr⟩ := h
  have hq : portAt { t with net := n } f.port = portAt t f.port := by rw [portAt, portAt, ← hp]
  rw [← hq] at ha hr
  exact ⟨ho.trans ((State.with_net_only t n).of_net (by simp)), ha, hr⟩

/-- A change of the port's record that leaves its instant and its count of reception. -/
theorem FrameCounted.with_port {f : NetFrame} {s t : State} {g : Port → Port} (h : FrameCounted f s t) (hp : f.port < 3)
    (ha : ∀ x, (g x).rxAt = x.rxAt) (hr : ∀ x, (g x).rx = x.rx) : FrameCounted f s (updPort f.port g t) := by
  obtain ⟨ho, hat, hrx⟩ := h
  refine ⟨ho.trans ((updPort_only f.port g t).of_net (by simp)), ?_, ?_⟩
  · rw [portAt_updPort f.port g t hp, ha, hat]
  · rw [portAt_updPort f.port g t hp, hr, hrx]

theorem FrameCounted.told {f : NetFrame} {s t : State} (h : FrameCounted f s t) (b : Block) (c v : Nat) :
    FrameCounted f s (submit b c v t) := by
  obtain ⟨ho, ha, hr⟩ := h
  have hq := portAt_of_net (submit_net b c v t) f.port
  rw [← hq] at ha hr
  exact ⟨ho.trans ((submit_only b c v t).of_evr (by simp)), ha, hr⟩

theorem hsrForward_only (f : NetFrame) (s : State) : Only [.net] s (hsrForward f s) :=
  Only.ite _ (Only.refl _ s) (Only.ite _ (updPort_only _ _ s) (Only.ite _ (Only.refl _ s)
    ((State.with_net_only s _).trans (updPort_only _ _ _))))

/-- Forwarding counts nothing received at the port that the frame came in by. -/
theorem hsrForward_rx (f : NetFrame) (s : State) (hp : f.port < 3) :
    (portAt (hsrForward f s) f.port).rx = (portAt s f.port).rx := by
  unfold hsrForward
  split
  · rfl
  split
  · rw [portAt_updPort _ _ _ hp]
  split
  · rfl
  · rw [portAt_updPort_ne _ _ _ _ (by omega)]
    rfl

/-- A good frame's instant stands in its port, before it is judged. -/
def frameSeen (f : NetFrame) (s : State) : State :=
  updPort f.port (fun x => { x with
    rxAt := td0 (hsrForward f s)
    clearAt := if x.loss ∧ x.lossVal / 16 = 2 ∧ x.clearAt.isNone then some (td0 (hsrForward f s)) else x.clearAt })
    (hsrForward f s)

/-- Forwarding and the instant write the ports alone: what judges the frame is as before. -/
theorem frameSeen_eq (f : NetFrame) (s : State) : ∃ n : Net, frameSeen f s = { s with net := n } := by
  unfold frameSeen hsrForward
  repeat' split
  all_goals exact ⟨_, rfl⟩

theorem frameSeen_rx (f : NetFrame) (s : State) (hp : f.port < 3) :
    (portAt (frameSeen f s) f.port).rx = (portAt s f.port).rx := by
  rw [frameSeen, portAt_updPort _ _ _ hp]
  exact hsrForward_rx f s hp

theorem frameSeen_rxAt (f : NetFrame) (s : State) (hp : f.port < 3) : (portAt (frameSeen f s) f.port).rxAt = td0 s := by
  have hu : (hsrForward f s).tu = s.tu := ((hsrForward_only f s) .tu).resolve_left (by simp)
  have hd : td0 (hsrForward f s) = td0 s := by rw [td0, hu, td0]
  rw [frameSeen, portAt_updPort _ _ _ hp]
  exact hd

/-- The frame is counted in the port's receptions (R562). -/
def frameCount (f : NetFrame) (s : State) : State := updPort f.port (fun x => { x with rx := satInc 32 x.rx }) (frameSeen f s)

theorem frameCount_counted (f : NetFrame) (s : State) (hp : f.port < 3) : FrameCounted f s (frameCount f s) := by
  obtain ⟨n, hn⟩ := frameSeen_eq f s
  have seen : Only [.net] s (frameSeen f s) := hn ▸ State.with_net_only s n
  refine ⟨(seen.trans (updPort_only _ _ _)).of_net (by simp), ?_, ?_⟩
  · rw [frameCount, portAt_updPort _ _ _ hp]
    exact frameSeen_rxAt f s hp
  · rw [frameCount, portAt_updPort _ _ _ hp]
    exact congrArg (satInc 32) (frameSeen_rx f s hp)

theorem execNetFrameRx_bad (f : NetFrame) (s : State) (hr : running s = true) (hp : f.port < 3) (ho : portOn s f.port = true)
    (hl : (portAt s f.port).link = true) (hg : f.good = false) : ∃ t, execNetFrameRx f s = .next t ∧ Only [.net] s t ∧
      portAt t f.port = { portAt s f.port with fcs := satInc 32 (portAt s f.port).fcs } := by
  have bad : execNetFrameRx f s = .next (updPort f.port (fun x => { x with fcs := satInc 32 x.fcs }) s) := by
    rw [execNetFrameRx, if_neg (by simp [hr, ho, hl]), if_pos (by simp [hg])]
  exact ⟨_, bad, updPort_only _ _ s, portAt_updPort _ _ s hp⟩

/-- A command answers a next state with a property. -/
def Answers (P : State → Prop) (o : Res) : Prop := ∃ t, o = .next t ∧ P t

theorem Answers.next {P : State → Prop} {t : State} (h : P t) : Answers P (.next t) := ⟨t, rfl, h⟩

theorem Answers.ite {P : State → Prop} {c : Prop} [Decidable c] {a b : Res} (ha : c → Answers P a) (hb : ¬c → Answers P b) :
    Answers P (if c then a else b) := by
  split
  · exact ha ‹_›
  · exact hb ‹_›

/-- How a reception ends: a frame for the management cores is counted in their share of the second, 4 000 at most (R565). -/
def shareTaken (f : NetFrame) (s : State) : Res :=
  if !isMgmt f.kind then .next s
  else
    let sec := secOf (td0 s)
    let n := if (portAt s f.port).mgmtSec = sec then (portAt s f.port).mgmt else 0
    if n < 4000 then .next (updPort f.port (fun x => { x with mgmt := n + 1, mgmtSec := sec }) s)
    else
      let t := { s with net := { s.net with mgmtDrop := satInc 32 s.net.mgmtDrop } }
      if (portAt s f.port).limSec = some sec then .next t
      else .next (updPort f.port (fun x => { x with limSec := some sec }) (submit .net 0xA007 f.port t))

theorem shareTaken_counted {f : NetFrame} {s t : State} (h : FrameCounted f s t) (hp : f.port < 3) :
    Answers (FrameCounted f s) (shareTaken f t) := by
  refine .ite (fun _ => .next h) fun _ => .ite (fun _ => .next (h.with_port hp ?_ ?_)) fun _ =>
    .ite (fun _ => .next (h.with_net rfl)) fun _ => .next (.with_port (.told (h.with_net ?_) .net 0xA007 f.port) hp ?_ ?_)
  all_goals intros; rfl

theorem execNetFrameRx_good (f : NetFrame) (s : State) (hr : running s = true) (hp : f.port < 3) (ho : portOn s f.port = true)
    (hl : (portAt s f.port).link = true) (hg : f.good = true) (ha : accepts s f = true) (hf : f.frag = false)
    (hm : f.room = true) (hs : abMode s = 2 → f.port < 2 → f.src ≠ ownMac s) :
    Answers (FrameCounted f s) (execNetFrameRx f s) := by
  have hc := frameCount_counted f s hp
  have judged : ¬ (!accepts (frameSeen f s) f || f.frag ||
      (abMode (frameSeen f s) == 2 && f.port < 2 && f.src == ownMac (frameSeen f s))) = true := by
    obtain ⟨n, hn⟩ := frameSeen_eq f s
    have e1 : accepts (frameSeen f s) f = accepts s f := by rw [hn]; rfl
    have e2 : abMode (frameSeen f s) = abMode s := by rw [hn]; rfl
    have e3 : ownMac (frameSeen f s) = ownMac s := by rw [hn]; rfl
    rw [e1, e2, e3, ha, hf]
    simpa using hs
  have aged : FrameCounted f s (ageDup (frameCount f s)) := hc.with_net rfl
  unfold execNetFrameRx
  refine .ite (fun h => absurd h (by simp [hr, ho, hl])) fun _ => .ite (fun h => absurd h (by simp [hg])) fun _ => ?_
  refine .ite (fun h => absurd h judged) fun _ => .ite (fun h => absurd h (by simp [hm])) fun _ => ?_
  refine .ite (fun _ => .next (aged.with_net rfl)) fun _ => ?_
  split
  · exact shareTaken_counted (aged.with_net rfl) hp
  · exact shareTaken_counted aged hp

/-! ARP and ICMP (R564). -/

theorem arpSend_only (op ip : Nat) (s : State) : Only [.net] s (arpSend op ip s) := by
  unfold arpSend
  split
  · exact sendFrame_only _ _ _ _ _ s
  · exact Only.refl _ s

theorem arpSend_arpRegs (op ip : Nat) (s : State) : arpRegs (arpSend op ip s) = arpRegs s := by
  unfold arpSend
  split
  · exact sendFrame_arpRegs _ _ _ _ _ s
  · rfl

theorem arpPut_only (ip mac : Nat) (s : State) : Only [.net] s (arpPut ip mac s) := State.with_net_only s _

/-- A reply, or a request for the engine's own address, is taken. -/
theorem execArpRx_taken (request : Bool) (target ip mac : Nat) (s : State) (hr : running s = true)
    (hi : (ifPorts s).isSome = true) (hc : s.cmd.restarting = none) (ht : request = true → target = ownIp s) :
    execArpRx request target ip mac s = .next (if request then arpSend 2 ip (arpPut ip mac s) else arpPut ip mac s) := by
  have hn : (ifPorts s).isNone = false := by rw [← Option.not_isSome, hi]; rfl
  rw [execArpRx, if_neg (by simp [hr, hn, hc])]
  cases request with
  | false => rfl
  | true => exact if_pos (ht rfl)

theorem execArpRx_completes (request : Bool) (target ip mac : Nat) (s : State) (hr : running s = true)
    (hi : (ifPorts s).isSome = true) (hc : s.cmd.restarting = none) (ht : request = true → target = ownIp s) :
    ∃ t, execArpRx request target ip mac s = .next t ∧ Only [.net] s t ∧
      t.net.arp = ((ip, mac, td0 s) :: s.net.arp.filter (fun e => e.1 != ip)).take 64 := by
  refine ⟨_, execArpRx_taken request target ip mac s hr hi hc ht, ?_, ?_⟩
  · exact Only.ite _ ((arpPut_only ip mac s).trans (arpSend_only 2 ip _)) (arpPut_only ip mac s)
  · split
    · exact congrArg Prod.fst (arpSend_arpRegs 2 ip (arpPut ip mac s))
    · rfl

theorem execArpRefresh_completes (s : State) (hr : running s = true) (hi : (ifPorts s).isSome = true)
    (hd : s.net.arpAt + secT 60 ≤ td0 s) : ∃ t, execArpRefresh s = .next t ∧ Only [.net] s t ∧ t.net.arpAt = td0 s ∧
      t.net.arp = s.net.arp := by
  have hn : (ifPorts s).isNone = false := by rw [← Option.not_isSome, hi]; rfl
  have asked : ∀ (ips : List Nat) (a : State), arpRegs (ips.foldl (fun s a => arpSend 1 a s) a) = arpRegs a := fun ips a =>
    foldl_keeps arpRegs _ ips a fun s a => arpSend_arpRegs 1 a s
  have sent : ∀ (ips : List Nat) (a : State), Only [.net] a (ips.foldl (fun s a => arpSend 1 a s) a) := fun ips a =>
    Only.foldl _ _ ips a fun s a => arpSend_only 1 a s
  refine ⟨_, if_neg (by simp [hr, hn, Nat.not_lt.mpr hd]), (State.with_net_only s _).trans (sent _ _), ?_, ?_⟩
  · exact congrArg Prod.snd (asked _ _)
  · exact congrArg Prod.fst (asked _ _)

theorem execIcmpEcho_answered (ip : Nat) (bytes : List Byte) (s : State) (hr : running s = true)
    (hi : (ifPorts s).isSome = true) (hc : s.cmd.restarting = none) :
    execIcmpEcho ip bytes s = .next (sendUdp 7 ip 0 [0x0001] [] bytes s) := by
  have hn : (ifPorts s).isNone = false := by rw [← Option.not_isSome, hi]; rfl
  exact if_neg (by simp [hr, hn, hc])

/-! TLS connections (R589, R597, R618). -/

/-- A handshake that nothing refuses authenticates its connection. -/
theorem tlsHandshake_authenticated (conn : Nat) (c : TlsClient) (s : State) (hl : lockedOut .net s = false)
    (hk : s.sec.keys.any (fun (k : Key4) => k.kind == 3 && k.key == c.anchor) = true) (hs : c.sigOk = true)
    (hq : s.tu.d1.qst = .locked ∨ s.tu.d1.qst = .glide) (hb : (c.notBefore : Int) ≤ utcSec s (td1 s))
    (ha : utcSec s (td1 s) ≤ (c.notAfter : Int)) : tlsHandshake conn c s =
      { s with cmd := { s.cmd with conns := s.cmd.conns.filter (fun e => e.1 != conn) ++ [(conn, c.roles)] } } := by
  rw [tlsHandshake, if_neg (by simp [hl]), if_neg (by simp [hk]), if_neg (by simp [hs]),
    if_neg (by simpa [or_iff_not_imp_left] using hq), if_neg (by omega)]

/-- Less than a packet's head waits for more of the stream. -/
theorem tlsPackets_short (conn n : Nat) (b : List Byte) (s : State) (h : b.length < 16) : tlsPackets conn n b s =
    { s with cmd := { s.cmd with tls := s.cmd.tls.filter (fun e => e.1 != conn) ++ [(conn, b)] } } := by
  cases n with
  | zero => rfl
  | succ n => exact if_pos (.inl h)

theorem execTlsRecordRx_data (conn : Nat) (held bytes : List Byte) (s : State) (ht : takesPackets .net s = true)
    (hi : (ifPorts s).isSome = true) (hc : s.cmd.conns.any (fun e => e.1 == conn) = true)
    (hh : held = (match s.cmd.tls.find? (fun e => e.1 == conn) with | some e => e.2 | none => [])) :
    execTlsRecordRx conn none bytes s = .next (tlsPackets conn (bytes.length + 1) (held ++ bytes) s) := by
  have hn : (ifPorts s).isNone = false := by rw [← Option.not_isSome, hi]; rfl
  subst hh
  exact congrArg Host.Outcome.next ((if_neg (by simp [ht, hn])).trans (if_pos hc))

theorem execTlsRecordRx_handshake (conn : Nat) (c : TlsClient) (s : State) (ht : takesPackets .net s = true)
    (hi : (ifPorts s).isSome = true) (hl : lockedOut .net s = false)
    (hk : s.sec.keys.any (fun (k : Key4) => k.kind == 3 && k.key == c.anchor) = true) (hs : c.sigOk = true)
    (hq : s.tu.d1.qst = .locked ∨ s.tu.d1.qst = .glide) (hb : (c.notBefore : Int) ≤ utcSec s (td1 s))
    (ha : utcSec s (td1 s) ≤ (c.notAfter : Int)) (hf : s.cmd.tls.find? (fun e => e.1 == conn) = none) :
    ∃ t, execTlsRecordRx conn (some c) [] s = .next t ∧ Only [.cmd] s t ∧
      t.cmd.conns = s.cmd.conns.filter (fun e => e.1 != conn) ++ [(conn, c.roles)] := by
  have hn : (ifPorts s).isNone = false := by rw [← Option.not_isSome, hi]; rfl
  have hc := tlsHandshake_authenticated conn c s hl hk hs hq hb ha
  have known : (tlsHandshake conn c s).cmd.conns.any (fun e => e.1 == conn) = true := by simp [hc]
  have first : (tlsHandshake conn c s).cmd.tls.find? (fun e => e.1 == conn) = none := by rw [hc]; exact hf
  have authenticated : execTlsRecordRx conn (some c) [] s = .next (tlsPackets conn 1 [] (tlsHandshake conn c s)) := by
    refine congrArg Host.Outcome.next ((if_neg (by simp [ht, hn])).trans ((if_pos known).trans ?_))
    rw [first]
    rfl
  refine ⟨_, authenticated, ?_, ?_⟩
  · rw [tlsPackets_short _ _ _ _ (by decide), hc]
    exact (State.with_cmd_only s _).trans (State.with_cmd_only _ _)
  · rw [tlsPackets_short _ _ _ _ (by decide), hc]

theorem connEnd_nothing_left (conn : Nat) (s : State) : (connEnd conn s).cmd.conns.any (fun e => e.1 == conn) = false ∧
    (connEnd conn s).cmd.tls.any (fun e => e.1 == conn) = false := by simp [connEnd]

/-! Link and lanes (R577). -/

theorem laneLoss_link (port : Nat) (s : State) :
    laneLoss 1 port s = updPort port (fun x => { x with loss := true, lossVal := 16 * 1 + port, clearAt := none })
      (fireDet 0x20 port (16 * 1 + port) s) := rfl

theorem execLinkLoss_completes (port : Nat) (s : State) (hr : running s = true) (hp : port < 3) (ho : portOn s port = true)
    (hl : (portAt s port).link = true) : ∃ t, execLinkLoss port s = .next t ∧ Only [.net, .evr, .hlt] s t ∧
      (portAt t port).link = false ∧ (portAt t port).loss = true ∧ detOn t 0x20 port = true := by
  refine ⟨_, if_neg (by simp [hr, ho, hl]), ?_⟩
  rw [laneLoss_link, portAt_updPort _ _ _ hp, portAt_of_net (fireDet_net _ _ _ _), portAt_updPort _ _ _ hp]
  refine ⟨?_, rfl, rfl, fireDet_detOn _ _ _ _⟩
  exact (((updPort_only _ _ s).of_net (by simp)).trans ((fireDet_only _ _ _ _).mono (by simp))).trans
    ((updPort_only _ _ _).of_net (by simp))

theorem execPortLinkUp_completes (port speed : Nat) (s : State) (hr : running s = true) (hp : port < 3)
    (ho : portOn s port = true) (hi : injOn s 0x20 port = false) : ∃ t, execPortLinkUp port speed s = .next t ∧
      Only [.net] s t ∧ (portAt t port).link = true ∧
      (portAt t port).speed = (if pv s 0x0902 port 1 1 0 = 1 ∧ speed = 1 then 1 else 2) := by
  refine ⟨_, if_neg (by simp [hr, ho, hi]), updPort_only _ _ s, ?_⟩
  rw [portAt_updPort _ _ _ hp]
  exact ⟨rfl, rfl⟩

theorem clearDet_detOn (d i : Nat) (s : State) : detOn (clearDet d i s) d i = false := by simp [detOn, clearDet]

/-- NET_LANE_LOSS ends on a port: what `execNetLaneRestored` does before the ring's mark and the event. -/
def laneClear (port : Nat) (s : State) : State :=
  clearDet 0x20 port (updPort port (fun x => { x with loss := false, clearAt := none }) s)

theorem execNetLaneRestored_due (port c : Nat) (s : State) (hr : running s = true) (hl : (portAt s port).loss = true)
    (hc : (portAt s port).clearAt = some c) (hd : c + secT 1 ≤ td0 s) (hi : injOn s 0x20 port = false) :
    execNetLaneRestored port s = .next (submit .net 0xA002 port (if (portAt s port).lossVal / 16 = 3 then
      { laneClear port s with net := { (laneClear port s).net with ringOpen := false } } else laneClear port s)) := by
  refine if_neg ?_
  simp [hr, hl, hc, hd, hi]

theorem execNetLaneRestored_completes (port c : Nat) (s : State) (hr : running s = true) (hp : port < 3)
    (hl : (portAt s port).loss = true) (hc : (portAt s port).clearAt = some c) (hd : c + secT 1 ≤ td0 s)
    (hi : injOn s 0x20 port = false) : ∃ t, execNetLaneRestored port s = .next t ∧ Only [.net, .evr, .hlt] s t ∧
      (portAt t port).loss = false ∧ detOn t 0x20 port = false := by
  have cleared : Only [.net, .evr, .hlt] s (laneClear port s) :=
    ((updPort_only _ _ s).of_net (by simp)).trans ((clearDet_only _ _ _).of_hlt (by simp))
  have loss : (portAt (laneClear port s) port).loss = false :=
    congrArg Port.loss (portAt_updPort port (fun x => { x with loss := false, clearAt := none }) s hp)
  refine ⟨_, execNetLaneRestored_due port c s hr hl hc hd hi, ?_, ?_, ?_⟩
  · exact (Only.trans_ite _ cleared ((State.with_net_only _ _).of_net (by simp))).trans ((submit_only _ _ _ _).of_evr (by simp))
  · rw [portAt_of_net (submit_net _ _ _ _)]
    split
    · exact loss
    · exact loss
  · rw [detOn, submit_hlt]
    split
    · exact clearDet_detOn 0x20 port _
    · exact clearDet_detOn 0x20 port _

/-- Settles O38, row by row. -/
theorem portRowsComplete : Obligations.PortRowsComplete := by
  refine ⟨fun f s hr hp ho hl => ⟨execNetFrameRx_bad f s hr hp ho hl, execNetFrameRx_good f s hr hp ho hl⟩,
    execArpRx_completes, execArpRefresh_completes, execIcmpEcho_answered, execTlsRecordRx_handshake, execTlsRecordRx_data,
    fun conn s => ⟨_, rfl, connEnd_nothing_left conn s⟩, fun port s hr hp => ⟨?_, ?_, ?_⟩⟩
  · exact execLinkLoss_completes port s hr hp
  · exact fun speed => execPortLinkUp_completes port speed s hr hp
  · exact fun c hl hc hd hi => execNetLaneRestored_completes port c s hr hp hl hc hd hi

end Sys2Proof.Machine
end

section
/-! PROOFS. What takes effect with a wave leaves the wave's number and the modal streams (R19, R20, R312): one lemma for each
operation that a release or an arrival can reach. -/

namespace Sys2Proof.Machine
open Sys2Proof

/-- What the headbox counts and where the modal streams stand: the wave's number, the waves and the high-rate blocks since the
start, the streams of the travelling-wave front end. -/
def acqMarks (s : State) : Nat × Nat × Nat × List TwStream := (s.acq.wave, s.acq.waves, s.acq.hrBlocks, s.acq.tw)

@[simp] theorem acqMarks_fold (s : State) : (s.acq.wave, s.acq.waves, s.acq.hrBlocks, s.acq.tw) = acqMarks s := rfl

@[simp] theorem acqMarks_mk (code pw pads fl boot img tu acq gr le rio fio upc dr evr pr net cmd sec hlt pending) :
    acqMarks (State.mk code pw pads fl boot img tu acq gr le rio fio upc dr evr pr net cmd sec hlt pending) =
      (acq.wave, acq.waves, acq.hrBlocks, acq.tw) := rfl

@[simp] theorem acqMarks_ite (c : Prop) [Decidable c] (a b : State) :
    acqMarks (if c then a else b) = if c then acqMarks a else acqMarks b := by
  split <;> rfl

theorem acqMarks_of_only {ps : List Part} {s t : State} (h : Only ps s t) (k : Part.acq ∉ ps) : acqMarks t = acqMarks s := by
  rw [acqMarks, acqMarks, (h .acq).resolve_left k]

theorem acqMarks_foldl {α : Type} (g : State → α → State) (l : List α) (s : State)
    (h : ∀ s a, acqMarks (g s a) = acqMarks s) : acqMarks (l.foldl g s) = acqMarks s := foldl_keeps acqMarks g l s h

theorem acqMarks_foldl_fst {α β : Type} (g : State × β → α → State × β) (l : List α) (p : State × β)
    (h : ∀ p a, acqMarks (g p a).1 = acqMarks p.1) : acqMarks (l.foldl g p).1 = acqMarks p.1 :=
  foldl_keeps (fun p : State × β => acqMarks p.1) g l p h

/-! Shared operations: events, detectors, responses, cells. -/

@[simp] theorem dropEvent_acqMarks (e : Event) (s : State) : acqMarks (dropEvent e s) = acqMarks s := rfl

@[simp] theorem emit_acqMarks (b : Block) (e : Event) (s : State) : acqMarks (emit b e s) = acqMarks s := by simp [emit]

@[simp] theorem submit_acqMarks (b : Block) (code value : Nat) (s : State) :
    acqMarks (submit b code value s) = acqMarks s := by simp [submit]

@[simp] theorem submitParts_acqMarks (b : Block) (code value : Nat) (parts : List (List Byte)) (s : State) :
    acqMarks (submitParts b code value parts s) = acqMarks s := by simp [submitParts]

@[simp] theorem submitCmd_acqMarks (b : Block) (session code value : Nat) (s : State) :
    acqMarks (submitCmd b session code value s) = acqMarks s := by simp [submitCmd]

@[simp] theorem fireDet_acqMarks (d i value : Nat) (s : State) :
    acqMarks (fireDet d i value s) = acqMarks s := by simp [fireDet]

@[simp] theorem fireDetOnceP_acqMarks (d value : Nat) (parts : List (List Byte)) (s : State) :
    acqMarks (fireDetOnceP d value parts s) = acqMarks s := by simp [fireDetOnceP]

@[simp] theorem clearDet_acqMarks (d i : Nat) (s : State) : acqMarks (clearDet d i s) = acqMarks s := rfl

@[simp] theorem raiseTrig_acqMarks (kind index : Nat) (edge t1 t0 : Nat) (s : State) :
    acqMarks (raiseTrig kind index edge t1 t0 s) = acqMarks s := by
  unfold raiseTrig
  split <;> simp

@[simp] theorem setHirq_acqMarks (s : State) : acqMarks (setHirq s) = acqMarks s := rfl

@[simp] theorem respond_acqMarks (r : Req) (op : Nat) (st : Status) (more : Bool) (payload : List Byte) (s : State) :
    acqMarks (respond r op st more payload s) = acqMarks s := rfl

@[simp] theorem answer_acqMarks (r : Req) (op : Nat) (st : Status) (s : State) : acqMarks (answer r op st s) = acqMarks s := rfl

@[simp] theorem unsolicited_acqMarks (x : Session) (op grant : Nat) (payload : List Byte) (s : State) :
    acqMarks (unsolicited x op grant payload s) = acqMarks s := by simp [unsolicited]

/-! Outputs and injections. -/

@[simp] theorem sendCell_acqMarks (type : Nat) (vals : List Nat) (s : State) :
    acqMarks (sendCell type vals s) = acqMarks s := rfl

@[simp] theorem digNote_acqMarks (k : Nat) (bs : List Byte) (s : State) : acqMarks (digNote k bs s) = acqMarks s := rfl

@[simp] theorem sendAgree_acqMarks (kind wave : Nat) (vals : List Nat) (s : State) :
    acqMarks (sendAgree kind wave vals s) = acqMarks s := by simp [sendAgree]

/-! Pair states and divergence. -/

@[simp] theorem refreshPads_acqMarks (s : State) : acqMarks (refreshPads s) = acqMarks s := rfl

@[simp] theorem endInj_acqMarks (cause : Nat) (j : Inj) (s : State) :
    acqMarks (endInj cause j s) = acqMarks s := by simp [endInj]

@[simp] theorem noteRole_acqMarks (s : State) : acqMarks (noteRole s) = acqMarks s := rfl

@[simp] theorem setPair_acqMarks (st : PairSt) (s : State) :
    acqMarks (setPair st s) = acqMarks s := by simp [setPair, acqMarks_foldl]

@[simp] theorem setRoleActive_acqMarks (b : Bool) (s : State) :
    acqMarks (setRoleActive b s) = acqMarks s := by simp [setRoleActive]

@[simp] theorem tryBind_acqMarks (s : State) : acqMarks (tryBind s) = acqMarks s := by simp [tryBind]

@[simp] theorem dropBind_acqMarks (s : State) : acqMarks (dropBind s) = acqMarks s := rfl

@[simp] theorem slewTd2_acqMarks (s : State) : acqMarks (slewTd2 s) = acqMarks s := rfl

@[simp] theorem takeover_acqMarks (cause : Nat) (s : State) : acqMarks (takeover cause s) = acqMarks s := by simp [takeover]

@[simp] theorem startJoin_acqMarks (s : State) : acqMarks (startJoin s) = acqMarks s := by simp [startJoin]

@[simp] theorem activeSolo_acqMarks (s : State) : acqMarks (activeSolo s) = acqMarks s := by simp [activeSolo]

@[simp] theorem declareFaulty_acqMarks (value : Nat) (s : State) :
    acqMarks (declareFaulty value s) = acqMarks s := by simp [declareFaulty]

@[simp] theorem diverge_acqMarks (cause : Nat) (s : State) : acqMarks (diverge cause s) = acqMarks s := by simp [diverge]

@[simp] theorem digestsMeet_acqMarks (wave : Nat) (s : State) : acqMarks (digestsMeet wave s) = acqMarks s := by
  unfold digestsMeet
  split <;> simp

@[simp] theorem agreeUsed_acqMarks (kind : Nat) (s : State) : acqMarks (agreeUsed kind s) = acqMarks s := rfl

/-! Frames that leave. -/

@[simp] theorem updPort_acqMarks (p : Nat) (f : Port → Port) (s : State) : acqMarks (updPort p f s) = acqMarks s := rfl

@[simp] theorem portTake_acqMarks (kind len : Nat) (s : State) (p : Nat) :
    acqMarks (portTake kind len s p) = acqMarks s := by simp [portTake]

@[simp] theorem putFrame_acqMarks (kind mask : Nat) (ids vals : List Nat) (bytes : List Byte) (s : State) :
    acqMarks (putFrame kind mask ids vals bytes s) = acqMarks s := by simp [putFrame, acqMarks_foldl]

@[simp] theorem sendFrame_acqMarks (kind mask : Nat) (ids vals : List Nat) (bytes : List Byte) (s : State) :
    acqMarks (sendFrame kind mask ids vals bytes s) = acqMarks s := by simp [sendFrame]

@[simp] theorem sendUdpOn_acqMarks (mask kind : Nat) (ip port : Nat) (ids vals : List Nat) (bytes : List Byte) (s : State) :
    acqMarks (sendUdpOn mask kind ip port ids vals bytes s) = acqMarks s := by simp [sendUdpOn]

@[simp] theorem sendUdp_acqMarks (kind ip port : Nat) (ids vals : List Nat) (bytes : List Byte) (s : State) :
    acqMarks (sendUdp kind ip port ids vals bytes s) = acqMarks s := by
  unfold sendUdp
  split <;> simp

/-! The disturbance recorder. -/

@[simp] theorem updUnit_acqMarks (u : Nat) (f : DrUnit → DrUnit) (s : State) : acqMarks (updUnit u f s) = acqMarks s := rfl

@[simp] theorem pushProt_acqMarks (xs : List Samp) (s : State) : acqMarks (pushProt xs s) = acqMarks s := by simp [pushProt]

@[simp] theorem pushHigh_acqMarks (xs : List Samp) (s : State) : acqMarks (pushHigh xs s) = acqMarks s := by simp [pushHigh]

@[simp] theorem recFlags_acqMarks (m : BitVec 16) (s : State) : acqMarks (recFlags m s) = acqMarks s := by
  unfold recFlags
  split <;> simp

@[simp] theorem recMark_acqMarks (code t1 start : Nat) (s : State) : acqMarks (recMark code t1 start s) = acqMarks s := by
  dsimp only [recMark]
  repeat' split
  all_goals simp

@[simp] theorem dropOldest_acqMarks (s : State) : acqMarks (dropOldest s) = acqMarks s := by
  unfold dropOldest
  split <;> simp

@[simp] theorem makeRoom_acqMarks (k n : Nat) (s : State) : acqMarks (makeRoom k n s) = acqMarks s := by
  have room := acqMarks_foldl (fun s _ => if fitsReel k n s then s else dropOldest s) (List.range s.dr.reel.length) s
    fun s _ => by simp
  unfold makeRoom
  revert room
  generalize (List.range s.dr.reel.length).foldl _ s = p
  intro room
  rw [acqMarks_mk, acqMarks_fold, room]

@[simp] theorem openRecord_acqMarks (r : Record) (s : State) : acqMarks (openRecord r s) = acqMarks s := by
  rw [openRecord, submit_acqMarks, acqMarks_mk, acqMarks_fold, digNote_acqMarks, makeRoom_acqMarks]

@[simp] theorem setArm_acqMarks (st : DrSt) (s : State) : acqMarks (setArm st s) = acqMarks s := by simp [setArm]

@[simp] theorem opening_acqMarks (f : Firing) (s : State) : acqMarks (opening f s) = acqMarks s := by
  unfold opening
  repeat' split
  all_goals simp

@[simp] theorem unitActs_acqMarks (u t1 : Nat) (c : UnitCfg) (s : State) : acqMarks (unitActs u t1 c s) = acqMarks s := by
  unfold unitActs
  repeat' split
  all_goals simp

@[simp] theorem fireUnit_acqMarks (u t1 : Nat) (s : State) : acqMarks (fireUnit u t1 s) = acqMarks s := by
  unfold fireUnit
  split <;> simp

@[simp] theorem fireUnits_acqMarks (us : List Nat) (t1 : Nat) (s : State) :
    acqMarks (fireUnits us t1 s) = acqMarks s := by simp [fireUnits, acqMarks_foldl]

@[simp] theorem unitSample_acqMarks (u : Nat) (c : UnitCfg) (x : Samp) (s : State) :
    acqMarks (unitSample u c x s) = acqMarks s := by
  dsimp only [unitSample]
  repeat' split
  all_goals simp

@[simp] theorem unitsSample_acqMarks (x : Samp) (s : State) : acqMarks (unitsSample x s) = acqMarks s := by
  unfold unitsSample
  refine acqMarks_foldl _ _ s fun s u => ?_
  split
  · simp
  · rfl

@[simp] theorem patternUnits_acqMarks (t1 : Nat) (s : State) : acqMarks (patternUnits t1 s) = acqMarks s := by
  unfold patternUnits
  refine acqMarks_foldl _ _ s fun s u => ?_
  split
  · simp
  · rfl

@[simp] theorem binSet_acqMarks (cls index : Nat) (st ok : Bool) (est gap : Bool) (t1 : Nat) (s : State) :
    acqMarks (binSet cls index st ok est gap t1 s) = acqMarks s := by simp [binSet]

@[simp] theorem binPulse_acqMarks (cls index t1 : Nat) (s : State) :
    acqMarks (binPulse cls index t1 s) = acqMarks s := by simp [binPulse]

@[simp] theorem sampUnits_acqMarks (x : Samp) (s : State) : acqMarks (sampUnits x s) = acqMarks s := by simp [sampUnits]

@[simp] theorem recTokens_acqMarks (vals : List (Int × BitVec 8)) (s : State) : acqMarks (recTokens vals s) = acqMarks s := by
  dsimp only [recTokens]
  repeat' split
  all_goals simp [acqMarks_foldl]

@[simp] theorem recManual_acqMarks (s : State) : acqMarks (recManual s) = acqMarks s := by simp [recManual, acqMarks_foldl]

@[simp] theorem recStart_acqMarks (s : State) : acqMarks (recStart s) = acqMarks s := by simp [recStart]

@[simp] theorem applyArm_acqMarks (arm : Bool) (s : State) : acqMarks (applyArm arm s) = acqMarks s := by
  unfold applyArm
  repeat' split
  all_goals simp

@[simp] theorem recResume_acqMarks (s : State) : acqMarks (recResume s) = acqMarks s := by
  unfold recResume
  split <;> simp

@[simp] theorem recWave_acqMarks (vals : List (Int × BitVec 8)) (s : State) :
    acqMarks (recWave vals s) = acqMarks s := by simp [recWave]

@[simp] theorem recDerived_acqMarks (out v : Nat) (q : BitVec 8) (wave t1 : Nat) (s : State) :
    acqMarks (recDerived out v q wave t1 s) = acqMarks s := by
  unfold recDerived
  split
  · rfl
  refine acqMarks_foldl _ _ s fun s i => ?_
  dsimp only
  repeat' split
  all_goals simp

@[simp] theorem recHigh_acqMarks (input slot0 t1 : Nat) (q : BitVec 8) (vals : List Int) (s : State) :
    acqMarks (recHigh input slot0 t1 q vals s) = acqMarks s := by
  unfold recHigh
  refine acqMarks_foldl _ _ s fun s i => ?_
  dsimp only
  split
  · rw [acqMarks_foldl _ _ _ fun s x => sampUnits_acqMarks x s]
    split
    · simp
    · simp
  · rfl

@[simp] theorem askManual_acqMarks (unit : Nat) (s : State) : acqMarks (askManual unit s) = acqMarks s := rfl

/-! The time unit. -/

@[simp] theorem updDom_acqMarks (n : Nat) (f : Domain → Domain) (s : State) : acqMarks (updDom n f s) = acqMarks s := by
  unfold updDom
  split <;> simp

@[simp] theorem noteSync_acqMarks (s : State) : acqMarks (noteSync s) = acqMarks s := by simp [noteSync]

@[simp] theorem putArmed_acqMarks (o : Owner) (e : Nat) (v : LaunchVal) (next : Nat) (s : State) :
    acqMarks (putArmed o e v next s) = acqMarks s := rfl

@[simp] theorem updLaunch_acqMarks (e : Nat) (f : LaunchEntry → LaunchEntry) (s : State) :
    acqMarks (updLaunch e f s) = acqMarks s := rfl

@[simp] theorem cancelLaunch_acqMarks (o : Owner) (e : Nat) (s : State) : acqMarks (cancelLaunch o e s).1 = acqMarks s := by
  unfold cancelLaunch
  repeat' split
  all_goals simp

@[simp] theorem launchSkipped_acqMarks (value skipped : Nat) (next reason : Nat) (s : State) :
    acqMarks (launchSkipped value skipped next reason s) = acqMarks s := by simp [launchSkipped]

@[simp] theorem launchesAcross_acqMarks (old new : Nat) (s : State) :
    acqMarks (launchesAcross old new s) = acqMarks s := by simp [launchesAcross, acqMarks_foldl]

@[simp] theorem gridCheck_acqMarks (value : Nat) (was : Int) (s : State) :
    acqMarks (gridCheck value was s) = acqMarks s := by simp [gridCheck]

@[simp] theorem gridStep_acqMarks (first : Bool) (off : Int) (s : State) :
    acqMarks (gridStep first off s) = acqMarks s := by simp [gridStep]

@[simp] theorem applyStep_acqMarks (n : Nat) (off : Int) (cause : Nat) (s : State) :
    acqMarks (applyStep n off cause s) = acqMarks s := by simp [applyStep]

@[simp] theorem setRole_acqMarks (port role : Nat) (s : State) :
    acqMarks (setRole port role s) = acqMarks s := by simp [setRole]

@[simp] theorem checkRoles_acqMarks (s : State) : acqMarks (checkRoles s) = acqMarks s := by simp [checkRoles]

@[simp] theorem setQual_acqMarks (q : TQState) (c : Nat) (tell : Bool) (s : State) :
    acqMarks (setQual q c tell s) = acqMarks s := by simp [setQual]

@[simp] theorem updSrc_acqMarks (k : Nat) (f : Source → Source) (s : State) : acqMarks (updSrc k f s) = acqMarks s := rfl

@[simp] theorem servoUpdate_acqMarks (off : Int) (s : State) :
    acqMarks (servoUpdate off s) = acqMarks s := acqMarks_of_only (servoUpdate_only off s) (by decide)

@[simp] theorem enterGlide_acqMarks (k : Nat) (s : State) : acqMarks (enterGlide k s) = acqMarks s := by simp [enterGlide]

@[simp] theorem selectSource_acqMarks (off : Int) (s : State) :
    acqMarks (selectSource off s) = acqMarks s := by simp [selectSource]

@[simp] theorem srcLost_acqMarks (k : Nat) (present : Bool) (s : State) :
    acqMarks (srcLost k present s) = acqMarks s := by simp [srcLost]

@[simp] theorem execSampleLoopUnlock_acqMarks (s : State) : acqMarks (resState s (execSampleLoopUnlock s)) = acqMarks s := by
  simp [execSampleLoopUnlock, resState_ite, resState_next]

/-! Field I/O. -/

@[simp] theorem updDi_acqMarks (n : Nat) (f : DigIn → DigIn) (s : State) : acqMarks (updDi n f s) = acqMarks s := rfl

@[simp] theorem updDo_acqMarks (n : Nat) (f : DigOut → DigOut) (s : State) : acqMarks (updDo n f s) = acqMarks s := rfl

@[simp] theorem noteDi_acqMarks (t1 : Nat) (s : State) : acqMarks (noteDi t1 s) = acqMarks s := by simp [noteDi]

@[simp] theorem diRecord_acqMarks (n : Nat) (est gap : Bool) (t1 : Nat) (s : State) :
    acqMarks (diRecord n est gap t1 s) = acqMarks s := by simp [diRecord]

@[simp] theorem diRefresh_acqMarks (n : Nat) (s : State) : acqMarks (diRefresh n s) = acqMarks s := by simp [diRefresh]

/-! The logic engine: images. -/

@[simp] theorem syncClk_acqMarks (s : State) : acqMarks (syncClk s) = acqMarks s := rfl

@[simp] theorem markDirty_acqMarks (s : State) : acqMarks (markDirty s) = acqMarks s := rfl

@[simp] theorem putTask_acqMarks (t : Task) (s : State) : acqMarks (putTask t s) = acqMarks s := by simp [putTask]

/-! Remote I/O. -/

@[simp] theorem updSt_acqMarks (k : Nat) (f : Station → Station) (s : State) : acqMarks (updSt k f s) = acqMarks s := rfl

@[simp] theorem putInputs_acqMarks (k : Nat) (bs : List Byte) (s : State) :
    acqMarks (putInputs k bs s) = acqMarks s := by simp [putInputs]

@[simp] theorem putValid_acqMarks (s : State) : acqMarks (putValid s) = acqMarks s := rfl

@[simp] theorem stMiss_acqMarks (k : Nat) (s : State) : acqMarks (stMiss k s) = acqMarks s := by simp [stMiss]

@[simp] theorem stGood_acqMarks (k : Nat) (bs : List Byte) (s : State) :
    acqMarks (stGood k bs s) = acqMarks s := by simp [stGood]

/-! The logic engine: tasks and modes. -/

@[simp] theorem sendLogic_acqMarks (vals : List Nat) (s : State) :
    acqMarks (sendLogic vals s) = acqMarks s := by simp [sendLogic]

@[simp] theorem startWith_acqMarks (t : Task) (clk pw w0 : Nat) (nb nw : SMap) (s : State) :
    acqMarks (startWith t clk pw w0 nb nw s) = acqMarks s := rfl

@[simp] theorem preempt_acqMarks (s : State) : acqMarks (preempt s) = acqMarks s := by
  unfold preempt
  split <;> simp

@[simp] theorem startTask_acqMarks (t : Task) (s : State) : acqMarks (startTask t s) = acqMarks s := by simp [startTask]

@[simp] theorem resumeTask_acqMarks (t : Task) (s : State) : acqMarks (resumeTask t s) = acqMarks s := by simp [resumeTask]

@[simp] theorem dispatchOwn_acqMarks (s : State) : acqMarks (dispatchOwn s) = acqMarks s := by
  dsimp only [dispatchOwn]
  repeat' split
  all_goals simp

@[simp] theorem dispatchAgreed_acqMarks (s : State) : acqMarks (dispatchAgreed s) = acqMarks s := by
  unfold dispatchAgreed
  repeat' split
  all_goals simp

@[simp] theorem dispatch_acqMarks (s : State) : acqMarks (dispatch s) = acqMarks s := by simp [dispatch]

@[simp] theorem pumpTriggers_acqMarks (s : State) : acqMarks (pumpTriggers s) = acqMarks s := by
  unfold pumpTriggers
  split
  · rfl
  refine acqMarks_foldl _ _ s fun s t => ?_
  repeat' split
  all_goals simp

@[simp] theorem checkReleased_acqMarks (s : State) : acqMarks (checkReleased s) = acqMarks s := by simp [checkReleased]

@[simp] theorem setMode_acqMarks (m : LeMode) (cause : Nat) (s : State) :
    acqMarks (setMode m cause s) = acqMarks s := by simp [setMode]

@[simp] theorem abandon_acqMarks (s : State) : acqMarks (abandon s) = acqMarks s := rfl

@[simp] theorem enterRun_acqMarks (s : State) : acqMarks (enterRun s) = acqMarks s := by simp [enterRun]

@[simp] theorem coldState_acqMarks (s : State) : acqMarks (coldState s) = acqMarks s := by
  unfold coldState
  split <;> simp

@[simp] theorem activateRefused_acqMarks (r : Option Req) (st : Status) (s : State) :
    acqMarks (activateRefused r st s) = acqMarks s := by
  unfold activateRefused
  split <;> simp

@[simp] theorem refuseChange_acqMarks (st : Status) (s : State) : acqMarks (refuseChange st s) = acqMarks s := by
  unfold refuseChange
  split <;> simp

@[simp] theorem enterHold_acqMarks (cause : Nat) (s : State) : acqMarks (enterHold cause s) = acqMarks s := by simp [enterHold]

@[simp] theorem leaveHold_acqMarks (s : State) : acqMarks (leaveHold s) = acqMarks s := by simp [leaveHold]

@[simp] theorem enterStop_acqMarks (cause : Nat) (s : State) : acqMarks (enterStop cause s) = acqMarks s := by simp [enterStop]

@[simp] theorem applyMode_acqMarks (code : Nat) (s : State) : acqMarks (applyMode code s) = acqMarks s := by
  dsimp only [applyMode]
  repeat' split
  all_goals simp

@[simp] theorem enterSafe_acqMarks (s : State) : acqMarks (enterSafe s) = acqMarks s := by simp [enterSafe]

@[simp] theorem applyWatchdog_acqMarks (task : Nat) (s : State) :
    acqMarks (applyWatchdog task s) = acqMarks s := by simp [applyWatchdog]

/-! Process channels. -/

@[simp] theorem beginEntry_acqMarks (e : Nat) (s : State) : acqMarks (beginEntry e s) = acqMarks s := by
  unfold beginEntry
  split <;> simp

@[simp] theorem startPass_acqMarks (s : State) : acqMarks (startPass s) = acqMarks s := by
  unfold startPass
  split <;> simp

@[simp] theorem restartPasses_acqMarks (s : State) : acqMarks (restartPasses s) = acqMarks s := by simp [restartPasses]

@[simp] theorem loadProcess_acqMarks (s : State) : acqMarks (loadProcess s) = acqMarks s := rfl

/-! The event recorder. -/

@[simp] theorem commitTrigger_acqMarks (s : State) : acqMarks (commitTrigger s) = acqMarks s := by simp [commitTrigger]

@[simp] theorem notify_acqMarks (rs : List Rec) (s : State) :
    acqMarks (notify rs s) = acqMarks s := by simp [notify, acqMarks_foldl]

@[simp] theorem thaw_acqMarks (cause : Nat) (s : State) : acqMarks (thaw cause s) = acqMarks s := by simp [thaw]

@[simp] theorem enterRecs_acqMarks (parent : Rec) (parts : List (List Byte)) (s : State) :
    acqMarks (enterRecs parent parts s) = acqMarks s := by simp [enterRecs]

@[simp] theorem summaryRec_acqMarks (kind code count : Nat) (first : Nat × Nat × Nat) (last : Nat × Nat) (s : State) :
    acqMarks (summaryRec kind code count first last s) = acqMarks s := by simp [summaryRec]

@[simp] theorem writeLost_acqMarks (s : State) : acqMarks (writeLost s) = acqMarks s := by simp [writeLost, acqMarks_foldl]

@[simp] theorem putBucket_acqMarks (b : Bucket) (depth : Nat) (s : State) : acqMarks (putBucket b depth s) = acqMarks s := rfl

@[simp] theorem suppressedRecord_acqMarks (code depth : Nat) (s : State) :
    acqMarks (suppressedRecord code depth s) = acqMarks s := by simp [suppressedRecord]

@[simp] theorem refill_acqMarks (code depth periodMs : Nat) (s : State) :
    acqMarks (refill code depth periodMs s) = acqMarks s := by simp [refill]

@[simp] theorem takeToken_acqMarks (e : Event) (s : State) : acqMarks (takeToken e s).2 = acqMarks s := by
  dsimp only [takeToken]
  repeat' split
  all_goals simp

@[simp] theorem enterEvent_acqMarks (e : Event) (s : State) : acqMarks (enterEvent e s) = acqMarks s := by simp [enterEvent]

@[simp] theorem binsClear_acqMarks (d0 : Option Nat) (t1 : Nat) (s : State) :
    acqMarks (binsClear d0 t1 s) = acqMarks s := by simp [binsClear, acqMarks_foldl]

@[simp] theorem recEvent_acqMarks (e : Event) (s : State) : acqMarks (recEvent e s) = acqMarks s := by
  unfold recEvent
  split <;> simp

@[simp] theorem reclaim_acqMarks (n : Nat) (s : State) : acqMarks (reclaim n s) = acqMarks s := by simp [reclaim]

@[simp] theorem commitPage_acqMarks (n : Nat) (s : State) : acqMarks (commitPage n s) = acqMarks s := by
  dsimp only [commitPage]
  repeat' split
  all_goals simp

@[simp] theorem commitAll_acqMarks (s : State) : acqMarks (commitAll s) = acqMarks s := by simp [commitAll, acqMarks_foldl]

@[simp] theorem auditFirst_acqMarks (b : Block) (session code value : Nat) (parts : List (List Byte)) (s : State) :
    acqMarks (auditFirst b session code value parts s) = acqMarks s := by simp [auditFirst]

/-! Requests. -/

@[simp] theorem authFail_acqMarks (cause : Nat) (t : Transport) (s : State) :
    acqMarks (authFail cause t s) = acqMarks s := by simp [authFail]

@[simp] theorem updSession_acqMarks (num : Nat) (f : Session → Session) (s : State) :
    acqMarks (updSession num f s) = acqMarks s := rfl

/-! Measurement. -/

@[simp] theorem putElem_acqMarks (e : Elem) (s : State) : acqMarks (putElem e s) = acqMarks s := by simp [putElem]

/-! Elements. -/

@[simp] theorem elemEvent_acqMarks (code value : Nat) (part : List Byte) (s : State) :
    acqMarks (elemEvent code value part s) = acqMarks s := by simp [elemEvent]

@[simp] theorem elemReset_acqMarks (n : Node) (e : Elem) (s : State) :
    acqMarks (elemReset n e s) = acqMarks s := by simp [elemReset]

/-! The trip matrix. -/

@[simp] theorem putJob_acqMarks (set : Nat) (req : Option Req) (input : List Byte) (wave skips : Nat) (s : State) :
    acqMarks (putJob set req input wave skips s) = acqMarks s := rfl

@[simp] theorem stalledJoin_acqMarks (s : State) : acqMarks (stalledJoin s) = acqMarks s := by
  unfold stalledJoin
  refine acqMarks_foldl _ _ s fun s k => ?_
  split
  · simp
  · rfl

@[simp] theorem tripLocate_acqMarks (t1 : Nat) (s : State) : acqMarks (tripLocate t1 s) = acqMarks s := by simp [tripLocate]

@[simp] theorem rowTell_acqMarks (t1 : Nat) (old new : Row) (s : State) :
    acqMarks (rowTell t1 old new s) = acqMarks s := by simp [rowTell]

@[simp] theorem tripRelease_acqMarks (i : Inst) (t1 : Nat) (s : State) :
    acqMarks (tripRelease i t1 s) = acqMarks s := by simp [tripRelease, acqMarks_foldl]

@[simp] theorem tripHeld_acqMarks (s : State) : acqMarks (tripHeld s) = acqMarks s := rfl

@[simp] theorem loadRows_acqMarks (old : Nat → RowCfg) (same : Nat → Bool) (s : State) :
    acqMarks (loadRows old same s) = acqMarks s := rfl

/-! Published and subscribed streams. -/

@[simp] theorem goSend_acqMarks (x : GoosePub) (s : State) : acqMarks (goSend x s) = acqMarks s := by simp [goSend]

@[simp] theorem putPub_acqMarks (x : GoosePub) (s : State) : acqMarks (putPub x s) = acqMarks s := rfl

@[simp] theorem goChange_acqMarks (p : Nat) (vals : List (Nat × Nat)) (t1 : Nat) (s : State) :
    acqMarks (goChange p vals t1 s) = acqMarks s := by simp [goChange]

@[simp] theorem publishAll_acqMarks (t1 : Nat) (s : State) :
    acqMarks (publishAll t1 s) = acqMarks s := by simp [publishAll, acqMarks_foldl]

@[simp] theorem putSub_acqMarks (x : GooseSub) (s : State) : acqMarks (putSub x s) = acqMarks s := rfl

@[simp] theorem writeN_acqMarks (t1 : Nat) (w : Bool × Nat × Nat × Nat) (s : State) :
    acqMarks (writeN t1 w s) = acqMarks s := by simp [writeN]

@[simp] theorem applyWrites_acqMarks (p : GoosePend) (s : State) :
    acqMarks (applyWrites p s) = acqMarks s := by simp [applyWrites, acqMarks_foldl]

@[simp] theorem goAccept_acqMarks (k st : Nat) (sq ttl : Nat) (s : State) :
    acqMarks (goAccept k st sq ttl s) = acqMarks s := by simp [goAccept]

@[simp] theorem goosePump_acqMarks (wave : Nat) (s : State) :
    acqMarks (goosePump wave s) = acqMarks s := by simp [goosePump, acqMarks_foldl]

@[simp] theorem goAgreed_acqMarks (vals : List Nat) (s : State) : acqMarks (goAgreed vals s) = acqMarks s := by
  unfold goAgreed
  split <;> simp

@[simp] theorem publishSv_acqMarks (k : Nat) (i : Inst) (vals : List OutVal) (s : State) :
    acqMarks (publishSv k i vals s) = acqMarks s := by
  unfold publishSv
  split <;> simp

@[simp] theorem updPmu_acqMarks (k : Nat) (f : Pmu → Pmu) (s : State) : acqMarks (updPmu k f s) = acqMarks s := rfl

@[simp] theorem useLaunched_acqMarks (s : State) : acqMarks (useLaunched s) = acqMarks s := by
  unfold useLaunched
  refine acqMarks_foldl _ _ s fun s k => ?_
  split
  · simp
  · rfl

@[simp] theorem publishPmu_acqMarks (k : Nat) (i : Inst) (vals : List OutVal) (s : State) :
    acqMarks (publishPmu k i vals s) = acqMarks s := by simp [publishPmu]

@[simp] theorem applyPmu_acqMarks (op k ip : Nat) (s : State) :
    acqMarks (applyPmu op k ip s) = acqMarks s := by simp [applyPmu, acqMarks_foldl]

@[simp] theorem laneLoss_acqMarks (cause port : Nat) (s : State) :
    acqMarks (laneLoss cause port s) = acqMarks s := by simp [laneLoss]

/-! The graph scheduler. -/

@[simp] theorem updInst_acqMarks (node : Nat) (key : Key) (f : Inst → Inst) (s : State) :
    acqMarks (updInst node key f s) = acqMarks s := by simp [updInst]

@[simp] theorem setReady_acqMarks (b : Nat) (l : List (Nat × Key)) (s : State) : acqMarks (setReady b l s) = acqMarks s := rfl

@[simp] theorem moveTo_acqMarks (n : Node) (c : Nat) (s : State) : acqMarks (moveTo n c s) = acqMarks s := by simp [moveTo]

@[simp] theorem startCore_acqMarks (c : Nat) (s : State) : acqMarks (startCore c s) = acqMarks s := by simp [startCore]

@[simp] theorem assign_acqMarks (n : Node) (i : Inst) (c : Nat) (s : State) :
    acqMarks (assign n i c s) = acqMarks s := by simp [assign]

@[simp] theorem displace_acqMarks (c : Nat) (s : State) : acqMarks (displace c s) = acqMarks s := by
  unfold displace
  split <;> simp

theorem dispatchOne_acqMarks {s t : State} {fuel b : Nat} {out : List Nat} (h : dispatchOne s fuel b out = some t) :
    acqMarks t = acqMarks s := by
  induction fuel generalizing b out with
  | zero => cases h
  | succ n ih =>
    unfold dispatchOne at h
    split at h
    · exact ih h
    split at h
    · cases h
      exact setReady_acqMarks _ _ s
    dsimp only at h
    split at h
    · exact ih h
    split at h
    · cases h
      simp
    · exact ih h

@[simp] theorem countWait_acqMarks (s : State) : acqMarks (countWait s) = acqMarks s := by simp [countWait]

@[simp] theorem dispatchAll_acqMarks (fuel : Nat) (s : State) : acqMarks (dispatchAll fuel s) = acqMarks s := by
  induction fuel generalizing s with
  | zero => rfl
  | succ n ih =>
    unfold dispatchAll
    split
    · rw [ih, dispatchOne_acqMarks ‹_›]
    · exact countWait_acqMarks s

@[simp] theorem arrive_acqMarks (i : Inst) (void : Bool) (s : State) (e : Edge) :
    acqMarks (arrive i void s e) = acqMarks s := by simp [arrive]

@[simp] theorem nextStateful_acqMarks (n : Node) (key : Key) (s : State) : acqMarks (nextStateful n key s) = acqMarks s := by
  unfold nextStateful
  repeat' split
  all_goals simp

@[simp] theorem retireVoid_acqMarks (i : Inst) (s : State) : acqMarks (retireVoid i s) = acqMarks s := by simp [retireVoid]

@[simp] theorem becomeReady_acqMarks (s : State) (i : Inst) : acqMarks (becomeReady s i) = acqMarks s := by simp [becomeReady]

@[simp] theorem readyStep_acqMarks (s : State) : acqMarks (readyStep s) = acqMarks s := by simp [readyStep, acqMarks_foldl]

@[simp] theorem releaseFlow_acqMarks (s : State) (i : Inst) : acqMarks (releaseFlow s i) = acqMarks s := by
  dsimp only [releaseFlow]
  repeat' split
  all_goals simp [acqMarks_foldl]

@[simp] theorem settle_acqMarks (fuel : Nat) (s : State) : acqMarks (settle fuel s) = acqMarks s := by
  induction fuel generalizing s with
  | zero => rfl
  | succ n ih =>
    unfold settle
    dsimp only
    split
    · simp
    · rw [ih, acqMarks_foldl _ _ _ releaseFlow_acqMarks, readyStep_acqMarks]

@[simp] theorem putOut_acqMarks (n : Node) (rel wave t1 : Nat) (s : State) (o : OutVal) :
    acqMarks (putOut n rel wave t1 s o) = acqMarks s := by
  unfold putOut
  repeat' split
  all_goals simp

@[simp] theorem swapP_acqMarks (t1 : Nat) (s : State) : acqMarks (swapP t1 s) = acqMarks s := by simp [swapP, acqMarks_foldl]

@[simp] theorem takeDigest_acqMarks (wave : Nat) (outs : List OutVal) (s : State) :
    acqMarks (takeDigest wave outs s) = acqMarks s := by simp [takeDigest]

@[simp] theorem publishOuts_acqMarks (n : Node) (i : Inst) (s : State) : acqMarks (publishOuts n i s) = acqMarks s := by
  unfold publishOuts
  repeat' split
  all_goals simp

@[simp] theorem releaseOuts_acqMarks (wave t1 : Nat) (ref : Inst) (is : List Inst) (held : Bool) (s : State) :
    acqMarks (releaseOuts wave t1 ref is held s) = acqMarks s := by simp [releaseOuts, acqMarks_foldl]

@[simp] theorem releaseWave_acqMarks (wave : Nat) (held : Bool) (s : State) :
    acqMarks (releaseWave wave held s) = acqMarks s := by simp [releaseWave]

@[simp] theorem releaseWaves_acqMarks (fuel : Nat) (s : State) : acqMarks (releaseWaves fuel s) = acqMarks s := by
  induction fuel generalizing s with
  | zero => rfl
  | succ n ih =>
    unfold releaseWaves
    split
    · rfl
    split
    · rw [ih, releaseWave_acqMarks]
    · rfl

@[simp] theorem releaseDesc_acqMarks (seq : Nat) (s : State) :
    acqMarks (releaseDesc seq s) = acqMarks s := by simp [releaseDesc]

@[simp] theorem releaseDescs_acqMarks (fuel : Nat) (s : State) : acqMarks (releaseDescs fuel s) = acqMarks s := by
  induction fuel generalizing s with
  | zero => rfl
  | succ n ih =>
    unfold releaseDescs
    split
    · rfl
    · rw [ih, releaseDesc_acqMarks]

@[simp] theorem sweep_acqMarks (s : State) : acqMarks (sweep s) = acqMarks s := rfl

@[simp] theorem grantJobs_acqMarks (s : State) : acqMarks (grantJobs s) = acqMarks s := by
  unfold grantJobs
  refine acqMarks_foldl _ _ _ fun s num => ?_
  split
  · rfl
  · simp

@[simp] theorem endJob_acqMarks (j : Job) (s : State) : acqMarks (endJob j s) = acqMarks s := by
  unfold endJob
  split <;> simp

@[simp] theorem endJobs_acqMarks (s : State) : acqMarks (endJobs s) = acqMarks s := by simp [endJobs, acqMarks_foldl]

@[simp] theorem pump_acqMarks (s : State) : acqMarks (pump s) = acqMarks s := by
  rw [pump, dispatchAll_acqMarks, endJobs_acqMarks, sweep_acqMarks, releaseWaves_acqMarks, releaseDescs_acqMarks, settle_acqMarks]

@[simp] theorem cancelInst_acqMarks (s : State) (i : Inst) : acqMarks (cancelInst s i) = acqMarks s := by
  unfold cancelInst
  repeat' split
  all_goals simp

@[simp] theorem raiseEpochs_acqMarks (ks : List Nat) (s : State) : acqMarks (raiseEpochs ks s) = acqMarks s := by
  unfold raiseEpochs
  exact acqMarks_foldl _ ks s fun _ _ => rfl

@[simp] theorem cancelNodes_acqMarks (ks : List Nat) (s : State) :
    acqMarks (cancelNodes ks s) = acqMarks s := by simp [cancelNodes, acqMarks_foldl]

@[simp] theorem createInst_acqMarks (key : Key) (among : List Nat) (desc : Option Desc) (wave instant : Nat) (n : Node)
    (s : State) :
    acqMarks (createInst key among desc wave instant n s) = acqMarks s := by simp [createInst]

@[simp] theorem createAll_acqMarks (key : Key) (ns : List Node) (desc : Option Desc) (wave : Nat) (instant : Node → Nat)
    (s : State) :
    acqMarks (createAll key ns desc wave instant s) = acqMarks s := by simp [createAll, acqMarks_foldl]

@[simp] theorem noteResets_acqMarks (old : SMap) (s : State) :
    acqMarks (noteResets old s) = acqMarks s := by simp [noteResets, acqMarks_foldl]

@[simp] theorem actResets_acqMarks (s : State) : acqMarks (actResets s) = acqMarks s := by simp [actResets, acqMarks_foldl]

@[simp] theorem harmonicWindows_acqMarks (wave : Nat) (s : State) :
    acqMarks (harmonicWindows wave s) = acqMarks s := by simp [harmonicWindows, acqMarks_foldl]

@[simp] theorem graphWave_acqMarks (wave : Nat) (s : State) : acqMarks (graphWave wave s) = acqMarks s := by simp [graphWave]

@[simp] theorem givenFiring_acqMarks (wave : Nat) (s : State) (v : List Nat) :
    acqMarks (givenFiring wave s v) = acqMarks s := by
  dsimp only [givenFiring]
  repeat' split
  all_goals simp

@[simp] theorem agreedTokens_acqMarks (wave : Nat) (s : State) :
    acqMarks (agreedTokens wave s) = acqMarks s := by simp [agreedTokens, acqMarks_foldl]

@[simp] theorem ownTokens_acqMarks (s : State) : acqMarks (ownTokens s) = acqMarks s := rfl

/-! Security. -/

@[simp] theorem updCert_acqMarks (s : State) : acqMarks (updCert s) = acqMarks s := by simp [updCert]

/-! Travelling waves. -/

@[simp] theorem recDesc_acqMarks (d : Desc) (s : State) : acqMarks (recDesc d s) = acqMarks s := by simp [recDesc]

@[simp] theorem sendDesc_acqMarks (d : Desc) (s : State) : acqMarks (sendDesc d s) = acqMarks s := by simp [sendDesc]

@[simp] theorem issueDesc_acqMarks (d : Desc) (s : State) : acqMarks (issueDesc d s).1 = acqMarks s := by
  dsimp only [issueDesc]
  repeat' split
  all_goals simp

@[simp] theorem putBurst_acqMarks (t : Nat) (b : Option Burst) (s : State) : acqMarks (putBurst t b s) = acqMarks s := rfl

@[simp] theorem openBurst_acqMarks (s : State) (t time : Nat) : acqMarks (openBurst s t time).2 = acqMarks s := rfl

@[simp] theorem tellBurst_acqMarks (t : Nat) (d : Desc) (s : State) :
    acqMarks (tellBurst t d s) = acqMarks s := by simp [tellBurst]

@[simp] theorem closeWindow_acqMarks (t : Nat) (s : State) : acqMarks (closeWindow t s) = acqMarks s := by
  unfold closeWindow
  split
  · rfl
  split
  · rfl
  dsimp only
  split
  · rw [tellBurst_acqMarks, putBurst_acqMarks]
    exact acqMarks_foldl_fst _ _ _ fun p d => issueDesc_acqMarks _ p.1
  · rw [putBurst_acqMarks]
    exact acqMarks_foldl_fst _ _ _ fun p d => issueDesc_acqMarks _ p.1

@[simp] theorem assembleMsgs_acqMarks (b : Burst) (s : State) : acqMarks (assembleMsgs b s) = acqMarks s := by
  unfold assembleMsgs
  split
  · rfl
  split
  · rfl
  · exact acqMarks_foldl _ _ s fun _ _ => rfl

@[simp] theorem holdMsg_acqMarks (k : Nat × Nat × Nat × Nat) (lead : Option Desc) (s : State) :
    acqMarks (holdMsg k lead s) = acqMarks s := rfl

@[simp] theorem msgAgreed_acqMarks (v : List Nat) (s : State) : acqMarks (msgAgreed v s) = acqMarks s := by simp [msgAgreed]

@[simp] theorem burstClosed_acqMarks (b : Burst) (s : State) : acqMarks (burstClosed b s) = acqMarks s := by simp [burstClosed]

@[simp] theorem endBurst_acqMarks (b : Burst) (s : State) : acqMarks (endBurst b s) = acqMarks s := by simp [endBurst]

@[simp] theorem arriveBurst_acqMarks (d : Desc) (s : State) : acqMarks (arriveBurst d s) = acqMarks s := by
  dsimp only [arriveBurst]
  repeat' split
  all_goals simp

@[simp] theorem crossDescs_acqMarks (s : State) : acqMarks (crossDescs s) = acqMarks s := rfl

@[simp] theorem takeEstimates_acqMarks (s : State) : acqMarks (takeEstimates s) = acqMarks s := rfl

/-! Acquisition. -/

@[simp] theorem rotWave_acqMarks (idx : Nat) (s : State) : acqMarks (rotWave idx s) = acqMarks s := by
  dsimp only [rotWave]
  repeat' split
  all_goals simp

@[simp] theorem updSv_acqMarks (v : Nat) (f : SvStream → SvStream) (s : State) : acqMarks (updSv v f s) = acqMarks s := rfl

@[simp] theorem svLost_acqMarks (v : Nat) (s : State) : acqMarks (svLost v s) = acqMarks s := by simp [svLost]

@[simp] theorem svWave_acqMarks (late : Nat → Bool) (s : State) : acqMarks (svWave late s) = acqMarks s := by simp [svWave]

/-! Settings and groups. -/

@[simp] theorem resetOp_acqMarks (s : State) (n : Node) : acqMarks (resetOp s n) = acqMarks s := by simp [resetOp]

@[simp] theorem resetElements_acqMarks (ns : List Node) (s : State) :
    acqMarks (resetElements ns s) = acqMarks s := by simp [resetElements, acqMarks_foldl]

@[simp] theorem switchGroup_acqMarks (g src session : Nat) (s : State) :
    acqMarks (switchGroup g src session s) = acqMarks s := by simp [switchGroup]

@[simp] theorem groupIgnored_acqMarks (src g : Nat) (s : State) :
    acqMarks (groupIgnored src g s) = acqMarks s := by simp [groupIgnored]

@[simp] theorem groupAnswer_acqMarks (r : Option Req) (st : Status) (s : State) :
    acqMarks (groupAnswer r st s) = acqMarks s := by
  unfold groupAnswer
  split <;> simp

@[simp] theorem dropHeld_acqMarks (s : State) : acqMarks (dropHeld s) = acqMarks s := by
  unfold dropHeld
  split <;> simp

@[simp] theorem groupReads_acqMarks (s : State) : acqMarks (groupReads s).2.2 = acqMarks s := rfl

@[simp] theorem heldGroupWave_acqMarks (s : State) : acqMarks (heldGroupWave s) = acqMarks s := by
  unfold heldGroupWave
  split <;> simp

@[simp] theorem groupsSeen_acqMarks (s : State) : acqMarks (groupsSeen s) = acqMarks s := by
  dsimp only [groupsSeen]
  repeat' split
  all_goals simp [acqMarks_foldl]

@[simp] theorem groupsWave_acqMarks (s : State) : acqMarks (groupsWave s) = acqMarks s := by simp [groupsWave]

@[simp] theorem startGroup_acqMarks (s : State) : acqMarks (startGroup s) = acqMarks s := rfl

@[simp] theorem limitsChange_acqMarks (b : List Param) (s : State) :
    acqMarks (limitsChange b s) = acqMarks s := by simp [limitsChange, acqMarks_foldl]

@[simp] theorem launchesChange_acqMarks (b : List Param) (s : State) : acqMarks (launchesChange b s) = acqMarks s := by
  unfold launchesChange
  refine acqMarks_foldl _ _ s fun s e => ?_
  dsimp only
  repeat' split
  all_goals simp

@[simp] theorem channelsChange_acqMarks (old : List ChanEntry) (s : State) :
    acqMarks (channelsChange old s) = acqMarks s := by simp [channelsChange, acqMarks_foldl]

@[simp] theorem figuresRestart_acqMarks (s : State) : acqMarks (figuresRestart s) = acqMarks s := rfl

@[simp] theorem groupAfter_acqMarks (s : State) : acqMarks (groupAfter s) = acqMarks s := by simp [groupAfter]

@[simp] theorem applyImage_acqMarks (u : Image) (s : State) : acqMarks (applyImage u s) = acqMarks s := by simp [applyImage]

/-! Supply and flush. -/

@[simp] theorem startFlush_acqMarks (cause : Nat) (structural : Bool) (s : State) :
    acqMarks (startFlush cause structural s) = acqMarks s := by simp [startFlush]

@[simp] theorem callFlush_acqMarks (cause : Nat) (s : State) : acqMarks (callFlush cause s) = acqMarks s := by simp [callFlush]

@[simp] theorem warn_acqMarks (cause : Nat) (s : State) : acqMarks (warn cause s) = acqMarks s := by simp [warn]

@[simp] theorem execVmainLow_acqMarks (mv : Nat) (s : State) : acqMarks (resState s (execVmainLow mv s)) = acqMarks s := by
  simp [execVmainLow, resState_ite, resState_next]

/-! Activation. -/

@[simp] theorem beginCommit_acqMarks (commit : Bool) (s : State) :
    acqMarks (beginCommit commit s) = acqMarks s := by simp [beginCommit]

@[simp] theorem activated_acqMarks (req : Option Req) (cls w : Nat) (s : State) :
    acqMarks (activated req cls w s) = acqMarks s := by
  unfold activated
  split <;> simp

@[simp] theorem activateNow_acqMarks (cls : Nat) (commit : Bool) (req : Option Req) (w : Nat) (s : State) :
    acqMarks (activateNow cls commit req w s) = acqMarks s := by
  unfold activateNow
  split <;> simp

@[simp] theorem changeWaveNow_acqMarks (w : Nat) (s : State) : acqMarks (changeWaveNow w s) = acqMarks s := by
  unfold changeWaveNow
  split <;> simp

/-! Forces. -/

@[simp] theorem applyForceSet_acqMarks (point value session : Nat) (s : State) :
    acqMarks (applyForceSet point value session s) = acqMarks s := by simp [applyForceSet]

@[simp] theorem applyForceClear_acqMarks (point session : Nat) (s : State) :
    acqMarks (applyForceClear point session s) = acqMarks s := by simp [applyForceClear]

/-! Pair roles. -/

@[simp] theorem yieldRole_acqMarks (s : State) : acqMarks (yieldRole s) = acqMarks s := by simp [yieldRole]

@[simp] theorem drillAbort_acqMarks (s : State) : acqMarks (drillAbort s) = acqMarks s := by simp [drillAbort]

@[simp] theorem partnerGone_acqMarks (s : State) : acqMarks (partnerGone s) = acqMarks s := rfl

@[simp] theorem takeoverSolo_acqMarks (cause : Nat) (s : State) :
    acqMarks (takeoverSolo cause s) = acqMarks s := by simp [takeoverSolo]

/-! Agreement. -/

@[simp] theorem processAgreed_acqMarks (v : List Nat) (s : State) : acqMarks (processAgreed v s) = acqMarks s := by
  unfold processAgreed
  split <;> simp

/-! Fault injection. -/

@[simp] theorem diagBegin_acqMarks (d n : Nat) (s : State) : acqMarks (diagBegin d n s) = acqMarks s := by
  unfold diagBegin
  repeat' split
  all_goals simp

@[simp] theorem condition_acqMarks (d t : Nat) (s : State) : acqMarks (condition d t s) = acqMarks s := by
  unfold condition
  split <;> simp

@[simp] theorem injBegin_acqMarks (j : Inj) (s : State) : acqMarks (injBegin j s) = acqMarks s := by simp [injBegin]

@[simp] theorem applyInj_acqMarks (v : List Nat) (s : State) : acqMarks (applyInj v s) = acqMarks s := by
  unfold applyInj
  repeat' split
  all_goals simp

/-! The headbox. -/

@[simp] theorem overrunAt_acqMarks (o : Nat) (s : State) : acqMarks (overrunAt o s) = acqMarks s := by simp [overrunAt]

@[simp] theorem setXchk_acqMarks (ch : Nat) (b : Bool) (s : State) : acqMarks (setXchk ch b s) = acqMarks s := rfl

@[simp] theorem forceAt_acqMarks (v : List Nat) (s : State) : acqMarks (forceAt v s) = acqMarks s := by
  unfold forceAt
  split <;> simp

@[simp] theorem armNamed_acqMarks (e : Nat) (v : LaunchVal) (s : State) :
    acqMarks (armNamed e v s) = acqMarks s := by simp [armNamed]

@[simp] theorem applySched_acqMarks (n code : Nat) (v : List Nat) (s : State) :
    acqMarks (applySched n code v s) = acqMarks s := by
  unfold applySched
  repeat' split
  all_goals simp

@[simp] theorem judgeReports_acqMarks (s : State) : acqMarks (judgeReports s) = acqMarks s := by simp [judgeReports]

@[simp] theorem schedAt_acqMarks (n : Nat) (s : State) :
    acqMarks (schedAt n s) = acqMarks s := by simp [schedAt, acqMarks_foldl]

@[simp] theorem windowsWave_acqMarks (at_ : Nat × Nat) (s : State) :
    acqMarks (windowsWave at_ s) = acqMarks s := by simp [windowsWave]

@[simp] theorem snapNow_acqMarks (p : Option Req × Nat) (s : State) : acqMarks (snapNow p s) = acqMarks s := by
  unfold snapNow
  split <;> simp

@[simp] theorem snapsWave_acqMarks (s : State) : acqMarks (snapsWave s) = acqMarks s := by simp [snapsWave, acqMarks_foldl]

@[simp] theorem judgeOver_acqMarks (n : Nat) (above : Bool) (s : State) : acqMarks (judgeOver n above s) = acqMarks s := by
  unfold judgeOver
  split <;> simp

@[simp] theorem putTokens_acqMarks (toks : List (Int × BitVec 8)) (s : State) : acqMarks (putTokens toks s) = acqMarks s := rfl

@[simp] theorem crossJudge_acqMarks (ch : Nat) (y : XChk) (s : State) : acqMarks (crossJudge ch y s).1 = acqMarks s := by
  unfold crossJudge
  repeat' split
  all_goals simp

@[simp] theorem crossWindow_acqMarks (ch : Nat) (x : XChk) (s : State) : acqMarks (crossWindow ch x s).1 = acqMarks s := by
  unfold crossWindow
  split <;> simp

@[simp] theorem crossChan_acqMarks (late : Bool) (ch : Nat) (own agreed : Int × BitVec 8) (s : State) :
    acqMarks (crossChan late ch own agreed s) = acqMarks s := by
  dsimp only [crossChan]
  repeat' split
  all_goals simp

@[simp] theorem crossDi_acqMarks (own agreed : Nat) (s : State) : acqMarks (crossDi own agreed s) = acqMarks s := rfl

@[simp] theorem crossWave_acqMarks (own : List (Int × BitVec 8)) (agreed : List (Int × BitVec 8)) (ownDi di : Nat) (s : State) :
    acqMarks (crossWave own agreed ownDi di s) = acqMarks s := by simp [crossWave, acqMarks_foldl]

@[simp] theorem rioAgreed_acqMarks (v : List Nat) (s : State) : acqMarks (rioAgreed v s) = acqMarks s := by
  unfold rioAgreed
  split <;> simp

@[simp] theorem useAgreed_acqMarks (a : Agree) (s : State) : acqMarks (useAgreed a s) = acqMarks s := by
  unfold useAgreed
  split <;> simp

@[simp] theorem useAgreedAt_acqMarks (n : Nat) (s : State) :
    acqMarks (useAgreedAt n s) = acqMarks s := by simp [useAgreedAt, acqMarks_foldl]

@[simp] theorem effectsAt_acqMarks (n : Nat) (s : State) : acqMarks (effectsAt n s) = acqMarks s := by simp [effectsAt]

@[simp] theorem takeDi_acqMarks (di : Nat) (s : State) : acqMarks (takeDi di s) = acqMarks s := rfl

@[simp] theorem releaseTokens_acqMarks (n : Nat) (at_ : Nat × Nat) (toks : List (Int × Nat)) (sync : Bool) (di : Nat)
    (late : Nat → Bool) (s : State) :
    acqMarks (releaseTokens n at_ toks sync di late s) = acqMarks s := by simp [releaseTokens, acqMarks_foldl]

@[simp] theorem ownWave_acqMarks (n : Nat) (raw : Slices) (full : Bool) (s : State) :
    acqMarks (ownWave n raw full s) = acqMarks s := by simp [ownWave]

@[simp] theorem agreedWave_acqMarks (n : Nat) (raw : Slices) (full : Bool) (v : List Nat) (s : State) :
    acqMarks (agreedWave n raw full v s) = acqMarks s := by simp [agreedWave]

end Sys2Proof.Machine
end

section
/-! PROOFS. Acquisition (R20, R196 to R198, R314 to R321, R548): SV frames, high-rate blocks, arrivals, the provisional wave and
the wave's release. -/

namespace Sys2Proof.Machine
open Sys2Proof

theorem Only.of_acq {ps : List Part} {s t : State} (h : Only [.acq] s t) (k : Part.acq ∈ ps) : Only ps s t :=
  h.mono (by simpa using k)

/-! Sampled-value subscriptions (R196 to R198). -/

theorem updSv_only (v : Nat) (f : SvStream → SvStream) (s : State) : Only [.acq] s (updSv v f s) := State.with_acq_only s _

theorem svOf_updSv (v : Nat) (f : SvStream → SvStream) (s : State) (h : v < 2) : svOf (updSv v f s) v = f (svOf s v) :=
  putAt_getD_same 2 s.acq.sv v _ _ h

theorem svOf_of_acq {s t : State} (h : t.acq = s.acq) (v : Nat) : svOf t v = svOf s v := by rw [svOf, h, svOf]

theorem svFor_lt {s : State} {f : SvFrame} {v : Nat} (h : svFor s f = some v) : v < 2 := by
  have hm : v ∈ [0, 1] := List.mem_of_find?_eq_some h
  simp only [List.mem_cons, List.not_mem_nil, or_false] at hm
  omega

/-- A frame in order enters its stream: its counters, then its samples. -/
def svEnter (v : Nat) (f : SvFrame) (s : State) : State :=
  svTake v f (updSv v (fun x => { x with
    smpCnt := some f.smpCnt, smpSynch := f.synch, rate := if f.asdus = 6 then 2 else 1
    goodRun := if f.synch = 2 then x.goodRun + 1 else 0, st := max x.st 1 }) s)

theorem svEnter_only (v : Nat) (f : SvFrame) (s : State) : Only [.acq] s (svEnter v f s) :=
  (updSv_only v _ s).trans (updSv_only v _ _)

theorem svOf_svEnter (v : Nat) (f : SvFrame) (s : State) (h : v < 2) : (svOf (svEnter v f s) v).smpCnt = some f.smpCnt ∧
    (svOf (svEnter v f s) v).goodRun = (if f.synch = 2 then (svOf s v).goodRun + 1 else 0) ∧
    (svOf (svEnter v f s) v).st = max (svOf s v).st 1 := by
  unfold svEnter svTake
  dsimp only
  rw [svOf_updSv _ _ _ h, svOf_updSv _ _ _ h]
  exact ⟨rfl, rfl, rfl⟩

theorem svLost_only (v : Nat) (s : State) : Only [.acq, .evr] s (svLost v s) :=
  Only.trans_ite _ ((updSv_only v _ s).of_acq (by simp)) ((submit_only _ _ _ _).of_evr (by simp))

theorem svOf_svLost (v : Nat) (s : State) (h : v < 2) :
    (svOf (svLost v s) v).st = 1 ∧ (svOf (svLost v s) v).smpCnt = (svOf s v).smpCnt := by
  unfold svLost
  dsimp only
  split
  · rw [svOf_of_acq (submit_acq ..), svOf_updSv _ _ _ h]
    exact ⟨rfl, rfl⟩
  · rw [svOf_updSv _ _ _ h]
    exact ⟨rfl, rfl⟩

/-- A stream settles: it takes eight waves before it runs. -/
def svSettles (v : Nat) (s : State) : State :=
  settleSv v 8 (updSv v (fun x => { x with st := 2, settleLeft := 8, lateRun := 0 }) s)

theorem svSettles_only (v : Nat) (s : State) : Only [.acq] s (svSettles v s) :=
  (updSv_only v _ s).trans (State.with_acq_only _ _)

theorem svOf_svSettles (v : Nat) (s : State) (h : v < 2) :
    (svOf (svSettles v s) v).st = 2 ∧ (svOf (svSettles v s) v).smpCnt = (svOf s v).smpCnt := by
  have hs : svOf (svSettles v s) v = { svOf s v with st := 2, settleLeft := 8, lateRun := 0 } :=
    svOf_updSv v (fun x => { x with st := 2, settleLeft := 8, lateRun := 0 }) s h
  rw [hs]
  exact ⟨rfl, rfl⟩

/-- What a frame of its stream is rejected for (R574). -/
def svWrong (s : State) (v : Nat) (f : SvFrame) : Prop :=
  leAt ((prm s 0x0984 v).getD []) 8 4 ≠ f.confRev ∨ !(f.asdus == 1 || f.asdus == 6) ∨ !f.lenOk

theorem svWrong_iff (s : State) (v : Nat) (f : SvFrame) : svWrong s v f ↔
    leAt ((prm s 0x0984 v).getD []) 8 4 ≠ f.confRev ∨ (f.asdus ≠ 1 ∧ f.asdus ≠ 6) ∨ f.lenOk = false := by simp [svWrong]

theorem execSvFrameRx_rejected (f : SvFrame) (v : Nat) (s : State) (hf : svFor s f = some v) (hr : running s = true)
    (hw : svWrong s v f) : ∃ t, execSvFrameRx f s = .next t ∧ Only [.acq, .net] s t ∧ (svOf t v).goodRun = 0 ∧
      t.net.svRej = satInc 32 s.net.svRej := by
  have rejected : execSvFrameRx f s = .next (updSv v (fun x => { x with goodRun := 0 })
      { s with net := { s.net with svRej := satInc 32 s.net.svRej } }) := by
    rw [execSvFrameRx, hf]
    exact (if_neg (by simp [hr])).trans (if_pos hw)
  refine ⟨_, rejected, ?_, ?_, rfl⟩
  · exact ((State.with_net_only s _).of_net (by simp)).trans ((updSv_only _ _ _).of_acq (by simp))
  · rw [svOf_updSv _ _ _ (svFor_lt hf)]

/-- A frame that is neither rejected nor a second copy nor a simulation that is not wanted enters its stream. -/
theorem execSvFrameRx_entered (f : SvFrame) (v : Nat) (s : State) (hf : svFor s f = some v) (hr : running s = true)
    (hw : ¬svWrong s v f) (hc : (svOf s v).smpCnt ≠ some f.smpCnt) (hs : f.sim = true → pv s 0x0982 v 0 1 0 = 1) :
    execSvFrameRx f s = (if f.synch ≠ 2 then .next (svLost v (svEnter v f s))
      else if (svOf (svEnter v f s) v).st = 1 ∧ 2 ≤ (svOf (svEnter v f s) v).goodRun then .next (svSettles v (svEnter v f s))
      else .next (svEnter v f s)) := by
  rw [execSvFrameRx, hf]
  exact (if_neg (by simp [hr])).trans ((if_neg hw).trans ((if_neg hc).trans (if_neg fun h => h.2 (hs h.1))))

theorem execSvFrameRx_used (f : SvFrame) (v : Nat) (s : State) (hf : svFor s f = some v) (hr : running s = true)
    (hw : ¬svWrong s v f) (hc : (svOf s v).smpCnt ≠ some f.smpCnt) (hs : f.sim = true → pv s 0x0982 v 0 1 0 = 1) :
    ∃ t, execSvFrameRx f s = .next t ∧ Only [.acq, .evr] s t ∧ (svOf t v).smpCnt = some f.smpCnt ∧
      (f.synch = 2 → (svOf s v).st ≤ 1 → 1 ≤ (svOf s v).goodRun → (svOf t v).st = 2) ∧
      (f.synch ≠ 2 → (svOf t v).st = 1) := by
  have hv := svFor_lt hf
  obtain ⟨hn, hg, ht⟩ := svOf_svEnter v f s hv
  have entered := (svEnter_only v f s).of_acq (ps := [.acq, .evr]) (by simp)
  rw [execSvFrameRx_entered f v s hf hr hw hc hs]
  by_cases h2 : f.synch = 2
  · rw [if_neg (not_not_intro h2)]
    by_cases hq : (svOf (svEnter v f s) v).st = 1 ∧ 2 ≤ (svOf (svEnter v f s) v).goodRun
    · obtain ⟨hst, hcn⟩ := svOf_svSettles v (svEnter v f s) hv
      exact ⟨_, if_pos hq, entered.trans ((svSettles_only v _).of_acq (by simp)), hcn.trans hn, fun _ _ _ => hst,
        fun h => absurd h2 h⟩
    · refine ⟨_, if_neg hq, entered, hn, fun _ hst hgr => absurd ?_ hq, fun h => absurd h2 h⟩
      rw [ht, hg, if_pos h2]
      omega
  · obtain ⟨hst, hcn⟩ := svOf_svLost v (svEnter v f s) hv
    exact ⟨_, if_pos h2, entered.trans (svLost_only v _), hcn.trans hn, fun h => absurd h h2, fun _ => hst⟩

/-! Modal streams (R316, R317, R319). -/

theorem updTw_only (m : Nat) (f : TwStream → TwStream) (s : State) : Only [.acq] s (updTw m f s) := State.with_acq_only s _

theorem twOf_updTw (m : Nat) (f : TwStream → TwStream) (s : State) (h : m < 12) : twOf (updTw m f s) m = f (twOf s m) :=
  putAt_getD_same 12 s.acq.tw m _ _ h

theorem twOf_of_tw {s t : State} (h : t.acq.tw = s.acq.tw) (m : Nat) : twOf t m = twOf s m := by rw [twOf, h, twOf]

theorem execTwRearm_completes (stream : Nat) (s : State) (ht : hasTw s = true) (hr : running s = true) (hs : stream < 12)
    (hp : ∀ a, (twOf s stream).lastArr = some a → due s a (usT (pv s 0x0544 0 0 2 2)) = true) :
    ∃ t, execTwRearm stream s = .next t ∧ Only [.acq] s t ∧ (twOf t stream).armed = true := by
  have rearmed : execTwRearm stream s = .next (updTw stream (fun x => { x with armed := true }) s) := by
    refine congrArg Host.Outcome.next (if_pos ⟨ht, hr, hs, ?_⟩)
    split
    · exact hp _ ‹_›
    · rfl
  refine ⟨_, rearmed, updTw_only _ _ s, ?_⟩
  rw [twOf_updTw _ _ _ hs]

theorem execTwNoiseFloor_completes (stream : Nat) (s : State) (ht : hasTw s = true) (hr : running s = true) (hs : stream < 12)
    (he : twExists s stream = true) (hn : (twOf s stream).noisy = false)
    (ho : heldFor s (twOf s stream).aboveAt (secT 1) = true ∨ injOn s 0x27 stream = true) :
    ∃ t, execTwNoiseFloor stream s = .next t ∧ Only [.acq, .evr, .hlt] s t ∧ (twOf t stream).noisy = true ∧
      detOn t 0x27 stream = true := by
  have fired : execTwNoiseFloor stream s =
      .next (fireDet 0x27 stream stream (updTw stream (fun x => { x with noisy := true }) s)) :=
    congrArg Host.Outcome.next (if_pos ⟨ht, hr, hs, he, by simp [hn], by simpa using ho⟩)
  refine ⟨_, fired, ?_, ?_, fireDet_detOn _ _ _ _⟩
  · exact ((updTw_only _ _ s).of_acq (by simp)).trans ((fireDet_only _ _ _ _).mono (by simp))
  · rw [twOf_of_tw (congrArg Acq.tw (fireDet_acq ..)), twOf_updTw _ _ _ hs]

theorem execTwNoiseCleared_completes (stream : Nat) (s : State) (ht : hasTw s = true) (hr : running s = true)
    (hs : stream < 12) (hn : (twOf s stream).noisy = true) (hb : heldFor s (twOf s stream).belowAt (secT 1) = true)
    (hi : injOn s 0x27 stream = false) : ∃ t, execTwNoiseCleared stream s = .next t ∧ Only [.acq, .evr, .hlt] s t ∧
      (twOf t stream).noisy = false ∧ detOn t 0x27 stream = false := by
  have cleared : execTwNoiseCleared stream s =
      .next (submit .tw 0x4002 stream (clearDet 0x27 stream (updTw stream (fun x => { x with noisy := false }) s))) :=
    congrArg Host.Outcome.next (if_pos ⟨ht, hr, hs, hn, hb, by simp [hi]⟩)
  refine ⟨_, cleared, ?_, ?_, ?_⟩
  · exact (((updTw_only _ _ s).of_acq (by simp)).trans ((clearDet_only _ _ _).of_hlt (by simp))).trans
      ((submit_only _ _ _ _).of_evr (by simp))
  · rw [twOf_of_tw (congrArg Acq.tw (submit_acq ..)), twOf_of_tw (congrArg Acq.tw (clearDet_acq ..)), twOf_updTw _ _ _ hs]
  · rw [detOn, submit_hlt]
    exact clearDet_detOn _ _ _

/-! High-rate blocks (R314). -/

/-- What a block's noise floors leave: the wave's number and the count of blocks. -/
def blockMarks (s : State) : Nat × Nat := (s.acq.wave, s.acq.hrBlocks)

theorem blockMarks_of_acqMarks {s t : State} (h : acqMarks t = acqMarks s) : blockMarks t = blockMarks s := by
  simp only [acqMarks, Prod.mk.injEq] at h
  obtain ⟨hw, -, hb, -⟩ := h
  rw [blockMarks, blockMarks, hw, hb]

theorem twBlock_blockMarks (m rms : Nat) (s : State) : blockMarks (twBlock m rms s) = blockMarks s := by
  unfold twBlock
  dsimp only
  repeat' split
  all_goals rfl

/-- The samples of a block enter the ring and the units input by input, then the floors follow. -/
theorem execHighRateBlock_completes (sec block : Nat) (inputs : List (Nat × List Int × Bool)) (rms : List Nat) (s : State)
    (ht : hasTw s = true) (hr : running s = true) : ∃ t, execHighRateBlock sec block inputs rms s = .next t ∧
      t.acq.hrBlocks = s.acq.hrBlocks + 1 ∧ t.acq.wave = s.acq.wave := by
  have floors : ∀ a : State, blockMarks ((List.range 12).foldl
      (fun s m => match rms[m]? with | some r => twBlock m r s | none => s) a) = blockMarks a := fun a => by
    refine foldl_keeps blockMarks _ _ a fun s m => ?_
    split
    · exact twBlock_blockMarks m _ s
    · rfl
  have ring : ∀ (i : Nat) (q : List (BitVec 8)) (slot t1 : Nat) (b : BitVec 8) (vals : List Int) (a : State),
      blockMarks (recHigh i slot t1 b vals { a with acq := { a.acq with hrQual := q } }) = blockMarks a :=
    fun i _ slot t1 b vals a => blockMarks_of_acqMarks (recHigh_acqMarks i slot t1 b vals _)
  have kept : ∀ a b : State, blockMarks a = blockMarks b →
      a.acq.hrBlocks + 1 = b.acq.hrBlocks + 1 ∧ a.acq.wave = b.acq.wave :=
    fun a b h => by simpa [blockMarks, and_comm] using h
  exact ⟨_, if_neg (by simp [ht, hr]),
    kept _ s ((floors _).trans (foldl_keeps blockMarks _ inputs s fun a x => ring x.1 _ _ _ _ _ a))⟩

/-! Arrivals (R318 to R321, R324). -/

theorem arrivalDesc_term (m sec slot : Nat) (g : List Int) (cross : Nat) (sat : Bool) (vref : Int) (s : State) :
    (arrivalDesc m sec slot g cross sat vref s).1.term = m / 6 := rfl

/-- An arrival's descriptor takes one free value at most. -/
theorem arrivalDesc_only (m sec slot : Nat) (g : List Int) (cross : Nat) (sat : Bool) (vref : Int) (s : State) :
    Only [.tu] s (arrivalDesc m sec slot g cross sat vref s).2 :=
  Only.ite _ (freshNat_only s) (Only.refl _ s)

theorem putBurst_only (t : Nat) (b : Option Burst) (s : State) : Only [.acq] s (putBurst t b s) := State.with_acq_only s _

theorem burstOf_putBurst (t : Nat) (b : Option Burst) (s : State) (h : t < 2) : burstOf (putBurst t b s) t = b :=
  putAt_getD_same 2 s.acq.burst t b none h

theorem issueDesc_term (d : Desc) (s : State) : (issueDesc d s).2.1.term = d.term := by
  unfold issueDesc
  dsimp only
  repeat' split
  all_goals rfl

/-- However an arrival enters its terminal's burst, a burst is open afterwards. -/
theorem burstOf_arriveBurst (d : Desc) (s : State) (h : d.term < 2) : (burstOf (arriveBurst d s) d.term).isSome = true := by
  unfold arriveBurst
  dsimp only
  generalize (match burstOf s d.term with | some b => _ | none => s : State) = a
  split
  · rw [burstOf_putBurst _ _ _ h]
    rfl
  split
  · rw [burstOf_putBurst _ _ _ h]
    rfl
  · rw [issueDesc_term, burstOf_putBurst _ _ _ h]
    rfl

/-- An arrival as its stream takes it: disarmed, with the instant that the hold of R319 counts from. -/
def arrivalTaken (stream : Nat) (d : Desc) (s : State) : State :=
  let ago := td1 s - ((d.time : Int) - s.tu.sgOffset + s.acq.twDelay * 2 ^ 32).toNat
  updTw stream (fun x => { x with armed := false, lastArr := some (td0 s - ago) }) s

theorem arrivalTaken_twOf (stream : Nat) (d : Desc) (s : State) (h : stream < 12) :
    (twOf (arrivalTaken stream d s) stream).armed = false ∧ (twOf (arrivalTaken stream d s) stream).lastArr.isSome = true := by
  unfold arrivalTaken
  dsimp only
  rw [twOf_updTw _ _ _ h]
  exact ⟨rfl, rfl⟩

theorem followsAgreed_of_pr {s t : State} (h : t.pr = s.pr) : followsAgreed t = followsAgreed s := by
  rw [followsAgreed, h, followsAgreed]

theorem execTwArrival_taken (stream sec slot cross : Nat) (g : List Int) (sat : Bool) (vref : Int) (s : State)
    (ht : hasTw s = true) (hr : running s = true) (hs : stream < 12) (he : twExists s stream = true)
    (hp : pv s 0x0540 stream 0 1 1 ≠ 0) (ha : (twOf s stream).armed = true)
    (hx : twReaches s stream 1 (g.getD cross 0) = true) (d : Desc) (a t : State)
    (hd : arrivalDesc stream sec slot g cross sat vref s = (d, a)) (hu : t = arrivalTaken stream d a) :
    execTwArrival stream sec slot g cross sat vref s = (if followsAgreed t then
      .next { t with acq := { t.acq with twOwn := t.acq.twOwn ++ [(d.term, 3 * d.quantity + d.mode, d.time, t.acq.waves)] } }
      else .next (arriveBurst d t)) := by
  subst hu
  rw [execTwArrival, if_neg (by simp [ht, hr, hs, he, hp, ha, hx, -List.getD_eq_getElem?_getD]), hd]
  rfl

theorem execTwArrival_completes (stream sec slot cross : Nat) (g : List Int) (sat : Bool) (vref : Int) (s : State)
    (ht : hasTw s = true) (hr : running s = true) (hs : stream < 12) (he : twExists s stream = true)
    (hp : pv s 0x0540 stream 0 1 1 ≠ 0) (ha : (twOf s stream).armed = true)
    (hx : twReaches s stream 1 (g.getD cross 0) = true) :
    ∃ t, execTwArrival stream sec slot g cross sat vref s = .next t ∧ (twOf t stream).armed = false ∧
      (twOf t stream).lastArr.isSome = true ∧ (followsAgreed s = false → (burstOf t (stream / 6)).isSome = true) ∧
      (followsAgreed s = true → t.acq.twOwn.length = s.acq.twOwn.length + 1 ∧ t.acq.burst = s.acq.burst) := by
  obtain ⟨d, a, hd⟩ : ∃ d a, arrivalDesc stream sec slot g cross sat vref s = (d, a) := ⟨_, _, rfl⟩
  have hm : d.term = stream / 6 := (congrArg (fun p => p.1.term) hd).symm
  have hf := arrivalDesc_only stream sec slot g cross sat vref s
  rw [hd] at hf
  have hpr : a.pr = s.pr := (hf .pr).resolve_left (by simp)
  have hacq : a.acq = s.acq := (hf .acq).resolve_left (by simp)
  have taken := execTwArrival_taken stream sec slot cross g sat vref s ht hr hs he hp ha hx d a _ hd rfl
  have follows : followsAgreed (arrivalTaken stream d a) = followsAgreed s := followsAgreed_of_pr hpr
  obtain ⟨harm, hlast⟩ := arrivalTaken_twOf stream d a hs
  rw [taken, follows]
  cases hfa : followsAgreed s with
  | true =>
    refine ⟨_, rfl, harm, hlast, nofun, fun _ => ⟨?_, ?_⟩⟩
    · simp [arrivalTaken, updTw, hacq]
    · simp [arrivalTaken, updTw, hacq]
  | false =>
    have htw : (arriveBurst d (arrivalTaken stream d a)).acq.tw = (arrivalTaken stream d a).acq.tw :=
      congrArg (fun k => k.2.2.2) (arriveBurst_acqMarks d (arrivalTaken stream d a))
    refine ⟨_, rfl, ?_, ?_, fun _ => ?_, nofun⟩
    · rw [twOf_of_tw htw, harm]
    · rw [twOf_of_tw htw, hlast]
    · rw [← hm]
      exact burstOf_arriveBurst d _ (by omega)

/-! The provisional wave (R548). -/

theorem refreshPads_pr (s : State) : (refreshPads s).pr = s.pr := rfl

theorem endInj_pr (c : Nat) (j : Inj) (s : State) : (endInj c j s).pr = s.pr := submit_pr ..

theorem setPair_prov (st : PairSt) (s : State) : (setPair st s).pr.prov = s.pr.prov := by
  unfold setPair
  split
  · rfl
  dsimp only
  rw [refreshPads_pr]
  split
  · rw [foldl_keeps State.pr _ _ _ fun s j => endInj_pr 4 j s, submit_pr]
    rfl
  · rw [submit_pr]
    rfl

theorem activeSolo_prov (s : State) : (activeSolo s).pr.prov = s.pr.prov := setPair_prov .solo _

theorem declareFaulty_prov (v : Nat) (s : State) : (declareFaulty v s).pr.prov = s.pr.prov := by
  unfold declareFaulty
  dsimp only
  split
  · rw [activeSolo_prov, submit_pr]
  · rw [refreshPads_pr, setPair_prov]
    exact (congrArg Pair.prov (submit_pr .pair 0x9009 v s) :)

/-- A join that begins forgets the provisional wave; no divergence brings one back. -/
theorem startJoin_prov (s : State) : (startJoin s).pr.prov = none := setPair_prov .joining _

theorem diverge_prov (c : Nat) (s : State) (h : s.pr.prov = none) : (diverge c s).pr.prov = none := by
  unfold diverge
  dsimp only
  repeat' split
  all_goals simp [declareFaulty_prov, activeSolo_prov, startJoin_prov, h]

theorem execProvisionalTimeout_completes (n a : Nat) (s : State) (hp : s.pr.prov = some (n, a))
    (hd : due s a (usT 40) = true) : ∃ t, execProvisionalTimeout s = .next t ∧ t.pr.prov = none := by
  rw [execProvisionalTimeout, hp]
  dsimp only
  rw [if_neg (by simp [hd])]
  split
  · exact ⟨_, rfl, diverge_prov 5 _ rfl⟩
  · exact ⟨_, rfl, rfl⟩

/-! The wave's release (R20). -/

/-- The next wave begins at the next slot of the grid. -/
def waveBegun (n : Nat) (s : State) : State :=
  let k := s.tu.slot + 1
  { s with
    acq := { s.acq with wave := n, waves := s.acq.waves + 1, waveAt := (k / 16000, k % 16000) }
    tu := { s.tu with slot := k } }

/-- The values of a wave that has begun: agreed ones from its core, else the lane's own. -/
def waveValues (n : Nat) (core : Option Agree) (raw : Slices) (full : Bool) (s : State) : State :=
  if !s.gr.running then s
  else
    let s := if full then
        submit .acq 0x2F01 (n % 65536) { s with acq := { s.acq with qfull := satInc 32 s.acq.qfull } }
      else s
    match core, followsAgreed s with
    | some a, true => agreedWave n raw full a.vals s
    | none, true => ownWave n raw full { s with pr := { s.pr with prov := some (n, td0 s) } }
    | _, false => ownWave n raw full s

/-- The core of wave `n` in a lane that follows agreed data. -/
def waveCore (n : Nat) (s : State) : Option Agree :=
  if followsAgreed s then s.pr.agree.find? (fun (a : Agree) => a.kind == 0 && a.wave == n) else none

/-- The wave that has begun, with its DI image and what takes effect with it (R117, R187, R539). -/
def waveEffects (n : Nat) (core : Option Agree) (s : State) : State :=
  effectsAt n (takeDi (match core with | some a => agreedDi a.vals | none => diAt (waveBegun n s) (slotT1 (waveBegun n s)))
    (waveBegun n s))

/-- The release once a named handover has taken place. -/
def releaseAfter (n : Nat) (raw : Slices) (full : Bool) (s : State) : State :=
  if s.pr.st = .joining ∧ (waveCore n s).isNone then s
  else waveValues n (waveCore n s) raw full (waveEffects n (waveCore n s) s)

theorem releaseNext_eq (raw : Slices) (full : Bool) (s : State) : releaseNext raw full s =
    releaseAfter ((s.acq.wave + 1) % 2 ^ 32) raw full (handoverAt ((s.acq.wave + 1) % 2 ^ 32) s) := by
  delta releaseNext releaseAfter waveCore waveValues waveEffects waveBegun
  rfl

theorem waveEffects_acqMarks (n : Nat) (core : Option Agree) (s : State) :
    acqMarks (waveEffects n core s) = acqMarks (waveBegun n s) := by
  unfold waveEffects
  rw [effectsAt_acqMarks, takeDi_acqMarks]

theorem waveValues_acqMarks (n : Nat) (core : Option Agree) (raw : Slices) (full : Bool) (s : State) :
    acqMarks (waveValues n core raw full s) = acqMarks s := by
  unfold waveValues
  split
  · rfl
  dsimp only
  split
  · simp
  · simp
  · simp

/-- A release with no handover named, outside a join, begins the next wave; nothing that takes effect with it moves the count. -/
theorem releaseNext_acqMarks (raw : Slices) (full : Bool) (s : State) (hh : s.pr.hand = none) (hj : s.pr.st ≠ .joining) :
    acqMarks (releaseNext raw full s) = ((s.acq.wave + 1) % 2 ^ 32, s.acq.waves + 1, s.acq.hrBlocks, s.acq.tw) := by
  have stays : handoverAt ((s.acq.wave + 1) % 2 ^ 32) s = s := by rw [handoverAt, hh]; rfl
  rw [releaseNext_eq, stays, releaseAfter, if_neg fun h => hj h.1, waveValues_acqMarks, waveEffects_acqMarks]
  rfl

theorem execHeadboxWaveRelease_completes (raw : List RawSample) (full : Bool) (sat : BitVec 32) (s : State)
    (hr : running s = true) (hg : s.gr.running = true) (hd : releaseDue s = true) (hh : s.pr.hand = none)
    (hj : s.pr.st ≠ .joining) : ∃ t, execHeadboxWaveRelease raw full sat s = .next t ∧
      t.acq.wave = (s.acq.wave + 1) % 2 ^ 32 ∧ t.acq.waves = s.acq.waves + 1 := by
  have released := releaseNext_acqMarks (raw, sat) full s hh hj
  simp only [acqMarks, Prod.mk.injEq] at released
  obtain ⟨hw, hn, -, -⟩ := released
  exact ⟨_, if_neg (by simp [hr, hg, hd]), hw, hn⟩

/-- Settles O32, row by row. -/
theorem acquisitionRowsComplete : Obligations.AcquisitionRowsComplete := by
  refine ⟨execHeadboxWaveRelease_completes, fun f v wrong s hf hr hw => ?_, execHighRateBlock_completes,
    execProvisionalTimeout_completes, execTwArrival_completes, fun stream s ht hr hs => ⟨?_, ?_, ?_⟩⟩
  · have judged := hw.trans (svWrong_iff s v f).symm
    exact ⟨fun h => execSvFrameRx_rejected f v s hf hr (judged.mp h),
      fun h => execSvFrameRx_used f v s hf hr (mt judged.mpr h)⟩
  · exact execTwRearm_completes stream s ht hr hs
  · exact execTwNoiseFloor_completes stream s ht hr hs
  · exact execTwNoiseCleared_completes stream s ht hr hs

end Sys2Proof.Machine
end

section
/-! PROOFS. Frames of the operations that the start, the supply, a flush and the field diagnostics share: the recorder's firings,
the entry of events, the start of a flush. -/

namespace Sys2Proof.Machine
open Sys2Proof

/-- A unit that the frame does not name is the same. -/
theorem Only.same {ps : List Part} {s t : State} (h : Only ps s t) (p : Part) (k : p ∉ ps) : Same p s t :=
  (h p).resolve_left k

/-- One operation after another: the units of both. -/
theorem Only.seq {ps qs : List Part} {a b c : State} (h : Only ps a b) (k : Only qs b c) : Only (ps ++ qs) a c :=
  (h.mono fun _ => List.mem_append_left qs).trans (k.mono fun _ => List.mem_append_right ps)

theorem State.with_le_fl_only (s : State) (l : Logic) (f : Flush) : Only [.le, .fl] s { s with le := l, fl := f } := fun p => by
  cases p <;> simp [Same]

theorem State.with_pw_fl_only (s : State) (p : Power) (f : Flush) : Only [.pw, .fl] s { s with pw := p, fl := f } := fun q => by
  cases q <;> simp [Same]

/-- Only the named units may differ, and the event recorder runs or does not run as before (R95). -/
def Logs (ps : List Part) (s t : State) : Prop := Only ps s t ∧ t.evr.started = s.evr.started

theorem Logs.refl (ps : List Part) (s : State) : Logs ps s s := ⟨Only.refl ps s, rfl⟩

theorem Logs.trans {ps : List Part} {a b c : State} (h : Logs ps a b) (k : Logs ps b c) : Logs ps a c :=
  ⟨h.1.trans k.1, k.2.trans h.2⟩

theorem Logs.seq {ps qs : List Part} {a b c : State} (h : Logs ps a b) (k : Logs qs b c) : Logs (ps ++ qs) a c :=
  ⟨h.1.seq k.1, k.2.trans h.2⟩

theorem Logs.mono {ps qs : List Part} {s t : State} (h : Logs ps s t) (k : ∀ p ∈ ps, p ∈ qs) : Logs qs s t :=
  ⟨h.1.mono k, h.2⟩

theorem Logs.ite {ps : List Part} {s a b : State} (c : Prop) [Decidable c] (ha : Logs ps s a) (hb : Logs ps s b) :
    Logs ps s (if c then a else b) := by
  split
  · exact ha
  · exact hb

/-- A further operation under a condition. -/
theorem Logs.trans_ite {ps : List Part} {s a b : State} (c : Prop) [Decidable c] (h : Logs ps s b) (k : Logs ps b a) :
    Logs ps s (if c then a else b) := Logs.ite c (h.trans k) h

theorem Logs.foldl {α : Type} (ps : List Part) (g : State → α → State) (l : List α) (s : State)
    (h : ∀ s a, Logs ps s (g s a)) : Logs ps s (l.foldl g s) := by
  induction l generalizing s with
  | nil => exact Logs.refl ps s
  | cons a l ih => exact (h s a).trans (ih (g s a))

/-- An operation that leaves the event recorder leaves what it says of its start. -/
theorem Only.logs {ps : List Part} {s t : State} (h : Only ps s t) (k : Part.evr ∉ ps) : Logs ps s t :=
  ⟨h, congrArg EventRec.started (h.same .evr k)⟩

theorem State.with_dr_logs (s : State) (v : Dr) : Logs [.dr] s { s with dr := v } := ⟨State.with_dr_only s v, rfl⟩

theorem State.with_evr_logs (s : State) (v : EventRec) (h : v.started = s.evr.started) :
    Logs [.evr] s { s with evr := v } := ⟨State.with_evr_only s v, h⟩

theorem dropEvent_logs (e : Event) (s : State) : Logs [.evr] s (dropEvent e s) := State.with_evr_logs s _ rfl

theorem emit_logs (b : Block) (e : Event) (s : State) : Logs [.evr] s (emit b e s) :=
  Logs.ite _ (State.with_evr_logs s _ (by rfl)) (Logs.ite _ (dropEvent_logs e s) (State.with_evr_logs s _ (by rfl)))

theorem submit_logs (b : Block) (c v : Nat) (s : State) : Logs [.evr] s (submit b c v s) := emit_logs _ _ _

/-- Submission leaves the log of committed records. -/
theorem emit_log (b : Block) (e : Event) (s : State) : (emit b e s).evr.log = s.evr.log := by
  unfold emit
  repeat' split
  all_goals rfl

/-! The recorder's trigger units fire (R474 to R479). -/

theorem updUnit_logs (u : Nat) (f : DrUnit → DrUnit) (s : State) : Logs [.dr] s (updUnit u f s) := State.with_dr_logs s _

theorem recMark_logs (code t1 start : Nat) (s : State) : Logs [.dr] s (recMark code t1 start s) :=
  (recMark_only code t1 start s).logs (by decide)

theorem digNote_only (k : Nat) (bs : List Byte) (s : State) : Only [.gr] s (digNote k bs s) := State.with_gr_only s _

theorem sendCell_only (type : Nat) (vals : List Nat) (s : State) : Only [.pr] s (sendCell type vals s) := State.with_pr_only s _

theorem sendAgree_only (kind wave : Nat) (vals : List Nat) (s : State) : Only [.pr] s (sendAgree kind wave vals s) :=
  Only.ite _ (sendCell_only _ _ s) (Only.refl _ s)

theorem opening_logs (f : Firing) (s : State) : Logs [.dr, .evr, .gr] s (opening f s) := by
  have dr := fun v => (State.with_dr_logs s v).mono (qs := [.dr, .evr, .gr]) (by decide)
  unfold opening
  refine Logs.ite _ (Logs.refl _ s) (Logs.ite _ (((State.with_dr_logs s _).seq (submit_logs _ _ _ _)).mono (by decide)) ?_)
  split
  · have noted := fun k bs a => (digNote_only k bs a).logs (by decide)
    exact (((State.with_dr_logs s _).seq (recMark_logs _ _ _ _)).seq (noted _ _ _)).mono (by decide)
  · exact dr _
  · refine Logs.ite _ ?_ (Logs.refl _ s)
    split
    · exact dr _
    · exact dr _

theorem unitActs_logs (u t1 : Nat) (c : UnitCfg) (s : State) : Logs [.dr, .evr, .gr] s (unitActs u t1 c s) := by
  unfold unitActs
  refine Logs.ite _ ((updUnit_logs _ _ s).mono (by decide)) (Logs.ite _ ?_ (opening_logs _ s))
  split
  · exact opening_logs _ s
  · exact Logs.refl _ s

/-- A firing changes the recorder, the tasks it triggers, the queue of events and, in the pair, what the standby is told. -/
theorem fireUnit_logs (u t1 : Nat) (s : State) : Logs [.dr, .le, .pr, .evr, .gr] s (fireUnit u t1 s) := by
  have told := fun k w v a => (sendAgree_only k w v a).logs (by decide)
  have raised := fun k i e a t0 b => (raiseTrig_only k i e a t0 b).logs (by decide)
  unfold fireUnit
  split
  · exact Logs.refl _ s
  · refine Logs.trans ?_ (Logs.ite _ (Logs.refl _ _) (((told _ _ _ _).seq (unitActs_logs _ _ _ _)).mono (by decide)))
    exact (((updUnit_logs _ _ s).trans (State.with_dr_logs _ _)).seq (raised _ _ _ _ _ _)).mono (by decide)

theorem fireUnits_logs (us : List Nat) (t1 : Nat) (s : State) : Logs [.dr, .le, .pr, .evr, .gr] s (fireUnits us t1 s) :=
  Logs.foldl _ _ us s fun s u => fireUnit_logs u t1 s

theorem patternUnits_logs (t1 : Nat) (s : State) : Logs [.dr, .le, .pr, .evr, .gr] s (patternUnits t1 s) := by
  refine Logs.foldl _ _ _ s fun s u => ?_
  split
  · exact Logs.ite _ (Logs.trans_ite _ ((updUnit_logs _ _ s).mono (by decide)) (fireUnit_logs _ _ _)) (Logs.refl _ s)
  · exact Logs.refl _ s

/-- A binary source's state is kept by the recorder, whose pattern units may fire (R472, R474). -/
theorem binSet_logs (cls index : Nat) (st ok est gap : Bool) (t1 : Nat) (s : State) :
    Logs [.dr, .le, .pr, .evr, .gr] s (binSet cls index st ok est gap t1 s) :=
  Logs.ite _ (Logs.refl _ s) (Logs.trans ((State.with_dr_logs s _).mono (by decide))
    (Logs.ite _ (Logs.refl _ _) (patternUnits_logs t1 _)))

theorem binPulse_logs (cls index t1 : Nat) (s : State) : Logs [.dr, .le, .pr, .evr, .gr] s (binPulse cls index t1 s) :=
  (binSet_logs _ _ _ _ _ _ _ s).trans (binSet_logs _ _ _ _ _ _ _ _)

theorem binsClear_logs (d : Option Nat) (t1 : Nat) (s : State) : Logs [.dr, .le, .pr, .evr, .gr] s (binsClear d t1 s) :=
  Logs.foldl _ _ _ s fun s _ => Logs.ite _ (Logs.refl _ s) (binSet_logs _ _ _ _ _ _ _ s)

theorem recEvent_logs (e : Event) (s : State) : Logs [.dr, .le, .pr, .evr, .gr] s (recEvent e s) := by
  refine Logs.trans ?_ (binsClear_logs _ _ _)
  split
  · exact Logs.refl _ s
  · exact (fireUnits_logs _ _ s).trans (Logs.ite _ (binPulse_logs _ _ _ _) (binSet_logs _ _ _ _ _ _ _ _))

/-! Events enter the front buffer (R507 to R516). -/

theorem unsolicited_only (x : Session) (op grant : Nat) (payload : List Byte) (s : State) :
    Only [.cmd, .pads] s (unsolicited x op grant payload s) :=
  (State.with_cmd_only s _).seq (State.with_pads_only _ _)

theorem notify_only (rs : List Rec) (s : State) : Only [.cmd, .pads] s (notify rs s) :=
  Only.ite _ (Only.refl _ s) (Only.foldl _ _ _ s fun s x => unsolicited_only x _ _ _ s)

theorem commitTrigger_logs (s : State) : Logs [.evr] s (commitTrigger s) :=
  Logs.ite _ (State.with_evr_logs s _ (by rfl)) (State.with_evr_logs s _ (by rfl))

theorem thaw_logs (cause : Nat) (s : State) : Logs [.evr] s (thaw cause s) :=
  (State.with_evr_logs s _ (by rfl)).trans (submit_logs _ _ _ _)

theorem enterRecs_logs (parent : Rec) (parts : List (List Byte)) (s : State) :
    Logs [.evr, .cmd, .pads] s (enterRecs parent parts s) := by
  refine Logs.seq (ps := [.evr]) ?_ ((notify_only _ _).logs (by decide))
  exact Logs.trans_ite _ (Logs.trans_ite _ (State.with_evr_logs s _ (by rfl)) (commitTrigger_logs _)) (thaw_logs _ _)

theorem summaryRec_logs (kind code count : Nat) (first : Nat × Nat × Nat) (last : Nat × Nat) (s : State) :
    Logs [.evr, .cmd, .pads] s (summaryRec kind code count first last s) := enterRecs_logs _ _ s

theorem writeLost_logs (s : State) : Logs [.evr, .cmd, .pads] s (writeLost s) :=
  Logs.ite _ (Logs.trans ((State.with_evr_logs s _ (by rfl)).mono (by decide))
    (Logs.foldl _ _ _ _ fun s _ => summaryRec_logs _ _ _ _ _ s)) (Logs.refl _ s)

theorem putBucket_logs (b : Bucket) (depth : Nat) (s : State) : Logs [.evr] s (putBucket b depth s) :=
  State.with_evr_logs s _ rfl

theorem suppressedRecord_logs (code depth : Nat) (s : State) : Logs [.evr, .cmd, .pads] s (suppressedRecord code depth s) :=
  Logs.ite _ (Logs.refl _ s) (((putBucket_logs _ _ s).seq (summaryRec_logs _ _ _ _ _ _)).mono (by decide))

theorem refill_logs (code depth periodMs : Nat) (s : State) : Logs [.evr, .cmd, .pads] s (refill code depth periodMs s) :=
  Logs.ite _ (suppressedRecord_logs _ _ s) (Logs.ite _ (Logs.refl _ s)
    (Logs.trans_ite _ ((putBucket_logs _ _ s).mono (by decide)) (suppressedRecord_logs _ _ _)))

theorem takeToken_logs (e : Event) (s : State) : Logs [.evr, .cmd, .pads] s (takeToken e s).2 := by
  unfold takeToken
  split
  · exact Logs.refl _ s
  · rename_i depth period _
    have filled := refill_logs e.code depth period s
    dsimp only
    split
    · exact (filled.seq ((State.with_evr_logs _ _ (by rfl)).trans (putBucket_logs _ _ _))).mono (by decide)
    · exact (filled.seq (putBucket_logs _ _ _)).mono (by decide)

/-- An event's entry changes the event recorder and, by NOTIFY, what waits for the host. -/
theorem enterEvent_logs (e : Event) (s : State) : Logs [.evr, .cmd, .pads] s (enterEvent e s) := by
  have drop := fun a => (dropEvent_logs e a).mono (qs := [.evr, .cmd, .pads]) (by decide)
  refine (writeLost_logs s).trans (Logs.ite _ (drop _) ((takeToken_logs e _).trans ?_))
  refine Logs.ite _ (Logs.refl _ _) (Logs.ite _ (drop _) ?_)
  exact Logs.trans_ite _ (enterRecs_logs _ _ _) ((commitTrigger_logs _).mono (by decide))

/-! A flush begins (R96, R98): what it finds, then its own marks. -/

/-- Of the pads HIRQ_N alone may differ. -/
def OnlyHirq (s t : State) : Prop := ∃ b, t.pads = { s.pads with hirq := b }

theorem OnlyHirq.refl (s : State) : OnlyHirq s s := ⟨s.pads.hirq, rfl⟩

theorem OnlyHirq.of_only {ps : List Part} {s t : State} (h : Only ps s t) (k : Part.pads ∉ ps) : OnlyHirq s t :=
  ⟨s.pads.hirq, h.same .pads k⟩

theorem OnlyHirq.trans {a b c : State} (h : OnlyHirq a b) (k : OnlyHirq b c) : OnlyHirq a c := by
  obtain ⟨x, hx⟩ := h
  obtain ⟨y, hy⟩ := k
  exact ⟨y, by rw [hy, hx]⟩

theorem OnlyHirq.ite {s a b : State} (c : Prop) [Decidable c] (ha : OnlyHirq s a) (hb : OnlyHirq s b) :
    OnlyHirq s (if c then a else b) := by
  split
  · exact ha
  · exact hb

theorem activateRefused_only (r : Option Req) (st : Status) (s : State) :
    Only [.evr, .cmd, .pads] s (activateRefused r st s) := by
  unfold activateRefused
  split
  · exact (submitCmd_only _ _ _ _ s).seq (answer_only _ _ _ _)
  · exact (submit_only _ _ _ s).mono (by decide)

theorem activateRefused_onlyHirq (r : Option Req) (st : Status) (s : State) : OnlyHirq s (activateRefused r st s) := by
  unfold activateRefused
  split
  · exact OnlyHirq.trans (OnlyHirq.of_only (submitCmd_only _ _ _ _ s) (by decide)) ⟨_, rfl⟩
  · exact OnlyHirq.of_only (submit_only _ _ _ s) (by decide)

/-- A change that awaits changeover is told as refused, before an IMG_ACTIVATE that began it is answered. -/
def changeRefused (st : Status) (s : State) : State :=
  submit .logic 0x5006 st.toNat { s with le := { s.le with change := none, changeSt := 3, changeRes := st.toNat } }

theorem changeRefused_only (st : Status) (s : State) : Only [.le, .evr] s (changeRefused st s) :=
  (State.with_le_only s _).seq (submit_only _ _ _ _)

theorem refuseChange_only (st : Status) (s : State) : Only [.le, .evr, .cmd, .pads] s (refuseChange st s) := by
  unfold refuseChange
  split
  · exact Only.refl _ s
  · have told := (changeRefused_only st s).mono (qs := [.le, .evr, .cmd, .pads]) (by decide)
    exact Only.trans_ite _ told ((activateRefused_only _ _ _).mono (by decide))

theorem refuseChange_onlyHirq (st : Status) (s : State) : OnlyHirq s (refuseChange st s) := by
  unfold refuseChange
  split
  · exact OnlyHirq.refl s
  · have told := OnlyHirq.of_only (changeRefused_only st s) (by decide)
    exact OnlyHirq.ite _ (told.trans (activateRefused_onlyHirq _ _ _)) told

/-- What a flush finds: the freeze ended, the awaiting change refused. -/
def flushFinds (s : State) : State := refuseChange .badState (if s.evr.freeze.isSome then thaw 5 s else s)

theorem flushFinds_only (s : State) : Only [.le, .evr, .cmd, .pads] s (flushFinds s) :=
  Only.trans (Only.ite _ ((thaw_logs 5 s).1.mono (by decide)) (Only.refl _ s)) (refuseChange_only _ _)

theorem flushFinds_onlyHirq (s : State) : OnlyHirq s (flushFinds s) :=
  OnlyHirq.trans (OnlyHirq.ite _ (OnlyHirq.of_only (thaw_logs 5 s).1 (by decide)) (OnlyHirq.refl s)) (refuseChange_onlyHirq _ _)

/-- A commit to SCH_USER is stopped. -/
def commitStopped (s : State) : State := submit .image 0x0124 0 { s with img := { s.img with committing := false } }

theorem commitStopped_only (s : State) : Only [.img, .evr] s (commitStopped s) :=
  (State.with_img_only s _).seq (submit_only _ _ _ _)

/-- What a flush does before its own marks. -/
def flushCleared (s : State) : State :=
  if (flushFinds s).img.committing then commitStopped (flushFinds s) else flushFinds s

theorem flushCleared_only (s : State) : Only [.le, .evr, .cmd, .pads, .img] s (flushCleared s) :=
  Only.trans_ite _ ((flushFinds_only s).mono (by decide)) ((commitStopped_only _).mono (by decide))

theorem flushCleared_onlyHirq (s : State) : OnlyHirq s (flushCleared s) :=
  OnlyHirq.ite _ ((flushFinds_onlyHirq s).trans (OnlyHirq.of_only (commitStopped_only _) (by decide))) (flushFinds_onlyHirq s)

theorem startFlush_eq (cause : Nat) (structural : Bool) (s : State) : startFlush cause structural s =
    { flushCleared s with
      le := { (flushCleared s).le with halted := true }
      fl := { s.fl with
        running := true, done := false, cause := cause, step := 1, okMask := 0, startAt := td0 s, time := 0
        structural := structural, recovered := false, again := 0 } } := by
  have fl : (flushCleared s).fl = s.fl := (flushCleared_only s).same .fl (by decide)
  have tu : (flushCleared s).tu = s.tu := (flushCleared_only s).same .tu (by decide)
  rw [← fl, td0, ← tu]
  rfl

/-- A flush that begins leaves the supply, the outputs and the graph as they are. -/
theorem startFlush_only (cause : Nat) (structural : Bool) (s : State) :
    Only [.le, .evr, .cmd, .pads, .img, .fl] s (startFlush cause structural s) := by
  rw [startFlush_eq]
  exact ((flushCleared_only s).seq (State.with_le_fl_only _ _ _)).mono (by decide)

theorem startFlush_onlyHirq (cause : Nat) (structural : Bool) (s : State) : OnlyHirq s (startFlush cause structural s) := by
  rw [startFlush_eq]
  exact flushCleared_onlyHirq s

theorem callFlush_starts (cause : Nat) (s : State) (h : s.fl.running = false) :
    callFlush cause s = startFlush cause false s := by
  simp [callFlush, h]

theorem callFlush_only (cause : Nat) (s : State) : Only [.le, .evr, .cmd, .pads, .img, .fl] s (callFlush cause s) :=
  Only.ite _ ((State.with_fl_only s _).mono (by decide)) (Only.ite _ (Only.refl _ s) (startFlush_only _ _ s))

theorem callFlush_onlyHirq (cause : Nat) (s : State) : OnlyHirq s (callFlush cause s) :=
  OnlyHirq.ite _ (OnlyHirq.of_only (State.with_fl_only s _) (by decide))
    (OnlyHirq.ite _ (OnlyHirq.refl s) (startFlush_onlyHirq _ _ s))

end Sys2Proof.Machine
end

section
/-! PROOFS. The field diagnostics (R68, R423 to R426, R431 to R433): the files of inputs and outputs, what a refreshed input
leaves, then the rows. -/

namespace Sys2Proof.Machine
open Sys2Proof

/-! The outputs. -/

theorem updDo_only (n : Nat) (f : DigOut → DigOut) (s : State) : Only [.fio] s (updDo n f s) := State.with_fio_only s _

theorem driveAll_only (s : State) : Only [.fio] s (driveAll s) := State.with_fio_only s _

theorem doOf_of_fio {s t : State} (h : t.fio = s.fio) (n : Nat) : doOf t n = doOf s n := by rw [doOf, h, doOf]

theorem doOf_updDo (n : Nat) (f : DigOut → DigOut) (s : State) (h : n < 8) : doOf (updDo n f s) n = f (doOf s n) :=
  putAt_getD_same 8 s.fio.dout n _ _ h

theorem doOf_driveAll (n : Nat) (s : State) (h : n < 8) :
    doOf (driveAll s) n = { doOf s n with driven := drives s n } := by
  simp [doOf, driveAll, List.getD, h]

/-- An output that has shut down is off. -/
theorem drives_of_shut (s : State) (n : Nat) (h : (doOf s n).shut = true) : drives s n = false := by simp [drives, h]

/-- A group that is locked out is off. -/
theorem drives_of_lockout (s : State) (n : Nat) (h : s.fio.lockout.getLsbD (doGroup n) = true) : drives s n = false := by
  simp only [drives, h, Bool.or_true, Bool.true_or, if_true]

/-- A diagnostic of an output: its flag, then its detector. -/
def outputFault (d n v : Nat) (f : DigOut → DigOut) (s : State) : State := fireDet d n v (updDo n f s)

theorem outputFault_only (d n v : Nat) (f : DigOut → DigOut) (s : State) :
    Only [.fio, .evr, .hlt] s (outputFault d n v f s) := (updDo_only n f s).seq (fireDet_only _ _ _ _)

theorem doOf_outputFault (d n v : Nat) (f : DigOut → DigOut) (s : State) (h : n < 8) :
    doOf (outputFault d n v f s) n = f (doOf s n) := (doOf_of_fio (fireDet_fio _ _ _ _) n).trans (doOf_updDo n f s h)

theorem execFioDoOverload_completes (n : Nat) (s : State) (hn : n < 8) (hd : (doOf s n).driven = true)
    (ho : (doOf s n).overload = false) : ∃ t, execFioDoOverload n s = .next t ∧ Only [.fio, .evr, .hlt] s t ∧
      (doOf t n).overload = true ∧ detOn t 0x0E n = true :=
  ⟨_, if_pos (by simp [hn, hd, ho]), outputFault_only 0x0E n n _ s, congrArg DigOut.overload (doOf_outputFault 0x0E n n _ s hn),
    fireDet_detOn _ _ _ _⟩

theorem execFioDoOpenWire_completes (n : Nat) (s : State) (hn : n < 8) (hs : owSupervised s n = true)
    (ho : (doOf s n).openW = false) : ∃ t, execFioDoOpenWire n s = .next t ∧ Only [.fio, .evr, .hlt] s t ∧
      (doOf t n).openW = true ∧ detOn t 0x0F n = true :=
  ⟨_, if_pos (by simp [hn, hs, ho]), outputFault_only 0x0F n _ _ s, congrArg DigOut.openW (doOf_outputFault 0x0F n _ _ s hn),
    fireDet_detOn _ _ _ _⟩

theorem execFioDoExtVoltage_completes (n : Nat) (s : State) (hn : n < 8) (hd : (doOf s n).driven = false)
    (hp : doPaired s n = false) (he : (doOf s n).extv = false) : ∃ t, execFioDoExtVoltage n s = .next t ∧
      Only [.fio, .evr, .hlt] s t ∧ (doOf t n).extv = true ∧ detOn t 0x15 n = true :=
  ⟨_, if_pos (by simp [hn, hd, hp, he]), outputFault_only 0x15 n n _ s, congrArg DigOut.extv (doOf_outputFault 0x15 n n _ s hn),
    fireDet_detOn _ _ _ _⟩

/-- An output in thermal shutdown. -/
def shutDown (now : Nat) (x : DigOut) : DigOut :=
  { x with shut := true, shutAt := now, overtemp := true, tsd := satInc 32 x.tsd, tsdLife := satInc 32 x.tsdLife }

theorem doOf_shutDown (n : Nat) (s : State) (h : n < 8) :
    doOf (driveAll (updDo n (shutDown (td0 s)) s)) n = { shutDown (td0 s) (doOf s n) with driven := false } := by
  have shut := doOf_updDo n (shutDown (td0 s)) s h
  have off := drives_of_shut (updDo n (shutDown (td0 s)) s) n (by rw [shut]; rfl)
  rw [doOf_driveAll n _ h, off, shut]

theorem execFioDoOvertemp_completes (n : Nat) (s : State) (hn : n < 8) (hd : (doOf s n).driven = true) :
    ∃ t, execFioDoOvertemp n s = .next t ∧ Only [.fio, .evr, .hlt] s t ∧ (doOf t n).overtemp = true ∧
      (doOf t n).shut = true ∧ (doOf t n).driven = false ∧ (doOf t n).tsd = satInc 32 (doOf s n).tsd ∧
      detOn t 0x10 n = true := by
  have shut : doOf (fireDet 0x10 n n (driveAll (updDo n (shutDown (td0 s)) s))) n = _ :=
    (doOf_of_fio (fireDet_fio _ _ _ _) n).trans (doOf_shutDown n s hn)
  refine ⟨_, if_pos ⟨hn, hd⟩, ((updDo_only n _ s).trans (driveAll_only _)).seq (fireDet_only 0x10 n n _),
    congrArg DigOut.overtemp shut, congrArg DigOut.shut shut, congrArg DigOut.driven shut, congrArg DigOut.tsd shut,
    fireDet_detOn _ _ _ _⟩

theorem execDoThermalRetry_completes (n : Nat) (s : State) (hn : n < 8) (hs : (doOf s n).shut = true)
    (hd : due s (doOf s n).shutAt (msT 100) = true) : ∃ t, execDoThermalRetry n s = .next t ∧ Only [.fio] s t ∧
      (doOf t n).shut = false ∧ (doOf t n).cmd = (doOf s n).cmd := by
  refine ⟨_, if_pos ⟨hn, hs, hd⟩, (updDo_only n _ s).trans (driveAll_only _), ?_⟩
  rw [doOf_driveAll n _ hn, doOf_updDo n _ s hn]
  exact ⟨rfl, rfl⟩

/-! The inputs. -/

theorem diOf_updDi (n : Nat) (f : DigIn → DigIn) (s : State) (h : n < 16) : diOf (updDi n f s) n = f (diOf s n) :=
  putAt_getD_same 16 s.fio.din n _ _ h

/-- The barrier stands as before, and so does every input. -/
def SameInputs (s t : State) : Prop := t.fio.din = s.fio.din ∧ t.fio.up = s.fio.up

theorem SameInputs.of_fio {s t : State} (h : t.fio = s.fio) : SameInputs s t :=
  ⟨congrArg Field.din h, congrArg Field.up h⟩

theorem SameInputs.trans {a b c : State} (h : SameInputs a b) (k : SameInputs b c) : SameInputs a c :=
  ⟨k.1.trans h.1, k.2.trans h.2⟩

theorem SameInputs.diOf_eq {s t : State} (h : SameInputs s t) (n : Nat) : diOf t n = diOf s n := by
  rw [diOf, h.1, diOf]

theorem noteDi_only (t1 : Nat) (s : State) : Only [.fio, .le] s (noteDi t1 s) :=
  Only.ite _ (Only.refl _ s) fun p => by cases p <;> simp [Same]

theorem noteDi_sameInputs (t1 : Nat) (s : State) : SameInputs s (noteDi t1 s) := by
  unfold noteDi
  dsimp only
  repeat' split
  all_goals exact ⟨rfl, rfl⟩

theorem diRecord_only (n : Nat) (est gap : Bool) (t1 : Nat) (s : State) :
    Only [.dr, .le, .pr, .evr, .gr] s (diRecord n est gap t1 s) := (binSet_logs _ _ _ _ _ _ _ s).1

theorem diRefresh_only (n : Nat) (s : State) : Only [.fio, .le, .dr, .pr, .evr, .gr] s (diRefresh n s) :=
  ((noteDi_only _ s).seq (diRecord_only _ _ _ _ _)).mono (by decide)

theorem diRefresh_sameInputs (n : Nat) (s : State) : SameInputs s (diRefresh n s) :=
  (noteDi_sameInputs _ s).trans (.of_fio ((diRecord_only _ _ _ _ _).same .fio (by decide)))

theorem detOn_of_hlt {s t : State} (h : t.hlt = s.hlt) (d i : Nat) : detOn t d i = detOn s d i := by rw [detOn, h, detOn]

theorem diValidity_of_openW (s : State) (n : Nat) (h : (diOf s n).openW = true) : diValidity s n = 1 := by
  simp [diValidity, h]

theorem diValidity_of_overtemp (s : State) (n : Nat) (h : (diOf s n).overtemp = true) : diValidity s n = 1 := by
  simp [diValidity, h]

theorem diValidity_of_overload (s : State) (n : Nat) (h : (diOf s n).overload = true) : diValidity s n ≠ 0 := by
  unfold diValidity
  dsimp only
  rw [h]
  split
  · decide
  · decide

/-- A diagnostic of an input: its flag, its detector, then its validity. -/
def inputFault (d n : Nat) (f : DigIn → DigIn) (s : State) : State := diRefresh n (fireDet d n n (updDi n f s))

theorem diOf_inputFault (d n : Nat) (f : DigIn → DigIn) (s : State) (h : n < 16) :
    diOf (inputFault d n f s) n = f (diOf s n) :=
  ((SameInputs.of_fio (fireDet_fio _ _ _ _)).trans (diRefresh_sameInputs n _)).diOf_eq n |>.trans (diOf_updDi n f s h)

theorem inputFault_detOn (d n : Nat) (f : DigIn → DigIn) (s : State) : detOn (inputFault d n f s) d n = true :=
  (detOn_of_hlt ((diRefresh_only n _).same .hlt (by decide)) d n).trans (fireDet_detOn d n n _)

theorem execFioDiOpenWire_completes (n : Nat) (s : State) (hn : n < 16) (hc : (fsCfg s 18).testBit n = true)
    (hs : (diOf s n).state = false) (ho : (diOf s n).openW = false) : ∃ t, execFioDiOpenWire n s = .next t ∧
      (diOf t n).openW = true ∧ detOn t 0x11 n = true ∧ diValidity t n = 1 := by
  have flag := congrArg DigIn.openW (diOf_inputFault 0x11 n (fun d => { d with openW := true }) s hn)
  exact ⟨_, if_pos (by simp [hn, hc, hs, ho]), flag, inputFault_detOn 0x11 n _ s, diValidity_of_openW _ n flag⟩

theorem execFioDiOverload_completes (n : Nat) (s : State) (hn : n < 16) (ho : (diOf s n).overload = false) :
    ∃ t, execFioDiOverload n s = .next t ∧ (diOf t n).overload = true ∧ detOn t 0x12 n = true ∧ diValidity t n ≠ 0 := by
  have flag := congrArg DigIn.overload (diOf_inputFault 0x12 n (fun d => { d with overload := true }) s hn)
  exact ⟨_, if_pos (by simp [hn, ho]), flag, inputFault_detOn 0x12 n _ s, diValidity_of_overload _ n flag⟩

theorem execFioDiOvertemp_completes (n : Nat) (s : State) (hn : n < 16) (ho : (diOf s n).overtemp = false) :
    ∃ t, execFioDiOvertemp n s = .next t ∧ (diOf t n).overtemp = true ∧ detOn t 0x13 n = true ∧ diValidity t n = 1 := by
  have flag := congrArg DigIn.overtemp (diOf_inputFault 0x13 n (fun d => { d with overtemp := true }) s hn)
  exact ⟨_, if_pos (by simp [hn, ho]), flag, inputFault_detOn 0x13 n _ s, diValidity_of_overtemp _ n flag⟩

/-- A chattering input has been quiet for its time: what `execDiChatterCleared` does before it tells a changed state. -/
def chatterEnds (n : Nat) (s : State) : State :=
  diRefresh n (submit .field 0x6003 n (clearDet 0x26 n (updDi n (fun d => { d with frozen := false, changes := [] }) s)))

theorem diOf_chatterEnds (n : Nat) (s : State) (h : n < 16) :
    diOf (chatterEnds n s) n = { diOf s n with frozen := false, changes := [] } :=
  ((SameInputs.of_fio ((submit_fio _ _ _ _).trans (clearDet_fio _ _ _))).trans (diRefresh_sameInputs n _)).diOf_eq n
    |>.trans (diOf_updDi n _ s h)

theorem chatterEnds_detOn (n : Nat) (s : State) : detOn (chatterEnds n s) 0x26 n = false :=
  (detOn_of_hlt (((diRefresh_only n _).same .hlt (by decide)).trans (submit_hlt _ _ _ _)) 0x26 n).trans (clearDet_detOn 0x26 n _)

/-- A state that has changed meanwhile is told by an event and to the tasks it triggers. -/
theorem execDiChatterCleared_due (n : Nat) (s : State) (hn : n < 16) (hf : (diOf s n).frozen = true)
    (hi : injOn s 0x26 n = false) (hd : due s (diOf s n).lastChange (msT (pv s 0x0554 n 4 2 5000)) = true) :
    ∃ t, execDiChatterCleared n s = .next t ∧ Only [.evr, .le] (chatterEnds n s) t := by
  have now : execDiChatterCleared n s = _ := if_pos (by simp [hn, hf, hi, hd])
  rw [now]
  dsimp only
  split
  · exact ⟨_, rfl, Only.seq (Only.ite _ (emit_only _ _ _) (Only.refl _ _)) (raiseTrig_only _ _ _ _ _ _)⟩
  · exact ⟨_, rfl, Only.refl _ _⟩

theorem execDiChatterCleared_completes (n : Nat) (s : State) (hn : n < 16) (hf : (diOf s n).frozen = true)
    (hi : injOn s 0x26 n = false) (hd : due s (diOf s n).lastChange (msT (pv s 0x0554 n 4 2 5000)) = true) :
    ∃ t, execDiChatterCleared n s = .next t ∧ (diOf t n).frozen = false ∧ detOn t 0x26 n = false ∧
      diState t n = (diOf s n).state := by
  obtain ⟨t, ht, told⟩ := execDiChatterCleared_due n s hn hf hi hd
  have input : diOf t n = _ := ((SameInputs.of_fio (told.same .fio (by decide))).diOf_eq n).trans (diOf_chatterEnds n s hn)
  refine ⟨t, ht, congrArg DigIn.frozen input,
    (detOn_of_hlt (told.same .hlt (by decide)) 0x26 n).trans (chatterEnds_detOn n s), ?_⟩
  rw [diState, input]
  rfl

/-! A diagnostic's end. -/

theorem clearFieldFlag_only (det n : Nat) (s : State) : Only [.fio] s (clearFieldFlag det n s) := by
  unfold clearFieldFlag
  split
  case h_8 => exact Only.refl _ s
  all_goals exact State.with_fio_only s _

theorem execFioDiagCleared_completes (det n : Nat) (s : State)
    (hd : det ∈ [0x0E, 0x0F, 0x10, 0x11, 0x12, 0x13, 0x15]) (ho : detOn s det n = true) (hi : injOn s det n = false) :
    ∃ t, execFioDiagCleared det n s = .next t ∧ detOn t det n = false ∧
      Only [.fio, .evr, .hlt, .le, .dr, .gr, .pr] s t := by
  have listed : [0x0E, 0x0F, 0x10, 0x11, 0x12, 0x13, 0x15].contains det = true := List.contains_iff_mem.mpr hd
  refine ⟨_, if_pos ⟨listed, ho, by simp [hi]⟩, ?_, ?_⟩
  · exact (detOn_of_hlt (submit_hlt _ _ _ _) det n).trans (clearDet_detOn det n _)
  · have taken := Only.trans_ite (0x11 ≤ det ∧ det ≤ 0x13)
      ((clearFieldFlag_only det n s).mono (by decide)) (diRefresh_only n _)
    exact ((taken.seq (clearDet_only _ _ _)).seq (submit_only _ _ _ _)).mono (by decide)

/-! The group supplies (R68, R433). -/

theorem getLsbD_setB_same {w : Nat} (v : BitVec w) (i : Nat) (b : Bool) (h : i < w) : (setB v i b).getLsbD i = b := by
  unfold setB
  cases b <;> simp [h]

theorem execFioSupplyLow_warns (g : Nat) (s : State) (hg : g < 2) (hp : pv s 0x0552 g 0 1 1 = 1)
    (hl : s.fio.low.getLsbD g = false) : ∃ t, execFioSupplyLow g 1 s = .next t ∧ Only [.fio, .evr, .hlt] s t ∧
      t.fio.low = setB s.fio.low g true ∧ t.fio.lockout = s.fio.lockout ∧ detOn t 0x14 g = true := by
  have now : execFioSupplyLow g 1 s = _ := (if_neg (by omega)).trans (if_pos (by simp [hl]))
  refine ⟨_, now, (State.with_fio_only s _).seq (fireDet_only _ _ _ _), ?_, ?_, fireDet_detOn _ _ _ _⟩
  · rw [fireDet_fio]
  · rw [fireDet_fio]

theorem execFioSupplyLow_locks (g : Nat) (s : State) (hg : g < 2) (hp : pv s 0x0552 g 0 1 1 = 1)
    (hl : s.fio.lockout.getLsbD g = false) : ∃ t, execFioSupplyLow g 2 s = .next t ∧ Only [.fio, .evr, .hlt] s t ∧
      t.fio.low = setB s.fio.low g true ∧ t.fio.lockout = setB s.fio.lockout g true ∧ detOn t 0x14 g = true ∧
      ∀ n, n < 8 → doGroup n = g → (doOf t n).driven = false := by
  have now : execFioSupplyLow g 2 s = _ := (if_neg (by omega)).trans ((if_neg (by simp)).trans (if_pos (by simp [hl])))
  refine ⟨_, now, ((State.with_fio_only s _).trans (driveAll_only _)).seq (fireDet_only _ _ _ _), ?_, ?_,
    fireDet_detOn _ _ _ _, fun n hn hgn => ?_⟩
  · rw [fireDet_fio]
    rfl
  · rw [fireDet_fio]
    rfl
  · rw [doOf_of_fio (fireDet_fio _ _ _ _), doOf_driveAll n _ hn]
    refine drives_of_lockout _ n ?_
    rw [hgn]
    exact getLsbD_setB_same s.fio.lockout g true hg

/-- Outputs of a group under restart-inhibit that are not trip-class wait for their command to read off. -/
def heldBack (g : Nat) (inhibit : Prop) [Decidable inhibit] (s : State) : State :=
  (List.range 8).foldl (fun s n =>
    if doGroup n = g ∧ inhibit ∧ !fsTrip s n then updDo n (fun x => { x with inhibit := true }) s else s) s

theorem heldBack_only (g : Nat) (inhibit : Prop) [Decidable inhibit] (s : State) : Only [.fio] s (heldBack g inhibit s) :=
  Only.foldl _ _ _ s fun s n => Only.ite _ (updDo_only n _ s) (Only.refl _ s)

/-- Outputs held back leave the supply's marks. -/
theorem heldBack_supply (g : Nat) (inhibit : Prop) [Decidable inhibit] (s : State) :
    ((heldBack g inhibit s).fio.low, (heldBack g inhibit s).fio.lockout) = (s.fio.low, s.fio.lockout) :=
  foldl_keeps (fun s : State => (s.fio.low, s.fio.lockout)) _ _ s fun s n => by split <;> rfl

/-- The lock-out of a group ends: what `execFioSupplyRestored` does before the supply clears. -/
def lockoutEnds (g : Nat) (s : State) : State :=
  if s.fio.lockout.getLsbD g then
    driveAll (heldBack g (pv s 0x0552 g 1 1 0 = 1) { s with fio := { s.fio with lockout := setB s.fio.lockout g false } })
  else s

theorem lockoutEnds_only (g : Nat) (s : State) : Only [.fio] s (lockoutEnds g s) :=
  Only.ite _ (((State.with_fio_only s _).trans (heldBack_only _ _ _)).trans (driveAll_only _)) (Only.refl _ s)

theorem lockoutEnds_supply (g : Nat) (s : State) (hg : g < 2) :
    (lockoutEnds g s).fio.low = s.fio.low ∧ (lockoutEnds g s).fio.lockout.getLsbD g = false := by
  by_cases locked : s.fio.lockout.getLsbD g = true
  · have ended : lockoutEnds g s = driveAll _ := if_pos locked
    have held := heldBack_supply g (pv s 0x0552 g 1 1 0 = 1)
      { s with fio := { s.fio with lockout := setB s.fio.lockout g false } }
    obtain ⟨low, lock⟩ := Prod.mk.inj held
    rw [ended]
    exact ⟨low, (congrArg (·.getLsbD g) lock).trans (getLsbD_setB_same s.fio.lockout g false hg)⟩
  · have same : lockoutEnds g s = s := if_neg locked
    rw [same]
    exact ⟨rfl, Bool.eq_false_iff.mpr locked⟩

theorem execFioSupplyRestored_eq (g : Nat) (full : Bool) (s : State) (hg : g < 2) : execFioSupplyRestored g full s =
    let s := lockoutEnds g s
    if full ∧ s.fio.low.getLsbD g ∧ !injOn s 0x14 g then
      .next (submit .field 0x601B g (clearDet 0x14 g { s with fio := { s.fio with low := setB s.fio.low g false } }))
    else .next s := if_neg (by omega)

theorem execFioSupplyRestored_completes (g : Nat) (s : State) (hg : g < 2) (hl : s.fio.low.getLsbD g = true)
    (hi : injOn s 0x14 g = false) : ∃ t, execFioSupplyRestored g true s = .next t ∧ Only [.fio, .evr, .hlt] s t ∧
      t.fio.low = setB s.fio.low g false ∧ t.fio.lockout.getLsbD g = false ∧ detOn t 0x14 g = false := by
  obtain ⟨low, lock⟩ := lockoutEnds_supply g s hg
  have still : injOn (lockoutEnds g s) 0x14 g = false := by
    rw [injOn, (lockoutEnds_only g s).same .hlt (by decide)]
    exact hi
  refine ⟨_, (execFioSupplyRestored_eq g true s hg).trans (if_pos (by simp [low, hl, still])), ?_, ?_, ?_, ?_⟩
  · have restored := (lockoutEnds_only g s).trans
      (State.with_fio_only _ { (lockoutEnds g s).fio with low := setB (lockoutEnds g s).fio.low g false })
    exact ((restored.seq (clearDet_only 0x14 g _)).seq (submit_only .field 0x601B g _)).mono (by decide)
  · rw [submit_fio]
    exact congrArg (setB · g false) low
  · rw [submit_fio]
    exact lock
  · exact (detOn_of_hlt (submit_hlt _ _ _ _) _ _).trans (clearDet_detOn 0x14 g _)

/-- Settles O40, row by row. -/
theorem fieldDiagnosticRowsComplete : Obligations.FieldDiagnosticRowsComplete := by
  refine ⟨fun n s hn => ⟨?_, ?_, ?_, ?_, ?_⟩, fun n s hn => ⟨?_, ?_, ?_, ?_⟩, execFioDiagCleared_completes,
    fun g s hg => ⟨?_, ?_, ?_⟩⟩
  · exact execFioDoOverload_completes n s hn
  · exact execFioDoOpenWire_completes n s hn
  · exact execFioDoOvertemp_completes n s hn
  · exact execDoThermalRetry_completes n s hn
  · exact execFioDoExtVoltage_completes n s hn
  · exact execFioDiOpenWire_completes n s hn
  · exact execFioDiOverload_completes n s hn
  · exact execFioDiOvertemp_completes n s hn
  · exact execDiChatterCleared_completes n s hn
  · exact execFioSupplyLow_warns g s hg
  · exact execFioSupplyLow_locks g s hg
  · exact execFioSupplyRestored_completes g s hg

end Sys2Proof.Machine
end

section
/-! PROOFS. The supply, the hold-up store, the warning stage, a flush's steps and the resets (R44, R54 to R63, R94 to R98). -/

namespace Sys2Proof.Machine
open Sys2Proof

/-! The hold-up store. -/

theorem fireDetOnce_inForce (d v : Nat) (s : State) : detInForce (fireDetOnce d v s) d = true :=
  Bool.or_eq_true_iff.mpr (.inr (List.any_eq_true.mpr ⟨_, fireDetOnce_momentary d v s, beq_self_eq_true d⟩))

/-- What a detector's event leaves of the health unit (R629). -/
theorem fireDetOnce_store (d v : Nat) (s : State) : (fireDetOnce d v s).hlt.store = s.hlt.store := by
  simp [fireDetOnce, fireDetOnceP]

theorem execStoreCharged_completes (s : State) (hp : s.pw.phase ≠ .off) (hc : s.pw.storeCharged = false) :
    execStoreCharged s = .next { s with pw := { s.pw with storeCharged := true, measuring := true } } :=
  if_neg (by simp [hp, hc])

/-- A measurement's figures are held. -/
def storeMeasured (cap esr us : Nat) (s : State) : State :=
  { s with pw := { s.pw with measuring := false, storeCapUF := cap, storeEsrMohm := esr, holdupUs := us } }

theorem holdupMeasured_only (cap esr us : Nat) (s : State) :
    Only [.hlt, .evr] (storeMeasured cap esr us s) (holdupMeasured cap esr us s) := by
  unfold holdupMeasured
  dsimp only
  refine Only.trans (Only.trans ?_ (monValue_only _ _ _ _)) (monPoint_only _ _)
  split
  · exact (fireDetOnce_only _ _ _).mono (by decide)
  · exact Only.refl _ _

theorem execHoldupMeasureDone_completes (cap esr vhold : Nat) (s : State) (hm : s.pw.measuring = true)
    (hi : injOn s 0x21 0 = false) : ∃ t, execHoldupMeasureDone cap esr vhold s = .next t ∧ Only [.pw, .hlt, .evr] s t ∧
      t.pw = { s.pw with
        measuring := false, storeCapUF := cap + vhold, storeEsrMohm := esr, holdupUs := holdupTime (cap + vhold) esr } := by
  have now : execHoldupMeasureDone cap esr vhold s =
      .next (holdupMeasured (cap + vhold) esr (holdupTime (cap + vhold) esr) s) := by
    simp [execHoldupMeasureDone, hm, hi]
  have told := holdupMeasured_only (cap + vhold) esr (holdupTime (cap + vhold) esr) s
  exact ⟨_, now, (State.with_pw_only s _).seq told, told.same .pw (by decide)⟩

theorem execStoreChargeTimeout_completes (s : State) (hp : s.pw.phase ≠ .off) (hc : s.pw.storeCharged = false)
    (hd : due s 0 (secT 5) = true) : ∃ t, execStoreChargeTimeout s = .next t ∧ Only [.hlt, .evr] s t ∧
      detInForce t 0x21 = true ∧ t.evr = (fireDetOnce 0x21 2 s).evr :=
  ⟨_, if_pos (by simp [hp, hc, hd]), (fireDetOnce_only _ _ s).mono (by decide), fireDetOnce_inForce _ _ s, rfl⟩

theorem execStoreVoltageLow_completes (mv : Nat) (s : State) (hp : s.pw.phase ≠ .off) (hh : s.pw.phase ≠ .holdUp)
    (hc : s.pw.storeCharged = true) (hg : s.pw.vmainGood = true) : ∃ t, execStoreVoltageLow mv s = .next t ∧
      Only [.hlt, .evr] s t ∧ detInForce t 0x21 = true ∧ t.hlt.store = mv :=
  ⟨_, if_pos ⟨hp, hh, hc, hg⟩, ((State.with_hlt_only s _).seq (fireDetOnce_only _ _ _)).mono (by decide),
    fireDetOnce_inForce _ _ _, fireDetOnce_store _ _ _⟩

/-! The warning stage begins (R57). -/

theorem firmwareUp_of_running (s : State) (h : s.pw.phase = .running) : firmwareUp s = true := by simp [firmwareUp, h]

/-- The warning's mark is set and told. -/
def warningBegins (cause : Nat) (s : State) : State :=
  submit .boot 0x0110 cause { s with pw := { s.pw with warning := true } }

theorem warningBegins_only (cause : Nat) (s : State) : Only [.pw, .evr] s (warningBegins cause s) :=
  (State.with_pw_only s _).seq (submit_only _ _ _ _)

theorem warn_only (cause : Nat) (s : State) : Only [.pw, .le, .evr, .cmd, .pads, .img, .fl] s (warn cause s) :=
  Only.ite _ (Only.refl _ s) (((warningBegins_only cause s).seq (callFlush_only cause _)).mono (by decide))

theorem warn_onlyHirq (cause : Nat) (s : State) : OnlyHirq s (warn cause s) :=
  OnlyHirq.ite _ (OnlyHirq.refl s) ((OnlyHirq.of_only (warningBegins_only cause s) (by decide)).trans (callFlush_onlyHirq _ _))

/-- What a warning changes in the supply is its own mark. -/
theorem warn_phase (cause : Nat) (s : State) : (warn cause s).pw.phase = s.pw.phase := by
  unfold warn
  split
  · rfl
  · rw [(callFlush_only cause _).same .pw (by decide), submit_pw]

/-- The flush of a warning has begun: its marks, its cause, the tasks halted. -/
theorem warn_begins (cause : Nat) (s : State) (hp : s.pw.phase = .running) (hw : s.pw.warning = false)
    (hf : s.fl.running = false) : (warn cause s).pw = { s.pw with warning := true } ∧ (warn cause s).fl.running = true ∧
      (warn cause s).fl.cause = cause ∧ (warn cause s).fl.step = 1 ∧ (warn cause s).le.halted = true := by
  have fl : (warningBegins cause s).fl.running = false := by rw [(warningBegins_only cause s).same .fl (by decide), hf]
  have begun : warn cause s = startFlush cause false (warningBegins cause s) :=
    (if_neg (by simp [firmwareUp_of_running s hp, hw])).trans (callFlush_starts cause _ fl)
  rw [begun]
  refine ⟨((startFlush_only _ _ _).same .pw (by decide)).trans (submit_pw _ _ _ _), ?_⟩
  rw [startFlush_eq]
  exact ⟨rfl, rfl, rfl, rfl⟩

theorem detInForce_of_detOn (s : State) (d i : Nat) (h : detOn s d i = true) : detInForce s d = true :=
  Bool.or_eq_true_iff.mpr (.inl (List.any_eq_true.mpr ⟨_, List.contains_iff_mem.mp h, beq_self_eq_true d⟩))

/-- VMAIN_LOW comes into force, before its warning. -/
def vmainFalls (mv : Nat) (s : State) : State :=
  fireDet 0x22 0 mv { s with pw := { s.pw with vmainLow := true }, hlt := { s.hlt with vmain := mv } }

theorem vmainFalls_only (mv : Nat) (s : State) : Only [.pw, .hlt, .evr] s (vmainFalls mv s) :=
  (((State.with_pw_only s { s.pw with vmainLow := true }).seq (State.with_hlt_only _ _)).seq (fireDet_only _ _ _ _)).mono
    (by decide)

theorem execVmainLow_completes (mv : Nat) (s : State) (hp : s.pw.phase = .running) (hl : s.pw.vmainLow = false)
    (hw : s.pw.warning = false) (hf : s.fl.running = false) : ∃ t, execVmainLow mv s = .next t ∧
      t.pw = { s.pw with vmainLow := true, warning := true } ∧ t.hlt.vmain = mv ∧ detInForce t 0x22 = true ∧
      t.fl.running = true ∧ t.fl.cause = 2 ∧ t.fl.step = 1 ∧ t.le.halted = true ∧ t.pads.healthy = s.pads.healthy ∧
      t.pads.bindOut = s.pads.bindOut ∧ t.fio = s.fio ∧ t.gr = s.gr := by
  have pw : (vmainFalls mv s).pw = { s.pw with vmainLow := true } := fireDet_pw _ _ _ _
  have fl : (vmainFalls mv s).fl = s.fl := (vmainFalls_only mv s).same .fl (by decide)
  obtain ⟨hpw, hrun, hcause, hstep, hhalt⟩ := warn_begins 2 (vmainFalls mv s) (by rw [pw]; exact hp) (by rw [pw]; exact hw)
    (by rw [fl]; exact hf)
  have hlt : (warn 2 (vmainFalls mv s)).hlt = (vmainFalls mv s).hlt := (warn_only 2 _).same .hlt (by decide)
  obtain ⟨b, pads⟩ := (OnlyHirq.of_only (vmainFalls_only mv s) (by decide)).trans (warn_onlyHirq 2 _)
  have all := (vmainFalls_only mv s).seq (warn_only 2 _)
  refine ⟨warn 2 (vmainFalls mv s), if_neg (by simp [hp, hl]), by rw [hpw, pw], ?_, ?_, hrun, hcause, hstep, hhalt,
    by rw [pads],
    by rw [pads], all.same .fio (by decide), all.same .gr (by decide)⟩
  · exact congrArg Health.vmain (hlt.trans (fireDet_hlt 0x22 0 mv _))
  · exact detInForce_of_detOn _ 0x22 0 ((detOn_of_hlt hlt 0x22 0).trans (fireDet_detOn 0x22 0 mv _))

/-- The level of PFAIL_N as judged. -/
def setPfail (b : Bool) (s : State) : State := { s with pw := { s.pw with pfailN := b } }

theorem execPfailNLow_completes (s : State) (hp : s.pw.phase = .running) (hw : s.pw.warning = false)
    (hf : s.fl.running = false) : ∃ t, execPfailNLow s = .next t ∧ t.pw = { s.pw with pfailN := false, warning := true } ∧
      t.fl.running = true ∧ t.fl.cause = 1 ∧ t.fl.step = 1 ∧ t.le.halted = true ∧ t.fio = s.fio ∧ t.gr = s.gr := by
  obtain ⟨hpw, hrun, hcause, hstep, hhalt⟩ := warn_begins 1 (setPfail false s) hp hw hf
  exact ⟨warn 1 (setPfail false s), if_neg (by simp [hp]), hpw, hrun, hcause, hstep, hhalt,
    (warn_only 1 (setPfail false s)).same .fio (by decide), (warn_only 1 (setPfail false s)).same .gr (by decide)⟩

/-! The warning stage recovers (R59). -/

theorem setArm_only (st : DrSt) (s : State) : Only [.dr, .evr] s (setArm st s) :=
  (State.with_dr_only s _).seq (submit_only _ _ _ _)

theorem drRecover_only (s : State) : Only [.dr, .evr] s (drRecover s) := by
  have dr := fun a v => (State.with_dr_only a v).mono (qs := [.dr, .evr]) (by decide)
  refine Only.ite _ ((dr s { s.dr with flushed := false }).trans ?_) (Only.refl _ s)
  refine Only.ite _ (Only.ite _ ((dr _ _).trans (setArm_only _ _)) ?_) (Only.refl _ _)
  exact Only.ite _ (setArm_only _ _) (dr _ _)

/-- The warning's mark is taken back and told. -/
def warningEnds (last : Nat) (s : State) : State := submit .boot 0x0111 last { s with pw := { s.pw with warning := false } }

theorem warningEnds_only (last : Nat) (s : State) : Only [.pw, .evr] s (warningEnds last s) :=
  (State.with_pw_only s _).seq (submit_only _ _ _ _)

theorem warningEnds_pw (last : Nat) (s : State) : (warningEnds last s).pw = { s.pw with warning := false } := submit_pw _ _ _ _

/-- A recovery leaves the supply as the warning's end does. -/
theorem recover_only (last : Nat) (s : State) : Only [.evr, .fl, .le, .dr] (warningEnds last s) (recover last s) := by
  have resumed := (State.with_le_fl_only (warningEnds last s) { (warningEnds last s).le with halted := false }
    { (warningEnds last s).fl with recovered := true }).seq (drRecover_only _)
  exact Only.ite _ (Only.refl _ _) (Only.ite _ ((State.with_fl_only _ _).mono (by decide)) (resumed.mono (by decide)))

theorem recover_resumes (last : Nat) (s : State) (hr : s.pw.resetPend = false) : (recover last s).fl.recovered = true ∧
    (s.fl.running = false → (recover last s).le.halted = false) := by
  have pend : (warningEnds last s).pw.resetPend = false := by rw [warningEnds_pw]; exact hr
  have fl : (warningEnds last s).fl = s.fl := (warningEnds_only last s).same .fl (by decide)
  have now : recover last s = if (warningEnds last s).fl.running then
        { warningEnds last s with fl := { (warningEnds last s).fl with recovered := true, again := 0 } }
      else drRecover { warningEnds last s with
        le := { (warningEnds last s).le with halted := false }, fl := { (warningEnds last s).fl with recovered := true } } :=
    if_neg (Bool.eq_false_iff.mp pend)
  rw [now, fl]
  split
  · rename_i run
    exact ⟨rfl, fun off => absurd run (by simp [off])⟩
  · refine ⟨?_, fun _ => ?_⟩
    · rw [(drRecover_only _).same .fl (by decide)]
    · rw [(drRecover_only _).same .le (by decide)]

theorem pfailRises_recovers (s : State) (hp : s.pw.phase = .running) (hw : s.pw.warning = true)
    (hv : s.pw.vmainLow = false) : pfailRises s = recover 1 (setPfail true s) :=
  if_pos (by simp [hp, hw, hv])

theorem execPfailRecovered_pfail (s : State) (hp : s.pw.phase = .running) (hw : s.pw.warning = true)
    (hv : s.pw.vmainLow = false) (hr : s.pw.resetPend = false) : ∃ t, execPfailRecovered 1 s = .next t ∧
      Only [.pw, .evr, .fl, .le, .dr] s t ∧ t.pw = { s.pw with pfailN := true, warning := false } ∧ t.fl.recovered = true ∧
      (s.fl.running = false → t.le.halted = false) := by
  have ended := (State.with_pw_only s { s.pw with pfailN := true }).seq (warningEnds_only 1 (setPfail true s))
  have resumed := recover_only 1 (setPfail true s)
  exact ⟨recover 1 (setPfail true s), congrArg Host.Outcome.next (pfailRises_recovers s hp hw hv),
    (ended.seq resumed).mono (by decide),
    (resumed.same .pw (by decide)).trans (warningEnds_pw 1 _), recover_resumes 1 (setPfail true s) hr⟩

theorem execPfailRecovered_pin (s : State) (h : s.pw.warning = false ∨ s.pw.vmainLow = true) :
    execPfailRecovered 1 s = .next (setPfail true s) := by
  have stays : pfailRises s = setPfail true s :=
    if_neg fun ends => h.elim (fun h => Bool.false_ne_true (h.symm.trans ends.1)) fun h => by simp [h] at ends
  exact congrArg Host.Outcome.next stays

/-- VMAIN_LOW ends, before a recovery. -/
def vmainClears (s : State) : State := clearDetAll 0x22 { s with pw := { s.pw with vmainLow := false } }

theorem vmainClears_only (s : State) : Only [.pw, .hlt] s (vmainClears s) :=
  (State.with_pw_only s _).seq (clearDetAll_only _ _)

theorem execVmainLowCleared_completes (s : State) (hp : s.pw.phase = .running) (hi : injOn s 0x22 0 = false) :
    ∃ t, execVmainLowCleared s = .next t ∧ Only [.pw, .hlt, .evr, .fl, .le, .dr] s t ∧
      t.pw = { s.pw with vmainLow := false, warning := s.pw.warning && !s.pw.pfailN } ∧
      t.hlt.active = s.hlt.active.filter (·.1 != 0x22) ∧
      (s.pw.warning = true → s.pw.pfailN = true → s.pw.resetPend = false → t.fl.recovered = true) := by
  have now : execVmainLowCleared s = .next (if s.pw.warning ∧ s.pw.pfailN ∧ s.pw.phase ≠ .holdUp then
      recover 2 (vmainClears s) else vmainClears s) := congrArg Host.Outcome.next (if_neg (by simp [hp, hi]))
  refine ⟨_, now, ?_⟩
  split
  · rename_i last
    obtain ⟨hw, hn, -⟩ := last
    have ended := recover_only 2 (vmainClears s)
    refine ⟨(((vmainClears_only s).seq (warningEnds_only 2 _)).seq ended).mono (by decide), ?_, ?_, fun _ _ hr =>
      (recover_resumes 2 (vmainClears s) hr).1⟩
    · rw [ended.same .pw (by decide), warningEnds_pw, hw, hn]
      rfl
    · rw [ended.same .hlt (by decide), (warningEnds_only 2 _).same .hlt (by decide)]
      rfl
  · rename_i more
    refine ⟨(vmainClears_only s).mono (by decide), ?_, rfl, fun hw hn => absurd ⟨hw, hn, by simp [hp]⟩ more⟩
    have still : (s.pw.warning && !s.pw.pfailN) = s.pw.warning := by
      cases hw : s.pw.warning with
      | false => rfl
      | true => simpa [hw, hp] using more
    rw [still]
    rfl

/-- Settles O10, row by row. -/
theorem powerRowsComplete : Obligations.PowerRowsComplete := by
  refine ⟨execStoreCharged_completes, execHoldupMeasureDone_completes, execStoreChargeTimeout_completes,
    execStoreVoltageLow_completes, execVmainLow_completes, execPfailNLow_completes, execPfailRecovered_pfail,
    execPfailRecovered_pin, fun s => rfl, execVmainLowCleared_completes⟩

end Sys2Proof.Machine
end

section
/-! PROOFS. The hold-up stage, a flush's steps, the resets and the restart (R54 to R58, R94 to R98). -/

namespace Sys2Proof.Machine
open Sys2Proof

/-! The hold-up stage (R58). -/

theorem outputsOff_pw (s : State) : (outputsOff s).pw = { s.pw with convertersOn := false } := rfl

/-- VMAIN has gone and the graph has stopped, with the outputs off. -/
def supplyGone (s : State) : State :=
  outputsOff { s with pw := { s.pw with vmainLow := true, vmainGood := false }, gr := { s.gr with running := false } }

/-- The flush that the store carries: the one that has completed, or one that is called for. -/
def carriedFlush (s : State) : State :=
  if s.fl.cause ≠ 0 && s.fl.done && !s.fl.recovered && !s.fl.structural then s else callFlush 2 s

theorem carriedFlush_only (s : State) : Only [.le, .evr, .cmd, .pads, .img, .fl] s (carriedFlush s) :=
  Only.ite _ (Only.refl _ s) (callFlush_only 2 s)

theorem carriedFlush_onlyHirq (s : State) : OnlyHirq s (carriedFlush s) :=
  OnlyHirq.ite _ (OnlyHirq.refl s) (callFlush_onlyHirq 2 s)

/-- The hold-up stage of a running engine, before the end of its flush. -/
def heldUp (s : State) : State :=
  { carriedFlush (supplyGone s) with pw := { (carriedFlush (supplyGone s)).pw with phase := .holdUp } }

theorem execHoldUpStage_of_running (s : State) (h : s.pw.phase = .running) :
    execHoldUpStage s = .next (if (heldUp s).fl.running then heldUp s else halt (heldUp s)) := by
  have up := firmwareUp_of_running s h
  unfold execHoldUpStage
  rw [h]
  dsimp only
  rw [up]
  rfl

theorem heldUp_pw (s : State) : (heldUp s).pw =
    { s.pw with vmainLow := true, vmainGood := false, convertersOn := false, phase := .holdUp } :=
  congrArg (fun p : Power => { p with phase := .holdUp }) ((carriedFlush_only (supplyGone s)).same .pw (by decide))

/-- Without VMAIN the halt at the end of the flush is the supply gone. -/
theorem halt_heldUp (s : State) : halt (heldUp s) =
    { heldUp s with pw := { (heldUp s).pw with phase := .off, resetPend := false } } :=
  if_pos (by rw [heldUp_pw]; rfl)

theorem execHoldUpStage_completes (s : State) (h : s.pw.phase = .running) : ∃ t, execHoldUpStage s = .next t ∧
    t.pads.healthy = false ∧ t.pads.bindOut = false ∧ t.pads.hbOut = false ∧ t.pw.convertersOn = false ∧
    t.gr.running = false ∧ t.pw.vmainLow = true ∧ (t.pw.phase = .holdUp ∨ t.pw.phase = .off) := by
  obtain ⟨b, pads⟩ : OnlyHirq (supplyGone s) (heldUp s) := carriedFlush_onlyHirq (supplyGone s)
  have gr : (heldUp s).gr = (supplyGone s).gr := (carriedFlush_only (supplyGone s)).same .gr (by decide)
  refine ⟨_, execHoldUpStage_of_running s h, ?_⟩
  split
  · rw [pads, gr, heldUp_pw]
    exact ⟨rfl, rfl, rfl, rfl, rfl, rfl, .inl rfl⟩
  · rw [halt_heldUp]
    dsimp only
    rw [pads, gr, heldUp_pw]
    exact ⟨rfl, rfl, rfl, rfl, rfl, rfl, .inr rfl⟩

theorem execHoldUpStage_of_inReset (s : State) (h : s.pw.phase = .inReset) : execHoldUpStage s =
    .next { s with pw := { s.pw with phase := .off, vmainLow := true, vmainGood := false } } := by
  rw [execHoldUpStage, h]

/-! What a flush writes (R96, R97). -/

theorem reclaim_only (n : Nat) (s : State) : Only [.evr] s (reclaim n s) :=
  Only.ite _ (Only.refl _ s) ((State.with_evr_only s _).trans (submit_only _ _ _ _))

theorem commitPage_only (n : Nat) (s : State) : Only [.evr] s (commitPage n s) := by
  unfold commitPage
  dsimp only
  split
  · exact Only.refl _ s
  · exact (reclaim_only _ s).trans (State.with_evr_only _ _)

theorem commitAll_only (s : State) : Only [.evr] s (commitAll s) :=
  (Only.foldl _ _ _ s fun s _ => commitPage_only 256 s).trans (State.with_evr_only _ _)

theorem finalPage_only (s : State) : Only [.evr, .cmd, .pads] s (finalPage s) :=
  Only.ite _ ((commitAll_only s).mono (by decide))
    ((((State.with_evr_only s _).seq (summaryRec_logs _ _ _ _ _ _).1).seq (commitAll_only _)).mono (by decide))

theorem closeRecord_only (flags : BitVec 16) (s : State) : Only [.dr, .gr, .evr] s (closeRecord flags s) := by
  unfold closeRecord
  split
  · exact Only.refl _ s
  · exact ((State.with_dr_only s _).seq (digNote_only _ _ _)).seq (submit_only _ _ _ _)

theorem drPowerFail_only (s : State) : Only [.dr, .gr, .evr] s (drPowerFail s) :=
  (((recMark_only _ _ _ s).seq (closeRecord_only _ _)).seq (State.with_dr_only _ _)).mono (by decide)

theorem dropOldest_only (s : State) : Only [.dr, .evr] s (dropOldest s) := by
  unfold dropOldest
  split
  · exact Only.refl _ s
  · exact (State.with_dr_only s _).seq (submit_only _ _ _ _)

theorem makeRoom_only (k n : Nat) (s : State) : Only [.dr, .evr] s (makeRoom k n s) :=
  Only.trans (Only.foldl _ _ _ s fun s _ => Only.ite _ (Only.refl _ s) (dropOldest_only s))
    ((State.with_dr_only _ _).mono (by decide))

theorem reelDrainDone_only (id high prot : Nat) (s : State) : Only [.dr, .evr] s (reelDrainDone id high prot s) := by
  unfold reelDrainDone
  split
  · exact Only.refl _ s
  · exact (makeRoom_only _ _ s).trans ((State.with_dr_only _ _).mono (by decide))

theorem drainAll_only (s : State) : Only [.dr, .evr] s (drainAll s) :=
  Only.foldl _ _ _ s fun s r => reelDrainDone_only r.id 0 0 s

/-- A step writes what it holds in memory that keeps its contents: it leaves the supply, the outputs and the flush's marks. -/
theorem flushWrites_only (step : Nat) (s : State) : Only [.le, .evr, .dr, .gr, .cmd, .pads] s (flushWrites step s) := by
  unfold flushWrites
  split
  · exact (Only.seq (Only.ite _ (Only.refl _ s) (State.with_le_only s _)) (State.with_evr_only _ _)).mono (by decide)
  · exact ((Only.foldl _ _ _ s fun s _ => commitPage_only _ s).trans (State.with_evr_only _ _)).mono (by decide)
  · exact Only.ite _ ((drPowerFail_only s).mono (by decide)) ((State.with_dr_only s _).mono (by decide))
  · exact (finalPage_only s).mono (by decide)
  · exact (drainAll_only s).mono (by decide)

/-- A step's writes are complete. -/
def stepDone (s : State) : State :=
  { flushWrites s.fl.step s with
    fl := { (flushWrites s.fl.step s).fl with
      okMask := (flushWrites s.fl.step s).fl.okMask ||| 2 ^ (s.fl.step - 1), step := s.fl.step + 1 } }

theorem stepDone_only (s : State) : Only [.le, .evr, .dr, .gr, .cmd, .pads, .fl] s (stepDone s) :=
  (flushWrites_only _ s).seq (State.with_fl_only _ _)

theorem stepDone_fl (s : State) :
    (stepDone s).fl = { s.fl with okMask := s.fl.okMask ||| 2 ^ (s.fl.step - 1), step := s.fl.step + 1 } :=
  congrArg (fun f : Flush => { f with okMask := f.okMask ||| 2 ^ (s.fl.step - 1), step := s.fl.step + 1 })
    ((flushWrites_only s.fl.step s).same .fl (by decide))

/-- The step in progress is the flush's last by its number. -/
def lastStep (s : State) : Bool := decide (s.fl.step = 5) || (s.fl.structural && decide (s.fl.step = 4))

theorem lastStep_eq (s : State) : lastStep s = (decide (s.fl.step = 5) || (s.fl.structural && decide (s.fl.step = 4))) := rfl

theorem execFlushStepComplete_eq (s : State) (h : s.fl.running = true) : execFlushStepComplete s =
    .next (if lastStep s || s.fl.recovered then endFlush (lastStep s) (stepDone s) else stepDone s) := by
  have str : (stepDone s).fl.structural = s.fl.structural := by rw [stepDone_fl]
  have cut : (stepDone s).fl.recovered = s.fl.recovered := by rw [stepDone_fl]
  rw [lastStep_eq, ← str, ← cut]
  exact if_neg (by simp [h])

theorem execFlushStepComplete_goes_on (s : State) (h : s.fl.running = true) (hr : s.fl.recovered = false)
    (hs : s.fl.structural = false) (h5 : s.fl.step ≠ 5) : ∃ t, execFlushStepComplete s = .next t ∧ t.pw = s.pw ∧
      t.fio = s.fio ∧ t.fl = { s.fl with okMask := s.fl.okMask ||| 2 ^ (s.fl.step - 1), step := s.fl.step + 1 } :=
  ⟨stepDone s, (execFlushStepComplete_eq s h).trans (congrArg Host.Outcome.next (if_neg (by simp [lastStep_eq, hs, h5, hr]))),
    (stepDone_only s).same .pw (by decide), (stepDone_only s).same .fio (by decide), stepDone_fl s⟩

/-- A flush that ends with no other called for. -/
def flushOver (done : Bool) (s : State) : State :=
  { s with fl := { s.fl with running := false, done := done, step := 0, time := flushTime s } }

theorem endFlush_over (done : Bool) (s : State) (ha : s.fl.again = 0) (hr : s.fl.recovered = false) :
    endFlush done s = flushEnds (flushOver done s) := by
  have ended : endFlush done s = flushEnds (if s.fl.recovered then
      drRecover { flushOver done s with le := { s.le with halted := false } } else flushOver done s) := if_neg (by simp [ha])
  rw [ended, if_neg (by simp [hr])]

/-- In a running engine with no reset waiting, the end of a flush leaves its marks. -/
theorem flushEnds_fl (s : State) (hp : s.pw.phase = .running) (hr : s.pw.resetPend = false) : (flushEnds s).fl = s.fl := by
  rw [flushEnds, if_neg (by simp [hp]), if_neg (by simp [hr])]
  split
  · rfl
  · rfl

theorem execFlushStepComplete_ends (s : State) (h : s.fl.running = true) (hr : s.fl.recovered = false)
    (h5 : s.fl.step = 5) (ha : s.fl.again = 0) (hp : s.pw.phase = .running) (hw : s.pw.resetPend = false) :
    ∃ t, execFlushStepComplete s = .next t ∧ t.fl.running = false ∧ t.fl.done = true ∧
      t.fl.okMask = s.fl.okMask ||| 16 := by
  have pw : (stepDone s).pw = s.pw := (stepDone_only s).same .pw (by decide)
  have last : lastStep s = true := by simp [lastStep_eq, h5]
  have ended := endFlush_over true (stepDone s) (by rw [stepDone_fl]; exact ha) (by rw [stepDone_fl]; exact hr)
  have marks := flushEnds_fl (flushOver true (stepDone s)) (by rw [← hp, ← pw]; rfl) (by rw [← hw, ← pw]; rfl)
  refine ⟨endFlush true (stepDone s), ?_, ?_⟩
  · rw [execFlushStepComplete_eq s h, last]
    rfl
  · rw [ended, marks]
    refine ⟨rfl, rfl, (congrArg Flush.okMask (stepDone_fl s)).trans ?_⟩
    rw [h5]
    rfl

/-! The store's cut-off (R58, R96). -/

theorem lateFlush_running (f : Flush) : (lateFlush f).running = f.running := by
  unfold lateFlush
  split
  · rfl
  · rfl

/-- What the cut-off leaves of a page and of a record that were being written. -/
def cutShort (torn written : Nat) (s : State) : State :=
  let s := if s.fl.running ∧ (s.fl.step = 2 ∨ s.fl.step = 4) then { s with evr := { s.evr with torn := torn } } else s
  { s with dr := { s.dr with
    reel := s.dr.reel.map (fun (r : Record) => if r.state = 1 then { r with written := min r.expLen written } else r) } }

theorem cutShort_only (torn written : Nat) (s : State) : Only [.evr, .dr] s (cutShort torn written s) :=
  Only.seq (Only.ite _ (State.with_evr_only s _) (Only.refl _ s)) (State.with_dr_only _ _)

/-- The engine as the cut-off halts it. -/
def storeEmpty (s : State) : State :=
  { s with
    pw := { s.pw with phase := .off, vmainLow := true, vmainGood := false, resetPend := false }
    fl := lateFlush { s.fl with running := false, time := flushTime s } }

theorem storeEmpty_only (s : State) : Only [.pw, .fl] s (storeEmpty s) := State.with_pw_fl_only s _ _

theorem execStoreCutoff_completes (torn written : Nat) (s : State) (hp : s.pw.phase = .holdUp) :
    ∃ t, execStoreCutoff torn written s = .next t ∧ Only [.pw, .fl, .evr, .dr] s t ∧ t.pw.phase = .off ∧
      t.fl.running = false := by
  have now : execStoreCutoff torn written s = .next (storeEmpty (cutShort torn written s)) := if_neg (by simp [hp])
  exact ⟨_, now, ((cutShort_only torn written s).seq (storeEmpty_only _)).mono (by decide), rfl, lateFlush_running _⟩

/-! Resets (R54 to R56). -/

/-- A reset taken waits for its flush. -/
def resetTaken (jtag : Bool) (s : State) : State :=
  { s with pw := { s.pw with resetPend := true, jtag := jtag, resetAt := td0 s - usT 10 } }

theorem takeReset_of_running (jtag : Bool) (s : State) (hp : s.pw.phase = .running) (hf : s.fl.running = false) :
    takeReset jtag s = startFlush 3 false (submit .boot 0x0112 0 (resetTaken jtag s)) := by
  have up : (!firmwareUp (resetTaken jtag s)) ≠ true := by simp [firmwareUp_of_running (resetTaken jtag s) hp]
  have fl : (submit .boot 0x0112 0 (resetTaken jtag s)).fl.running = false := by rw [submit_fl]; exact hf
  unfold takeReset
  rw [hp]
  exact (if_neg up).trans ((if_neg (by simp [hf])).trans (callFlush_starts 3 _ fl))

/-- The reset of a running engine: its marks, and the flush of cause 3. -/
theorem takeReset_begins (jtag : Bool) (s : State) (hp : s.pw.phase = .running) (hf : s.fl.running = false) :
    (takeReset jtag s).pw = (resetTaken jtag s).pw ∧ (takeReset jtag s).fl.running = true ∧
      (takeReset jtag s).fl.cause = 3 ∧ (takeReset jtag s).le.halted = true := by
  rw [takeReset_of_running jtag s hp hf]
  refine ⟨((startFlush_only _ _ _).same .pw (by decide)).trans (submit_pw _ _ _ _), ?_⟩
  rw [startFlush_eq]
  exact ⟨rfl, rfl, rfl⟩

theorem execResetNLow_completes (s : State) (hp : s.pw.phase = .running) (hf : s.fl.running = false) :
    ∃ t, execResetNLow s = .next t ∧ t.pw.resetN = false ∧ t.pw.resetPend = true ∧ t.pw.jtag = false ∧
      t.fl.running = true ∧ t.fl.cause = 3 ∧ t.le.halted = true := by
  obtain ⟨pw, run, cause, halted⟩ := takeReset_begins false { s with pw := { s.pw with resetN := false } } hp hf
  refine ⟨_, rfl, ?_, ?_, ?_, run, cause, halted⟩
  all_goals rw [pw]; rfl

theorem execJtagReset_completes (s : State) (hp : s.pw.phase = .running) (hf : s.fl.running = false) :
    ∃ t, execJtagReset s = .next t ∧ t.pw.resetPend = true ∧ t.pw.jtag = true ∧
      t.fl.running = true ∧ t.fl.cause = 3 := by
  obtain ⟨pw, run, cause, -⟩ := takeReset_begins true s hp hf
  refine ⟨_, rfl, ?_, ?_, run, cause⟩
  all_goals rw [pw]; rfl

/-- With RESET_N low the engine stays in reset. -/
theorem enterReset_held (s : State) (h : s.pw.resetN = false) : enterReset s =
    { outputsOff s with
      pw := { s.pw with convertersOn := false, phase := .inReset, resetPend := false }
      gr := { s.gr with running := false }, fl := lateFlush s.fl } := if_neg (by simp [outputsOff_pw, h])

theorem execResetFlushTimeout_completes (s : State) (hp : s.pw.resetPend = true) (hn : s.pw.resetN = false)
    (hf : s.fl.running = true) (hc : s.fl.cause = 3) (hd : due s s.pw.resetAt (msT 50) = true) :
    ∃ t, execResetFlushTimeout s = .next t ∧ t.pw.phase = .inReset ∧ t.pw.resetPend = false ∧ t.fl.running = false ∧
      t.pads.healthy = false ∧ t.pads.bindOut = false ∧ t.pw.convertersOn = false ∧ t.gr.running = false := by
  refine ⟨_, if_pos ⟨hp, hf, hc, hd⟩, ?_⟩
  rw [enterReset_held { s with fl := { s.fl with running := false, time := flushTime s } } hn]
  exact ⟨rfl, rfl, lateFlush_running _, rfl, rfl, rfl, rfl⟩

/-! The restart (R54, R69, R92). -/

theorem powerUp_pw (cause : Nat) (s : State) : (powerUp cause s).pw.phase = .romBoot ∧
    (powerUp cause s).pw.resetN = s.pw.resetN := by
  unfold powerUp
  rw [submit_pw]
  exact ⟨rfl, rfl⟩

theorem powerUp_cause (cause : Nat) (s : State) : (powerUp cause s).boot.cause = cause := by
  unfold powerUp
  rw [submit_boot]
  rfl

theorem powerUp_td0 (cause : Nat) (s : State) : td0 (powerUp cause s) = startTd0 cause s := by
  unfold powerUp td0
  rw [submit_tu]
  rfl

/-- The cause of a restart out of reset, after which TD0 runs on. -/
theorem startTd0_of_reset (jtag : Bool) (s : State) : startTd0 (if jtag then 3 else 1) s = td0 s := by
  cases jtag
  · rfl
  · rfl

theorem execResetNRelease_completes (s : State) (h : s.pw.phase = .inReset) : ∃ t, execResetNRelease s = .next t ∧
    t.pw.phase = .romBoot ∧ t.pw.resetN = true ∧ t.boot.cause = (if s.pw.jtag then 3 else 1) ∧ td0 t = td0 s := by
  obtain ⟨phase, resetN⟩ := powerUp_pw (if s.pw.jtag then 3 else 1) { s with pw := { s.pw with resetN := true } }
  exact ⟨_, if_pos h, phase, resetN, powerUp_cause _ _, (powerUp_td0 _ _).trans (startTd0_of_reset _ _)⟩

theorem execResetNRelease_elsewhere (s : State) (h : s.pw.phase ≠ .inReset) :
    execResetNRelease s = .next { s with pw := { s.pw with resetN := true } } := if_neg h

/-- Settles O11, row by row. -/
theorem flushAndResetRowsComplete : Obligations.FlushAndResetRowsComplete := by
  refine ⟨execHoldUpStage_completes, execHoldUpStage_of_inReset, execFlushStepComplete_goes_on, execFlushStepComplete_ends,
    execStoreCutoff_completes, fun s hp hf => ⟨execResetNLow_completes s hp hf, execJtagReset_completes s hp hf⟩,
    execResetFlushTimeout_completes, execResetNRelease_completes, execResetNRelease_elsewhere⟩

end Sys2Proof.Machine
end

section
/-! PROOFS. The start-up events: the supply, the firmware, the self-tests, the image, the configuration, the start of the logic
and the background check (R44, R54, R69 to R89, R95). -/

namespace Sys2Proof.Machine
open Sys2Proof

/-! VMAIN_GOOD (R44, R54). -/

theorem powerUp_code (cause : Nat) (s : State) : (powerUp cause s).code = s.code := submit_code _ _ _ _

theorem powerUp_log (cause : Nat) (s : State) : (powerUp cause s).evr.log = s.evr.log := emit_log _ _ _

theorem powerUp_user (cause : Nat) (s : State) : (powerUp cause s).img.user = s.img.user := by
  unfold powerUp
  rw [submit_img]
  rfl

/-- Power-up with RESET_N low. -/
def powerUpHeld (s : State) : State :=
  { powerUp 0 s with
    evr := evrNext 0 s.evr, fl := s.fl, pw := { (powerUp 0 s).pw with phase := .inReset, jtag := false } }

theorem execVmainGood_of_off (s : State) (h : s.pw.phase = .off) :
    execVmainGood s = .next (if s.pw.resetN then powerUp 0 s else powerUpHeld s) := by
  unfold execVmainGood
  rw [h]
  rfl

theorem execVmainGood_completes (s : State) (h : s.pw.phase = .off) : ∃ t, execVmainGood s = .next t ∧ td0 t = 0 ∧
    t.pw.phase = (if s.pw.resetN = true then .romBoot else .inReset) ∧ (s.pw.resetN = true → t.boot.cause = 0) ∧
    t.code = s.code ∧ t.evr.log = s.evr.log ∧ t.img.user = s.img.user := by
  have td0 : td0 (powerUp 0 s) = 0 := powerUp_td0 0 s
  refine ⟨_, execVmainGood_of_off s h, ?_⟩
  split
  · exact ⟨td0, (powerUp_pw 0 s).1, fun _ => powerUp_cause 0 s, powerUp_code 0 s, powerUp_log 0 s, powerUp_user 0 s⟩
  · exact ⟨td0, rfl, fun _ => powerUp_cause 0 s, powerUp_code 0 s, rfl, powerUp_user 0 s⟩

/-! FIRMWARE_START (R72, R73). -/

/-- The firmware runs, or begins with the warning stage. -/
def firmwareRuns (s : State) : State :=
  warnIfLow { s with pw := { s.pw with phase := .firmware, convertersOn := true } }

theorem warnIfLow_only (s : State) : Only [.pw, .le, .evr, .cmd, .pads, .img, .fl] s (warnIfLow s) :=
  Only.ite _ (warn_only 1 s) (Only.ite _ (warn_only 2 s) (Only.refl _ s))

theorem warnIfLow_phase (s : State) : (warnIfLow s).pw.phase = s.pw.phase := by
  unfold warnIfLow
  split
  · exact warn_phase 1 s
  · split
    · exact warn_phase 2 s
    · rfl

/-- With the supply sound no warning begins. -/
theorem warnIfLow_of_sound (s : State) (hp : s.pw.pfailN = true) (hv : s.pw.vmainLow = false) : warnIfLow s = s := by
  rw [warnIfLow, if_neg (by simp [hp]), if_neg (by simp [hv])]

theorem firmwareRuns_phase (s : State) : (firmwareRuns s).pw.phase = .firmware := warnIfLow_phase _

theorem firmwareRuns_boot (s : State) : (firmwareRuns s).boot = s.boot := (warnIfLow_only _).same .boot (by decide)

theorem firmwareRuns_only (s : State) (hp : s.pw.pfailN = true) (hv : s.pw.vmainLow = false) :
    Only [.pw] s (firmwareRuns s) := by
  have sound : firmwareRuns s = { s with pw := { s.pw with phase := .firmware, convertersOn := true } } :=
    warnIfLow_of_sound _ hp hv
  rw [sound]
  exact State.with_pw_only s _

/-- FW_A is chosen. -/
def fwAChosen (s : State) : State :=
  let a := readSlot s.boot.fwA.bytes s
  { s with boot := { s.boot with fwA := a, fwaResult := a.result, slot := 1, fwVer := a.version } }

/-- FW_A has failed and FW_B is read. -/
def fwBRead (s : State) : State :=
  let a := readSlot s.boot.fwA.bytes s
  let b := readSlot s.boot.fwB.bytes s
  { s with boot := { s.boot with fwA := a, fwaResult := a.result, fwB := b, fwbResult := b.result } }

/-- FW_B is chosen, which event 0x0101 tells. -/
def fwBChosen (s : State) : State :=
  submit .boot 0x0101 (readSlot s.boot.fwA.bytes s).result { fwBRead s with
    boot := { (fwBRead s).boot with slot := 2, fwVer := (readSlot s.boot.fwB.bytes s).version } }

theorem fwBChosen_only (s : State) : Only [.boot, .evr] s (fwBChosen s) :=
  (State.with_boot_only s _).seq (submit_only _ _ _ _)

theorem fwBChosen_boot (s : State) : (fwBChosen s).boot =
    { (fwBRead s).boot with slot := 2, fwVer := (readSlot s.boot.fwB.bytes s).version } := submit_boot _ _ _ _

/-- Neither slot passes. -/
def romRecovers (s : State) : State := { fwBRead s with pw := { s.pw with phase := .romRecovery } }

theorem romRecovers_only (s : State) : Only [.boot, .pw] s (romRecovers s) :=
  (State.with_boot_only s _).seq (State.with_pw_only (fwBRead s) _)

theorem execFirmwareStart_fwA (s : State) (h : s.pw.phase = .romBoot) (ha : (readSlot s.boot.fwA.bytes s).result = 1) :
    execFirmwareStart s = .next (firmwareRuns (fwAChosen s)) := (if_neg (by simp [h])).trans (if_pos ha)

theorem execFirmwareStart_fwB (s : State) (h : s.pw.phase = .romBoot) (ha : (readSlot s.boot.fwA.bytes s).result ≠ 1)
    (hb : (readSlot s.boot.fwB.bytes s).result = 1) :
    execFirmwareStart s = .next (firmwareRuns (fwBChosen s)) :=
  (if_neg (by simp [h])).trans ((if_neg ha).trans (if_pos hb))

theorem execFirmwareStart_recovery (s : State) (h : s.pw.phase = .romBoot)
    (ha : (readSlot s.boot.fwA.bytes s).result ≠ 1) (hb : (readSlot s.boot.fwB.bytes s).result ≠ 1) :
    execFirmwareStart s = .next (romRecovers s) :=
  (if_neg (by simp [h])).trans ((if_neg ha).trans (if_neg hb))

theorem execFirmwareStart_completes (s : State) (h : s.pw.phase = .romBoot) : ∃ t, execFirmwareStart s = .next t ∧
    (s.pw.pfailN = true → s.pw.vmainLow = false → Only [.pw, .boot, .evr] s t) ∧
    t.boot.fwaResult = (readSlot s.boot.fwA.bytes s).result ∧
    t.pw.phase = (if (readSlot s.boot.fwA.bytes s).result = 1 ∨ (readSlot s.boot.fwB.bytes s).result = 1 then .firmware
      else .romRecovery) ∧
    t.boot.slot = (if (readSlot s.boot.fwA.bytes s).result = 1 then 1
      else if (readSlot s.boot.fwB.bytes s).result = 1 then 2 else s.boot.slot) := by
  by_cases ha : (readSlot s.boot.fwA.bytes s).result = 1
  · rw [if_pos (Or.inl ha), if_pos ha]
    refine ⟨_, execFirmwareStart_fwA s h ha, fun hp hv => ?_, ?_, firmwareRuns_phase _, ?_⟩
    · exact ((State.with_boot_only s _).seq (firmwareRuns_only (fwAChosen s) hp hv)).mono (by decide)
    · rw [firmwareRuns_boot]
      rfl
    · rw [firmwareRuns_boot]
      rfl
  · rw [if_neg ha]
    by_cases hb : (readSlot s.boot.fwB.bytes s).result = 1
    · have pw : (fwBChosen s).pw = s.pw := (fwBChosen_only s).same .pw (by decide)
      rw [if_pos (Or.inr hb), if_pos hb]
      refine ⟨_, execFirmwareStart_fwB s h ha hb, fun hp hv => ?_, ?_, firmwareRuns_phase _, ?_⟩
      · exact ((fwBChosen_only s).seq (firmwareRuns_only _ (by rw [pw, hp]) (by rw [pw, hv]))).mono (by decide)
      · rw [firmwareRuns_boot, fwBChosen_boot]
        rfl
      · rw [firmwareRuns_boot, fwBChosen_boot]
    · rw [if_neg (not_or.mpr ⟨ha, hb⟩), if_neg hb]
      exact ⟨_, execFirmwareStart_recovery s h ha hb, fun _ _ => (romRecovers_only s).mono (by decide), rfl, rfl, rfl⟩

/-! SELFTEST_COMPLETE (R75, R76, R95, R97). -/

/-- The tests that failed: those named, 7 for a slice left out, 5 for what was found in MRAM. -/
def testsFailed (failed slices : List Nat) (retain forces : Bool) (copies : Nat) : List Nat :=
  (failed ++ (if slices.isEmpty then [] else [7]) ++ (if retain ∨ forces ∨ copies ≠ 0 then [5] else [])).eraseDups

theorem mem_testsFailed (failed slices : List Nat) (retain forces : Bool) (copies k : Nat) :
    k ∈ testsFailed failed slices retain forces copies ↔
      k ∈ failed ∨ (k = 7 ∧ slices ≠ []) ∨ (k = 5 ∧ (retain = true ∨ forces = true ∨ copies ≠ 0)) := by
  have slice : k ∈ (if slices.isEmpty then [] else [7]) ↔ k = 7 ∧ slices ≠ [] := by
    cases slices <;> simp
  have found : k ∈ (if retain ∨ forces ∨ copies ≠ 0 then [5] else []) ↔
      k = 5 ∧ (retain = true ∨ forces = true ∨ copies ≠ 0) := by
    split
    · simp_all
    · simp_all
  exact List.mem_eraseDups.trans (by rw [List.mem_append, List.mem_append, slice, found, or_assoc])

/-- The tests that halt the engine are among those named: 5 and 7 do not halt it. -/
theorem testsFailed_halt (failed slices : List Nat) (retain forces : Bool) (copies : Nat) :
    (testsFailed failed slices retain forces copies).any (fun k => [1, 2, 3, 4, 6].contains k) =
      [1, 2, 3, 4, 6].any (fun k => failed.contains k) := by
  refine Bool.eq_iff_iff.mpr ?_
  simp only [List.any_eq_true, List.contains_iff_mem, mem_testsFailed]
  constructor
  · rintro ⟨k, named | seven | five, halts⟩
    · exact ⟨k, halts, named⟩
    · rw [seven.1] at halts
      exact absurd halts (by decide)
    · rw [five.1] at halts
      exact absurd halts (by decide)
  · rintro ⟨k, halts, named⟩
    exact ⟨k, .inl named, halts⟩

/-- The failed tests are told and recorded, and the converters take the corrections of test 7. -/
def testsNoted (failed : List Nat) (cals : List (Int × Int)) (s : State) : State :=
  let s := failed.foldl (fun s k => submit .boot 0x0102 k s) s
  { s with
    boot := { s.boot with failedTests := failed }
    acq := { s.acq with gain := s.acq.gain.zipIdx.map (fun (g, k) => ((cals[k]?).map (·.1)).getD g)
                        ofs := s.acq.ofs.zipIdx.map (fun (g, k) => ((cals[k]?).map (·.2)).getD g) } }

/-- Test 5 on the retain region and the force table. -/
def mramJudged (failed : List Nat) (retain forces : Bool) (s : State) : State :=
  let s := if failed.contains 5 then fireDetFree 0x0A s else s
  { s with le := { s.le with ret := { s.le.ret with bad := retain }, forces := if forces then [] else s.le.forces } }

/-- A flush that did not complete is told. -/
def flushTold (s : State) : State :=
  if flushIncomplete s = 0 then s else submit .boot 0x0107 (flushIncomplete s) s

/-- The records whose drain the end of the run cut off. -/
def drainsCut (s : State) : State :=
  { s with dr := { s.dr with reel := s.dr.reel.map (fun (r : Record) => if r.state = 1 then { r with state := 3 } else r) } }

/-- What the tests found is acted on, up to the start of the event recorder. -/
def testsActed (failed slices : List Nat) (retain forces : Bool) (copies : Nat) (s : State) : State :=
  drainsCut (flushTold (slicesOut (slices.mergeSort (fun a b => decide (a ≤ b)))
    (secRegion copies (mramJudged failed retain forces s))))

theorem mramJudged_only (failed : List Nat) (retain forces : Bool) (s : State) :
    Only [.tu, .evr, .hlt, .le] s (mramJudged failed retain forces s) :=
  (Only.ite _ (fireDetFree_only _ s) (Only.refl _ s)).seq (State.with_le_only _ _)

theorem flushTold_only (s : State) : Only [.evr] s (flushTold s) := Only.ite _ (Only.refl _ s) (submit_only _ _ _ s)

theorem drainsCut_only (s : State) : Only [.dr] s (drainsCut s) := State.with_dr_only s _

theorem secRegion_only (copies : Nat) (s : State) : Only [.sec, .evr] s (secRegion copies s) :=
  Only.ite _ (Only.refl _ s) (Only.ite _ ((State.with_sec_only s _).seq (submit_only _ _ _ _))
    ((State.with_sec_only s _).seq (submit_only _ _ _ _)))

theorem slicesOut_only (bad : List Nat) (s : State) : Only [.hlt, .evr, .acq] s (slicesOut bad s) :=
  Only.foldl _ _ bad s fun s k => Only.ite _ (Only.refl _ s)
    ((((fireDetOnce_only 0x02 k s).seq (State.with_acq_only _ _)).seq (submit_only _ _ _ _)).mono (by decide))

theorem testsActed_only (failed slices : List Nat) (retain forces : Bool) (copies : Nat) (s : State) :
    Only [.tu, .evr, .hlt, .le, .sec, .acq, .dr] s (testsActed failed slices retain forces copies s) :=
  (((((mramJudged_only failed retain forces s).seq (secRegion_only copies _)).seq (slicesOut_only _ _)).seq
    (flushTold_only _)).seq (drainsCut_only _)).mono (by decide)

/-- The recorder's marks at its start. -/
def evrBegins (s : State) : State :=
  { s with evr := { s.evr with
    started := true, newest := max 1 s.evr.mark - 1, mark := max 1 s.evr.mark + 65536, commitAt := td0 s
    first := if s.evr.log.isEmpty then max 1 s.evr.mark else s.evr.first } }

/-- LOG_RESUMED enters, with the last number committed. -/
def resumedTold (last : Nat) (s : State) : State :=
  enterEvent { engineEvent s 0x0200 0 with parts := [leBytes 8 last ++ leBytes 8 (nextSeq s)] } s

/-- A torn page is told. -/
def tornTold (s : State) : State :=
  let torn := s.evr.torn
  let s := { s with evr := { s.evr with torn := 0 } }
  if torn = 0 then s else enterEvent (engineEvent s 0x0204 torn) s

/-- The events held until the recorder started enter. -/
def heldEntered (s : State) : State :=
  s.evr.held.foldl (fun s e => recEvent e (enterEvent e s)) { s with evr := { s.evr with held := [] } }

theorem evrStart_eq (s : State) : evrStart s = heldEntered (tornTold (resumedTold s.evr.committed (evrBegins s))) := rfl

theorem tornTold_logs (s : State) : Logs [.evr, .cmd, .pads] s (tornTold s) :=
  Logs.trans ((State.with_evr_logs s { s.evr with torn := 0 } rfl).mono (by decide))
    (Logs.ite _ (Logs.refl _ _) (enterEvent_logs _ _))

theorem heldEntered_logs (s : State) : Logs [.evr, .cmd, .pads, .dr, .le, .pr, .gr] s (heldEntered s) :=
  Logs.trans ((State.with_evr_logs s { s.evr with held := [] } rfl).mono (by decide))
    (Logs.foldl _ _ _ _ fun s e => ((enterEvent_logs e s).seq (recEvent_logs e _)).mono (by decide))

/-- What the recorder enters at its start leaves it running. -/
theorem evrStart_logs (s : State) : Logs [.evr, .cmd, .pads, .dr, .le, .pr, .gr] (evrBegins s) (evrStart s) := by
  rw [evrStart_eq]
  have resumed : Logs [.evr, .cmd, .pads] (evrBegins s) (resumedTold s.evr.committed (evrBegins s)) := enterEvent_logs _ _
  exact ((resumed.trans (tornTold_logs _)).seq (heldEntered_logs _)).mono (by decide)

theorem evrStart_started (s : State) : (evrStart s).evr.started = true := (evrStart_logs s).2

theorem evrStart_only (s : State) : Only [.evr, .cmd, .pads, .dr, .le, .pr, .gr] s (evrStart s) :=
  ((State.with_evr_only s _).mono (by decide)).trans (evrStart_logs s).1

/-- The engine after the self-tests, before the recorder starts. -/
def tested (failed slices : List Nat) (retain forces : Bool) (copies : Nat) (cals : List (Int × Int)) (s : State) : State :=
  testsActed failed slices retain forces copies (testsNoted failed cals s)

/-- The phase that follows the self-tests. -/
def testedPhase (failed : List Nat) : Phase :=
  if failed.any (fun k => [1, 2, 3, 4, 6].contains k) then .halted else .imageSelect

/-- The engine once the recorder has started. -/
def testsOver (failed slices : List Nat) (retain forces : Bool) (copies : Nat) (cals : List (Int × Int)) (s : State) : State :=
  refreshPads (evrStart { tested failed slices retain forces copies cals s with
    pw := { (tested failed slices retain forces copies cals s).pw with phase := testedPhase failed } })

theorem testsOver_failedTests (failed slices : List Nat) (retain forces : Bool) (copies : Nat) (cals : List (Int × Int))
    (s : State) : (testsOver failed slices retain forces copies cals s).boot.failedTests = failed :=
  (congrArg Boot.failedTests ((evrStart_only _).same .boot (by decide))).trans
    (congrArg Boot.failedTests ((testsActed_only failed slices retain forces copies _).same .boot (by decide)))

theorem testsOver_phase (failed slices : List Nat) (retain forces : Bool) (copies : Nat) (cals : List (Int × Int))
    (s : State) : (testsOver failed slices retain forces copies cals s).pw.phase = testedPhase failed :=
  congrArg Power.phase ((evrStart_only _).same .pw (by decide))

theorem execSelftestComplete_eq (failed slices : List Nat) (retain forces : Bool) (copies : Nat) (cals : List (Int × Int))
    (s : State) (h : s.pw.phase = .firmware) : execSelftestComplete failed slices retain forces copies cals s =
      .next (testsOver (testsFailed failed slices retain forces copies) slices retain forces copies cals s) :=
  if_neg (by simp [h])

theorem execSelftestComplete_completes (failed slices : List Nat) (retain forces : Bool) (copies : Nat)
    (cals : List (Int × Int)) (s : State) (h : s.pw.phase = .firmware) :
    ∃ t, execSelftestComplete failed slices retain forces copies cals s = .next t ∧ t.evr.started = true ∧
      (∀ k, k ∈ t.boot.failedTests ↔
        k ∈ failed ∨ (k = 7 ∧ slices ≠ []) ∨ (k = 5 ∧ (retain = true ∨ forces = true ∨ copies ≠ 0))) ∧
      t.pw.phase = (if [1, 2, 3, 4, 6].any (fun k => failed.contains k) then .halted else .imageSelect) := by
  refine ⟨_, execSelftestComplete_eq failed slices retain forces copies cals s h, evrStart_started _, fun k => ?_, ?_⟩
  · rw [testsOver_failedTests]
    exact mem_testsFailed failed slices retain forces copies k
  · rw [testsOver_phase, ← testsFailed_halt failed slices retain forces copies]
    rfl

/-! IMAGE_SELECT (R78, R79). -/

theorem State.with_net_rio_dr_only (s : State) (n : Net) (r : Rio) (d : Dr) :
    Only [.net, .rio, .dr] s { s with net := n, rio := r, dr := d } := fun p => by
  cases p <;> simp [Same]

theorem State.with_rio_gr_le_only (s : State) (r : Rio) (g : GraphUnit) (l : Logic) :
    Only [.rio, .gr, .le] s { s with rio := r, gr := g, le := l } := fun p => by
  cases p <;> simp [Same]

theorem loadChannels_only (old : List ChanEntry) (s : State) : Only [.acq] s (loadChannels old s) := State.with_acq_only s _

theorem serveSpare_only (s : State) : Only [.acq] s (serveSpare s) := by
  unfold serveSpare
  dsimp only
  split
  · exact Only.ite _ (Only.refl _ s) (State.with_acq_only s _)
  · exact Only.refl _ s

theorem loadStreams_only (old : List ChanEntry) (s : State) : Only [.acq] s (loadStreams old s) := State.with_acq_only s _

theorem loadGraph_only (s : State) : Only [.gr] s (loadGraph s) := State.with_gr_only s _

theorem stalledJoin_only (s : State) : Only [.acq, .gr] s (stalledJoin s) := by
  refine Only.foldl _ _ _ s fun s k => ?_
  split
  · exact Only.ite _ (Only.refl _ s) ((State.with_acq_only s _).seq (State.with_gr_only _ _))
  · exact Only.refl _ s

theorem loadLogic_only (s : State) : Only [.le] s (loadLogic s) := by
  unfold loadLogic
  split
  · exact State.with_le_only s _
  · exact State.with_le_only s _

theorem loadRows_only (old : Nat → RowCfg) (same : Nat → Bool) (s : State) : Only [.gr] s (loadRows old same s) :=
  State.with_gr_only s _

theorem loadProcess_only (s : State) : Only [.upc] s (loadProcess s) := State.with_upc_only s _

theorem figuresRestart_only (s : State) : Only [.rio, .gr, .le] s (figuresRestart s) := State.with_rio_gr_le_only s _ _ _

/-- Acquisition, the graph and the logic take the image in service. -/
def coreLoaded (old : List ChanEntry) (s : State) : State :=
  loadLogic (stalledJoin (loadGraph (loadStreams old (serveSpare (loadChannels old s)))))

theorem coreLoaded_only (old : List ChanEntry) (s : State) : Only [.acq, .gr, .le] s (coreLoaded old s) :=
  ((((((loadChannels_only old s).trans (serveSpare_only _)).trans (loadStreams_only old _)).seq (loadGraph_only _)).seq
    (stalledJoin_only _)).seq (loadLogic_only _)).mono (by decide)

/-- The rows and the process section follow. -/
def sectionsLoaded (s : State) : State := loadProcess (loadRows (rowCfg s) (fun _ => false) s)

theorem sectionsLoaded_only (s : State) : Only [.gr, .upc] s (sectionsLoaded s) :=
  (loadRows_only _ _ s).seq (loadProcess_only _)

/-- The configuration stage changes the units that it configures. -/
theorem loadUnits_only (old : List ChanEntry) (s : State) :
    Only [.acq, .gr, .le, .upc, .net, .rio, .dr] s (loadUnits old s) :=
  ((((coreLoaded_only old s).seq (sectionsLoaded_only _)).seq (State.with_net_rio_dr_only _ _ _ _)).seq
    (figuresRestart_only _)).mono (by decide)

theorem updCert_only (s : State) : Only [.sec, .evr] s (updCert s) :=
  Only.ite _ (Only.refl _ s) ((State.with_sec_only s _).seq (submit_only _ _ _ _))

/-- The image is chosen, from `src` with SCH_USER's status `st`. -/
def imageTaken (u : Image) (src st : Nat) (s : State) : State :=
  { s with img := { s.img with cur := some u, source := src, userStatus := st }, pw := { s.pw with phase := .configure } }

/-- Every unit takes the image that is chosen. -/
def imageLoaded (u : Image) (src st : Nat) (s : State) : State := updCert (loadUnits [] (imageTaken u src st s))

theorem imageLoaded_only (u : Image) (src st : Nat) (s : State) :
    Only [.acq, .gr, .le, .upc, .net, .rio, .dr, .sec, .evr] (imageTaken u src st s) (imageLoaded u src st s) :=
  (loadUnits_only [] _).seq (updCert_only _)

theorem imageLoaded_img (u : Image) (src st : Nat) (s : State) :
    (imageLoaded u src st s).img = { s.img with cur := some u, source := src, userStatus := st } :=
  (imageLoaded_only u src st s).same .img (by decide)

theorem imageLoaded_phase (u : Image) (src st : Nat) (s : State) : (imageLoaded u src st s).pw.phase = .configure :=
  congrArg Power.phase ((imageLoaded_only u src st s).same .pw (by decide))

/-- SCH_FACTORY is loaded for a SCH_USER of status `st`, which event 0x0103 tells. -/
def factoryLoaded (st : Nat) (s : State) : State := submit .boot 0x0103 st (imageLoaded factoryImage 2 st s)

theorem factoryLoaded_img (st : Nat) (s : State) : (factoryLoaded st s).img =
    { s.img with cur := some factoryImage, source := 2, userStatus := st } :=
  (submit_img _ _ _ _).trans (imageLoaded_img _ _ _ s)

theorem factoryLoaded_phase (st : Nat) (s : State) : (factoryLoaded st s).pw.phase = .configure :=
  (congrArg Power.phase (submit_pw _ _ _ _)).trans (imageLoaded_phase _ _ _ s)

theorem execImageSelect_of_empty (s : State) (h : s.pw.phase = .imageSelect) (hu : s.img.user = []) :
    execImageSelect s = .next (factoryLoaded 1 s) :=
  (if_neg (by simp [h])).trans (if_pos (by simp [hu]))

theorem execImageSelect_of_ok (s : State) (u : Image) (h : s.pw.phase = .imageSelect) (hu : s.img.user ≠ [])
    (hc : checkImage s s.img.user false = .ok u) : execImageSelect s = .next (imageLoaded u 1 0 s) := by
  unfold execImageSelect
  rw [if_neg (by simp [h])]
  dsimp only
  rw [if_neg (by simp [hu]), hc]
  rfl

theorem execImageSelect_of_error (s : State) (st t o : Nat) (h : s.pw.phase = .imageSelect) (hu : s.img.user ≠ [])
    (hc : checkImage s s.img.user false = .error (st, t, o)) :
    execImageSelect s = .next (factoryLoaded st { s with img := { s.img with offend := (t, o) } }) := by
  unfold execImageSelect
  rw [if_neg (by simp [h])]
  dsimp only
  rw [if_neg (by simp [hu]), hc]
  rfl

theorem execImageSelect_completes_factory (s : State) (h : s.pw.phase = .imageSelect) (hu : s.img.user = []) :
    ∃ t, execImageSelect s = .next t ∧ t.pw.phase = .configure ∧ t.img.source = 2 ∧ t.img.userStatus = 1 ∧
      t.img.cur = some factoryImage := by
  refine ⟨_, execImageSelect_of_empty s h hu, factoryLoaded_phase 1 s, ?_⟩
  rw [factoryLoaded_img]
  exact ⟨rfl, rfl, rfl⟩

theorem execImageSelect_completes (s : State) (h : s.pw.phase = .imageSelect) (hu : s.img.user ≠ []) :
    ∃ t, execImageSelect s = .next t ∧ t.pw.phase = .configure ∧
      (∀ u, checkImage s s.img.user false = .ok u → t.img.source = 1 ∧ t.img.userStatus = 0 ∧ t.img.cur = some u) ∧
      (∀ st x, checkImage s s.img.user false = .error (st, x) →
        t.img.source = 2 ∧ t.img.userStatus = st ∧ t.img.cur = some factoryImage) := by
  cases hc : checkImage s s.img.user false with
  | ok u =>
    refine ⟨_, execImageSelect_of_ok s u h hu hc, imageLoaded_phase _ _ _ s, fun v hv => ?_, nofun⟩
    rw [imageLoaded_img, Except.ok.inj hv]
    exact ⟨rfl, rfl, rfl⟩
  | error e =>
    obtain ⟨st, t, o⟩ := e
    refine ⟨_, execImageSelect_of_error s st t o h hu hc, factoryLoaded_phase _ _, nofun, fun st' x hx => ?_⟩
    rw [factoryLoaded_img, (Prod.mk.inj (Except.error.inj hx)).1]
    exact ⟨rfl, rfl, rfl⟩

/-! CONFIGURATION_COMPLETE (R70, R82). -/

/-- The units run from the next slot on. -/
def protectionBegins (s : State) : State :=
  let k := lastSlot s
  { s with
    pw := { s.pw with phase := .running }
    boot := { s.boot with startT := if s.boot.startT = 0 then nsAll (td0 s) / 1000 else s.boot.startT, protSince := td0 s }
    tu := { s.tu with
      slot := k, gridLock := s.tu.gridLock || s.tu.grid == .aligned
      kickAt := if s.tu.kickOn then s.tu.kickAt else td0 s, kickOn := true }
    acq := { s.acq with wave := k % 2 ^ 32, waveAt := (k / 16000, k % 16000) }
    gr := { s.gr with running := true }
    pr := { s.pr with cfgAt := td0 s }
    pads := { s.pads with hbOut := true } }

/-- An engine without a pair tells where its section does not list it. -/
def unlistedTold (s : State) : State :=
  if pairOn s && (pairEntry s).isNone then submit .pair 0x900A 1 s else s

/-- An engine without a pair is active and takes the binding. -/
def standsAlone (s : State) : State :=
  tryBind (setRoleActive true { unlistedTold s with
    pr := { (unlistedTold s).pr with
      tx := true, tripOff := false, bindWant := !(unlistedTold s).pads.bindOut, wantAt := td0 (unlistedTold s) } })

/-- A lane of a pair greets the other. -/
def greets (s : State) : State := sendHello { s with pr := { s.pr with tripOff := true } }

/-- The pair unit starts. -/
def pairBegins (s : State) : State :=
  if !pairOn s || (pairEntry s).isNone || s.pr.active then standsAlone s else greets s

theorem runProtection_eq (s : State) : runProtection s = refreshPads
    (submit .boot 0x0104 (pairBegins (protectionBegins s)).img.source (pairBegins (protectionBegins s))) := rfl

theorem setRoleActive_only (b : Bool) (s : State) : Only [.pr, .evr] s (setRoleActive b s) :=
  Only.ite _ (Only.refl _ s) (((State.with_pr_only s _).trans (State.with_pr_only _ _)).seq (submit_only _ _ _ _))

theorem State.with_pads_pr_only (s : State) (v : Pads) (p : Pair) : Only [.pads, .pr] s { s with pads := v, pr := p } :=
  fun q => by cases q <;> simp [Same]

theorem tryBind_only (s : State) : Only [.pads, .pr] s (tryBind s) :=
  Only.ite _ (State.with_pads_pr_only s _ _) (Only.refl _ s)

theorem unlistedTold_only (s : State) : Only [.evr] s (unlistedTold s) := Only.ite _ (submit_only _ _ _ s) (Only.refl _ s)

theorem standsAlone_only (s : State) : Only [.pr, .evr, .pads] s (standsAlone s) := by
  have wants := (unlistedTold_only s).seq (State.with_pr_only _ { (unlistedTold s).pr with
    tx := true, tripOff := false, bindWant := !(unlistedTold s).pads.bindOut, wantAt := td0 (unlistedTold s) })
  exact ((wants.seq (setRoleActive_only true _)).seq (tryBind_only _)).mono (by decide)

theorem greets_only (s : State) : Only [.pr] s (greets s) := (State.with_pr_only s _).trans (sendCell_only _ _ _)

theorem pairBegins_only (s : State) : Only [.pr, .evr, .pads] s (pairBegins s) :=
  Only.ite _ (standsAlone_only s) ((greets_only s).mono (by decide))

theorem runProtection_only (s : State) : Only [.pr, .evr, .pads] (protectionBegins s) (runProtection s) := by
  rw [runProtection_eq]
  exact (((pairBegins_only _).seq (submit_only _ _ _ _)).seq (State.with_pads_only _ _)).mono (by decide)

theorem execConfigurationComplete_completes (s : State) (h : s.pw.phase = .configure) (ha : s.img.act = none) :
    ∃ t, execConfigurationComplete s = .next t ∧ t.pw.phase = .running ∧ t.gr.running = true ∧
      t.acq.wave = lastSlot s % 2 ^ 32 ∧ t.boot.protSince = td0 s := by
  have runs := runProtection_only s
  exact ⟨runProtection s, if_neg (by simp [h, ha]), congrArg Power.phase (runs.same .pw (by decide)),
    congrArg GraphUnit.running (runs.same .gr (by decide)), congrArg Acq.wave (runs.same .acq (by decide)),
    congrArg Boot.protSince (runs.same .boot (by decide))⟩

/-! LOGIC_START and FW_B_CHECKED (R74, R86). -/

/-- The start of an engine without a logic section. -/
def logicAbsent (s : State) : State :=
  submit .logic 0x0105 0 { s with le := { s.le with began := true }, img := { s.img with leStart := 0 } }

theorem logicAbsent_only (s : State) : Only [.le, .img, .evr] s (logicAbsent s) :=
  ((State.with_le_only s { s.le with began := true }).seq (State.with_img_only _ _)).seq (submit_only _ _ _ _)

theorem startCode_of_absent (s : State) (h : s.le.sec = none) : startCode s = 0 := by rw [startCode, h]

theorem execLogicStart_of_absent (s : State) (hr : running s = true) (hb : s.le.began = false) (hs : s.le.sec = none) :
    execLogicStart s = .next (logicAbsent s) := by
  unfold execLogicStart
  rw [if_neg (by simp [hr, hb]), startCode_of_absent s hs]
  rfl

theorem execLogicStart_completes (s : State) (hr : running s = true) (hb : s.le.began = false) (hs : s.le.sec = none) :
    ∃ t, execLogicStart s = .next t ∧ Only [.le, .img, .evr] s t ∧ t.le = { s.le with began := true } ∧
      t.img.leStart = 0 :=
  ⟨_, execLogicStart_of_absent s hr hb hs, logicAbsent_only s, submit_le _ _ _ _,
    congrArg Images.leStart (submit_img _ _ _ _)⟩

/-- An event depends on the recorder and the domains alone. -/
theorem submit_evr_with_boot (b : Block) (c v : Nat) (s : State) (x : Boot) :
    (submit b c v { s with boot := x }).evr = (submit b c v s).evr := by
  unfold submit emit
  dsimp only
  repeat' split
  all_goals rfl

theorem execFwBChecked_completes (s : State) (hr : running s = true) (hs : s.boot.slot = 1) (hf : s.boot.fwbResult = 0) :
    ∃ t, execFwBChecked s = .next t ∧ Only [.boot, .evr] s t ∧
      t.boot = { s.boot with fwB := readSlot s.boot.fwB.bytes s, fwbResult := (readSlot s.boot.fwB.bytes s).result } ∧
      t.evr = (submit .boot 0x0108 (readSlot s.boot.fwB.bytes s).result s).evr :=
  ⟨_, if_neg (by simp [hr, hs, hf]), (State.with_boot_only s _).seq (submit_only _ _ _ _), submit_boot _ _ _ _,
    submit_evr_with_boot _ _ _ s _⟩

/-- Settles O9, row by row. -/
theorem startUpRowsComplete : Obligations.StartUpRowsComplete := by
  refine ⟨execVmainGood_completes, execFirmwareStart_completes, execSelftestComplete_completes,
    execImageSelect_completes_factory, execImageSelect_completes, execConfigurationComplete_completes,
    execLogicStart_completes, execFwBChecked_completes⟩

end Sys2Proof.Machine
end

section
/-! PROOFS. The image commands: staging, checks, commit alone, status (R80, R93, R110 to R120). -/

namespace Sys2Proof.Machine
open Sys2Proof

theorem execImgBegin_stages (r : Req) (len : Nat) (s : State) (h : Served r 0x0020 s) (ha : activating s = false)
    (ho : othersStage r s = false) (h1 : 1 ≤ len) (hm : len ≤ 16777216) :
    execImgBegin r len s = .next (answer r 0x0020 .ok { s with img := { s.img with
      staging := some (r.session, len), staged := [], pending := [], next := none, pendStatus := 1, offend := (0, 0) } }) := by
  rw [execImgBegin, serve_served r _ s _ h, if_neg (by simp [ha]), if_neg (by simp [ho]), if_neg (by omega)]

theorem execImgData_keeps (r : Req) (offset len : Nat) (bytes : List Byte) (s : State) (h : Served r 0x0021 s)
    (hs : s.img.staging = some (r.session, len)) (hl : offset + bytes.length ≤ len) :
    execImgData r offset bytes s =
      .next (answer r 0x0021 .ok { s with img := { s.img with staged := s.img.staged ++ [(offset, bytes)] } }) := by
  rw [execImgData, serve_served r _ s _ h]
  simp [hs, Nat.not_lt.mpr hl]

/-- What an event adds depends on the recorder and the time unit alone. -/
theorem submit_evr_congr (b : Block) (c v : Nat) {s t : State} (he : t.evr = s.evr) (ht : t.tu = s.tu) :
    (submit b c v t).evr = (submit b c v s).evr := by
  have same : engineEvent t c v = engineEvent s c v := by simp only [engineEvent, td0, td1, td1Qual, ht]
  rw [submit, submit, same]
  unfold emit dropEvent
  rw [he]
  repeat' split
  all_goals simp [td0, ht]

/-! IMG_COMMIT (R110, R112 to R114). -/

theorem stageImage_only (ws : List (Nat × List Byte)) (len : Nat) (s : State) : Only [.img] s (stageImage ws len s) :=
  State.with_img_only s _

theorem stageImage_uncovered (ws : List (Nat × List Byte)) (len : Nat) (s : State) (h : covered ws len = false) :
    (stageImage ws len s).img.pendStatus = 6 := by
  simp [stageImage, h]

theorem stageImage_good (ws : List (Nat × List Byte)) (len : Nat) (s : State) (u : Image) (h : covered ws len = true)
    (hu : checkImage s (assemble ws len) true = .ok u) :
    (stageImage ws len s).img.pendStatus = 0 ∧ (stageImage ws len s).img.next = some u := by
  simp [stageImage, h, hu]

/-- The staging checked and ended, with its event. -/
def imageChecked (len : Nat) (s : State) : State :=
  submit .image 0x0120 (stageImage s.img.staged len s).img.pendStatus (stageImage s.img.staged len s)

theorem imageChecked_img (len : Nat) (s : State) : (imageChecked len s).img = (stageImage s.img.staged len s).img :=
  submit_img _ _ _ _

theorem imageChecked_only (len : Nat) (s : State) : Only [.img, .evr] s (imageChecked len s) :=
  (stageImage_only _ _ s).seq (submit_only _ _ _ _)

theorem execImgCommit_of_staging (r : Req) (len : Nat) (s : State) (h : Served r 0x0022 s)
    (hs : s.img.staging = some (r.session, len)) :
    execImgCommit r s = .next (respond r 0x0022 .ok false
      (leBytes 1 (imageChecked len s).img.pendStatus ++ zeros 1 ++ leBytes 2 (imageChecked len s).img.offend.1 ++
        leBytes 4 (imageChecked len s).img.offend.2) (imageChecked len s)) := by
  rw [execImgCommit, serve_served r _ s _ h]
  simp only [hs, ne_eq, not_true_eq_false, if_false]
  rfl

theorem execImgCommit_completes (r : Req) (len : Nat) (s : State) (h : Served r 0x0022 s)
    (hs : s.img.staging = some (r.session, len)) :
    ∃ t, execImgCommit r s = .next t ∧ Only [.img, .evr, .cmd, .pads] s t ∧ t.img.staging = none ∧
      t.img.pending = assemble s.img.staged len ∧ t.img.cur = s.img.cur ∧ t.img.user = s.img.user ∧
      t.evr = (submit .image 0x0120 t.img.pendStatus s).evr ∧
      (covered s.img.staged len = false → t.img.pendStatus = 6) ∧
      (∀ u, covered s.img.staged len = true → checkImage s (assemble s.img.staged len) true = .ok u →
        t.img.pendStatus = 0 ∧ t.img.next = some u) := by
  refine ⟨_, execImgCommit_of_staging r len s h hs, (imageChecked_only len s).seq (respond_only _ _ _ _ _ _), ?_⟩
  simp only [respond_img, respond_evr, imageChecked_img]
  exact ⟨rfl, rfl, rfl, rfl, submit_evr_congr _ _ _ rfl rfl, stageImage_uncovered _ len s, stageImage_good _ len s⟩

/-! IMG_ACTIVATE with COMMIT_ONLY, IMG_STATUS, and the end of a commit (R80, R93, R115, R116, R120). -/

theorem beginCommit_only (commit : Bool) (s : State) : Only [.img] s (beginCommit commit s) :=
  Only.ite _ (State.with_img_only s _) (Only.refl _ s)

theorem execImgActivate_commitOnly (r : Req) (next cur : Image) (s : State) (h : Served r 0x0023 s) (hr : running s = true)
    (hn : s.img.next = some next) (hc : s.img.cur = some cur) (hp : s.img.pendStatus = 0) (hx : imgHas next 0x18 = false)
    (hw : padTo 8 next.digest = watermark s) (hb : s.img.committing = false) :
    execImgActivate r 4 s = .next (respond r 0x0023 .ok false
      (leBytes 1 (changeClass cur next) ++ zeros 3 ++ leBytes 4 s.acq.wave) (beginCommit true s)) := by
  have four : Nat.testBit 4 2 = true := by decide
  rw [execImgActivate, serve_served r _ s _ h]
  simp [hn, hc, hp, hr, hx, hw, hb, four]

theorem execImgActivate_completes_commitOnly (r : Req) (next cur : Image) (s : State) (h : Served r 0x0023 s)
    (hr : running s = true) (hn : s.img.next = some next) (hc : s.img.cur = some cur) (hp : s.img.pendStatus = 0)
    (hx : imgHas next 0x18 = false) (hw : padTo 8 next.digest = watermark s) (hb : s.img.committing = false) :
    ∃ t, execImgActivate r 4 s = .next t ∧ Only [.img, .evr, .cmd, .pads] s t ∧ t.img.committing = true ∧
      t.img.cur = s.img.cur := by
  refine ⟨_, execImgActivate_commitOnly r next cur s h hr hn hc hp hx hw hb,
    ((beginCommit_only true s).seq (respond_only _ _ _ _ _ _)).mono (by decide), ?_⟩
  rw [respond_img]
  exact ⟨rfl, rfl⟩

theorem execImgStatus_of_served (r : Req) (s : State) (h : Served r 0x0024 s) :
    execImgStatus r s = .next (respond r 0x0024 .ok false
      (leBytes 1 s.img.userStatus ++ leBytes 1 s.img.pendStatus ++ leBytes 2 s.img.offend.1 ++ leBytes 4 s.img.offend.2 ++
        watermark s ++ stagedMark s) s) := by
  rw [execImgStatus, serve_served r _ s _ h]

/-- The outcome of a commit to SCH_USER: the images' new record and one event. -/
theorem submit_with_img_completes (c : Nat) (s : State) (x : Images) :
    Only [.img, .evr] s (submit .image c 0 { s with img := x }) ∧ (submit .image c 0 { s with img := x }).img = x :=
  ⟨(State.with_img_only s x).seq (submit_only _ _ _ _), submit_img _ _ _ _⟩

theorem execSchUserCommitDone_completes (s : State) (h : s.img.committing = true) :
    (∃ t, execSchUserCommitDone true s = .next t ∧ Only [.img, .evr] s t ∧
      t.img = { s.img with committing := false, user := s.img.pending, userStatus := 0 }) ∧
    ∃ t, execSchUserCommitDone false s = .next t ∧ Only [.img, .evr] s t ∧ t.img = { s.img with committing := false } ∧
      t.evr = (submit .image 0x0124 0 s).evr := by
  have written : execSchUserCommitDone true s = .next (submit .image 0x0123 0 { s with
      img := { s.img with committing := false, user := s.img.pending, userStatus := 0 } }) := if_neg (by simp [h])
  have failed : execSchUserCommitDone false s = .next (submit .image 0x0124 0 { s with
      img := { s.img with committing := false } }) := if_neg (by simp [h])
  obtain ⟨good, goodImg⟩ := submit_with_img_completes 0x0123 s
    { s.img with committing := false, user := s.img.pending, userStatus := 0 }
  obtain ⟨bad, badImg⟩ := submit_with_img_completes 0x0124 s { s.img with committing := false }
  exact ⟨⟨_, written, good, goodImg⟩, _, failed, bad, badImg, submit_evr_congr _ _ _ rfl rfl⟩

/-- Settles O13, command by command. -/
theorem imageCommandsComplete : Obligations.ImageCommandsComplete := by
  exact ⟨execImgBegin_stages, execImgData_keeps, execImgCommit_completes, execImgActivate_completes_commitOnly,
    execImgStatus_of_served, execSchUserCommitDone_completes⟩

end Sys2Proof.Machine
end

section
/-! PROOFS. A request that the checks before its command's own refuse (R73, R76, R587, R588, R601, R620). -/

namespace Sys2Proof.Machine
open Sys2Proof

/-- What a refused request gets: one packet with its numbers and the status, and no other effect. -/
def RefusedWith (st : Status) (r : Req) (op : Nat) (s t : State) : Prop :=
  ∃ p : Packet, Only [.cmd, .pads] s t ∧ t.cmd.out = s.cmd.out ++ [p] ∧ p.status = st.toNat ∧ p.op = op ∧
    p.session = r.session ∧ p.tag = r.tag ∧ p.payload = []

/-- A response that does not depend on an open session always leaves. -/
theorem respondTo_always_refuses (r : Req) (op : Nat) (st : Status) (s : State) :
    RefusedWith st r op s (respondTo true r op st false [] s) :=
  ⟨_, respondTo_only true r op st false [] s, rfl, rfl, rfl, rfl, rfl, rfl⟩

theorem serve_refused (r : Req) (op : Nat) (s : State) (f : State → State) (st : Status)
    (w : waits r (isUrgent op) s = false) (h : precheck r op (isUrgent op) (roleOf op) s = some st) :
    RefusedWith st r op s (serve r op s f) := by
  rw [serve, serveAs_refused r op _ _ s f st w h]
  exact respondTo_always_refuses r op st s

/-- The command runs under the checks of `r` with the opcode `op`: what it does itself comes after them. -/
def RunsUnderChecks (r : Req) (op : Nat) (c : Instr) (s : State) : Prop := ∃ f, exec c s = .next (serve r op s f)

theorem RunsUnderChecks.refused {r : Req} {op : Nat} {c : Instr} {s : State} {st : Status} (hc : RunsUnderChecks r op c s)
    (w : waits r (isUrgent op) s = false) (h : precheck r op (isUrgent op) (roleOf op) s = some st) :
    ∃ t p, exec c s = .next t ∧ Only [.cmd, .pads] s t ∧ t.cmd.out = s.cmd.out ++ [p] ∧ p.status = st.toNat ∧
      p.op = op ∧ p.session = r.session ∧ p.tag = r.tag ∧ p.payload = [] := by
  obtain ⟨f, hf⟩ := hc
  obtain ⟨p, hp⟩ := serve_refused r op s f st w h
  exact ⟨_, p, hf, hp⟩

/-- Settles O59: every command of the list has `serve` with its own opcode around its effect. -/
theorem refusedRequestsHaveNoEffect : Obligations.RefusedRequestsHaveNoEffect := by
  intro r n a b d e off bytes bytes' es as ws m v lv s st c hc w h
  suffices hs : RunsUnderChecks r c.2 c.1 s from hs.refused w h
  clear w h
  revert c
  simp only [List.forall_mem_cons, List.not_mem_nil, false_implies, implies_true, and_true]
  and_intros
  all_goals exact ⟨_, rfl⟩

end Sys2Proof.Machine
end

section
/-! PROOFS. What comes into service at an activation boundary, a structural restart and an on-line change (R116 to R120, R122,
R380 to R384). -/

namespace Sys2Proof.Machine
open Sys2Proof

/-! Cancelled instances and cleared elements change the graph unit, delay entries and the event recorder (R117, R225, R272). -/

theorem updInst_only (node : Nat) (key : Key) (f : Inst → Inst) (s : State) : Only [.gr] s (updInst node key f s) :=
  State.with_gr_only s _

theorem nextStateful_only (n : Node) (key : Key) (s : State) : Only [.gr] s (nextStateful n key s) := by
  refine Only.ite _ (Only.refl _ s) ?_
  split
  · exact updInst_only _ _ _ s
  · exact Only.refl _ s

theorem retireVoid_only (i : Inst) (s : State) : Only [.gr] s (retireVoid i s) :=
  ((updInst_only _ _ _ s).trans (State.with_gr_only _ _)).trans (nextStateful_only _ _ _)

theorem cancelInst_only (s : State) (i : Inst) : Only [.gr] s (cancelInst s i) := by
  have counted := State.with_gr_only s { s.gr with cancelCnt := satInc 32 s.gr.cancelCnt }
  refine Only.ite _ (Only.refl _ s) ?_
  dsimp only
  split
  · exact counted.trans (retireVoid_only i _)
  · exact counted.trans (retireVoid_only i _)
  · exact counted.trans (updInst_only _ _ _ _)

theorem State.with_gr_pr_only (s : State) (g : GraphUnit) (p : Pair) : Only [.gr, .pr] s { s with gr := g, pr := p } :=
  fun q => by cases q <;> simp [Same]

theorem raiseEpochs_only (ks : List Nat) (s : State) : Only [.gr, .pr] s (raiseEpochs ks s) :=
  Only.trans (Only.foldl _ _ ks s fun s _ => (State.with_gr_only s _).mono (by decide)) (State.with_gr_pr_only _ _ _)

theorem cancelNodes_only (ks : List Nat) (s : State) : Only [.gr, .pr] s (cancelNodes ks s) :=
  (raiseEpochs_only ks s).trans (Only.foldl _ _ _ _ fun s i => (cancelInst_only s i).mono (by decide))

theorem putElem_only (e : Elem) (s : State) : Only [.gr] s (putElem e s) :=
  Only.ite _ (State.with_gr_only s _) (State.with_gr_only s _)

theorem elemReset_only (n : Node) (e : Elem) (s : State) : Only [.evr] s (elemReset n e s) :=
  Only.ite _ (submitParts_only _ _ _ _ s) (Only.refl _ s)

theorem resetOp_only (s : State) (n : Node) : Only [.gr, .evr] s (resetOp s n) := by
  refine Only.trans ((State.with_gr_only s _).mono (by decide)) (Only.ite _ ?_ (Only.ite _ ?_ (Only.refl _ _)))
  · exact (putElem_only _ _).mono (by decide)
  · exact ((elemReset_only n _ _).seq (putElem_only _ _)).mono (by decide)

theorem resetElements_only (ns : List Node) (s : State) : Only [.gr, .pr, .evr] s (resetElements ns s) :=
  ((cancelNodes_only _ s).mono (by decide)).trans (Only.foldl _ _ ns _ fun s n => (resetOp_only s n).mono (by decide))

/-! The settings that an image changes as it comes into service (R117). -/

theorem limitsChange_only (b : List Param) (s : State) : Only [.evr, .cmd, .pads] s (limitsChange b s) :=
  Only.foldl _ _ _ s fun s c => (suppressedRecord_logs c _ s).1.trans ((State.with_evr_only _ _).mono (by decide))

theorem channelsChange_only (old : List ChanEntry) (s : State) : Only [.acq, .evr, .hlt] s (channelsChange old s) := by
  refine Only.foldl _ _ _ s fun s n => Only.ite _ (Only.refl _ s) ?_
  have told := ((clearDet_only 0x03 n s).seq (submit_only .acq 0x2004 n _)).mono (qs := [.acq, .evr, .hlt]) (by decide)
  exact Only.trans (Only.ite _ told (Only.refl _ s)) ((State.with_acq_only _ _).mono (by decide))

/-- A changed launch entry that the image itself had armed is armed no longer. -/
def imageEntryDisarmed (e : Nat) (s : State) : State :=
  match armedEntry s e with
  | some x => if x.owner = .image then updLaunch e (fun x => { x with armed := false }) s else s
  | none => s

theorem imageEntryDisarmed_only (e : Nat) (s : State) : Only [.tu] s (imageEntryDisarmed e s) := by
  unfold imageEntryDisarmed
  split
  · exact Only.ite _ (updLaunch_only _ _ s) (Only.refl _ s)
  · exact Only.refl _ s

/-- A launch entry that the image takes over from another owner skips the launch that was armed. -/
def foreignEntrySkipped (e : Nat) (s : State) : State :=
  match armedEntry s e with
  | some _ => launchSkipped (512 + e) 1 0 4 (updLaunch e (fun x => { x with armed := false }) s)
  | none => s

theorem foreignEntrySkipped_only (e : Nat) (s : State) : Only [.tu, .evr] s (foreignEntrySkipped e s) := by
  unfold foreignEntrySkipped
  split
  · exact (updLaunch_only _ _ s).seq (submitParts_only _ _ _ _ _)
  · exact Only.refl _ s

/-- A launch entry of the image is armed with its values, or refused, once TD1 has been locked. -/
def imageEntryArmed (e : Nat) (v : LaunchVal) (s : State) : State :=
  if !s.tu.everLocked then s
  else if (v.period = 0 ∧ v.instant * 2 ^ 40 ≤ td1 s) ∨ !targetOk s v then submit .time 0x0125 e s
  else putArmed .image e v (firstAfter v (td1 s)) s

theorem imageEntryArmed_only (e : Nat) (v : LaunchVal) (s : State) : Only [.tu, .evr] s (imageEntryArmed e v s) :=
  Only.ite _ (Only.refl _ s) (Only.ite _ ((submit_only _ _ _ s).of_evr (by decide))
    ((State.with_tu_only s _).of_tu (by decide)))

theorem launchesChange_eq (b : List Param) (s : State) : launchesChange b s =
    (changedIdx b (params s) 0x0A10).foldl (fun s e =>
      match imgLaunch (imageEntryDisarmed e s) e with
      | none => imageEntryDisarmed e s
      | some v => imageEntryArmed e v (foreignEntrySkipped e (imageEntryDisarmed e s))) s := rfl

theorem launchesChange_only (b : List Param) (s : State) : Only [.tu, .evr] s (launchesChange b s) := by
  rw [launchesChange_eq]
  refine Only.foldl _ _ _ s fun s e => ?_
  have disarmed := (imageEntryDisarmed_only e s).of_tu (ps := [.tu, .evr]) (by decide)
  split
  · exact disarmed
  · exact disarmed.trans ((foreignEntrySkipped_only e _).trans (imageEntryArmed_only e _ _))

theorem beginEntry_only (e : Nat) (s : State) : Only [.upc] s (beginEntry e s) := by
  unfold beginEntry
  split
  · exact Only.refl _ s
  · exact State.with_upc_only s _

theorem startPass_only (s : State) : Only [.upc] s (startPass s) := by
  unfold startPass
  dsimp only
  split
  · exact State.with_upc_only s _
  · exact (State.with_upc_only s _).trans (beginEntry_only _ _)

theorem restartPasses_only (s : State) : Only [.upc] s (restartPasses s) :=
  Only.ite _ (State.with_upc_only s _) ((State.with_upc_only s _).trans (startPass_only _))

/-! What is in service: the image, where it came from and the activation in progress, beside the engine's supply and phase. -/

/-- The supply and phase, the image in service and its source, and the activation in progress. -/
def service (s : State) : Power × Option Image × Nat × Option Activation := (s.pw, s.img.cur, s.img.source, s.img.act)

theorem service_fold (s : State) : (s.pw, s.img.cur, s.img.source, s.img.act) = service s := rfl

theorem service_eq_iff {s : State} {p : Power} {c : Option Image} {n : Nat} {a : Option Activation} :
    service s = (p, c, n, a) ↔ s.pw = p ∧ s.img.cur = c ∧ s.img.source = n ∧ s.img.act = a := by
  simp [service]

theorem service_mk (code pw pads fl boot img tu acq gr le rio fio upc dr evr pr net cmd sec hlt pending) :
    service (State.mk code pw pads fl boot img tu acq gr le rio fio upc dr evr pr net cmd sec hlt pending) =
      (pw, img.cur, img.source, img.act) := rfl

theorem service_ite (c : Prop) [Decidable c] (a b : State) :
    service (if c then a else b) = if c then service a else service b := by
  split <;> rfl

theorem service_of_only {ps : List Part} {s t : State} (h : Only ps s t) (kp : Part.pw ∉ ps) (ki : Part.img ∉ ps) :
    service t = service s := by
  have hp : t.pw = s.pw := h.same .pw kp
  have hi : t.img = s.img := h.same .img ki
  rw [service, service, hp, hi]

@[simp] theorem submit_service (b : Block) (c v : Nat) (s : State) : service (submit b c v s) = service s :=
  service_of_only (submit_only b c v s) (by decide) (by decide)

@[simp] theorem respond_service (r : Req) (op : Nat) (st : Status) (m : Bool) (pl : List Byte) (s : State) :
    service (respond r op st m pl s) = service s :=
  service_of_only (respond_only r op st m pl s) (by decide) (by decide)

@[simp] theorem limitsChange_pw (b : List Param) (s : State) : (limitsChange b s).pw = s.pw :=
  (limitsChange_only b s).same .pw (by decide)

@[simp] theorem limitsChange_img (b : List Param) (s : State) : (limitsChange b s).img = s.img :=
  (limitsChange_only b s).same .img (by decide)

/-- Where the image has no settings of the active group, the default group replaces it and the image stays in service. -/
@[simp] theorem groupAfter_service (s : State) : service (groupAfter s) = service s := by
  unfold groupAfter
  split
  · rfl
  · exact submit_service _ _ _ _

@[simp] theorem resetElements_service (ns : List Node) (s : State) : service (resetElements ns s) = service s :=
  service_of_only (resetElements_only ns s) (by decide) (by decide)

@[simp] theorem loadRows_service (old : Nat → RowCfg) (same : Nat → Bool) (s : State) :
    service (loadRows old same s) = service s := service_of_only (loadRows_only old same s) (by decide) (by decide)

@[simp] theorem channelsChange_service (old : List ChanEntry) (s : State) : service (channelsChange old s) = service s :=
  service_of_only (channelsChange_only old s) (by decide) (by decide)

@[simp] theorem launchesChange_service (b : List Param) (s : State) : service (launchesChange b s) = service s :=
  service_of_only (launchesChange_only b s) (by decide) (by decide)

@[simp] theorem loadProcess_service (s : State) : service (loadProcess s) = service s :=
  service_of_only (loadProcess_only s) (by decide) (by decide)

@[simp] theorem restartPasses_service (s : State) : service (restartPasses s) = service s :=
  service_of_only (restartPasses_only s) (by decide) (by decide)

@[simp] theorem recFlags_service (m : BitVec 16) (s : State) : service (recFlags m s) = service s :=
  service_of_only (recFlags_only m s) (by decide) (by decide)

@[simp] theorem recMark_service (code t1 start : Nat) (s : State) : service (recMark code t1 start s) = service s :=
  service_of_only (recMark_only code t1 start s) (by decide) (by decide)

@[simp] theorem figuresRestart_service (s : State) : service (figuresRestart s) = service s :=
  service_of_only (figuresRestart_only s) (by decide) (by decide)

@[simp] theorem updCert_service (s : State) : service (updCert s) = service s :=
  service_of_only (updCert_only s) (by decide) (by decide)

@[simp] theorem loadUnits_service (old : List ChanEntry) (s : State) : service (loadUnits old s) = service s :=
  service_of_only (loadUnits_only old s) (by decide) (by decide)

/-- An image that comes into service is the image in service, as source 3. -/
theorem applyImage_service (u : Image) (s : State) : service (applyImage u s) = (s.pw, some u, 3, s.img.act) := by
  simp [applyImage, refreshPads, service_mk, service_fold, service_ite]

/-! ACTIVATION_BOUNDARY (R117, R120). -/

@[simp] theorem beginCommit_service (commit : Bool) (s : State) : service (beginCommit commit s) = service s := by
  cases commit <;> rfl

theorem activated_only (req : Option Req) (cls w : Nat) (s : State) :
    Only [.evr, .cmd, .pads] s (activated req cls w s) := by
  have told := (submit_only .image 0x0121 cls s).of_evr (ps := [.evr, .cmd, .pads]) (by decide)
  unfold activated
  dsimp only
  split
  · exact told.trans ((respond_only _ _ _ _ _ _).mono (by decide))
  · exact told

@[simp] theorem activated_service (req : Option Req) (cls w : Nat) (s : State) : service (activated req cls w s) = service s :=
  service_of_only (activated_only req cls w s) (by decide) (by decide)

theorem activateNow_service (cls : Nat) (commit : Bool) (req : Option Req) (w : Nat) (u : Image) (s : State)
    (hn : s.img.next = some u) : service (activateNow cls commit req w s) = (s.pw, some u, 3, none) := by
  rw [activateNow, hn]
  dsimp only
  rw [beginCommit_service, activated_service, applyImage_service]

theorem execActivationBoundary_completes (a : Activation) (u : Image) (s : State) (ha : s.img.act = some a)
    (hn : s.img.next = some u) (hk : a.cls = 1) (hw : a.waitPeer = false) (hb : a.boundary = none)
    (ht : a.acceptedNs + 1000000 ≤ nsAll (td1 s)) :
    ∃ t, execActivationBoundary s = .next t ∧ t.img.cur = some u ∧ t.img.source = 3 ∧ t.img.act = none ∧ t.pw = s.pw := by
  have now : execActivationBoundary s =
      .next (activateNow 1 a.commit (some a.req) ((s.acq.wave + 1) % 2 ^ 32) s) := by
    rw [execActivationBoundary, ha]
    dsimp only
    rw [if_pos ⟨hk, by simp [hw], by simp [hb], ht⟩]
  obtain ⟨power, image, source, ended⟩ := service_eq_iff.mp (activateNow_service 1 a.commit (some a.req) _ u s hn)
  exact ⟨_, now, image, source, ended, power⟩

/-! ACTIVATION_CONFIRM_TIMEOUT (R118). -/

theorem activateRefused_img (r : Option Req) (st : Status) (s : State) : (activateRefused r st s).img = s.img :=
  (activateRefused_only r st s).same .img (by decide)

theorem execActivationConfirmTimeout_completes (a : Activation) (s : State) (ha : s.img.act = some a)
    (hw : a.waitPeer = true) (hd : due s a.acceptedTd0 (secT 1) = true) :
    ∃ t, execActivationConfirmTimeout s = .next t ∧ t.img.act = none ∧ t.img.cur = s.img.cur ∧
      t.img.next = s.img.next := by
  have ends : execActivationConfirmTimeout s =
      .next (activateRefused (some a.req) .badState { s with img := { s.img with act := none } }) := by
    rw [execActivationConfirmTimeout, ha]
    dsimp only
    rw [if_pos ⟨hw, hd⟩]
  refine ⟨_, ends, ?_⟩
  rw [activateRefused_img]
  exact ⟨rfl, rfl, rfl⟩

/-! STRUCTURAL_CONFIG_DONE (R119). -/

@[simp] theorem pmuChanged_service (old : List Param) (s : State) : service (pmuChanged old s) = service s := rfl

theorem service_actEnded (n : Nat) (s : State) : service { s with img := { s.img with act := none, lastReqWord := n } } =
    ((service s).1, (service s).2.1, (service s).2.2.1, none) := rfl

/-- Every unit takes the new image, which is in service as source 3, and protection runs. -/
theorem execStructuralConfigDone_runs (a : Activation) (u : Image) (s : State) (ha : s.img.act = some a)
    (hn : s.img.next = some u) (hk : a.cls = 3) (hf : s.fl.running = false) (hp : s.pw.phase = .configure) :
    ∃ b w, execStructuralConfigDone s =
        .next (beginCommit a.commit (activated (some a.req) 3 w (runProtection b))) ∧
      service b = (s.pw, some u, 3, none) := by
  rw [execStructuralConfigDone, ha, hn]
  dsimp only
  rw [if_neg (by simp [hk, hf, hp])]
  refine ⟨_, _, rfl, ?_⟩
  rw [updCert_service, service_actEnded]
  simp [service_mk, service_fold, service_ite]

theorem runProtection_service (s : State) :
    service (runProtection s) = ({ s.pw with phase := .running }, s.img.cur, s.img.source, s.img.act) :=
  service_of_only (runProtection_only s) (by decide) (by decide)

theorem execStructuralConfigDone_completes (a : Activation) (u : Image) (s : State) (ha : s.img.act = some a)
    (hn : s.img.next = some u) (hk : a.cls = 3) (hf : s.fl.running = false) (hp : s.pw.phase = .configure) :
    ∃ t, execStructuralConfigDone s = .next t ∧ t.img.cur = some u ∧ t.img.source = 3 ∧ t.img.act = none ∧
      t.pw.phase = .running ∧ t.gr.running = true := by
  obtain ⟨b, w, done, loaded⟩ := execStructuralConfigDone_runs a u s ha hn hk hf hp
  obtain ⟨_, image, source, ended⟩ := service_eq_iff.mp loaded
  have after : service (beginCommit a.commit (activated (some a.req) 3 w (runProtection b))) =
      ({ b.pw with phase := .running }, some u, 3, none) := by
    rw [beginCommit_service, activated_service, runProtection_service, image, source, ended]
  have units : Only [.pr, .evr, .pads, .cmd, .img] (protectionBegins b)
      (beginCommit a.commit (activated (some a.req) 3 w (runProtection b))) :=
    (((runProtection_only b).seq (activated_only _ _ _ _)).seq (beginCommit_only _ _)).mono (by decide)
  obtain ⟨power, image, source, ended⟩ := service_eq_iff.mp after
  exact ⟨_, done, image, source, ended, congrArg Power.phase power,
    congrArg GraphUnit.running (units.same .gr (by decide))⟩

/-! GROUP_SELECT (R122). -/

theorem execGroupSelect_holds (r : Req) (group : Nat) (s : State) (h : Served r 0x0025 s) (hr : running s = true)
    (hg : groupSource s 0 = true) (hp : pairRefuses s = false) (he : groupExists s group = true)
    (hc : s.img.cmdGroups = []) (hs : s.pr.sched = []) (ht : s.pr.st ≠ .twin) :
    execGroupSelect r group s = .next { s with img := { s.img with cmdGroups := [(group, some r)] } } := by
  rw [execGroupSelect, serve_served r _ s _ h, if_neg (by simp [hr, hg, hp]), if_neg (by simp [he]),
    if_neg (by simp [hc, hs]), if_neg ht]

/-! LE_CHANGE (R380, R384). -/

theorem execLeChange_awaits (r : Req) (options : Nat) (next cur : Image) (s : State) (h : Served r 0x0033 s)
    (ho : options < 2) (hn : s.img.next = some next) (hc : s.img.cur = some cur) (hp : s.img.pendStatus = 0)
    (hr : running s = true) (hk : changeClass cur next = 2) (hb : changeBlocked s = false) (hl : s.le.change = none)
    (hd : s.le.changeDue = none) (ht : s.pr.st ≠ .twin) :
    execLeChange r (padTo 8 next.digest) (forceDigest s) options s = .next (answer r 0x0033 .ok (awaitChange
      { commit := options.testBit 0, byActivate := false, req := none, at0 := td0 s, waitPeer := false } s)) := by
  have solo : (s.pr.st == PairSt.twin) = false := beq_false_of_ne ht
  rw [execLeChange, serve_served r _ s _ h, if_neg (by omega), hn, hc]
  dsimp only
  rw [if_neg (by simp [hp, hr, hk, hb]), if_neg (by simp), if_neg (by simp [hl, hd]), solo]
  rfl

theorem execLeChange_completes (r : Req) (options : Nat) (next cur : Image) (s : State) (h : Served r 0x0033 s)
    (ho : options < 2) (hn : s.img.next = some next) (hc : s.img.cur = some cur) (hp : s.img.pendStatus = 0)
    (hr : running s = true) (hk : changeClass cur next = 2) (hb : changeBlocked s = false) (hl : s.le.change = none)
    (hd : s.le.changeDue = none) (ht : s.pr.st ≠ .twin) :
    ∃ t, execLeChange r (padTo 8 next.digest) (forceDigest s) options s = .next t ∧ t.le.program = s.le.program ∧
      t.img = s.img ∧ ∃ c, t.le.change = some c ∧ c.commit = options.testBit 0 ∧ c.at0 = td0 s ∧ c.waitPeer = false := by
  refine ⟨_, execLeChange_awaits r options next cur s h ho hn hc hp hr hk hb hl hd ht, ?_⟩
  rw [answer_le, answer_img]
  exact ⟨rfl, rfl, _, rfl, rfl, rfl, rfl⟩

/-! LE_CHANGEOVER (R381 to R383). -/

theorem markPoint_only (l : LogicSec) (s : State) (e : Nat × Bool × Nat) : Only [.le, .gr] s (markPoint l s e) := by
  have logic := fun v => (State.with_le_only s v).mono (qs := [.le, .gr]) (by decide)
  have graph := fun v => (State.with_gr_only s v).mono (qs := [.le, .gr]) (by decide)
  unfold markPoint
  dsimp only
  split
  · exact logic _
  · exact logic _
  · exact logic _
  · exact logic _
  · exact logic _
  · exact graph _
  · exact graph _
  · exact Only.refl _ s

theorem dropTriggers_only (s : State) : Only [.le, .evr] s (dropTriggers s) :=
  Only.trans (Only.foldl _ _ _ s fun s _ => (submit_only _ _ _ s).of_evr (by decide))
    ((State.with_le_only _ _).mono (by decide))

theorem markDirty_only (s : State) : Only [.le] s (markDirty s) := State.with_le_only s _

theorem migrate_only (old new : LogicSec) (s : State) : Only [.le, .gr, .evr] s (migrate old new s) := by
  have marked := fun (s : State) => Only.foldl [.le, .gr] (markPoint new) new.markInit s (markPoint_only new)
  exact (((((State.with_le_only s _).seq (marked _)).seq (dropTriggers_only _)).seq (markDirty_only _)).seq
    (submit_only _ _ _ _)).mono (by decide)

theorem abandon_only (s : State) : Only [.le] s (abandon s) := State.with_le_only s _

theorem syncClk_only (s : State) : Only [.le] s (syncClk s) := State.with_le_only s _

theorem setMode_only (m : LeMode) (cause : Nat) (s : State) : Only [.le, .evr] s (setMode m cause s) :=
  (((State.with_le_only s _).seq (submit_only _ _ _ _)).seq (markDirty_only _)).mono (by decide)

/-- The logic section changes; the image in service does not yet. -/
theorem changeSection_cur (u : Image) (s : State) : (changeSection u s).img.cur = s.img.cur := by
  unfold changeSection
  split
  · exact congrArg Images.cur ((migrate_only _ _ s).same .img (by decide))
  · rw [submit_img]
  · rw [submit_img]
    exact congrArg Images.cur ((setMode_only _ _ _).same .img (by decide))

theorem changeover_of_next (c : Change) (w : Nat) (u : Image) (s : State) (hn : s.img.next = some u) :
    changeover c w s = { changeSection u s with le := { (changeSection u s).le with
      change := none, changeSt := 2, changeRes := 0, changeWave := w, changeDue := some c } } := by
  rw [changeover, hn]

theorem execLeChangeover_completes (c : Change) (u : Image) (s : State) (hm : anyMid s = false)
    (hh : s.le.halted = false) (hr : running s = true) (hf : followsAgreed s = false) (hc : s.le.change = some c)
    (hw : c.waitPeer = false) (hn : s.img.next = some u) :
    ∃ t, execLeChangeover s = .next t ∧ t.le.change = none ∧ t.le.changeSt = 2 ∧ t.le.changeDue = some c ∧
      t.le.changeWave = (s.acq.wave + 1) % 2 ^ 32 ∧ t.img.cur = s.img.cur := by
  have images : (sendLogic [3, b2n c.commit, (s.acq.wave + 1) % 2 ^ 32] s).img = s.img :=
    (sendAgree_only _ _ _ s).same .img (by decide)
  have takesOver : execLeChangeover s = .next (changeover c ((s.acq.wave + 1) % 2 ^ 32)
      (sendLogic [3, b2n c.commit, (s.acq.wave + 1) % 2 ^ 32] s)) := by
    rw [execLeChangeover, if_neg (by simp [hm, hh, hr]), if_neg (by simp [hf]), hc]
    dsimp only
    rw [if_neg (by simp [hw])]
  rw [changeover_of_next c _ u _ (by rw [images, hn])] at takesOver
  exact ⟨_, takesOver, rfl, rfl, rfl, rfl, (changeSection_cur u _).trans (congrArg Images.cur images)⟩

/-! LE_CHANGE_REFUSED (R381). -/

theorem refuseChange_le (c : Change) (st : Status) (s : State) (hc : s.le.change = some c) :
    (refuseChange st s).le = { s.le with change := none, changeSt := 3, changeRes := st.toNat } := by
  have told : (changeRefused st s).le = { s.le with change := none, changeSt := 3, changeRes := st.toNat } :=
    submit_le _ _ _ _
  rw [refuseChange, hc]
  dsimp only
  split
  · exact ((activateRefused_only _ _ _).same .le (by decide)).trans told
  · exact told

theorem execLeChangeRefused_completes (c : Change) (s : State) (hc : s.le.change = some c) (hw : c.waitPeer = false)
    (hd : due s c.at0 (2 * longestPeriod s) = true) :
    ∃ t, execLeChangeRefused s = .next t ∧ t.le.change = none ∧ t.le.program = s.le.program ∧ t.img = s.img := by
  have refused : execLeChangeRefused s = .next (refuseChange .badState s) := by
    rw [execLeChangeRefused, hc]
    dsimp only
    rw [if_pos ⟨by simp [hw], hd⟩]
  refine ⟨_, refused, ?_, ?_, (refuseChange_only _ s).same .img (by decide)⟩
  · rw [refuseChange_le c _ s hc]
  · rw [refuseChange_le c _ s hc]

/-- Settles O14, row by row. -/
theorem activationAndChangeRowsComplete : Obligations.ActivationAndChangeRowsComplete := by
  exact ⟨fun a u _ s ha hn _ => execActivationBoundary_completes a u s ha hn, execActivationConfirmTimeout_completes,
    execStructuralConfigDone_completes, execGroupSelect_holds, execLeChange_completes, execLeChangeover_completes,
    execLeChangeRefused_completes⟩

end Sys2Proof.Machine
end

section
/-! PROOFS. A glide that ends in free running (R148), and one tick of the timing clock (R125, R128). -/

namespace Sys2Proof.Machine
open Sys2Proof

/-- Settles O57: the row's change of quality leaves TD1's counter and increment. -/
theorem largeGlideErrorFreesTd1 : Obligations.LargeGlideErrorFreesTd1 := by
  intro dTemp s hg
  refine ⟨fun he => ?_, fun he => if_neg fun h => absurd h.2 (Nat.not_lt.mpr he)⟩
  obtain ⟨t, ht, ho, h1⟩ := execGlideToFree_completes dTemp s hg he
  exact ⟨t, ht, ho, congrArg Domain.qst h1, congrArg Domain.cls h1, by rw [h1], by rw [td1, h1, td1]⟩

theorem mgmtPump_only (s : State) : Only [.net] s (mgmtPump s) := by
  unfold mgmtPump
  split
  · exact Only.refl _ s
  · exact Only.ite _ ((State.with_net_only s _).trans (putFrame_only _ _ _ _ _ _)) (Only.refl _ s)

theorem mgmtPump_of_nil (s : State) (h : s.net.mgmtWait = []) : mgmtPump s = s := by
  rw [mgmtPump, h]

theorem idle_of_powered (s : State) (hp : s.pw.phase ≠ .off) : idle s = mgmtPump (advance 1 s) := if_neg hp

/-- One tick of a domain without a slew counts its increment. -/
theorem advDom_tick (d : Domain) (h : d.slewLeft = 0) : (advDom 1 d).t = d.t + d.inc := by
  simp [advDom, h]

/-- Settles O2: the tick is `advance 1`, and what may go out after it is the frame held back for room. -/
theorem emptyQueueLetsATickPass : Obligations.EmptyQueueLetsATickPass := by
  intro s hq
  refine ⟨fun hp h0 h1 => ?_, fun hp => (step_of_nil s hq).trans (congrArg Host.Outcome.next (if_pos hp))⟩
  have ticks := advance_only 1 s
  have sends := mgmtPump_only (advance 1 s)
  have time : (mgmtPump (advance 1 s)).tu = (advance 1 s).tu := sends.same .tu (by decide)
  have ports : (advance 1 s).net = s.net := ticks.same .net (by decide)
  refine ⟨mgmtPump (advance 1 s), ?_, ticks.seq sends, fun hw => ?_, ?_, ?_⟩
  · rw [step_of_nil s hq, idle_of_powered s hp]
  · rw [mgmtPump_of_nil _ (by rw [ports, hw]), ports]
  · rw [td0, time]
    exact (congrArg Domain.t (advance_dom 1 0 s hp (by decide))).trans (advDom_tick _ h0)
  · rw [td1, time]
    exact (congrArg Domain.t (advance_dom 1 1 s hp (by decide))).trans (advDom_tick _ h1)

end Sys2Proof.Machine
end

section
/-! PROOFS. The host's time commands and the writes to the time registers (R126, R128, R129, R131, R142, R143, R168, R595,
R643). -/

namespace Sys2Proof.Machine
open Sys2Proof

theorem latchAll_only (s : State) : Only [.tu] s (latchAll s) := State.with_tu_only s _

theorem execTbRead_completes (r : Req) (wanted : Nat) (s : State) (h : Served r 0x0050 s) (hw : wanted ≤ 62) :
    ∃ t, execTbRead r wanted s = .next t ∧ Only [.tu, .cmd, .pads] s t ∧
      t.tu = { (latchAll s).tu with capQ := s.tu.capQ.drop wanted } := by
  refine ⟨_, congrArg Host.Outcome.next ((serve_served r _ s _ h).trans (if_neg (by omega))), ?_, ?_⟩
  · exact ((latchAll_only s).trans (State.with_tu_only _ _)).seq (respond_only _ _ _ _ _ _)
  · exact respond_tu _ _ _ _ _ _

theorem execTbSetInc_completes (r : Req) (domain inc : Nat) (s : State) (h : Served r 0x0051 s)
    (ho : incTarget s domain = .ok) (hi : incOk (incPpm domain) (inc % 2 ^ 48) = true) :
    execTbSetInc r domain inc s = .next (answer r 0x0051 .ok (setInc domain (inc % 2 ^ 48) s)) := by
  rw [execTbSetInc, serve_served r _ s _ h]
  simp only [ho, if_pos hi]

theorem execTbSlew_completes (r : Req) (domain inc count : Nat) (s : State) (h : Served r 0x0052 s)
    (ho : incTarget s domain = .ok) (hd : domain ≠ 0) (hi : incOk (incPpm domain) (inc % 2 ^ 48) = true) :
    execTbSlew r domain inc count s =
      .next (answer r 0x0052 .ok (startSlew domain (inc % 2 ^ 48) (count % 2 ^ 32) s)) := by
  rw [execTbSlew, serve_served r _ s _ h]
  simp only [ho, if_pos (And.intro hd hi)]

/-! The step (R129). -/

theorem stepStatus_ok {s : State} {n : Nat} {off : Int} (h : stepStatus s n off = .ok) :
    (n = 1 ∨ n = 3) ∧ 0 ≤ ((dom s n).t : Int) + off := by
  unfold stepStatus at h
  split at h
  · cases h
  split at h
  · cases h
  next hn =>
    split at h
    next hs => exact ⟨by omega, of_decide_eq_true hs⟩
    next => cases h

theorem applyStep_td3 (off : Int) (cause : Nat) (s : State) : ∃ l, applyStep 3 off cause s = fireDetOnceP 0x06 3 l
    (updDom 3 (fun d => { d with t := ((s.tu.d3.t : Int) + off).toNat, epoch := wrapInc 16 d.epoch }) s) := by
  unfold applyStep
  exact ⟨_, if_neg (by decide)⟩

/-- A step moves its domain's counter and epoch and leaves TD0. -/
theorem applyStep_moves (n : Nat) (off : Int) (cause : Nat) (s : State) (hn : n = 1 ∨ n = 3) :
    (dom (applyStep n off cause s) n).t = (((dom s n).t : Int) + off).toNat ∧
      (dom (applyStep n off cause s) n).epoch = wrapInc 16 (dom s n).epoch ∧ (applyStep n off cause s).tu.d0 = s.tu.d0 := by
  obtain rfl | rfl := hn
  · obtain ⟨h0, h1, -, -, -⟩ := servoRegs_inv (applyStep_td1_servoRegs off cause s)
    exact ⟨congrArg Domain.t h1, congrArg Domain.epoch h1, h0⟩
  · obtain ⟨l, hl⟩ := applyStep_td3 off cause s
    have time := (fireDetOnceP_only 0x06 3 l (updDom 3 (fun d => { d with
      t := ((s.tu.d3.t : Int) + off).toNat, epoch := wrapInc 16 d.epoch }) s)).same .tu (by decide)
    rw [← hl] at time
    exact ⟨congrArg (fun u => u.d3.t) time, congrArg (fun u => u.d3.epoch) time, congrArg (fun u => u.d0) time⟩

theorem execTbStep_completes (r : Req) (domain frac : Nat) (offset off : Int) (s : State) (h : Served r 0x0053 s)
    (hf : off = offset * 2 ^ 40 + ((frac % 65536 : Nat) : Int) * 2 ^ 24) (ho : stepStatus s domain off = .ok) :
    ∃ t, execTbStep r domain frac offset s = .next t ∧ ((dom t domain).t : Int) = (dom s domain).t + off ∧
      (dom t domain).epoch = wrapInc 16 (dom s domain).epoch ∧ t.tu.d0 = s.tu.d0 ∧
      t = answer r 0x0053 .ok (applyStep domain off 2 s) := by
  obtain ⟨hn, h0⟩ := stepStatus_ok ho
  obtain ⟨ht, he, hd⟩ := applyStep_moves domain off 2 s hn
  have answers : execTbStep r domain frac offset s = .next (answer r 0x0053 .ok (applyStep domain off 2 s)) := by
    rw [execTbStep, serve_served r _ s _ h]
    have asInt : offset * 2 ^ 40 + (frac : Int) % 65536 * 2 ^ 24 = off := by rw [hf, Int.natCast_mod]; rfl
    simp only [asInt, ho]
  have time : dom (answer r 0x0053 .ok (applyStep domain off 2 s)) domain = dom (applyStep domain off 2 s) domain := by
    obtain rfl | rfl := hn <;> simp [dom]
  refine ⟨_, answers, ?_, ?_, ?_, rfl⟩
  · rw [time, ht, Int.toNat_of_nonneg h0]
  · rw [time, he]
  · rw [answer_tu, hd]

/-! The registers (R167, R168). -/

theorem tbWrite_kick (s : State) : tbWrite 0x10008 1 s = (kick s, .ok) := rfl

theorem tbWrite_capture (s : State) : tbWrite 0x1000C 1 s = (latchAll s, .ok) := rfl

theorem tbWrite_kickExpired (s : State) :
    tbWrite 0x10004 (2 ^ 20) s = ({ s with tu := { s.tu with kickExpired := false } }, .ok) := rfl

theorem tbWrite_stepCtl (v : Nat) (s : State) : tbWrite 0x10028 v s = tbStepCtl v s := rfl

/-- A step command with GO set applies what the fields of the register hold (R129, R168). -/
theorem tbWrite_stepGo (n : Nat) (off : Int) (s : State) (hd : s.tu.stepDom ≤ 1) (hn : n = (if s.tu.stepDom = 1 then 3 else 1))
    (hf : off = sgn 64 (s.tu.stepHi * 2 ^ 32 + s.tu.stepLo) * 2 ^ 40 + (s.tu.stepFrac : Int) * 2 ^ 24)
    (ho : stepStatus s n off = .ok) :
    tbWrite 0x10028 (s.tu.stepFrac * 65536 + 2 * s.tu.stepDom + 1) s = (applyStep n off 2 s, .ok) := by
  have frac : (s.tu.stepFrac * 65536 + 2 * s.tu.stepDom + 1) / 65536 = s.tu.stepFrac := by omega
  have go : (s.tu.stepFrac * 65536 + 2 * s.tu.stepDom + 1).testBit 0 = true := by
    rw [Nat.testBit_zero]
    exact decide_eq_true (by omega)
  have domain : (s.tu.stepFrac * 65536 + 2 * s.tu.stepDom + 1).testBit 1 = decide (s.tu.stepDom = 1) := by
    rw [Nat.testBit_succ, Nat.testBit_zero]
    exact decide_eq_decide.mpr (by omega)
  have held : b2n (decide (s.tu.stepDom = 1)) = s.tu.stepDom := by
    obtain h | h : s.tu.stepDom = 0 ∨ s.tu.stepDom = 1 := by omega
    · rw [h]; rfl
    · rw [h]; rfl
  have which : (if decide (s.tu.stepDom = 1) then 3 else 1) = n := by simp [hn]
  have put : { s with tu := { s.tu with stepFrac := s.tu.stepFrac, stepDom := s.tu.stepDom } } = s := rfl
  rw [tbWrite_stepCtl, tbStepCtl]
  simp only [frac, go, domain, held, which, ← hf, ho, put, Bool.not_true, Bool.false_eq_true, if_false]

/-- The register at offset `o` of domain `n`. -/
theorem tbDom_register (n o : Nat) (ho : o < 0x40) : tbDom (0x10100 + o + 0x40 * n) = (n, o) := by
  refine Prod.ext ?_ ?_
  · exact (by omega : (0x10100 + o + 0x40 * n - 0x10100) / 0x40 = n)
  · exact (by omega : (0x10100 + o + 0x40 * n - 0x10100) % 0x40 = o)

/-- The address of a domain's register is that of no register of the block's head. -/
theorem tbWrite_count (n v : Nat) (s : State) (hn : n < 4) : tbWrite (0x10110 + 0x40 * n) v s = tbCount n v s := by
  have at_ : tbDom (0x10110 + 0x40 * n) = (n, 0x10) := tbDom_register n 0x10 (by decide)
  unfold tbWrite
  rw [if_neg (by omega), if_neg (by omega), if_neg (by omega), if_neg (by omega), if_neg (by omega), if_neg (by omega),
    if_neg (by omega), if_pos (by omega), at_]
  rfl

theorem tbWrite_hi (n v : Nat) (slew : Bool) (s : State) (hn : n < 4) :
    tbWrite (0x10104 + 8 * b2n slew + 0x40 * n) v s = tbHi n slew v s := by
  have hb : b2n slew = 0 ∨ b2n slew = 1 := by cases slew <;> simp [b2n]
  have at_ : tbDom (0x10104 + 8 * b2n slew + 0x40 * n) = (n, 4 + 8 * b2n slew) := by
    rw [← tbDom_register n (4 + 8 * b2n slew) (by omega), ← Nat.add_assoc]
  unfold tbWrite
  rw [if_neg (by omega), if_neg (by omega), if_neg (by omega), if_neg (by omega), if_neg (by omega), if_neg (by omega),
    if_neg (by omega), if_pos (by omega), at_]
  cases slew <;> rfl

theorem tbCount_of_ok (n v : Nat) (s : State) (h : domWrite s n true = .ok) :
    tbCount n v s = (if n = 0 then s else startSlew n (dom s n).slew v s, .ok) := by
  simp only [tbCount, h]
  split <;> rfl

theorem tbHi_inc_of_ok (n v inc : Nat) (s : State) (h : domWrite s n false = .ok)
    (he : v % 65536 * 2 ^ 32 + (dom s n).incLo = inc) (hi : incOk (incPpm n) inc = true) :
    tbHi n false v s = (setInc n inc s, .ok) := by
  unfold tbHi
  simp only [h, Bool.false_eq_true, if_false, and_false, he, hi, Bool.not_true]

theorem tbHi_slew_of_ok (n v inc : Nat) (s : State) (h : domWrite s n true = .ok)
    (he : v % 65536 * 2 ^ 32 + (dom s n).slewLo = inc) (hi : incOk (incPpm n) inc = true) :
    tbHi n true v s = (if n = 0 then s else updDom n (fun d => { d with slew := inc, slewLo := inc % 2 ^ 32 }) s, .ok) := by
  unfold tbHi
  simp only [h, if_true, and_true, he, hi, Bool.not_true, Bool.false_eq_true, if_false]
  split <;> rfl

theorem hi_word_kept (v : Nat) : v % 2 ^ 32 % 65536 = v % 65536 := Nat.mod_mod_of_dvd v (by decide)

/-- A served write to one word: the write, and its status. -/
theorem execWrite_served (r : Req) (f : State → State × Status) (s t : State) (h : Served r 0x0011 s) (hf : f s = (t, .ok)) :
    Host.Outcome.next (serveWrite r s f) = (.next (answerWrite r .ok t) : Res) := by
  rw [serveWrite_served r s f h, hf]

theorem execTbSlewCountWrite_completes (r : Req) (domain count : Nat) (s : State) (h : Served r 0x0011 s) (hd : domain < 4)
    (ho : domWrite s domain true = .ok) :
    execTbSlewCountWrite r domain count s = .next (answerWrite r .ok
      (if domain = 0 then s else startSlew domain (dom s domain).slew (count % 2 ^ 32) s)) := by
  rw [execTbSlewCountWrite, if_neg (by omega)]
  exact execWrite_served r _ s _ h ((tbWrite_count domain _ s hd).trans (tbCount_of_ok domain _ s ho))

theorem execTbIncHiWrite_inc (r : Req) (domain hi inc : Nat) (s : State) (h : Served r 0x0011 s) (hd : domain < 4)
    (ho : domWrite s domain false = .ok) (he : inc = (hi % 65536) * 2 ^ 32 + (dom s domain).incLo)
    (hi' : incOk (incPpm domain) inc = true) :
    execTbIncHiWrite r domain false hi s = .next (answerWrite r .ok (setInc domain inc s)) := by
  rw [execTbIncHiWrite, if_neg (by omega)]
  exact execWrite_served r _ s _ h ((tbWrite_hi domain _ false s hd).trans
    (tbHi_inc_of_ok domain _ inc s ho (by rw [hi_word_kept, ← he]) hi'))

theorem execTbIncHiWrite_slew (r : Req) (domain hi inc : Nat) (s : State) (h : Served r 0x0011 s) (hd : domain < 4)
    (ho : domWrite s domain true = .ok) (he : inc = (hi % 65536) * 2 ^ 32 + (dom s domain).slewLo)
    (hi' : incOk (incPpm domain) inc = true) :
    execTbIncHiWrite r domain true hi s = .next (answerWrite r .ok
      (if domain = 0 then s else updDom domain (fun d => { d with slew := inc, slewLo := inc % 2 ^ 32 }) s)) := by
  rw [execTbIncHiWrite, if_neg (by omega)]
  exact execWrite_served r _ s _ h ((tbWrite_hi domain _ true s hd).trans
    (tbHi_slew_of_ok domain _ inc s ho (by rw [hi_word_kept, ← he]) hi'))

/-- Settles O28, command by command and register by register. -/
theorem hostTimeCommandsComplete : Obligations.HostTimeCommandsComplete :=
  ⟨execTbRead_completes, execTbSetInc_completes, execTbSlew_completes, execTbStep_completes,
    fun r s h => ⟨execWrite_served r _ s _ h (tbWrite_kick s), execWrite_served r _ s _ h (tbWrite_capture s),
      execWrite_served r _ s _ h (tbWrite_kickExpired s)⟩,
    fun r n off s h hd hn hf ho => execWrite_served r _ s _ h (tbWrite_stepGo n off s hd hn hf ho),
    execTbSlewCountWrite_completes, execTbIncHiWrite_inc, execTbIncHiWrite_slew⟩

end Sys2Proof.Machine
end

section
/-! PROOFS. The time sources (R132 to R138, R141): what the servo and the choice of a source leave of the capture queue and of the
sources' records, then the rows of the PTP ports, PPS_IN and IRIG_IN. -/

namespace Sys2Proof.Machine
open Sys2Proof

/-! The capture queue and the sources' records, as the operations of the servo leave them. -/

/-- The capture queue and the sources' records. -/
def sourceRegs (s : State) : List CapEntry × List Source := (s.tu.capQ, s.tu.src)

theorem sourceRegs_of_tu {s t : State} (h : t.tu = s.tu) : sourceRegs t = sourceRegs s := by rw [sourceRegs, sourceRegs, h]

theorem sourceRegs_of_only {ps : List Part} {s t : State} (h : Only ps s t) (k : Part.tu ∉ ps) : sourceRegs t = sourceRegs s :=
  sourceRegs_of_tu (h.same .tu k)

theorem submit_sourceRegs (b : Block) (c v : Nat) (s : State) : sourceRegs (submit b c v s) = sourceRegs s :=
  sourceRegs_of_tu (submit_tu b c v s)

theorem noteSync_sourceRegs (s : State) : sourceRegs (noteSync s) = sourceRegs s := by
  obtain ⟨h, hs⟩ := noteSync_eq s
  rw [hs]
  rfl

theorem saveIncs_sourceRegs (s : State) : sourceRegs (saveIncs s) = sourceRegs s := by
  unfold saveIncs
  split <;> rfl

theorem noteYear_sourceRegs (s : State) : sourceRegs (noteYear s) = sourceRegs s := by
  unfold noteYear
  split <;> rfl

theorem setRole_sourceRegs (port role : Nat) (s : State) : sourceRegs (setRole port role s) = sourceRegs s := by
  unfold setRole
  split
  · rfl
  · exact submit_sourceRegs _ _ _ _

theorem checkRoles_sourceRegs (s : State) : sourceRegs (checkRoles s) = sourceRegs s := by
  refine foldl_keeps sourceRegs _ [0, 1] s fun s p => ?_
  split
  · exact setRole_sourceRegs p 0 s
  · rfl

theorem armImage_sourceRegs (s : State) : sourceRegs (armImage s) = sourceRegs s := by
  refine foldl_keeps sourceRegs _ (List.range 64) s fun s e => ?_
  split
  · rfl
  · dsimp only
    split
    · exact submit_sourceRegs _ _ _ s
    · rfl

theorem leaveNever_sourceRegs (was : TQState) (s : State) : sourceRegs (leaveNever was s) = sourceRegs s := by
  unfold leaveNever
  split
  · exact armImage_sourceRegs _
  · rfl

theorem updDom_sourceRegs (n : Nat) (f : Domain → Domain) (s : State) : sourceRegs (updDom n f s) = sourceRegs s := by
  unfold updDom
  split <;> rfl

theorem sourceRegs_ite {s a b : State} (c : Prop) [Decidable c] (ha : sourceRegs a = sourceRegs s)
    (hb : sourceRegs b = sourceRegs s) : sourceRegs (if c then a else b) = sourceRegs s := by
  split
  · exact ha
  · exact hb

theorem setQual_sourceRegs (q : TQState) (c : Nat) (tell : Bool) (s : State) :
    sourceRegs (setQual q c tell s) = sourceRegs s := by
  have set1 := updDom_sourceRegs 1 (fun d => { d with qst := q, cls := c }) s
  have set2 := sourceRegs_ite (td2Follows (updDom 1 (fun d => { d with qst := q, cls := c }) s))
    ((updDom_sourceRegs 2 (fun d => { d with qst := q, cls := c }) _).trans set1) set1
  unfold setQual
  rw [checkRoles_sourceRegs, noteSync_sourceRegs]
  exact sourceRegs_ite _ ((submit_sourceRegs _ _ _ _).trans (sourceRegs_ite _ set2 set2)) (sourceRegs_ite _ set2 set2)

theorem launchesAcross_sourceRegs (old new : Nat) (s : State) : sourceRegs (launchesAcross old new s) = sourceRegs s := by
  have told := fun v n next a => sourceRegs_of_only (submitParts_only .time 0x1009 v [skipPart n next 1] a) (by decide)
  have moved := fun e f a => (rfl : sourceRegs (updLaunch e f a) = sourceRegs a)
  refine foldl_keeps sourceRegs _ _ s fun s x => ?_
  refine sourceRegs_ite _ (sourceRegs_ite _ ((told _ _ _ _).trans (moved _ _ _)) rfl) ?_
  exact sourceRegs_ite _ ((told _ _ _ _).trans (moved _ _ _)) (moved _ _ _)

theorem gridStep_sourceRegs (first : Bool) (off : Int) (s : State) : sourceRegs (gridStep first off s) = sourceRegs s := by
  unfold gridStep gridCheck
  dsimp only
  split
  · rw [sourceRegs_of_only (fireDet_only _ _ _ _) (by decide)]
    rfl
  · rfl

theorem applyStep_sourceRegs (n : Nat) (off : Int) (cause : Nat) (s : State) :
    sourceRegs (applyStep n off cause s) = sourceRegs s := by
  have moved := fun f l => (sourceRegs_of_only (fireDetOnceP_only 0x06 n l (updDom n f s)) (by decide)).trans
    (updDom_sourceRegs n f s)
  unfold applyStep
  split
  · rw [noteSync_sourceRegs, gridStep_sourceRegs, launchesAcross_sourceRegs,
      sourceRegs_of_only (recFlags_only _ _) (by decide), sourceRegs_of_only (recMark_only _ _ _ _) (by decide)]
    split
    · exact moved _ _
    · exact moved _ _
  · exact moved _ _

theorem startSlew_sourceRegs (n inc count : Nat) (s : State) : sourceRegs (startSlew n inc count s) = sourceRegs s :=
  sourceRegs_ite _ ((updDom_sourceRegs 2 _ _).trans (updDom_sourceRegs n _ s)) (updDom_sourceRegs n _ s)

theorem removeOffset_sourceRegs (off : Int) (s : State) : sourceRegs (removeOffset off s).1 = sourceRegs s := by
  unfold removeOffset
  split
  · exact applyStep_sourceRegs _ _ _ s
  · split
    · rfl
    · exact startSlew_sourceRegs _ _ _ s

theorem tellLocked_sourceRegs (was : TQState) (v : Nat) (s : State) : sourceRegs (tellLocked was v s) = sourceRegs s := by
  refine sourceRegs_ite _ rfl ((submit_sourceRegs _ _ _ _).trans (sourceRegs_ite _ rfl ?_))
  exact sourceRegs_of_only (clearDetAll_only 0x05 s) (by decide)

/-! A source's record. -/

theorem srcOf_of_src {s t : State} (h : t.tu.src = s.tu.src) (k : Nat) : srcOf t k = srcOf s k := by rw [srcOf, h, srcOf]

theorem srcOf_updSrc (k : Nat) (f : Source → Source) (s : State) (h : k - 1 < 4) : srcOf (updSrc k f s) k = f (srcOf s k) :=
  putAt_getD_same 4 s.tu.src (k - 1) _ default h

theorem updSrc_capQ (k : Nat) (f : Source → Source) (s : State) : (updSrc k f s).tu.capQ = s.tu.capQ := rfl

/-- A source's record but for the instant of the last servo update taken from it. -/
def seen (x : Source) : Source := { x with lastUpd := 0 }

/-- The capture queue is the same, and every source's record but for the instant of its last update. -/
def SameSources (s t : State) : Prop := t.tu.capQ = s.tu.capQ ∧ ∀ k, seen (srcOf t k) = seen (srcOf s k)

theorem SameSources.of_regs {s t : State} (h : sourceRegs t = sourceRegs s) : SameSources s t :=
  ⟨congrArg Prod.fst h, fun k => congrArg seen (srcOf_of_src (congrArg Prod.snd h) k)⟩

theorem SameSources.trans {a b c : State} (h : SameSources a b) (k : SameSources b c) : SameSources a c :=
  ⟨k.1.trans h.1, fun j => (k.2 j).trans (h.2 j)⟩

theorem SameSources.of_lastUpd (k n : Nat) (s : State) : SameSources s (updSrc k (fun x => { x with lastUpd := n }) s) := by
  refine ⟨rfl, fun j => ?_⟩
  by_cases hj : j - 1 = k - 1
  · by_cases h4 : k - 1 < 4
    · have same : ∀ t, srcOf t j = srcOf t k := fun t => by rw [srcOf, srcOf, hj]
      rw [same, same, srcOf_updSrc k _ s h4]
      rfl
    · exact congrArg seen (srcOf_of_src (if_neg h4) j)
  · exact congrArg seen (putAt_getD_ne 4 s.tu.src (k - 1) (j - 1) _ hj)

theorem lockTd1_sameSources (k c : Nat) (s : State) : SameSources s (lockTd1 k c s) := by
  refine (SameSources.of_lastUpd k (td0 s) s).trans (SameSources.of_regs ?_)
  unfold lockTd1
  rw [noteYear_sourceRegs, saveIncs_sourceRegs, setQual_sourceRegs]
  rfl

theorem servoUpdate_sameSources (off : Int) (s : State) : SameSources s (servoUpdate off s) := by
  have removed := SameSources.of_regs (removeOffset_sourceRegs off s)
  have locked := lockTd1_sameSources s.tu.active (updateClass off s) (removeOffset off s).1
  rw [servoUpdate_eq]
  exact removed.trans (locked.trans (SameSources.of_regs ((leaveNever_sourceRegs _ _).trans (tellLocked_sourceRegs _ _ _))))

theorem enterGlide_sourceRegs (k : Nat) (s : State) : sourceRegs (enterGlide k s) = sourceRegs s := by
  have fired := sourceRegs_of_only (fireDet_only 0x05 0 k s) (by decide)
  exact sourceRegs_ite _ ((setQual_sourceRegs _ _ _ _).trans fired) fired

theorem enterGlide_only (k : Nat) (s : State) : Only [.tu, .evr, .hlt] s (enterGlide k s) := by
  have fired := (fireDet_only 0x05 0 k s).mono (qs := [.tu, .evr, .hlt]) (by decide)
  exact Only.trans_ite _ fired ((setQual_only _ _ _ _).mono (by decide))

/-- The servo moves to the source `new`, or, without one, TD1 into glide (R141, R146). -/
def moveSource (old new : Nat) (off : Int) (s : State) : State :=
  if new = 0 then checkRoles (enterGlide old s)
  else checkRoles (servoUpdate off (if old = 0 then s else submit .time 0x1003 (16 * old + new) s))

theorem moveSource_sameSources (old new : Nat) (off : Int) (s : State) : SameSources s (moveSource old new off s) := by
  unfold moveSource
  split
  · exact SameSources.of_regs ((checkRoles_sourceRegs _).trans (enterGlide_sourceRegs old s))
  · have told := SameSources.of_regs (sourceRegs_ite (old = 0) rfl (submit_sourceRegs .time 0x1003 (16 * old + new) s))
    exact told.trans ((servoUpdate_sameSources off _).trans (SameSources.of_regs (checkRoles_sourceRegs _)))

theorem moveSource_only (old new : Nat) (off : Int) (s : State) : Only [.tu, .evr, .hlt, .dr] s (moveSource old new off s) := by
  have roles := fun s => (checkRoles_only s).mono (qs := [.tu, .evr, .hlt, .dr]) (by decide)
  unfold moveSource
  split
  · exact ((enterGlide_only old s).mono (by decide)).trans (roles _)
  · have told := Only.ite (old = 0) (Only.refl [.tu, .evr, .hlt, .dr] s)
      ((submit_only .time 0x1003 (16 * old + new) s).of_evr (by decide))
    exact (told.trans (servoUpdate_only off _)).trans (roles _)

/-- The servo's choice of the source `new`. -/
def chooseSource (new : Nat) (off : Int) (s : State) : State :=
  if new = s.tu.active then s
  else moveSource s.tu.active new off { s with tu := { s.tu with
    active := new, lastSrc := if new = 0 then s.tu.active else new } }

/-- Under an external owner nothing is chosen; otherwise some source is, or none (`new = 0`). -/
theorem selectSource_cases (off : Int) (s : State) :
    selectSource off s = s ∨ ∃ new, selectSource off s = chooseSource new off s := by
  unfold selectSource
  by_cases hi : servoInternal s = true
  · rw [if_neg (by simp [hi])]
    exact .inr ⟨_, rfl⟩
  · exact .inl (if_pos (by simp [hi]))

theorem chooseSource_sameSources (new : Nat) (off : Int) (s : State) : SameSources s (chooseSource new off s) := by
  unfold chooseSource
  split
  · exact SameSources.of_regs rfl
  · have named : SameSources s { s with tu := { s.tu with
        active := new, lastSrc := if new = 0 then s.tu.active else new } } := SameSources.of_regs rfl
    exact named.trans (moveSource_sameSources _ _ _ _)

theorem selectSource_sameSources (off : Int) (s : State) : SameSources s (selectSource off s) := by
  obtain h | ⟨new, h⟩ := selectSource_cases off s
  · rw [h]
    exact SameSources.of_regs rfl
  · rw [h]
    exact chooseSource_sameSources new off s

theorem selectSource_only (off : Int) (s : State) : Only [.tu, .evr, .hlt, .dr] s (selectSource off s) := by
  obtain h | ⟨new, h⟩ := selectSource_cases off s
  · rw [h]
    exact Only.refl _ s
  · rw [h]
    exact Only.ite _ (Only.refl _ s) (((State.with_tu_only s _).of_tu (by decide)).trans (moveSource_only _ _ _ _))

/-! A good message and a loss (R141). -/

/-- A source's record after a good message, edge or frame of which `need` in succession qualify. -/
def goodOnce (need : Nat) (x : Source) : Source :=
  { x with present := true, good := x.good + 1, bad := 0, qualified := x.qualified || decide (need ≤ x.good + 1) }

/-- A source's record after its loss. -/
def lostOnce (present : Bool) (x : Source) : Source :=
  { x with present := present, qualified := false, good := 0, bad := 0 }

theorem srcGood_only (k need : Nat) (off : Int) (s : State) : Only [.tu, .evr, .hlt, .dr] s (srcGood k need off s) := by
  have counted := fun f s => (updSrc_only k f s).of_tu (ps := [.tu, .evr, .hlt, .dr]) (by decide)
  exact Only.trans_ite _ (counted _ s) ((counted _ _).trans (selectSource_only off _))

theorem srcLost_only (k : Nat) (present : Bool) (s : State) : Only [.tu, .evr, .hlt, .dr] s (srcLost k present s) :=
  ((updSrc_only k _ s).of_tu (by decide)).trans (selectSource_only 0 _)

theorem srcGood_source (k need : Nat) (off : Int) (s : State) (h : k - 1 < 4) :
    (srcGood k need off s).tu.capQ = s.tu.capQ ∧ seen (srcOf (srcGood k need off s) k) = seen (goodOnce need (srcOf s k)) := by
  have counted := srcOf_updSrc k (fun x => { x with present := true, good := x.good + 1, bad := 0 }) s h
  unfold srcGood
  dsimp only
  split
  next hq =>
    obtain ⟨queue, record⟩ := selectSource_sameSources off (updSrc k (fun x => { x with qualified := true })
      (updSrc k (fun x => { x with present := true, good := x.good + 1, bad := 0 }) s))
    rw [counted] at hq
    refine ⟨queue, (record k).trans ?_⟩
    rw [srcOf_updSrc k _ _ h, counted, goodOnce, decide_eq_true hq.1, Bool.or_true]
  next hq =>
    rw [counted] at hq ⊢
    refine ⟨rfl, congrArg seen ?_⟩
    have asBefore : ((srcOf s k).qualified || decide (need ≤ (srcOf s k).good + 1)) = (srcOf s k).qualified := by
      cases hb : (srcOf s k).qualified
      · simpa [hb] using hq
      · rfl
    rw [goodOnce, asBefore]

theorem srcLost_source (k : Nat) (present : Bool) (s : State) (h : k - 1 < 4) :
    (srcLost k present s).tu.capQ = s.tu.capQ ∧ seen (srcOf (srcLost k present s) k) = seen (lostOnce present (srcOf s k)) := by
  obtain ⟨queue, record⟩ := selectSource_sameSources 0 (updSrc k (lostOnce present) s)
  exact ⟨queue, (record k).trans (congrArg seen (srcOf_updSrc k _ s h))⟩

/-! A capture (R132, R133). -/

/-- The entry of a capture, `half` half nanoseconds into the tick. -/
def capEntry (source msgType seq half : Nat) (portId : List Byte) (s : State) : CapEntry :=
  ⟨source, msgType, seq, portId, s.tu.d0.t + half % 8 * 2 ^ 39, s.tu.d1.t + half % 8 * 2 ^ 39,
    s.tu.d2.t + half % 8 * 2 ^ 39, s.tu.d3.t + half % 8 * 2 ^ 39⟩

theorem capture_with_room (source msgType seq half : Nat) (portId : List Byte) (s : State) (h : s.tu.capQ.length < 64) :
    capture source msgType seq half portId s =
      { s with tu := { s.tu with capQ := s.tu.capQ ++ [capEntry source msgType seq half portId s] } } :=
  if_neg (by omega)

theorem capture_only (source msgType seq half : Nat) (portId : List Byte) (s : State) :
    Only [.tu, .evr] s (capture source msgType seq half portId s) := by
  have tu := fun v => (State.with_tu_only s v).of_tu (ps := [.tu, .evr]) (by decide)
  refine Only.ite _ (Only.ite _ (tu _) ?_) (tu _)
  exact ((State.with_tu_only _ _).trans (State.with_tu_only _ _)).seq (submit_only _ _ _ _)

/-- A capture enters the queue while it has room and leaves the sources' records. -/
theorem capture_sourceRegs (source msgType seq half : Nat) (portId : List Byte) (s : State) :
    sourceRegs (capture source msgType seq half portId s) =
      (if s.tu.capQ.length < 64 then s.tu.capQ ++ [capEntry source msgType seq half portId s] else s.tu.capQ, s.tu.src) := by
  by_cases h : s.tu.capQ.length < 64
  · rw [capture_with_room _ _ _ _ _ _ h, if_pos h]
    rfl
  · rw [capture, if_pos (by omega), if_neg h]
    dsimp only
    split
    · rfl
    · exact submit_sourceRegs _ _ _ _

end Sys2Proof.Machine
end

section
/-! PROOFS. The rows of the PTP ports, PPS_IN and IRIG_IN (R132 to R138, R141). -/

namespace Sys2Proof.Machine
open Sys2Proof

theorem takeUtc_tu (u : Option (Int × Nat)) (s : State) : Only [.tu] s (takeUtc u s) := by
  unfold takeUtc
  split
  · exact Only.refl _ s
  · exact Only.ite _ (State.with_tu_only s _) (Only.refl _ s)

theorem takeUtc_sourceRegs (u : Option (Int × Nat)) (s : State) : sourceRegs (takeUtc u s) = sourceRegs s := by
  unfold takeUtc
  split
  · rfl
  · split <;> rfl

/-! What lets a port be master (R135, R136). -/

theorem pv_of_img {s t : State} (h : t.img = s.img) (pid index off n dflt : Nat) :
    pv t pid index off n dflt = pv s pid index off n dflt := by
  rw [pv, prm, params, h]
  rfl

/-- The image in service, the source whose time TD1 holds and TD1's record. -/
def masterRegs (s : State) : Images × Nat × Nat × Domain := (s.img, s.tu.active, s.tu.lastSrc, s.tu.d1)

theorem masterOk_of_regs {s t : State} (h : masterRegs t = masterRegs s) (port : Nat) : masterOk t port = masterOk s port := by
  obtain ⟨img, active, last, d1⟩ : t.img = s.img ∧ t.tu.active = s.tu.active ∧ t.tu.lastSrc = s.tu.lastSrc ∧
      t.tu.d1 = s.tu.d1 := by
    simpa only [masterRegs, Prod.mk.injEq] using h
  rw [masterOk, masterOk, pv_of_img img, heldSource, heldSource, active, last, d1]

theorem takeUtc_masterRegs (u : Option (Int × Nat)) (s : State) : masterRegs (takeUtc u s) = masterRegs s := by
  unfold takeUtc
  split
  · rfl
  · split <;> rfl

theorem setRole_role (port role : Nat) (s : State) (h : port < 2) : (setRole port role s).tu.ptpRole.getD port 0 = role := by
  unfold setRole
  split
  next hr => exact hr
  next =>
    rw [submit_tu]
    exact putAt_getD_same 2 _ port role 0 h

/-! A PTP message arrives (R134, R135, R141). -/

theorem ptpPass_only (port : Nat) (m : PtpMsg) (half : Nat) (s : State) : Only [.tu, .net] s (ptpPass port m half s) :=
  Only.ite _ ((freshNat_only s).seq (sendFrame_only _ _ _ _ _ _)) (Only.refl _ s)

/-- To pass a message on draws a number for its residence time. -/
theorem ptpPass_tu (port : Nat) (m : PtpMsg) (half : Nat) (s : State) :
    ∃ n, (ptpPass port m half s).tu = { s.tu with fresh := n } := by
  unfold ptpPass
  split
  · exact ⟨_, (sendFrame_only _ _ _ _ _ (freshNat s).2).same .tu (by decide)⟩
  · exact ⟨s.tu.fresh, rfl⟩

theorem ptpPass_sourceRegs (port : Nat) (m : PtpMsg) (half : Nat) (s : State) :
    sourceRegs (ptpPass port m half s) = sourceRegs s := by
  obtain ⟨n, h⟩ := ptpPass_tu port m half s
  rw [sourceRegs, h, sourceRegs]

theorem ptpPass_masterRegs (port : Nat) (m : PtpMsg) (half : Nat) (s : State) :
    masterRegs (ptpPass port m half s) = masterRegs s := by
  obtain ⟨n, h⟩ := ptpPass_tu port m half s
  have img : (ptpPass port m half s).img = s.img := (ptpPass_only port m half s).same .img (by decide)
  rw [masterRegs, h, img, masterRegs]

theorem ptpPass_capEntry (port : Nat) (m : PtpMsg) (half source msgType seq : Nat) (portId : List Byte) (s : State) :
    capEntry source msgType seq half portId (ptpPass port m half s) = capEntry source msgType seq half portId s := by
  obtain ⟨n, h⟩ := ptpPass_tu port m half s
  rw [capEntry, h, capEntry]

/-- Sync, peer delay and Follow_Up messages are captured (R132). -/
abbrev isCaptured (msgType : Nat) : Bool := [0x0, 0x2, 0x3, 0x8].contains msgType

/-- A message of the engine's domain as every port takes it: passed on, captured, the peer delay made valid. -/
def ptpHeard (port : Nat) (m : PtpMsg) (half : Nat) (portId : List Byte) (s : State) : State :=
  let s := ptpPass port m half s
  let s := if isCaptured m.msgType then capture (port + 1) m.msgType m.seq half portId s else s
  if m.msgType = 0x3 ∨ m.msgType = 0xA then updSrc (port + 1) (fun x => { x with peerDelay := true }) s else s

/-- A Sync is noted: another grandmaster is the loss of the one before (R141). -/
def syncNoted (k gm : Nat) (missing : Bool) (s : State) : State :=
  let s := if (srcOf s k).gm ≠ gm ∧ (srcOf s k).present then srcLost k true s else s
  updSrc k (fun x => { x with
    gm := gm, good := if missing || !x.peerDelay then 0 else x.good, last := td1 s, sync := td0 s
    syncInt := if x.sync = 0 || missing then x.syncInt else td0 s - x.sync }) s

/-- What a Sync does further (R141). -/
def syncTaken (k gm : Nat) (missing : Bool) (offset : Int) (s : State) : State :=
  let s := syncNoted k gm missing s
  if (srcOf s k).peerDelay then srcGood k 4 offset s else updSrc k (fun x => { x with present := true }) s

/-- What an Announce does before the port's role is set (R136, R141, R145). -/
def announceNoted (k : Nat) (utc : Option (Int × Nat)) (s : State) : State :=
  let s := updSrc k (fun x => { x with
    announce := td0 s, present := true, annInt := if x.announce = 0 then 0 else td0 s - x.announce }) s
  if s.tu.active = k ∨ s.tu.active = 0 then takeUtc utc s else s

/-- What an Announce does further. -/
def announceTaken (port role : Nat) (utc : Option (Int × Nat)) (s : State) : State :=
  let s := announceNoted (port + 1) utc s
  setRole port (if role = 1 ∧ !masterOk s port then 0 else role % 3) s

theorem execPtpMessageRx_of_domain (port m seq gm role half : Nat) (portId : List Byte) (missing : Bool) (offset : Int)
    (utc : Option (Int × Nat)) (s : State) (hp : port < 2) (ho : portOn s port = true) (hs : s.pw.phase ≠ .off)
    (hm : m ≠ 0xD) :
    execPtpMessageRx port ⟨m, seq, pv s 0x0A07 0 0 1 0⟩ half portId gm missing offset role utc s =
      .next (if m = 0x0 then
          syncTaken (port + 1) gm missing offset (ptpHeard port ⟨m, seq, pv s 0x0A07 0 0 1 0⟩ half portId s)
        else if m = 0xB then announceTaken port role utc (ptpHeard port ⟨m, seq, pv s 0x0A07 0 0 1 0⟩ half portId s)
        else ptpHeard port ⟨m, seq, pv s 0x0A07 0 0 1 0⟩ half portId s) := by
  rw [execPtpMessageRx, if_neg (by simp [ho, hs, hm]; omega), if_neg (by simp)]
  dsimp only
  split
  · rfl
  · rfl
  next h0 hB =>
    rw [if_neg h0, if_neg hB]
    rfl

theorem execPtpMessageRx_of_other_domain (port m seq gm role dom half : Nat) (portId : List Byte) (missing : Bool) (offset : Int)
    (utc : Option (Int × Nat)) (s : State) (hp : port < 2) (ho : portOn s port = true) (hs : s.pw.phase ≠ .off)
    (hm : m ≠ 0xD)
    (hd : dom ≠ pv s 0x0A07 0 0 1 0) :
    execPtpMessageRx port ⟨m, seq, dom⟩ half portId gm missing offset role utc s =
      .next (ptpPass port ⟨m, seq, dom⟩ half s) := by
  rw [execPtpMessageRx, if_neg (by simp [ho, hs, hm]; omega), if_pos (by simp [hd])]

theorem ptpHeard_only (port : Nat) (m : PtpMsg) (half : Nat) (portId : List Byte) (s : State) :
    Only [.tu, .evr, .net] s (ptpHeard port m half portId s) := by
  have passed := (ptpPass_only port m half s).mono (qs := [.tu, .evr, .net]) (by decide)
  have captured := Only.trans_ite (isCaptured m.msgType) passed
    ((capture_only (port + 1) m.msgType m.seq half portId _).mono (by decide))
  exact Only.trans_ite _ captured ((updSrc_only _ _ _).of_tu (by decide))

theorem ptpHeard_capQ (port : Nat) (m : PtpMsg) (half : Nat) (portId : List Byte) (s : State) :
    (ptpHeard port m half portId s).tu.capQ = if isCaptured m.msgType && decide (s.tu.capQ.length < 64) then
      s.tu.capQ ++ [capEntry (port + 1) m.msgType m.seq half portId s] else s.tu.capQ := by
  have passed : (ptpPass port m half s).tu.capQ = s.tu.capQ := congrArg Prod.fst (ptpPass_sourceRegs port m half s)
  have captured : (if isCaptured m.msgType then capture (port + 1) m.msgType m.seq half portId (ptpPass port m half s)
      else ptpPass port m half s).tu.capQ = if isCaptured m.msgType && decide (s.tu.capQ.length < 64) then
        s.tu.capQ ++ [capEntry (port + 1) m.msgType m.seq half portId s] else s.tu.capQ := by
    cases isCaptured m.msgType with
    | true =>
      refine (congrArg Prod.fst (capture_sourceRegs _ _ _ _ _ _)).trans ?_
      rw [passed, ptpPass_capEntry]
      simp only [Bool.true_and, decide_eq_true_eq]
    | false => exact passed
  unfold ptpHeard
  dsimp only
  split
  · exact captured
  · exact captured

theorem ptpHeard_peerDelay (port : Nat) (m : PtpMsg) (half : Nat) (portId : List Byte) (s : State) (hp : port < 2)
    (hm : m.msgType = 0x3 ∨ m.msgType = 0xA) : (srcOf (ptpHeard port m half portId s) (port + 1)).peerDelay = true := by
  unfold ptpHeard
  rw [if_pos hm, srcOf_updSrc _ _ _ (by omega)]

theorem ptpHeard_announce (port : Nat) (m : PtpMsg) (half : Nat) (portId : List Byte) (s : State) (hm : m.msgType = 0xB) :
    masterRegs (ptpHeard port m half portId s) = masterRegs s := by
  unfold ptpHeard
  rw [hm]
  exact ptpPass_masterRegs port m half s

theorem syncNoted_only (k gm : Nat) (missing : Bool) (s : State) : Only [.tu, .evr, .hlt, .dr] s (syncNoted k gm missing s) := by
  have lost := Only.trans_ite ((srcOf s k).gm ≠ gm ∧ (srcOf s k).present) (Only.refl _ s) (srcLost_only k true s)
  exact lost.trans ((updSrc_only k _ _).of_tu (by decide))

theorem syncNoted_capQ (k gm : Nat) (missing : Bool) (s : State) (h : k - 1 < 4) :
    (syncNoted k gm missing s).tu.capQ = s.tu.capQ := by
  unfold syncNoted
  dsimp only
  rw [updSrc_capQ]
  split
  · exact (srcLost_source k true s h).1
  · rfl

theorem syncTaken_only (k gm : Nat) (missing : Bool) (offset : Int) (s : State) :
    Only [.tu, .evr, .hlt, .dr] s (syncTaken k gm missing offset s) :=
  (syncNoted_only k gm missing s).trans (Only.ite _ (srcGood_only k 4 offset _) ((updSrc_only k _ _).of_tu (by decide)))

theorem syncTaken_capQ (k gm : Nat) (missing : Bool) (offset : Int) (s : State) (h : k - 1 < 4) :
    (syncTaken k gm missing offset s).tu.capQ = s.tu.capQ := by
  refine Eq.trans ?_ (syncNoted_capQ k gm missing s h)
  unfold syncTaken
  dsimp only
  split
  · exact (srcGood_source k 4 offset _ h).1
  · rfl

theorem announceNoted_only (k : Nat) (utc : Option (Int × Nat)) (s : State) : Only [.tu] s (announceNoted k utc s) :=
  Only.trans_ite _ (updSrc_only k _ s) (takeUtc_tu utc _)

theorem announceNoted_capQ (k : Nat) (utc : Option (Int × Nat)) (s : State) : (announceNoted k utc s).tu.capQ = s.tu.capQ := by
  unfold announceNoted
  dsimp only
  split
  · exact congrArg Prod.fst (takeUtc_sourceRegs utc _)
  · rfl

theorem announceNoted_masterRegs (k : Nat) (utc : Option (Int × Nat)) (s : State) :
    masterRegs (announceNoted k utc s) = masterRegs s := by
  unfold announceNoted
  dsimp only
  split
  · exact takeUtc_masterRegs utc _
  · rfl

theorem announceTaken_only (port role : Nat) (utc : Option (Int × Nat)) (s : State) :
    Only [.tu, .evr] s (announceTaken port role utc s) :=
  ((announceNoted_only _ utc s).of_tu (by decide)).trans (setRole_only _ _ _)

theorem announceTaken_capQ (port role : Nat) (utc : Option (Int × Nat)) (s : State) :
    (announceTaken port role utc s).tu.capQ = s.tu.capQ :=
  (congrArg Prod.fst (setRole_sourceRegs _ _ _)).trans (announceNoted_capQ (port + 1) utc s)

/-- The port takes the role that the best master clock algorithm gives it; master only where it may be (R135, R136). -/
theorem announceTaken_role (port role : Nat) (utc : Option (Int × Nat)) (s : State) (hp : port < 2) (hr : role ≤ 2)
    (hm : role = 1 → masterOk s port = true) : (announceTaken port role utc s).tu.ptpRole.getD port 0 = role := by
  have may := masterOk_of_regs (announceNoted_masterRegs (port + 1) utc s) port
  unfold announceTaken
  rw [setRole_role _ _ _ hp, may, if_neg (by rintro ⟨h1, h2⟩; simp [hm h1] at h2), Nat.mod_eq_of_lt (by omega)]

theorem execPtpMessageRx_completes (port m seq gm role dom half h : Nat) (portId : List Byte) (missing : Bool) (offset : Int)
    (utc : Option (Int × Nat)) (s : State) (hp : port < 2) (ho : portOn s port = true) (hs : s.pw.phase ≠ .off)
    (hm : m ≠ 0xD)
    (hh : h = half % 8 * 2 ^ 39) :
    ∃ t, execPtpMessageRx port ⟨m, seq, dom⟩ half portId gm missing offset role utc s = .next t ∧
      Only [.tu, .evr, .hlt, .dr, .net] s t ∧
      (dom ≠ pv s 0x0A07 0 0 1 0 → t.tu.capQ = s.tu.capQ ∧ t.tu.src = s.tu.src ∧ t.tu.d1 = s.tu.d1) ∧
      (dom = pv s 0x0A07 0 0 1 0 →
        t.tu.capQ = (if [0x0, 0x2, 0x3, 0x8].contains m && decide (s.tu.capQ.length < 64) then s.tu.capQ ++
          [⟨port + 1, m, seq, portId, s.tu.d0.t + h, s.tu.d1.t + h, s.tu.d2.t + h, s.tu.d3.t + h⟩] else s.tu.capQ) ∧
        ((m = 0x3 ∨ m = 0xA) → (srcOf t (port + 1)).peerDelay = true) ∧
        (m = 0xB → role ≤ 2 → (role = 1 → masterOk s port = true) → t.tu.ptpRole.getD port 0 = role)) := by
  subst hh
  by_cases hd : dom = pv s 0x0A07 0 0 1 0
  · subst hd
    have heard := (ptpHeard_only port ⟨m, seq, pv s 0x0A07 0 0 1 0⟩ half portId s).mono
      (qs := [.tu, .evr, .hlt, .dr, .net]) (by decide)
    have queue := ptpHeard_capQ port ⟨m, seq, pv s 0x0A07 0 0 1 0⟩ half portId s
    refine ⟨_, execPtpMessageRx_of_domain port m seq gm role half portId missing offset utc s hp ho hs hm, ?_,
      fun h => absurd rfl h, fun _ => ?_⟩
    · exact Only.ite _ (heard.trans ((syncTaken_only _ _ _ _ _).mono (by decide)))
        (Only.ite _ (heard.trans ((announceTaken_only _ _ _ _).mono (by decide))) heard)
    · by_cases h0 : m = 0x0
      · rw [if_pos h0]
        exact ⟨(syncTaken_capQ _ _ _ _ _ (by omega)).trans queue, by omega, by omega⟩
      · rw [if_neg h0]
        by_cases hB : m = 0xB
        · rw [if_pos hB]
          refine ⟨(announceTaken_capQ _ _ _ _).trans queue, by omega,
            fun _ hr hk => announceTaken_role port role utc _ hp hr ?_⟩
          rw [masterOk_of_regs (ptpHeard_announce port _ half portId s hB) port]
          exact hk
        · rw [if_neg hB]
          exact ⟨queue, ptpHeard_peerDelay port ⟨m, seq, pv s 0x0A07 0 0 1 0⟩ half portId s hp, fun h => absurd h hB⟩
  · obtain ⟨n, time⟩ := ptpPass_tu port ⟨m, seq, dom⟩ half s
    refine ⟨_, execPtpMessageRx_of_other_domain port m seq gm role dom half portId missing offset utc s hp ho hs hm hd,
      (ptpPass_only _ _ _ s).mono (by decide), fun _ => ?_, fun h => absurd h hd⟩
    rw [time]
    exact ⟨rfl, rfl, rfl⟩

end Sys2Proof.Machine
end

section
/-! PROOFS. PTP messages sent, PPS_IN, IRIG_IN and the loss of a source (R132, R136 to R138, R141). -/

namespace Sys2Proof.Machine
open Sys2Proof

theorem execPtpMessageTx_completes (port m seq half h : Nat) (s : State) (hp : port < 2) (ho : portOn s port = true)
    (hs : s.pw.phase ≠ .off) (hm : m = 0x0 ∨ m = 0x2 ∨ m = 0x3 ∨ m = 0x8)
    (hr : m = 0x0 ∨ m = 0x8 → s.tu.ptpRole.getD port 0 = 1) (hf : m = 0x8 → pv s 0x0A09 0 0 1 0 ≠ 0)
    (hq : s.tu.capQ.length < 64) (hh : h = half % 8 * 2 ^ 39) :
    ∃ t, execPtpMessageTx port ⟨m, seq, pv s 0x0A07 0 0 1 0⟩ half s = .next t ∧ Only [.tu, .net] s t ∧
      t.tu.capQ = s.tu.capQ ++
        [⟨port + 1, 0x80 + m, seq, [], s.tu.d0.t + h, s.tu.d1.t + h, s.tu.d2.t + h, s.tu.d3.t + h⟩] := by
  subst hh
  have sent := sendFrame_only 1 (2 ^ port) ([m, seq, port] ++ ptpFields s port m) [td1 s] [] s
  have time : (sendFrame 1 (2 ^ port) ([m, seq, port] ++ ptpFields s port m) [td1 s] [] s).tu = s.tu := sent.same .tu (by decide)
  have isTaken : isCaptured m = true := by
    obtain rfl | rfl | rfl | rfl := hm <;> rfl
  have master : ¬([0x0, 0x8, 0xB].contains m = true ∧ s.tu.ptpRole.getD port 0 ≠ 1) := by
    rintro ⟨h1, h2⟩
    exact h2 (hr (by obtain rfl | rfl | rfl | rfl := hm <;> simp at h1 ⊢))
  have sends : execPtpMessageTx port ⟨m, seq, pv s 0x0A07 0 0 1 0⟩ half s = .next (capture (port + 1) (0x80 + m) seq half []
      (sendFrame 1 (2 ^ port) ([m, seq, port] ++ ptpFields s port m) [td1 s] [] s)) := by
    rw [execPtpMessageTx, if_neg (by simp [ho, hs]; omega), if_neg master, if_neg (by rintro ⟨h1, h2⟩; exact hf h1 h2)]
    exact congrArg Host.Outcome.next (if_pos isTaken)
  rw [capture_with_room _ _ _ _ _ _ (by rw [time]; exact hq)] at sends
  refine ⟨_, sends, (sent.seq (State.with_tu_only _ _)).mono (by decide), ?_⟩
  dsimp only
  rw [capEntry, time]

/-! PPS_IN (R138). -/

/-- A PPS_IN edge that is not good: a qualified source's next edge is expected where it was. -/
def ppsMissed (t : Nat) (x : Source) : Source :=
  { x with present := true, good := 0, bad := x.bad + 1, last := if x.qualified then x.last + secT 1 else t }

/-- A source that its `n`-th bad message, edge or frame in succession disqualifies. -/
def lostAfter (k n : Nat) (s : State) : State := if (srcOf s k).qualified ∧ n ≤ (srcOf s k).bad then srcLost k true s else s

theorem lostAfter_source (k n : Nat) (s : State) (h : k - 1 < 4) : (lostAfter k n s).tu.capQ = s.tu.capQ ∧
    seen (srcOf (lostAfter k n s) k) =
      seen (if (srcOf s k).qualified ∧ n ≤ (srcOf s k).bad then lostOnce true (srcOf s k) else srcOf s k) := by
  unfold lostAfter
  split
  · exact srcLost_source k true s h
  · exact ⟨rfl, rfl⟩

/-- After a bad one, whether it disqualifies or not. -/
theorem lostAfter_record (k n : Nat) (s : State) (h : k - 1 < 4) (hp : (srcOf s k).present = true) :
    (srcOf (lostAfter k n s) k).present = true ∧ ((srcOf s k).good = 0 → (srcOf (lostAfter k n s) k).good = 0) ∧
      (n ≤ (srcOf s k).bad → (srcOf (lostAfter k n s) k).qualified = false) := by
  obtain ⟨-, record⟩ := lostAfter_source k n s h
  have present := congrArg Source.present record
  have good := congrArg Source.good record
  have qualified := congrArg Source.qualified record
  dsimp only [seen] at present good qualified
  rw [present, good, qualified]
  split
  next => exact ⟨rfl, fun _ => rfl, fun _ => rfl⟩
  next hq => exact ⟨hp, id, fun hb => by simpa [hb] using hq⟩

/-- What a good one gives. -/
theorem srcGood_record (k need : Nat) (off : Int) (s : State) (h : k - 1 < 4) :
    (srcOf (srcGood k need off s) k).present = true ∧ (srcOf (srcGood k need off s) k).good = (srcOf s k).good + 1 ∧
      (srcOf (srcGood k need off s) k).bad = 0 ∧ (srcOf (srcGood k need off s) k).cls = (srcOf s k).cls ∧
      (need ≤ (srcOf s k).good + 1 → (srcOf (srcGood k need off s) k).qualified = true) := by
  obtain ⟨-, record⟩ := srcGood_source k need off s h
  have cls := congrArg Source.cls record
  refine ⟨congrArg Source.present record, congrArg Source.good record, congrArg Source.bad record, cls,
    fun hn => (congrArg Source.qualified record).trans ?_⟩
  simp [seen, goodOnce, hn]

/-- An edge 1 s after the previous one, of a TD1 set to the true second (R138). -/
def ppsEdgeGood (s : State) (t : Nat) (trueErr : Int) : Prop :=
  (srcOf s 3).present = true ∧ ((t : Int) - (((srcOf s 3).last + secT 1 : Nat) : Int)).natAbs ≤ usT 1 ∧
    (s.tu.d1.qst ≠ .never ∨ s.tu.stepped = true) ∧ trueErr.natAbs ≤ 400000000

theorem execPpsInEdge_good (half : Nat) (trueErr : Int) (s : State) (hs : s.pw.phase ≠ .off) (hq : s.tu.capQ.length < 64)
    (hg : ppsEdgeGood s (td1 s + half % 8 * 2 ^ 39) trueErr) :
    execPpsInEdge half trueErr s = .next (srcGood 3 3 (fromSecond (td1 s + half % 8 * 2 ^ 39))
      (updSrc 3 (fun x => { x with last := td1 s + half % 8 * 2 ^ 39 }) (capture 3 0 0 half [] s))) := by
  rw [execPpsInEdge, if_neg hs, capture_with_room _ _ _ _ _ _ hq]
  exact if_pos hg

theorem execPpsInEdge_bad (half : Nat) (trueErr : Int) (s : State) (hs : s.pw.phase ≠ .off) (hq : s.tu.capQ.length < 64)
    (hg : ¬ppsEdgeGood s (td1 s + half % 8 * 2 ^ 39) trueErr) :
    execPpsInEdge half trueErr s = .next (lostAfter 3 3
      (updSrc 3 (ppsMissed (td1 s + half % 8 * 2 ^ 39)) (capture 3 0 0 half [] s))) := by
  rw [execPpsInEdge, if_neg hs, capture_with_room _ _ _ _ _ _ hq]
  exact if_neg hg

theorem capture_srcOf (source msgType seq half : Nat) (portId : List Byte) (s : State) (k : Nat) :
    srcOf (capture source msgType seq half portId s) k = srcOf s k :=
  srcOf_of_src (congrArg Prod.snd (capture_sourceRegs source msgType seq half portId s)) k

theorem capture_capQ (source msgType seq half : Nat) (portId : List Byte) (s : State) (hq : s.tu.capQ.length < 64) :
    (capture source msgType seq half portId s).tu.capQ = s.tu.capQ ++ [capEntry source msgType seq half portId s] :=
  (congrArg Prod.fst (capture_sourceRegs source msgType seq half portId s)).trans (if_pos hq)

theorem execPpsInEdge_completes (half h : Nat) (trueErr : Int) (good : Bool) (s : State) (hs : s.pw.phase ≠ .off)
    (hq : s.tu.capQ.length < 64) (hh : h = half % 8 * 2 ^ 39)
    (hg : good = ((srcOf s 3).present &&
      decide ((((td1 s + h : Nat) : Int) - (((srcOf s 3).last + secT 1 : Nat) : Int)).natAbs ≤ usT 1) &&
      ((s.tu.d1.qst != .never || s.tu.stepped) && decide (trueErr.natAbs ≤ 400000000)))) :
    ∃ t, execPpsInEdge half trueErr s = .next t ∧
      t.tu.capQ = s.tu.capQ ++ [⟨3, 0, 0, [], s.tu.d0.t + h, s.tu.d1.t + h, s.tu.d2.t + h, s.tu.d3.t + h⟩] ∧
      (srcOf t 3).present = true ∧
      (good = true → (srcOf t 3).good = (srcOf s 3).good + 1 ∧ (srcOf t 3).bad = 0 ∧
        (2 ≤ (srcOf s 3).good → (srcOf t 3).qualified = true)) ∧
      (good = false → (srcOf t 3).good = 0 ∧ (2 ≤ (srcOf s 3).bad → (srcOf t 3).qualified = false)) := by
  subst hh
  have judged : good = true ↔ ppsEdgeGood s (td1 s + half % 8 * 2 ^ 39) trueErr := by
    rw [hg, ppsEdgeGood]
    simp only [Bool.and_eq_true, Bool.or_eq_true, decide_eq_true_eq, bne_iff_ne, and_assoc]
  have queue := capture_capQ 3 0 0 half [] s hq
  cases good with
  | true =>
    have before := srcOf_updSrc 3 (fun x => { x with last := td1 s + half % 8 * 2 ^ 39 }) (capture 3 0 0 half [] s) (by decide)
    rw [capture_srcOf] at before
    obtain ⟨present, counted, noBad, -, qualifies⟩ := srcGood_record 3 3 (fromSecond (td1 s + half % 8 * 2 ^ 39))
      (updSrc 3 (fun x => { x with last := td1 s + half % 8 * 2 ^ 39 }) (capture 3 0 0 half [] s)) (by decide)
    rw [before] at counted qualifies
    exact ⟨_, execPpsInEdge_good half trueErr s hs hq (judged.mp rfl), (srcGood_source 3 3 _ _ (by decide)).1.trans queue,
      present, fun _ => ⟨counted, noBad, fun h2 => qualifies (Nat.succ_le_succ h2)⟩, nofun⟩
  | false =>
    have before := srcOf_updSrc 3 (ppsMissed (td1 s + half % 8 * 2 ^ 39)) (capture 3 0 0 half [] s) (by decide)
    rw [capture_srcOf] at before
    obtain ⟨present, stops, disqualifies⟩ := lostAfter_record 3 3
      (updSrc 3 (ppsMissed (td1 s + half % 8 * 2 ^ 39)) (capture 3 0 0 half [] s)) (by decide) (by rw [before]; rfl)
    rw [before] at stops disqualifies
    exact ⟨_, execPpsInEdge_bad half trueErr s hs hq (fun hx => by cases judged.mpr hx),
      (lostAfter_source 3 3 _ (by decide)).1.trans queue, present, nofun,
      fun _ => ⟨stops rfl, fun h2 => disqualifies (Nat.succ_le_succ h2)⟩⟩

/-! IRIG_IN (R137). -/

/-- A supported format with valid parity. -/
def irigReadable (f : IrigFrame) : Bool := [0, 4, 6, 7].contains f.format && f.parityOk

/-- The marker of a frame is captured, and the second that a readable frame names is noted. -/
def irigMarked (f : IrigFrame) (day sec half : Nat) (s : State) : State :=
  updSrc 4 (fun x => { x with
      last := td1 s + half % 8 * 2 ^ 39, lastSec := if irigReadable f then irigUtc s f day sec else x.lastSec })
    (capture 4 0 0 half [] s)

/-- A readable frame names the second after the last one's, or is the first. -/
def irigGood (f : IrigFrame) (day sec : Nat) (s : State) : Bool :=
  irigReadable f && (decide (irigUtc s f day sec = (srcOf s 4).lastSec + 1) || (srcOf s 4).good == 0)

/-- A good frame's own quality, and the leap second it announces to a servo without another source. -/
def irigNoted (f : IrigFrame) (s : State) : State :=
  let s := updSrc 4 (fun x => { x with cls := min f.quality 15 }) s
  if s.tu.active = 4 ∨ s.tu.active = 0 then takeUtc (some (sgn 16 s.tu.utcOffset, f.leap)) s else s

/-- A frame that is not good. -/
def irigMissed (ok : Bool) (x : Source) : Source := { x with present := true, good := b2n ok, bad := x.bad + 1 }

theorem irigMarked_record (f : IrigFrame) (day sec half : Nat) (s : State) : srcOf (irigMarked f day sec half s) 4 =
    { srcOf s 4 with
      last := td1 s + half % 8 * 2 ^ 39, lastSec := if irigReadable f then irigUtc s f day sec else (srcOf s 4).lastSec } := by
  rw [irigMarked, srcOf_updSrc 4 _ _ (by decide), capture_srcOf]

theorem irigNoted_sourceRegs (f : IrigFrame) (s : State) :
    sourceRegs (irigNoted f s) = sourceRegs (updSrc 4 (fun x => { x with cls := min f.quality 15 }) s) := by
  unfold irigNoted
  dsimp only
  split
  · exact takeUtc_sourceRegs _ _
  · rfl

theorem execIrigInFrame_good (f : IrigFrame) (day sec half : Nat) (s : State) (hs : s.pw.phase ≠ .off)
    (hq : s.tu.capQ.length < 64)
    (hg : irigGood f day sec s = true) : ∃ off, execIrigInFrame f day sec half s =
      .next (srcGood 4 3 off (irigNoted f (irigMarked f day sec half s))) := by
  have judged : (irigReadable f && (decide (irigUtc s f day sec = (srcOf s 4).lastSec + 1) ||
      (srcOf (irigMarked f day sec half s) 4).good == 0)) = true := by
    rw [irigMarked_record]
    exact hg
  rw [irigMarked, capture_with_room _ _ _ _ _ _ hq] at judged
  rw [execIrigInFrame, if_neg hs, irigMarked, capture_with_room _ _ _ _ _ _ hq]
  exact ⟨_, if_pos judged⟩

theorem execIrigInFrame_bad (f : IrigFrame) (day sec half : Nat) (s : State) (hs : s.pw.phase ≠ .off)
    (hq : s.tu.capQ.length < 64)
    (hg : irigGood f day sec s = false) : execIrigInFrame f day sec half s =
      .next (lostAfter 4 2 (updSrc 4 (irigMissed (irigReadable f)) (irigMarked f day sec half s))) := by
  have judged : ¬(irigReadable f && (decide (irigUtc s f day sec = (srcOf s 4).lastSec + 1) ||
      (srcOf (irigMarked f day sec half s) 4).good == 0)) = true := by
    rw [irigMarked_record]
    exact (Bool.eq_false_iff.mp hg)
  rw [irigMarked, capture_with_room _ _ _ _ _ _ hq] at judged
  rw [execIrigInFrame, if_neg hs, irigMarked, capture_with_room _ _ _ _ _ _ hq]
  exact if_neg judged

theorem execIrigInFrame_completes (f : IrigFrame) (day sec half h : Nat) (ok good : Bool) (s : State) (hs : s.pw.phase ≠ .off)
    (hq : s.tu.capQ.length < 64) (hh : h = half % 8 * 2 ^ 39) (hk : ok = ([0, 4, 6, 7].contains f.format && f.parityOk))
    (hg : good = (ok && (decide (irigUtc s f day sec = (srcOf s 4).lastSec + 1) || (srcOf s 4).good == 0))) :
    ∃ t, execIrigInFrame f day sec half s = .next t ∧
      t.tu.capQ = s.tu.capQ ++ [⟨4, 0, 0, [], s.tu.d0.t + h, s.tu.d1.t + h, s.tu.d2.t + h, s.tu.d3.t + h⟩] ∧
      (srcOf t 4).present = true ∧
      (good = true → (srcOf t 4).cls = min f.quality 15 ∧ (srcOf t 4).good = (srcOf s 4).good + 1 ∧
        (2 ≤ (srcOf s 4).good → (srcOf t 4).qualified = true)) ∧
      (ok = false → (srcOf t 4).good = 0) ∧ (good = false → 1 ≤ (srcOf s 4).bad → (srcOf t 4).qualified = false) := by
  subst hh
  have readable : irigReadable f = ok := hk.symm
  have queue : (irigMarked f day sec half s).tu.capQ = s.tu.capQ ++ [capEntry 4 0 0 half [] s] := capture_capQ 4 0 0 half [] s hq
  have record := irigMarked_record f day sec half s
  have judged : irigGood f day sec s = good := by rw [irigGood, readable, hg]
  cases good with
  | true =>
    obtain ⟨off, takes⟩ := execIrigInFrame_good f day sec half s hs hq judged
    have regs := irigNoted_sourceRegs f (irigMarked f day sec half s)
    have before := (srcOf_of_src (congrArg Prod.snd regs) 4).trans (srcOf_updSrc 4 _ _ (by decide))
    rw [record] at before
    obtain ⟨present, counted, -, cls, qualifies⟩ :=
      srcGood_record 4 3 off (irigNoted f (irigMarked f day sec half s)) (by decide)
    rw [before] at counted cls qualifies
    refine ⟨_, takes, ?_, present, fun _ => ⟨cls, counted, fun h2 => qualifies (Nat.succ_le_succ h2)⟩,
      fun hf => ?_, nofun⟩
    · exact (srcGood_source 4 3 off _ (by decide)).1.trans ((congrArg Prod.fst regs).trans queue)
    · simp [hf] at hg
  | false =>
    have before := srcOf_updSrc 4 (irigMissed (irigReadable f)) (irigMarked f day sec half s) (by decide)
    rw [record, readable] at before
    obtain ⟨present, stops, disqualifies⟩ := lostAfter_record 4 2
      (updSrc 4 (irigMissed (irigReadable f)) (irigMarked f day sec half s)) (by decide) (by rw [readable, before]; rfl)
    rw [readable, before] at stops disqualifies
    rw [readable] at present
    refine ⟨_, execIrigInFrame_bad f day sec half s hs hq judged, ?_, ?_, nofun, fun hf => ?_, fun _ h1 => ?_⟩
    · exact (lostAfter_source 4 2 _ (by decide)).1.trans queue
    · rw [readable]
      exact present
    · rw [readable]
      exact stops (by rw [hf]; rfl)
    · rw [readable]
      exact disqualifies (Nat.succ_le_succ h1)

/-! The loss of a source (R141). -/

theorem srcLost_record (k : Nat) (s : State) (h : k - 1 < 4) :
    (srcOf (srcLost k false s) k).present = false ∧ (srcOf (srcLost k false s) k).qualified = false := by
  obtain ⟨-, record⟩ := srcLost_source k false s h
  exact ⟨congrArg Source.present record, congrArg Source.qualified record⟩

/-- Settles O30, row by row. -/
theorem timeSourceRowsComplete : Obligations.TimeSourceRowsComplete :=
  ⟨fun port m seq gm role dom half h portId missing offset utc s hp ho hs hm hh =>
      execPtpMessageRx_completes port m seq gm role dom half h portId missing offset utc s hp ho hs hm hh,
    execPtpMessageTx_completes, execPpsInEdge_completes, execIrigInFrame_completes,
    fun port s hp hx => ⟨fun hd => ⟨_, if_pos ⟨hp, hx, hd⟩, srcLost_record (port + 1) s (by omega)⟩,
      fun hd => ⟨_, if_pos ⟨hp, hx, hd⟩, srcLost_record (port + 1) s (by omega)⟩⟩,
    fun s hx hd => ⟨_, if_pos ⟨hx, hd⟩, srcLost_record 3 s (by decide)⟩,
    fun s hx hd => ⟨_, if_pos ⟨hx, hd⟩, srcLost_record 4 s (by decide)⟩⟩

end Sys2Proof.Machine
end

section
/-! PROOFS. The sample grid, PPS_OUT and the launch entries (R140, R151 to R155, R159 to R162). -/

namespace Sys2Proof.Machine
open Sys2Proof

/-! The grid aligned (R155). -/

theorem noteSync_grid (s : State) : (noteSync s).tu.grid = s.tu.grid ∧ (noteSync s).tu.sgOffset = s.tu.sgOffset ∧
    (noteSync s).tu.gridLock = s.tu.gridLock ∧ (noteSync s).tu.gridUnlock = s.tu.gridUnlock := by
  obtain ⟨h, hs⟩ := noteSync_eq s
  rw [hs]
  exact ⟨rfl, rfl, rfl, rfl⟩

/-- One event for each of `n` firings of SAMPLE_GRID_UNLOCK, which are then over. -/
def alignTold (n : Nat) (s : State) : State :=
  if n = 0 then s else (List.range n).foldl (fun s _ => submit .time 0x1006 0 s) (clearDetAll 0x04 s)

theorem alignTold_only (n : Nat) (s : State) : Only [.hlt, .evr] s (alignTold n s) :=
  Only.ite _ (Only.refl _ s) ((clearDetAll_only 0x04 s).seq (Only.foldl [.evr] _ _ _ fun s _ => submit_only _ _ _ s))

theorem gridDone_eq (s : State) : gridDone s = noteSync (alignTold s.tu.gridUnlock
    { s with tu := { s.tu with grid := .aligned, sgOffset := 0, gridLock := true, gridUnlock := 0 } }) := rfl

theorem gridDone_only (s : State) : Only [.tu, .evr, .hlt] s (gridDone s) := by
  rw [gridDone_eq]
  exact (((State.with_tu_only s _).seq (alignTold_only _ _)).seq (noteSync_only _)).mono (by decide)

theorem gridDone_aligned (s : State) :
    (gridDone s).tu.grid = .aligned ∧ (gridDone s).tu.sgOffset = 0 ∧ (gridDone s).tu.gridLock = true := by
  have told := (alignTold_only s.tu.gridUnlock
    { s with tu := { s.tu with grid := .aligned, sgOffset := 0, gridLock := true, gridUnlock := 0 } }).same .tu (by decide)
  obtain ⟨grid, offset, lock, -⟩ := noteSync_grid (alignTold s.tu.gridUnlock
    { s with tu := { s.tu with grid := .aligned, sgOffset := 0, gridLock := true, gridUnlock := 0 } })
  rw [gridDone_eq, grid, offset, lock]
  exact ⟨congrArg TimeUnit.grid told, congrArg TimeUnit.sgOffset told, congrArg TimeUnit.gridLock told⟩

theorem execGridAligned_completes (s : State) (hg : s.tu.grid = .slewing) (h0 : s.tu.sgOffset = 0) :
    ∃ t, execGridAligned s = .next t ∧ Only [.tu, .evr, .hlt] s t ∧ t.tu.grid = .aligned ∧ t.tu.gridLock = true := by
  have aligns : execGridAligned s = .next (gridDone { s with tu := { s.tu with alignW := some s.acq.waves } }) := by
    rw [execGridAligned, hg]
    exact if_pos h0
  obtain ⟨grid, -, lock⟩ := gridDone_aligned { s with tu := { s.tu with alignW := some s.acq.waves } }
  exact ⟨_, aligns, ((State.with_tu_only s _).of_tu (by decide)).trans (gridDone_only _), grid, lock⟩

/-! The re-phase (R154, R175). -/

/-- The discontinuity is marked in the record. -/
def rephaseMarked (s : State) : State := recFlags 0x0080#16 (recMark 3 (td1 s) (td1 s) s)

/-- A PARALLEL phase of the rotation under way is void. -/
def rephaseVoided (s : State) : State := if s.acq.rotPhase = .parallel ∧ s.acq.rotState = 0 then voidStep s else s

/-- The wave before slot `k` of the second `sec` is the last one released. -/
def rephaseJumped (sec k : Nat) (s : State) : State :=
  { s with
    tu := { s.tu with slot := (sec * 16000 + k) - 1, alignW := some s.acq.waves }
    rio := { s.rio with relT1 := gridInstant s s.rio.relT1 }
    acq := { s.acq with
      wave := ((sec * 16000 + k) % 2 ^ 32 + 2 ^ 32 - 1) % 2 ^ 32
      waveAt := if k = 0 then (sec - 1, 15999) else (sec, k - 1)
      ch := s.acq.ch.map (fun (c : Chan) => { c with settle := max c.settle 48 }) } }

theorem rephaseMarked_only (s : State) : Only [.dr] s (rephaseMarked s) := (recMark_only _ _ _ s).trans (recFlags_only _ _)

theorem voidStep_only (s : State) : Only [.acq, .evr] s (voidStep s) := (State.with_acq_only s _).seq (submit_only _ _ _ _)

theorem voidStep_acq (s : State) : (voidStep s).acq = { s.acq with
    rotPhase := .disconnect, rotVoid := true, voidCnt := satInc 32 s.acq.voidCnt, voidRun := s.acq.voidRun + 1 } :=
  submit_acq _ _ _ _

theorem rephaseVoided_only (s : State) : Only [.acq, .evr] s (rephaseVoided s) := Only.ite _ (voidStep_only s) (Only.refl _ s)

theorem State.with_tu_rio_acq_only (s : State) (v : TimeUnit) (r : Rio) (a : Acq) :
    Only [.tu, .rio, .acq] s { s with tu := v, rio := r, acq := a } := fun p => by
  cases p <;> simp [Same]

theorem rephaseJumped_only (sec k : Nat) (s : State) : Only [.tu, .rio, .acq] s (rephaseJumped sec k s) :=
  State.with_tu_rio_acq_only s _ _ _

/-- The number before `n`, as wave numbers wrap. -/
theorem succ_of_wave_before (n : Nat) : ((n % 2 ^ 32 + 2 ^ 32 - 1) % 2 ^ 32 + 1) % 2 ^ 32 = n % 2 ^ 32 := by omega

theorem rephaseJumped_wave (sec k : Nat) (s : State) :
    ((rephaseJumped sec k s).acq.wave + 1) % 2 ^ 32 = (sec * 16000 + k) % 2 ^ 32 := by
  have wave : (rephaseJumped sec k s).acq.wave = ((sec * 16000 + k) % 2 ^ 32 + 2 ^ 32 - 1) % 2 ^ 32 := rfl
  rw [wave, succ_of_wave_before]

theorem rephaseJumped_rotPhase (sec k : Nat) (s : State) : (rephaseJumped sec k s).acq.rotPhase = s.acq.rotPhase := rfl

theorem rephaseJumped_rotVoid (sec k : Nat) (s : State) : (rephaseJumped sec k s).acq.rotVoid = s.acq.rotVoid := rfl

/-- The re-phase before the grid counts as aligned. -/
def rephased (s : State) : State :=
  rephaseJumped (secOf (td1 s)) (nsOf (td1 s) / 62500) (rephaseVoided (rephaseMarked s))

theorem rephased_only (s : State) : Only [.dr, .acq, .evr, .tu, .rio] s (rephased s) :=
  (((rephaseMarked_only s).seq (rephaseVoided_only _)).seq (rephaseJumped_only _ _ _)).mono (by decide)

theorem rephaseMarked_acq (s : State) : (rephaseMarked s).acq = s.acq := (rephaseMarked_only s).same .acq (by decide)

theorem rephased_voids_parallel (s : State) (hp : s.acq.rotPhase = .parallel) (h0 : s.acq.rotState = 0) :
    (rephased s).acq.rotVoid = true ∧ (rephased s).acq.rotPhase = .disconnect := by
  have voids : rephaseVoided (rephaseMarked s) = voidStep (rephaseMarked s) :=
    if_pos (by rw [rephaseMarked_acq]; exact ⟨hp, h0⟩)
  rw [rephased, voids, rephaseJumped_rotVoid, rephaseJumped_rotPhase, voidStep_acq]
  exact ⟨rfl, rfl⟩

theorem rephased_keeps_rotation (s : State) (hp : s.acq.rotPhase ≠ .parallel) :
    (rephased s).acq.rotPhase = s.acq.rotPhase ∧ (rephased s).acq.rotVoid = s.acq.rotVoid := by
  have stays : rephaseVoided (rephaseMarked s) = rephaseMarked s :=
    if_neg (by rw [rephaseMarked_acq]; exact fun h => hp h.1)
  rw [rephased, stays, rephaseJumped_rotVoid, rephaseJumped_rotPhase, rephaseMarked_acq]
  exact ⟨rfl, rfl⟩

theorem execGridRephase_due (s : State) (hg : s.tu.grid = .jumpPending) (hd : s.tu.rephaseAt ≤ td1 s) :
    execGridRephase s = .next (gridDone (rephased s)) := by
  rw [execGridRephase, if_pos ⟨hg, hd⟩]
  rfl

theorem execGridRephase_completes (s : State) (hg : s.tu.grid = .jumpPending) (hd : s.tu.rephaseAt ≤ td1 s) :
    ∃ t, execGridRephase s = .next t ∧ Only [.tu, .acq, .dr, .evr, .hlt, .rio] s t ∧ t.tu.grid = .aligned ∧
      t.tu.sgOffset = 0 ∧
      (s.acq.rotPhase = .parallel → s.acq.rotState = 0 → t.acq.rotVoid = true ∧ t.acq.rotPhase = .disconnect) ∧
      (s.acq.rotPhase ≠ .parallel → t.acq.rotPhase = s.acq.rotPhase ∧ t.acq.rotVoid = s.acq.rotVoid) ∧
      (t.acq.wave + 1) % 2 ^ 32 = (secOf (td1 s) * 16000 + nsOf (td1 s) / 62500) % 2 ^ 32 := by
  have aligns := gridDone_only (rephased s)
  have acq : (gridDone (rephased s)).acq = (rephased s).acq := aligns.same .acq (by decide)
  obtain ⟨grid, offset, -⟩ := gridDone_aligned (rephased s)
  refine ⟨_, execGridRephase_due s hg hd, ((rephased_only s).seq aligns).mono (by decide), grid, offset, ?_⟩
  rw [acq]
  exact ⟨rephased_voids_parallel s, rephased_keeps_rotation s, rephaseJumped_wave _ _ _⟩

/-! The loop out of lock, and PPS_OUT (R140, R155). -/

/-- An aligned grid leaves its lock with a firing. -/
def loopUnlocked (s : State) : State :=
  fireDet 0x04 0 3 { s with tu := { s.tu with grid := .unlocked, gridUnlock := s.tu.gridUnlock + 1 } }

theorem execSampleLoopUnlock_completes (s : State) (hg : s.tu.grid = .aligned) (hs : s.pw.phase ≠ .off) :
    ∃ t, execSampleLoopUnlock s = .next t ∧ Only [.tu, .evr, .hlt] s t ∧ t.tu.grid = .unlocked ∧
      t.tu.gridUnlock = s.tu.gridUnlock + 1 ∧ detOn t 0x04 0 = true := by
  have unlocks : execSampleLoopUnlock s = .next (noteSync (loopUnlocked s)) := if_pos ⟨hg, hs⟩
  have time : (loopUnlocked s).tu = { s.tu with grid := .unlocked, gridUnlock := s.tu.gridUnlock + 1 } := fireDet_tu 0x04 0 3 _
  have frame : Only [.tu, .evr, .hlt] s (loopUnlocked s) := (State.with_tu_only s _).seq (fireDet_only 0x04 0 3 _)
  obtain ⟨grid, -, -, count⟩ := noteSync_grid (loopUnlocked s)
  refine ⟨_, unlocks, frame.trans ((noteSync_only _).of_tu (by decide)), ?_, ?_, ?_⟩
  · rw [grid, time]
  · rw [count, time]
  · rw [detOn_of_hlt ((noteSync_only (loopUnlocked s)).same .hlt (by decide))]
    exact fireDet_detOn 0x04 0 3 _

theorem execPpsOutFall_completes (s : State) (hp : s.pads.ppsOut = true)
    (hd : due s s.tu.ppsRoseAt (msT (pv s 0x0A0D 0 0 2 100)) = true ∨ ppsOk s = false) :
    execPpsOutFall s = .next { s with pads := { s.pads with ppsOut := false } } :=
  if_pos ⟨hp, hd.imp_right fun h => by simp [h]⟩

/-! Launch entries (R159 to R162). -/

theorem execLaunchArm_completes (r : Req) (entry : Nat) (value v : LaunchVal) (s : State) (h : Served r 0x0054 s)
    (hp : pairRefuses s = false) (ht : s.pr.st ≠ .twin)
    (hv : v = { value with instant := value.instant / 4 * 4, period := value.period / 4 * 4 })
    (ho : armStatus s .command entry v = .ok) :
    execLaunchArm r entry value s = .next (answer r 0x0054 .ok (putArmed .command entry v v.instant s)) := by
  subst hv
  rw [execLaunchArm, serve_served r _ s _ h, if_neg (by simp [hp])]
  dsimp only
  rw [if_neg ht, armLaunch, ho]

/-- The entry `x` cancelled: of a repeating switching, the instant handed over stays (R162). -/
def cancelledAs (x y : LaunchEntry) : LaunchEntry :=
  if x.val.action = 1 ∧ x.handed = true then { y with val := { y.val with period := 0 } } else { y with armed := false }

theorem execLaunchCancel_completes (r : Req) (entry : Nat) (x : LaunchEntry) (s : State) (h : Served r 0x0055 s)
    (hp : pairRefuses s = false) (ht : s.pr.st ≠ .twin) (hx : armedEntry s entry = some x) (ho : x.owner = .command)
    (hk : x.val.action = 1 → x.handed = true → x.val.period ≠ 0) :
    execLaunchCancel r entry s = .next (answer r 0x0055 .ok (updLaunch entry (cancelledAs x) s)) := by
  have cancels : cancelLaunch .command entry s = (updLaunch entry (cancelledAs x) s, .ok) := by
    rw [cancelLaunch, hx]
    dsimp only
    rw [if_neg (by rintro (h1 | ⟨h1, h2, h3⟩); exacts [h1 ho, hk h1 h3 h2])]
    unfold cancelledAs
    split
    · rfl
    · rfl
  rw [execLaunchCancel, serve_served r _ s _ h, if_neg (by simp [hp]), cancels]
  dsimp only
  rw [if_neg (fun h => ht h.1), if_neg (fun h => ht h.1)]

/-! The actions of a launch entry leave the time units (R161). -/

theorem fireSwitch_only (e : LaunchEntry) (next : Nat) (s : State) : Only [.le, .fio, .evr] s (fireSwitch e next s) := by
  refine Only.ite _ ?_ (Only.ite _ ?_ ?_)
  · exact (submitParts_only _ _ _ _ s).of_evr (by decide)
  · exact ((State.with_le_only s _).trans (markDirty_only _)).mono (by decide)
  · exact (State.with_fio_only s _).mono (by decide)

theorem goSend_only (x : GoosePub) (s : State) : Only [.net] s (goSend x s) :=
  Only.ite _ (Only.refl _ s) (sendFrame_only _ _ _ _ _ s)

theorem goChange_only (p : Nat) (vals : List (Nat × Nat)) (t1 : Nat) (s : State) : Only [.net, .gr] s (goChange p vals t1 s) :=
  (((State.with_net_only s _).seq (digNote_only _ _ _)).seq (goSend_only _ _)).mono (by decide)

theorem publishLaunch_only (p t1 : Nat) (s : State) : Only [.net, .gr] s (publishLaunch p t1 s) :=
  Only.ite _ (goChange_only p _ t1 s) (Only.refl _ s)

theorem rioPhase_only (inst : Nat) (s : State) : Only [.rio, .evr] s (rioPhase inst s) :=
  Only.ite _ (Only.refl _ s) ((State.with_rio_only s _).seq (submit_only _ _ _ _))

theorem updPmu_only (k : Nat) (f : Pmu → Pmu) (s : State) : Only [.gr] s (updPmu k f s) := State.with_gr_only s _

theorem firePmu_only (k inst : Nat) (s : State) : Only [.gr, .evr] s (firePmu k inst s) := by
  have noted := fun f s => (updPmu_only k f s).mono (qs := [.gr, .evr]) (by decide)
  exact (noted _ s).trans (Only.ite _ ((submit_only _ _ _ _).of_evr (by decide)) (noted _ _))

theorem fireAction_only (e : LaunchEntry) (next : Nat) (s : State) :
    Only [.le, .fio, .rio, .dr, .gr, .net, .evr, .pr] s (fireAction e next s) := by
  unfold fireAction
  dsimp only
  split
  · exact (fireSwitch_only e next s).mono (by decide)
  · exact (fireUnit_logs _ _ s).1.mono (by decide)
  · exact (State.with_le_only s _).mono (by decide)
  · exact (publishLaunch_only _ _ s).mono (by decide)
  · exact (rioPhase_only _ s).mono (by decide)
  · exact (firePmu_only _ _ s).mono (by decide)
  · exact Only.refl _ s

/-- The entry in the table after its firing. -/
def firedEntry (e x : LaunchEntry) : LaunchEntry :=
  { x with
    armed := decide (e.val.period ≠ 0), next := if e.val.period = 0 then x.next else e.next + e.val.period
    fired := satInc 32 x.fired, lastNs := e.next % 1000000000, handed := false }

theorem fireEntry_eq (e : LaunchEntry) (s : State) : fireEntry e s =
    fireAction e (if decide (e.val.period = 0) then 0 else e.next + e.val.period)
      (binPulse 7 e.num (e.next * 2 ^ 40) (updLaunch e.num (firedEntry e) s)) := by
  have same : (fun x : LaunchEntry => { x with
      armed := !decide (e.val.period = 0)
      next := if decide (e.val.period = 0) then x.next else if decide (e.val.period = 0) then 0 else e.next + e.val.period
      fired := satInc 32 x.fired, lastNs := e.next % 1000000000, handed := false }) = firedEntry e := by
    funext x
    by_cases h : e.val.period = 0 <;> simp [firedEntry, h]
  rw [← same]
  rfl

theorem execLaunchFire_completes (e : LaunchEntry) (s : State) (hr : running s = true) (he : firstDue s s.tu.launches = some e) :
    ∃ t, execLaunchFire s = .next t ∧
      t.tu.launches = updFirst (fun (x : LaunchEntry) => x.num == e.num) (firedEntry e) s.tu.launches ∧
      Only [.tu, .le, .fio, .rio, .dr, .gr, .net, .evr, .pr] s t := by
  have fires : execLaunchFire s = .next (fireEntry e s) := by rw [execLaunchFire, if_neg (by simp [hr]), he]
  have acts := (binPulse_logs 7 e.num (e.next * 2 ^ 40) (updLaunch e.num (firedEntry e) s)).1.seq
    (fireAction_only e (if decide (e.val.period = 0) then 0 else e.next + e.val.period) _)
  rw [fireEntry_eq] at fires
  exact ⟨_, fires, congrArg TimeUnit.launches (acts.same .tu (by decide)),
    ((updLaunch_only e.num (firedEntry e) s).seq acts).mono (by decide)⟩

/-- Settles O31, row by row. -/
theorem gridPulseAndLaunchRowsComplete : Obligations.GridPulseAndLaunchRowsComplete :=
  ⟨execGridRephase_completes, execGridAligned_completes, execSampleLoopUnlock_completes,
    fun _ hn hk hs => if_pos ⟨hn, hk, hs⟩, execPpsOutFall_completes, execLaunchArm_completes, execLaunchCancel_completes,
    execLaunchFire_completes⟩

end Sys2Proof.Machine
end

section
/-! PROOFS. The pair link's cells and heartbeats (R127, R324, R529 to R531, R535, R538, R542, R546). -/

namespace Sys2Proof.Machine
open Sys2Proof

/-! A cell's reception (R529). -/

theorem cell_bad (f : State → State) (s : State) (hr : running s = true) (hp : pairOn s = true) :
    cell false s f = .next { s with pr := { s.pr with linkErr := satInc 32 s.pr.linkErr } } := by
  rw [cell, if_neg (by simp [hr, hp]), if_neg (by decide)]

theorem cell_good (f : State → State) (s : State) (hr : running s = true) (hp : pairOn s = true) :
    cell true s f = .next (f s) := by
  rw [cell, if_neg (by simp [hr, hp]), if_pos rfl]

/-! A good cell on a lane (R530). -/

theorem setB_of_set {w : Nat} (v : BitVec w) (i : Nat) (h : v.getLsbD i = true) : setB v i true = v := by
  refine BitVec.eq_of_getLsbD_eq fun j hj => ?_
  by_cases hi : j = i
  · simp [setB, hi, h]
  · simp [setB, BitVec.getLsbD_one]
    omega

theorem sendHello_only (s : State) : Only [.pr] s (sendHello s) := sendCell_only _ _ s

/-- What the return of a lane, and of the link after silence, tells. -/
def laneTold (silent : Bool) (lane : Nat) (s : State) : State :=
  let s := submit .pair 0x900E lane s
  if silent then sendHello (submit .pair 0x900F 2 (clearDet 0x1C 0 s)) else s

theorem laneTold_only (silent : Bool) (lane : Nat) (s : State) : Only [.pr, .evr, .hlt] s (laneTold silent lane s) := by
  have told := (submit_only .pair 0x900E lane s).of_evr (ps := [.pr, .evr, .hlt]) (by decide)
  have greeted := ((clearDet_only 0x1C 0 (submit .pair 0x900E lane s)).seq (submit_only .pair 0x900F 2 _)).seq (sendHello_only _)
  exact Only.trans_ite _ told (greeted.mono (by decide))

/-- A lane's return hands at most a HELLO to the link. -/
theorem laneTold_pr (silent : Bool) (lane : Nat) (s : State) : ∃ c, (laneTold silent lane s).pr = { s.pr with cells := c } := by
  cases silent
  · exact ⟨s.pr.cells, submit_pr _ _ _ _⟩
  · have same : (submit .pair 0x900F 2 (clearDet 0x1C 0 (submit .pair 0x900E lane s))).pr = s.pr := by
      rw [submit_pr, clearDet_pr, submit_pr]
    have greets : ∀ t : State, ∃ c, (sendHello t).pr = { t.pr with cells := c } := fun t => ⟨_, rfl⟩
    obtain ⟨c, hc⟩ := greets (submit .pair 0x900F 2 (clearDet 0x1C 0 (submit .pair 0x900E lane s)))
    exact ⟨c, hc.trans (by rw [same])⟩

/-- A lane's time of the last good cell, and its mark, as a good cell on it sets them. -/
def laneCarried (lane : Nat) (s : State) : Pair :=
  { s.pr with
    laneAt := if lane = 0 then (td0 s, s.pr.laneAt.2) else (s.pr.laneAt.1, td0 s), lanes := setB s.pr.lanes lane true }

/-- A good cell on a lane marks it, and tells its return where it was declared down. -/
theorem laneGood_cases (lane : Nat) (s : State) : laneGood lane s = { s with pr := laneCarried lane s } ∨
    ∃ silent, laneGood lane s = laneTold silent lane { s with pr := laneCarried lane s } := by
  unfold laneGood laneReturns
  dsimp only
  split
  next h =>
    left
    rw [laneCarried, setB_of_set _ _ h]
  next =>
    split
    · exact .inl rfl
    · exact .inr ⟨_, rfl⟩

theorem laneGood_only (lane : Nat) (s : State) : Only [.pr, .evr, .hlt] s (laneGood lane s) := by
  have carried := (State.with_pr_only s (laneCarried lane s)).mono (qs := [.pr, .evr, .hlt]) (by decide)
  obtain h | ⟨silent, h⟩ := laneGood_cases lane s
  · rw [h]
    exact carried
  · rw [h]
    exact carried.trans (laneTold_only _ _ _)

theorem laneGood_pr (lane : Nat) (s : State) : ∃ c, (laneGood lane s).pr = { laneCarried lane s with cells := c } := by
  obtain h | ⟨silent, h⟩ := laneGood_cases lane s
  · exact ⟨(laneCarried lane s).cells, congrArg State.pr h⟩
  · obtain ⟨c, hc⟩ := laneTold_pr silent lane { s with pr := laneCarried lane s }
    exact ⟨c, (congrArg State.pr h).trans hc⟩

/-! HELLO (R530, R534, R535). -/

theorem both_lanes_set (v : BitVec 2) : setB (setB v 0 true) 1 true = 3#2 := by
  revert v
  decide

theorem takeHello_only (serial : Nat) (est : Bool) (st : Nat) (act : Bool) (mark : List Byte) (s : State) :
    Only [.pr, .evr, .hlt] s (takeHello serial est st act mark s) :=
  ((laneGood_only 0 s).trans (laneGood_only 1 _)).trans ((State.with_pr_only _ _).mono (by decide))

/-- What a HELLO says, written into the pair's record. -/
def helloNoted (serial : Nat) (est : Bool) (st : Nat) (act : Bool) (mark : List Byte) (p : Pair) : Pair :=
  { p with
    hello := true, linkOnce := true, partner := serial % 2 ^ 64, partnerEst := est, partnerSt := pairStOf st
    partnerActive := act, partnerMark := mark.take 8 }

/-- A HELLO is a good cell on both lanes. -/
theorem laneGood_both_pr (s : State) : ∃ c, (laneGood 1 (laneGood 0 s)).pr =
    { s.pr with laneAt := (td0 s, td0 s), lanes := 3#2, cells := c } := by
  obtain ⟨c0, h0⟩ := laneGood_pr 0 s
  obtain ⟨c1, h1⟩ := laneGood_pr 1 (laneGood 0 s)
  have now : td0 (laneGood 0 s) = td0 s := by rw [td0, (laneGood_only 0 s).same .tu (by decide), td0]
  refine ⟨c1, h1.trans ?_⟩
  rw [laneCarried, now, h0, ← both_lanes_set s.pr.lanes]
  rfl

theorem takeHello_pr (serial : Nat) (est : Bool) (st : Nat) (act : Bool) (mark : List Byte) (s : State) :
    ∃ c, (takeHello serial est st act mark s).pr = helloNoted serial est st act mark
      { s.pr with laneAt := (td0 s, td0 s), lanes := 3#2, cells := c } := by
  obtain ⟨c, both⟩ := laneGood_both_pr s
  exact ⟨c, congrArg (helloNoted serial est st act mark) both⟩

theorem settleRoles_in_step (s : State) (h : s.pr.st = .twin) : settleRoles s = s := if_pos (by simp [h])

theorem tryJoin_in_step (s : State) (h : s.pr.st = .twin) : tryJoin s = s := if_pos (by simp [mayJoin, h])

theorem listed_of_img {s t : State} (h : t.img = s.img) (x : Nat) : listed t x = listed s x := by
  rw [listed, listed]
  simp only [prm, params, entrySerial, pv, h]

theorem execRisiaHelloRx_in_step (serial : Nat) (est : Bool) (st : Nat) (act : Bool) (mark : List Byte) (s : State)
    (hr : running s = true) (hp : pairOn s = true) (ht : s.pr.st = .twin) (hl : listed s serial = true) :
    execRisiaHelloRx true serial est st act mark s = .next (takeHello serial est st act mark s) := by
  obtain ⟨c, pair⟩ := takeHello_pr serial est st act mark s
  have inStep : (takeHello serial est st act mark s).pr.st = .twin := by rw [pair]; exact ht
  have named : listed (takeHello serial est st act mark s) serial = true :=
    (listed_of_img ((takeHello_only serial est st act mark s).same .img (by decide)) serial).trans hl
  rw [execRisiaHelloRx, cell_good _ s hr hp]
  dsimp only
  rw [settleRoles_in_step _ inStep, tryJoin_in_step _ inStep, if_neg (c := (!listed _ serial) = true) (by simp [named]), ite_self]

theorem execRisiaHelloRx_completes (serial : Nat) (est : Bool) (st : Nat) (act : Bool) (mark : List Byte) (s : State)
    (hr : running s = true) (hp : pairOn s = true) (ht : s.pr.st = .twin) (hl : listed s serial = true) :
    ∃ t, execRisiaHelloRx true serial est st act mark s = .next t ∧ Only [.pr, .evr, .hlt] s t ∧ t.pr.hello = true ∧
      t.pr.partner = serial % 2 ^ 64 ∧ t.pr.partnerEst = est ∧ t.pr.partnerActive = act ∧ t.pr.partnerMark = mark.take 8 ∧
      t.pr.lanes = 3#2 ∧ t.pr.laneAt = (td0 s, td0 s) ∧ t.pr.st = .twin ∧ t.pr.active = s.pr.active := by
  obtain ⟨c, pair⟩ := takeHello_pr serial est st act mark s
  refine ⟨_, execRisiaHelloRx_in_step serial est st act mark s hr hp ht hl, takeHello_only serial est st act mark s, ?_⟩
  rw [pair]
  exact ⟨rfl, rfl, rfl, rfl, rfl, rfl, rfl, ht, rfl⟩

/-! HEARTBEAT (R529, R530, R532). -/

theorem noteBindDiff_eq (s : State) : ∃ b d, noteBindDiff s = { s with pr := { s.pr with bindDiff := b, diffTold := d } } ∧
    (s.pads.bindIn = s.pr.partnerBind → b = none) := by
  unfold noteBindDiff
  split
  next => exact ⟨none, false, rfl, fun _ => rfl⟩
  next h =>
    split
    · exact ⟨s.pr.bindDiff, s.pr.diffTold, rfl, fun e => absurd e h⟩
    · exact ⟨some (td0 s), s.pr.diffTold, rfl, fun e => absurd e h⟩

theorem partnerVerdict_without_own (v : Nat) (s : State) (h : s.pr.verdict = none) : partnerVerdict v s = s :=
  if_pos (.inl (by rw [h]; rfl))

/-- What a HEARTBEAT tells, written into the pair's record. -/
def beatNoted (st : Nat) (act : Bool) (wave : Nat) (bind : Bool) (flags : Nat) (p : Pair) : Pair :=
  { p with
    partnerSt := pairStOf st, partnerActive := act, partnerWave := wave % 2 ^ 32, partnerBind := bind
    partnerFault := flags.testBit 2, partnerMig := (flags.testBit 3, flags.testBit 4), partnerBindIn := flags.testBit 5 }

theorem takeHeartbeat_pr (lane st : Nat) (act : Bool) (wave : Nat) (bind : Bool) (flags : Nat) (s : State) :
    ∃ c b d, (takeHeartbeat st act wave bind flags (laneGood lane s)).pr =
      { beatNoted st act wave bind flags (laneCarried lane s) with cells := c, bindDiff := b, diffTold := d } ∧
      (s.pads.bindIn = bind → b = none) := by
  obtain ⟨c, pair⟩ := laneGood_pr lane s
  have pads : (laneGood lane s).pads = s.pads := (laneGood_only lane s).same .pads (by decide)
  obtain ⟨b, d, noted, agrees⟩ := noteBindDiff_eq
    { laneGood lane s with pr := beatNoted st act wave bind flags (laneGood lane s).pr }
  refine ⟨c, b, d, (congrArg State.pr noted).trans ?_, fun h => agrees ?_⟩
  · dsimp only
    rw [pair]
    rfl
  · dsimp only
    rw [pads, h]
    rfl

theorem takeHeartbeat_only (st : Nat) (act : Bool) (wave : Nat) (bind : Bool) (flags : Nat) (s : State) :
    Only [.pr] s (takeHeartbeat st act wave bind flags s) := by
  obtain ⟨b, d, noted, -⟩ := noteBindDiff_eq { s with pr := beatNoted st act wave bind flags s.pr }
  have frame : Only [.pr] s (noteBindDiff { s with pr := beatNoted st act wave bind flags s.pr }) := by
    rw [noted]
    exact (State.with_pr_only s _).trans (State.with_pr_only _ _)
  exact frame

theorem execRisiaHeartbeatRx_completes (lane st : Nat) (act : Bool) (wave : Nat) (bind : Bool) (flags : Nat) (s : State)
    (hr : running s = true) (hp : pairOn s = true) (ha : s.pr.active = false) (hv : s.pr.verdict = none) :
    ∃ t, execRisiaHeartbeatRx true lane st act wave bind flags s = .next t ∧ Only [.pr, .evr, .hlt] s t ∧
      t.pr.partnerSt = pairStOf st ∧ t.pr.partnerActive = act ∧ t.pr.partnerWave = wave % 2 ^ 32 ∧
      t.pr.partnerBind = bind ∧ t.pr.partnerFault = flags.testBit 2 ∧ t.pr.partnerBindIn = flags.testBit 5 ∧
      t.pr.lanes.getLsbD (lane % 2) = true ∧ (s.pads.bindIn = bind → t.pr.bindDiff = none) := by
  obtain ⟨c, b, d, pair, agrees⟩ := takeHeartbeat_pr (lane % 2) st act wave bind flags s
  have quiet : (takeHeartbeat st act wave bind flags (laneGood (lane % 2) s)).pr.verdict = none := by rw [pair]; exact hv
  have standby : (takeHeartbeat st act wave bind flags (laneGood (lane % 2) s)).pr.active = false := by rw [pair]; exact ha
  have takes : execRisiaHeartbeatRx true lane st act wave bind flags s =
      .next (takeHeartbeat st act wave bind flags (laneGood (lane % 2) s)) := by
    rw [execRisiaHeartbeatRx, cell_good _ s hr hp]
    dsimp only
    rw [partnerVerdict_without_own _ _ quiet, if_neg (by simp [standby])]
  refine ⟨_, takes, (laneGood_only _ s).trans ((takeHeartbeat_only _ _ _ _ _ _).mono (by decide)), ?_⟩
  rw [pair]
  exact ⟨rfl, rfl, rfl, rfl, rfl, rfl, getLsbD_setB_same _ _ _ (Nat.mod_lt _ (by decide)), agrees⟩

/-! Agreement data (R324, R538, R542). -/

theorem execRisiaAgreeRx_waits (kind wave : Nat) (vals : List Nat) (fill lat : Nat) (s : State) (hr : running s = true)
    (hp : pairOn s = true) (ht : takesAgree s = true) (h6 : kind ≠ 6) (h7 : kind ≠ 7) :
    ∃ t, execRisiaAgreeRx true kind wave vals fill lat s = .next t ∧ Only [.pr] s t ∧
      t.pr.agree = s.pr.agree ++ [⟨kind, wave % 2 ^ 32, vals⟩] := by
  rw [execRisiaAgreeRx, cell_good _ s hr hp, if_neg h7, if_neg (by simp [ht]), if_neg h6]
  have kept : Only [.pr] s (keepAgree kind wave vals s) := State.with_pr_only s _
  have filled := Only.trans_ite ((keepAgree kind wave vals s).pr.st = .joining) kept
    (State.with_pr_only _ { (keepAgree kind wave vals s).pr with joinBuf := min 100 fill })
  refine ⟨_, rfl, Only.trans_ite _ filled (State.with_pr_only _ _), ?_⟩
  dsimp only
  repeat' split
  all_goals rfl

/-- Equal digests of a wave leave both lists. -/
theorem digestsMeet_equal (w d : Nat) (s : State) (own : s.pr.digests.find? (fun x => x.1 == w) = some (w, d))
    (given : s.pr.pDigests.find? (fun x => x.1 == w) = some (w, d)) : digestsMeet w s = { s with pr := { s.pr with
      digests := s.pr.digests.filter (fun x => x.1 != w), pDigests := s.pr.pDigests.filter (fun x => x.1 != w) } } := by
  rw [digestsMeet, own, given]
  exact if_pos (.inl rfl)

theorem execRisiaDigestRx_matching (wave digest : Nat) (s : State) (hr : running s = true) (hp : pairOn s = true)
    (ht : s.pr.st = .twin) (hq : s.pr.pDigests = [])
    (hf : s.pr.digests.find? (fun x => x.1 == wave % 2 ^ 32) = some (wave % 2 ^ 32, digest % 2 ^ 64)) :
    execRisiaDigestRx true wave digest s = .next { s with pr := { s.pr with
      digests := s.pr.digests.filter (fun x => x.1 != wave % 2 ^ 32), pDigests := [] } } := by
  have meets := digestsMeet_equal (wave % 2 ^ 32) (digest % 2 ^ 64)
    { s with pr := { s.pr with pDigests := [(wave % 2 ^ 32, digest % 2 ^ 64)] } } hf (by simp)
  rw [execRisiaDigestRx, cell_good _ s hr hp, if_neg (by simp [ht]), hq]
  exact congrArg Host.Outcome.next (meets.trans (by simp))

/-! CONTROL, BULK and TIME cells (R127, R529, R535, R546). -/

theorem execRisiaControlRx_handover (w cause : Nat) (s : State) (hr : running s = true) (hp : pairOn s = true)
    (ht : takesAgree s = true) : execRisiaControlRx true [2, w, cause] s = .next { s with pr := { s.pr with
      hand := some (w % 2 ^ 32, cause), handX := [], cells := (6, [4, 2]) :: s.pr.cells } } :=
  (cell_good _ s hr hp).trans (congrArg Host.Outcome.next (if_pos ht))

theorem execRisiaControlRx_handCell (s : State) (hr : running s = true) (hp : pairOn s = true) (ha : s.pr.active = false) :
    execRisiaControlRx true [8] s = .next { s with pr := { s.pr with handCell := true } } :=
  (cell_good _ s hr hp).trans (congrArg Host.Outcome.next (if_neg (by simp [ha])))

theorem execRisiaBulkRx_snapshotWave (total off : Nat) (bytes : List Byte) (s : State) (hr : running s = true)
    (hp : pairOn s = true) (ht : takesAgree s = true) (hj : s.pr.joinPhase = 1) :
    execRisiaBulkRx true 2 total off bytes s = .next { s with pr := { s.pr with w0 := total % 2 ^ 32 } } := by
  rw [execRisiaBulkRx, cell_good _ s hr hp, if_neg (by simp [ht]), if_neg (by decide), if_pos ⟨rfl, hj⟩]

theorem execRisiaTimeRx_in_step (err : Int) (s : State) (hr : running s = true) (hp : pairOn s = true) (ht : s.pr.st = .twin)
    (he : err.natAbs ≤ 1000) :
    execRisiaTimeRx true err s = .next { s with pr := { s.pr with td2Err := some err } } := by
  rw [execRisiaTimeRx, cell_good _ s hr hp]
  dsimp only
  rw [if_neg (by omega), tryJoin_in_step { s with pr := { s.pr with td2Err := some err } } ht]

/-! The heartbeat (R531). -/

/-- The pulse of the role's width, and the instant of the pulse and of its cells. -/
def beatBegun (s : State) : State :=
  { s with
    pads := { s.pads with hbCode := if s.pr.active then 1 else 2 }, pr := { s.pr with hbAt := td0 s, hbCellAt := td0 s } }

/-- The cells of a heartbeat, one on each lane. -/
def beatSent (flags : Nat) (s : State) : State :=
  let vals := [s.pr.st.toNat, b2n s.pr.active, s.acq.wave, b2n s.pads.bindOut, flags]
  sendCell 2 (1 :: vals) (sendCell 2 (0 :: vals) (beatBegun s))

theorem beatSent_only (flags : Nat) (s : State) : Only [.pads, .pr] s (beatSent flags s) := by
  have begun : Only [.pads, .pr] s (beatBegun s) := State.with_pads_pr_only s _ _
  have sent := fun vals s => (sendCell_only 2 vals s).mono (qs := [.pads, .pr]) (by decide)
  exact (begun.trans (sent _ _)).trans (sent _ _)

theorem execPairHeartbeatTx_due (s : State) (hr : running s = true) (hp : pairOn s = true)
    (hd : due s s.pr.hbAt (usT 10) = true) : ∃ flags, execPairHeartbeatTx s = .next (beatSent flags s) := by
  rw [execPairHeartbeatTx, if_neg (by simp [hr, hd])]
  exact ⟨_, if_neg (Bool.eq_false_iff.mp (congrArg not hp))⟩

theorem execPairHeartbeatTx_completes (s : State) (hr : running s = true) (hp : pairOn s = true)
    (hd : due s s.pr.hbAt (usT 10) = true) : ∃ t flags, execPairHeartbeatTx s = .next t ∧ Only [.pr, .pads] s t ∧
      t.pads.hbCode = (if s.pr.active then 1 else 2) ∧ t.pr.hbAt = td0 s ∧ t.pr.hbCellAt = td0 s ∧ t.pr.cells =
        (2, [1, s.pr.st.toNat, b2n s.pr.active, s.acq.wave, b2n s.pads.bindOut, flags]) ::
        (2, [0, s.pr.st.toNat, b2n s.pr.active, s.acq.wave, b2n s.pads.bindOut, flags]) :: s.pr.cells := by
  obtain ⟨flags, beats⟩ := execPairHeartbeatTx_due s hr hp hd
  exact ⟨_, flags, beats, (beatSent_only flags s).mono (by decide), rfl, rfl, rfl, rfl⟩

/-- A cell with a bad CRC is counted, whatever it carries. -/
theorem badCells_counted (s : State) (hr : running s = true) (hp : pairOn s = true) (serial : Nat) (est : Bool) (st : Nat)
    (act : Bool) (mark : List Byte) (lane wave : Nat) (bind : Bool) (flags kind : Nat) (vals : List Nat) (fill lat : Nat)
    (d : Desc) (digest total off : Nat) (bytes : List Byte) (err : Int) (c : Instr) (hc : c ∈ [
      Instr.risiaHelloRx false serial est st act mark, .risiaHeartbeatRx false lane st act wave bind flags,
      .risiaAgreeRx false kind wave vals fill lat, .risiaDescRx false d, .risiaDigestRx false wave digest,
      .risiaControlRx false vals, .risiaBulkRx false kind total off bytes, .risiaTimeRx false err]) :
    exec c s = .next { s with pr := { s.pr with linkErr := satInc 32 s.pr.linkErr } } := by
  simp only [List.mem_cons, List.not_mem_nil, or_false] at hc
  obtain rfl | rfl | rfl | rfl | rfl | rfl | rfl | rfl := hc
  · exact (cell_bad _ s hr hp : execRisiaHelloRx false serial est st act mark s = _)
  · exact (cell_bad _ s hr hp : execRisiaHeartbeatRx false lane st act wave bind flags s = _)
  · exact (cell_bad _ s hr hp : execRisiaAgreeRx false kind wave vals fill lat s = _)
  · exact (cell_bad _ s hr hp : execRisiaDescRx false d s = _)
  · exact (cell_bad _ s hr hp : execRisiaDigestRx false wave digest s = _)
  · exact (cell_bad _ s hr hp : execRisiaControlRx false vals s = _)
  · exact (cell_bad _ s hr hp : execRisiaBulkRx false kind total off bytes s = _)
  · exact (cell_bad _ s hr hp : execRisiaTimeRx false err s = _)

/-- Settles O47, cell by cell. -/
theorem pairLinkRowsComplete : Obligations.PairLinkRowsComplete := by
  intro s hr hp
  refine ⟨fun serial est st act mark lane wave bind flags kind vals fill lat d digest total off bytes err =>
      badCells_counted s hr hp serial est st act mark lane wave bind flags kind vals fill lat d digest total off bytes err,
    fun serial est st act mark => execRisiaHelloRx_completes serial est st act mark s hr hp,
    fun lane st act wave bind flags => execRisiaHeartbeatRx_completes lane st act wave bind flags s hr hp,
    fun kind wave vals fill lat => execRisiaAgreeRx_waits kind wave vals fill lat s hr hp, fun d ht => ?_,
    fun wave digest => execRisiaDigestRx_matching wave digest s hr hp,
    fun w cause => execRisiaControlRx_handover w cause s hr hp, execRisiaControlRx_handCell s hr hp,
    fun total off bytes => execRisiaBulkRx_snapshotWave total off bytes s hr hp,
    fun err => execRisiaTimeRx_in_step err s hr hp, execPairHeartbeatTx_completes s hr hp⟩
  exact (cell_good _ s hr hp).trans (congrArg Host.Outcome.next (if_pos ht))

end Sys2Proof.Machine
end

section
/-! PROOFS. The slalom rotation (R172 to R177): a swap of slices, a slice's removal, the end of a mismatch; then its rows. -/

namespace Sys2Proof.Machine
open Sys2Proof

theorem detInForce_of_hlt {s t : State} (h : t.hlt = s.hlt) (d : Nat) : detInForce t d = detInForce s d := by
  rw [detInForce, detInForce, h]

/-- A swap marks the streams that the input feeds, and nothing else (R313). -/
theorem noteSwap_eq (input : Nat) (s : State) : ∃ tw, noteSwap input s = { s with acq := { s.acq with tw := tw } } := by
  refine List.foldlRecOn (motive := fun (t : State) => ∃ tw, t = { s with acq := { s.acq with tw := tw } }) _ _ ⟨s.acq.tw, rfl⟩
    fun t ⟨tw, ht⟩ m _ => ?_
  dsimp only
  split
  · subst ht
    exact ⟨_, rfl⟩
  · exact ⟨tw, ht⟩

theorem serveBy_eq (input slice : Nat) (s : State) : ∃ tw, serveBy input slice s =
    { s with acq := { s.acq with serving := putAt 16 s.acq.serving input slice, tw := tw } } := noteSwap_eq input _

theorem serveBy_removed (input slice : Nat) (s : State) : (serveBy input slice s).acq.removed = s.acq.removed := by
  obtain ⟨tw, h⟩ := serveBy_eq input slice s
  rw [h]

theorem serveBy_serving (input slice : Nat) (s : State) :
    (serveBy input slice s).acq.serving = putAt 16 s.acq.serving input slice := by
  obtain ⟨tw, h⟩ := serveBy_eq input slice s
  rw [h]

theorem removeSlice_only (k : Nat) (s : State) : Only [.acq, .evr] s (removeSlice k s) :=
  (State.with_acq_only s _).seq (submit_only _ _ _ _)

theorem removeSlice_acq (k : Nat) (s : State) : (removeSlice k s).acq = { s.acq with
    removed := setB s.acq.removed k true, removedCnt := s.acq.removedCnt + 1, rotState := 2, spare := 31 } :=
  submit_acq _ _ _ _

theorem removeSlice_inForce (k d : Nat) (s : State) : detInForce (removeSlice k s) d = detInForce s d :=
  detInForce_of_hlt ((removeSlice_only k s).same .hlt (by decide)) d

theorem fireDetOnceP_acq (d v : Nat) (l : List (List Byte)) (s : State) : (fireDetOnceP d v l s).acq = s.acq :=
  (fireDetOnceP_only d v l s).same .acq (by decide)

theorem fireDetOnceP_inForce (d v : Nat) (l : List (List Byte)) (s : State) : detInForce (fireDetOnceP d v l s) d = true := by
  simp [fireDetOnceP, detInForce]

/-! The rows of a step (R172 to R175). -/

theorem execRotationStepStart_begins (again : Bool) (s : State) (hr : rotates s = true) (hw : stepWave s = 0)
    (ha : again = ((s.acq.rotVoid && decide (s.acq.voidRun < 16)) || s.acq.rotPhase != .disconnect)) :
    execRotationStepStart s = .next { s with acq := { s.acq with
      rotStarted := true, rotPhase := .cal, rotVoid := false, voidRun := if again then s.acq.voidRun else 0
      rotInput := if !s.acq.rotStarted then 0 else if again then s.acq.rotInput else (s.acq.rotInput + 1) % paiCount s } } := by
  subst ha
  exact if_neg (by simp [hr, hw])

/-- At wave 320 of a started step the calibration is judged. -/
theorem execRotationCalEnd_judges (gain ofs : Int) (resid : List Int) (s : State) (hr : rotates s = true)
    (hs : s.acq.rotStarted = true) (hp : s.acq.rotPhase = .cal) (hw : stepWave s = 320) :
    execRotationCalEnd gain ofs resid s =
      if calPass gain ofs resid && !(s.hlt.inj.any (fun j => j.det == 0x02 && j.applied)) then
        .next { s with acq := { s.acq with
          gain := putAt 17 s.acq.gain (spareOf s) gain, ofs := putAt 17 s.acq.ofs (spareOf s) ofs, rotPhase := .connect } }
      else .next (removeSlice (spareOf s) (fireDetOnce 0x02 (spareOf s) s)) :=
  if_neg (by simp [hr, hs, hp, hw])

/-- A calibration out of its limits removes the spare (R173, R177). -/
theorem calFail_completes (k : Nat) (s : State) : ∃ t, (.next (removeSlice k (fireDetOnce 0x02 k s)) : Res) = .next t ∧
    Only [.acq, .evr, .hlt] s t ∧ t.acq.removed = setB s.acq.removed k true ∧ t.acq.rotState = 2 ∧ t.acq.spare = 31 ∧
    detInForce t 0x02 = true := by
  refine ⟨_, rfl, ((fireDetOnce_only 0x02 k s).seq (removeSlice_only k _)).mono (by decide), ?_, ?_, ?_, ?_⟩
  · rw [removeSlice_acq, fireDetOnce_acq]
  · rw [removeSlice_acq]
  · rw [removeSlice_acq]
  · rw [removeSlice_inForce, fireDetOnce_inForce]

/-- Before wave 1 360 of a step with both slices in parallel, the step is decided. -/
theorem execRotationDecision_voided (sumD sumY : Nat) (s : State) (hr : rotates s = true) (hp : s.acq.rotPhase = .parallel)
    (hw : stepWave s = 1360) (hv : s.acq.rotVoid = true) : execRotationDecision sumD sumY s = .next (voidStep s) :=
  (if_neg (by simp [hr, hp, hw])).trans (if_pos hv)

/-- The engine once the spare serves the step's input; the slice relieved is the next spare (R174). -/
def slicesSwapped (s : State) : State :=
  { serveBy s.acq.rotInput (spareOf s) s with acq := { (serveBy s.acq.rotInput (spareOf s) s).acq with
    spare := s.acq.serving.getD s.acq.rotInput 31, rotPhase := .disconnect, voidRun := 0 } }

/-- The engine once a difference `d` beyond the limit is to be resolved (R176). -/
def resolutionBegun (d lim : Nat) (s : State) : State :=
  { resolveMark s.acq.rotInput true s with acq := { (resolveMark s.acq.rotInput true s).acq with
    rotState := 1, rotPhase := .spareCheck, mismatch := (d / 1024, lim / 1024), resSpare := spareOf s, resChecks := ([], [])
    voidRun := 0 } }

theorem slicesSwapped_completes (s : State) : Only [.acq] s (slicesSwapped s) ∧ (slicesSwapped s).acq.rotPhase = .disconnect ∧
    (slicesSwapped s).acq.serving = putAt 16 s.acq.serving s.acq.rotInput (spareOf s) ∧
    (slicesSwapped s).acq.spare = s.acq.serving.getD s.acq.rotInput 31 := by
  obtain ⟨tw, h⟩ := serveBy_eq s.acq.rotInput (spareOf s) s
  rw [slicesSwapped, h]
  exact ⟨State.with_acq_only s _, rfl, rfl, rfl⟩

theorem execRotationDecision_measured (sumD sumY lim : Nat) (s : State) (hr : rotates s = true)
    (hp : s.acq.rotPhase = .parallel) (hw : stepWave s = 1360)
    (hl : lim = pv s 0x0511 0 0 2 840 * 1024 + pv s 0x0512 0 0 2 500 * isqrt (sumY * 1024) / 1000000)
    (hv : s.acq.rotVoid = false) (hi : injOn s 0x01 s.acq.rotInput = false) :
    execRotationDecision sumD sumY s = if isqrt (sumD * 1024) ≤ lim then .next (slicesSwapped s)
      else .next (resolutionBegun (isqrt (sumD * 1024)) lim s) := by
  have hd : ¬ injOn s 0x01 s.acq.rotInput = true := by simp [hi]
  rw [execRotationDecision]
  dsimp only
  rw [if_neg (by simp [hr, hp, hw]), if_neg (by simp [hv]), if_neg hd, ← hl]
  rfl

/-! The resolution of a mismatch (R176, R177). -/

theorem resolveMark_only (input : Nat) (on : Bool) (s : State) : Only [.acq] s (resolveMark input on s) :=
  State.with_acq_only s _

theorem mismatchEnd_only (outcome removed serving : Nat) (s : State) :
    Only [.acq, .evr, .hlt] s (mismatchEnd outcome removed serving s) :=
  (((resolveMark_only _ false s).seq (fireDetOnceP_only _ _ _ _)).seq (removeSlice_only _ _)).mono (by decide)

theorem mismatchEnd_acq (outcome removed serving : Nat) (s : State) : (mismatchEnd outcome removed serving s).acq =
    { (resolveMark s.acq.rotInput false s).acq with
      removed := setB s.acq.removed removed true, removedCnt := s.acq.removedCnt + 1, rotState := 2, spare := 31 } := by
  rw [mismatchEnd, removeSlice_acq, fireDetOnceP_acq]
  rfl

/-- SLICE_MISMATCH is raised, the slice removed, the rotation halted. -/
theorem mismatchEnd_completes (outcome removed serving : Nat) (s : State) :
    ∃ t, (.next (mismatchEnd outcome removed serving s) : Res) = .next t ∧ t.acq.rotState = 2 ∧ detInForce t 0x01 = true ∧
      t.acq.removed = setB s.acq.removed removed true ∧ t.acq.serving = s.acq.serving := by
  refine ⟨_, rfl, ?_, ?_, ?_, ?_⟩
  · rw [mismatchEnd_acq]
  · exact (removeSlice_inForce _ _ _).trans (fireDetOnceP_inForce _ _ _ _)
  · rw [mismatchEnd_acq]
  · rw [mismatchEnd_acq, resolveMark]

/-- The spare's check. -/
theorem execReferenceCheckDone_spare (resid : List Int) (s : State) (hr : running s = true) (hm : s.acq.rotState = 1)
    (hp : s.acq.rotPhase = .spareCheck) : execReferenceCheckDone resid s =
      if refPass resid then .next { s with acq := { s.acq with resChecks := (resid, []), rotPhase := .connect } }
      else .next (mismatchEnd 1 s.acq.resSpare (s.acq.serving.getD s.acq.rotInput 31)
        { s with acq := { s.acq with resChecks := (resid, []) } }) := by
  rw [execReferenceCheckDone]
  dsimp only
  rw [if_neg (by simp [hr, hm]), hp]

/-- The check of the slice that served: with both slices good, the input has its own back. -/
theorem execReferenceCheckDone_serving (resid : List Int) (s : State) (hr : running s = true) (hm : s.acq.rotState = 1)
    (hp : s.acq.rotPhase = .servingCheck) : execReferenceCheckDone resid s =
      if refPass resid then .next (mismatchEnd 3 s.acq.resSpare s.acq.spare (serveBy s.acq.rotInput s.acq.spare
        { s with acq := { s.acq with resChecks := (s.acq.resChecks.1, resid) } }))
      else .next (mismatchEnd 2 s.acq.spare s.acq.spare
        { s with acq := { s.acq with resChecks := (s.acq.resChecks.1, resid) } }) := by
  rw [execReferenceCheckDone]
  dsimp only
  rw [if_neg (by simp [hr, hm]), hp]

theorem execReferenceCheckDone_resolves (resid : List Int) (s : State) (hr : running s = true) (hm : s.acq.rotState = 1)
    (hp : s.acq.rotPhase = .servingCheck) :
    ∃ t, execReferenceCheckDone resid s = .next t ∧ t.acq.rotState = 2 ∧ detInForce t 0x01 = true ∧
      t.acq.removed = setB s.acq.removed (if refPass resid then s.acq.resSpare else s.acq.spare) true ∧
      t.acq.serving = (if refPass resid then putAt 16 s.acq.serving s.acq.rotInput s.acq.spare else s.acq.serving) := by
  rw [execReferenceCheckDone_serving resid s hr hm hp]
  split
  · obtain ⟨t, ht, state, inForce, removed, serving⟩ := mismatchEnd_completes 3 s.acq.resSpare s.acq.spare
      (serveBy s.acq.rotInput s.acq.spare { s with acq := { s.acq with resChecks := (s.acq.resChecks.1, resid) } })
    exact ⟨t, ht, state, inForce, by rw [removed, serveBy_removed], by rw [serving, serveBy_serving]⟩
  · exact mismatchEnd_completes 2 s.acq.spare s.acq.spare _

/-- The spare is connected: the slice that served the input goes to the reference bus. -/
theorem execSpareConnectDone_completes (s : State) (hr : running s = true) (hm : s.acq.rotState = 1)
    (hp : s.acq.rotPhase = .connect) : ∃ t, execSpareConnectDone s = .next t ∧ Only [.acq] s t ∧
      t.acq.rotPhase = .servingCheck ∧ t.acq.serving = putAt 16 s.acq.serving s.acq.rotInput s.acq.resSpare ∧
      t.acq.spare = s.acq.serving.getD s.acq.rotInput 31 := by
  obtain ⟨tw, h⟩ := serveBy_eq s.acq.rotInput s.acq.resSpare s
  rw [execSpareConnectDone]
  dsimp only
  rw [if_neg (by simp [hr, hm, hp]), h]
  exact ⟨_, rfl, State.with_acq_only s _, rfl, rfl, rfl⟩

/-- Settles O33, wave by wave of the step and check by check of the resolution. -/
theorem rotationRowsComplete : Obligations.RotationRowsComplete := by
  refine ⟨execRotationStepStart_begins, fun gain ofs resid s hr hs hp hw => ?_, fun sumD sumY lim d s hr hp hw hl hd => ?_,
    fun resid s hr hm => ?_⟩
  · have judged := execRotationCalEnd_judges gain ofs resid s hr hs hp hw
    refine ⟨fun hc hi => judged.trans (if_pos (by simp [hc, hi])), fun hc => ?_⟩
    obtain ⟨t, ht, done⟩ := calFail_completes (spareOf s) s
    exact ⟨t, judged.trans ((if_neg (by simp [hc])).trans ht), done⟩
  · subst hd
    have measured := execRotationDecision_measured sumD sumY lim s hr hp hw hl
    refine ⟨fun hv => ⟨_, execRotationDecision_voided sumD sumY s hr hp hw hv, voidStep_only s, ?_⟩,
      fun hv hle hi => ⟨_, (measured hv hi).trans (if_pos hle), slicesSwapped_completes s⟩,
      fun hv hlt hi => ⟨_, (measured hv hi).trans (if_neg (by omega)), State.with_acq_only s _, rfl, rfl, rfl, rfl⟩⟩
    rw [voidStep_acq, ← hv]
  · refine ⟨fun hp pass => ?_, fun hp fail => ?_, execReferenceCheckDone_resolves resid s hr hm,
      execSpareConnectDone_completes s hr hm⟩
    · exact ⟨_, (execReferenceCheckDone_spare resid s hr hm hp).trans (if_pos pass), State.with_acq_only s _, rfl, hm⟩
    · obtain ⟨t, ht, done⟩ := mismatchEnd_completes 1 s.acq.resSpare (s.acq.serving.getD s.acq.rotInput 31)
        { s with acq := { s.acq with resChecks := (resid, []) } }
      exact ⟨t, ((execReferenceCheckDone_spare resid s hr hm hp).trans (if_neg (by simp [fail]))).trans ht, done⟩

end Sys2Proof.Machine
end

section
/-! PROOFS. The measurement requests (R194, R237, R452) and the register writes of the graph scheduler, the travelling-wave
front end and the recorder (R241, R337, R477). -/

namespace Sys2Proof.Machine
open Sys2Proof

/-! ACC_SNAP (R194, R451). -/

/-- Kinds 0 to 2 are answered at once. -/
theorem execAccSnap_done (r : Req) (kind mask : Nat) (s : State) (hr : running s = true) (hm : mask < 2 ^ 16)
    (w : waits r false s = false) (hp : precheck r 0x0040 false (some (if kind < 3 then 0 else 1)) s = none) (hk : kind < 3) :
    execAccSnap r kind mask s = .next (respond r 0x0040 .ok false (doneRecords kind mask s) s) := by
  rw [execAccSnap, serveAs_served r _ false _ s _ w hp, if_neg (by omega), if_neg (by omega), if_neg (by simp [hr]; omega),
    if_pos hk]

/-- Kind 3 waits for a wave, in TWIN for one that both lanes take. -/
theorem execAccSnap_wave (r : Req) (mask : Nat) (s : State) (hr : running s = true) (hm : mask < 2 ^ 16)
    (w : waits r false s = false) (hp : precheck r 0x0040 false (some 1) s = none) (hs : pairRefuses s = false) :
    execAccSnap r 3 mask s = .next (if s.pr.st = .twin then schedTwin 10 (mask :: reqCode r) s
      else { s with acq := { s.acq with snapReqs := s.acq.snapReqs ++ [(some r, mask)] } }) := by
  refine (congrArg Host.Outcome.next (serveAs_served r _ false (some 1) s _ w hp)).trans ?_
  rw [if_neg (by omega), if_neg (by simp), if_neg (by simp [hr, hs]), if_neg (by simp), if_neg (by simp)]

/-- Kind 4 waits for the next process frame. -/
theorem execAccSnap_process (r : Req) (mask : Nat) (s : State) (hr : running s = true) (hu : hasUpc s = true)
    (w : waits r false s = false) (hp : precheck r 0x0040 false (some 1) s = none) :
    execAccSnap r 4 mask s = .next { s with upc := { s.upc with snapReqs := s.upc.snapReqs ++ [(r, mask)] } } := by
  refine (congrArg Host.Outcome.next (serveAs_served r _ false (some 1) s _ w hp)).trans ?_
  rw [if_neg (by omega), if_neg (by simp [hu]), if_neg (by simp [hr]), if_neg (by simp), if_pos rfl]

/-! UPC_URGENT and JOB_SUBMIT. -/

theorem execUpcUrgent_pends (r : Req) (chan meas filter rate settle : Nat) (s : State) (h : Served r 0x0041 s)
    (hu : hasUpc s = true) (hc : chan ≤ 3) (hm : meas ≤ 4) (hf : filter ≤ 2) (hr : rate ≤ 13) (hs : settle ≤ 65535)
    (up : s.upc.up = true) (free : urgFree s = true) :
    execUpcUrgent r chan meas filter rate settle s = .next { s with upc := { s.upc with
      urgPend := some { verify := false, req := r, chan := chan, meas := meas, filter := filter, rate := rate
                        settle := settle } } } := by
  rw [execUpcUrgent, upcUrgent, serve_served r _ s _ h, if_neg (by simp [hu]), if_neg (by omega), if_neg (by simp [up]),
    if_neg (by simp [free])]

theorem execJobSubmit_queues (r : Req) (set : Nat) (input : List Byte) (s : State) (h : Served r 0x0042 s)
    (hn : jobNodes s set ≠ []) (hl : input.length ≤ 4096) (he : hostEntry s = true) (hd : s.hlt.dieHigh ≠ 2) :
    execJobSubmit r set input s = .next (putJob set (some r) input (jobWave s set) 0 s) := by
  rw [execJobSubmit, serve_served r _ s _ h, if_neg (by simpa using hn), if_neg (by omega), if_neg (by simp [he, hd])]

/-! The register writes. -/

theorem execGsNodeSelWrite_selects (r : Req) (node : Nat) (s : State) (h : Served r 0x0011 s) :
    execGsNodeSelWrite r node s = .next (answerWrite r (if (nodeOf s (node % 4096)).isSome then .ok else .range)
      { s with gr := { s.gr with nodeSel := node % 4096 } }) := by
  rw [execGsNodeSelWrite, serveWrite_served r s _ h]
  rfl

/-- ACQ_TW_VMEAS is a register where the front end is present. -/
theorem regAt_vmeas (s : State) (h : regAbsent s 0x20820 = false) : (regAt s 0x20820).isSome = true := by
  simp [regAt, h, acqRead, twRead]

theorem writeWord_vmeas (v : Nat) (s : State) (h : regAbsent s 0x20820 = false) :
    writeWord 0x20820 v s = vmeasWrite v s := by
  rw [writeWord, if_neg (by simp [h]), if_neg (by simp [Option.isSome_iff_ne_none.mp (regAt_vmeas s h)]), if_neg (by decide),
    if_pos rfl]

theorem vmeasWrite_arms (k : Nat) (s : State) : vmeasWrite (2 * (k % 2) + 1) s =
    ({ s with acq := { s.acq with vmTerm := k % 2, vmState := 1, vmAt := td0 s } }, .ok) := by
  have term : getFld (2 * (k % 2) + 1) 1 1 = k % 2 := by simp only [getFld]; omega
  rw [vmeasWrite, term, if_pos (by omega)]
  rfl

theorem execTwVmeasArm_arms (r : Req) (k : Nat) (s : State) (h : Served r 0x0011 s) (ha : regAbsent s 0x20820 = false) :
    execTwVmeasArm r k s = .next (answerWrite r .ok
      { s with acq := { s.acq with vmTerm := k % 2, vmState := 1, vmAt := td0 s } }) :=
  execWrite_served r _ s _ h ((writeWord_vmeas _ s ha).trans (vmeasWrite_arms k s))

/-- Settles O36, request by request and register by register. -/
theorem measurementRequestsComplete : Obligations.MeasurementRequestsComplete := by
  refine ⟨fun r kind mask s hr hm w hp => ⟨execAccSnap_done r kind mask s hr hm w hp, fun hk hs ht => ?_, fun hk hs ht => ?_⟩,
    fun r mask s hr hu w hp => execAccSnap_process r mask s hr hu w hp, execUpcUrgent_pends, execJobSubmit_queues,
    execGsNodeSelWrite_selects, execTwVmeasArm_arms, fun r mask s h => execWrite_served r _ s _ h rfl⟩
  · subst hk
    exact (execAccSnap_wave r mask s hr hm w hp hs).trans (congrArg _ (if_neg ht))
  · subst hk
    exact (execAccSnap_wave r mask s hr hm w hp hs).trans (congrArg _ (if_pos ht))

end Sys2Proof.Machine
end

section
/-! PROOFS. The scheduling of logic tasks (R362 to R366): what a release, a start, a trigger and a resumption leave of the
logic engine; then release, cycle start, triggers and END. -/

namespace Sys2Proof.Machine
open Sys2Proof

/-! The task table. -/

theorem find?_updFirst {α : Type} (p : α → Bool) (y : α) (l : List α) (hy : p y = true) (h : (l.find? p).isSome = true) :
    (updFirst p (fun _ => y) l).find? p = some y := by
  induction l with
  | nil => simp at h
  | cons x xs ih =>
    rw [updFirst]
    cases hx : p x with
    | true => simp [hy]
    | false =>
      rw [if_neg (by simp), List.find?_cons_of_neg (by simp [hx])]
      exact ih (by simpa [List.find?_cons, hx] using h)

theorem mem_updFirst {α : Type} {p : α → Bool} {x y : α} {l : List α} (h : x ∈ updFirst p (fun _ => y) l) :
    x = y ∨ x ∈ l := by
  induction l with
  | nil => exact .inr h
  | cons z zs ih =>
    rw [updFirst] at h
    split at h
    · obtain rfl | h := List.mem_cons.mp h
      · exact .inl rfl
      · exact .inr (.tail _ h)
    · obtain rfl | h := List.mem_cons.mp h
      · exact .inr (.head _)
      · exact (ih h).imp_right (.tail _)

theorem taskOf_num {s : State} {n : Nat} {x : Task} (h : taskOf s n = some x) : x.num = n := by
  simpa using List.find?_some h

theorem taskOf_of_tasks {s t : State} (h : t.le.tasks = s.le.tasks) (n : Nat) : taskOf t n = taskOf s n := by
  rw [taskOf, taskOf, h]

theorem taskOf_putTask (x y : Task) (s : State) (h : taskOf s y.num = some x) : taskOf (putTask y s) y.num = some y :=
  find?_updFirst _ y _ (by simp) (by rw [taskOf] at h; simp [h])

/-! What scheduling may do. -/

/-- The logic engine beside its tasks and the triggers queued for them. -/
def besideTasks (s : State) : Logic := { s.le with tasks := [], trigQ := [] }

/-- Scheduling moves tasks and queued triggers, and in the pair tells the standby or uses its records; it releases no task. -/
structure Schedules (s t : State) : Prop where
  only : Only [.le, .pr] s t
  beside : besideTasks t = besideTasks s
  released : ∀ x ∈ t.le.tasks, x.st = .released → x ∈ s.le.tasks

theorem Schedules.refl (s : State) : Schedules s s := ⟨Only.refl _ s, rfl, fun _ hx _ => hx⟩

theorem Schedules.trans {a b c : State} (h : Schedules a b) (k : Schedules b c) : Schedules a c :=
  ⟨h.only.trans k.only, k.beside.trans h.beside, fun x hx hr => h.released x (k.released x hx hr) hr⟩

theorem Schedules.of_pr {s t : State} (h : Only [.pr] s t) : Schedules s t := by
  have le : t.le = s.le := h.same .le (by decide)
  exact ⟨h.mono (by decide), by rw [besideTasks, besideTasks, le], fun x hx _ => by rwa [le] at hx⟩

theorem Schedules.with_trigQ (q : List Trig) (s : State) : Schedules s { s with le := { s.le with trigQ := q } } :=
  ⟨(State.with_le_only s _).mono (by decide), rfl, fun _ hx _ => hx⟩

theorem putTask_schedules (y : Task) (s : State) (h : y.st ≠ .released) : Schedules s (putTask y s) :=
  ⟨(State.with_le_only s _).mono (by decide), rfl, fun _ hx hr =>
    (mem_updFirst hx).resolve_left fun e => h (e ▸ hr)⟩

theorem sendLogic_only (vals : List Nat) (s : State) : Only [.pr] s (sendLogic vals s) := sendAgree_only 5 _ vals s

theorem sendLogic_schedules (vals : List Nat) (s : State) : Schedules s (sendLogic vals s) := .of_pr (sendLogic_only vals s)

theorem agreeUsed_schedules (kind : Nat) (s : State) : Schedules s (agreeUsed kind s) := .of_pr (State.with_pr_only s _)

theorem startWith_schedules (t : Task) (clk pw w0 : Nat) (nb nw : SMap) (s : State) :
    Schedules s (startWith t clk pw w0 nb nw s) := putTask_schedules _ s (by simp)

theorem preempt_schedules (s : State) : Schedules s (preempt s) := by
  unfold preempt
  split
  · exact putTask_schedules _ s (by simp)
  · exact .refl s

theorem startTask_schedules (t : Task) (s : State) : Schedules s (startTask t s) :=
  (sendLogic_schedules _ s).trans ((preempt_schedules _).trans (startWith_schedules _ _ _ _ _ _ _))

theorem resumeTask_schedules (t : Task) (s : State) : Schedules s (resumeTask t s) :=
  (sendLogic_schedules _ s).trans (putTask_schedules _ _ (by simp))

theorem dispatchOwn_schedules (s : State) : Schedules s (dispatchOwn s) := by
  unfold dispatchOwn
  dsimp only
  split
  · split
    · exact startTask_schedules _ s
    · exact .refl s
  · split
    · split
      · exact resumeTask_schedules _ s
      · split
        · exact .refl s
        · exact startTask_schedules _ s
    · exact .refl s

theorem dispatchAgreed_schedules (s : State) : Schedules s (dispatchAgreed s) := by
  have used := agreeUsed_schedules 5 s
  unfold dispatchAgreed
  split
  · split
    · split
      · exact used.trans ((preempt_schedules _).trans (startWith_schedules _ _ _ _ _ _ _))
      · exact .refl s
    · exact .refl s
  · split
    · split
      · exact used.trans (putTask_schedules _ _ (by simp))
      · exact .refl s
    · exact .refl s
  · exact .refl s

theorem dispatch_schedules (s : State) : Schedules s (dispatch s) := by
  unfold dispatch
  split
  · exact .refl s
  · split
    · exact dispatchAgreed_schedules s
    · exact dispatchOwn_schedules s

theorem pumpTriggers_schedules (s : State) : Schedules s (pumpTriggers s) := by
  unfold pumpTriggers
  split
  · exact .refl s
  · refine List.foldlRecOn _ _ (.refl s) fun a ha t _ => ha.trans ?_
    dsimp only
    split
    · exact .refl a
    · split
      · exact .refl a
      · exact (putTask_schedules _ a (by simp)).trans (.with_trigQ _ _)

/-- The next cycle starts after the idle event tasks have taken their triggers. -/
theorem runNext_schedules (s : State) : Schedules s (dispatch (pumpTriggers s)) :=
  (pumpTriggers_schedules s).trans (dispatch_schedules _)

/-! CYCLIC_TASK_RELEASE (R362, R366). -/

theorem sendLogic_eq (vals : List Nat) (s : State) : ∃ p, sendLogic vals s = { s with pr := p } := by
  unfold sendLogic sendAgree
  split
  · exact ⟨_, rfl⟩
  · exact ⟨s.pr, rfl⟩

/-- A release finds the task idle. -/
theorem releaseTask_idle (x : Task) (n t1 t0 : Nat) (s : State) (hr : x.num ≠ rioTask s) (hm : s.le.mode = .run)
    (hi : x.st = .idle) : releaseTask x n t1 t0 s = putTask { x with
      relN := some n, st := .released, relT1 := t1, relT0 := t0, deadline := deadlineFrom s x.num t0, trig := 0 } s := by
  rw [releaseTask]
  dsimp only
  rw [if_neg hr, if_pos ⟨hm, hi⟩]

/-- At a slot of the task's grid, with no deadline of the task due at the same instant. -/
theorem execCyclicTaskRelease_due (task : Nat) (x : Task) (c : TaskCfg) (s : State) (hx : taskOf s task = some x)
    (hc : taskCfg s task = some c) (h8 : task < 8) (hh : s.le.halted = false) (hf : followsAgreed s = false)
    (hs : slotReleases s c (gridSlot s).1 = true) (hn : x.relN ≠ some (gridSlot s).1)
    (ho : (overdue s).any (fun x => x.2 == task) = false) :
    execCyclicTaskRelease task s = .next (releaseTask x (gridSlot s).1 (gridSlot s).2 (t0Of s (gridSlot s).2)
      (sendLogic [0, task, (gridSlot s).1, (gridSlot s).2, t0Of s (gridSlot s).2] s)) := by
  rw [execCyclicTaskRelease, hx, hc]
  dsimp only
  rw [if_neg (by simp [hh, h8]), if_neg (by simp [hf]), if_pos ⟨hs, hn⟩, if_neg (by simp [ho]), hx]
  rfl

theorem execCyclicTaskRelease_releases (task : Nat) (x : Task) (c : TaskCfg) (s : State) (hx : taskOf s task = some x)
    (hc : taskCfg s task = some c) (h8 : task < 8) (hh : s.le.halted = false) (hf : followsAgreed s = false)
    (hs : slotReleases s c (gridSlot s).1 = true) (hn : x.relN ≠ some (gridSlot s).1) (hm : s.le.mode = .run)
    (hi : x.st = .idle) (hr : x.num ≠ rioTask s) (ho : (overdue s).any (fun x => x.2 == task) = false) :
    ∃ t y, execCyclicTaskRelease task s = .next t ∧ taskOf t task = some y ∧ y.st = .released ∧
      y.relN = some (gridSlot s).1 ∧ y.relT1 = (gridSlot s).2 ∧ y.trig = 0 ∧ y.outQ = x.outQ ∧ t.le.m = s.le.m ∧
      t.le.w = s.le.w := by
  rw [execCyclicTaskRelease_due task x c s hx hc h8 hh hf hs hn ho]
  obtain ⟨p, hp⟩ := sendLogic_eq [0, task, (gridSlot s).1, (gridSlot s).2, t0Of s (gridSlot s).2] s
  obtain rfl := taskOf_num hx
  rw [hp, releaseTask_idle x _ _ _ { s with pr := p } hr hm hi]
  exact ⟨_, _, rfl, taskOf_putTask x { x with
      relN := some (gridSlot s).1, st := .released, relT1 := (gridSlot s).2, relT0 := t0Of s (gridSlot s).2
      deadline := deadlineFrom { s with pr := p } x.num (t0Of s (gridSlot s).2), trig := 0 } { s with pr := p } hx,
    rfl, rfl, rfl, rfl, rfl, rfl, rfl⟩

/-! LOGIC_CYCLE_READY (R364, R365). -/

/-- The engine with every cycle released 16 us or more ago ready. -/
def cyclesReadied (s : State) : State :=
  { s with le := { s.le with
    tasks := updAll (fun (t : Task) => t.st == .released && due s t.relT0 (usT 16)) (fun t => { t with st := .ready }) s.le.tasks } }

theorem cyclesReadied_recent (x : Task) (s : State) (hx : x ∈ (cyclesReadied s).le.tasks) (hr : x.st = .released) :
    due s x.relT0 (usT 16) = false := by
  obtain ⟨y, -, rfl⟩ := List.mem_map.mp hx
  split at hr
  · simp at hr
  · rename_i early
    rw [if_neg early]
    simpa [hr] using early

theorem execLogicCycleReady_completes (s : State) : ∃ t, execLogicCycleReady s = .next t ∧ Only [.le, .pr] s t ∧
    (∀ x ∈ t.le.tasks, x.st = .released → due s x.relT0 (usT 16) = false) ∧ t.le.q = s.le.q := by
  have next := runNext_schedules (cyclesReadied s)
  have q := congrArg Logic.q next.beside
  exact ⟨_, rfl, ((State.with_le_only s _).mono (by decide)).trans next.only,
    fun x hx hr => cyclesReadied_recent x s (next.released x hx hr) hr, q⟩

/-! EVENT_TASK_TRIGGER (R363). -/

/-- A trigger queued, or dropped and counted, leaves the list, the memory and the program. -/
theorem queueTrig_le (g : Trig) (s : State) : (queueTrig g s).le.trigIn = s.le.trigIn ∧ (queueTrig g s).le.m = s.le.m ∧
    (queueTrig g s).le.w = s.le.w ∧ (queueTrig g s).le.program = s.le.program := by
  unfold queueTrig
  split
  · exact ⟨rfl, rfl, rfl, rfl⟩
  · rw [submit_le]
    exact ⟨rfl, rfl, rfl, rfl⟩

/-- The oldest trigger has left the list; memory and program stand. -/
def TriggerTaken (rest : List Trig) (s t : State) : Prop :=
  t.le.trigIn = rest ∧ t.le.m = s.le.m ∧ t.le.w = s.le.w ∧ t.le.program = s.le.program

theorem triggerQueued_taken (g : Trig) (rest : List Trig) (v : List Nat) (s : State) :
    TriggerTaken rest s (dispatch (pumpTriggers (queueTrig g
      (sendLogic v { s with le := { s.le with trigIn := rest } })))) := by
  obtain ⟨p, hp⟩ := sendLogic_eq v { s with le := { s.le with trigIn := rest } }
  rw [hp]
  obtain ⟨trigIn, m, w, program⟩ := queueTrig_le g { s with le := { s.le with trigIn := rest }, pr := p }
  have next := (runNext_schedules (queueTrig g { s with le := { s.le with trigIn := rest }, pr := p })).beside
  exact ⟨(congrArg Logic.trigIn next).trans trigIn, (congrArg Logic.m next).trans m, (congrArg Logic.w next).trans w,
    (congrArg Logic.program next).trans program⟩

theorem execEventTaskTrigger_takes (g : Trig) (rest : List Trig) (s : State) (hf : followsAgreed s = false)
    (hq : s.le.trigIn = g :: rest) : Answers (TriggerTaken rest s) (execEventTaskTrigger s) := by
  rw [execEventTaskTrigger, if_neg (by simp [hf]), hq]
  refine Answers.ite (fun _ => .next ⟨rfl, rfl, rfl, rfl⟩) fun _ => Answers.ite (fun _ => .next ?_) fun _ =>
    .next (triggerQueued_taken g rest _ s)
  rw [TriggerTaken, submit_le]
  exact ⟨rfl, rfl, rfl, rfl⟩

/-! END (R365). -/

/-- The logic engine beside its W words and the mark that retained state has changed. -/
def besideWords (s : State) : Logic := { s.le with w := [], dirtySince := none }

theorem besideWords_of_only {ps : List Part} {s t : State} (h : Only ps s t) (k : Part.le ∉ ps) : besideWords t = besideWords s := by
  have le : t.le = s.le := h.same .le k
  rw [besideWords, besideWords, le]

theorem armLaunch_only (o : Owner) (e : Nat) (v : LaunchVal) (s : State) : Only [.tu] s (armLaunch o e v s).1 := by
  unfold armLaunch
  split
  · exact State.with_tu_only s _
  · exact Only.refl _ s

theorem cancelLaunch_only (o : Owner) (e : Nat) (s : State) : Only [.tu] s (cancelLaunch o e s).1 := by
  unfold cancelLaunch
  split
  · exact Only.refl _ s
  · split
    · exact Only.refl _ s
    · split
      · exact updLaunch_only _ _ s
      · exact updLaunch_only _ _ s

theorem launchRefused_only (st : Status) (e : Nat) (s : State) : Only [.evr] s (launchRefused st e s) :=
  Only.ite _ (Only.refl _ s) (submit_only _ _ _ s)

/-- A request writes its status word, and of the logic engine nothing else (R361). -/
theorem passReq_besideWords (s : State) (r : Bool × Nat × LaunchVal × Nat) : besideWords (passReq s r) = besideWords s := by
  obtain ⟨arm, entry, v, w⟩ := r
  cases arm with
  | true =>
    have armed : besideWords (armLaunch .logic entry v s).1 = besideWords s :=
      besideWords_of_only (armLaunch_only .logic entry v s) (by decide)
    exact (besideWords_of_only (launchRefused_only _ _ _) (by decide)).trans armed
  | false =>
    have cancelled : besideWords (if entry < 64 then cancelLaunch .logic entry s else (s, .range)).1 = besideWords s := by
      split
      · exact besideWords_of_only (cancelLaunch_only .logic entry s) (by decide)
      · rfl
    exact (besideWords_of_only (launchRefused_only _ _ _) (by decide)).trans cancelled

/-- The engine once a cycle's outputs, publications and P points are passed on. -/
def outputsPassed (t : Task) (s : State) : State :=
  markDirty { s with
    le := { s.le with
      q := passQ t s.le.q, nb := passBits t.outNb s.le.nb, nw := passWords t.outNw s.le.nw
      firstDone := if s.le.firstDone.contains t.num then s.le.firstDone else t.num :: s.le.firstDone }
    gr := { s.gr with lBitN := passBits t.outPb s.gr.lBitN, lWordN := passWords t.outPw s.gr.lWordN }
    rio := { s.rio with ended := s.rio.ended || t.num == rioTask s } }

/-- The engine once the cycle's launch requests are passed on as well, and the digest has taken the cycle (R542). -/
def requestsPassed (t : Task) (s : State) : State :=
  digNote 5 (endBytes t (outputsPassed t s)) (t.reqs.foldl passReq (outputsPassed t s))

theorem requestsPassed_le (t : Task) (s : State) : (requestsPassed t s).le.tasks = s.le.tasks ∧
    (requestsPassed t s).le.mode = s.le.mode ∧ (requestsPassed t s).le.q = passQ t s.le.q ∧
    (requestsPassed t s).le.m = s.le.m := by
  have passed : besideWords (requestsPassed t s) = besideWords (outputsPassed t s) :=
    (besideWords_of_only (digNote_only _ _ _) (by decide)).trans (foldl_keeps besideWords _ _ _ passReq_besideWords)
  have tasks := congrArg Logic.tasks passed
  have mode := congrArg Logic.mode passed
  have q := congrArg Logic.q passed
  have m := congrArg Logic.m passed
  exact ⟨tasks, mode, q, m⟩

/-- A task whose cycle has ended after `us` microseconds. -/
def cycleOver (us : Nat) (t : Task) : Task :=
  { t with
    st := .idle, first := false, reqs := [], wroteQ := [], outNb := [], outNw := [], outPb := [], outPw := []
    last := us, max := max t.max us, cycles := satInc 32 t.cycles }

/-- The time of a cycle since its release, in microseconds. -/
def cycleTime (t : Task) (s : State) : Nat := nsAll (td0 s - t.relT0) / 1000 % 2 ^ 32

/-- The engine holds the next task of those mid-cycle. -/
def holdsNext (s : State) : State := { s with le := { s.le with stepping := none, heldTask := heldOf s } }

/-- In HOLD nothing runs after the cycle, and no output is released. -/
theorem taskEnd_hold (t : Task) (s : State) (h : s.le.mode = .hold) :
    taskEnd t s = holdsNext (putTask (cycleOver (cycleTime t s) t) (requestsPassed t s)) := by
  obtain ⟨-, mode, -, -⟩ := requestsPassed_le t s
  have held : (putTask (cycleOver (cycleTime t s) t) (requestsPassed t s)).le.mode = .hold := mode.trans h
  have same : checkReleased (putTask (cycleOver (cycleTime t s) t) (requestsPassed t s)) =
      putTask (cycleOver (cycleTime t s) t) (requestsPassed t s) := if_neg (by simp [held])
  exact (congrArg (fun (e : State) => if e.le.mode = .hold then holdsNext e else dispatch (pumpTriggers e)) same).trans
    (if_pos held)

theorem taskEnd_completes (t z : Task) (s : State) (h : s.le.mode = .hold) (hz : taskOf s t.num = some z) :
    ∃ u y, (.next (taskEnd t s) : Res) = .next u ∧ taskOf u t.num = some y ∧ y.st = .idle ∧ y.first = false ∧
      y.cycles = satInc 32 t.cycles ∧ u.le.stepping = none ∧ u.le.q = passQ t s.le.q ∧ u.le.m = s.le.m := by
  obtain ⟨tasks, -, q, m⟩ := requestsPassed_le t s
  have listed : taskOf (requestsPassed t s) t.num = some z := (taskOf_of_tasks tasks t.num).trans hz
  rw [taskEnd_hold t s h]
  exact ⟨_, _, rfl, taskOf_putTask z (cycleOver (cycleTime t s) t) _ listed, rfl, rfl, rfl, rfl, q, m⟩

theorem taskOf_of_atInstr_hold {s : State} {op sp a : Nat} {x : Task} (h : atInstr s op sp a = some x)
    (hm : s.le.mode = .hold) : taskOf s x.num = some x := by
  have cur : curTask s = some x := by
    unfold atInstr at h
    split at h
    · split at h
      · split at h
        · rwa [← h]
        · simp at h
      · simp at h
    · simp at h
  unfold curTask at cur
  rw [hm] at cur
  split at cur
  · simp at cur
  · dsimp only at cur
    split at cur
    · rwa [taskOf_num cur]
    · simp at cur

theorem execLeEnd_hold (x : Task) (s : State) (h : atInstr s 0x75 0 0 = some x) (hm : s.le.mode = .hold) :
    ∃ t y, execLeEnd s = .next t ∧ taskOf t x.num = some y ∧ y.st = .idle ∧ y.first = false ∧ y.cycles = satInc 32 x.cycles ∧
      t.le.stepping = none ∧ t.le.q = passQ { x with icount := x.icount + 1 } s.le.q ∧ t.le.m = s.le.m := by
  obtain ⟨t, y, ended, done⟩ := taskEnd_completes { x with icount := x.icount + 1 } x
    { s with le := { s.le with brkSkip := false } } hm (taskOf_of_atInstr_hold h hm)
  exact ⟨t, y, by rw [execLeEnd, runEnd, h]; exact ended, done⟩

end Sys2Proof.Machine
end

section
/-! PROOFS. The force table's commands (R374, R375, R522): what an audit record committed first leaves; then the rows of the
logic cycle and the forces. -/

namespace Sys2Proof.Machine
open Sys2Proof

/-! An audit record is committed before its command acts (R522). Its entry may fire the recorder's units, and these raise
triggers: of the logic engine nothing else changes. -/

/-- The logic engine beside the triggers that have reached it. -/
def besideTrigIn (s : State) : Logic := { s.le with trigIn := [] }

theorem besideTrigIn_of_only {ps : List Part} {s t : State} (h : Only ps s t) (k : Part.le ∉ ps) :
    besideTrigIn t = besideTrigIn s := by
  have le : t.le = s.le := h.same .le k
  rw [besideTrigIn, besideTrigIn, le]

theorem raiseTrig_besideTrigIn (kind index edge t1 t0 : Nat) (s : State) :
    besideTrigIn (raiseTrig kind index edge t1 t0 s) = besideTrigIn s := by
  unfold raiseTrig
  split
  · rfl
  · rfl

theorem fireUnit_besideTrigIn (u t1 : Nat) (s : State) : besideTrigIn (fireUnit u t1 s) = besideTrigIn s := by
  unfold fireUnit
  split
  · rfl
  · dsimp only
    split
    · exact raiseTrig_besideTrigIn _ _ _ _ _ _
    · exact (besideTrigIn_of_only ((sendAgree_only _ _ _ _).seq (unitActs_logs _ _ _ _).1) (by decide)).trans
        (raiseTrig_besideTrigIn _ _ _ _ _ _)

theorem patternUnits_besideTrigIn (t1 : Nat) (s : State) : besideTrigIn (patternUnits t1 s) = besideTrigIn s := by
  refine foldl_keeps besideTrigIn _ _ s fun s u => ?_
  split
  · split
    · dsimp only
      split
      · exact fireUnit_besideTrigIn _ _ _
      · rfl
    · rfl
  · rfl

theorem binSet_besideTrigIn (cls index : Nat) (st ok est gap : Bool) (t1 : Nat) (s : State) :
    besideTrigIn (binSet cls index st ok est gap t1 s) = besideTrigIn s := by
  unfold binSet
  dsimp only
  split
  · rfl
  · split
    · rfl
    · exact patternUnits_besideTrigIn t1 _

theorem binsClear_besideTrigIn (d : Option Nat) (t1 : Nat) (s : State) :
    besideTrigIn (binsClear d t1 s) = besideTrigIn s := by
  refine foldl_keeps besideTrigIn _ _ s fun s d => ?_
  split
  · rfl
  · exact binSet_besideTrigIn _ _ _ _ _ _ _ s

theorem recEvent_besideTrigIn (e : Event) (s : State) : besideTrigIn (recEvent e s) = besideTrigIn s := by
  refine (binsClear_besideTrigIn _ _ _).trans ?_
  split
  · rfl
  · have fired := fun us t1 a => foldl_keeps besideTrigIn _ us a fun a u => fireUnit_besideTrigIn u t1 a
    dsimp only
    split
    · exact ((binSet_besideTrigIn _ _ _ _ _ _ _ _).trans (binSet_besideTrigIn _ _ _ _ _ _ _ _)).trans (fired _ _ _)
    · exact (binSet_besideTrigIn _ _ _ _ _ _ _ _).trans (fired _ _ _)

/-- Before the recorder starts, the record is held. -/
theorem auditFirst_not_started (b : Block) (session code value : Nat) (parts : List (List Byte)) (s : State)
    (h : s.evr.started = false) : ∃ e, auditFirst b session code value parts s = emit b e s :=
  ⟨_, if_pos (by simp [h])⟩

/-- What is pending is committed, then the record itself. -/
theorem auditFirst_started (b : Block) (session code value : Nat) (parts : List (List Byte)) (s : State)
    (h : s.evr.started = true) : ∃ e, auditFirst b session code value parts s =
      commitAll (recEvent e (enterEvent e (writeLost (commitAll s)))) :=
  ⟨_, if_neg (by simp [h])⟩

theorem auditFirst_only (b : Block) (session code value : Nat) (parts : List (List Byte)) (s : State) :
    Only [.evr, .cmd, .pads, .dr, .le, .pr, .gr] s (auditFirst b session code value parts s) := by
  cases h : s.evr.started with
  | false =>
    obtain ⟨e, he⟩ := auditFirst_not_started b session code value parts s h
    rw [he]
    exact (emit_only b e s).mono (by decide)
  | true =>
    obtain ⟨e, he⟩ := auditFirst_started b session code value parts s h
    rw [he]
    exact (((((commitAll_only s).seq (writeLost_logs _).1).seq (enterEvent_logs e _).1).seq (recEvent_logs e _).1).seq
      (commitAll_only _)).mono (by decide)

theorem auditFirst_besideTrigIn (b : Block) (session code value : Nat) (parts : List (List Byte)) (s : State) :
    besideTrigIn (auditFirst b session code value parts s) = besideTrigIn s := by
  cases h : s.evr.started with
  | false =>
    obtain ⟨e, he⟩ := auditFirst_not_started b session code value parts s h
    rw [he]
    exact besideTrigIn_of_only (emit_only b e s) (by decide)
  | true =>
    obtain ⟨e, he⟩ := auditFirst_started b session code value parts s h
    have entered : Only [.evr, .cmd, .pads] s (enterEvent e (writeLost (commitAll s))) :=
      (((commitAll_only s).seq (writeLost_logs _).1).seq (enterEvent_logs e _).1).mono (by decide)
    rw [he, besideTrigIn_of_only (commitAll_only _) (by decide), recEvent_besideTrigIn]
    exact besideTrigIn_of_only entered (by decide)

/-! FORCE_SET (R374, R375). -/

theorem refreshPads_only (s : State) : Only [.pads] s (refreshPads s) := State.with_pads_only s _

theorem applyForceSet_eq (point value session : Nat) (s : State) (h : forceRoom s point = true) :
    ∃ a, a = auditFirst .logic session 0x5007 point [] s ∧ applyForceSet point value session s =
      refreshPads { a with le := { a.le with
        forces := putForce ⟨point, value % 2 ^ 32, secOf (td1 a) % 2 ^ 32, session⟩ a.le.forces } } :=
  ⟨_, rfl, if_neg (by simp [h])⟩

theorem applyForceSet_completes (point value session : Nat) (s : State) (h : forceRoom s point = true) :
    (applyForceSet point value session s).le.forces =
      putForce ⟨point, value % 2 ^ 32, secOf (td1 s) % 2 ^ 32, session⟩ s.le.forces ∧
    (applyForceSet point value session s).le.q = s.le.q ∧ (applyForceSet point value session s).acq = s.acq ∧
    (applyForceSet point value session s).fio = s.fio := by
  obtain ⟨a, ha, eq⟩ := applyForceSet_eq point value session s h
  have only : Only [.evr, .cmd, .pads, .dr, .le, .pr, .gr] s a := ha ▸ auditFirst_only _ _ _ _ _ s
  have le : besideTrigIn a = besideTrigIn s := ha ▸ auditFirst_besideTrigIn _ _ _ _ _ s
  have forces := congrArg Logic.forces le
  have q := congrArg Logic.q le
  have acq : a.acq = s.acq := only.same .acq (by decide)
  have fio : a.fio = s.fio := only.same .fio (by decide)
  have time : td1 a = td1 s := congrArg (fun u : TimeUnit => u.d1.t) (only.same .tu (by decide))
  rw [eq, ← time, show s.le.forces = a.le.forces from forces.symm]
  exact ⟨rfl, q, acq, fio⟩

theorem execForceSet_enters (r : Req) (point value : Nat) (s : State) (h : Served r 0x0034 s) (hf : s.evr.freeze = none)
    (hp : pairRefuses s = false) (hc : changeAwaits s = false) (hs : forceStatus s point = .ok)
    (hr : forceRoom s point = true) (ht : s.pr.st ≠ .twin) : execForceSet r point value s =
      .next (answer r 0x0034 .ok (applyForceSet point value r.session s)) := by
  rw [execForceSet, serve_served r _ s _ h, if_neg (by simp [hf]), if_neg (by simp [hp, hc]), hs]
  dsimp only
  rw [if_neg (by simp [hr]), if_neg ht]

theorem execForceSet_completes (r : Req) (point value : Nat) (s : State) (h : Served r 0x0034 s) (hf : s.evr.freeze = none)
    (hp : pairRefuses s = false) (hc : changeAwaits s = false) (hs : forceStatus s point = .ok)
    (hr : forceRoom s point = true) (ht : s.pr.st ≠ .twin) : ∃ t, execForceSet r point value s = .next t ∧
      t.le.forces = putForce ⟨point, value % 2 ^ 32, secOf (td1 s) % 2 ^ 32, r.session⟩ s.le.forces ∧ t.le.q = s.le.q ∧
      t.acq = s.acq ∧ t.fio = s.fio := by
  refine ⟨_, execForceSet_enters r point value s h hf hp hc hs hr ht, ?_⟩
  rw [answer_le, answer_acq, answer_fio]
  exact applyForceSet_completes point value r.session s hr

/-! FORCE_CLEAR and FORCE_LIST (R375). -/

/-- The forces that a FORCE_CLEAR leaves. -/
def forcesLeft (point : Nat) (fs : List Force) : List Force :=
  if point = 0xFFFFFFFF then [] else fs.filter (fun (f : Force) => f.point != point)

theorem forcesLeft_sublist (point : Nat) (fs : List Force) : (forcesLeft point fs).Sublist fs := by
  unfold forcesLeft
  split
  · exact List.nil_sublist fs
  · exact List.filter_sublist

/-- Nothing is told where the table held no such force: it is then what is left. -/
theorem applyForceClear_completes (point session : Nat) (s : State) :
    Only [.le, .evr, .pads] s (applyForceClear point session s) ∧
    (applyForceClear point session s).le = { s.le with forces := forcesLeft point s.le.forces } := by
  have eq : applyForceClear point session s = if (forcesLeft point s.le.forces).length = s.le.forces.length then s
    else submitCmd .logic session 0x5008 point
      (refreshPads { s with le := { s.le with forces := forcesLeft point s.le.forces } }) := rfl
  rw [eq]
  split
  · rename_i same
    rw [(forcesLeft_sublist point s.le.forces).eq_of_length same]
    exact ⟨Only.refl _ s, rfl⟩
  · refine ⟨?_, submitCmd_le _ _ _ _ _⟩
    exact (((State.with_le_only s _).seq (refreshPads_only _)).seq (submitCmd_only _ _ _ _ _)).mono (by decide)

theorem execForceClear_completes (r : Req) (point : Nat) (s : State) (h : Served r 0x0035 s) (hp : pairRefuses s = false)
    (hc : changeAwaits s = false) (ht : s.pr.st ≠ .twin) : ∃ t, execForceClear r point s = .next t ∧
      Only [.le, .evr, .cmd, .pads] s t ∧ t.le = { s.le with
        forces := if point = 0xFFFFFFFF then [] else s.le.forces.filter (fun f => f.point != point) } := by
  obtain ⟨only, le⟩ := applyForceClear_completes point r.session s
  rw [execForceClear, serve_served r _ s _ h, if_neg (by simp [hp, hc]), if_neg ht]
  exact ⟨_, rfl, (only.seq (answer_only _ _ _ _)).mono (by decide), (answer_le _ _ _ _).trans le⟩

theorem execForceList_answers (r : Req) (first : Nat) (s : State) (h : Served r 0x0036 s) :
    execForceList r first s = .next (respond r 0x0036 .ok false (leBytes 2 s.le.forces.length ++
      leBytes 2 ((s.le.forces.drop first).take 255).length ++ ((s.le.forces.drop first).take 255).flatMap forceEntry) s) := by
  rw [execForceList, serve_served r _ s _ h]

/-- Settles O17, row by row. -/
theorem logicCycleRowsComplete : Obligations.LogicCycleRowsComplete :=
  ⟨execCyclicTaskRelease_releases, execLogicCycleReady_completes, execEventTaskTrigger_takes, execLeEnd_hold,
    execForceSet_completes, execForceClear_completes, execForceList_answers⟩

end Sys2Proof.Machine
end

section
/-! PROOFS. The binary32 instructions (R208, R353, R354). -/

namespace Sys2Proof.Machine
open Sys2Proof

/-- The word operand is read alike before the task's program counter moves and after. -/
theorem wordGet_past (s : State) (t : Task) (sp a : Nat) : wordGet s (past t) sp a = wordGet s t sp a := rfl

theorem runInstr_iWord (op sp a : Nat) (f : Word → Word → Word) (s : State) (t : Task) (h : atInstr s op sp a = some t) :
    runInstr op sp a (iWord f) s = ran { past t with acc := f t.acc (BitVec.ofNat 32 (wordGet s t sp a)) } s := by
  rw [runInstr_at op sp a _ s t h, ← wordGet_past]
  rfl

theorem runInstr_iAcc (op sp a : Nat) (f : Word → Word) (s : State) (t : Task) (h : atInstr s op sp a = some t) :
    runInstr op sp a (iAcc f) s = ran { past t with acc := f t.acc } s := by
  rw [runInstr_at op sp a _ s t h]
  rfl

theorem runInstr_iFix (op sp a : Nat) (s : State) (t : Task) (h : atInstr s op sp a = some t) :
    runInstr op sp a iFix s = ran { past t with acc := (fFix t.acc).1, ov := t.ov || (fFix t.acc).2 } s := by
  rw [runInstr_at op sp a _ s t h]
  rfl

theorem fDiv_by_zero (a b : Word) (na : fIsNan a = false) (ia : fIsInf a = false) (ma : fMag a ≠ 0) (nb : fIsNan b = false)
    (ib : fIsInf b = false) (mb : fMag b = 0) : fDiv a b = fInf (fNeg a ^^ fNeg b) := by
  simp [fDiv, na, ia, ma, nb, ib, mb]

theorem fFix_overflows_of_nan_or_inf (a : Word) (h : fIsNan a = true ∨ fIsInf a = true) : (fFix a).2 = true := by
  unfold fFix
  split
  · rfl
  · next no => rw [if_pos (h.resolve_left no)]

/-- Settles O26, instruction by instruction. -/
theorem floatInstructionsRun : Obligations.FloatInstructionsRun := by
  intro sp a t s w hw
  subst hw
  exact ⟨fun h => congrArg _ (runInstr_iWord _ _ _ fAdd s t h), fun h => congrArg _ (runInstr_iWord _ _ _ fSub s t h),
    fun h => congrArg _ (runInstr_iWord _ _ _ fMul s t h), fun h => congrArg _ (runInstr_iWord _ _ _ fDiv s t h),
    fun h => congrArg _ (runInstr_iAcc _ _ _ (fun x => fOfInt x.toInt) s t h), fun h => congrArg _ (runInstr_iFix _ _ _ s t h),
    fDiv_by_zero t.acc _, fFix_overflows_of_nan_or_inf t.acc⟩

end Sys2Proof.Machine
end

section
/-! PROOFS. What the releases, readiness, job ends and dispatch that follow every scheduler event (R213, R230, R231, R234) leave:
the images, the wave, the cycles of the nodes, the overruns counted, OVERRUN and OP_FAULT in force. One lemma for each operation
that they reach. -/

namespace Sys2Proof.Machine
open Sys2Proof

/-- What the graph scheduler's registers count of cycles and overruns, with the images and the wave's number. -/
def graphFigures (s : State) : Images × Nat × SMap × Nat := (s.img, s.acq.wave, s.gr.nodeMax, s.gr.overrunCnt)

/-- A detector is in force, as the health unit holds it (R629). -/
def Health.inForce (h : Health) (d : Nat) : Bool := h.active.any (·.1 == d) || h.momentary.any (·.1 == d)

theorem detInForce_eq_inForce (s : State) (d : Nat) : detInForce s d = s.hlt.inForce d := rfl

/-- The figures, and whether the scheduler's two detectors are in force: 7 GRAPH_OVERRUN, 8 OP_FAULT (R627). -/
def graphMarks (s : State) : Images × Nat × SMap × Nat × Bool × Bool :=
  (s.img, s.acq.wave, s.gr.nodeMax, s.gr.overrunCnt, s.hlt.inForce 0x07, s.hlt.inForce 0x08)

@[simp] theorem graphFigures_fold (s : State) : (s.img, s.acq.wave, s.gr.nodeMax, s.gr.overrunCnt) = graphFigures s := rfl

@[simp] theorem graphMarks_fold (s : State) :
    (s.img, s.acq.wave, s.gr.nodeMax, s.gr.overrunCnt, s.hlt.inForce 0x07, s.hlt.inForce 0x08) = graphMarks s := rfl

@[simp] theorem graphFigures_mk (code pw pads fl boot img tu acq gr le rio fio upc dr evr pr net cmd sec hlt pending) :
    graphFigures (State.mk code pw pads fl boot img tu acq gr le rio fio upc dr evr pr net cmd sec hlt pending) =
      (img, acq.wave, gr.nodeMax, gr.overrunCnt) := rfl

@[simp] theorem graphMarks_mk (code pw pads fl boot img tu acq gr le rio fio upc dr evr pr net cmd sec hlt pending) :
    graphMarks (State.mk code pw pads fl boot img tu acq gr le rio fio upc dr evr pr net cmd sec hlt pending) =
      (img, acq.wave, gr.nodeMax, gr.overrunCnt, hlt.inForce 0x07, hlt.inForce 0x08) := rfl

@[simp] theorem graphMarks_ite (c : Prop) [Decidable c] (a b : State) :
    graphMarks (if c then a else b) = if c then graphMarks a else graphMarks b := by
  split <;> rfl

@[simp] theorem graphFigures_ite (c : Prop) [Decidable c] (a b : State) :
    graphFigures (if c then a else b) = if c then graphFigures a else graphFigures b := by
  split <;> rfl

theorem graphFigures_of_graphMarks {s t : State} (h : graphMarks t = graphMarks s) : graphFigures t = graphFigures s := by
  simp only [graphMarks, Prod.mk.injEq] at h
  obtain ⟨hi, ha, hn, ho, -⟩ := h
  rw [graphFigures, hi, ha, hn, ho, graphFigures]

theorem graphMarks_of_only {ps : List Part} {s t : State} (h : Only ps s t) (ki : Part.img ∉ ps) (ka : Part.acq ∉ ps)
    (kg : Part.gr ∉ ps) (kh : Part.hlt ∉ ps) : graphMarks t = graphMarks s := by
  have hi : t.img = s.img := h.same .img ki
  have ha : t.acq = s.acq := h.same .acq ka
  have hg : t.gr = s.gr := h.same .gr kg
  have hh : t.hlt = s.hlt := h.same .hlt kh
  rw [graphMarks, hi, ha, hg, hh, graphMarks]

theorem graphMarks_foldl {α : Type} (g : State → α → State) (l : List α) (s : State)
    (h : ∀ s a, graphMarks (g s a) = graphMarks s) : graphMarks (l.foldl g s) = graphMarks s := foldl_keeps graphMarks g l s h

/-! Events, triggers, responses, cells, frames: they leave all of it. -/

@[simp] theorem emit_graphMarks (b : Block) (e : Event) (s : State) : graphMarks (emit b e s) = graphMarks s :=
  graphMarks_of_only (emit_only b e s) (by decide) (by decide) (by decide) (by decide)

@[simp] theorem submit_graphMarks (b : Block) (code value : Nat) (s : State) :
    graphMarks (submit b code value s) = graphMarks s := emit_graphMarks _ _ s

@[simp] theorem submitParts_graphMarks (b : Block) (code value : Nat) (parts : List (List Byte)) (s : State) :
    graphMarks (submitParts b code value parts s) = graphMarks s := emit_graphMarks _ _ s

@[simp] theorem raiseTrig_graphMarks (kind index edge t1 t0 : Nat) (s : State) :
    graphMarks (raiseTrig kind index edge t1 t0 s) = graphMarks s :=
  graphMarks_of_only (raiseTrig_only kind index edge t1 t0 s) (by decide) (by decide) (by decide) (by decide)

@[simp] theorem respond_graphMarks (r : Req) (op : Nat) (st : Status) (more : Bool) (payload : List Byte) (s : State) :
    graphMarks (respond r op st more payload s) = graphMarks s := rfl

@[simp] theorem unsolicited_graphMarks (x : Session) (op grant : Nat) (payload : List Byte) (s : State) :
    graphMarks (unsolicited x op grant payload s) = graphMarks s :=
  graphMarks_of_only (unsolicited_only x op grant payload s) (by decide) (by decide) (by decide) (by decide)

@[simp] theorem updSession_graphMarks (num : Nat) (f : Session → Session) (s : State) :
    graphMarks (updSession num f s) = graphMarks s := rfl

@[simp] theorem sendCell_graphMarks (type : Nat) (vals : List Nat) (s : State) :
    graphMarks (sendCell type vals s) = graphMarks s := rfl

@[simp] theorem sendAgree_graphMarks (kind wave : Nat) (vals : List Nat) (s : State) :
    graphMarks (sendAgree kind wave vals s) = graphMarks s := by simp [sendAgree]

@[simp] theorem schedTwin_graphMarks (code : Nat) (vals : List Nat) (s : State) :
    graphMarks (schedTwin code vals s) = graphMarks s := rfl

@[simp] theorem digNote_graphMarks (k : Nat) (bs : List Byte) (s : State) : graphMarks (digNote k bs s) = graphMarks s := rfl

@[simp] theorem sendFrame_graphMarks (kind mask : Nat) (ids vals : List Nat) (bytes : List Byte) (s : State) :
    graphMarks (sendFrame kind mask ids vals bytes s) = graphMarks s :=
  graphMarks_of_only (sendFrame_only kind mask ids vals bytes s) (by decide) (by decide) (by decide) (by decide)

@[simp] theorem sendUdp_graphMarks (kind ip port : Nat) (ids vals : List Nat) (bytes : List Byte) (s : State) :
    graphMarks (sendUdp kind ip port ids vals bytes s) = graphMarks s := by
  unfold sendUdp
  split <;> simp [sendUdpOn]

/-! Another detector than these two fires: the comparison of digests may find the lanes apart (R542 to R544). -/

theorem fireDetOnceP_inForce_self (d value : Nat) (parts : List (List Byte)) (s : State) :
    (fireDetOnceP d value parts s).hlt.inForce d = true := fireDetOnceP_inForce d value parts s

/-- A detector's firing has no bearing on another detector. -/
theorem fireDetOnceP_inForce_ne (d value e : Nat) (parts : List (List Byte)) (s : State) (h : e ≠ d) :
    (fireDetOnceP d value parts s).hlt.inForce e = s.hlt.inForce e := by
  have other : (fun p : Nat × Nat => p.1 != d && p.1 == e) = fun p => p.1 == e := by
    funext p
    by_cases hp : p.1 = e <;> simp [hp, h]
  have new : (d == e) = false := beq_false_of_ne h.symm
  simp [fireDetOnceP, Health.inForce, List.any_filter, other, new]

@[simp] theorem fireDetOnceP_graphFigures (d value : Nat) (parts : List (List Byte)) (s : State) :
    graphFigures (fireDetOnceP d value parts s) = graphFigures s := by simp [fireDetOnceP]

@[simp] theorem fireDetOnce_graphFigures (d value : Nat) (s : State) :
    graphFigures (fireDetOnce d value s) = graphFigures s := fireDetOnceP_graphFigures d value [] s

@[simp] theorem refreshPads_graphMarks (s : State) : graphMarks (refreshPads s) = graphMarks s := rfl

@[simp] theorem endInj_graphMarks (cause : Nat) (j : Inj) (s : State) : graphMarks (endInj cause j s) = graphMarks s := by
  rw [endInj, refreshPads_graphMarks, submit_graphMarks]
  rfl

@[simp] theorem setPair_graphMarks (st : PairSt) (s : State) : graphMarks (setPair st s) = graphMarks s := by
  simp [setPair, noteRole, graphMarks_foldl]

@[simp] theorem dropBind_graphMarks (s : State) : graphMarks (dropBind s) = graphMarks s := rfl

@[simp] theorem startJoin_graphMarks (s : State) : graphMarks (startJoin s) = graphMarks s := by simp [startJoin]

@[simp] theorem activeSolo_graphMarks (s : State) : graphMarks (activeSolo s) = graphMarks s := by simp [activeSolo]

@[simp] theorem declareFaulty_graphMarks (value : Nat) (s : State) :
    graphMarks (declareFaulty value s) = graphMarks s := by simp [declareFaulty]

@[simp] theorem diverge_graphMarks (cause : Nat) (s : State) : graphMarks (diverge cause s) = graphMarks s := by
  have other : ∀ e, e ≠ 0x1E → (fireDetOnce 0x1E cause s).hlt.inForce e = s.hlt.inForce e := fun e h =>
    fireDetOnceP_inForce_ne _ _ e _ s h
  simp [diverge, other]

@[simp] theorem digestsMeet_graphMarks (wave : Nat) (s : State) : graphMarks (digestsMeet wave s) = graphMarks s := by
  unfold digestsMeet
  split <;> simp

/-! The disturbance recorder takes a derived sample or a binary source's state. -/

@[simp] theorem updUnit_graphMarks (u : Nat) (f : DrUnit → DrUnit) (s : State) : graphMarks (updUnit u f s) = graphMarks s := rfl

@[simp] theorem recMark_graphMarks (code t1 start : Nat) (s : State) : graphMarks (recMark code t1 start s) = graphMarks s :=
  graphMarks_of_only (recMark_only code t1 start s) (by decide) (by decide) (by decide) (by decide)

@[simp] theorem recFlags_graphMarks (m : BitVec 16) (s : State) : graphMarks (recFlags m s) = graphMarks s :=
  graphMarks_of_only (recFlags_only m s) (by decide) (by decide) (by decide) (by decide)

@[simp] theorem pushProt_graphMarks (xs : List Samp) (s : State) : graphMarks (pushProt xs s) = graphMarks s := by simp [pushProt]

@[simp] theorem opening_graphMarks (f : Firing) (s : State) : graphMarks (opening f s) = graphMarks s := by
  unfold opening
  repeat' split
  all_goals simp

@[simp] theorem unitActs_graphMarks (u t1 : Nat) (c : UnitCfg) (s : State) : graphMarks (unitActs u t1 c s) = graphMarks s := by
  unfold unitActs
  repeat' split
  all_goals simp

@[simp] theorem fireUnit_graphMarks (u t1 : Nat) (s : State) : graphMarks (fireUnit u t1 s) = graphMarks s := by
  unfold fireUnit
  split <;> simp

@[simp] theorem unitSample_graphMarks (u : Nat) (c : UnitCfg) (x : Samp) (s : State) :
    graphMarks (unitSample u c x s) = graphMarks s := by
  dsimp only [unitSample]
  repeat' split
  all_goals simp

@[simp] theorem sampUnits_graphMarks (x : Samp) (s : State) : graphMarks (sampUnits x s) = graphMarks s := by
  have taken : graphMarks (unitsSample x s) = graphMarks s := by
    refine graphMarks_foldl _ _ s fun s u => ?_
    split
    · simp
    · rfl
  simp [sampUnits, taken]

@[simp] theorem patternUnits_graphMarks (t1 : Nat) (s : State) : graphMarks (patternUnits t1 s) = graphMarks s := by
  refine graphMarks_foldl _ _ s fun s u => ?_
  split
  · simp
  · rfl

@[simp] theorem binSet_graphMarks (cls index : Nat) (st ok est gap : Bool) (t1 : Nat) (s : State) :
    graphMarks (binSet cls index st ok est gap t1 s) = graphMarks s := by simp [binSet]

@[simp] theorem recDerived_graphMarks (out v : Nat) (q : BitVec 8) (wave t1 : Nat) (s : State) :
    graphMarks (recDerived out v q wave t1 s) = graphMarks s := by
  unfold recDerived
  split
  · rfl
  refine graphMarks_foldl _ _ s fun s i => ?_
  dsimp only
  repeat' split
  all_goals simp

/-! The trip matrix, and what is published. -/

@[simp] theorem putJob_graphMarks (set : Nat) (req : Option Req) (input : List Byte) (wave skips : Nat) (s : State) :
    graphMarks (putJob set req input wave skips s) = graphMarks s := rfl

@[simp] theorem stalledJoin_graphMarks (s : State) : graphMarks (stalledJoin s) = graphMarks s := by
  refine graphMarks_foldl _ _ s fun s k => ?_
  split
  · simp
  · rfl

@[simp] theorem tripLocate_graphMarks (t1 : Nat) (s : State) : graphMarks (tripLocate t1 s) = graphMarks s := by simp [tripLocate]

@[simp] theorem rowTell_graphMarks (t1 : Nat) (old new : Row) (s : State) :
    graphMarks (rowTell t1 old new s) = graphMarks s := by simp [rowTell]

@[simp] theorem tripRelease_graphMarks (i : Inst) (t1 : Nat) (s : State) :
    graphMarks (tripRelease i t1 s) = graphMarks s := by simp [tripRelease, graphMarks_foldl]

@[simp] theorem tripHeld_graphMarks (s : State) : graphMarks (tripHeld s) = graphMarks s := rfl

@[simp] theorem goChange_graphMarks (p : Nat) (vals : List (Nat × Nat)) (t1 : Nat) (s : State) :
    graphMarks (goChange p vals t1 s) = graphMarks s := by simp [goChange, goSend, putPub]

@[simp] theorem publishAll_graphMarks (t1 : Nat) (s : State) :
    graphMarks (publishAll t1 s) = graphMarks s := by simp [publishAll, graphMarks_foldl]

@[simp] theorem publishSv_graphMarks (k : Nat) (i : Inst) (vals : List OutVal) (s : State) :
    graphMarks (publishSv k i vals s) = graphMarks s := by
  unfold publishSv
  split <;> simp

@[simp] theorem updPmu_graphMarks (k : Nat) (f : Pmu → Pmu) (s : State) : graphMarks (updPmu k f s) = graphMarks s := rfl

@[simp] theorem publishPmu_graphMarks (k : Nat) (i : Inst) (vals : List OutVal) (s : State) :
    graphMarks (publishPmu k i vals s) = graphMarks s := by simp [publishPmu]

/-! Places on the cores, readiness, release in the flow. -/

@[simp] theorem updInst_graphMarks (node : Nat) (key : Key) (f : Inst → Inst) (s : State) :
    graphMarks (updInst node key f s) = graphMarks s := rfl

@[simp] theorem setReady_graphMarks (b : Nat) (l : List (Nat × Key)) (s : State) :
    graphMarks (setReady b l s) = graphMarks s := rfl

@[simp] theorem startCore_graphMarks (c : Nat) (s : State) : graphMarks (startCore c s) = graphMarks s := by simp [startCore]

@[simp] theorem assign_graphMarks (n : Node) (i : Inst) (c : Nat) (s : State) :
    graphMarks (assign n i c s) = graphMarks s := by simp [assign, moveTo]

@[simp] theorem displace_graphMarks (c : Nat) (s : State) : graphMarks (displace c s) = graphMarks s := by
  unfold displace
  split <;> simp

theorem dispatchOne_graphMarks {s t : State} {fuel b : Nat} {out : List Nat} (h : dispatchOne s fuel b out = some t) :
    graphMarks t = graphMarks s := by
  induction fuel generalizing b out with
  | zero => cases h
  | succ n ih =>
    unfold dispatchOne at h
    dsimp only at h
    split at h
    · exact ih h
    split at h
    · cases h
      exact setReady_graphMarks _ _ s
    split at h
    · exact ih h
    split at h
    · cases h
      simp
    · exact ih h

@[simp] theorem dispatchAll_graphMarks (fuel : Nat) (s : State) : graphMarks (dispatchAll fuel s) = graphMarks s := by
  induction fuel generalizing s with
  | zero => rfl
  | succ n ih =>
    unfold dispatchAll
    split
    · rw [ih, dispatchOne_graphMarks ‹_›]
    · simp [countWait]

@[simp] theorem arrive_graphMarks (i : Inst) (void : Bool) (s : State) (e : Edge) :
    graphMarks (arrive i void s e) = graphMarks s := rfl

@[simp] theorem nextStateful_graphMarks (n : Node) (key : Key) (s : State) :
    graphMarks (nextStateful n key s) = graphMarks s := by
  unfold nextStateful
  repeat' split
  all_goals simp

@[simp] theorem retireVoid_graphMarks (i : Inst) (s : State) : graphMarks (retireVoid i s) = graphMarks s := by simp [retireVoid]

@[simp] theorem becomeReady_graphMarks (s : State) (i : Inst) : graphMarks (becomeReady s i) = graphMarks s := by
  simp [becomeReady]

@[simp] theorem readyStep_graphMarks (s : State) : graphMarks (readyStep s) = graphMarks s := by
  simp [readyStep, graphMarks_foldl]

@[simp] theorem releaseFlow_graphMarks (s : State) (i : Inst) : graphMarks (releaseFlow s i) = graphMarks s := by
  dsimp only [releaseFlow]
  split
  · rfl
  · exact graphMarks_foldl _ _ _ fun s e => arrive_graphMarks i _ s e

@[simp] theorem settle_graphMarks (fuel : Nat) (s : State) : graphMarks (settle fuel s) = graphMarks s := by
  induction fuel generalizing s with
  | zero => rfl
  | succ n ih =>
    unfold settle
    dsimp only
    split
    · simp
    · rw [ih, graphMarks_foldl _ _ _ releaseFlow_graphMarks, readyStep_graphMarks]

/-! Releases of outputs. -/

@[simp] theorem putOut_graphMarks (n : Node) (rel wave t1 : Nat) (s : State) (o : OutVal) :
    graphMarks (putOut n rel wave t1 s o) = graphMarks s := by
  unfold putOut
  repeat' split
  all_goals simp

@[simp] theorem swapP_graphMarks (t1 : Nat) (s : State) : graphMarks (swapP t1 s) = graphMarks s := by
  simp [swapP, graphMarks_foldl]

@[simp] theorem takeDigest_graphMarks (wave : Nat) (outs : List OutVal) (s : State) :
    graphMarks (takeDigest wave outs s) = graphMarks s := by simp [takeDigest]

@[simp] theorem publishOuts_graphMarks (n : Node) (i : Inst) (s : State) : graphMarks (publishOuts n i s) = graphMarks s := by
  unfold publishOuts
  repeat' split
  all_goals simp

@[simp] theorem releaseOuts_graphMarks (wave t1 : Nat) (ref : Inst) (is : List Inst) (held : Bool) (s : State) :
    graphMarks (releaseOuts wave t1 ref is held s) = graphMarks s := by simp [releaseOuts, graphMarks_foldl]

@[simp] theorem releaseWave_graphMarks (wave : Nat) (held : Bool) (s : State) :
    graphMarks (releaseWave wave held s) = graphMarks s := by simp [releaseWave]

@[simp] theorem releaseWaves_graphMarks (fuel : Nat) (s : State) : graphMarks (releaseWaves fuel s) = graphMarks s := by
  induction fuel generalizing s with
  | zero => rfl
  | succ n ih =>
    unfold releaseWaves
    split
    · rfl
    split
    · rw [ih, releaseWave_graphMarks]
    · rfl

@[simp] theorem releaseDesc_graphMarks (seq : Nat) (s : State) :
    graphMarks (releaseDesc seq s) = graphMarks s := by simp [releaseDesc]

@[simp] theorem releaseDescs_graphMarks (fuel : Nat) (s : State) : graphMarks (releaseDescs fuel s) = graphMarks s := by
  induction fuel generalizing s with
  | zero => rfl
  | succ n ih =>
    unfold releaseDescs
    split
    · rfl
    · rw [ih, releaseDesc_graphMarks]

/-! Jobs end, and the whole of what follows an event. -/

@[simp] theorem grantJobs_graphMarks (s : State) : graphMarks (grantJobs s) = graphMarks s := by
  unfold grantJobs
  refine graphMarks_foldl _ _ _ fun s num => ?_
  split
  · rfl
  · simp

@[simp] theorem endJob_graphMarks (j : Job) (s : State) : graphMarks (endJob j s) = graphMarks s := by
  unfold endJob
  split <;> simp

@[simp] theorem endJobs_graphMarks (s : State) : graphMarks (endJobs s) = graphMarks s := by simp [endJobs, graphMarks_foldl]

@[simp] theorem pump_graphMarks (s : State) : graphMarks (pump s) = graphMarks s := by
  have swept : ∀ s, graphMarks (sweep s) = graphMarks s := fun _ => rfl
  rw [pump, dispatchAll_graphMarks, endJobs_graphMarks, swept, releaseWaves_graphMarks, releaseDescs_graphMarks, settle_graphMarks]

end Sys2Proof.Machine
end

section
/-! PROOFS. An op runs (R207, R216): protection elements may start timers, whose refused entries are OP_FAULT (R224), and
write their contexts; the scheduler's figures stay. -/

namespace Sys2Proof.Machine
open Sys2Proof

@[simp] theorem submit_graphFigures (b : Block) (code value : Nat) (s : State) :
    graphFigures (submit b code value s) = graphFigures s := graphFigures_of_graphMarks (submit_graphMarks b code value s)

@[simp] theorem elemEvent_graphFigures (code value : Nat) (part : List Byte) (s : State) :
    graphFigures (elemEvent code value part s) = graphFigures s := graphFigures_of_graphMarks (submitParts_graphMarks _ _ _ _ s)

@[simp] theorem putElem_graphFigures (e : Elem) (s : State) : graphFigures (putElem e s) = graphFigures s := by simp [putElem]

@[simp] theorem elemReset_graphFigures (n : Node) (e : Elem) (s : State) :
    graphFigures (elemReset n e s) = graphFigures s := by simp [elemReset]

/-! Timers (R221, R224, R273). -/

theorem insertDelay_graphFigures {n : Node} {i : Inst} {tag at_ delay : Nat} {s t : State}
    (h : insertDelay n i tag at_ delay s = some t) : graphFigures t = graphFigures s := by
  unfold insertDelay at h
  dsimp only at h
  split at h
  · cases h
  · cases h
    rfl

@[simp] theorem EC.ite_s (c : Prop) [Decidable c] (a b : EC) :
    graphFigures (if c then a else b).s = if c then graphFigures a.s else graphFigures b.s := by
  split <;> rfl

@[simp] theorem EC.start_graphFigures (c : EC) (n : Node) (i : Inst) (k delay : Nat) :
    graphFigures (c.start n i k delay).s = graphFigures c.s := by
  unfold EC.start
  split
  · rfl
  split
  · rfl
  split
  · simp
  · next inserted => exact insertDelay_graphFigures inserted

theorem EC.stop_s (c : EC) (k : Nat) : (c.stop k).s = c.s := rfl

theorem EC.set_s (c : EC) (f : Elem → Elem) : (c.set f).s = c.s := rfl

@[simp] theorem EC.stop_graphFigures (c : EC) (k : Nat) : graphFigures (c.stop k).s = graphFigures c.s :=
  congrArg graphFigures (c.stop_s k)

@[simp] theorem EC.set_graphFigures (c : EC) (f : Elem → Elem) : graphFigures (c.set f).s = graphFigures c.s :=
  congrArg graphFigures (c.set_s f)

@[simp] theorem EC.keep_graphFigures (c : EC) (xs : List Int) : graphFigures (c.keep xs).s = graphFigures c.s :=
  c.set_graphFigures _

@[simp] theorem EC.run_graphFigures (c : EC) (n : Node) (i : Inst) (k delay : Nat) (b : Bool) :
    graphFigures (c.run n i k delay b).s = graphFigures c.s := by simp [EC.run]

/-! The families (R275 to R303, R326). -/

theorem overcurrent_graphFigures (i : Inst) (n : Node) (blk : Bool) (qs : List (BitVec 8)) (c : EC) :
    graphFigures (overcurrent i n blk qs c).c.s = graphFigures c.s := by
  unfold overcurrent
  simp only [EC.ite_s, EC.start_graphFigures, EC.stop_graphFigures, EC.set_graphFigures, ite_self]

theorem directional_s (i : Inst) (n : Node) (blk : Bool) (c : EC) : (directional i n blk c).c.s = c.s := by
  unfold directional
  dsimp only
  split <;> rfl

theorem voltage_graphFigures (i : Inst) (n : Node) (blk : Bool) (qs : List (BitVec 8)) (c : EC) :
    graphFigures (voltage i n blk qs c).c.s = graphFigures c.s := by
  simp only [voltage, EC.set_graphFigures, EC.run_graphFigures]

theorem frequency_graphFigures (i : Inst) (n : Node) (blk : Bool) (c : EC) :
    graphFigures (frequency i n blk c).c.s = graphFigures c.s := by
  simp only [frequency, EC.run_graphFigures]

theorem synchrocheck_graphFigures (i : Inst) (n : Node) (blk : Bool) (c : EC) :
    graphFigures (synchrocheck i n blk c).c.s = graphFigures c.s := by
  simp only [synchrocheck, EC.set_graphFigures, EC.run_graphFigures]

theorem breakerFailure_graphFigures (i : Inst) (n : Node) (blk : Bool) (qs : List (BitVec 8)) (c : EC) :
    graphFigures (breakerFailure i n blk qs c).c.s = graphFigures c.s := by
  simp only [breakerFailure, EC.ite_s, EC.start_graphFigures, EC.stop_graphFigures, EC.set_graphFigures, EC.keep_graphFigures, ite_self]

theorem switchOntoFault_graphFigures (i : Inst) (n : Node) (blk : Bool) (c : EC) :
    graphFigures (switchOntoFault i n blk c).c.s = graphFigures c.s := by
  simp only [switchOntoFault, EC.ite_s, EC.start_graphFigures, EC.stop_graphFigures, EC.keep_graphFigures, ite_self]

theorem distance_graphFigures (i : Inst) (n : Node) (blk : Bool) (qs : List (BitVec 8)) (c : EC) :
    graphFigures (distance i n blk qs c).c.s = graphFigures c.s := by
  simp only [distance, EC.set_graphFigures, EC.keep_graphFigures, EC.run_graphFigures]

theorem swingBlock_graphFigures (i : Inst) (n : Node) (blk : Bool) (c : EC) :
    graphFigures (swingBlock i n blk c).c.s = graphFigures c.s := by
  unfold swingBlock
  simp only [EC.ite_s, EC.start_graphFigures, EC.stop_graphFigures, EC.set_graphFigures, EC.keep_graphFigures, ite_self]

theorem twDirectional_graphFigures (i : Inst) (n : Node) (blk : Bool) (c : EC) :
    graphFigures (twDirectional i n blk c).c.s = graphFigures c.s := by
  unfold twDirectional
  dsimp only
  repeat' split
  all_goals rfl

@[simp] theorem famRun_graphFigures (i : Inst) (n : Node) (blk : Bool) (qs : List (BitVec 8)) (c : EC) :
    graphFigures (famRun i n blk qs c).c.s = graphFigures c.s := by
  unfold famRun
  split
  · exact overcurrent_graphFigures i n blk qs c
  · exact congrArg graphFigures (directional_s i n blk c)
  · exact distance_graphFigures i n blk qs c
  · rfl
  · exact swingBlock_graphFigures i n blk c
  · rfl
  · exact voltage_graphFigures i n blk qs c
  · exact frequency_graphFigures i n blk c
  · exact synchrocheck_graphFigures i n blk c
  · exact breakerFailure_graphFigures i n blk qs c
  · exact switchOntoFault_graphFigures i n blk c
  · exact twDirectional_graphFigures i n blk c

theorem graphFigures_foldl {α : Type} (g : State → α → State) (l : List α) (s : State)
    (h : ∀ s a, graphFigures (g s a) = graphFigures s) : graphFigures (l.foldl g s) = graphFigures s :=
  foldl_keeps graphFigures g l s h

@[simp] theorem elemJudge_graphFigures (i : Inst) (n : Node) (qs : List (BitVec 8)) (e : Elem) (s : State) :
    graphFigures (elemJudge i n qs e s).2 = graphFigures s := by
  simp [elemJudge, graphFigures_foldl]

@[simp] theorem opElement_graphFigures (s : State) (i : Inst) (n : Node) :
    graphFigures (opElement s i n).2 = graphFigures s := by
  dsimp only [opElement]
  repeat' split
  all_goals simp

@[simp] theorem opTracker_graphFigures (s : State) (i : Inst) (n : Node) :
    graphFigures (opTracker s i n).2 = graphFigures s := by
  have phased : ∀ term x t, graphFigures (setPhase term x t) = graphFigures t := fun term x t => by simp [setPhase]
  have told : ∀ e src hold clamp term t, graphFigures (trackEvents e src hold clamp term t) = graphFigures t :=
    fun e src hold clamp term t => by simp [trackEvents]
  dsimp only [opTracker]
  rw [phased, putElem_graphFigures, told]

theorem runOp_graphFigures (n : Node) (i : Inst) (vals : List (Nat × Nat)) (bytes : List Byte) (s : State) :
    graphFigures (runOp n i vals bytes s).2.2 = graphFigures s := by
  unfold runOp
  split
  · rfl
  split
  case h_1 => exact opTracker_graphFigures s i n
  case h_16 => exact opElement_graphFigures s i n
  all_goals rfl

end Sys2Proof.Machine
end

section
/-! PROOFS. The graph scheduler's rows (R213, R222, R223, R230, R231, R233 to R238, R246). -/

namespace Sys2Proof.Machine
open Sys2Proof

theorem opFaultInForce_of_graphMarks {s t : State} (h : graphMarks t = graphMarks s) : detInForce t 0x08 = detInForce s 0x08 := by
  simp only [graphMarks, Prod.mk.injEq] at h
  obtain ⟨-, -, -, -, -, fault⟩ := h
  rw [detInForce_eq_inForce, fault, detInForce_eq_inForce]

/-! The cycles of an op (R230, R241). -/

theorem account_only (n : Node) (cycles : Nat) (s : State) : Only [.gr, .evr] s (account n cycles s) := by
  have gr := fun s v => (State.with_gr_only s v).mono (qs := [.gr, .evr]) (by decide)
  have rolled : Only [.gr, .evr] s (rollLoad s) := Only.ite _ (Only.refl _ s) (gr s _)
  refine (rolled.trans (gr _ _)).trans (Only.ite _ (Only.refl _ _) (Only.ite _ (gr _ _) ?_))
  exact (gr _ _).trans ((submitParts_only _ _ _ _ _).mono (by decide))

theorem injOn_account (n : Node) (cycles : Nat) (s : State) (d k : Nat) : injOn (account n cycles s) d k = injOn s d k := by
  have hlt : (account n cycles s).hlt = s.hlt := (account_only n cycles s).same .hlt (by decide)
  rw [injOn, hlt, injOn]

theorem account_nodeMax (n : Node) (cycles : Nat) (s : State) : (account n cycles s).gr.nodeMax =
    smSet s.gr.nodeMax n.num (max (smGet s.gr.nodeMax n.num) (min 65535 cycles)) := by
  have rolled : (rollLoad s).gr.nodeMax = s.gr.nodeMax := by
    unfold rollLoad
    dsimp only
    split <;> rfl
  unfold account
  dsimp only
  repeat' split
  all_goals simp [submitParts, rolled]

/-- What follows the accounting leaves its figures. -/
theorem figures_after_account {n : Node} {cycles : Nat} {s t : State} (h : graphFigures t = graphFigures (account n cycles s)) :
    t.gr.nodeMax = smSet s.gr.nodeMax n.num (max (smGet s.gr.nodeMax n.num) (min 65535 cycles)) ∧
    t.acq.wave = s.acq.wave ∧ t.img = s.img := by
  have only := account_only n cycles s
  have img : (account n cycles s).img = s.img := only.same .img (by decide)
  have acq : (account n cycles s).acq = s.acq := only.same .acq (by decide)
  simp only [graphFigures, Prod.mk.injEq] at h
  obtain ⟨hi, ha, hn, -⟩ := h
  exact ⟨hn.trans (account_nodeMax n cycles s), ha.trans (congrArg Acq.wave acq), hi.trans img⟩

/-! OP_RETIRE and OP_CYCLE_LIMIT (R213, R216, R230 to R232). -/

@[simp] theorem retireWith_graphMarks (i : Inst) (outs : List OutVal) (bytes : List Byte) (mark : Nat) (s : State) :
    graphMarks (retireWith i outs bytes mark s) = graphMarks s := by simp [retireWith]

@[simp] theorem retireWith_graphFigures (i : Inst) (outs : List OutVal) (bytes : List Byte) (mark : Nat) (s : State) :
    graphFigures (retireWith i outs bytes mark s) = graphFigures s :=
  graphFigures_of_graphMarks (retireWith_graphMarks i outs bytes mark s)

@[simp] theorem opFault_graphFigures (cause node : Nat) (s : State) : graphFigures (opFault cause node s) = graphFigures s := by
  simp [opFault]

theorem opFault_inForce (cause node : Nat) (s : State) : detInForce (opFault cause node s) 0x08 = true := by
  have fired := fireDetOnce_inForce 0x08 (65536 * cause + node) s
  dsimp only [opFault]
  split
  · exact fired
  · exact fired

@[simp] theorem abort_graphFigures (i : Inst) (s : State) : graphFigures (abort i s) = graphFigures s := by simp [abort]

theorem abort_inForce (i : Inst) (s : State) : detInForce (abort i s) 0x08 = true :=
  (opFaultInForce_of_graphMarks (retireWith_graphMarks _ _ _ _ _)).trans (opFault_inForce 1 i.node s)

@[simp] theorem complete_graphFigures (n : Node) (i : Inst) (vals : List (Nat × Nat)) (bytes : List Byte) (s : State) :
    graphFigures (complete n i vals bytes s) = graphFigures s := by
  dsimp only [complete]
  rw [retireWith_graphFigures, runOp_graphFigures]

/-- A core's removal (R232) moves contexts and instances. -/
@[simp] theorem removeCore_graphMarks (c : Nat) (s : State) : graphMarks (removeCore c s) = graphMarks s := by
  have moved : ∀ s n, graphMarks (reload c s n) = graphMarks s := fun s n => by
    unfold reload
    split <;> rfl
  have checked : ∀ s, graphMarks (recheck s) = graphMarks s := fun s => graphMarks_foldl _ _ s fun _ _ => rfl
  simp [removeCore, graphMarks_foldl, moved, checked]

/-- An op at fault: cause 2, or 3 with a test of the core (`fault` 4: one that fails) (R232). -/
def faulted (core fault : Nat) (i : Inst) (n : Node) (s : State) : State :=
  let cause := if fault = 2 then 2 else 3
  let s := if cause = 3 then fireDetFree 0x09 s else s
  let s := retireWith i (lastOuts s n) [] 1 (opFault cause n.num s)
  if fault = 4 then removeCore core s else s

@[simp] theorem faulted_graphFigures (core fault : Nat) (i : Inst) (n : Node) (s : State) :
    graphFigures (faulted core fault i n s) = graphFigures s := by
  have removed : ∀ s, graphFigures (removeCore core s) = graphFigures s := fun s =>
    graphFigures_of_graphMarks (removeCore_graphMarks core s)
  have tested : graphFigures (fireDetFree 0x09 s) = graphFigures s := by simp [fireDetFree, freshNat]
  simp [faulted, removed, tested]

theorem faulted_inForce (core fault : Nat) (i : Inst) (n : Node) (s : State) :
    detInForce (faulted core fault i n s) 0x08 = true := by
  have retired : ∀ outs cause s, detInForce (retireWith i outs [] 1 (opFault cause n.num s)) 0x08 = true :=
    fun outs cause s => (opFaultInForce_of_graphMarks (retireWith_graphMarks _ _ _ _ _)).trans (opFault_inForce cause n.num s)
  dsimp only [faulted]
  split
  · rw [opFaultInForce_of_graphMarks (removeCore_graphMarks _ _), retired]
  · rw [retired]

/-- What executed on a core retires, as its op ended; an injection of detector 9 gives a sound one cause 3 (R633). -/
def opEnds (core fault : Nat) (vals : List (Nat × Nat)) (bytes : List Byte) (i : Inst) (n : Node) (s : State) : State :=
  let fault := if injOn s 0x09 core && fault == 0 then 3 else fault
  if injOn s 0x08 (n.num % 256) then abort i s
  else if fault = 0 then complete n i vals bytes s
  else faulted core fault i n s

@[simp] theorem opEnds_graphFigures (core fault : Nat) (vals : List (Nat × Nat)) (bytes : List Byte) (i : Inst) (n : Node)
    (s : State) : graphFigures (opEnds core fault vals bytes i n s) = graphFigures s := by simp [opEnds]

theorem opEnds_inForce (core fault : Nat) (vals : List (Nat × Nat)) (bytes : List Byte) (i : Inst) (n : Node) (s : State)
    (hf : fault ≠ 0) (hi : injOn s 0x08 (n.num % 256) = false) :
    detInForce (opEnds core fault vals bytes i n s) 0x08 = true := by
  simp [opEnds, hf, hi, faulted_inForce]

theorem pump_startCore_graphMarks (core : Nat) (s : State) : graphMarks (pump (startCore core s)) = graphMarks s :=
  (pump_graphMarks _).trans (startCore_graphMarks core s)

theorem execOpRetire_ends {core : Nat} {i : Inst} {s : State} (cycles fault : Nat) (vals : List (Nat × Nat)) (bytes : List Byte)
    (h : s.gr.insts.find? (fun (x : Inst) => x.onCore core) = some i) :
    execOpRetire core cycles fault vals bytes s = .next (pump (startCore core (opEnds core fault vals bytes i (nodeAt s i.node)
      (account (nodeAt s i.node) cycles s)))) := by
  rw [execOpRetire, h]
  rfl

theorem execOpRetire_accounts (core cycles fault : Nat) (vals : List (Nat × Nat)) (bytes : List Byte) (i : Inst) (n : Node)
    (s : State) (h : s.gr.insts.find? (fun (x : Inst) => x.onCore core) = some i) (hn : n = nodeAt s i.node) :
    ∃ t, execOpRetire core cycles fault vals bytes s = .next t ∧
      t.gr.nodeMax = smSet s.gr.nodeMax n.num (max (smGet s.gr.nodeMax n.num) (min 65535 cycles)) ∧
      t.acq.wave = s.acq.wave ∧ t.img = s.img ∧
      (fault ≠ 0 → injOn s 0x08 (n.num % 256) = false → detInForce t 0x08 = true) := by
  have marks := pump_startCore_graphMarks core (opEnds core fault vals bytes i n (account n cycles s))
  obtain ⟨nodeMax, wave, img⟩ := figures_after_account
    ((graphFigures_of_graphMarks marks).trans (opEnds_graphFigures core fault vals bytes i n _))
  refine ⟨_, hn ▸ execOpRetire_ends cycles fault vals bytes h, nodeMax, wave, img, fun hf hi => ?_⟩
  rw [← injOn_account n cycles] at hi
  rw [opFaultInForce_of_graphMarks marks, opEnds_inForce _ _ _ _ _ _ _ hf hi]

theorem execOpCycleLimit_completes (core : Nat) (i : Inst) (n : Node) (s : State)
    (h : s.gr.insts.find? (fun (x : Inst) => x.onCore core) = some i) (hn : n = nodeAt s i.node)
    (hd : due s i.execAt (nsT (abortLimit n * 5 / 2)) = true) :
    ∃ t, execOpCycleLimit core s = .next t ∧ detInForce t 0x08 = true ∧ t.img = s.img ∧
      t.gr.nodeMax = smSet s.gr.nodeMax n.num (max (smGet s.gr.nodeMax n.num) (min 65535 (abortLimit n))) := by
  have marks := pump_startCore_graphMarks core (abort i (account n (abortLimit n) s))
  obtain ⟨nodeMax, -, img⟩ := figures_after_account ((graphFigures_of_graphMarks marks).trans (abort_graphFigures i _))
  have aborts : execOpCycleLimit core s = .next (pump (startCore core (abort i (account n (abortLimit n) s)))) := by
    simp [execOpCycleLimit, h, ← hn, hd]
  exact ⟨_, aborts, (opFaultInForce_of_graphMarks marks).trans (abort_inForce i _), img, nodeMax⟩

/-! P1_DEADLINE and P0_DEADLINE (R213, R225, R234, R235). -/

theorem overrun_counts (band num oldest : Nat) (s : State) :
    graphMarks (overrun band num oldest s) =
      (s.img, s.acq.wave, s.gr.nodeMax, satInc 32 s.gr.overrunCnt, true, s.hlt.inForce 0x08) := by
  have only := fun v parts => fireDetOnceP_only 0x07 v parts s
  have img : ∀ v parts, (fireDetOnceP 0x07 v parts s).img = s.img := fun v parts => (only v parts).same .img (by decide)
  have gr : ∀ v parts, (fireDetOnceP 0x07 v parts s).gr = s.gr := fun v parts => (only v parts).same .gr (by decide)
  simp [overrun, fireDetOnceP_acq, fireDetOnceP_inForce_self, fireDetOnceP_inForce_ne, img, gr]

/-- An overrun is counted and in force after what leaves the marks. -/
theorem counts_after_overrun {band num oldest : Nat} {s t : State} (h : graphMarks t = graphMarks (overrun band num oldest s)) :
    t.gr.overrunCnt = satInc 32 s.gr.overrunCnt ∧ detInForce t 0x07 = true ∧ t.img = s.img ∧ t.acq.wave = s.acq.wave := by
  rw [overrun_counts] at h
  simp only [graphMarks, Prod.mk.injEq] at h
  obtain ⟨img, wave, -, count, inForce, -⟩ := h
  exact ⟨count, inForce, img, wave⟩

@[simp] theorem cancelInst_graphMarks (s : State) (i : Inst) : graphMarks (cancelInst s i) = graphMarks s := by
  unfold cancelInst
  repeat' split
  all_goals simp

@[simp] theorem raiseEpochs_graphMarks (ks : List Nat) (s : State) : graphMarks (raiseEpochs ks s) = graphMarks s :=
  graphMarks_foldl _ ks s fun _ _ => rfl

@[simp] theorem cancelMissed_graphMarks (key : Key) (ks : List Nat) (s : State) :
    graphMarks (cancelMissed key ks s) = graphMarks s := by simp [cancelMissed, graphMarks_foldl]

theorem overrunWave_graphMarks (wave : Nat) (s : State) :
    graphMarks (overrunWave wave s) = graphMarks (overrun 1 wave (oldestOf s 1 (.wave wave)) s) := by
  simp [overrunWave, graphMarks_foldl]

theorem execP1Deadline_completes (w a : Nat) (s : State) (h : s.gr.openWaves.head? = some (w, a)) (ha : a + usT 125 ≤ td1 s)
    (hw : waveDone s w = false) : ∃ t, execP1Deadline s = .next t ∧ t.gr.overrunCnt = satInc 32 s.gr.overrunCnt ∧
      detInForce t 0x07 = true ∧ t.img = s.img ∧ t.acq.wave = s.acq.wave :=
  ⟨overrunWave w s, by simp [execP1Deadline, h, ha, hw], counts_after_overrun (overrunWave_graphMarks w s)⟩

theorem execP0Deadline_completes (q a : Nat) (s : State)
    (h : s.gr.openDescs.find? (fun d => decide (d.2 + usT 50 ≤ td1 s)) = some (q, a)) :
    ∃ t, execP0Deadline s = .next t ∧ t.gr.overrunCnt = satInc 32 s.gr.overrunCnt ∧ detInForce t 0x07 = true ∧
      t.img = s.img ∧ t.acq.wave = s.acq.wave := by
  rw [execP0Deadline, h]
  refine ⟨_, rfl, counts_after_overrun (band := 0) (num := q) (oldest := oldestOf s 0 (.desc q)) ?_⟩
  simp

/-! P2_LATE and OVERRUN_QUIET (R233, R236). -/

theorem execP2Late_notes (late : List Inst) (s : State) (hl : late = s.gr.insts.filter (fun (i : Inst) => i.band == 2 &&
      i.unretired && decide (i.born1 + 187500 * 2 ^ 40 ≤ td1 s) && !s.gr.lateP2.contains (i.node, i.key))) (hne : late ≠ []) :
    ∃ t, execP2Late s = .next t ∧ Only [.gr, .evr] s t ∧ t.gr.insts = s.gr.insts ∧
      t.gr.lateP2 = s.gr.lateP2 ++ late.map (fun (i : Inst) => (i.node, i.key)) ∧
      (s.gr.p2LateSec = some (secOf (td0 s)) → t.evr = s.evr) := by
  obtain ⟨i, rest, rfl⟩ := List.exists_cons_of_ne_nil hne
  have gr := fun v => (State.with_gr_only s v).mono (qs := [.gr, .evr]) (by decide)
  unfold execP2Late
  rw [← hl]
  dsimp only
  split
  · exact ⟨_, rfl, gr _, rfl, rfl, fun _ => rfl⟩
  · next untold =>
    exact ⟨_, rfl, (gr _).trans ((submit_only _ _ _ _).mono (by decide)), by simp [submit], by simp [submit],
      fun told => absurd told untold⟩

theorem execOverrunQuiet_returns (s : State) (hh : s.gr.healthyHold = true)
    (hq : s.gr.overruns.any (fun a => !due s a (msT 1000)) = false) : ∃ t, execOverrunQuiet s = .next t ∧
      Only [.gr, .pads] s t ∧ t.gr = { s.gr with healthyHold := false, overruns := [] } :=
  ⟨_, by rw [execOverrunQuiet, if_neg (by simp [hh, hq])], (State.with_gr_only s _).seq (refreshPads_only _), rfl⟩

/-! DELAY_ENTRY_FIRE (R222, R223). -/

/-- One entry at its tick: its token, or the standby's check. -/
def fireDelay (w : Nat) (s : State) (d : Delay) : State :=
  if d.epoch ≠ epochOf s d.node then s
  else if followsAgreed s then ownFiring w d s
  else sendAgree 1 w [d.node, d.tag, d.tick, d.epoch]
    { s with gr := { s.gr with tokens := s.gr.tokens ++ [(d.node, d.tag, d.tick, d.epoch)] } }

/-- The tokens of entries that fire: none of a stale one, none in a lane that follows agreed data. -/
def firedTokens (s : State) (ds : List Delay) : List (Nat × Nat × Nat × Nat) :=
  if followsAgreed s = true then [] else (ds.filter (fun (d : Delay) => d.epoch == epochOf s d.node)).map
    (fun (d : Delay) => (d.node, d.tag, d.tick, d.epoch))

/-- Only the tokens, and in the pair what the partner is told or the standby checks. -/
def Fires (ts : List (Nat × Nat × Nat × Nat)) (s t : State) : Prop :=
  Only [.gr, .pr] s t ∧ t.gr = { s.gr with tokens := s.gr.tokens ++ ts } ∧ followsAgreed t = followsAgreed s

theorem sendAgree_followsAgreed (kind wave : Nat) (vals : List Nat) (s : State) :
    followsAgreed (sendAgree kind wave vals s) = followsAgreed s := by
  unfold sendAgree
  split <;> rfl

theorem ownFiring_fires (w : Nat) (d : Delay) (s : State) : Fires [] s (ownFiring w d s) := by
  have pr := fun v => (State.with_pr_only s v).mono (qs := [.gr, .pr]) (by decide)
  dsimp only [ownFiring]
  split
  · exact ⟨pr _, by simp, rfl⟩
  · exact ⟨pr _, by simp, rfl⟩

theorem fireDelay_fires (w : Nat) (s : State) (d : Delay) : Fires (firedTokens s [d]) s (fireDelay w s d) := by
  unfold fireDelay firedTokens
  by_cases he : d.epoch = epochOf s d.node
  · rw [if_neg (not_not.mpr he)]
    split
    · exact ownFiring_fires w d s
    · have sent := sendAgree_only 1 w [d.node, d.tag, d.tick, d.epoch]
        { s with gr := { s.gr with tokens := s.gr.tokens ++ [(d.node, d.tag, d.tick, d.epoch)] } }
      refine ⟨(State.with_gr_only s _).seq sent, ?_, sendAgree_followsAgreed _ _ _ _⟩
      rw [sent.same .gr (by decide)]
      simp [he]
  · rw [if_pos he]
    exact ⟨Only.refl _ s, by simp [he], rfl⟩

theorem firedTokens_cons (s : State) (d : Delay) (ds : List Delay) :
    firedTokens s (d :: ds) = firedTokens s [d] ++ firedTokens s ds := by
  unfold firedTokens
  split
  · rfl
  · rw [← List.map_append, ← List.filter_append]
    rfl

theorem firedTokens_of_fires {ts : List (Nat × Nat × Nat × Nat)} {s t : State} (h : Fires ts s t) (ds : List Delay) :
    firedTokens t ds = firedTokens s ds := by
  obtain ⟨-, gr, follows⟩ := h
  simp only [firedTokens, epochOf, gr, follows]

theorem fireDelays_fires (w : Nat) (ds : List Delay) (s : State) : Fires (firedTokens s ds) s (ds.foldl (fireDelay w) s) := by
  induction ds generalizing s with
  | nil => exact ⟨Only.refl _ s, by simp [firedTokens], rfl⟩
  | cons d ds ih =>
    have first := fireDelay_fires w s d
    obtain ⟨only, gr, follows⟩ := ih (fireDelay w s d)
    rw [firedTokens_of_fires first] at gr
    obtain ⟨only₁, gr₁, follows₁⟩ := first
    refine ⟨only₁.trans only, ?_, follows.trans follows₁⟩
    rw [firedTokens_cons, List.foldl_cons, gr, gr₁, List.append_assoc]

theorem execDelayEntryFire_completes (s : State) : ∃ t, execDelayEntryFire s = .next t ∧ Only [.gr, .pr] s t ∧
    t.gr.delays = s.gr.delays.filter (fun (d : Delay) => decide (td0 s < d.tick)) ∧
    t.gr.tokens = s.gr.tokens ++ (if followsAgreed s = true then [] else (s.gr.delays.filter (fun (d : Delay) =>
      decide (d.tick ≤ td0 s) && d.epoch == epochOf s d.node)).map (fun (d : Delay) => (d.node, d.tag, d.tick, d.epoch))) := by
  obtain ⟨only, gr, -⟩ := fireDelays_fires ((s.acq.wave + 1) % 2 ^ 32) (s.gr.delays.filter fun d => decide (d.tick ≤ td0 s))
    { s with gr := { s.gr with delays := s.gr.delays.filter fun d => decide (td0 s < d.tick) } }
  refine ⟨_, rfl, ((State.with_gr_only s _).mono (by decide)).trans only, congrArg GraphUnit.delays gr,
    (congrArg GraphUnit.tokens gr).trans ?_⟩
  show s.gr.tokens ++ firedTokens s (s.gr.delays.filter fun d => decide (d.tick ≤ td0 s)) = _
  simp only [firedTokens, List.filter_filter, Bool.and_comm]

/-! JOB_START and FREQ_TRACK_HOLD_EXPIRY (R237, R238, R246). -/

theorem execJobStart_starts (j : Job) (s : State) (hr : running s = true) (hg : s.gr.running = true) (hd : s.hlt.dieHigh ≠ 2)
    (h : s.gr.jobs.find? (fun (x : Job) => !x.started) = some j)
    (hc : (s.gr.insts.filter (fun (i : Inst) => i.band == 3)).length + (jobNodes s j.set).length ≤ 1024) :
    execJobStart s = .next (pump (createAll (.job j.id) (jobNodes s j.set) none j.wave (fun _ => 0)
      { s with gr := { s.gr with
        jobs := updFirst (fun (x : Job) => x.id == j.id) (fun x => { x with started := true }) s.gr.jobs } })) := by
  rw [execJobStart, if_neg (by simp [hr, hg, hd]), h]
  exact if_neg (Nat.not_lt.mpr hc)

theorem execFreqTrackHoldExpiry_falls (k hold : Nat) (n : Node) (s : State) (h : trackerNode s k = some n)
    (hh : trackAux (elemOf s n) 6 = ((hold + 1 : Nat) : Int))
    (hd : hold + msT ((setF s { (default : Inst) with group := s.img.group } n.inst 0x03 10 20).toNat * 100) ≤ td0 s) :
    execFreqTrackHoldExpiry k s = .next (trackExpire (elemOf s n) s.acq.waves s) := by
  have began : (((hold + 1 : Nat) : Int) - 1).toNat = hold := by omega
  rw [execFreqTrackHoldExpiry, h]
  dsimp only
  rw [hh, began]
  exact if_neg (not_or.mpr ⟨by omega, Nat.not_lt.mpr hd⟩)

/-- Settles O35, row by row. -/
theorem graphRowsComplete : Obligations.GraphRowsComplete :=
  ⟨execOpRetire_accounts, execOpCycleLimit_completes, execP1Deadline_completes, execP0Deadline_completes, execP2Late_notes,
    execOverrunQuiet_returns, execDelayEntryFire_completes, execJobStart_starts, execFreqTrackHoldExpiry_falls⟩

end Sys2Proof.Machine
end

section
/-! PROOFS. Published and subscribed streams and the lanes of NET_A and NET_B (R265, R266, R539, R562, R564, R568, R571 to R573,
R577). -/

namespace Sys2Proof.Machine
open Sys2Proof

/-! Frames that leave: what they do not write. -/

theorem sendUdpOn_only (mask kind ip port : Nat) (ids vals : List Nat) (bytes : List Byte) (s : State) :
    Only [.net] s (sendUdpOn mask kind ip port ids vals bytes s) :=
  Only.ite _ (sendFrame_only _ _ _ _ _ s) (State.with_net_only s _)

theorem sendUdp_only (kind ip port : Nat) (ids vals : List Nat) (bytes : List Byte) (s : State) :
    Only [.net] s (sendUdp kind ip port ids vals bytes s) := by
  unfold sendUdp
  split
  · exact Only.refl _ s
  · exact sendUdpOn_only _ _ _ _ _ _ _ s

/-- A field of every port's record that a change of one port's record leaves. -/
theorem portAt_updPort_field {α : Type} (g : Port → α) (p q : Nat) (f : Port → Port) (s : State) (h : ∀ x, g (f x) = g x) :
    g (portAt (updPort q f s) p) = g (portAt s p) := by
  by_cases hp : p = q
  · subst hp
    by_cases h3 : p < 3
    · rw [portAt_updPort p f s h3, h]
    · rw [portAt, updPort, putAt, if_neg h3, portAt]
  · rw [portAt_updPort_ne p q f s hp]

/-- The publications, the instant of the last supervision frame, and each lane's own frames that have not returned. -/
def supervisionRegs (s : State) : List GoosePub × Nat × (Nat → Nat) :=
  (s.net.pubs, s.net.supAt, fun p => (portAt s p).noReturn)

theorem portTake_supervisionRegs (kind len : Nat) (s : State) (q : Nat) :
    supervisionRegs (portTake kind len s q) = supervisionRegs s := by
  refine congrArg (fun g => (s.net.pubs, s.net.supAt, g)) (funext fun p => ?_)
  refine portAt_updPort_field Port.noReturn p q _ s fun x => ?_
  split
  · rfl
  · rfl

theorem sendFrame_supervisionRegs (kind mask : Nat) (ids vals : List Nat) (bytes : List Byte) (s : State) :
    supervisionRegs (sendFrame kind mask ids vals bytes s) = supervisionRegs s := by
  have taken := foldl_keeps supervisionRegs (portTake kind (frameBytes kind ids vals bytes)) (portsOf s mask) s
    (portTake_supervisionRegs kind _)
  unfold sendFrame putFrame
  dsimp only
  repeat' split
  · exact taken
  · exact taken
  · exact taken
  · rfl

/-! PMU command frames (R265, R266, R539). -/

theorem pmuByCode_lt {s : State} {id k : Nat} (h : pmuByCode s id = some k) : k < 4 :=
  List.mem_range.mp (List.mem_of_find?_eq_some h)

theorem pmuOf_updPmu (k : Nat) (f : Pmu → Pmu) (s : State) (h : k < 4) : pmuOf (updPmu k f s) k = f (pmuOf s k) :=
  putAt_getD_same 4 s.gr.pmu k _ _ h

theorem pmuOf_of_gr {s t : State} (h : t.gr = s.gr) (k : Nat) : pmuOf t k = pmuOf s k := by rw [pmuOf, h, pmuOf]

theorem pmuCommand_rejected (op id ip k : Nat) (s : State) (hr : running s = true) (hk : pmuByCode s id = some k) :
    pmuCommand op id ip false s = submit .elem 0x3102 id s := by
  rw [pmuCommand, if_neg (by simp [hr]), hk]
  rfl

theorem pmuCommand_good (op id ip k : Nat) (s : State) (hr : running s = true) (hk : pmuByCode s id = some k) :
    pmuCommand op id ip true s = if feeds s then schedTwin 17 [op, k, ip] s
      else if !s.pr.active && (s.pr.st == .twin || s.pr.st == .joining) then s else applyPmu op k ip s := by
  rw [pmuCommand, if_neg (by simp [hr]), hk]
  rfl

theorem pmuCommand_agreed (op id ip k : Nat) (s : State) (hr : running s = true) (hk : pmuByCode s id = some k)
    (hf : feeds s = true) : pmuCommand op id ip true s = schedTwin 17 [op, k, ip] s := by
  rw [pmuCommand_good op id ip k s hr hk, if_pos hf]

/-- Outside the agreed set the lane applies the command itself. -/
theorem pmuCommand_applied (op id ip k : Nat) (s : State) (hr : running s = true) (hk : pmuByCode s id = some k)
    (hf : feeds s = false) (ha : s.pr.active = true ∨ s.pr.st = .solo ∨ s.pr.st = .cold) :
    pmuCommand op id ip true s = applyPmu op k ip s := by
  have own : (!s.pr.active && (s.pr.st == .twin || s.pr.st == .joining)) = false := by
    rcases ha with h | h | h
    · simp [h]
    · simp [h]
    · simp [h]
  rw [pmuCommand_good op id ip k s hr hk, hf, own]
  rfl

/-- The frame that a command asks for has joined the stream's queue: 1 to 3 CFG-1 to CFG-3, 4 the header. -/
def pmuQueued (op k ip : Nat) (s : State) : State :=
  updPmu k (fun x => { x with frameQ := x.frameQ ++ [(if op = 2 then 4 else op - 2, ip)] }) s

/-- Queued frames of a stream are handed to the interface. -/
def pmuSent (k : Nat) (q : List (Nat × Nat)) (s : State) : State :=
  q.foldl (fun s (f : Nat × Nat) => sendUdp 7 f.2 (pv s 0x0995 k 6 2 4712) [pv s 0x0990 k 0 2 0, f.1] [] [] s) s

theorem pmuSent_only (k : Nat) (q : List (Nat × Nat)) (s : State) : Only [.net] s (pmuSent k q s) :=
  Only.foldl _ _ q s fun s _ => sendUdp_only _ _ _ _ _ _ s

theorem applyPmu_of_frame (op k ip : Nat) (s : State) (h : 2 ≤ op) : applyPmu op k ip s =
    if s.cmd.restarting.isSome || !mayTx s then pmuQueued op k ip s
    else pmuSent k (pmuOf (pmuQueued op k ip s) k).frameQ (updPmu k (fun x => { x with frameQ := [] }) (pmuQueued op k ip s)) := by
  rw [applyPmu, if_neg (by omega), if_neg (by omega)]
  rfl

/-- A header or configuration frame is kept while the management cores restart or the lane may not transmit; otherwise the
stream's frames leave. -/
theorem applyPmu_frame (op k ip : Nat) (s : State) (h : 2 ≤ op) (hk : k < 4) : Only [.gr, .net] s (applyPmu op k ip s) ∧
    (pmuOf (applyPmu op k ip s) k).frameQ = if s.cmd.restarting.isSome || !mayTx s then
      (pmuOf s k).frameQ ++ [(if op = 2 then 4 else op - 2, ip)] else [] := by
  have queued : Only [.gr] s (pmuQueued op k ip s) := updPmu_only k _ s
  rw [applyPmu_of_frame op k ip s h]
  split
  · exact ⟨queued.mono (by decide), congrArg Pmu.frameQ (pmuOf_updPmu k _ s hk)⟩
  · have sent := pmuSent_only k (pmuOf (pmuQueued op k ip s) k).frameQ
      (updPmu k (fun x => { x with frameQ := [] }) (pmuQueued op k ip s))
    refine ⟨(queued.trans (updPmu_only k _ _)).seq sent, ?_⟩
    rw [pmuOf_of_gr (sent.same .gr (by decide)), pmuOf_updPmu k _ _ hk]

theorem applyPmu_config (kind k ip : Nat) (s : State) (lo : 1 ≤ kind) (hk : k < 4) :
    Only [.gr, .net] s (applyPmu (2 + kind) k ip s) ∧ (pmuOf (applyPmu (2 + kind) k ip s) k).frameQ =
      if s.cmd.restarting.isSome || !mayTx s then (pmuOf s k).frameQ ++ [(kind, ip)] else [] := by
  have framed := applyPmu_frame (2 + kind) k ip s (by omega) hk
  rwa [if_neg (show 2 + kind ≠ 2 by omega), Nat.add_sub_cancel_left] at framed

/-- CFG-1 to CFG-3 are the configuration frames that a command may ask for. -/
theorem execPmuSendCfg_known (id kind ip : Nat) (s : State) (lo : 1 ≤ kind) (hi : kind ≤ 3) :
    execPmuSendCfg id true kind ip s = .next (pmuCommand (2 + kind) id ip true s) := by simp [execPmuSendCfg, lo, hi]

/-! GOOSE reception (R571 to R573). -/

/-- The entry found under a number has it, and so has the one that stands in where there is none. -/
theorem find?_getD_num {α : Type} (num : α → Nat) (l : List α) (k : Nat) (d : α) (h : num d = k) :
    num ((l.find? (fun x => num x == k)).getD d) = k := by
  cases hit : l.find? (fun x => num x == k) with
  | none => exact h
  | some x => simpa using List.find?_some hit

theorem subOf_num (s : State) (k : Nat) : (subOf s k).num = k := find?_getD_num GooseSub.num _ k _ rfl

theorem subOf_putSub (x : GooseSub) (s : State) (k : Nat) (h : x.num = k) : subOf (putSub x s) k = x := by
  simp [subOf, putSub, h]

theorem subOf_of_subs {s t : State} (h : t.net.subs = s.net.subs) (k : Nat) : subOf t k = subOf s k := by
  rw [subOf, h, subOf]

theorem putSub_only (x : GooseSub) (s : State) : Only [.net] s (putSub x s) := State.with_net_only s _

/-- A frame that fails a check is counted, and told once a second. -/
theorem execGooseFrameRx_rejected (f : GooseFrame) (k : Nat) (s : State) (hr : running s = true) (hp : portOn s f.port = true)
    (hk : subFor s f = some k) (hc : goReject s k f ≠ 0) : ∃ t, execGooseFrameRx f s = .next t ∧ Only [.net, .evr] s t ∧
      t.net.goRej = satInc 32 s.net.goRej ∧ t.net.pend = s.net.pend := by
  have net := fun n => (State.with_net_only s n).mono (qs := [.net, .evr]) (by decide)
  rw [execGooseFrameRx, if_neg (by simp [hr, hp]), hk]
  dsimp only
  rw [if_pos hc]
  split
  · exact ⟨_, rfl, net _, rfl, rfl⟩
  · refine ⟨_, rfl, ((net _).trans ((submit_only _ _ _ _).of_evr (by decide))).trans ((putSub_only _ _).of_net (by decide)),
      ?_, ?_⟩
    · simp [putSub]
    · simp [putSub]

theorem goAccept_only (k st sq ttl : Nat) (s : State) : Only [.net, .evr] s (goAccept k st sq ttl s) :=
  (Only.ite _ ((submit_only _ _ _ s).of_evr (by decide)) (Only.refl _ s)).trans ((putSub_only _ _).of_net (by decide))

theorem goAccept_pend (k st sq ttl : Nat) (s : State) : (goAccept k st sq ttl s).net.pend = s.net.pend := by
  unfold goAccept
  dsimp only
  split
  · simp [putSub]
  · rfl

theorem subOf_goAccept (k st sq ttl : Nat) (s : State) : subOf (goAccept k st sq ttl s) k =
    { subOf s k with lost := false, st := st, sq := sq, ever := true, until_ := td0 s + msT ttl } := by
  have now : td0 (if (subOf s k).lost = true then submit .net 0xA004 k s else s) = td0 s := by
    split
    · simp [td0]
    · rfl
  rw [goAccept, subOf_putSub, now]
  exact subOf_num s k

/-- A frame is newer than a subscription's last one (R572): never one, none in time, a higher state number, a higher sequence
number of the same state. -/
def NewerFrame (x : GooseSub) (f : GooseFrame) : Prop :=
  x.ever = false ∨ x.lost = true ∨
    (1 ≤ (f.st + 2 ^ 32 - x.st) % 2 ^ 32 ∧ (f.st + 2 ^ 32 - x.st) % 2 ^ 32 < 2 ^ 31) ∨ (f.st = x.st ∧ x.sq < f.sq)

theorem NewerFrame.not_repeated {x : GooseSub} {f : GooseFrame} (h : NewerFrame x f) :
    ¬(x.ever && !x.lost && f.st == x.st && f.sq == x.sq) = true := by
  simp only [Bool.and_eq_true, Bool.not_eq_true', beq_iff_eq]
  rintro ⟨⟨⟨ever, up⟩, st⟩, sq⟩
  rcases h with h | h | ⟨h, -⟩ | ⟨-, h⟩
  · simp [ever] at h
  · simp [up] at h
  · simp [st] at h
  · omega

theorem NewerFrame.not_older {x : GooseSub} {f : GooseFrame} (h : NewerFrame x f) :
    ¬(x.ever && !x.lost && !((decide (1 ≤ (f.st + 2 ^ 32 - x.st) % 2 ^ 32) &&
        decide ((f.st + 2 ^ 32 - x.st) % 2 ^ 32 < 2 ^ 31)) || (f.st == x.st && decide (x.sq < f.sq))) &&
      !(f.st == 1 && f.sq == 0)) = true := by
  rcases h with h | h | ⟨h, k⟩ | ⟨h, k⟩
  · simp [h]
  · simp [h]
  · simp only [h, k, decide_true, Bool.and_true, Bool.true_or, Bool.not_true, Bool.and_false, Bool.false_and]
    decide
  · simp [h, k]

/-- A newer frame is accepted, and its values wait for their wave. -/
theorem execGooseFrameRx_accepted (f : GooseFrame) (k : Nat) (s : State) (hr : running s = true) (hp : portOn s f.port = true)
    (hk : subFor s f = some k) (hc : goReject s k f = 0) (ha : followsAgreed s = false) (hn : NewerFrame (subOf s k) f) :
    ∃ t, execGooseFrameRx f s = .next t ∧ Only [.net, .evr, .pr] s t ∧ (subOf t k).st = f.st ∧ (subOf t k).sq = f.sq ∧
      (subOf t k).lost = false ∧ (subOf t k).until_ = td0 s + msT f.ttl ∧ t.net.pend.length = s.net.pend.length + 1 := by
  rw [execGooseFrameRx, if_neg (by simp [hr, hp]), hk]
  dsimp only
  rw [if_neg (not_not.mpr hc), if_neg (by simp [ha]), if_neg hn.not_repeated, if_neg hn.not_older]
  have told := fun wave vals a => sendAgree_only 3 wave vals a
  have net := fun wave vals a => (told wave vals a).same .net (by decide)
  have sub := fun wave vals n => (subOf_of_subs (congrArg Net.subs (net wave vals { goAccept k f.st f.sq f.ttl s with
    net := { (goAccept k f.st f.sq f.ttl s).net with pend := n } })) k).trans (subOf_goAccept k f.st f.sq f.ttl s)
  refine ⟨_, rfl, ?_, congrArg GooseSub.st (sub _ _ _), congrArg GooseSub.sq (sub _ _ _), congrArg GooseSub.lost (sub _ _ _),
    congrArg GooseSub.until_ (sub _ _ _), ?_⟩
  · exact (((goAccept_only k f.st f.sq f.ttl s).mono (by decide)).trans ((State.with_net_only _ _).of_net (by decide))).trans
      ((told _ _ _).mono (by decide))
  · rw [net]
    simp [goAccept_pend]

/-! GOOSE_SUB_LOST (R573). -/

theorem binSet_net (cls index : Nat) (st ok est gap : Bool) (t1 : Nat) (s : State) :
    (binSet cls index st ok est gap t1 s).net = s.net := (binSet_logs cls index st ok est gap t1 s).1.same .net (by decide)

theorem writeN_only (t1 : Nat) (w : Bool × Nat × Nat × Nat) (s : State) :
    Only [.dr, .le, .pr, .evr, .gr, .net] s (writeN t1 w s) := by
  obtain ⟨word, a, v, q⟩ := w
  have put := fun l n => ((State.with_le_only s l).seq (State.with_net_only _ n)).mono
    (qs := [.dr, .le, .pr, .evr, .gr, .net]) (by decide)
  have raised := fun k i e t1 t0 b => (raiseTrig_only k i e t1 t0 b).mono (qs := [.dr, .le, .pr, .evr, .gr, .net]) (by decide)
  have recorded := fun c i st ok e g t1 b => ((markDirty_only b).seq (binSet_logs c i st ok e g t1 (markDirty b)).1).mono
    (qs := [.dr, .le, .pr, .evr, .gr, .net]) (by decide)
  exact Only.trans (put _ _) (Only.trans (Only.ite _ (Only.refl _ _) (raised _ _ _ _ _ _))
    (Only.ite _ (Only.refl _ _) (recorded _ _ _ _ _ _ _ _)))

theorem writeN_subs (t1 : Nat) (w : Bool × Nat × Nat × Nat) (s : State) : (writeN t1 w s).net.subs = s.net.subs := by
  obtain ⟨word, a, v, q⟩ := w
  unfold writeN
  dsimp only
  repeat' split
  all_goals simp [binSet_net, markDirty]

/-- Writes into the N space leave a lost subscription lost, and the time units and the acquisition as they are. -/
theorem lost_after_writes {α : Type} {f : State → α → State} (hf : ∀ s a, ∃ t1 w, f s a = writeN t1 w s) (l : List α)
    {s b : State} (k : Nat) (ho : Only [.evr, .net] s b) (hl : (subOf b k).lost = true) :
    (subOf (l.foldl f b) k).lost = true ∧ (l.foldl f b).tu = s.tu ∧ (l.foldl f b).acq = s.acq := by
  have only : Only [.dr, .le, .pr, .evr, .gr, .net] s (l.foldl f b) := (ho.mono (by decide)).trans
    (Only.foldl _ f l b fun s a => by obtain ⟨t1, w, h⟩ := hf s a; exact h ▸ writeN_only t1 w s)
  have subs : (l.foldl f b).net.subs = b.net.subs := foldl_keeps (fun s => s.net.subs) f l b fun s a => by
    obtain ⟨t1, w, h⟩ := hf s a
    exact h ▸ writeN_subs t1 w s
  exact ⟨subOf_of_subs subs k ▸ hl, only.same .tu (by decide), only.same .acq (by decide)⟩

theorem execGooseSubLost_marks (k : Nat) (s : State) (hr : running s = true) (he : (subOf s k).ever = true)
    (hl : (subOf s k).lost = false) (hu : (subOf s k).until_ ≤ td0 s) : ∃ t, execGooseSubLost k s = .next t ∧
      (subOf t k).lost = true ∧ t.tu = s.tu ∧ t.acq = s.acq := by
  have lost := congrArg GooseSub.lost (subOf_putSub { subOf s k with lost := true } (submit .net 0xA003 k s) k (subOf_num s k))
  refine ⟨_, if_neg (by simp [hr, he, hl, Nat.not_lt.mpr hu]), ?_⟩
  exact lost_after_writes (fun _ _ => ⟨_, _, rfl⟩) _ k ((submit_only .net 0xA003 k s).seq (putSub_only _ _)) lost

/-! GOOSE_RETRANSMIT (R568). -/

theorem pubOf_num (s : State) (p : Nat) : (pubOf s p).num = p := find?_getD_num GoosePub.num _ p _ rfl

theorem pubOf_putPub (x : GoosePub) (s : State) (p : Nat) (h : x.num = p) : pubOf (putPub x s) p = x := by
  simp [pubOf, putPub, h]

theorem sendFrame_pubs (kind mask : Nat) (ids vals : List Nat) (bytes : List Byte) (s : State) :
    (sendFrame kind mask ids vals bytes s).net.pubs = s.net.pubs :=
  congrArg Prod.fst (sendFrame_supervisionRegs kind mask ids vals bytes s)

theorem pubOf_goSend (x : GoosePub) (s : State) (p : Nat) : pubOf (goSend x s) p = pubOf s p := by
  unfold goSend
  split
  · rfl
  · rw [pubOf, sendFrame_pubs, pubOf]

/-- The publication as its frame is sent again: the next sequence number, the next step of the series. -/
def resentPub (p : Nat) (s : State) : GoosePub :=
  let x := pubOf s p
  let step := if x.first then x.interval else min (2 * x.interval) (goT0 s p)
  { x with sq := goInc x.sq, first := false, interval := step, nextAt := x.nextAt + msT step }

theorem execGooseRetransmit_resends (p : Nat) (x : GoosePub) (s : State) (hx : x = pubOf s p) (hr : running s = true)
    (hs : x.st ≠ 0) (hp : (prm s 0x0910 p).isSome = true) (hd : x.nextAt ≤ td0 s) : ∃ t, execGooseRetransmit p s = .next t ∧
      Only [.net] s t ∧ (pubOf t p).sq = goInc x.sq ∧ (pubOf t p).st = x.st ∧
      (pubOf t p).interval = (if x.first then x.interval else min (2 * x.interval) (goT0 s p)) := by
  subst hx
  have hn : (prm s 0x0910 p).isNone = false := by rw [← Option.not_isSome, hp]; rfl
  have runs : execGooseRetransmit p s = .next (goSend (resentPub p s) (putPub (resentPub p s) s)) :=
    if_neg (by simp [hr, hs, hn, Nat.not_lt.mpr hd])
  have sent : pubOf (goSend (resentPub p s) (putPub (resentPub p s) s)) p = resentPub p s :=
    (pubOf_goSend _ _ p).trans (pubOf_putPub (resentPub p s) s p (pubOf_num s p))
  refine ⟨_, runs, (State.with_net_only s _).trans (goSend_only _ _), ?_⟩
  rw [sent]
  exact ⟨rfl, rfl, rfl⟩

/-! Supervision of PRP and HSR (R562). -/

/-- The supervision frame has been handed to both ports. -/
def supervisionSent (s : State) : State :=
  sendFrame 7 3 [0x01154E000100, ownMac s] [] [] { s with net := { s.net with supAt := td0 s } }

theorem supervisionSent_only (s : State) : Only [.net] s (supervisionSent s) :=
  (State.with_net_only s _).trans (sendFrame_only _ _ _ _ _ _)

theorem supervisionSent_regs (s : State) :
    supervisionRegs (supervisionSent s) = (s.net.pubs, td0 s, fun p => (portAt s p).noReturn) :=
  sendFrame_supervisionRegs _ _ _ _ _ _

/-- On HSR both lanes await the frame's return. -/
def returnAwaited (s : State) : State :=
  [0, 1].foldl (fun s p => updPort p (fun x => { x with noReturn := x.noReturn + 1 }) s) s

theorem returnAwaited_only (s : State) : Only [.net] s (returnAwaited s) := Only.foldl _ _ _ s fun s p => updPort_only p _ s

theorem returnAwaited_noReturn (s : State) (p : Nat) (h : p < 2) :
    (portAt (returnAwaited s) p).noReturn = (portAt s p).noReturn + 1 := by
  rcases (by omega : p = 0 ∨ p = 1) with rfl | rfl
  · rw [returnAwaited, List.foldl_cons, List.foldl_cons, List.foldl_nil, portAt_updPort_ne 0 1 _ _ (by decide),
      portAt_updPort 0 _ s (by decide)]
  · rw [returnAwaited, List.foldl_cons, List.foldl_cons, List.foldl_nil, portAt_updPort 1 _ _ (by decide),
      portAt_updPort_ne 1 0 _ s (by decide)]

theorem execPrpSupervisionTx_due (s : State) (hr : running s = true) (hp : abPair s = true)
    (hd : s.net.supAt + secT 2 ≤ td0 s) : execPrpSupervisionTx s =
      .next (if abMode s = 2 then returnAwaited (supervisionSent s) else supervisionSent s) := by
  have mode : abMode (supervisionSent s) = abMode s :=
    pv_of_img ((supervisionSent_only s).same .img (by decide)) _ _ _ _ _
  refine (if_neg (by simp [hr, hp, Nat.not_lt.mpr hd])).trans ?_
  by_cases ring : abMode s = 2
  · rw [if_pos ring]
    exact if_neg (not_not.mpr (mode.trans ring))
  · rw [if_neg ring]
    exact if_pos fun h => ring (mode.symm.trans h)

theorem execPrpSupervisionTx_sends (s : State) (hr : running s = true) (hp : abPair s = true)
    (hd : s.net.supAt + secT 2 ≤ td0 s) : ∃ t, execPrpSupervisionTx s = .next t ∧ Only [.net] s t ∧ t.net.supAt = td0 s ∧
      ∀ p, p < 2 → (portAt t p).noReturn = (portAt s p).noReturn + (if abMode s = 2 then 1 else 0) := by
  have supAt := congrArg (fun r => r.2.1) (supervisionSent_regs s)
  have counts := congrFun (congrArg (fun r => r.2.2) (supervisionSent_regs s))
  refine ⟨_, execPrpSupervisionTx_due s hr hp hd,
    Only.ite _ ((supervisionSent_only s).trans (returnAwaited_only _)) (supervisionSent_only s), ?_, fun p hp => ?_⟩
  · split
    · exact supAt
    · exact supAt
  · split
    · exact (returnAwaited_noReturn _ p hp).trans (congrArg (· + 1) (counts p))
    · exact counts p

/-! NET_LANE_LOSS on a lane (R577). -/

theorem laneLoss_detOn (cause port : Nat) (s : State) : detOn (laneLoss cause port s) 0x20 port = true := by
  have fired := fireDet_detOn 0x20 port (16 * cause + port) s
  unfold laneLoss
  dsimp only
  split
  · exact fired
  · exact fired

theorem laneLoss_only (cause port : Nat) (s : State) : Only [.net, .evr, .hlt] s (laneLoss cause port s) :=
  Only.trans_ite _ (((fireDet_only _ _ _ s).mono (by decide)).trans ((updPort_only _ _ _).of_net (by decide)))
    ((State.with_net_only _ _).of_net (by decide))

theorem portAt_laneLoss (cause port : Nat) (s : State) (h : port < 3) : portAt (laneLoss cause port s) port =
    { portAt s port with loss := true, lossVal := 16 * cause + port, clearAt := none } := by
  have put := portAt_updPort port (fun x => { x with loss := true, lossVal := 16 * cause + port, clearAt := none })
    (fireDet 0x20 port (16 * cause + port) s) h
  rw [portAt_of_net (fireDet_net _ _ _ _)] at put
  unfold laneLoss
  dsimp only
  split
  · exact put
  · exact put

theorem execLaneNoFrame_fires (port : Nat) (s : State) (hr : running s = true) (h : port < 2)
    (hl : (portAt s port).loss = false) (hp : abPair s = true) (hk : (portAt s port).link = true)
    (ha : (portAt s port).rxAt + secT 2 ≤ td0 s) (hb : td0 s < (portAt s (1 - port)).rxAt + secT 2) :
    ∃ t, execLaneNoFrame port s = .next t ∧ Only [.net, .evr, .hlt] s t ∧ (portAt t port).loss = true ∧
      (portAt t port).lossVal = 32 + port ∧ detOn t 0x20 port = true := by
  refine ⟨laneLoss 2 port s, if_neg ?_, laneLoss_only 2 port s, ?_, ?_, laneLoss_detOn 2 port s⟩
  · simp [hr, hp, hl, hk, Nat.not_le.mpr h, Nat.not_lt.mpr ha, Nat.not_le.mpr hb]
  · rw [portAt_laneLoss 2 port s (by omega)]
  · rw [portAt_laneLoss 2 port s (by omega)]

theorem execRingOpen_fires (port : Nat) (s : State) (hr : running s = true) (h : port < 2)
    (hl : (portAt s port).loss = false) (hm : abMode s = 2) (hn : 3 ≤ (portAt s port).noReturn) :
    ∃ t, execRingOpen port s = .next t ∧ Only [.net, .evr, .hlt] s t ∧ (portAt t port).loss = true ∧
      t.net.ringOpen = true ∧ detOn t 0x20 port = true := by
  refine ⟨laneLoss 3 port s, if_neg ?_, laneLoss_only 3 port s, ?_, rfl, laneLoss_detOn 3 port s⟩
  · simp [hr, hm, hl, Nat.not_le.mpr h, Nat.not_lt.mpr hn]
  · rw [portAt_laneLoss 3 port s (by omega)]

/-- Settles O37, row by row. -/
theorem streamRowsComplete : Obligations.StreamRowsComplete := by
  refine ⟨fun id ip k s hr hk => ⟨fun hf ha => ?_, fun hf => ?_, ?_⟩,
    fun f k s hr hp hk => ⟨execGooseFrameRx_rejected f k s hr hp hk, execGooseFrameRx_accepted f k s hr hp hk⟩,
    execGooseSubLost_marks, execGooseRetransmit_resends, execPrpSupervisionTx_sends, fun _ => rfl,
    fun port s hr h hl => ⟨execLaneNoFrame_fires port s hr h hl, execRingOpen_fires port s hr h hl⟩⟩
  · have applied := fun op ip => congrArg (Host.Outcome.next : State → Res) (pmuCommand_applied op id ip k s hr hk hf ha)
    exact ⟨applied 0 0, applied 1 0, ⟨_, applied 2 ip, applyPmu_frame 2 k ip s (by decide) (pmuByCode_lt hk)⟩,
      fun kind lo hi => ⟨_, (execPmuSendCfg_known id kind ip s lo hi).trans (applied _ ip),
        applyPmu_config kind k ip s lo (pmuByCode_lt hk)⟩⟩
  · have named := fun op ip => congrArg (Host.Outcome.next : State → Res) (pmuCommand_agreed op id ip k s hr hk hf)
    exact ⟨named 0 0, named 1 0, named 2 ip, fun kind lo hi => (execPmuSendCfg_known id kind ip s lo hi).trans (named _ ip)⟩
  · exact congrArg Host.Outcome.next (pmuCommand_rejected 0 id 0 k s hr hk)

end Sys2Proof.Machine
end

section
/-! PROOFS. Location and a trip in one event (R214, R306, R331, R346): TW_LOCATION_DONE ends with the releases that have become
possible, as every scheduler event does. In a part without U_TW a trip at one of them queues a location itself, so the queue that
the row leaves is not always the old one without its burst. -/

namespace Sys2Proof.Machine
open Sys2Proof

/-- A location of terminal 1 whose estimate has been taken: no valid loop (R334). -/
def awaitingLocation : Burst := { (default : Burst) with term := 1, job := some 3, dz := some none }

/-- Its job. -/
def locationJob : Job := { (default : Job) with id := 3, started := true }

/-- An image whose trip matrix row 0 reads DI 0 alone, with the length and the impedance of the line at terminal 1. -/
def tripImage : Image :=
  { (default : Image) with params :=
      [⟨0x0530, 0, leBytes 2 0x800 ++ List.replicate 62 0xFF#8⟩, ⟨0x0546, 1, leBytes 4 100000⟩,
       ⟨0x0549, 1, leBytes 4 0x3CF5C28F ++ leBytes 4 0x3EA3D70A⟩] }

/-- An engine of ordering code E with that location, where DI 0 has come on and wave 0 is open with none of its instances
outstanding: its release is possible, and row 0 trips with it. -/
def tripDue : State :=
  { State.reset with
    code := .e
    pw := { State.reset.pw with phase := .running }
    img := { State.reset.img with cur := some tripImage }
    acq := { State.reset.acq with di := 1#16, diValid := 1#16, locQ := [awaitingLocation] }
    gr := { State.reset.gr with running := true, openWaves := [(0, 0)], rows := [default], jobs := [locationJob] } }

/-- What TW_LOCATION_DONE leaves there. -/
def tripped : State := resState tripDue (exec (.twLocationDone 1) tripDue)

/-- The trip has queued a new location of terminal 1 (R346). -/
theorem tripped_locQ : tripped.acq.locQ.map (·.term) = [1] := by decide

/-- Refutes O34, by its clause on TW_LOCATION_DONE: at `tripDue` the queue is empty without the burst located, and the trip of the
same event queues terminal 1 again. -/
theorem not_travellingWaveRowsComplete : ¬ Obligations.TravellingWaveRowsComplete := by
  unfold Obligations.TravellingWaveRowsComplete
  rintro ⟨-, location, -⟩
  obtain ⟨t, runs, left⟩ := location 1 awaitingLocation locationJob tripDue (by decide) (by decide) (by decide) (by decide)
  have emptied : (tripDue.acq.locQ.erase awaitingLocation).map (·.term) = [] := by decide
  have leaves : tripped = t := by rw [tripped, runs, resState_next]
  have queued := tripped_locQ
  rw [leaves, left, emptied] at queued
  exact absurd queued (by decide)

end Sys2Proof.Machine
end

section
/-! PROOFS. Canonical sparse storage is determined by what it reads (R349, R350), and the fields of an instruction word (R347,
R348). -/

namespace Sys2Proof.Machine
open Sys2Proof

/-! Sparse storage. -/

theorem smAbove_cons_iff {lo k v : Nat} {m : SMap} :
    smAbove lo ((k, v) :: m) = true ↔ lo ≤ k ∧ v ≠ 0 ∧ smAbove (k + 1) m = true := by
  simp [smAbove, and_assoc]

/-- The first key of a store reads its value. -/
theorem smGet_cons_self (k v : Nat) (m : SMap) : smGet ((k, v) :: m) k = v := if_pos rfl

theorem smGet_cons_ne {k a : Nat} (v : Nat) (m : SMap) (h : a ≠ k) : smGet ((k, v) :: m) a = smGet m a := if_neg (Ne.symm h)

/-- Of two stores that read alike, the second has no first key above the first's. -/
theorem firstKey_le_of_reads_alike {lo lo' k v k' v' : Nat} {m m' : SMap} (w : smAbove lo ((k, v) :: m) = true)
    (w' : smAbove lo' ((k', v') :: m') = true) (h : ∀ a, smGet ((k, v) :: m) a = smGet ((k', v') :: m') a) : k' ≤ k := by
  obtain ⟨-, nonzero, -⟩ := smAbove_cons_iff.mp w
  obtain ⟨-, nonzero', above'⟩ := smAbove_cons_iff.mp w'
  by_contra below
  have reads := h k
  rw [smGet_cons_self, smGet_below _ k' k (smAbove_cons_iff.mpr ⟨le_rfl, nonzero', above'⟩) (by omega)] at reads
  exact nonzero reads

/-- Beside an equal first key, two stores that read alike have rests that read alike. -/
theorem rests_read_alike {k v v' : Nat} {m m' : SMap} (w : smAbove (k + 1) m = true) (w' : smAbove (k + 1) m' = true)
    (h : ∀ a, smGet ((k, v) :: m) a = smGet ((k, v') :: m') a) (a : Nat) : smGet m a = smGet m' a := by
  by_cases ha : a = k
  · rw [smGet_below m (k + 1) a w (by omega), smGet_below m' (k + 1) a w' (by omega)]
  · rw [← smGet_cons_ne v m ha, h a, smGet_cons_ne v' m' ha]

theorem eq_of_smAbove_of_reads_alike (m m' : SMap) (lo lo' : Nat) (w : smAbove lo m = true) (w' : smAbove lo' m' = true)
    (h : ∀ a, smGet m a = smGet m' a) : m = m' := by
  induction m generalizing m' lo lo' with
  | nil =>
    cases m' with
    | nil => rfl
    | cons p' m' =>
      have zero := (smGet_cons_self p'.1 p'.2 m').symm.trans (h p'.1).symm
      exact absurd zero (smAbove_cons_iff.mp w').2.1
  | cons p m ih =>
    obtain ⟨k, v⟩ := p
    cases m' with
    | nil => exact absurd ((smGet_cons_self k v m).symm.trans (h k)) (smAbove_cons_iff.mp w).2.1
    | cons p' m' =>
      obtain ⟨k', v'⟩ := p'
      obtain rfl : k = k' :=
        le_antisymm (firstKey_le_of_reads_alike w' w fun a => (h a).symm) (firstKey_le_of_reads_alike w w' h)
      obtain ⟨-, -, above⟩ := smAbove_cons_iff.mp w
      obtain ⟨-, -, above'⟩ := smAbove_cons_iff.mp w'
      have value : v = v' := by simpa only [smGet_cons_self] using h k
      rw [value, ih m' (k + 1) (k + 1) above above' (rests_read_alike above above' h)]

/-- Settles O6: the laws of a write, and extensionality by induction on both stores. -/
theorem sparseStorageReadsWhatWasWritten : Obligations.SparseStorageReadsWhatWasWritten := fun m w =>
  ⟨fun a v => ⟨smSet_wf m a v w, smGet_smSet m a v w, fun b hb => smGet_smSet_ne m a b v hb⟩,
    fun m' w' h => eq_of_smAbove_of_reads_alike m m' 0 0 w w' h⟩

/-! Instruction words. -/

theorem instrWord_toNat {op sp a : Nat} (ho : op < 256) (hs : sp < 16) (ha : a < 2 ^ 20) :
    (instrWord op sp a).toNat = op * 2 ^ 24 + sp * 2 ^ 20 + a := by
  rw [instrWord, BitVec.toNat_ofNat]
  omega

theorem opOf_instrWord {op sp a : Nat} (ho : op < 256) (hs : sp < 16) (ha : a < 2 ^ 20) : opOf (instrWord op sp a) = op := by
  rw [opOf, instrWord_toNat ho hs ha]
  omega

theorem spOf_instrWord {op sp a : Nat} (ho : op < 256) (hs : sp < 16) (ha : a < 2 ^ 20) : spOf (instrWord op sp a) = sp := by
  rw [spOf, instrWord_toNat ho hs ha]
  omega

theorem adOf_instrWord {op sp a : Nat} (ho : op < 256) (hs : sp < 16) (ha : a < 2 ^ 20) : adOf (instrWord op sp a) = a := by
  rw [adOf, instrWord_toNat ho hs ha]
  omega

/-- The fields that the program check reads are those of R348's bit positions. -/
theorem opOf_bits (w : Word) : w.extractLsb' 24 8 = BitVec.ofNat 8 (opOf w) := by
  rw [BitVec.extractLsb', Nat.shiftRight_eq_div_pow, opOf]

theorem spOf_bits (w : Word) : w.extractLsb' 20 4 = BitVec.ofNat 4 (spOf w) := by
  apply BitVec.eq_of_toNat_eq
  rw [BitVec.extractLsb', Nat.shiftRight_eq_div_pow, spOf, BitVec.toNat_ofNat, BitVec.toNat_ofNat]
  omega

theorem adOf_bits (w : Word) : w.extractLsb' 0 20 = BitVec.ofNat 20 (adOf w) := by
  apply BitVec.eq_of_toNat_eq
  rw [BitVec.extractLsb', Nat.shiftRight_zero, adOf, BitVec.toNat_ofNat, BitVec.toNat_ofNat]
  omega

/-- Settles O56: each field is read back, so that two instructions with one word have the same fields. -/
theorem instructionWordsKeepTheirFields : Obligations.InstructionWordsKeepTheirFields := by
  constructor
  · intro op sp a ho hs ha
    have op_eq := opOf_instrWord ho hs ha
    have sp_eq := spOf_instrWord ho hs ha
    have ad_eq := adOf_instrWord ho hs ha
    rw [opOf_bits, spOf_bits, adOf_bits, op_eq, sp_eq, ad_eq]
    exact ⟨rfl, rfl, rfl, rfl, rfl, rfl⟩
  · intro op sp a op' sp' a' ho hs ha ho' hs' ha' same
    have op_eq := congrArg opOf same
    have sp_eq := congrArg spOf same
    have ad_eq := congrArg adOf same
    rw [opOf_instrWord ho hs ha, opOf_instrWord ho' hs' ha'] at op_eq
    rw [spOf_instrWord ho hs ha, spOf_instrWord ho' hs' ha'] at sp_eq
    rw [adOf_instrWord ho hs ha, adOf_instrWord ho' hs' ha'] at ad_eq
    exact ⟨op_eq, sp_eq, ad_eq⟩

end Sys2Proof.Machine
end

section
/-! PROOFS. The instructions on bits, brackets, edges, timers and counters (R347, R349, R350, R353, R355 to R360): one lemma for
each kind of instruction says what it does where its task stands, then the instructions of the kind. -/

namespace Sys2Proof.Machine
open Sys2Proof

/-- An instruction acts on the task past it; the task's record is then written back. -/
theorem runInstr_ran {op sp a : Nat} {s : State} {t : Task} (f : InstrFn) (h : atInstr s op sp a = some t) :
    runInstr op sp a f s = ran (f sp a (past t) s).1 (f sp a (past t) s).2 :=
  runInstr_at op sp a f s t h

/-- Where its effect is known: one equation for the instruction's function gives the state after it. -/
theorem runInstr_of_eq {op sp a : Nat} {s u : State} {t y : Task} {f : InstrFn} (h : atInstr s op sp a = some t)
    (e : f sp a (past t) s = (y, u)) : runInstr op sp a f s = ran y u := by
  rw [runInstr_ran f h, e]

theorem ran_only (t : Task) (s : State) : Only [.le] s (ran t s) := State.with_le_only s _

/-! Bits. -/

/-- The bit operand is read alike before the task's program counter moves and after. -/
theorem bitGet_past (s : State) (t : Task) (sp a : Nat) : bitGet s (past t) sp a = bitGet s t sp a := by
  unfold bitGet
  exact ite_congr rfl (fun _ => by rw [wordGet_past]) fun _ => rfl

theorem runInstr_iBit {op sp a : Nat} {s : State} {t : Task} (f : Bool → Bool → Bool) (h : atInstr s op sp a = some t) :
    runInstr op sp a (iBit f) s = ran { past t with rlo := f t.rlo (bitGet s t sp a) } s := by
  rw [← bitGet_past]
  exact runInstr_of_eq h rfl

/-- NOT, SETR and CLRR set RLO from the old RLO alone. -/
theorem runInstr_rlo {op sp a : Nat} {s : State} {t : Task} (f : Bool → Bool) (h : atInstr s op sp a = some t) :
    runInstr op sp a (fun _ _ t s => ({ t with rlo := f t.rlo }, s)) s = ran { past t with rlo := f t.rlo } s :=
  runInstr_of_eq h rfl

/-- Settles O18, instruction by instruction. -/
theorem logicBitInstructionsRun : Obligations.LogicBitInstructionsRun := fun _ _ _ _ =>
  ⟨fun h => congrArg _ (runInstr_iBit (fun _ x => x) h), fun h => congrArg _ (runInstr_iBit (fun _ x => !x) h),
    fun h => congrArg _ (runInstr_iBit (fun r x => r && x) h), fun h => congrArg _ (runInstr_iBit (fun r x => r && !x) h),
    fun h => congrArg _ (runInstr_iBit (fun r x => r || x) h), fun h => congrArg _ (runInstr_iBit (fun r x => r || !x) h),
    fun h => congrArg _ (runInstr_iBit (fun r x => r != x) h), fun h => congrArg _ (runInstr_iBit (fun r x => r != !x) h),
    fun h => congrArg _ (runInstr_rlo (fun r => !r) h), fun h => congrArg _ (runInstr_rlo (fun _ => true) h),
    fun h => congrArg _ (runInstr_rlo (fun _ => false) h), fun h => congrArg _ (runInstr_ran iNop h)⟩

/-! Brackets. -/

theorem bracket_eq (op : Nat) (saved inner : Bool) : bracket op saved inner =
    if op = 0 then saved && inner else if op = 1 then saved && !inner else if op = 2 then saved || inner
      else if op = 3 then saved || !inner else saved ^^ inner := by
  match op with
  | 0 | 1 | 2 | 3 => rfl
  | n + 4 => simp [bracket]

theorem iClose_of_cons {t : Task} {r : Bool} {op : Nat} {rest : List (Bool × Nat)} (h : t.nest = (r, op) :: rest)
    (sp a : Nat) (s : State) : iClose sp a t s = ({ t with rlo := bracket op r t.rlo, nest := rest }, s) := by
  rw [iClose, h]

theorem iClose_of_nil {t : Task} (h : t.nest = []) (sp a : Nat) (s : State) : iClose sp a t s = (t, s) := by
  rw [iClose, h]

theorem execLeBracketClose_pops {t : Task} {s : State} {r : Bool} {op : Nat} {rest : List (Bool × Nat)}
    (h : atInstr s 0x15 0 0 = some t) (hn : t.nest = (r, op) :: rest) : execLeBracketClose s = .next (ran { past t with
      nest := rest
      rlo := if op = 0 then r && t.rlo else if op = 1 then r && !t.rlo else if op = 2 then r || t.rlo
        else if op = 3 then r || !t.rlo else r ^^ t.rlo } s) := by
  rw [← bracket_eq]
  exact congrArg _ (runInstr_of_eq h (iClose_of_cons (t := past t) hn 0 0 s))

theorem runInstr_iPush {op : Nat} {s : State} {t : Task} (k : Nat) (h : atInstr s op 0 0 = some t) :
    runInstr op 0 0 (iPush k) s = ran { past t with nest := (t.rlo, k) :: t.nest } s :=
  runInstr_of_eq h rfl

/-- Settles O19: the five openings, then the closing bracket with an entry and without. -/
theorem bracketInstructionsNest : Obligations.BracketInstructionsNest := fun t s =>
  ⟨fun h => congrArg _ (runInstr_iPush 0 h), fun h => congrArg _ (runInstr_iPush 1 h),
    fun h => congrArg _ (runInstr_iPush 2 h), fun h => congrArg _ (runInstr_iPush 3 h),
    fun h => congrArg _ (runInstr_iPush 4 h), fun _ _ _ h hn => execLeBracketClose_pops h hn,
    fun h hn => congrArg _ (runInstr_of_eq h (iClose_of_nil (t := past t) hn 0 0 s))⟩

/-! Edge memories. -/

theorem find?_updFirst_of_disjoint {α : Type} (p q : α → Bool) (y : α) (l : List α) (hy : q y = false)
    (h : ∀ x, p x = true → q x = false) : (updFirst p (fun _ => y) l).find? q = l.find? q := by
  induction l with
  | nil => rfl
  | cons x xs ih =>
    rw [updFirst]
    split
    · rename_i hx
      rw [List.find?_cons_of_neg (by simp [hy]), List.find?_cons_of_neg (by simp [h x hx])]
    · rw [List.find?_cons, List.find?_cons, ih]

theorem edgeOf_n (s : State) (n : Nat) : (edgeOf s n).n = n := by
  unfold edgeOf
  cases found : s.le.edges.find? (fun (x : EdgeMem) => x.n == n) with
  | none => rfl
  | some e => simpa using List.find?_some found

theorem putEdge_only (e : EdgeMem) (s : State) : Only [.le] s (putEdge e s) := State.with_le_only s _

/-- The edge memories once one of them is written. -/
def edgesWith (e : EdgeMem) (es : List EdgeMem) : List EdgeMem :=
  if es.any (fun (x : EdgeMem) => x.n == e.n) then updFirst (fun (x : EdgeMem) => x.n == e.n) (fun _ => e) es else es ++ [e]

theorem putEdge_edges (e : EdgeMem) (s : State) : (putEdge e s).le.edges = edgesWith e s.le.edges := rfl

theorem find?_edgesWith_self (e : EdgeMem) (es : List EdgeMem) :
    (edgesWith e es).find? (fun (x : EdgeMem) => x.n == e.n) = some e := by
  unfold edgesWith
  split
  · rename_i listed
    exact find?_updFirst _ e es (by simp) (by simpa using listed)
  · rename_i unlisted
    rw [List.find?_append, List.find?_eq_none.mpr (by simpa using unlisted)]
    simp

theorem find?_edgesWith_ne (e : EdgeMem) (es : List EdgeMem) {k : Nat} (h : k ≠ e.n) :
    (edgesWith e es).find? (fun (x : EdgeMem) => x.n == k) = es.find? (fun (x : EdgeMem) => x.n == k) := by
  unfold edgesWith
  split
  · exact find?_updFirst_of_disjoint _ _ e es (by simp [Ne.symm h]) fun x hx => by
      simpa [eq_of_beq hx] using Ne.symm h
  · simp [Ne.symm h]

theorem edgeOf_putEdge_self (e : EdgeMem) (s : State) : edgeOf (putEdge e s) e.n = e := by
  rw [edgeOf, putEdge_edges, find?_edgesWith_self]
  rfl

theorem edgeOf_putEdge_ne (e : EdgeMem) (s : State) {k : Nat} (h : k ≠ e.n) : edgeOf (putEdge e s) k = edgeOf s k := by
  rw [edgeOf, putEdge_edges, find?_edgesWith_ne e _ h, edgeOf]

theorem edgeOf_ran (t : Task) (s : State) (k : Nat) : edgeOf (ran t s) k = edgeOf s k := rfl

/-- Edge memory `n` once it has stored RLO. -/
def edgeStored (s : State) (n : Nat) (rlo : Bool) : EdgeMem := { edgeOf s n with val := rlo, primed := false }

theorem iEdge_of_unprimed (rising : Bool) {s : State} {n : Nat} (h : (edgeOf s n).primed = false) (sp : Nat) (t : Task) :
    iEdge rising sp n t s = ({ t with rlo := if rising then t.rlo && !(edgeOf s n).val else !t.rlo && (edgeOf s n).val },
      putEdge (edgeStored s n t.rlo) s) := by
  rw [iEdge, h]
  rfl

/-- What both edge instructions leave: of the engine only the logic, of the edge memories all but their own. -/
theorem edgeStored_leaves (s : State) (n : Nat) (rlo : Bool) (t : Task) :
    Only [.le] s (ran t (putEdge (edgeStored s n rlo) s)) ∧
    (edgeOf (ran t (putEdge (edgeStored s n rlo) s)) n).val = rlo ∧
    ∀ k, k ≠ n → edgeOf (ran t (putEdge (edgeStored s n rlo) s)) k = edgeOf s k := by
  have num : (edgeStored s n rlo).n = n := edgeOf_n s n
  have own : edgeOf (putEdge (edgeStored s n rlo) s) n = edgeStored s n rlo := by
    simpa only [num] using edgeOf_putEdge_self (edgeStored s n rlo) s
  refine ⟨(putEdge_only _ s).trans (ran_only _ _), ?_, fun k hk => ?_⟩
  · rw [edgeOf_ran, own]
    rfl
  · rw [edgeOf_ran, edgeOf_putEdge_ne _ s (by rwa [num])]

theorem runInstr_iEdge (rising : Bool) {op sp n : Nat} {s : State} {t : Task} (hp : (edgeOf s n).primed = false)
    (h : atInstr s op sp n = some t) : ∃ u, (.next (runInstr op sp n (iEdge rising) s) : Res) = .next u ∧ Only [.le] s u ∧
      u = ran { past t with rlo := if rising then t.rlo && !(edgeOf s n).val else !t.rlo && (edgeOf s n).val }
        (putEdge { edgeOf s n with val := t.rlo, primed := false } s) ∧
      (edgeOf u n).val = t.rlo ∧ ∀ k, k ≠ n → edgeOf u k = edgeOf s k := by
  obtain ⟨only, stored, others⟩ := edgeStored_leaves s n t.rlo
    { past t with rlo := if rising then t.rlo && !(edgeOf s n).val else !t.rlo && (edgeOf s n).val }
  exact ⟨_, congrArg _ (runInstr_of_eq h (iEdge_of_unprimed rising hp sp (past t))), only, rfl, stored, others⟩

/-- Settles O20: FP and FN are the two directions of one instruction. -/
theorem edgeInstructionsDetectEdges : Obligations.EdgeInstructionsDetectEdges := fun _ _ _ _ hp =>
  ⟨fun h => runInstr_iEdge true hp h, fun h => runInstr_iEdge false hp h⟩

/-! Stores to bits. -/

theorem iSetRst_of_rlo {t : Task} (b : Bool) (h : t.rlo = true) (sp a : Nat) (s : State) :
    iSetRst b sp a t s = bitPut sp a b t s := if_pos h

theorem iSetRst_of_not_rlo {t : Task} (b : Bool) (h : t.rlo = false) (sp a : Nat) (s : State) :
    iSetRst b sp a t s = (t, s) := if_neg (by simp [h])

theorem runInstr_iSt {op sp a : Nat} {s : State} {t : Task} (neg : Bool) (h : atInstr s op sp a = some t) :
    runInstr op sp a (iSt neg) s =
      ran (bitPut sp a (t.rlo != neg) (past t) s).1 (bitPut sp a (t.rlo != neg) (past t) s).2 :=
  runInstr_ran (iSt neg) h

theorem runInstr_iSetRst_of_rlo {op sp a : Nat} {s : State} {t : Task} (b : Bool) (h : atInstr s op sp a = some t)
    (hr : t.rlo = true) : runInstr op sp a (iSetRst b) s = ran (bitPut sp a b (past t) s).1 (bitPut sp a b (past t) s).2 :=
  runInstr_of_eq h (iSetRst_of_rlo (t := past t) b hr sp a s)

theorem runInstr_iSetRst_of_not_rlo {op sp a : Nat} {s : State} {t : Task} (b : Bool) (hr : t.rlo = false)
    (h : atInstr s op sp a = some t) : runInstr op sp a (iSetRst b) s = ran (past t) s :=
  runInstr_of_eq h (iSetRst_of_not_rlo (t := past t) b hr sp a s)

theorem wordPut_only (sp a v : Nat) (t : Task) (s : State) : Only [.le] s (wordPut sp a v t s).2 := by
  unfold wordPut
  split
  · exact Only.refl _ s
  · exact State.with_le_only s _
  · exact Only.refl _ s
  · exact Only.refl _ s
  · exact Only.refl _ s

/-- A bit above 65 535 is a bit of a word: of an output word the task's own image takes it. -/
theorem bitPut_only (sp a : Nat) (b : Bool) (t : Task) (s : State) : Only [.le] s (bitPut sp a b t s).2 := by
  unfold bitPut
  dsimp only
  split
  · split
    · exact Only.refl _ s
    · exact wordPut_only _ _ _ t s
  · split
    · exact State.with_le_only s _
    · exact Only.refl _ s
    · exact Only.refl _ s
    · exact Only.refl _ s

theorem bitPut_m {a : Nat} (b : Bool) (t : Task) (s : State) (h : a < 65536) :
    (bitPut 2 a b t s).2.le.m = smSetBit s.le.m a b := by
  rw [bitPut, if_neg (by omega)]
  rfl

theorem smBit_smSetBit_ne (m : SMap) {a k : Nat} (b : Bool) (h : k ≠ a) : smBit (smSetBit m a b) k = smBit m k := by
  rw [smBit, smSetBit, smGet_smSet_ne m a k _ h, smBit]

/-- Settles O21: the four instructions, then what bitPut writes and leaves. -/
theorem bitStoreInstructionsWrite : Obligations.BitStoreInstructionsWrite := by
  intro sp a t s
  refine ⟨fun h => ?_, fun h => ?_, fun h hr => congrArg _ (runInstr_iSetRst_of_rlo true h hr),
    fun h hr => congrArg _ (runInstr_iSetRst_of_rlo false h hr),
    fun hr => ⟨fun h => congrArg _ (runInstr_iSetRst_of_not_rlo true hr h),
      fun h => congrArg _ (runInstr_iSetRst_of_not_rlo false hr h)⟩, fun b ha w => ?_, fun b => bitPut_only sp a b t s⟩
  · have stored := runInstr_iSt false h
    rw [Bool.bne_false] at stored
    exact congrArg _ stored
  · have stored := runInstr_iSt true h
    rw [Bool.bne_true] at stored
    exact congrArg _ stored
  · rw [bitPut_m b t s ha]
    exact ⟨smBit_smSetBit s.le.m a b w, fun k hk => smBit_smSetBit_ne s.le.m b hk⟩

/-! Timers and counters. -/

theorem runInstr_iTimer {op sp a : Nat} {s : State} {t : Task} {x : Timer} (kind : Nat) (hx : timerOf s a = some x)
    (h : atInstr s op sp a = some t) : runInstr op sp a (iTimer kind) s =
      ran { past t with rlo := (timerExec kind t.rlo t.clk x).out } (putTimer (timerExec kind t.rlo t.clk x) s) :=
  runInstr_of_eq h (by rw [iTimer, hx]; rfl)

theorem runInstr_iTrst {op sp a : Nat} {s : State} {t : Task} {x : Timer} (hx : timerOf s a = some x)
    (h : atInstr s op sp a = some t) (hr : t.rlo = true) : runInstr op sp a iTrst s =
      ran (past t) (putTimer { x with elapsed := 0, rem := 0, out := false } s) :=
  runInstr_of_eq h (by rw [iTrst, hx]; exact if_pos hr)

theorem runInstr_iTpv {op sp a : Nat} {s : State} {t : Task} {x : Timer} (hx : timerOf s a = some x)
    (h : atInstr s op sp a = some t) : runInstr op sp a iTpv s = ran (past t) (putTimer { x with preset := t.acc.toNat } s) :=
  runInstr_of_eq h (by rw [iTpv, hx]; rfl)

/-- A count one up on a rising input, saturated (R359). -/
def countUp (rlo : Bool) (c : Counter) : Int := if rlo && !c.upIn then min (c.count + 1) 2147483647 else c.count

/-- A count one down on a rising input, saturated (R359). -/
def countDown (rlo : Bool) (c : Counter) : Int := if rlo && !c.dnIn then max (c.count - 1) (-2147483648) else c.count

theorem runInstr_iCtu {op sp a : Nat} {s : State} {t : Task} {c : Counter} (hc : counterOf s a = some c)
    (h : atInstr s op sp a = some t) : runInstr op sp a iCtu s =
      ran { past t with rlo := decide (c.preset ≤ countUp t.rlo c) }
        (putCounter { c with count := countUp t.rlo c, upIn := t.rlo } s) :=
  runInstr_of_eq h (by rw [iCtu, hc]; rfl)

theorem runInstr_iCtd {op sp a : Nat} {s : State} {t : Task} {c : Counter} (hc : counterOf s a = some c)
    (h : atInstr s op sp a = some t) : runInstr op sp a iCtd s =
      ran { past t with rlo := decide (countDown t.rlo c ≤ 0) }
        (putCounter { c with count := countDown t.rlo c, dnIn := t.rlo } s) :=
  runInstr_of_eq h (by rw [iCtd, hc]; rfl)

theorem runInstr_iCount {op sp a : Nat} {s : State} {t : Task} {c : Counter} (f : Counter → Int)
    (hc : counterOf s a = some c) (h : atInstr s op sp a = some t) (hr : t.rlo = true) :
    runInstr op sp a (iCount f) s = ran (past t) (putCounter { c with count := f c } s) :=
  runInstr_of_eq h (by rw [iCount, hc]; exact if_pos hr)

theorem runInstr_iCpv {op sp a : Nat} {s : State} {t : Task} {c : Counter} (hc : counterOf s a = some c)
    (h : atInstr s op sp a = some t) :
    runInstr op sp a iCpv s = ran (past t) (putCounter { c with preset := t.acc.toInt } s) :=
  runInstr_of_eq h (by rw [iCpv, hc]; rfl)

/-- Settles O22, instruction by instruction. -/
theorem timerAndCounterInstructionsRun : Obligations.TimerAndCounterInstructionsRun := fun _ _ t _ c _ =>
  ⟨fun hx => ⟨fun h => congrArg _ (runInstr_iTimer 1 hx h), fun h => congrArg _ (runInstr_iTimer 2 hx h),
      fun h => congrArg _ (runInstr_iTimer 3 hx h), fun h hr => congrArg _ (runInstr_iTrst hx h hr),
      fun h => congrArg _ (runInstr_iTpv hx h)⟩,
    fun hc => ⟨fun h => ⟨countUp t.rlo c, rfl, congrArg _ (runInstr_iCtu hc h)⟩,
      fun h => ⟨countDown t.rlo c, rfl, congrArg _ (runInstr_iCtd hc h)⟩,
      fun h hr => congrArg _ (runInstr_iCount (fun _ => 0) hc h hr),
      fun h hr => congrArg _ (runInstr_iCount (fun c => c.preset) hc h hr),
      fun h => congrArg _ (runInstr_iCpv hc h)⟩⟩

end Sys2Proof.Machine
end

section
/-! PROOFS. The instructions on words (R349, R353, R354): moves, bitwise logic and shifts, saturating arithmetic, comparisons;
then jumps, calls and requests (R347, R361). -/

namespace Sys2Proof.Machine
open Sys2Proof

/-! Moves, bitwise logic and shifts. -/

theorem runInstr_iShift {op sp a : Nat} {s : State} {t : Task} (f : Word → Nat → Word) (h : atInstr s op sp a = some t) :
    runInstr op sp a (iShift f) s = ran { past t with acc := f t.acc (a % 32) } s :=
  runInstr_of_eq h rfl

/-- SWC stores where RLO is 1, and otherwise only goes on. -/
theorem execLeSwc_at {sp a : Nat} {s : State} {t : Task} (h : atInstr s 0x42 sp a = some t) : execLeSwc sp a s =
    .next (if t.rlo then ran (wordPut sp a t.acc.toNat (past t) s).1 (wordPut sp a t.acc.toNat (past t) s).2
      else ran (past t) s) := by
  refine congrArg _ ((runInstr_ran fnSwc h).trans ?_)
  cases hr : t.rlo with
  | true => rw [show fnSwc sp a (past t) s = wordPut sp a t.acc.toNat (past t) s from if_pos hr, if_pos rfl]
  | false => rw [show fnSwc sp a (past t) s = (past t, s) from if_neg (by simp [past, hr]), if_neg (by decide)]

theorem wordPut_w (a v : Nat) (t : Task) (s : State) : (wordPut 3 a v t s).2.le.w = smSet s.le.w a v := rfl

/-- A constant's low 12 bits above the low 20 bits of a word. -/
theorem ofNat_highBits (a : Nat) (x : Word) :
    BitVec.ofNat 32 (a % 4096 * 2 ^ 20 + x.toNat % 2 ^ 20) = BitVec.ofNat 12 a ++ x.extractLsb' 0 20 := by
  apply BitVec.eq_of_toNat_eq
  have low : (x.extractLsb' 0 20).toNat = x.toNat % 2 ^ 20 := by rw [BitVec.extractLsb'_toNat, Nat.shiftRight_zero]
  rw [BitVec.toNat_append, low, BitVec.toNat_ofNat, BitVec.toNat_ofNat,
    ← Nat.shiftLeft_add_eq_or_of_lt (Nat.mod_lt _ (by decide)), Nat.shiftLeft_eq]
  omega

theorem runInstr_iLdh {op sp a : Nat} {s : State} {t : Task} (h : atInstr s op sp a = some t) :
    runInstr op sp a iLdh s = ran { past t with acc := BitVec.ofNat 12 a ++ t.acc.extractLsb' 0 20 } s := by
  rw [← ofNat_highBits]
  exact runInstr_of_eq h rfl

/-- Settles O23, instruction by instruction. -/
theorem wordMoveAndLogicInstructionsRun : Obligations.WordMoveAndLogicInstructionsRun := fun _ a t s =>
  ⟨fun h => congrArg _ (runInstr_iWord _ _ _ (fun _ x => x) s t h), fun h => congrArg _ (runInstr_ran fnSw h), execLeSwc_at,
    fun w => ⟨smGet_smSet s.le.w a t.acc.toNat w, fun k hk => smGet_smSet_ne s.le.w a k t.acc.toNat hk⟩,
    fun h => congrArg _ (runInstr_iLdh h), fun h => congrArg _ (runInstr_iWord _ _ _ (fun x y => x &&& y) s t h),
    fun h => congrArg _ (runInstr_iWord _ _ _ (fun x y => x ||| y) s t h),
    fun h => congrArg _ (runInstr_iWord _ _ _ (fun x y => x ^^^ y) s t h),
    fun h => congrArg _ (runInstr_iAcc _ _ _ (fun x => ~~~x) s t h),
    fun h => congrArg _ (runInstr_iShift (fun x n => x <<< n) h), fun h => congrArg _ (runInstr_iShift (fun x n => x >>> n) h),
    fun h => congrArg _ (runInstr_iShift (fun x n => x.sshiftRight n) h)⟩

/-! Saturating arithmetic (R354). -/

/-- An exact result clamped to the signed range of 32 bits. -/
def clamped (i : Int) : Word := BitVec.ofInt 32 (max (-2147483648) (min i 2147483647))

/-- An exact result outside that range. -/
def overflows (i : Int) : Bool := decide (2147483647 < i) || decide (i < -2147483648)

/-- `sat32` clamps, and tells an overflow. -/
theorem sat32_eq (i : Int) : sat32 i = (clamped i, overflows i) := by
  unfold sat32 clamped overflows
  split
  · rename_i above
    have top : max (-2147483648) (min i 2147483647) = 2147483647 := by omega
    rw [top, decide_eq_true (by omega : (2147483647 : Int) < i)]
    rfl
  · rename_i notAbove
    split
    · rename_i below
      have bottom : max (-2147483648) (min i 2147483647) = -2147483648 := by omega
      rw [bottom, decide_eq_true (by omega : i < -2147483648), Bool.or_true]
      rfl
    · rename_i notBelow
      have within : max (-2147483648) (min i 2147483647) = i := by omega
      rw [within, decide_eq_false (by omega : ¬ (2147483647 : Int) < i), decide_eq_false (by omega : ¬ i < -2147483648)]
      rfl

section
variable {op sp a : Nat} {s : State} {t : Task} {A B : Int}

/-- Arithmetic on the signed ACC and operand sets ACC, and OV where it overflows. -/
theorem runInstr_iArith (f : Int → Int → Word × Bool) (hA : A = t.acc.toInt)
    (hB : B = (BitVec.ofNat 32 (wordGet s t sp a)).toInt) (h : atInstr s op sp a = some t) :
    runInstr op sp a (iArith f) s = ran { past t with acc := (f A B).1, ov := t.ov || (f A B).2 } s := by
  rw [hA, hB, ← wordGet_past]
  exact runInstr_of_eq h rfl

theorem runInstr_iArith_sat (g : Int → Int → Int) (hA : A = t.acc.toInt)
    (hB : B = (BitVec.ofNat 32 (wordGet s t sp a)).toInt) (h : atInstr s op sp a = some t) :
    runInstr op sp a (iArith fun x y => sat32 (g x y)) s =
      ran { past t with acc := clamped (g A B), ov := t.ov || overflows (g A B) } s := by
  rw [runInstr_iArith _ hA hB h, sat32_eq]

theorem runInstr_divSat_nonzero (hA : A = t.acc.toInt) (hB : B = (BitVec.ofNat 32 (wordGet s t sp a)).toInt)
    (h : atInstr s op sp a = some t) (hb : B ≠ 0) : runInstr op sp a (iArith divSat) s =
      ran { past t with acc := clamped (A.tdiv B), ov := t.ov || overflows (A.tdiv B) } s := by
  rw [runInstr_iArith _ hA hB h, divSat, if_neg hb, sat32_eq]

theorem runInstr_divSat_zero (hA : A = t.acc.toInt) (hB : B = (BitVec.ofNat 32 (wordGet s t sp a)).toInt)
    (h : atInstr s op sp a = some t) (hb : B = 0) : runInstr op sp a (iArith divSat) s =
      ran { past t with acc := if 0 ≤ A then 0x7FFFFFFF#32 else 0x80000000#32, ov := true } s := by
  rw [runInstr_iArith _ hA hB h, divSat, if_pos hb, Bool.or_true]

/-- A remainder is in range: OV is kept. -/
theorem runInstr_modSat_nonzero (hA : A = t.acc.toInt) (hB : B = (BitVec.ofNat 32 (wordGet s t sp a)).toInt)
    (h : atInstr s op sp a = some t) (hb : B ≠ 0) : runInstr op sp a (iArith modSat) s =
      ran { past t with acc := BitVec.ofInt 32 (A.tmod B) } s := by
  rw [runInstr_iArith _ hA hB h, modSat, if_neg hb, Bool.or_false]
  rfl

theorem runInstr_modSat_zero (hA : A = t.acc.toInt) (hB : B = (BitVec.ofNat 32 (wordGet s t sp a)).toInt)
    (h : atInstr s op sp a = some t) (hb : B = 0) : runInstr op sp a (iArith modSat) s =
      ran { past t with acc := 0#32, ov := true } s := by
  rw [runInstr_iArith _ hA hB h, modSat, if_pos hb, Bool.or_true]

theorem runInstr_iSigned (f : Int → Int) (hA : A = t.acc.toInt) (h : atInstr s op sp a = some t) :
    runInstr op sp a (iSigned f) s = ran { past t with acc := clamped (f A), ov := t.ov || overflows (f A) } s := by
  refine runInstr_of_eq h ?_
  rw [hA, iSigned, sat32_eq]
  rfl

end

theorem magnitude_eq (A : Int) : (if A < 0 then -A else A) = A.natAbs := by omega

/-- Settles O24, instruction by instruction. -/
theorem integerArithmeticSaturates : Obligations.IntegerArithmeticSaturates := by
  intro sp a t s A B hA hB
  refine ⟨fun h => congrArg _ (runInstr_iArith_sat (· + ·) hA hB h),
    fun h => congrArg _ (runInstr_iArith_sat (· - ·) hA hB h), fun h => congrArg _ (runInstr_iArith_sat (· * ·) hA hB h),
    fun h hb => congrArg _ (runInstr_divSat_nonzero hA hB h hb),
    fun h hb => congrArg _ (runInstr_divSat_zero hA hB h hb), fun h hb => congrArg _ (runInstr_modSat_nonzero hA hB h hb),
    fun h hb => congrArg _ (runInstr_modSat_zero hA hB h hb), fun h => congrArg _ (runInstr_iSigned (fun x => -x) hA h), ?_⟩
  intro h
  rw [← magnitude_eq]
  exact congrArg _ (runInstr_iSigned (fun x => if x < 0 then -x else x) hA h)

/-! Comparisons. -/

theorem runInstr_iCmp {op sp a : Nat} {s : State} {t : Task} (f : Word → Word → Bool) (h : atInstr s op sp a = some t) :
    runInstr op sp a (iCmp f) s = ran { past t with rlo := f t.acc (BitVec.ofNat 32 (wordGet s t sp a)) } s := by
  rw [← wordGet_past]
  exact runInstr_of_eq h rfl

theorem beq_eq_decide_toInt (x y : Word) : (x == y) = decide (x.toInt = y.toInt) := by
  simp [BitVec.toInt_inj, beq_eq_decide]

theorem bne_eq_decide_toInt (x y : Word) : (x != y) = decide (x.toInt ≠ y.toInt) := by
  rw [bne, beq_eq_decide_toInt, decide_not]

theorem fLt_of_nan {x y : Word} (h : fIsNan x = true ∨ fIsNan y = true) : fLt x y = false := if_pos h

theorem fEq_of_nan {x y : Word} (h : fIsNan x = true ∨ fIsNan y = true) : fEq x y = false := by
  rcases h with h | h <;> simp [fEq, h]

/-- Settles O25, instruction by instruction. -/
theorem compareInstructionsSetRlo : Obligations.CompareInstructionsSetRlo := by
  intro sp a t s w hw
  subst hw
  refine ⟨fun h => ?_, fun h => ?_, fun h => congrArg _ (runInstr_iCmp BitVec.slt h),
    fun h => congrArg _ (runInstr_iCmp BitVec.sle h),
    fun h => congrArg _ (runInstr_iCmp (fun x y => y.slt x) h), fun h => congrArg _ (runInstr_iCmp (fun x y => y.sle x) h),
    fun h => congrArg _ (runInstr_iCmp fLt h), fun h => congrArg _ (runInstr_iCmp (fun x y => fLt y x) h),
    fun h => congrArg _ (runInstr_iCmp fEq h), fun h => ⟨fLt_of_nan h, fLt_of_nan h.symm, fEq_of_nan h⟩⟩
  · rw [← beq_eq_decide_toInt]
    exact congrArg _ (runInstr_iCmp (· == ·) h)
  · rw [← bne_eq_decide_toInt]
    exact congrArg _ (runInstr_iCmp (· != ·) h)

/-! Jumps, calls and requests. -/

theorem runInstr_iJump {op sp a : Nat} {s : State} {t : Task} (p : Bool → Bool) (h : atInstr s op sp a = some t) :
    runInstr op sp a (iJump p) s = ran (if p t.rlo then { past t with pc := a } else past t) s :=
  runInstr_of_eq h rfl

theorem runInstr_iRet {op sp a p : Nat} {rest : List Nat} {s : State} {t : Task} (h : atInstr s op sp a = some t)
    (hc : t.calls = p :: rest) : runInstr op sp a iRet s = ran { past t with pc := p, calls := rest } s := by
  refine runInstr_of_eq h ?_
  have calls : (past t).calls = p :: rest := hc
  rw [iRet, calls]

/-- JNC is the jump of the inverse of RLO. -/
theorem execLeJnc_at {a : Nat} {s : State} {t : Task} (h : atInstr s 0x72 0 a = some t) :
    execLeJnc a s = .next (ran (if t.rlo then past t else { past t with pc := a }) s) := by
  refine congrArg _ ((runInstr_iJump (!·) h).trans ?_)
  cases t.rlo with
  | true => rfl
  | false => rfl

theorem iEvt_of_rlo {t : Task} (h : t.rlo = true) (sp a : Nat) (s : State) : iEvt sp a t s =
    (t, emit .logic { engineEvent s (0xE000 + a % 8192) t.acc.toNat with origin := 2, source := t.num } s) := if_pos h

/-- The launch value that words `a` to `a` + 5 hold (R361). -/
def launchWords (s : State) (a : Nat) : LaunchVal :=
  parseLaunch (padTo 28 ((List.range 6).flatMap fun i => leBytes 4 (smGet s.le.w (a + i))))

theorem iLarm_of_rlo {t : Task} (h : t.rlo = true) (sp a : Nat) (s : State) : iLarm sp a t s =
    ({ t with reqs := t.reqs ++ [(true, smGet s.le.w (a + 6) % 64, launchWords s a, a + 6)] }, s) := if_pos h

theorem iLcan_of_rlo {t : Task} (h : t.rlo = true) (sp a : Nat) (s : State) :
    iLcan sp a t s = ({ t with reqs := t.reqs ++ [(false, t.acc.toNat, default, 0)] }, s) := if_pos h

theorem iEvt_of_not_rlo {t : Task} (h : ¬ t.rlo = true) (sp a : Nat) (s : State) : iEvt sp a t s = (t, s) := if_neg h

theorem iLarm_of_not_rlo {t : Task} (h : ¬ t.rlo = true) (sp a : Nat) (s : State) : iLarm sp a t s = (t, s) := if_neg h

theorem iLcan_of_not_rlo {t : Task} (h : ¬ t.rlo = true) (sp a : Nat) (s : State) : iLcan sp a t s = (t, s) := if_neg h

/-- Settles O27, instruction by instruction; the requests with RLO 1, then with RLO 0. -/
theorem jumpsCallsAndRequestsRun : Obligations.JumpsCallsAndRequestsRun := by
  intro sp a t s
  refine ⟨fun h => congrArg _ (runInstr_iJump (fun _ => true) h), fun h => congrArg _ (runInstr_iJump (fun r => r) h),
    execLeJnc_at, fun h => congrArg _ (runInstr_ran iCall h), fun _ _ h hc => congrArg _ (runInstr_iRet h hc),
    fun h hr => congrArg _ (runInstr_of_eq h (iEvt_of_rlo (t := past t) hr sp a s)),
    fun h hr => ⟨launchWords s a, congrArg _ (runInstr_of_eq h (iLarm_of_rlo (t := past t) hr sp a s))⟩,
    fun h hr => congrArg _ (runInstr_of_eq h (iLcan_of_rlo (t := past t) hr 0 0 s)), fun hr => ?_⟩
  have off : ¬ (past t).rlo = true := by simp [past, hr]
  exact ⟨fun h => congrArg _ (runInstr_of_eq h (iEvt_of_not_rlo off sp a s)),
    fun h => congrArg _ (runInstr_of_eq h (iLarm_of_not_rlo off sp a s)),
    fun h => congrArg _ (runInstr_of_eq h (iLcan_of_not_rlo off 0 0 s))⟩

end Sys2Proof.Machine
end

section
/-! PROOFS. The modes of the logic engine (R368 to R372, R378, R385, R388): what entering STOP, SAFE and HOLD leaves of it, then
mode commands, stepping, breakpoints, time-outs, retention and the peek registers. -/

namespace Sys2Proof.Machine
open Sys2Proof

/-! Mode changes. -/

/-- The logic engine after a change to a mode. -/
def modeSet (m : LeMode) (cause : Nat) (s : State) : Logic :=
  { s.le with mode := m, prev := s.le.mode.toNat, cause := cause, dirtySince := some (s.le.dirtySince.getD (td0 s)) }

theorem setMode_logic (m : LeMode) (cause : Nat) (s : State) : (setMode m cause s).le = modeSet m cause s := by
  simp [setMode, markDirty, modeSet, td0]

/-- The logic engine once every cycle is abandoned and a mode without running tasks is in force (R368, R372). -/
def haltedIn (m : LeMode) (cause : Nat) (s : State) : Logic := modeSet m cause (abandon (syncClk s))

theorem haltedIn_idle (m : LeMode) (cause : Nat) (s : State) : ∀ x ∈ (haltedIn m cause s).tasks, x.st = .idle := by
  intro x hx
  obtain ⟨y, -, rfl⟩ := List.mem_map.mp hx
  rfl

theorem enterStop_le (cause : Nat) (s : State) : (enterStop cause s).le = haltedIn .stop cause s := setMode_logic _ _ _

theorem enterSafe_logic (s : State) : (enterSafe s).le = haltedIn .safe 2 s := setMode_logic _ _ _

theorem enterStop_only (cause : Nat) (s : State) : Only [.le, .evr] s (enterStop cause s) :=
  (((syncClk_only s).seq (abandon_only _)).seq (setMode_only _ _ _)).mono (by decide)

theorem enterSafe_only (s : State) : Only [.le, .evr] s (enterSafe s) :=
  (((syncClk_only s).seq (abandon_only _)).seq (setMode_only _ _ _)).mono (by decide)

/-- The engine as HOLD finds it: the clock up to date, what the outputs drive and the held task taken (R370). -/
def holdFound (s : State) : State :=
  { syncClk s with le := { (syncClk s).le with
    driven := drivenNow s, holdAt := td0 s, heldTask := heldOf (syncClk s), stepping := none } }

theorem enterHold_le (cause : Nat) (s : State) : (enterHold cause s).le = modeSet .hold cause (holdFound s) :=
  setMode_logic _ _ _

/-! LE_MODE (R368, R371). -/

/-- The logic engine beside the change that awaits changeover. -/
def besideChange (s : State) : Logic := { s.le with change := none, changeSt := 0, changeRes := 0 }

theorem refuseChange_besideChange (st : Status) (s : State) : besideChange (refuseChange st s) = besideChange s := by
  cases awaiting : s.le.change with
  | none => rw [refuseChange, awaiting]
  | some c =>
    rw [besideChange, refuseChange_le c st s awaiting]
    rfl

theorem refuseChange_mode (st : Status) (s : State) : (refuseChange st s).le.mode = s.le.mode := by
  have mode := congrArg Logic.mode (refuseChange_besideChange st s)
  exact mode

/-- A mode command that the mode takes, of a lane that computes alone. -/
theorem execLeMode_applies (r : Req) (code : Nat) (s : State) (hw : waits r (code == 2) s = false)
    (hp : precheck r 0x0030 (code == 2) (roleOf 0x0030) s = none) (hr : code ≠ 0 ∧ code ≤ 5) (hf : pairRefuses s = false)
    (hs : s.pr.st = .solo) (ht : modeTakes s.le.mode code = true) :
    execLeMode r code s = .next (answer r 0x0030 .ok (applyMode code s)) := by
  rw [execLeMode, serveAs_served r _ _ _ s _ hw hp, if_neg (by omega), if_neg (by simp [hf, hs, ht]), if_neg (by simp [hs])]

theorem applyMode_stop (s : State) (h : s.le.mode = .run) : applyMode 2 s = enterStop 0 (refuseChange .badState s) := by
  have mode := (refuseChange_mode .badState s).trans h
  simp [applyMode, modeTakes, h, mode]

/-- COLD in RUN is asked for, and runs once no task is mid-cycle. -/
theorem applyMode_cold (s : State) (h : s.le.mode = .run) : applyMode 5 s =
    markDirty { refuseChange .badState s with le := { (refuseChange .badState s).le with coldPend := true } } := by
  have mode := (refuseChange_mode .badState s).trans h
  simp [applyMode, modeTakes, h, mode]

theorem execLeMode_stops (r : Req) (s : State) (hw : waits r true s = false)
    (hp : precheck r 0x0030 true (roleOf 0x0030) s = none) (hf : pairRefuses s = false) (hs : s.pr.st = .solo)
    (hm : s.le.mode = .run) : ∃ t, execLeMode r 2 s = .next t ∧ t.le.mode = .stop ∧ t.le.prev = LeMode.toNat .run ∧
      t.le.cause = 0 ∧ t.le.trigQ = [] ∧ (∀ x ∈ t.le.tasks, x.st = .idle) ∧ t.le.q = s.le.q ∧ t.le.m = s.le.m ∧
      t.le.w = s.le.w ∧ t.fio = s.fio := by
  have beside := refuseChange_besideChange .badState s
  have prev : (refuseChange .badState s).le.mode.toNat = LeMode.toNat .run := by rw [refuseChange_mode, hm]
  have q := congrArg Logic.q beside
  have m := congrArg Logic.m beside
  have w := congrArg Logic.w beside
  have fio := ((refuseChange_only .badState s).seq (enterStop_only 0 _)).same .fio (by decide)
  refine ⟨_, execLeMode_applies r 2 s hw hp (by decide) hf hs (by simp [modeTakes, hm]), ?_⟩
  rw [answer_le, answer_fio, applyMode_stop s hm, enterStop_le]
  exact ⟨rfl, prev, rfl, rfl, haltedIn_idle _ _ _, q, m, w, fio⟩

theorem execLeMode_asksCold (r : Req) (s : State) (hw : waits r false s = false)
    (hp : precheck r 0x0030 false (roleOf 0x0030) s = none) (hf : pairRefuses s = false) (hs : s.pr.st = .solo)
    (hm : s.le.mode = .run) : ∃ t, execLeMode r 5 s = .next t ∧ t.le.mode = .run ∧ t.le.coldPend = true ∧
      t.le.tasks = s.le.tasks ∧ t.le.m = s.le.m := by
  have beside := refuseChange_besideChange .badState s
  have mode := (refuseChange_mode .badState s).trans hm
  have tasks := congrArg Logic.tasks beside
  have m := congrArg Logic.m beside
  refine ⟨_, execLeMode_applies r 5 s hw hp (by decide) hf hs (by simp [modeTakes, hm]), ?_⟩
  rw [answer_le, applyMode_cold s hm]
  exact ⟨mode, rfl, tasks, m⟩

/-! LE_COLD_EXECUTE (R368). -/

theorem coldState_le (s : State) (h : s.le.sec.isSome = true) : (coldState s).le.coldPend = false ∧
    (coldState s).le.runClk = 0 ∧ (coldState s).le.program = s.le.program := by
  obtain ⟨sec, hs⟩ := Option.isSome_iff_exists.mp h
  rw [coldState, hs]
  exact ⟨rfl, rfl, rfl⟩

/-- The awaited COLD leaves RUN in force; what starts after it touches tasks and triggers alone. -/
theorem coldNow_le (s : State) (h : s.le.sec.isSome = true) : (coldNow s).le.coldPend = false ∧ (coldNow s).le.runClk = 0 ∧
    (coldNow s).le.mode = .run ∧ (coldNow s).le.program = s.le.program := by
  obtain ⟨coldPend, runClk, program⟩ := coldState_le s h
  have next : besideTasks (coldNow s) = besideTasks (setMode .run 0 (coldState s)) := (runNext_schedules _).beside
  rw [besideTasks, besideTasks, setMode_logic] at next
  have coldPendNext := congrArg Logic.coldPend next
  have runClkNext := congrArg Logic.runClk next
  have modeNext := congrArg Logic.mode next
  have programNext := congrArg Logic.program next
  exact ⟨coldPendNext.trans coldPend, runClkNext.trans runClk, modeNext, programNext.trans program⟩

theorem execLeColdExecute_runs (s : State) (hc : s.le.coldPend = true) (hm : s.le.mode = .run) (hi : anyMid s = false)
    (hh : s.le.halted = false) (hf : followsAgreed s = false) (hs : s.le.sec.isSome = true) :
    ∃ t, execLeColdExecute s = .next t ∧ t.le.coldPend = false ∧ t.le.runClk = 0 ∧ t.le.mode = .run ∧
      t.le.program = s.le.program := by
  obtain ⟨p, hp⟩ := sendLogic_eq [5] s
  refine ⟨coldNow { s with pr := p }, ?_, coldNow_le { s with pr := p } hs⟩
  rw [execLeColdExecute, if_pos (by simp [hc, hm, hi, hh]), if_neg (by simp [hf]), hp]

/-! LE_STEP, LE_BREAK_SET and BREAKPOINT (R370, R371). -/

/-- LE_STEP 1 in RUN enters HOLD; the held task then steps to its END. -/
theorem execLeStep_holds (r : Req) (s : State) (h : Served r 0x0031 s) (ht : s.pr.st ≠ .twin) (hj : s.pr.st ≠ .joining)
    (hm : s.le.mode = .run) : ∃ t, execLeStep r 1 s = .next t ∧ t.le.mode = .hold ∧ t.le.stepping = t.le.heldTask ∧
      t.le.holdAt = td0 s ∧ t.le.tasks = s.le.tasks := by
  have steps : execLeStep r 1 s = .next (answer r 0x0031 .ok { enterHold 0 s with le := { (enterHold 0 s).le with
      stepping := (enterHold 0 s).le.heldTask } }) := by
    rw [execLeStep, serve_served r _ s _ h, if_neg (by decide), if_neg (by simp [ht, hj, hm]), if_pos hm]
    rfl
  refine ⟨_, steps, ?_⟩
  rw [answer_le, enterHold_le]
  exact ⟨rfl, rfl, rfl, rfl⟩

theorem execLeBreakSet_replaces (r : Req) (entries : List (Nat × Nat)) (s : State) (h : Served r 0x0032 s)
    (ht : s.pr.st ≠ .twin) (hj : s.pr.st ≠ .joining) (hl : entries.length ≤ 8)
    (he : ∀ e ∈ entries, e.1 < 2 ^ 18 ∧ (e.2 < 24 ∨ e.2 = 0xFF)) :
    execLeBreakSet r entries s = .next (answer r 0x0032 .ok { s with le := { s.le with
      breaks := entries.map (fun e => (e.1, if e.2 = 0xFF then none else some e.2)) } }) := by
  have inRange : ¬ (8 < entries.length ∨
      entries.any (fun e => decide (2 ^ 18 ≤ e.1) || (decide (24 ≤ e.2) && e.2 != 0xFF)) = true) := by
    rintro (long | out)
    · omega
    · obtain ⟨e, listed, out⟩ := List.any_eq_true.mp out
      obtain ⟨address, task⟩ := he e listed
      simp only [Bool.or_eq_true, Bool.and_eq_true, decide_eq_true_eq, bne_iff_ne] at out
      omega
  rw [execLeBreakSet, serve_served r _ s _ h, if_neg (by simp [ht, hj]), if_neg inRange]

theorem execBreakpoint_holds (x : Task) (s : State) (hm : s.le.mode = .run) (hh : s.le.halted = false)
    (hx : runningTask s = some x) (hb : atBreak s x = true) : ∃ t, execBreakpoint s = .next t ∧ t.le.mode = .hold ∧
      t.le.cause = 3 ∧ t.le.brk = (true, x.num, x.pc) ∧ t.le.tasks = s.le.tasks ∧ t.le.holdAt = td0 s := by
  have told := submit_le .logic 0x5009 (262144 * x.num + x.pc) { s with le := { s.le with brk := (true, x.num, x.pc) } }
  have time : td0 (submit .logic 0x5009 (262144 * x.num + x.pc) { s with le := { s.le with brk := (true, x.num, x.pc) } }) =
      td0 s := by rw [td0, submit_tu, td0]
  have brk := congrArg Logic.brk told
  have tasks := congrArg Logic.tasks told
  have holds : execBreakpoint s = .next (enterHold 3 (submit .logic 0x5009 (262144 * x.num + x.pc)
      { s with le := { s.le with brk := (true, x.num, x.pc) } })) := by
    rw [execBreakpoint, if_neg (by simp [hm, hh]), hx]
    exact if_pos hb
  refine ⟨_, holds, ?_⟩
  rw [enterHold_le]
  exact ⟨rfl, rfl, brk, tasks, time⟩

/-! HOLD_TIMEOUT and LE_WATCHDOG (R368, R372). -/

theorem execHoldTimeout_stops (s : State) (hm : s.le.mode = .hold) (hd : due s s.le.holdAt (secT 600) = true) :
    ∃ t, execHoldTimeout s = .next t ∧ t.le.mode = .stop ∧ t.le.cause = 4 ∧ t.le.prev = LeMode.toNat .hold ∧
      (∀ x ∈ t.le.tasks, x.st = .idle) := by
  have prev : (submit .logic 0x5004 0 s).le.mode.toNat = LeMode.toNat .hold := by rw [submit_le, hm]
  refine ⟨_, if_pos ⟨hm, hd⟩, ?_⟩
  rw [enterStop_le]
  exact ⟨rfl, rfl, prev, haltedIn_idle _ _ _⟩

/-- The engine with a missed deadline told and counted. -/
def watchdogTold (task : Nat) (s : State) : State :=
  { fireDetOnce 0x0C task s with le := { (fireDetOnce 0x0C task s).le with
    wdCount := satInc 16 (fireDetOnce 0x0C task s).le.wdCount, wdTask := task } }

theorem applyWatchdog_eq (task : Nat) (s : State) : applyWatchdog task s = enterSafe (watchdogTold task s) := rfl

theorem watchdogTold_wdCount (task : Nat) (s : State) : (watchdogTold task s).le.wdCount = satInc 16 s.le.wdCount :=
  congrArg (fun l : Logic => satInc 16 l.wdCount) (fireDetOnce_le 0x0C task s)

/-- SAFE is entered with the detector in force. -/
theorem applyWatchdog_inForce (task : Nat) (s : State) : detInForce (applyWatchdog task s) 0x0C = true :=
  (detInForce_of_hlt ((enterSafe_only (watchdogTold task s)).same .hlt (by decide)) 0x0C).trans
    (fireDetOnceP_inForce 0x0C task [] s)

theorem execLeWatchdog_safe (d k : Nat) (s : State) (hm : s.le.mode = .run) (hh : s.le.halted = false)
    (he : earliest (overdue s) = some (d, k)) (ht : s.pr.st ≠ .twin) : ∃ t, execLeWatchdog s = .next t ∧
      t.le.mode = .safe ∧ t.le.cause = 2 ∧ t.le.wdCount = satInc 16 s.le.wdCount ∧ t.le.wdTask = k ∧
      (∀ x ∈ t.le.tasks, x.st = .idle) ∧ detInForce t 0x0C = true := by
  have acts : execLeWatchdog s = .next (applyWatchdog k s) := by
    rw [execLeWatchdog, watchdogNow, if_neg (by simp [hm, hh]), he]
    exact congrArg _ (if_pos ht)
  refine ⟨_, acts, ?_⟩
  rw [applyWatchdog_inForce, applyWatchdog_eq, enterSafe_logic]
  exact ⟨rfl, rfl, watchdogTold_wdCount k s, rfl, haltedIn_idle _ _ _, rfl⟩

/-! RETAIN_WRITE and the registers (R378, R385, R388). -/

theorem execRetainWrite_mirrors (s : State) (hd : s.le.dirtySince.isSome = true) (hm : s.le.mode ≠ .notStarted)
    (hh : s.le.halted = false) :
    execRetainWrite s = .next { s with le := { s.le with ret := mirror s, dirtySince := none } } :=
  if_pos ⟨hd, hm, by simp [hh]⟩

theorem execLePeekSelWrite_selects (r : Req) (v : Word) (s : State) (h : Served r 0x0011 s) :
    execLePeekSelWrite r v s = .next (answerWrite r .ok { s with le := { s.le with
      peek := (v.getLsbD 24, getFld v.toNat 20 4, getFld v.toNat 0 20) } }) :=
  congrArg _ (serveWrite_served r s (peekWrite v.toNat) h)

/-- The bit written is HIT itself. -/
theorem execBrkHitClear_clears (r : Req) (s : State) (h : Served r 0x0011 s) :
    execBrkHitClear r s = .next (answerWrite r .ok { s with le := { s.le with brk := (false, s.le.brk.2) } }) := by
  rw [execBrkHitClear, serveWrite_served r s _ h, brkWrite, if_pos (Nat.testBit_two_pow_self)]

/-- Settles O16, row by row. -/
theorem logicModeRowsComplete : Obligations.LogicModeRowsComplete :=
  ⟨execLeMode_stops, execLeMode_asksCold, execLeColdExecute_runs, execLeStep_holds, execLeBreakSet_replaces,
    execBreakpoint_holds, execHoldTimeout_stops, execLeWatchdog_safe, execRetainWrite_mirrors, execLePeekSelWrite_selects,
    execBrkHitClear_clears⟩

end Sys2Proof.Machine
end

section
/-! PROOFS. Sequence numbers, the attestation counter and the anti-rollback counter (R508, R606, R610, R616, R617): what enters
records, restarts the engine, accepts a host's counter or attests keeps the numbers reserved and lowers none of them. -/

namespace Sys2Proof.Machine
open Sys2Proof

/-! The numbers that the engine gives out, and what a safe step does with them. -/

/-- The security unit, the last sequence number given and its reservation mark. -/
abbrev Numbers := Sec × Nat × Nat

def numbers (s : State) : Numbers := (s.sec, s.evr.newest, s.evr.mark)

/-- `Reserved`, of the numbers alone. -/
def ReservedNumbers : Numbers → Prop
  | (sec, newest, mark) => newest < max 1 mark ∧ sec.attCnt ≤ sec.attMark ∧ sec.rollback ≤ 64 ∧ smWf sec.counters = true

/-- Reserved numbers stay reserved, and none is lower afterwards. -/
structure Ahead (n m : Numbers) : Prop where
  of_reserved : ReservedNumbers n → ReservedNumbers m ∧ n.2.1 ≤ m.2.1 ∧ n.1.attCnt ≤ m.1.attCnt ∧ n.1.rollback ≤ m.1.rollback

theorem reserved_iff (s : State) : Reserved s ↔ ReservedNumbers (numbers s) := Iff.rfl

theorem safeStep_of_ahead {s t : State} (h : Ahead (numbers s) (numbers t)) (k : Reserved s) : SafeStep s t := h.of_reserved k

@[simp] theorem Ahead.refl (n : Numbers) : Ahead n n := ⟨fun h => ⟨h, le_rfl, le_rfl, le_rfl⟩⟩

theorem Ahead.trans {n m k : Numbers} (h : Ahead n m) (g : Ahead m k) : Ahead n k := by
  refine ⟨fun r => ?_⟩
  obtain ⟨rm, seq, att, roll⟩ := h.of_reserved r
  obtain ⟨rk, seq', att', roll'⟩ := g.of_reserved rm
  exact ⟨rk, seq.trans seq', att.trans att', roll.trans roll'⟩

@[simp] theorem numbers_fold (s : State) : (s.sec, s.evr.newest, s.evr.mark) = numbers s := by
  rw [numbers]

@[simp] theorem numbers_mk (code pw pads fl boot img tu acq gr le rio fio upc dr evr pr net cmd sec hlt pending) :
    numbers (State.mk code pw pads fl boot img tu acq gr le rio fio upc dr evr pr net cmd sec hlt pending) =
      (sec, evr.newest, evr.mark) := by
  rw [numbers]

@[simp] theorem numbers_ite (c : Prop) [Decidable c] (a b : State) :
    numbers (if c then a else b) = if c then numbers a else numbers b := by
  split <;> rfl

theorem numbers_of_kept {s t : State} (h : kept t = kept s) : numbers t = numbers s := congrArg (fun k => k.2.2) h

theorem ahead_of_kept {s t : State} (h : kept t = kept s) : Ahead (numbers s) (numbers t) :=
  (numbers_of_kept h) ▸ Ahead.refl _

@[simp] theorem ahead_ite {n a b : Numbers} (c : Prop) [Decidable c] :
    Ahead n (if c then a else b) ↔ (c → Ahead n a) ∧ (¬ c → Ahead n b) := by
  split <;> simp [*]

/-- A fold of operations that keep the numbers ahead keeps them ahead. -/
theorem foldl_ahead {α : Type} {n : Numbers} {s : State} (h : Ahead n (numbers s)) (g : State → α → State) (l : List α)
    (k : ∀ t a, Ahead (numbers t) (numbers (g t a))) : Ahead n (numbers (l.foldl g s)) := by
  induction l generalizing s with
  | nil => exact h
  | cons a l ih => exact ih (h.trans (k s a))

theorem serve_ahead {n : Numbers} {r : Req} {op : Nat} {s : State} {f : State → State} (h : Ahead n (numbers s))
    (k : Ahead n (numbers (f s))) : Ahead n (numbers (serve r op s f)) := by
  unfold serve serveAs
  repeat' split
  · exact h
  · exact h.trans (ahead_of_kept (respondTo_kept ..))
  · exact k

/-! Operations of Laws/Kept.lean that many of the proofs below meet. -/

@[simp] theorem submit_numbers (b : Block) (code value : Nat) (s : State) : numbers (submit b code value s) = numbers s :=
  numbers_of_kept (submit_kept ..)

@[simp] theorem respond_numbers (r : Req) (op : Nat) (st : Status) (more : Bool) (payload : List Byte) (s : State) :
    numbers (respond r op st more payload s) = numbers s :=
  numbers_of_kept (respond_kept ..)

@[simp] theorem answer_numbers (r : Req) (op : Nat) (st : Status) (s : State) : numbers (answer r op st s) = numbers s :=
  numbers_of_kept (answer_kept ..)

@[simp] theorem refreshPads_numbers (s : State) : numbers (refreshPads s) = numbers s := numbers_of_kept (refreshPads_kept ..)

@[simp] theorem putBucket_numbers (b : Bucket) (depth : Nat) (s : State) : numbers (putBucket b depth s) = numbers s :=
  numbers_of_kept (putBucket_kept ..)

@[simp] theorem recEvent_numbers (e : Event) (s : State) : numbers (recEvent e s) = numbers s :=
  numbers_of_kept (recEvent_kept ..)

@[simp] theorem commitAll_numbers (s : State) : numbers (commitAll s) = numbers s := numbers_of_kept (commitAll_kept ..)

@[simp] theorem beginCommit_numbers (commit : Bool) (s : State) : numbers (beginCommit commit s) = numbers s :=
  numbers_of_kept (beginCommit_kept ..)

@[simp] theorem activated_numbers (req : Option Req) (cls w : Nat) (s : State) : numbers (activated req cls w s) = numbers s :=
  numbers_of_kept (activated_kept ..)

@[simp] theorem loadUnits_numbers (old : List ChanEntry) (s : State) : numbers (loadUnits old s) = numbers s :=
  numbers_of_kept (loadUnits_kept ..)

@[simp] theorem fireDetFree_numbers (d : Nat) (s : State) : numbers (fireDetFree d s) = numbers s :=
  numbers_of_kept (fireDetFree_kept ..)

/-! What gives numbers out. -/

/-- A record enters with up to three companions; the mark moves on with the first number that reaches it (R508). -/
theorem ahead_nextRecords {sec : Sec} {newest mark k : Nat} (hk : k ≤ 3) :
    Ahead (sec, newest, mark)
      (sec, newest + 1 + k, if mark ≤ newest + 1 + k then mark + 65536 else mark) := by
  refine ⟨fun ⟨seq, att, roll, wf⟩ => ?_⟩
  refine ⟨⟨?_, att, roll, wf⟩, by simp only; omega, le_rfl, le_rfl⟩
  split <;> omega

theorem enterRecs_numbers (parent : Rec) (parts : List (List Byte)) (s : State) :
    Ahead (numbers s) (numbers (enterRecs parent parts s)) := by
  have companions : ((parts.take 3).take (4096 - s.evr.front.length - 1)).length ≤ 3 := by
    simp only [List.length_take]; omega
  simp only [enterRecs, numbers_of_kept (notify_kept ..), numbers_ite, numbers_of_kept (thaw_kept ..),
    numbers_of_kept (commitTrigger_kept ..), ite_self, numbers_mk]
  exact ahead_nextRecords companions

/-- The recorder starts above the mark that it finds (R508). -/
theorem ahead_resumed {sec : Sec} {newest mark : Nat} :
    Ahead (sec, newest, mark) (sec, max 1 mark - 1, max 1 mark + 65536) := by
  refine ⟨fun ⟨seq, att, roll, wf⟩ => ?_⟩
  exact ⟨⟨by omega, att, roll, wf⟩, by simp only; omega, le_rfl, le_rfl⟩

/-- The attestation counter goes on at its mark (R616). -/
theorem ahead_attestationResumed {sec sec' : Sec} {newest mark : Nat} (hc : sec'.attCnt = sec.attMark)
    (hm : sec'.attMark = sec.attMark + 65536) (hr : sec'.rollback = sec.rollback) (hw : smWf sec.counters = true →
    smWf sec'.counters = true) : Ahead (sec, newest, mark) (sec', newest, mark) := by
  refine ⟨fun ⟨seq, att, roll, wf⟩ => ?_⟩
  exact ⟨⟨seq, by omega, hr ▸ roll, hw wf⟩, le_rfl, hc ▸ att, hr ▸ le_rfl⟩

/-- The reserved numbers of the security unit stand as they were. -/
theorem ahead_of_sec {sec sec' : Sec} {newest mark : Nat} (hc : sec'.attCnt = sec.attCnt) (hm : sec'.attMark = sec.attMark)
    (hr : sec'.rollback = sec.rollback) (hw : smWf sec.counters = true → smWf sec'.counters = true) :
    Ahead (sec, newest, mark) (sec', newest, mark) := by
  refine ⟨fun ⟨seq, att, roll, wf⟩ => ?_⟩
  exact ⟨⟨seq, by omega, hr ▸ roll, hw wf⟩, le_rfl, hc ▸ le_rfl, hr ▸ le_rfl⟩

/-- Nothing given out changes with the other fields of the security unit. -/
@[simp] theorem ahead_sec {n : Numbers} {sec : Sec} {s : State} (h : Ahead n (numbers s)) (hc : sec.attCnt = s.sec.attCnt)
    (hm : sec.attMark = s.sec.attMark) (hr : sec.rollback = s.sec.rollback) (hw : sec.counters = s.sec.counters) :
    Ahead n (sec, s.evr.newest, s.evr.mark) :=
  h.trans (ahead_of_sec hc hm hr fun w => hw ▸ w)

section
variable {n : Numbers} {s : State} (h : Ahead n (numbers s))
include h

/-! Operations that enter records, change keys and counters or restart the engine, in the order of the model's files. -/

@[simp] theorem enterRecs_ahead (parent : Rec) (parts : List (List Byte)) : Ahead n (numbers (enterRecs parent parts s)) :=
  h.trans (enterRecs_numbers parent parts s)

@[simp] theorem summaryRec_ahead (kind code count : Nat) (first : Nat × Nat × Nat) (last : Nat × Nat) :
    Ahead n (numbers (summaryRec kind code count first last s)) := by
  simp [summaryRec, h]

@[simp] theorem writeLost_ahead : Ahead n (numbers (writeLost s)) := by
  simp [writeLost, foldl_ahead, h]

@[simp] theorem suppressedRecord_ahead (code depth : Nat) : Ahead n (numbers (suppressedRecord code depth s)) := by
  simp [suppressedRecord, h]

@[simp] theorem refill_ahead (code depth periodMs : Nat) : Ahead n (numbers (refill code depth periodMs s)) := by
  simp [refill, h]

@[simp] theorem takeToken_ahead (e : Event) : Ahead n (numbers (takeToken e s).2) := by
  dsimp only [takeToken]
  repeat' split
  all_goals simp [h]

@[simp] theorem enterEvent_ahead (e : Event) : Ahead n (numbers (enterEvent e s)) := by
  unfold enterEvent
  simp [numbers_of_kept (dropEvent_kept ..), numbers_of_kept (commitTrigger_kept ..), h]

@[simp] theorem eventEntry_ahead : Ahead n (numbers (eventEntry s)) := by
  unfold eventEntry
  repeat' split
  all_goals simp [h]

@[simp] theorem pageComplete_ahead : Ahead n (numbers (pageComplete s)) := by
  simp [pageComplete, numbers_of_kept (commitPage_kept ..), h]

@[simp] theorem auditFirst_ahead (b : Block) (session code value : Nat) (parts : List (List Byte)) :
    Ahead n (numbers (auditFirst b session code value parts s)) := by
  simp [auditFirst, numbers_of_kept (emit_kept ..), h]

@[simp] theorem tornTold_ahead : Ahead n (numbers (tornTold s)) := by
  simp [tornTold, h]

@[simp] theorem heldEntered_ahead : Ahead n (numbers (heldEntered s)) := by
  simp [heldEntered, foldl_ahead, h]

@[simp] theorem evrStart_ahead : Ahead n (numbers (evrStart s)) := by
  have begins : Ahead n (numbers (evrBegins s)) := h.trans ahead_resumed
  rw [evrStart_eq]
  exact heldEntered_ahead (tornTold_ahead (enterEvent_ahead begins _))

@[simp] theorem authFail_ahead (cause : Nat) (t : Transport) : Ahead n (numbers (authFail cause t s)) := by
  have told : Ahead n (numbers (fireDetOnce 0x28 (256 * cause + failTransport t) s)) :=
    h.trans (ahead_of_kept (fireDetOnce_kept ..))
  unfold authFail
  generalize fireDetOnce 0x28 (256 * cause + failTransport t) s = u at told ⊢
  simp [told]

@[simp] theorem tlsHandshake_ahead (conn : Nat) (c : TlsClient) : Ahead n (numbers (tlsHandshake conn c s)) := by
  simp [tlsHandshake, h]

@[simp] theorem updCert_ahead : Ahead n (numbers (updCert s)) := by
  simp [updCert, h]

/-- The counter accepted for a host key is stored in the canonical form (R617). -/
@[simp] theorem openHostKey_ahead (r : Req) (roles options : Nat) (auth : List Byte) :
    Ahead n (numbers (openHostKey r roles options auth s)) := by
  have accepts (k v : Nat) : Ahead n ({ s.sec with counters := smSet s.sec.counters k v }, s.evr.newest, s.evr.mark) :=
    h.trans (ahead_of_sec rfl rfl rfl fun w => smSet_wf _ _ _ w)
  dsimp only [openHostKey]
  repeat' split
  all_goals simp [numbers_of_kept (openSession_kept ..), accepts, h]

@[simp] theorem sessionOpen_ahead (r : Req) (method roles options : Nat) (auth : List Byte) :
    Ahead n (numbers (sessionOpen r method roles options auth s)) := by
  unfold sessionOpen
  refine serve_ahead h ?_
  repeat' split
  all_goals simp [numbers_of_kept (openSession_kept ..), h]

@[simp] theorem changeKey_ahead (type slot op : Nat) (body : List Byte) : Ahead n (numbers (changeKey type slot op body s)) := by
  refine updCert_ahead (foldl_ahead ?_ _ _ fun _ _ => ahead_of_kept (closeSession_kept ..))
  exact ahead_sec (s := s) h rfl rfl rfl rfl

@[simp] theorem keyInstall_ahead (r : Req) (body : List Byte) : Ahead n (numbers (keyInstall r body s)) := by
  unfold keyInstall
  refine serve_ahead h ?_
  repeat' split
  all_goals simp [h]

@[simp] theorem limitsChange_ahead (b : List Param) : Ahead n (numbers (limitsChange b s)) := by
  simp [limitsChange, foldl_ahead, h]

@[simp] theorem applyImage_ahead (u : Image) : Ahead n (numbers (applyImage u s)) := by
  unfold applyImage
  extract_lets old ps g0 limited _ loaded grouped elements row rows chans launches process procPids passes marked _ held _ figures
  have kLimited : Ahead n (numbers limited) := limitsChange_ahead h _
  have kGrouped : Ahead n (numbers grouped) := by
    simpa only [grouped, loaded, numbers_of_kept (groupAfter_kept ..), numbers_mk, numbers_fold] using kLimited
  have kProcess : Ahead n (numbers process) := by
    simpa only [process, launches, chans, rows, elements, numbers_of_kept (resetElements_kept ..),
      numbers_of_kept (loadRows_kept ..), numbers_of_kept (channelsChange_kept ..),
      numbers_of_kept (launchesChange_kept ..), numbers_of_kept (loadProcess_kept ..)] using kGrouped
  have kMarked : Ahead n (numbers marked) := by
    simpa only [marked, passes, numbers_ite, ite_self, numbers_of_kept (restartPasses_kept ..),
      numbers_of_kept (recMark_kept ..), numbers_of_kept (recFlags_kept ..)] using kProcess
  have kHeld : Ahead n (numbers held) := by simpa only [held, numbers_ite, numbers_mk, numbers_fold, ite_self] using kMarked
  rw [refreshPads_numbers]
  refine updCert_ahead ?_
  simpa only [figures, numbers_of_kept (figuresRestart_kept ..), numbers_mk, numbers_fold] using kHeld

@[simp] theorem powerUp_ahead (cause : Nat) : Ahead n (numbers (powerUp cause s)) := by
  rw [powerUp, submit_numbers, numbers_mk]
  exact h.trans (ahead_attestationResumed rfl rfl rfl id)

/-- The security region lost: the accepted counters are empty, and the attestation counter goes on at its mark (R607). -/
@[simp] theorem secRegion_ahead (copies : Nat) : Ahead n (numbers (secRegion copies s)) := by
  have lost (sec : Sec) (hc : sec.attCnt = s.sec.attMark) (hm : sec.attMark = s.sec.attMark + 65536)
      (hr : sec.rollback = s.sec.rollback) (hw : sec.counters = []) : Ahead n (sec, s.evr.newest, s.evr.mark) :=
    h.trans (ahead_attestationResumed hc hm hr fun _ => hw ▸ rfl)
  simp [secRegion, lost, h]

@[simp] theorem enterReset_ahead : Ahead n (numbers (enterReset s)) := by
  simp [enterReset, numbers_of_kept (outputsOff_kept ..), h]

@[simp] theorem halt_ahead : Ahead n (numbers (halt s)) := by
  simp [halt, h]

@[simp] theorem flushEnds_ahead : Ahead n (numbers (flushEnds s)) := by
  simp [flushEnds, numbers_of_kept (structuralOff_kept ..), h]

@[simp] theorem endFlush_ahead (done : Bool) : Ahead n (numbers (endFlush done s)) := by
  simp [endFlush, numbers_of_kept (startFlush_kept ..), numbers_of_kept (drRecover_kept ..), h]

@[simp] theorem finalPage_ahead : Ahead n (numbers (finalPage s)) := by
  simp [finalPage, h]

@[simp] theorem flushWrites_ahead (step : Nat) : Ahead n (numbers (flushWrites step s)) := by
  unfold flushWrites
  repeat' split
  all_goals simp [foldl_ahead, numbers_of_kept (writeRetain_kept ..), numbers_of_kept (commitPage_kept ..),
    numbers_of_kept (drPowerFail_kept ..), numbers_of_kept (drainAll_kept ..), h]

@[simp] theorem takeReset_ahead (jtag : Bool) : Ahead n (numbers (takeReset jtag s)) := by
  unfold takeReset
  repeat' split
  all_goals simp [numbers_of_kept (callFlush_kept ..), h]

@[simp] theorem activateNow_ahead (cls : Nat) (commit : Bool) (req : Option Req) (w : Nat) :
    Ahead n (numbers (activateNow cls commit req w s)) := by
  unfold activateNow
  repeat' split
  all_goals simp [h]

@[simp] theorem changeWaveNow_ahead (w : Nat) : Ahead n (numbers (changeWaveNow w s)) := by
  unfold changeWaveNow
  repeat' split
  all_goals simp [h]

@[simp] theorem applyForceSet_ahead (point value session : Nat) : Ahead n (numbers (applyForceSet point value session s)) := by
  simp [applyForceSet, h]

@[simp] theorem runStaged_ahead (u : Image) : Ahead n (numbers (runStaged u s)) := by
  simp [runStaged, h]

@[simp] theorem releaseMigrate_ahead (r : Req) : Ahead n (numbers (releaseMigrate r s)) := by
  unfold releaseMigrate
  repeat' split
  all_goals simp [numbers_of_kept (startJoin_kept ..), numbers_of_kept (tryJoin_kept ..), h]

@[simp] theorem condition_ahead (d t : Nat) : Ahead n (numbers (condition d t s)) := by
  unfold condition
  repeat' split
  all_goals simp [numbers_of_kept (execSampleLoopUnlock_kept ..), numbers_of_kept (srcLost_kept ..),
    numbers_of_kept (applyStep_kept ..), numbers_of_kept (laneLoss_kept ..), numbers_of_kept (updPort_kept ..),
    numbers_of_kept (execVmainLow_kept ..), numbers_of_kept (diagBegin_kept ..), h]

@[simp] theorem injBegin_ahead (j : Inj) : Ahead n (numbers (injBegin j s)) := by
  unfold injBegin
  simp [numbers_of_kept (endInj_kept ..), h]

@[simp] theorem applyInj_ahead (v : List Nat) : Ahead n (numbers (applyInj v s)) := by
  unfold applyInj
  repeat' split
  all_goals simp [h]

@[simp] theorem forceAt_ahead (v : List Nat) : Ahead n (numbers (forceAt v s)) := by
  unfold forceAt
  repeat' split
  all_goals simp [numbers_of_kept (applyForceClear_kept ..), h]

@[simp] theorem applySched_ahead (w code : Nat) (v : List Nat) : Ahead n (numbers (applySched w code v s)) := by
  unfold applySched
  repeat' split
  all_goals simp [numbers_of_kept (applyMode_kept ..), numbers_of_kept (armNamed_kept ..),
    numbers_of_kept (cancelLaunch_kept ..), numbers_of_kept (applyArm_kept ..), numbers_of_kept (askManual_kept ..),
    numbers_of_kept (setXchk_kept ..), numbers_of_kept (overrunAt_kept ..), numbers_of_kept (applyWatchdog_kept ..),
    numbers_of_kept (endInj_kept ..), numbers_of_kept (applyPmu_kept ..), h]

@[simp] theorem schedAt_ahead (w : Nat) : Ahead n (numbers (schedAt w s)) := by
  unfold schedAt
  simp [foldl_ahead, h]

@[simp] theorem effectsAt_ahead (w : Nat) : Ahead n (numbers (effectsAt w s)) := by
  simp [effectsAt, numbers_of_kept (startGroup_kept ..), numbers_of_kept (groupsWave_kept ..),
    numbers_of_kept (snapsWave_kept ..), h]

omit h in
theorem waveValues_numbers (w : Nat) (core : Option Agree) (raw : Slices) (full : Bool) (s : State) :
    numbers (waveValues w core raw full s) = numbers s := by
  unfold waveValues
  split
  · rfl
  dsimp only
  split
  all_goals simp [numbers_of_kept (agreedWave_kept ..), numbers_of_kept (ownWave_kept ..)]

@[simp] theorem waveEffects_ahead (w : Nat) (core : Option Agree) : Ahead n (numbers (waveEffects w core s)) := by
  unfold waveEffects
  refine effectsAt_ahead ?_ w
  rw [numbers_of_kept (takeDi_kept ..)]
  exact h

@[simp] theorem releaseNext_ahead (raw : Slices) (full : Bool) : Ahead n (numbers (releaseNext raw full s)) := by
  have kept : Ahead n (numbers (handoverAt ((s.acq.wave + 1) % 2 ^ 32) s)) := numbers_of_kept (handoverAt_kept _ s) ▸ h
  rw [releaseNext_eq, releaseAfter]
  split
  · exact kept
  · rw [waveValues_numbers]
    exact waveEffects_ahead kept _ _

end

/-! The rows that use them. -/

/-- Power-up with RESET_N low has the same numbers as without. -/
theorem powerUpHeld_numbers (s : State) : numbers (powerUpHeld s) = numbers (powerUp 0 s) := by
  have sequence : ((powerUp 0 s).evr.newest, (powerUp 0 s).evr.mark) = (s.evr.newest, s.evr.mark) := by
    unfold powerUp
    exact congrArg Prod.snd (submit_numbers ..)
  exact congrArg (Prod.mk (powerUp 0 s).sec) sequence.symm

theorem execVmainGood_ahead (s : State) : Ahead (numbers s) (numbers (resState s (execVmainGood s))) := by
  by_cases off : s.pw.phase = .off
  · rw [execVmainGood_of_off s off, resState_next, numbers_ite, powerUpHeld_numbers, ite_self]
    exact powerUp_ahead (.refl _) 0
  · unfold execVmainGood
    split
    · contradiction
    · exact ahead_of_kept (clearDetAll_kept ..)
    · exact .refl _

theorem testsNoted_numbers (failed : List Nat) (cals : List (Int × Int)) (s : State) :
    numbers (testsNoted failed cals s) = numbers s :=
  numbers_of_kept (kept_foldl _ _ s fun s k => submit_kept .boot 0x0102 k s)

theorem mramJudged_numbers (failed : List Nat) (retain forces : Bool) (s : State) :
    numbers (mramJudged failed retain forces s) = numbers s := by
  simp [mramJudged]

theorem tested_ahead (failed slices : List Nat) (retain forces : Bool) (copies : Nat) (cals : List (Int × Int)) (s : State) :
    Ahead (numbers s) (numbers (tested failed slices retain forces copies cals s)) := by
  have read : Ahead (numbers s) (numbers (mramJudged failed retain forces (testsNoted failed cals s))) := by
    rw [mramJudged_numbers, testsNoted_numbers]
    exact .refl _
  simpa [tested, testsActed, drainsCut, flushTold, numbers_of_kept (slicesOut_kept ..)] using secRegion_ahead read copies

theorem execSelftestComplete_ahead (failed slices : List Nat) (retain forces : Bool) (copies : Nat) (cals : List (Int × Int))
    (s : State) :
    Ahead (numbers s) (numbers (resState s (execSelftestComplete failed slices retain forces copies cals s))) := by
  by_cases k : s.pw.phase = .firmware
  · rw [execSelftestComplete_eq failed slices retain forces copies cals s k, resState_next, testsOver, refreshPads_numbers]
    exact evrStart_ahead (tested_ahead _ _ _ _ _ _ s)
  · rw [execSelftestComplete, if_pos k]
    exact .refl _

theorem execImageSelect_ahead (s : State) :
    Ahead (numbers s) (numbers (resState s (execImageSelect s))) := by
  unfold execImageSelect
  repeat' split
  all_goals simp [resState_next]

theorem execHoldUpStage_ahead (s : State) :
    Ahead (numbers s) (numbers (resState s (execHoldUpStage s))) := by
  unfold execHoldUpStage
  repeat' split
  all_goals simp [resState_next, resState_ite, numbers_of_kept (outputsOff_kept ..), numbers_of_kept (callFlush_kept ..)]

theorem execFlushStepComplete_ahead (s : State) :
    Ahead (numbers s) (numbers (resState s (execFlushStepComplete s))) := by
  simp [execFlushStepComplete, resState_next, resState_ite]

theorem execResetNLow_ahead (s : State) :
    Ahead (numbers s) (numbers (resState s (execResetNLow s))) := by
  simp [execResetNLow, resState_next]

theorem execJtagReset_ahead (s : State) :
    Ahead (numbers s) (numbers (resState s (execJtagReset s))) := by
  simp [execJtagReset, resState_next]

theorem execResetFlushTimeout_ahead (s : State) :
    Ahead (numbers s) (numbers (resState s (execResetFlushTimeout s))) := by
  simp [execResetFlushTimeout, resState_next, resState_ite]

theorem execResetNRelease_ahead (s : State) :
    Ahead (numbers s) (numbers (resState s (execResetNRelease s))) := by
  simp [execResetNRelease, resState_next, resState_ite]

theorem execSessionOpen_ahead (r : Req) (method roles options : Nat) (auth : List Byte) (s : State) :
    Ahead (numbers s) (numbers (resState s (execSessionOpen r method roles options auth s))) := by
  simp [execSessionOpen, resState_next]

theorem execActivationBoundary_ahead (s : State) :
    Ahead (numbers s) (numbers (resState s (execActivationBoundary s))) := by
  unfold execActivationBoundary
  repeat' split
  all_goals simp [resState_next]

theorem execStructuralConfigDone_ahead (s : State) :
    Ahead (numbers s) (numbers (resState s (execStructuralConfigDone s))) := by
  unfold execStructuralConfigDone
  repeat' split
  all_goals simp [resState_next, numbers_of_kept (groupAfter_kept ..), numbers_of_kept (pmuChanged_kept ..),
    numbers_of_kept (launchesChange_kept ..), numbers_of_kept (channelsChange_kept ..),
    numbers_of_kept (runProtection_kept ..)]

/-- The counter is raised to a number above it, within its 64 bits (R610). -/
theorem execRollbackRaise_ahead (s : State) : Ahead (numbers s) (numbers (resState s (execRollbackRaise s))) := by
  unfold execRollbackRaise
  dsimp only [resState_next]
  split
  case isFalse => exact .refl _
  case isTrue c =>
    obtain ⟨-, -, -, -, above, -⟩ := c
    rw [submit_numbers, numbers_mk]
    refine ⟨fun ⟨seq, att, roll, wf⟩ => ?_⟩
    exact ⟨⟨seq, att, Nat.min_le_left .., wf⟩, le_rfl, le_rfl, by simp only [numbers] at roll ⊢; omega⟩

theorem execForceSet_ahead (r : Req) (point value : Nat) (s : State) :
    Ahead (numbers s) (numbers (resState s (execForceSet r point value s))) := by
  unfold execForceSet
  rw [resState_next]
  refine serve_ahead (.refl _) ?_
  repeat' split
  all_goals simp [numbers_of_kept (schedTwin_kept ..)]

theorem execHeadboxWaveRelease_ahead (raw : List RawSample) (full : Bool) (sat : BitVec 32) (s : State) :
    Ahead (numbers s) (numbers (resState s (execHeadboxWaveRelease raw full sat s))) := by
  simp [execHeadboxWaveRelease, resState_next, resState_ite]

theorem execEventEntry_ahead (s : State) :
    Ahead (numbers s) (numbers (resState s (execEventEntry s))) := by
  simp [execEventEntry, resState_next]

theorem execRateRefill_ahead (code : Nat) (s : State) :
    Ahead (numbers s) (numbers (resState s (execRateRefill code s))) := by
  unfold execRateRefill
  repeat' split
  all_goals simp [resState_next]

theorem execSuppressedSummary60s_ahead (code : Nat) (s : State) :
    Ahead (numbers s) (numbers (resState s (execSuppressedSummary60s code s))) := by
  unfold execSuppressedSummary60s
  repeat' split
  all_goals simp [resState_next]

theorem execPageCommitComplete_ahead (s : State) :
    Ahead (numbers s) (numbers (resState s (execPageCommitComplete s))) := by
  simp [execPageCommitComplete, resState_next]

theorem execPairRelease_ahead (r : Req) (action : Nat) (s : State) :
    Ahead (numbers s) (numbers (resState s (execPairRelease r action s))) := by
  unfold execPairRelease
  rw [resState_next]
  refine serve_ahead (.refl _) ?_
  repeat' split
  all_goals simp [numbers_of_kept (releaseClear_kept ..), numbers_of_kept (releaseYield_kept ..),
    numbers_of_kept (releaseLeave_kept ..)]

theorem execTlsRecordRx_ahead (conn : Nat) (handshake : Option TlsClient) (bytes : List Byte) (s : State) :
    Ahead (numbers s) (numbers (resState s (execTlsRecordRx conn handshake bytes s))) := by
  unfold execTlsRecordRx
  repeat' split
  all_goals simp [resState_next, numbers_of_kept (tlsPackets_kept ..)]

theorem attMarkAt_above (mark n : Nat) : n ≤ attMarkAt mark n := by
  unfold attMarkAt
  split <;> omega

/-- The counter goes up by one, and the mark stays above it (R616). -/
theorem execAttest_ahead (r : Req) (nonce : List Byte) (s : State) :
    Ahead (numbers s) (numbers (resState s (execAttest r nonce s))) := by
  rw [execAttest, resState_next]
  refine serve_ahead (.refl _) ?_
  rw [respond_numbers, numbers_mk]
  refine ⟨fun ⟨seq, att, roll, wf⟩ => ?_⟩
  exact ⟨⟨seq, attMarkAt_above .., roll, wf⟩, le_rfl, Nat.le_succ _, le_rfl⟩

theorem execKeyInstall_ahead (r : Req) (body : List Byte) (s : State) :
    Ahead (numbers s) (numbers (resState s (execKeyInstall r body s))) := by
  simp [execKeyInstall, resState_next]

theorem execAuthLockoutExpiry_ahead (transport : Transport) (s : State) :
    Ahead (numbers s) (numbers (resState s (execAuthLockoutExpiry transport s))) := by
  simp [execAuthLockoutExpiry, resState_next]

theorem execInjArm_ahead (r : Req) (body : List Byte) (s : State) :
    Ahead (numbers s) (numbers (resState s (execInjArm r body s))) := by
  unfold execInjArm
  rw [resState_next]
  refine serve_ahead (.refl _) ?_
  dsimp only
  repeat' split
  all_goals simp [numbers_of_kept (schedTwin_kept ..)]

theorem execInjPeriodStart_ahead (slot : Nat) (s : State) :
    Ahead (numbers s) (numbers (resState s (execInjPeriodStart slot s))) := by
  unfold execInjPeriodStart
  repeat' split
  all_goals simp [resState_next]

theorem execEccSram_ahead (place core lo hi : Nat) (s : State) :
    Ahead (numbers s) (numbers (resState s (execEccSram place core lo hi s))) := by
  unfold execEccSram
  repeat' split
  all_goals simp [resState_next, numbers_of_kept (execOpRetire_kept ..), numbers_of_kept (mgmtRestart_kept ..),
    numbers_of_kept (enterSafe_kept ..), numbers_of_kept (sendCell_kept ..)]

theorem execEccMram_ahead (region copies : Nat) (s : State) :
    Ahead (numbers s) (numbers (resState s (execEccMram region copies s))) := by
  unfold execEccMram
  repeat' split
  all_goals simp [resState_next]

/-! The table and the step. -/

/-- Every command keeps the numbers reserved and lowers none, one row of the table after the other. -/
theorem exec_ahead (i : Instr) (s : State) : Ahead (numbers s) (numbers (resState s (exec i s))) :=
  match i with
  | .vmainGood => execVmainGood_ahead ..
  | .firmwareStart => ahead_of_kept (execFirmwareStart_kept ..)
  | .selftestComplete _ _ _ _ _ _ => execSelftestComplete_ahead ..
  | .imageSelect => execImageSelect_ahead ..
  | .configurationComplete => ahead_of_kept (execConfigurationComplete_kept ..)
  | .logicStart => ahead_of_kept (execLogicStart_kept ..)
  | .fwBChecked => ahead_of_kept (execFwBChecked_kept ..)
  | .storeCharged => ahead_of_kept (execStoreCharged_kept ..)
  | .holdupMeasureDone _ _ _ => ahead_of_kept (execHoldupMeasureDone_kept ..)
  | .storeChargeTimeout => ahead_of_kept (execStoreChargeTimeout_kept ..)
  | .storeVoltageLow _ => ahead_of_kept (execStoreVoltageLow_kept ..)
  | .vmainLow _ => ahead_of_kept (execVmainLow_kept ..)
  | .pfailNLow => ahead_of_kept (execPfailNLow_kept ..)
  | .pfailRecovered _ => ahead_of_kept (execPfailRecovered_kept ..)
  | .holdUpStage => execHoldUpStage_ahead ..
  | .flushStepComplete => execFlushStepComplete_ahead ..
  | .storeCutoff _ _ => ahead_of_kept (execStoreCutoff_kept ..)
  | .resetNLow => execResetNLow_ahead ..
  | .jtagReset => execJtagReset_ahead ..
  | .resetFlushTimeout => execResetFlushTimeout_ahead ..
  | .resetNRelease => execResetNRelease_ahead ..
  | .sessionOpen _ _ _ _ _ => execSessionOpen_ahead ..
  | .sessionClose _ => ahead_of_kept (execSessionClose_kept ..)
  | .regRead _ _ _ => ahead_of_kept (execRegRead_kept ..)
  | .regWrite _ _ _ => ahead_of_kept (execRegWrite_kept ..)
  | .regModify _ _ _ _ => ahead_of_kept (execRegModify_kept ..)
  | .imgBegin _ _ => ahead_of_kept (execImgBegin_kept ..)
  | .imgData _ _ _ => ahead_of_kept (execImgData_kept ..)
  | .imgCommit _ => ahead_of_kept (execImgCommit_kept ..)
  | .imgActivate _ _ => ahead_of_kept (execImgActivate_kept ..)
  | .activationBoundary => execActivationBoundary_ahead ..
  | .activationConfirmTimeout => ahead_of_kept (execActivationConfirmTimeout_kept ..)
  | .structuralConfigDone => execStructuralConfigDone_ahead ..
  | .schUserCommitDone _ => ahead_of_kept (execSchUserCommitDone_kept ..)
  | .imgStatus _ => ahead_of_kept (execImgStatus_kept ..)
  | .groupSelect _ _ => ahead_of_kept (execGroupSelect_kept ..)
  | .fwBegin _ _ _ => ahead_of_kept (execFwBegin_kept ..)
  | .fwData _ _ _ => ahead_of_kept (execFwData_kept ..)
  | .fwCommit _ => ahead_of_kept (execFwCommit_kept ..)
  | .rollbackRaise => execRollbackRaise_ahead ..
  | .leMode _ _ => ahead_of_kept (execLeMode_kept ..)
  | .leColdExecute => ahead_of_kept (execLeColdExecute_kept ..)
  | .leStep _ _ => ahead_of_kept (execLeStep_kept ..)
  | .leBreakSet _ _ => ahead_of_kept (execLeBreakSet_kept ..)
  | .breakpoint => ahead_of_kept (execBreakpoint_kept ..)
  | .holdTimeout => ahead_of_kept (execHoldTimeout_kept ..)
  | .leChange _ _ _ _ => ahead_of_kept (execLeChange_kept ..)
  | .leChangeover => ahead_of_kept (execLeChangeover_kept ..)
  | .leChangeRefused => ahead_of_kept (execLeChangeRefused_kept ..)
  | .forceSet _ _ _ => execForceSet_ahead ..
  | .forceClear _ _ => ahead_of_kept (execForceClear_kept ..)
  | .forceList _ _ => ahead_of_kept (execForceList_kept ..)
  | .accSnap _ _ _ => ahead_of_kept (execAccSnap_kept ..)
  | .upcUrgent _ _ _ _ _ _ => ahead_of_kept (execUpcUrgent_kept ..)
  | .jobSubmit _ _ _ => ahead_of_kept (execJobSubmit_kept ..)
  | .tbRead _ _ => ahead_of_kept (execTbRead_kept ..)
  | .tbSetInc _ _ _ => ahead_of_kept (execTbSetInc_kept ..)
  | .tbSlew _ _ _ _ => ahead_of_kept (execTbSlew_kept ..)
  | .tbStep _ _ _ _ => ahead_of_kept (execTbStep_kept ..)
  | .tbServoKick _ => ahead_of_kept (execTbServoKick_kept ..)
  | .tbCapture _ => ahead_of_kept (execTbCapture_kept ..)
  | .tbStepGo _ => ahead_of_kept (execTbStepGo_kept ..)
  | .tbSlewCountWrite _ _ _ => ahead_of_kept (execTbSlewCountWrite_kept ..)
  | .tbIncHiWrite _ _ _ _ => ahead_of_kept (execTbIncHiWrite_kept ..)
  | .kickExpiredClear _ => ahead_of_kept (execKickExpiredClear_kept ..)
  | .servoKickExpiry => ahead_of_kept (execServoKickExpiry_kept ..)
  | .slewEnd _ => ahead_of_kept (execSlewEnd_kept ..)
  | .servoPeriod _ _ => ahead_of_kept (execServoPeriod_kept ..)
  | .inc0Learn => ahead_of_kept (execInc0Learn_kept ..)
  | .ptpMessageRx _ _ _ _ _ _ _ _ _ => ahead_of_kept (execPtpMessageRx_kept ..)
  | .ptpMessageTx _ _ _ => ahead_of_kept (execPtpMessageTx_kept ..)
  | .ppsInEdge _ _ => ahead_of_kept (execPpsInEdge_kept ..)
  | .irigInFrame _ _ _ _ => ahead_of_kept (execIrigInFrame_kept ..)
  | .ptpSyncMissing _ => ahead_of_kept (execPtpSyncMissing_kept ..)
  | .announceReceiptTimeout _ => ahead_of_kept (execAnnounceReceiptTimeout_kept ..)
  | .ppsEdgeMissing => ahead_of_kept (execPpsEdgeMissing_kept ..)
  | .irigFrameMissing => ahead_of_kept (execIrigFrameMissing_kept ..)
  | .timeClass _ => ahead_of_kept (execTimeClass_kept ..)
  | .glideToFree _ => ahead_of_kept (execGlideToFree_kept ..)
  | .utcOffsetChange => ahead_of_kept (execUtcOffsetChange_kept ..)
  | .refInLost => ahead_of_kept (execRefInLost_kept ..)
  | .refInRestored => ahead_of_kept (execRefInRestored_kept ..)
  | .gridRephase => ahead_of_kept (execGridRephase_kept ..)
  | .gridAligned => ahead_of_kept (execGridAligned_kept ..)
  | .td2Servo _ _ _ => ahead_of_kept (execTd2Servo_kept ..)
  | .launchArm _ _ _ => ahead_of_kept (execLaunchArm_kept ..)
  | .launchCancel _ _ => ahead_of_kept (execLaunchCancel_kept ..)
  | .launchFire => ahead_of_kept (execLaunchFire_kept ..)
  | .headboxWaveRelease _ _ _ => execHeadboxWaveRelease_ahead ..
  | .provisionalTimeout => ahead_of_kept (execProvisionalTimeout_kept ..)
  | .rotationStepStart => ahead_of_kept (execRotationStepStart_kept ..)
  | .rotationCalEnd _ _ _ => ahead_of_kept (execRotationCalEnd_kept ..)
  | .rotationDecision _ _ => ahead_of_kept (execRotationDecision_kept ..)
  | .referenceCheckDone _ => ahead_of_kept (execReferenceCheckDone_kept ..)
  | .spareConnectDone => ahead_of_kept (execSpareConnectDone_kept ..)
  | .svFrameRx _ => ahead_of_kept (execSvFrameRx_kept ..)
  | .twArrival _ _ _ _ _ _ _ => ahead_of_kept (execTwArrival_kept ..)
  | .twRearm _ => ahead_of_kept (execTwRearm_kept ..)
  | .twLeadWindowClose _ => ahead_of_kept (execTwLeadWindowClose_kept ..)
  | .twSupervisionEnd _ _ _ => ahead_of_kept (execTwSupervisionEnd_kept ..)
  | .twBurstClose _ => ahead_of_kept (execTwBurstClose_kept ..)
  | .twNoiseFloor _ => ahead_of_kept (execTwNoiseFloor_kept ..)
  | .twNoiseCleared _ => ahead_of_kept (execTwNoiseCleared_kept ..)
  | .twLocationDone _ => ahead_of_kept (execTwLocationDone_kept ..)
  | .twExchangeSend => ahead_of_kept (execTwExchangeSend_kept ..)
  | .twMsgRx _ => ahead_of_kept (execTwMsgRx_kept ..)
  | .twMsgExpiry => ahead_of_kept (execTwMsgExpiry_kept ..)
  | .twVmeasArm _ _ => ahead_of_kept (execTwVmeasArm_kept ..)
  | .twVmeasTimeout => ahead_of_kept (execTwVmeasTimeout_kept ..)
  | .descriptorEntry => ahead_of_kept (execDescriptorEntry_kept ..)
  | .opRetire _ _ _ _ _ => ahead_of_kept (execOpRetire_kept ..)
  | .opCycleLimit _ => ahead_of_kept (execOpCycleLimit_kept ..)
  | .p1Deadline => ahead_of_kept (execP1Deadline_kept ..)
  | .p0Deadline => ahead_of_kept (execP0Deadline_kept ..)
  | .p2Late => ahead_of_kept (execP2Late_kept ..)
  | .overrunQuiet => ahead_of_kept (execOverrunQuiet_kept ..)
  | .delayEntryFire => ahead_of_kept (execDelayEntryFire_kept ..)
  | .jobStart => ahead_of_kept (execJobStart_kept ..)
  | .freqTrackHoldExpiry _ => ahead_of_kept (execFreqTrackHoldExpiry_kept ..)
  | .pmuTurnOff _ _ => ahead_of_kept (execPmuTurnOff_kept ..)
  | .pmuTurnOn _ _ => ahead_of_kept (execPmuTurnOn_kept ..)
  | .pmuSendHdr _ _ _ => ahead_of_kept (execPmuSendHdr_kept ..)
  | .pmuSendCfg _ _ _ _ => ahead_of_kept (execPmuSendCfg_kept ..)
  | .cyclicTaskRelease _ => ahead_of_kept (execCyclicTaskRelease_kept ..)
  | .logicCycleReady => ahead_of_kept (execLogicCycleReady_kept ..)
  | .eventTaskTrigger => ahead_of_kept (execEventTaskTrigger_kept ..)
  | .leWatchdog => ahead_of_kept (execLeWatchdog_kept ..)
  | .retainWrite => ahead_of_kept (execRetainWrite_kept ..)
  | .leLd _ _ => ahead_of_kept (execLeLd_kept ..)
  | .leLdn _ _ => ahead_of_kept (execLeLdn_kept ..)
  | .leAnd _ _ => ahead_of_kept (execLeAnd_kept ..)
  | .leAndn _ _ => ahead_of_kept (execLeAndn_kept ..)
  | .leOr _ _ => ahead_of_kept (execLeOr_kept ..)
  | .leOrn _ _ => ahead_of_kept (execLeOrn_kept ..)
  | .leXor _ _ => ahead_of_kept (execLeXor_kept ..)
  | .leXorn _ _ => ahead_of_kept (execLeXorn_kept ..)
  | .leNot => ahead_of_kept (execLeNot_kept ..)
  | .leSetr => ahead_of_kept (execLeSetr_kept ..)
  | .leClrr => ahead_of_kept (execLeClrr_kept ..)
  | .leAndOpen => ahead_of_kept (execLeAndOpen_kept ..)
  | .leAndnOpen => ahead_of_kept (execLeAndnOpen_kept ..)
  | .leOrOpen => ahead_of_kept (execLeOrOpen_kept ..)
  | .leOrnOpen => ahead_of_kept (execLeOrnOpen_kept ..)
  | .leXorOpen => ahead_of_kept (execLeXorOpen_kept ..)
  | .leBracketClose => ahead_of_kept (execLeBracketClose_kept ..)
  | .leFp _ _ => ahead_of_kept (execLeFp_kept ..)
  | .leFn _ _ => ahead_of_kept (execLeFn_kept ..)
  | .leSt _ _ => ahead_of_kept (execLeSt_kept ..)
  | .leStn _ _ => ahead_of_kept (execLeStn_kept ..)
  | .leSet _ _ => ahead_of_kept (execLeSet_kept ..)
  | .leRst _ _ => ahead_of_kept (execLeRst_kept ..)
  | .leTon _ _ => ahead_of_kept (execLeTon_kept ..)
  | .leTof _ _ => ahead_of_kept (execLeTof_kept ..)
  | .leTp _ _ => ahead_of_kept (execLeTp_kept ..)
  | .leTrst _ _ => ahead_of_kept (execLeTrst_kept ..)
  | .leTpv _ _ => ahead_of_kept (execLeTpv_kept ..)
  | .leCtu _ _ => ahead_of_kept (execLeCtu_kept ..)
  | .leCtd _ _ => ahead_of_kept (execLeCtd_kept ..)
  | .leCrst _ _ => ahead_of_kept (execLeCrst_kept ..)
  | .leCld _ _ => ahead_of_kept (execLeCld_kept ..)
  | .leCpv _ _ => ahead_of_kept (execLeCpv_kept ..)
  | .leLw _ _ => ahead_of_kept (execLeLw_kept ..)
  | .leSw _ _ => ahead_of_kept (execLeSw_kept ..)
  | .leSwc _ _ => ahead_of_kept (execLeSwc_kept ..)
  | .leLdh _ _ => ahead_of_kept (execLeLdh_kept ..)
  | .leAdd _ _ => ahead_of_kept (execLeAdd_kept ..)
  | .leSub _ _ => ahead_of_kept (execLeSub_kept ..)
  | .leMul _ _ => ahead_of_kept (execLeMul_kept ..)
  | .leDiv _ _ => ahead_of_kept (execLeDiv_kept ..)
  | .leMod _ _ => ahead_of_kept (execLeMod_kept ..)
  | .leNeg => ahead_of_kept (execLeNeg_kept ..)
  | .leAbs => ahead_of_kept (execLeAbs_kept ..)
  | .leWand _ _ => ahead_of_kept (execLeWand_kept ..)
  | .leWor _ _ => ahead_of_kept (execLeWor_kept ..)
  | .leWxor _ _ => ahead_of_kept (execLeWxor_kept ..)
  | .leWnot => ahead_of_kept (execLeWnot_kept ..)
  | .leShl _ _ => ahead_of_kept (execLeShl_kept ..)
  | .leShr _ _ => ahead_of_kept (execLeShr_kept ..)
  | .leSar _ _ => ahead_of_kept (execLeSar_kept ..)
  | .leCeq _ _ => ahead_of_kept (execLeCeq_kept ..)
  | .leCne _ _ => ahead_of_kept (execLeCne_kept ..)
  | .leClt _ _ => ahead_of_kept (execLeClt_kept ..)
  | .leCle _ _ => ahead_of_kept (execLeCle_kept ..)
  | .leCgt _ _ => ahead_of_kept (execLeCgt_kept ..)
  | .leCge _ _ => ahead_of_kept (execLeCge_kept ..)
  | .leFadd _ _ => ahead_of_kept (execLeFadd_kept ..)
  | .leFsub _ _ => ahead_of_kept (execLeFsub_kept ..)
  | .leFmul _ _ => ahead_of_kept (execLeFmul_kept ..)
  | .leFdiv _ _ => ahead_of_kept (execLeFdiv_kept ..)
  | .leFlt => ahead_of_kept (execLeFlt_kept ..)
  | .leFix => ahead_of_kept (execLeFix_kept ..)
  | .leFclt _ _ => ahead_of_kept (execLeFclt_kept ..)
  | .leFcgt _ _ => ahead_of_kept (execLeFcgt_kept ..)
  | .leFceq _ _ => ahead_of_kept (execLeFceq_kept ..)
  | .leJmp _ => ahead_of_kept (execLeJmp_kept ..)
  | .leJc _ => ahead_of_kept (execLeJc_kept ..)
  | .leJnc _ => ahead_of_kept (execLeJnc_kept ..)
  | .leCall _ => ahead_of_kept (execLeCall_kept ..)
  | .leRet => ahead_of_kept (execLeRet_kept ..)
  | .leEnd => ahead_of_kept (execLeEnd_kept ..)
  | .leNop => ahead_of_kept (execLeNop_kept ..)
  | .leEvt _ _ => ahead_of_kept (execLeEvt_kept ..)
  | .leLarm _ _ => ahead_of_kept (execLeLarm_kept ..)
  | .leLcan => ahead_of_kept (execLeLcan_kept ..)
  | .lePeekSelWrite _ _ => ahead_of_kept (execLePeekSelWrite_kept ..)
  | .brkHitClear _ => ahead_of_kept (execBrkHitClear_kept ..)
  | .gsNodeSelWrite _ _ => ahead_of_kept (execGsNodeSelWrite_kept ..)
  | .fieldFrameStart => ahead_of_kept (execFieldFrameStart_kept ..)
  | .fieldUpstreamRx _ _ _ _ _ _ _ _ => ahead_of_kept (execFieldUpstreamRx_kept ..)
  | .diChatterCleared _ => ahead_of_kept (execDiChatterCleared_kept ..)
  | .diMaxOn _ => ahead_of_kept (execDiMaxOn_kept ..)
  | .fieldUpstreamMissing => ahead_of_kept (execFieldUpstreamMissing_kept ..)
  | .fieldSelftestTimeout => ahead_of_kept (execFieldSelftestTimeout_kept ..)
  | .fieldDownstreamRx => ahead_of_kept (execFieldDownstreamRx_kept ..)
  | .fieldDownstreamMissing => ahead_of_kept (execFieldDownstreamMissing_kept ..)
  | .doLaunchSwitch _ => ahead_of_kept (execDoLaunchSwitch_kept ..)
  | .fioDoOverload _ => ahead_of_kept (execFioDoOverload_kept ..)
  | .fioDoOvertemp _ => ahead_of_kept (execFioDoOvertemp_kept ..)
  | .doThermalRetry _ => ahead_of_kept (execDoThermalRetry_kept ..)
  | .fioDoOpenWire _ => ahead_of_kept (execFioDoOpenWire_kept ..)
  | .fioDoExtVoltage _ => ahead_of_kept (execFioDoExtVoltage_kept ..)
  | .fioDiOpenWire _ => ahead_of_kept (execFioDiOpenWire_kept ..)
  | .fioDiOverload _ => ahead_of_kept (execFioDiOverload_kept ..)
  | .fioDiOvertemp _ => ahead_of_kept (execFioDiOvertemp_kept ..)
  | .fioDiagCleared _ _ => ahead_of_kept (execFioDiagCleared_kept ..)
  | .fioSupplyLow _ _ => ahead_of_kept (execFioSupplyLow_kept ..)
  | .fioSupplyRestored _ _ => ahead_of_kept (execFioSupplyRestored_kept ..)
  | .processFrameStart _ => ahead_of_kept (execProcessFrameStart_kept ..)
  | .processUpstreamRx _ _ _ _ _ _ => ahead_of_kept (execProcessUpstreamRx_kept ..)
  | .processUpstreamMissing => ahead_of_kept (execProcessUpstreamMissing_kept ..)
  | .processSideSafe => ahead_of_kept (execProcessSideSafe_kept ..)
  | .conversionComplete _ _ => ahead_of_kept (execConversionComplete_kept ..)
  | .seqPassStart => ahead_of_kept (execSeqPassStart_kept ..)
  | .readbackVerification _ => ahead_of_kept (execReadbackVerification_kept ..)
  | .upcReadbackMismatch _ => ahead_of_kept (execUpcReadbackMismatch_kept ..)
  | .readbackMismatchClear _ => ahead_of_kept (execReadbackMismatchClear_kept ..)
  | .outputStartupTest _ _ _ => ahead_of_kept (execOutputStartupTest_kept ..)
  | .upcCompliance _ => ahead_of_kept (execUpcCompliance_kept ..)
  | .upcOpenLoop _ => ahead_of_kept (execUpcOpenLoop_kept ..)
  | .upcSignalRange _ => ahead_of_kept (execUpcSignalRange_kept ..)
  | .tcTest _ _ => ahead_of_kept (execTcTest_kept ..)
  | .upcDiagCleared _ _ => ahead_of_kept (execUpcDiagCleared_kept ..)
  | .upcChModeWrite _ _ _ => ahead_of_kept (execUpcChModeWrite_kept ..)
  | .rioUpstreamRx _ _ _ _ _ _ _ _ _ => ahead_of_kept (execRioUpstreamRx_kept ..)
  | .rioDownstreamSend => ahead_of_kept (execRioDownstreamSend_kept ..)
  | .duciaRingCycle => ahead_of_kept (execDuciaRingCycle_kept ..)
  | .duciaRingFrameRx _ _ _ => ahead_of_kept (execDuciaRingFrameRx_kept ..)
  | .drArm _ _ => ahead_of_kept (execDrArm_kept ..)
  | .drTrigger _ _ => ahead_of_kept (execDrTrigger_kept ..)
  | .drUnitFiredClear _ _ => ahead_of_kept (execDrUnitFiredClear_kept ..)
  | .recordOpen => ahead_of_kept (execRecordOpen_kept ..)
  | .recordEnd => ahead_of_kept (execRecordEnd_kept ..)
  | .holdOffExpiry => ahead_of_kept (execHoldOffExpiry_kept ..)
  | .rateStepUp _ _ => ahead_of_kept (execRateStepUp_kept ..)
  | .rateStepDown _ _ => ahead_of_kept (execRateStepDown_kept ..)
  | .ringFull _ => ahead_of_kept (execRingFull_kept ..)
  | .reelDrainDone _ _ _ => ahead_of_kept (execReelDrainDone_kept ..)
  | .drList _ _ _ => ahead_of_kept (execDrList_kept ..)
  | .drRead _ _ _ _ => ahead_of_kept (execDrRead_kept ..)
  | .drExport _ _ _ _ _ _ _ => ahead_of_kept (execDrExport_kept ..)
  | .eventEntry => execEventEntry_ahead ..
  | .rateRefill _ => execRateRefill_ahead ..
  | .suppressedSummary60s _ => execSuppressedSummary60s_ahead ..
  | .commitPeriod => ahead_of_kept (execCommitPeriod_kept ..)
  | .commitStart => ahead_of_kept (execCommitStart_kept ..)
  | .pageCommitComplete => execPageCommitComplete_ahead ..
  | .evrRead _ _ _ _ => ahead_of_kept (execEvrRead_kept ..)
  | .evrFreeze _ => ahead_of_kept (execEvrFreeze_kept ..)
  | .evrThaw _ => ahead_of_kept (execEvrThaw_kept ..)
  | .freezeTimeout => ahead_of_kept (execFreezeTimeout_kept ..)
  | .risiaHelloRx _ _ _ _ _ _ => ahead_of_kept (execRisiaHelloRx_kept ..)
  | .risiaHeartbeatRx _ _ _ _ _ _ _ => ahead_of_kept (execRisiaHeartbeatRx_kept ..)
  | .risiaAgreeRx _ _ _ _ _ _ => ahead_of_kept (execRisiaAgreeRx_kept ..)
  | .risiaDescRx _ _ => ahead_of_kept (execRisiaDescRx_kept ..)
  | .risiaDigestRx _ _ _ => ahead_of_kept (execRisiaDigestRx_kept ..)
  | .risiaControlRx _ _ => ahead_of_kept (execRisiaControlRx_kept ..)
  | .risiaBulkRx _ _ _ _ _ => ahead_of_kept (execRisiaBulkRx_kept ..)
  | .risiaTimeRx _ _ => ahead_of_kept (execRisiaTimeRx_kept ..)
  | .pairHeartbeatTx => ahead_of_kept (execPairHeartbeatTx_kept ..)
  | .plkLaneDown _ => ahead_of_kept (execPlkLaneDown_kept ..)
  | .hbInPulse _ => ahead_of_kept (execHbInPulse_kept ..)
  | .hbWireSilent => ahead_of_kept (execHbWireSilent_kept ..)
  | .bindInChange _ => ahead_of_kept (execBindInChange_kept ..)
  | .bindHoldDrop => ahead_of_kept (execBindHoldDrop_kept ..)
  | .bindFault => ahead_of_kept (execBindFault_kept ..)
  | .established => ahead_of_kept (execEstablished_kept ..)
  | .linkStartTimeout => ahead_of_kept (execLinkStartTimeout_kept ..)
  | .joinSnapshotDone _ => ahead_of_kept (execJoinSnapshotDone_kept ..)
  | .joinCatchupDone => ahead_of_kept (execJoinCatchupDone_kept ..)
  | .joinFailed _ => ahead_of_kept (execJoinFailed_kept ..)
  | .joinRetry => ahead_of_kept (execJoinRetry_kept ..)
  | .agreementDueMissing _ => ahead_of_kept (execAgreementDueMissing_kept ..)
  | .verdictComplete _ => ahead_of_kept (execVerdictComplete_kept ..)
  | .handoverWave => ahead_of_kept (execHandoverWave_kept ..)
  | .pairDrill _ _ => ahead_of_kept (execPairDrill_kept ..)
  | .drillDwellEnd => ahead_of_kept (execDrillDwellEnd_kept ..)
  | .drillDue => ahead_of_kept (execDrillDue_kept ..)
  | .pairRelease _ _ => execPairRelease_ahead ..
  | .migrateWarmDone => ahead_of_kept (execMigrateWarmDone_kept ..)
  | .gooseFrameRx _ => ahead_of_kept (execGooseFrameRx_kept ..)
  | .gooseSubLost _ => ahead_of_kept (execGooseSubLost_kept ..)
  | .gooseRetransmit _ => ahead_of_kept (execGooseRetransmit_kept ..)
  | .prpSupervisionTx => ahead_of_kept (execPrpSupervisionTx_kept ..)
  | .prpDupAgeout => ahead_of_kept (execPrpDupAgeout_kept ..)
  | .netFrameRx _ => ahead_of_kept (execNetFrameRx_kept ..)
  | .arpRx _ _ _ _ => ahead_of_kept (execArpRx_kept ..)
  | .arpRefresh => ahead_of_kept (execArpRefresh_kept ..)
  | .icmpEcho _ _ => ahead_of_kept (execIcmpEcho_kept ..)
  | .tlsRecordRx _ _ _ => execTlsRecordRx_ahead ..
  | .linkLoss _ => ahead_of_kept (execLinkLoss_kept ..)
  | .laneNoFrame _ => ahead_of_kept (execLaneNoFrame_kept ..)
  | .ringOpen _ => ahead_of_kept (execRingOpen_kept ..)
  | .netLaneRestored _ => ahead_of_kept (execNetLaneRestored_kept ..)
  | .hpiWriteTransfer _ => ahead_of_kept (execHpiWriteTransfer_kept ..)
  | .hpiReadTransfer _ => ahead_of_kept (execHpiReadTransfer_kept ..)
  | .uartFrameRx _ => ahead_of_kept (execUartFrameRx_kept ..)
  | .uartFrameTimeout => ahead_of_kept (execUartFrameTimeout_kept ..)
  | .diagStream _ _ _ => ahead_of_kept (execDiagStream_kept ..)
  | .diagData _ => ahead_of_kept (execDiagData_kept ..)
  | .loadWindow _ => ahead_of_kept (execLoadWindow_kept ..)
  | .mgmtWatchdog _ => ahead_of_kept (execMgmtWatchdog_kept ..)
  | .mgmtRestartDone => ahead_of_kept (execMgmtRestartDone_kept ..)
  | .attest _ _ => execAttest_ahead ..
  | .keyInstall _ _ => execKeyInstall_ahead ..
  | .keyList _ => ahead_of_kept (execKeyList_kept ..)
  | .authLockoutExpiry _ => execAuthLockoutExpiry_ahead ..
  | .sessionIdleTimeout _ => ahead_of_kept (execSessionIdleTimeout_kept ..)
  | .healthRead _ _ => ahead_of_kept (execHealthRead_kept ..)
  | .injArm _ _ => execInjArm_ahead ..
  | .injClear _ _ => ahead_of_kept (execInjClear_kept ..)
  | .injDurationEnd _ => ahead_of_kept (execInjDurationEnd_kept ..)
  | .injPeriodStart _ => execInjPeriodStart_ahead ..
  | .detectorHoldExpiry _ => ahead_of_kept (execDetectorHoldExpiry_kept ..)
  | .monitorSample _ _ _ => ahead_of_kept (execMonitorSample_kept ..)
  | .dieTempHigh _ => ahead_of_kept (execDieTempHigh_kept ..)
  | .eccSram _ _ _ _ => execEccSram_ahead ..
  | .eccMram _ _ => execEccMram_ahead ..
  | .flashErr => ahead_of_kept (execFlashErr_kept ..)
  | .upcSelftestTimeout => ahead_of_kept (execUpcSelftestTimeout_kept ..)
  | .highRateBlock _ _ _ _ => ahead_of_kept (execHighRateBlock_kept ..)
  | .ppsOutRise => ahead_of_kept (execPpsOutRise_kept ..)
  | .ppsOutFall => ahead_of_kept (execPpsOutFall_kept ..)
  | .sampleLoopUnlock => ahead_of_kept (execSampleLoopUnlock_kept ..)
  | .tlsConnectionEnd _ => ahead_of_kept (execTlsConnectionEnd_kept ..)
  | .monitorLimitCrossed _ _ => ahead_of_kept (execMonitorLimitCrossed_kept ..)
  | .dieTempNormal _ => ahead_of_kept (execDieTempNormal_kept ..)
  | .vmainLowCleared => ahead_of_kept (execVmainLowCleared_kept ..)
  | .portLinkUp _ _ => ahead_of_kept (execPortLinkUp_kept ..)

/-- Settles O4: a tick of an empty queue keeps the numbers; a command's row answers a next state (`exec_completes`) with the
numbers ahead (`exec_ahead`). -/
theorem everyStepKeepsTheReservedNumbers : Obligations.EveryStepKeepsTheReservedNumbers := by
  intro s reserved
  cases h : s.pending with
  | nil => exact ⟨idle s, step_of_nil s h, safeStep_of_ahead (ahead_of_kept (idle_kept s)) reserved⟩
  | cons c q =>
    rw [step_of_cons s c q h]
    exact ⟨_, completes_resState { s with pending := q } _ (exec_completes c _),
      safeStep_of_ahead (exec_ahead c { s with pending := q }) reserved⟩

/-- Settles O5. -/
theorem resetReservesTheNumbers : Obligations.ResetReservesTheNumbers :=
  ⟨⟨by decide, by decide, by decide, rfl⟩, rfl, rfl, rfl, rfl, rfl, rfl, rfl⟩

end Sys2Proof.Machine
end

section
/-! PROOFS. The command processor (R585 to R589, R593, R594, R617): the front of the queue, what a response carries and leaves of
the sessions, a session's opening and closing, the register commands. -/

namespace Sys2Proof.Machine
open Sys2Proof

/-- Settles O1. -/
theorem frontCommandIsExecuted : Obligations.FrontCommandIsExecuted := fun c q s h => step_of_cons s c q h

/-! The sessions, as a response leaves them. -/

/-- What no response changes of a session: its number, its transport, its roles and whether it is a physical one. -/
def sessionKey (x : Session) : Nat × Transport × BitVec 5 × Bool := (x.num, x.transport, x.roles, x.phys)

theorem map_updFirst {α β : Type} (g : α → β) (p : α → Bool) (f : α → α) (h : ∀ x, g (f x) = g x) (l : List α) :
    (updFirst p f l).map g = l.map g := by
  induction l with
  | nil => rfl
  | cons x l ih =>
    rw [updFirst]
    split
    · simp [h]
    · simp [ih]

theorem regrant_sessionKey (s : State) (op cls : Nat) (st : Status) (x : Session) :
    sessionKey (regrant s op cls st x) = sessionKey x := by
  unfold regrant
  repeat' split
  all_goals rfl

theorem respondTo_sessionKeys (a : Bool) (r : Req) (op : Nat) (st : Status) (m : Bool) (pl : List Byte) (s : State) :
    (respondTo a r op st m pl s).cmd.sessions.map sessionKey = s.cmd.sessions.map sessionKey := by
  refine map_updFirst _ _ _ (fun x => ?_) _
  dsimp only
  split
  · exact regrant_sessionKey ..
  · rfl

theorem respond_sessionKeys (r : Req) (op : Nat) (st : Status) (m : Bool) (pl : List Byte) (s : State) :
    (respond r op st m pl s).cmd.sessions.map sessionKey = s.cmd.sessions.map sessionKey :=
  respondTo_sessionKeys false r op st m pl s

theorem map_num_of_sessionKeys {l m : List Session} (h : l.map sessionKey = m.map sessionKey) :
    l.map (·.num) = m.map (·.num) := by
  have first (k : List Session) : k.map (·.num) = (k.map sessionKey).map (·.1) := by rw [List.map_map]; rfl
  rw [first, first, h]

/-- The request of session 0 or of an open session. -/
def Heard (r : Req) (s : State) : Prop :=
  r.session = 0 ∨ s.cmd.sessions.any (fun x => x.num == r.session && x.transport == r.transport) = true

/-- A response of such a request leaves: one packet more, with the request's numbers (R585, R588). -/
theorem respond_out (r : Req) (op : Nat) (st : Status) (m : Bool) (pl : List Byte) (s : State) (h : Heard r s) :
    ∃ p : Packet, (respond r op st m pl s).cmd.out = s.cmd.out ++ [p] ∧ p.transport = r.transport ∧ p.session = r.session ∧
      p.tag = r.tag ∧ p.op = op ∧ p.status = st.toNat ∧ p.more = m ∧ p.unsol = false ∧ p.payload = pl := by
  have leaves : (false || r.session == 0 || s.cmd.sessions.any fun x => x.num == r.session && x.transport == r.transport) = true := by
    rcases h with h | h
    · simp [h]
    · rw [h, Bool.or_true]
  exact ⟨_, if_pos leaves, rfl, rfl, rfl, rfl, rfl, rfl, rfl, rfl⟩

/-- Settles O8. -/
theorem answerCarriesTheRequestsNumbers : Obligations.AnswerCarriesTheRequestsNumbers := fun r op st s h =>
  ⟨answer_only r op st s, respond_out r op st false [] s h, rfl, map_num_of_sessionKeys (respond_sessionKeys ..)⟩

/-- The request of a served command is heard: it is of session 0, or its session is open (R587). -/
theorem Served.heard {r : Req} {op : Nat} {s : State} (h : Served r op s) : Heard r s := by
  obtain ⟨-, checked⟩ := h
  by_contra unheard
  obtain ⟨numbered, closed⟩ := not_or.mp unheard
  have unfound : findSession s r = none := List.find?_eq_none.mpr fun x hx => by
    have := List.any_eq_false.mp (Bool.eq_false_of_not_eq_true closed) x hx
    simpa using this
  simp only [precheck, if_neg numbered, unfound] at checked
  split at checked
  · cases checked
  · split at checked <;> cases checked

/-! SESSION_OPEN and SESSION_CLOSE (R589, R617). -/

/-- The session that opens on the maintenance UART. -/
def uartSession (r : Req) (roles options : Nat) (s : State) : Session :=
  { (default : Session) with
    num := newNumber s, slot := freeSlot s, transport := r.transport, roles := BitVec.ofNat 5 roles
    notify := decide (options % 2 = 1), hostSlot := none, phys := true, normal := 4, bulk := 2, lastUse := td0 s
    conn := none }

/-- The state in which the session is open and told, before the answer. -/
def uartOpened (r : Req) (roles options : Nat) (s : State) : State :=
  submit .sec 0xC009 (newNumber s) (submit .cmd 0xB002 (65536 + newNumber s) { s with cmd := { s.cmd with
    sessions := s.cmd.sessions ++ [uartSession r roles options s], lastSession := newNumber s } })

theorem uartOpened_cmd (r : Req) (roles options : Nat) (s : State) : (uartOpened r roles options s).cmd = { s.cmd with
    sessions := s.cmd.sessions ++ [uartSession r roles options s], lastSession := newNumber s } := by
  simp [uartOpened]

theorem uartOpened_only (r : Req) (roles options : Nat) (s : State) : Only [.cmd, .evr] s (uartOpened r roles options s) :=
  (((State.with_cmd_only s _).seq (submit_only _ _ _ _)).seq (submit_only _ _ _ _)).mono (by decide)

theorem openSession_uart (r : Req) (roles options : Nat) (s : State) (hh : s.pw.phase ≠ .halted) (hr : roles ≠ 0) :
    openSession r roles options none true none s = respond r 0x0001 .ok false
      (leBytes 2 (newNumber s) ++ [BitVec.ofNat 8 roles, 0#8]) (uartOpened r roles options s) := by
  simp only [openSession, if_neg hh, if_neg hr]
  rfl

theorem execSessionOpen_uart (r : Req) (roles options : Nat) (auth : List Byte) (s : State) (h : Served r 0x0001 s)
    (ht : r.transport = .uart) (hl : lockedOut .uart s = false) (hr : sessionRoom s .uart = true) :
    execSessionOpen r 2 roles options auth s =
      .next (openSession r (roles &&& policyRoles s .uart) options none true none s) := by
  rw [execSessionOpen, sessionOpen, serve_served r _ s _ h]
  simp [ht, hl, hr]

theorem execSessionOpen_opens (r : Req) (roles options : Nat) (auth : List Byte) (s : State) (h : Served r 0x0001 s)
    (ht : r.transport = .uart) (hh : s.pw.phase ≠ .halted) (hl : lockedOut .uart s = false)
    (hr : sessionRoom s .uart = true) (hn : (roles &&& policyRoles s .uart) ≠ 0) :
    ∃ t, execSessionOpen r 2 roles options auth s = .next t ∧ Only [.cmd, .pads, .evr] s t ∧
      t.cmd.lastSession = newNumber s ∧ t.cmd.sessions.length = s.cmd.sessions.length + 1 ∧
      t.cmd.sessions.any (fun x => x.num == newNumber s && x.roles == BitVec.ofNat 5 (roles &&& policyRoles s .uart) &&
        x.phys) = true := by
  have opened := execSessionOpen_uart r roles options auth s h ht hl hr
  rw [openSession_uart r _ options s hh hn] at opened
  generalize roles &&& policyRoles s .uart = granted at opened
  have keys := respond_sessionKeys r 0x0001 .ok false (leBytes 2 (newNumber s) ++ [BitVec.ofNat 8 granted, 0#8])
    (uartOpened r granted options s)
  rw [uartOpened_cmd, List.map_append] at keys
  refine ⟨_, opened, ((uartOpened_only r granted options s).seq (respond_only _ _ _ _ _ _)).mono (by decide),
    congrArg Cmd.lastSession (uartOpened_cmd r granted options s), ?_, ?_⟩
  · simpa using congrArg List.length keys
  · have new : sessionKey (uartSession r granted options s) ∈ (respond r 0x0001 .ok false
        (leBytes 2 (newNumber s) ++ [BitVec.ofNat 8 granted, 0#8]) (uartOpened r granted options s)).cmd.sessions.map sessionKey := by
      rw [keys]
      simp
    obtain ⟨x, hx, same⟩ := List.mem_map.mp new
    simp only [sessionKey, uartSession, Prod.mk.injEq] at same
    obtain ⟨num, -, granted', phys⟩ := same
    exact List.any_eq_true.mpr ⟨x, hx, by simp [num, granted', phys]⟩

theorem closeSession_closed (n : Nat) (s : State) : (closeSession n s).cmd.sessions.any (fun x => x.num == n) = false := by
  unfold closeSession
  split
  case h_1 none =>
    exact List.any_eq_false.mpr fun x hx => by simpa using List.find?_eq_none.mp none x hx
  case h_2 =>
    rw [submit_cmd]
    refine List.any_eq_false.mpr fun x hx => ?_
    have := (List.mem_filter.mp hx).2
    simpa using this

theorem execSessionClose_closes (r : Req) (s : State) (h : Served r 0x0002 s) (h0 : r.session ≠ 0) :
    ∃ t, execSessionClose r s = .next t ∧ t.cmd.sessions.any (fun x => x.num == r.session) = false := by
  refine ⟨_, rfl, ?_⟩
  rw [serve_served r _ s _ h, if_neg h0]
  exact closeSession_closed r.session _

/-! The register commands (R588, R594). -/

theorem execRegRead_reads (r : Req) (addr count : Nat) (s : State) (h : Served r 0x0010 s) (h0 : r.session ≠ 0)
    (hh : s.pw.phase ≠ .halted) (hr : s.pw.phase ≠ .romRecovery) (h1 : 1 ≤ count) (hm : count ≤ 1024) (ha : addr % 4 = 0)
    (hp : ((List.range count).map (fun i => addr + 4 * i)).any (regAbsent s) = false) :
    execRegRead r addr count s = .next (respond r 0x0010 .ok false
      (((List.range count).map (fun i => addr + 4 * i)).flatMap (fun a => leBytes 4 (regVal s a))) s) := by
  have ranged : ¬ (count = 0 ∨ 1024 < count ∨ addr % 4 ≠ 0) := by omega
  rw [execRegRead, regRead, serve_served r _ s _ h]
  dsimp only
  rw [if_neg (fun k => h0 k.1), if_neg (fun k => k.1.elim hh hr), if_neg ranged, hp]
  rfl

theorem execRegWrite_writes (r : Req) (addr : Nat) (values : List Word) (s : State) (h : Served r 0x0011 s)
    (ht : touchesSec addr values.length = false) (hv : values ≠ []) (hm : values.length ≤ 1022) (ha : addr % 4 = 0) :
    execRegWrite r addr values s = .next (respond r 0x0011 (writeWords addr values 0 s).2.2 false
      (leBytes 2 (writeWords addr values 0 s).2.1) (writeWords addr values 0 s).1) := by
  have ranged : ¬ (values.isEmpty = true ∨ 1022 < values.length ∨ addr % 4 ≠ 0) := by
    rw [List.isEmpty_iff]
    exact fun k => k.elim hv fun k => by omega
  rw [execRegWrite, regWrite, serve_served r _ s _ h]
  dsimp only
  rw [ht, if_neg (by simp), if_neg ranged]

theorem execRegModify_writes (r : Req) (addr : Nat) (mask value : Word) (s t : State) (h : Served r 0x0012 s)
    (ht : touchesSec addr 1 = false) (ha : addr % 4 = 0) (hp : pulseReg addr = false)
    (hw : writeWord addr ((BitVec.ofNat 32 (regVal s addr) &&& ~~~mask) ||| (value &&& mask)).toNat s = (t, .ok)) :
    execRegModify r addr mask value s =
      .next (respond r 0x0012 .ok false (leBytes 4 (regVal s addr) ++ leBytes 4 (regVal t addr)) t) := by
  rw [execRegModify, regModify, serve_served r _ s _ h]
  simp only [ht, ha, hp, hw, Bool.false_eq_true, ne_eq, not_true_eq_false, if_false, if_true]

/-- Settles O12, command by command. -/
theorem sessionAndRegisterCommandsComplete : Obligations.SessionAndRegisterCommandsComplete :=
  ⟨execSessionOpen_opens, execSessionClose_closes, execRegRead_reads, execRegWrite_writes, execRegModify_writes⟩

end Sys2Proof.Machine
end

section
/-! PROOFS. Firmware staging, keys, attestation and lock-outs (R606, R609 to R614, R616, R619). -/

namespace Sys2Proof.Machine
open Sys2Proof

/-! FW_BEGIN, FW_DATA and FW_COMMIT (R609). -/

theorem putSlot_only (n : Nat) (f : FwSlot) (s : State) : Only [.boot] s (putSlot n f s) :=
  Only.ite _ (State.with_boot_only s _) (State.with_boot_only s _)

/-- The staging of a slot that has been emptied. -/
def fwBegun (r : Req) (len slot : Nat) (s : State) : State :=
  { putSlot slot default s with
    boot := { (putSlot slot default s).boot with fwStage := some (len, slot, r.session), fwBytes := [] } }

theorem execFwBegin_stages (r : Req) (len slot : Nat) (s : State) (h : Served r 0x0028 s) (ho : fwOther r s = false)
    (hs : slot ≤ 1) (hl : 1 ≤ len) (hr : slotRuns s slot = false) :
    ∃ t, execFwBegin r len slot s = .next t ∧ Only [.boot, .cmd, .pads] s t ∧ t.boot.fwStage = some (len, slot, r.session) ∧
      t.boot.fwBytes = [] ∧ (if slot = 0 then t.boot.fwA = default ∧ t.boot.fwB = s.boot.fwB
        else t.boot.fwB = default ∧ t.boot.fwA = s.boot.fwA) := by
  have begun : execFwBegin r len slot s = .next (answer r 0x0028 .ok (fwBegun r len slot s)) := by
    have ranged : ¬ (1 < slot ∨ len = 0) := by omega
    rw [execFwBegin, serve_served r _ s _ h, ho, if_neg (by simp), if_neg ranged, hr]
    rfl
  refine ⟨_, begun, (((putSlot_only slot default s).seq (State.with_boot_only _ _)).seq (answer_only _ _ _ _)).mono (by decide), ?_⟩
  rw [answer_boot]
  refine ⟨rfl, rfl, ?_⟩
  simp only [fwBegun, putSlot]
  split
  · exact ⟨rfl, rfl⟩
  · exact ⟨rfl, rfl⟩

theorem execFwData_keeps (r : Req) (offset len slot h : Nat) (bytes : List Byte) (s : State) (hs : Served r 0x0029 s)
    (ho : fwOther r s = false) (hf : s.boot.fwStage = some (len, slot, h)) (hl : offset + bytes.length ≤ len) :
    execFwData r offset bytes s =
      .next (answer r 0x0029 .ok { s with boot := { s.boot with fwBytes := s.boot.fwBytes ++ [(offset, bytes)] } }) := by
  rw [execFwData, serve_served r _ s _ hs]
  simp only [ho, hf, Bool.false_eq_true, if_false, if_neg (Nat.not_lt.mpr hl)]

/-- What FW_COMMIT finds of the staged bytes: 5 where some are missing, else the slot's verification (R608). -/
def fwVerdict (len : Nat) (s : State) : Nat :=
  if covered s.boot.fwBytes len then (readSlot (assemble s.boot.fwBytes len) s).result else 5

/-- The staging ended: the slot's record, and the swap at the next start. -/
def fwEnded (len slot : Nat) (s : State) : State :=
  let t := putSlot slot { readSlot (assemble s.boot.fwBytes len) s with result := fwVerdict len s } s
  { t with boot := { t.boot with
    fwStage := none, fwBytes := [], nextSwap := if fwVerdict len s = 1 then decide (slot = 1) else t.boot.nextSwap } }

theorem fwEnded_only (len slot : Nat) (s : State) : Only [.boot] s (fwEnded len slot s) :=
  (putSlot_only slot _ s).trans (State.with_boot_only _ _)

theorem execFwCommit_ends (r : Req) (len slot h : Nat) (s : State) (hs : Served r 0x002A s) (ho : fwOther r s = false)
    (hf : s.boot.fwStage = some (len, slot, h)) : execFwCommit r s = .next (respond r 0x002A .ok false
      [BitVec.ofNat 8 (fwVerdict len s)] (submitCmd .sec r.session 0xC004 (fwVerdict len s) (fwEnded len slot s))) := by
  rw [execFwCommit, fwCommit, serve_served r _ s _ hs]
  simp only [ho, hf, Bool.false_eq_true, if_false]
  rfl

theorem execFwCommit_completes (r : Req) (len slot h : Nat) (s : State) (hs : Served r 0x002A s) (ho : fwOther r s = false)
    (hf : s.boot.fwStage = some (len, slot, h)) :
    ∃ t, execFwCommit r s = .next t ∧ Only [.boot, .evr, .cmd, .pads] s t ∧ t.boot.fwStage = none ∧ t.boot.fwBytes = [] ∧
      (covered s.boot.fwBytes len = true → (readSlot (assemble s.boot.fwBytes len) s).result = 1 →
        t.boot.nextSwap = decide (slot = 1)) := by
  refine ⟨_, execFwCommit_ends r len slot h s hs ho hf,
    (((fwEnded_only len slot s).seq (submitCmd_only _ _ _ _ _)).seq (respond_only _ _ _ _ _ _)).mono (by decide), ?_⟩
  rw [respond_boot, submitCmd_boot]
  refine ⟨rfl, rfl, fun hc hv => if_pos ?_⟩
  rw [fwVerdict, if_pos hc, hv]

/-! ROLLBACK_RAISE, ATTEST and the lock-outs (R610, R614, R616, R619). -/

theorem execRollbackRaise_raises (s : State) (hp : s.pw.phase = .running) (hb : s.boot.slot = 1)
    (ha : s.boot.fwA.result = 1) (hr : s.boot.fwB.result = 1) (hm : s.sec.rollback < min s.boot.fwA.svn s.boot.fwB.svn)
    (hd : due s s.boot.protSince (secT 3600) = true) :
    ∃ t, execRollbackRaise s = .next t ∧ Only [.sec, .evr] s t ∧
      t.sec = { s.sec with rollback := min 64 (min s.boot.fwA.svn s.boot.fwB.svn) } ∧
      t.evr = (submit .sec 0xC005 (min s.boot.fwA.svn s.boot.fwB.svn) s).evr := by
  have raised : execRollbackRaise s = .next (submit .sec 0xC005 (min s.boot.fwA.svn s.boot.fwB.svn) { s with
      sec := { s.sec with rollback := min 64 (min s.boot.fwA.svn s.boot.fwB.svn) } }) :=
    congrArg _ (if_pos ⟨hp, hb, ha, hr, hm, hd⟩)
  exact ⟨_, raised, (State.with_sec_only s _).seq (submit_only _ _ _ _), submit_sec .., submit_evr_congr _ _ _ rfl rfl⟩

theorem execAttest_counts (r : Req) (nonce : List Byte) (s : State) (h : Served r 0x00A0 s) :
    ∃ t, execAttest r nonce s = .next t ∧ Only [.sec, .cmd, .pads] s t ∧ t.sec.attCnt = s.sec.attCnt + 1 ∧
      t.sec.keys = s.sec.keys ∧ t.sec.attCnt ≤ t.sec.attMark := by
  refine ⟨_, rfl, ?_⟩
  rw [serve_served r _ s _ h]
  refine ⟨(State.with_sec_only s _).seq (respond_only _ _ _ _ _ _), ?_⟩
  rw [respond_sec]
  exact ⟨rfl, rfl, attMarkAt_above ..⟩

/-- The entry that is removed has ended. -/
theorem execAuthLockoutExpiry_removes (x : Transport) (s : State) :
    ∃ t, execAuthLockoutExpiry x s = .next t ∧ Only [.sec] s t ∧
      t.sec = { s.sec with locked := s.sec.locked.filter (fun e => !(e.1 == x && decide (e.2 ≤ td0 s))) } ∧
      lockedOut x t = lockedOut x s := by
  refine ⟨_, rfl, State.with_sec_only s _, rfl, ?_⟩
  rw [lockedOut, lockedOut, List.any_filter]
  refine List.any_congr rfl fun e => ?_
  change (!(e.1 == x && decide (e.2 ≤ td0 s)) && (e.1 == x && decide (td0 s < e.2))) = (e.1 == x && decide (td0 s < e.2))
  by_cases later : e.2 ≤ td0 s
  · simp [later]
  · simp [later]

/-! KEY_INSTALL and KEY_LIST (R611 to R613). -/

/-- An owner key's record in the security unit. -/
def newOwnerKey (slot : Nat) (body : List Byte) (s : State) : Key4 := ⟨1, slot, 0, bytesAt body 4 32, secOf (td1 s) % 2 ^ 32⟩

/-- The keys with a new owner key in its slot. -/
def ownerInstalled (slot : Nat) (body : List Byte) (s : State) : State :=
  { s with sec := { s.sec with
    keys := s.sec.keys.filter (fun (k : Key4) => !(k.kind == 1 && k.slot == slot)) ++ [newOwnerKey slot body s]
    keySeq := (s.sec.keySeq + 1) % 2 ^ 64 } }

theorem changeKey_owner (slot : Nat) (body : List Byte) (s : State) :
    changeKey 1 slot 0 body s = updCert (ownerInstalled slot body s) := rfl

theorem updCert_keys (s : State) : (updCert s).sec.keys = s.sec.keys ∧ (updCert s).sec.keySeq = s.sec.keySeq := by
  unfold updCert
  split
  · exact ⟨rfl, rfl⟩
  · rw [submit_sec]
    exact ⟨rfl, rfl⟩

theorem keyAt_ownerInstalled (slot : Nat) (body : List Byte) (s : State) :
    keyAt (ownerInstalled slot body s) 1 slot = some (newOwnerKey slot body s) := by
  have emptied : (s.sec.keys.filter (fun (k : Key4) => !(k.kind == 1 && k.slot == slot))).find?
      (fun (k : Key4) => k.kind == 1 && k.slot == slot) = none :=
    List.find?_eq_none.mpr fun k hk => (Bool.not_eq_true _).mpr (Bool.not_eq_true' _ ▸ (List.mem_filter.mp hk).2)
  rw [keyAt, ownerInstalled, List.find?_append, emptied]
  simp [newOwnerKey]

/-- What an owner key's installation answers: the audit record committed first, then the change (R522, R611). -/
theorem execKeyInstall_owner (r : Req) (body : List Byte) (s : State) (h : Served r 0x00A1 s) (hf : s.evr.freeze = none)
    (ht : leAt body 0 1 = 1) (hs : leAt body 1 1 < 4) (ho : leAt body 2 1 = 0)
    (hq : leAt body 36 8 = (s.sec.keySeq + 1) % 2 ^ 64) (ha : keyAuth r body s = true) : ∃ u, u.sec = s.sec ∧
      execKeyInstall r body s = .next (updCert (ownerInstalled (leAt body 1 1) body (answer r 0x00A1 .ok u))) := by
  refine ⟨auditFirst .sec r.session 0xC002 (256 * 1 + leAt body 1 1) [keyIdOf (bytesAt body 4 32)] s,
    (auditFirst_only _ _ _ _ _ s).same .sec (by decide), ?_⟩
  have ranged : ¬ (slotsOf 1 ≤ leAt body 1 1 ∨ 1 < 0) := by simp [slotsOf]; omega
  rw [execKeyInstall, keyInstall, serve_served r _ s _ h]
  simp only [hf, ht, ho, hq, ha, if_neg ranged, Option.isSome_none, Bool.false_eq_true, if_false, ne_eq, not_true_eq_false,
    Bool.not_true, zero_ne_one, and_false, false_and, ← changeKey_owner]

theorem execKeyInstall_completes (r : Req) (body : List Byte) (s : State) (h : Served r 0x00A1 s) (hf : s.evr.freeze = none)
    (ht : leAt body 0 1 = 1) (hs : leAt body 1 1 < 4) (ho : leAt body 2 1 = 0)
    (hq : leAt body 36 8 = (s.sec.keySeq + 1) % 2 ^ 64) (ha : keyAuth r body s = true) :
    ∃ t, execKeyInstall r body s = .next t ∧ t.sec.keySeq = (s.sec.keySeq + 1) % 2 ^ 64 ∧
      (keyAt t 1 (leAt body 1 1)).map (·.key) = some (bytesAt body 4 32) := by
  obtain ⟨u, hu, installed⟩ := execKeyInstall_owner r body s h hf ht hs ho hq ha
  obtain ⟨keys, seq⟩ := updCert_keys (ownerInstalled (leAt body 1 1) body (answer r 0x00A1 .ok u))
  refine ⟨_, installed, ?_, ?_⟩
  · rw [seq, ownerInstalled, State.with_sec_sec, answer_sec, hu]
  · rw [keyAt, keys, ← keyAt, keyAt_ownerInstalled]
    rfl

theorem execKeyList_lists (r : Req) (s : State) (h : Served r 0x00A2 s) :
    ∃ t p, execKeyList r s = .next t ∧ Only [.cmd, .pads] s t ∧ t.cmd.out = s.cmd.out ++ [p] ∧ p.op = 0x00A2 ∧
      p.status = 0 ∧ p.payload.head? = some (BitVec.ofNat 8
        (1 + ([1, 2, 3].flatMap (fun k => (List.range (slotsOf k)).filterMap (fun i => keyAt s k i))).length)) := by
  have listed : execKeyList r s = .next (serve r 0x00A2 s _) := rfl
  rw [serve_served r _ s _ h] at listed
  obtain ⟨p, out, -, -, -, op, status, -, -, payload⟩ := respond_out r 0x00A2 .ok false _ s h.heard
  refine ⟨_, p, listed, respond_only _ _ _ _ _ _, out, op, status, ?_⟩
  rw [payload]
  simp [Nat.add_comm]

/-- Settles O15, command by command. -/
theorem firmwareAndSecurityCommandsComplete : Obligations.FirmwareAndSecurityCommandsComplete :=
  ⟨execFwBegin_stages, execFwData_keeps, execFwCommit_completes, execRollbackRaise_raises, execAttest_counts,
    execKeyInstall_completes, execKeyList_lists, execAuthLockoutExpiry_removes⟩

end Sys2Proof.Machine
end

section
/-! PROOFS. The field side (R412 to R430): what the recorder's firings leave of the pair, what an edge leaves of the inputs, the
frames in both directions, then the rows. -/

namespace Sys2Proof.Machine
open Sys2Proof

/-! The recorder's firings tell the standby by cells; of the pair they change nothing else. -/

/-- The pair's registers beside the cells handed to the link. -/
def besideCells (s : State) : Pair := { s.pr with cells := [] }

theorem besideCells_of_only {ps : List Part} {s t : State} (h : Only ps s t) (k : Part.pr ∉ ps) :
    besideCells t = besideCells s := by
  have pr : t.pr = s.pr := h.same .pr k
  rw [besideCells, besideCells, pr]

theorem sendCell_besideCells (type : Nat) (vals : List Nat) (s : State) :
    besideCells (sendCell type vals s) = besideCells s := rfl

theorem sendAgree_besideCells (kind wave : Nat) (vals : List Nat) (s : State) :
    besideCells (sendAgree kind wave vals s) = besideCells s := by
  unfold sendAgree
  split
  · exact sendCell_besideCells _ _ s
  · rfl

theorem fireUnit_besideCells (u t1 : Nat) (s : State) : besideCells (fireUnit u t1 s) = besideCells s := by
  unfold fireUnit
  split
  · rfl
  · have raised := fun k i e t1 t0 (b : State) => besideCells_of_only (raiseTrig_only k i e t1 t0 b) (by decide)
    dsimp only
    split
    · exact raised _ _ _ _ _ _
    · exact (besideCells_of_only (unitActs_logs _ _ _ _).1 (by decide)).trans
        ((sendAgree_besideCells _ _ _ _).trans (raised _ _ _ _ _ _))

theorem patternUnits_besideCells (t1 : Nat) (s : State) : besideCells (patternUnits t1 s) = besideCells s := by
  refine foldl_keeps besideCells _ _ s fun s u => ?_
  split
  · split
    · dsimp only
      split
      · exact fireUnit_besideCells _ _ _
      · rfl
    · rfl
  · rfl

theorem binSet_besideCells (cls index : Nat) (st ok est gap : Bool) (t1 : Nat) (s : State) :
    besideCells (binSet cls index st ok est gap t1 s) = besideCells s := by
  unfold binSet
  dsimp only
  split
  · rfl
  · split
    · rfl
    · exact patternUnits_besideCells t1 _

theorem diRecord_besideCells (n : Nat) (est gap : Bool) (t1 : Nat) (s : State) :
    besideCells (diRecord n est gap t1 s) = besideCells s := binSet_besideCells _ _ _ _ _ _ _ s

/-! What the engine holds of the last upstream frame, and one input beside the others. -/

/-- What the engine holds of the last good upstream frame. -/
def frameRead (s : State) : Bool × Nat × Bool × Option Nat × Int :=
  (s.fio.everUp, s.fio.badRun, s.fio.safeRep, s.fio.upSeq, s.fio.temp)

theorem frameRead_of_fio {s t : State} (h : t.fio = s.fio) : frameRead t = frameRead s := by rw [frameRead, h, frameRead]

theorem noteDi_frameRead (t1 : Nat) (s : State) : frameRead (noteDi t1 s) = frameRead s := by
  unfold noteDi
  dsimp only
  repeat' split
  all_goals rfl

theorem diRecord_fio (n : Nat) (est gap : Bool) (t1 : Nat) (s : State) : (diRecord n est gap t1 s).fio = s.fio :=
  (diRecord_only n est gap t1 s).same .fio (by decide)

theorem diOf_updDi_ne (n m : Nat) (f : DigIn → DigIn) (s : State) (h : m ≠ n) : diOf (updDi n f s) m = diOf s m :=
  putAt_getD_ne 16 s.fio.din n m _ h

/-- What a frame or an edge says of input `n` has been told: the inputs stand as before, but that `n` may have been frozen. -/
structure Tells (n : Nat) (s t : State) : Prop where
  read : frameRead t = frameRead s
  others : ∀ m, m ≠ n → diOf t m = diOf s m
  state : (diOf t n).state = (diOf s n).state
  maxOnDone : (diOf t n).maxOnDone = (diOf s n).maxOnDone

theorem Tells.of_same {n : Nat} {s t : State} (r : frameRead t = frameRead s) (h : ∀ m, diOf t m = diOf s m) :
    Tells n s t := ⟨r, fun m _ => h m, congrArg DigIn.state (h n), congrArg DigIn.maxOnDone (h n)⟩

theorem Tells.of_fio {n : Nat} {s t : State} (h : t.fio = s.fio) : Tells n s t :=
  .of_same (frameRead_of_fio h) (SameInputs.of_fio h).diOf_eq

theorem Tells.refl (n : Nat) (s : State) : Tells n s s := .of_fio rfl

theorem Tells.trans {n : Nat} {a b c : State} (h : Tells n a b) (k : Tells n b c) : Tells n a c :=
  ⟨k.read.trans h.read, fun m x => (k.others m x).trans (h.others m x), k.state.trans h.state,
    k.maxOnDone.trans h.maxOnDone⟩

theorem Tells.ite {n : Nat} {s a b : State} (c : Prop) [Decidable c] (ha : Tells n s a) (hb : Tells n s b) :
    Tells n s (if c then a else b) := by
  split
  · exact ha
  · exact hb

theorem noteDi_tells (n t1 : Nat) (s : State) : Tells n s (noteDi t1 s) :=
  .of_same (noteDi_frameRead t1 s) (noteDi_sameInputs t1 s).diOf_eq

theorem diRecord_tells (n k : Nat) (est gap : Bool) (t1 : Nat) (s : State) : Tells n s (diRecord k est gap t1 s) :=
  .of_fio (diRecord_fio k est gap t1 s)

/-- The note of I word 0 and of the recorder's binary channel. -/
theorem noted_tells (n k : Nat) (est gap : Bool) (t t1 : Nat) (s : State) :
    Tells n s (diRecord k est gap t1 (noteDi t s)) := (noteDi_tells n t s).trans (diRecord_tells n k est gap t1 _)

/-- An input freezes in the state it had. -/
theorem freeze_tells (n : Nat) (before : Bool) (s : State) (h : n < 16) :
    Tells n s (updDi n (fun d => { d with frozen := true, frozenState := before }) s) :=
  ⟨rfl, fun m x => diOf_updDi_ne n m _ s x, by rw [diOf_updDi n _ s h], by rw [diOf_updDi n _ s h]⟩

/-! An edge: what it writes into its input, then what it tells. -/

/-- A filtered change as its input keeps it (R421, R423). -/
def edgeKept (s : State) (e : DiEdge) (d : DigIn) : DigIn :=
  let now := t0Of s e.at1
  { d with
    edges := satInc 32 d.edges
    changes := (now :: d.changes.filter (fun c => decide (now < c + msT (pv s 0x0554 e.input 2 2 1000)))).take 256
    lastChange := now, lastStamp := e.stamp, lastStamp23 := (domAt s s.tu.d2 e.stamp, domAt s s.tu.d3 e.stamp)
    state := e.state, onSince := if e.state then now else d.onSince, maxOnDone := false }

/-- What follows the writing of an edge: nothing for a frozen input, the freeze of one that chatters, else its report. -/
theorem takeEdge_tells (s : State) (e : DiEdge) (h : e.input < 16) :
    Tells e.input (updDi e.input (edgeKept s e) s) (takeEdge s e) := by
  have freeze := freeze_tells e.input (diState s e.input) (updDi e.input (edgeKept s e) s) h
  refine Tells.ite _ (Tells.refl _ _) (Tells.ite _ ?_ ?_)
  · exact (freeze.trans (.of_fio (fireDet_fio _ _ _ _))).trans (noted_tells _ _ _ _ _ _ _)
  · exact ((noted_tells _ _ _ _ _ _ _).trans (Tells.ite _ (.of_fio (emit_fio _ _ _)) (Tells.refl _ _))).trans
      (.of_fio (raiseTrig_fio _ _ _ _ _ _))

theorem takeEdge_maxOnDone (e : DiEdge) (s : State) (h : e.input < 16) :
    (diOf (takeEdge s e) e.input).maxOnDone = false :=
  (takeEdge_tells s e h).maxOnDone.trans (congrArg DigIn.maxOnDone (diOf_updDi e.input _ s h))

theorem takeEdge_others (e : DiEdge) (s : State) (h : e.input < 16) (m : Nat) (k : m ≠ e.input) :
    diOf (takeEdge s e) m = diOf s m := ((takeEdge_tells s e h).others m k).trans (diOf_updDi_ne _ m _ s k)

theorem execDiMaxOn_told (n : Nat) (s : State) (h : (diOf s n).maxOnDone = true) : execDiMaxOn n s = .next s :=
  if_neg (by simp [h])

/-- Settles O41: a mark already set keeps the row from telling again, and of an input only `takeEdge` takes the mark away. -/
theorem maximumOnTimeTellsOnce : Obligations.MaximumOnTimeTellsOnce := by
  refine ⟨fun n s hn hm hs hd => ⟨fun hf => ?_, execDiMaxOn_told n s⟩, fun e s h => ⟨takeEdge_maxOnDone e s h, ?_⟩⟩
  · exact if_pos (by simp [hn, hm, hs, hf, hd])
  · exact fun n _ k => congrArg DigIn.maxOnDone (takeEdge_others e s h n k)

end Sys2Proof.Machine
end

section
/-! PROOFS. The field barrier's frames (R412 to R419, R421, R429, R430). -/

namespace Sys2Proof.Machine
open Sys2Proof

/-! Upstream: the header, then the states of the inputs. -/

theorem detOn_of_active {s t : State} (h : t.hlt.active = s.hlt.active) (d i : Nat) : detOn t d i = detOn s d i := by
  rw [detOn, h, detOn]

/-- The registers of the field barrier beside the inputs and the history of I word 0. -/
def besideInputs (s : State) : Field := { s.fio with din := [], diHist := [] }

theorem besideInputs_of_fio {s t : State} (h : t.fio = s.fio) : besideInputs t = besideInputs s := by
  rw [besideInputs, h, besideInputs]

theorem frameRead_of_besideInputs {s t : State} (h : besideInputs t = besideInputs s) : frameRead t = frameRead s :=
  (congrArg (fun f : Field => (f.everUp, f.badRun, f.safeRep, f.upSeq, f.temp)) h :)

theorem noteDi_besideInputs (t1 : Nat) (s : State) : besideInputs (noteDi t1 s) = besideInputs s := by
  unfold noteDi
  dsimp only
  repeat' split
  all_goals rfl

/-- The registers of a barrier that has just been lost. -/
def lostBarrier (f : Field) : Field := { f with up := false, released := false, goodRun := 0, restorePend := false }

/-- The states that the inputs had before the loss. -/
def statesSaved (s : State) : State :=
  (List.range 16).foldl (fun s n => updDi n (fun d => { d with preLoss := diState s n }) s) s

def barrierDown (s : State) : State := { statesSaved s with fio := lostBarrier (statesSaved s).fio }

/-- Every input brought to the recorder's channels. -/
def recordInputs (s : State) : State := (List.range 16).foldl (fun s n => diRecord n false false (td1 s) s) s

theorem recordInputs_fio (s : State) : (recordInputs s).fio = s.fio :=
  foldl_keeps State.fio _ _ s fun s n => diRecord_fio n false false _ s

theorem fieldLost_eq (cause : Nat) (s : State) (h : detOn s 0x0D 0 = false) : fieldLost cause s =
    refreshPads (fireDet 0x0D 0 cause (recordInputs (noteDi ((statesSaved s).fio.lastSample + 1) (barrierDown s)))) :=
  if_neg (by simp [h])

/-- The loss of the barrier, told once. -/
theorem fieldLost_besideInputs (cause : Nat) (s : State) (h : detOn s 0x0D 0 = false) :
    besideInputs (fieldLost cause s) = lostBarrier (besideInputs s) := by
  have saved : besideInputs (statesSaved s) = besideInputs s := foldl_keeps besideInputs _ _ s fun _ _ => rfl
  rw [fieldLost_eq cause s h]
  calc besideInputs (refreshPads (fireDet 0x0D 0 cause (recordInputs _)))
      = besideInputs (noteDi _ (barrierDown s)) := besideInputs_of_fio
        ((refreshPads_only _).same .fio (by decide) |>.trans ((fireDet_fio _ _ _ _).trans (recordInputs_fio _)))
    _ = besideInputs (barrierDown s) := noteDi_besideInputs _ _
    _ = lostBarrier (besideInputs (statesSaved s)) := rfl
    _ = lostBarrier (besideInputs s) := congrArg lostBarrier saved

theorem fieldLost_of_detOn (cause : Nat) (s : State) (h : detOn s 0x0D 0 = true) : fieldLost cause s = s := if_pos h

/-- The loss of the barrier leaves what the engine holds of the last good frame. -/
theorem fieldLost_frameRead (cause : Nat) (s : State) : frameRead (fieldLost cause s) = frameRead s := by
  cases h : detOn s 0x0D 0
  case true => rw [fieldLost_of_detOn cause s h]
  case false =>
    exact (congrArg (fun f : Field => (f.everUp, f.badRun, f.safeRep, f.upSeq, f.temp))
      (fieldLost_besideInputs cause s h) :)

/-- Once lost, the barrier's detector is in force. -/
theorem fieldLost_detOn (cause : Nat) (s : State) : detOn (fieldLost cause s) 0x0D 0 = true := by
  cases h : detOn s 0x0D 0
  case true => rw [fieldLost_of_detOn cause s h, h]
  case false =>
    rw [fieldLost_eq cause s h]
    exact (detOn_of_hlt ((refreshPads_only _).same .hlt (by decide)) 0x0D 0).trans (fireDet_detOn 0x0D 0 cause _)

/-- The loss of the barrier leaves the count of bad frames and their run; no good frame is left to count. -/
theorem fieldLost_badFrames (cause : Nat) (s : State) (h : s.fio.goodRun = 0) :
    (fieldLost cause s).fio.upErr = s.fio.upErr ∧ (fieldLost cause s).fio.badRun = s.fio.badRun ∧
      (fieldLost cause s).fio.goodRun = 0 := by
  cases hd : detOn s 0x0D 0
  case true =>
    rw [fieldLost_of_detOn cause s hd]
    exact ⟨rfl, rfl, h⟩
  case false =>
    have lost := fieldLost_besideInputs cause s hd
    exact ⟨(congrArg Field.upErr lost :), (congrArg Field.badRun lost :), (congrArg Field.goodRun lost :)⟩

theorem fieldUpHead_frameRead (level : Nat) (temp : Int) (s : State) :
    frameRead (fieldUpHead level temp s) = (true, 0, s.fio.fsSafe, some s.fio.fsSeq, temp) := by
  unfold fieldUpHead
  extract_lets
  split
  · exact fieldLost_frameRead 2 _
  · rfl

/-- A step that brings input `n` to the state that the frame reports, and leaves the other inputs. -/
structure Reports (di n : Nat) (s t : State) : Prop where
  read : frameRead t = frameRead s
  others : ∀ m, m ≠ n → diOf t m = diOf s m
  state : n < 16 → (diOf t n).state = di.testBit n

/-- An input brought to its reported state stays there while the others are brought to theirs. -/
theorem foldl_reports (di : Nat) (f : State → Nat → State) (hf : ∀ s n, Reports di n s (f s n)) (l : List Nat)
    (s : State) : frameRead (l.foldl f s) = frameRead s ∧
      ∀ n, n < 16 → (n ∈ l ∨ (diOf s n).state = di.testBit n) → (diOf (l.foldl f s) n).state = di.testBit n := by
  induction l generalizing s with
  | nil => exact ⟨rfl, fun n _ h => h.resolve_left List.not_mem_nil⟩
  | cons a l ih =>
    refine ⟨(ih (f s a)).1.trans (hf s a).read, fun n hn h => (ih (f s a)).2 n hn ?_⟩
    by_cases e : n = a
    · subst e
      exact .inr ((hf s n).state hn)
    · rw [(hf s a).others n e]
      exact h.imp_left fun m => (List.mem_cons.mp m).resolve_left e

/-- Every input of the field side brought to its reported state. -/
theorem foldl_range_reports (di : Nat) (f : State → Nat → State) (hf : ∀ s n, Reports di n s (f s n)) (s : State) :
    frameRead ((List.range 16).foldl f s) = frameRead s ∧
      ∀ n, n < 16 → (diOf ((List.range 16).foldl f s) n).state = di.testBit n :=
  have all := foldl_reports di f hf (List.range 16) s
  ⟨all.1, fun n hn => all.2 n hn (.inl (List.mem_range.mpr hn))⟩

theorem updDi_reports (di n : Nat) (f : DigIn → DigIn) (s : State) (h : ∀ d, (f d).state = di.testBit n) :
    Reports di n s (updDi n f s) :=
  ⟨rfl, fun m k => diOf_updDi_ne n m f s k, fun hn => by rw [diOf_updDi n f s hn, h]⟩

theorem Reports.tells {di n : Nat} {a b c : State} (h : Reports di n a b) (k : Tells n b c) : Reports di n a c :=
  ⟨k.read.trans h.read, fun m x => (k.others m x).trans (h.others m x), fun hn => k.state.trans (h.state hn)⟩

/-- A change that no frame reported is taken over, recorded as a gap. -/
theorem unreported_reports (f di : Nat) (s : State) (n : Nat) : Reports di n s (unreported f di s n) := by
  unfold unreported
  split
  next same => exact ⟨rfl, fun _ _ => rfl, fun _ => eq_of_beq same⟩
  next =>
    refine (updDi_reports di n _ s fun _ => rfl).tells (Tells.ite _ (Tells.refl _ _) ?_)
    exact ((noted_tells _ _ _ _ _ _ _).trans (Tells.ite _ (.of_fio (submit_fio _ _ _ _)) (Tells.refl _ _))).trans
      (.of_fio (raiseTrig_fio _ _ _ _ _ _))

theorem takeStates_reports (di : Nat) (s : State) : frameRead (takeStates di s) = frameRead s ∧
    ∀ n, n < 16 → (diOf (takeStates di s) n).state = di.testBit n :=
  foldl_range_reports di _ (fun s n => updDi_reports di n _ s fun _ => rfl) s

theorem diEdges_input {s : State} {di chg1 chg2 chg3 first last n : Nat} {e : DiEdge}
    (h : e ∈ diEdges s di chg1 chg2 chg3 first last n) : e.input = n := by
  unfold diEdges at h
  dsimp only at h
  split at h
  · exact absurd h List.not_mem_nil
  · simp only [List.mem_singleton] at h
    rw [h]
  · simp only [List.mem_cons, List.not_mem_nil, or_false] at h
    rcases h with rfl | rfl <;> rfl
  · simp only [List.mem_cons, List.not_mem_nil, or_false] at h
    rcases h with rfl | rfl | rfl <;> rfl

theorem mem_putEdgeBy {e x : DiEdge} {l : List DiEdge} (h : x ∈ putEdgeBy e l) : x = e ∨ x ∈ l := by
  induction l with
  | nil => exact .inl (List.mem_singleton.mp h)
  | cons a l ih =>
    unfold putEdgeBy at h
    split at h
    · exact List.mem_cons.mp h
    · rcases List.mem_cons.mp h with rfl | k
      · exact .inr List.mem_cons_self
      · exact (ih k).imp_right (List.mem_cons_of_mem a)

theorem mem_foldl_putEdgeBy {x : DiEdge} (es l : List DiEdge) (h : x ∈ es.foldl (fun l e => putEdgeBy e l) l) :
    x ∈ es ∨ x ∈ l := by
  induction es generalizing l with
  | nil => exact .inr h
  | cons e es ih =>
    rcases ih (putEdgeBy e l) h with k | k
    · exact .inl (List.mem_cons_of_mem e k)
    · rcases mem_putEdgeBy k with rfl | k
      · exact .inl List.mem_cons_self
      · exact .inr k

theorem takeEdges_frameRead (es : List DiEdge) (s : State) (h : ∀ e ∈ es, e.input < 16) :
    frameRead (es.foldl takeEdge s) = frameRead s := by
  induction es generalizing s with
  | nil => rfl
  | cons e es ih =>
    exact (ih _ fun x m => h x (List.mem_cons_of_mem e m)).trans (takeEdge_tells s e (h e List.mem_cons_self)).read

/-- The changes that a frame reports, in their order, are those of the sixteen inputs. -/
theorem reportedEdges_input (s : State) (di chg1 chg2 chg3 first last : Nat) :
    ∀ e ∈ ((List.range 16).flatMap (diEdges s di chg1 chg2 chg3 first last)).foldl (fun l e => putEdgeBy e l) [],
      e.input < 16 := fun e m => by
  have listed := (mem_foldl_putEdgeBy _ _ m).resolve_right List.not_mem_nil
  obtain ⟨n, hn, he⟩ := List.mem_flatMap.mp listed
  rw [diEdges_input he]
  exact List.mem_range.mp hn

/-- A good frame gives every input its reported state, whichever way it is taken: the first told without reports, one with
the barrier up by its edges, one with the barrier lost by its states alone. -/
theorem fieldUpRx_completes (di chg1 chg2 chg3 first last level : Nat) (temp : Int) (s : State) :
    frameRead (fieldUpRx di chg1 chg2 chg3 first last level temp s) = (true, 0, s.fio.fsSafe, some s.fio.fsSeq, temp) ∧
      ∀ n, n < 16 → (diOf (fieldUpRx di chg1 chg2 chg3 first last level temp s) n).state = di.testBit n := by
  have head := fieldUpHead_frameRead level temp s
  unfold fieldUpRx
  extract_lets wasEver f a es b c
  have taken : frameRead c = frameRead a ∧ ∀ n, n < 16 → (diOf c n).state = di.testBit n := by
    have states := takeStates_reports di a
    unfold c
    split
    · have told : ∀ n, Tells n (takeStates di a) (noteDi (f - usT 1) (takeStates di a)) := fun n => noteDi_tells n _ _
      have recorded : ((List.range 16).foldl (fun s n => diRecord n false false (td1 s) s)
          (noteDi (f - usT 1) (takeStates di a))).fio = (noteDi (f - usT 1) (takeStates di a)).fio :=
        foldl_keeps State.fio _ _ _ fun s n => diRecord_fio n _ _ _ s
      exact ⟨(frameRead_of_fio recorded).trans ((told 0).read.trans states.1), fun n hn =>
        (((told n).trans (.of_fio recorded)).state).trans (states.2 n hn)⟩
    · split
      · have inputs := takeEdges_frameRead _ a (reportedEdges_input a di chg1 chg2 chg3 first last)
        have left := foldl_range_reports di (unreported f di) (unreported_reports f di) b
        exact ⟨left.1.trans inputs, left.2⟩
      · exact states
  split
  · exact ⟨taken.1.trans head, taken.2⟩
  · exact ⟨taken.1.trans head, taken.2⟩

theorem execFieldUpstreamRx_completes (di chg1 chg2 chg3 first last level : Nat) (temp : Int) (s : State)
    (hc : s.pw.convertersOn = true) : ∃ t, execFieldUpstreamRx di chg1 chg2 chg3 first last level temp s = .next t ∧
      t.fio.everUp = true ∧ t.fio.badRun = 0 ∧ t.fio.safeRep = s.fio.fsSafe ∧ t.fio.upSeq = some s.fio.fsSeq ∧
      t.fio.temp = temp ∧ ∀ n, n < 16 → (diOf t n).state = di.testBit n := by
  obtain ⟨read, states⟩ := fieldUpRx_completes di chg1 chg2 chg3 first last level temp s
  simp only [frameRead, Prod.mk.injEq] at read
  obtain ⟨ever, bad, safe, seq, warm⟩ := read
  exact ⟨_, if_pos hc, ever, bad, safe, seq, warm, states⟩

theorem execFieldUpstreamMissing_completes (s : State) (hc : s.pw.convertersOn = true) :
    ∃ t, execFieldUpstreamMissing s = .next t ∧ t.fio.upErr = satInc 32 s.fio.upErr ∧ t.fio.badRun = s.fio.badRun + 1 ∧
      t.fio.goodRun = 0 ∧ (s.fio.everUp = true → 2 ≤ s.fio.badRun → detOn t 0x0D 0 = true) := by
  refine ⟨_, if_neg (by simp [hc]), ?_⟩
  split
  next =>
    obtain ⟨err, bad, good⟩ := fieldLost_badFrames 1 { s with fio := { s.fio with
      upErr := satInc 32 s.fio.upErr, badRun := s.fio.badRun + 1, goodRun := 0, restorePend := false } } rfl
    exact ⟨err, bad, good, fun _ _ => fieldLost_detOn 1 _⟩
  next few => exact ⟨rfl, rfl, rfl, fun ever third => absurd ⟨ever, Nat.succ_le_succ third⟩ few⟩

theorem execFieldSelftestTimeout_completes (s : State) (hc : s.pw.convertersOn = true) (hu : s.fio.everUp = false) :
    ∃ t, execFieldSelftestTimeout s = .next t ∧ detOn t 0x0D 0 = true ∧ t.boot.failedTests = 8 :: s.boot.failedTests :=
  ⟨_, if_pos (by simp [hc, hu]), (detOn_of_hlt (submit_hlt _ _ _ _) 0x0D 0).trans (fieldLost_detOn 3 s),
    congrArg Boot.failedTests (submit_boot _ _ _ _)⟩

/-! Downstream: what the field side does with a frame. -/

/-- The configuration word of a frame changes the field side's words alone. -/
theorem fieldAdopt_eq (i v : Nat) (s : State) : ∃ seen cfg done, fieldAdopt i v s =
    { s with fio := { s.fio with cfgSeen := seen, cfg := cfg, cfgDone := done } } := by
  unfold fieldAdopt
  dsimp only
  split
  · exact ⟨_, _, _, rfl⟩
  · exact ⟨_, _, _, rfl⟩

/-- What the field side holds of the frames it received. -/
def sideRead (s : State) : Nat × Nat × Nat × Bool × Bool :=
  (s.fio.fsBad, s.fio.fsGood, s.fio.fsSeq, s.fio.fsBind, s.fio.fsSafe)

/-- A frame's commands taken by the outputs that no launch waits for. -/
def commandsTaken (ls : List FieldLaunch) (s : State) : State :=
  (List.range 8).foldl (fun s n =>
    let c := s.fio.sentCmd.getLsbD n
    if ls.any (·.dout == n) then s
    else updDo n (fun x => { x with cmd := c, inhibit := x.inhibit && c, shut := x.shut && c }) s) s

theorem commandsTaken_only (ls : List FieldLaunch) (s : State) : Only [.fio] s (commandsTaken ls s) :=
  Only.foldl _ _ _ s fun x n => Only.ite _ (Only.refl _ x) (updDo_only n _ x)

theorem commandsTaken_sideRead (ls : List FieldLaunch) (s : State) : sideRead (commandsTaken ls s) = sideRead s :=
  foldl_keeps sideRead _ _ s fun x n => by
    dsimp only
    split
    · rfl
    · rfl

theorem fieldDownRx_completes (s : State) : Only [.fio] s (fieldDownRx s) ∧ sideRead (fieldDownRx s) =
    (0, s.fio.fsGood + 1, s.fio.seq, s.fio.bindEn, !s.fio.released || (s.fio.fsSafe && decide (s.fio.fsGood = 0))) := by
  obtain ⟨seen, cfg, done, adopted⟩ := fieldAdopt_eq ((s.fio.cfgIdx + 31) % 32) s.fio.cfgData s
  have first : decide (s.fio.fsGood + 1 < 2) = decide (s.fio.fsGood = 0) := by simp
  unfold fieldDownRx
  dsimp only
  rw [adopted]
  split
  · exact ⟨(State.with_fio_only s _).trans (driveAll_only _), by rw [← first]; rfl⟩
  · refine ⟨(State.with_fio_only s _).trans ((commandsTaken_only _ _).trans (driveAll_only _)), ?_⟩
    rw [← first]
    exact commandsTaken_sideRead _ _

theorem execFieldDownstreamRx_completes (s : State) (hc : s.pw.convertersOn = true) (hi : injOn s 0x0D 0 = false) :
    ∃ t, execFieldDownstreamRx s = .next t ∧ Only [.fio] s t ∧ t.fio.fsBad = 0 ∧ t.fio.fsGood = s.fio.fsGood + 1 ∧
      t.fio.fsSeq = s.fio.seq ∧ t.fio.fsBind = s.fio.bindEn ∧
      t.fio.fsSafe = (!s.fio.released || (s.fio.fsSafe && decide (s.fio.fsGood = 0))) := by
  obtain ⟨only, read⟩ := fieldDownRx_completes s
  simp only [sideRead, Prod.mk.injEq] at read
  obtain ⟨bad, good, seq, bind, safe⟩ := read
  exact ⟨_, (if_neg (by simp [hc])).trans (if_neg (by simp [hi])), only, bad, good, seq, bind, safe⟩

/-- In SAFE an output that nothing holds off takes its safe value once a frame has released outputs; one of the trip class
is off (R417, log entry 34). -/
theorem drives_in_safe (s : State) (n : Nat) (hs : s.fio.fsSafe = true) (hc : s.pw.convertersOn = true)
    (hx : (doOf s n).shut = false) (hl : s.fio.lockout.getLsbD (doGroup n) = false) (hi : (doOf s n).inhibit = false) :
    drives s n = (s.fio.fsRel && (fsCfg s 16).testBit n && !fsTrip s n) := by
  simp [drives, hs, hc, hx, hl, hi]

/-- The third bad frame in succession: the field side in SAFE, with the pending launches dropped. -/
theorem fieldDownMissing_third (s : State) (h : 2 ≤ s.fio.fsBad) :
    (fieldDownMissing s).fio.fsSafe = true ∧ (fieldDownMissing s).fio.fsLaunch = [] ∧
      ∀ n, n < 8 → s.pw.convertersOn = true → (doOf s n).shut = false → s.fio.lockout.getLsbD (doGroup n) = false →
        (doOf s n).inhibit = false →
        (doOf (fieldDownMissing s) n).driven = (s.fio.fsRel && (fsCfg s 16).testBit n && !fsTrip s n) := by
  have third : 3 ≤ s.fio.fsBad + 1 := by omega
  have safe : (s.fio.fsSafe || decide (3 ≤ s.fio.fsBad + 1)) = true := by simp [third]
  refine ⟨safe, if_pos third, fun n hn hc hx hl hi => ?_⟩
  unfold fieldDownMissing
  rw [doOf_driveAll n _ hn]
  exact drives_in_safe _ n safe hc hx hl hi

theorem execFieldDownstreamMissing_completes (s : State) :
    ∃ t, execFieldDownstreamMissing s = .next t ∧ Only [.fio] s t ∧ t.fio.fsBad = s.fio.fsBad + 1 ∧ t.fio.fsGood = 0 ∧
      t.fio.sentCmd = s.fio.sentCmd ∧ (2 ≤ s.fio.fsBad → t.fio.fsSafe = true ∧ t.fio.fsLaunch = [] ∧
        ∀ n, n < 8 → s.pw.convertersOn = true → (doOf s n).shut = false → s.fio.lockout.getLsbD (doGroup n) = false →
          (doOf s n).inhibit = false →
          (doOf t n).driven = (s.fio.fsRel && (fsCfg s 16).testBit n && !fsTrip s n)) :=
  ⟨_, rfl, (State.with_fio_only s _).trans (driveAll_only _), rfl, rfl, rfl, fieldDownMissing_third s⟩

theorem execDoLaunchSwitch_completes (n : Nat) (l : FieldLaunch) (s : State) (hn : n < 8)
    (hl : s.fio.fsLaunch.find? (fun x => x.dout == n) = some l) : ∃ t, execDoLaunchSwitch n s = .next t ∧
      Only [.fio] s t ∧ (doOf t n).cmd = l.level ∧ t.fio.fsLaunch = s.fio.fsLaunch.filter (fun x => x.dout != n) := by
  unfold execDoLaunchSwitch
  rw [hl]
  refine ⟨_, rfl, (State.with_fio_only s _).trans ((updDo_only n _ _).trans (driveAll_only _)), ?_, rfl⟩
  rw [doOf_driveAll n _ hn, doOf_updDo n _ _ hn]

/-! A downstream frame starts. -/

theorem fieldCfgWord_of_img {s t : State} (h : t.img = s.img) (i : Nat) : fieldCfgWord t i = fieldCfgWord s i := by
  simp only [fieldCfgWord, doClass, pv_of_img h]

/-- What a frame that starts rests on: the sequence of frames and words, the images, the binding pad, the pair beside its
cells. -/
def frameBase (s : State) : Nat × Nat × Images × Bool × Pair :=
  (s.fio.seq, s.fio.cfgIdx, s.img, s.pads.bindOut, besideCells s)

/-- The barrier is up again: what the restoration does before it reports the inputs. -/
def barrierBack (s : State) : State :=
  noteDi (td1 s) (submit .field 0x6011 0 (clearDet 0x0D 0
    (refreshPads { s with fio := { s.fio with restorePend := false, up := true } })))

/-- An input that has changed while the barrier was lost is reported: its channel, its event, its tasks. -/
def restoredInput (t : Nat) (s : State) (n : Nat) : State :=
  let d := diOf s n
  let s := diRecord n false true t s
  if diState s n != d.preLoss && !d.frozen then
    let ev := pv s 0x0555 n 1 1 3
    let s := if (ev.testBit 0 && d.state) || (ev.testBit 1 && !d.state) then
        submit .field 0x6001 (n + 256 * b2n d.state + 512) s else s
    raiseTrig 1 n (if d.state then 1 else 2) t (td0 s) s
  else s

theorem fieldRestore_eq (s : State) (h : s.fio.restorePend = true) :
    fieldRestore s = (List.range 16).foldl (restoredInput (td1 s)) (barrierBack s) := if_neg (by simp [h])

theorem fieldRestore_of_none (s : State) (h : s.fio.restorePend = false) : fieldRestore s = s := if_pos (by simp [h])

theorem restoredInput_only (t : Nat) (s : State) (n : Nat) : Only [.dr, .le, .pr, .evr, .gr] s (restoredInput t s n) := by
  unfold restoredInput
  refine Only.trans_ite _ (diRecord_only _ _ _ _ s) ?_
  exact Only.trans (Only.ite _ ((submit_only _ _ _ _).mono (by decide)) (Only.refl _ _))
    ((raiseTrig_only _ _ _ _ _ _).mono (by decide))

theorem restoredInput_besideCells (t : Nat) (s : State) (n : Nat) :
    besideCells (restoredInput t s n) = besideCells s := by
  have recorded := diRecord_besideCells n false true t s
  unfold restoredInput
  dsimp only
  split
  · refine (besideCells_of_only (raiseTrig_only _ _ _ _ _ _) (by decide)).trans (Eq.trans ?_ recorded)
    exact besideCells_of_only (Only.ite _ (submit_only _ _ _ _) (Only.refl _ _)) (by decide)
  · exact recorded

theorem restoredInputs_only (t : Nat) (s : State) :
    Only [.dr, .le, .pr, .evr, .gr] s ((List.range 16).foldl (restoredInput t) s) :=
  Only.foldl _ _ _ s (restoredInput_only t)

theorem frameBase_of_only {ps : List Part} {s t : State} (h : Only ps s t) (hf : Part.fio ∉ ps) (hi : Part.img ∉ ps)
    (hp : Part.pads ∉ ps) (hc : besideCells t = besideCells s) : frameBase t = frameBase s := by
  have fio : t.fio = s.fio := h.same .fio hf
  have img : t.img = s.img := h.same .img hi
  have pads : t.pads = s.pads := h.same .pads hp
  rw [frameBase, fio, img, pads, hc, frameBase]

theorem noteDi_frameBase (t1 : Nat) (s : State) : frameBase (noteDi t1 s) = frameBase s := by
  unfold noteDi
  dsimp only
  repeat' split
  all_goals rfl

theorem submit_frameBase (b : Block) (c v : Nat) (s : State) : frameBase (submit b c v s) = frameBase s :=
  frameBase_of_only (ps := [.evr]) (submit_only b c v s) (by decide) (by decide) (by decide)
    (besideCells_of_only (submit_only b c v s) (by decide))

theorem barrierBack_frameBase (s : State) : frameBase (barrierBack s) = frameBase s :=
  (noteDi_frameBase _ _).trans ((submit_frameBase _ _ _ _).trans rfl)

theorem fieldRestore_frameBase (s : State) : frameBase (fieldRestore s) = frameBase s := by
  cases h : s.fio.restorePend
  case false => rw [fieldRestore_of_none s h]
  case true =>
    rw [fieldRestore_eq s h]
    refine Eq.trans ?_ (barrierBack_frameBase s)
    exact frameBase_of_only (restoredInputs_only _ _) (by decide) (by decide) (by decide)
      (foldl_keeps besideCells _ _ _ (restoredInput_besideCells _))

theorem noteDi_marks (t1 : Nat) (s : State) : (noteDi t1 s).fio.up = s.fio.up ∧
    (noteDi t1 s).fio.restorePend = s.fio.restorePend ∧ (noteDi t1 s).hlt = s.hlt :=
  ⟨(noteDi_sameInputs t1 s).2, (congrArg Field.restorePend (noteDi_besideInputs t1 s) :),
    (noteDi_only t1 s).same .hlt (by decide)⟩

/-- A restoration puts the barrier up and takes its detector down (R419). -/
theorem fieldRestore_restores (s : State) (h : s.fio.restorePend = true) : (fieldRestore s).fio.up = true ∧
    (fieldRestore s).fio.restorePend = false ∧ detOn (fieldRestore s) 0x0D 0 = false := by
  rw [fieldRestore_eq s h]
  have reported := restoredInputs_only (td1 s) (barrierBack s)
  have fio : State.fio _ = _ := reported.same .fio (by decide)
  obtain ⟨up, pend, hlt⟩ := noteDi_marks (td1 s) (submit .field 0x6011 0 (clearDet 0x0D 0
    (refreshPads { s with fio := { s.fio with restorePend := false, up := true } })))
  rw [submit_fio, clearDet_fio] at up pend
  rw [fio]
  refine ⟨up, pend, ?_⟩
  exact ((detOn_of_hlt (reported.same .hlt (by decide)) 0x0D 0).trans (detOn_of_hlt (hlt.trans (submit_hlt _ _ _ _)) 0x0D 0)).trans
    (clearDet_detOn 0x0D 0 _)

/-- The launches that the frame starting now carries, and those of the same output and offset, are handed over (R162). -/
def launchesHanded (s : State) : State :=
  let ls := frameLaunches s
  let go := carried ls
  (ls.filter (fun x => go.any (fun y => y.2.dout == x.2.dout && y.2.offset == x.2.offset))).foldl
    (fun s x => updLaunch x.1.num (fun e => { e with handed := true }) s) s

theorem launchesHanded_only (s : State) : Only [.tu] s (launchesHanded s) :=
  Only.foldl _ _ _ s fun _ _ => updLaunch_only _ _ _

/-- A frame that starts: the launches it carries are marked on the restored state, then its header and words are set. -/
theorem fieldFrameStart_sends (s : State) (hc : s.pw.convertersOn = true) : ∃ b, Only [.tu] (fieldRestore s) b ∧
    (fieldFrameStart s).fio.seq = (b.fio.seq + 1) % 256 ∧ (fieldFrameStart s).fio.cfgIdx = (b.fio.cfgIdx + 1) % 32 ∧
    (fieldFrameStart s).fio.cfgData = fieldCfgWord b b.fio.cfgIdx ∧ (fieldFrameStart s).fio.bindEn = b.pads.bindOut ∧
    (fieldFrameStart s).pr.bindDrop = false ∧ (b.pr.bindDrop = true → (fieldFrameStart s).pads.bindOut = false) ∧
    (fieldFrameStart s).fio.up = b.fio.up ∧ (fieldFrameStart s).fio.restorePend = b.fio.restorePend ∧
    (fieldFrameStart s).hlt = b.hlt := by
  unfold fieldFrameStart
  rw [if_neg (by simp [hc])]
  exact ⟨launchesHanded (fieldRestore s), launchesHanded_only _, rfl, rfl, rfl, rfl, rfl,
    fun h => congrArg Pads.bindOut (if_pos h), rfl, rfl, rfl⟩

theorem execFieldFrameStart_completes (s : State) (hc : s.pw.convertersOn = true)
    (hm : atMultiple 8 s.fio.frameIdx s = true) : ∃ t, execFieldFrameStart s = .next t ∧
      t.fio.seq = (s.fio.seq + 1) % 256 ∧ t.fio.cfgIdx = (s.fio.cfgIdx + 1) % 32 ∧
      t.fio.cfgData = fieldCfgWord s s.fio.cfgIdx ∧ t.fio.bindEn = s.pads.bindOut ∧ t.pr.bindDrop = false ∧
      (s.pr.bindDrop = true → t.pads.bindOut = false) ∧
      (s.fio.restorePend = true → t.fio.up = true ∧ t.fio.restorePend = false ∧ detOn t 0x0D 0 = false) := by
  obtain ⟨b, launched, seq, idx, word, bind, held, drops, up, pend, hlt⟩ := fieldFrameStart_sends s hc
  have base : frameBase b = frameBase s := (frameBase_of_only launched (by decide) (by decide) (by decide)
    (besideCells_of_only launched (by decide))).trans (fieldRestore_frameBase s)
  simp only [frameBase, Prod.mk.injEq] at base
  obtain ⟨sameSeq, sameIdx, img, bindOut, cells⟩ := base
  have drop : b.pr.bindDrop = s.pr.bindDrop := (congrArg Pair.bindDrop cells :)
  have fio : b.fio = (fieldRestore s).fio := launched.same .fio (by decide)
  refine ⟨_, if_pos hm, by rw [seq, sameSeq], by rw [idx, sameIdx], by rw [word, fieldCfgWord_of_img img, sameIdx],
    by rw [bind, bindOut], held, fun h => drops (drop.trans h), fun h => ?_⟩
  obtain ⟨isUp, done, cleared⟩ := fieldRestore_restores s h
  refine ⟨by rw [up, fio, isUp], by rw [pend, fio, done], ?_⟩
  exact (detOn_of_hlt (hlt.trans (launched.same .hlt (by decide))) 0x0D 0).trans cleared

/-- Settles O39, row by row: the frame started on the restored state, the upstream frame by `fieldUpRx_completes`, the field
side by `sideRead`. -/
theorem fieldBarrierRowsComplete : Obligations.FieldBarrierRowsComplete :=
  ⟨execFieldFrameStart_completes, execFieldUpstreamRx_completes, execFieldUpstreamMissing_completes,
    execFieldSelftestTimeout_completes, execFieldDownstreamRx_completes, execFieldDownstreamMissing_completes,
    execDoLaunchSwitch_completes⟩

end Sys2Proof.Machine
end

section
/-! PROOFS. Remote I/O (R392 to R407): the stations' registers, what a driven image rests on, then the rows. -/

namespace Sys2Proof.Machine
open Sys2Proof

/-- A fold over some numbers brings each of them to what its own step gives it, where a step leaves the others. -/
theorem foldl_settles {σ : Type} (inv : σ → Prop) (good : Nat → σ → Prop) (f : σ → Nat → σ) (l : List Nat) (s : σ)
    (hinv : ∀ s n, inv s → inv (f s n)) (hgood : ∀ s n, n ∈ l → inv s → good n (f s n))
    (hkeep : ∀ s n m, m ≠ n → good m s → good m (f s n)) (h : inv s) :
    ∀ n, n ∈ l ∨ good n s → good n (l.foldl f s) := by
  induction l generalizing s with
  | nil => exact fun n k => k.resolve_left List.not_mem_nil
  | cons a l ih =>
    refine fun n k => ih (f s a) (fun s n m => hgood s n (List.mem_cons_of_mem a m)) (hinv s a h) n ?_
    by_cases e : n = a
    · subst e
      exact .inr (hgood s n List.mem_cons_self h)
    · exact k.imp (fun m => (List.mem_cons.mp m).resolve_left e) (hkeep s a n e)

/-! The stations. -/

theorem stOf_updSt (k : Nat) (f : Station → Station) (s : State) (h : k < 32) : stOf (updSt k f s) k = f (stOf s k) :=
  putAt_getD_same 32 s.rio.st k _ _ h

theorem stOf_updSt_ne (k m : Nat) (f : Station → Station) (s : State) (h : m ≠ k) : stOf (updSt k f s) m = stOf s m :=
  putAt_getD_ne 32 s.rio.st k m _ h

/-- A station's register that the change of a station leaves. -/
theorem stOf_updSt_keeps {β : Type} (g : Station → β) (k m : Nat) (f : Station → Station) (s : State)
    (h : ∀ x, g (f x) = g x) : g (stOf (updSt k f s) m) = g (stOf s m) := by
  by_cases e : m = k
  · subst e
    by_cases l : m < 32
    · rw [stOf_updSt m f s l, h]
    · show g ((putAt 32 s.rio.st m (f (stOf s m))).getD m default) = _
      rw [putAt, if_neg l]
      rfl
  · rw [stOf_updSt_ne k m f s e]

theorem stOf_of_rio {s t : State} (h : t.rio = s.rio) (k : Nat) : stOf t k = stOf s k := by rw [stOf, h, stOf]

theorem updSt_only (k : Nat) (f : Station → Station) (s : State) : Only [.rio] s (updSt k f s) := State.with_rio_only s _

theorem station_lt {s : State} {k : Nat} (h : k ∈ stations s) : k < 32 := by
  have listed := List.mem_range.mp (List.mem_filter.mp h).1
  split at listed
  · omega
  · exact listed

/-- What the units outside remote I/O give a driven image: the ordering code, the images, the flush, the process channels and the engine but its
I words. -/
def outView (s : State) : State :=
  { State.reset with code := s.code, img := s.img, fl := s.fl, upc := s.upc, le := { s.le with iw := [] } }

theorem stImage_outView (s : State) (k : Nat) : stImage s k = stImage (outView s) k := rfl

theorem lossImage_outView (s : State) (k : Nat) : lossImage s k = lossImage (outView s) k := rfl

theorem stations_outView (s : State) : stations s = stations (outView s) := rfl

theorem stImage_of_outView {s t : State} (h : outView t = outView s) (k : Nat) : stImage t k = stImage s k := by
  rw [stImage_outView, h, ← stImage_outView]

theorem lossImage_of_outView {s t : State} (h : outView t = outView s) (k : Nat) : lossImage t k = lossImage s k := by
  rw [lossImage_outView, h, ← lossImage_outView]

theorem stations_of_outView {s t : State} (h : outView t = outView s) : stations t = stations s := by
  rw [stations_outView, h, ← stations_outView]

theorem outView_of_only {ps : List Part} {s t : State} (h : Only ps s t) (hc : Part.code ∉ ps) (hi : Part.img ∉ ps)
    (hf : Part.fl ∉ ps) (hu : Part.upc ∉ ps) (hl : Part.le ∉ ps) : outView t = outView s := by
  have code : t.code = s.code := h.same .code hc
  have img : t.img = s.img := h.same .img hi
  have fl : t.fl = s.fl := h.same .fl hf
  have upc : t.upc = s.upc := h.same .upc hu
  have le : t.le = s.le := h.same .le hl
  rw [outView, code, img, fl, upc, le, outView]

/-! Native frames (R392 to R402). -/

/-- A station beside its path delay. -/
def besideTrips (x : Station) : Station := { x with trips := [], delayHigh := false }

/-- The round trip changes the station's path delay alone. -/
theorem stTrip_changes (k rxSeq tx rx : Nat) (s : State) (h : k < 32) :
    Only [.rio] s (stTrip k rxSeq tx rx s) ∧ (stTrip k rxSeq tx rx s).rio.seq = s.rio.seq ∧
      besideTrips (stOf (stTrip k rxSeq tx rx s) k) = besideTrips (stOf s k) := by
  unfold stTrip
  split
  · exact ⟨Only.refl _ s, rfl, rfl⟩
  · refine ⟨(updSt_only k _ s).trans (updSt_only k _ _), rfl, ?_⟩
    rw [stOf_updSt k _ _ h, stOf_updSt k _ _ h]
    rfl

theorem usesAgreed_of_pr {s t : State} (h : t.pr = s.pr) : usesAgreed t = usesAgreed s := by
  rw [usesAgreed, h, usesAgreed]

theorem watermark_of_img {s t : State} (h : t.img = s.img) : watermark t = watermark s := by rw [watermark, h, watermark]

theorem execRioUpstreamRx_completes (k flags seq rxSeq tx rx : Nat) (mark data : List Byte) (s : State)
    (hm : rioMode s = 1) (hk : (stations s).contains k = true) (hl : (s.net.port.getD 2 default).link = true) :
    (usesAgreed s = false → (stOf s k).used ≠ some seq → seq = wrapInc 32 s.rio.seq →
      ∃ t, execRioUpstreamRx k flags seq rxSeq mark tx rx data true s = .next t ∧ Only [.rio, .pr] s t ∧
        (stOf t k).used = some seq ∧ (stOf t k).held = data ∧ (stOf t k).flags = flags % 64 ∧
        (stOf t k).heldOk = (flags % 4 == 3 && mark == watermark s)) ∧
    (usesAgreed s = false → (stOf s k).used ≠ some seq → seq ≠ wrapInc 32 s.rio.seq →
      ∃ t, execRioUpstreamRx k flags seq rxSeq mark tx rx data true s = .next t ∧ Only [.rio] s t ∧
        (stOf t k).late = satInc 32 (stOf s k).late ∧ (stOf t k).held = (stOf s k).held) ∧
    (usesAgreed s = true →
      ∃ t, execRioUpstreamRx k flags seq rxSeq mark tx rx data true s = .next t ∧ Only [.rio] s t ∧
        (stOf t k).own = some (seq, data) ∧ (stOf t k).held = (stOf s k).held) := by
  have listed := station_lt (List.contains_iff_mem.mp hk)
  obtain ⟨only, hseq, now⟩ := stTrip_changes k rxSeq tx rx s listed
  have agreed := usesAgreed_of_pr (only.same .pr (by decide))
  have mine : execRioUpstreamRx k flags seq rxSeq mark tx rx data true s = _ := if_neg (by rw [hm, hk, hl]; decide)
  have used : (stOf (stTrip k rxSeq tx rx s) k).used = (stOf s k).used := (congrArg Station.used now :)
  have held : (stOf (stTrip k rxSeq tx rx s) k).held = (stOf s k).held := (congrArg Station.held now :)
  have late : (stOf (stTrip k rxSeq tx rx s) k).late = (stOf s k).late := (congrArg Station.late now :)
  refine ⟨fun ha hu hq => ?_, fun ha hu hq => ?_, fun ha => ?_⟩
  · refine ⟨_, mine.trans ((if_neg (by simp [agreed, ha])).trans ((if_neg (by rw [used]; exact hu)).trans
      (if_pos (by rw [hseq]; exact hq)))), ?_, ?_⟩
    · exact (only.seq ((sendAgree_only _ _ _ _).seq (updSt_only _ _ _))).mono (by decide)
    · rw [stTake, stOf_updSt k _ _ listed, watermark_of_img (only.same .img (by decide))]
      exact ⟨rfl, rfl, rfl, rfl⟩
  · refine ⟨_, mine.trans ((if_neg (by simp [agreed, ha])).trans ((if_neg (by rw [used]; exact hu)).trans
      (if_neg (by rw [hseq]; exact hq)))), only.trans (updSt_only _ _ _), ?_⟩
    rw [stOf_updSt k _ _ listed, ← late, ← held]
    exact ⟨rfl, rfl⟩
  · refine ⟨_, mine.trans (if_pos (agreed.trans ha)), ?_, ?_⟩
    · exact (only.trans (updSt_only _ _ _)).trans (Only.ite _ (State.with_rio_only _ _) (Only.refl _ _))
    · have kept : ∀ (c : Bool) (a : State), (stOf (if c then { a with rio := { a.rio with xchk := satInc 32 a.rio.xchk } }
          else a) k) = stOf a k := fun c a => by cases c <;> rfl
      rw [kept, stOf_updSt k _ _ listed, ← held]
      exact ⟨rfl, rfl⟩

/-- A downstream frame is the station's output image, or its loss image when it was not valid in an earlier cycle. -/
def SentDown (s : State) (k : Nat) (p : State × Nat) : Prop :=
  (stOf p.1 k).sent = (if (stOf s k).cyclic then stImage s k else lossImage s k) ∧
    (stOf p.1 k).sentHdr.1 = (if (stOf s k).cyclic then 1 else 3)

/-- While the frames go out, what they carry stands. -/
def SendsFrom (s : State) (p : State × Nat) : Prop :=
  outView p.1 = outView s ∧ ∀ k, (stOf p.1 k).cyclic = (stOf s k).cyclic

/-- One frame writes its station's record of it and goes to the port. -/
theorem stSend_eq (stale : Bool) (p : State × Nat) (k : Nat) : ∃ f : Station → Station, ∃ mask ids bytes,
    (stSend stale p k).1 = sendFrame 3 mask ids [] bytes (updSt k f p.1) ∧ (∀ x, (f x).cyclic = x.cyclic) ∧
    ∀ x, (f x).sent = (if (stOf p.1 k).cyclic then stImage p.1 k else lossImage p.1 k) ∧
      (f x).sentHdr.1 = (if (stOf p.1 k).cyclic then 1 else 3) :=
  ⟨_, _, _, _, rfl, fun _ => rfl, fun _ => ⟨rfl, rfl⟩⟩

theorem stSend_only (stale : Bool) (p : State × Nat) (k : Nat) : Only [.rio, .net] p.1 (stSend stale p k).1 := by
  obtain ⟨f, mask, ids, bytes, sent, -, -⟩ := stSend_eq stale p k
  rw [sent]
  exact (updSt_only _ _ _).seq (sendFrame_only _ _ _ _ _ _)

theorem stOf_sendFrame (kind mask : Nat) (ids vals : List Nat) (bytes : List Byte) (s : State) (k : Nat) :
    stOf (sendFrame kind mask ids vals bytes s) k = stOf s k :=
  stOf_of_rio ((sendFrame_only _ _ _ _ _ s).same .rio (by decide)) k

theorem stSend_sendsFrom (stale : Bool) (s : State) (p : State × Nat) (k : Nat) (h : SendsFrom s p) :
    SendsFrom s (stSend stale p k) := by
  refine ⟨(outView_of_only (stSend_only stale p k) (by decide) (by decide) (by decide) (by decide) (by decide)).trans h.1,
    fun m => ?_⟩
  obtain ⟨f, mask, ids, bytes, sent, cyc, -⟩ := stSend_eq stale p k
  rw [sent, stOf_sendFrame, stOf_updSt_keeps Station.cyclic k m f _ cyc, h.2 m]

theorem stSend_sent (stale : Bool) (s : State) (p : State × Nat) (k : Nat) (hk : k < 32) (h : SendsFrom s p) :
    SentDown s k (stSend stale p k) := by
  obtain ⟨f, mask, ids, bytes, sent, -, carries⟩ := stSend_eq stale p k
  obtain ⟨view, cyc⟩ := h
  rw [SentDown, sent, stOf_sendFrame, stOf_updSt k f _ hk, (carries _).1, (carries _).2, cyc k,
    stImage_of_outView view, lossImage_of_outView view]
  exact ⟨rfl, rfl⟩

theorem stSend_sent_ne (stale : Bool) (s : State) (p : State × Nat) (k m : Nat) (hm : m ≠ k) (h : SentDown s m p) :
    SentDown s m (stSend stale p k) := by
  obtain ⟨f, mask, ids, bytes, sent, -, -⟩ := stSend_eq stale p k
  rw [SentDown, sent, stOf_sendFrame, stOf_updSt_ne k m f _ hm]
  exact h

/-- One frame to every station. -/
theorem stSends_complete (stale : Bool) (s a : State) (h : SendsFrom s (a, 0)) :
    Only [.rio, .net] a ((stations s).foldl (stSend stale) (a, 0)).1 ∧
      ∀ k, k ∈ stations s → SentDown s k ((stations s).foldl (stSend stale) (a, 0)) := by
  have only : ∀ (l : List Nat) (p : State × Nat), Only [.rio, .net] p.1 (l.foldl (stSend stale) p).1 := fun l => by
    induction l with
    | nil => exact fun p => Only.refl _ p.1
    | cons k l ih => exact fun p => (stSend_only stale p k).trans (ih _)
  have settles := foldl_settles (SendsFrom s) (SentDown s) (stSend stale) (stations s) (a, 0)
    (stSend_sendsFrom stale s) (fun p k m => stSend_sent stale s p k (station_lt m)) (stSend_sent_ne stale s) h
  exact ⟨only _ _, fun k m => settles k (.inl m)⟩

theorem execRioDownstreamSend_completes (s : State) (hm : rioMode s = 1) (hr : running s = true) (ht : mayTx s = true)
    (hs : rioSent s = false) (hd : gridInstant s (s.rio.relT1 + rioSend s) ≤ td1 s) :
    ∃ t, execRioDownstreamSend s = .next t ∧ Only [.rio, .net, .evr] s t ∧ ∀ k, k ∈ stations s →
      (stOf t k).sent = (if (stOf s k).cyclic then stImage s k else lossImage s k) ∧
      (stOf t k).sentHdr.1 = (if (stOf s k).cyclic then 1 else 3) := by
  have due : ¬ td1 s < gridInstant s (s.rio.relT1 + rioSend s) := by omega
  have now : execRioDownstreamSend s = _ := if_neg (by simp [hm, hr, ht, hs, due])
  refine ⟨_, now, ?_⟩
  split
  next stale =>
    have told : Only [.rio, .evr] s (submit .rio 0xA104 (s.rio.seq % 65536)
        { s with rio := { s.rio with staleSec := some (secOf (td0 s)) } }) :=
      (State.with_rio_only s _).seq (submit_only _ _ _ _)
    have view : SendsFrom s (submit .rio 0xA104 (s.rio.seq % 65536)
        { s with rio := { s.rio with staleSec := some (secOf (td0 s)) } }, 0) :=
      ⟨outView_of_only told (by decide) (by decide) (by decide) (by decide) (by decide), fun k => by
        show (stOf (submit _ _ _ _) k).cyclic = _
        rw [stOf_of_rio (submit_rio _ _ _ _)]
        rfl⟩
    have all := stSends_complete (s.le.mode == .run && !s.rio.ended) s _ view
    have same : stations (submit .rio 0xA104 (s.rio.seq % 65536)
        { s with rio := { s.rio with staleSec := some (secOf (td0 s)) } }) = stations s := stations_of_outView view.1
    rw [same]
    exact ⟨(told.seq all.1).mono (by decide), all.2⟩
  next =>
    have all := stSends_complete (s.le.mode == .run && !s.rio.ended) s s ⟨rfl, fun _ => rfl⟩
    exact ⟨all.1.mono (by decide), all.2⟩

/-! The Ducia ring (R404, R405, R407). -/

theorem putValid_only (s : State) : Only [.le] s (putValid s) := State.with_le_only s _

theorem putValid_outView (s : State) : outView (putValid s) = outView s := rfl

theorem stMiss_only (k : Nat) (s : State) : Only [.rio, .evr, .hlt, .le] s (stMiss k s) := by
  have missed := fun f (a : State) => (updSt_only k f a).mono (qs := [.rio, .evr, .hlt, .le]) (by decide)
  refine Only.trans_ite _ (missed _ s) ?_
  exact (((updSt_only _ _ _).seq (fireDet_only _ _ _ _)).seq (putValid_only _)).mono (by decide)

theorem fireDet_outView (d i v : Nat) (s : State) : outView (fireDet d i v s) = outView s :=
  outView_of_only (fireDet_only d i v s) (by decide) (by decide) (by decide) (by decide) (by decide)

theorem stMiss_outView (k : Nat) (s : State) : outView (stMiss k s) = outView s := by
  unfold stMiss
  dsimp only
  split
  · exact (putValid_outView _).trans (fireDet_outView _ _ _ _)
  · rfl

/-- A station that gave nothing in the cycle before: the partner learns it, then it has missed. -/
theorem ringMiss_changes (k : Nat) (s : State) :
    Only [.rio, .evr, .hlt, .le, .pr] s (stMiss k (sendAgree 3 s.acq.wave [6, k] s)) ∧
      outView (stMiss k (sendAgree 3 s.acq.wave [6, k] s)) = outView s :=
  ⟨((sendAgree_only _ _ _ s).seq (stMiss_only k _)).mono (by decide), (stMiss_outView k _).trans
    (outView_of_only (sendAgree_only _ _ _ s) (by decide) (by decide) (by decide) (by decide) (by decide))⟩

theorem ringMisses_change (l : List Nat) (s : State) :
    Only [.rio, .evr, .hlt, .le, .pr] s (l.foldl (fun s k => stMiss k (sendAgree 3 s.acq.wave [6, k] s)) s) ∧
      outView (l.foldl (fun s k => stMiss k (sendAgree 3 s.acq.wave [6, k] s)) s) = outView s :=
  ⟨Only.foldl _ _ l s fun s k => (ringMiss_changes k s).1, foldl_keeps outView _ l s fun s k => (ringMiss_changes k s).2⟩

/-- A station's image leaves on the ring. -/
def ringSend (s : State) (k : Nat) : State :=
  sendFrame 3 4 [k] [] ((stImage s k).take 64) (updSt k (fun x => { x with sent := (stImage s k).take 64, sentHdr := (0, 0) }) s)

theorem ringSend_only (s : State) (k : Nat) : Only [.rio, .net] s (ringSend s k) :=
  (updSt_only k _ s).seq (sendFrame_only _ _ _ _ _ _)

theorem ringSend_outView (s : State) (k : Nat) : outView (ringSend s k) = outView s :=
  outView_of_only (ringSend_only s k) (by decide) (by decide) (by decide) (by decide) (by decide)

/-- The count and the instant of the ring's cycles. -/
def ringClock (s : State) : Nat × Nat := (s.rio.ringCycles, s.rio.ringTd0)

theorem ringSend_ringClock (s : State) (k : Nat) : ringClock (ringSend s k) = ringClock s := by
  have rio : (ringSend s k).rio = (updSt k _ s).rio := (sendFrame_only _ _ _ _ _ _).same .rio (by decide)
  rw [ringClock, rio]
  rfl

/-- A cycle of the ring sends every station its image. -/
theorem ringSends_complete (s : State) : Only [.rio, .net] s ((stations s).foldl ringSend s) ∧
    ringClock ((stations s).foldl ringSend s) = ringClock s ∧
    ∀ k, k ∈ stations s → (stOf ((stations s).foldl ringSend s) k).sent = (stImage s k).take 64 := by
  have settles := foldl_settles (fun a => outView a = outView s) (fun k a => (stOf a k).sent = (stImage s k).take 64)
    ringSend (stations s) s (fun a k h => (ringSend_outView a k).trans h)
    (fun a k m h => by
      rw [ringSend, stOf_sendFrame, stOf_updSt k _ _ (station_lt m), stImage_of_outView h])
    (fun a k m hm h => by rw [ringSend, stOf_sendFrame, stOf_updSt_ne k m _ _ hm, h]) rfl
  exact ⟨Only.foldl _ _ _ s ringSend_only, foldl_keeps ringClock _ _ s ringSend_ringClock, fun k m => settles k (.inl m)⟩

theorem execDuciaRingCycle_completes (s : State) (hm : rioMode s = 2) (hr : running s = true) (hg : ringMaster s = true)
    (ht : mayTx s = true) (hd : due s s.rio.ringTd0 (msT 2) = true) :
    ∃ t, execDuciaRingCycle s = .next t ∧ Only [.rio, .net, .evr, .hlt, .le, .pr] s t ∧
      t.rio.ringCycles = s.rio.ringCycles + 1 ∧ t.rio.ringTd0 = td0 s ∧
      ∀ k, k ∈ stations s → (stOf t k).sent = (stImage s k).take 64 := by
  have now : execDuciaRingCycle s = _ := (if_neg (by rw [hm, hr, hd]; decide)).trans (if_neg (by rw [hg, ht]; decide))
  obtain ⟨missed, view⟩ := ringMisses_change (if s.rio.ringCycles = 0 then []
    else (stations s).filter (fun k => (stOf s k).used != some s.rio.ringCycles || injOn s 0x25 k)) s
  refine ⟨_, now, ?_⟩
  dsimp only
  generalize List.foldl _ s _ = a at missed view ⊢
  have started : outView { a with rio := { a.rio with ringCycles := s.rio.ringCycles + 1, ringTd0 := td0 a } } = outView s := view
  have clock : td0 a = td0 s := by
    have tu : a.tu = s.tu := missed.same .tu (by decide)
    rw [td0, tu, td0]
  obtain ⟨only, ticks, images⟩ := ringSends_complete
    { a with rio := { a.rio with ringCycles := s.rio.ringCycles + 1, ringTd0 := td0 a } }
  simp only [ringClock, Prod.mk.injEq] at ticks
  obtain ⟨count, instant⟩ := ticks
  refine ⟨((missed.seq (State.with_rio_only _ _)).seq only).mono (by decide), count, instant.trans clock, fun k m => ?_⟩
  rw [← stImage_of_outView started]
  exact images k (by rw [stations_of_outView started]; exact m)

/-- A station's input buffer, and its run of missed cycles. -/
def bufferOf (x : Station) : Option Nat × List Byte × Nat := (x.used, x.held, x.missRun)

/-- A good frame ends the run of missed cycles and leaves the buffer. -/
theorem stGood_buffer (k : Nat) (bs : List Byte) (s : State) (h : k < 32) :
    bufferOf (stOf (stGood k bs s) k) = ((stOf s k).used, (stOf s k).held, 0) := by
  have taken : ∀ f : Station → Station, (∀ x, bufferOf (f x) = (x.used, x.held, 0)) →
      bufferOf (stOf (putInputs k bs (updSt k f s)) k) = ((stOf s k).used, (stOf s k).held, 0) := fun f hf => by
    rw [stOf_of_rio (t := putInputs k bs (updSt k f s)) (s := updSt k f s) rfl, stOf_updSt k f s h, hf]
  have told : ∀ a : State, stOf (putValid (submit .rio 0xA102 k (clearDet 0x25 k a))) k = stOf a k := fun a =>
    stOf_of_rio ((submit_rio _ _ _ _).trans (clearDet_rio _ _ _)) k
  unfold stGood
  dsimp only
  split
  · rw [told, stOf_updSt_keeps bufferOf k k _ _ fun _ => by rfl]
    exact taken _ fun _ => rfl
  · exact taken _ fun _ => rfl

/-- A whole buffer handed over in the present cycle. -/
def ringBuffer (data : List Byte) (s : State) (x : Station) : Station :=
  { x with ring := ([], data), ringAt := td1 s, used := some s.rio.ringCycles, held := data, heldOk := true }

theorem execDuciaRingFrameRx_completes (k : Nat) (data : List Byte) (s : State) (hm : rioMode s = 2)
    (hk : (stations s).contains k = true) (ha : usesAgreed s = false) :
    ((stOf s k).used ≠ some s.rio.ringCycles →
      ∃ t, execDuciaRingFrameRx k data true s = .next t ∧ (stOf t k).used = some s.rio.ringCycles ∧
        (stOf t k).held = data.take 64 ∧ (stOf t k).missRun = 0) ∧
    (∃ t, execDuciaRingFrameRx k data false s = .next t ∧ Only [.rio] s t ∧
      (stOf t k).ring = (data.take 64, (stOf s k).ring.2) ∧ (stOf t k).held = (stOf s k).held) := by
  have listed := station_lt (List.contains_iff_mem.mp hk)
  have mine : ∀ good, execDuciaRingFrameRx k data good s = _ := fun good => if_neg (by rw [hm, hk, ha]; decide)
  refine ⟨fun hu => ⟨_, (mine true).trans (if_pos ⟨rfl, hu⟩), ?_⟩, _, (mine false).trans (if_neg (by simp)),
    updSt_only _ _ s, ?_⟩
  · have same : (sendAgree 3 s.acq.wave (2 :: k :: (data.take 64).map (·.toNat)) s).rio = s.rio :=
      (sendAgree_only _ _ _ s).same .rio (by decide)
    have buffer := stGood_buffer k (data.take 64) (updSt k (ringBuffer (data.take 64)
      (sendAgree 3 s.acq.wave (2 :: k :: (data.take 64).map (·.toNat)) s))
      (sendAgree 3 s.acq.wave (2 :: k :: (data.take 64).map (·.toNat)) s)) listed
    rw [stOf_updSt k _ _ listed, ringBuffer, same] at buffer
    simp only [bufferOf, Prod.mk.injEq] at buffer
    exact buffer
  · rw [stOf_updSt k _ s listed]
    exact ⟨rfl, rfl⟩

/-- Settles O44: a frame changes its own station only, and what is sent rests on `outView`, which no frame changes. -/
theorem remoteIoRowsComplete : Obligations.RemoteIoRowsComplete :=
  ⟨execRioUpstreamRx_completes, execRioDownstreamSend_completes, execDuciaRingCycle_completes,
    execDuciaRingFrameRx_completes⟩

end Sys2Proof.Machine
end

section
/-! PROOFS. The process barrier and the sequencer (R441 to R462): the channels and the registers beside them, then the rows. -/

namespace Sys2Proof.Machine
open Sys2Proof

/-! The channels. -/

theorem procChan_updChan (n : Nat) (f : ProcChan → ProcChan) (s : State) (h : n < 4) :
    procChan (updChan n f s) n = f (procChan s n) := putAt_getD_same 4 s.upc.ch n _ _ h

theorem procChan_of_upc {s t : State} (h : t.upc = s.upc) (n : Nat) : procChan t n = procChan s n := by
  rw [procChan, h, procChan]

theorem updChan_only (n : Nat) (f : ProcChan → ProcChan) (s : State) : Only [.upc] s (updChan n f s) :=
  State.with_upc_only s _

theorem updEntry_only (e : Nat) (f : SeqEntry → SeqEntry) (s : State) : Only [.upc] s (updEntry e f s) :=
  State.with_upc_only s _

/-- The registers of the process unit beside its channels. -/
def besideChans (s : State) : Upc := { s.upc with ch := [] }

theorem besideChans_of_upc {s t : State} (h : t.upc = s.upc) : besideChans t = besideChans s := by
  rw [besideChans, h, besideChans]

theorem up_of_besideChans {s t : State} (h : besideChans t = besideChans s) : t.upc.up = s.upc.up := (congrArg Upc.up h :)

theorem putProcWords_changes (n : Nat) (y : Word) (s : State) :
    Only [.upc, .pr, .le] s (putProcWords n y s) ∧ besideChans (putProcWords n y s) = besideChans s := by
  have told := fun w v (a : State) => sendAgree_only 4 w v a
  have upc : ∀ (c : Prop) [Decidable c] (a : State) (l : Logic), (if c then a else { a with le := l }).upc = a.upc :=
    fun c _ a l => by split <;> rfl
  refine ⟨(((updChan_only n _ s).seq (told _ _ _)).seq (Only.ite _ (Only.refl [.le] _) (State.with_le_only _ _))).mono
    (by decide), ?_⟩
  exact (besideChans_of_upc ((upc _ _ _).trans ((told _ _ _).same .upc (by decide)))).trans rfl

theorem refreshQual_changes (n : Nat) (s : State) :
    Only [.upc, .pr, .le] s (refreshQual n s) ∧ besideChans (refreshQual n s) = besideChans s :=
  putProcWords_changes n _ s

theorem refreshAll_changes (s : State) :
    Only [.upc, .pr, .le] s (refreshAll s) ∧ besideChans (refreshAll s) = besideChans s := by
  have one := refreshQual_changes
  exact ⟨(((one 0 s).1.trans (one 1 _).1).trans (one 2 _).1).trans (one 3 _).1,
    ((one 3 _).2.trans (one 2 _).2).trans ((one 1 _).2.trans (one 0 s).2)⟩

/-! The barrier is lost (R462). -/

/-- The registers of a process barrier that has just been lost. -/
def lostProcess (u : Upc) : Upc :=
  { u with up := false, released := false, restorePend := false, goodRun := 0, urgPend := none, urgWait := none, urgent := none }

theorem procBarrierLost_of_detOn (cause : Nat) (s : State) (h : detOn s 0x16 0 = true) : procBarrierLost cause s = s :=
  if_pos h

/-- The urgent requests of the host answered with BAD_STATE. -/
def urgentRefused (s : State) : State :=
  (([s.upc.urgPend, s.upc.urgWait, s.upc.urgent].filterMap id).filter (fun u => !u.verify)).foldl
    (fun s u => answer u.req 0x0041 .badState s) s

theorem urgentRefused_only (s : State) : Only [.cmd, .pads] s (urgentRefused s) :=
  Only.foldl _ _ _ s fun s u => answer_only u.req 0x0041 .badState s

/-- No test runs while the barrier is lost. -/
def processDown (s : State) : State :=
  { s with upc := { lostProcess s.upc with ch := s.upc.ch.map (fun (c : ProcChan) => { c with testAt := none }) } }

theorem procBarrierLost_eq (cause : Nat) (s : State) (h : detOn s 0x16 0 = false) :
    procBarrierLost cause s = refreshAll (fireDet 0x16 0 cause (processDown (urgentRefused s))) := if_neg (by simp [h])

theorem procBarrierLost_besideChans (cause : Nat) (s : State) (h : detOn s 0x16 0 = false) :
    besideChans (procBarrierLost cause s) = lostProcess (besideChans s) := by
  have refused : (urgentRefused s).upc = s.upc := (urgentRefused_only s).same .upc (by decide)
  rw [procBarrierLost_eq cause s h, (refreshAll_changes _).2, besideChans_of_upc (fireDet_upc _ _ _ _), processDown, refused]
  rfl

theorem procBarrierLost_detOn (cause : Nat) (s : State) : detOn (procBarrierLost cause s) 0x16 0 = true := by
  cases h : detOn s 0x16 0
  case true => rw [procBarrierLost_of_detOn cause s h, h]
  case false =>
    rw [procBarrierLost_eq cause s h]
    exact (detOn_of_hlt ((refreshAll_changes _).1.same .hlt (by decide)) 0x16 0).trans (fireDet_detOn 0x16 0 cause _)

/-! Upstream frames (R416, R454, R461, R462). -/

/-- What the engine holds of the last good upstream process frame. -/
def procRead (s : State) : Bool × Nat × Option Nat × Bool × Bool × Nat × Int × List (Req × Nat) :=
  (s.upc.everUp, s.upc.badRun, s.upc.upSeq, s.upc.safeRep, s.upc.configured, s.upc.pl24, s.upc.temp, s.upc.snapReqs)

/-- The same, of the unit's registers. -/
def readOf (u : Upc) : Bool × Nat × Option Nat × Bool × Bool × Nat × Int × List (Req × Nat) :=
  (u.everUp, u.badRun, u.upSeq, u.safeRep, u.configured, u.pl24, u.temp, u.snapReqs)

theorem procRead_of_besideChans {s t : State} (h : besideChans t = besideChans s) : procRead t = procRead s :=
  (congrArg readOf h :)

theorem procBarrierLost_procRead (cause : Nat) (s : State) : procRead (procBarrierLost cause s) = procRead s := by
  cases h : detOn s 0x16 0
  case true => rw [procBarrierLost_of_detOn cause s h]
  case false => exact (congrArg readOf (procBarrierLost_besideChans cause s h) :)

theorem chanFrame_besideChans (n rb st : Nat) (s : State) : besideChans (chanFrame n rb st s) = besideChans s := rfl

theorem adoptMode_besideChans (n : Nat) (s : State) : besideChans (adoptMode n s) = besideChans s := by
  unfold adoptMode
  dsimp only
  split
  · rfl
  · split
    · exact (besideChans_of_upc (submit_upc _ _ _ _)).trans rfl
    · rfl

theorem putReadback_changes (n : Nat) (s : State) :
    Only [.upc, .pr, .le] s (putReadback n s) ∧ besideChans (putReadback n s) = besideChans s := by
  unfold putReadback
  dsimp only
  split
  · exact putProcWords_changes n _ s
  · exact refreshQual_changes n s

/-- The windows of a mask's entries start anew. -/
def windowsRestarted (mask : Nat) (s : State) : State :=
  (maskBits mask).foldl (fun s e =>
    updEntry e (fun x => { x with win := newWindow s, discarded := 0, changed := false }) s) s

theorem answerSnap_eq (p : Req × Nat) (s : State) : answerSnap p s =
    respond p.1 0x0040 .ok false ((maskBits p.2).flatMap (entryRecord s)) (windowsRestarted p.2 s) := rfl

theorem answerSnap_changes (p : Req × Nat) (s : State) :
    Only [.upc, .cmd, .pads] s (answerSnap p s) ∧ procRead (answerSnap p s) = procRead s := by
  have restarted : Only [.upc] s (windowsRestarted p.2 s) := Only.foldl _ _ _ s fun s e => updEntry_only e _ s
  have read : procRead (windowsRestarted p.2 s) = procRead s := foldl_keeps procRead _ _ s fun _ _ => rfl
  rw [answerSnap_eq]
  refine ⟨restarted.seq (respond_only _ _ _ _ _ _), Eq.trans ?_ read⟩
  exact procRead_of_besideChans (besideChans_of_upc (respond_upc _ _ _ _ _ _))

/-- The frame's header taken. -/
def frameHead (seq status pl24 : Nat) (temp : Int) (s : State) : State :=
  { s with upc := { s.upc with
    everUp := true, badRun := 0, upSeq := some seq, safeRep := status.testBit 0, configured := status.testBit 2
    pl24 := pl24, temp := temp, goodRun := if status.testBit 2 then s.upc.goodRun + 1 else 0
    results := s.upc.results.drop 2
    downErr := if status.testBit 1 then satInc 32 s.upc.downErr else s.upc.downErr } }

/-- The channels take their part of the frame, and the modes that the process side has adopted. -/
def channelsTaken (rbs chStat : List Nat) (s : State) : State :=
  (List.range 4).foldl (fun s n => adoptMode n s)
    ((List.range 4).foldl (fun s n => chanFrame n (rbs.getD n 0) (chStat.getD n 0) s) s)

/-- The process side's SAFE is a loss of the barrier. -/
def safeJudged (safe : Bool) (s : State) : State := if safe && s.upc.up then procBarrierLost 2 s else s

/-- Sixteen good frames let a lost barrier be restored. -/
def restoreJudged (s : State) : State :=
  if !s.upc.up && decide (16 ≤ s.upc.goodRun) then { s with upc := { s.upc with restorePend := true } } else s

def barrierJudged (safe : Bool) (s : State) : State := restoreJudged (safeJudged safe s)

/-- The readbacks of the output channels shown. -/
def readbacksShown (s : State) : State := (List.range 4).foldl (fun s n => putReadback n s) s

/-- The waiting snapshots answered. -/
def snapsAnswered (s : State) : State :=
  s.upc.snapReqs.foldl (fun s p => answerSnap p s) { s with upc := { s.upc with snapReqs := [] } }

theorem processUpstreamRx_eq (seq status : Nat) (rbs chStat : List Nat) (pl24 : Nat) (temp : Int) (s : State)
    (h : hasUpc s = true) : processUpstreamRx seq status rbs chStat pl24 temp s =
      snapsAnswered (readbacksShown
        (barrierJudged (status.testBit 0) (channelsTaken rbs chStat (frameHead seq status pl24 temp s)))) := by
  unfold processUpstreamRx
  rw [if_neg (by simp [h])]
  extract_lets conf safe u a b c d v e w
  have head : a = frameHead seq status pl24 temp s := rfl
  have taken : c = channelsTaken rbs chStat a := rfl
  have judged : d = safeJudged (status.testBit 0) c := rfl
  have restored : e = restoreJudged d := rfl
  have shown : w = readbacksShown e := rfl
  clear_value w e d c a
  rw [barrierJudged, ← head, ← taken, ← judged, ← restored, ← shown]
  rfl

theorem channelsTaken_besideChans (rbs chStat : List Nat) (s : State) :
    besideChans (channelsTaken rbs chStat s) = besideChans s :=
  (foldl_keeps besideChans _ _ _ fun s n => adoptMode_besideChans n s).trans
    (foldl_keeps besideChans _ _ s fun s n => chanFrame_besideChans n _ _ s)

theorem restoreJudged_changes (s : State) : procRead (restoreJudged s) = procRead s ∧ (restoreJudged s).hlt = s.hlt := by
  unfold restoreJudged
  split
  · exact ⟨rfl, rfl⟩
  · exact ⟨rfl, rfl⟩

theorem safeJudged_procRead (safe : Bool) (s : State) : procRead (safeJudged safe s) = procRead s := by
  unfold safeJudged
  split
  · exact procBarrierLost_procRead 2 s
  · rfl

theorem barrierJudged_procRead (safe : Bool) (s : State) : procRead (barrierJudged safe s) = procRead s :=
  (restoreJudged_changes _).1.trans (safeJudged_procRead safe s)

theorem barrierJudged_detOn (s : State) (h : s.upc.up = true) : detOn (barrierJudged true s) 0x16 0 = true := by
  refine (detOn_of_hlt (restoreJudged_changes _).2 0x16 0).trans ?_
  rw [safeJudged, if_pos (by rw [h]; rfl)]
  exact procBarrierLost_detOn 2 s

theorem readbacksShown_changes (s : State) :
    Only [.upc, .pr, .le] s (readbacksShown s) ∧ procRead (readbacksShown s) = procRead s :=
  ⟨Only.foldl _ _ _ s fun s n => (putReadback_changes n s).1,
    procRead_of_besideChans (foldl_keeps besideChans _ _ s fun s n => (putReadback_changes n s).2)⟩

theorem snapsAnswered_changes (s : State) : Only [.upc, .cmd, .pads] s (snapsAnswered s) ∧ procRead (snapsAnswered s) =
    (s.upc.everUp, s.upc.badRun, s.upc.upSeq, s.upc.safeRep, s.upc.configured, s.upc.pl24, s.upc.temp, []) := by
  have none : Only [.upc, .cmd, .pads] s { s with upc := { s.upc with snapReqs := [] } } :=
    (State.with_upc_only s _).mono (by decide)
  unfold snapsAnswered
  exact ⟨none.trans (Only.foldl _ _ _ _ fun s p => (answerSnap_changes p s).1),
    foldl_keeps procRead _ _ _ fun s p => (answerSnap_changes p s).2⟩

theorem channelsTaken_up (rbs chStat : List Nat) (s : State) : (channelsTaken rbs chStat s).upc.up = s.upc.up :=
  up_of_besideChans (channelsTaken_besideChans rbs chStat s)

theorem execProcessUpstreamRx_completes (seq status pl24 : Nat) (rbs chStat : List Nat) (temp : Int) (s : State)
    (hu : hasUpc s = true) : ∃ t, execProcessUpstreamRx seq status rbs chStat pl24 temp s = .next t ∧
      t.upc.everUp = true ∧ t.upc.badRun = 0 ∧ t.upc.upSeq = some seq ∧ t.upc.safeRep = status.testBit 0 ∧
      t.upc.configured = status.testBit 2 ∧ t.upc.pl24 = pl24 ∧ t.upc.temp = temp ∧ t.upc.snapReqs = [] ∧
      (status.testBit 0 = true → s.upc.up = true → detOn t 0x16 0 = true) := by
  refine ⟨_, rfl, ?_⟩
  rw [processUpstreamRx_eq seq status rbs chStat pl24 temp s hu]
  have taken := procRead_of_besideChans (channelsTaken_besideChans rbs chStat (frameHead seq status pl24 temp s))
  have up := channelsTaken_up rbs chStat (frameHead seq status pl24 temp s)
  generalize channelsTaken rbs chStat _ = a at taken up ⊢
  obtain ⟨shown, kept⟩ := readbacksShown_changes (barrierJudged (status.testBit 0) a)
  obtain ⟨only, read⟩ := snapsAnswered_changes (readbacksShown (barrierJudged (status.testBit 0) a))
  have before := (kept.trans (barrierJudged_procRead _ a)).trans taken
  simp only [procRead, frameHead, Prod.mk.injEq] at before read
  obtain ⟨ever, bad, upSeq, safe, conf, volts, warm, -⟩ := before
  obtain ⟨ever', bad', upSeq', safe', conf', volts', warm', reqs⟩ := read
  refine ⟨ever'.trans ever, bad'.trans bad, upSeq'.trans upSeq, safe'.trans safe, conf'.trans conf, volts'.trans volts,
    warm'.trans warm, reqs, fun hs hup => ?_⟩
  rw [detOn_of_hlt (only.same .hlt (by decide)), detOn_of_hlt (shown.same .hlt (by decide)), hs]
  exact barrierJudged_detOn a (up.trans hup)

theorem execProcessUpstreamMissing_completes (s : State) (hu : hasUpc s = true) :
    ∃ t, execProcessUpstreamMissing s = .next t ∧ t.upc.upErr = satInc 32 s.upc.upErr ∧
      t.upc.badRun = s.upc.badRun + 1 ∧ t.upc.goodRun = 0 ∧ (2 ≤ s.upc.badRun → detOn t 0x16 0 = true) := by
  refine ⟨_, rfl, ?_⟩
  unfold processUpstreamMissing
  rw [if_neg (by simp [hu])]
  dsimp only
  split
  next third =>
    cases h : detOn { s with upc := { s.upc with
      upErr := satInc 32 s.upc.upErr, badRun := s.upc.badRun + 1, goodRun := 0 } } 0x16 0
    case true =>
      rw [procBarrierLost_of_detOn 1 _ h]
      exact ⟨rfl, rfl, rfl, fun _ => h⟩
    case false =>
      have lost := procBarrierLost_besideChans 1 _ h
      exact ⟨(congrArg Upc.upErr lost :), (congrArg Upc.badRun lost :), (congrArg Upc.goodRun lost :),
        fun _ => procBarrierLost_detOn 1 _⟩
  next few => exact ⟨rfl, rfl, rfl, fun third => absurd (Nat.succ_le_succ third) few⟩

theorem execUpcSelftestTimeout_completes (s : State) (hu : hasUpc s = true) (he : s.upc.everUp = false) :
    ∃ t, execUpcSelftestTimeout s = .next t ∧ detOn t 0x16 0 = true := by
  refine ⟨_, rfl, ?_⟩
  rw [upcSelftestTimeout, if_pos (by simp [hu, he])]
  exact procBarrierLost_detOn 3 _

theorem execProcessSideSafe_enters (s : State) (hu : hasUpc s = true) (hb : 3 ≤ s.upc.psBad) (hs : s.upc.psSafe = false) :
    execProcessSideSafe s = .next { s with upc := { s.upc with psSafe := true, stopped := true, prevConv := none } } := by
  rw [execProcessSideSafe, processSideSafe, if_pos (by simp [hu, hb, hs])]

/-! The sequencer: what the start of an entry or a pass leaves (R446 to R452). -/

/-- The registers of the process unit beside the sequence in progress and its urgent requests. -/
def besideSequence (s : State) : Upc :=
  { s.upc with
    running := false, ent := [], passStart := 0, cur := 0, discLeft := 0, latched := false, passes := 0, urgent := none
    urgWait := none, urgPend := none, stopped := false }

theorem beginEntry_besideSequence (e : Nat) (s : State) : besideSequence (beginEntry e s) = besideSequence s := by
  unfold beginEntry
  split
  · rfl
  · rfl

theorem startPass_besideSequence (s : State) : besideSequence (startPass s) = besideSequence s := by
  unfold startPass
  dsimp only
  split
  · rfl
  · exact beginEntry_besideSequence _ _

theorem endPass_besideSequence (s : State) : besideSequence (endPass s) = besideSequence s := by
  unfold endPass
  dsimp only
  split
  · exact startPass_besideSequence _
  · split
    · exact startPass_besideSequence _
    · rfl

theorem takeUrgent_besideSequence (s : State) : besideSequence (takeUrgent s) = besideSequence s := by
  unfold takeUrgent
  split
  · split
    · rfl
    · rfl
  · rfl

theorem takeUrgent_of_none (s : State) (h : s.upc.urgWait = none) : takeUrgent s = s := by rw [takeUrgent, h]

theorem takeUrgent_only (s : State) : Only [.upc] s (takeUrgent s) := by
  unfold takeUrgent
  split
  · exact Only.ite _ (State.with_upc_only s _) (Only.refl _ s)
  · exact Only.refl _ s

theorem endPass_only (s : State) : Only [.upc] s (endPass s) :=
  (State.with_upc_only s _).trans (Only.ite _ (startPass_only _)
    (Only.ite _ ((State.with_upc_only _ _).trans (startPass_only _)) (Only.refl _ _)))

/-! Downstream frames (R459, R460, R462). -/

theorem procAdopt_eq (i d : Nat) (s : State) : ∃ seen cfg done, procAdopt i d s =
    { s with upc := { s.upc with cfgSeen := seen, cfg := cfg, cfgDone := done } } := by
  unfold procAdopt
  dsimp only
  split
  · exact ⟨_, _, _, rfl⟩
  · exact ⟨_, _, _, rfl⟩

/-- The frame counted good at the process side. -/
def sideCounted (release start : Bool) (s : State) : State :=
  { s with upc := { s.upc with
    psBad := 0, psGood := s.upc.psGood + 1, psSafe := s.upc.psSafe && !(release && decide (2 ≤ s.upc.psGood + 1))
    psSeq := s.upc.seq, psDownErr := false, startIn := s.upc.startIn || start } }

/-- An urgent request that came with the frame waits at the process side. -/
def urgentTaken (s : State) : State :=
  match s.upc.urgPend with
  | some u => { s with upc := { s.upc with urgPend := none, urgWait := some u } }
  | none => s

/-- A process side that leaves SAFE goes on with its sequence. -/
def sideResumed (safe : Bool) (s : State) : State :=
  if s.upc.stopped && !safe && procConfigured s then
    let s := { s with upc := { s.upc with stopped := false } }
    if s.upc.running then beginEntry s.upc.cur s else if periodic s then s else startPass s
  else s

/-- Between conversions the urgent request is taken at once. -/
def urgentBegun (s : State) : State := if s.upc.running || s.upc.stopped then s else takeUrgent s

theorem processDownstream_eq (release start : Bool) (i d : Nat) (s : State) : processDownstream release start i d s =
    urgentBegun (sideResumed (sideCounted release start (procAdopt i d s)).upc.psSafe
      (urgentTaken (sideCounted release start (procAdopt i d s)))) := rfl

theorem urgentTaken_changes (s : State) :
    Only [.upc] s (urgentTaken s) ∧ besideSequence (urgentTaken s) = besideSequence s := by
  unfold urgentTaken
  split
  · exact ⟨State.with_upc_only s _, rfl⟩
  · exact ⟨Only.refl _ s, rfl⟩

theorem sideResumed_changes (safe : Bool) (s : State) :
    Only [.upc] s (sideResumed safe s) ∧ besideSequence (sideResumed safe s) = besideSequence s := by
  unfold sideResumed
  dsimp only
  split
  · split
    · exact ⟨(State.with_upc_only s _).trans (beginEntry_only _ _), beginEntry_besideSequence _ _⟩
    · split
      · exact ⟨State.with_upc_only s _, rfl⟩
      · exact ⟨(State.with_upc_only s _).trans (startPass_only _), startPass_besideSequence _⟩
  · exact ⟨Only.refl _ s, rfl⟩

theorem urgentBegun_changes (s : State) :
    Only [.upc] s (urgentBegun s) ∧ besideSequence (urgentBegun s) = besideSequence s := by
  unfold urgentBegun
  split
  · exact ⟨Only.refl _ s, rfl⟩
  · exact ⟨takeUrgent_only s, takeUrgent_besideSequence s⟩

/-- The numbers of a downstream frame, and how the process side has counted them. -/
def frameMarks (s : State) : Nat × Nat × Bool × Bool × Nat × Nat :=
  (s.upc.seq, s.upc.cfgIdx, s.upc.restorePend, s.upc.up, s.upc.psBad, s.upc.psGood)

theorem frameMarks_of_besideSequence {s t : State} (h : besideSequence t = besideSequence s) :
    frameMarks t = frameMarks s :=
  (congrArg (fun u : Upc => (u.seq, u.cfgIdx, u.restorePend, u.up, u.psBad, u.psGood)) h :)

theorem processDownstream_changes (release start : Bool) (i d : Nat) (s : State) :
    Only [.upc] s (processDownstream release start i d s) ∧ frameMarks (processDownstream release start i d s) =
      (s.upc.seq, s.upc.cfgIdx, s.upc.restorePend, s.upc.up, 0, s.upc.psGood + 1) := by
  obtain ⟨seen, cfg, done, adopted⟩ := procAdopt_eq i d s
  rw [processDownstream_eq, adopted]
  generalize counted : sideCounted release start _ = a
  have frame : Only [.upc] s a := by
    rw [← counted]
    exact State.with_upc_only s _
  have marks : frameMarks a = (s.upc.seq, s.upc.cfgIdx, s.upc.restorePend, s.upc.up, 0, s.upc.psGood + 1) := by
    rw [← counted]
    rfl
  obtain ⟨taken, kept⟩ := urgentTaken_changes a
  obtain ⟨resumed, kept'⟩ := sideResumed_changes a.upc.psSafe (urgentTaken a)
  obtain ⟨begun, kept''⟩ := urgentBegun_changes (sideResumed a.upc.psSafe (urgentTaken a))
  exact ⟨((frame.trans taken).trans resumed).trans begun,
    (frameMarks_of_besideSequence ((kept''.trans kept').trans kept)).trans marks⟩

/-- The loss of the process barrier is over: its event and detector. -/
def barrierCleared (s : State) : State :=
  if detOn s 0x16 0 then submit .upc 0x7002 0 (clearDet 0x16 0 s) else s

/-- The barrier restored: its event and detector, then the tests that its loss has put off (R462, R465). -/
def processRestored (s : State) : State :=
  if s.upc.restorePend then
    let s := barrierCleared { s with upc := { s.upc with restorePend := false, up := true } }
    { s with upc := { s.upc with ch := s.upc.ch.map (fun (c : ProcChan) =>
        { c with testAt := if c.mode = 6 ∧ !c.tested then some (td0 s) else c.testAt }) } }
  else s

/-- The frame sent: its number, its flags, its configuration word and the commands of the output channels. -/
def processSent (s : State) : State :=
  let flags := fld 0 1 (b2n (procRelease s)) + fld 1 1 (b2n (startFlag s)) + fld 2 1 (b2n s.upc.urgPend.isSome) +
    fld 3 1 (b2n (s.upc.urgPend.any (·.verify)))
  let cs := (List.range 4).map (fun n =>
    let c := procChan s n
    if c.mode = 6 ∨ c.mode = 7 then { c with enabled := stageEnabled s n, dac := procCommand s n }
    else { c with enabled := false, dac := 0 })
  { s with upc := { s.upc with
    seq := (s.upc.seq + 1) % 256, frameIdx := gridT1 s / usT 32, sentFlags := BitVec.ofNat 8 flags
    released := procRelease s, cfgIdx := (s.upc.cfgIdx + 1) % 85, ch := cs } }

/-- A frame that does not arrive. -/
def processMissed (s : State) : State :=
  { s with upc := { s.upc with
    psBad := s.upc.psBad + 1, psGood := 0, psDownErr := true, downErr := satInc 32 s.upc.downErr } }

/-- The frame of a restored state: it goes out, and the process side receives it or not. -/
def processFramed (arrives : Bool) (s : State) : State :=
  if arrives && !injOn (processSent s) 0x16 0 then
    processDownstream (procRelease s) (startFlag s) s.upc.cfgIdx (procCfgWord s s.upc.cfgIdx) (processSent s)
  else processMissed (processSent s)

theorem processFrameStart_eq (arrives : Bool) (s : State) (hu : hasUpc s = true) (hc : s.pw.convertersOn = true) :
    processFrameStart arrives s = processFramed arrives (processRestored s) := by
  unfold processFrameStart
  rw [if_neg (by simp [hu, hc])]
  extract_lets restored u a' b' v a start i d release flags cs w b
  have back : a = processRestored s := rfl
  have sent : b = processSent a := rfl
  clear_value b a
  rw [← back, processFramed, ← sent]
  rfl

theorem barrierCleared_changes (s : State) : Only [.evr, .hlt] s (barrierCleared s) ∧ (barrierCleared s).upc = s.upc ∧
    (barrierCleared s).hlt.inj = s.hlt.inj ∧ detOn (barrierCleared s) 0x16 0 = false := by
  unfold barrierCleared
  split
  next => exact ⟨((clearDet_only 0x16 0 s).seq (submit_only _ _ _ _)).mono (by decide), (submit_upc _ _ _ _).trans rfl,
    (congrArg Health.inj (submit_hlt _ _ _ _)).trans rfl, (detOn_of_hlt (submit_hlt _ _ _ _) 0x16 0).trans (clearDet_detOn 0x16 0 s)⟩
  next h => exact ⟨Only.refl _ s, rfl, rfl, by simpa using h⟩

theorem processRestored_changes (s : State) : Only [.upc, .evr, .hlt] s (processRestored s) ∧
    (processRestored s).upc.seq = s.upc.seq ∧ (processRestored s).upc.cfgIdx = s.upc.cfgIdx ∧
    (processRestored s).upc.psBad = s.upc.psBad ∧ (processRestored s).upc.psGood = s.upc.psGood ∧
    (processRestored s).upc.restorePend = false ∧ (processRestored s).hlt.inj = s.hlt.inj ∧
    (s.upc.restorePend = true → (processRestored s).upc.up = true ∧ detOn (processRestored s) 0x16 0 = false) := by
  unfold processRestored
  split
  next h =>
    obtain ⟨only, upc, inj, cleared⟩ := barrierCleared_changes { s with upc := { s.upc with restorePend := false, up := true } }
    dsimp only
    generalize barrierCleared _ = a at only upc inj cleared ⊢
    refine ⟨((State.with_upc_only s _).mono (by decide)).trans ((only.mono (by decide)).trans
      ((State.with_upc_only a _).mono (by decide))), ?_⟩
    rw [upc]
    exact ⟨rfl, rfl, rfl, rfl, rfl, inj, fun _ => ⟨rfl, cleared⟩⟩
  next h => exact ⟨Only.refl _ s, rfl, rfl, rfl, rfl, by simpa using h, rfl, fun k => absurd k h⟩

theorem injOn_of_inj {s t : State} (h : t.hlt.inj = s.hlt.inj) (d i : Nat) : injOn t d i = injOn s d i := by
  rw [injOn, h, injOn]

theorem execProcessFrameStart_completes (arrives : Bool) (s : State) (hu : hasUpc s = true)
    (hc : s.pw.convertersOn = true) (hm : atMultiple 32 s.upc.frameIdx s = true) :
    ∃ t, execProcessFrameStart arrives s = .next t ∧ Only [.upc, .evr, .hlt] s t ∧ t.upc.seq = (s.upc.seq + 1) % 256 ∧
      t.upc.cfgIdx = (s.upc.cfgIdx + 1) % 85 ∧ t.upc.restorePend = false ∧
      (s.upc.restorePend = true → t.upc.up = true ∧ detOn t 0x16 0 = false) ∧
      (arrives = true → injOn s 0x16 0 = false → t.upc.psBad = 0 ∧ t.upc.psGood = s.upc.psGood + 1) ∧
      (arrives = false → t.upc.psBad = s.upc.psBad + 1 ∧ t.upc.psGood = 0 ∧ t.upc.psDownErr = true) := by
  obtain ⟨only, seq, idx, bad, good, pend, inj, up⟩ := processRestored_changes s
  refine ⟨_, if_pos hm, ?_⟩
  rw [processFrameStart_eq arrives s hu hc]
  generalize processRestored s = a at only seq idx bad good pend inj up ⊢
  unfold processFramed
  have sent : Only [.upc] a (processSent a) := State.with_upc_only a _
  have frame := (only.trans (sent.mono (by decide)))
  split
  next came =>
    obtain ⟨taken, marks⟩ := processDownstream_changes (procRelease a) (startFlag a) a.upc.cfgIdx
      (procCfgWord a a.upc.cfgIdx) (processSent a)
    simp only [frameMarks, Prod.mk.injEq] at marks
    obtain ⟨seq', idx', pend', up', bad', good'⟩ := marks
    have there : arrives = true := (Bool.and_eq_true_iff.mp came).1
    refine ⟨frame.trans (taken.mono (by decide)), seq'.trans (by rw [← seq]; rfl), idx'.trans (by rw [← idx]; rfl),
      pend'.trans pend, fun h => ⟨up'.trans (up h).1, ?_⟩, fun _ _ => ⟨bad', good'.trans (by rw [← good]; rfl)⟩,
      fun h => absurd there (by simp [h])⟩
    rw [detOn_of_hlt (taken.same .hlt (by decide)), detOn_of_hlt (sent.same .hlt (by decide)), (up h).2]
  next lost =>
    have missed : Only [.upc] (processSent a) (processMissed (processSent a)) := State.with_upc_only _ _
    refine ⟨frame.trans (missed.mono (by decide)), by rw [← seq]; rfl, by rw [← idx]; rfl, pend, up, fun ha hi => ?_,
      fun _ => ⟨by rw [← bad]; rfl, rfl, rfl⟩⟩
    have calm : injOn (processSent a) 0x16 0 = false := (injOn_of_inj inj 0x16 0).trans hi
    exact absurd (by rw [ha, calm]; rfl) lost

end Sys2Proof.Machine
end

section
/-! PROOFS. Conversions and passes of the process channels (R441, R448 to R452). -/

namespace Sys2Proof.Machine
open Sys2Proof

/-- What a conversion counts and keeps for the engine. -/
def convRegs (s : State) : Nat × Option (Nat × Nat × Nat × Nat) × List (Nat × Bool × Bool × Int) :=
  (s.upc.discard, s.upc.prevConv, s.upc.results)

theorem convRegs_of_besideSequence {s t : State} (h : besideSequence t = besideSequence s) : convRegs t = convRegs s :=
  (congrArg (fun u : Upc => (u.discard, u.prevConv, u.results)) h :)

theorem convRegs_of_besideChans {s t : State} (h : besideChans t = besideChans s) : convRegs t = convRegs s :=
  (congrArg (fun u : Upc => (u.discard, u.prevConv, u.results)) h :)

/-! A conversion kept for its entry (R442, R449, R450). -/

/-- The result in its entry and, with the barrier up, in the queue to the engine. -/
def resultKept (code : Int) (ovr : Bool) (k : SeqCfg) (s : State) : State :=
  if s.upc.up then
    let a := updEntry s.upc.cur (fun x => { x with
      sum := x.sum + code, kept := x.kept + 1, ovr := x.ovr || ovr
      win := addResult x.win code ovr (resultStamp s k.filter k.rate) }) s
    { a with upc := { a.upc with
      results := (a.upc.results ++ [(s.upc.cur, false, ovr, code)]).drop (a.upc.results.length + 1 - 2) } }
  else updEntry s.upc.cur (fun x => { x with kept := x.kept + 1 }) s

/-- An entry that has its count ends its part of the pass, and the next one begins. -/
def entryEnds (e : Nat) (k : SeqCfg) (s : State) : State :=
  let x := s.upc.ent.getD e default
  if k.count ≤ x.kept then
    let s := updEntry e (fun x => { x with passes := (x.passes + 1) % 65536 }) s
    let s := if !s.upc.up then s
      else if k.primary then passEnd k.chan x.sum x.kept x.ovr s
      else if k.meas = 1 then updChan k.chan (fun c => { c with lead := some (x.sum, x.kept) }) s
      else if k.meas = 2 then updChan k.chan (fun c => { c with cold := some (x.sum, x.kept) }) s
      else s
    match nextEntry s (e + 1) with
    | some e' => beginEntry e' s
    | none => endPass s
  else s

theorem keepResult_eq (code : Int) (ovr : Bool) (k : SeqCfg) (s : State) :
    keepResult code ovr k s = entryEnds s.upc.cur k (resultKept code ovr k s) := rfl

/-- The queue to the engine holds two results; the last one is the one just kept. -/
theorem getLast?_drop_append {α : Type} (l : List α) (a : α) : ((l ++ [a]).drop (l.length + 1 - 2)).getLast? = some a := by
  rw [List.getLast?_drop, if_neg (by simp only [List.length_append, List.length_singleton]; omega), List.getLast?_concat]

theorem resultKept_convRegs (code : Int) (ovr : Bool) (k : SeqCfg) (s : State) :
    (resultKept code ovr k s).upc.discard = s.upc.discard ∧ (resultKept code ovr k s).upc.prevConv = s.upc.prevConv ∧
      (s.upc.up = true → (resultKept code ovr k s).upc.results.getLast? = some (s.upc.cur, false, ovr, code)) := by
  unfold resultKept
  split
  · exact ⟨rfl, rfl, fun _ => getLast?_drop_append _ _⟩
  next down => exact ⟨rfl, rfl, fun h => absurd h down⟩

theorem passEnd_besideChans (n : Nat) (sum : Int) (cnt : Nat) (ovr : Bool) (s : State) :
    besideChans (passEnd n sum cnt ovr s) = besideChans s := (putProcWords_changes _ _ _).2.trans rfl

theorem entryEnds_convRegs (e : Nat) (k : SeqCfg) (s : State) : convRegs (entryEnds e k s) = convRegs s := by
  have measured : ∀ (x : SeqEntry) (a : State), convRegs (if (!a.upc.up) = true then a
      else if k.primary = true then passEnd k.chan x.sum x.kept x.ovr a
      else if k.meas = 1 then updChan k.chan (fun c => { c with lead := some (x.sum, x.kept) }) a
      else if k.meas = 2 then updChan k.chan (fun c => { c with cold := some (x.sum, x.kept) }) a
      else a) = convRegs a := fun x a => by
    split
    · rfl
    · split
      · exact convRegs_of_besideChans (passEnd_besideChans _ _ _ _ a)
      · split
        · rfl
        · split
          · rfl
          · rfl
  unfold entryEnds
  dsimp only
  split
  · split
    · exact (convRegs_of_besideSequence (beginEntry_besideSequence _ _)).trans (measured _ _)
    · exact (convRegs_of_besideSequence (endPass_besideSequence _)).trans (measured _ _)
  · rfl

/-! An urgent conversion done (R452). -/

/-- The urgent request is over and the entry in progress goes on. -/
def urgentEnds (s : State) : State :=
  let s := { s with upc := { s.upc with urgent := none } }
  if s.upc.running then beginEntry s.upc.cur s else s

/-- The answer of a host's urgent request: code, value and stamp. -/
def urgentPayload (u : Urgent) (code : Int) (s : State) : List Byte :=
  leBytes 4 (unsgn 32 code) ++ leBytes 4 (fOfRat (codeValue (procChan s u.chan).mode u.meas code 1).1
    (codeValue (procChan s u.chan).mode u.meas code 1).2).toNat ++ stamp (resultStamp s u.filter u.rate)

theorem urgentDone_host (u : Urgent) (code : Int) (s : State) (hv : u.verify = false) : urgentDone u code s =
    urgentEnds (respond u.req 0x0041 .ok false (urgentPayload u code s) s) := by
  unfold urgentDone
  rw [hv]
  rfl

theorem urgentEnds_changes (s : State) : Only [.upc] s (urgentEnds s) ∧ (urgentEnds s).upc.urgent = none ∧
    (urgentEnds s).upc.urgWait = s.upc.urgWait := by
  unfold urgentEnds
  dsimp only
  split
  · refine ⟨(State.with_upc_only s _).trans (beginEntry_only _ _), ?_⟩
    unfold beginEntry
    split
    · exact ⟨rfl, rfl⟩
    · exact ⟨rfl, rfl⟩
  · exact ⟨State.with_upc_only s _, rfl, rfl⟩

/-- A response rests on nothing of the process channels. -/
theorem respond_cmd_with_upc (r : Req) (op : Nat) (st : Status) (m : Bool) (pl : List Byte) (s : State) (u : Upc) :
    (respond r op st m pl { s with upc := u }).cmd = (respond r op st m pl s).cmd := rfl

/-! The row. -/

theorem conversionComplete_of_urgent (code : Int) (ovr : Bool) (s : State) (u : Urgent) (hu : hasUpc s = true)
    (hs : s.upc.stopped = false) (h : s.upc.urgent = some u) (hd : s.upc.discLeft = 0) : conversionComplete code ovr s =
      takeUrgent (urgentDone u code { s with upc := { s.upc with prevConv := some (u.chan, u.meas, u.filter, u.rate) } }) := by
  unfold conversionComplete
  rw [if_neg (by simp [hu, hs, h])]
  simp only [h, hd, Nat.lt_irrefl, if_false]

/-- The entry in progress has just had a conversion. -/
def converted (k : SeqCfg) (s : State) : State :=
  { s with upc := { s.upc with prevConv := some (k.chan, k.meas, k.filter, k.rate) } }

theorem conversionComplete_of_entry (code : Int) (ovr : Bool) (s : State) (k : SeqCfg) (hu : hasUpc s = true)
    (hs : s.upc.stopped = false) (h : s.upc.urgent = none) (hr : s.upc.running = true)
    (hk : (s.upc.ent.getD s.upc.cur default).cfg = some k) : conversionComplete code ovr s = takeUrgent
      (if 0 < s.upc.discLeft then
        updEntry s.upc.cur (fun x => { x with discarded := x.discarded + 1 }) { converted k s with
          upc := { (converted k s).upc with discLeft := s.upc.discLeft - 1, discard := satInc 32 s.upc.discard } }
      else keepResult code (ovr || beyondRange (procChan s k.chan).mode k.meas code || injOn s 0x1A k.chan) k
        (converted k s)) := by
  unfold conversionComplete
  rw [if_neg (by simp [hu, hs, hr])]
  simp only [h, hk, converted]
  rfl

theorem execConversionComplete_discards (code : Int) (ovr : Bool) (s : State) (k : SeqCfg) (hu : hasUpc s = true)
    (hs : s.upc.stopped = false) (h : s.upc.urgent = none) (hr : s.upc.running = true)
    (hk : (s.upc.ent.getD s.upc.cur default).cfg = some k) (hd : 0 < s.upc.discLeft) :
    ∃ t, execConversionComplete code ovr s = .next t ∧ Only [.upc] s t ∧ t.upc.discard = satInc 32 s.upc.discard ∧
      t.upc.prevConv = some (k.chan, k.meas, k.filter, k.rate) ∧ t.upc.results = s.upc.results := by
  refine ⟨_, rfl, ?_⟩
  rw [conversionComplete_of_entry code ovr s k hu hs h hr hk, if_pos hd]
  generalize taken : updEntry _ _ _ = a
  have only : Only [.upc] s a := by
    rw [← taken]
    exact State.with_upc_only s _
  have regs : convRegs a = (satInc 32 s.upc.discard, some (k.chan, k.meas, k.filter, k.rate), s.upc.results) := by
    rw [← taken]
    rfl
  have kept := (convRegs_of_besideSequence (takeUrgent_besideSequence a)).trans regs
  simp only [convRegs, Prod.mk.injEq] at kept
  exact ⟨only.trans (takeUrgent_only a), kept⟩

theorem execConversionComplete_keeps (code : Int) (ovr : Bool) (s : State) (k : SeqCfg) (hu : hasUpc s = true)
    (hs : s.upc.stopped = false) (h : s.upc.urgent = none) (hr : s.upc.running = true)
    (hk : (s.upc.ent.getD s.upc.cur default).cfg = some k) (hd : s.upc.discLeft = 0) :
    ∃ t, execConversionComplete code ovr s = .next t ∧ t.upc.discard = s.upc.discard ∧
      t.upc.prevConv = some (k.chan, k.meas, k.filter, k.rate) ∧
      (s.upc.up = true → t.upc.results.getLast? = some (s.upc.cur, false,
        ovr || beyondRange (procChan s k.chan).mode k.meas code || injOn s 0x1A k.chan, code)) := by
  refine ⟨_, rfl, ?_⟩
  rw [conversionComplete_of_entry code ovr s k hu hs h hr hk, if_neg (by omega), keepResult_eq]
  obtain ⟨discard, prev, last⟩ := resultKept_convRegs code
    (ovr || beyondRange (procChan s k.chan).mode k.meas code || injOn s 0x1A k.chan) k (converted k s)
  generalize resultKept code _ k _ = a at discard prev last ⊢
  have kept := (convRegs_of_besideSequence (takeUrgent_besideSequence (entryEnds (converted k s).upc.cur k a))).trans
    (entryEnds_convRegs _ k a)
  simp only [convRegs, Prod.mk.injEq] at kept
  obtain ⟨discard', prev', results⟩ := kept
  exact ⟨discard'.trans discard, prev'.trans prev, fun up => by rw [results]; exact last up⟩

theorem execConversionComplete_urgent (code : Int) (ovr : Bool) (s : State) (u : Urgent) (hu : hasUpc s = true)
    (hs : s.upc.stopped = false) (h : s.upc.urgent = some u) (hv : u.verify = false) (hd : s.upc.discLeft = 0) :
    ∃ t, execConversionComplete code ovr s = .next t ∧ (s.upc.urgWait = none → t.upc.urgent = none) ∧
      t.cmd = (respond u.req 0x0041 .ok false (urgentPayload u code s) s).cmd := by
  refine ⟨_, rfl, ?_⟩
  rw [conversionComplete_of_urgent code ovr s u hu hs h hd, urgentDone_host u code _ hv]
  have cmd := respond_cmd_with_upc u.req 0x0041 .ok false (urgentPayload u code s) s
    { s.upc with prevConv := some (u.chan, u.meas, u.filter, u.rate) }
  have upc := respond_upc u.req 0x0041 .ok false (urgentPayload u code s)
    { s with upc := { s.upc with prevConv := some (u.chan, u.meas, u.filter, u.rate) } }
  have same : urgentPayload u code { s with upc := { s.upc with prevConv := some (u.chan, u.meas, u.filter, u.rate) } } =
    urgentPayload u code s := rfl
  rw [same]
  generalize respond u.req 0x0041 .ok false _ { s with upc := _ } = a at cmd upc ⊢
  obtain ⟨only, none, wait⟩ := urgentEnds_changes a
  refine ⟨fun hw => ?_, ?_⟩
  · rw [takeUrgent_of_none _ (wait.trans ((congrArg Upc.urgWait upc).trans hw)), none]
  · rw [(takeUrgent_only _).same .cmd (by decide), only.same .cmd (by decide), cmd]

/-! Periodic starts (R449). -/

theorem seqPassStart_eq (s : State) (hu : hasUpc s = true) (hi : s.upc.startIn = true) (hs : s.upc.stopped = false) :
    seqPassStart s =
      let a := { s with upc := { s.upc with startIn := false } }
      if !s.upc.running then startPass a
      else if !s.upc.latched then { a with upc := { a.upc with latched := true } }
      else
        let b := { a with upc := { a.upc with overlap := satInc 32 s.upc.overlap, overlapSince := s.upc.overlapSince + 1 } }
        if s.upc.overlapSec = some (secOf (td0 s)) then b
        else submit .upc 0x7011 (s.upc.overlapSince + 1)
          { b with upc := { b.upc with overlapSince := 0, overlapSec := some (secOf (td0 s)) } } := by
  unfold seqPassStart
  rw [if_neg (by simp [hu, hi])]
  exact if_neg (by simp [hs])

theorem execSeqPassStart_completes (s : State) (hu : hasUpc s = true) (hi : s.upc.startIn = true)
    (hs : s.upc.stopped = false) :
    (s.upc.running = false → execSeqPassStart s = .next (startPass { s with upc := { s.upc with startIn := false } })) ∧
    (s.upc.running = true → s.upc.latched = false →
      execSeqPassStart s = .next { s with upc := { s.upc with startIn := false, latched := true } }) ∧
    (s.upc.running = true → s.upc.latched = true → ∃ t, execSeqPassStart s = .next t ∧ Only [.upc, .evr] s t ∧
      t.upc.overlap = satInc 32 s.upc.overlap ∧ t.upc.latched = true) := by
  rw [execSeqPassStart, seqPassStart_eq s hu hi hs]
  dsimp only
  refine ⟨fun hr => ?_, fun hr hl => ?_, fun hr hl => ⟨_, rfl, ?_⟩⟩
  · rw [if_pos (by rw [hr]; rfl)]
  · rw [if_neg (by rw [hr]; decide), if_pos (by rw [hl]; rfl)]
  · rw [if_neg (by rw [hr]; decide), if_neg (by rw [hl]; decide)]
    split
    · exact ⟨(State.with_upc_only s _).mono (by decide), rfl, hl⟩
    · exact ⟨(State.with_upc_only s _).seq (submit_only _ _ _ _), congrArg Upc.overlap (submit_upc _ _ _ _),
        (congrArg Upc.latched (submit_upc _ _ _ _)).trans hl⟩

/-- Settles O42, row by row: the upstream frame through `besideChans`, the downstream frame and the conversions through
`besideSequence`. -/
theorem processBarrierRowsComplete : Obligations.ProcessBarrierRowsComplete :=
  ⟨execProcessFrameStart_completes,
    fun seq status pl24 rbs chStat temp s => execProcessUpstreamRx_completes seq status pl24 rbs chStat temp s,
    fun s hu => ⟨execProcessUpstreamMissing_completes s hu, execUpcSelftestTimeout_completes s hu,
      execProcessSideSafe_enters s hu⟩,
    fun code ovr s hu hs => ⟨fun k h hr hk hd => execConversionComplete_discards code ovr s k hu hs h hr hk hd,
      fun k h hr hk hd => execConversionComplete_keeps code ovr s k hu hs h hr hk hd,
      fun u h hv hd => execConversionComplete_urgent code ovr s u hu hs h hv hd⟩,
    execSeqPassStart_completes⟩

end Sys2Proof.Machine
end

section
/-! PROOFS. The process channels' verifications, tests and diagnostics, and the write of a mode (R446, R452 to R465). -/

namespace Sys2Proof.Machine
open Sys2Proof

/-- A diagnostic of a process channel: its flag, then its detector. -/
def chanFault (d n v : Nat) (f : ProcChan → ProcChan) (s : State) : State := fireDet d n v (updChan n f s)

theorem chanFault_only (d n v : Nat) (f : ProcChan → ProcChan) (s : State) :
    Only [.upc, .evr, .hlt] s (chanFault d n v f s) := (updChan_only n f s).seq (fireDet_only _ _ _ _)

theorem procChan_chanFault (d n v : Nat) (f : ProcChan → ProcChan) (s : State) (h : n < 4) :
    procChan (chanFault d n v f s) n = f (procChan s n) :=
  (procChan_of_upc (fireDet_upc _ _ _ _) n).trans (procChan_updChan n f s h)

theorem chanFault_detOn (d n v : Nat) (f : ProcChan → ProcChan) (s : State) : detOn (chanFault d n v f s) d n = true :=
  fireDet_detOn d n v _

/-- A diagnostic's end: its flag, its detector, its event. -/
def chanCleared (d n : Nat) (f : ProcChan → ProcChan) (s : State) : State :=
  submit .upc 0x7008 (256 * d + n) (clearDet d n (updChan n f s))

theorem chanCleared_only (d n : Nat) (f : ProcChan → ProcChan) (s : State) :
    Only [.upc, .evr, .hlt] s (chanCleared d n f s) :=
  (((updChan_only n f s).seq (clearDet_only d n _)).seq (submit_only _ _ _ _)).mono (by decide)

theorem procChan_chanCleared (d n : Nat) (f : ProcChan → ProcChan) (s : State) (h : n < 4) :
    procChan (chanCleared d n f s) n = f (procChan s n) :=
  (procChan_of_upc ((submit_upc _ _ _ _).trans (clearDet_upc _ _ _)) n).trans (procChan_updChan n f s h)

theorem chanCleared_detOn (d n : Nat) (f : ProcChan → ProcChan) (s : State) : detOn (chanCleared d n f s) d n = false :=
  (detOn_of_hlt (submit_hlt _ _ _ _) d n).trans (clearDet_detOn d n _)

/-- A channel's quality judged again leaves what its quality rests on. -/
theorem procChan_refreshQual (n : Nat) (s : State) (h : n < 4) :
    procChan (refreshQual n s) n = { procChan s n with qual := procQual s n } := by
  have upc : (refreshQual n s).upc = (updChan n (fun c => { c with qual := procQual s n }) s).upc := by
    have told : ∀ (c : Prop) [Decidable c] (a : State) (l : Logic), (if c then a else { a with le := l }).upc = a.upc :=
      fun c _ a l => by split <;> rfl
    exact (told _ _ _).trans ((sendAgree_only _ _ _ _).same .upc (by decide))
  rw [procChan_of_upc upc, procChan_updChan n _ s h]

theorem refreshQual_detOn (m d n : Nat) (s : State) : detOn (refreshQual m s) d n = detOn s d n :=
  detOn_of_hlt ((refreshQual_changes m s).1.same .hlt (by decide)) d n

theorem procValidity_of_openLoop (s : State) (n : Nat) (h : (procChan s n).openLoop = true) : procValidity s n = 1 := by
  simp [procValidity, h]

/-! Verification and mismatch (R452, R454). -/

/-- The urgent request of a readback verification. -/
def verification (n : Nat) : Urgent :=
  { verify := true, req := ⟨.hpi, 0, 0⟩, chan := n, meas := 4, filter := 1, rate := 8, settle := 0 }

theorem execReadbackVerification_completes (n : Nat) (s : State) (hu : hasUpc s = true) (hn : n < 4)
    (hd : verifyDue s n = true) : ∃ t, execReadbackVerification n s = .next t ∧ (procChan t n).verifyAt = td0 s ∧
      (urgFree s = true → t.upc.urgPend = some (verification n)) := by
  refine ⟨_, rfl, ?_⟩
  unfold readbackVerification
  rw [if_neg (by simp [hu, hd])]
  have due := procChan_updChan n (fun c => { c with verifyAt := td0 s })
    { s with upc := { s.upc with retry := s.upc.retry.filter (·.1 != n) } } hn
  have free : urgFree (updChan n (fun c => { c with verifyAt := td0 s })
    { s with upc := { s.upc with retry := s.upc.retry.filter (·.1 != n) } }) = urgFree s := rfl
  dsimp only
  generalize updChan n _ { s with upc := _ } = a at due free ⊢
  have dated : (procChan a n).verifyAt = td0 s := congrArg ProcChan.verifyAt due
  split
  next v hp =>
    have busy : urgFree s = false := by rw [← free, urgFree, hp]; rfl
    split
    · exact ⟨dated, fun h => absurd h (by simp [busy])⟩
    · exact ⟨by rw [procChan_of_upc (answer_upc _ _ _ _)]; exact dated, fun h => absurd h (by simp [busy])⟩
  next =>
    split
    · exact ⟨dated, fun _ => rfl⟩
    next held => exact ⟨dated, fun h => absurd (free.trans h) held⟩

theorem execUpcReadbackMismatch_completes (n : Nat) (s : State) (hu : hasUpc s = true) (hn : n < 4)
    (hh : heldFor s (procChan s n).mismatchSince (msT 100) = true) (hm : (procChan s n).mismatch = false) :
    ∃ t, execUpcReadbackMismatch n s = .next t ∧ Only [.upc, .evr, .hlt] s t ∧ (procChan t n).mismatch = true ∧
      detOn t 0x17 n = true := by
  refine ⟨_, rfl, ?_⟩
  rw [upcReadbackMismatch, if_pos (by simp [hu, hn, hh, hm])]
  exact ⟨chanFault_only _ _ _ _ s, congrArg ProcChan.mismatch (procChan_chanFault 0x17 n _ _ s hn), chanFault_detOn _ _ _ _ s⟩

theorem execReadbackMismatchClear_completes (n : Nat) (s : State) (hu : hasUpc s = true) (hn : n < 4)
    (hm : (procChan s n).mismatch = true) (hh : heldFor s (procChan s n).agreeSince (secT 1) = true) :
    ∃ t, execReadbackMismatchClear n s = .next t ∧ Only [.upc, .evr, .hlt] s t ∧ (procChan t n).mismatch = false ∧
      detOn t 0x17 n = false := by
  refine ⟨_, rfl, ?_⟩
  rw [readbackMismatchClear, if_pos (by simp [hu, hn, hh, hm])]
  exact ⟨chanCleared_only _ _ _ s, congrArg ProcChan.mismatch (procChan_chanCleared 0x17 n _ s hn), chanCleared_detOn _ _ _ s⟩

/-! The start-up test (R455). -/

/-- A channel whose start-up test has ended. -/
def testEnded (c : ProcChan) : ProcChan := { c with tested := true, testAt := none }

theorem outputStartupTest_eq (n rb mv : Nat) (s : State) (hu : hasUpc s = true) (hn : n < 4)
    (hh : heldFor s (procChan s n).testAt (msT 5) = true) : outputStartupTest n rb mv s =
      if rb * 625 < 50000 then chanFault 0x18 n (16 * 1 + n) (fun c => { c with openLoop := true }) (updChan n testEnded s)
      else if (((updChan n testEnded s).upc.pl24 : Int) - 4000) * 2 ^ 149 < (mv : Int) *
          max (fInt 0x41A40000#32) (fInt (failureCurrent (updChan n testEnded s) n)) then
        chanFault 0x19 n (16 * 1 + n) (fun c => { c with compliance := true }) (updChan n testEnded s)
      else updChan n testEnded s := by
  rw [outputStartupTest, if_pos (by simp [hu, hn, hh])]
  rfl

theorem execOutputStartupTest_completes (n : Nat) (s : State) (hu : hasUpc s = true) (hn : n < 4) (rb mv : Nat)
    (hh : heldFor s (procChan s n).testAt (msT 5) = true) :
    ∃ t, execOutputStartupTest n rb mv s = .next t ∧ Only [.upc, .evr, .hlt] s t ∧ (procChan t n).tested = true ∧
      (procChan t n).testAt = none ∧ (rb < 80 → (procChan t n).openLoop = true ∧ detOn t 0x18 n = true) ∧
      (80 ≤ rb → (procChan t n).openLoop = (procChan s n).openLoop) := by
  have ended := procChan_updChan n testEnded s hn
  have only : Only [.upc, .evr, .hlt] s (updChan n testEnded s) := (updChan_only n _ s).mono (by decide)
  refine ⟨_, rfl, ?_⟩
  rw [outputStartupTest_eq n rb mv s hu hn hh]
  generalize updChan n testEnded s = a at ended only ⊢
  split
  next low =>
    have fault := procChan_chanFault 0x18 n (16 * 1 + n) (fun c => { c with openLoop := true }) a hn
    rw [ended] at fault
    exact ⟨only.trans (chanFault_only _ _ _ _ a), by rw [fault]; rfl, by rw [fault]; rfl,
      fun _ => ⟨by rw [fault], chanFault_detOn _ _ _ _ a⟩, fun h => by omega⟩
  next closed =>
    split
    · have fault := procChan_chanFault 0x19 n (16 * 1 + n) (fun c => { c with compliance := true }) a hn
      rw [ended] at fault
      exact ⟨only.trans (chanFault_only _ _ _ _ a), by rw [fault]; rfl, by rw [fault]; rfl, fun h => by omega,
        fun _ => by rw [fault]; rfl⟩
    · exact ⟨only, by rw [ended]; rfl, by rw [ended]; rfl, fun h => by omega, fun _ => by rw [ended]; rfl⟩

/-! Diagnostics (R456 to R458). -/

theorem execUpcCompliance_completes (n : Nat) (s : State) (hu : hasUpc s = true) (hn : n < 4)
    (hh : heldFor s (procChan s n).headSince (msT (pv s 0x0B05 n 0 2 500)) = true)
    (hc : (procChan s n).compliance = false) : ∃ t, execUpcCompliance n s = .next t ∧ Only [.upc, .evr, .hlt] s t ∧
      (procChan t n).compliance = true ∧ detOn t 0x19 n = true := by
  refine ⟨_, rfl, ?_⟩
  rw [upcCompliance, if_pos (by simp [hu, hn, hh, hc])]
  exact ⟨chanFault_only _ _ _ _ s, congrArg ProcChan.compliance (procChan_chanFault 0x19 n _ _ s hn), chanFault_detOn _ _ _ _ s⟩

theorem execUpcSignalRange_completes (n : Nat) (s : State) (hu : hasUpc s = true) (hn : n < 4)
    (hh : heldFor s (procChan s n).rangeSince (msT (pv s 0x0B05 n 2 2 1000)) = true) (hr : (procChan s n).range = false) :
    ∃ t, execUpcSignalRange n s = .next t ∧ Only [.upc, .evr, .hlt] s t ∧ (procChan t n).range = true ∧
      detOn t 0x1A n = true := by
  refine ⟨_, rfl, ?_⟩
  rw [upcSignalRange, if_pos (by simp [hu, hn, hh, hr])]
  exact ⟨chanFault_only _ _ _ _ s, congrArg ProcChan.range (procChan_chanFault 0x1A n n _ s hn), chanFault_detOn _ _ _ _ s⟩

theorem execUpcOpenLoop_completes (n : Nat) (s : State) (hu : hasUpc s = true) (hn : n < 4)
    (hh : heldFor s (procChan s n).openSince (msT 100) = true) (ho : (procChan s n).openLoop = false) :
    ∃ t, execUpcOpenLoop n s = .next t ∧ (procChan t n).openLoop = true ∧ detOn t 0x18 n = true ∧
      procValidity t n = 1 := by
  have fault := procChan_chanFault 0x18 n (16 * (procChan s n).openCause + n) (fun c => { c with openLoop := true }) s hn
  have flag := congrArg ProcChan.openLoop (procChan_refreshQual n
    (chanFault 0x18 n (16 * (procChan s n).openCause + n) (fun c => { c with openLoop := true }) s) hn)
  rw [fault] at flag
  refine ⟨_, rfl, ?_⟩
  rw [upcOpenLoop, if_pos (by simp [hu, hn, hh, ho])]
  exact ⟨flag, (refreshQual_detOn n 0x18 n _).trans (chanFault_detOn _ _ _ _ s), procValidity_of_openLoop _ n flag⟩

/-- A channel after its thermocouple test. -/
def tcTested (s : State) (high : Bool) (c : ProcChan) : ProcChan :=
  { c with tcAt := td0 s, tcHigh := high, clearSince := putAt 4 c.clearSince 3 (sinceIf s (!high) (c.clearSince.getD 3 none)) }

theorem tcTest_eq (n : Nat) (high : Bool) (s : State) (hu : hasUpc s = true) (hn : n < 4) (hm : (procChan s n).mode = 5)
    (hp : pv s 0x0B05 n 4 1 1 = 1) (hd : due s (procChan s n).tcAt (secT 1) = true) : tcTest n high s =
      if ((high || injOn s 0x1B n) && !(procChan s n).tcOpen) = true then
        refreshQual n (chanFault 0x1B n n (fun c => { c with tcOpen := true }) (updChan n (tcTested s (high || injOn s 0x1B n)) s))
      else updChan n (tcTested s (high || injOn s 0x1B n)) s := by
  rw [tcTest, if_pos (by simp [hu, hn, hm, hp, hd])]
  rfl

theorem execTcTest_completes (n : Nat) (s : State) (hu : hasUpc s = true) (hn : n < 4) (high : Bool)
    (hm : (procChan s n).mode = 5) (hp : pv s 0x0B05 n 4 1 1 = 1) (hd : due s (procChan s n).tcAt (secT 1) = true) :
    ∃ t, execTcTest n high s = .next t ∧ (procChan t n).tcAt = td0 s ∧
      (procChan t n).tcHigh = (high || injOn s 0x1B n) ∧
      (high = true → (procChan s n).tcOpen = false → (procChan t n).tcOpen = true ∧ detOn t 0x1B n = true) := by
  have tested := procChan_updChan n (tcTested s (high || injOn s 0x1B n)) s hn
  refine ⟨_, rfl, ?_⟩
  rw [tcTest_eq n high s hu hn hm hp hd]
  generalize updChan n (tcTested s (high || injOn s 0x1B n)) s = a at tested ⊢
  split
  next =>
    have fault := procChan_refreshQual n (chanFault 0x1B n n (fun c => { c with tcOpen := true }) a) hn
    rw [procChan_chanFault 0x1B n n _ a hn, tested] at fault
    exact ⟨by rw [fault]; rfl, by rw [fault]; rfl,
      fun _ _ => ⟨by rw [fault], (refreshQual_detOn n 0x1B n _).trans (chanFault_detOn _ _ _ _ a)⟩⟩
  next calm =>
    exact ⟨by rw [tested]; rfl, by rw [tested]; rfl, fun h ho => absurd (by rw [h, ho]; rfl) calm⟩

/-- The flag of a process diagnostic. -/
def diagFlag (det : Nat) (c : ProcChan) : Bool :=
  if det = 0x18 then c.openLoop else if det = 0x19 then c.compliance else if det = 0x1A then c.range
  else det == 0x1B && c.tcOpen

/-- A channel with the flag taken away. -/
def diagEnded (det : Nat) (c : ProcChan) : ProcChan :=
  if det = 0x18 then { c with openLoop := false } else if det = 0x19 then { c with compliance := false }
  else if det = 0x1A then { c with range := false } else { c with tcOpen := false }

/-- The place of a diagnostic's absence among those of its channel. -/
def diagPlace (det : Nat) : Nat := if det = 0x18 then 0 else if det = 0x19 then 1 else if det = 0x1A then 2 else 3

/-- A diagnostic absent for 1 s clears: its flag and its detector. -/
theorem execUpcDiagCleared_completes (det n : Nat) (s : State) (hu : hasUpc s = true) (hn : n < 4)
    (hf : diagFlag det (procChan s n) = true)
    (hh : heldFor s ((procChan s n).clearSince.getD (diagPlace det) none) (secT 1) = true) :
    ∃ t, execUpcDiagCleared det n s = .next t ∧
      procChan t n = { diagEnded det (procChan s n) with qual := procQual (chanCleared det n (diagEnded det) s) n } ∧
      detOn t det n = false := by
  have now : upcDiagCleared det n s = refreshQual n (chanCleared det n (diagEnded det) s) :=
    if_pos (by rw [hu, decide_eq_true hn]; exact Bool.and_eq_true_iff.mpr ⟨hf, hh⟩)
  refine ⟨_, rfl, ?_, ?_⟩
  · rw [now, procChan_refreshQual n _ hn, procChan_chanCleared det n _ s hn]
  · rw [now, refreshQual_detOn, chanCleared_detOn]

/-! The write of a mode (R446, R464). -/

theorem execUpcChModeWrite_adopts (r : Req) (n : Nat) (v : Word) (s : State) (h : Served r 0x0011 s) (hu : hasUpc s = true)
    (hm : s.le.mode = .notStarted ∨ s.le.mode = .stop) (hj : s.pr.st ≠ .joining) (ht : s.pr.st ≠ .twin)
    (hv : getFld v.toNat 0 4 ≤ 7) (hs : tableServes s n (getFld v.toNat 0 4) (getFld v.toNat 8 4) = true) :
    execUpcChModeWrite r n v s = .next (answerWrite r .ok
      (updChan n (fun c => { c with newMode := some (getFld v.toNat 0 4, getFld v.toNat 4 4, getFld v.toNat 8 4) }) s)) := by
  have stopped : (s.le.mode == .notStarted || s.le.mode == .stop) = true := by
    rcases hm with h | h <;> rw [h] <;> rfl
  have written : writeChMode n v.toNat s = (updChan n (fun c => { c with
      newMode := some (getFld v.toNat 0 4, getFld v.toNat 4 4, getFld v.toNat 8 4) }) s, .ok) := by
    unfold writeChMode
    dsimp only
    rw [if_neg (by simp [hu]), if_neg (by simp [stopped, hj, ht]), if_neg (by simp [hv, hs])]
  rw [execUpcChModeWrite, serveWrite_served r s _ h, written]

/-- Settles O43, row by row: every diagnostic is a `chanFault` or ends as a `chanCleared`, and judging the quality again
leaves its flag. -/
theorem processChannelRowsComplete : Obligations.ProcessChannelRowsComplete := by
  refine ⟨fun n s hu hn => ⟨execReadbackVerification_completes n s hu hn, execUpcReadbackMismatch_completes n s hu hn,
    execReadbackMismatchClear_completes n s hu hn, execOutputStartupTest_completes n s hu hn,
    execUpcCompliance_completes n s hu hn, execUpcOpenLoop_completes n s hu hn, execUpcSignalRange_completes n s hu hn,
    execTcTest_completes n s hu hn, fun hf hh => ?_, fun hf hh => ?_, fun hf hh => ?_, fun hf hh => ?_⟩,
    execUpcChModeWrite_adopts⟩
  · obtain ⟨t, now, chan, det⟩ := execUpcDiagCleared_completes 0x18 n s hu hn hf hh
    exact ⟨t, now, by rw [chan]; rfl, det⟩
  · obtain ⟨t, now, chan, det⟩ := execUpcDiagCleared_completes 0x19 n s hu hn hf hh
    exact ⟨t, now, by rw [chan]; rfl, det⟩
  · obtain ⟨t, now, chan, det⟩ := execUpcDiagCleared_completes 0x1A n s hu hn hf hh
    exact ⟨t, now, by rw [chan]; rfl, det⟩
  · obtain ⟨t, now, chan, det⟩ := execUpcDiagCleared_completes 0x1B n s hu hn hf hh
    exact ⟨t, now, by rw [chan]; rfl, det⟩

end Sys2Proof.Machine
end

section
/-! PROOFS. The recorder's reel (R492, R496): a state in which the record that has been drained is overwritten before it stands
written on the reel. -/

namespace Sys2Proof.Machine
open Sys2Proof

/-- A record of number 5 that drains. -/
def drainingRecord : Record := { (default : Record) with id := 5, state := 1 }

/-- A written record of the same number. -/
def writtenRecord (bytes : List Byte) : Record := { (default : Record) with id := 5, state := 2, bytes := bytes }

/-- A reel on which both stand. Nothing in the statement keeps the numbers of a reel apart. -/
def sharedNumberReel (bytes : List Byte) : State :=
  { State.reset with dr := { State.reset.dr with reel := [drainingRecord, writtenRecord bytes] } }

theorem reel_shared (bytes : List Byte) : (sharedNumberReel bytes).dr.reel = [drainingRecord, writtenRecord bytes] := rfl

theorem reelBytes_shared (bytes : List Byte) : reelBytes [drainingRecord, writtenRecord bytes] = bytes.length :=
  Nat.zero_add _

/-- One round of the making of room. -/
def roomRound (n : Nat) (s : State) : State := if fitsReel 0 n s then s else dropOldest s

/-- The count of the reel's space leaves its records. -/
theorem reel_with_usedMib (s : State) (m : Nat) : ({ s with dr := { s.dr with usedMib := m } } : State).dr.reel = s.dr.reel := rfl

theorem makeRoom_reel (n : Nat) (s : State) :
    (makeRoom 0 n s).dr.reel = ((List.range s.dr.reel.length).foldl (fun s _ => roomRound n s) s).dr.reel := by
  unfold makeRoom
  exact reel_with_usedMib _ _

theorem dropOldest_shared (bytes : List Byte) : (dropOldest (sharedNumberReel bytes)).dr.reel = [] := by
  have found : ((sharedNumberReel bytes).dr.reel.filter (fun r => r.state == 2 || r.state == 3)).getLast? =
    some (writtenRecord bytes) := rfl
  unfold dropOldest
  rw [found]
  dsimp only
  rw [submit_dr]
  rfl

/-- More bytes than the reel holds: the oldest written record has to go, and with its number goes the draining one. -/
theorem roomRound_shared (n : Nat) (bytes : List Byte) (h : 7168 * 2 ^ 20 < bytes.length) :
    (roomRound n (sharedNumberReel bytes)).dr.reel = [] := by
  have full : fitsReel 0 n (sharedNumberReel bytes) = false := by
    rw [fitsReel, reel_shared, reelBytes_shared, decide_eq_false (Nat.not_le.mpr (Nat.lt_add_right n h)), Bool.and_false]
  rw [roomRound, full, if_neg Bool.false_ne_true, dropOldest_shared]

theorem roomRound_empty (n : Nat) (s : State) (h : s.dr.reel = []) : (roomRound n s).dr.reel = [] := by
  unfold roomRound
  split
  · exact h
  · rw [dropOldest, h]
    exact h

theorem makeRoom_shared (n : Nat) (bytes : List Byte) (h : 7168 * 2 ^ 20 < bytes.length) :
    (makeRoom 0 n (sharedNumberReel bytes)).dr.reel = [] := by
  rw [makeRoom_reel]
  exact roomRound_empty n _ (roomRound_shared n bytes h)

/-- Its data drained, no record of the number is left on the reel. -/
theorem reelDrainDone_shared (bytes : List Byte) (h : 7168 * 2 ^ 20 < bytes.length) :
    (reelDrainDone 5 0 0 (sharedNumberReel bytes)).dr.reel = [] := by
  have room := makeRoom_shared (recordNow (sharedNumberReel bytes) drainingRecord).length bytes h
  have found : (sharedNumberReel bytes).dr.reel.find? (fun r => r.id == 5 && r.state == 1) = some drainingRecord := rfl
  unfold reelDrainDone
  rw [found]
  dsimp only
  rw [room, List.map_nil]

/-- Refutes O45: on a reel with a draining and a written record of one number and no room left, `makeRoom` overwrites both, so
that REEL_DRAIN_DONE leaves no written record of the number. -/
theorem not_recorderRowsComplete : ¬ Obligations.RecorderRowsComplete := by
  intro h
  obtain ⟨-, -, -, -, -, -, drains, -⟩ := h
  have more : 7168 * 2 ^ 20 < (List.replicate (7168 * 2 ^ 20 + 1) (0 : Byte)).length := by
    rw [List.length_replicate]
    exact Nat.lt_succ_self _
  obtain ⟨t, ht, -, -, -, -, x, hx, -⟩ := drains 5 0 0 drainingRecord
    (sharedNumberReel (List.replicate (7168 * 2 ^ 20 + 1) 0)) rfl
  injection ht with done
  change x ∈ t.dr.reel at hx
  rw [← done, reelDrainDone_shared _ more] at hx
  exact List.not_mem_nil hx

end Sys2Proof.Machine
end

section
/-! PROOFS. The event recorder (R507 to R521): what the submission of events leaves of it, what the entry of a record does, then
the rows. -/

namespace Sys2Proof.Machine
open Sys2Proof

/-! Submitting an event leaves the records, the buckets and the commit in progress, and takes nothing from the queue. -/

/-- The records and their numbers, the rate limits' buckets, the commit in progress. -/
def entries (s : State) : List Rec × Nat × List Bucket × Nat × Nat × Nat × Bool :=
  (s.evr.front, s.evr.newest, s.evr.buckets, s.evr.committed, s.evr.commitCnt, s.evr.commitLeft, s.evr.committing)

/-- The entries stand as before, and what waited for its entry still waits. -/
structure KeepsEntries (s t : State) : Prop where
  same : entries t = entries s
  queue : s.evr.subq <+: t.evr.subq

theorem KeepsEntries.refl (s : State) : KeepsEntries s s := ⟨rfl, List.prefix_rfl⟩

theorem KeepsEntries.trans {a b c : State} (h : KeepsEntries a b) (k : KeepsEntries b c) : KeepsEntries a c :=
  ⟨k.same.trans h.same, h.queue.trans k.queue⟩

theorem KeepsEntries.ite {s a b : State} (c : Prop) [Decidable c] (ha : KeepsEntries s a) (hb : KeepsEntries s b) :
    KeepsEntries s (if c then a else b) := by
  split
  · exact ha
  · exact hb

theorem KeepsEntries.trans_ite {s a b : State} (c : Prop) [Decidable c] (h : KeepsEntries s b) (k : KeepsEntries b a) :
    KeepsEntries s (if c then a else b) := KeepsEntries.ite c (h.trans k) h

theorem KeepsEntries.foldl {α : Type} (g : State → α → State) (l : List α) (s : State)
    (h : ∀ s a, KeepsEntries s (g s a)) : KeepsEntries s (l.foldl g s) := by
  induction l generalizing s with
  | nil => exact KeepsEntries.refl s
  | cons a l ih => exact (h s a).trans (ih (g s a))

theorem KeepsEntries.of_evr {s t : State} (h : t.evr = s.evr) : KeepsEntries s t :=
  ⟨by rw [entries, h, entries], by rw [h]⟩

theorem KeepsEntries.of_only {ps : List Part} {s t : State} (h : Only ps s t) (k : Part.evr ∉ ps) : KeepsEntries s t :=
  .of_evr (h.same .evr k)

theorem emit_keepsEntries (b : Block) (e : Event) (s : State) : KeepsEntries s (emit b e s) :=
  KeepsEntries.ite _ ⟨rfl, List.prefix_rfl⟩
    (KeepsEntries.ite _ ⟨rfl, List.prefix_rfl⟩ ⟨rfl, List.prefix_append _ _⟩)

theorem submit_keepsEntries (b : Block) (c v : Nat) (s : State) : KeepsEntries s (submit b c v s) :=
  emit_keepsEntries b _ s

/-! The recorder's firings (R472 to R479). -/

theorem opening_keepsEntries (f : Firing) (s : State) : KeepsEntries s (opening f s) := by
  have dr : ∀ (a : State) (v : Dr), KeepsEntries a { a with dr := v } := fun _ _ => .of_evr rfl
  unfold opening
  refine KeepsEntries.ite _ (KeepsEntries.refl s) (KeepsEntries.ite _ ((dr _ _).trans (submit_keepsEntries _ _ _ _)) ?_)
  split
  · exact ((dr s _).trans (.of_only (recMark_only _ _ _ _) (by decide))).trans (.of_only (digNote_only _ _ _) (by decide))
  · exact dr _ _
  · refine KeepsEntries.ite _ ?_ (KeepsEntries.refl s)
    split
    · exact dr _ _
    · exact dr _ _

theorem unitActs_keepsEntries (u t1 : Nat) (c : UnitCfg) (s : State) : KeepsEntries s (unitActs u t1 c s) := by
  unfold unitActs
  refine KeepsEntries.ite _ (.of_evr rfl) (KeepsEntries.ite _ ?_ (opening_keepsEntries _ s))
  split
  · exact opening_keepsEntries _ s
  · exact KeepsEntries.refl s

theorem fireUnit_keepsEntries (u t1 : Nat) (s : State) : KeepsEntries s (fireUnit u t1 s) := by
  unfold fireUnit
  split
  · exact KeepsEntries.refl s
  · refine KeepsEntries.trans ?_ (KeepsEntries.ite _ (KeepsEntries.refl _)
      ((KeepsEntries.of_only (sendAgree_only _ _ _ _) (by decide)).trans (unitActs_keepsEntries _ _ _ _)))
    exact .of_only ((((updUnit_logs _ _ s).1.trans (State.with_dr_only _ _)).seq (raiseTrig_only _ _ _ _ _ _)).mono
      (qs := [.dr, .le]) (by decide)) (by decide)

theorem fireUnits_keepsEntries (us : List Nat) (t1 : Nat) (s : State) : KeepsEntries s (fireUnits us t1 s) :=
  KeepsEntries.foldl _ us s fun s u => fireUnit_keepsEntries u t1 s

theorem patternUnits_keepsEntries (t1 : Nat) (s : State) : KeepsEntries s (patternUnits t1 s) := by
  refine KeepsEntries.foldl _ _ s fun s u => ?_
  split
  · exact KeepsEntries.ite _ (KeepsEntries.trans_ite _ (.of_evr rfl) (fireUnit_keepsEntries _ _ _)) (KeepsEntries.refl s)
  · exact KeepsEntries.refl s

theorem binSet_keepsEntries (cls index : Nat) (st ok est gap : Bool) (t1 : Nat) (s : State) :
    KeepsEntries s (binSet cls index st ok est gap t1 s) :=
  KeepsEntries.ite _ (KeepsEntries.refl s) ((KeepsEntries.of_only (State.with_dr_only s _) (by decide)).trans
    (KeepsEntries.ite _ (KeepsEntries.refl _) (patternUnits_keepsEntries t1 _)))

theorem binPulse_keepsEntries (cls index t1 : Nat) (s : State) : KeepsEntries s (binPulse cls index t1 s) :=
  (binSet_keepsEntries _ _ _ _ _ _ _ s).trans (binSet_keepsEntries _ _ _ _ _ _ _ _)

theorem recEvent_keepsEntries (e : Event) (s : State) : KeepsEntries s (recEvent e s) := by
  have clear : ∀ d t1 (a : State), KeepsEntries a (binsClear d t1 a) := fun d t1 a =>
    KeepsEntries.foldl _ _ a fun b _ => KeepsEntries.ite _ (KeepsEntries.refl b) (binSet_keepsEntries _ _ _ _ _ _ _ b)
  unfold recEvent
  refine KeepsEntries.trans ?_ (clear _ _ _)
  split
  · exact KeepsEntries.refl s
  · exact (fireUnits_keepsEntries _ _ s).trans
      (KeepsEntries.ite _ (binPulse_keepsEntries _ _ _ _) (binSet_keepsEntries _ _ _ _ _ _ _ _))

/-! Records enter the front buffer (R507, R513). -/

theorem commitTrigger_keepsEntries (s : State) : KeepsEntries s (commitTrigger s) :=
  KeepsEntries.ite _ ⟨rfl, List.prefix_rfl⟩ ⟨rfl, List.prefix_rfl⟩

theorem thaw_keepsEntries (cause : Nat) (s : State) : KeepsEntries s (thaw cause s) := by
  unfold thaw
  dsimp only
  refine KeepsEntries.trans ?_ (submit_keepsEntries _ _ _ _)
  exact ⟨rfl, List.prefix_rfl⟩

theorem notify_keepsEntries (rs : List Rec) (s : State) : KeepsEntries s (notify rs s) :=
  .of_only (notify_only rs s) (by decide)

/-- A record and its companions have entered: they stand after those present, with the numbers after the newest. -/
structure Enters (s t : State) : Prop where
  front : ∃ x xs, t.evr.front = s.evr.front ++ x :: xs ∧ x.seq = s.evr.newest + 1
  newest : s.evr.newest < t.evr.newest
  buckets : t.evr.buckets = s.evr.buckets
  commit : (t.evr.committed, t.evr.commitCnt, t.evr.commitLeft, t.evr.committing) =
    (s.evr.committed, s.evr.commitCnt, s.evr.commitLeft, s.evr.committing)
  queue : s.evr.subq <+: t.evr.subq

theorem Enters.keeps {a b c : State} (h : Enters a b) (k : KeepsEntries b c) : Enters a c := by
  obtain ⟨same, queue⟩ := k
  simp only [entries, Prod.mk.injEq] at same
  obtain ⟨front, newest, buckets, done, count, left, on⟩ := same
  exact ⟨by rw [front]; exact h.front, by rw [newest]; exact h.newest, buckets.trans h.buckets,
    by rw [done, count, left, on]; exact h.commit, h.queue.trans queue⟩

theorem enterRecs_enters (parent : Rec) (parts : List (List Byte)) (s : State) : Enters s (enterRecs parent parts s) := by
  unfold enterRecs
  extract_lets room kept seq p q comps rs newest front u a b c
  have numbered : Enters s a := ⟨⟨p, comps, rfl, rfl⟩, Nat.lt_of_lt_of_le (Nat.lt_succ_self _) (Nat.le_add_right _ _), rfl, rfl,
    List.prefix_rfl⟩
  exact ((numbered.keeps (KeepsEntries.ite _ (commitTrigger_keepsEntries a) (KeepsEntries.refl a))).keeps
    (KeepsEntries.ite _ (thaw_keepsEntries 3 b) (KeepsEntries.refl b))).keeps (notify_keepsEntries rs c)

theorem summaryRec_enters (kind code count : Nat) (first : Nat × Nat × Nat) (last : Nat × Nat) (s : State) :
    Enters s (summaryRec kind code count first last s) := enterRecs_enters _ _ s

theorem writeLost_of_not_owed (s : State) (h : s.evr.owed = false) : writeLost s = s := if_neg (by simp [h])

/-! The entry of an event (R507). -/

theorem takeToken_of_none (e : Event) (s : State) (h : rateLimit s e = none) : takeToken e s = (true, s) := by
  rw [takeToken, h]

/-- With room, no LOST record owed and no rate limit an event enters with the next number. -/
theorem enterEvent_enters (e : Event) (s : State) (ho : s.evr.owed = false) (hf : s.evr.front.length < 4096)
    (hr : rateLimit s e = none) : Enters s (enterEvent e s) := by
  have room : ¬ (s.evr.owed = true ∨ 4096 ≤ s.evr.front.length) := by simp [ho, hf]
  unfold enterEvent
  rw [writeLost_of_not_owed s ho]
  dsimp only
  rw [if_neg room, takeToken_of_none e s hr]
  dsimp only
  rw [if_neg (by decide), if_neg room]
  exact (enterRecs_enters _ _ s).keeps (KeepsEntries.ite _ (commitTrigger_keepsEntries _) (KeepsEntries.refl _))

theorem execEventEntry_empty (s : State) (h : s.evr.subq = []) : execEventEntry s = .next (writeLost s) := by
  rw [execEventEntry, eventEntry, h]
  rfl

theorem execEventEntry_enters (b : Block) (e : Event) (s : State) (hb : lowestCode (entryHeads s.evr.subq) = some (b, e))
    (ho : s.evr.owed = false) (hf : s.evr.front.length < 4096) (hr : rateLimit s e = none) :
    ∃ t, execEventEntry s = .next t ∧ s.evr.subq.erase (b, e) <+: t.evr.subq ∧ s.evr.newest < t.evr.newest ∧
      s.evr.front <+: t.evr.front ∧ (t.evr.front.drop s.evr.front.length).head?.map (·.seq) = some (s.evr.newest + 1) := by
  refine ⟨_, rfl, ?_⟩
  rw [eventEntry, hb]
  have entered := (enterEvent_enters e { s with evr := { s.evr with subq := s.evr.subq.erase (b, e) } } ho hf hr).keeps
    (recEvent_keepsEntries e _)
  obtain ⟨⟨x, xs, front, seq⟩, newest, -, -, queue⟩ := entered
  refine ⟨queue, newest, ?_⟩
  rw [front]
  refine ⟨List.prefix_append _ _, ?_⟩
  rw [List.drop_left, List.head?_cons, Option.map_some, seq]

/-! The buckets of the rate limits (R511, R512). -/

theorem bucketOf_code (s : State) (code depth : Nat) : (bucketOf s code depth).code = code := by
  unfold bucketOf
  cases h : s.evr.buckets.find? (fun (b : Bucket) => b.code == code) with
  | none => rfl
  | some b => exact eq_of_beq (List.find?_some (p := fun (b : Bucket) => b.code == code) h)

theorem bucketOf_of_buckets {s t : State} (h : t.evr.buckets = s.evr.buckets) (code depth : Nat) :
    bucketOf t code depth = bucketOf s code depth := by rw [bucketOf, h, bucketOf]

/-- A bucket put back is found again, a full one with nothing to summarise as a new one. -/
theorem bucketOf_putBucket (b : Bucket) (code depth : Nat) (s : State) (h : b.code = code) :
    bucketOf (putBucket b depth s) code depth =
      if depth ≤ b.tokens ∧ b.supp = 0 then { (default : Bucket) with code := code, tokens := depth } else b := by
  have gone : (s.evr.buckets.filter (fun (x : Bucket) => x.code != b.code)).find? (fun (x : Bucket) => x.code == code) = none := by
    rw [List.find?_eq_none]
    intro x hx
    have other := (List.mem_filter.mp hx).2
    rw [h] at other
    simpa using other
  show (List.find? _ (if depth ≤ b.tokens ∧ b.supp = 0 then _ else _)).getD _ = _
  split
  · rw [gone]
    rfl
  · rw [List.find?_append, gone]
    simp [h]

theorem suppressedRecord_bucket (code depth : Nat) (s : State) :
    bucketOf (suppressedRecord code depth s) code depth = bucketOf s code depth ∨
      bucketOf (suppressedRecord code depth s) code depth = bucketOf
        (putBucket { bucketOf s code depth with supp := 0, sumAt := td0 s } depth s) code depth := by
  unfold suppressedRecord
  dsimp only
  split
  · exact .inl rfl
  · exact .inr (bucketOf_of_buckets (summaryRec_enters _ _ _ _ _ _).buckets code depth)

/-- A full bucket stays full when its suppressions are summarised. -/
theorem suppressedRecord_tokens (code depth : Nat) (s : State) (h : (bucketOf s code depth).tokens = depth) :
    (bucketOf (suppressedRecord code depth s) code depth).tokens = depth := by
  have put := bucketOf_putBucket { bucketOf s code depth with supp := 0, sumAt := td0 s } code depth s
    (bucketOf_code s code depth)
  rcases suppressedRecord_bucket code depth s with k | k
  · rw [k, h]
  · rw [k, put, if_pos ⟨h.ge, rfl⟩]

theorem execRateRefill_completes (code depth period n : Nat) (b : List Byte) (s : State) (hb : prm s 0x0801 code = some b)
    (hd : depth = leAt b 0 2) (hp : period = leAt b 4 4)
    (hn : n = (td0 s - (bucketOf s code depth).refillAt) / msT (max 1 period))
    (hh : s.evr.buckets.any (fun (x : Bucket) => x.code == code) = true) (h0 : 0 < n)
    (ht : (bucketOf s code depth).tokens < depth) : ∃ t, execRateRefill code s = .next t ∧
      (bucketOf t code depth).tokens = min depth ((bucketOf s code depth).tokens + n) := by
  refine ⟨refill code depth period s, by rw [execRateRefill, hb, hd, hp]; exact congrArg _ (if_pos hh), ?_⟩
  unfold refill
  dsimp only
  rw [← hn, if_neg (by omega), if_neg (by omega)]
  have put := bucketOf_putBucket { bucketOf s code depth with
    tokens := min depth ((bucketOf s code depth).tokens + n)
    refillAt := (bucketOf s code depth).refillAt + n * msT (max 1 period) } code depth s (bucketOf_code s code depth)
  generalize putBucket _ depth s = a at put ⊢
  have tokens : (bucketOf a code depth).tokens = min depth ((bucketOf s code depth).tokens + n) := by
    rw [put]
    split
    next full => exact (Nat.le_antisymm full.1 (Nat.min_le_left _ _))
    next => rfl
  split
  next full =>
    have all := Nat.le_antisymm (Nat.min_le_left _ _) full
    rw [suppressedRecord_tokens code depth a (tokens.trans all), all]
  next => exact tokens

theorem execSuppressedSummary60s_completes (code depth : Nat) (b : List Byte) (s : State) (hb : prm s 0x0801 code = some b)
    (hd : depth = leAt b 0 2) (hs : due s (bucketOf s code depth).sumAt (secT 60) = true)
    (hc : (bucketOf s code depth).supp ≠ 0) (hf : s.evr.front.length < 4096) (ho : s.evr.owed = false) :
    ∃ t, execSuppressedSummary60s code s = .next t ∧ (bucketOf t code depth).supp = 0 ∧ s.evr.newest < t.evr.newest := by
  refine ⟨suppressedRecord code depth s, ?_, ?_⟩
  · rw [execSuppressedSummary60s, hb]
    rw [hd] at hs ⊢
    exact congrArg _ (if_pos hs)
  · unfold suppressedRecord
    dsimp only
    rw [if_neg (by simp [hc, hf, ho])]
    have put := bucketOf_putBucket { bucketOf s code depth with supp := 0, sumAt := td0 s } code depth s (bucketOf_code s code depth)
    have newest : (putBucket { bucketOf s code depth with supp := 0, sumAt := td0 s } depth s).evr.newest = s.evr.newest := rfl
    generalize putBucket _ depth s = a at put newest ⊢
    have entered := summaryRec_enters 2 code (bucketOf s code depth).supp (bucketOf s code depth).first
      (bucketOf s code depth).last a
    refine ⟨?_, newest ▸ entered.newest⟩
    rw [bucketOf_of_buckets entered.buckets, put]
    split
    · rfl
    · rfl

/-! Commits (R513, R514). -/

theorem isEmpty_eq_false {α : Type} {l : List α} (h : l ≠ []) : l.isEmpty = false := by
  rw [List.isEmpty_eq_false_iff]
  exact h

theorem execCommitPeriod_triggers (s : State) (hf : s.evr.front ≠ []) (hd : due s s.evr.commitAt (secT 1) = true) :
    execCommitPeriod s = .next { s with evr :=
      if s.evr.freeze.isSome then { s.evr with flushPend := true } else { s.evr with commitPend := true } } := by
  rw [execCommitPeriod, if_pos (by simp [isEmpty_eq_false hf, hd]), commitTrigger]
  split
  · rfl
  · rfl

theorem execCommitStart_starts (s : State) (hp : s.evr.commitPend = true) (hc : s.evr.committing = false)
    (hz : s.evr.freeze = none) (hf : s.fl.running = false) (hr : s.cmd.restarting = none) :
    execCommitStart s = .next { s with evr := { s.evr with
      commitPend := false, committing := !s.evr.front.isEmpty, commitLeft := s.evr.front.length } } := by
  rw [execCommitStart, if_pos (by simp [hp, hc, hz, hf, hr])]

/-- The commit in progress. -/
def commitMarks (s : State) : Nat × Nat × Nat × Bool :=
  (s.evr.committed, s.evr.commitCnt, s.evr.commitLeft, s.evr.committing)

theorem KeepsEntries.commitMarks_eq {s t : State} (h : KeepsEntries s t) : commitMarks t = commitMarks s :=
  congrArg (fun x => x.2.2.2) h.same

theorem writeLost_commitMarks (s : State) : commitMarks (writeLost s) = commitMarks s := by
  unfold writeLost
  split
  · exact (foldl_keeps commitMarks _ _ _ fun s d => (summaryRec_enters _ _ _ _ _ s).commit).trans rfl
  · rfl

theorem reclaim_commitMarks (n : Nat) (s : State) : commitMarks (reclaim n s) = commitMarks s := by
  unfold reclaim
  split
  · rfl
  · exact (submit_keepsEntries _ _ _ _).commitMarks_eq.trans rfl

/-- A page of records is committed up to its last one. -/
theorem commitPage_completes (n : Nat) (s : State) (x : Rec) (h : (s.evr.front.take n).getLast? = some x) :
    commitMarks (commitPage n s) = (x.seq, satInc 32 s.evr.commitCnt, s.evr.commitLeft, s.evr.committing) := by
  unfold commitPage
  dsimp only
  cases hp : s.evr.front.take n with
  | nil => rw [hp] at h; exact absurd h (by simp)
  | cons r0 rs =>
    rw [hp] at h
    have room := reclaim_commitMarks ((r0 :: rs).length + 1) s
    dsimp only
    generalize reclaim _ s = a at room ⊢
    simp only [commitMarks, Prod.mk.injEq] at room ⊢
    obtain ⟨-, count, left, on⟩ := room
    exact ⟨by rw [h]; rfl, by rw [count], left, on⟩

theorem execPageCommitComplete_completes (s : State) (x : Rec) (hc : s.evr.committing = true)
    (hx : (s.evr.front.take (min 256 s.evr.commitLeft)).getLast? = some x) :
    ∃ t, execPageCommitComplete s = .next t ∧ t.evr.committed = x.seq ∧ t.evr.commitCnt = satInc 32 s.evr.commitCnt ∧
      t.evr.commitLeft = s.evr.commitLeft - min 256 s.evr.commitLeft ∧
      t.evr.committing = decide (256 < s.evr.commitLeft) := by
  refine ⟨_, rfl, ?_⟩
  unfold pageComplete
  rw [if_neg (by simp [hc])]
  have page := commitPage_completes (min 256 s.evr.commitLeft) s x hx
  dsimp only
  generalize commitPage _ s = a at page ⊢
  simp only [commitMarks, Prod.mk.injEq] at page
  obtain ⟨done, count, left, -⟩ := page
  have lost := writeLost_commitMarks { a with evr := { a.evr with
    commitLeft := a.evr.commitLeft - min 256 s.evr.commitLeft
    committing := decide (0 < a.evr.commitLeft - min 256 s.evr.commitLeft)
    commitAt := if a.evr.commitLeft - min 256 s.evr.commitLeft = 0 then td0 a else a.evr.commitAt } }
  simp only [commitMarks, Prod.mk.injEq] at lost
  obtain ⟨done', count', left', on'⟩ := lost
  refine ⟨done'.trans done, count'.trans count, left'.trans (by rw [left]), on'.trans ?_⟩
  rw [left]
  exact decide_eq_decide.mpr (by omega)

/-! Reading and freeze (R519 to R521). -/

theorem execEvrRead_answers (r : Req) (from_ max_ options : Nat) (s : State) (hv : Served r 0x0070 s) (h1 : 1 ≤ max_)
    (h2 : max_ ≤ 63) : execEvrRead r from_ max_ options s = .next (respond r 0x0070 .ok
      (decide (max_ < ((s.evr.log ++ (if options % 2 = 1 then s.evr.front else [])).filter (fun (x : Rec) =>
        x.kind != 4 && decide (Nat.max from_ s.evr.first ≤ x.seq))).length)) (evrBounds s ++
      ((((s.evr.log ++ (if options % 2 = 1 then s.evr.front else [])).filter (fun (x : Rec) => x.kind != 4 &&
        decide (Nat.max from_ s.evr.first ≤ x.seq))).take max_).flatMap recBytes)) s) := by
  rw [execEvrRead, evrRead, serve_served r _ s _ hv, if_neg (by omega)]

/-- What an event leaves of the freeze and the commits that wait. -/
def freezeMarks (s : State) : Option (Nat × Nat) × Bool × Bool × Bool × List Rec :=
  (s.evr.freeze, s.evr.flushPend, s.evr.commitPend, s.evr.committing, s.evr.front)

theorem submit_freezeMarks (b : Block) (c v : Nat) (s : State) : freezeMarks (submit b c v s) = freezeMarks s := by
  unfold submit emit
  split
  · rfl
  · split
    · rfl
    · rfl

theorem execEvrFreeze_freezes (r : Req) (s : State) (hv : Served r 0x0071 s) (hz : s.evr.freeze = none) :
    ∃ t, execEvrFreeze r s = .next t ∧ Only [.evr, .cmd, .pads] s t ∧ t.evr.freeze = some (r.session, td0 s) ∧
      t.evr.flushPend = (s.evr.committing || s.evr.commitPend) ∧ t.evr.committing = false ∧
      t.evr.front = s.evr.front := by
  rw [execEvrFreeze, evrFreeze, serve_served r _ s _ hv, hz]
  refine ⟨_, rfl, (((State.with_evr_only s _).trans (submit_only _ _ _ _)).seq (respond_only _ _ _ _ _ _)).mono (by decide), ?_⟩
  have marks := submit_freezeMarks .evr 0x0201 r.session { s with evr := { s.evr with
    freeze := some (r.session, td0 s), flushPend := s.evr.committing || s.evr.commitPend, commitPend := false
    committing := false, commitLeft := if s.fl.running then s.evr.commitLeft else 0 } }
  rw [respond_evr]
  simp only [freezeMarks, Prod.mk.injEq] at marks
  obtain ⟨held, pend, -, on, front⟩ := marks
  exact ⟨held, pend, on, front⟩

theorem thaw_thaws (cause : Nat) (s : State) : Only [.evr] s (thaw cause s) ∧ (thaw cause s).evr.freeze = none ∧
    (thaw cause s).evr.commitPend = true := by
  have marks := submit_freezeMarks .evr 0x0202 cause
    { s with evr := { s.evr with freeze := none, flushPend := false, commitPend := true } }
  simp only [freezeMarks, Prod.mk.injEq] at marks
  obtain ⟨free, -, pend, -, -⟩ := marks
  exact ⟨(thaw_logs cause s).1, free, pend⟩

theorem execEvrThaw_thaws (r : Req) (a : Nat) (s : State) (hv : Served r 0x0072 s) (hz : s.evr.freeze = some (r.session, a)) :
    ∃ t, execEvrThaw r s = .next t ∧ Only [.evr, .cmd, .pads] s t ∧ t.evr.freeze = none ∧ t.evr.commitPend = true := by
  obtain ⟨only, free, pend⟩ := thaw_thaws 1 s
  refine ⟨answer r 0x0072 .ok (thaw 1 s), ?_, only.seq (answer_only _ _ _ _), ?_⟩
  · rw [execEvrThaw, evrThaw, serve_served r _ s _ hv, hz]
    exact congrArg _ (if_pos rfl)
  · rw [answer_evr]
    exact ⟨free, pend⟩

theorem execFreezeTimeout_thaws (h a : Nat) (s : State) (hz : s.evr.freeze = some (h, a)) (hd : due s a (secT 30) = true) :
    ∃ t, execFreezeTimeout s = .next t ∧ Only [.evr] s t ∧ t.evr.freeze = none ∧ t.evr.commitPend = true := by
  refine ⟨thaw 2 s, ?_, thaw_thaws 2 s⟩
  rw [execFreezeTimeout, hz]
  exact congrArg _ (if_pos hd)

/-- Settles O46, row by row: a record enters as `Enters` says, and what events follow it leave the entries. -/
theorem eventRecorderRowsComplete : Obligations.EventRecorderRowsComplete :=
  ⟨fun s => ⟨execEventEntry_empty s, fun b e => execEventEntry_enters b e s⟩, execRateRefill_completes,
    execSuppressedSummary60s_completes,
    fun s => ⟨execCommitPeriod_triggers s, execCommitStart_starts s, execPageCommitComplete_completes s⟩,
    fun r s => ⟨fun from_ max_ options => execEvrRead_answers r from_ max_ options s, execEvrFreeze_freezes r s,
      fun a => execEvrThaw_thaws r a s⟩,
    execFreezeTimeout_thaws⟩

end Sys2Proof.Machine
end

section
/-! PROOFS. The injections (R633 to R636), HEALTH_READ and the detectors' holds (R629, R632). -/

namespace Sys2Proof.Machine
open Sys2Proof

/-! Of the pair an audit record committed first tells the standby by cells only (R522). -/

theorem binsClear_besideCells (d : Option Nat) (t1 : Nat) (s : State) : besideCells (binsClear d t1 s) = besideCells s :=
  foldl_keeps besideCells _ _ s fun s _ => by
    split
    · rfl
    · exact binSet_besideCells _ _ _ _ _ _ _ s

theorem recEvent_besideCells (e : Event) (s : State) : besideCells (recEvent e s) = besideCells s := by
  refine (binsClear_besideCells _ _ _).trans ?_
  split
  · rfl
  · have fired := fun us t1 a => foldl_keeps besideCells _ us a fun a u => fireUnit_besideCells u t1 a
    dsimp only
    split
    · exact ((binSet_besideCells _ _ _ _ _ _ _ _).trans (binSet_besideCells _ _ _ _ _ _ _ _)).trans (fired _ _ _)
    · exact (binSet_besideCells _ _ _ _ _ _ _ _).trans (fired _ _ _)

theorem auditFirst_besideCells (b : Block) (session code value : Nat) (parts : List (List Byte)) (s : State) :
    besideCells (auditFirst b session code value parts s) = besideCells s := by
  cases h : s.evr.started with
  | false =>
    obtain ⟨e, he⟩ := auditFirst_not_started b session code value parts s h
    rw [he]
    exact besideCells_of_only (emit_only b e s) (by decide)
  | true =>
    obtain ⟨e, he⟩ := auditFirst_started b session code value parts s h
    have entered : Only [.evr, .cmd, .pads] s (enterEvent e (writeLost (commitAll s))) :=
      (((commitAll_only s).seq (writeLost_logs _).1).seq (enterEvent_logs e _).1).mono (by decide)
    rw [he, besideCells_of_only (commitAll_only _) (by decide), recEvent_besideCells]
    exact besideCells_of_only entered (by decide)

/-- The pair's state, its role and what it has agreed for coming waves. -/
def agreedFor (s : State) : PairSt × Bool × List (Nat × Nat × List Nat) := (s.pr.st, s.pr.active, s.pr.sched)

theorem agreedFor_of_besideCells {s t : State} (h : besideCells t = besideCells s) : agreedFor t = agreedFor s :=
  (congrArg (fun p : Pair => (p.st, p.active, p.sched)) h :)

theorem schedTwin_only (code : Nat) (vals : List Nat) (s : State) : Only [.pr] s (schedTwin code vals s) :=
  State.with_pr_only s _

/-! INJ_ARM (R633 to R635). -/

/-- The injection that an INJ_ARM's body describes, in a slot. -/
def injOf (slot session : Nat) (body : List Byte) : Inj :=
  ⟨slot, leAt body 0 1, leAt body 1 1, leAt body 2 1, leAt body 4 4, leAt body 8 4, leAt body 12 2, leAt body 12 2 == 0,
    session, false, 0⟩

/-- What the partner has to know of it. -/
def injVals (slot : Nat) (body : List Byte) : List Nat :=
  [slot, leAt body 0 1, leAt body 1 1, leAt body 2 1, leAt body 4 4, leAt body 8 4, leAt body 12 2]

/-- The wave at which an injection armed now takes effect. -/
def injWave (s : State) : Nat := if s.pr.st = .twin then namedWave s else (s.acq.wave + 1) % 2 ^ 32

/-- The injection held, and named to both lanes of TWIN or to this lane alone. -/
def injHeld (slot session : Nat) (body : List Byte) (s : State) : State :=
  let s := refreshPads { s with hlt := { s.hlt with inj := s.hlt.inj ++ [injOf slot session body] } }
  if s.pr.st = .twin then schedTwin 11 (injVals slot body) s
  else { s with pr := { s.pr with sched := s.pr.sched ++ [(injWave s, 11, injVals slot body)] } }

theorem injHeld_completes (slot session : Nat) (body : List Byte) (s : State) :
    (injHeld slot session body s).hlt.inj = s.hlt.inj ++ [injOf slot session body] ∧
      (injHeld slot session body s).pr.sched = s.pr.sched ++ [(injWave s, 11, injVals slot body)] := by
  unfold injHeld
  dsimp only
  split
  next twin =>
    refine ⟨rfl, ?_⟩
    have wave : injWave s = namedWave s := if_pos twin
    rw [wave]
    rfl
  next => exact ⟨rfl, rfl⟩

theorem execInjArm_accepted (r : Req) (body : List Byte) (slot : Nat) (s : State) (hv : Served r 0x0090 s)
    (hr : injRefusal (leAt body 0 1) (leAt body 1 1) (leAt body 2 1) (leAt body 4 4) (leAt body 8 4) s = none)
    (hs : (List.range 8).find? (fun k => !s.hlt.inj.any (fun (x : Inj) => x.slot == k)) = some slot) :
    ∃ w, execInjArm r body s = .next (respond r 0x0090 .ok false (leBytes 1 slot ++ zeros 3 ++ leBytes 4 w)
      (injHeld slot r.session body (auditFirst .hlt r.session 0xD020 (256 * slot + leAt body 0 1) [] s))) := by
  rw [execInjArm, serve_served r _ s _ hv]
  dsimp only
  rw [hr, hs]
  exact ⟨_, rfl⟩

theorem execInjArm_completes (r : Req) (body : List Byte) (slot : Nat) (s : State) (hv : Served r 0x0090 s)
    (hr : injRefusal (leAt body 0 1) (leAt body 1 1) (leAt body 2 1) (leAt body 4 4) (leAt body 8 4) s = none)
    (hs : (List.range 8).find? (fun k => !s.hlt.inj.any (fun (x : Inj) => x.slot == k)) = some slot) :
    ∃ t, execInjArm r body s = .next t ∧ t.hlt.inj = s.hlt.inj ++ [injOf slot r.session body] ∧
      t.pr.sched = s.pr.sched ++ [(injWave s, 11, injVals slot body)] := by
  obtain ⟨w, now⟩ := execInjArm_accepted r body slot s hv hr hs
  have audit := auditFirst_only .hlt r.session 0xD020 (256 * slot + leAt body 0 1) [] s
  have beside := agreedFor_of_besideCells (auditFirst_besideCells .hlt r.session 0xD020 (256 * slot + leAt body 0 1) [] s)
  refine ⟨_, now, ?_⟩
  rw [respond_hlt, respond_pr]
  generalize auditFirst .hlt r.session 0xD020 _ [] s = a at audit beside ⊢
  obtain ⟨held, named⟩ := injHeld_completes slot r.session body a
  simp only [agreedFor, Prod.mk.injEq] at beside
  obtain ⟨st, -, sched⟩ := beside
  have hlt : a.hlt = s.hlt := audit.same .hlt (by decide)
  have acq : a.acq = s.acq := audit.same .acq (by decide)
  have wave : injWave a = injWave s := by rw [injWave, namedWave, st, acq, injWave, namedWave]
  exact ⟨by rw [held, hlt], by rw [named, sched, wave]⟩

/-! INJ_CLEAR and the ends of injections (R636). -/

theorem endInj_only (cause : Nat) (j : Inj) (s : State) : Only [.hlt, .evr, .pads] s (endInj cause j s) :=
  (((State.with_hlt_only s _).seq (submit_only _ _ _ _)).seq (refreshPads_only _)).mono (by decide)

theorem endInj_inj (cause : Nat) (j : Inj) (s : State) :
    (endInj cause j s).hlt.inj = s.hlt.inj.filter (fun (x : Inj) => x.slot != j.slot) :=
  congrArg Health.inj (submit_hlt _ _ _ _)

/-- Those that are left have none of the slots that ended. -/
theorem mem_endInjs (cause : Nat) (js : List Inj) (x : Inj) (s : State)
    (h : x ∈ (js.foldl (fun s j => endInj cause j s) s).hlt.inj) : x ∈ s.hlt.inj ∧ ∀ j ∈ js, x.slot ≠ j.slot := by
  induction js generalizing s with
  | nil => exact ⟨h, fun _ k => absurd k List.not_mem_nil⟩
  | cons j js ih =>
    obtain ⟨mem, others⟩ := ih _ h
    rw [endInj_inj] at mem
    obtain ⟨held, slot⟩ := List.mem_filter.mp mem
    refine ⟨held, fun k hk => ?_⟩
    rcases List.mem_cons.mp hk with rfl | hk
    · simpa using slot
    · exact others k hk

/-- An INJ_CLEAR's injections. -/
def clears (det : Nat) (j : Inj) : Bool := det == 0xFF || j.det == det

theorem execInjClear_ends (r : Req) (det : Nat) (s : State) (hv : Served r 0x0091 s)
    (ht : ¬ (s.pr.st = .twin ∧ s.pr.active = true)) : ∃ t, execInjClear r det s = .next t ∧
      Only [.hlt, .evr, .pads, .cmd] s t ∧ ∀ j, j ∈ t.hlt.inj → j ∈ s.hlt.inj ∧ j.det ≠ det ∧ det ≠ 0xFF := by
  have ended : endInjs 2 (clears det) s = (s.hlt.inj.filter (clears det)).foldl (fun s j => endInj 2 j s) s := if_neg ht
  have only : Only [.hlt, .evr, .pads] s (endInjs 2 (clears det) s) := by
    rw [ended]
    exact Only.foldl _ _ _ s fun s j => endInj_only 2 j s
  refine ⟨answer r 0x0091 .ok (endInjs 2 (clears det) s), ?_, (only.seq (answer_only _ _ _ _)).mono (by decide),
    fun j hj => ?_⟩
  · rw [execInjClear, serve_served r _ s _ hv]
    rfl
  · rw [answer_hlt, ended] at hj
    obtain ⟨held, others⟩ := mem_endInjs 2 _ j s hj
    have stays : clears det j = false := by
      by_contra cleared
      exact others j (List.mem_filter.mpr ⟨held, by simpa using cleared⟩) rfl
    simp only [clears, Bool.or_eq_false_iff, beq_eq_false_iff_ne] at stays
    exact ⟨held, stays.2, stays.1⟩

theorem schedTwins_complete (js : List Inj) (cause : Nat) (s : State) :
    Only [.pr] s (js.foldl (fun s j => schedTwin 16 [j.slot, cause] s) s) ∧
      (js.foldl (fun s j => schedTwin 16 [j.slot, cause] s) s).pr.sched =
        s.pr.sched ++ js.map (fun j => (namedWave s, 16, [j.slot, cause])) := by
  induction js generalizing s with
  | nil => exact ⟨Only.refl _ s, (List.append_nil _).symm⟩
  | cons j js ih =>
    obtain ⟨only, sched⟩ := ih (schedTwin 16 [j.slot, cause] s)
    refine ⟨(schedTwin_only _ _ s).trans only, sched.trans ?_⟩
    exact List.append_assoc _ _ _

theorem execInjClear_names (r : Req) (det : Nat) (s : State) (hv : Served r 0x0091 s) (ht : s.pr.st = .twin)
    (ha : s.pr.active = true) : ∃ t, execInjClear r det s = .next t ∧ Only [.pr, .pads, .cmd] s t ∧
      t.pr.sched = s.pr.sched ++ (s.hlt.inj.filter (clears det)).map (fun (j : Inj) => (namedWave s, 16, [j.slot, 2])) := by
  obtain ⟨only, sched⟩ := schedTwins_complete (s.hlt.inj.filter (clears det)) 2 s
  have named : endInjs 2 (clears det) s = _ := if_pos ⟨ht, ha⟩
  rw [← named] at only sched
  refine ⟨answer r 0x0091 .ok (endInjs 2 (clears det) s), ?_, (only.seq (answer_only _ _ _ _)).mono (by decide), ?_⟩
  · rw [execInjClear, serve_served r _ s _ hv]
    rfl
  · rw [answer_pr, sched]

/-! Durations, periods and holds (R629, R633). -/

theorem execInjDurationEnd_completes (slot : Nat) (j : Inj) (s : State)
    (hj : s.hlt.inj.find? (fun (x : Inj) => x.slot == slot && x.applied) = some j) (hm : j.mode ≠ 0)
    (hd : due s j.since (msT j.durMs) = true) :
    (j.mode = 1 → execInjDurationEnd slot s = .next (endInj 1 j s)) ∧
    (j.mode = 2 → j.forever = true → ∃ t, execInjDurationEnd slot s = .next t ∧ Only [.hlt] s t ∧
      t.hlt.inj = updFirst (fun (x : Inj) => x.slot == slot)
        (fun x => { x with applied := false, repeats := x.repeats - 1 }) s.hlt.inj) := by
  rw [execInjDurationEnd, hj]
  dsimp only
  rw [if_neg hm, if_neg (by simp [hd])]
  exact ⟨fun h1 => if_pos (.inl h1), fun h2 hf => ⟨_, if_neg (by simp [h2, hf]), State.with_hlt_only s _, rfl⟩⟩

theorem execInjPeriodStart_completes (slot : Nat) (j : Inj) (s : State)
    (hj : s.hlt.inj.find? (fun (x : Inj) => x.slot == slot && !x.applied) = some j) (hm : j.mode = 2) (hs : j.since ≠ 0)
    (hd : due s j.since (msT j.perMs) = true) (ha : actsAtOnce j.det = false) :
    ∃ t, execInjPeriodStart slot s = .next t ∧ Only [.hlt, .pads] s t ∧
      t.hlt.inj = s.hlt.inj.filter (fun (x : Inj) => x.slot != j.slot) ++ [{ j with applied := true, since := td0 s }] := by
  have begun : injBegin j s = refreshPads { s with hlt := { s.hlt with
      inj := s.hlt.inj.filter (fun (x : Inj) => x.slot != j.slot) ++ [{ j with applied := true, since := td0 s }] } } :=
    if_pos (by simp [ha])
  refine ⟨injBegin j s, ?_, ?_, ?_⟩
  · rw [execInjPeriodStart, hj]
    exact if_pos ⟨hm, hs, hd⟩
  · rw [begun]
    exact (State.with_hlt_only s _).seq (refreshPads_only _)
  · rw [begun]
    rfl

theorem execDetectorHoldExpiry_completes (det a : Nat) (s : State) (hd : due s a (secT 1) = true) :
    ∃ t, execDetectorHoldExpiry det s = .next t ∧ Only [.hlt] s t ∧ (det, a) ∉ t.hlt.momentary ∧
      ∀ e, e ∈ s.hlt.momentary → e.1 ≠ det → e ∈ t.hlt.momentary :=
  ⟨_, rfl, State.with_hlt_only s _, fun h => absurd (List.mem_filter.mp h).2 (by simp [hd]),
    fun _ he hn => List.mem_filter.mpr ⟨he, by simp [hn]⟩⟩

/-- Settles O52, row by row: INJ_ARM on the audited state, INJ_CLEAR by the slots that are left. -/
theorem injectionAndHealthRowsComplete : Obligations.InjectionAndHealthRowsComplete := by
  refine ⟨fun r s => ⟨fun hv => ?_, fun m hv hm => ?_, fun body slot => execInjArm_completes r body slot s,
    fun det hv => ⟨execInjClear_ends r det s hv, execInjClear_names r det s hv⟩⟩,
    fun slot j s => ⟨execInjDurationEnd_completes slot j s, execInjPeriodStart_completes slot j s⟩,
    fun det a s _ => execDetectorHoldExpiry_completes det a s⟩
  · show execHealthRead r 0xFF s = _
    rw [execHealthRead, serve_served r _ s _ hv, if_pos rfl]
  · show execHealthRead r m s = _
    rw [execHealthRead, serve_served r _ s _ hv, if_neg (by omega), if_neg (by omega)]

end Sys2Proof.Machine
end

section
/-! PROOFS. What the pair's shared operations leave and set: states, roles, the binding, takeover (R533, R546, R550). -/

namespace Sys2Proof.Machine
open Sys2Proof

/-! The pair state (R533): its code, wave and history change, and the injections of a TWIN left. -/

theorem noteRole_only (s : State) : Only [.pr] s (noteRole s) := State.with_pr_only s _

theorem endInjs_fold_only (l : List Inj) (s : State) :
    Only [.hlt, .evr, .pads] s (l.foldl (fun s j => endInj 4 j s) s) :=
  Only.foldl _ _ l s fun s j => endInj_only 4 j s

/-- The state with its new code noted and told. -/
def stateNoted (st : PairSt) (s : State) : State :=
  submit .pair 0x9001 (16 * s.pr.st.toNat + st.toNat) (noteRole { s with pr := { s.pr with st := st, wave := s.acq.wave % 65536 } })

theorem stateNoted_only (st : PairSt) (s : State) : Only [.pr, .evr] s (stateNoted st s) :=
  ((State.with_pr_only s _).trans (noteRole_only _)).seq (submit_only _ _ _ _)

theorem setPair_same (st : PairSt) (s : State) (h : s.pr.st = st) : setPair st s = s := if_pos h

theorem setPair_changed (st : PairSt) (s : State) (h : s.pr.st ≠ st) : setPair st s = refreshPads
    (if s.pr.st = .twin then (stateNoted st s).hlt.inj.foldl (fun s j => endInj 4 j s) (stateNoted st s) else stateNoted st s) :=
  if_neg h

theorem setPair_only (st : PairSt) (s : State) : Only [.pr, .evr, .hlt, .pads] s (setPair st s) :=
  Only.ite _ (Only.refl _ s) (((stateNoted_only st s).seq
    (Only.ite (s.pr.st = .twin) (endInjs_fold_only _ (stateNoted st s)) (Only.refl _ _)) |>.seq (refreshPads_only _)).mono (by decide))

/-- No lane leaves TWIN here: no injection ends. -/
theorem setPair_only_beside_twin (st : PairSt) (s : State) (h : s.pr.st ≠ .twin) : Only [.pr, .evr, .pads] s (setPair st s) := by
  by_cases k : s.pr.st = st
  · rw [setPair_same st s k]
    exact Only.refl _ s
  · rw [setPair_changed st s k, if_neg h]
    exact ((stateNoted_only st s).seq (refreshPads_only _)).mono (by decide)

theorem endInjs_fold_pr (l : List Inj) (s : State) : (l.foldl (fun s j => endInj 4 j s) s).pr = s.pr :=
  foldl_keeps State.pr _ l s fun s j => endInj_pr 4 j s

/-- The pair's registers with the state noted. -/
theorem setPair_pr (st : PairSt) (s : State) (h : s.pr.st ≠ st) : (setPair st s).pr = { s.pr with
    st := st, wave := s.acq.wave % 65536, roleHist := ((td1 s, st.toNat, s.pr.active) :: s.pr.roleHist).take 8192 } := by
  rw [setPair_changed st s h, refreshPads_pr]
  split
  · rw [endInjs_fold_pr]
    exact submit_pr ..
  · exact submit_pr ..

theorem setPair_keeps {β : Type} (k : Pair → β) (hk : ∀ p st w h, k { p with st := st, wave := w, roleHist := h } = k p)
    (st : PairSt) (s : State) : k (setPair st s).pr = k s.pr := by
  by_cases h : s.pr.st = st
  · rw [setPair_same st s h]
  · rw [setPair_pr st s h, hk]

@[simp] theorem setPair_st (st : PairSt) (s : State) : (setPair st s).pr.st = st := by
  by_cases h : s.pr.st = st
  · rw [setPair_same st s h, h]
  · rw [setPair_pr st s h]

@[simp] theorem setPair_active (st : PairSt) (s : State) : (setPair st s).pr.active = s.pr.active :=
  setPair_keeps Pair.active (fun _ _ _ _ => rfl) st s

@[simp] theorem setPair_tx (st : PairSt) (s : State) : (setPair st s).pr.tx = s.pr.tx :=
  setPair_keeps Pair.tx (fun _ _ _ _ => rfl) st s

@[simp] theorem setPair_tripOff (st : PairSt) (s : State) : (setPair st s).pr.tripOff = s.pr.tripOff :=
  setPair_keeps Pair.tripOff (fun _ _ _ _ => rfl) st s

@[simp] theorem setPair_takeover (st : PairSt) (s : State) : (setPair st s).pr.takeover = s.pr.takeover :=
  setPair_keeps Pair.takeover (fun _ _ _ _ => rfl) st s

@[simp] theorem setPair_takeovers (st : PairSt) (s : State) : (setPair st s).pr.takeovers = s.pr.takeovers :=
  setPair_keeps Pair.takeovers (fun _ _ _ _ => rfl) st s

@[simp] theorem setPair_cells (st : PairSt) (s : State) : (setPair st s).pr.cells = s.pr.cells :=
  setPair_keeps Pair.cells (fun _ _ _ _ => rfl) st s

@[simp] theorem setPair_joinPhase (st : PairSt) (s : State) : (setPair st s).pr.joinPhase = s.pr.joinPhase :=
  setPair_keeps Pair.joinPhase (fun _ _ _ _ => rfl) st s

@[simp] theorem setPair_joinAt (st : PairSt) (s : State) : (setPair st s).pr.joinAt = s.pr.joinAt :=
  setPair_keeps Pair.joinAt (fun _ _ _ _ => rfl) st s

@[simp] theorem setPair_failAt (st : PairSt) (s : State) : (setPair st s).pr.failAt = s.pr.failAt :=
  setPair_keeps Pair.failAt (fun _ _ _ _ => rfl) st s

@[simp] theorem setPair_verdict (st : PairSt) (s : State) : (setPair st s).pr.verdict = s.pr.verdict :=
  setPair_keeps Pair.verdict (fun _ _ _ _ => rfl) st s

@[simp] theorem setPair_divLast (st : PairSt) (s : State) : (setPair st s).pr.divLast = s.pr.divLast :=
  setPair_keeps Pair.divLast (fun _ _ _ _ => rfl) st s

@[simp] theorem setPair_divCnt (st : PairSt) (s : State) : (setPair st s).pr.divCnt = s.pr.divCnt :=
  setPair_keeps Pair.divCnt (fun _ _ _ _ => rfl) st s

@[simp] theorem setPair_left (st : PairSt) (s : State) : (setPair st s).pr.left = s.pr.left :=
  setPair_keeps Pair.left (fun _ _ _ _ => rfl) st s

@[simp] theorem setPair_migrating (st : PairSt) (s : State) : (setPair st s).pr.migrating = s.pr.migrating :=
  setPair_keeps Pair.migrating (fun _ _ _ _ => rfl) st s

@[simp] theorem setPair_partnerFaulty (st : PairSt) (s : State) : (setPair st s).pr.partnerFaulty = s.pr.partnerFaulty :=
  setPair_keeps Pair.partnerFaulty (fun _ _ _ _ => rfl) st s

/-! The binding lines (R532): the indicators leave them. -/

/-- BIND_IN and BIND_OUT. -/
def bindLines (s : State) : Bool × Bool := (s.pads.bindIn, s.pads.bindOut)

theorem bindLines_of_only {ps : List Part} {s t : State} (h : Only ps s t) (k : Part.pads ∉ ps) : bindLines t = bindLines s :=
  congrArg (fun p : Pads => (p.bindIn, p.bindOut)) (h.same .pads k)

theorem refreshPads_bindLines (s : State) : bindLines (refreshPads s) = bindLines s := rfl

theorem endInj_bindLines (c : Nat) (j : Inj) (s : State) : bindLines (endInj c j s) = bindLines s := by
  rw [endInj, refreshPads_bindLines, bindLines_of_only (submit_only _ _ _ _) (by decide)]
  rfl

theorem setPair_bindLines (st : PairSt) (s : State) : bindLines (setPair st s) = bindLines s := by
  by_cases h : s.pr.st = st
  · rw [setPair_same st s h]
  · rw [setPair_changed st s h, refreshPads_bindLines]
    split
    · rw [foldl_keeps bindLines _ _ _ fun s j => endInj_bindLines 4 j s]
      exact bindLines_of_only (stateNoted_only st s) (by decide)
    · exact bindLines_of_only (stateNoted_only st s) (by decide)

/-! The role (R533). -/

theorem setRoleActive_pr (b : Bool) (s : State) (h : s.pr.active ≠ b) : (setRoleActive b s).pr = { s.pr with
    active := b, activeAt := none, established := false, roleHist := ((td1 s, s.pr.st.toNat, b) :: s.pr.roleHist).take 8192 } := by
  rw [setRoleActive, if_neg h, submit_pr]
  rfl

theorem setRoleActive_keeps {β : Type} (k : Pair → β)
    (hk : ∀ p b a e h, k { p with active := b, activeAt := a, established := e, roleHist := h } = k p) (b : Bool) (s : State) :
    k (setRoleActive b s).pr = k s.pr := by
  by_cases h : s.pr.active = b
  · rw [setRoleActive, if_pos h]
  · rw [setRoleActive_pr b s h, hk]

@[simp] theorem setRoleActive_active (b : Bool) (s : State) : (setRoleActive b s).pr.active = b := by
  by_cases h : s.pr.active = b
  · rw [setRoleActive, if_pos h, h]
  · rw [setRoleActive_pr b s h]

@[simp] theorem setRoleActive_st (b : Bool) (s : State) : (setRoleActive b s).pr.st = s.pr.st :=
  setRoleActive_keeps Pair.st (fun _ _ _ _ _ => rfl) b s

@[simp] theorem setRoleActive_takeovers (b : Bool) (s : State) : (setRoleActive b s).pr.takeovers = s.pr.takeovers :=
  setRoleActive_keeps Pair.takeovers (fun _ _ _ _ _ => rfl) b s

@[simp] theorem setRoleActive_handX (b : Bool) (s : State) : (setRoleActive b s).pr.handX = s.pr.handX :=
  setRoleActive_keeps Pair.handX (fun _ _ _ _ _ => rfl) b s

@[simp] theorem setRoleActive_hand (b : Bool) (s : State) : (setRoleActive b s).pr.hand = s.pr.hand :=
  setRoleActive_keeps Pair.hand (fun _ _ _ _ _ => rfl) b s

@[simp] theorem setRoleActive_cells (b : Bool) (s : State) : (setRoleActive b s).pr.cells = s.pr.cells :=
  setRoleActive_keeps Pair.cells (fun _ _ _ _ _ => rfl) b s

@[simp] theorem setRoleActive_bindDrop (b : Bool) (s : State) : (setRoleActive b s).pr.bindDrop = s.pr.bindDrop :=
  setRoleActive_keeps Pair.bindDrop (fun _ _ _ _ _ => rfl) b s

theorem tryBind_keeps {β : Type} (k : Pair → β) (hk : ∀ p a w, k { p with bindAt := a, bindWant := w } = k p) (s : State) :
    k (tryBind s).pr = k s.pr := by
  unfold tryBind
  split
  · exact hk _ _ _
  · rfl

theorem tryBind_bindIn (s : State) : (tryBind s).pads.bindIn = s.pads.bindIn := by
  unfold tryBind
  split <;> rfl

theorem dropBind_only (s : State) : Only [.pads, .pr] s (dropBind s) := State.with_pads_pr_only s _ _

theorem slewTd2_only (s : State) : Only [.tu] s (slewTd2 s) := State.with_tu_only s _

theorem partnerGone_only (s : State) : Only [.pr] s (partnerGone s) := State.with_pr_only s _

theorem drillAbort_only (s : State) : Only [.pr, .evr] s (drillAbort s) :=
  Only.ite _ ((State.with_pr_only s _).seq (submit_only _ _ _ _)) (Only.refl _ s)

theorem drillAbort_keeps {β : Type} (k : Pair → β) (hk : ∀ p a b, k { p with drSt := a, drResult := b } = k p) (s : State) :
    k (drillAbort s).pr = k s.pr := by
  unfold drillAbort
  split
  · rw [submit_pr]
    exact hk _ _ _
  · rfl

/-! Takeover (R546, R550). -/

/-- The registers of a new active: it transmits, with its trips on, and has taken the binding's place. -/
def takenPair (cause : Nat) (s : State) : Pair := { s.pr with
  tx := true, tripOff := false, agree := [], bindWant := true, wantAt := td0 s, bindHeld := false, activeAt := none
  handCell := false, hand := none, handOk := false, prov := none, migrating := false, ready := false, bindDrop := false
  takeover := (cause, (s.acq.wave + 1) % 65536), takeovers := satInc 32 s.pr.takeovers }

/-- The event that a takeover tells of, and the event tasks' trigger. -/
def takeoverTold (cause : Nat) (parts : List (List Byte)) (s : State) : State :=
  raiseTrig 6 0 0 (td1 (submitParts .pair 0x9003 cause parts s)) (td0 (submitParts .pair 0x9003 cause parts s))
    (submitParts .pair 0x9003 cause parts s)

/-- The state in which a takeover is told. -/
def roleTaken (cause : Nat) (s : State) : State :=
  { setRoleActive true (slewTd2 s) with pr := takenPair cause (setRoleActive true (slewTd2 s)) }

theorem takeover_eq (cause : Nat) (s : State) : takeover cause s = tryBind (refreshPads (takeoverTold cause
    (if s.pr.migrating then [padTo 48 [BitVec.ofNat 8 (b2n s.pr.ready)]] else []) (roleTaken cause s))) := rfl

theorem takeoverTold_only (cause : Nat) (parts : List (List Byte)) (s : State) :
    Only [.evr, .le] s (takeoverTold cause parts s) :=
  (submitParts_only _ _ _ _ s).seq (raiseTrig_only _ _ _ _ _ _)

theorem roleTaken_only (cause : Nat) (s : State) : Only [.tu, .pr, .evr] s (roleTaken cause s) :=
  (((slewTd2_only s).seq (setRoleActive_only true _)).seq (State.with_pr_only _ _)).mono (by decide)

theorem takeover_only (cause : Nat) (s : State) : Only [.pr, .evr, .pads, .tu, .le] s (takeover cause s) :=
  ((((roleTaken_only cause s).seq (takeoverTold_only _ _ _)).seq (refreshPads_only _)).seq (tryBind_only _)).mono (by decide)

theorem takeover_keeps {β : Type} (k : Pair → β) (hk : ∀ p a w, k { p with bindAt := a, bindWant := w } = k p) (cause : Nat)
    (s : State) : k (takeover cause s).pr = k (takenPair cause (setRoleActive true (slewTd2 s))) := by
  rw [takeover_eq, tryBind_keeps k hk, refreshPads_pr, (takeoverTold_only _ _ _).same .pr (by decide)]
  rfl

@[simp] theorem takeover_active (cause : Nat) (s : State) : (takeover cause s).pr.active = true :=
  (takeover_keeps Pair.active (fun _ _ _ => rfl) cause s).trans (setRoleActive_active true _)

@[simp] theorem takeover_st (cause : Nat) (s : State) : (takeover cause s).pr.st = s.pr.st :=
  (takeover_keeps Pair.st (fun _ _ _ => rfl) cause s).trans (setRoleActive_st true _)

@[simp] theorem takeover_tx (cause : Nat) (s : State) : (takeover cause s).pr.tx = true :=
  takeover_keeps Pair.tx (fun _ _ _ => rfl) cause s

@[simp] theorem takeover_hand (cause : Nat) (s : State) : (takeover cause s).pr.hand = none :=
  takeover_keeps Pair.hand (fun _ _ _ => rfl) cause s

theorem setRoleActive_acq (b : Bool) (s : State) : (setRoleActive b s).acq = s.acq := (setRoleActive_only b s).same .acq (by decide)

@[simp] theorem takeover_takeover (cause : Nat) (s : State) :
    (takeover cause s).pr.takeover = (cause, (s.acq.wave + 1) % 65536) :=
  (takeover_keeps Pair.takeover (fun _ _ _ => rfl) cause s).trans
    (congrArg (fun a : Acq => (cause, (a.wave + 1) % 65536)) (setRoleActive_acq true (slewTd2 s)))

@[simp] theorem takeover_takeovers (cause : Nat) (s : State) : (takeover cause s).pr.takeovers = satInc 32 s.pr.takeovers :=
  (takeover_keeps Pair.takeovers (fun _ _ _ => rfl) cause s).trans
    (congrArg (satInc 32) (setRoleActive_takeovers true (slewTd2 s)))

theorem takeover_bindIn (cause : Nat) (s : State) : (takeover cause s).pads.bindIn = s.pads.bindIn := by
  rw [takeover_eq, tryBind_bindIn]
  generalize (if s.pr.migrating then [padTo 48 [BitVec.ofNat 8 (b2n s.pr.ready)]] else []) = parts
  exact congrArg Prod.fst ((refreshPads_bindLines _).trans
    (bindLines_of_only ((roleTaken_only cause s).seq (takeoverTold_only cause parts _)) (by decide)))

/-! A takeover by failure of the partner (R550): the new active reads SOLO. -/

@[simp] theorem drillAbort_acq (s : State) : (drillAbort s).acq = s.acq := (drillAbort_only s).same .acq (by decide)

@[simp] theorem drillAbort_takeovers (s : State) : (drillAbort s).pr.takeovers = s.pr.takeovers :=
  drillAbort_keeps Pair.takeovers (fun _ _ _ => rfl) s

/-- The new active: its role, its state, its transmission and the takeover counted. -/
structure TakesOver (cause : Nat) (s t : State) : Prop where
  active : t.pr.active = true
  solo : t.pr.st = .solo
  tx : t.pr.tx = true
  noted : t.pr.takeover = (cause, (s.acq.wave + 1) % 65536)
  counted : t.pr.takeovers = satInc 32 s.pr.takeovers
  bindIn : t.pads.bindIn = s.pads.bindIn

theorem takeoverSolo_takesOver (cause : Nat) (s : State) : TakesOver cause s (takeoverSolo cause s) where
  active := by simp [takeoverSolo, partnerGone]
  solo := setPair_st .solo _
  tx := by simp [takeoverSolo, partnerGone]
  noted := by simp [takeoverSolo, partnerGone]
  counted := by simp [takeoverSolo, partnerGone]
  bindIn := (congrArg Prod.fst (setPair_bindLines .solo _)).trans ((takeover_bindIn cause _).trans
    (congrArg Pads.bindIn ((drillAbort_only s).same .pads (by decide))))

end Sys2Proof.Machine
end

section
/-! PROOFS. The pair's paths, binding levels and the start of roles (R530 to R532, R534, R549 to R551). -/

namespace Sys2Proof.Machine
open Sys2Proof

/-- Whether the pair unit acts rests on the part's phase, the image and the serial. -/
theorem pairActs_congr {s t : State} (hp : t.pw = s.pw) (hb : t.boot = s.boot) (hi : t.img = s.img) : pairActs t = pairActs s := by
  simp only [pairActs, running, pairOn, pairEntry, pv, prm, params, hp, hb, hi]

theorem pairActs_of_only {ps : List Part} {s t : State} (h : Only ps s t) (kp : Part.pw ∉ ps) (kb : Part.boot ∉ ps)
    (ki : Part.img ∉ ps) : pairActs t = pairActs s :=
  pairActs_congr (h.same .pw kp) (h.same .boot kb) (h.same .img ki)

theorem canTake_in_step (s : State) (ha : s.pr.active = false) (ht : s.pr.st = .twin) : canTake s = true := by
  simp [canTake, ha, ht]

theorem mayJoin_in_step (s : State) (h : s.pr.st = .twin) : mayJoin s = false := by simp [mayJoin, h]

/-! COLD (R551). -/

/-- The registers that COLD begins with. -/
def coldPair (s : State) : State := { s with pr := { s.pr with
  verdict := none, hand := none, handOk := false, handX := [], prov := none, agree := [], digests := [], pDigests := []
  waitUntil := none } }

theorem enterCold_eq (s : State) : enterCold s = setPair .cold (if s.pr.active then coldPair s
    else { coldPair s with pr := { (coldPair s).pr with tx := false, tripOff := !coldTrip (coldPair s) } }) := rfl

theorem enterCold_st (s : State) : (enterCold s).pr.st = .cold := setPair_st .cold _

theorem enterCold_active (s : State) : (enterCold s).pr.active = s.pr.active := by
  rw [enterCold_eq, setPair_active]
  split <;> rfl

theorem enterCold_tx (s : State) : (enterCold s).pr.tx = (if s.pr.active then s.pr.tx else false) := by
  rw [enterCold_eq, setPair_tx]
  split <;> rfl

/-! The paths after one has fallen silent (R549, R551). -/

theorem onPaths_link_down (s : State) (ha : pairActs s = true) (hl : s.pr.lanes = 0#2) (hw : s.pr.wireOk = true)
    (ht : s.pr.st = .twin) : onPaths s = enterCold (drillAbort (fireDet 0x1C 0 0 s)) := by
  simp [onPaths, ha, hl, hw, ht]

theorem onPaths_wire_down (s : State) (ha : pairActs s = true) (hl : s.pr.lanes ≠ 0#2) (hw : s.pr.wireOk = false)
    (ht : s.pr.st = .twin) : onPaths s = fireDet 0x1D 0 0 s := by
  simp [onPaths, ha, hl, hw, ht]

theorem onPaths_both_down (s : State) (ha : pairActs s = true) (hl : s.pr.lanes = 0#2) (hw : s.pr.wireOk = false)
    (hc : canTake s = true) : onPaths s = takeoverSolo 1 s := by
  simp [onPaths, ha, hl, hw, hc]

/-! PLK_LANE_DOWN (R530). -/

/-- The lane told down. -/
def laneLost (lane : Nat) (lanes : BitVec 2) (s : State) : State :=
  submit .pair 0x900D lane { s with pr := { s.pr with lanes := lanes } }

/-- The lanes as a silent one leaves them. -/
def lanesLeft (lane : Nat) (s : State) : BitVec 2 :=
  if (injOn s 0x1C 0 && !s.pr.active) = true then 0#2 else setB s.pr.lanes lane false

theorem execPlkLaneDown_due (lane : Nat) (s : State) (hr : running s = true) (hl : lane < 2) (hu : s.pr.lanes.getLsbD lane = true)
    (hd : due s (if lane = 0 then s.pr.laneAt.1 else s.pr.laneAt.2) (usT 40) = true) : execPlkLaneDown lane s =
      .next (if lanesLeft lane s = 0#2 then onPaths (laneLost lane (lanesLeft lane s) s) else laneLost lane (lanesLeft lane s) s) :=
  if_neg (by
    rw [hd]
    simp [hr, hu]
    omega)

theorem execPlkLaneDown_alone (lane : Nat) (s : State) (hr : running s = true) (hl : lane < 2) (hn : s.pr.lanes = 3#2)
    (hi : injOn s 0x1C 0 = false) (hd : due s (if lane = 0 then s.pr.laneAt.1 else s.pr.laneAt.2) (usT 40) = true) :
    execPlkLaneDown lane s = .next (laneLost lane (if lane = 0 then 2#2 else 1#2) s) := by
  have left : lanesLeft lane s = if lane = 0 then 2#2 else 1#2 := by
    rw [lanesLeft, hi, hn, if_neg (by simp)]
    rcases (by omega : lane = 0 ∨ lane = 1) with rfl | rfl <;> decide
  have up : s.pr.lanes.getLsbD lane = true := by
    rw [hn]
    rcases (by omega : lane = 0 ∨ lane = 1) with rfl | rfl <;> decide
  rw [execPlkLaneDown_due lane s hr hl up hd, left, if_neg (by split <;> decide)]

theorem execPlkLaneDown_last (s : State) (hr : running s = true) (ht : s.pr.st = .twin) (hn : s.pr.lanes = 1#2)
    (ha : pairActs s = true) (hw : s.pr.wireOk = true) (hd : due s s.pr.laneAt.1 (usT 40) = true) :
    ∃ t, execPlkLaneDown 0 s = .next t ∧ t.pr.st = .cold ∧ t.pr.active = s.pr.active ∧
      t.pr.tx = (if s.pr.active then s.pr.tx else false) := by
  have left : lanesLeft 0 s = 0#2 := by
    rw [lanesLeft, hn]
    split <;> decide
  have lost : laneLost 0 0#2 s = submit .pair 0x900D 0 { s with pr := { s.pr with lanes := 0#2 } } := rfl
  have acts : pairActs (laneLost 0 0#2 s) = true :=
    (pairActs_of_only ((State.with_pr_only s _).seq (submit_only _ _ _ _)) (by decide) (by decide) (by decide)).trans ha
  have now := execPlkLaneDown_due 0 s hr (by decide) (by rw [hn]; decide) hd
  rw [left, if_pos rfl, onPaths_link_down _ acts (by rw [lost, submit_pr]) (by rw [lost, submit_pr]; exact hw)
    (by rw [lost, submit_pr]; exact ht)] at now
  refine ⟨_, now, enterCold_st _, ?_, ?_⟩
  · rw [enterCold_active, drillAbort_keeps Pair.active (fun _ _ _ => rfl), fireDet_pr, lost, submit_pr]
  · rw [enterCold_tx, drillAbort_keeps Pair.active (fun _ _ _ => rfl), drillAbort_keeps Pair.tx (fun _ _ _ => rfl), fireDet_pr,
      lost, submit_pr]

/-! HB_IN_PULSE and HB_WIRE_SILENT (R531, R549). -/

theorem pulseCode_standby (w : Nat) (h1 : 3300 ≤ w) (h2 : w ≤ 4700) : pulseCode w = 2 := by
  rw [pulseCode, if_neg (by omega), if_pos ⟨h1, h2⟩]

theorem pulseTaken_standby (s : State) (ht : s.pr.st = .twin) (hw : s.pr.wireOk = true) :
    pulseTaken 2 s = { s with pr := { s.pr with wireOk := true, wireAt := td0 s, wireCode := 2 } } := by
  have now : pulseTaken 2 s = tryJoin { s with pr := { s.pr with wireOk := true, wireAt := td0 s, wireCode := 2 } } := by
    simp [pulseTaken, hw]
  rw [now]
  exact tryJoin_in_step _ ht

theorem execHbInPulse_standby (width : Nat) (s : State) (hr : running s = true) (ht : s.pr.st = .twin) (h1 : 3300 ≤ width)
    (h2 : width ≤ 4700) (hi : injOn s 0x1D 0 = false) (hw : s.pr.wireOk = true) :
    execHbInPulse width s = .next { s with pr := { s.pr with
      edgeAt := td0 s, wireAt := td0 s, wireCode := 2
      wireOk := true, hbErr := satAdd 32 s.pr.hbErr (missingEdges (td0 s) s.pr.edgeAt) } } := by
  rw [execHbInPulse, if_neg (by simp [hr, hi]), pulseCode_standby width h1 h2]
  exact congrArg _ (pulseTaken_standby _ ht hw)

theorem execHbWireSilent_due (s : State) (hr : running s = true) (hw : s.pr.wireOk = true)
    (hd : due s s.pr.wireAt (usT 40) = true) :
    execHbWireSilent s = .next (onPaths { s with pr := { s.pr with wireOk := false } }) :=
  if_neg (by rw [hr, hw, hd]; simp)

theorem execHbWireSilent_alone (s : State) (hr : running s = true) (ht : s.pr.st = .twin) (ha : pairActs s = true)
    (hw : s.pr.wireOk = true) (hd : due s s.pr.wireAt (usT 40) = true) (hl : s.pr.lanes ≠ 0#2) :
    execHbWireSilent s = .next (fireDet 0x1D 0 0 { s with pr := { s.pr with wireOk := false } }) := by
  rw [execHbWireSilent_due s hr hw hd]
  exact congrArg _ (onPaths_wire_down _ ((pairActs_congr rfl rfl rfl).trans ha) hl rfl ht)

theorem execHbWireSilent_takes_over (s : State) (hr : running s = true) (ht : s.pr.st = .twin) (ha : pairActs s = true)
    (hw : s.pr.wireOk = true) (hd : due s s.pr.wireAt (usT 40) = true) (hl : s.pr.lanes = 0#2) (hb : s.pr.active = false) :
    ∃ t, execHbWireSilent s = .next t ∧ t.pr.active = true ∧ t.pr.st = .solo ∧ t.pr.tx = true ∧
      t.pr.takeover = (1, (s.acq.wave + 1) % 65536) := by
  obtain ⟨active, solo, tx, noted, _, _⟩ := takeoverSolo_takesOver 1 { s with pr := { s.pr with wireOk := false } }
  refine ⟨_, ?_, active, solo, tx, noted⟩
  rw [execHbWireSilent_due s hr hw hd]
  exact congrArg _ (onPaths_both_down _ ((pairActs_congr rfl rfl rfl).trans ha) hl rfl (canTake_in_step _ hb ht))

/-! The binding levels (R532, R549). -/

theorem noteBindDiff_only (s : State) : Only [.pr] s (noteBindDiff s) :=
  Only.ite _ (State.with_pr_only s _) (Only.ite _ (Only.refl _ s) (State.with_pr_only s _))

theorem noteBindDiff_keeps {β : Type} (k : Pair → β) (hk : ∀ p d b, k { p with bindDiff := d, diffTold := b } = k p) (s : State) :
    k (noteBindDiff s).pr = k s.pr := by
  unfold noteBindDiff
  split
  · exact hk _ _ _
  · split
    · rfl
    · exact hk _ _ _

/-- BIND_IN as it has fallen. -/
def bindLow (s : State) : State :=
  { s with pads := { s.pads with bindIn := false }, pr := { s.pr with bindInAt := td0 s - usT 2, bindHeld := false } }

theorem bindFell_eq (s : State) : bindFell s =
    if (noteBindDiff (bindLow s)).pr.handCell then
      tryBind { noteBindDiff (bindLow s) with pr := { (noteBindDiff (bindLow s)).pr with handCell := false } }
    else if pairActs (noteBindDiff (bindLow s)) ∧ canTake (noteBindDiff (bindLow s)) then takeoverSolo 3 (noteBindDiff (bindLow s))
    else tryBind (noteBindDiff (bindLow s)) := rfl

theorem bindLow_only (s : State) : Only [.pads, .pr] s (bindLow s) := State.with_pads_pr_only s _ _

theorem bindLow_keeps {β : Type} (k : Pair → β) (hk : ∀ p a h, k { p with bindInAt := a, bindHeld := h } = k p) (s : State) :
    k (bindLow s).pr = k s.pr := hk _ _ _

theorem bindFell_takes_over (s : State) (hh : s.pr.handCell = false) (ha : pairActs s = true) (hb : s.pr.active = false)
    (ht : s.pr.st = .twin) : bindFell s = takeoverSolo 3 (noteBindDiff (bindLow s)) := by
  have acts : pairActs (noteBindDiff (bindLow s)) = true :=
    (pairActs_of_only ((bindLow_only s).seq (noteBindDiff_only _)) (by decide) (by decide) (by decide)).trans ha
  have takes : canTake (noteBindDiff (bindLow s)) = true := by
    apply canTake_in_step
    · rw [noteBindDiff_keeps Pair.active (fun _ _ _ => rfl), bindLow_keeps Pair.active (fun _ _ _ => rfl), hb]
    · rw [noteBindDiff_keeps Pair.st (fun _ _ _ => rfl), bindLow_keeps Pair.st (fun _ _ _ => rfl), ht]
  rw [bindFell_eq, noteBindDiff_keeps Pair.handCell (fun _ _ _ => rfl), bindLow_keeps Pair.handCell (fun _ _ _ => rfl), hh,
    if_neg (by decide), if_pos ⟨acts, takes⟩]

theorem execBindInChange_falls (s : State) (hr : running s = true) (hp : s.pads.bindIn = true) :
    execBindInChange false s = .next (bindFell s) := by
  rw [execBindInChange, if_neg (by simp [hp]), if_neg (by simp [hr])]
  rfl

theorem execBindInChange_takes_over (s : State) (hr : running s = true) (ht : s.pr.st = .twin) (hp : s.pads.bindIn = true)
    (hh : s.pr.handCell = false) (hb : s.pr.active = false) (ha : pairActs s = true) :
    ∃ t, execBindInChange false s = .next t ∧ t.pads.bindIn = false ∧ t.pr.active = true ∧ t.pr.st = .solo ∧
      t.pr.takeover.1 = 3 ∧ t.pr.takeovers = satInc 32 s.pr.takeovers := by
  obtain ⟨active, solo, _, noted, counted, line⟩ := takeoverSolo_takesOver 3 (noteBindDiff (bindLow s))
  rw [(noteBindDiff_only (bindLow s)).same .pads (by decide)] at line
  rw [noteBindDiff_keeps Pair.takeovers (fun _ _ _ => rfl), bindLow_keeps Pair.takeovers (fun _ _ _ => rfl)] at counted
  refine ⟨_, execBindInChange_falls s hr hp, ?_⟩
  rw [bindFell_takes_over s hh ha hb ht]
  exact ⟨line, active, solo, congrArg Prod.fst noted, counted⟩

/-- BIND_IN as it has risen. -/
def bindHigh (s : State) : State :=
  { s with pads := { s.pads with bindIn := true }, pr := { s.pr with bindInAt := td0 s } }

theorem bindHigh_only (s : State) : Only [.pads, .pr] s (bindHigh s) := State.with_pads_pr_only s _ _

theorem bindRose_cases (s : State) : bindRose s = dropBind (noteBindDiff (bindHigh s)) ∨ bindRose s = noteBindDiff (bindHigh s) :=
  (em _).imp (fun h => if_pos h) (fun h => if_neg h)

theorem execBindInChange_rises (s : State) (hr : running s = true) (hp : s.pads.bindIn = false) :
    execBindInChange true s = .next (bindRose s) := by
  rw [execBindInChange, if_neg (by simp [hp]), if_neg (by simp [hr])]
  rfl

/-- A rise taken: the level, its instant and the role as it was. -/
structure BindRisen (s t : State) : Prop where
  only : Only [.pads, .pr] s t
  high : t.pads.bindIn = true
  instant : t.pr.bindInAt = td0 s
  role : t.pr.active = s.pr.active

theorem noteBindDiff_risen (s : State) : BindRisen s (noteBindDiff (bindHigh s)) where
  only := ((bindHigh_only s).seq (noteBindDiff_only _)).mono (by decide)
  high := by
    rw [(noteBindDiff_only (bindHigh s)).same .pads (by decide)]
    rfl
  instant := by
    rw [noteBindDiff_keeps Pair.bindInAt (fun _ _ _ => rfl)]
    rfl
  role := by
    rw [noteBindDiff_keeps Pair.active (fun _ _ _ => rfl)]
    rfl

theorem BindRisen.dropBind {s t : State} (h : BindRisen s t) : BindRisen s (dropBind t) :=
  ⟨h.only.trans (dropBind_only t), h.high, h.instant, h.role⟩

theorem bindRose_risen (s : State) : BindRisen s (bindRose s) := by
  rcases bindRose_cases s with h | h
  · rw [h]
    exact (noteBindDiff_risen s).dropBind
  · rw [h]
    exact noteBindDiff_risen s

theorem execBindInChange_noted (s : State) (hr : running s = true) (hp : s.pads.bindIn = false) :
    ∃ t, execBindInChange true s = .next t ∧ Only [.pads, .pr] s t ∧ t.pads.bindIn = true ∧ t.pr.bindInAt = td0 s ∧
      t.pr.active = s.pr.active :=
  have ⟨only, high, instant, role⟩ := bindRose_risen s
  ⟨_, execBindInChange_rises s hr hp, only, high, instant, role⟩

theorem execBindHoldDrop_due (s : State) (hp : s.pads.bindOut = true) (hd : due s s.pr.hbAt (usT 25) = true) :
    execBindHoldDrop s = .next { s with pads := { s.pads with bindOut := false } } := by
  rw [execBindHoldDrop, if_pos ⟨hp, hd⟩]

theorem execBindFault_differs (a : Nat) (s : State) (ha : pairActs s = true) (hb : s.pr.bindDiff = some a)
    (hd : due s a (usT 100) = true) (ht : s.pr.diffTold = false) :
    execBindFault s = .next (submit .pair 0x900C 1 { s with pr := { s.pr with diffTold := true } }) := by
  rw [execBindFault, if_neg (by simp [ha]), hb, Option.any_some, hd, if_pos (by simp [ht])]

/-! The start of roles (R533, R534). -/

theorem execEstablished_due (a : Nat) (s : State) (ha : s.pr.active = true) (he : s.pr.established = false)
    (hs : s.pr.activeAt = some a) (hd : due s a (secT 1) = true) :
    execEstablished s = .next { s with pr := { s.pr with established := true } } := by
  rw [execEstablished, hs, Option.any_some, hd, if_pos (by simp [ha, he])]

/-- An engine of SOLO that becomes active, before it reaches for the binding. -/
def soloRoled (s : State) : State :=
  { setRoleActive true s with
    pr := { (setRoleActive true s).pr with
      tx := true, tripOff := false, migrating := false, ready := false, bindWant := !(setRoleActive true s).pads.bindOut
      wantAt := td0 (setRoleActive true s), bindHeld := false, joinAt := none, joinPhase := 0, waitUntil := none, partnerSt := .solo
      agree := [], prov := none, verdict := none, hand := none, handOk := false, handX := [] }
    le := { (setRoleActive true s).le with halted := false }, gr := { (setRoleActive true s).gr with running := true } }

theorem soloActive_eq (s : State) : soloActive s = tryBind (refreshPads (setPair .solo (slewTd2 (soloRoled s)))) := rfl

/-- The last steps of the new role leave the graph and the logic. -/
theorem soloActive_only_role (s : State) : Only [.tu, .pr, .evr, .hlt, .pads] (soloRoled s) (soloActive s) :=
  ((((slewTd2_only _).seq (setPair_only _ _)).seq (refreshPads_only _)).seq (tryBind_only _)).mono (by decide)

theorem soloActive_gr (s : State) : (soloActive s).gr.running = true :=
  congrArg GraphUnit.running ((soloActive_only_role s).same .gr (by decide))

theorem soloActive_le (s : State) : (soloActive s).le.halted = false :=
  congrArg Logic.halted ((soloActive_only_role s).same .le (by decide))

theorem soloActive_active (s : State) : (soloActive s).pr.active = true := by
  rw [soloActive_eq, tryBind_keeps Pair.active (fun _ _ _ => rfl), refreshPads_pr, setPair_active]
  exact setRoleActive_active true s

theorem soloActive_st (s : State) : (soloActive s).pr.st = .solo := by
  rw [soloActive_eq, tryBind_keeps Pair.st (fun _ _ _ => rfl), refreshPads_pr, setPair_st]

theorem soloActive_tx (s : State) : (soloActive s).pr.tx = true := by
  rw [soloActive_eq, tryBind_keeps Pair.tx (fun _ _ _ => rfl), refreshPads_pr, setPair_tx]
  rfl

section
variable (s : State) (ha : pairActs s = true) (hb : s.pr.active = false) (hl : s.pr.linkOnce = false) (ht : s.pr.st = .solo)
  (hf : s.pr.left = false) (hy : s.pr.faulty = false) (hd : due s s.pr.cfgAt (secT 1) = true) (hn : s.pr.waitUntil = none)
include ha hb hl ht hf hy hd

theorem execLinkStartTimeout_sees_active (hw : s.pr.wireOk = true) (hc : s.pr.wireCode = 1) :
    execLinkStartTimeout s = .next (enterCold s) := by
  rw [execLinkStartTimeout, if_neg (by simp [ha, hb, hl, ht, hf, hy, hd]), if_pos ⟨hw, hc⟩]

include hn

theorem execLinkStartTimeout_alone (hw : s.pr.wireOk = false) :
    execLinkStartTimeout s = if lowerSerial s then .next (soloActive s)
      else .next { s with pr := { s.pr with waitUntil := some (td0 s + secT 1) } } := by
  rw [execLinkStartTimeout, if_neg (by simp [ha, hb, hl, ht, hf, hy, hd]), if_neg (by simp [hw]), hn]

end

/-- Settles O48, path by path. -/
theorem pairPathRowsComplete : Obligations.PairPathRowsComplete := by
  unfold Obligations.PairPathRowsComplete
  refine ⟨fun s hr ht => ⟨fun lane => execPlkLaneDown_alone lane s hr, execPlkLaneDown_last s hr ht,
      fun width => execHbInPulse_standby width s hr ht,
      fun ha hw hd => ⟨execHbWireSilent_alone s hr ht ha hw hd, execHbWireSilent_takes_over s hr ht ha hw hd⟩,
      execBindInChange_takes_over s hr ht, execBindInChange_noted s hr⟩,
    fun s => ⟨execBindHoldDrop_due s, fun a => execBindFault_differs a s⟩, execEstablished_due,
    fun s ha hb hl ht hf hy hd hn => ⟨fun low hw => ?_, fun high hw => ?_, fun hw hc => ?_⟩⟩
  · exact ⟨_, (execLinkStartTimeout_alone s ha hb hl ht hf hy hd hn hw).trans (if_pos low), soloActive_active s, soloActive_st s,
      soloActive_tx s, soloActive_gr s, soloActive_le s⟩
  · exact (execLinkStartTimeout_alone s ha hb hl ht hf hy hd hn hw).trans (if_neg (by simp [high]))
  · exact ⟨_, execLinkStartTimeout_sees_active s ha hb hl ht hf hy hd hw hc, enterCold_st s, (enterCold_active s).trans hb,
      (enterCold_tx s).trans (if_neg (by simp [hb]))⟩

end Sys2Proof.Machine
end

section
/-! PROOFS. Joining: the snapshot, catch-up, a failed join and its retry (R535 to R537, R554). -/

namespace Sys2Proof.Machine
open Sys2Proof

/-! What a snapshot's loading leaves once it has begun: the lane's phase, its engines, the group and the counters. -/

/-- The figures that every join takes from a snapshot. -/
def snapMarks (s : State) : (Nat × Bool × Bool × Bool) × List Force × (Nat × Nat × Nat) × Nat × List Nat :=
  ((s.pr.joinPhase, s.pr.snapDone, s.gr.running, s.le.halted), s.le.forces, (s.img.group, s.acq.wave, s.acq.waves), s.rio.seq,
    s.net.smpCnt)

theorem submit_snapMarks (b : Block) (c v : Nat) (s : State) : snapMarks (submit b c v s) = snapMarks s := by
  simp [snapMarks]

theorem loadRetain_snapMarks (s : State) : snapMarks (loadRetain s) = snapMarks s := rfl

theorem loadSnapLogic_snapMarks (p : Snap) (s : State) : snapMarks (loadSnapLogic p s) = snapMarks s := rfl

theorem loadSnapGraph_snapMarks (p : Snap) (s : State) : snapMarks (loadSnapGraph p s) = snapMarks s := rfl

theorem pubsById_snapMarks (ps : List GoosePub) (s : State) : snapMarks (pubsById ps s) = snapMarks s := rfl

theorem refreshPads_snapMarks (s : State) : snapMarks (refreshPads s) = snapMarks s := rfl

theorem markPoint_snapMarks (l : LogicSec) (s : State) (e : Nat × Bool × Nat) : snapMarks (markPoint l s e) = snapMarks s := by
  unfold markPoint
  dsimp only
  split <;> rfl

theorem dropTriggers_snapMarks (s : State) : snapMarks (dropTriggers s) = snapMarks s :=
  foldl_keeps snapMarks _ _ s fun s (g : Trig) => submit_snapMarks .logic 0x500A g.task s

theorem migrate_snapMarks (old new : LogicSec) (s : State) : snapMarks (migrate old new s) = snapMarks s := by
  unfold migrate
  dsimp only
  rw [submit_snapMarks]
  exact (dropTriggers_snapMarks _).trans (foldl_keeps snapMarks (markPoint new) _ _ fun s e => markPoint_snapMarks new s e)

theorem loadSnapMigrate_snapMarks (p : Snap) (s : State) : snapMarks (loadSnapMigrate p s) = snapMarks s := by
  have moved : snapMarks (match (loadSnapLogic p s).pr.migSec, (loadSnapLogic p s).le.sec with
      | some old, some new => migrate old new (loadSnapLogic p s)
      | _, _ => loadSnapLogic p s) = snapMarks s := by
    split
    · rw [migrate_snapMarks, loadSnapLogic_snapMarks]
    · rw [loadSnapLogic_snapMarks]
  exact moved

/-! JOIN_SNAPSHOT_DONE (R535, R536). -/

/-- The wave position and the figures of the snapshot, with the lane in catch-up. -/
def snapTaken (p : Snap) (s : State) : State :=
  { s with
    gr := { s.gr with running := true }
    le := { s.le with halted := false, forces := p.forces }
    img := { s.img with group := p.group }
    acq := { s.acq with wave := p.wave % 2 ^ 32, waveAt := p.at_, waves := p.waves }
    tu := { s.tu with slot := p.at_.1 * 16000 + p.at_.2 }
    net := { s.net with smpCnt := p.smpCnt }
    rio := { s.rio with seq := p.rioSeq }
    pr := { s.pr with snapDone := true, joinPhase := 2, dlyOwn := [], dlyGiven := [], partnerOver := [] } }

/-- A snapshot taken whole, on the same image. -/
def snapWhole (p : Snap) (s : State) : State :=
  loadSnapLogic p (loadSnapGraph p { snapTaken p s with net := { (snapTaken p s).net with pubs := p.pubs } })

theorem execJoinSnapshotDone_taken (p : Snap) (s : State) (hr : running s = true) (ht : s.pr.st = .joining)
    (ha : s.pr.active = false) (hj : s.pr.joinPhase = 1) (hw : p.wave = s.pr.w0) : execJoinSnapshotDone p s =
      .next (refreshPads (if s.pr.migrating then pubsById p.pubs (loadSnapMigrate p (snapTaken p s)) else snapWhole p s)) := by
  rw [execJoinSnapshotDone, if_neg (by simp [hr, ht, ha, hj, hw])]
  rfl

theorem snapTaken_snapMarks (p : Snap) (s : State) : snapMarks (snapTaken p s) =
    ((2, true, true, false), p.forces, (p.group, p.wave % 2 ^ 32, p.waves), p.rioSeq, p.smpCnt) := rfl

theorem snapWhole_snapMarks (p : Snap) (s : State) : snapMarks (snapWhole p s) = snapMarks (snapTaken p s) := rfl

/-- On the same image the publications, the graph's figures and the logic are the snapshot's. -/
structure SnapWhole (p : Snap) (t : State) : Prop where
  pubs : t.net.pubs = p.pubs
  energy : t.gr.energy = p.energy
  tokens : t.gr.tokens = p.tokens
  q : t.le.q = p.logic.q
  m : t.le.m = p.logic.m
  w : t.le.w = p.logic.w
  mode : t.le.mode = p.logic.mode

theorem snapWhole_whole (p : Snap) (s : State) : SnapWhole p (refreshPads (snapWhole p s)) :=
  ⟨rfl, rfl, rfl, rfl, rfl, rfl, rfl⟩

theorem execJoinSnapshotDone_marks (p : Snap) (s : State) (hr : running s = true) (ht : s.pr.st = .joining)
    (ha : s.pr.active = false) (hj : s.pr.joinPhase = 1) (hw : p.wave = s.pr.w0) :
    ∃ t, execJoinSnapshotDone p s = .next t ∧ snapMarks t = snapMarks (snapTaken p s) ∧
      (s.pr.migrating = false → SnapWhole p t) := by
  refine ⟨_, execJoinSnapshotDone_taken p s hr ht ha hj hw, ?_⟩
  by_cases hm : s.pr.migrating = true
  · rw [if_pos hm, refreshPads_snapMarks, pubsById_snapMarks, loadSnapMigrate_snapMarks]
    exact ⟨rfl, fun h => absurd (hm.symm.trans h) (by decide)⟩
  · rw [if_neg hm, refreshPads_snapMarks, snapWhole_snapMarks]
    exact ⟨rfl, fun _ => snapWhole_whole p s⟩

theorem execJoinSnapshotDone_completes (p : Snap) (s : State) (hr : running s = true) (ht : s.pr.st = .joining)
    (ha : s.pr.active = false) (hj : s.pr.joinPhase = 1) (hw : p.wave = s.pr.w0) :
    ∃ t, execJoinSnapshotDone p s = .next t ∧ t.pr.joinPhase = 2 ∧ t.pr.snapDone = true ∧ t.gr.running = true ∧
      t.le.halted = false ∧ t.le.forces = p.forces ∧ t.img.group = p.group ∧ t.acq.wave = p.wave % 2 ^ 32 ∧
      t.acq.waves = p.waves ∧ t.rio.seq = p.rioSeq ∧ t.net.smpCnt = p.smpCnt ∧
      (s.pr.migrating = false → t.net.pubs = p.pubs ∧ t.gr.energy = p.energy ∧ t.gr.tokens = p.tokens ∧
        t.le.q = p.logic.q ∧ t.le.m = p.logic.m ∧ t.le.w = p.logic.w ∧ t.le.mode = p.logic.mode) := by
  obtain ⟨t, now, marks, whole⟩ := execJoinSnapshotDone_marks p s hr ht ha hj hw
  rw [snapTaken_snapMarks] at marks
  simp only [snapMarks, Prod.mk.injEq] at marks
  obtain ⟨⟨phase, done, graph, logic⟩, forces, ⟨group, wave, waves⟩, seq, cnt⟩ := marks
  refine ⟨t, now, phase, done, graph, logic, forces, group, wave, waves, seq, cnt, fun hm => ?_⟩
  obtain ⟨pubs, energy, tokens, q, m, w, mode⟩ := whole hm
  exact ⟨pubs, energy, tokens, q, m, w, mode⟩

/-! JOIN_CATCHUP_DONE (R535, R554). -/

/-- The lane in step, its join's registers closed. -/
def joinedIn (s : State) : State :=
  { s with pr := { s.pr with joinPhase := 3, joinMs := joinTime s, joinAt := none, joinBuf := 0 } }

/-- The lane transmits again, its retained state written. -/
def transmits (s : State) : State := writeRetain { s with pr := { s.pr with tx := true, tripOff := false } }

theorem execJoinCatchupDone_in_step (s : State) (hr : running s = true) (ht : s.pr.st = .joining) (ha : s.pr.active = false)
    (hj : s.pr.joinPhase = 2) (hc : caughtUp s = true) : execJoinCatchupDone s =
      if s.pr.migrating then .next { joinedIn s with pr := { (joinedIn s).pr with migAt := td0 (joinedIn s) } }
      else .next (sendCell 6 [9] (refreshPads (setPair .twin (transmits (joinedIn s))))) := by
  rw [execJoinCatchupDone, if_neg (by simp [hr, ht, ha, hj, hc])]
  rfl

theorem execJoinCatchupDone_twin (s : State) (hr : running s = true) (ht : s.pr.st = .joining) (ha : s.pr.active = false)
    (hj : s.pr.joinPhase = 2) (hc : caughtUp s = true) (hm : s.pr.migrating = false) :
    ∃ t, execJoinCatchupDone s = .next t ∧ t.pr.st = .twin ∧ t.pr.tx = true ∧ t.pr.tripOff = false ∧ t.pr.active = false ∧
      t.pr.cells = (6, [9]) :: s.pr.cells := by
  have now := execJoinCatchupDone_in_step s hr ht ha hj hc
  rw [if_neg (by simp [hm])] at now
  have role : (transmits (joinedIn s)).pr.active = false := ha
  have sends : (transmits (joinedIn s)).pr.tx = true ∧ (transmits (joinedIn s)).pr.tripOff = false := ⟨rfl, rfl⟩
  have cells : (transmits (joinedIn s)).pr.cells = s.pr.cells := rfl
  generalize transmits (joinedIn s) = u at now role sends cells
  exact ⟨_, now, by simp [sendCell, refreshPads_pr, role, sends, cells]⟩

theorem execJoinCatchupDone_migrating (s : State) (hr : running s = true) (ht : s.pr.st = .joining) (ha : s.pr.active = false)
    (hj : s.pr.joinPhase = 2) (hc : caughtUp s = true) (hm : s.pr.migrating = true) :
    ∃ t, execJoinCatchupDone s = .next t ∧ Only [.pr] s t ∧ t.pr.st = .joining ∧ t.pr.joinPhase = 3 ∧ t.pr.migAt = td0 s := by
  refine ⟨_, (execJoinCatchupDone_in_step s hr ht ha hj hc).trans (if_pos hm), ?_⟩
  exact ⟨(State.with_pr_only s _).trans (State.with_pr_only _ _), ht, rfl, rfl⟩

/-! JOIN_FAILED (R537). -/

/-- A lane that starts afresh leaves the pair's registers. -/
theorem graphAfresh_only (s : State) : Only [.gr, .le, .tu, .acq] s (graphAfresh s) := fun p => by
  cases p <;> simp [Same, graphAfresh, placeWave, loadRows, loadGraph]

theorem checkReleased_only (s : State) : Only [.le, .evr] s (checkReleased s) :=
  Only.ite _ ((State.with_le_only s _).seq (submit_only _ _ _ _)) (Only.refl _ s)

theorem enterRun_only (s : State) : Only [.le, .evr] s (enterRun s) :=
  (((abandon_only s).seq (State.with_le_only _ _)).seq (checkReleased_only _)).mono (by decide)

theorem loadRetain_only (s : State) : Only [.le, .gr] s (loadRetain s) := fun p => by
  cases p <;> simp [Same, loadRetain]

/-- The logic before its warm start. -/
def logicAfresh (s : State) : State :=
  { loadRetain (abandon s) with le := { (loadRetain (abandon s)).le with holdAt := td0 (loadRetain (abandon s)) } }

theorem logicAfresh_only (s : State) : Only [.le, .gr] s (logicAfresh s) :=
  (((abandon_only s).seq (loadRetain_only _)).seq (State.with_le_only _ _)).mono (by decide)

theorem warmResume_only (s : State) : Only [.le, .evr] s (match warmMode s.le.ret.mode with
    | .run => setMode .run 1 (enterRun s)
    | m => setMode m 1 s) := by
  split
  · exact ((enterRun_only s).seq (setMode_only _ _ _)).mono (by decide)
  · exact setMode_only _ _ s

theorem startAfresh_eq (s : State) : startAfresh s = if (graphAfresh s).le.sec.isNone then graphAfresh s
    else match warmMode (logicAfresh (graphAfresh s)).le.ret.mode with
      | .run => setMode .run 1 (enterRun (logicAfresh (graphAfresh s)))
      | m => setMode m 1 (logicAfresh (graphAfresh s)) := rfl

theorem startAfresh_only (s : State) : Only [.gr, .le, .tu, .acq, .evr] s (startAfresh s) := by
  rw [startAfresh_eq]
  have begun := graphAfresh_only s
  exact Only.ite _ (begun.mono (by decide))
    (((begun.seq (logicAfresh_only _)).seq (warmResume_only _)).mono (by decide))

theorem resumeOwn_only (s : State) : Only [.gr, .le, .tu, .acq, .evr] s (resumeOwn s) :=
  Only.ite _ (Only.refl _ s) (startAfresh_only s)

/-- The failure told, with the join's registers closed. -/
def joinLost (cause : Nat) (s : State) : State :=
  { submit .pair 0x900A cause { s with pr := { s.pr with failAt := some (td0 s), joinAt := none, joinPhase := 0, joinBuf := 0 } } with
    pr := { (submit .pair 0x900A cause { s with pr := { s.pr with
      failAt := some (td0 s), joinAt := none, joinPhase := 0, joinBuf := 0 } }).pr with agree := [] } }

theorem joinLost_only (cause : Nat) (s : State) : Only [.pr, .evr] s (joinLost cause s) :=
  (((State.with_pr_only s _).seq (submit_only _ _ _ _)).seq (State.with_pr_only _ _)).mono (by decide)

theorem joinLost_pr (cause : Nat) (s : State) : (joinLost cause s).pr =
    { s.pr with failAt := some (td0 s), joinAt := none, joinPhase := 0, joinBuf := 0, agree := [] } := by
  simp [joinLost]

theorem failJoin_joining (cause : Nat) (s : State) (h : s.pr.st = .joining) :
    failJoin cause s = setPair .solo (resumeOwn (joinLost cause s)) :=
  if_neg (by simp [h])

/-- A failed join: SOLO again, the instant noted, the join's own instant forgotten. -/
structure JoinFails (s t : State) : Prop where
  solo : t.pr.st = .solo
  noted : t.pr.failAt = some (td0 s)
  closed : t.pr.joinAt = none
  role : t.pr.active = s.pr.active

theorem failJoin_fails (cause : Nat) (s : State) (h : s.pr.st = .joining) : JoinFails s (failJoin cause s) := by
  have kept : (resumeOwn (joinLost cause s)).pr = (joinLost cause s).pr := (resumeOwn_only _).same .pr (by decide)
  rw [failJoin_joining cause s h]
  constructor
  · exact setPair_st .solo _
  · rw [setPair_failAt, kept, joinLost_pr]
  · rw [setPair_joinAt, kept, joinLost_pr]
  · rw [setPair_active, kept, joinLost_pr]

/-- With its snapshot complete the lane continues on its own inputs at once. -/
theorem failJoin_only (cause : Nat) (s : State) (h : s.pr.st = .joining) (hd : s.pr.snapDone = true) :
    Only [.pr, .evr, .hlt, .pads] s (failJoin cause s) := by
  have resumed : resumeOwn (joinLost cause s) = joinLost cause s := if_pos (by rw [joinLost_pr]; exact hd)
  rw [failJoin_joining cause s h, resumed]
  exact ((joinLost_only cause s).seq (setPair_only _ _)).mono (by decide)

theorem execJoinFailed_full (a : Nat) (s : State) (ht : s.pr.st = .joining) (ha : s.pr.joinAt = some a) :
    execJoinFailed true s = .next (failJoin 3 s) := by
  rw [execJoinFailed, if_neg (by simp [ht, ha]), if_pos rfl]

theorem execJoinFailed_late (a : Nat) (s : State) (ht : s.pr.st = .joining) (ha : s.pr.joinAt = some a)
    (hd : due s a (joinTimeout s) = true) : execJoinFailed false s = .next (failJoin 4 s) := by
  rw [execJoinFailed, if_neg (by simp [ht, ha]), if_neg (by decide), ha, Option.any_some, hd, if_pos rfl]

/-! JOIN_RETRY and MIGRATE_WARM_DONE (R537, R554). -/

/-- The binding given up, but for one that a handover drops later. -/
def bindGiven (s : State) : State := if s.pr.bindDrop then s else dropBind s

theorem bindGiven_only (s : State) : Only [.pads, .pr] s (bindGiven s) := Only.ite _ (Only.refl _ s) (dropBind_only s)

theorem bindGiven_keeps {β : Type} (k : Pair → β) (hk : ∀ p w, k { p with bindWant := w } = k p) (s : State) :
    k (bindGiven s).pr = k s.pr := by
  unfold bindGiven
  split
  · rfl
  · exact hk _ _

/-- The graph, the logic and the recorder wait for the snapshot; `prot` is what stays of the protection-rate ring. -/
def joinWaits (prot : List Samp) (s : State) : State :=
  { s with
    le := { s.le with halted := true }, gr := { s.gr with running := false }, dr := { s.dr with fill := 0, coll := none, prot := prot }
    pr := { s.pr with
      tx := false, tripOff := true, joinAt := some (td0 s), joinPhase := 1, joinBuf := 0, snapDone := false
      agree := [], digests := [], pDigests := [], verdict := none, prov := none, hand := none, handOk := false
      sched := [], handX := [], bulk := [], xc := s.pr.xc.map (fun _ => default) } }

theorem joinWaits_only (prot : List Samp) (s : State) : Only [.le, .gr, .dr, .pr] s (joinWaits prot s) := fun p => by
  cases p <;> simp [Same, joinWaits]

/-- What a join leaves of the protection-rate ring: with a capture or a record in transfer it stays. -/
def ringKept (s : State) : List Samp :=
  if (s.dr.cap.isSome || s.dr.reel.any (fun (r : Record) => r.state == 1)) = true then s.dr.prot else []

theorem startJoin_eq (s : State) : startJoin s = sendCell 6 [6, b2n (bindGiven s).pr.migrating]
    (setPair .joining (joinWaits (ringKept (bindGiven s)) (bindGiven s))) := rfl

/-- A join that begins: its phase, and nothing transmitted. -/
structure JoinBegins (s t : State) : Prop where
  only : Only [.le, .gr, .dr, .pr, .pads, .evr, .hlt] s t
  joining : t.pr.st = .joining
  phase : t.pr.joinPhase = 1
  quiet : t.pr.tx = false
  held : t.pr.tripOff = true
  failAt : t.pr.failAt = s.pr.failAt
  migrating : t.pr.migrating = s.pr.migrating

theorem startJoin_begins (s : State) : JoinBegins s (startJoin s) := by
  have given := bindGiven_only s
  generalize ha : bindGiven s = a at given
  rw [startJoin_eq, ha]
  constructor
  · exact (((given.seq (joinWaits_only (ringKept a) a)).seq (setPair_only .joining (joinWaits (ringKept a) a))).seq
      (sendCell_only _ _ _)).mono (by decide)
  · exact setPair_st .joining (joinWaits (ringKept a) a)
  · exact setPair_joinPhase .joining (joinWaits (ringKept a) a)
  · exact setPair_tx .joining (joinWaits (ringKept a) a)
  · exact setPair_tripOff .joining (joinWaits (ringKept a) a)
  · exact (setPair_failAt .joining (joinWaits (ringKept a) a)).trans (ha ▸ bindGiven_keeps Pair.failAt (fun _ _ => rfl) s)
  · exact (setPair_migrating .joining (joinWaits (ringKept a) a)).trans (ha ▸ bindGiven_keeps Pair.migrating (fun _ _ => rfl) s)

theorem tryJoin_begins (s : State) (h : mayJoin s = true) (hm : s.pr.partnerMark = watermark s) : JoinBegins s (tryJoin s) := by
  rw [tryJoin, if_neg (by simp [h]), if_pos (by simp [hm])]
  exact startJoin_begins s

theorem tryJoin_may_not (s : State) (h : mayJoin s = false) : tryJoin s = s := if_pos (by simp [h])

theorem mayJoin_lane_down (s : State) (h : s.pr.lanes ≠ 3#2) : mayJoin s = false := by simp [mayJoin, h]

/-- The join's failure forgotten. -/
def retried (s : State) : State := { s with pr := { s.pr with failAt := none } }

theorem execJoinRetry_due (a : Nat) (s : State) (hf : s.pr.failAt = some a) (hd : due s a (secT 10) = true) :
    execJoinRetry s = .next (tryJoin (retried s)) := by
  rw [execJoinRetry, hf, Option.any_some, hd, if_pos rfl]
  rfl

theorem execJoinRetry_lane_down (a : Nat) (s : State) (hf : s.pr.failAt = some a) (hd : due s a (secT 10) = true)
    (hl : s.pr.lanes ≠ 3#2) : execJoinRetry s = .next (retried s) := by
  rw [execJoinRetry_due a s hf hd, tryJoin_may_not (retried s) (mayJoin_lane_down (retried s) hl)]

theorem execJoinRetry_joins (a : Nat) (s : State) (hf : s.pr.failAt = some a) (hd : due s a (secT 10) = true)
    (hj : mayJoin (retried s) = true) (hm : s.pr.partnerMark = watermark s) :
    ∃ t, execJoinRetry s = .next t ∧ t.pr.st = .joining ∧ t.pr.joinPhase = 1 ∧ t.pr.failAt = none ∧ t.pr.tx = false :=
  have ⟨_, joining, phase, quiet, _, noted, _⟩ := tryJoin_begins (retried s) hj hm
  ⟨_, execJoinRetry_due a s hf hd, joining, phase, noted, quiet⟩

theorem execMigrateWarmDone_due (s : State) (hm : s.pr.migrating = true) (ht : s.pr.st = .joining) (hr : s.pr.ready = false)
    (hj : s.pr.joinPhase = 3) (hd : due s s.pr.migAt (msT (pv s 0x0D05 0 0 2 2000)) = true) :
    execMigrateWarmDone s = .next { s with pr := { s.pr with ready := true } } := by
  rw [execMigrateWarmDone, hd, if_pos (by simp [hm, ht, hr, hj])]

end Sys2Proof.Machine
end

section
/-! PROOFS. Divergence, a faulty standby and the verdicts (R538, R543, R544). -/

namespace Sys2Proof.Machine
open Sys2Proof

/-! A lane declared faulty (R544). -/

/-- The standby's registers once it is declared faulty. -/
def faultyTold (value : Nat) (s : State) : State :=
  { submit .pair 0x9009 value s with pr := { (submit .pair 0x9009 value s).pr with
    faulty := true, tx := false, tripOff := true, verdict := none, joinAt := none } }

theorem declareFaulty_standby (value : Nat) (s : State) (h : s.pr.active = false) :
    declareFaulty value s = refreshPads (setPair .solo (dropBind (faultyTold value s))) :=
  if_neg (by rw [submit_pr, h]; decide)

theorem declareFaulty_active (value : Nat) (s : State) (h : s.pr.active = true) : declareFaulty value s =
    activeSolo { submit .pair 0x9009 value s with pr := { (submit .pair 0x9009 value s).pr with partnerFaulty := true } } :=
  if_pos (by rw [submit_pr, h])

theorem faultyTold_pr (value : Nat) (s : State) : (faultyTold value s).pr =
    { s.pr with faulty := true, tx := false, tripOff := true, verdict := none, joinAt := none } := by
  simp [faultyTold]

/-- The divergence's registers and what has been said of it, with the trips held off. -/
def divMarks (s : State) : Nat × (Nat × Nat × Nat × Nat) × Bool × List (Nat × List Nat) :=
  (s.pr.divCnt, s.pr.divLast, s.pr.tripOff, s.pr.cells)

theorem declareFaulty_divMarks (value : Nat) (s : State) (h : s.pr.active = false) (ht : s.pr.tripOff = true) :
    divMarks (declareFaulty value s) = divMarks s := by
  rw [declareFaulty_standby value s h]
  simp only [divMarks, refreshPads_pr, setPair_divCnt, setPair_divLast, setPair_tripOff, setPair_cells]
  simp [dropBind, faultyTold_pr, ht]

/-! A divergence (R543). -/

/-- A divergence counted and noted. -/
def divNoted (cause : Nat) (s : State) : State :=
  { fireDetOnce 0x1E cause s with pr := { (fireDetOnce 0x1E cause s).pr with
    divCnt := satInc 32 (fireDetOnce 0x1E cause s).pr.divCnt
    divLast := (cause, 0, 0, (fireDetOnce 0x1E cause s).acq.wave % 65536)
    divAt := td0 (fireDetOnce 0x1E cause s) ::
      (fireDetOnce 0x1E cause s).pr.divAt.filter (fun t => !due (fireDetOnce 0x1E cause s) t (secT 3600)) } }

/-- A drill in progress ends with result 5. -/
def drillBroken (s : State) : State :=
  if s.pr.drSt = 1 ∨ s.pr.drSt = 2 then submit .pair 0x900B 5 { s with pr := { s.pr with drSt := 3, drResult := 5 } } else s

/-- The standby holds its trips off and stops transmitting from the next wave. -/
def standbyHeld (s : State) : State :=
  if s.pr.active then s
  else { s with pr := { s.pr with tripOff := true, sched := ((s.acq.wave + 1) % 2 ^ 32, 15, []) :: s.pr.sched } }

/-- A divergence told, before its outcome. -/
def divTold (cause : Nat) (s : State) : State := standbyHeld (drillBroken (divNoted cause s))

theorem diverge_eq (cause : Nat) (s : State) : diverge cause s =
    if 3 ≤ divHour (divTold cause s) then declareFaulty 2 (divTold cause s)
    else if cause = 3 ∨ cause = 4 then
      (if (divTold cause s).pr.active then activeSolo (divTold cause s) else startJoin (divTold cause s))
    else { divTold cause s with pr := { (divTold cause s).pr with verdict := some (cause, td0 (divTold cause s)) } } := rfl

theorem drillBroken_keeps {β : Type} (k : Pair → β) (hk : ∀ p a b, k { p with drSt := a, drResult := b } = k p) (s : State) :
    k (drillBroken s).pr = k s.pr := by
  unfold drillBroken
  split
  · rw [submit_pr]
    exact hk _ _ _
  · rfl

theorem divTold_standby (cause : Nat) (s : State) (h : s.pr.active = false) :
    divMarks (divTold cause s) = (satInc 32 s.pr.divCnt, (cause, 0, 0, s.acq.wave % 65536), true, s.pr.cells) ∧
      (divTold cause s).pr.active = false := by
  have role : (drillBroken (divNoted cause s)).pr.active = false := by
    rw [drillBroken_keeps Pair.active (fun _ _ _ => rfl)]
    exact (congrArg Pair.active (fireDetOnce_pr _ _ _)).trans h
  have held : (standbyHeld (drillBroken (divNoted cause s))) = _ := if_neg (by simp [role])
  constructor
  · rw [divTold, held]
    simp only [divMarks, drillBroken_keeps Pair.divCnt (fun _ _ _ => rfl), drillBroken_keeps Pair.divLast (fun _ _ _ => rfl),
      drillBroken_keeps Pair.cells (fun _ _ _ => rfl)]
    simp [divNoted]
  · rw [divTold, held]
    exact role

/-- A standby's divergence of a cause that a verdict decides. -/
theorem diverge_standby (cause : Nat) (s : State) (h : s.pr.active = false) (h3 : cause ≠ 3) (h4 : cause ≠ 4) :
    divMarks (diverge cause s) = (satInc 32 s.pr.divCnt, (cause, 0, 0, s.acq.wave % 65536), true, s.pr.cells) := by
  obtain ⟨marks, role⟩ := divTold_standby cause s h
  have trips : (divTold cause s).pr.tripOff = true := congrArg (fun x => x.2.2.1) marks
  rw [diverge_eq]
  split
  · rw [declareFaulty_divMarks 2 _ role trips, marks]
  · rw [if_neg (by simp [h3, h4])]
    exact marks

theorem execAgreementDueMissing_standby (item : Nat) (s : State) (hr : running s = true) (ht : s.pr.st = .twin)
    (hv : s.pr.verdict = none) (hl : s.pr.lanes ≠ 0#2) (hi : item ≠ 0) (ha : s.pr.active = false) :
    execAgreementDueMissing item s =
      .next (diverge 2 (sendCell 6 [10, 2] { s with pr := { s.pr with digests := [], pDigests := [] } })) := by
  rw [execAgreementDueMissing, if_neg (by simp [hr, ht, hv, hl]), if_pos (Or.inr ⟨hi, by simp [ha]⟩)]

theorem execAgreementDueMissing_diverges (item : Nat) (s : State) (hr : running s = true) (ht : s.pr.st = .twin)
    (hv : s.pr.verdict = none) (hl : s.pr.lanes ≠ 0#2) (hi : item ≠ 0) (ha : s.pr.active = false) :
    ∃ t, execAgreementDueMissing item s = .next t ∧ t.pr.divCnt = satInc 32 s.pr.divCnt ∧
      t.pr.divLast = (2, 0, 0, s.acq.wave % 65536) ∧ t.pr.tripOff = true ∧ (6, [10, 2]) ∈ t.pr.cells := by
  have marks := diverge_standby 2 (sendCell 6 [10, 2] { s with pr := { s.pr with digests := [], pDigests := [] } }) ha
    (by decide) (by decide)
  simp only [divMarks, Prod.mk.injEq] at marks
  obtain ⟨count, last, trips, cells⟩ := marks
  refine ⟨_, execAgreementDueMissing_standby item s hr ht hv hl hi ha, count, ?_, trips, ?_⟩
  · exact last
  · rw [cells]
    exact List.mem_cons_self

/-! The verdicts (R543). -/

/-- The lane's own verdict told to its partner. -/
def ownVerdict (v cause other w : Nat) (s : State) : State :=
  sendCell 6 [7, v] { s with pr := { s.pr with divLast := (cause, v, other, w) } }

theorem execVerdictComplete_own (pass : Bool) (cause other w : Nat) (s : State) (hv : s.pr.verdict.isSome = true)
    (hd : s.pr.divLast = (cause, 0, other, w)) : execVerdictComplete pass s =
      .next (resolveVerdict (ownVerdict (if verdictOwn pass s then 1 else 2) cause other w s)) := by
  rw [execVerdictComplete, hd]
  exact if_neg (by simp [Option.isSome_iff_ne_none.mp hv])

theorem resolveVerdict_waits (v cause w : Nat) (s : State) (h : s.pr.divLast = (cause, v, 0, w)) : resolveVerdict s = s := by
  rw [resolveVerdict, h]
  exact if_pos (by simp)

theorem execVerdictComplete_first (pass : Bool) (cause w : Nat) (s : State) (hv : s.pr.verdict.isSome = true)
    (hd : s.pr.divLast = (cause, 0, 0, w)) : execVerdictComplete pass s = .next { s with pr := { s.pr with
      divLast := (cause, (if verdictOwn pass s then 1 else 2), 0, w)
      cells := (6, [7, if verdictOwn pass s then 1 else 2]) :: s.pr.cells } } := by
  rw [execVerdictComplete_own pass cause 0 w s hv hd]
  exact congrArg _ (resolveVerdict_waits _ cause w _ rfl)

theorem resolveVerdict_partner_failed (cause w : Nat) (s : State) (h : s.pr.divLast = (cause, 1, 2, w))
    (hv : s.pr.verdict.isSome = true) (hh : s.pr.hand = none) (ha : s.pr.active = true) : resolveVerdict s = declareFaulty 1 s := by
  rw [resolveVerdict, h]
  exact (if_neg (by simp [Option.isSome_iff_ne_none.mp hv, hh])).trans (if_pos (by simp [ha]))

/-- An active in SOLO, its partner faulty. -/
theorem declareFaulty_partner (value : Nat) (s : State) (h : s.pr.active = true) :
    (declareFaulty value s).pr.active = true ∧ (declareFaulty value s).pr.st = .solo ∧
      (declareFaulty value s).pr.partnerFaulty = true ∧ (declareFaulty value s).pr.verdict = none := by
  rw [declareFaulty_active value s h]
  refine ⟨?_, setPair_st .solo _, setPair_partnerFaulty .solo _, setPair_verdict .solo _⟩
  rw [activeSolo, setPair_active]
  exact (congrArg Pair.active (submit_pr _ _ _ _)).trans h

theorem execVerdictComplete_alone (pass : Bool) (cause w : Nat) (s : State) (hv : s.pr.verdict.isSome = true)
    (hd : s.pr.divLast = (cause, 0, 2, w)) (hp : verdictOwn pass s = true) (ha : s.pr.active = true) (hh : s.pr.hand = none) :
    ∃ t, execVerdictComplete pass s = .next t ∧ t.pr.active = true ∧ t.pr.st = .solo ∧ t.pr.partnerFaulty = true ∧
      t.pr.verdict = none := by
  refine ⟨_, (execVerdictComplete_own pass cause 2 w s hv hd).trans (congrArg _
    (resolveVerdict_partner_failed cause w _ ?_ hv hh ha)), declareFaulty_partner 1 _ ha⟩
  rw [if_pos hp]
  rfl

/-- Settles O49, row by row. -/
theorem pairRoleRowsComplete : Obligations.PairRoleRowsComplete := by
  unfold Obligations.PairRoleRowsComplete
  refine ⟨execJoinSnapshotDone_completes,
    fun s hr ht ha hj hc => ⟨execJoinCatchupDone_twin s hr ht ha hj hc, execJoinCatchupDone_migrating s hr ht ha hj hc⟩,
    fun a s ht ha => ⟨?_, fun hd => ?_⟩, fun a s hf hd => ⟨execJoinRetry_lane_down a s hf hd, execJoinRetry_joins a s hf hd⟩,
    execMigrateWarmDone_due, execAgreementDueMissing_diverges, fun pass cause other w s hv hd => ⟨?_, ?_⟩⟩
  · obtain ⟨solo, noted, closed, role⟩ := failJoin_fails 3 s ht
    exact ⟨_, execJoinFailed_full a s ht ha, solo, noted, closed, role, failJoin_only 3 s ht⟩
  · obtain ⟨solo, noted, _, _⟩ := failJoin_fails 4 s ht
    exact ⟨_, execJoinFailed_late a s ht ha hd, solo, noted⟩
  · rintro rfl
    exact execVerdictComplete_first pass cause w s hv hd
  · rintro rfl hp ha - hh
    exact execVerdictComplete_alone pass cause w s hv hd hp ha hh

end Sys2Proof.Machine
end

section
/-! PROOFS. The commanded handover, the drill and PAIR_RELEASE (R546, R553 to R555). -/

namespace Sys2Proof.Machine
open Sys2Proof

/-! HANDOVER_WAVE (R546). -/

theorem execHandoverWave_due (cause : Nat) (s : State) (hr : running s = true) (hd : releaseDue s = true)
    (hh : s.pr.hand = some ((s.acq.wave + 1) % 2 ^ 32, cause)) : execHandoverWave s = .next (performHandover s) := by
  rw [execHandoverWave, if_pos ⟨hr, hd⟩, handoverAt, hh, Option.any_some, beq_self_eq_true, if_pos rfl]

/-- The active's registers once it has told the partner of the handover. -/
def roleGiven (s : State) : State := sendCell 6 [8] { s with pr := { s.pr with
  bindDrop := s.pads.bindOut, bindWant := false, hand := none, handOk := false, handX := [], agree := [] } }

theorem performHandover_yields (w cause : Nat) (s : State) (hh : s.pr.hand = some (w, cause)) (hc : cause ≠ 5)
    (ha : s.pr.active = true) (ho : s.pr.handOk = true) (ht : s.pr.st = .twin) :
    performHandover s = refreshPads (afterHandover s.pr.handX (setRoleActive false (roleGiven s))) := by
  simp [performHandover, hh, ha, ho, ht, hc, roleGiven]

theorem performHandover_dropped (w cause : Nat) (s : State) (hh : s.pr.hand = some (w, cause)) (ha : s.pr.active = true)
    (ho : s.pr.handOk = false) : performHandover s = { s with pr := { s.pr with hand := none, handX := [] } } := by
  simp [performHandover, hh, ha, ho]

/-- The standby's registers as it takes the role over. -/
def roleAwaited (s : State) : State := { s with pr := { s.pr with verdict := none, handX := [] } }

theorem performHandover_takes (w cause : Nat) (s : State) (hh : s.pr.hand = some (w, cause)) (hc : cause ≠ 5)
    (ha : s.pr.active = false) (ht : s.pr.st = .twin) :
    performHandover s = afterHandover s.pr.handX (takeover cause (roleAwaited s)) := by
  simp [performHandover, hh, ha, ht, hc, roleAwaited]

theorem afterHandover_nil (s : State) : afterHandover [] s = s := rfl

section
variable (s : State) (hr : running s = true) (hd : releaseDue s = true) (ht : s.pr.st = .twin)
  (hh : s.pr.hand = some ((s.acq.wave + 1) % 2 ^ 32, 6)) (hx : s.pr.handX = [])
include hr hd hh

theorem execHandoverWave_dropped (ha : s.pr.active = true) (ho : s.pr.handOk = false) :
    execHandoverWave s = .next { s with pr := { s.pr with hand := none, handX := [] } } := by
  rw [execHandoverWave_due 6 s hr hd hh, performHandover_dropped _ 6 s hh ha ho]

include ht hx

theorem execHandoverWave_yields (ha : s.pr.active = true) (ho : s.pr.handOk = true) :
    ∃ t, execHandoverWave s = .next t ∧ Only [.pr, .evr, .pads] s t ∧ t.pr.active = false ∧ t.pr.bindDrop = s.pads.bindOut ∧
      t.pr.hand = none ∧ t.pr.cells = (6, [8]) :: s.pr.cells ∧ t.pr.st = .twin ∧ t.pads.bindOut = s.pads.bindOut := by
  have given : Only [.pr, .evr] s (setRoleActive false (roleGiven s)) :=
    (((State.with_pr_only s _).trans (sendCell_only _ _ _)).seq (setRoleActive_only false _)).mono (by decide)
  refine ⟨_, execHandoverWave_due 6 s hr hd hh, ?_⟩
  rw [performHandover_yields _ 6 s hh (by decide) ha ho ht, hx, afterHandover_nil]
  refine ⟨(given.seq (refreshPads_only _)).mono (by decide), ?_, ?_, ?_, ?_, ?_, ?_⟩
  · exact setRoleActive_active false _
  · exact setRoleActive_bindDrop false _
  · exact setRoleActive_hand false _
  · exact setRoleActive_cells false _
  · exact (setRoleActive_st false _).trans ht
  · exact congrArg Prod.snd (bindLines_of_only given (by decide))

theorem execHandoverWave_takes (ha : s.pr.active = false) :
    ∃ t, execHandoverWave s = .next t ∧ Only [.pr, .evr, .pads, .tu, .le] s t ∧ t.pr.active = true ∧ t.pr.st = .twin ∧
      t.pr.takeover = (6, (s.acq.wave + 1) % 65536) ∧ t.pr.tx = true ∧ t.pr.hand = none := by
  refine ⟨_, execHandoverWave_due 6 s hr hd hh, ?_⟩
  rw [performHandover_takes _ 6 s hh (by decide) ha ht, hx, afterHandover_nil]
  exact ⟨((State.with_pr_only s _).seq (takeover_only 6 (roleAwaited s))).mono (by decide), takeover_active 6 _,
    (takeover_st 6 (roleAwaited s)).trans ht, takeover_takeover 6 (roleAwaited s), takeover_tx 6 _, takeover_hand 6 _⟩

end

/-! PAIR_DRILL, DRILL_DWELL_END and DRILL_DUE (R553). -/

theorem execPairDrill_named (r : Req) (dwell : Nat) (s : State) (h : Served r 0x0080 s) (h1 : 1 ≤ dwell) (h60 : dwell ≤ 60)
    (ho : drillOk s = true) : execPairDrill r dwell s = .next (nameHandover 6 [1, dwell] (answer r 0x0080 .ok s)) := by
  rw [execPairDrill, serve_served r 0x0080 s _ h, if_neg (by omega), if_neg (by simp [ho])]

theorem execDrillDwellEnd_returns (s : State) (ha : s.pr.active = true) (ht : s.pr.st = .twin) (hs : s.pr.drSt = 1)
    (hh : s.pr.hand = none) (hd : due s s.pr.drAt (msT 1) = true)
    (he : (drillChecks s).1 ≠ 0 ∨ due s s.pr.drAt (secT s.pr.drDwell) = true) :
    execDrillDwellEnd s = .next (drillReturn (drillChecks s) s) := by
  rw [execDrillDwellEnd, hd, if_neg (by simp [ha, ht, hs, hh])]
  exact if_pos he

theorem execDrillDwellEnd_completes (s : State) (ha : s.pr.active = true) (ht : s.pr.st = .twin) (hs : s.pr.drSt = 1)
    (hh : s.pr.hand = none) (hd : due s s.pr.drAt (msT 1) = true)
    (he : (drillChecks s).1 ≠ 0 ∨ due s s.pr.drAt (secT s.pr.drDwell) = true) :
    ∃ t, execDrillDwellEnd s = .next t ∧ Only [.pr] s t ∧ t.pr.drSt = 2 ∧ t.pr.hand = some ((s.acq.wave + 33) % 2 ^ 32, 6) ∧
      t.pr.handX = [2, (drillChecks s).1, (drillChecks s).2.1, (drillChecks s).2.2] := by
  have now := execDrillDwellEnd_returns s ha ht hs hh hd he
  generalize drillChecks s = c at now ⊢
  exact ⟨_, now, ((State.with_pr_only s _).trans (State.with_pr_only _ _)).trans (sendCell_only _ _ _), rfl, rfl, rfl⟩

theorem execDrillDue_told (s : State) (ha : pairActs s = true) (he : pv s 0x0D04 0 0 2 30 ≠ 0)
    (hd : s.pr.dueDay ≠ some (secOf (td1 s) / 86400)) (hl : s.pr.drillT + 86400 * pv s 0x0D04 0 0 2 30 < secOf (td1 s)) :
    execDrillDue s = .next (submit .pair 0x9010 ((secOf (td1 s) - s.pr.drillT) / 86400)
      { s with pr := { s.pr with dueDay := some (secOf (td1 s) / 86400) } }) := by
  rw [execDrillDue, if_neg (by rintro (h | h | h | h) <;> [simp [ha] at h; exact he h; exact hd h; omega])]
  rfl

/-! PAIR_RELEASE (R554, R555). -/

/-- What each action of PAIR_RELEASE does. -/
def releaseAct (r : Req) (action : Nat) (s : State) : State :=
  match action with
  | 1 => releaseClear r s
  | 2 => releaseYield r s
  | 3 => releaseLeave r s
  | _ => releaseMigrate r s

theorem execPairRelease_acts (r : Req) (action : Nat) (s : State) (h : Served r 0x0081 s) (ha : pairActs s = true)
    (h1 : 1 ≤ action) (h4 : action ≤ 4) : execPairRelease r action s = .next (releaseAct r action s) := by
  rw [execPairRelease, serve_served r 0x0081 s _ h, if_neg (by omega), if_neg (by simp [ha])]
  rfl

/-- The declarations cleared and told to the partner. -/
def declarationsCleared (s : State) : State := { sendCell 6 [12] s with pr := { (sendCell 6 [12] s).pr with
  faulty := false, left := false, partnerFaulty := false, failAt := none } }

theorem releaseClear_faulty (r : Req) (s : State) (hf : s.pr.faulty = true) (hl : s.pr.lanes ≠ 3#2) :
    releaseClear r s = declarationsCleared (answer r 0x0081 .ok s) := by
  have lanes : (declarationsCleared (answer r 0x0081 .ok s)).pr.lanes ≠ 3#2 :=
    (congrArg Pair.lanes (answer_pr r 0x0081 .ok s)).trans_ne hl
  rw [releaseClear, if_neg (by simp [hf])]
  exact tryJoin_may_not _ (mayJoin_lane_down _ lanes)

theorem declarationsCleared_only (s : State) : Only [.pr] s (declarationsCleared s) :=
  (sendCell_only _ _ s).trans (State.with_pr_only _ _)

theorem execPairRelease_clears (r : Req) (s : State) (h : Served r 0x0081 s) (ha : pairActs s = true) (hf : s.pr.faulty = true)
    (hl : s.pr.lanes ≠ 3#2) : ∃ t, execPairRelease r 1 s = .next t ∧ Only [.pr, .cmd, .pads] s t ∧ t.pr.faulty = false ∧
      t.pr.left = false ∧ t.pr.partnerFaulty = false ∧ t.pr.cells = (6, [12]) :: s.pr.cells :=
  ⟨_, (execPairRelease_acts r 1 s h ha (by decide) (by decide)).trans (congrArg _ (releaseClear_faulty r s hf hl)),
    ((answer_only r 0x0081 .ok s).seq (declarationsCleared_only _)).mono (by decide), rfl, rfl, rfl,
    congrArg (fun p : Pair => (6, [12]) :: p.cells) (answer_pr r 0x0081 .ok s)⟩

theorem execPairRelease_yields (r : Req) (s : State) (h : Served r 0x0081 s) (ha : pairActs s = true) (hb : s.pr.active = true)
    (ht : s.pr.st = .twin) (hh : s.pr.hand = none) (hv : s.pr.verdict = none) (hs : s.pr.drSt = 0) :
    execPairRelease r 2 s = .next (nameHandover 6 [] (answer r 0x0081 .ok s)) ∧
      execPairRelease r 3 s = .next (nameHandover 6 [3] (answer r 0x0081 .ok s)) := by
  rw [execPairRelease_acts r 2 s h ha (by decide) (by decide), execPairRelease_acts r 3 s h ha (by decide) (by decide)]
  constructor
  · exact congrArg _ (if_pos (by simp [hb, ht, hh, hv, hs]))
  · exact congrArg _ ((if_pos hb).trans (if_pos (by simp [ht, hh, hv])))

/-- The registers of a lane outside the pair. -/
def leftPair (s : State) : State := { bindGiven s with pr := { (bindGiven s).pr with
  tx := false, tripOff := true, left := true, joinAt := none, joinPhase := 0, verdict := none, hand := none, handOk := false
  handX := [], prov := none, agree := [], digests := [], pDigests := [], migrating := false, ready := false } }

theorem leavePair_eq (s : State) : leavePair s = refreshPads (setPair .solo (leftPair s)) := rfl

theorem bindGiven_bindOut (s : State) (h : s.pr.bindDrop = false) : (bindGiven s).pads.bindOut = false := by
  rw [bindGiven, if_neg (by simp [h])]
  rfl

theorem leavePair_bindOut (s : State) (h : s.pr.bindDrop = false) : (leavePair s).pads.bindOut = false :=
  (congrArg Prod.snd (setPair_bindLines .solo (leftPair s))).trans (bindGiven_bindOut s h)

/-- A lane that has left: SOLO, silent, its trips held off. -/
structure PairLeft (t : State) : Prop where
  left : t.pr.left = true
  solo : t.pr.st = .solo
  quiet : t.pr.tx = false
  held : t.pr.tripOff = true

theorem leavePair_left (s : State) : PairLeft (leavePair s) := by
  have regs : (leftPair s).pr.left = true ∧ (leftPair s).pr.tx = false ∧ (leftPair s).pr.tripOff = true := ⟨rfl, rfl, rfl⟩
  rw [leavePair_eq]
  generalize leftPair s = u at regs
  obtain ⟨left, quiet, held⟩ := regs
  constructor
  · rw [refreshPads_pr, setPair_left, left]
  · rw [refreshPads_pr, setPair_st]
  · rw [refreshPads_pr, setPair_tx, quiet]
  · rw [refreshPads_pr, setPair_tripOff, held]

theorem releaseLeave_leaves (r : Req) (s : State) (hb : s.pr.active = false) (hl : s.pr.left = false) :
    releaseLeave r s = sendCell 6 [13] (leavePair (answer r 0x0081 .ok s)) := by
  rw [releaseLeave, if_neg (by simp [hb]), if_neg (by simp [hl])]

theorem execPairRelease_leaves (r : Req) (s : State) (h : Served r 0x0081 s) (ha : pairActs s = true) (hb : s.pr.active = false)
    (hl : s.pr.left = false) : ∃ t, execPairRelease r 3 s = .next t ∧ t.pr.left = true ∧ t.pr.st = .solo ∧ t.pr.tx = false ∧
      t.pr.tripOff = true ∧ (s.pr.bindDrop = false → t.pads.bindOut = false) := by
  have now := (execPairRelease_acts r 3 s h ha (by decide) (by decide)).trans (congrArg _ (releaseLeave_leaves r s hb hl))
  have drop : (answer r 0x0081 .ok s).pr.bindDrop = s.pr.bindDrop := congrArg Pair.bindDrop (answer_pr r 0x0081 .ok s)
  generalize answer r 0x0081 .ok s = v at now drop
  obtain ⟨left, solo, quiet, held⟩ := leavePair_left v
  exact ⟨_, now, left, solo, quiet, held, fun hd => leavePair_bindOut v (drop.trans hd)⟩

/-- The registers of a migrating join. -/
def migratePair (mig : Bool) (old : Option LogicSec) (s : State) : State := { s with pr := { s.pr with
  migrating := mig, ready := false, left := false, migSec := if mig then old else none, failAt := none } }

theorem runStaged_img (u : Image) (s : State) : (runStaged u s).img = { s.img with cur := some u, source := 3 } := by
  have staged : Only [.acq, .gr, .le, .upc, .net, .rio, .dr, .sec, .evr] { s with img := { s.img with cur := some u, source := 3 } }
      (runStaged u s) := ((loadUnits_only _ _).seq (updCert_only _)).mono (by decide)
  exact staged.same .img (by decide)

theorem releaseMigrate_joins (r : Req) (u c : Image) (s : State) (hn : s.img.next = some u) (hc : s.img.cur = some c)
    (ha : s.pr.active = false) (hf : s.pr.faulty = false) (hp : s.img.pendStatus = 0) (hm : samePair u c = true)
    (hb : s.pr.partnerActive = true) (hl : s.pr.lanes ≠ 0#2) (ht : s.pr.st = .solo) :
    releaseMigrate r s = startJoin (migratePair (decide (padTo 8 u.digest ≠ s.pr.partnerMark)) s.le.sec
      (runStaged u (answer r 0x0081 .ok s))) := by
  have open_ : releaseMigrate r s = startJoin (migratePair (decide (padTo 8 u.digest ≠ (answer r 0x0081 .ok s).pr.partnerMark))
      (answer r 0x0081 .ok s).le.sec (runStaged u (answer r 0x0081 .ok s))) := by
    rw [releaseMigrate, hn, hc]
    exact if_neg (by simp [ha, hf, hp, hm, hb, hl, ht])
  rw [open_, answer_pr, answer_le]

theorem execPairRelease_migrates (r : Req) (u c : Image) (s : State) (h : Served r 0x0081 s) (hpa : pairActs s = true)
    (hn : s.img.next = some u) (hc : s.img.cur = some c)
    (ha : s.pr.active = false) (hf : s.pr.faulty = false) (hp : s.img.pendStatus = 0) (hm : samePair u c = true)
    (hb : s.pr.partnerActive = true) (hl : s.pr.lanes ≠ 0#2) (ht : s.pr.st = .solo) :
    ∃ t, execPairRelease r 4 s = .next t ∧ t.pr.st = .joining ∧ t.pr.joinPhase = 1 ∧ t.img.cur = some u ∧ t.img.source = 3 ∧
      t.pr.migrating = decide (padTo 8 u.digest ≠ s.pr.partnerMark) := by
  have now := (execPairRelease_acts r 4 s h hpa (by decide) (by decide)).trans
    (congrArg _ (releaseMigrate_joins r u c s hn hc ha hf hp hm hb hl ht))
  have staged := runStaged_img u (answer r 0x0081 .ok s)
  generalize runStaged u (answer r 0x0081 .ok s) = v at now staged
  obtain ⟨only, joining, phase, _, _, _, migrates⟩ :=
    startJoin_begins (migratePair (decide (padTo 8 u.digest ≠ s.pr.partnerMark)) s.le.sec v)
  have img := (only.same .img (by decide)).trans staged
  exact ⟨_, now, joining, phase, congrArg Images.cur img, congrArg Images.source img, migrates⟩

/-- Settles O50, command by command. -/
theorem pairCommandRowsComplete : Obligations.PairCommandRowsComplete := by
  unfold Obligations.PairCommandRowsComplete
  exact ⟨fun s hr hd ht hh hx => ⟨execHandoverWave_yields s hr hd ht hh hx, execHandoverWave_dropped s hr hd hh,
      execHandoverWave_takes s hr hd ht hh hx⟩,
    execPairDrill_named, execDrillDwellEnd_completes, execDrillDue_told,
    fun r s h ha => ⟨execPairRelease_clears r s h ha, execPairRelease_yields r s h ha, execPairRelease_leaves r s h ha,
      fun u c => execPairRelease_migrates r u c s h ha⟩⟩

end Sys2Proof.Machine
end

section
/-! PROOFS. Which registers look at the sessions: those of the HPI_ block and one bit of the SEC_ block (R603, R625). A
stream's own instant is in none of them. -/

namespace Sys2Proof.Machine
open Sys2Proof

/-- The state with other sessions. -/
def withSessions (l : List Session) (s : State) : State := { s with cmd := { s.cmd with sessions := l } }

section
variable (l : List Session) (s : State)

theorem withSessions_only : Only [.cmd] s (withSessions l s) := State.with_cmd_only s _

theorem withSessions_code : (withSessions l s).code = s.code := rfl
theorem withSessions_boot : (withSessions l s).boot = s.boot := rfl
theorem withSessions_img : (withSessions l s).img = s.img := rfl
theorem withSessions_tu : (withSessions l s).tu = s.tu := rfl
theorem withSessions_acq : (withSessions l s).acq = s.acq := rfl
theorem withSessions_gr : (withSessions l s).gr = s.gr := rfl
theorem withSessions_le : (withSessions l s).le = s.le := rfl
theorem withSessions_upc : (withSessions l s).upc = s.upc := rfl
theorem withSessions_net : (withSessions l s).net = s.net := rfl
theorem withSessions_sec : (withSessions l s).sec = s.sec := rfl
theorem withSessions_td0 : td0 (withSessions l s) = td0 s := rfl
theorem withSessions_pv : pv (withSessions l s) = pv s := rfl

theorem withSessions_prm : prm (withSessions l s) = prm s := rfl

/-! The blocks that do not name a session. -/

theorem tbRead_withSessions (a : Nat) : tbRead (withSessions l s) a = tbRead s a := by
  unfold tbRead
  rw [withSessions_pv, show srcOf (withSessions l s) = srcOf s from rfl, show syncOk (withSessions l s) = syncOk s from rfl,
    show dom (withSessions l s) = dom s from rfl, withSessions_tu]

theorem twRead_withSessions : twRead (withSessions l s) = twRead s := by
  unfold twRead
  rw [withSessions_pv, show twExists (withSessions l s) = twExists s from rfl, withSessions_acq]

theorem acqRead_withSessions (a : Nat) : acqRead (withSessions l s) a = acqRead s a := by
  unfold acqRead
  rw [withSessions_pv, twRead_withSessions, show sliceCount (withSessions l s) = sliceCount s from rfl,
    show chanEntry (withSessions l s) = chanEntry s from rfl, withSessions_acq, withSessions_img, withSessions_code]

theorem rollLoad_withSessions : rollLoad (withSessions l s) = withSessions l (rollLoad s) := by
  by_cases h : secOf (td0 s) = s.gr.loadSec
  · exact (if_pos h).trans (congrArg (withSessions l) (if_pos h).symm)
  · rw [show rollLoad s = _ from if_neg h]
    exact if_neg h

theorem gsRead_withSessions (a : Nat) : gsRead (withSessions l s) a = gsRead s a := by
  unfold gsRead
  rw [withSessions_pv, show declLoad (withSessions l s) = declLoad s from rfl,
    show budgetSec (withSessions l s) = budgetSec s from rfl, show winWaited (withSessions l s) = winWaited s from rfl,
    show nodeOf (withSessions l s) = nodeOf s from rfl, rollLoad_withSessions, withSessions_gr, withSessions_gr, withSessions_img]

theorem peekData_withSessions : peekData (withSessions l s) = peekData s := by
  unfold peekData
  rw [show diWord (withSessions l s) = diWord s from rfl, show runningTask (withSessions l s) = runningTask s from rfl,
    show wordGet (withSessions l s) = wordGet s from rfl, show bitGet (withSessions l s) = bitGet s from rfl, withSessions_le,
    withSessions_gr]

theorem leRead_withSessions (a : Nat) : leRead (withSessions l s) a = leRead s a := by
  unfold leRead
  rw [show runClkNow (withSessions l s) = runClkNow s from rfl, show held (withSessions l s) = held s from rfl,
    show taskCfg (withSessions l s) = taskCfg s from rfl, show taskOf (withSessions l s) = taskOf s from rfl,
    show forceDigest (withSessions l s) = forceDigest s from rfl, show dirtyWords (withSessions l s) = dirtyWords s from rfl,
    peekData_withSessions, withSessions_le, withSessions_td0]

theorem upcRead_withSessions (a : Nat) : upcRead (withSessions l s) a = upcRead s a := by
  unfold upcRead
  rw [show procChan (withSessions l s) = procChan s from rfl, show entrySt (withSessions l s) = entrySt s from rfl,
    show ne43On (withSessions l s) = ne43On s from rfl, show imgChanMode (withSessions l s) = imgChanMode s from rfl,
    show periodic (withSessions l s) = periodic s from rfl, withSessions_upc, withSessions_prm]

theorem netRead_withSessions (a : Nat) : netRead (withSessions l s) a = netRead s a := by
  unfold netRead
  rw [withSessions_pv, show ifPorts (withSessions l s) = ifPorts s from rfl, show cMode (withSessions l s) = cMode s from rfl,
    show abMode (withSessions l s) = abMode s from rfl, withSessions_net]

theorem hltRead_withSessions (a : Nat) : hltRead (withSessions l s) a = hltRead s a := by
  unfold hltRead
  rw [show monEol (withSessions l s) = monEol s from rfl, show monOf (withSessions l s) = monOf s from rfl,
    show monConf (withSessions l s) = monConf s from rfl, show injLeft (withSessions l s) = injLeft s from rfl,
    show detInForce (withSessions l s) = detInForce s from rfl, show activeMask (withSessions l s) = activeMask s from rfl,
    show eolEarliest (withSessions l s) = eolEarliest s from rfl]
  rfl

theorem rioRead_withSessions (a : Nat) : rioRead (withSessions l s) a = rioRead s a := by
  unfold rioRead
  rw [show rioTask (withSessions l s) = rioTask s from rfl, show rioMode (withSessions l s) = rioMode s from rfl,
    show stOf (withSessions l s) = stOf s from rfl]
  rfl

theorem regAbsent_withSessions (a : Nat) : regAbsent (withSessions l s) a = regAbsent s a := rfl

/-! The blocks that do. -/

theorem secRead_withSessions (h : physOpen (withSessions l s) = physOpen s) (a : Nat) :
    secRead (withSessions l s) a = secRead s a := by
  unfold secRead
  rw [show keySlots (withSessions l s) = keySlots s from rfl, h, withSessions_sec, withSessions_td0, withSessions_boot]

end

/-- A session but for the instant of its stream. -/
def unstamped (x : Session) : Session := { x with diagAt := 0 }

theorem unstamped_restamped (x : Session) (t : Nat) : unstamped { x with diagAt := t } = unstamped x := rfl

section
variable (l : List Session) (s : State) (h : l.map unstamped = s.cmd.sessions.map unstamped)
include h

theorem any_unstamped (p : Session → Bool) (hp : ∀ x, p (unstamped x) = p x) : l.any p = s.cmd.sessions.any p := by
  have eq := congrArg (List.any · p) h
  simpa only [List.any_map, Function.comp_def, hp] using eq

theorem physOpen_withSessions : physOpen (withSessions l s) = physOpen s :=
  any_unstamped l s h (·.phys) fun _ => rfl

theorem creditsOut_withSessions : creditsOut (withSessions l s) = creditsOut s := by
  funext bulk
  have eq := congrArg (List.foldl (fun a x => a + (if bulk then x.bulk else x.normal)) 0) h
  rw [List.foldl_map, List.foldl_map] at eq
  exact eq

theorem length_unstamped : l.length = s.cmd.sessions.length := by simpa using congrArg List.length h

theorem find_unstamped (p : Session → Bool) (hp : ∀ x, p (unstamped x) = p x) :
    (l.find? p).map unstamped = (s.cmd.sessions.find? p).map unstamped := by
  have eq := congrArg (List.find? p) h
  simpa only [List.find?_map, Function.comp_def, hp] using eq

/-- The register word of a session's slot. -/
def slotWord (o : Option Session) : Nat :=
  match o with
  | some x => fld 31 1 1 + fld 29 2 (transportCode x.transport) + fld 24 5 x.roles.toNat + fld 23 1 (b2n x.notify) +
      fld 22 1 (b2n x.diag.isSome) + fld 0 16 x.num
  | none => 0

omit h in
theorem slotWord_unstamped (o : Option Session) : slotWord (o.map unstamped) = slotWord o := by
  cases o <;> rfl

omit h in
theorem hpiRead_slot (a : Nat) (ha : 0xB0100 ≤ a ∧ a < 0xB0120) : hpiRead s a =
    some (slotWord (s.cmd.sessions.find? (fun (x : Session) => x.slot == (a - 0xB0100) / 4))) := by
  unfold hpiRead
  exact if_pos ha

theorem hpiRead_withSessions (a : Nat) : hpiRead (withSessions l s) a = hpiRead s a := by
  by_cases ha : 0xB0100 ≤ a ∧ a < 0xB0120
  · rw [hpiRead_slot s a ha, hpiRead_slot (withSessions l s) a ha, ← slotWord_unstamped, ← slotWord_unstamped (List.find? _ _)]
    exact congrArg (fun o => some (slotWord o)) (find_unstamped l s h _ fun _ => rfl)
  · unfold hpiRead
    rw [creditsOut_withSessions l s h, if_neg ha, if_neg ha, show (withSessions l s).cmd.sessions.length = _ from length_unstamped l s h]
    rfl

theorem regVal_withSessions (a : Nat) : regVal (withSessions l s) a = regVal s a := by
  unfold regVal regAt
  rw [regAbsent_withSessions, tbRead_withSessions, acqRead_withSessions, gsRead_withSessions, leRead_withSessions,
    upcRead_withSessions, netRead_withSessions, hpiRead_withSessions l s h,
    secRead_withSessions l s (physOpen_withSessions l s h), hltRead_withSessions, rioRead_withSessions]
  rfl

end

/-- A stream's new instant shows in no register. -/
theorem regVal_updSession (n : Nat) (f : Session → Session) (hf : ∀ x, unstamped (f x) = unstamped x) (s : State) (a : Nat) :
    regVal (updSession n f s) a = regVal s a :=
  regVal_withSessions _ s (map_updFirst unstamped _ f hf _) a

end Sys2Proof.Machine
end

section
/-! PROOFS. The host's transports, streams, load steps and the management watchdog (R583 to R601, R619). -/

namespace Sys2Proof.Machine
open Sys2Proof

/-! Packets on the HPI (R583, R585, R587, R588). -/

theorem acceptCrc_short (t : Transport) (b : List Byte) (s : State) (ht : takesPackets t s = true) (hb : b.length < 16) :
    acceptCrc t b s = { s with cmd := { s.cmd with crcErr := satInc 32 s.cmd.crcErr } } := by
  rw [acceptCrc, if_neg (by simp [ht]), if_pos hb]

theorem acceptCrc_whole (t : Transport) (b : List Byte) (s : State) (ht : takesPackets t s = true)
    (hb : 20 + leAt b 10 2 ≤ b.length)
    (hc : (crc32 (b.take (16 + leAt b 10 2))).toNat = leAt b (16 + leAt b 10 2) 4) : acceptCrc t b s = (accept t 0 b s).1 := by
  rw [acceptCrc, if_neg (by simp [ht]), if_neg (by omega)]
  exact if_neg (by
    rintro (short | bad)
    · omega
    · exact bad hc)

/-- The session's record with the credit used. -/
def creditUsed (cls : Nat) (x : Session) (s : State) : State :=
  { s with cmd := { s.cmd with sessions := updFirst (fun (y : Session) => y.num == x.num) (useCredit cls (td0 s)) s.cmd.sessions } }

theorem queueReq_normal (r : Req) (op flags : Nat) (p : List Byte) (s : State) (hf : getFld flags 2 2 = 0) (hs : s.cmd.step ≠ 3) :
    queueReq r op 0 flags p s = { s with cmd := { s.cmd with
      queue := s.cmd.queue ++ [{ req := r, op := op, cls := 0, payload := p }] } } :=
  (if_neg (by simp [hf])).trans (if_neg (by simp [hs]))

section
variable (b : List Byte) (x : Session) (s : State) (hv : leAt b 0 1 = 1) (hk : knownOp (leAt b 2 2) = true)
  (hl : leAt b 10 2 ≤ 4096) (ho : lenOk (leAt b 2 2) (bytesAt b 16 (leAt b 10 2)) = true) (hn : leAt b 8 2 ≠ 0)
  (hx : findSession s ⟨.hpi, leAt b 8 2, leAt b 4 4⟩ = some x) (hc : reqClass (leAt b 2 2) (bytesAt b 16 (leAt b 10 2)) = 0)
  (hd : hasCredit x 0 = true)
include hv hk hl ho hn hx hc hd

theorem accept_queues : (accept .hpi 0 b s).1 = queueReq ⟨.hpi, leAt b 8 2, leAt b 4 4⟩ (leAt b 2 2) 0 (leAt b 1 1)
    (bytesAt b 16 (leAt b 10 2)) (creditUsed 0 x s) := by
  have known : ¬(leAt b 0 1 ≠ 1 ∨ (!knownOp (leAt b 2 2)) = true) := by simp [hv, hk]
  have fits : ¬(4096 < leAt b 10 2 ∨ (!lenOk (leAt b 2 2) (bytesAt b 16 (leAt b 10 2))) = true) := by simp [hl, ho]
  have owns : ¬(!hasCredit x 0) = true := by simp [hd]
  unfold accept
  dsimp only
  rw [if_neg known, if_neg fits, if_neg hn, hx, hc]
  dsimp only
  rw [if_neg owns]
  rfl

theorem accept_waits (hf : getFld (leAt b 1 1) 2 2 = 0) (hs : s.cmd.step ≠ 3) : (accept .hpi 0 b s).1 =
    { creditUsed 0 x s with cmd := { (creditUsed 0 x s).cmd with queue := s.cmd.queue ++
      [{ req := ⟨.hpi, leAt b 8 2, leAt b 4 4⟩, op := leAt b 2 2, cls := 0, payload := bytesAt b 16 (leAt b 10 2) }] } } := by
  rw [accept_queues b x s hv hk hl ho hn hx hc hd, queueReq_normal _ _ _ _ (creditUsed 0 x s) hf hs]
  rfl

end

theorem dropHpi_first (p : Packet) (rest : List Packet) (h : p.transport = .hpi) : dropHpi (p :: rest) = rest := if_pos h

theorem execHpiReadTransfer_takes (p : Packet) (rest : List Packet) (s : State) (ho : s.cmd.out = p :: rest)
    (hp : p.transport = .hpi) : ∃ t, execHpiReadTransfer true s = .next t ∧ Only [.cmd, .pads] s t ∧ t.cmd.out = rest ∧
      t.pads.hirq = rest.any (fun (x : Packet) => x.transport == .hpi) := by
  have taken : dropHpi s.cmd.out = rest := by rw [ho, dropHpi_first p rest hp]
  refine ⟨setHirq { s with cmd := { s.cmd with out := rest } }, ?_, ?_, rfl, rfl⟩
  · rw [execHpiReadTransfer, if_pos rfl, taken]
  · exact (State.with_cmd_only s _).seq (State.with_pads_only _ _)

/-! Frames on the maintenance UART (R596). -/

/-- The frame that the UART has taken in so far. -/
def uartHolds (l : List Byte) (s : State) : State := { s with cmd := { s.cmd with uart := l } }

theorem uartByte_opens (s : State) (h : s.cmd.uart = []) : uartByte s 0xC0#8 = uartHolds [0xC0#8] s := by
  rw [uartByte, h]
  rfl

theorem uartByte_holding (m b : Byte) (l : List Byte) (s : State) : uartByte (uartHolds (m :: l) s) b =
    if b = 0xC0#8 then (if l.isEmpty then uartHolds (m :: l) s else acceptCrc .uart (unescape l) (uartHolds [] s))
    else uartHolds (m :: (l ++ [b])) s := rfl

theorem uartByte_in_frame (m b : Byte) (l : List Byte) (s : State) (hb : b ≠ 0xC0#8) :
    uartByte (uartHolds (m :: l) s) b = uartHolds (m :: (l ++ [b])) s := by
  rw [uartByte_holding, if_neg hb]

theorem uartByte_closes (m : Byte) (l : List Byte) (s : State) (hl : l ≠ []) :
    uartByte (uartHolds (m :: l) s) 0xC0#8 = acceptCrc .uart (unescape l) (uartHolds [] s) := by
  rw [uartByte_holding, if_pos rfl, if_neg (by simpa using hl)]

theorem foldl_uartByte_in_frame (m : Byte) (frame l : List Byte) (s : State) (hf : ∀ b, b ∈ frame → b ≠ 0xC0#8) :
    frame.foldl uartByte (uartHolds (m :: l) s) = uartHolds (m :: (l ++ frame)) s := by
  induction frame generalizing l with
  | nil => rw [List.append_nil, List.foldl_nil]
  | cons b frame ih =>
    rw [List.foldl_cons, uartByte_in_frame m b l s (hf b List.mem_cons_self), ih _ fun c hc => hf c (List.mem_cons_of_mem b hc),
      List.append_assoc, List.singleton_append]

theorem uartHolds_same (s : State) (h : s.cmd.uart = []) : uartHolds [] s = s := by
  rw [uartHolds, ← h]

theorem execUartFrameRx_frame (frame : List Byte) (s : State) (h : s.cmd.uart = []) (hn : frame ≠ [])
    (hf : ∀ b, b ∈ frame → b ≠ 0xC0#8) :
    execUartFrameRx (0xC0#8 :: (frame ++ [0xC0#8])) s = .next (acceptCrc .uart (unescape frame) s) := by
  rw [execUartFrameRx, List.foldl_cons, uartByte_opens s h, List.foldl_append, foldl_uartByte_in_frame _ frame [] s hf,
    List.nil_append, List.foldl_cons, List.foldl_nil, uartByte_closes _ frame s hn, uartHolds_same s h]

theorem execUartFrameTimeout_drops (s : State) (h : s.cmd.uart ≠ []) : execUartFrameTimeout s =
    .next { s with cmd := { s.cmd with uart := [], crcErr := satInc 32 s.cmd.crcErr } } := by
  rw [execUartFrameTimeout, if_neg (by simpa using h)]

/-! Diagnostic streams (R592, R593). -/

theorem execDiagStream_stops (r : Req) (addrs : List Nat) (s : State) (h : Served r 0x00C0 s) :
    execDiagStream r 0 addrs s = .next (answer r 0x00C0 .ok (updSession r.session (fun x => { x with diag := none }) s)) := by
  rw [execDiagStream, serve_served r 0x00C0 s _ h]
  rfl

theorem execDiagStream_starts (r : Req) (period : Nat) (addrs : List Nat) (s : State) (h : Served r 0x00C0 s) (h1 : 10 ≤ period)
    (h2 : period ≤ 10000) (hn : addrs ≠ []) (hl : addrs.length ≤ 64) (ha : addrs.any (regAbsent s) = false) :
    execDiagStream r period addrs s = .next (answer r 0x00C0 .ok
      (updSession r.session (fun x => { x with diag := some (period, addrs), diagAt := td0 s }) s)) := by
  rw [execDiagStream, serve_served r 0x00C0 s _ h]
  dsimp only
  rw [if_neg (by omega), if_neg (by simp [hn]; omega), if_neg (by simp [ha])]

/-- The session's stream at its next period. -/
def streamMoved (session period : Nat) (s : State) : State :=
  updSession session (fun y => { y with diagAt := y.diagAt + msT period }) s

theorem execDiagData_due (session period : Nat) (addrs : List Nat) (x : Session) (s : State)
    (hx : s.cmd.sessions.find? (fun (y : Session) => y.num == session) = some x) (hd : x.diag = some (period, addrs))
    (hu : due s x.diagAt (msT period) = true) (hs : s.cmd.step = 0) : execDiagData session s =
      .next (unsolicited x 0x0102 0 (stamp (td1 s) ++ addrs.flatMap (fun a => leBytes 4 (regVal (streamMoved session period s) a)))
        (streamMoved session period s)) := by
  rw [execDiagData, hx]
  dsimp only
  rw [hd]
  dsimp only
  rw [hu, if_neg (by decide)]
  exact congrArg _ (if_neg (by simp [updSession, hs]))

theorem streamMoved_regVal (session period : Nat) (s : State) (a : Nat) :
    regVal (streamMoved session period s) a = regVal s a := by
  rw [streamMoved, regVal_updSession]
  exact fun x => unstamped_restamped x _

theorem execDiagData_sends (session period : Nat) (addrs : List Nat) (x : Session) (s : State)
    (hx : s.cmd.sessions.find? (fun (y : Session) => y.num == session) = some x) (hd : x.diag = some (period, addrs))
    (hu : due s x.diagAt (msT period) = true) (hs : s.cmd.step = 0) :
    ∃ t p, execDiagData session s = .next t ∧ Only [.cmd, .pads] s t ∧ t.cmd.out = s.cmd.out ++ [p] ∧
      p.transport = x.transport ∧ p.session = x.num ∧ p.op = 0x0102 ∧ p.unsol = true ∧
      p.payload = stamp (td1 s) ++ addrs.flatMap (fun a => leBytes 4 (regVal s a)) := by
  have now := execDiagData_due session period addrs x s hx hd hu hs
  simp only [streamMoved_regVal] at now
  generalize stamp (td1 s) ++ addrs.flatMap (fun a => leBytes 4 (regVal s a)) = payload at now
  exact ⟨_, ⟨x.transport, x.num, 0, 0x0102, 0, false, true, 0, payload⟩, now,
    ((State.with_cmd_only s _).seq (unsolicited_only x _ _ _ _)).mono (by decide), rfl, rfl, rfl, rfl, rfl, rfl⟩

end Sys2Proof.Machine
end

section
/-! PROOFS. Load steps, closing sessions and the management watchdog (R589, R599, R601, R619). -/

namespace Sys2Proof.Machine
open Sys2Proof

/-! LOAD_WINDOW (R599). -/

/-- The load figures and the shedding step. -/
def loadMarks (s : State) : Nat × Nat × Nat := (s.cmd.step, s.cmd.loadMean, s.cmd.loadPeak)

/-- The bulk credits that one session is owed are granted. -/
def grantOwedTo (s : State) (x : Session) : State :=
  if x.owedBulk = 0 then s
  else updSession x.num (fun y => { y with bulk := y.bulk + y.owedBulk, owedBulk := 0 })
    (unsolicited x 0x0100 (2 * 2 ^ 14 + x.owedBulk) [] s)

theorem grantOwed_eq (s : State) : grantOwed s = s.cmd.sessions.foldl grantOwedTo s := rfl

theorem grantOwedTo_only (s : State) (x : Session) : Only [.cmd, .pads] s (grantOwedTo s x) :=
  Only.ite _ (Only.refl _ s) (((unsolicited_only x _ _ _ s).seq (State.with_cmd_only _ _)).mono (by decide))

theorem unsolicited_loadMarks (x : Session) (op grant : Nat) (payload : List Byte) (s : State) :
    loadMarks (unsolicited x op grant payload s) = loadMarks s := rfl

theorem updSession_loadMarks (n : Nat) (f : Session → Session) (s : State) : loadMarks (updSession n f s) = loadMarks s := rfl

theorem grantOwedTo_loadMarks (s : State) (x : Session) : loadMarks (grantOwedTo s x) = loadMarks s := by
  unfold grantOwedTo
  split
  · rfl
  · rw [updSession_loadMarks, unsolicited_loadMarks]

theorem grantOwed_only (s : State) : Only [.cmd, .pads] s (grantOwed s) := Only.foldl _ _ _ s grantOwedTo_only

theorem grantOwed_loadMarks (s : State) : loadMarks (grantOwed s) = loadMarks s :=
  foldl_keeps loadMarks _ _ s grantOwedTo_loadMarks

theorem setShed_only (n : Nat) (s : State) : Only [.cmd, .evr, .pads] s (setShed n s) :=
  (((State.with_cmd_only s _).seq (Only.ite (n < 2) (grantOwed_only _) (Only.refl _ _))).seq (submit_only _ _ _ _)).mono (by decide)

theorem setShed_loadMarks (n : Nat) (s : State) : loadMarks (setShed n s) = (n, s.cmd.loadMean, s.cmd.loadPeak) := by
  unfold setShed
  dsimp only
  split
  · simp only [loadMarks, submit_cmd]
    exact grantOwed_loadMarks _
  · simp only [loadMarks, submit_cmd]

/-- The load of the last window noted. -/
def loadNoted (mean : Nat) (s : State) : State :=
  { s with cmd := { s.cmd with loadMean := mean, loadPeak := max s.cmd.loadPeak mean, lowSince := none } }

theorem loadWindow_raises (mean : Nat) (s : State) (hs : s.cmd.step = 0) (hm : 8000 ≤ mean) :
    loadWindow mean s = setShed 1 (loadNoted mean s) := by
  have high : (7000 ≤ mean) := by omega
  unfold loadWindow
  dsimp only
  rw [hs, if_pos high, if_pos rfl, if_pos ⟨by decide, hm⟩]
  rfl

theorem execLoadWindow_raises (mean : Nat) (s : State) (hs : s.cmd.step = 0) (hm : 8000 ≤ mean) :
    ∃ t, execLoadWindow mean s = .next t ∧ Only [.cmd, .evr, .pads] s t ∧ t.cmd.step = 1 ∧ t.cmd.loadMean = mean ∧
      t.cmd.loadPeak = max s.cmd.loadPeak mean := by
  have marks := setShed_loadMarks 1 (loadNoted mean s)
  simp only [loadMarks, Prod.mk.injEq] at marks
  obtain ⟨step, load, peak⟩ := marks
  refine ⟨_, ?_, ?_, step, load, peak⟩
  · rw [execLoadWindow, loadWindow_raises mean s hs hm]
  exact ((State.with_cmd_only s _).seq (setShed_only 1 (loadNoted mean s))).mono (by decide)

/-! A session closes (R589). -/

theorem endInjs_only (cause : Nat) (p : Inj → Bool) (s : State) : Only [.pr, .hlt, .evr, .pads] s (endInjs cause p s) :=
  Only.ite _ (Only.foldl _ _ _ s fun s j => (schedTwin_only 16 [j.slot, cause] s).mono (by decide))
    (Only.foldl _ _ _ s fun s j => (endInj_only cause j s).mono (by decide))

/-- What the session holds is given up: the freeze, the staging slots and its injections. -/
def holdsDropped (num : Nat) (s : State) : State :=
  let s := match s.evr.freeze with | some (h, _) => if h = num then thaw 4 s else s | none => s
  let s := match s.img.staging with | some (h, _) => if h = num then dropStaging s else s | none => s
  let s := match s.boot.fwStage with
    | some (_, _, h) => if h = num then { s with boot := { s.boot with fwStage := none, fwBytes := [] } } else s
    | none => s
  endInjs 3 (fun j => j.session == num) s

theorem freezeDropped_only (num : Nat) (s : State) : Only [.evr] s
    (match s.evr.freeze with | some (h, _) => if h = num then thaw 4 s else s | none => s) := by
  split
  · exact Only.ite _ (thaw_logs 4 s).1 (Only.refl _ s)
  · exact Only.refl _ s

theorem stagingDropped_only (num : Nat) (s : State) : Only [.img] s
    (match s.img.staging with | some (h, _) => if h = num then dropStaging s else s | none => s) := by
  split
  · exact Only.ite _ (State.with_img_only s _) (Only.refl _ s)
  · exact Only.refl _ s

theorem fwStageDropped_only (num : Nat) (s : State) : Only [.boot] s
    (match s.boot.fwStage with
    | some (_, _, h) => if h = num then { s with boot := { s.boot with fwStage := none, fwBytes := [] } } else s
    | none => s) := by
  split
  · exact Only.ite _ (State.with_boot_only s _) (Only.refl _ s)
  · exact Only.refl _ s

theorem holdsDropped_only (num : Nat) (s : State) : Only [.evr, .img, .boot, .pr, .hlt, .pads] s (holdsDropped num s) :=
  ((((freezeDropped_only num s).seq (stagingDropped_only num _)).seq (fwStageDropped_only num _)).seq
    (endInjs_only 3 _ _)).mono (by decide)

/-- The command processor without a session. -/
def cmdWithout (num : Nat) (x : Session) (c : Cmd) : Cmd := { c with
  sessions := c.sessions.filter (fun (y : Session) => y.num != num)
  queue := c.queue.filter (fun (q : QReq) => !(q.req.session == num && q.req.transport == x.transport))
  exports := c.exports.filter (fun e => e.1 != num)
  conns := match x.conn with | some k => c.conns.filter (fun e => e.1 != k) | none => c.conns
  tls := match x.conn with | some k => c.tls.filter (fun e => e.1 != k) | none => c.tls }

theorem closeSession_of_none (num : Nat) (s : State) (h : s.cmd.sessions.find? (fun (x : Session) => x.num == num) = none) :
    closeSession num s = s := by
  rw [closeSession, h]

theorem closeSession_of_some (num : Nat) (x : Session) (s : State)
    (h : s.cmd.sessions.find? (fun (x : Session) => x.num == num) = some x) : closeSession num s =
      submit .cmd 0xB002 num { holdsDropped num s with cmd := cmdWithout num x (holdsDropped num s).cmd } := by
  rw [closeSession, h]
  rfl

theorem closeSession_cmd (num : Nat) (x : Session) (s : State)
    (h : s.cmd.sessions.find? (fun (x : Session) => x.num == num) = some x) :
    (closeSession num s).cmd = cmdWithout num x s.cmd := by
  rw [closeSession_of_some num x s h, submit_cmd, (holdsDropped_only num s).same .cmd (by decide)]

theorem closeSession_only (num : Nat) (s : State) :
    Only [.evr, .img, .boot, .pr, .hlt, .pads, .cmd] s (closeSession num s) := by
  cases h : s.cmd.sessions.find? (fun (x : Session) => x.num == num) with
  | none =>
    rw [closeSession_of_none num s h]
    exact Only.refl _ s
  | some x =>
    rw [closeSession_of_some num x s h]
    exact (((holdsDropped_only num s).seq (State.with_cmd_only _ _)).seq (submit_only _ _ _ _)).mono (by decide)

/-- The instant of the last management restart, and the limit that it set. -/
def restartMarks (s : State) : Option Nat × Bool := (s.cmd.restartAt, s.cmd.urgentOnly)

theorem closeSession_restartMarks (num : Nat) (s : State) : restartMarks (closeSession num s) = restartMarks s := by
  cases h : s.cmd.sessions.find? (fun (x : Session) => x.num == num) with
  | none => rw [closeSession_of_none num s h]
  | some x => rw [restartMarks, closeSession_cmd num x s h]; rfl

theorem execSessionIdleTimeout_closes (session : Nat) (x : Session) (s : State)
    (h : s.cmd.sessions.find? (fun (y : Session) => y.num == session) = some x) (ht : x.transport = .net)
    (hp : pv s 0x1803 0 0 2 30 ≠ 0) (hd : due s x.lastUse (secT (60 * pv s 0x1803 0 0 2 30)) = true) :
    ∃ t, execSessionIdleTimeout session s = .next t ∧
      t.cmd.sessions = s.cmd.sessions.filter (fun (y : Session) => y.num != session) := by
  refine ⟨closeSession session s, ?_, by rw [closeSession_cmd session x s h]; rfl⟩
  rw [execSessionIdleTimeout, h]
  dsimp only
  rw [hd, if_pos ⟨ht, hp, rfl⟩]

/-! The management watchdog (R601). -/

/-- Every session closed. -/
def sessionsClosed (s : State) : State := s.cmd.sessions.foldl (fun s x => closeSession x.num s) s

theorem sessionsClosed_only (s : State) : Only [.evr, .img, .boot, .pr, .hlt, .pads, .cmd] s (sessionsClosed s) :=
  Only.foldl _ _ _ s fun s x => closeSession_only x.num s

theorem sessionsClosed_restartMarks (s : State) : restartMarks (sessionsClosed s) = restartMarks s :=
  foldl_keeps restartMarks _ _ s fun s x => closeSession_restartMarks x.num s

/-- The cores restart with nothing in the command processor. -/
def coresRestart (core : Nat) (s : State) : State :=
  { s with
    cmd := { s.cmd with
      sessions := [], queue := [], out := [], zeroBusy := false, uart := [], tls := [], conns := [], exports := []
      restarting := some core, restartAt := some (td0 s)
      urgentOnly := s.cmd.urgentOnly || s.cmd.restartAt.any (fun t => !due s t (secT 60)) }
    pads := { s.pads with hirq := false } }

theorem mgmtRestart_eq (core : Nat) (s : State) : mgmtRestart core s = drillAbort
    (if (coresRestart core (sessionsClosed s)).pr.st = .joining ∧ (coresRestart core (sessionsClosed s)).pr.joinAt.isSome
      then failJoin 4 (coresRestart core (sessionsClosed s)) else coresRestart core (sessionsClosed s)) := rfl

/-- The command processor and the line of the host's interrupt. -/
def hostSide (s : State) : Cmd × Bool := (s.cmd, s.pads.hirq)

theorem hostSide_of_only {ps : List Part} {s t : State} (h : Only ps s t) (kc : Part.cmd ∉ ps) (kp : Part.pads ∉ ps) :
    hostSide t = hostSide s :=
  Prod.ext (h.same .cmd kc) (congrArg Pads.hirq (h.same .pads kp))

theorem refreshPads_hostSide (s : State) : hostSide (refreshPads s) = hostSide s := rfl

theorem endInj_hostSide (c : Nat) (j : Inj) (s : State) : hostSide (endInj c j s) = hostSide s := by
  rw [endInj, refreshPads_hostSide, hostSide_of_only (submit_only _ _ _ _) (by decide) (by decide)]
  rfl

theorem setPair_hostSide (st : PairSt) (s : State) : hostSide (setPair st s) = hostSide s := by
  by_cases h : s.pr.st = st
  · rw [setPair_same st s h]
  · have noted := hostSide_of_only (stateNoted_only st s) (by decide) (by decide)
    rw [setPair_changed st s h, refreshPads_hostSide]
    split
    · rw [foldl_keeps hostSide _ _ _ fun s j => endInj_hostSide 4 j s, noted]
    · exact noted

theorem failJoin_hostSide (cause : Nat) (s : State) (h : s.pr.st = .joining) : hostSide (failJoin cause s) = hostSide s := by
  rw [failJoin_joining cause s h, setPair_hostSide]
  exact hostSide_of_only ((joinLost_only cause s).seq (resumeOwn_only _)) (by decide) (by decide)

theorem mgmtRestart_hostSide (core : Nat) (s : State) :
    hostSide (mgmtRestart core s) = hostSide (coresRestart core (sessionsClosed s)) := by
  rw [mgmtRestart_eq, hostSide_of_only (drillAbort_only _) (by decide) (by decide)]
  split
  case isTrue h => exact failJoin_hostSide 4 _ h.1
  case isFalse => rfl

theorem execMgmtWatchdog_restarts (core : Nat) (s : State) (hr : running s = true) (hc : core < 4)
    (hn : s.cmd.restarting = none) : execMgmtWatchdog core s = .next (mgmtRestart core s) :=
  if_neg (by
    simp [hr, hn]
    exact hc)

theorem coresRestart_limits (core a : Nat) (s : State) (ha : s.cmd.restartAt = some a) (hd : due s a (secT 60) = false) :
    (coresRestart core s).cmd.urgentOnly = true := by
  have again : (coresRestart core s).cmd.urgentOnly =
      (s.cmd.urgentOnly || s.cmd.restartAt.any (fun t => !due s t (secT 60))) := rfl
  rw [again, ha, Option.any_some, hd, Bool.not_false, Bool.or_true]

theorem due_false (s : State) (t d : Nat) (h : td0 s < t + d) : due s t d = false := decide_eq_false (by omega)

theorem due_congr {s t : State} (h : t.tu = s.tu) (a d : Nat) : due t a d = due s a d := by rw [due, due, td0, td0, h]

theorem execMgmtWatchdog_completes (core : Nat) (s : State) (hr : running s = true) (hc : core < 4)
    (hn : s.cmd.restarting = none) :
    ∃ t, execMgmtWatchdog core s = .next t ∧ t.cmd.sessions = [] ∧ t.cmd.queue = [] ∧ t.cmd.out = [] ∧
      t.cmd.restarting = some core ∧ t.cmd.restartAt = some (td0 s) ∧ t.pads.hirq = false ∧
      (∀ a, s.cmd.restartAt = some a → td0 s < a + secT 60 → t.cmd.urgentOnly = true) := by
  have host := mgmtRestart_hostSide core s
  have clock : (sessionsClosed s).tu = s.tu := (sessionsClosed_only s).same .tu (by decide)
  have last : (sessionsClosed s).cmd.restartAt = s.cmd.restartAt := congrArg Prod.fst (sessionsClosed_restartMarks s)
  have now : td0 (sessionsClosed s) = td0 s := by rw [td0, td0, clock]
  refine ⟨mgmtRestart core s, execMgmtWatchdog_restarts core s hr hc hn, ?_⟩
  generalize sessionsClosed s = u at host clock last now
  obtain ⟨cmd, hirq⟩ := Prod.ext_iff.mp host
  generalize mgmtRestart core s = t at cmd hirq
  rw [show t.cmd = (coresRestart core u).cmd from cmd]
  refine ⟨rfl, rfl, rfl, rfl, congrArg some now, hirq, fun a ha hd => ?_⟩
  exact coresRestart_limits core a u (last.trans ha) ((due_congr clock a (secT 60)).trans (due_false s a (secT 60) hd))

/-- The core's restart counted. -/
def restartCounted (s : State) : State :=
  { s with cmd := { s.cmd with restarting := none, wdCnt := satInc 32 s.cmd.wdCnt } }

/-- The synchrophasor frames that a stream's cores held back are sent. -/
def heldFramesSent (s : State) (k : Nat) : State :=
  if (pmuOf s k).frameQ.isEmpty ∨ !mayTx s then s
  else (pmuOf s k).frameQ.foldl (fun t (f : Nat × Nat) =>
    sendUdp 7 f.2 (pv t 0x0995 k 6 2 4712) [pv t 0x0990 k 0 2 0, f.1] [] [] t) (updPmu k (fun x => { x with frameQ := [] }) s)

theorem heldFramesSent_only (s : State) (k : Nat) : Only [.gr, .net] s (heldFramesSent s k) :=
  Only.ite _ (Only.refl _ s) (((updPmu_only k _ s).seq (Only.foldl _ _ _ _ fun t _ => sendUdp_only _ _ _ _ _ _ t)).mono (by decide))

theorem execMgmtRestartDone_told (core : Nat) (s : State) (h : s.cmd.restarting = some core) :
    execMgmtRestartDone s = .next ((List.range 4).foldl heldFramesSent (fireDetOnce 0x24 core (restartCounted s))) := by
  rw [execMgmtRestartDone, h]
  rfl

theorem execMgmtRestartDone_completes (core : Nat) (s : State) (h : s.cmd.restarting = some core) :
    ∃ t, execMgmtRestartDone s = .next t ∧ Only [.cmd, .evr, .gr, .hlt, .net] s t ∧ t.cmd.restarting = none ∧
      t.cmd.wdCnt = satInc 32 s.cmd.wdCnt ∧ (0x24, td0 s) ∈ t.hlt.momentary := by
  have told : Only [.cmd, .evr, .hlt] s (fireDetOnce 0x24 core (restartCounted s)) :=
    (State.with_cmd_only s _).seq (fireDetOnce_only _ _ _)
  have momentary : (0x24, td0 s) ∈ (fireDetOnce 0x24 core (restartCounted s)).hlt.momentary :=
    fireDetOnce_momentary 0x24 core (restartCounted s)
  have cmd : (fireDetOnce 0x24 core (restartCounted s)).cmd = (restartCounted s).cmd := fireDetOnce_cmd _ _ _
  refine ⟨_, execMgmtRestartDone_told core s h, ?_⟩
  generalize fireDetOnce 0x24 core (restartCounted s) = u at told momentary cmd
  have sent : Only [.gr, .net] u ((List.range 4).foldl heldFramesSent u) := Only.foldl _ _ _ u heldFramesSent_only
  generalize (List.range 4).foldl heldFramesSent u = t at sent
  refine ⟨(told.seq sent).mono (by decide), ?_, ?_, ?_⟩
  · rw [sent.same .cmd (by decide), cmd]
    rfl
  · rw [sent.same .cmd (by decide), cmd]
    rfl
  · rw [sent.same .hlt (by decide)]
    exact momentary

theorem execHpiWriteTransfer_of {b : List Byte} {s t : State} (h : acceptCrc .hpi b s = t) : execHpiWriteTransfer b s = .next t := by
  rw [execHpiWriteTransfer, h]

/-- Settles O51, transport by transport. -/
theorem hostTransportRowsComplete : Obligations.HostTransportRowsComplete := by
  unfold Obligations.HostTransportRowsComplete
  refine ⟨fun b s ht => ⟨fun hb => execHpiWriteTransfer_of (acceptCrc_short .hpi b s ht hb), ?_⟩, execHpiReadTransfer_takes,
    fun frame s => ⟨execUartFrameRx_frame frame s, execUartFrameTimeout_drops s⟩,
    fun r period addrs s h => ⟨execDiagStream_stops r addrs s h, execDiagStream_starts r period addrs s h⟩,
    execDiagData_sends, execLoadWindow_raises, execMgmtWatchdog_completes, execMgmtRestartDone_completes,
    execSessionIdleTimeout_closes⟩
  rintro _ x rfl hb hc hv hk hl ho hn hx hq hd hf hs
  refine ⟨_, execHpiWriteTransfer_of ((acceptCrc_whole .hpi b s ht hb hc).trans (accept_waits b x s hv hk hl ho hn hx hq hd hf hs)), ?_, rfl⟩
  exact (State.with_cmd_only s _).trans (State.with_cmd_only _ _)

end Sys2Proof.Machine
end

section
/-! PROOFS. The line of the host's interrupt and the packets pending (R582): what the operations of the units leave. -/

namespace Sys2Proof.Machine
open Sys2Proof

/-- The level that HIRQ_N is driven to and the packets pending. -/
def hostLine (s : State) : Bool × List Packet := (s.pads.hirq, s.cmd.out)

@[simp] theorem hostLine_fold (s : State) : (s.pads.hirq, s.cmd.out) = hostLine s := by rw [hostLine]

@[simp] theorem hostLine_mk (code pw pads fl boot img tu acq gr le rio fio upc dr evr pr net cmd sec hlt pending) :
    hostLine (State.mk code pw pads fl boot img tu acq gr le rio fio upc dr evr pr net cmd sec hlt pending) =
      (pads.hirq, cmd.out) := by rw [hostLine]

@[simp] theorem hostLine_ite (c : Prop) [Decidable c] (a b : State) :
    hostLine (if c then a else b) = if c then hostLine a else hostLine b := by
  split <;> rfl

@[simp] theorem hirq_ite (c : Prop) [Decidable c] (a b : Pads) : (if c then a else b).hirq = if c then a.hirq else b.hirq := by
  split <;> rfl

@[simp] theorem hostLine_foldl {α : Type} (g : State → α → State) (l : List α) (s : State)
    (h : ∀ s a, hostLine (g s a) = hostLine s) : hostLine (l.foldl g s) = hostLine s := foldl_keeps hostLine g l s h

@[simp] theorem hostLine_foldl_snd {α β : Type} (g : β × State → α → β × State) (l : List α) (b : β) (s : State)
    (h : ∀ p a, hostLine (g p a).2 = hostLine p.2) : hostLine (l.foldl g (b, s)).2 = hostLine s :=
  foldl_keeps (fun p : β × State => hostLine p.2) g l (b, s) h

theorem hostLine_of_only {ps : List Part} {s t : State} (h : Only ps s t) (kp : Part.pads ∉ ps) (kc : Part.cmd ∉ ps) :
    hostLine t = hostLine s :=
  Prod.ext (congrArg Pads.hirq (h.same .pads kp)) (congrArg Cmd.out (h.same .cmd kc))

end Sys2Proof.Machine
end

section
/-! PROOFS. What leaves HIRQ_N and the packets pending as they are (R582): the events, detectors, cells, frames and the
disturbance recorder. -/

namespace Sys2Proof.Machine
open Sys2Proof

@[simp] theorem freshNat_hostLine (s : State) : hostLine (freshNat s).2 = hostLine s :=
  hostLine_of_only (freshNat_only _) (by decide) (by decide)

@[simp] theorem dropEvent_hostLine (e : Event) (s : State) : hostLine (dropEvent e s) = hostLine s := by
  simp [dropEvent]

@[simp] theorem emit_hostLine (b : Block) (e : Event) (s : State) : hostLine (emit b e s) = hostLine s :=
  hostLine_of_only (emit_only _ _ _) (by decide) (by decide)

@[simp] theorem submit_hostLine (b : Block) (code value : Nat) (s : State) : hostLine (submit b code value s) = hostLine s :=
  hostLine_of_only (submit_only _ _ _ _) (by decide) (by decide)

@[simp] theorem submitParts_hostLine (b : Block) (code value : Nat) (parts : List (List Byte)) (s : State) :
    hostLine (submitParts b code value parts s) = hostLine s :=
  hostLine_of_only (submitParts_only _ _ _ _ _) (by decide) (by decide)

@[simp] theorem submitCmd_hostLine (b : Block) (session code value : Nat) (s : State) :
    hostLine (submitCmd b session code value s) = hostLine s :=
  hostLine_of_only (submitCmd_only _ _ _ _ _) (by decide) (by decide)

@[simp] theorem fireDet_hostLine (d i value : Nat) (s : State) : hostLine (fireDet d i value s) = hostLine s :=
  hostLine_of_only (fireDet_only _ _ _ _) (by decide) (by decide)

@[simp] theorem fireDetOnceP_hostLine (d value : Nat) (parts : List (List Byte)) (s : State) :
    hostLine (fireDetOnceP d value parts s) = hostLine s :=
  hostLine_of_only (fireDetOnceP_only _ _ _ _) (by decide) (by decide)

@[simp] theorem fireDetOnce_hostLine (d value : Nat) (s : State) : hostLine (fireDetOnce d value s) = hostLine s :=
  hostLine_of_only (fireDetOnce_only _ _ _) (by decide) (by decide)

@[simp] theorem fireDetFree_hostLine (d : Nat) (s : State) : hostLine (fireDetFree d s) = hostLine s :=
  hostLine_of_only (fireDetFree_only _ _) (by decide) (by decide)

@[simp] theorem clearDet_hostLine (d i : Nat) (s : State) : hostLine (clearDet d i s) = hostLine s :=
  hostLine_of_only (clearDet_only _ _ _) (by decide) (by decide)

@[simp] theorem clearDetAll_hostLine (d : Nat) (s : State) : hostLine (clearDetAll d s) = hostLine s :=
  hostLine_of_only (clearDetAll_only _ _) (by decide) (by decide)

@[simp] theorem raiseTrig_hostLine (kind index edge t1 t0 : Nat) (s : State) :
    hostLine (raiseTrig kind index edge t1 t0 s) = hostLine s :=
  hostLine_of_only (raiseTrig_only _ _ _ _ _ _) (by decide) (by decide)

@[simp] theorem sendCell_hostLine (type : Nat) (vals : List Nat) (s : State) :
    hostLine (sendCell type vals s) = hostLine s :=
  hostLine_of_only (sendCell_only _ _ _) (by decide) (by decide)

@[simp] theorem digNote_hostLine (k : Nat) (bs : List Byte) (s : State) : hostLine (digNote k bs s) = hostLine s :=
  hostLine_of_only (digNote_only _ _ _) (by decide) (by decide)

@[simp] theorem sendAgree_hostLine (kind wave : Nat) (vals : List Nat) (s : State) :
    hostLine (sendAgree kind wave vals s) = hostLine s :=
  hostLine_of_only (sendAgree_only _ _ _ _) (by decide) (by decide)

@[simp] theorem schedTwin_hostLine (code : Nat) (vals : List Nat) (s : State) :
    hostLine (schedTwin code vals s) = hostLine s :=
  hostLine_of_only (schedTwin_only _ _ _) (by decide) (by decide)

@[simp] theorem refreshPads_hostLine (s : State) : hostLine (refreshPads s) = hostLine s := by
  simp [refreshPads]

@[simp] theorem endInj_hostLine (cause : Nat) (j : Inj) (s : State) : hostLine (endInj cause j s) = hostLine s := by
  simp [endInj]

@[simp] theorem noteRole_hostLine (s : State) : hostLine (noteRole s) = hostLine s :=
  hostLine_of_only (noteRole_only _) (by decide) (by decide)

@[simp] theorem setPair_hostLine (st : PairSt) (s : State) : hostLine (setPair st s) = hostLine s := by
  simp [setPair]

@[simp] theorem setRoleActive_hostLine (b : Bool) (s : State) : hostLine (setRoleActive b s) = hostLine s :=
  hostLine_of_only (setRoleActive_only _ _) (by decide) (by decide)

@[simp] theorem tryBind_hostLine (s : State) : hostLine (tryBind s) = hostLine s := by
  simp [tryBind]

@[simp] theorem dropBind_hostLine (s : State) : hostLine (dropBind s) = hostLine s := by
  simp [dropBind]

@[simp] theorem slewTd2_hostLine (s : State) : hostLine (slewTd2 s) = hostLine s :=
  hostLine_of_only (slewTd2_only _) (by decide) (by decide)

@[simp] theorem takeover_hostLine (cause : Nat) (s : State) : hostLine (takeover cause s) = hostLine s := by
  simp [takeover]

@[simp] theorem startJoin_hostLine (s : State) : hostLine (startJoin s) = hostLine s := by
  simp [startJoin]

@[simp] theorem activeSolo_hostLine (s : State) : hostLine (activeSolo s) = hostLine s := by
  simp [activeSolo]

@[simp] theorem declareFaulty_hostLine (value : Nat) (s : State) : hostLine (declareFaulty value s) = hostLine s := by
  simp [declareFaulty]

@[simp] theorem diverge_hostLine (cause : Nat) (s : State) : hostLine (diverge cause s) = hostLine s := by
  simp [diverge]

@[simp] theorem digestsMeet_hostLine (wave : Nat) (s : State) : hostLine (digestsMeet wave s) = hostLine s := by
  unfold digestsMeet
  split <;> simp

@[simp] theorem nameHandover_hostLine (cause : Nat) (extra : List Nat) (s : State) :
    hostLine (nameHandover cause extra s) = hostLine s := by
  simp [nameHandover]

@[simp] theorem agreeUsed_hostLine (kind : Nat) (s : State) : hostLine (agreeUsed kind s) = hostLine s := by
  simp [agreeUsed]

@[simp] theorem updPort_hostLine (p : Nat) (f : Port → Port) (s : State) : hostLine (updPort p f s) = hostLine s :=
  hostLine_of_only (updPort_only _ _ _) (by decide) (by decide)

@[simp] theorem sendFrame_hostLine (kind mask : Nat) (ids vals : List Nat) (bytes : List Byte) (s : State) :
    hostLine (sendFrame kind mask ids vals bytes s) = hostLine s :=
  hostLine_of_only (sendFrame_only _ _ _ _ _ _) (by decide) (by decide)

@[simp] theorem mgmtPump_hostLine (s : State) : hostLine (mgmtPump s) = hostLine s :=
  hostLine_of_only (mgmtPump_only _) (by decide) (by decide)

@[simp] theorem sendUdpOn_hostLine (mask kind ip port : Nat) (ids vals : List Nat) (bytes : List Byte) (s : State) :
    hostLine (sendUdpOn mask kind ip port ids vals bytes s) = hostLine s :=
  hostLine_of_only (sendUdpOn_only _ _ _ _ _ _ _ _) (by decide) (by decide)

@[simp] theorem sendUdp_hostLine (kind ip port : Nat) (ids vals : List Nat) (bytes : List Byte) (s : State) :
    hostLine (sendUdp kind ip port ids vals bytes s) = hostLine s :=
  hostLine_of_only (sendUdp_only _ _ _ _ _ _ _) (by decide) (by decide)

@[simp] theorem updUnit_hostLine (u : Nat) (f : DrUnit → DrUnit) (s : State) : hostLine (updUnit u f s) = hostLine s := by
  simp [updUnit]

@[simp] theorem pushProt_hostLine (xs : List Samp) (s : State) : hostLine (pushProt xs s) = hostLine s := by
  simp [pushProt]

@[simp] theorem pushHigh_hostLine (xs : List Samp) (s : State) : hostLine (pushHigh xs s) = hostLine s := by
  simp [pushHigh]

@[simp] theorem recFlags_hostLine (m : BitVec 16) (s : State) : hostLine (recFlags m s) = hostLine s :=
  hostLine_of_only (recFlags_only _ _) (by decide) (by decide)

@[simp] theorem recMark_hostLine (code t1 start : Nat) (s : State) : hostLine (recMark code t1 start s) = hostLine s :=
  hostLine_of_only (recMark_only _ _ _ _) (by decide) (by decide)

@[simp] theorem makeRoom_hostLine (k n : Nat) (s : State) : hostLine (makeRoom k n s) = hostLine s :=
  hostLine_of_only (makeRoom_only _ _ _) (by decide) (by decide)

@[simp] theorem openRecord_hostLine (r : Record) (s : State) : hostLine (openRecord r s) = hostLine s := by
  simp [openRecord]

@[simp] theorem closeRecord_hostLine (flags : BitVec 16) (s : State) : hostLine (closeRecord flags s) = hostLine s :=
  hostLine_of_only (closeRecord_only _ _) (by decide) (by decide)

@[simp] theorem setArm_hostLine (st : DrSt) (s : State) : hostLine (setArm st s) = hostLine s :=
  hostLine_of_only (setArm_only _ _) (by decide) (by decide)

@[simp] theorem chainEnd_hostLine (s : State) : hostLine (chainEnd s) = hostLine s := by
  simp [chainEnd]

@[simp] theorem truncate_hostLine (s : State) : hostLine (truncate s) = hostLine s := by
  unfold truncate
  split <;> simp

@[simp] theorem opening_hostLine (f : Firing) (s : State) : hostLine (opening f s) = hostLine s := by
  unfold opening
  repeat' split
  all_goals simp

@[simp] theorem unitActs_hostLine (u t1 : Nat) (c : UnitCfg) (s : State) : hostLine (unitActs u t1 c s) = hostLine s := by
  unfold unitActs
  repeat' split
  all_goals simp

@[simp] theorem fireUnit_hostLine (u t1 : Nat) (s : State) : hostLine (fireUnit u t1 s) = hostLine s := by
  unfold fireUnit
  split <;> simp

@[simp] theorem fireUnits_hostLine (us : List Nat) (t1 : Nat) (s : State) : hostLine (fireUnits us t1 s) = hostLine s := by
  simp [fireUnits]

@[simp] theorem unitSample_hostLine (u : Nat) (c : UnitCfg) (x : Samp) (s : State) :
    hostLine (unitSample u c x s) = hostLine s := by
  unfold unitSample
  dsimp only
  split <;> simp

@[simp] theorem unitsSample_hostLine (x : Samp) (s : State) : hostLine (unitsSample x s) = hostLine s := by
  unfold unitsSample
  refine hostLine_foldl _ _ _ fun s _ => ?_
  split <;> simp

@[simp] theorem patternUnits_hostLine (t1 : Nat) (s : State) : hostLine (patternUnits t1 s) = hostLine s := by
  unfold patternUnits
  refine hostLine_foldl _ _ _ fun s _ => ?_
  split <;> simp

@[simp] theorem binSet_hostLine (cls index : Nat) (st ok est gap : Bool) (t1 : Nat) (s : State) :
    hostLine (binSet cls index st ok est gap t1 s) = hostLine s := by
  simp [binSet]

@[simp] theorem binPulse_hostLine (cls index t1 : Nat) (s : State) : hostLine (binPulse cls index t1 s) = hostLine s := by
  simp [binPulse]

@[simp] theorem setPhase_hostLine (term : Nat) (x : Option (Nat × Int × Nat)) (s : State) :
    hostLine (setPhase term x s) = hostLine s := by
  simp [setPhase]

@[simp] theorem sampUnits_hostLine (x : Samp) (s : State) : hostLine (sampUnits x s) = hostLine s := by
  simp [sampUnits]

@[simp] theorem recTokens_hostLine (vals : List (Int × BitVec 8)) (s : State) : hostLine (recTokens vals s) = hostLine s := by
  unfold recTokens
  dsimp only
  split <;> simp

@[simp] theorem recManual_hostLine (s : State) : hostLine (recManual s) = hostLine s := by
  simp [recManual]

@[simp] theorem recStart_hostLine (s : State) : hostLine (recStart s) = hostLine s := by
  simp [recStart]

@[simp] theorem applyArm_hostLine (arm : Bool) (s : State) : hostLine (applyArm arm s) = hostLine s := by
  unfold applyArm
  repeat' split
  all_goals simp

@[simp] theorem recResume_hostLine (s : State) : hostLine (recResume s) = hostLine s := by
  unfold recResume
  split <;> simp

@[simp] theorem recWave_hostLine (vals : List (Int × BitVec 8)) (s : State) : hostLine (recWave vals s) = hostLine s := by
  simp [recWave]

@[simp] theorem recDerived_hostLine (out v : Nat) (q : BitVec 8) (wave t1 : Nat) (s : State) :
    hostLine (recDerived out v q wave t1 s) = hostLine s := by
  unfold recDerived
  split
  · rfl
  dsimp only
  refine hostLine_foldl _ _ _ fun s _ => ?_
  split
  · split <;> simp
  · rfl

@[simp] theorem recHigh_hostLine (input slot0 t1 : Nat) (q : BitVec 8) (vals : List Int) (s : State) :
    hostLine (recHigh input slot0 t1 q vals s) = hostLine s := by
  unfold recHigh
  refine hostLine_foldl _ _ _ fun s _ => ?_
  dsimp only
  repeat' split
  all_goals simp

@[simp] theorem askManual_hostLine (unit : Nat) (s : State) : hostLine (askManual unit s) = hostLine s := by
  simp [askManual]

@[simp] theorem clearFired_hostLine (mask : Word) (s : State) : hostLine (clearFired mask s).1 = hostLine s := by
  simp [clearFired]

@[simp] theorem recordOpen_hostLine (s : State) : hostLine (recordOpen s) = hostLine s := by
  unfold recordOpen
  repeat' split
  all_goals simp

@[simp] theorem recordEnd_hostLine (s : State) : hostLine (recordEnd s) = hostLine s := by
  unfold recordEnd
  split <;> simp

@[simp] theorem holdOffExpiry_hostLine (s : State) : hostLine (holdOffExpiry s) = hostLine s := by
  simp [holdOffExpiry]

@[simp] theorem setStep_hostLine (n : Nat) (s : State) : hostLine (setStep n s) = hostLine s := by
  unfold setStep
  dsimp only
  split <;> simp

@[simp] theorem rateStepUp_hostLine (high prot : Nat) (s : State) : hostLine (rateStepUp high prot s) = hostLine s := by
  simp [rateStepUp]

@[simp] theorem rateStepDown_hostLine (high prot : Nat) (s : State) : hostLine (rateStepDown high prot s) = hostLine s := by
  unfold rateStepDown
  dsimp only
  split <;> simp

@[simp] theorem ringFull_hostLine (high : Bool) (s : State) : hostLine (ringFull high s) = hostLine s := by
  unfold ringFull
  dsimp only
  repeat' split
  all_goals simp

@[simp] theorem reelDrainDone_hostLine (id high prot : Nat) (s : State) :
    hostLine (reelDrainDone id high prot s) = hostLine s :=
  hostLine_of_only (reelDrainDone_only _ _ _ _) (by decide) (by decide)

@[simp] theorem drPowerFail_hostLine (s : State) : hostLine (drPowerFail s) = hostLine s :=
  hostLine_of_only (drPowerFail_only _) (by decide) (by decide)

@[simp] theorem drRecover_hostLine (s : State) : hostLine (drRecover s) = hostLine s :=
  hostLine_of_only (drRecover_only _) (by decide) (by decide)

end Sys2Proof.Machine
end

section
/-! PROOFS. What leaves HIRQ_N and the packets pending as they are (R582): the time base and the field inputs and outputs.
-/

namespace Sys2Proof.Machine
open Sys2Proof

@[simp] theorem updDom_hostLine (n : Nat) (f : Domain → Domain) (s : State) : hostLine (updDom n f s) = hostLine s :=
  hostLine_of_only (updDom_only _ _ _) (by decide) (by decide)

@[simp] theorem noteSync_hostLine (s : State) : hostLine (noteSync s) = hostLine s :=
  hostLine_of_only (noteSync_only _) (by decide) (by decide)

@[simp] theorem advance_hostLine (k : Nat) (s : State) : hostLine (advance k s) = hostLine s :=
  hostLine_of_only (advance_only _ _) (by decide) (by decide)

@[simp] theorem saveIncs_hostLine (s : State) : hostLine (saveIncs s) = hostLine s :=
  hostLine_of_only (saveIncs_only _) (by decide) (by decide)

@[simp] theorem setInc_hostLine (n inc : Nat) (s : State) : hostLine (setInc n inc s) = hostLine s :=
  hostLine_of_only (setInc_only _ _ _) (by decide) (by decide)

@[simp] theorem startSlew_hostLine (n inc count : Nat) (s : State) : hostLine (startSlew n inc count s) = hostLine s :=
  hostLine_of_only (startSlew_only _ _ _ _) (by decide) (by decide)

@[simp] theorem latchAll_hostLine (s : State) : hostLine (latchAll s) = hostLine s :=
  hostLine_of_only (latchAll_only _) (by decide) (by decide)

@[simp] theorem putArmed_hostLine (o : Owner) (e : Nat) (v : LaunchVal) (next : Nat) (s : State) :
    hostLine (putArmed o e v next s) = hostLine s := by
  simp [putArmed]

@[simp] theorem armLaunch_hostLine (o : Owner) (e : Nat) (v : LaunchVal) (s : State) :
    hostLine (armLaunch o e v s).1 = hostLine s :=
  hostLine_of_only (armLaunch_only _ _ _ _) (by decide) (by decide)

@[simp] theorem updLaunch_hostLine (e : Nat) (f : LaunchEntry → LaunchEntry) (s : State) :
    hostLine (updLaunch e f s) = hostLine s :=
  hostLine_of_only (updLaunch_only _ _ _) (by decide) (by decide)

@[simp] theorem cancelLaunch_hostLine (o : Owner) (e : Nat) (s : State) : hostLine (cancelLaunch o e s).1 = hostLine s :=
  hostLine_of_only (cancelLaunch_only _ _ _) (by decide) (by decide)

@[simp] theorem applyStep_hostLine (n : Nat) (off : Int) (cause : Nat) (s : State) :
    hostLine (applyStep n off cause s) = hostLine s :=
  hostLine_of_only (applyStep_only _ _ _ _) (by decide) (by decide)

@[simp] theorem setRole_hostLine (port role : Nat) (s : State) : hostLine (setRole port role s) = hostLine s :=
  hostLine_of_only (setRole_only _ _ _) (by decide) (by decide)

@[simp] theorem setQual_hostLine (q : TQState) (c : Nat) (tell : Bool) (s : State) :
    hostLine (setQual q c tell s) = hostLine s :=
  hostLine_of_only (setQual_only _ _ _ _) (by decide) (by decide)

@[simp] theorem leaveNever_hostLine (was : TQState) (s : State) : hostLine (leaveNever was s) = hostLine s :=
  hostLine_of_only (leaveNever_only _ _) (by decide) (by decide)

@[simp] theorem updSrc_hostLine (k : Nat) (f : Source → Source) (s : State) : hostLine (updSrc k f s) = hostLine s :=
  hostLine_of_only (updSrc_only _ _ _) (by decide) (by decide)

@[simp] theorem noteYear_hostLine (s : State) : hostLine (noteYear s) = hostLine s :=
  hostLine_of_only (noteYear_only _) (by decide) (by decide)

@[simp] theorem servoUpdate_hostLine (off : Int) (s : State) : hostLine (servoUpdate off s) = hostLine s :=
  hostLine_of_only (servoUpdate_only _ _) (by decide) (by decide)

@[simp] theorem srcGood_hostLine (k need : Nat) (off : Int) (s : State) : hostLine (srcGood k need off s) = hostLine s :=
  hostLine_of_only (srcGood_only _ _ _ _) (by decide) (by decide)

@[simp] theorem srcLost_hostLine (k : Nat) (present : Bool) (s : State) : hostLine (srcLost k present s) = hostLine s :=
  hostLine_of_only (srcLost_only _ _ _) (by decide) (by decide)

@[simp] theorem capture_hostLine (source msgType seq half : Nat) (portId : List Byte) (s : State) :
    hostLine (capture source msgType seq half portId s) = hostLine s :=
  hostLine_of_only (capture_only _ _ _ _ _ _) (by decide) (by decide)

@[simp] theorem takeUtc_hostLine (u : Option (Int × Nat)) (s : State) : hostLine (takeUtc u s) = hostLine s := by
  unfold takeUtc
  split <;> simp

@[simp] theorem ptpPass_hostLine (port : Nat) (m : PtpMsg) (half : Nat) (s : State) :
    hostLine (ptpPass port m half s) = hostLine s := by
  simp [ptpPass]

@[simp] theorem kick_hostLine (s : State) : hostLine (kick s) = hostLine s :=
  hostLine_of_only (kick_only _) (by decide) (by decide)

@[simp] theorem learnModel_hostLine (m : Nat) (s : State) : hostLine (learnModel m s) = hostLine s :=
  hostLine_of_only (learnModel_only _ _) (by decide) (by decide)

@[simp] theorem gridDone_hostLine (s : State) : hostLine (gridDone s) = hostLine s :=
  hostLine_of_only (gridDone_only _) (by decide) (by decide)

@[simp] theorem voidStep_hostLine (s : State) : hostLine (voidStep s) = hostLine s :=
  hostLine_of_only (voidStep_only _) (by decide) (by decide)

@[simp] theorem tbLo_hostLine (n : Nat) (slew : Bool) (v : Nat) (s : State) : hostLine (tbLo n slew v s).1 = hostLine s := by
  unfold tbLo
  repeat' split
  all_goals simp

@[simp] theorem tbHi_hostLine (n : Nat) (slew : Bool) (v : Nat) (s : State) : hostLine (tbHi n slew v s).1 = hostLine s := by
  unfold tbHi
  dsimp only
  repeat' split
  all_goals simp

@[simp] theorem tbCount_hostLine (n v : Nat) (s : State) : hostLine (tbCount n v s).1 = hostLine s := by
  unfold tbCount
  repeat' split
  all_goals simp

@[simp] theorem tbStepCtl_hostLine (v : Nat) (s : State) : hostLine (tbStepCtl v s).1 = hostLine s := by
  unfold tbStepCtl
  dsimp only
  repeat' split
  all_goals simp

@[simp] theorem tbQual_hostLine (n v : Nat) (s : State) : hostLine (tbQual n v s).1 = hostLine s := by
  unfold tbQual
  repeat' split
  all_goals simp

@[simp] theorem tbWrite_hostLine (a v : Nat) (s : State) : hostLine (tbWrite a v s).1 = hostLine s := by
  unfold tbWrite
  repeat' split
  all_goals simp

@[simp] theorem idle_hostLine (s : State) : hostLine (idle s) = hostLine s := by
  simp [idle]

@[simp] theorem updDi_hostLine (n : Nat) (f : DigIn → DigIn) (s : State) : hostLine (updDi n f s) = hostLine s := by
  simp [updDi]

@[simp] theorem updDo_hostLine (n : Nat) (f : DigOut → DigOut) (s : State) : hostLine (updDo n f s) = hostLine s :=
  hostLine_of_only (updDo_only _ _ _) (by decide) (by decide)

@[simp] theorem noteDi_hostLine (t1 : Nat) (s : State) : hostLine (noteDi t1 s) = hostLine s :=
  hostLine_of_only (noteDi_only _ _) (by decide) (by decide)

@[simp] theorem diRecord_hostLine (n : Nat) (est gap : Bool) (t1 : Nat) (s : State) :
    hostLine (diRecord n est gap t1 s) = hostLine s :=
  hostLine_of_only (diRecord_only _ _ _ _ _) (by decide) (by decide)

@[simp] theorem diRefresh_hostLine (n : Nat) (s : State) : hostLine (diRefresh n s) = hostLine s :=
  hostLine_of_only (diRefresh_only _ _) (by decide) (by decide)

@[simp] theorem fieldAdopt_hostLine (i v : Nat) (s : State) : hostLine (fieldAdopt i v s) = hostLine s := by
  simp [fieldAdopt]

@[simp] theorem driveAll_hostLine (s : State) : hostLine (driveAll s) = hostLine s :=
  hostLine_of_only (driveAll_only _) (by decide) (by decide)

@[simp] theorem fieldRestore_hostLine (s : State) : hostLine (fieldRestore s) = hostLine s := by
  simp [fieldRestore]

@[simp] theorem fieldFrameStart_hostLine (s : State) : hostLine (fieldFrameStart s) = hostLine s := by
  simp [fieldFrameStart]

@[simp] theorem fieldDownMissing_hostLine (s : State) : hostLine (fieldDownMissing s) = hostLine s := by
  simp [fieldDownMissing]

@[simp] theorem fieldDownRx_hostLine (s : State) : hostLine (fieldDownRx s) = hostLine s := by
  simp [fieldDownRx]

@[simp] theorem takeEdge_hostLine (s : State) (e : DiEdge) : hostLine (takeEdge s e) = hostLine s := by
  unfold takeEdge
  dsimp only
  repeat' split
  all_goals simp

@[simp] theorem fieldLost_hostLine (cause : Nat) (s : State) : hostLine (fieldLost cause s) = hostLine s := by
  simp [fieldLost]

@[simp] theorem fieldUpHead_hostLine (level : Nat) (temp : Int) (s : State) :
    hostLine (fieldUpHead level temp s) = hostLine s := by
  simp [fieldUpHead]

@[simp] theorem takeStates_hostLine (di : Nat) (s : State) : hostLine (takeStates di s) = hostLine s := by
  simp [takeStates]

@[simp] theorem unreported_hostLine (f di : Nat) (s : State) (n : Nat) : hostLine (unreported f di s n) = hostLine s := by
  simp [unreported]

@[simp] theorem fieldUpRx_hostLine (di chg1 chg2 chg3 first last level : Nat) (temp : Int) (s : State) :
    hostLine (fieldUpRx di chg1 chg2 chg3 first last level temp s) = hostLine s := by
  simp [fieldUpRx]

@[simp] theorem clearFieldFlag_hostLine (det n : Nat) (s : State) : hostLine (clearFieldFlag det n s) = hostLine s :=
  hostLine_of_only (clearFieldFlag_only _ _ _) (by decide) (by decide)

end Sys2Proof.Machine
end

section
/-! PROOFS. What leaves HIRQ_N and the packets pending as they are (R582): the logic engine and the remote I/O. -/

namespace Sys2Proof.Machine
open Sys2Proof

@[simp] theorem syncClk_hostLine (s : State) : hostLine (syncClk s) = hostLine s :=
  hostLine_of_only (syncClk_only _) (by decide) (by decide)

@[simp] theorem markDirty_hostLine (s : State) : hostLine (markDirty s) = hostLine s :=
  hostLine_of_only (markDirty_only _) (by decide) (by decide)

@[simp] theorem putTask_hostLine (t : Task) (s : State) : hostLine (putTask t s) = hostLine s := by
  simp [putTask]

@[simp] theorem wordPut_hostLine (sp a v : Nat) (t : Task) (s : State) : hostLine (wordPut sp a v t s).2 = hostLine s :=
  hostLine_of_only (wordPut_only _ _ _ _ _) (by decide) (by decide)

@[simp] theorem bitPut_hostLine (sp a : Nat) (b : Bool) (t : Task) (s : State) :
    hostLine (bitPut sp a b t s).2 = hostLine s :=
  hostLine_of_only (bitPut_only _ _ _ _ _) (by decide) (by decide)

@[simp] theorem iBit_hostLine (f : Bool → Bool → Bool) (x1 x2 : Nat) (x3 : Task) (x4 : State) :
    hostLine (iBit f x1 x2 x3 x4).2 = hostLine x4 := by
  simp [iBit]

@[simp] theorem iPush_hostLine (op x1 x2 : Nat) (x3 : Task) (x4 : State) : hostLine (iPush op x1 x2 x3 x4).2 = hostLine x4 := by
  simp [iPush]

@[simp] theorem iClose_hostLine (x0 x1 : Nat) (x2 : Task) (x3 : State) : hostLine (iClose x0 x1 x2 x3).2 = hostLine x3 := by
  unfold iClose
  split <;> simp

@[simp] theorem putEdge_hostLine (e : EdgeMem) (s : State) : hostLine (putEdge e s) = hostLine s :=
  hostLine_of_only (putEdge_only _ _) (by decide) (by decide)

@[simp] theorem iEdge_hostLine (rising : Bool) (x1 x2 : Nat) (x3 : Task) (x4 : State) :
    hostLine (iEdge rising x1 x2 x3 x4).2 = hostLine x4 := by
  simp [iEdge]

@[simp] theorem iSt_hostLine (neg : Bool) (x1 x2 : Nat) (x3 : Task) (x4 : State) :
    hostLine (iSt neg x1 x2 x3 x4).2 = hostLine x4 := by
  simp [iSt]

@[simp] theorem iSetRst_hostLine (b : Bool) (x1 x2 : Nat) (x3 : Task) (x4 : State) :
    hostLine (iSetRst b x1 x2 x3 x4).2 = hostLine x4 := by
  unfold iSetRst
  split <;> simp

@[simp] theorem putTimer_hostLine (x : Timer) (s : State) : hostLine (putTimer x s) = hostLine s := by
  simp [putTimer]

@[simp] theorem iTimer_hostLine (kind x1 x2 : Nat) (x3 : Task) (x4 : State) :
    hostLine (iTimer kind x1 x2 x3 x4).2 = hostLine x4 := by
  unfold iTimer
  split <;> simp

@[simp] theorem iTrst_hostLine (x0 x1 : Nat) (x2 : Task) (x3 : State) : hostLine (iTrst x0 x1 x2 x3).2 = hostLine x3 := by
  unfold iTrst
  repeat' split
  all_goals simp

@[simp] theorem iTpv_hostLine (x0 x1 : Nat) (x2 : Task) (x3 : State) : hostLine (iTpv x0 x1 x2 x3).2 = hostLine x3 := by
  unfold iTpv
  split <;> simp

@[simp] theorem putCounter_hostLine (x : Counter) (s : State) : hostLine (putCounter x s) = hostLine s := by
  simp [putCounter]

@[simp] theorem iCtu_hostLine (x0 x1 : Nat) (x2 : Task) (x3 : State) : hostLine (iCtu x0 x1 x2 x3).2 = hostLine x3 := by
  unfold iCtu
  split <;> simp

@[simp] theorem iCtd_hostLine (x0 x1 : Nat) (x2 : Task) (x3 : State) : hostLine (iCtd x0 x1 x2 x3).2 = hostLine x3 := by
  unfold iCtd
  split <;> simp

@[simp] theorem iCount_hostLine (f : Counter → Int) (x1 x2 : Nat) (x3 : Task) (x4 : State) :
    hostLine (iCount f x1 x2 x3 x4).2 = hostLine x4 := by
  unfold iCount
  repeat' split
  all_goals simp

@[simp] theorem iCpv_hostLine (x0 x1 : Nat) (x2 : Task) (x3 : State) : hostLine (iCpv x0 x1 x2 x3).2 = hostLine x3 := by
  unfold iCpv
  split <;> simp

@[simp] theorem iWord_hostLine (f : Word → Word → Word) (x1 x2 : Nat) (x3 : Task) (x4 : State) :
    hostLine (iWord f x1 x2 x3 x4).2 = hostLine x4 := by
  simp [iWord]

@[simp] theorem iArith_hostLine (f : Int → Int → Word × Bool) (x1 x2 : Nat) (x3 : Task) (x4 : State) :
    hostLine (iArith f x1 x2 x3 x4).2 = hostLine x4 := by
  simp [iArith]

@[simp] theorem iSigned_hostLine (f : Int → Int) (x1 x2 : Nat) (x3 : Task) (x4 : State) :
    hostLine (iSigned f x1 x2 x3 x4).2 = hostLine x4 := by
  simp [iSigned]

@[simp] theorem iAcc_hostLine (f : Word → Word) (x1 x2 : Nat) (x3 : Task) (x4 : State) :
    hostLine (iAcc f x1 x2 x3 x4).2 = hostLine x4 := by
  simp [iAcc]

@[simp] theorem iShift_hostLine (f : Word → Nat → Word) (x1 x2 : Nat) (x3 : Task) (x4 : State) :
    hostLine (iShift f x1 x2 x3 x4).2 = hostLine x4 := by
  simp [iShift]

@[simp] theorem iCmp_hostLine (f : Word → Word → Bool) (x1 x2 : Nat) (x3 : Task) (x4 : State) :
    hostLine (iCmp f x1 x2 x3 x4).2 = hostLine x4 := by
  simp [iCmp]

@[simp] theorem iLdh_hostLine (x0 x1 : Nat) (x2 : Task) (x3 : State) : hostLine (iLdh x0 x1 x2 x3).2 = hostLine x3 := by
  simp [iLdh]

@[simp] theorem iFix_hostLine (x0 x1 : Nat) (x2 : Task) (x3 : State) : hostLine (iFix x0 x1 x2 x3).2 = hostLine x3 := by
  simp [iFix]

@[simp] theorem iJump_hostLine (p : Bool → Bool) (x1 x2 : Nat) (x3 : Task) (x4 : State) :
    hostLine (iJump p x1 x2 x3 x4).2 = hostLine x4 := by
  simp [iJump]

@[simp] theorem iCall_hostLine (x0 x1 : Nat) (x2 : Task) (x3 : State) : hostLine (iCall x0 x1 x2 x3).2 = hostLine x3 := by
  simp [iCall]

@[simp] theorem iRet_hostLine (x0 x1 : Nat) (x2 : Task) (x3 : State) : hostLine (iRet x0 x1 x2 x3).2 = hostLine x3 := by
  unfold iRet
  split <;> simp

@[simp] theorem iEvt_hostLine (x0 x1 : Nat) (x2 : Task) (x3 : State) : hostLine (iEvt x0 x1 x2 x3).2 = hostLine x3 := by
  unfold iEvt
  split <;> simp

@[simp] theorem iLarm_hostLine (x0 x1 : Nat) (x2 : Task) (x3 : State) : hostLine (iLarm x0 x1 x2 x3).2 = hostLine x3 := by
  unfold iLarm
  split <;> simp

@[simp] theorem iLcan_hostLine (x0 x1 : Nat) (x2 : Task) (x3 : State) : hostLine (iLcan x0 x1 x2 x3).2 = hostLine x3 := by
  unfold iLcan
  split <;> simp

@[simp] theorem iNop_hostLine (x0 x1 : Nat) (x2 : Task) (x3 : State) : hostLine (iNop x0 x1 x2 x3).2 = hostLine x3 := by
  simp [iNop]

@[simp] theorem updSt_hostLine (k : Nat) (f : Station → Station) (s : State) : hostLine (updSt k f s) = hostLine s :=
  hostLine_of_only (updSt_only _ _ _) (by decide) (by decide)

@[simp] theorem putInputs_hostLine (k : Nat) (bs : List Byte) (s : State) : hostLine (putInputs k bs s) = hostLine s := by
  simp [putInputs]

@[simp] theorem putValid_hostLine (s : State) : hostLine (putValid s) = hostLine s :=
  hostLine_of_only (putValid_only _) (by decide) (by decide)

@[simp] theorem stMiss_hostLine (k : Nat) (s : State) : hostLine (stMiss k s) = hostLine s :=
  hostLine_of_only (stMiss_only _ _) (by decide) (by decide)

@[simp] theorem stGood_hostLine (k : Nat) (bs : List Byte) (s : State) : hostLine (stGood k bs s) = hostLine s := by
  simp [stGood]

@[simp] theorem rioRelease_hostLine (n : Nat) (s : State) : hostLine (rioRelease n s) = hostLine s := by
  unfold rioRelease
  dsimp only
  repeat' split
  all_goals simp

@[simp] theorem stTrip_hostLine (k rxSeq tx rx : Nat) (s : State) : hostLine (stTrip k rxSeq tx rx s) = hostLine s := by
  unfold stTrip
  split <;> simp

@[simp] theorem stTake_hostLine (k flags seq : Nat) (ok : Bool) (data : List Byte) (s : State) :
    hostLine (stTake k flags seq ok data s) = hostLine s := by
  simp [stTake]

@[simp] theorem stSend_hostLine (stale : Bool) (p : State × Nat) (k : Nat) : hostLine (stSend stale p k).1 = hostLine p.1 :=
  hostLine_of_only (stSend_only _ _ _) (by decide) (by decide)

@[simp] theorem ringTake_hostLine (k : Nat) (data : List Byte) (s : State) : hostLine (ringTake k data s) = hostLine s := by
  simp [ringTake]

@[simp] theorem sendLogic_hostLine (vals : List Nat) (s : State) : hostLine (sendLogic vals s) = hostLine s :=
  hostLine_of_only (sendLogic_only _ _) (by decide) (by decide)

@[simp] theorem startWith_hostLine (t : Task) (clk pw w0 : Nat) (nb nw : SMap) (s : State) :
    hostLine (startWith t clk pw w0 nb nw s) = hostLine s := by
  simp [startWith]

@[simp] theorem preempt_hostLine (s : State) : hostLine (preempt s) = hostLine s := by
  unfold preempt
  split <;> simp

@[simp] theorem startTask_hostLine (t : Task) (s : State) : hostLine (startTask t s) = hostLine s := by
  simp [startTask]

@[simp] theorem resumeTask_hostLine (t : Task) (s : State) : hostLine (resumeTask t s) = hostLine s := by
  simp [resumeTask]

@[simp] theorem dispatchOwn_hostLine (s : State) : hostLine (dispatchOwn s) = hostLine s := by
  unfold dispatchOwn
  dsimp only
  repeat' split
  all_goals simp

@[simp] theorem dispatchAgreed_hostLine (s : State) : hostLine (dispatchAgreed s) = hostLine s := by
  unfold dispatchAgreed
  repeat' split
  all_goals simp

@[simp] theorem dispatch_hostLine (s : State) : hostLine (dispatch s) = hostLine s := by
  simp [dispatch]

@[simp] theorem pumpTriggers_hostLine (s : State) : hostLine (pumpTriggers s) = hostLine s := by
  unfold pumpTriggers
  split
  · rfl
  refine hostLine_foldl _ _ _ fun s _ => ?_
  split
  · rfl
  split <;> simp

@[simp] theorem queueTrig_hostLine (g : Trig) (s : State) : hostLine (queueTrig g s) = hostLine s := by
  simp [queueTrig]

@[simp] theorem releaseTask_hostLine (t : Task) (n t1 t0 : Nat) (s : State) :
    hostLine (releaseTask t n t1 t0 s) = hostLine s := by
  simp [releaseTask]

@[simp] theorem launchRefused_hostLine (st : Status) (entry : Nat) (s : State) :
    hostLine (launchRefused st entry s) = hostLine s :=
  hostLine_of_only (launchRefused_only _ _ _) (by decide) (by decide)

@[simp] theorem passReq_hostLine (s : State) (r : Bool × Nat × LaunchVal × Nat) : hostLine (passReq s r) = hostLine s := by
  unfold passReq
  dsimp only
  repeat' split
  all_goals simp

@[simp] theorem checkReleased_hostLine (s : State) : hostLine (checkReleased s) = hostLine s :=
  hostLine_of_only (checkReleased_only _) (by decide) (by decide)

@[simp] theorem taskEnd_hostLine (t : Task) (s : State) : hostLine (taskEnd t s) = hostLine s := by
  simp [taskEnd]

@[simp] theorem setMode_hostLine (m : LeMode) (cause : Nat) (s : State) : hostLine (setMode m cause s) = hostLine s :=
  hostLine_of_only (setMode_only _ _ _) (by decide) (by decide)

@[simp] theorem abandon_hostLine (s : State) : hostLine (abandon s) = hostLine s :=
  hostLine_of_only (abandon_only _) (by decide) (by decide)

@[simp] theorem enterRun_hostLine (s : State) : hostLine (enterRun s) = hostLine s :=
  hostLine_of_only (enterRun_only _) (by decide) (by decide)

@[simp] theorem coldState_hostLine (s : State) : hostLine (coldState s) = hostLine s := by
  unfold coldState
  split <;> simp

@[simp] theorem enterHold_hostLine (cause : Nat) (s : State) : hostLine (enterHold cause s) = hostLine s := by
  simp [enterHold]

@[simp] theorem leaveHold_hostLine (s : State) : hostLine (leaveHold s) = hostLine s := by
  simp [leaveHold]

@[simp] theorem enterStop_hostLine (cause : Nat) (s : State) : hostLine (enterStop cause s) = hostLine s :=
  hostLine_of_only (enterStop_only _ _) (by decide) (by decide)

@[simp] theorem coldNow_hostLine (s : State) : hostLine (coldNow s) = hostLine s := by
  simp [coldNow]

@[simp] theorem stepTask_hostLine (f : InstrFn) (sp a : Nat) (t : Task) (s : State)
    (h : ∀ a b t s, hostLine (f a b t s).2 = hostLine s) : hostLine (stepTask f sp a t s) = hostLine s := by
  simp [stepTask, h]

theorem runInstr_hostLine (op sp a : Nat) (f : InstrFn) (s : State) (h : ∀ a b t s, hostLine (f a b t s).2 = hostLine s) :
    hostLine (runInstr op sp a f s) = hostLine s := by
  unfold runInstr
  split
  · exact stepTask_hostLine _ _ _ _ _ h
  · rfl

@[simp] theorem runEnd_hostLine (s : State) : hostLine (runEnd s) = hostLine s := by
  unfold runEnd
  split <;> simp

@[simp] theorem enterSafe_hostLine (s : State) : hostLine (enterSafe s) = hostLine s :=
  hostLine_of_only (enterSafe_only _) (by decide) (by decide)

@[simp] theorem applyWatchdog_hostLine (task : Nat) (s : State) : hostLine (applyWatchdog task s) = hostLine s := by
  simp [applyWatchdog]

@[simp] theorem watchdogNow_hostLine (s : State) : hostLine (watchdogNow s) = hostLine s := by
  unfold watchdogNow
  repeat' split
  all_goals simp

@[simp] theorem writeRetain_hostLine (s : State) : hostLine (writeRetain s) = hostLine s := by
  simp [writeRetain]

@[simp] theorem loadRetain_hostLine (s : State) : hostLine (loadRetain s) = hostLine s :=
  hostLine_of_only (loadRetain_only _) (by decide) (by decide)

@[simp] theorem peekWrite_hostLine (v : Nat) (s : State) : hostLine (peekWrite v s).1 = hostLine s := by
  simp [peekWrite]

@[simp] theorem brkWrite_hostLine (v : Nat) (s : State) : hostLine (brkWrite v s).1 = hostLine s := by
  simp [brkWrite]

end Sys2Proof.Machine
end

section
/-! PROOFS. What leaves HIRQ_N and the packets pending as they are (R582): the process channels, the protection elements and
the delay entries. -/

namespace Sys2Proof.Machine
open Sys2Proof

@[simp] theorem monValue_hostLine (m : Nat) (v : Int) (spareLow : Bool) (s : State) :
    hostLine (monValue m v spareLow s) = hostLine s :=
  hostLine_of_only (monValue_only _ _ _ _) (by decide) (by decide)

@[simp] theorem updChan_hostLine (n : Nat) (f : ProcChan → ProcChan) (s : State) : hostLine (updChan n f s) = hostLine s :=
  hostLine_of_only (updChan_only _ _ _) (by decide) (by decide)

@[simp] theorem updEntry_hostLine (e : Nat) (f : SeqEntry → SeqEntry) (s : State) : hostLine (updEntry e f s) = hostLine s :=
  hostLine_of_only (updEntry_only _ _ _) (by decide) (by decide)

@[simp] theorem putProcWords_hostLine (n : Nat) (y : Word) (s : State) : hostLine (putProcWords n y s) = hostLine s := by
  simp [putProcWords]

@[simp] theorem refreshQual_hostLine (n : Nat) (s : State) : hostLine (refreshQual n s) = hostLine s := by
  simp [refreshQual]

@[simp] theorem refreshAll_hostLine (s : State) : hostLine (refreshAll s) = hostLine s := by
  simp [refreshAll]

@[simp] theorem passEnd_hostLine (n : Nat) (sum : Int) (cnt : Nat) (ovr : Bool) (s : State) :
    hostLine (passEnd n sum cnt ovr s) = hostLine s := by
  simp [passEnd]

@[simp] theorem beginEntry_hostLine (e : Nat) (s : State) : hostLine (beginEntry e s) = hostLine s :=
  hostLine_of_only (beginEntry_only _ _) (by decide) (by decide)

@[simp] theorem startPass_hostLine (s : State) : hostLine (startPass s) = hostLine s :=
  hostLine_of_only (startPass_only _) (by decide) (by decide)

@[simp] theorem endPass_hostLine (s : State) : hostLine (endPass s) = hostLine s :=
  hostLine_of_only (endPass_only _) (by decide) (by decide)

@[simp] theorem takeUrgent_hostLine (s : State) : hostLine (takeUrgent s) = hostLine s :=
  hostLine_of_only (takeUrgent_only _) (by decide) (by decide)

theorem resultKept_hostLine (code : Int) (ovr : Bool) (k : SeqCfg) (s : State) :
    hostLine (resultKept code ovr k s) = hostLine s := by
  unfold resultKept
  split <;> rfl

theorem entryEnds_hostLine (e : Nat) (k : SeqCfg) (s : State) : hostLine (entryEnds e k s) = hostLine s := by
  unfold entryEnds
  dsimp only
  split
  · split <;> simp
  · rfl

@[simp] theorem keepResult_hostLine (code : Int) (ovr : Bool) (k : SeqCfg) (s : State) :
    hostLine (keepResult code ovr k s) = hostLine s := by
  rw [keepResult_eq, entryEnds_hostLine, resultKept_hostLine]

@[simp] theorem seqPassStart_hostLine (s : State) : hostLine (seqPassStart s) = hostLine s := by
  simp [seqPassStart]

@[simp] theorem procAdopt_hostLine (i d : Nat) (s : State) : hostLine (procAdopt i d s) = hostLine s := by
  simp [procAdopt]

@[simp] theorem processDownstream_hostLine (release start : Bool) (i d : Nat) (s : State) :
    hostLine (processDownstream release start i d s) = hostLine s := by
  unfold processDownstream
  dsimp only
  repeat' split
  all_goals simp

@[simp] theorem processFrameStart_hostLine (arrives : Bool) (s : State) :
    hostLine (processFrameStart arrives s) = hostLine s := by
  simp [processFrameStart]

@[simp] theorem processSideSafe_hostLine (s : State) : hostLine (processSideSafe s) = hostLine s := by
  simp [processSideSafe]

@[simp] theorem chanFrame_hostLine (n rb st : Nat) (s : State) : hostLine (chanFrame n rb st s) = hostLine s := by
  simp [chanFrame]

@[simp] theorem putReadback_hostLine (n : Nat) (s : State) : hostLine (putReadback n s) = hostLine s := by
  simp [putReadback]

@[simp] theorem adoptMode_hostLine (n : Nat) (s : State) : hostLine (adoptMode n s) = hostLine s := by
  unfold adoptMode
  dsimp only
  split <;> simp

@[simp] theorem upcReadbackMismatch_hostLine (n : Nat) (s : State) : hostLine (upcReadbackMismatch n s) = hostLine s := by
  simp [upcReadbackMismatch]

@[simp] theorem readbackMismatchClear_hostLine (n : Nat) (s : State) : hostLine (readbackMismatchClear n s) = hostLine s := by
  simp [readbackMismatchClear]

@[simp] theorem outputStartupTest_hostLine (n rb mv : Nat) (s : State) :
    hostLine (outputStartupTest n rb mv s) = hostLine s := by
  simp [outputStartupTest]

@[simp] theorem upcCompliance_hostLine (n : Nat) (s : State) : hostLine (upcCompliance n s) = hostLine s := by
  simp [upcCompliance]

@[simp] theorem upcOpenLoop_hostLine (n : Nat) (s : State) : hostLine (upcOpenLoop n s) = hostLine s := by
  simp [upcOpenLoop]

@[simp] theorem upcSignalRange_hostLine (n : Nat) (s : State) : hostLine (upcSignalRange n s) = hostLine s := by
  simp [upcSignalRange]

@[simp] theorem tcTest_hostLine (n : Nat) (high : Bool) (s : State) : hostLine (tcTest n high s) = hostLine s := by
  simp [tcTest]

@[simp] theorem upcDiagCleared_hostLine (det n : Nat) (s : State) : hostLine (upcDiagCleared det n s) = hostLine s := by
  simp [upcDiagCleared]

@[simp] theorem writeChMode_hostLine (n v : Nat) (s : State) : hostLine (writeChMode n v s).1 = hostLine s := by
  unfold writeChMode
  dsimp only
  repeat' split
  all_goals simp

@[simp] theorem restartPasses_hostLine (s : State) : hostLine (restartPasses s) = hostLine s :=
  hostLine_of_only (restartPasses_only _) (by decide) (by decide)

@[simp] theorem loadProcess_hostLine (s : State) : hostLine (loadProcess s) = hostLine s :=
  hostLine_of_only (loadProcess_only _) (by decide) (by decide)

@[simp] theorem nodeSelWrite_hostLine (v : Nat) (s : State) : hostLine (nodeSelWrite v s).1 = hostLine s := by
  simp [nodeSelWrite]

@[simp] theorem putElem_hostLine (e : Elem) (s : State) : hostLine (putElem e s) = hostLine s :=
  hostLine_of_only (putElem_only _ _) (by decide) (by decide)

@[simp] theorem opEnergy_hostLine (s : State) (i : Inst) (n : Node) : hostLine (opEnergy s i n).2 = hostLine s := by
  simp [opEnergy]

@[simp] theorem trackEvents_hostLine (e : Elem) (src : Nat) (hold clampNow : Bool) (term : Nat) (s : State) :
    hostLine (trackEvents e src hold clampNow term s) = hostLine s := by
  simp [trackEvents]

@[simp] theorem opTracker_hostLine (s : State) (i : Inst) (n : Node) : hostLine (opTracker s i n).2 = hostLine s := by
  have phased : ∀ term x t, hostLine (setPhase term x t) = hostLine t := fun term x t => by simp [setPhase]
  have told : ∀ e src hold clamp term t, hostLine (trackEvents e src hold clamp term t) = hostLine t :=
    fun e src hold clamp term t => by simp [trackEvents]
  dsimp only [opTracker]
  rw [phased, putElem_hostLine, told]

@[simp] theorem trackExpire_hostLine (e : Elem) (tick : Nat) (s : State) : hostLine (trackExpire e tick s) = hostLine s := by
  simp [trackExpire]

@[simp] theorem elemEvent_hostLine (code value : Nat) (part : List Byte) (s : State) :
    hostLine (elemEvent code value part s) = hostLine s := by
  simp [elemEvent]

@[simp] theorem elemReset_hostLine (n : Node) (e : Elem) (s : State) : hostLine (elemReset n e s) = hostLine s :=
  hostLine_of_only (elemReset_only _ _ _) (by decide) (by decide)

theorem insertDelay_hostLine {n : Node} {i : Inst} {tag at_ delay : Nat} {s t : State}
    (h : insertDelay n i tag at_ delay s = some t) : hostLine t = hostLine s := by
  unfold insertDelay at h
  dsimp only at h
  split at h
  · cases h
  · cases h
    rfl

theorem EC.ite_hostLine (c : Prop) [Decidable c] (a b : EC) :
    hostLine (if c then a else b).s = if c then hostLine a.s else hostLine b.s := by
  split <;> rfl

theorem EC.start_hostLine (c : EC) (n : Node) (i : Inst) (k delay : Nat) : hostLine (c.start n i k delay).s = hostLine c.s := by
  unfold EC.start
  split
  · rfl
  split
  · rfl
  split
  · simp
  · next inserted => exact insertDelay_hostLine inserted

theorem EC.stop_hostLine (c : EC) (k : Nat) : hostLine (c.stop k).s = hostLine c.s := congrArg hostLine (c.stop_s k)

theorem EC.set_hostLine (c : EC) (f : Elem → Elem) : hostLine (c.set f).s = hostLine c.s := congrArg hostLine (c.set_s f)

theorem EC.keep_hostLine (c : EC) (xs : List Int) : hostLine (c.keep xs).s = hostLine c.s := c.set_hostLine _

theorem EC.run_hostLine (c : EC) (n : Node) (i : Inst) (k delay : Nat) (b : Bool) :
    hostLine (c.run n i k delay b).s = hostLine c.s := by
  simp only [EC.run, EC.ite_hostLine, EC.start_hostLine, EC.stop_hostLine, ite_self]

/-- Every family writes its context and starts or stops timers. -/
@[simp] theorem famRun_hostLine (i : Inst) (n : Node) (blk : Bool) (qs : List (BitVec 8)) (c : EC) :
    hostLine (famRun i n blk qs c).c.s = hostLine c.s := by
  unfold famRun
  split
  case h_2 => exact congrArg hostLine (directional_s i n blk c)
  case h_12 =>
    unfold twDirectional
    dsimp only
    repeat' split
    all_goals rfl
  case h_4 => rfl
  case h_6 => rfl
  all_goals
    simp only [overcurrent, voltage, frequency, synchrocheck, breakerFailure, switchOntoFault, distance, swingBlock, EC.ite_hostLine,
      EC.start_hostLine, EC.stop_hostLine, EC.set_hostLine, EC.keep_hostLine, EC.run_hostLine, ite_self]

@[simp] theorem elemJudge_hostLine (i : Inst) (n : Node) (qs : List (BitVec 8)) (e : Elem) (s : State) :
    hostLine (elemJudge i n qs e s).2 = hostLine s := by
  simp [elemJudge]

@[simp] theorem opElement_hostLine (s : State) (i : Inst) (n : Node) : hostLine (opElement s i n).2 = hostLine s := by
  unfold opElement
  dsimp only
  repeat' split
  all_goals simp

@[simp] theorem putJob_hostLine (set : Nat) (req : Option Req) (input : List Byte) (wave skips : Nat) (s : State) :
    hostLine (putJob set req input wave skips s) = hostLine s := by
  simp [putJob]

@[simp] theorem stalledJoin_hostLine (s : State) : hostLine (stalledJoin s) = hostLine s :=
  hostLine_of_only (stalledJoin_only _) (by decide) (by decide)

@[simp] theorem tripLocate_hostLine (t1 : Nat) (s : State) : hostLine (tripLocate t1 s) = hostLine s := by
  simp [tripLocate]

@[simp] theorem rowTell_hostLine (t1 : Nat) (old new : Row) (s : State) : hostLine (rowTell t1 old new s) = hostLine s := by
  simp [rowTell]

@[simp] theorem tripRelease_hostLine (i : Inst) (t1 : Nat) (s : State) : hostLine (tripRelease i t1 s) = hostLine s := by
  simp [tripRelease]

@[simp] theorem tripHeld_hostLine (s : State) : hostLine (tripHeld s) = hostLine s := by
  simp [tripHeld]

@[simp] theorem loadRows_hostLine (old : Nat → RowCfg) (same : Nat → Bool) (s : State) :
    hostLine (loadRows old same s) = hostLine s :=
  hostLine_of_only (loadRows_only _ _ _) (by decide) (by decide)

end Sys2Proof.Machine
end

section
/-! PROOFS. What leaves HIRQ_N and the packets pending as they are (R582): the network streams and ports, the event recorder
and the sessions. -/

namespace Sys2Proof.Machine
open Sys2Proof

@[simp] theorem goSend_hostLine (x : GoosePub) (s : State) : hostLine (goSend x s) = hostLine s :=
  hostLine_of_only (goSend_only _ _) (by decide) (by decide)

@[simp] theorem putPub_hostLine (x : GoosePub) (s : State) : hostLine (putPub x s) = hostLine s := by
  simp [putPub]

@[simp] theorem goChange_hostLine (p : Nat) (vals : List (Nat × Nat)) (t1 : Nat) (s : State) :
    hostLine (goChange p vals t1 s) = hostLine s :=
  hostLine_of_only (goChange_only _ _ _ _) (by decide) (by decide)

@[simp] theorem publishAll_hostLine (t1 : Nat) (s : State) : hostLine (publishAll t1 s) = hostLine s := by
  simp [publishAll]

@[simp] theorem putSub_hostLine (x : GooseSub) (s : State) : hostLine (putSub x s) = hostLine s :=
  hostLine_of_only (putSub_only _ _) (by decide) (by decide)

@[simp] theorem writeN_hostLine (t1 : Nat) (w : Bool × Nat × Nat × Nat) (s : State) :
    hostLine (writeN t1 w s) = hostLine s :=
  hostLine_of_only (writeN_only _ _ _) (by decide) (by decide)

@[simp] theorem applyWrites_hostLine (p : GoosePend) (s : State) : hostLine (applyWrites p s) = hostLine s := by
  simp [applyWrites]

@[simp] theorem goAccept_hostLine (k st sq ttl : Nat) (s : State) : hostLine (goAccept k st sq ttl s) = hostLine s :=
  hostLine_of_only (goAccept_only _ _ _ _ _) (by decide) (by decide)

@[simp] theorem goosePump_hostLine (wave : Nat) (s : State) : hostLine (goosePump wave s) = hostLine s := by
  simp [goosePump]

@[simp] theorem goAgreed_hostLine (vals : List Nat) (s : State) : hostLine (goAgreed vals s) = hostLine s := by
  unfold goAgreed
  split <;> simp

@[simp] theorem publishSv_hostLine (k : Nat) (i : Inst) (vals : List OutVal) (s : State) :
    hostLine (publishSv k i vals s) = hostLine s := by
  unfold publishSv
  split <;> simp

@[simp] theorem updPmu_hostLine (k : Nat) (f : Pmu → Pmu) (s : State) : hostLine (updPmu k f s) = hostLine s :=
  hostLine_of_only (updPmu_only _ _ _) (by decide) (by decide)

@[simp] theorem useLaunched_hostLine (s : State) : hostLine (useLaunched s) = hostLine s := by
  unfold useLaunched
  refine hostLine_foldl _ _ _ fun s _ => ?_
  split <;> simp

@[simp] theorem publishPmu_hostLine (k : Nat) (i : Inst) (vals : List OutVal) (s : State) :
    hostLine (publishPmu k i vals s) = hostLine s := by
  simp [publishPmu]

@[simp] theorem applyPmu_hostLine (op k ip : Nat) (s : State) : hostLine (applyPmu op k ip s) = hostLine s := by
  simp [applyPmu]

@[simp] theorem pmuCommand_hostLine (op idcode ip : Nat) (good : Bool) (s : State) :
    hostLine (pmuCommand op idcode ip good s) = hostLine s := by
  unfold pmuCommand
  repeat' split
  all_goals simp

@[simp] theorem hsrForward_hostLine (f : NetFrame) (s : State) : hostLine (hsrForward f s) = hostLine s :=
  hostLine_of_only (hsrForward_only _ _) (by decide) (by decide)

@[simp] theorem ageDup_hostLine (s : State) : hostLine (ageDup s) = hostLine s := by
  simp [ageDup]

@[simp] theorem arpSend_hostLine (op ip : Nat) (s : State) : hostLine (arpSend op ip s) = hostLine s :=
  hostLine_of_only (arpSend_only _ _ _) (by decide) (by decide)

@[simp] theorem arpPut_hostLine (ip mac : Nat) (s : State) : hostLine (arpPut ip mac s) = hostLine s :=
  hostLine_of_only (arpPut_only _ _ _) (by decide) (by decide)

@[simp] theorem laneLoss_hostLine (cause port : Nat) (s : State) : hostLine (laneLoss cause port s) = hostLine s :=
  hostLine_of_only (laneLoss_only _ _ _) (by decide) (by decide)

@[simp] theorem commitTrigger_hostLine (s : State) : hostLine (commitTrigger s) = hostLine s := by
  simp [commitTrigger]

@[simp] theorem thaw_hostLine (cause : Nat) (s : State) : hostLine (thaw cause s) = hostLine s := by
  simp [thaw]

@[simp] theorem putBucket_hostLine (b : Bucket) (depth : Nat) (s : State) : hostLine (putBucket b depth s) = hostLine s := by
  simp [putBucket]

@[simp] theorem binsClear_hostLine (d0 : Option Nat) (t1 : Nat) (s : State) : hostLine (binsClear d0 t1 s) = hostLine s := by
  simp [binsClear]

@[simp] theorem recEvent_hostLine (e : Event) (s : State) : hostLine (recEvent e s) = hostLine s := by
  unfold recEvent
  split <;> simp

@[simp] theorem commitPage_hostLine (n : Nat) (s : State) : hostLine (commitPage n s) = hostLine s :=
  hostLine_of_only (commitPage_only _ _) (by decide) (by decide)

@[simp] theorem commitAll_hostLine (s : State) : hostLine (commitAll s) = hostLine s :=
  hostLine_of_only (commitAll_only _) (by decide) (by decide)

@[simp] theorem endInjs_hostLine (cause : Nat) (p : Inj → Bool) (s : State) : hostLine (endInjs cause p s) = hostLine s := by
  simp [endInjs]

@[simp] theorem dropStaging_hostLine (s : State) : hostLine (dropStaging s) = hostLine s := by
  simp [dropStaging]

@[simp] theorem closeSession_hostLine (num : Nat) (s : State) : hostLine (closeSession num s) = hostLine s := by
  unfold closeSession
  dsimp only
  repeat' split
  all_goals simp

@[simp] theorem connEnd_hostLine (conn : Nat) (s : State) : hostLine (connEnd conn s) = hostLine s := by
  unfold connEnd
  split <;> simp

@[simp] theorem vmeasWrite_hostLine (v : Nat) (s : State) : hostLine (vmeasWrite v s).1 = hostLine s := by
  simp [vmeasWrite]

@[simp] theorem writeWord_hostLine (a v : Nat) (s : State) : hostLine (writeWord a v s).1 = hostLine s := by
  unfold writeWord
  repeat' split
  all_goals simp

@[simp] theorem updSession_hostLine (num : Nat) (f : Session → Session) (s : State) :
    hostLine (updSession num f s) = hostLine s := by
  simp [updSession]

end Sys2Proof.Machine
end

section
/-! PROOFS. What leaves HIRQ_N and the packets pending as they are (R582): the graph scheduler. -/

namespace Sys2Proof.Machine
open Sys2Proof

@[simp] theorem updInst_hostLine (node : Nat) (key : Key) (f : Inst → Inst) (s : State) :
    hostLine (updInst node key f s) = hostLine s :=
  hostLine_of_only (updInst_only _ _ _ _) (by decide) (by decide)

@[simp] theorem setReady_hostLine (b : Nat) (l : List (Nat × Key)) (s : State) : hostLine (setReady b l s) = hostLine s := by
  simp [setReady]

@[simp] theorem moveTo_hostLine (n : Node) (c : Nat) (s : State) : hostLine (moveTo n c s) = hostLine s := by
  simp [moveTo]

@[simp] theorem startCore_hostLine (c : Nat) (s : State) : hostLine (startCore c s) = hostLine s := by
  simp [startCore]

@[simp] theorem assign_hostLine (n : Node) (i : Inst) (c : Nat) (s : State) : hostLine (assign n i c s) = hostLine s := by
  simp [assign]

@[simp] theorem displace_hostLine (c : Nat) (s : State) : hostLine (displace c s) = hostLine s := by
  unfold displace
  split <;> simp

@[simp] theorem countWait_hostLine (s : State) : hostLine (countWait s) = hostLine s := by
  simp [countWait]

theorem dispatchOne_hostLine (s t : State) (f b : Nat) (o : List Nat) (h : dispatchOne s f b o = some t) :
    hostLine t = hostLine s := by
  induction f generalizing b o with
  | zero => cases h
  | succ f ih =>
    rw [dispatchOne] at h
    split at h
    · exact ih _ _ h
    · split at h
      · cases h
        simp
      · dsimp only at h
        split at h
        · exact ih _ _ h
        · split at h
          · cases h
            simp
          · exact ih _ _ h

@[simp] theorem dispatchAll_hostLine (fuel : Nat) (s : State) : hostLine (dispatchAll fuel s) = hostLine s := by
  induction fuel generalizing s with
  | zero => rfl
  | succ fuel ih =>
    rw [dispatchAll]
    split
    · next placed => rw [ih, dispatchOne_hostLine _ _ _ _ _ placed]
    · simp

@[simp] theorem arrive_hostLine (i : Inst) (void : Bool) (s : State) (e : Edge) :
    hostLine (arrive i void s e) = hostLine s := by
  simp [arrive]

@[simp] theorem nextStateful_hostLine (n : Node) (key : Key) (s : State) : hostLine (nextStateful n key s) = hostLine s :=
  hostLine_of_only (nextStateful_only _ _ _) (by decide) (by decide)

@[simp] theorem retireVoid_hostLine (i : Inst) (s : State) : hostLine (retireVoid i s) = hostLine s :=
  hostLine_of_only (retireVoid_only _ _) (by decide) (by decide)

@[simp] theorem becomeReady_hostLine (s : State) (i : Inst) : hostLine (becomeReady s i) = hostLine s := by
  simp [becomeReady]

@[simp] theorem readyStep_hostLine (s : State) : hostLine (readyStep s) = hostLine s := by
  simp [readyStep]

@[simp] theorem releaseFlow_hostLine (s : State) (i : Inst) : hostLine (releaseFlow s i) = hostLine s := by
  unfold releaseFlow
  dsimp only
  split <;> simp

@[simp] theorem settle_hostLine (fuel : Nat) (s : State) : hostLine (settle fuel s) = hostLine s := by
  induction fuel generalizing s with
  | zero => rfl
  | succ fuel ih =>
    unfold settle
    dsimp only
    split
    · simp
    · rw [ih]
      simp

@[simp] theorem putOut_hostLine (n : Node) (rel wave t1 : Nat) (s : State) (o : OutVal) :
    hostLine (putOut n rel wave t1 s o) = hostLine s := by
  unfold putOut
  repeat' split
  all_goals simp

@[simp] theorem swapP_hostLine (t1 : Nat) (s : State) : hostLine (swapP t1 s) = hostLine s := by
  simp [swapP]

@[simp] theorem takeDigest_hostLine (wave : Nat) (outs : List OutVal) (s : State) :
    hostLine (takeDigest wave outs s) = hostLine s := by
  simp [takeDigest]

@[simp] theorem publishOuts_hostLine (n : Node) (i : Inst) (s : State) : hostLine (publishOuts n i s) = hostLine s := by
  unfold publishOuts
  repeat' split
  all_goals simp

@[simp] theorem releaseOuts_hostLine (wave t1 : Nat) (ref : Inst) (is : List Inst) (held : Bool) (s : State) :
    hostLine (releaseOuts wave t1 ref is held s) = hostLine s := by
  simp [releaseOuts]

@[simp] theorem releaseWave_hostLine (wave : Nat) (held : Bool) (s : State) :
    hostLine (releaseWave wave held s) = hostLine s := by
  simp [releaseWave]

@[simp] theorem releaseWaves_hostLine (fuel : Nat) (s : State) : hostLine (releaseWaves fuel s) = hostLine s := by
  induction fuel generalizing s with
  | zero => rfl
  | succ fuel ih =>
    rw [releaseWaves]
    split <;> simp [ih]

@[simp] theorem releaseDesc_hostLine (seq : Nat) (s : State) : hostLine (releaseDesc seq s) = hostLine s := by
  simp [releaseDesc]

@[simp] theorem releaseDescs_hostLine (fuel : Nat) (s : State) : hostLine (releaseDescs fuel s) = hostLine s := by
  induction fuel generalizing s with
  | zero => rfl
  | succ fuel ih =>
    rw [releaseDescs]
    split <;> simp [ih]

@[simp] theorem sweep_hostLine (s : State) : hostLine (sweep s) = hostLine s := by
  simp [sweep]

@[simp] theorem account_hostLine (n : Node) (cycles : Nat) (s : State) : hostLine (account n cycles s) = hostLine s :=
  hostLine_of_only (account_only _ _ _) (by decide) (by decide)

@[simp] theorem runOp_hostLine (n : Node) (i : Inst) (vals : List (Nat × Nat)) (bytes : List Byte) (s : State) :
    hostLine (runOp n i vals bytes s).2.2 = hostLine s := by
  unfold runOp
  dsimp only
  repeat' split
  all_goals simp

@[simp] theorem reload_hostLine (c : Nat) (s : State) (n : Node) : hostLine (reload c s n) = hostLine s := by
  unfold reload
  split <;> simp

@[simp] theorem recheck_hostLine (s : State) : hostLine (recheck s) = hostLine s := by
  simp [recheck]

@[simp] theorem removeCore_hostLine (c : Nat) (s : State) : hostLine (removeCore c s) = hostLine s := by
  simp [removeCore]

@[simp] theorem opFault_hostLine (cause node : Nat) (s : State) : hostLine (opFault cause node s) = hostLine s := by
  simp [opFault]

@[simp] theorem retireWith_hostLine (i : Inst) (outs : List OutVal) (bytes : List Byte) (mark : Nat) (s : State) :
    hostLine (retireWith i outs bytes mark s) = hostLine s := by
  simp [retireWith]

@[simp] theorem abort_hostLine (i : Inst) (s : State) : hostLine (abort i s) = hostLine s := by
  simp [abort]

@[simp] theorem complete_hostLine (n : Node) (i : Inst) (vals : List (Nat × Nat)) (bytes : List Byte) (s : State) :
    hostLine (complete n i vals bytes s) = hostLine s := by
  simp [complete]

@[simp] theorem cancelInst_hostLine (s : State) (i : Inst) : hostLine (cancelInst s i) = hostLine s :=
  hostLine_of_only (cancelInst_only _ _) (by decide) (by decide)

@[simp] theorem raiseEpochs_hostLine (ks : List Nat) (s : State) : hostLine (raiseEpochs ks s) = hostLine s :=
  hostLine_of_only (raiseEpochs_only _ _) (by decide) (by decide)

@[simp] theorem cancelNodes_hostLine (ks : List Nat) (s : State) : hostLine (cancelNodes ks s) = hostLine s :=
  hostLine_of_only (cancelNodes_only _ _) (by decide) (by decide)

@[simp] theorem cancelMissed_hostLine (key : Key) (ks : List Nat) (s : State) :
    hostLine (cancelMissed key ks s) = hostLine s := by
  simp [cancelMissed]

@[simp] theorem createInst_hostLine (key : Key) (among : List Nat) (desc : Option Desc) (wave instant : Nat) (n : Node)
    (s : State) :
    hostLine (createInst key among desc wave instant n s) = hostLine s := by
  simp [createInst]

@[simp] theorem createAll_hostLine (key : Key) (ns : List Node) (desc : Option Desc) (wave : Nat) (instant : Node → Nat)
    (s : State) :
    hostLine (createAll key ns desc wave instant s) = hostLine s := by
  simp [createAll]

@[simp] theorem noteResets_hostLine (old : SMap) (s : State) : hostLine (noteResets old s) = hostLine s := by
  simp [noteResets]

@[simp] theorem actResets_hostLine (s : State) : hostLine (actResets s) = hostLine s := by
  simp [actResets]

@[simp] theorem harmonicWindows_hostLine (wave : Nat) (s : State) : hostLine (harmonicWindows wave s) = hostLine s := by
  simp [harmonicWindows]

@[simp] theorem overrun_hostLine (band num oldest : Nat) (s : State) : hostLine (overrun band num oldest s) = hostLine s := by
  simp [overrun]

@[simp] theorem ownFiring_hostLine (w : Nat) (d : Delay) (s : State) : hostLine (ownFiring w d s) = hostLine s := by
  simp [ownFiring]

@[simp] theorem givenFiring_hostLine (wave : Nat) (s : State) (v : List Nat) :
    hostLine (givenFiring wave s v) = hostLine s := by
  unfold givenFiring
  dsimp only
  split <;> simp

@[simp] theorem agreedTokens_hostLine (wave : Nat) (s : State) : hostLine (agreedTokens wave s) = hostLine s := by
  simp [agreedTokens]

@[simp] theorem ownTokens_hostLine (s : State) : hostLine (ownTokens s) = hostLine s := by
  simp [ownTokens]

@[simp] theorem putSlot_hostLine (slot : Nat) (f : FwSlot) (s : State) : hostLine (putSlot slot f s) = hostLine s :=
  hostLine_of_only (putSlot_only _ _ _) (by decide) (by decide)

end Sys2Proof.Machine
end

section
/-! PROOFS. What leaves HIRQ_N and the packets pending as they are (R582): groups, images, the boot and the power supply,
the on-line change. -/

namespace Sys2Proof.Machine
open Sys2Proof

@[simp] theorem resetElements_hostLine (ns : List Node) (s : State) : hostLine (resetElements ns s) = hostLine s :=
  hostLine_of_only (resetElements_only _ _) (by decide) (by decide)

@[simp] theorem switchGroup_hostLine (g src session : Nat) (s : State) :
    hostLine (switchGroup g src session s) = hostLine s := by
  simp [switchGroup]

@[simp] theorem groupIgnored_hostLine (src g : Nat) (s : State) : hostLine (groupIgnored src g s) = hostLine s := by
  simp [groupIgnored]

@[simp] theorem dropHeld_hostLine (s : State) : hostLine (dropHeld s) = hostLine s := by
  unfold dropHeld
  split <;> simp

@[simp] theorem groupReads_hostLine (s : State) : hostLine (groupReads s).2.2 = hostLine s := by
  simp [groupReads]

@[simp] theorem heldGroupWave_hostLine (s : State) : hostLine (heldGroupWave s) = hostLine s := by
  unfold heldGroupWave
  split <;> simp

@[simp] theorem startGroup_hostLine (s : State) : hostLine (startGroup s) = hostLine s := by
  simp [startGroup]

@[simp] theorem launchesChange_hostLine (b : List Param) (s : State) : hostLine (launchesChange b s) = hostLine s :=
  hostLine_of_only (launchesChange_only _ _) (by decide) (by decide)

@[simp] theorem channelsChange_hostLine (old : List ChanEntry) (s : State) : hostLine (channelsChange old s) = hostLine s :=
  hostLine_of_only (channelsChange_only _ _) (by decide) (by decide)

@[simp] theorem figuresRestart_hostLine (s : State) : hostLine (figuresRestart s) = hostLine s :=
  hostLine_of_only (figuresRestart_only _) (by decide) (by decide)

@[simp] theorem groupAfter_hostLine (s : State) : hostLine (groupAfter s) = hostLine s := by
  simp [groupAfter]

@[simp] theorem slicesOut_hostLine (bad : List Nat) (s : State) : hostLine (slicesOut bad s) = hostLine s :=
  hostLine_of_only (slicesOut_only _ _) (by decide) (by decide)

@[simp] theorem loadLogic_hostLine (s : State) : hostLine (loadLogic s) = hostLine s :=
  hostLine_of_only (loadLogic_only _) (by decide) (by decide)

@[simp] theorem loadUnits_hostLine (old : List ChanEntry) (s : State) : hostLine (loadUnits old s) = hostLine s :=
  hostLine_of_only (loadUnits_only _ _) (by decide) (by decide)

@[simp] theorem sendHello_hostLine (s : State) : hostLine (sendHello s) = hostLine s :=
  hostLine_of_only (sendHello_only _) (by decide) (by decide)

@[simp] theorem runProtection_hostLine (s : State) : hostLine (runProtection s) = hostLine s := by
  simp [runProtection]

@[simp] theorem outputsOff_hostLine (s : State) : hostLine (outputsOff s) = hostLine s := by
  simp [outputsOff]

@[simp] theorem structuralOff_hostLine (s : State) : hostLine (structuralOff s) = hostLine s := by
  simp [structuralOff]

@[simp] theorem drainAll_hostLine (s : State) : hostLine (drainAll s) = hostLine s :=
  hostLine_of_only (drainAll_only _) (by decide) (by decide)

@[simp] theorem recover_hostLine (last : Nat) (s : State) : hostLine (recover last s) = hostLine s := by
  simp [recover]

@[simp] theorem vmainRises_hostLine (s : State) : hostLine (vmainRises s) = hostLine s := by
  simp [vmainRises]

@[simp] theorem pfailRises_hostLine (s : State) : hostLine (pfailRises s) = hostLine s := by
  simp [pfailRises]

@[simp] theorem holdupMeasured_hostLine (cap esr us : Nat) (s : State) :
    hostLine (holdupMeasured cap esr us s) = hostLine s :=
  (hostLine_of_only (holdupMeasured_only cap esr us s) (by decide) (by decide)).trans rfl

@[simp] theorem stageImage_hostLine (ws : List (Nat × List Byte)) (len : Nat) (s : State) :
    hostLine (stageImage ws len s) = hostLine s :=
  hostLine_of_only (stageImage_only _ _ _) (by decide) (by decide)

@[simp] theorem sendImage_hostLine (s : State) : hostLine (sendImage s) = hostLine s := by
  simp [sendImage]

@[simp] theorem beginCommit_hostLine (commit : Bool) (s : State) : hostLine (beginCommit commit s) = hostLine s :=
  hostLine_of_only (beginCommit_only _ _) (by decide) (by decide)

@[simp] theorem awaitChange_hostLine (c : Change) (s : State) : hostLine (awaitChange c s) = hostLine s := by
  simp [awaitChange]

@[simp] theorem pmuChanged_hostLine (old : List Param) (s : State) : hostLine (pmuChanged old s) = hostLine s := by
  simp [pmuChanged]

@[simp] theorem migrate_hostLine (old new : LogicSec) (s : State) : hostLine (migrate old new s) = hostLine s :=
  hostLine_of_only (migrate_only _ _ _) (by decide) (by decide)

@[simp] theorem changeSection_hostLine (u : Image) (s : State) : hostLine (changeSection u s) = hostLine s := by
  unfold changeSection
  split <;> simp

@[simp] theorem changeover_hostLine (c : Change) (w : Nat) (s : State) : hostLine (changeover c w s) = hostLine s := by
  unfold changeover
  split <;> simp

/-- Every instruction leaves the line and the packets. -/
theorem instrFn_hostLine (op sp a : Nat) (t : Task) (s : State) : hostLine (instrFn op sp a t s).2 = hostLine s := by
  unfold instrFn
  split <;> simp [apply_ite Prod.snd, fnLd, fnLdn, fnAnd, fnAndn, fnOr, fnOrn, fnXor, fnXorn, fnNot, fnSetr, fnClrr, fnAndOpen, fnAndnOpen, fnOrOpen,
    fnOrnOpen, fnXorOpen, fnBracketClose, fnFp, fnFn, fnSt, fnStn, fnSet, fnRst, fnTon, fnTof, fnTp, fnTrst, fnTpv,
    fnCtu, fnCtd, fnCrst, fnCld, fnCpv, fnLw, fnSw, fnSwc, fnLdh, fnAdd, fnSub, fnMul, fnDiv, fnMod, fnNeg, fnAbs,
    fnWand, fnWor, fnWxor, fnWnot, fnShl, fnShr, fnSar, fnCeq, fnCne, fnClt, fnCle, fnCgt, fnCge, fnFadd, fnFsub,
    fnFmul, fnFdiv, fnFlt, fnFix, fnFclt, fnFcgt, fnFceq, fnJmp, fnJc, fnJnc, fnCall, fnRet, fnNop, fnEvt, fnLarm,
    fnLcan]

@[simp] theorem stepHeld_hostLine (s : State) : hostLine (stepHeld s) = hostLine s := by
  unfold stepHeld
  split
  · rfl
  split
  · rfl
  dsimp only
  split
  · simp
  · exact stepTask_hostLine _ _ _ _ _ (instrFn_hostLine _)

@[simp] theorem applyForceClear_hostLine (point session : Nat) (s : State) :
    hostLine (applyForceClear point session s) = hostLine s := by
  simp [applyForceClear]

@[simp] theorem fireAction_hostLine (e : LaunchEntry) (next : Nat) (s : State) :
    hostLine (fireAction e next s) = hostLine s :=
  hostLine_of_only (fireAction_only _ _ _) (by decide) (by decide)

@[simp] theorem fireEntry_hostLine (e : LaunchEntry) (s : State) : hostLine (fireEntry e s) = hostLine s := by
  simp [fireEntry]

end Sys2Proof.Machine
end

section
/-! PROOFS. What leaves HIRQ_N and the packets pending as they are (R582): the roles of the pair and what its cells carry.
-/

namespace Sys2Proof.Machine
open Sys2Proof

@[simp] theorem soloActive_hostLine (s : State) : hostLine (soloActive s) = hostLine s := by
  simp [soloActive]

@[simp] theorem yieldRole_hostLine (s : State) : hostLine (yieldRole s) = hostLine s := by
  simp [yieldRole]

@[simp] theorem enterCold_hostLine (s : State) : hostLine (enterCold s) = hostLine s := by
  simp [enterCold]

@[simp] theorem drillAbort_hostLine (s : State) : hostLine (drillAbort s) = hostLine s :=
  hostLine_of_only (drillAbort_only _) (by decide) (by decide)

@[simp] theorem resumeOwn_hostLine (s : State) : hostLine (resumeOwn s) = hostLine s :=
  hostLine_of_only (resumeOwn_only _) (by decide) (by decide)

@[simp] theorem failJoin_hostLine (cause : Nat) (s : State) : hostLine (failJoin cause s) = hostLine s := by
  simp [failJoin]

@[simp] theorem tryJoin_hostLine (s : State) : hostLine (tryJoin s) = hostLine s := by
  simp [tryJoin]

@[simp] theorem settleRoles_hostLine (s : State) : hostLine (settleRoles s) = hostLine s := by
  simp [settleRoles]

@[simp] theorem partnerGone_hostLine (s : State) : hostLine (partnerGone s) = hostLine s :=
  hostLine_of_only (partnerGone_only _) (by decide) (by decide)

@[simp] theorem takeoverSolo_hostLine (cause : Nat) (s : State) : hostLine (takeoverSolo cause s) = hostLine s := by
  simp [takeoverSolo]

@[simp] theorem partnerLost_hostLine (s : State) : hostLine (partnerLost s) = hostLine s := by
  simp [partnerLost]

@[simp] theorem standAlone_hostLine (s : State) : hostLine (standAlone s) = hostLine s := by
  simp [standAlone]

@[simp] theorem failureSeen_hostLine (s : State) : hostLine (failureSeen s) = hostLine s := by
  simp [failureSeen]

@[simp] theorem onPaths_hostLine (s : State) : hostLine (onPaths s) = hostLine s := by
  unfold onPaths
  repeat' split
  all_goals simp

@[simp] theorem laneGood_hostLine (lane : Nat) (s : State) : hostLine (laneGood lane s) = hostLine s :=
  hostLine_of_only (laneGood_only _ _) (by decide) (by decide)

@[simp] theorem noteBindDiff_hostLine (s : State) : hostLine (noteBindDiff s) = hostLine s :=
  hostLine_of_only (noteBindDiff_only _) (by decide) (by decide)

@[simp] theorem leavePair_hostLine (s : State) : hostLine (leavePair s) = hostLine s := by
  simp [leavePair]

@[simp] theorem finishDrill_hostLine (result detail upcFail : Nat) (s : State) :
    hostLine (finishDrill result detail upcFail s) = hostLine s := by
  simp [finishDrill]

@[simp] theorem afterHandover_hostLine (x : List Nat) (s : State) : hostLine (afterHandover x s) = hostLine s := by
  unfold afterHandover
  split <;> simp

@[simp] theorem performHandover_hostLine (s : State) : hostLine (performHandover s) = hostLine s := by
  unfold performHandover
  split <;> simp

@[simp] theorem handoverAt_hostLine (n : Nat) (s : State) : hostLine (handoverAt n s) = hostLine s := by
  simp [handoverAt]

@[simp] theorem drillReturn_hostLine (r : Nat × Nat × Nat) (s : State) : hostLine (drillReturn r s) = hostLine s := by
  simp [drillReturn]

@[simp] theorem resolveVerdict_hostLine (s : State) : hostLine (resolveVerdict s) = hostLine s := by
  simp [resolveVerdict]

@[simp] theorem partnerVerdict_hostLine (v : Nat) (s : State) : hostLine (partnerVerdict v s) = hostLine s := by
  simp [partnerVerdict]

@[simp] theorem takeHello_hostLine (serial : Nat) (est : Bool) (st : Nat) (active : Bool) (mark : List Byte) (s : State) :
    hostLine (takeHello serial est st active mark s) = hostLine s :=
  hostLine_of_only (takeHello_only _ _ _ _ _ _) (by decide) (by decide)

@[simp] theorem takeHeartbeat_hostLine (st : Nat) (active : Bool) (wave : Nat) (bind : Bool) (flags : Nat) (s : State) :
    hostLine (takeHeartbeat st active wave bind flags s) = hostLine s :=
  hostLine_of_only (takeHeartbeat_only _ _ _ _ _ _) (by decide) (by decide)

@[simp] theorem keepAgree_hostLine (kind wave : Nat) (vals : List Nat) (s : State) :
    hostLine (keepAgree kind wave vals s) = hostLine s := by
  simp [keepAgree]

@[simp] theorem processAgreed_hostLine (v : List Nat) (s : State) : hostLine (processAgreed v s) = hostLine s := by
  unfold processAgreed
  split <;> simp

@[simp] theorem firingAgreed_hostLine (v : List Nat) (s : State) : hostLine (firingAgreed v s) = hostLine s := by
  unfold firingAgreed
  repeat' split
  all_goals simp

@[simp] theorem overrunTold_hostLine (band num : Nat) (s : State) : hostLine (overrunTold band num s) = hostLine s := by
  simp [overrunTold]

@[simp] theorem imageConfirmed_hostLine (s : State) : hostLine (imageConfirmed s) = hostLine s := by
  unfold imageConfirmed
  repeat' split
  all_goals simp

@[simp] theorem joinAsked_hostLine (mig : Bool) (s : State) : hostLine (joinAsked mig s) = hostLine s := by
  simp [joinAsked]

@[simp] theorem crossDecided_hostLine (ch set_ : Nat) (s : State) : hostLine (crossDecided ch set_ s) = hostLine s := by
  simp [crossDecided]

@[simp] theorem activeTwin_hostLine (s : State) : hostLine (activeTwin s) = hostLine s := by
  simp [activeTwin]

@[simp] theorem imageCell_hostLine (total off : Nat) (bytes : List Byte) (s : State) :
    hostLine (imageCell total off bytes s) = hostLine s := by
  simp [imageCell]

@[simp] theorem pulseTaken_hostLine (code : Nat) (s : State) : hostLine (pulseTaken code s) = hostLine s := by
  simp [pulseTaken]

@[simp] theorem bindFell_hostLine (s : State) : hostLine (bindFell s) = hostLine s := by
  simp [bindFell]

@[simp] theorem bindRose_hostLine (s : State) : hostLine (bindRose s) = hostLine s := by
  simp [bindRose]

@[simp] theorem loadSnapGraph_hostLine (p : Snap) (s : State) : hostLine (loadSnapGraph p s) = hostLine s := by
  simp [loadSnapGraph]

@[simp] theorem loadSnapLogic_hostLine (p : Snap) (s : State) : hostLine (loadSnapLogic p s) = hostLine s := by
  simp [loadSnapLogic]

@[simp] theorem loadSnapMigrate_hostLine (p : Snap) (s : State) : hostLine (loadSnapMigrate p s) = hostLine s := by
  unfold loadSnapMigrate
  dsimp only
  split <;> simp

@[simp] theorem pubsById_hostLine (ps : List GoosePub) (s : State) : hostLine (pubsById ps s) = hostLine s := by
  simp [pubsById]

@[simp] theorem diagBegin_hostLine (d n : Nat) (s : State) : hostLine (diagBegin d n s) = hostLine s := by
  unfold diagBegin
  repeat' split
  all_goals simp

end Sys2Proof.Machine
end

section
/-! PROOFS. What leaves HIRQ_N and the packets pending as they are (R582): travelling waves, rotation, sampled values and
the cross-checks of a wave. -/

namespace Sys2Proof.Machine
open Sys2Proof

@[simp] theorem updTw_hostLine (m : Nat) (f : TwStream → TwStream) (s : State) : hostLine (updTw m f s) = hostLine s :=
  hostLine_of_only (updTw_only _ _ _) (by decide) (by decide)

@[simp] theorem twBlock_hostLine (m rms : Nat) (s : State) : hostLine (twBlock m rms s) = hostLine s := by
  simp [twBlock]

@[simp] theorem recDesc_hostLine (d : Desc) (s : State) : hostLine (recDesc d s) = hostLine s := by
  simp [recDesc]

@[simp] theorem sendDesc_hostLine (d : Desc) (s : State) : hostLine (sendDesc d s) = hostLine s := by
  simp [sendDesc]

@[simp] theorem issueDesc_hostLine (d : Desc) (s : State) : hostLine (issueDesc d s).1 = hostLine s := by
  unfold issueDesc
  dsimp only
  repeat' split
  all_goals simp

@[simp] theorem putBurst_hostLine (t : Nat) (b : Option Burst) (s : State) : hostLine (putBurst t b s) = hostLine s :=
  hostLine_of_only (putBurst_only _ _ _) (by decide) (by decide)

@[simp] theorem openBurst_hostLine (s : State) (t time : Nat) : hostLine (openBurst s t time).2 = hostLine s := by
  simp [openBurst]

@[simp] theorem tellBurst_hostLine (t : Nat) (d : Desc) (s : State) : hostLine (tellBurst t d s) = hostLine s := by
  simp [tellBurst]

theorem hostLine_foldl_fst {α β : Type} (g : State × β → α → State × β) (l : List α) (s : State) (b : β)
    (h : ∀ p a, hostLine (g p a).1 = hostLine p.1) : hostLine (l.foldl g (s, b)).1 = hostLine s :=
  foldl_keeps (fun p : State × β => hostLine p.1) g l (s, b) h

@[simp] theorem closeWindow_hostLine (t : Nat) (s : State) : hostLine (closeWindow t s) = hostLine s := by
  unfold closeWindow
  split
  · rfl
  split
  · rfl
  dsimp only
  split <;> simp [hostLine_foldl_fst]

@[simp] theorem arrivalDesc_hostLine (m sec slot : Nat) (g : List Int) (cross : Nat) (sat : Bool) (vref : Int) (s : State) :
    hostLine (arrivalDesc m sec slot g cross sat vref s).2 = hostLine s :=
  hostLine_of_only (arrivalDesc_only _ _ _ _ _ _ _ _) (by decide) (by decide)

@[simp] theorem supReading_hostLine (t : Nat) (dv di : List Int) (s : State) :
    hostLine (supReading t dv di s).2.2 = hostLine s := by
  unfold supReading
  dsimp only
  split <;> simp

@[simp] theorem assembleMsgs_hostLine (b : Burst) (s : State) : hostLine (assembleMsgs b s) = hostLine s := by
  unfold assembleMsgs
  split <;> simp

@[simp] theorem holdMsg_hostLine (k : Nat × Nat × Nat × Nat) (lead : Option Desc) (s : State) :
    hostLine (holdMsg k lead s) = hostLine s := by
  simp [holdMsg]

@[simp] theorem msgAgreed_hostLine (v : List Nat) (s : State) : hostLine (msgAgreed v s) = hostLine s := by
  simp [msgAgreed]

@[simp] theorem burstClosed_hostLine (b : Burst) (s : State) : hostLine (burstClosed b s) = hostLine s := by
  simp [burstClosed]

@[simp] theorem endBurst_hostLine (b : Burst) (s : State) : hostLine (endBurst b s) = hostLine s := by
  simp [endBurst]

@[simp] theorem arriveBurst_hostLine (d : Desc) (s : State) : hostLine (arriveBurst d s) = hostLine s := by
  unfold arriveBurst
  dsimp only
  repeat' split
  all_goals simp

@[simp] theorem followDesc_hostLine (d : Desc) (s : State) : hostLine (followDesc d s) = hostLine s := by
  unfold followDesc
  dsimp only
  repeat' split
  all_goals simp

@[simp] theorem crossDescs_hostLine (s : State) : hostLine (crossDescs s) = hostLine s := by
  simp [crossDescs]

@[simp] theorem takeEstimates_hostLine (s : State) : hostLine (takeEstimates s) = hostLine s := by
  simp [takeEstimates]

@[simp] theorem attachLoc_hostLine (b : Burst) (dist method : Nat) (s : State) :
    hostLine (attachLoc b dist method s) = hostLine s := by
  simp [attachLoc]

@[simp] theorem located_hostLine (b : Burst) (method : Nat) (deg : Bool) (mm : Int) (remote : Option Desc) (s : State) :
    hostLine (located b method deg mm remote s) = hostLine s := by
  unfold located
  dsimp only
  split <;> simp

@[simp] theorem locFailed_hostLine (cause : Nat) (s : State) : hostLine (locFailed cause s) = hostLine s := by
  simp [locFailed]

@[simp] theorem locByImpedance_hostLine (b : Burst) (s : State) : hostLine (locByImpedance b s) = hostLine s := by
  unfold locByImpedance
  repeat' split
  all_goals simp

@[simp] theorem locate_hostLine (b : Burst) (s : State) : hostLine (locate b s) = hostLine s := by
  unfold locate
  repeat' split
  all_goals simp

@[simp] theorem measureVel_hostLine (b : Burst) (s : State) : hostLine (measureVel b s) = hostLine s := by
  simp [measureVel]

@[simp] theorem noteSwap_hostLine (input : Nat) (s : State) : hostLine (noteSwap input s) = hostLine s := by
  simp [noteSwap]

@[simp] theorem serveBy_hostLine (input slice : Nat) (s : State) : hostLine (serveBy input slice s) = hostLine s := by
  simp [serveBy]

@[simp] theorem resolveMark_hostLine (input : Nat) (on : Bool) (s : State) :
    hostLine (resolveMark input on s) = hostLine s :=
  hostLine_of_only (resolveMark_only _ _ _) (by decide) (by decide)

@[simp] theorem removeSlice_hostLine (k : Nat) (s : State) : hostLine (removeSlice k s) = hostLine s :=
  hostLine_of_only (removeSlice_only _ _) (by decide) (by decide)

@[simp] theorem rotWave_hostLine (idx : Nat) (s : State) : hostLine (rotWave idx s) = hostLine s := by
  simp [rotWave]

@[simp] theorem mismatchEnd_hostLine (outcome removed serving : Nat) (s : State) :
    hostLine (mismatchEnd outcome removed serving s) = hostLine s :=
  hostLine_of_only (mismatchEnd_only _ _ _ _) (by decide) (by decide)

@[simp] theorem updSv_hostLine (v : Nat) (f : SvStream → SvStream) (s : State) : hostLine (updSv v f s) = hostLine s :=
  hostLine_of_only (updSv_only _ _ _) (by decide) (by decide)

@[simp] theorem settleSv_hostLine (v k : Nat) (s : State) : hostLine (settleSv v k s) = hostLine s := by
  simp [settleSv]

@[simp] theorem svLost_hostLine (v : Nat) (s : State) : hostLine (svLost v s) = hostLine s :=
  hostLine_of_only (svLost_only _ _) (by decide) (by decide)

@[simp] theorem svTake_hostLine (v : Nat) (f : SvFrame) (s : State) : hostLine (svTake v f s) = hostLine s := by
  simp [svTake]

@[simp] theorem svWave_hostLine (late : Nat → Bool) (s : State) : hostLine (svWave late s) = hostLine s := by
  simp [svWave]

@[simp] theorem overrunAt_hostLine (o : Nat) (s : State) : hostLine (overrunAt o s) = hostLine s := by
  simp [overrunAt]

@[simp] theorem setXchk_hostLine (ch : Nat) (b : Bool) (s : State) : hostLine (setXchk ch b s) = hostLine s := by
  simp [setXchk]

@[simp] theorem armNamed_hostLine (e : Nat) (v : LaunchVal) (s : State) : hostLine (armNamed e v s) = hostLine s := by
  simp [armNamed]

@[simp] theorem judgeReports_hostLine (s : State) : hostLine (judgeReports s) = hostLine s := by
  simp [judgeReports]

@[simp] theorem windowsWave_hostLine (at_ : Nat × Nat) (s : State) : hostLine (windowsWave at_ s) = hostLine s := by
  simp [windowsWave]

@[simp] theorem judgeOver_hostLine (n : Nat) (above : Bool) (s : State) : hostLine (judgeOver n above s) = hostLine s := by
  unfold judgeOver
  split <;> simp

@[simp] theorem putTokens_hostLine (toks : List (Int × BitVec 8)) (s : State) : hostLine (putTokens toks s) = hostLine s := by
  simp [putTokens]

@[simp] theorem crossJudge_hostLine (ch : Nat) (y : XChk) (s : State) : hostLine (crossJudge ch y s).1 = hostLine s := by
  unfold crossJudge
  repeat' split
  all_goals simp

@[simp] theorem crossWindow_hostLine (ch : Nat) (x : XChk) (s : State) : hostLine (crossWindow ch x s).1 = hostLine s := by
  unfold crossWindow
  split <;> simp

@[simp] theorem crossChan_hostLine (late : Bool) (ch : Nat) (own agreed : Int × BitVec 8) (s : State) :
    hostLine (crossChan late ch own agreed s) = hostLine s := by
  unfold crossChan
  dsimp only
  split <;> simp

@[simp] theorem crossDi_hostLine (own agreed : Nat) (s : State) : hostLine (crossDi own agreed s) = hostLine s := by
  simp [crossDi]

@[simp] theorem crossWave_hostLine (own agreed : List (Int × BitVec 8)) (ownDi di : Nat) (s : State) :
    hostLine (crossWave own agreed ownDi di s) = hostLine s := by
  simp [crossWave]

@[simp] theorem rioAgreed_hostLine (v : List Nat) (s : State) : hostLine (rioAgreed v s) = hostLine s := by
  unfold rioAgreed
  split <;> simp

@[simp] theorem useAgreed_hostLine (a : Agree) (s : State) : hostLine (useAgreed a s) = hostLine s := by
  unfold useAgreed
  split <;> simp

@[simp] theorem useAgreedAt_hostLine (n : Nat) (s : State) : hostLine (useAgreedAt n s) = hostLine s := by
  unfold useAgreedAt
  dsimp only
  rw [agreedTokens_hostLine, hostLine_foldl _ _ _ fun s a => useAgreed_hostLine a s]
  simp

@[simp] theorem takeDi_hostLine (di : Nat) (s : State) : hostLine (takeDi di s) = hostLine s := by
  simp [takeDi]

@[simp] theorem sampleMonitors_hostLine (vals : List (Nat × Int × Bool)) (s : State) :
    hostLine (sampleMonitors vals s) = hostLine s :=
  hostLine_of_only (sampleMonitors_only _ _) (by decide) (by decide)

theorem cell_hostLine (good : Bool) (s : State) (f : State → State) (h : ∀ s, hostLine (f s) = hostLine s) :
    hostLine (resState s (cell good s f)) = hostLine s := by
  unfold cell
  split
  · rfl
  split
  · exact h s
  · rfl

end Sys2Proof.Machine
end

section
/-! PROOFS. HIRQ_N is low exactly while a packet is pending for an HPI session (R582): what answers, tells or restarts keeps it
so. -/

namespace Sys2Proof.Machine
open Sys2Proof

/-- `HirqTold`, of the line and the packets alone. -/
structure LineTold (l : Bool × List Packet) : Prop where
  eq : l.1 = l.2.any (fun (p : Packet) => p.transport == .hpi)

theorem hirqTold_iff (s : State) : HirqTold s ↔ LineTold (hostLine s) := ⟨fun h => ⟨h⟩, fun h => h.eq⟩

theorem lineTold_none : LineTold (false, []) := ⟨rfl⟩

@[simp] theorem lineTold_ite {a b : Bool × List Packet} (c : Prop) [Decidable c] :
    LineTold (if c then a else b) ↔ (c → LineTold a) ∧ (¬ c → LineTold b) := by
  split <;> simp [*]

/-- A fold of operations that keep the line told keeps it told. -/
theorem foldl_told {α : Type} {s : State} (h : LineTold (hostLine s)) (g : State → α → State) (l : List α)
    (k : ∀ t a, LineTold (hostLine t) → LineTold (hostLine (g t a))) : LineTold (hostLine (l.foldl g s)) := by
  induction l generalizing s with
  | nil => exact h
  | cons a l ih => exact ih (k s a h)

/-! What sets the line anew tells it, whatever it was. -/

@[simp] theorem setHirq_told (s : State) : LineTold (hostLine (setHirq s)) := by
  rw [setHirq]
  exact ⟨rfl⟩

@[simp] theorem respondTo_told (always : Bool) (r : Req) (op : Nat) (st : Status) (more : Bool) (payload : List Byte)
    (s : State) : LineTold (hostLine (respondTo always r op st more payload s)) := setHirq_told _

@[simp] theorem respond_told (r : Req) (op : Nat) (st : Status) (more : Bool) (payload : List Byte) (s : State) :
    LineTold (hostLine (respond r op st more payload s)) := respondTo_told ..

@[simp] theorem answer_told (r : Req) (op : Nat) (st : Status) (s : State) : LineTold (hostLine (answer r op st s)) :=
  respond_told ..

@[simp] theorem answerWrite_told (r : Req) (st : Status) (s : State) : LineTold (hostLine (answerWrite r st s)) :=
  respond_told ..

@[simp] theorem unsolicited_told (x : Session) (op grant : Nat) (payload : List Byte) (s : State) :
    LineTold (hostLine (unsolicited x op grant payload s)) := setHirq_told _

@[simp] theorem refuse_told (r : Req) (op : Nat) (st : Status) (s : State) : LineTold (hostLine (refuse r op st s)) :=
  setHirq_told _

theorem serveAs_told {r : Req} {op : Nat} {urgent : Bool} {role : Option Nat} {s : State} {f : State → State}
    (h : LineTold (hostLine s)) (k : LineTold (hostLine (f s))) : LineTold (hostLine (serveAs r op urgent role s f)) := by
  unfold serveAs
  repeat' split
  · exact h
  · exact respondTo_told ..
  · exact k

theorem serve_told {r : Req} {op : Nat} {s : State} {f : State → State} (h : LineTold (hostLine s))
    (k : LineTold (hostLine (f s))) : LineTold (hostLine (serve r op s f)) := serveAs_told h k

@[simp] theorem serveWrite_told (r : Req) {s : State} (f : State → State × Status) (h : LineTold (hostLine s)) :
    LineTold (hostLine (serveWrite r s f)) := serve_told h (answerWrite_told ..)

@[simp] theorem updCert_hostLine (s : State) : hostLine (updCert s) = hostLine s :=
  hostLine_of_only (updCert_only _) (by decide) (by decide)

@[simp] theorem execSampleLoopUnlock_hostLine (s : State) : hostLine (resState s (execSampleLoopUnlock s)) = hostLine s := by
  simp [execSampleLoopUnlock, resState_ite, resState_next]

theorem testsNoted_hostLine (failed : List Nat) (cals : List (Int × Int)) (s : State) :
    hostLine (testsNoted failed cals s) = hostLine s := by
  simp [testsNoted]

@[simp] theorem tested_hostLine (failed slices : List Nat) (retain forces : Bool) (copies : Nat) (cals : List (Int × Int))
    (s : State) : hostLine (tested failed slices retain forces copies cals s) = hostLine s :=
  (hostLine_of_only (testsActed_only failed slices retain forces copies _) (by decide) (by decide)).trans
    (testsNoted_hostLine failed cals s)

theorem resState_told {s : State} {r : Res} (h : Answers (fun t => LineTold (hostLine t)) r) :
    LineTold (hostLine (resState s r)) := by
  obtain ⟨t, rfl, told⟩ := h
  exact told

theorem shareTaken_told (f : NetFrame) {s : State} (h : LineTold (hostLine s)) :
    Answers (fun t => LineTold (hostLine t)) (shareTaken f s) := by
  refine .ite (fun _ => .next h) fun _ => .ite (fun _ => .next ?_) fun _ => .ite (fun _ => .next ?_) fun _ => .next ?_
  all_goals simpa using h

theorem cell_told {good : Bool} {s : State} {f : State → State} (h : LineTold (hostLine s))
    (k : ∀ t, LineTold (hostLine t) → LineTold (hostLine (f t))) : LineTold (hostLine (resState s (cell good s f))) := by
  unfold cell
  repeat' split
  · exact h
  · exact k s h
  · simpa [resState_next] using h

section
variable {s : State} (h : LineTold (hostLine s))
include h

@[simp] theorem drArm_told (r : Req) (arm : Nat) : LineTold (hostLine (drArm r arm s)) := by
  unfold drArm
  exact serve_told h (by simp)

@[simp] theorem drTrigger_told (r : Req) (unit : Nat) : LineTold (hostLine (drTrigger r unit s)) := by
  unfold drTrigger
  refine serve_told h ?_
  repeat' split
  all_goals simp

@[simp] theorem drList_told (r : Req) (from_ max_ : Nat) : LineTold (hostLine (drList r from_ max_ s)) := by
  unfold drList
  exact serve_told h (by simp)

@[simp] theorem drRead_told (r : Req) (id offset len : Nat) : LineTold (hostLine (drRead r id offset len s)) := by
  unfold drRead
  refine serve_told h ?_
  repeat' split
  all_goals simp

@[simp] theorem drExport_told (r : Req) (id set_ format chain file offset : Nat) :
    LineTold (hostLine (drExport r id set_ format chain file offset s)) := by
  unfold drExport
  refine serve_told h ?_
  repeat' split
  all_goals simp

@[simp] theorem activateRefused_told (r : Option Req) (st : Status) : LineTold (hostLine (activateRefused r st s)) := by
  unfold activateRefused
  split <;> simp [h]

@[simp] theorem refuseChange_told (st : Status) : LineTold (hostLine (refuseChange st s)) := by
  unfold refuseChange
  split <;> simp [h]

@[simp] theorem applyMode_told (code : Nat) : LineTold (hostLine (applyMode code s)) := by
  unfold applyMode
  dsimp only
  repeat' split
  all_goals simp [h]

@[simp] theorem urgentDone_told (u : Urgent) (code : Int) : LineTold (hostLine (urgentDone u code s)) := by
  simp [urgentDone, h]

@[simp] theorem conversionComplete_told (code : Int) (ovr : Bool) : LineTold (hostLine (conversionComplete code ovr s)) := by
  unfold conversionComplete
  repeat' split
  all_goals simp [h]

@[simp] theorem procBarrierLost_told (cause : Nat) : LineTold (hostLine (procBarrierLost cause s)) := by
  unfold procBarrierLost
  split
  · exact h
  · simp [foldl_told h _ _ fun _ _ _ => answer_told ..]

@[simp] theorem processUpstreamMissing_told : LineTold (hostLine (processUpstreamMissing s)) := by
  simp [processUpstreamMissing, h]

@[simp] theorem upcSelftestTimeout_told : LineTold (hostLine (upcSelftestTimeout s)) := by
  simp [upcSelftestTimeout, h]

omit h in
@[simp] theorem answerSnap_told (p : Req × Nat) : LineTold (hostLine (answerSnap p s)) := by
  simp [answerSnap]

@[simp] theorem processUpstreamRx_told (seq status : Nat) (rbs chStat : List Nat) (pl24 : Nat) (temp : Int) :
    LineTold (hostLine (processUpstreamRx seq status rbs chStat pl24 temp s)) := by
  unfold processUpstreamRx
  split
  · exact h
  · refine foldl_told ?_ _ _ fun t a k => by simp
    simp [h]

@[simp] theorem upcUrgent_told (r : Req) (chan meas filter rate settle : Nat) :
    LineTold (hostLine (upcUrgent r chan meas filter rate settle s)) := by
  unfold upcUrgent
  refine serve_told h ?_
  simp [h]

@[simp] theorem readbackVerification_told (n : Nat) : LineTold (hostLine (readbackVerification n s)) := by
  unfold readbackVerification
  dsimp only
  repeat' split
  all_goals simp [h]

@[simp] theorem notify_told (rs : List Rec) : LineTold (hostLine (notify rs s)) := by
  unfold notify
  split
  · exact h
  · exact foldl_told h _ _ fun t x _ => unsolicited_told ..

@[simp] theorem enterRecs_told (parent : Rec) (parts : List (List Byte)) : LineTold (hostLine (enterRecs parent parts s)) := by
  simp [enterRecs, h]

@[simp] theorem summaryRec_told (kind code count : Nat) (first : Nat × Nat × Nat) (last : Nat × Nat) :
    LineTold (hostLine (summaryRec kind code count first last s)) := by
  simp [summaryRec, h]

@[simp] theorem writeLost_told : LineTold (hostLine (writeLost s)) := by
  unfold writeLost
  split
  · exact foldl_told (by simpa using h) _ _ fun t d k => summaryRec_told k ..
  · exact h

@[simp] theorem suppressedRecord_told (code depth : Nat) : LineTold (hostLine (suppressedRecord code depth s)) := by
  simp [suppressedRecord, h]

@[simp] theorem refill_told (code depth periodMs : Nat) : LineTold (hostLine (refill code depth periodMs s)) := by
  simp [refill, h]

@[simp] theorem takeToken_told (e : Event) : LineTold (hostLine (takeToken e s).2) := by
  unfold takeToken
  dsimp only
  repeat' split
  all_goals simp [h]

@[simp] theorem enterEvent_told (e : Event) : LineTold (hostLine (enterEvent e s)) := by
  simp [enterEvent, h]

@[simp] theorem eventEntry_told : LineTold (hostLine (eventEntry s)) := by
  unfold eventEntry
  split <;> simp [h]

@[simp] theorem pageComplete_told : LineTold (hostLine (pageComplete s)) := by
  simp [pageComplete, h]

@[simp] theorem auditFirst_told (b : Block) (session code value : Nat) (parts : List (List Byte)) :
    LineTold (hostLine (auditFirst b session code value parts s)) := by
  simp [auditFirst, h]

@[simp] theorem evrRead_told (r : Req) (from_ max_ options : Nat) : LineTold (hostLine (evrRead r from_ max_ options s)) := by
  unfold evrRead
  exact serve_told h (by simp)

@[simp] theorem evrFreeze_told (r : Req) : LineTold (hostLine (evrFreeze r s)) := by
  unfold evrFreeze
  refine serve_told h ?_
  split <;> simp

@[simp] theorem evrThaw_told (r : Req) : LineTold (hostLine (evrThaw r s)) := by
  unfold evrThaw
  refine serve_told h ?_
  split <;> simp

@[simp] theorem tornTold_told : LineTold (hostLine (tornTold s)) := by
  simp [tornTold, h]

@[simp] theorem heldEntered_told : LineTold (hostLine (heldEntered s)) := by
  unfold heldEntered
  exact foldl_told (by simpa using h) _ _ fun t e k => by simp [k]

@[simp] theorem evrStart_told : LineTold (hostLine (evrStart s)) := by
  have begins : LineTold (hostLine (evrBegins s)) := by simpa [evrBegins] using h
  rw [evrStart_eq]
  exact heldEntered_told (tornTold_told (enterEvent_told begins _))

omit h in
@[simp] theorem creditOverrun_told (r : Req) (op : Nat) (x : Session) : LineTold (hostLine (creditOverrun r op x s)) := by
  simp [creditOverrun]

@[simp] theorem queueReq_told (r : Req) (op cls flags : Nat) (p : List Byte) :
    LineTold (hostLine (queueReq r op cls flags p s)) := by
  simp [queueReq, h]

@[simp] theorem accept_told (t : Transport) (conn : Nat) (b : List Byte) : LineTold (hostLine (accept t conn b s).1) := by
  unfold accept
  dsimp only
  repeat' split
  all_goals simp [h]

@[simp] theorem acceptCrc_told (t : Transport) (b : List Byte) : LineTold (hostLine (acceptCrc t b s)) := by
  simp [acceptCrc, h]

@[simp] theorem uartByte_told (b : Byte) : LineTold (hostLine (uartByte s b)) := by
  unfold uartByte
  split <;> simp [h]

@[simp] theorem authFail_told (cause : Nat) (t : Transport) : LineTold (hostLine (authFail cause t s)) := by
  simp [authFail, h]

@[simp] theorem tlsHandshake_told (conn : Nat) (c : TlsClient) : LineTold (hostLine (tlsHandshake conn c s)) := by
  simp [tlsHandshake, h]

@[simp] theorem tlsPackets_told (conn fuel : Nat) (b : List Byte) : LineTold (hostLine (tlsPackets conn fuel b s)) := by
  induction fuel generalizing s b with
  | zero => simpa [tlsPackets] using h
  | succ fuel ih =>
    unfold tlsPackets
    dsimp only
    repeat' split
    · simpa using h
    · simp [h]
    · exact ih (accept_told h ..) _

@[simp] theorem regRead_told (r : Req) (addr count : Nat) : LineTold (hostLine (regRead r addr count s)) := by
  unfold regRead
  exact serve_told h (by simp)

@[simp] theorem regWrite_told (r : Req) (addr : Nat) (values : List Word) : LineTold (hostLine (regWrite r addr values s)) := by
  unfold regWrite
  exact serve_told h (by simp)

@[simp] theorem regModify_told (r : Req) (addr : Nat) (mask value : Word) :
    LineTold (hostLine (regModify r addr mask value s)) := by
  unfold regModify
  exact serve_told h (by simp)

@[simp] theorem grantOwed_told : LineTold (hostLine (grantOwed s)) := by
  unfold grantOwed
  refine foldl_told h _ _ fun s _ h => ?_
  repeat' split
  all_goals simp [h]

@[simp] theorem setShed_told (n : Nat) : LineTold (hostLine (setShed n s)) := by
  simp [setShed, h]

@[simp] theorem loadWindow_told (mean : Nat) : LineTold (hostLine (loadWindow mean s)) := by
  unfold loadWindow
  repeat' split
  all_goals simp [h]

@[simp] theorem grantJobs_told : LineTold (hostLine (grantJobs s)) := by
  unfold grantJobs
  refine foldl_told (by simpa using h) _ _ fun t num k => ?_
  repeat' split
  all_goals simp [k]

@[simp] theorem endJob_told (j : Job) : LineTold (hostLine (endJob j s)) := by
  unfold endJob
  split <;> simp [h]

@[simp] theorem endJobs_told : LineTold (hostLine (endJobs s)) := by
  unfold endJobs
  refine foldl_told h _ _ fun s _ h => ?_
  repeat' split
  all_goals simp [h]

@[simp] theorem pump_told : LineTold (hostLine (pump s)) := by
  simp [pump, h]

@[simp] theorem graphWave_told (wave : Nat) : LineTold (hostLine (graphWave wave s)) := by
  simp [graphWave, h]

@[simp] theorem graphDesc_told (d : Desc) : LineTold (hostLine (graphDesc d s)) := by
  simp [graphDesc, h]

@[simp] theorem overrunWave_told (wave : Nat) : LineTold (hostLine (overrunWave wave s)) := by
  simp [overrunWave, h]

omit h in
@[simp] theorem openSession_told (r : Req) (roles options : Nat) (hostSlot : Option Nat) (phys : Bool) (conn : Option Nat) :
    LineTold (hostLine (openSession r roles options hostSlot phys conn s)) := by
  simp [openSession]

omit h in
@[simp] theorem openHostKey_told (r : Req) (roles options : Nat) (auth : List Byte) :
    LineTold (hostLine (openHostKey r roles options auth s)) := by
  unfold openHostKey
  dsimp only
  repeat' split
  all_goals simp

@[simp] theorem sessionOpen_told (r : Req) (method roles options : Nat) (auth : List Byte) :
    LineTold (hostLine (sessionOpen r method roles options auth s)) := by
  unfold sessionOpen
  refine serve_told h ?_
  repeat' split
  all_goals simp

@[simp] theorem changeKey_told (type slot op : Nat) (body : List Byte) :
    LineTold (hostLine (changeKey type slot op body s)) := by
  simp [changeKey, h]

@[simp] theorem keyInstall_told (r : Req) (body : List Byte) : LineTold (hostLine (keyInstall r body s)) := by
  unfold keyInstall
  exact serve_told h (by simp)

@[simp] theorem fwCommit_told (r : Req) : LineTold (hostLine (fwCommit r s)) := by
  unfold fwCommit
  refine serve_told h ?_
  repeat' split
  all_goals simp

@[simp] theorem groupAnswer_told (r : Option Req) (st : Status) : LineTold (hostLine (groupAnswer r st s)) := by
  unfold groupAnswer
  split <;> simp [h]

@[simp] theorem groupsSeen_told : LineTold (hostLine (groupsSeen s)) := by
  have read : hostLine (groupReads s).2.2 = hostLine s := groupReads_hostLine s
  unfold groupsSeen
  generalize groupReads s = p at read
  obtain ⟨logic, di, t⟩ := p
  dsimp only at read ⊢
  have told : LineTold (hostLine t) := read ▸ h
  have lose {u : State} (l : List (Nat × Option Req)) (k : LineTold (hostLine u)) :
      LineTold (hostLine (l.foldl (fun s c => groupAnswer c.2 .conflict s) u)) :=
    foldl_told k _ _ fun t c k => groupAnswer_told k _ _
  repeat' split
  all_goals simp [lose, told]

@[simp] theorem groupsWave_told : LineTold (hostLine (groupsWave s)) := by
  simp [groupsWave, h]

@[simp] theorem limitsChange_told (b : List Param) : LineTold (hostLine (limitsChange b s)) := by
  unfold limitsChange
  refine foldl_told h _ _ fun s _ h => ?_
  all_goals simp [h]

@[simp] theorem applyImage_told (u : Image) : LineTold (hostLine (applyImage u s)) := by
  have told : LineTold (hostLine (limitsChange u.params s)) := limitsChange_told h _
  have taken : hostLine (applyImage u s) = hostLine (limitsChange u.params s) := by
    unfold applyImage
    extract_lets old ps g0 limited _ loaded grouped elements row rows chans launches process procPids passes marked _ held _ figures
    have kLoaded : hostLine loaded = hostLine limited := by simp [loaded]
    have kProcess : hostLine process = hostLine limited := by
      simp [process, launches, chans, rows, elements, grouped, kLoaded]
    have kMarked : hostLine marked = hostLine process := by simp [marked, passes]
    have kHeld : hostLine held = hostLine marked := by simp [held]
    simp [figures, kHeld, kMarked, kProcess, limited]
  exact taken ▸ told

@[simp] theorem secRegion_told (copies : Nat) : LineTold (hostLine (secRegion copies s)) := by
  simp [secRegion, h]

@[simp] theorem runStaged_told (u : Image) : LineTold (hostLine (runStaged u s)) := by
  simp [runStaged, h]

omit h in
@[simp] theorem powerUp_told (cause : Nat) : LineTold (hostLine (powerUp cause s)) := by
  rw [powerUp, submit_hostLine, hostLine_mk]
  exact ⟨rfl⟩

@[simp] theorem startFlush_told (cause : Nat) (structural : Bool) : LineTold (hostLine (startFlush cause structural s)) := by
  simp [startFlush, h]

@[simp] theorem callFlush_told (cause : Nat) : LineTold (hostLine (callFlush cause s)) := by
  simp [callFlush, h]

@[simp] theorem enterReset_told : LineTold (hostLine (enterReset s)) := by
  simp [enterReset, h]

@[simp] theorem halt_told : LineTold (hostLine (halt s)) := by
  simp [halt, h]

@[simp] theorem flushEnds_told : LineTold (hostLine (flushEnds s)) := by
  simp [flushEnds, h]

@[simp] theorem endFlush_told (done : Bool) : LineTold (hostLine (endFlush done s)) := by
  simp [endFlush, h]

@[simp] theorem finalPage_told : LineTold (hostLine (finalPage s)) := by
  simp [finalPage, h]

@[simp] theorem flushWrites_told (step : Nat) : LineTold (hostLine (flushWrites step s)) := by
  unfold flushWrites
  split <;> simp [h]

@[simp] theorem warn_told (by_ : Nat) : LineTold (hostLine (warn by_ s)) := by
  simp [warn, h]

@[simp] theorem warnIfLow_told : LineTold (hostLine (warnIfLow s)) := by
  simp [warnIfLow, h]

@[simp] theorem takeReset_told (jtag : Bool) : LineTold (hostLine (takeReset jtag s)) := by
  unfold takeReset
  split <;> simp [h]

@[simp] theorem activated_told (req : Option Req) (cls w : Nat) : LineTold (hostLine (activated req cls w s)) := by
  unfold activated
  split <;> simp [h]

@[simp] theorem activateNow_told (cls : Nat) (commit : Bool) (req : Option Req) (w : Nat) :
    LineTold (hostLine (activateNow cls commit req w s)) := by
  unfold activateNow
  split <;> simp [h]

@[simp] theorem startStructural_told (r : Req) (commit : Bool) : LineTold (hostLine (startStructural r commit s)) := by
  simp [startStructural, h]

@[simp] theorem activateClass_told (r : Req) (options : Nat) (cur next : Image) :
    LineTold (hostLine (activateClass r options cur next s)) := by
  unfold activateClass
  split <;> simp [h]

@[simp] theorem changeWaveNow_told (w : Nat) : LineTold (hostLine (changeWaveNow w s)) := by
  unfold changeWaveNow
  split <;> simp [h]

@[simp] theorem applyForceSet_told (point value session : Nat) : LineTold (hostLine (applyForceSet point value session s)) := by
  simp [applyForceSet, h]

@[simp] theorem confirmed_told (v : List Nat) : LineTold (hostLine (confirmed v s)) := by
  unfold confirmed
  repeat' split
  all_goals simp [h]

@[simp] theorem control_told (v : List Nat) : LineTold (hostLine (control v s)) := by
  unfold control
  split <;> simp [h]

omit h in
@[simp] theorem releaseClear_told (r : Req) : LineTold (hostLine (releaseClear r s)) := by
  simp [releaseClear]

omit h in
@[simp] theorem releaseYield_told (r : Req) : LineTold (hostLine (releaseYield r s)) := by
  simp [releaseYield]

omit h in
@[simp] theorem releaseLeave_told (r : Req) : LineTold (hostLine (releaseLeave r s)) := by
  simp [releaseLeave]

omit h in
@[simp] theorem releaseMigrate_told (r : Req) : LineTold (hostLine (releaseMigrate r s)) := by
  unfold releaseMigrate
  split <;> simp

@[simp] theorem execVmainLow_lineTold (mv : Nat) : LineTold (hostLine (resState s (execVmainLow mv s))) := by
  simp [execVmainLow, resState_ite, resState_next, h]

@[simp] theorem condition_told (d t : Nat) : LineTold (hostLine (condition d t s)) := by
  unfold condition
  repeat' split
  all_goals simp [h]

@[simp] theorem injBegin_told (j : Inj) : LineTold (hostLine (injBegin j s)) := by
  simp [injBegin, h]

@[simp] theorem applyInj_told (v : List Nat) : LineTold (hostLine (applyInj v s)) := by
  unfold applyInj
  repeat' split
  all_goals simp [h]

@[simp] theorem forceAt_told (v : List Nat) : LineTold (hostLine (forceAt v s)) := by
  unfold forceAt
  split <;> simp [h]

@[simp] theorem applySched_told (n code : Nat) (v : List Nat) : LineTold (hostLine (applySched n code v s)) := by
  unfold applySched
  repeat' split
  all_goals simp [h]

@[simp] theorem schedAt_told (n : Nat) : LineTold (hostLine (schedAt n s)) := by
  unfold schedAt
  exact foldl_told (by simpa using h) _ _ fun t e k => applySched_told k ..

@[simp] theorem snapNow_told (p : Option Req × Nat) : LineTold (hostLine (snapNow p s)) := by
  unfold snapNow
  split <;> simp [h]

@[simp] theorem snapsWave_told : LineTold (hostLine (snapsWave s)) := by
  unfold snapsWave
  exact foldl_told (by simpa using h) _ _ fun t p k => snapNow_told k _

@[simp] theorem effectsAt_told (n : Nat) : LineTold (hostLine (effectsAt n s)) := by
  unfold effectsAt
  extract_lets changed named grouped
  have kNamed : LineTold (hostLine named) := schedAt_told (by simp [changed, h]) n
  clear_value named
  refine snapsWave_told ?_
  simp [grouped, kNamed]

@[simp] theorem releaseTokens_told (n : Nat) (at_ : Nat × Nat) (toks : List (Int × Nat)) (sync : Bool) (di : Nat)
    (late : Nat → Bool) :
    LineTold (hostLine (releaseTokens n at_ toks sync di late s)) := by
  simp [releaseTokens, h]

@[simp] theorem ownWave_told (n : Nat) (raw : Slices) (full : Bool) : LineTold (hostLine (ownWave n raw full s)) := by
  simp [ownWave, h]

@[simp] theorem agreedWave_told (n : Nat) (raw : Slices) (full : Bool) (v : List Nat) :
    LineTold (hostLine (agreedWave n raw full v s)) := by
  simp [agreedWave, h]

@[simp] theorem waveBegun_told (n : Nat) : LineTold (hostLine (waveBegun n s)) := by
  simpa [waveBegun] using h

@[simp] theorem waveEffects_told (n : Nat) (core : Option Agree) : LineTold (hostLine (waveEffects n core s)) := by
  refine effectsAt_told ?_ n
  simp [h]

@[simp] theorem waveValues_told (n : Nat) (core : Option Agree) (raw : Slices) (full : Bool) :
    LineTold (hostLine (waveValues n core raw full s)) := by
  unfold waveValues
  extract_lets _ counted _
  have kCounted : LineTold (hostLine counted) := by simp [counted, h]
  clear_value counted
  repeat' split
  all_goals simp [h, kCounted]

@[simp] theorem releaseNext_told (raw : Slices) (full : Bool) : LineTold (hostLine (releaseNext raw full s)) := by
  have handed (n : Nat) : LineTold (hostLine (handoverAt n s)) := by simpa using h
  rw [releaseNext_eq, releaseAfter]
  split
  · exact handed _
  · exact waveValues_told (waveEffects_told (handed _) _ _) ..

omit h in
@[simp] theorem mgmtRestart_told (core : Nat) : LineTold (hostLine (mgmtRestart core s)) := by
  simp [mgmtRestart, lineTold_none]

end

end Sys2Proof.Machine
end

section
/-! PROOFS. Rows that keep HIRQ_N low exactly while a packet is pending for an HPI session (R582): the disturbance recorder,
the time base, the field and the remote I/O. -/

namespace Sys2Proof.Machine
open Sys2Proof

section
variable {s : State} (h : LineTold (hostLine s))
include h

theorem execDrArm_lineTold (r : Req) (arm : Nat) : LineTold (hostLine (resState s (execDrArm r arm s))) := by
  simp [execDrArm, resState_next, h]

theorem execDrTrigger_lineTold (r : Req) (unit : Nat) : LineTold (hostLine (resState s (execDrTrigger r unit s))) := by
  simp [execDrTrigger, resState_next, h]

theorem execDrUnitFiredClear_lineTold (r : Req) (mask : Word) :
    LineTold (hostLine (resState s (execDrUnitFiredClear r mask s))) := by
  simp [execDrUnitFiredClear, resState_next, h]

theorem execRecordOpen_lineTold : LineTold (hostLine (resState s (execRecordOpen s))) := by
  simp [execRecordOpen, resState_next, h]

theorem execRecordEnd_lineTold : LineTold (hostLine (resState s (execRecordEnd s))) := by
  simp [execRecordEnd, resState_next, h]

theorem execHoldOffExpiry_lineTold : LineTold (hostLine (resState s (execHoldOffExpiry s))) := by
  simp [execHoldOffExpiry, resState_next, h]

theorem execRateStepUp_lineTold (high prot : Nat) : LineTold (hostLine (resState s (execRateStepUp high prot s))) := by
  simp [execRateStepUp, resState_next, h]

theorem execRateStepDown_lineTold (high prot : Nat) : LineTold (hostLine (resState s (execRateStepDown high prot s))) := by
  simp [execRateStepDown, resState_next, h]

theorem execRingFull_lineTold (high : Bool) : LineTold (hostLine (resState s (execRingFull high s))) := by
  simp [execRingFull, resState_next, h]

theorem execReelDrainDone_lineTold (id high prot : Nat) :
    LineTold (hostLine (resState s (execReelDrainDone id high prot s))) := by
  simp [execReelDrainDone, resState_next, h]

theorem execDrList_lineTold (r : Req) (from_ max_ : Nat) : LineTold (hostLine (resState s (execDrList r from_ max_ s))) := by
  simp [execDrList, resState_next, h]

theorem execDrRead_lineTold (r : Req) (id offset len : Nat) :
    LineTold (hostLine (resState s (execDrRead r id offset len s))) := by
  simp [execDrRead, resState_next, h]

theorem execDrExport_lineTold (r : Req) (id set_ format chain file offset : Nat) :
    LineTold (hostLine (resState s (execDrExport r id set_ format chain file offset s))) := by
  simp [execDrExport, resState_next, h]

theorem execPtpMessageRx_lineTold (port : Nat) (m : PtpMsg) (half : Nat) (portId : List Byte) (gm : Nat) (missing : Bool)
    (offset : Int) (role : Nat) (utc : Option (Int × Nat)) :
    LineTold (hostLine (resState s (execPtpMessageRx port m half portId gm missing offset role utc s))) := by
  unfold execPtpMessageRx
  repeat' split
  all_goals simp [resState_next, resState_ite, h]

theorem execPtpMessageTx_lineTold (port : Nat) (m : PtpMsg) (half : Nat) :
    LineTold (hostLine (resState s (execPtpMessageTx port m half s))) := by
  simp [execPtpMessageTx, resState_next, resState_ite, h]

theorem execPpsInEdge_lineTold (half : Nat) (trueErr : Int) :
    LineTold (hostLine (resState s (execPpsInEdge half trueErr s))) := by
  simp [execPpsInEdge, resState_next, resState_ite, h]

theorem execIrigInFrame_lineTold (f : IrigFrame) (day sec half : Nat) :
    LineTold (hostLine (resState s (execIrigInFrame f day sec half s))) := by
  simp [execIrigInFrame, resState_next, resState_ite, h]

theorem execPtpSyncMissing_lineTold (port : Nat) : LineTold (hostLine (resState s (execPtpSyncMissing port s))) := by
  simp [execPtpSyncMissing, resState_next, resState_ite, h]

theorem execAnnounceReceiptTimeout_lineTold (port : Nat) :
    LineTold (hostLine (resState s (execAnnounceReceiptTimeout port s))) := by
  simp [execAnnounceReceiptTimeout, resState_next, resState_ite, h]

theorem execPpsEdgeMissing_lineTold : LineTold (hostLine (resState s (execPpsEdgeMissing s))) := by
  simp [execPpsEdgeMissing, resState_next, resState_ite, h]

theorem execIrigFrameMissing_lineTold : LineTold (hostLine (resState s (execIrigFrameMissing s))) := by
  simp [execIrigFrameMissing, resState_next, resState_ite, h]

theorem execServoPeriod_lineTold (inc : Nat) (offset : Int) :
    LineTold (hostLine (resState s (execServoPeriod inc offset s))) := by
  simp [execServoPeriod, resState_next, resState_ite, h]

theorem execInc0Learn_lineTold : LineTold (hostLine (resState s (execInc0Learn s))) := by
  simp [execInc0Learn, resState_next, resState_ite, h]

theorem execServoKickExpiry_lineTold : LineTold (hostLine (resState s (execServoKickExpiry s))) := by
  simp [execServoKickExpiry, resState_next, resState_ite, h]

theorem execSlewEnd_lineTold (domain : Nat) : LineTold (hostLine (resState s (execSlewEnd domain s))) := by
  simp [execSlewEnd, resState_next, resState_ite, h]

theorem execTimeClass_lineTold (dTemp : Nat) : LineTold (hostLine (resState s (execTimeClass dTemp s))) := by
  simp [execTimeClass, resState_next, resState_ite, h]

theorem execGlideToFree_lineTold (dTemp : Nat) : LineTold (hostLine (resState s (execGlideToFree dTemp s))) := by
  simp [execGlideToFree, resState_next, resState_ite, h]

theorem execUtcOffsetChange_lineTold : LineTold (hostLine (resState s (execUtcOffsetChange s))) := by
  simp [execUtcOffsetChange, resState_next, resState_ite, h]

theorem execRefInLost_lineTold : LineTold (hostLine (resState s (execRefInLost s))) := by
  simp [execRefInLost, resState_next, resState_ite, h]

theorem execRefInRestored_lineTold : LineTold (hostLine (resState s (execRefInRestored s))) := by
  simp [execRefInRestored, resState_next, resState_ite, h]

theorem execPpsOutRise_lineTold : LineTold (hostLine (resState s (execPpsOutRise s))) := by
  simp [execPpsOutRise, resState_next, resState_ite, h]

theorem execPpsOutFall_lineTold : LineTold (hostLine (resState s (execPpsOutFall s))) := by
  simp [execPpsOutFall, resState_next, resState_ite, h]

theorem execGridAligned_lineTold : LineTold (hostLine (resState s (execGridAligned s))) := by
  unfold execGridAligned
  repeat' split
  all_goals simp [resState_next, h]

theorem execGridRephase_lineTold : LineTold (hostLine (resState s (execGridRephase s))) := by
  simp only [execGridRephase, resState_ite, resState_next, hostLine_ite, hostLine_mk, hostLine_fold, ite_self, gridDone_hostLine,
    voidStep_hostLine, recMark_hostLine, recFlags_hostLine]
  exact h

theorem execSampleLoopUnlock_lineTold : LineTold (hostLine (resState s (execSampleLoopUnlock s))) := by
  simp [execSampleLoopUnlock, resState_next, resState_ite, h]

theorem execTd2Servo_lineTold (inc slew count : Nat) : LineTold (hostLine (resState s (execTd2Servo inc slew count s))) := by
  simp [execTd2Servo, resState_next, resState_ite, h]

theorem execTbSetInc_lineTold (r : Req) (domain inc : Nat) :
    LineTold (hostLine (resState s (execTbSetInc r domain inc s))) := by
  unfold execTbSetInc
  rw [resState_next]
  refine serve_told h ?_
  split <;> simp

theorem execTbSlew_lineTold (r : Req) (domain inc count : Nat) :
    LineTold (hostLine (resState s (execTbSlew r domain inc count s))) := by
  unfold execTbSlew
  rw [resState_next]
  refine serve_told h ?_
  split <;> simp

theorem execTbStep_lineTold (r : Req) (domain frac : Nat) (offset : Int) :
    LineTold (hostLine (resState s (execTbStep r domain frac offset s))) := by
  unfold execTbStep
  rw [resState_next]
  refine serve_told h ?_
  dsimp only
  repeat' split
  all_goals simp

theorem execTbRead_lineTold (r : Req) (wanted : Nat) : LineTold (hostLine (resState s (execTbRead r wanted s))) := by
  unfold execTbRead
  rw [resState_next]
  exact serve_told h (by simp)

theorem execTbServoKick_lineTold (r : Req) : LineTold (hostLine (resState s (execTbServoKick r s))) := by
  simp [execTbServoKick, resState_next, h]

theorem execTbCapture_lineTold (r : Req) : LineTold (hostLine (resState s (execTbCapture r s))) := by
  simp [execTbCapture, resState_next, h]

theorem execTbStepGo_lineTold (r : Req) : LineTold (hostLine (resState s (execTbStepGo r s))) := by
  simp [execTbStepGo, resState_next, h]

theorem execTbSlewCountWrite_lineTold (r : Req) (domain count : Nat) :
    LineTold (hostLine (resState s (execTbSlewCountWrite r domain count s))) := by
  simp [execTbSlewCountWrite, resState_next, resState_ite, h]

theorem execTbIncHiWrite_lineTold (r : Req) (domain : Nat) (slew : Bool) (hi : Nat) :
    LineTold (hostLine (resState s (execTbIncHiWrite r domain slew hi s))) := by
  simp [execTbIncHiWrite, resState_next, resState_ite, h]

theorem execKickExpiredClear_lineTold (r : Req) : LineTold (hostLine (resState s (execKickExpiredClear r s))) := by
  simp [execKickExpiredClear, resState_next, h]

theorem execLaunchArm_lineTold (r : Req) (entry : Nat) (value : LaunchVal) :
    LineTold (hostLine (resState s (execLaunchArm r entry value s))) := by
  unfold execLaunchArm
  rw [resState_next]
  exact serve_told h (by simp)

theorem execLaunchCancel_lineTold (r : Req) (entry : Nat) : LineTold (hostLine (resState s (execLaunchCancel r entry s))) := by
  unfold execLaunchCancel
  rw [resState_next]
  exact serve_told h (by simp)

theorem execFieldFrameStart_lineTold : LineTold (hostLine (resState s (execFieldFrameStart s))) := by
  simp [execFieldFrameStart, resState_next, resState_ite, h]

theorem execFieldDownstreamMissing_lineTold : LineTold (hostLine (resState s (execFieldDownstreamMissing s))) := by
  simp [execFieldDownstreamMissing, resState_next, h]

theorem execFieldDownstreamRx_lineTold : LineTold (hostLine (resState s (execFieldDownstreamRx s))) := by
  simp [execFieldDownstreamRx, resState_next, resState_ite, h]

theorem execDoLaunchSwitch_lineTold (dout : Nat) : LineTold (hostLine (resState s (execDoLaunchSwitch dout s))) := by
  unfold execDoLaunchSwitch
  split <;> simp [resState_next, h]

theorem execFieldUpstreamRx_lineTold (di chg1 chg2 chg3 first last level : Nat) (temp : Int) :
    LineTold (hostLine (resState s (execFieldUpstreamRx di chg1 chg2 chg3 first last level temp s))) := by
  simp [execFieldUpstreamRx, resState_next, resState_ite, h]

theorem execFieldUpstreamMissing_lineTold : LineTold (hostLine (resState s (execFieldUpstreamMissing s))) := by
  simp [execFieldUpstreamMissing, resState_next, resState_ite, h]

theorem execFieldSelftestTimeout_lineTold : LineTold (hostLine (resState s (execFieldSelftestTimeout s))) := by
  simp [execFieldSelftestTimeout, resState_next, resState_ite, h]

theorem execDiChatterCleared_lineTold (input : Nat) : LineTold (hostLine (resState s (execDiChatterCleared input s))) := by
  simp [execDiChatterCleared, resState_next, resState_ite, h]

theorem execDiMaxOn_lineTold (input : Nat) : LineTold (hostLine (resState s (execDiMaxOn input s))) := by
  simp [execDiMaxOn, resState_next, resState_ite, h]

theorem execFioDoOverload_lineTold (dout : Nat) : LineTold (hostLine (resState s (execFioDoOverload dout s))) := by
  simp [execFioDoOverload, resState_next, resState_ite, h]

theorem execFioDoOvertemp_lineTold (dout : Nat) : LineTold (hostLine (resState s (execFioDoOvertemp dout s))) := by
  simp [execFioDoOvertemp, resState_next, resState_ite, h]

theorem execDoThermalRetry_lineTold (dout : Nat) : LineTold (hostLine (resState s (execDoThermalRetry dout s))) := by
  simp [execDoThermalRetry, resState_next, resState_ite, h]

theorem execFioDoOpenWire_lineTold (dout : Nat) : LineTold (hostLine (resState s (execFioDoOpenWire dout s))) := by
  simp [execFioDoOpenWire, resState_next, resState_ite, h]

theorem execFioDoExtVoltage_lineTold (dout : Nat) : LineTold (hostLine (resState s (execFioDoExtVoltage dout s))) := by
  simp [execFioDoExtVoltage, resState_next, resState_ite, h]

theorem execFioDiOpenWire_lineTold (input : Nat) : LineTold (hostLine (resState s (execFioDiOpenWire input s))) := by
  simp [execFioDiOpenWire, resState_next, resState_ite, h]

theorem execFioDiOverload_lineTold (input : Nat) : LineTold (hostLine (resState s (execFioDiOverload input s))) := by
  simp [execFioDiOverload, resState_next, resState_ite, h]

theorem execFioDiOvertemp_lineTold (input : Nat) : LineTold (hostLine (resState s (execFioDiOvertemp input s))) := by
  simp [execFioDiOvertemp, resState_next, resState_ite, h]

theorem execFioDiagCleared_lineTold (det chan : Nat) : LineTold (hostLine (resState s (execFioDiagCleared det chan s))) := by
  simp [execFioDiagCleared, resState_next, resState_ite, h]

theorem execFioSupplyLow_lineTold (group level : Nat) : LineTold (hostLine (resState s (execFioSupplyLow group level s))) := by
  simp [execFioSupplyLow, resState_next, resState_ite, h]

theorem execFioSupplyRestored_lineTold (group : Nat) (full : Bool) :
    LineTold (hostLine (resState s (execFioSupplyRestored group full s))) := by
  simp [execFioSupplyRestored, resState_next, resState_ite, h]

theorem execRioUpstreamRx_lineTold (station flags seq rxSeq : Nat) (mark : List Byte) (tx rx : Nat) (data : List Byte)
    (good : Bool) :
    LineTold (hostLine (resState s (execRioUpstreamRx station flags seq rxSeq mark tx rx data good s))) := by
  simp [execRioUpstreamRx, resState_next, resState_ite, h]

theorem execRioDownstreamSend_lineTold : LineTold (hostLine (resState s (execRioDownstreamSend s))) := by
  unfold execRioDownstreamSend
  split
  · exact h
  · rw [resState_next, foldl_keeps (fun p : State × Nat => hostLine p.1) (stSend _) _ _ fun p a => stSend_hostLine ..]
    simp [h]

theorem execDuciaRingCycle_lineTold : LineTold (hostLine (resState s (execDuciaRingCycle s))) := by
  simp [execDuciaRingCycle, resState_next, resState_ite, h]

theorem execDuciaRingFrameRx_lineTold (station : Nat) (data : List Byte) (good : Bool) :
    LineTold (hostLine (resState s (execDuciaRingFrameRx station data good s))) := by
  simp [execDuciaRingFrameRx, resState_next, resState_ite, h]

end

end Sys2Proof.Machine
end

section
/-! PROOFS. Rows that keep HIRQ_N low exactly while a packet is pending for an HPI session (R582): the logic engine and the
process channels. -/

namespace Sys2Proof.Machine
open Sys2Proof

section
variable {s : State} (h : LineTold (hostLine s))
include h

theorem execEventTaskTrigger_lineTold : LineTold (hostLine (resState s (execEventTaskTrigger s))) := by
  unfold execEventTaskTrigger
  dsimp only
  repeat' split
  all_goals simp [resState_next, h]

theorem execLogicCycleReady_lineTold : LineTold (hostLine (resState s (execLogicCycleReady s))) := by
  simp [execLogicCycleReady, resState_next, h]

theorem execLeMode_lineTold (r : Req) (code : Nat) : LineTold (hostLine (resState s (execLeMode r code s))) := by
  unfold execLeMode
  rw [resState_next]
  refine serveAs_told h ?_
  simp

theorem execLeColdExecute_lineTold : LineTold (hostLine (resState s (execLeColdExecute s))) := by
  unfold execLeColdExecute
  repeat' split
  all_goals simp [resState_next, h]

theorem execHoldTimeout_lineTold : LineTold (hostLine (resState s (execHoldTimeout s))) := by
  simp [execHoldTimeout, resState_next, resState_ite, h]

theorem execBreakpoint_lineTold : LineTold (hostLine (resState s (execBreakpoint s))) := by
  unfold execBreakpoint
  repeat' split
  all_goals simp [resState_next, h]

theorem execLeBreakSet_lineTold (r : Req) (entries : List (Nat × Nat)) :
    LineTold (hostLine (resState s (execLeBreakSet r entries s))) := by
  unfold execLeBreakSet
  rw [resState_next]
  exact serve_told h (by simp)

theorem execLeWatchdog_lineTold : LineTold (hostLine (resState s (execLeWatchdog s))) := by
  simp [execLeWatchdog, resState_next, h]

theorem execCyclicTaskRelease_lineTold (task : Nat) : LineTold (hostLine (resState s (execCyclicTaskRelease task s))) := by
  unfold execCyclicTaskRelease
  repeat' split
  all_goals simp [resState_next, h]

theorem execRetainWrite_lineTold : LineTold (hostLine (resState s (execRetainWrite s))) := by
  simp [execRetainWrite, resState_next, resState_ite, h]

theorem execLePeekSelWrite_lineTold (r : Req) (value : Word) :
    LineTold (hostLine (resState s (execLePeekSelWrite r value s))) := by
  simp [execLePeekSelWrite, resState_next, h]

theorem execBrkHitClear_lineTold (r : Req) : LineTold (hostLine (resState s (execBrkHitClear r s))) := by
  simp [execBrkHitClear, resState_next, h]

theorem execConversionComplete_lineTold (code : Int) (ovr : Bool) :
    LineTold (hostLine (resState s (execConversionComplete code ovr s))) := by
  simp [execConversionComplete, resState_next, h]

theorem execSeqPassStart_lineTold : LineTold (hostLine (resState s (execSeqPassStart s))) := by
  simp [execSeqPassStart, resState_next, h]

theorem execProcessFrameStart_lineTold (arrives : Bool) :
    LineTold (hostLine (resState s (execProcessFrameStart arrives s))) := by
  simp [execProcessFrameStart, resState_next, resState_ite, h]

theorem execProcessSideSafe_lineTold : LineTold (hostLine (resState s (execProcessSideSafe s))) := by
  simp [execProcessSideSafe, resState_next, h]

theorem execProcessUpstreamMissing_lineTold : LineTold (hostLine (resState s (execProcessUpstreamMissing s))) := by
  simp [execProcessUpstreamMissing, resState_next, h]

theorem execUpcSelftestTimeout_lineTold : LineTold (hostLine (resState s (execUpcSelftestTimeout s))) := by
  simp [execUpcSelftestTimeout, resState_next, h]

theorem execProcessUpstreamRx_lineTold (seq status : Nat) (rbs chStat : List Nat) (pl24 : Nat) (temp : Int) :
    LineTold (hostLine (resState s (execProcessUpstreamRx seq status rbs chStat pl24 temp s))) := by
  simp [execProcessUpstreamRx, resState_next, h]

theorem execUpcUrgent_lineTold (r : Req) (chan meas filter rate settle : Nat) :
    LineTold (hostLine (resState s (execUpcUrgent r chan meas filter rate settle s))) := by
  simp [execUpcUrgent, resState_next, h]

theorem execReadbackVerification_lineTold (chan : Nat) :
    LineTold (hostLine (resState s (execReadbackVerification chan s))) := by
  simp [execReadbackVerification, resState_next, h]

theorem execUpcReadbackMismatch_lineTold (chan : Nat) : LineTold (hostLine (resState s (execUpcReadbackMismatch chan s))) := by
  simp [execUpcReadbackMismatch, resState_next, h]

theorem execReadbackMismatchClear_lineTold (chan : Nat) :
    LineTold (hostLine (resState s (execReadbackMismatchClear chan s))) := by
  simp [execReadbackMismatchClear, resState_next, h]

theorem execOutputStartupTest_lineTold (chan rb mv : Nat) :
    LineTold (hostLine (resState s (execOutputStartupTest chan rb mv s))) := by
  simp [execOutputStartupTest, resState_next, h]

theorem execUpcCompliance_lineTold (chan : Nat) : LineTold (hostLine (resState s (execUpcCompliance chan s))) := by
  simp [execUpcCompliance, resState_next, h]

theorem execUpcOpenLoop_lineTold (chan : Nat) : LineTold (hostLine (resState s (execUpcOpenLoop chan s))) := by
  simp [execUpcOpenLoop, resState_next, h]

theorem execUpcSignalRange_lineTold (chan : Nat) : LineTold (hostLine (resState s (execUpcSignalRange chan s))) := by
  simp [execUpcSignalRange, resState_next, h]

theorem execTcTest_lineTold (chan : Nat) (high : Bool) : LineTold (hostLine (resState s (execTcTest chan high s))) := by
  simp [execTcTest, resState_next, h]

theorem execUpcDiagCleared_lineTold (det chan : Nat) : LineTold (hostLine (resState s (execUpcDiagCleared det chan s))) := by
  simp [execUpcDiagCleared, resState_next, h]

theorem execUpcChModeWrite_lineTold (r : Req) (chan : Nat) (value : Word) :
    LineTold (hostLine (resState s (execUpcChModeWrite r chan value s))) := by
  simp [execUpcChModeWrite, resState_next, h]

end

end Sys2Proof.Machine
end

section
/-! PROOFS. Rows that keep HIRQ_N low exactly while a packet is pending for an HPI session (R582): the event recorder, the
sessions and transports, the network. -/

namespace Sys2Proof.Machine
open Sys2Proof

section
variable {s : State} (h : LineTold (hostLine s))
include h

theorem execEventEntry_lineTold : LineTold (hostLine (resState s (execEventEntry s))) := by
  simp [execEventEntry, resState_next, h]

theorem execRateRefill_lineTold (code : Nat) : LineTold (hostLine (resState s (execRateRefill code s))) := by
  unfold execRateRefill
  split <;> simp [resState_next, h]

theorem execSuppressedSummary60s_lineTold (code : Nat) :
    LineTold (hostLine (resState s (execSuppressedSummary60s code s))) := by
  unfold execSuppressedSummary60s
  repeat' split
  all_goals simp [resState_next, h]

theorem execCommitPeriod_lineTold : LineTold (hostLine (resState s (execCommitPeriod s))) := by
  simp [execCommitPeriod, resState_next, h]

theorem execCommitStart_lineTold : LineTold (hostLine (resState s (execCommitStart s))) := by
  simp [execCommitStart, resState_next, h]

theorem execPageCommitComplete_lineTold : LineTold (hostLine (resState s (execPageCommitComplete s))) := by
  simp [execPageCommitComplete, resState_next, h]

theorem execEvrRead_lineTold (r : Req) (from_ max options : Nat) :
    LineTold (hostLine (resState s (execEvrRead r from_ max options s))) := by
  simp [execEvrRead, resState_next, h]

theorem execEvrFreeze_lineTold (r : Req) : LineTold (hostLine (resState s (execEvrFreeze r s))) := by
  simp [execEvrFreeze, resState_next, h]

theorem execEvrThaw_lineTold (r : Req) : LineTold (hostLine (resState s (execEvrThaw r s))) := by
  simp [execEvrThaw, resState_next, h]

theorem execFreezeTimeout_lineTold : LineTold (hostLine (resState s (execFreezeTimeout s))) := by
  unfold execFreezeTimeout
  repeat' split
  all_goals simp [resState_next, h]

theorem execSessionClose_lineTold (r : Req) : LineTold (hostLine (resState s (execSessionClose r s))) := by
  unfold execSessionClose
  rw [resState_next]
  exact serve_told h (by simp)

theorem execHpiWriteTransfer_lineTold (bytes : List Byte) :
    LineTold (hostLine (resState s (execHpiWriteTransfer bytes s))) := by
  simp [execHpiWriteTransfer, resState_next, h]

theorem execHpiReadTransfer_lineTold (complete : Bool) : LineTold (hostLine (resState s (execHpiReadTransfer complete s))) := by
  simp [execHpiReadTransfer, resState_next, h]

theorem execUartFrameRx_lineTold (bytes : List Byte) : LineTold (hostLine (resState s (execUartFrameRx bytes s))) :=
  foldl_told h _ _ fun _ b k => uartByte_told k b

theorem execUartFrameTimeout_lineTold : LineTold (hostLine (resState s (execUartFrameTimeout s))) := by
  simp [execUartFrameTimeout, resState_next, h]

theorem execTlsRecordRx_lineTold (conn : Nat) (handshake : Option TlsClient) (bytes : List Byte) :
    LineTold (hostLine (resState s (execTlsRecordRx conn handshake bytes s))) := by
  unfold execTlsRecordRx
  repeat' split
  all_goals simp [resState_next, h]

theorem execTlsConnectionEnd_lineTold (conn : Nat) : LineTold (hostLine (resState s (execTlsConnectionEnd conn s))) := by
  simp [execTlsConnectionEnd, resState_next, h]

theorem execRegRead_lineTold (r : Req) (addr count : Nat) : LineTold (hostLine (resState s (execRegRead r addr count s))) := by
  simp [execRegRead, resState_next, h]

theorem execRegWrite_lineTold (r : Req) (addr : Nat) (values : List Word) :
    LineTold (hostLine (resState s (execRegWrite r addr values s))) := by
  simp [execRegWrite, resState_next, h]

theorem execRegModify_lineTold (r : Req) (addr : Nat) (mask value : Word) :
    LineTold (hostLine (resState s (execRegModify r addr mask value s))) := by
  simp [execRegModify, resState_next, h]

theorem execGsNodeSelWrite_lineTold (r : Req) (node : Nat) :
    LineTold (hostLine (resState s (execGsNodeSelWrite r node s))) := by
  simp [execGsNodeSelWrite, resState_next, h]

theorem execTwVmeasArm_lineTold (r : Req) (terminal : Nat) :
    LineTold (hostLine (resState s (execTwVmeasArm r terminal s))) := by
  simp [execTwVmeasArm, resState_next, h]

theorem execDiagStream_lineTold (r : Req) (period : Nat) (addrs : List Nat) :
    LineTold (hostLine (resState s (execDiagStream r period addrs s))) := by
  unfold execDiagStream
  rw [resState_next]
  exact serve_told h (by simp)

theorem execDiagData_lineTold (session : Nat) : LineTold (hostLine (resState s (execDiagData session s))) := by
  unfold execDiagData
  repeat' split
  all_goals simp [resState_next, h]

theorem execLoadWindow_lineTold (mean : Nat) : LineTold (hostLine (resState s (execLoadWindow mean s))) := by
  simp [execLoadWindow, resState_next, h]

theorem execGooseRetransmit_lineTold (pub : Nat) : LineTold (hostLine (resState s (execGooseRetransmit pub s))) := by
  simp [execGooseRetransmit, resState_next, resState_ite, h]

theorem execGooseFrameRx_lineTold (f : GooseFrame) : LineTold (hostLine (resState s (execGooseFrameRx f s))) := by
  unfold execGooseFrameRx
  repeat' split
  all_goals simp [resState_next, resState_ite, h]

theorem execGooseSubLost_lineTold (sub : Nat) : LineTold (hostLine (resState s (execGooseSubLost sub s))) := by
  simp [execGooseSubLost, resState_next, resState_ite, h]

theorem execPmuTurnOff_lineTold (idcode : Nat) (good : Bool) :
    LineTold (hostLine (resState s (execPmuTurnOff idcode good s))) := by
  simp [execPmuTurnOff, resState_next, h]

theorem execPmuTurnOn_lineTold (idcode : Nat) (good : Bool) :
    LineTold (hostLine (resState s (execPmuTurnOn idcode good s))) := by
  simp [execPmuTurnOn, resState_next, h]

theorem execPmuSendHdr_lineTold (idcode : Nat) (good : Bool) (ip : Nat) :
    LineTold (hostLine (resState s (execPmuSendHdr idcode good ip s))) := by
  simp [execPmuSendHdr, resState_next, h]

theorem execPmuSendCfg_lineTold (idcode : Nat) (good : Bool) (kind ip : Nat) :
    LineTold (hostLine (resState s (execPmuSendCfg idcode good kind ip s))) := by
  simp [execPmuSendCfg, resState_next, h]

theorem execNetFrameRx_lineTold (f : NetFrame) : LineTold (hostLine (resState s (execNetFrameRx f s))) := by
  refine resState_told (Answers.ite (fun _ => .next h) fun _ => .ite (fun _ => .next (by simpa using h)) fun _ => ?_)
  refine .ite (fun _ => .next (by simpa using h)) fun _ => .ite (fun _ => .next (by simpa using h)) fun _ => ?_
  refine .ite (fun _ => .next (by simpa using h)) fun _ => ?_
  split
  · exact shareTaken_told f (by simpa using h)
  · exact shareTaken_told f (by simpa using h)

theorem execPrpDupAgeout_lineTold : LineTold (hostLine (resState s (execPrpDupAgeout s))) := by
  simp [execPrpDupAgeout, resState_next, h]

theorem execPrpSupervisionTx_lineTold : LineTold (hostLine (resState s (execPrpSupervisionTx s))) := by
  simp [execPrpSupervisionTx, resState_next, resState_ite, h]

theorem execArpRx_lineTold (request : Bool) (target ip mac : Nat) :
    LineTold (hostLine (resState s (execArpRx request target ip mac s))) := by
  simp [execArpRx, resState_next, resState_ite, h]

theorem execArpRefresh_lineTold : LineTold (hostLine (resState s (execArpRefresh s))) := by
  simp [execArpRefresh, resState_next, resState_ite, h]

theorem execIcmpEcho_lineTold (ip : Nat) (bytes : List Byte) : LineTold (hostLine (resState s (execIcmpEcho ip bytes s))) := by
  simp [execIcmpEcho, resState_next, resState_ite, h]

theorem execLinkLoss_lineTold (port : Nat) : LineTold (hostLine (resState s (execLinkLoss port s))) := by
  simp [execLinkLoss, resState_next, resState_ite, h]

theorem execPortLinkUp_lineTold (port speed : Nat) : LineTold (hostLine (resState s (execPortLinkUp port speed s))) := by
  simp [execPortLinkUp, resState_next, resState_ite, h]

theorem execLaneNoFrame_lineTold (port : Nat) : LineTold (hostLine (resState s (execLaneNoFrame port s))) := by
  simp [execLaneNoFrame, resState_next, resState_ite, h]

theorem execRingOpen_lineTold (port : Nat) : LineTold (hostLine (resState s (execRingOpen port s))) := by
  simp [execRingOpen, resState_next, resState_ite, h]

theorem execNetLaneRestored_lineTold (port : Nat) : LineTold (hostLine (resState s (execNetLaneRestored port s))) := by
  simp [execNetLaneRestored, resState_next, resState_ite, h]

end

end Sys2Proof.Machine
end

section
/-! PROOFS. Rows that keep HIRQ_N low exactly while a packet is pending for an HPI session (R582): the graph, the security
commands, the travelling waves and the rotation. -/

namespace Sys2Proof.Machine
open Sys2Proof

section
variable {s : State} (h : LineTold (hostLine s))
include h

theorem execOpRetire_lineTold (core cycles fault : Nat) (vals : List (Nat × Nat)) (bytes : List Byte) :
    LineTold (hostLine (resState s (execOpRetire core cycles fault vals bytes s))) := by
  unfold execOpRetire
  split <;> simp [resState_next, h]

theorem execOpCycleLimit_lineTold (core : Nat) : LineTold (hostLine (resState s (execOpCycleLimit core s))) := by
  unfold execOpCycleLimit
  repeat' split
  all_goals simp [resState_next, resState_ite, h]

theorem execP1Deadline_lineTold : LineTold (hostLine (resState s (execP1Deadline s))) := by
  unfold execP1Deadline
  repeat' split
  all_goals simp [resState_next, h]

theorem execP0Deadline_lineTold : LineTold (hostLine (resState s (execP0Deadline s))) := by
  unfold execP0Deadline
  split <;> simp [resState_next, h]

theorem execP2Late_lineTold : LineTold (hostLine (resState s (execP2Late s))) := by
  unfold execP2Late
  dsimp only
  repeat' split
  all_goals simp [resState_next, h]

theorem execOverrunQuiet_lineTold : LineTold (hostLine (resState s (execOverrunQuiet s))) := by
  simp [execOverrunQuiet, resState_next, resState_ite, h]

theorem execDelayEntryFire_lineTold : LineTold (hostLine (resState s (execDelayEntryFire s))) := by
  simp [execDelayEntryFire, resState_next, h]

theorem execJobSubmit_lineTold (r : Req) (set : Nat) (input : List Byte) :
    LineTold (hostLine (resState s (execJobSubmit r set input s))) := by
  unfold execJobSubmit
  rw [resState_next]
  refine serve_told h ?_
  simp [h]

theorem execJobStart_lineTold : LineTold (hostLine (resState s (execJobStart s))) := by
  unfold execJobStart
  repeat' split
  all_goals simp [resState_next, resState_ite, h]

theorem execFreqTrackHoldExpiry_lineTold (terminal : Nat) :
    LineTold (hostLine (resState s (execFreqTrackHoldExpiry terminal s))) := by
  unfold execFreqTrackHoldExpiry
  repeat' split
  all_goals simp [resState_next, resState_ite, h]

theorem execSessionOpen_lineTold (r : Req) (method roles options : Nat) (auth : List Byte) :
    LineTold (hostLine (resState s (execSessionOpen r method roles options auth s))) := by
  simp [execSessionOpen, resState_next, h]

theorem execAuthLockoutExpiry_lineTold (transport : Transport) :
    LineTold (hostLine (resState s (execAuthLockoutExpiry transport s))) := by
  simp [execAuthLockoutExpiry, resState_next, h]

theorem execSessionIdleTimeout_lineTold (session : Nat) :
    LineTold (hostLine (resState s (execSessionIdleTimeout session s))) := by
  unfold execSessionIdleTimeout
  split <;> simp [resState_next, h]

theorem execKeyInstall_lineTold (r : Req) (body : List Byte) : LineTold (hostLine (resState s (execKeyInstall r body s))) := by
  simp [execKeyInstall, resState_next, h]

theorem execKeyList_lineTold (r : Req) : LineTold (hostLine (resState s (execKeyList r s))) := by
  unfold execKeyList
  rw [resState_next]
  exact serve_told h (by simp)

theorem execAttest_lineTold (r : Req) (nonce : List Byte) : LineTold (hostLine (resState s (execAttest r nonce s))) := by
  unfold execAttest
  rw [resState_next]
  exact serve_told h (by simp)

theorem execFwBegin_lineTold (r : Req) (len slot : Nat) : LineTold (hostLine (resState s (execFwBegin r len slot s))) := by
  unfold execFwBegin
  rw [resState_next]
  exact serve_told h (by simp)

theorem execFwData_lineTold (r : Req) (offset : Nat) (bytes : List Byte) :
    LineTold (hostLine (resState s (execFwData r offset bytes s))) := by
  unfold execFwData
  rw [resState_next]
  refine serve_told h ?_
  repeat' split
  all_goals simp

theorem execFwCommit_lineTold (r : Req) : LineTold (hostLine (resState s (execFwCommit r s))) := by
  simp [execFwCommit, resState_next, h]

theorem execRollbackRaise_lineTold : LineTold (hostLine (resState s (execRollbackRaise s))) := by
  simp [execRollbackRaise, resState_next, h]

theorem execTwNoiseFloor_lineTold (stream : Nat) : LineTold (hostLine (resState s (execTwNoiseFloor stream s))) := by
  simp [execTwNoiseFloor, resState_next, h]

theorem execTwNoiseCleared_lineTold (stream : Nat) : LineTold (hostLine (resState s (execTwNoiseCleared stream s))) := by
  simp [execTwNoiseCleared, resState_next, h]

theorem execTwRearm_lineTold (stream : Nat) : LineTold (hostLine (resState s (execTwRearm stream s))) := by
  simp [execTwRearm, resState_next, h]

theorem execTwLeadWindowClose_lineTold (terminal : Nat) :
    LineTold (hostLine (resState s (execTwLeadWindowClose terminal s))) := by
  unfold execTwLeadWindowClose
  split <;> simp [resState_next, h]

theorem execTwSupervisionEnd_lineTold (terminal : Nat) (dv di : List Int) :
    LineTold (hostLine (resState s (execTwSupervisionEnd terminal dv di s))) := by
  unfold execTwSupervisionEnd
  dsimp only
  repeat' split
  all_goals simp [resState_next, h]

theorem execTwExchangeSend_lineTold : LineTold (hostLine (resState s (execTwExchangeSend s))) := by
  unfold execTwExchangeSend
  split
  · exact h
  · dsimp only
    rw [resState_next, hostLine_ite, lineTold_ite]
    refine ⟨fun _ => by simpa using h, fun _ => foldl_told (by simpa using h) _ _ fun t k told => ?_⟩
    repeat' split
    all_goals simp [told]

theorem execTwMsgRx_lineTold (bytes : List Byte) : LineTold (hostLine (resState s (execTwMsgRx bytes s))) := by
  simp [execTwMsgRx, resState_next, resState_ite, h]

theorem execTwMsgExpiry_lineTold : LineTold (hostLine (resState s (execTwMsgExpiry s))) := by
  simp [execTwMsgExpiry, resState_next, h]

theorem execTwBurstClose_lineTold (terminal : Nat) : LineTold (hostLine (resState s (execTwBurstClose terminal s))) := by
  unfold execTwBurstClose
  split <;> simp [resState_next, h]

theorem execTwArrival_lineTold (stream sec slot : Nat) (g : List Int) (cross : Nat) (sat : Bool) (vref : Int) :
    LineTold (hostLine (resState s (execTwArrival stream sec slot g cross sat vref s))) := by
  simp [execTwArrival, resState_next, resState_ite, h]

theorem execDescriptorEntry_lineTold : LineTold (hostLine (resState s (execDescriptorEntry s))) := by
  unfold execDescriptorEntry
  repeat' split
  all_goals simp [resState_next, h]

theorem execTwLocationDone_lineTold (terminal : Nat) : LineTold (hostLine (resState s (execTwLocationDone terminal s))) := by
  unfold execTwLocationDone
  dsimp only
  repeat' split
  all_goals simp [resState_next, h]

theorem execTwVmeasTimeout_lineTold : LineTold (hostLine (resState s (execTwVmeasTimeout s))) := by
  simp [execTwVmeasTimeout, resState_next, h]

theorem execRotationStepStart_lineTold : LineTold (hostLine (resState s (execRotationStepStart s))) := by
  simp [execRotationStepStart, resState_next, resState_ite, h]

theorem execRotationCalEnd_lineTold (gain ofs : Int) (resid : List Int) :
    LineTold (hostLine (resState s (execRotationCalEnd gain ofs resid s))) := by
  simp [execRotationCalEnd, resState_next, resState_ite, h]

theorem execRotationDecision_lineTold (sumD sumY : Nat) :
    LineTold (hostLine (resState s (execRotationDecision sumD sumY s))) := by
  simp [execRotationDecision, resState_next, resState_ite, h]

theorem execReferenceCheckDone_lineTold (resid : List Int) :
    LineTold (hostLine (resState s (execReferenceCheckDone resid s))) := by
  unfold execReferenceCheckDone
  dsimp only
  repeat' split
  all_goals simp [resState_next, h]

theorem execSpareConnectDone_lineTold : LineTold (hostLine (resState s (execSpareConnectDone s))) := by
  simp [execSpareConnectDone, resState_next, resState_ite, h]

theorem execSvFrameRx_lineTold (f : SvFrame) : LineTold (hostLine (resState s (execSvFrameRx f s))) := by
  unfold execSvFrameRx
  repeat' split
  all_goals simp [resState_next, resState_ite, h]

theorem execHighRateBlock_lineTold (sec block : Nat) (inputs : List (Nat × List Int × Bool)) (rms : List Nat) :
    LineTold (hostLine (resState s (execHighRateBlock sec block inputs rms s))) := by
  unfold execHighRateBlock
  split
  · exact h
  · dsimp only
    rw [resState_next, hostLine_mk, hostLine_fold]
    refine foldl_told (foldl_told h _ _ fun t p k => by simp [k]) _ _ fun t m k => ?_
    split <;> simp [k]

end

end Sys2Proof.Machine
end

section
/-! PROOFS. Rows that keep HIRQ_N low exactly while a packet is pending for an HPI session (R582): the boot, the power
supply, the images and the forces. -/

namespace Sys2Proof.Machine
open Sys2Proof

section
variable {s : State} (h : LineTold (hostLine s))
include h

theorem execVmainGood_lineTold : LineTold (hostLine (resState s (execVmainGood s))) := by
  unfold execVmainGood
  split <;> simp [resState_next, h]

theorem execSelftestComplete_lineTold (failed slices : List Nat) (retain forces : Bool) (copies : Nat) (cals : List (Int × Int)) :
    LineTold (hostLine (resState s (execSelftestComplete failed slices retain forces copies cals s))) := by
  by_cases k : s.pw.phase = .firmware
  · rw [execSelftestComplete_eq failed slices retain forces copies cals s k, resState_next, testsOver, refreshPads_hostLine]
    exact evrStart_told (by simpa using h)
  · rw [execSelftestComplete, if_pos k]
    exact h

theorem execImageSelect_lineTold : LineTold (hostLine (resState s (execImageSelect s))) := by
  unfold execImageSelect
  repeat' split
  all_goals simp [resState_next, h]

theorem execConfigurationComplete_lineTold : LineTold (hostLine (resState s (execConfigurationComplete s))) := by
  simp [execConfigurationComplete, resState_next, resState_ite, h]

theorem execLogicStart_lineTold : LineTold (hostLine (resState s (execLogicStart s))) := by
  unfold execLogicStart
  dsimp only
  repeat' split
  all_goals simp [resState_next, h]

theorem execFwBChecked_lineTold : LineTold (hostLine (resState s (execFwBChecked s))) := by
  simp [execFwBChecked, resState_next, resState_ite, h]

theorem execFlushStepComplete_lineTold : LineTold (hostLine (resState s (execFlushStepComplete s))) := by
  simp [execFlushStepComplete, resState_next, resState_ite, h]

theorem execFirmwareStart_lineTold : LineTold (hostLine (resState s (execFirmwareStart s))) := by
  simp [execFirmwareStart, resState_next, resState_ite, h]

theorem execPfailNLow_lineTold : LineTold (hostLine (resState s (execPfailNLow s))) := by
  simp [execPfailNLow, resState_next, resState_ite, h]

theorem execVmainLowCleared_lineTold : LineTold (hostLine (resState s (execVmainLowCleared s))) := by
  simp [execVmainLowCleared, resState_next, h]

theorem execPfailRecovered_lineTold (last : Nat) : LineTold (hostLine (resState s (execPfailRecovered last s))) := by
  simp [execPfailRecovered, resState_next, h]

theorem execHoldUpStage_lineTold : LineTold (hostLine (resState s (execHoldUpStage s))) := by
  unfold execHoldUpStage
  repeat' split
  all_goals simp [resState_next, resState_ite, h]

theorem execStoreCutoff_lineTold (torn written : Nat) : LineTold (hostLine (resState s (execStoreCutoff torn written s))) := by
  simp [execStoreCutoff, resState_next, resState_ite, h]

theorem execResetNLow_lineTold : LineTold (hostLine (resState s (execResetNLow s))) := by
  simp [execResetNLow, resState_next, h]

theorem execJtagReset_lineTold : LineTold (hostLine (resState s (execJtagReset s))) := by
  simp [execJtagReset, resState_next, h]

theorem execResetFlushTimeout_lineTold : LineTold (hostLine (resState s (execResetFlushTimeout s))) := by
  simp [execResetFlushTimeout, resState_next, resState_ite, h]

theorem execResetNRelease_lineTold : LineTold (hostLine (resState s (execResetNRelease s))) := by
  simp [execResetNRelease, resState_next, resState_ite, h]

theorem execStoreCharged_lineTold : LineTold (hostLine (resState s (execStoreCharged s))) := by
  simp [execStoreCharged, resState_next, resState_ite, h]

theorem execHoldupMeasureDone_lineTold (cap esr vhold : Nat) :
    LineTold (hostLine (resState s (execHoldupMeasureDone cap esr vhold s))) := by
  unfold execHoldupMeasureDone
  split
  · exact h
  · rw [resState_next, holdupMeasured_hostLine]
    exact h

theorem execStoreChargeTimeout_lineTold : LineTold (hostLine (resState s (execStoreChargeTimeout s))) := by
  simp [execStoreChargeTimeout, resState_next, resState_ite, h]

theorem execStoreVoltageLow_lineTold (mv : Nat) : LineTold (hostLine (resState s (execStoreVoltageLow mv s))) := by
  simp [execStoreVoltageLow, resState_next, resState_ite, h]

theorem execImgBegin_lineTold (r : Req) (len : Nat) : LineTold (hostLine (resState s (execImgBegin r len s))) := by
  unfold execImgBegin
  rw [resState_next]
  exact serve_told h (by simp)

theorem execImgData_lineTold (r : Req) (offset : Nat) (bytes : List Byte) :
    LineTold (hostLine (resState s (execImgData r offset bytes s))) := by
  unfold execImgData
  rw [resState_next]
  refine serve_told h ?_
  split <;> simp

theorem execImgCommit_lineTold (r : Req) : LineTold (hostLine (resState s (execImgCommit r s))) := by
  unfold execImgCommit
  rw [resState_next]
  refine serve_told h ?_
  split <;> simp

theorem execImgStatus_lineTold (r : Req) : LineTold (hostLine (resState s (execImgStatus r s))) := by
  unfold execImgStatus
  rw [resState_next]
  exact serve_told h (by simp)

theorem execImgActivate_lineTold (r : Req) (options : Nat) :
    LineTold (hostLine (resState s (execImgActivate r options s))) := by
  unfold execImgActivate
  rw [resState_next]
  refine serve_told h ?_
  repeat' split
  all_goals simp [h]

theorem execActivationBoundary_lineTold : LineTold (hostLine (resState s (execActivationBoundary s))) := by
  unfold execActivationBoundary
  split <;> simp [resState_next, h]

theorem execActivationConfirmTimeout_lineTold : LineTold (hostLine (resState s (execActivationConfirmTimeout s))) := by
  unfold execActivationConfirmTimeout
  repeat' split
  all_goals simp [resState_next, h]

theorem execStructuralConfigDone_lineTold : LineTold (hostLine (resState s (execStructuralConfigDone s))) := by
  unfold execStructuralConfigDone
  repeat' split
  all_goals simp [resState_next, h]

theorem execSchUserCommitDone_lineTold (good : Bool) : LineTold (hostLine (resState s (execSchUserCommitDone good s))) := by
  simp [execSchUserCommitDone, resState_next, resState_ite, h]

theorem execLeChange_lineTold (r : Req) (mark forces : List Byte) (options : Nat) :
    LineTold (hostLine (resState s (execLeChange r mark forces options s))) := by
  unfold execLeChange
  rw [resState_next]
  refine serve_told h ?_
  repeat' split
  all_goals simp

theorem execLeChangeover_lineTold : LineTold (hostLine (resState s (execLeChangeover s))) := by
  unfold execLeChangeover
  repeat' split
  all_goals simp [resState_next, h]

theorem execLeChangeRefused_lineTold : LineTold (hostLine (resState s (execLeChangeRefused s))) := by
  unfold execLeChangeRefused
  repeat' split
  all_goals simp [resState_next, h]

theorem execGroupSelect_lineTold (r : Req) (group : Nat) : LineTold (hostLine (resState s (execGroupSelect r group s))) := by
  unfold execGroupSelect
  rw [resState_next]
  refine serve_told h ?_
  simp [h]

theorem execForceSet_lineTold (r : Req) (point value : Nat) :
    LineTold (hostLine (resState s (execForceSet r point value s))) := by
  unfold execForceSet
  rw [resState_next]
  refine serve_told h ?_
  repeat' split
  all_goals simp

theorem execForceClear_lineTold (r : Req) (point : Nat) : LineTold (hostLine (resState s (execForceClear r point s))) := by
  unfold execForceClear
  rw [resState_next]
  exact serve_told h (by simp)

theorem execForceList_lineTold (r : Req) (first : Nat) : LineTold (hostLine (resState s (execForceList r first s))) := by
  unfold execForceList
  rw [resState_next]
  exact serve_told h (by simp)

theorem execLaunchFire_lineTold : LineTold (hostLine (resState s (execLaunchFire s))) := by
  unfold execLaunchFire
  repeat' split
  all_goals simp [resState_next, h]

end

end Sys2Proof.Machine
end

section
/-! PROOFS. Rows that keep HIRQ_N low exactly while a packet is pending for an HPI session (R582): the pair, the injections,
the waves and the health monitors. -/

namespace Sys2Proof.Machine
open Sys2Proof

section
variable {s : State} (h : LineTold (hostLine s))
include h

theorem execRisiaHelloRx_lineTold (good : Bool) (serial : Nat) (est : Bool) (st : Nat) (active : Bool) (mark : List Byte) :
    LineTold (hostLine (resState s (execRisiaHelloRx good serial est st active mark s))) := by
  unfold execRisiaHelloRx
  refine cell_told h fun t k => ?_
  simp [k]

theorem execRisiaHeartbeatRx_lineTold (good : Bool) (lane st : Nat) (active : Bool) (wave : Nat) (bind : Bool) (flags : Nat) :
    LineTold (hostLine (resState s (execRisiaHeartbeatRx good lane st active wave bind flags s))) := by
  unfold execRisiaHeartbeatRx
  refine cell_told h fun t k => ?_
  simp [k]

theorem execRisiaTimeRx_lineTold (good : Bool) (err : Int) : LineTold (hostLine (resState s (execRisiaTimeRx good err s))) := by
  unfold execRisiaTimeRx
  refine cell_told h fun t k => ?_
  simp [k]

theorem execPairHeartbeatTx_lineTold : LineTold (hostLine (resState s (execPairHeartbeatTx s))) := by
  simp [execPairHeartbeatTx, resState_next, resState_ite, h]

theorem execRisiaAgreeRx_lineTold (good : Bool) (kind wave : Nat) (vals : List Nat) (fill lat : Nat) :
    LineTold (hostLine (resState s (execRisiaAgreeRx good kind wave vals fill lat s))) := by
  unfold execRisiaAgreeRx
  refine cell_told h fun t k => ?_
  simp [k]

theorem execRisiaDescRx_lineTold (good : Bool) (d : Desc) : LineTold (hostLine (resState s (execRisiaDescRx good d s))) := by
  unfold execRisiaDescRx
  refine cell_told h fun t k => ?_
  simp [k]

theorem execRisiaDigestRx_lineTold (good : Bool) (wave digest : Nat) :
    LineTold (hostLine (resState s (execRisiaDigestRx good wave digest s))) := by
  unfold execRisiaDigestRx
  refine cell_told h fun t k => ?_
  simp [k]

theorem execRisiaControlRx_lineTold (good : Bool) (vals : List Nat) :
    LineTold (hostLine (resState s (execRisiaControlRx good vals s))) := cell_told h fun _ k => control_told k vals

theorem execRisiaBulkRx_lineTold (good : Bool) (kind total off : Nat) (bytes : List Byte) :
    LineTold (hostLine (resState s (execRisiaBulkRx good kind total off bytes s))) := by
  unfold execRisiaBulkRx
  refine cell_told h fun t k => ?_
  simp [k]

theorem execPlkLaneDown_lineTold (lane : Nat) : LineTold (hostLine (resState s (execPlkLaneDown lane s))) := by
  simp [execPlkLaneDown, resState_next, resState_ite, h]

theorem execHbInPulse_lineTold (width : Nat) : LineTold (hostLine (resState s (execHbInPulse width s))) := by
  simp [execHbInPulse, resState_next, resState_ite, h]

theorem execHbWireSilent_lineTold : LineTold (hostLine (resState s (execHbWireSilent s))) := by
  simp [execHbWireSilent, resState_next, resState_ite, h]

theorem execBindInChange_lineTold (level : Bool) : LineTold (hostLine (resState s (execBindInChange level s))) := by
  simp [execBindInChange, resState_next, resState_ite, h]

theorem execBindHoldDrop_lineTold : LineTold (hostLine (resState s (execBindHoldDrop s))) := by
  simp [execBindHoldDrop, resState_next, resState_ite, h]

theorem execBindFault_lineTold : LineTold (hostLine (resState s (execBindFault s))) := by
  simp [execBindFault, resState_next, resState_ite, h]

theorem execEstablished_lineTold : LineTold (hostLine (resState s (execEstablished s))) := by
  simp [execEstablished, resState_next, resState_ite, h]

theorem execLinkStartTimeout_lineTold : LineTold (hostLine (resState s (execLinkStartTimeout s))) := by
  unfold execLinkStartTimeout
  repeat' split
  all_goals simp [resState_next, h]

theorem execJoinSnapshotDone_lineTold (snap : Snap) : LineTold (hostLine (resState s (execJoinSnapshotDone snap s))) := by
  simp [execJoinSnapshotDone, resState_next, resState_ite, h]

theorem execJoinCatchupDone_lineTold : LineTold (hostLine (resState s (execJoinCatchupDone s))) := by
  simp [execJoinCatchupDone, resState_next, resState_ite, h]

theorem execJoinFailed_lineTold (full : Bool) : LineTold (hostLine (resState s (execJoinFailed full s))) := by
  simp [execJoinFailed, resState_next, resState_ite, h]

theorem execJoinRetry_lineTold : LineTold (hostLine (resState s (execJoinRetry s))) := by
  simp [execJoinRetry, resState_next, resState_ite, h]

theorem execMigrateWarmDone_lineTold : LineTold (hostLine (resState s (execMigrateWarmDone s))) := by
  simp [execMigrateWarmDone, resState_next, resState_ite, h]

theorem execAgreementDueMissing_lineTold (item : Nat) : LineTold (hostLine (resState s (execAgreementDueMissing item s))) := by
  simp [execAgreementDueMissing, resState_next, resState_ite, h]

theorem execVerdictComplete_lineTold (pass : Bool) : LineTold (hostLine (resState s (execVerdictComplete pass s))) := by
  simp [execVerdictComplete, resState_next, resState_ite, h]

theorem execProvisionalTimeout_lineTold : LineTold (hostLine (resState s (execProvisionalTimeout s))) := by
  unfold execProvisionalTimeout
  repeat' split
  all_goals simp [resState_next, resState_ite, h]

theorem execHandoverWave_lineTold : LineTold (hostLine (resState s (execHandoverWave s))) := by
  simp [execHandoverWave, resState_next, resState_ite, h]

theorem execPairDrill_lineTold (r : Req) (dwell : Nat) : LineTold (hostLine (resState s (execPairDrill r dwell s))) := by
  unfold execPairDrill
  rw [resState_next]
  exact serve_told h (by simp)

theorem execDrillDwellEnd_lineTold : LineTold (hostLine (resState s (execDrillDwellEnd s))) := by
  simp [execDrillDwellEnd, resState_next, resState_ite, h]

theorem execDrillDue_lineTold : LineTold (hostLine (resState s (execDrillDue s))) := by
  simp [execDrillDue, resState_next, resState_ite, h]

theorem execPairRelease_lineTold (r : Req) (action : Nat) : LineTold (hostLine (resState s (execPairRelease r action s))) := by
  unfold execPairRelease
  rw [resState_next]
  refine serve_told h ?_
  repeat' split
  all_goals simp

theorem execInjArm_lineTold (r : Req) (body : List Byte) : LineTold (hostLine (resState s (execInjArm r body s))) := by
  unfold execInjArm
  rw [resState_next]
  refine serve_told h ?_
  dsimp only
  repeat' split
  all_goals simp

theorem execInjClear_lineTold (r : Req) (det : Nat) : LineTold (hostLine (resState s (execInjClear r det s))) := by
  unfold execInjClear
  rw [resState_next]
  exact serve_told h (by simp)

theorem execInjDurationEnd_lineTold (slot : Nat) : LineTold (hostLine (resState s (execInjDurationEnd slot s))) := by
  unfold execInjDurationEnd
  repeat' split
  all_goals simp [resState_next, h]

theorem execInjPeriodStart_lineTold (slot : Nat) : LineTold (hostLine (resState s (execInjPeriodStart slot s))) := by
  unfold execInjPeriodStart
  repeat' split
  all_goals simp [resState_next, h]

theorem execAccSnap_lineTold (r : Req) (kind mask : Nat) : LineTold (hostLine (resState s (execAccSnap r kind mask s))) := by
  unfold execAccSnap
  rw [resState_next]
  refine serveAs_told h ?_
  simp [h]

theorem execHeadboxWaveRelease_lineTold (raw : List RawSample) (full : Bool) (sat : BitVec 32) :
    LineTold (hostLine (resState s (execHeadboxWaveRelease raw full sat s))) := by
  simp [execHeadboxWaveRelease, resState_next, resState_ite, h]

theorem execHealthRead_lineTold (r : Req) (selector : Nat) :
    LineTold (hostLine (resState s (execHealthRead r selector s))) := by
  unfold execHealthRead
  rw [resState_next]
  exact serve_told h (by simp)

theorem execMonitorSample_lineTold (flash mram : Nat) (spareLow : Bool) :
    LineTold (hostLine (resState s (execMonitorSample flash mram spareLow s))) := by
  simp [execMonitorSample, resState_next, resState_ite, h]

theorem execMonitorLimitCrossed_lineTold (monitor : Nat) (value : Int) :
    LineTold (hostLine (resState s (execMonitorLimitCrossed monitor value s))) := by
  unfold execMonitorLimitCrossed
  repeat' split
  all_goals simp [resState_next, h]

theorem execDetectorHoldExpiry_lineTold (det : Nat) : LineTold (hostLine (resState s (execDetectorHoldExpiry det s))) := by
  simp [execDetectorHoldExpiry, resState_next, h]

theorem execDieTempHigh_lineTold (temp : Int) : LineTold (hostLine (resState s (execDieTempHigh temp s))) := by
  simp [execDieTempHigh, resState_next, resState_ite, h]

theorem execDieTempNormal_lineTold (temp : Int) : LineTold (hostLine (resState s (execDieTempNormal temp s))) := by
  simp [execDieTempNormal, resState_next, resState_ite, h]

theorem execMgmtWatchdog_lineTold (core : Nat) : LineTold (hostLine (resState s (execMgmtWatchdog core s))) := by
  simp [execMgmtWatchdog, resState_next, resState_ite, h]

theorem execMgmtRestartDone_lineTold : LineTold (hostLine (resState s (execMgmtRestartDone s))) := by
  unfold execMgmtRestartDone
  split <;> simp [resState_next, h]

theorem execEccSram_lineTold (place core lo hi : Nat) : LineTold (hostLine (resState s (execEccSram place core lo hi s))) := by
  unfold execEccSram
  repeat' split
  all_goals simp [resState_next, execOpRetire_lineTold, h]

theorem execEccMram_lineTold (region copies : Nat) : LineTold (hostLine (resState s (execEccMram region copies s))) := by
  unfold execEccMram
  repeat' split
  all_goals simp [resState_next, h]

theorem execFlashErr_lineTold : LineTold (hostLine (resState s (execFlashErr s))) := by
  simp [execFlashErr, resState_next, resState_ite, h]

theorem execLeEnd_lineTold : LineTold (hostLine (resState s (execLeEnd s))) := by
  simp [execLeEnd, resState_next, h]

theorem execLeStep_lineTold (r : Req) (option : Nat) : LineTold (hostLine (resState s (execLeStep r option s))) := by
  unfold execLeStep
  rw [resState_next]
  exact serve_told h (by simp)

end

end Sys2Proof.Machine
end

section
/-! PROOFS. HIRQ_N is low exactly while a packet is pending for an HPI session (R582, R592, R601): every row of the table keeps
it so, and so does a tick of the empty queue. -/

namespace Sys2Proof.Machine
open Sys2Proof

/-- The logic engine's instructions reach the host by their requests alone. -/
theorem runInstr_lineTold {s : State} (h : LineTold (hostLine s)) (op sp a : Nat) :
    LineTold (hostLine (runInstr op sp a (instrFn op) s)) :=
  (runInstr_hostLine op sp a (instrFn op) s (instrFn_hostLine op)).symm ▸ h

/-- Every command keeps the line told, one row of the table after the other. -/
theorem exec_lineTold (i : Instr) {s : State} (h : LineTold (hostLine s)) : LineTold (hostLine (resState s (exec i s))) :=
  match i with
  | .vmainGood => execVmainGood_lineTold h
  | .firmwareStart => execFirmwareStart_lineTold h
  | .selftestComplete _ _ _ _ _ _ => execSelftestComplete_lineTold h ..
  | .imageSelect => execImageSelect_lineTold h
  | .configurationComplete => execConfigurationComplete_lineTold h
  | .logicStart => execLogicStart_lineTold h
  | .fwBChecked => execFwBChecked_lineTold h
  | .storeCharged => execStoreCharged_lineTold h
  | .holdupMeasureDone _ _ _ => execHoldupMeasureDone_lineTold h ..
  | .storeChargeTimeout => execStoreChargeTimeout_lineTold h
  | .storeVoltageLow _ => execStoreVoltageLow_lineTold h ..
  | .vmainLow _ => execVmainLow_lineTold h ..
  | .pfailNLow => execPfailNLow_lineTold h
  | .pfailRecovered _ => execPfailRecovered_lineTold h ..
  | .holdUpStage => execHoldUpStage_lineTold h
  | .flushStepComplete => execFlushStepComplete_lineTold h
  | .storeCutoff _ _ => execStoreCutoff_lineTold h ..
  | .resetNLow => execResetNLow_lineTold h
  | .jtagReset => execJtagReset_lineTold h
  | .resetFlushTimeout => execResetFlushTimeout_lineTold h
  | .resetNRelease => execResetNRelease_lineTold h
  | .sessionOpen _ _ _ _ _ => execSessionOpen_lineTold h ..
  | .sessionClose _ => execSessionClose_lineTold h ..
  | .regRead _ _ _ => execRegRead_lineTold h ..
  | .regWrite _ _ _ => execRegWrite_lineTold h ..
  | .regModify _ _ _ _ => execRegModify_lineTold h ..
  | .imgBegin _ _ => execImgBegin_lineTold h ..
  | .imgData _ _ _ => execImgData_lineTold h ..
  | .imgCommit _ => execImgCommit_lineTold h ..
  | .imgActivate _ _ => execImgActivate_lineTold h ..
  | .activationBoundary => execActivationBoundary_lineTold h
  | .activationConfirmTimeout => execActivationConfirmTimeout_lineTold h
  | .structuralConfigDone => execStructuralConfigDone_lineTold h
  | .schUserCommitDone _ => execSchUserCommitDone_lineTold h ..
  | .imgStatus _ => execImgStatus_lineTold h ..
  | .groupSelect _ _ => execGroupSelect_lineTold h ..
  | .fwBegin _ _ _ => execFwBegin_lineTold h ..
  | .fwData _ _ _ => execFwData_lineTold h ..
  | .fwCommit _ => execFwCommit_lineTold h ..
  | .rollbackRaise => execRollbackRaise_lineTold h
  | .leMode _ _ => execLeMode_lineTold h ..
  | .leColdExecute => execLeColdExecute_lineTold h
  | .leStep _ _ => execLeStep_lineTold h ..
  | .leBreakSet _ _ => execLeBreakSet_lineTold h ..
  | .breakpoint => execBreakpoint_lineTold h
  | .holdTimeout => execHoldTimeout_lineTold h
  | .leChange _ _ _ _ => execLeChange_lineTold h ..
  | .leChangeover => execLeChangeover_lineTold h
  | .leChangeRefused => execLeChangeRefused_lineTold h
  | .forceSet _ _ _ => execForceSet_lineTold h ..
  | .forceClear _ _ => execForceClear_lineTold h ..
  | .forceList _ _ => execForceList_lineTold h ..
  | .accSnap _ _ _ => execAccSnap_lineTold h ..
  | .upcUrgent _ _ _ _ _ _ => execUpcUrgent_lineTold h ..
  | .jobSubmit _ _ _ => execJobSubmit_lineTold h ..
  | .tbRead _ _ => execTbRead_lineTold h ..
  | .tbSetInc _ _ _ => execTbSetInc_lineTold h ..
  | .tbSlew _ _ _ _ => execTbSlew_lineTold h ..
  | .tbStep _ _ _ _ => execTbStep_lineTold h ..
  | .tbServoKick _ => execTbServoKick_lineTold h ..
  | .tbCapture _ => execTbCapture_lineTold h ..
  | .tbStepGo _ => execTbStepGo_lineTold h ..
  | .tbSlewCountWrite _ _ _ => execTbSlewCountWrite_lineTold h ..
  | .tbIncHiWrite _ _ _ _ => execTbIncHiWrite_lineTold h ..
  | .kickExpiredClear _ => execKickExpiredClear_lineTold h ..
  | .servoKickExpiry => execServoKickExpiry_lineTold h
  | .slewEnd _ => execSlewEnd_lineTold h ..
  | .servoPeriod _ _ => execServoPeriod_lineTold h ..
  | .inc0Learn => execInc0Learn_lineTold h
  | .ptpMessageRx _ _ _ _ _ _ _ _ _ => execPtpMessageRx_lineTold h ..
  | .ptpMessageTx _ _ _ => execPtpMessageTx_lineTold h ..
  | .ppsInEdge _ _ => execPpsInEdge_lineTold h ..
  | .irigInFrame _ _ _ _ => execIrigInFrame_lineTold h ..
  | .ptpSyncMissing _ => execPtpSyncMissing_lineTold h ..
  | .announceReceiptTimeout _ => execAnnounceReceiptTimeout_lineTold h ..
  | .ppsEdgeMissing => execPpsEdgeMissing_lineTold h
  | .irigFrameMissing => execIrigFrameMissing_lineTold h
  | .timeClass _ => execTimeClass_lineTold h ..
  | .glideToFree _ => execGlideToFree_lineTold h ..
  | .utcOffsetChange => execUtcOffsetChange_lineTold h
  | .refInLost => execRefInLost_lineTold h
  | .refInRestored => execRefInRestored_lineTold h
  | .gridRephase => execGridRephase_lineTold h
  | .gridAligned => execGridAligned_lineTold h
  | .td2Servo _ _ _ => execTd2Servo_lineTold h ..
  | .launchArm _ _ _ => execLaunchArm_lineTold h ..
  | .launchCancel _ _ => execLaunchCancel_lineTold h ..
  | .launchFire => execLaunchFire_lineTold h
  | .headboxWaveRelease _ _ _ => execHeadboxWaveRelease_lineTold h ..
  | .provisionalTimeout => execProvisionalTimeout_lineTold h
  | .rotationStepStart => execRotationStepStart_lineTold h
  | .rotationCalEnd _ _ _ => execRotationCalEnd_lineTold h ..
  | .rotationDecision _ _ => execRotationDecision_lineTold h ..
  | .referenceCheckDone _ => execReferenceCheckDone_lineTold h ..
  | .spareConnectDone => execSpareConnectDone_lineTold h
  | .svFrameRx _ => execSvFrameRx_lineTold h ..
  | .twArrival _ _ _ _ _ _ _ => execTwArrival_lineTold h ..
  | .twRearm _ => execTwRearm_lineTold h ..
  | .twLeadWindowClose _ => execTwLeadWindowClose_lineTold h ..
  | .twSupervisionEnd _ _ _ => execTwSupervisionEnd_lineTold h ..
  | .twBurstClose _ => execTwBurstClose_lineTold h ..
  | .twNoiseFloor _ => execTwNoiseFloor_lineTold h ..
  | .twNoiseCleared _ => execTwNoiseCleared_lineTold h ..
  | .twLocationDone _ => execTwLocationDone_lineTold h ..
  | .twExchangeSend => execTwExchangeSend_lineTold h
  | .twMsgRx _ => execTwMsgRx_lineTold h ..
  | .twMsgExpiry => execTwMsgExpiry_lineTold h
  | .twVmeasArm _ _ => execTwVmeasArm_lineTold h ..
  | .twVmeasTimeout => execTwVmeasTimeout_lineTold h
  | .descriptorEntry => execDescriptorEntry_lineTold h
  | .opRetire _ _ _ _ _ => execOpRetire_lineTold h ..
  | .opCycleLimit _ => execOpCycleLimit_lineTold h ..
  | .p1Deadline => execP1Deadline_lineTold h
  | .p0Deadline => execP0Deadline_lineTold h
  | .p2Late => execP2Late_lineTold h
  | .overrunQuiet => execOverrunQuiet_lineTold h
  | .delayEntryFire => execDelayEntryFire_lineTold h
  | .jobStart => execJobStart_lineTold h
  | .freqTrackHoldExpiry _ => execFreqTrackHoldExpiry_lineTold h ..
  | .pmuTurnOff _ _ => execPmuTurnOff_lineTold h ..
  | .pmuTurnOn _ _ => execPmuTurnOn_lineTold h ..
  | .pmuSendHdr _ _ _ => execPmuSendHdr_lineTold h ..
  | .pmuSendCfg _ _ _ _ => execPmuSendCfg_lineTold h ..
  | .cyclicTaskRelease _ => execCyclicTaskRelease_lineTold h ..
  | .logicCycleReady => execLogicCycleReady_lineTold h
  | .eventTaskTrigger => execEventTaskTrigger_lineTold h
  | .leWatchdog => execLeWatchdog_lineTold h
  | .retainWrite => execRetainWrite_lineTold h
  | .leLd sp addr => runInstr_lineTold h 0x01 sp addr
  | .leLdn sp addr => runInstr_lineTold h 0x02 sp addr
  | .leAnd sp addr => runInstr_lineTold h 0x03 sp addr
  | .leAndn sp addr => runInstr_lineTold h 0x04 sp addr
  | .leOr sp addr => runInstr_lineTold h 0x05 sp addr
  | .leOrn sp addr => runInstr_lineTold h 0x06 sp addr
  | .leXor sp addr => runInstr_lineTold h 0x07 sp addr
  | .leXorn sp addr => runInstr_lineTold h 0x08 sp addr
  | .leNot => runInstr_lineTold h 0x09 0 0
  | .leSetr => runInstr_lineTold h 0x0A 0 0
  | .leClrr => runInstr_lineTold h 0x0B 0 0
  | .leAndOpen => runInstr_lineTold h 0x10 0 0
  | .leAndnOpen => runInstr_lineTold h 0x11 0 0
  | .leOrOpen => runInstr_lineTold h 0x12 0 0
  | .leOrnOpen => runInstr_lineTold h 0x13 0 0
  | .leXorOpen => runInstr_lineTold h 0x14 0 0
  | .leBracketClose => runInstr_lineTold h 0x15 0 0
  | .leFp sp addr => runInstr_lineTold h 0x18 sp addr
  | .leFn sp addr => runInstr_lineTold h 0x19 sp addr
  | .leSt sp addr => runInstr_lineTold h 0x20 sp addr
  | .leStn sp addr => runInstr_lineTold h 0x21 sp addr
  | .leSet sp addr => runInstr_lineTold h 0x22 sp addr
  | .leRst sp addr => runInstr_lineTold h 0x23 sp addr
  | .leTon sp addr => runInstr_lineTold h 0x28 sp addr
  | .leTof sp addr => runInstr_lineTold h 0x29 sp addr
  | .leTp sp addr => runInstr_lineTold h 0x2A sp addr
  | .leTrst sp addr => runInstr_lineTold h 0x2B sp addr
  | .leTpv sp addr => runInstr_lineTold h 0x2C sp addr
  | .leCtu sp addr => runInstr_lineTold h 0x30 sp addr
  | .leCtd sp addr => runInstr_lineTold h 0x31 sp addr
  | .leCrst sp addr => runInstr_lineTold h 0x32 sp addr
  | .leCld sp addr => runInstr_lineTold h 0x33 sp addr
  | .leCpv sp addr => runInstr_lineTold h 0x34 sp addr
  | .leLw sp addr => runInstr_lineTold h 0x40 sp addr
  | .leSw sp addr => runInstr_lineTold h 0x41 sp addr
  | .leSwc sp addr => runInstr_lineTold h 0x42 sp addr
  | .leLdh sp addr => runInstr_lineTold h 0x44 sp addr
  | .leAdd sp addr => runInstr_lineTold h 0x48 sp addr
  | .leSub sp addr => runInstr_lineTold h 0x49 sp addr
  | .leMul sp addr => runInstr_lineTold h 0x4A sp addr
  | .leDiv sp addr => runInstr_lineTold h 0x4B sp addr
  | .leMod sp addr => runInstr_lineTold h 0x4C sp addr
  | .leNeg => runInstr_lineTold h 0x4D 0 0
  | .leAbs => runInstr_lineTold h 0x4E 0 0
  | .leWand sp addr => runInstr_lineTold h 0x50 sp addr
  | .leWor sp addr => runInstr_lineTold h 0x51 sp addr
  | .leWxor sp addr => runInstr_lineTold h 0x52 sp addr
  | .leWnot => runInstr_lineTold h 0x53 0 0
  | .leShl sp addr => runInstr_lineTold h 0x54 sp addr
  | .leShr sp addr => runInstr_lineTold h 0x55 sp addr
  | .leSar sp addr => runInstr_lineTold h 0x56 sp addr
  | .leCeq sp addr => runInstr_lineTold h 0x58 sp addr
  | .leCne sp addr => runInstr_lineTold h 0x59 sp addr
  | .leClt sp addr => runInstr_lineTold h 0x5A sp addr
  | .leCle sp addr => runInstr_lineTold h 0x5B sp addr
  | .leCgt sp addr => runInstr_lineTold h 0x5C sp addr
  | .leCge sp addr => runInstr_lineTold h 0x5D sp addr
  | .leFadd sp addr => runInstr_lineTold h 0x60 sp addr
  | .leFsub sp addr => runInstr_lineTold h 0x61 sp addr
  | .leFmul sp addr => runInstr_lineTold h 0x62 sp addr
  | .leFdiv sp addr => runInstr_lineTold h 0x63 sp addr
  | .leFlt => runInstr_lineTold h 0x64 0 0
  | .leFix => runInstr_lineTold h 0x65 0 0
  | .leFclt sp addr => runInstr_lineTold h 0x68 sp addr
  | .leFcgt sp addr => runInstr_lineTold h 0x69 sp addr
  | .leFceq sp addr => runInstr_lineTold h 0x6A sp addr
  | .leJmp addr => runInstr_lineTold h 0x70 0 addr
  | .leJc addr => runInstr_lineTold h 0x71 0 addr
  | .leJnc addr => runInstr_lineTold h 0x72 0 addr
  | .leCall addr => runInstr_lineTold h 0x73 0 addr
  | .leRet => runInstr_lineTold h 0x74 0 0
  | .leEnd => execLeEnd_lineTold h
  | .leNop => runInstr_lineTold h 0x76 0 0
  | .leEvt sp addr => runInstr_lineTold h 0x78 sp addr
  | .leLarm sp addr => runInstr_lineTold h 0x79 sp addr
  | .leLcan => runInstr_lineTold h 0x7A 0 0
  | .lePeekSelWrite _ _ => execLePeekSelWrite_lineTold h ..
  | .brkHitClear _ => execBrkHitClear_lineTold h ..
  | .gsNodeSelWrite _ _ => execGsNodeSelWrite_lineTold h ..
  | .fieldFrameStart => execFieldFrameStart_lineTold h
  | .fieldUpstreamRx _ _ _ _ _ _ _ _ => execFieldUpstreamRx_lineTold h ..
  | .diChatterCleared _ => execDiChatterCleared_lineTold h ..
  | .diMaxOn _ => execDiMaxOn_lineTold h ..
  | .fieldUpstreamMissing => execFieldUpstreamMissing_lineTold h
  | .fieldSelftestTimeout => execFieldSelftestTimeout_lineTold h
  | .fieldDownstreamRx => execFieldDownstreamRx_lineTold h
  | .fieldDownstreamMissing => execFieldDownstreamMissing_lineTold h
  | .doLaunchSwitch _ => execDoLaunchSwitch_lineTold h ..
  | .fioDoOverload _ => execFioDoOverload_lineTold h ..
  | .fioDoOvertemp _ => execFioDoOvertemp_lineTold h ..
  | .doThermalRetry _ => execDoThermalRetry_lineTold h ..
  | .fioDoOpenWire _ => execFioDoOpenWire_lineTold h ..
  | .fioDoExtVoltage _ => execFioDoExtVoltage_lineTold h ..
  | .fioDiOpenWire _ => execFioDiOpenWire_lineTold h ..
  | .fioDiOverload _ => execFioDiOverload_lineTold h ..
  | .fioDiOvertemp _ => execFioDiOvertemp_lineTold h ..
  | .fioDiagCleared _ _ => execFioDiagCleared_lineTold h ..
  | .fioSupplyLow _ _ => execFioSupplyLow_lineTold h ..
  | .fioSupplyRestored _ _ => execFioSupplyRestored_lineTold h ..
  | .processFrameStart _ => execProcessFrameStart_lineTold h ..
  | .processUpstreamRx _ _ _ _ _ _ => execProcessUpstreamRx_lineTold h ..
  | .processUpstreamMissing => execProcessUpstreamMissing_lineTold h
  | .processSideSafe => execProcessSideSafe_lineTold h
  | .conversionComplete _ _ => execConversionComplete_lineTold h ..
  | .seqPassStart => execSeqPassStart_lineTold h
  | .readbackVerification _ => execReadbackVerification_lineTold h ..
  | .upcReadbackMismatch _ => execUpcReadbackMismatch_lineTold h ..
  | .readbackMismatchClear _ => execReadbackMismatchClear_lineTold h ..
  | .outputStartupTest _ _ _ => execOutputStartupTest_lineTold h ..
  | .upcCompliance _ => execUpcCompliance_lineTold h ..
  | .upcOpenLoop _ => execUpcOpenLoop_lineTold h ..
  | .upcSignalRange _ => execUpcSignalRange_lineTold h ..
  | .tcTest _ _ => execTcTest_lineTold h ..
  | .upcDiagCleared _ _ => execUpcDiagCleared_lineTold h ..
  | .upcChModeWrite _ _ _ => execUpcChModeWrite_lineTold h ..
  | .rioUpstreamRx _ _ _ _ _ _ _ _ _ => execRioUpstreamRx_lineTold h ..
  | .rioDownstreamSend => execRioDownstreamSend_lineTold h
  | .duciaRingCycle => execDuciaRingCycle_lineTold h
  | .duciaRingFrameRx _ _ _ => execDuciaRingFrameRx_lineTold h ..
  | .drArm _ _ => execDrArm_lineTold h ..
  | .drTrigger _ _ => execDrTrigger_lineTold h ..
  | .drUnitFiredClear _ _ => execDrUnitFiredClear_lineTold h ..
  | .recordOpen => execRecordOpen_lineTold h
  | .recordEnd => execRecordEnd_lineTold h
  | .holdOffExpiry => execHoldOffExpiry_lineTold h
  | .rateStepUp _ _ => execRateStepUp_lineTold h ..
  | .rateStepDown _ _ => execRateStepDown_lineTold h ..
  | .ringFull _ => execRingFull_lineTold h ..
  | .reelDrainDone _ _ _ => execReelDrainDone_lineTold h ..
  | .drList _ _ _ => execDrList_lineTold h ..
  | .drRead _ _ _ _ => execDrRead_lineTold h ..
  | .drExport _ _ _ _ _ _ _ => execDrExport_lineTold h ..
  | .eventEntry => execEventEntry_lineTold h
  | .rateRefill _ => execRateRefill_lineTold h ..
  | .suppressedSummary60s _ => execSuppressedSummary60s_lineTold h ..
  | .commitPeriod => execCommitPeriod_lineTold h
  | .commitStart => execCommitStart_lineTold h
  | .pageCommitComplete => execPageCommitComplete_lineTold h
  | .evrRead _ _ _ _ => execEvrRead_lineTold h ..
  | .evrFreeze _ => execEvrFreeze_lineTold h ..
  | .evrThaw _ => execEvrThaw_lineTold h ..
  | .freezeTimeout => execFreezeTimeout_lineTold h
  | .risiaHelloRx _ _ _ _ _ _ => execRisiaHelloRx_lineTold h ..
  | .risiaHeartbeatRx _ _ _ _ _ _ _ => execRisiaHeartbeatRx_lineTold h ..
  | .risiaAgreeRx _ _ _ _ _ _ => execRisiaAgreeRx_lineTold h ..
  | .risiaDescRx _ _ => execRisiaDescRx_lineTold h ..
  | .risiaDigestRx _ _ _ => execRisiaDigestRx_lineTold h ..
  | .risiaControlRx _ _ => execRisiaControlRx_lineTold h ..
  | .risiaBulkRx _ _ _ _ _ => execRisiaBulkRx_lineTold h ..
  | .risiaTimeRx _ _ => execRisiaTimeRx_lineTold h ..
  | .pairHeartbeatTx => execPairHeartbeatTx_lineTold h
  | .plkLaneDown _ => execPlkLaneDown_lineTold h ..
  | .hbInPulse _ => execHbInPulse_lineTold h ..
  | .hbWireSilent => execHbWireSilent_lineTold h
  | .bindInChange _ => execBindInChange_lineTold h ..
  | .bindHoldDrop => execBindHoldDrop_lineTold h
  | .bindFault => execBindFault_lineTold h
  | .established => execEstablished_lineTold h
  | .linkStartTimeout => execLinkStartTimeout_lineTold h
  | .joinSnapshotDone _ => execJoinSnapshotDone_lineTold h ..
  | .joinCatchupDone => execJoinCatchupDone_lineTold h
  | .joinFailed _ => execJoinFailed_lineTold h ..
  | .joinRetry => execJoinRetry_lineTold h
  | .agreementDueMissing _ => execAgreementDueMissing_lineTold h ..
  | .verdictComplete _ => execVerdictComplete_lineTold h ..
  | .handoverWave => execHandoverWave_lineTold h
  | .pairDrill _ _ => execPairDrill_lineTold h ..
  | .drillDwellEnd => execDrillDwellEnd_lineTold h
  | .drillDue => execDrillDue_lineTold h
  | .pairRelease _ _ => execPairRelease_lineTold h ..
  | .migrateWarmDone => execMigrateWarmDone_lineTold h
  | .gooseFrameRx _ => execGooseFrameRx_lineTold h ..
  | .gooseSubLost _ => execGooseSubLost_lineTold h ..
  | .gooseRetransmit _ => execGooseRetransmit_lineTold h ..
  | .prpSupervisionTx => execPrpSupervisionTx_lineTold h
  | .prpDupAgeout => execPrpDupAgeout_lineTold h
  | .netFrameRx _ => execNetFrameRx_lineTold h ..
  | .arpRx _ _ _ _ => execArpRx_lineTold h ..
  | .arpRefresh => execArpRefresh_lineTold h
  | .icmpEcho _ _ => execIcmpEcho_lineTold h ..
  | .tlsRecordRx _ _ _ => execTlsRecordRx_lineTold h ..
  | .linkLoss _ => execLinkLoss_lineTold h ..
  | .laneNoFrame _ => execLaneNoFrame_lineTold h ..
  | .ringOpen _ => execRingOpen_lineTold h ..
  | .netLaneRestored _ => execNetLaneRestored_lineTold h ..
  | .hpiWriteTransfer _ => execHpiWriteTransfer_lineTold h ..
  | .hpiReadTransfer _ => execHpiReadTransfer_lineTold h ..
  | .uartFrameRx _ => execUartFrameRx_lineTold h ..
  | .uartFrameTimeout => execUartFrameTimeout_lineTold h
  | .diagStream _ _ _ => execDiagStream_lineTold h ..
  | .diagData _ => execDiagData_lineTold h ..
  | .loadWindow _ => execLoadWindow_lineTold h ..
  | .mgmtWatchdog _ => execMgmtWatchdog_lineTold h ..
  | .mgmtRestartDone => execMgmtRestartDone_lineTold h
  | .attest _ _ => execAttest_lineTold h ..
  | .keyInstall _ _ => execKeyInstall_lineTold h ..
  | .keyList _ => execKeyList_lineTold h ..
  | .authLockoutExpiry _ => execAuthLockoutExpiry_lineTold h ..
  | .sessionIdleTimeout _ => execSessionIdleTimeout_lineTold h ..
  | .healthRead _ _ => execHealthRead_lineTold h ..
  | .injArm _ _ => execInjArm_lineTold h ..
  | .injClear _ _ => execInjClear_lineTold h ..
  | .injDurationEnd _ => execInjDurationEnd_lineTold h ..
  | .injPeriodStart _ => execInjPeriodStart_lineTold h ..
  | .detectorHoldExpiry _ => execDetectorHoldExpiry_lineTold h ..
  | .monitorSample _ _ _ => execMonitorSample_lineTold h ..
  | .dieTempHigh _ => execDieTempHigh_lineTold h ..
  | .eccSram _ _ _ _ => execEccSram_lineTold h ..
  | .eccMram _ _ => execEccMram_lineTold h ..
  | .flashErr => execFlashErr_lineTold h
  | .upcSelftestTimeout => execUpcSelftestTimeout_lineTold h
  | .highRateBlock _ _ _ _ => execHighRateBlock_lineTold h ..
  | .ppsOutRise => execPpsOutRise_lineTold h
  | .ppsOutFall => execPpsOutFall_lineTold h
  | .sampleLoopUnlock => execSampleLoopUnlock_lineTold h
  | .tlsConnectionEnd _ => execTlsConnectionEnd_lineTold h ..
  | .monitorLimitCrossed _ _ => execMonitorLimitCrossed_lineTold h ..
  | .dieTempNormal _ => execDieTempNormal_lineTold h ..
  | .vmainLowCleared => execVmainLowCleared_lineTold h
  | .portLinkUp _ _ => execPortLinkUp_lineTold h ..

theorem idle_lineTold {s : State} (h : LineTold (hostLine s)) : LineTold (hostLine (idle s)) := by
  simp [idle, h]

/-- After reset no packet is pending and the line is not driven. -/
theorem reset_lineTold : LineTold (hostLine State.reset) := ⟨rfl⟩

/-- Settles O54: a tick of an empty queue leaves the line alone; a command's row answers a next state (`exec_completes`) with
the line told (`exec_lineTold`). -/
theorem hirqIsLowWhilePacketsWait : Obligations.HirqIsLowWhilePacketsWait := by
  refine ⟨(hirqTold_iff _).mpr reset_lineTold, fun s told => ?_⟩
  rw [hirqTold_iff] at told
  cases h : s.pending with
  | nil => exact ⟨idle s, step_of_nil s h, (hirqTold_iff _).mpr (idle_lineTold told)⟩
  | cons c q =>
    rw [step_of_cons s c q h]
    exact ⟨_, completes_resState { s with pending := q } _ (exec_completes c _),
      (hirqTold_iff _).mpr (exec_lineTold c (s := { s with pending := q }) told)⟩

end Sys2Proof.Machine
end
